-- ==== Sys2Proof/Word.lean ====
section
/-!
DEFINITION. The word types of the block and the plainest arithmetic on them: 32-bit register words (R10), bytes, and the
saturating and wrapping counts of R9 and R145. Numbers the spec treats as counts, times or codes are Nat or Int.
-/

namespace Sys2Proof

/-- A register word (R10: 32 bits). -/
abbrev Word := BitVec 32

/-- A byte of DRAM, QDR, a message or a frame. -/
abbrev Byte := BitVec 8

/-- Two's complement reading of the low `w` bits of `n` (R9). -/
def signed (w n : Nat) : Int :=
  if n % 2 ^ w < 2 ^ (w - 1) then (n % 2 ^ w : Nat) else ((n % 2 ^ w : Nat) : Int) - (2 ^ w : Nat)

/-- Two's complement code of `i` in `w` bits (R9). -/
def unsigned (w : Nat) (i : Int) : Nat := (i % (2 ^ w : Nat)).toNat

/-- `i` saturated to the signed range of `w` bits. -/
def satSigned (w : Nat) (i : Int) : Int :=
  if i < -((2 ^ (w - 1) : Nat) : Int) then -((2 ^ (w - 1) : Nat) : Int)
  else if (2 ^ (w - 1) : Nat) ≤ i then ((2 ^ (w - 1) : Nat) : Int) - 1 else i

/-- The smallest number of units of `d` that cover `n`. -/
def ceilDiv (n d : Nat) : Nat := (n + d - 1) / d

/-- `n / d` to the nearest whole number, halves up. -/
def roundDiv (n d : Nat) : Nat := (2 * n + d) / (2 * d)

/-- Bit `k` of `n`. -/
def bitOf (n k : Nat) : Bool := n / 2 ^ k % 2 == 1

/-- `n` with bit `k` set to `v`. -/
def setBitOf (n k : Nat) (v : Bool) : Nat :=
  if bitOf n k == v then n else if v then n + 2 ^ k else n - 2 ^ k

/-- The little-endian bytes of `n`, `k` of them. -/
def leBytes : Nat → Nat → List Byte
  | 0, _ => []
  | k + 1, n => BitVec.ofNat 8 n :: leBytes k (n / 256)

/-- The number whose little-endian bytes are `bs`. -/
def leNat : List Byte → Nat
  | [] => 0
  | b :: bs => b.toNat + 256 * leNat bs

/-- The number of bits set among the low `k` bits of `n`. -/
def popCount : Nat → Nat → Nat
  | 0, _ => 0
  | k + 1, n => n % 2 + popCount k (n / 2)

/-- One step of CRC-32C, one bit (reflected polynomial 0x82F63B78). -/
def crcBit (c : Nat) : Nat := if c % 2 = 1 then Nat.xor (c / 2) 0x82F63B78 else c / 2

/-- CRC-32C over a list of bytes, from the running remainder `c`. -/
def crcRun : List Byte → Nat → Nat
  | [], c => c
  | b :: bs, c =>
    crcRun bs (crcBit (crcBit (crcBit (crcBit (crcBit (crcBit (crcBit (crcBit (Nat.xor c b.toNat)))))))))

/-- CRC-32C of a list of bytes (initial value and final exclusive-or 0xFFFF_FFFF). -/
def crc32c (bs : List Byte) : Nat := Nat.xor (crcRun bs 0xFFFFFFFF) 0xFFFFFFFF

end Sys2Proof
end

