-- ==== Sys2Proof/Types.lean ====
section
/-!
DEFINITION. What the operands of the commands are made of: access paths, messages with their typed payloads (R79 to R84,
R96, R189, R250, R406, R462, R471), frames on the ports, bit-streams and their sections (R105 to R109), update images, and
the items of the output trace.
-/

namespace Sys2Proof

/-- The four access paths (R70). -/
inductive Path where
  | i3c | lysrov | udp | firmware
  deriving DecidableEq, Repr

/-- The index of a path's copy of a per-path register. -/
def Path.index : Path → Nat
  | .i3c => 0 | .lysrov => 1 | .udp => 2 | .firmware => 3

/-- An IPv4 or IPv6 address with a UDP port (R88, R108). -/
structure UdpAddr where
  v6 : Bool
  ip : Nat
  port : Nat
  deriving DecidableEq, Repr

/-- How a message arrived or leaves: on Lysrov port 0 or 1, in a UDP datagram on a port from or to an address, or
inside the module. -/
inductive Via where
  | lnk (port : Nat)
  | udp (eth : Nat) (peer : UdpAddr)
  | loopback
  deriving DecidableEq, Repr

/-- FRAME_PLAN (R189). -/
structure FramePlan where
  wfn : Nat
  fsNs : Nat
  fsFrac : Nat
  modeEpoch : Nat
  epoch : Nat
  rolling : Bool
  locked : Bool
  slew : Bool
  runOn : Bool
  deriving DecidableEq, Repr

/-- FRAME_HEADER (R251); `txns` are the valid ones of TXN0 to TXN3. -/
structure FrameHeader where
  wfn : Nat
  epoch : Nat
  modeEpoch : Nat
  wallScale : Nat
  slotMask : Nat
  headNode : Nat
  split : Bool
  rolling : Bool
  first : Bool
  splitSlot : Nat
  txns : List Nat
  firstWfn : Nat
  deriving DecidableEq, Repr

/-- SPORE (R255); `txns` pairs a TXN with its state. -/
structure Spore where
  wfn : Nat
  epoch : Nat
  modeEpoch : Nat
  stage : Nat
  role : Nat
  slot : Nat
  serial : Nat
  incarn : Nat
  ePred : Nat
  bands : Nat
  flags : Nat
  tMax : Nat
  lastCode : Nat
  sinceReset : Nat
  txns : List (Nat × Nat)
  deriving DecidableEq, Repr

/-- One entry of the head's transaction table (R266): TXN, state (1 armed, 2 installed), flags, target. -/
structure TxnEntry where
  txn : Nat
  state : Nat
  flags : Nat
  target : Nat
  deriving DecidableEq, Repr

/-- HEAD_STATE (R266). -/
structure HeadState where
  wfn : Nat
  epoch : Nat
  digest : Nat
  slotMask : Nat
  wallScale : Nat
  splitSlot : Nat
  split : Bool
  txns : List TxnEntry
  idSlot : Nat
  idIncarn : Nat
  idSerial : Nat
  deriving DecidableEq, Repr

/-- HEAD_ALIVE (R258). -/
structure HeadAlive where
  epoch : Nat
  takeover : Bool
  delegate : Bool
  split : Bool
  senderSlot : Nat
  splitSlot : Nat
  firstWfn : Nat
  deriving DecidableEq, Repr

/-- CHAIN_ENERGY (R406). -/
structure ChainEnergy where
  wfn : Nat
  epoch : Nat
  chainId : Nat
  shared : Bool
  rolling : Bool
  chainScale : Nat
  usedScale : Nat
  standin : Nat
  bind : Nat
  eChain : Nat
  deriving DecidableEq, Repr

/-- The payload of a message, by what its type carries. -/
inductive Body where
  | raw (bytes : List Byte)
  | regAccess (count failIndex status : Nat) (ops : List (Nat × Nat))
  | notify (pend : Nat)
  | fetch (addr len index : Nat)
  | data (addr len index : Nat) (bytes : List Byte)
  | framePlan (p : FramePlan)
  | spore (p : Spore)
  | frameHeader (p : FrameHeader)
  | headState (p : HeadState)
  | headAlive (p : HeadAlive)
  | demote (epoch activeNode incarn : Nat)
  | brk (node slot port : Nat) (up : Bool) (wfn : Nat)
  | txn (txn : Nat) (pr catchup : Bool) (status target : Nat)
  | handover (epoch wfn : Nat)
  | chainEnergy (p : ChainEnergy)
  | updBlock (offset len status imageId : Nat) (bytes : List Byte)
  | hello (nonce version : Nat)
  | accept (nonceI nonceR session version : Nat)
  deriving DecidableEq, Repr

/-- A message: the fields of the 16-byte header of R79 and the payload. -/
structure Msg where
  type : Nat
  response : Bool
  error : Bool
  auth : Bool
  length : Nat
  dest : Nat
  src : Nat
  seq : Nat
  body : Body
  deriving DecidableEq, Repr

/-- A message as it reaches the module: how, whether its tag is the one R81 gives it under the session it arrived by, and how many
bytes were received; `msg` is what its ciphertext decrypts to. -/
structure Rx where
  via : Via
  tagOk : Bool
  received : Nat
  msg : Msg
  deriving DecidableEq, Repr

/-- The valid flag and value pairs of a 4-byte TXN list entry. -/
def txnWords (l : List Nat) : List Byte :=
  ((l.map (fun t => leBytes 4 (t + 2 ^ 31))) ++ List.replicate 4 (leBytes 4 0)).take 4 |>.flatten

/-- Flag bits as a number, lowest first. -/
def flagBits : List Bool → Nat
  | [] => 0
  | b :: r => (if b then 1 else 0) + 2 * flagBits r

/-- The payload bytes, in the layout of each type's table. -/
def Body.bytes : Body → List Byte
  | .raw bs => bs
  | .regAccess c f st ops =>
    leBytes 1 c ++ leBytes 1 f ++ leBytes 1 st ++ leBytes 1 0 ++ (ops.map (fun o => leBytes 4 o.1 ++ leBytes 4 o.2)).flatten
  | .notify p => leBytes 8 p
  | .fetch a n i => leBytes 8 a ++ leBytes 4 n ++ leBytes 4 i
  | .data a n i bs => leBytes 8 a ++ leBytes 4 n ++ leBytes 4 i ++ bs
  | .framePlan p =>
    leBytes 8 p.wfn ++ leBytes 8 p.fsNs ++ leBytes 2 p.fsFrac ++ leBytes 2 p.modeEpoch ++ leBytes 4 p.epoch
      ++ leBytes 4 (flagBits [p.rolling, p.locked, p.slew, p.runOn])
  | .spore p =>
    leBytes 8 p.wfn ++ leBytes 4 p.epoch ++ leBytes 2 p.modeEpoch ++ leBytes 1 (p.stage + 16 * p.role)
      ++ leBytes 1 p.slot ++ leBytes 8 p.serial ++ leBytes 4 p.incarn ++ leBytes 4 p.ePred ++ leBytes 8 p.bands
      ++ leBytes 2 p.flags ++ leBytes 2 p.tMax ++ leBytes 2 p.lastCode ++ leBytes 2 p.sinceReset
      ++ (((p.txns.map (fun t => leBytes 4 (t.1 + 2 ^ 16 * t.2))) ++ List.replicate 4 (leBytes 4 0)).take 4).flatten
  | .frameHeader p =>
    leBytes 8 p.wfn ++ leBytes 4 p.epoch ++ leBytes 2 p.modeEpoch ++ leBytes 2 p.wallScale ++ leBytes 8 p.slotMask
      ++ leBytes 4 p.headNode ++ leBytes 1 (flagBits [p.split, p.rolling, p.first]) ++ leBytes 1 p.splitSlot
      ++ leBytes 2 0 ++ txnWords p.txns ++ leBytes 8 p.firstWfn ++ leBytes 8 0
  | .headState p =>
    leBytes 8 p.wfn ++ leBytes 4 p.epoch ++ leBytes 4 p.digest ++ leBytes 8 p.slotMask ++ leBytes 2 p.wallScale
      ++ leBytes 1 p.splitSlot ++ leBytes 1 (flagBits [p.split]) ++ leBytes 4 0
      ++ (((p.txns.map (fun t => leBytes 2 t.txn ++ leBytes 1 t.state ++ leBytes 1 t.flags ++ leBytes 4 t.target))
            ++ List.replicate 8 (leBytes 8 0)).take 8).flatten
      ++ leBytes 1 p.idSlot ++ leBytes 3 0 ++ leBytes 4 p.idIncarn ++ leBytes 8 p.idSerial
  | .headAlive p =>
    leBytes 4 p.epoch ++ leBytes 1 (flagBits [p.takeover, p.delegate, p.split]) ++ leBytes 1 p.senderSlot
      ++ leBytes 1 p.splitSlot ++ leBytes 1 0 ++ leBytes 8 p.firstWfn
  | .demote e n i => leBytes 4 e ++ leBytes 4 n ++ leBytes 4 i ++ leBytes 4 0
  | .brk n s p u w => leBytes 4 n ++ leBytes 1 s ++ leBytes 1 p ++ leBytes 1 (flagBits [u]) ++ leBytes 1 0 ++ leBytes 8 w
  | .txn t pr cu st tg => leBytes 2 t ++ leBytes 1 (flagBits [pr, cu]) ++ leBytes 1 st ++ leBytes 8 tg ++ leBytes 4 0
  | .handover e w => leBytes 4 e ++ leBytes 8 w ++ leBytes 4 0
  | .chainEnergy p =>
    leBytes 8 p.wfn ++ leBytes 4 p.epoch ++ leBytes 1 p.chainId ++ leBytes 1 (flagBits [p.shared, p.rolling])
      ++ leBytes 2 p.chainScale ++ leBytes 2 p.usedScale ++ leBytes 1 p.standin ++ leBytes 1 p.bind
      ++ leBytes 4 p.eChain ++ leBytes 8 0
  | .updBlock o n st id bs =>
    leBytes 4 o ++ leBytes 2 n ++ leBytes 1 st ++ leBytes 1 0 ++ leBytes 8 id ++ bs
  | .hello n v => leBytes 16 n ++ leBytes 4 v ++ leBytes 12 0
  | .accept a r s v => leBytes 16 a ++ leBytes 16 r ++ leBytes 4 s ++ leBytes 4 v ++ leBytes 8 0

/-- The header bytes of a message (R79). -/
def Msg.headerBytes (m : Msg) : List Byte :=
  leBytes 1 m.type ++ leBytes 1 (flagBits [m.response, m.error, m.auth]) ++ leBytes 2 m.length ++ leBytes 4 m.dest
    ++ leBytes 4 m.src ++ leBytes 4 m.seq

/-- A message as it is stored in a ring slot: header and payload, the tag removed (R90). -/
def Msg.slotBytes (m : Msg) : List Byte := m.headerBytes ++ m.body.bytes

/-- TOPOLOGY (R108 layout); `zeros` says that every field the layout marks 0 is 0. -/
structure Topology where
  node : Nat
  source1 : Bool
  chainBase : Nat
  chainId : Nat
  duty : Nat
  chainPort : Nat
  slots : Nat
  slotNode : List Nat
  udp : List (Nat × Nat × UdpAddr)
  udpCount : Nat
  length : Nat
  zeros : Bool
  deriving DecidableEq, Repr

/-- A record of a KEYS body (R470): 1 the chain key, 2 the wall key. -/
structure KeyRec where
  kind : Nat
  version : Nat
  key : List Byte
  deriving DecidableEq, Repr

/-- What a section of a bit-stream holds. A SIGNATURE's `ok` says that the signature verifies under its
PUBKEY `pub` (R452). -/
inductive Content where
  | role (code : Nat)
  | topology (t : Topology)
  | firmware (code : List Byte)
  | registers (entries : List (Nat × Word))
  | table (dram : Bool) (offset : Nat) (bytes : List Byte)
  | engine (id : Nat) (code : List Byte)
  | signature (slot : Nat) (pub : List Byte) (ok : Bool)
  | other (type : Nat)
  deriving DecidableEq, Repr

/-- A directory entry, the bytes it names, and what they hold (R105, R106). -/
structure Section where
  inst : Nat
  offset : Nat
  length : Nat
  check : Nat
  bytes : List Byte
  content : Content
  deriving DecidableEq, Repr

/-- A bit-stream: its bytes, and whether its SIGNATURE verifies under the PUBKEY it holds (R105, R452). -/
structure Image where
  bytes : List Byte
  sigOk : Bool
  deriving DecidableEq, Repr

/-- What a register write that gives a command needs from outside: whether the signature verifies of the partial that CHECK reads
(R127, R452) or of the header that IMPORT reads (R458), and what its body names (R459), whether the standby head is
SYNCED (R268), and the read-back of R473. -/
structure Ext where
  sigOk : Bool
  root : Option (Nat × List Byte)
  synced : Bool
  clean : Bool
  deriving DecidableEq, Repr

/-- A Lysrov training block as received (R340): `inverted` tells markers 0x81, 0x7E under header 0b01. -/
structure TrainBlock where
  inverted : Bool
  crcOk : Bool
  lane : Nat
  phase : Nat
  count : Nat
  txReq : Option Nat
  txAck : Nat
  eye : Nat
  seq : Nat
  deriving DecidableEq, Repr

/-- The content of a PTP message (R167): times in 1/40 ns with the correction field applied, intervals in ns. -/
inductive PtpKind where
  | announce (rank : List Nat) (gm gmClass interval : Nat)
  | sync (seq : Nat) (twoStep : Bool) (t1 : Int) (interval : Nat)
  | followUp (seq : Nat) (t1 : Int)
  | delayResp (seq : Nat) (t4 : Int) (mine : Bool)
  deriving DecidableEq, Repr

/-- A PTP message as received: port, domain, transport (R202), sender, and STC at its receipt in 1/40 ns. -/
structure PtpMsg where
  port : Nat
  domain : Nat
  transport : Nat
  src : Nat
  rx : Nat
  kind : PtpKind
  deriving DecidableEq, Repr

/-- A link time message (R169): Sync with the sender's STC, a delay request, or its answer with the receive time and its own;
times in 1/40 ns. -/
inductive LinkTime where
  | sync (t1 : Int)
  | request (seq : Nat)
  | answer (seq : Nat) (t2 t3 : Int)
  deriving DecidableEq, Repr

/-- A frond (R245): its header's fields, its pixels row by row (16 rows of `w`), whether its CRC is correct, and whether
its reserved bits are 0. -/
structure Frond where
  slot : Nat
  band : Nat
  w : Nat
  wfn : Nat
  epoch : Nat
  modeEpoch : Nat
  scale : Nat
  chainId : Nat
  sender : Nat
  pixels : List (BitVec 48)
  crcOk : Bool
  zeros : Bool
  deriving DecidableEq, Repr

/-- A frond whose cells `bad` (cell 0 holds the start word) have been replaced by zeros: its pixels' bytes there are 0 (R237). -/
def Frond.zeroed (f : Frond) (bad : List Nat) : Frond :=
  let byte (k j : Nat) (p : BitVec 48) : Nat := if bad.contains ((32 + 6 * k + j) / 64) then 0 else p.toNat / 2 ^ (8 * j) % 256 * 2 ^ (8 * j)
  if bad.isEmpty then f
  else { f with pixels := f.pixels.mapIdx (fun k p => BitVec.ofNat 48 (((List.range 6).map (fun j => byte k j p)).sum)) }

/-- What arrives on channel V of a Lysrov port (R237, R238): a FROND or a BULK frame; or cells that are discarded: V cells that
begin no frame, or cells of no channel outside a V frame. -/
inductive VFrame where
  | frond (f : Frond)
  | bulk (m : Msg)
  | stray (cells : Nat)
  deriving DecidableEq, Repr

/-- A Delay_Req (R167): for a domain, to its group or to the master's own address. -/
structure DelayReq where
  domain : Nat
  unicast : Bool
  deriving DecidableEq, Repr

/-- A LINK_ID frame (R241): `slot` 0xFF if not known; `tag` none for the zero tag, else whether it verifies. -/
structure LinkId where
  node : Nat
  serial : Nat
  chainId : Nat
  slot : Nat
  port : Nat
  duty : Nat
  epoch : Nat
  nonce : Nat
  incarn : Nat
  tag : Option Bool
  deriving DecidableEq, Repr

/-- A report of a COLLECT (R310): POS, RFLAGS, HEADROOM, TEMP, the three masks (bit ch is channel ch), and its CRC. -/
structure Report where
  pos : Nat
  flags : Nat
  headroom : Nat
  temp : Nat
  meas : Nat
  opens : Nat
  shorts : Nat
  crcOk : Bool
  deriving DecidableEq, Repr

/-- A packet on a string's CLW_OUT (R309, R310); `codes` are the load shares' codes, driver by driver, `probes` the lamp
indices of the control shares' probe masks, and `reset` a wire reset (R307). -/
inductive ClwPacket where
  | reset
  | enum
  | load (wfn : Nat) (codes : List Nat)
  | control (wfn drivers diag leakCh : Nat) (probes : List Nat)
  | probe (wfn : Nat)
  | start (wfn : Nat) (hold dark : Bool) (sCode fine skip tickInc : Nat)
  | collect (wfn : Nat)
  deriving DecidableEq, Repr

/-- A sample row data segment of an ST 2110-20 packet: source row, first pixel, and the pixels' code values; for 4:2:2 a
pixel is Y and its chroma (Cb at even x, Cr at odd x), else its three components (R148, R158). -/
structure Seg where
  row : Nat
  x : Nat
  pixels : List (List Nat)
  deriving DecidableEq, Repr

/-- The addresses of a UDP datagram as it arrived on port ETH0 or ETH1 (R147). -/
structure Datagram where
  eth : Nat
  v6 : Bool
  dst : Nat
  src : Nat
  port : Nat
  deriving DecidableEq, Repr

/-- An ST 2110-20 packet: payload type, field bit, 32-bit extended sequence number, RTP timestamp, STC of its receive
timestamp, segments, and whether the pixel path had room for it (R147, R149, R151, R164). -/
structure VideoPacket where
  addr : Datagram
  pt : Nat
  field : Bool
  seq : Nat
  ts : Nat
  rx : Nat
  segs : List Seg
  room : Bool
  deriving DecidableEq, Repr

/-- An ST 2110-30 packet: payload type, RTP timestamp, STC of its receive timestamp, payload bytes (R382 to R384). -/
structure AudioPacket where
  addr : Datagram
  pt : Nat
  ts : Nat
  rx : Nat
  payload : List Byte
  deriving DecidableEq, Repr

/-- The client that a received Ethernet frame is handed to (R138). -/
inductive Client where
  | flow | ptp | port | groups | ing | aud | hif | lldp | none
  deriving DecidableEq, Repr

/-- What the module puts out, newest first in the trace: results of reads, bus bytes, messages, frames, pulses. `tagged` is
a frame on an Ethernet port with an 802.1Q tag (R140). -/
inductive Out where
  | read (p : Path) (addr : Nat) (v : Word)
  | i3cWords (ws : List Word)
  | i3cBytes (bs : List Byte)
  | i3cNack
  | ibi (bytes : List Byte)
  | msg (via : Via) (m : Msg) (wire : List Byte)
  | inverted (lane : Nat)
  | syncOut (k : Nat) (level : Bool)
  | resolve (eth ip : Nat)
  | delayReq (eth domain seq transport : Nat) (unicast : Bool)
  | linkTime (port : Nat) (t : LinkTime)
  | linkId (port : Nat) (x : LinkId)
  | frond (port : Nat) (f : Frond)
  | bulk (port : Nat) (m : Msg) (bad : List Nat)
  | clw (string : Nat) (p : ClwPacket)
  | handed (eth : Nat) (c : Client)
  | ethBytes (eth sub : Nat) (bytes : List Byte)
  | member (eth : Nat) (v6 : Bool) (grp : Nat) (src : Option Nat) (join : Bool)
  | monitor (eth : Nat) (v6 : Bool) (grp port pt dscp seq rtp row x : Nat) (pixels : List (List Nat)) (last : Bool)
  | lldp (eth tw : Nat)
  | audio (port frame : Nat) (slots : List (Option Int))
  | tagged (pcp vid : Nat) (o : Out)
  deriving DecidableEq, Repr

end Sys2Proof
end

