-- ==== Sys2Proof/Syntax.lean ====
section
/-!
DEFINITION. The commands: one constructor per row of spec/opcode_table.json, in the table's order, those without
operands last. Each constructor's comment is the row's rule and summary; its operands are what reaches the block from outside with that event.
-/

namespace Sys2Proof

/-- The commands of the block. -/
inductive Instr where
  /-- LOGIC_POWER_ON (R67): The first feed comes into range from OFF and the module powers up its controllers and rails in order. -/
  | logicPowerOn (feed : Nat) (dc : Bool)
  /-- POR_RELEASE (R67): The internal power-on reset is released 10 ms after the logic rails are up, or at the rising edge of RESET_N, and boot starts in stage ROM. -/
  | porRelease (straps : Nat)
  /-- COLD_RESET (R53): RESET_N held low for 1 µs or longer starts a cold reset that lasts while it stays low. -/
  | coldReset (lowNs : Nat)
  /-- WARM_RESET_REQUEST (R493): A write of SYS_RESET_CMD with KEY 0x5752 and WARM = 1 requests a warm reset; other writes are ignored. -/
  | warmResetRequest (p : Path) (v : Word)
  /-- WARM_RESET (R117): A warm reset begins, discards pending stages and partials, resets non-kept fields and reruns boot from stage ROM. -/
  | warmReset (after : Nat)
  /-- WDT_ENABLE (R493): A write of SYS_WDT_CTRL.EN from 0 to 1 restarts the watchdog count from TIMEOUT_MS. -/
  | wdtEnable (p : Path) (v : Word)
  /-- WDT_KICK (R493): A write of 0xA5 to SYS_WDT_KICK restarts the watchdog count. -/
  | wdtKick (p : Path) (v : Word)
  /-- REG_WRITE (R11): A register write to a register without a row of its own acts by the register's access type. -/
  | regWrite (p : Path) (addr size : Nat) (v : Word) (x : Ext)
  /-- RC_READ (R11): A read of an RC field returns its value and clears it in the same access. -/
  | rcRead (p : Path) (addr size : Nat)
  /-- PAIR_LOW_READ (R14): A read of the low word of a 64-bit pair latches the high word for that access path. -/
  | pairLowRead (p : Path) (addr size : Nat)
  /-- I3C_WRITE (R75): I3C command WRITE writes 1 to 16 words at rising addresses. -/
  | i3cWrite (addr : Nat) (bytes : List Byte) (busy : Bool) (x : Ext)
  /-- I3C_WRITE_FIXED (R75): I3C command WRITE_FIXED writes every word to the same address. -/
  | i3cWriteFixed (addr : Nat) (bytes : List Byte) (busy : Bool) (x : Ext)
  /-- I3C_SET_READ (R75): I3C command SET_READ sets the path's read address in rising mode. -/
  | i3cSetRead (addr : Nat) (bytes : List Byte) (busy : Bool) (x : Ext)
  /-- I3C_SET_READ_FIXED (R75): I3C command SET_READ_FIXED sets the path's read address in fixed mode. -/
  | i3cSetReadFixed (addr : Nat) (bytes : List Byte) (busy : Bool) (x : Ext)
  /-- I3C_PRIVATE_READ (R77): A private read returns words from the read address, ending early or underrunning when a word is not ready. -/
  | i3cPrivateRead (addr : Nat) (ready : List Bool) (busy : Bool)
  /-- ENTDAA (R71): CCC ENTDAA assigns a dynamic address by arbitration on the PID. -/
  | entdaa (won : Bool) (da : Nat)
  /-- SETDASA (R71): CCC SETDASA assigns a dynamic address from the static address. -/
  | setdasa (addr da : Nat)
  /-- SETNEWDA (R71): CCC SETNEWDA changes the dynamic address. -/
  | setnewda (addr da : Nat)
  /-- ENEC (R71): CCC ENEC enables in-band interrupts. -/
  | enec (target : Option Nat) (events : Byte)
  /-- DISEC (R71): CCC DISEC disables in-band interrupts. -/
  | disec (target : Option Nat) (events : Byte)
  /-- SETMWL (R72): CCC SETMWL sets the maximum write length, not below 8. -/
  | setmwl (target : Option Nat) (v : Nat)
  /-- SETMRL (R71): CCC SETMRL sets the maximum read length. -/
  | setmrl (target : Option Nat) (v : Nat)
  /-- GETMWL (R71): CCC GETMWL returns the maximum write length. -/
  | getmwl (addr : Nat)
  /-- GETMRL (R71): CCC GETMRL returns the maximum read length. -/
  | getmrl (addr : Nat)
  /-- GETPID (R72): CCC GETPID returns the 48-bit provisional ID. -/
  | getpid (addr : Nat)
  /-- GETBCR (R72): CCC GETBCR returns BCR 0x26. -/
  | getbcr (addr : Nat)
  /-- GETDCR (R72): CCC GETDCR returns DCR 0x00. -/
  | getdcr (addr : Nat)
  /-- GETSTATUS (R71): CCC GETSTATUS returns the target status. -/
  | getstatus (addr : Nat)
  /-- GETMXDS (R71): CCC GETMXDS returns the maximum data speed. -/
  | getmxds (addr : Nat)
  /-- UNSUPPORTED_CCC (R71): Any other CCC is treated as I3C Basic requires for an unsupported CCC. -/
  | unsupportedCcc (target : Option Nat)
  /-- IBI_RAISE (R100): An in-band interrupt carrying HIF_IRQ_PEND is raised at bus-free after a summary bit rises, and retried until accepted. -/
  | ibiRaise (accepted : Bool)
  /-- REG_ACCESS (R85): A REG_ACCESS message executes its operations in order and returns a response. -/
  | regAccess (rx : Rx) (x : Ext)
  /-- MESSAGE_FORWARD (R86): A message not consumed locally is verified, resealed and routed by DEST over Lysrov or UDP, or dropped. -/
  | messageForward (rx : Rx)
  /-- NOTIFY (R80): A received NOTIFY message is queued to the destination's host. -/
  | notifyMsg (rx : Rx)
  /-- APPLICATION_MESSAGE (R90): A received application message is queued in the inbound half of the source's ring. -/
  | applicationMessage (rx : Rx)
  /-- RING_IDLE_RELEASE (R90): A ring idle for IDLE_S seconds with both halves empty returns its pages to the pool. -/
  | ringIdleRelease (n : Nat)
  /-- FETCH (R96): A FETCH is answered with DATA from the export window, or with an error outside it. -/
  | fetchMsg (rx : Rx)
  /-- DATA (R97): A DATA response writes its chunk into DRAM for its bulk channel, or is dropped if unexpected. -/
  | dataMsg (rx : Rx)
  /-- HIF_DMA_START (R97): HIF_DMAn_CMD START checks the destination and begins fetching chunks. -/
  | hifDmaStart (p : Path) (n : Nat) (v : Word)
  /-- HIF_DMA_ABORT (R97): HIF_DMAn_CMD ABORT stops new requests and returns the channel to IDLE. -/
  | hifDmaAbort (p : Path) (n : Nat) (v : Word)
  /-- DMA_CHUNK_TIMEOUT (R97): A chunk unanswered after 10 ms is requested again, and after three retries the channel goes to ERROR. -/
  | dmaChunkTimeout (n chunk : Nat)
  /-- HIF_RX_SEL (R93): A write of HIF_RX_SEL presents the oldest message of the selected ring. -/
  | hifRxSel (p : Path) (v : Word)
  /-- HIF_RX_DATA (R93): A read of HIF_RX_DATA returns the next word of the presented message. -/
  | hifRxData (p : Path)
  /-- HIF_RX_POP (R93): A write of HIF_RX_POP removes the presented message and presents the next. -/
  | hifRxPop (p : Path) (v : Word)
  /-- HIF_TX_DATA (R94): A write of HIF_TX_DATA appends a payload word, or sets OVERSIZE beyond 56 words. -/
  | hifTxData (p : Path) (v : Word)
  /-- HIF_TX_CMD (R94): A write of HIF_TX_CMD routes, numbers and queues the staged message. -/
  | hifTxCmd (p : Path) (v : Word)
  /-- DRAM_TRAINING_COMPLETE (R354): DRAM training ends, passing into stage SLOT or failing into HOLD. -/
  | dramTrainingComplete (attempts : List (List (List (Nat × Nat)))) (after : Nat)
  /-- POST_COMPLETE (R475): The power-on self-test ends, passing into stage MEM or failing into HOLD. -/
  | postComplete (kat : Bool) (fault : Option (Nat × Nat × Nat × Nat)) (hard soft beyond after : Nat)
  /-- SLOT_CHECK_COMPLETE (R111): A boot slot finishes its checks and either passes into LOAD or fails to the next slot. -/
  | slotCheckComplete (after : Nat)
  /-- REFCLK_BOOT_TIMEOUT (R113): REFCLK invalid 5 ms after reset release makes the PLLs lock to the internal oscillator. -/
  | refclkBootTimeout (cause : Nat)
  /-- LOAD_COMPLETE (R115): At the end of LOAD the sections are applied, the boot commit runs and the role takes effect. -/
  | loadComplete (after : Nat)
  /-- COMMIT_NEXT (R121): CFG_COMMIT_CMD NEXT checks and stages the group for the next frame it can reach. -/
  | commitNext (p : Path) (v : Word)
  /-- COMMIT_AT_WFN (R122): CFG_COMMIT_CMD AT_WFN checks and stages the group for a named frame. -/
  | commitAtWfn (p : Path) (v : Word)
  /-- COMMIT_PREPARE (R120): CFG_COMMIT_CMD PREPARE checks the group and keeps an untargeted stage tagged with the TXN. -/
  | commitPrepare (p : Path) (v : Word)
  /-- COMMIT_ARM (R122): CFG_COMMIT_CMD ARM gives a target to every prepared stage tagged with the TXN. -/
  | commitArm (p : Path) (v : Word)
  /-- COMMIT_ABORT (R120): CFG_COMMIT_CMD ABORT discards every stage tagged with the TXN whose close point has not passed. -/
  | commitAbort (p : Path) (v : Word)
  /-- PR_CHECK (R127): CFG_PR_CMD CHECK starts checking the partial bit-stream and loading idle banks. -/
  | prCheck (p : Path) (v : Word) (sigOk : Bool)
  /-- PR_CHECK_DONE (R127): The partial check ends in READY or ERROR. -/
  | prCheckDone (poisoned : Bool) (after : Nat)
  /-- PR_APPLY_NEXT (R129): CFG_PR_CMD APPLY_NEXT binds a READY partial to the next frame. -/
  | prApplyNext (p : Path) (v : Word)
  /-- PR_APPLY_AT (R129): CFG_PR_CMD APPLY_AT binds a READY partial to a named frame. -/
  | prApplyAt (p : Path) (v : Word)
  /-- PR_CANCEL (R129): CFG_PR_CMD CANCEL returns partial reconfiguration to IDLE. -/
  | prCancel (p : Path) (v : Word)
  /-- FRAME_PLAN (R190): A FRAME_PLAN received in FOLLOW is accepted and sets WFN and FS, or counted. -/
  | framePlan (rx : Rx)
  /-- SETTLING_END (R288): COR writes the last code of the frame; E_PRED is fixed, the Spore leaves and STR starts LOAD. -/
  | settlingEnd (after : Nat)
  /-- FRAME_HEADER (R252): A received FRAME_HEADER is accepted and held for its frame, or counted stale. -/
  | frameHeader (rx : Rx)
  /-- START_LAUNCH (R316): STR launches the START packet of frame n with HOLD, DARK, skip count and FINE. -/
  | startLaunch (edge cell : Nat)
  /-- SYNC_IN_EDGE (R198): A rising SYNC_IN edge is timestamped, or rejected if too soon. -/
  | syncInEdge (ts : Nat)
  /-- SYNC_OUT_PULSE (R199): A SYNC_OUT pulse starts at its programmed time and lasts WIDTH. -/
  | syncOutPulse (k : Nat) (ahead : Bool) (j : Nat)
  /-- REFCLK_GLITCH (R174): A REFCLK period outside GLITCH_PS is counted as a glitch. -/
  | refclkGlitch (ps : Nat)
  /-- REFCLK_LOSS (R175): REFCLK is declared lost; XO moves to the internal oscillator and lanes retrain. -/
  | refclkLoss (cause : Nat)
  /-- PTP_MESSAGE (R170): A PTP message on Ethernet updates its domain's measurement and the servo. -/
  | ptpMessage (g : PtpMsg)
  /-- PTP_SOURCE_LOSS (R170): A source with three missed Sync or Announce intervals is lost. -/
  | ptpSourceLoss (d : Nat)
  /-- PTP_DELAY_REQ_SEND (R167): The module sends a Delay_Req to its master. -/
  | ptpDelayReqSend (q : DelayReq)
  /-- LINK_TIME_SEND (R169): A Lysrov port sends a link Sync or delay message, 128 per second. -/
  | linkTimeSend (p : Nat)
  /-- LINK_TIME_MESSAGE (R169): A received link time message updates link delay and chain time. -/
  | linkTimeMessage (p rx : Nat) (t : LinkTime)
  /-- ETH_PORT_ENABLE (R135): ETHn_CTRL.EN going to 1 reads MODE, FEC_EN and AN_EN and restarts the link. -/
  | ethPortEnable (p : Path) (n : Nat) (v : Word)
  /-- ETH_PORT_DISABLE (R135): ETHn_CTRL.EN going to 0 stops transmission and drops queued frames. -/
  | ethPortDisable (p : Path) (n : Nat) (v : Word)
  /-- ETH_LINK_UP (R150): A port's link comes up and ING sends membership reports again. -/
  | ethLinkUp (n k : Nat) (eee : Bool)
  /-- ETH_LINK_DOWN (R165): A port's link goes down while enabled. -/
  | ethLinkDown (n k : Nat) (localFault remoteFault : Bool)
  /-- ETH_FRAME_RECEIVE (R138): An Ethernet frame is checked whole and handed to one client or discarded. -/
  | ethFrameReceive (n sub : Nat) (bytes : List Byte) (fcsOk : Bool) (held corrected uncorrected : Nat)
  /-- PAUSE_FRAME (R141): A PAUSE frame loads the pause timers of responding classes. -/
  | pauseFrame (n sub quanta : Nat)
  /-- PFC_FRAME (R141): A PFC frame loads each named class's pause timer. -/
  | pfcFrame (n sub vector : Nat) (quanta : List Nat)
  /-- PAUSE_TIMER_EXPIRY (R142): A class's pause timer reaches zero and the class may send again. -/
  | pauseTimerExpiry (n sub cls : Nat)
  /-- ETH_FRAME_TRANSMIT (R140): The transmitter starts the next frame of the highest unpaused class. -/
  | ethFrameTransmit (n sub : Nat)
  /-- NEXT_HOP_TIMEOUT (R139): A next hop not resolved within 1 s drops its datagram. -/
  | nextHopTimeout (n : Nat)
  /-- NEXT_HOP_EXPIRY (R139): A resolved next-hop entry expires after 60 s. -/
  | nextHopExpiry (n : Nat)
  /-- LPI_ENTRY (R143): Queues idle for IDLE_US make the transmitter enter LPI. -/
  | lpiEntry (n : Nat)
  /-- LPI_WAKE (R143): A queued frame ends LPI and starts after the transmit wake time. -/
  | lpiWake (n : Nat)
  /-- LLDP_SEND (R143): The port sends an LLDP frame with the EEE TLV every 30 s. -/
  | lldpSend (n : Nat)
  /-- LLDP_RECEIVE (R143): A partner's changed EEE TLV updates the wake time and is answered within 1 s. -/
  | lldpReceive (n tw : Nat)
  /-- IGMP_QUERY (R150): An IGMP or MLD query is answered with membership reports. -/
  | igmpQuery (eth : Nat) (v6 : Bool) (grp : Option Nat)
  /-- STREAM_PACKET (R151): An ST 2110-20 packet is checked, merged by sequence number and written to its surface. -/
  | streamPacket (k : VideoPacket)
  /-- SKEW_WINDOW_EXPIRY (R151): When SKEW_US has passed a gap's missing packets are lost and concealed. -/
  | skewWindowExpiry (n : Nat)
  /-- SOURCE_FRAME_CONCLUDE (R154): A source frame concludes, concealing missing rows and marking its buffer COMPLETE. -/
  | sourceFrameConclude (n : Nat)
  /-- STREAM_PATH_TIMEOUT (R152): A path silent for 2 ms goes down, or both paths go down. -/
  | streamPathTimeout (n e : Nat)
  /-- MONITOR_ENABLE (R162): A write of ING_MON_CTRL.EN starts or stops the monitoring sender. -/
  | monitorEnable (p : Path) (v : Word)
  /-- MONITOR_PACKET_SEND (R162): ING sends the next monitoring stream packet of the write-back surface. -/
  | monitorPacketSend (poisoned : Bool)
  /-- BAND_EMIT (R210): A completed band is cut into fronds per enabled slot and written back. -/
  | bandEmit (missing : List Nat) (behind : Bool)
  /-- LINK_ID_SEND (R235): Each trained port sends a LINK_ID control frame every 100 µs. -/
  | linkIdSend (p : Nat)
  /-- LINK_ID (R235): A received LINK_ID teaches the slot, opens or checks the session and marks the port UP. -/
  | linkId (p : Nat) (x : LinkId)
  /-- LINK_ID_TIMEOUT (R240): A port with no LINK_ID for 500 µs goes down. -/
  | linkIdTimeout (p : Nat)
  /-- LINK_PORT_DOWN (R240): A Lysrov port goes down when its lanes drop, abandoning frames and ending its session. -/
  | linkPortDown (p : Nat)
  /-- LINK_PORT_ENABLE (R278): A write of LNKn_CTRL.EN takes the port's lanes out of or into reset. -/
  | linkPortEnable (path : Path) (p : Nat) (v : Word)
  /-- FROND_RELAY (R248): A V frame not for this slot passes to the other port cut-through with its CRC checked. -/
  | frondRelay (p : Nat) (x : VFrame) (bad : List Nat)
  /-- FROND_RECEIVE (R284): A frond for the module's slot is checked and written into the pixel buffer. -/
  | frondReceive (p : Nat) (f : Frond) (bad : List Nat)
  /-- SPORE (R256): A head accepts a Spore into its Spore table. -/
  | spore (rx : Rx)
  /-- HEAD_ALIVE (R258): A received HEAD_ALIVE applies its epoch and FIRST_WFN. -/
  | headAlive (rx : Rx)
  /-- HEAD_STATE (R266): A standby compares a received HEAD_STATE digest, copies identity records and may become delegate. -/
  | headState (rx : Rx)
  /-- DEMOTE (R264): A received DEMOTE with a higher epoch or identity record demotes the module. -/
  | demote (rx : Rx)
  /-- BREAK (R270): A received BREAK sets or clears the split slot at the active head. -/
  | brk (rx : Rx)
  /-- LNK_CMD_HANDOVER (R268): LNK_CMD.HANDOVER sends HANDOVER to a synced standby. -/
  | lnkCmdHandover (p : Path) (v : Word) (synced : Bool)
  /-- HANDOVER (R268): A standby receiving HANDOVER takes over when its composition of that frame ends. -/
  | handover (rx : Rx)
  /-- TXN_ARM (R274): A received TXN_ARM arms the tagged stages and forwards into the chain. -/
  | txnArm (rx : Rx)
  /-- TXN_ABORT (R275): A received TXN_ABORT discards the tagged stages and forwards into the chain. -/
  | txnAbort (rx : Rx)
  /-- CHAIN_ENERGY (R406): A received CHAIN_ENERGY from a listed peer is accepted for the scale decision. -/
  | chainEnergy (rx : Rx)
  /-- CLW_LOAD_DONE (R305): LOAD ends on a string, and STR decides and sends CONTROL or ENUM. -/
  | clwLoadDone (n : Nat)
  /-- CLW_CONTROL_DONE (R305): CONTROL ends, and PROBE follows once the guard has begun. -/
  | clwControlDone (n : Nat)
  /-- CLW_PROBE_DONE (R305): The probe window passes and COLLECT is sent. -/
  | clwProbeDone (n : Nat)
  /-- COLLECT_RESERVE_END (R305): The length reserved for COLLECT on CLW_OUT ends and ENUM follows. -/
  | collectReserveEnd (n : Nat)
  /-- COLLECT_RETURN (R327): The COLLECT returns with driver reports that update lamp states and the rail setpoint. -/
  | collectReturn (n loop count : Nat) (rs : List Report)
  /-- ENUM_RETURN (R324): A returned ENUM gives the driver count and may complete bring-up. -/
  | enumReturn (n count : Nat)
  /-- ENUM_TIMEOUT (R323): 100 µs without ENUM return moves a string from ENUM to RUN. -/
  | enumTimeout (n : Nat)
  /-- RAIL_RAMP_DONE (R323): A rail within ±2 % of FIXED_MV for 1 ms moves the string to ENUM. -/
  | railRampDone (n mv : Nat)
  /-- STRING_OVERCURRENT (R324): A rail in fold-back for 100 µs sends the string to FAULT. -/
  | stringOvercurrent (n : Nat)
  /-- STRING_RAIL_FAULT (R324): A rail outside ±5 % for 100 µs sends the string to FAULT. -/
  | stringRailFault (n mv : Nat)
  /-- STRING_RETRY_TIMER (R323): RETRY_MS after a fault the string retries or goes to LOCKOUT. -/
  | stringRetryTimer (n : Nat)
  /-- RETRY_COUNT_RESET (R323): After 60 s in RUN a string's retry count returns to 0. -/
  | retryCountReset (n : Nat)
  /-- STR_CMD_RESTART (R332): STR_CMD RESTART queues a string restart for the next frame start. -/
  | strCmdRestart (p : Path) (v : Word)
  /-- STR_CMD_CLEAR_LAMP (R332): STR_CMD CLEAR_LAMP queues clearing one lamp's state word. -/
  | strCmdClearLamp (p : Path) (v : Word)
  /-- STR_CMD_CLEAR_STRING (R332): STR_CMD CLEAR_STRING queues clearing every state word of a string. -/
  | strCmdClearString (p : Path) (v : Word)
  /-- COR_LOAD_START (R300): COR_LOAD_CMD START begins copying a table into the unselected bank, or is refused. -/
  | corLoadStart (p : Path) (v : Word)
  /-- COR_LOAD_ABORT (R300): COR_LOAD_CMD ABORT stops a busy load and leaves the bank not VALID. -/
  | corLoadAbort (p : Path) (v : Word)
  /-- COR_LOAD_DONE (R300): A load finishes its copy and check, making the bank VALID or ending in ERROR. -/
  | corLoadDone (poisoned : Bool)
  /-- TRAINING_BLOCK (R340): A Lysrov training block is received and its fields drive alignment, presets and countdown. -/
  | trainingBlock (k : Nat) (t : TrainBlock)
  /-- LANE_PLL_LOCK (R337): A lane PLL locks and its lanes go to CDR. -/
  | lanePllLock (port : Nat)
  /-- LANE_PLL_UNLOCK (R337): A lane PLL loses lock or changes source and holds its lanes in PLL. -/
  | lanePllUnlock (port : Nat) (source : Bool)
  /-- LANE_CDR_LOCK (R341): Clock is recovered and the lane goes to ALIGN. -/
  | laneCdrLock (k : Nat)
  /-- LANE_ALIGN_DONE (R342): Block lock, lane order and deskew pass, or the attempt fails. -/
  | laneAlignDone (port skew : Nat)
  /-- LANE_EQ_DONE (R344): The preset sweep ends and the lane requests the best preset and enters CHECK. -/
  | laneEqDone (k : Nat) (widths : List (Nat × Nat))
  /-- LANE_CHECK_DONE (R344): The check measurement passes to READY or fails the attempt. -/
  | laneCheckDone (k n : Nat)
  /-- LANE_COUNTDOWN_DONE (R344): Countdown 0 is sent and received and the lanes enter UP. -/
  | laneCountdownDone (port : Nat)
  /-- TRAIN_TIMEOUT (R342): An attempt not UP within TIMEOUT_MS fails. -/
  | trainTimeout (port : Nat)
  /-- TRAIN_RETRY (R342): 1 ms after a failed attempt the lanes enter CDR again. -/
  | trainRetry (port : Nat)
  /-- CDR_LOSS (R345): Loss of clock recovery returns the port to CDR. -/
  | cdrLoss (k : Nat)
  /-- BLOCK_LOSS (R339): 16 bad headers in 64 blocks lose block lock and retrain the port. -/
  | blockLoss (k : Nat)
  /-- EYE_MEASURE_DONE (R346): An eye measurement ends and updates WIDTH. -/
  | eyeMeasureDone (k n : Nat)
  /-- EYE_LOW (R345): Eye below EYE_DOWN for DOWN_MS retrains a Lysrov port. -/
  | eyeLow (k : Nat)
  /-- SRD_RETRAIN (R345): SRD_CMD.RETRAIN retrains the port of each named lane. -/
  | srdRetrain (p : Path) (v : Word)
  /-- TEST_MODE_ENTER (R349): Setting GEN_EN, CHK_EN or LOOP moves the port's lanes to TEST; clearing all returns them to CDR. -/
  | testModeEnter (p : Path) (k : Nat) (v : Word)
  /-- INJECT (R348): SRDk_PAT_CTRL.INJECT inverts one transmitted bit. -/
  | inject (p : Path) (k : Nat)
  /-- WCK_DRIFT_CHECK (R355): Every 100 ms DRM reads the WCK oscillator and shifts lane delays. -/
  | wckDriftCheck (drifts : List Int)
  /-- BANK_REFRESH (R357): DRM issues a per-bank refresh every 244 ns or 122 ns per channel. -/
  | bankRefresh (c : Nat)
  /-- DRAM_TEMP_READ (R357): Every 16 ms DRM reads device temperatures and sets the refresh rate. -/
  | dramTempRead (rs : List (Nat × Bool × Bool))
  /-- DRAM_IDLE_ENTRY (R358): A channel idle for IDLE_NS enters the deepest allowed low-power state. -/
  | dramIdleEntry (c : Nat)
  /-- LATENCY_DECLARATION (R358): A client's tolerance changes and channels whose exit latency is too long exit at once. -/
  | latencyDeclaration (n : Nat)
  /-- DRAM_READ_ERROR (R360): A read with an uncorrectable link error is retried and, on second failure, returned poisoned. -/
  | dramReadError (a : Nat) (corrected retryOk : Bool)
  /-- ODECC_READ (R360): Once a second DRM adds the devices' on-die error counts to ODECC. -/
  | odeccRead (rises : List Nat)
  /-- QDR_SCRUB (R364): The scrubber reads the next QDR word and corrects it if needed. -/
  | qdrScrub (result : Nat)
  /-- QDR_READ_ERROR (R365): An uncorrectable QDR read is handled according to its region. -/
  | qdrReadError (w kind n : Nat)
  /-- REPLAY_COPY_DONE (R367): A replay copy ends, its entry becomes COMPLETE and the source hold is released. -/
  | replayCopyDone (c : Nat) (bad : List Nat)
  /-- AUDIO_PACKET (R384): An ST 2110-30 packet is checked and its frames merged into the playout buffer. -/
  | audioPacket (k : AudioPacket)
  /-- AUDIO_PATH_TIMEOUT (R383): An audio path silent for 2 ms goes down, or the stream is lost. -/
  | audioPathTimeout (a e : Nat)
  /-- AUDIO_BLOCK_BOUNDARY (R380): At each 1 ms block boundary AUD latches port values, starts or restarts ports and writes capture records. -/
  | audioBlockBoundary (failed : List Nat)
  /-- AUDIO_FRAME (R385): At each audio frame AUD fetches a buffered frame and plays slots through their channel states. -/
  | audioFrame (r96 : Bool) (poison : List Nat) (ins : List (Nat × List Nat))
  /-- FEED_IN_RANGE (R392): A feed comes into range and goes to READY, converting if no feed converts. -/
  | feedInRange (x : Nat) (dc : Bool)
  /-- FEED_OUT_OF_RANGE (R392): A feed leaves range; the other feed takes the load or a switch-over starts. -/
  | feedOutOfRange (x cause : Nat)
  /-- FEED_OVERVOLTAGE (R392): Over-voltage opens the feed's input relay. -/
  | feedOvervoltage (x : Nat)
  /-- OVERVOLT_RECOVER (R393): A feed in range for 1 s after over-voltage closes its relay and goes to READY. -/
  | overvoltRecover (x : Nat)
  /-- SWITCHOVER_DONE (R395): The standby carries the whole load and SWITCHING returns to 0. -/
  | switchoverDone (after : Nat)
  /-- PWR_TRANSFER (R396): PWR_CMD.TRANSFER starts a transfer to the feed not converting. -/
  | pwrTransfer (p : Path) (v : Word)
  /-- TRANSFER_DONE (R396): A transfer completes and the other converter stops. -/
  | transferDone (after : Nat)
  /-- FEED_CONTROL_CYCLE (R397): Each 20 µs control cycle updates counters and copies state over the feed link. -/
  | feedControlCycle (energy : List Nat) (feeds : List (Nat × Nat × Nat × Nat)) (link : Bool)
  /-- CAL_CYCLE (R417): CAL_CMD.CYCLE starts a calibration cycle. -/
  | calCycle (p : Path) (v : Word)
  /-- CAL_ABORT (R417): CAL_CMD.ABORT ends the running cycle and abandons a step. -/
  | calAbort (p : Path) (v : Word)
  /-- CAL_SAVE (R423): CAL_CMD.SAVE writes the unused store copy. -/
  | calSave (p : Path) (v : Word)
  /-- CAL_SAVE_DONE (R423): A save finishes its read-back and switches the copy in use or sets SAVE_FAIL. -/
  | calSaveDone (ok : Bool) (after : Nat)
  /-- CAL_REF_SAMPLE (R416): A REF_IN sample is taken in the module window and qualifies the reference. -/
  | calRefSample (uv : Nat)
  /-- CAL_STEP_DONE (R419): A calibration step ends, passing its target or computing a new trim code. -/
  | calStepDone (e : Int) (dur : Nat)
  /-- THM_SAMPLE (R426): Every 100 µs THM samples the 24 sensors and judges them. -/
  | thmSample (ts : List Int)
  /-- PM_REQ_ACTIVE (R437): PM_REQ for ACTIVE leaves DIM at a frame start or is a HOST wake in sleep. -/
  | pmReqActive (p : Path) (atWfn : Bool)
  /-- PM_REQ_DIM (R437): PM_REQ for DIM darkens the lamps from a frame start. -/
  | pmReqDim (p : Path) (atWfn : Bool)
  /-- PM_REQ_BRACKEN (R437): PM_REQ for BRACKEN is checked and scheduled for a frame start. -/
  | pmReqBracken (p : Path) (atWfn : Bool)
  /-- PM_REQ_RETAIN (R437): PM_REQ for RETAIN is checked and scheduled for a frame start. -/
  | pmReqRetain (p : Path) (atWfn : Bool)
  /-- PM_REQ_OFF (R437): PM_REQ for OFF is checked and scheduled for a frame start. -/
  | pmReqOff (p : Path) (atWfn : Bool)
  /-- POWER_ENTRY_DONE (R440): Entry ends with islands powered down and STATE at BRACKEN or RETAIN. -/
  | powerEntryDone (after : Nat)
  /-- BRACKEN_WINDOW (R442): Every PERIOD_MS the sequencer wakes the sampling island and evaluates windowed wake sources. -/
  | brackenWindow (tone0 tone1 sync : Bool)
  /-- WAKE_DONE (R445): The wake order ends and the module rejoins its wall. -/
  | wakeDone (drifts : List Int) (after : Nat)
  /-- UPD_OPEN (R465): UPD_CMD OPEN prepares to receive an image from block 0. -/
  | updOpen (p : Path) (v : Word)
  /-- UPD_CANCEL (R465): UPD_CMD CANCEL discards the image. -/
  | updCancel (p : Path) (v : Word)
  /-- UPD_IMPORT (R463): UPD_CMD IMPORT checks the header of an image in staging and enters VERIFYING. -/
  | updImport (p : Path) (v : Word) (sigOk : Bool) (root : Option (Nat × List Byte))
  /-- UPD_PREPARE (R467): UPD_CMD PREPARE tags a READY image with the path's TXN. -/
  | updPrepare (p : Path) (v : Word)
  /-- UPD_ACTIVATE (R466): UPD_CMD ACTIVATE arms a READY image for the next frame. -/
  | updActivate (p : Path) (v : Word)
  /-- UPD_ACTIVATE_AT (R466): UPD_CMD ACTIVATE_AT arms a READY image for UPD_ACT_WFN. -/
  | updActivateAt (p : Path) (v : Word)
  /-- UPD_CONFIRM (R468): UPD_CMD CONFIRM confirms the trial slot and advances the counter. -/
  | updConfirm (p : Path) (v : Word)
  /-- UPD_REVERT (R468): UPD_CMD REVERT fails the trial slot and restarts the previous slot. -/
  | updRevert (p : Path) (v : Word)
  /-- UPD_BLK_DATA (R462): A write of UPD_BLK_DATA appends a word to the path's block. -/
  | updBlkData (p : Path) (v : Word)
  /-- UPD_BLK_SUBMIT (R461): UPD_BLK_SUBMIT hands the staged block to UPD and returns its result. -/
  | updBlkSubmit (p : Path) (v : Word) (sigOk : Bool) (root : Option (Nat × List Byte))
  /-- UPD_BLOCK (R462): An UPD_BLOCK message delivers one image block and is answered with its result. -/
  | updBlock (rx : Rx) (sigOk : Bool) (root : Option (Nat × List Byte))
  /-- UPD_VERIFY_DONE (R464): Body verification ends, leading to WRITING, READY or REFUSED. -/
  | updVerifyDone (poisoned sigOk pointOk : Bool) (shared : List Byte) (after : Nat)
  /-- UPD_WRITE_DONE (R464): The slot is written and read back, and its entry becomes VALID. -/
  | updWriteDone (ok : Bool) (after : Nat)
  /-- SESSION_HELLO (R471): A received SESSION_HELLO opens a UDP session and is answered with SESSION_ACCEPT. -/
  | sessionHello (rx : Rx)
  /-- SESSION_ACCEPT (R471): A received SESSION_ACCEPT matching the outstanding nonce opens the session. -/
  | sessionAccept (rx : Rx)
  /-- SESSION_HELLO_RETRY (R471): An unanswered HELLO is repeated after 10 ms, and held messages are dropped after three tries. -/
  | sessionHelloRetry (n : Nat)
  /-- BST_SRAM (R477): BST_CMD SRAM tests every on-die SRAM with repair. -/
  | bstSram (p : Path) (v : Word)
  /-- BST_LOGIC (R477): BST_CMD LOGIC clears secrets and runs logic BIST, then warm reset. -/
  | bstLogic (p : Path) (v : Word) (clean : Bool)
  /-- BST_QDR (R477): BST_CMD QDR tests both QDR devices. -/
  | bstQdr (p : Path) (v : Word)
  /-- BST_DRAM (R477): BST_CMD DRAM tests the configured DRAM range. -/
  | bstDram (p : Path) (v : Word)
  /-- BST_TEST_DONE (R478): An on-demand test ends and records its result and first failing location. -/
  | bstTestDone (fault : Option (Nat × Nat × Nat × Nat)) (soft beyond after : Nat)
  /-- FLT_ENTRY_WRITE (R484): FLT programs the next queued entry into flash. -/
  | fltEntryWrite (readBackOk : Bool)
  /-- FLT_CLEAR (R489): FLT_CMD CLEAR with KEY 0xC1EA clears the log once the queue drains. -/
  | fltClear (p : Path) (v : Word)
  /-- FLT_EXPORT (R488): FLT_CMD EXPORT starts copying the log to DRAM. -/
  | fltExport (p : Path) (v : Word)
  /-- FLT_RD_SEQ (R487): A write of FLT_RD_SEQ presents the entry with that SEQ. -/
  | fltRdSeq (p : Path) (v : Word)
  /-- SYNC_OUT_PULSE_END (R199): WIDTH after its start, a SYNC_OUT pulse ends and the output returns to its inactive level. -/
  | syncOutPulseEnd (k : Nat)
  /-- WAKE_TONE_END (R443): 2 × PERIOD_MS + 1 ms after it began, the wake tone stops and the port's lanes enter CDR. -/
  | wakeToneEnd (p : Nat)
  /-- CHECKER_LOCK (R348): The pattern checker sees 1,024 consecutive correct bits, sets CHK_LOCK and starts counting bits and errors. -/
  | checkerLock (k : Nat)
  /-- CHECKER_LOCK_LOSS (R348): The pattern checker sees 512 errors within 2^16 bits, loses lock, clears CHK_LOCK and seeks lock again. -/
  | checkerLockLoss (k errors : Nat)
  /-- DRAM_EXIT_DONE (R358): A DRAM channel finishes its exit from POWER_DOWN, SELF_REFRESH or DEEP, returns to ACTIVE and serves the waiting request. -/
  | dramExitDone (c : Nat) (drift : Int)
  /-- FUSE_BURN_DONE (R466): A root-slot or anti-rollback fuse burn finishes its read-back, returning UPD to IDLE or setting UPD_ERR.FUSE. -/
  | fuseBurnDone (ok : Bool) (after : Nat)
  /-- MESSAGE_RESPONSE (R83): A received response is matched to an outstanding request and queued in the responder's ring, or dropped as duplicate or replay. -/
  | messageResponse (rx : Rx)
  /-- PARTNER_LPI (R143): The partner enters or leaves LPI, and the receiver accepts it and updates ETHn_STATUS.LPI_RX. -/
  | partnerLpi (n : Nat) (enter : Bool)
  /-- LOGIC_RAILS_UP (R67): The logic rails reach regulation; FAST_RC and AON run while the internal power-on reset is held. -/
  | logicRailsUp
  /-- WDT_WARN (R493): The watchdog count passes half of TIMEOUT_MS and sets SYS_IRQ_STATUS.WDT_WARN. -/
  | wdtWarn
  /-- WDT_EXPIRY (R493): The watchdog count reaches 0 and a warm reset begins with cause 0x3. -/
  | wdtExpiry
  /-- RSTDAA (R73): CCC RSTDAA clears the dynamic address so the module answers its static address again. -/
  | rstdaa
  /-- ENTHDR0 (R71): CCC ENTHDR0 enters HDR-DDR mode. -/
  | enthdr0
  /-- NOTIFY_SEND (R101): A NOTIFY message with HIF_IRQ_PEND is sent, no sooner than 1 ms after the previous one. -/
  | notifySend
  /-- LINK_STAGE_ENTRY (R114): Lysrov lanes are trained and the slot is known, so the stage moves from ROLE to LINK. -/
  | linkStageEntry
  /-- FRAME_START (R27): At FS_own(n) the module applies every change bound to frame n in order and starts the frame. -/
  | frameStart
  /-- PLAN_POINT (R182): At the plan point FRM pairs a reference event and fixes FS(n) and all frame-n event times. -/
  | planPoint
  /-- COMMIT_CLOSE_POINT (R121): The close point of frame n passes; later NEXT commits install one frame later. -/
  | commitClosePoint
  /-- FROND_DEADLINE (R288): At the frond deadline SCN closes every open band of the frame and settling begins. -/
  | frondDeadline
  /-- SCALE_DECISION (R407): At the scale decision the head sets the wall scale code from chain scales and RISE. -/
  | scaleDecision
  /-- FRAME_HEADER_SEND (R251): At FS(n) − HDR_LEAD the active head sends FRAME_HEADER. -/
  | frameHeaderSend
  /-- GUARD_START (R186): The guard of the frame begins; THM evaluates throttle and CAL windows open. -/
  | guardStart
  /-- REFCLK_RETURN (R176): REFCLK valid for RETURN_10MS × 10 ms moves the XO back to REFCLK. -/
  | refclkReturn
  /-- DOMAIN_REVERT (R172): After REVERT_S seconds clean, selection moves back to domain A. -/
  | domainRevert
  /-- DOMAIN_DISAGREE (R172): Domains differing by over 1 µs for 10 s set PTP_ERR.DISAGREE. -/
  | domainDisagree
  /-- UNSOLICITED_REPORT (R150): ING sends a repeated unsolicited membership report every UNSOL_100MS × 100 ms. -/
  | unsolicitedReport
  /-- COMPOSITION_BEGIN (R206): Rosette begins composition n + 1 at FS(n) or when composition n ends. -/
  | compositionBegin
  /-- BAND_START (R208): Band r starts once the previous band is emitted and its layer rows are readable. -/
  | bandStart
  /-- BAND_LATEST_START (R208): At LS(r) the band starts without each layer whose rows are still unreadable. -/
  | bandLatestStart
  /-- BAND_DEADLINE_MISS (R227): A band not emitted by D(r) drops the rest of the composition. -/
  | bandDeadlineMiss
  /-- HEAD_ALIVE_SEND (R258): An active or delegate head sends HEAD_ALIVE every ALIVE_10US × 10 µs. -/
  | headAliveSend
  /-- HEAD_LISTEN_TIMEOUT (R257): A starting head that hears no HEAD_ALIVE for its listen time becomes ACTIVE with epoch + 1. -/
  | headListenTimeout
  /-- HEAD_LOSS (R263): A standby with no word from the active head for LOSS_US takes over with epoch + 1. -/
  | headLoss
  /-- CHAIN_POINT (R403): At the chain point the head computes its chain scale and sends CHAIN_ENERGY. -/
  | chainPoint
  /-- REVERT_TIMER (R396): The primary READY for REVERT_S seconds makes PWR transfer back to it. -/
  | revertTimer
  /-- FEED_LINK (R397): No copy for five cycles sets FEED_LINK and each controller acts alone. -/
  | feedLink
  /-- HOLDUP_END (R45): The hold-up ends and outputs switch off in order. -/
  | holdupEnd
  /-- AUX_OVERLOAD (R63): AUX_12V over its limit for 100 µs is switched off. -/
  | auxOverload
  /-- AUX_RETRY (R63): 1 s after switch-off AUX_12V is switched on again. -/
  | auxRetry
  /-- CAL_INTERVAL (R417): INTERVAL_S after the last cycle start a new cycle starts. -/
  | calInterval
  /-- THM_COOL_DONE (R430): THM_COOL reaches 60 s and a restart is scheduled at the next frame start. -/
  | thmCoolDone
  /-- WAKE_TIMER (R442): PM_WAKE_TIMER.S seconds after entry raise a TIMER wake. -/
  | wakeTimer
  /-- WAKE_START (R444): A wake source fires and the wake order begins. -/
  | wakeStart
  /-- AUTO_CONFIRM (R468): CONFIRM_S seconds in RUN confirm the trial slot automatically. -/
  | autoConfirm
  /-- FLT_SCAN_DONE (R486): The fault-log scan ends, logging corrupt entries and the boot cause. -/
  | fltScanDone
  /-- FLT_CLEAR_EFFECT (R489): The new sector header is written and the log is cleared. -/
  | fltClearEffect
  /-- FLT_ERASE_DONE (R489): The void sectors have been erased and CLEARING returns to 0. -/
  | fltEraseDone
  /-- FLT_EXPORT_DONE (R488): The export ends and sets FLT_EXPORT_COUNT. -/
  | fltExportDone
  /-- CAL_WINDOW_OPEN (R418): At guard start + 5 µs the module and string windows open and CAL starts the first due step of the running cycle. -/
  | calWindowOpen
  /-- HDR_EXIT (R71): The controller's HDR exit pattern returns the bus from HDR-DDR to SDR and clears HIF_I3C_STATUS.HDR. -/
  | hdrExit
  deriving DecidableEq, Repr

end Sys2Proof
end

