-- ==== Sys2Proof/Decode.lean ====
section
/-!
DEFINITION. The commands of this block are events and accesses: spec/opcode_table.json gives no row any bits, so no word
spells a command.
-/

namespace Sys2Proof

/-- The command that a word spells: none, since no row has bits. -/
def decodeTableWord (_nbits _w : Nat) : Option Instr := none

end Sys2Proof
end

