-- ==== Sys2Proof/Config.lean ====
section
/-!
DEFINITION. What an implementation fixes and the values the spec leaves open. Each free value is an opaque constant: no
proof can see what it is. The first argument is the running count of free values that the state holds
(`Block.freeCount`), so every use takes a fresh one.
-/

namespace Sys2Proof

/-- A fresh random number: nonces, and the IDs of UDP sessions (free value, log entry 3). -/
opaque Config.freeNumber : Nat → Nat

/-- Where the pixels of a SURFACE layer lie, by its descriptor's address (R212 names the descriptor alone; free value,
log entry 20). -/
opaque Config.surfaceData : Nat → Nat

/-- A value as it is held between two stages of the pixel pipeline, if 18 bits of mantissa do not hold it exactly: the model takes it
into the bound that R214's least precision gives (free value, log entry 4). -/
opaque Config.held : ℚ → ℚ

/-- A component where the peak luminance that a transfer function is scaled by is 0 (R216, R229 state no result; free value, log
entry 4). -/
opaque Config.noWhite : ℚ → ℚ

/-- The shortest transmit wake time of an Ethernet MODE in ns (R143 names the mode's minimum without a number; free value,
log entry 22). -/
opaque Config.lpiWakeMin : Nat → Nat

/-- A fade's product divided by FADE where that is no whole number (R387 states no rounding; free value, log entry 32). -/
opaque Config.fade : Int → Nat → Int

/-- Bank and row of a granule of 256 bytes of DRAM (R356 names pages without their map; free values, log entry 63). -/
opaque Config.dramBank : Nat → Nat
opaque Config.dramRow : Nat → Nat

/-- A measured or computed value that the spec states no number for (free value; each use names its log entry). -/
opaque Config.freeValue : Nat → Nat

end Sys2Proof
end

