-- ==== Sys2Proof/Machine/Cells.lean ====
section
/-!
DEFINITION. Sparse storage in one canonical form, used for DRAM, QDR and the register file: a list of (key, value) pairs,
keys strictly rising, no entry equal to what an unlisted key reads as. A write of that value removes the entry, so equal
contents are equal lists.
-/

namespace Sys2Proof.Machine

/-- The value at key `a`; an unlisted key reads as `d`. -/
def cellsGet {β : Type} (l : List (Nat × β)) (a : Nat) (d : β) : β :=
  match l with
  | [] => d
  | (k, v) :: r => if k = a then v else cellsGet r a d

/-- Insert a pair before the first larger key. -/
def cellsInsert {β : Type} (l : List (Nat × β)) (a : Nat) (v : β) : List (Nat × β) :=
  match l with
  | [] => [(a, v)]
  | (k, w) :: r => if a < k then (a, v) :: (k, w) :: r else (k, w) :: cellsInsert r a v

/-- Remove every entry of key `a`. -/
def cellsErase {β : Type} (l : List (Nat × β)) (a : Nat) : List (Nat × β) :=
  match l with
  | [] => []
  | (k, w) :: r => if k = a then cellsErase r a else (k, w) :: cellsErase r a

/-- Write `v` at key `a`, where an unlisted key reads as `d`. -/
def cellsSet {β : Type} [DecidableEq β] (l : List (Nat × β)) (a : Nat) (v d : β) : List (Nat × β) :=
  if v = d then cellsErase l a else cellsInsert (cellsErase l a) a v

/-- Are the keys strictly rising from above `lo`? -/
def cellsRising {β : Type} (lo : Option Nat) (l : List (Nat × β)) : Bool :=
  match l with
  | [] => true
  | (k, _) :: r => (match lo with | none => true | some b => decide (b < k)) && cellsRising (some k) r

/-- The canonical form: keys strictly rising, no entry equal to its default. -/
def cellsWf {β : Type} [DecidableEq β] (dflt : Nat → β) (l : List (Nat × β)) : Bool :=
  cellsRising none l && l.all (fun c => decide (c.2 ≠ dflt c.1))

end Sys2Proof.Machine
end

