-- ==== Sys2Proof/Machine/Regs.lean ====
section
/-!
DEFINITION. The register addresses (R39, R102, R132, R146, R163, R202, R203, R232, R278, R302, R303, R333, R351,
R372 to R374, R390, R411, R432, R433, R449, R479, R480, R490, R493): one definition per register of the register tables,
its address as a function of its indices, and one per field, its register and its bits. The names are the spec's.
-/

namespace Sys2Proof.Machine

/-- A field: its register's address and its highest and lowest bit. -/
structure Fld where
  addr : Nat
  hi : Nat
  lo : Nat
  deriving DecidableEq, Repr

/-- The same field in the register's active copy (R12): the register's address plus 0x8000. -/
def Fld.act (f : Fld) : Fld := { f with addr := f.addr + 0x8000 }

/-- `SYS_PART_ID`, RO: Part number. -/
def R.SYS_PART_ID : Nat := 0x0
/-- `SYS_REV`, RO: Silicon revision. -/
def R.SYS_REV : Nat := 0x4
/-- `SYS_VARIANT`, RO: Fused variant and grade. -/
def R.SYS_VARIANT : Nat := 0x8
/-- `SYS_ROLE`, RO: Role in effect. -/
def R.SYS_ROLE : Nat := 0xC
/-- `SYS_SERIAL_LO`, RO: Module serial number, bits [31:0]. -/
def R.SYS_SERIAL_LO : Nat := 0x10
/-- `SYS_SERIAL_HI`, RO: Module serial number, bits [63:32]. -/
def R.SYS_SERIAL_HI : Nat := 0x14
/-- `SYS_RESET_CMD`, WO: Warm reset request. -/
def R.SYS_RESET_CMD : Nat := 0x20
/-- `SYS_RESET_CAUSE`, RO: Cause of the last reset. -/
def R.SYS_RESET_CAUSE : Nat := 0x24
/-- `SYS_WDT_CTRL`, RW: Watchdog enable and timeout. -/
def R.SYS_WDT_CTRL : Nat := 0x30
/-- `SYS_WDT_KICK`, WO: Watchdog restart. -/
def R.SYS_WDT_KICK : Nat := 0x34
/-- `SYS_WDT_STATUS`, RO: Time left. -/
def R.SYS_WDT_STATUS : Nat := 0x38
/-- `SYS_IRQ_STATUS`, W1C: Interrupt events. -/
def R.SYS_IRQ_STATUS : Nat := 0x7FF0
/-- `SYS_IRQ_EN`, RW: Enables for SYS_IRQ_STATUS. -/
def R.SYS_IRQ_EN : Nat := 0x7FF4
/-- `HIF_CTRL`, RW: Path enables. -/
def R.HIF_CTRL : Nat := 0x10000
/-- `HIF_NODE_ID`, RO: Node ID from the bit-stream topology section. -/
def R.HIF_NODE_ID : Nat := 0x10004
/-- `HIF_ERR`, W1C: Sticky error flags. -/
def R.HIF_ERR : Nat := 0x10008
/-- `HIF_I3C_STATUS`, RO: Addresses and I3C state. -/
def R.HIF_I3C_STATUS : Nat := 0x1000C
/-- `HIF_I3C_PID_LO`, RO: PID[31:0]. -/
def R.HIF_I3C_PID_LO : Nat := 0x10010
/-- `HIF_I3C_PID_HI`, RO: PID[47:32]. -/
def R.HIF_I3C_PID_HI : Nat := 0x10014
/-- `HIF_UDP_PORT`, RW: UDP port for messages. -/
def R.HIF_UDP_PORT : Nat := 0x10018
/-- `HIF_IRQ_PEND_LO`, RO: Summary, block IDs 0 to 31 and 32 to 63. -/
def R.HIF_IRQ_PEND_LO : Nat := 0x10020
/-- `HIF_IRQ_PEND_HI`, RO: Summary, block IDs 0 to 31 and 32 to 63. -/
def R.HIF_IRQ_PEND_HI : Nat := 0x10024
/-- `HIF_IBI_EN_LO`, RW: Summary bits that raise an IBI. -/
def R.HIF_IBI_EN_LO : Nat := 0x10028
/-- `HIF_IBI_EN_HI`, RW: Summary bits that raise an IBI. -/
def R.HIF_IBI_EN_HI : Nat := 0x1002C
/-- `HIF_ALERT_EN_LO`, RW: Summary bits that drive ALERT_N. -/
def R.HIF_ALERT_EN_LO : Nat := 0x10030
/-- `HIF_ALERT_EN_HI`, RW: Summary bits that drive ALERT_N. -/
def R.HIF_ALERT_EN_HI : Nat := 0x10034
/-- `HIF_NOTIFY_EN_LO`, RW: Summary bits that send NOTIFY. -/
def R.HIF_NOTIFY_EN_LO : Nat := 0x10038
/-- `HIF_NOTIFY_EN_HI`, RW: Summary bits that send NOTIFY. -/
def R.HIF_NOTIFY_EN_HI : Nat := 0x1003C
/-- `HIF_NOTIFY_NODE`, RW: Destination of NOTIFY. -/
def R.HIF_NOTIFY_NODE : Nat := 0x10040
/-- `HIF_RING_CTRL`, RW: Ring depth and idle release. -/
def R.HIF_RING_CTRL : Nat := 0x10050
/-- `HIF_RING_POOL_LO`, RW: Pool base in DRAM. -/
def R.HIF_RING_POOL_LO : Nat := 0x10054
/-- `HIF_RING_POOL_HI`, RW: Pool base in DRAM. -/
def R.HIF_RING_POOL_HI : Nat := 0x10058
/-- `HIF_RING_POOL_SIZE`, RW: Pool size. -/
def R.HIF_RING_POOL_SIZE : Nat := 0x1005C
/-- `HIF_RING_STATUS`, RO: Populated rings. -/
def R.HIF_RING_STATUS : Nat := 0x10060
/-- `HIF_RING_POOL_USED`, RO: Pool pages in use. -/
def R.HIF_RING_POOL_USED : Nat := 0x10064
/-- `HIF_RX_SEL`, RW: Ring presented to this path. -/
def R.HIF_RX_SEL : Nat := 0x10070
/-- `HIF_RX_INFO`, RO: Presented message. -/
def R.HIF_RX_INFO : Nat := 0x10074
/-- `HIF_RX_SRC`, RO: Source of presented message. -/
def R.HIF_RX_SRC : Nat := 0x10078
/-- `HIF_RX_DATA`, RO: Next word of presented message. -/
def R.HIF_RX_DATA : Nat := 0x1007C
/-- `HIF_RX_POP`, WO: Remove presented message. -/
def R.HIF_RX_POP : Nat := 0x10080
/-- `HIF_TX_DATA`, WO: Append payload word. -/
def R.HIF_TX_DATA : Nat := 0x10084
/-- `HIF_TX_CMD`, WO: Route and queue message. -/
def R.HIF_TX_CMD : Nat := 0x10088
/-- `HIF_TX_STATUS`, RO: Outcome of last HIF_TX_CMD. -/
def R.HIF_TX_STATUS : Nat := 0x1008C
/-- `HIF_DROP_DEST`, RO: Drop counters, in this order, 4 bytes apart. -/
def R.HIF_DROP_DEST : Nat := 0x10090
/-- `HIF_DROP_AUTH`, RO: Drop counters, in this order, 4 bytes apart. -/
def R.HIF_DROP_AUTH : Nat := 0x10094
/-- `HIF_DROP_REPLAY`, RO: Drop counters, in this order, 4 bytes apart. -/
def R.HIF_DROP_REPLAY : Nat := 0x10098
/-- `HIF_DROP_FULL`, RO: Drop counters, in this order, 4 bytes apart. -/
def R.HIF_DROP_FULL : Nat := 0x1009C
/-- `HIF_DROP_POOL`, RO: Drop counters, in this order, 4 bytes apart. -/
def R.HIF_DROP_POOL : Nat := 0x100A0
/-- `HIF_DROP_TYPE`, RO: Drop counters, in this order, 4 bytes apart. -/
def R.HIF_DROP_TYPE : Nat := 0x100A4
/-- `HIF_DUP_COUNT`, RO: Drop counters, in this order, 4 bytes apart. -/
def R.HIF_DUP_COUNT : Nat := 0x100A8
/-- `HIF_EXPORT_BASE_LO`, RW: Export window base, bits [39:0]; _HI holds bits [39:32] in [7:0]. -/
def R.HIF_EXPORT_BASE_LO : Nat := 0x100C0
/-- `HIF_EXPORT_BASE_HI`, RW: Export window base, bits [39:0]; _HI holds bits [39:32] in [7:0]. -/
def R.HIF_EXPORT_BASE_HI : Nat := 0x100C4
/-- `HIF_EXPORT_SIZE`, RW: Export window size in bytes; 0 exports nothing. -/
def R.HIF_EXPORT_SIZE : Nat := 0x100C8
/-- `HIF_DMAn_SRC_NODE`, RW: Channel n, n = 0 to 7: source node, [17:0]. -/
def R.HIF_DMAn_SRC_NODE (n : Nat) : Nat := 0x10100 + 0x20 * n
/-- `HIF_DMAn_SRC_LO`, RW: Remote address [31:0]. -/
def R.HIF_DMAn_SRC_LO (n : Nat) : Nat := 0x10104 + 0x20 * n
/-- `HIF_DMAn_SRC_HI`, RW: Remote address [63:32]. -/
def R.HIF_DMAn_SRC_HI (n : Nat) : Nat := 0x10108 + 0x20 * n
/-- `HIF_DMAn_DST_LO`, RW: Local DRAM address [31:0]. -/
def R.HIF_DMAn_DST_LO (n : Nat) : Nat := 0x1010C + 0x20 * n
/-- `HIF_DMAn_DST_HI`, RW: Local DRAM address [39:32] in [7:0]. -/
def R.HIF_DMAn_DST_HI (n : Nat) : Nat := 0x10110 + 0x20 * n
/-- `HIF_DMAn_LEN`, RW: Bytes, a multiple of 4. -/
def R.HIF_DMAn_LEN (n : Nat) : Nat := 0x10114 + 0x20 * n
/-- `HIF_DMAn_CMD`, WO: Start or abort. -/
def R.HIF_DMAn_CMD (n : Nat) : Nat := 0x10118 + 0x20 * n
/-- `HIF_DMAn_STATUS`, RO: Channel state. -/
def R.HIF_DMAn_STATUS (n : Nat) : Nat := 0x1011C + 0x20 * n
/-- `HIF_IRQ_STATUS`, W1C: HIF's own interrupt events. -/
def R.HIF_IRQ_STATUS : Nat := 0x17FF0
/-- `HIF_IRQ_EN`, RW: Enables for HIF_IRQ_STATUS. -/
def R.HIF_IRQ_EN : Nat := 0x17FF4
/-- `CFG_BOOT_STATUS`, RO: Stage, slot, BOOT_SEL. -/
def R.CFG_BOOT_STATUS : Nat := 0x20000
/-- `CFG_BOOT_SLOT_RESULT`, RO: Result per slot. -/
def R.CFG_BOOT_SLOT_RESULT : Nat := 0x20004
/-- `CFG_ERR`, W1C: Sticky error flags. -/
def R.CFG_ERR : Nat := 0x20008
/-- `CFG_BUILD_ID_LO`, RO: BUILD_ID of the full bit-stream running. -/
def R.CFG_BUILD_ID_LO : Nat := 0x20010
/-- `CFG_BUILD_ID_HI`, RO: BUILD_ID of the full bit-stream running. -/
def R.CFG_BUILD_ID_HI : Nat := 0x20014
/-- `CFG_PR_APPLIED`, RO: Partials installed since boot. -/
def R.CFG_PR_APPLIED : Nat := 0x20018
/-- `CFG_LATE_COUNT`, RO: Late commits. -/
def R.CFG_LATE_COUNT : Nat := 0x2001C
/-- `CFG_REJECT_COUNT`, RO: Rejected commits. -/
def R.CFG_REJECT_COUNT : Nat := 0x20020
/-- `CFG_COMMIT_TXN`, RW: Transaction ID, per path. -/
def R.CFG_COMMIT_TXN : Nat := 0x20030
/-- `CFG_COMMIT_TARGET_LO`, RW: Target WFN, per path. -/
def R.CFG_COMMIT_TARGET_LO : Nat := 0x20034
/-- `CFG_COMMIT_TARGET_HI`, RW: Target WFN, per path. -/
def R.CFG_COMMIT_TARGET_HI : Nat := 0x20038
/-- `CFG_COMMIT_CMD`, WO: Group and operation, per path. -/
def R.CFG_COMMIT_CMD : Nat := 0x2003C
/-- `CFG_COMMIT_STATUS`, RO: Result of the last command, per path. -/
def R.CFG_COMMIT_STATUS : Nat := 0x20040
/-- `CFG_COMMIT_WFN_LO`, RO: Frame the last stage installs at, per path; 0 if none. -/
def R.CFG_COMMIT_WFN_LO : Nat := 0x20044
/-- `CFG_COMMIT_WFN_HI`, RO: Frame the last stage installs at, per path; 0 if none. -/
def R.CFG_COMMIT_WFN_HI : Nat := 0x20048
/-- `CFG_PR_SRC_LO`, RW: DRAM address of the partial, bits [39:0]. -/
def R.CFG_PR_SRC_LO : Nat := 0x20080
/-- `CFG_PR_SRC_HI`, RW: DRAM address of the partial, bits [39:0]. -/
def R.CFG_PR_SRC_HI : Nat := 0x20084
/-- `CFG_PR_LEN`, RW: Bytes. -/
def R.CFG_PR_LEN : Nat := 0x20088
/-- `CFG_PR_CMD`, WO: Partial reconfiguration command. -/
def R.CFG_PR_CMD : Nat := 0x2008C
/-- `CFG_PR_TARGET_LO`, RW: Target WFN for APPLY_AT. -/
def R.CFG_PR_TARGET_LO : Nat := 0x20090
/-- `CFG_PR_TARGET_HI`, RW: Target WFN for APPLY_AT. -/
def R.CFG_PR_TARGET_HI : Nat := 0x20094
/-- `CFG_PR_STATUS`, RO: Partial reconfiguration state. -/
def R.CFG_PR_STATUS : Nat := 0x20098
/-- `CFG_GRPg_STATUS`, RO: Group g, g = 0x00 to 0xFF. -/
def R.CFG_GRPg_STATUS (g : Nat) : Nat := 0x21000 + 0x4 * g
/-- `CFG_IRQ_STATUS`, W1C: Interrupt events. -/
def R.CFG_IRQ_STATUS : Nat := 0x27FF0
/-- `CFG_IRQ_EN`, RW: Enables for CFG_IRQ_STATUS. -/
def R.CFG_IRQ_EN : Nat := 0x27FF4
/-- `ETHn_CTRL`, RW: Enable and mode. -/
def R.ETHn_CTRL (n : Nat) : Nat := 0x100000 + 0x10000 * n
/-- `ETHn_STATUS`, RO: Link state. -/
def R.ETHn_STATUS (n : Nat) : Nat := 0x100004 + 0x10000 * n
/-- `ETHn_ERR`, W1C: Sticky errors. -/
def R.ETHn_ERR (n : Nat) : Nat := 0x100008 + 0x10000 * n
/-- `ETHn_MAC_LO`, RW: MAC address. -/
def R.ETHn_MAC_LO (n : Nat) : Nat := 0x100010 + 0x10000 * n
/-- `ETHn_MAC_HI`, RW: MAC address. -/
def R.ETHn_MAC_HI (n : Nat) : Nat := 0x100014 + 0x10000 * n
/-- `ETHn_MAX_FRAME`, RW: Largest frame accepted. -/
def R.ETHn_MAX_FRAME (n : Nat) : Nat := 0x100018 + 0x10000 * n
/-- `ETHn_TX_PCP`, RW: Transmit classes and tag. -/
def R.ETHn_TX_PCP (n : Nat) : Nat := 0x10001C + 0x10000 * n
/-- `ETHn_FC_CTRL`, RW: Flow-control response. -/
def R.ETHn_FC_CTRL (n : Nat) : Nat := 0x100020 + 0x10000 * n
/-- `ETHn_FC_STATUS`, RO: Classes paused now. -/
def R.ETHn_FC_STATUS (n : Nat) : Nat := 0x100024 + 0x10000 * n
/-- `ETHn_EEE`, RW: EEE enable and idle time. -/
def R.ETHn_EEE (n : Nat) : Nat := 0x100030 + 0x10000 * n
/-- `ETHn_EEE_STATUS`, RO: EEE state. -/
def R.ETHn_EEE_STATUS (n : Nat) : Nat := 0x100034 + 0x10000 * n
/-- `ETHn_IP4`, RW: IPv4 address; 0 disables IPv4. -/
def R.ETHn_IP4 (n : Nat) : Nat := 0x100040 + 0x10000 * n
/-- `ETHn_GW4`, RW: IPv4 gateway. -/
def R.ETHn_GW4 (n : Nat) : Nat := 0x100044 + 0x10000 * n
/-- `ETHn_IP_CFG`, RW: Prefix lengths. -/
def R.ETHn_IP_CFG (n : Nat) : Nat := 0x100048 + 0x10000 * n
/-- `ETHn_IP6w`, RW: IPv6 address; all zeros disables IPv6. -/
def R.ETHn_IP6w (n : Nat) (w : Nat) : Nat := 0x100050 + 0x10000 * n + 0x4 * w
/-- `ETHn_GW6w`, RW: IPv6 gateway. -/
def R.ETHn_GW6w (n : Nat) (w : Nat) : Nat := 0x100060 + 0x10000 * n + 0x4 * w
/-- `ETHn_WAKE_CTRL`, RW: Wake matching. -/
def R.ETHn_WAKE_CTRL (n : Nat) : Nat := 0x100070 + 0x10000 * n
/-- `ETHn_WAKEp_DATAw`, RW: Pattern bytes 4w to 4w + 3, byte 4w in [7:0]. -/
def R.ETHn_WAKEp_DATAw (n : Nat) (p : Nat) (w : Nat) : Nat := 0x100100 + 0x10000 * n + 0x100 * p + 0x4 * w
/-- `ETHn_WAKEp_MASKw`, RW: Bit b: mask of byte 32w + b. -/
def R.ETHn_WAKEp_MASKw (n : Nat) (p : Nat) (w : Nat) : Nat := 0x100180 + 0x10000 * n + 0x100 * p + 0x4 * w
/-- `ETHn_CNT_Ti_LO`, RO: Traffic counter i. -/
def R.ETHn_CNT_Ti_LO (n : Nat) (i : Nat) : Nat := 0x100800 + 0x10000 * n + 0x8 * i
/-- `ETHn_CNT_Ti_HI`, RO: Traffic counter i. -/
def R.ETHn_CNT_Ti_HI (n : Nat) (i : Nat) : Nat := 0x100804 + 0x10000 * n + 0x8 * i
/-- `ETHn_CNT_Ei`, RC: Event counter i. -/
def R.ETHn_CNT_Ei (n : Nat) (i : Nat) : Nat := 0x100900 + 0x10000 * n + 0x4 * i
/-- `ETHn_IRQ_STATUS`, W1C: Interrupt events. -/
def R.ETHn_IRQ_STATUS (n : Nat) : Nat := 0x107FF0 + 0x10000 * n
/-- `ETHn_IRQ_EN`, RW: Enables for ETHn_IRQ_STATUS. -/
def R.ETHn_IRQ_EN (n : Nat) : Nat := 0x107FF4 + 0x10000 * n
/-- `ING_STATUS`, RO: Merged pixel rate. -/
def R.ING_STATUS : Nat := 0x120000
/-- `ING_ERR`, W1C: Sticky errors. -/
def R.ING_ERR : Nat := 0x120004
/-- `ING_MCAST_CTRL`, RW: Report repetition. -/
def R.ING_MCAST_CTRL : Nat := 0x120008
/-- `ING_MON_CTRL`, RW: Monitoring sender. -/
def R.ING_MON_CTRL : Nat := 0x120040
/-- `ING_MON_PORT`, RW: UDP port, [15:0]; reset 0x1388. -/
def R.ING_MON_PORT : Nat := 0x120044
/-- `ING_MON_GRP_Aw`, RW: Group addresses, w = 0 to 3. -/
def R.ING_MON_GRP_Aw (w : Nat) : Nat := 0x120050 + 0x4 * w
/-- `ING_MON_GRP_Bw`, RW: Group addresses, w = 0 to 3. -/
def R.ING_MON_GRP_Bw (w : Nat) : Nat := 0x120060 + 0x4 * w
/-- `ING_STRs_CTRL`, RWS: Stream s control. -/
def R.ING_STRs_CTRL (s : Nat) : Nat := 0x121000 + 0x100 * s
/-- `ING_STRs_PORTS`, RWS: [15:0] UDP_A; [31:16] UDP_B. -/
def R.ING_STRs_PORTS (s : Nat) : Nat := 0x121004 + 0x100 * s
/-- `ING_STRs_SRC_SIZE`, RWS: [13:0] W, reset 0x0F00; [29:16] H, reset 0x0870. -/
def R.ING_STRs_SRC_SIZE (s : Nat) : Nat := 0x121008 + 0x100 * s
/-- `ING_STRs_CROP_XY`, RWS: [13:0] X0; [29:16] Y0. -/
def R.ING_STRs_CROP_XY (s : Nat) : Nat := 0x12100C + 0x100 * s
/-- `ING_STRs_CROP_WH`, RWS: [13:0] W, reset 0x0F00; [29:16] H, reset 0x0870. -/
def R.ING_STRs_CROP_WH (s : Nat) : Nat := 0x121010 + 0x100 * s
/-- `ING_STRs_BUF_BASE_LO`, RWS: Region base, bits [39:0]. -/
def R.ING_STRs_BUF_BASE_LO (s : Nat) : Nat := 0x121014 + 0x100 * s
/-- `ING_STRs_BUF_BASE_HI`, RWS: Region base, bits [39:0]. -/
def R.ING_STRs_BUF_BASE_HI (s : Nat) : Nat := 0x121018 + 0x100 * s
/-- `ING_STRs_BUF_SIZE`, RWS: Bytes per buffer. -/
def R.ING_STRs_BUF_SIZE (s : Nat) : Nat := 0x12101C + 0x100 * s
/-- `ING_STRs_BUF_CFG`, RWS: [3:0] COUNT, reset 0x3; [29:16] SKEW_US, reset 0x03E8. -/
def R.ING_STRs_BUF_CFG (s : Nat) : Nat := 0x121020 + 0x100 * s
/-- `ING_STRs_GRP_Aw`, RWS: Addresses, w = 0 to 3; IPv4 in word 0. -/
def R.ING_STRs_GRP_Aw (s : Nat) (w : Nat) : Nat := 0x121030 + 0x100 * s + 0x4 * w
/-- `ING_STRs_SRC_Aw`, RWS: Addresses, w = 0 to 3; IPv4 in word 0. -/
def R.ING_STRs_SRC_Aw (s : Nat) (w : Nat) : Nat := 0x121040 + 0x100 * s + 0x4 * w
/-- `ING_STRs_GRP_Bw`, RWS: Addresses, w = 0 to 3; IPv4 in word 0. -/
def R.ING_STRs_GRP_Bw (s : Nat) (w : Nat) : Nat := 0x121050 + 0x100 * s + 0x4 * w
/-- `ING_STRs_SRC_Bw`, RWS: Addresses, w = 0 to 3; IPv4 in word 0. -/
def R.ING_STRs_SRC_Bw (s : Nat) (w : Nat) : Nat := 0x121060 + 0x100 * s + 0x4 * w
/-- `ING_STRs_STATUS`, RO: Paths and buffers. -/
def R.ING_STRs_STATUS (s : Nat) : Nat := 0x121080 + 0x100 * s
/-- `ING_STRs_ERR`, W1C: Sticky errors. -/
def R.ING_STRs_ERR (s : Nat) : Nat := 0x121084 + 0x100 * s
/-- `ING_STRs_STRIDE`, RO: Active STRIDE (R158, R160). -/
def R.ING_STRs_STRIDE (s : Nat) : Nat := 0x121088 + 0x100 * s
/-- `ING_STRs_SURF_BYTES`, RO: Active surface bytes. -/
def R.ING_STRs_SURF_BYTES (s : Nat) : Nat := 0x12108C + 0x100 * s
/-- `ING_STRs_CNT_Ti_LO`, RO: i = 0 FRAMES, 1 PKTS_A, 2 PKTS_B, 3 PKTS_DUP. -/
def R.ING_STRs_CNT_Ti_LO (s : Nat) (i : Nat) : Nat := 0x1210A0 + 0x100 * s + 0x8 * i
/-- `ING_STRs_CNT_Ti_HI`, RO: i = 0 FRAMES, 1 PKTS_A, 2 PKTS_B, 3 PKTS_DUP. -/
def R.ING_STRs_CNT_Ti_HI (s : Nat) (i : Nat) : Nat := 0x1210A4 + 0x100 * s + 0x8 * i
/-- `ING_STRs_CNT_Ei`, RC: i = 0 LOST, 1 LATE, 2 CONCEALED_ROWS, 3 FRAME_DROP, 4 PT_ERR, 5 FORMAT_ERR. -/
def R.ING_STRs_CNT_Ei (s : Nat) (i : Nat) : Nat := 0x1210C0 + 0x100 * s + 0x4 * i
/-- `ING_IRQ_STATUS`, W1C: Interrupt events. -/
def R.ING_IRQ_STATUS : Nat := 0x127FF0
/-- `ING_IRQ_EN`, RW: Enables for ING_IRQ_STATUS. -/
def R.ING_IRQ_EN : Nat := 0x127FF4
/-- `PTP_CTRL`, RW: Domain selection policy. -/
def R.PTP_CTRL : Nat := 0x130000
/-- `PTP_STATUS`, RO: Servo state and source. -/
def R.PTP_STATUS : Nat := 0x130004
/-- `PTP_ERR`, W1C: Sticky errors. -/
def R.PTP_ERR : Nat := 0x130008
/-- `PTP_STC_LO`, RO: STC. -/
def R.PTP_STC_LO : Nat := 0x130010
/-- `PTP_STC_HI`, RO: STC. -/
def R.PTP_STC_HI : Nat := 0x130014
/-- `PTP_RATE`, RO: Rate correction in force. -/
def R.PTP_RATE : Nat := 0x130018
/-- `PTP_DOMd_CFG`, RWS: Domain configuration. -/
def R.PTP_DOMd_CFG (d : Nat) : Nat := 0x130020 + 0x20 * d
/-- `PTP_DOMd_STATUS`, RO: Domain state. -/
def R.PTP_DOMd_STATUS (d : Nat) : Nat := 0x130024 + 0x20 * d
/-- `PTP_DOMd_OFFSET`, RO: Domain time minus STC, signed ns, saturating. -/
def R.PTP_DOMd_OFFSET (d : Nat) : Nat := 0x130028 + 0x20 * d
/-- `PTP_DOMd_GM_LO`, RO: Grandmaster clockIdentity. -/
def R.PTP_DOMd_GM_LO (d : Nat) : Nat := 0x13002C + 0x20 * d
/-- `PTP_DOMd_GM_HI`, RO: Grandmaster clockIdentity. -/
def R.PTP_DOMd_GM_HI (d : Nat) : Nat := 0x130030 + 0x20 * d
/-- `PTP_DOMd_PATH_DELAY`, RO: Mean path delay, ns. -/
def R.PTP_DOMd_PATH_DELAY (d : Nat) : Nat := 0x130034 + 0x20 * d
/-- `PTP_SERVO`, RWS: Loop settings. -/
def R.PTP_SERVO : Nat := 0x130060
/-- `PTP_LOCK`, RW: Lock criteria. -/
def R.PTP_LOCK : Nat := 0x130064
/-- `PTP_ASYM0`, RW: ETH0, ETH1 delay asymmetry, signed ns. -/
def R.PTP_ASYM0 : Nat := 0x130068
/-- `PTP_ASYM1`, RW: ETH0, ETH1 delay asymmetry, signed ns. -/
def R.PTP_ASYM1 : Nat := 0x13006C
/-- `PTP_DOM_DIFF`, RO: Domain A minus domain B, signed ns. -/
def R.PTP_DOM_DIFF : Nat := 0x130070
/-- `PTP_REFCLK_MON`, RW: REFCLK monitor. -/
def R.PTP_REFCLK_MON : Nat := 0x130080
/-- `PTP_REFCLK_STATUS`, RO: XO source and REFCLK offset. -/
def R.PTP_REFCLK_STATUS : Nat := 0x130084
/-- `PTP_REFCLK_GLITCH`, RC: Glitch count, stops at 0xFFFF_FFFF. -/
def R.PTP_REFCLK_GLITCH : Nat := 0x130088
/-- `PTP_LNK_DELAY0`, RO: LNK0, LNK1 link delay, 2⁻⁴ ns. -/
def R.PTP_LNK_DELAY0 : Nat := 0x130090
/-- `PTP_LNK_DELAY1`, RO: LNK0, LNK1 link delay, 2⁻⁴ ns. -/
def R.PTP_LNK_DELAY1 : Nat := 0x130094
/-- `PTP_IRQ_STATUS`, W1C: Interrupt events. -/
def R.PTP_IRQ_STATUS : Nat := 0x137FF0
/-- `PTP_IRQ_EN`, RW: Enables for PTP_IRQ_STATUS. -/
def R.PTP_IRQ_EN : Nat := 0x137FF4
/-- `FRM_STATUS`, RO: Grid state. -/
def R.FRM_STATUS : Nat := 0x140000
/-- `FRM_ERR`, W1C: Sticky errors. -/
def R.FRM_ERR : Nat := 0x140008
/-- `FRM_WFN_LO`, RO: WFN in force. -/
def R.FRM_WFN_LO : Nat := 0x140010
/-- `FRM_WFN_HI`, RO: WFN in force. -/
def R.FRM_WFN_HI : Nat := 0x140014
/-- `FRM_FS_LO`, RO: FS_own of the current frame, ns. -/
def R.FRM_FS_LO : Nat := 0x140018
/-- `FRM_FS_HI`, RO: FS_own of the current frame, ns. -/
def R.FRM_FS_HI : Nat := 0x14001C
/-- `FRM_NEXT_FS_LO`, RO: Planned next FS_own; 0 before PP. -/
def R.FRM_NEXT_FS_LO : Nat := 0x140020
/-- `FRM_NEXT_FS_HI`, RO: Planned next FS_own; 0 before PP. -/
def R.FRM_NEXT_FS_HI : Nat := 0x140024
/-- `FRM_PERIOD`, RO: Last period, ns. -/
def R.FRM_PERIOD : Nat := 0x140028
/-- `FRM_REF_PERIOD`, RO: p_ref, ns. -/
def R.FRM_REF_PERIOD : Nat := 0x140030
/-- `FRM_PHASE_ERR`, RO: Last e, signed ns. -/
def R.FRM_PHASE_ERR : Nat := 0x140034
/-- `FRM_CNT_Ei`, RC: i = 0 REF_MISSING, 1 REF_SKIP, 2 PHASE_IGNORED, 3 SLEW_FRAMES, 4 CLAMP_MIN, 5 CLAMP_MAX, 6 PLAN_MISSED, 7 PLAN_REJECT, 8 SYNC_IN_EDGES, 9 SYNC_IN_REJECT, 10 MODE_MISMATCH, 11 SYNC_OUT_MERGED, 12 REF_LATE, 13 PLAN_DISAGREE. -/
def R.FRM_CNT_Ei (i : Nat) : Nat := 0x140040 + 0x4 * i
/-- `FRM_SYNC_IN_TS_LO`, RO: Last accepted SYNC_IN edge, STC. -/
def R.FRM_SYNC_IN_TS_LO : Nat := 0x140080
/-- `FRM_SYNC_IN_TS_HI`, RO: Last accepted SYNC_IN edge, STC. -/
def R.FRM_SYNC_IN_TS_HI : Nat := 0x140084
/-- `FRM_T_NOM`, RWS: T_NOM, whole ns. -/
def R.FRM_T_NOM : Nat := 0x140100
/-- `FRM_T_NOM_FRAC`, RWS: T_NOM fraction. -/
def R.FRM_T_NOM_FRAC : Nat := 0x140104
/-- `FRM_T_MIN`, RWS: ns. -/
def R.FRM_T_MIN : Nat := 0x140108
/-- `FRM_T_MAX`, RWS: ns. -/
def R.FRM_T_MAX : Nat := 0x14010C
/-- `FRM_G_MIN`, RWS: ns. -/
def R.FRM_G_MIN : Nat := 0x140110
/-- `FRM_L_FIX`, RWS: ns. -/
def R.FRM_L_FIX : Nat := 0x140114
/-- `FRM_REF`, RWS: Reference. -/
def R.FRM_REF : Nat := 0x140118
/-- `FRM_TOL`, RWS: ns. -/
def R.FRM_TOL : Nat := 0x14011C
/-- `FRM_START`, RWS: Start mode. -/
def R.FRM_START : Nat := 0x140120
/-- `FRM_SEGMENTS`, RWS: Segment count. -/
def R.FRM_SEGMENTS : Nat := 0x140128
/-- `FRM_DEADLINE_LEAD`, RWS: ns. -/
def R.FRM_DEADLINE_LEAD : Nat := 0x14012C
/-- `FRM_SCALE_LEAD`, RWS: ns. -/
def R.FRM_SCALE_LEAD : Nat := 0x140130
/-- `FRM_HDR_LEAD`, RWS: ns. -/
def R.FRM_HDR_LEAD : Nat := 0x140134
/-- `FRM_ACTIVE_END_LEAD`, RWS: ns. -/
def R.FRM_ACTIVE_END_LEAD : Nat := 0x140138
/-- `FRM_CLOSE`, RWS: Close lines. -/
def R.FRM_CLOSE : Nat := 0x14013C
/-- `FRM_LINE_NS`, RWS: Head line period, ns. -/
def R.FRM_LINE_NS : Nat := 0x140140
/-- `FRM_MODE_EPOCH`, RWS: Mode epoch; the active copy is the epoch in force. -/
def R.FRM_MODE_EPOCH : Nat := 0x140144
/-- `FRM_SYNC_IN_DELAY`, RWS: Signed ns. -/
def R.FRM_SYNC_IN_DELAY : Nat := 0x140200
/-- `FRM_ROLL_OFFSET`, RWS: ns. -/
def R.FRM_ROLL_OFFSET : Nat := 0x140204
/-- `FRM_SYNC_OUTk_CFG`, RWS: Output k, k = 0 or 1. -/
def R.FRM_SYNC_OUTk_CFG (k : Nat) : Nat := 0x140210 + 0x10 * k
/-- `FRM_SYNC_OUTk_OFFSET`, RWS: Signed ns. -/
def R.FRM_SYNC_OUTk_OFFSET (k : Nat) : Nat := 0x140214 + 0x10 * k
/-- `FRM_SYNC_OUTk_WIDTH`, RWS: ns, [19:0]. -/
def R.FRM_SYNC_OUTk_WIDTH (k : Nat) : Nat := 0x140218 + 0x10 * k
/-- `FRM_IRQ_STATUS`, W1C: Interrupt events. -/
def R.FRM_IRQ_STATUS : Nat := 0x147FF0
/-- `FRM_IRQ_EN`, RW: Enables for FRM_IRQ_STATUS. -/
def R.FRM_IRQ_EN : Nat := 0x147FF4
/-- `CMP_STATUS`, RO: Composition state. -/
def R.CMP_STATUS : Nat := 0x180000
/-- `CMP_ERR`, W1C: Sticky errors. -/
def R.CMP_ERR : Nat := 0x180004
/-- `CMP_COMP_WFN_LO`, RO: m of the composition in progress, or of the last one. -/
def R.CMP_COMP_WFN_LO : Nat := 0x180008
/-- `CMP_COMP_WFN_HI`, RO: m of the composition in progress, or of the last one. -/
def R.CMP_COMP_WFN_HI : Nat := 0x18000C
/-- `CMP_LAYER_FAULT`, W1C: Sticky per-layer faults. -/
def R.CMP_LAYER_FAULT : Nat := 0x180010
/-- `CMP_LINEBUF_USED`, RO: Line units assigned. -/
def R.CMP_LINEBUF_USED : Nat := 0x180014
/-- `CMP_SLACK`, RO: Margin of the last composition. -/
def R.CMP_SLACK : Nat := 0x180018
/-- `CMP_TBL_BASE_LO`, RW: Table region. -/
def R.CMP_TBL_BASE_LO : Nat := 0x180020
/-- `CMP_TBL_BASE_HI`, RW: Table region. -/
def R.CMP_TBL_BASE_HI : Nat := 0x180024
/-- `CMP_TBL_BANK`, RO: Active bank. -/
def R.CMP_TBL_BANK : Nat := 0x180028
/-- `CMP_CNT_Ei`, RC: i = 0 UNDERRUN, 1 CORRUPT, 2 BANDS_MISSED, 3 WB_DROP, 4 EDGE_CLAMP, 5 NOSRC, 6 HELD. -/
def R.CMP_CNT_Ei (i : Nat) : Nat := 0x180040 + 0x4 * i
/-- `CMP_CANVAS`, RWS: Canvas size. -/
def R.CMP_CANVAS : Nat := 0x180100
/-- `CMP_BG_RG`, RWS: Background, OLF16. -/
def R.CMP_BG_RG : Nat := 0x180104
/-- `CMP_BG_B`, RWS: Background, OLF16. -/
def R.CMP_BG_B : Nat := 0x180108
/-- `CMP_REF_WHITE`, RWS: cd/m² of 1.0. -/
def R.CMP_REF_WHITE : Nat := 0x18010C
/-- `CMP_ROLL_BAND_NS`, RWS: Rolling delay per band. -/
def R.CMP_ROLL_BAND_NS : Nat := 0x180110
/-- `CMP_WB_CTRL`, RWS: Write-back control. -/
def R.CMP_WB_CTRL : Nat := 0x180114
/-- `CMP_WB_WHITE`, RWS: Write-back white, cd/m². -/
def R.CMP_WB_WHITE : Nat := 0x180118
/-- `CMP_WB_XY`, RWS: Write-back window. -/
def R.CMP_WB_XY : Nat := 0x18011C
/-- `CMP_WB_WH`, RWS: Write-back window. -/
def R.CMP_WB_WH : Nat := 0x180120
/-- `CMP_WB_BASE_LO`, RWS: Region base, bits [39:0]. -/
def R.CMP_WB_BASE_LO : Nat := 0x180124
/-- `CMP_WB_BASE_HI`, RWS: Region base, bits [39:0]. -/
def R.CMP_WB_BASE_HI : Nat := 0x180128
/-- `CMP_WB_BUF_SIZE`, RWS: Bytes per buffer. -/
def R.CMP_WB_BUF_SIZE : Nat := 0x18012C
/-- `CMP_PANEL_Mi`, RWS: XYZ to panel RGB, row-major. -/
def R.CMP_PANEL_Mi (i : Nat) : Nat := 0x180140 + 0x4 * i
/-- `CMP_SLOTs_XY`, RWS: Slot s origin. -/
def R.CMP_SLOTs_XY (s : Nat) : Nat := 0x180200 + 0x8 * s
/-- `CMP_SLOTs_WH`, RWS: Slot s size and enable. -/
def R.CMP_SLOTs_WH (s : Nat) : Nat := 0x180204 + 0x8 * s
/-- `CMP_LAYERn_CTRL`, RWS: Layer n control. -/
def R.CMP_LAYERn_CTRL (n : Nat) : Nat := 0x181000 + 0x40 * n
/-- `CMP_LAYERn_SRC_XY`, RWS: [13:0] X; [29:16] Y. -/
def R.CMP_LAYERn_SRC_XY (n : Nat) : Nat := 0x181004 + 0x40 * n
/-- `CMP_LAYERn_SRC_WH`, RWS: [13:0] W, reset 0x0F00; [29:16] H, reset 0x0500. -/
def R.CMP_LAYERn_SRC_WH (n : Nat) : Nat := 0x181008 + 0x40 * n
/-- `CMP_LAYERn_DST_XY`, RWS: [14:0] X; [30:16] Y. -/
def R.CMP_LAYERn_DST_XY (n : Nat) : Nat := 0x18100C + 0x40 * n
/-- `CMP_LAYERn_DST_WH`, RWS: [14:0] W, reset 0x0F00; [30:16] H, reset 0x0500. -/
def R.CMP_LAYERn_DST_WH (n : Nat) : Nat := 0x181010 + 0x40 * n
/-- `CMP_LAYERn_STEP_H`, RWS: [22:0] STEP, 2^-20, reset 0x10_0000. -/
def R.CMP_LAYERn_STEP_H (n : Nat) : Nat := 0x181014 + 0x40 * n
/-- `CMP_LAYERn_STEP_V`, RWS: [22:0] STEP, 2^-20, reset 0x10_0000. -/
def R.CMP_LAYERn_STEP_V (n : Nat) : Nat := 0x181018 + 0x40 * n
/-- `CMP_LAYERn_COLOR`, RWS: Colour interpretation. -/
def R.CMP_LAYERn_COLOR (n : Nat) : Nat := 0x18101C + 0x40 * n
/-- `CMP_LAYERn_MIX`, RWS: Alpha and gain. -/
def R.CMP_LAYERn_MIX (n : Nat) : Nat := 0x181020 + 0x40 * n
/-- `CMP_LAYERn_SURF_LO`, RWS: Descriptor address, bits [39:0]. -/
def R.CMP_LAYERn_SURF_LO (n : Nat) : Nat := 0x181024 + 0x40 * n
/-- `CMP_LAYERn_SURF_HI`, RWS: Descriptor address, bits [39:0]. -/
def R.CMP_LAYERn_SURF_HI (n : Nat) : Nat := 0x181028 + 0x40 * n
/-- `CMP_LAYERn_STATUS`, RO: Layer state in the last composition. -/
def R.CMP_LAYERn_STATUS (n : Nat) : Nat := 0x182000 + 0x10 * n
/-- `CMP_LAYERn_FRAME`, RO: FRAME_NO[31:0] of the buffer used. -/
def R.CMP_LAYERn_FRAME (n : Nat) : Nat := 0x182004 + 0x10 * n
/-- `CMP_IRQ_STATUS`, W1C: Interrupt events. -/
def R.CMP_IRQ_STATUS : Nat := 0x187FF0
/-- `CMP_IRQ_EN`, RW: Enables for CMP_IRQ_STATUS. -/
def R.CMP_IRQ_EN : Nat := 0x187FF4
/-- `LNKn_CTRL`, RW: Port enable. -/
def R.LNKn_CTRL (n : Nat) : Nat := 0x1C0000 + 0x10000 * n
/-- `LNKn_STATUS`, RO: Port state. -/
def R.LNKn_STATUS (n : Nat) : Nat := 0x1C0004 + 0x10000 * n
/-- `LNKn_ERR`, W1C: Sticky port errors. -/
def R.LNKn_ERR (n : Nat) : Nat := 0x1C0008 + 0x10000 * n
/-- `LNKn_PARTNER_NODE`, RO: [17:0] partner node ID. -/
def R.LNKn_PARTNER_NODE (n : Nat) : Nat := 0x1C000C + 0x10000 * n
/-- `LNKn_SESSION`, RO: Session ID in force. -/
def R.LNKn_SESSION (n : Nat) : Nat := 0x1C0010 + 0x10000 * n
/-- `LNKn_CNT_Ti_LO`, RO: i = 0 TX_CELLS, 1 RX_CELLS, 2 FRONDS_RELAYED, 3 FRONDS_LOCAL, 4 CTRL_RELAYED. -/
def R.LNKn_CNT_Ti_LO (n : Nat) (i : Nat) : Nat := 0x1C0020 + 0x10000 * n + 0x8 * i
/-- `LNKn_CNT_Ti_HI`, RO: i = 0 TX_CELLS, 1 RX_CELLS, 2 FRONDS_RELAYED, 3 FRONDS_LOCAL, 4 CTRL_RELAYED. -/
def R.LNKn_CNT_Ti_HI (n : Nat) (i : Nat) : Nat := 0x1C0024 + 0x10000 * n + 0x8 * i
/-- `LNKn_CNT_Ei`, RC: i = 0 CELL_ERR, 1 FROND_CRC, 2 LINK_DOWN, 3 AUTH_FAIL, 4 DROPPED. -/
def R.LNKn_CNT_Ei (n : Nat) (i : Nat) : Nat := 0x1C0060 + 0x10000 * n + 0x4 * i
/-- `LNK_CHAIN_CTRL`, RW: Takeover and split policy. -/
def R.LNK_CHAIN_CTRL : Nat := 0x1C1000
/-- `LNK_CHAIN_STATUS`, RO: Duty, slot, split. -/
def R.LNK_CHAIN_STATUS : Nat := 0x1C1004
/-- `LNK_ERR`, W1C: Sticky chain errors. -/
def R.LNK_ERR : Nat := 0x1C1008
/-- `LNK_EPOCH`, RO: Epoch in force. -/
def R.LNK_EPOCH : Nat := 0x1C100C
/-- `LNK_FIRST_WFN_LO`, RO: FIRST_WFN of the epoch in force. -/
def R.LNK_FIRST_WFN_LO : Nat := 0x1C1010
/-- `LNK_FIRST_WFN_HI`, RO: FIRST_WFN of the epoch in force. -/
def R.LNK_FIRST_WFN_HI : Nat := 0x1C1014
/-- `LNK_ALIVE`, RW: Liveness timing. -/
def R.LNK_ALIVE : Nat := 0x1C1018
/-- `LNK_CMD`, WO: Commands. -/
def R.LNK_CMD : Nat := 0x1C101C
/-- `LNK_SLOT_MASK_LO`, RWS: Slot mask, bits 0 to 31 and 32 to 63. -/
def R.LNK_SLOT_MASK_LO : Nat := 0x1C1020
/-- `LNK_SLOT_MASK_HI`, RWS: Slot mask, bits 0 to 31 and 32 to 63. -/
def R.LNK_SLOT_MASK_HI : Nat := 0x1C1024
/-- `LNK_MASK_LATCHED_LO`, RO: Mask latched at the last frame start. -/
def R.LNK_MASK_LATCHED_LO : Nat := 0x1C1028
/-- `LNK_MASK_LATCHED_HI`, RO: Mask latched at the last frame start. -/
def R.LNK_MASK_LATCHED_HI : Nat := 0x1C102C
/-- `LNK_SCALE_LATCHED`, RO: [15:0] wall scale latched, reset 0x8000. -/
def R.LNK_SCALE_LATCHED : Nat := 0x1C1030
/-- `LNK_RESEND_BASE_LO`, RWS: Resend buffer base, bits [39:0]. -/
def R.LNK_RESEND_BASE_LO : Nat := 0x1C1040
/-- `LNK_RESEND_BASE_HI`, RWS: Resend buffer base, bits [39:0]. -/
def R.LNK_RESEND_BASE_HI : Nat := 0x1C1044
/-- `LNK_RESEND_SIZE`, RWS: [11:0] MiB; 0: no buffer. -/
def R.LNK_RESEND_SIZE : Nat := 0x1C1048
/-- `LNK_SPORE_BASE_LO`, RWS: Spore table base, bits [39:0]; 0: no table. -/
def R.LNK_SPORE_BASE_LO : Nat := 0x1C1050
/-- `LNK_SPORE_BASE_HI`, RWS: Spore table base, bits [39:0]; 0: no table. -/
def R.LNK_SPORE_BASE_HI : Nat := 0x1C1054
/-- `LNK_CNT_Ei`, RC: i = 0 STALE, 1 DEMOTE_SENT, 2 EPOCH_AHEAD, 3 HDR_MISSED, 4 COMMIT_MISSED, 5 SPORE_MISSING, 6 TAKEOVERS, 7 RESEND_DROPPED. -/
def R.LNK_CNT_Ei (i : Nat) : Nat := 0x1C1080 + 0x4 * i
/-- `LNK_SLOTs_INFO`, RO: Head's record of slot s. -/
def R.LNK_SLOTs_INFO (s : Nat) : Nat := 0x1C1100 + 0x4 * s
/-- `LNKn_IRQ_STATUS`, W1C: Interrupt events. -/
def R.LNKn_IRQ_STATUS (n : Nat) : Nat := 0x1C7FF0 + 0x10000 * n
/-- `LNKn_IRQ_EN`, RW: Enables for LNKn_IRQ_STATUS. -/
def R.LNKn_IRQ_EN (n : Nat) : Nat := 0x1C7FF4 + 0x10000 * n
/-- `SCN_STATUS`, RO: Buffers and settling. -/
def R.SCN_STATUS : Nat := 0x200000
/-- `SCN_ERR`, W1C: Sticky errors. -/
def R.SCN_ERR : Nat := 0x200004
/-- `SCN_OPEN_WFN_LO`, RO: f (R283). -/
def R.SCN_OPEN_WFN_LO : Nat := 0x200010
/-- `SCN_OPEN_WFN_HI`, RO: f (R283). -/
def R.SCN_OPEN_WFN_HI : Nat := 0x200014
/-- `SCN_BANDS_LO`, RO: Bit b: band b of frame f received. -/
def R.SCN_BANDS_LO : Nat := 0x200018
/-- `SCN_BANDS_HI`, RO: Bit b: band b of frame f received. -/
def R.SCN_BANDS_HI : Nat := 0x20001C
/-- `SCN_LAST_BANDS_LO`, RO: Received bands of the last settled frame. -/
def R.SCN_LAST_BANDS_LO : Nat := 0x200020
/-- `SCN_LAST_BANDS_HI`, RO: Received bands of the last settled frame. -/
def R.SCN_LAST_BANDS_HI : Nat := 0x200024
/-- `SCN_LAST_SCALE`, RO: WALL_SCALE of the last accepted frond. -/
def R.SCN_LAST_SCALE : Nat := 0x200028
/-- `SCN_CNT_Ei`, RC: i = 0 CRC_ERR, 1 GEOM_ERR, 2 LATE, 3 EARLY, 4 BANDS_HELD, 5 REPLACED. -/
def R.SCN_CNT_Ei (i : Nat) : Nat := 0x200040 + 0x4 * i
/-- `SCN_CNT_Ti_LO`, RO: i = 0 FRONDS_ACCEPTED, 1 FRAMES_SETTLED. -/
def R.SCN_CNT_Ti_LO (i : Nat) : Nat := 0x200080 + 0x8 * i
/-- `SCN_CNT_Ti_HI`, RO: i = 0 FRONDS_ACCEPTED, 1 FRAMES_SETTLED. -/
def R.SCN_CNT_Ti_HI (i : Nat) : Nat := 0x200084 + 0x8 * i
/-- `SCN_SLOT_SIZE`, RWS: Slot size. -/
def R.SCN_SLOT_SIZE : Nat := 0x200100
/-- `SCN_MAP_SEL`, RWS: Map bank. -/
def R.SCN_MAP_SEL : Nat := 0x200104
/-- `SCN_MAP_BANKb_STATUS`, RO: Map bank b, b = 0 or 1. -/
def R.SCN_MAP_BANKb_STATUS (b : Nat) : Nat := 0x200200 + 0x4 * b
/-- `SCN_IRQ_STATUS`, W1C: Interrupt events. -/
def R.SCN_IRQ_STATUS : Nat := 0x207FF0
/-- `SCN_IRQ_EN`, RW: Enables for SCN_IRQ_STATUS. -/
def R.SCN_IRQ_EN : Nat := 0x207FF4
/-- `COR_STATUS`, RO: Engine state. -/
def R.COR_STATUS : Nat := 0x210000
/-- `COR_ERR`, W1C: Sticky errors. -/
def R.COR_ERR : Nat := 0x210004
/-- `COR_E_PRED`, RO: E_PRED of the last settled frame. -/
def R.COR_E_PRED : Nat := 0x210010
/-- `COR_KEE`, RO: K_EE of the last frame loaded. -/
def R.COR_KEE : Nat := 0x210014
/-- `COR_PRED_WFN_LO`, RO: Frame of COR_E_PRED. -/
def R.COR_PRED_WFN_LO : Nat := 0x210018
/-- `COR_PRED_WFN_HI`, RO: Frame of COR_E_PRED. -/
def R.COR_PRED_WFN_HI : Nat := 0x21001C
/-- `COR_CNT_Ei`, RC: i = 0 CLAMP_HIGH, 1 COMP_APPLIED, 2 COMP_LOST, 3 LOAD_REJECT. -/
def R.COR_CNT_Ei (i : Nat) : Nat := 0x210040 + 0x4 * i
/-- `COR_CTRL`, RWS: Compensation and equal energy. -/
def R.COR_CTRL : Nat := 0x210100
/-- `COR_PEAK`, RWS: Linear value at full code. -/
def R.COR_PEAK : Nat := 0x210104
/-- `COR_TBL_SEL`, RWS: Coefficient bank. -/
def R.COR_TBL_SEL : Nat := 0x210200
/-- `COR_LOAD_SRC_LO`, RW: DRAM source, bits [39:0]. -/
def R.COR_LOAD_SRC_LO : Nat := 0x210300
/-- `COR_LOAD_SRC_HI`, RW: DRAM source, bits [39:0]. -/
def R.COR_LOAD_SRC_HI : Nat := 0x210304
/-- `COR_LOAD_LEN`, RW: Bytes, header included. -/
def R.COR_LOAD_LEN : Nat := 0x210308
/-- `COR_LOAD_CMD`, WO: Load command. -/
def R.COR_LOAD_CMD : Nat := 0x21030C
/-- `COR_LOAD_STATUS`, RO: Load state. -/
def R.COR_LOAD_STATUS : Nat := 0x210310
/-- `COR_COEF_BANKb_STATUS`, RO: Coefficient bank b, b = 0 or 1. -/
def R.COR_COEF_BANKb_STATUS (b : Nat) : Nat := 0x210400 + 0x4 * b
/-- `COR_STRn_Ik`, RWS: String n, n = 0 to 95; colour k, k = 0 to 2. -/
def R.COR_STRn_Ik (n : Nat) (k : Nat) : Nat := 0x211000 + 0x10 * n + 0x4 * k
/-- `COR_IRQ_STATUS`, W1C: Interrupt events. -/
def R.COR_IRQ_STATUS : Nat := 0x217FF0
/-- `COR_IRQ_EN`, RW: Enables for COR_IRQ_STATUS. -/
def R.COR_IRQ_EN : Nat := 0x217FF4
/-- `STR_STATUS`, RO: Grid values of the last START. -/
def R.STR_STATUS : Nat := 0x240000
/-- `STR_ERR`, W1C: Sticky errors. -/
def R.STR_ERR : Nat := 0x240004
/-- `STR_CMD`, WO: String and lamp commands. -/
def R.STR_CMD : Nat := 0x240008
/-- `STR_FAILED_TOTAL`, RO: Lamps with FAILED = 1. -/
def R.STR_FAILED_TOTAL : Nat := 0x24000C
/-- `STR_CNT_Ei`, RC: i = 0 LOAD_LATE, 1 DRIVER_CRC, 2 DIAG_SKIPPED, 3 COLLECT_ERR, 4 PROBES, 5 PROBE_FAIL, 6 START_MISS, 7 LAMPS_FAILED, 8 OVERCURRENT, 9 HOLD_FRAMES, 10 DARK_FRAMES. -/
def R.STR_CNT_Ei (i : Nat) : Nat := 0x240040 + 0x4 * i
/-- `STR_CNT_Ti_LO`, RO: i = 0 FRAMES_STARTED, 1 CELLS_SENT. -/
def R.STR_CNT_Ti_LO (i : Nat) : Nat := 0x240080 + 0x8 * i
/-- `STR_CNT_Ti_HI`, RO: i = 0 FRAMES_STARTED, 1 CELLS_SENT. -/
def R.STR_CNT_Ti_HI (i : Nat) : Nat := 0x240084 + 0x8 * i
/-- `STR_COMMON_CTRL`, RWS: Diagnostics and probes. -/
def R.STR_COMMON_CTRL : Nat := 0x240100
/-- `STR_HEADROOM`, RWS: Rail tracking. -/
def R.STR_HEADROOM : Nat := 0x240104
/-- `STR_FAULT_CFG`, RWS: Fault retries. -/
def R.STR_FAULT_CFG : Nat := 0x240108
/-- `STR_RAIL_LEAD`, RWS: Collect deadline. -/
def R.STR_RAIL_LEAD : Nat := 0x24010C
/-- `STR_STRn_CFG`, RWS: String n, n = 0 to 95. -/
def R.STR_STRn_CFG (n : Nat) : Nat := 0x241000 + 0x40 * n
/-- `STR_STRn_LMAP`, RWS: Drivers covered by the lamp map. -/
def R.STR_STRn_LMAP (n : Nat) : Nat := 0x241004 + 0x40 * n
/-- `STR_STRn_CHMASK_LO`, RWS: Fitted channels 0 to 31. -/
def R.STR_STRn_CHMASK_LO (n : Nat) : Nat := 0x241008 + 0x40 * n
/-- `STR_STRn_CHMASK_HI`, RWS: Fitted channels 32 to 47. -/
def R.STR_STRn_CHMASK_HI (n : Nat) : Nat := 0x24100C + 0x40 * n
/-- `STR_STRn_RAIL`, RWS: Fixed setpoint. -/
def R.STR_STRn_RAIL (n : Nat) : Nat := 0x241010 + 0x40 * n
/-- `STR_STRn_RAIL_LIM`, RWS: Tracking limits. -/
def R.STR_STRn_RAIL_LIM (n : Nat) : Nat := 0x241014 + 0x40 * n
/-- `STR_STRn_DELAY`, RWS: Outbound delay without return. -/
def R.STR_STRn_DELAY (n : Nat) : Nat := 0x241018 + 0x40 * n
/-- `STR_STRn_STATUS`, RO: State. -/
def R.STR_STRn_STATUS (n : Nat) : Nat := 0x243000 + 0x10 * n
/-- `STR_STRn_RAIL_STATUS`, RO: Rail. -/
def R.STR_STRn_RAIL_STATUS (n : Nat) : Nat := 0x243004 + 0x10 * n
/-- `STR_STRn_HEADROOM`, RO: Headroom and loop. -/
def R.STR_STRn_HEADROOM (n : Nat) : Nat := 0x243008 + 0x10 * n
/-- `STR_STRn_LAMPS`, RO: Lamp counts. -/
def R.STR_STRn_LAMPS (n : Nat) : Nat := 0x24300C + 0x10 * n
/-- `STR_IRQ_STATUS`, W1C: Interrupt events. -/
def R.STR_IRQ_STATUS : Nat := 0x247FF0
/-- `STR_IRQ_EN`, RW: Enables for STR_IRQ_STATUS. -/
def R.STR_IRQ_EN : Nat := 0x247FF4
/-- `SRD_STATUS`, RO: Lane and PLL state. -/
def R.SRD_STATUS : Nat := 0x1E0000
/-- `SRD_ERR`, W1C: Sticky errors. -/
def R.SRD_ERR : Nat := 0x1E0004
/-- `SRD_CMD`, WO: Retrain. -/
def R.SRD_CMD : Nat := 0x1E0008
/-- `SRD_EYE_CFG`, RW: Eye thresholds. -/
def R.SRD_EYE_CFG : Nat := 0x1E000C
/-- `SRD_TRAIN_CFG`, RW: Training time limit. -/
def R.SRD_TRAIN_CFG : Nat := 0x1E0010
/-- `SRDk_CFG`, RW: Lane configuration. -/
def R.SRDk_CFG (k : Nat) : Nat := 0x1E0100 + 0x40 * k
/-- `SRDk_STATUS`, RO: Lane state. -/
def R.SRDk_STATUS (k : Nat) : Nat := 0x1E0104 + 0x40 * k
/-- `SRDk_EYE`, RO: Eye width. -/
def R.SRDk_EYE (k : Nat) : Nat := 0x1E0108 + 0x40 * k
/-- `SRDk_PAT_CTRL`, RW: Pattern generator and checker. -/
def R.SRDk_PAT_CTRL (k : Nat) : Nat := 0x1E010C + 0x40 * k
/-- `SRDk_PAT_USER`, RW: User pattern. -/
def R.SRDk_PAT_USER (k : Nat) : Nat := 0x1E0110 + 0x40 * k
/-- `SRDk_CNT_Ti_LO`, RO: i = 0 PAT_BITS, 1 PAT_ERRORS. -/
def R.SRDk_CNT_Ti_LO (k : Nat) (i : Nat) : Nat := 0x1E0118 + 0x40 * k + 0x8 * i
/-- `SRDk_CNT_Ti_HI`, RO: i = 0 PAT_BITS, 1 PAT_ERRORS. -/
def R.SRDk_CNT_Ti_HI (k : Nat) (i : Nat) : Nat := 0x1E011C + 0x40 * k + 0x8 * i
/-- `SRDk_CNT_Ei`, RC: i = 0 CDR_LOSS, 1 BLOCK_LOSS, 2 RETRAIN, 3 EYE_LOW, 4 TRAIN_FAIL. -/
def R.SRDk_CNT_Ei (k : Nat) (i : Nat) : Nat := 0x1E0128 + 0x40 * k + 0x4 * i
/-- `SRD_IRQ_STATUS`, W1C: Interrupt events. -/
def R.SRD_IRQ_STATUS : Nat := 0x1E7FF0
/-- `SRD_IRQ_EN`, RW: Enables for SRD_IRQ_STATUS. -/
def R.SRD_IRQ_EN : Nat := 0x1E7FF4
/-- `DRM_STATUS`, RO: Training and temperature. -/
def R.DRM_STATUS : Nat := 0x280000
/-- `DRM_SIZE`, RO: Capacity. -/
def R.DRM_SIZE : Nat := 0x280004
/-- `DRM_ERR`, W1C: Sticky errors. -/
def R.DRM_ERR : Nat := 0x280008
/-- `DRM_PM_CTRL`, RW: Power-down policy. -/
def R.DRM_PM_CTRL : Nat := 0x28000C
/-- `DRM_LAT`, RO: Smallest tolerance in force. -/
def R.DRM_LAT : Nat := 0x280010
/-- `DRM_TRAIN_CFG`, RW: Training threshold. -/
def R.DRM_TRAIN_CFG : Nat := 0x280014
/-- `DRM_UE_ADDR_LO`, RO: Last uncorrectable address, bits [39:0]. -/
def R.DRM_UE_ADDR_LO : Nat := 0x280018
/-- `DRM_UE_ADDR_HI`, RO: Last uncorrectable address, bits [39:0]. -/
def R.DRM_UE_ADDR_HI : Nat := 0x28001C
/-- `DRM_FW_TOL`, RW: Firmware's tolerance. -/
def R.DRM_FW_TOL : Nat := 0x280020
/-- `DRM_CHc_STATUS`, RO: Channel state. -/
def R.DRM_CHc_STATUS (c : Nat) : Nat := 0x280100 + 0x40 * c
/-- `DRM_CHc_CNT_Ti_LO`, RO: i = 0 RD_BYTES, 1 WR_BYTES, 2 PAGE_HIT, 3 PAGE_MISS. -/
def R.DRM_CHc_CNT_Ti_LO (c : Nat) (i : Nat) : Nat := 0x280108 + 0x40 * c + 0x8 * i
/-- `DRM_CHc_CNT_Ti_HI`, RO: i = 0 RD_BYTES, 1 WR_BYTES, 2 PAGE_HIT, 3 PAGE_MISS. -/
def R.DRM_CHc_CNT_Ti_HI (c : Nat) (i : Nat) : Nat := 0x28010C + 0x40 * c + 0x8 * i
/-- `DRM_CHc_CNT_Ei`, RC: i = 0 LINK_CE, 1 UE, 2 RETRY, 3 ODECC, 4 PD_ENTRY, 5 SR_ENTRY. -/
def R.DRM_CHc_CNT_Ei (c : Nat) (i : Nat) : Nat := 0x280128 + 0x40 * c + 0x4 * i
/-- `DRM_LANEl_EYE`, RO: Lane l = 4c + b, b = 0 to 3. -/
def R.DRM_LANEl_EYE (l : Nat) : Nat := 0x280200 + 0x4 * l
/-- `DRM_CLIENTn_TOL`, RO: Client n, n = 0 to 7 (R359). -/
def R.DRM_CLIENTn_TOL (n : Nat) : Nat := 0x280300 + 0x4 * n
/-- `DRM_IRQ_STATUS`, W1C: Interrupt events. -/
def R.DRM_IRQ_STATUS : Nat := 0x287FF0
/-- `DRM_IRQ_EN`, RW: Enables for DRM_IRQ_STATUS. -/
def R.DRM_IRQ_EN : Nat := 0x287FF4
/-- `QDR_STATUS`, RO: Device state. -/
def R.QDR_STATUS : Nat := 0x290000
/-- `QDR_ERR`, W1C: Sticky errors. -/
def R.QDR_ERR : Nat := 0x290004
/-- `QDR_UE_ADDR`, RO: Last uncorrectable address. -/
def R.QDR_UE_ADDR : Nat := 0x290008
/-- `QDR_SCRUB`, RW: Scrub period. -/
def R.QDR_SCRUB : Nat := 0x29000C
/-- `QDR_CNT_Ei`, RC: i = 0 CE, 1 UE, 2 ADDR_PARITY, 3 SCRUB_CE. -/
def R.QDR_CNT_Ei (i : Nat) : Nat := 0x290040 + 0x4 * i
/-- `QDR_IRQ_STATUS`, W1C: Interrupt events. -/
def R.QDR_IRQ_STATUS : Nat := 0x297FF0
/-- `QDR_IRQ_EN`, RW: Enables for QDR_IRQ_STATUS. -/
def R.QDR_IRQ_EN : Nat := 0x297FF4
/-- `RPL_ERR`, W1C: Sticky errors. -/
def R.RPL_ERR : Nat := 0x2B0004
/-- `RPL_CHc_CTRL`, RWS: Mode, source, speed. -/
def R.RPL_CHc_CTRL (c : Nat) : Nat := 0x2B1000 + 0x40 * c
/-- `RPL_CHc_TARGET_LO`, RWS: t0, ns of TAI. -/
def R.RPL_CHc_TARGET_LO (c : Nat) : Nat := 0x2B1004 + 0x40 * c
/-- `RPL_CHc_TARGET_HI`, RWS: t0, ns of TAI. -/
def R.RPL_CHc_TARGET_HI (c : Nat) : Nat := 0x2B1008 + 0x40 * c
/-- `RPL_CHc_BASE_LO`, RWS: Region base, bits [39:0]. -/
def R.RPL_CHc_BASE_LO (c : Nat) : Nat := 0x2B100C + 0x40 * c
/-- `RPL_CHc_BASE_HI`, RWS: Region base, bits [39:0]. -/
def R.RPL_CHc_BASE_HI (c : Nat) : Nat := 0x2B1010 + 0x40 * c
/-- `RPL_CHc_ENTRIES`, RWS: [15:0] entries. -/
def R.RPL_CHc_ENTRIES (c : Nat) : Nat := 0x2B1014 + 0x40 * c
/-- `RPL_CHc_ENTRY_SIZE`, RWS: Bytes per entry. -/
def R.RPL_CHc_ENTRY_SIZE (c : Nat) : Nat := 0x2B1018 + 0x40 * c
/-- `RPL_CHc_STATUS`, RO: Presentation state. -/
def R.RPL_CHc_STATUS (c : Nat) : Nat := 0x2B3000 + 0x20 * c
/-- `RPL_CHc_VALID`, RO: [15:0] entries holding a frame. -/
def R.RPL_CHc_VALID (c : Nat) : Nat := 0x2B3004 + 0x20 * c
/-- `RPL_CHc_OLDEST_LO`, RO: Event time of the oldest entry. -/
def R.RPL_CHc_OLDEST_LO (c : Nat) : Nat := 0x2B3008 + 0x20 * c
/-- `RPL_CHc_OLDEST_HI`, RO: Event time of the oldest entry. -/
def R.RPL_CHc_OLDEST_HI (c : Nat) : Nat := 0x2B300C + 0x20 * c
/-- `RPL_CHc_NEWEST_LO`, RO: Event time of the newest entry. -/
def R.RPL_CHc_NEWEST_LO (c : Nat) : Nat := 0x2B3010 + 0x20 * c
/-- `RPL_CHc_NEWEST_HI`, RO: Event time of the newest entry. -/
def R.RPL_CHc_NEWEST_HI (c : Nat) : Nat := 0x2B3014 + 0x20 * c
/-- `RPL_CHc_CNT_Ei`, RC: i = 0 REC_DROP, 1 RANGE. -/
def R.RPL_CHc_CNT_Ei (c : Nat) (i : Nat) : Nat := 0x2B3018 + 0x20 * c + 0x4 * i
/-- `RPL_IRQ_STATUS`, W1C: Interrupt events. -/
def R.RPL_IRQ_STATUS : Nat := 0x2B7FF0
/-- `RPL_IRQ_EN`, RW: Enables for RPL_IRQ_STATUS. -/
def R.RPL_IRQ_EN : Nat := 0x2B7FF4
/-- `AUD_STATUS`, RO: Ports running. -/
def R.AUD_STATUS : Nat := 0x2A0000
/-- `AUD_ERR`, W1C: Sticky errors. -/
def R.AUD_ERR : Nat := 0x2A0004
/-- `AUDp_CFG`, RWS: Port format. -/
def R.AUDp_CFG (p : Nat) : Nat := 0x2A1000 + 0x100 * p
/-- `AUDp_SLOT_MASK`, RWS: [15:0] MASK, reset 0x00FF. -/
def R.AUDp_SLOT_MASK (p : Nat) : Nat := 0x2A1004 + 0x100 * p
/-- `AUDp_DELAY`, RWS: [19:0] FRAMES, reset 0x0_0390. -/
def R.AUDp_DELAY (p : Nat) : Nat := 0x2A1008 + 0x100 * p
/-- `AUDp_ZC`, RWS: Start and stop. -/
def R.AUDp_ZC (p : Nat) : Nat := 0x2A100C + 0x100 * p
/-- `AUDp_STR_CTRL`, RWS: Stream p. -/
def R.AUDp_STR_CTRL (p : Nat) : Nat := 0x2A1010 + 0x100 * p
/-- `AUDp_STR_PORTS`, RWS: [15:0] UDP_A; [31:16] UDP_B. -/
def R.AUDp_STR_PORTS (p : Nat) : Nat := 0x2A1014 + 0x100 * p
/-- `AUDp_BUF_BASE_LO`, RWS: Playout buffer, bits [39:0]. -/
def R.AUDp_BUF_BASE_LO (p : Nat) : Nat := 0x2A1018 + 0x100 * p
/-- `AUDp_BUF_BASE_HI`, RWS: Playout buffer, bits [39:0]. -/
def R.AUDp_BUF_BASE_HI (p : Nat) : Nat := 0x2A101C + 0x100 * p
/-- `AUDp_CAP_BASE_LO`, RWS: Capture ring, bits [39:0]. -/
def R.AUDp_CAP_BASE_LO (p : Nat) : Nat := 0x2A1020 + 0x100 * p
/-- `AUDp_CAP_BASE_HI`, RWS: Capture ring, bits [39:0]. -/
def R.AUDp_CAP_BASE_HI (p : Nat) : Nat := 0x2A1024 + 0x100 * p
/-- `AUDp_CAP_BLOCKS`, RWS: [15:0] records. -/
def R.AUDp_CAP_BLOCKS (p : Nat) : Nat := 0x2A1028 + 0x100 * p
/-- `AUDp_SLOTt_SRC`, RWS: Slot t, t = 0 to 15. -/
def R.AUDp_SLOTt_SRC (p : Nat) (t : Nat) : Nat := 0x2A1040 + 0x100 * p + 0x4 * t
/-- `AUDp_GRP_Aw`, RWS: Addresses, w = 0 to 3; IPv4 in word 0. -/
def R.AUDp_GRP_Aw (p : Nat) (w : Nat) : Nat := 0x2A1080 + 0x100 * p + 0x4 * w
/-- `AUDp_SRC_Aw`, RWS: Addresses, w = 0 to 3; IPv4 in word 0. -/
def R.AUDp_SRC_Aw (p : Nat) (w : Nat) : Nat := 0x2A1090 + 0x100 * p + 0x4 * w
/-- `AUDp_GRP_Bw`, RWS: Addresses, w = 0 to 3; IPv4 in word 0. -/
def R.AUDp_GRP_Bw (p : Nat) (w : Nat) : Nat := 0x2A10A0 + 0x100 * p + 0x4 * w
/-- `AUDp_SRC_Bw`, RWS: Addresses, w = 0 to 3; IPv4 in word 0. -/
def R.AUDp_SRC_Bw (p : Nat) (w : Nat) : Nat := 0x2A10B0 + 0x100 * p + 0x4 * w
/-- `AUDp_STATUS`, RO: Port and stream state. -/
def R.AUDp_STATUS (p : Nat) : Nat := 0x2A3000 + 0x40 * p
/-- `AUDp_CAP_HEAD`, RO: Records written (R388). -/
def R.AUDp_CAP_HEAD (p : Nat) : Nat := 0x2A3004 + 0x40 * p
/-- `AUDp_CNT_Ei`, RC: i = 0 LOST, 1 LATE, 2 EARLY, 3 PT_ERR, 4 FORMAT_ERR, 5 FADE_TIMEOUT. -/
def R.AUDp_CNT_Ei (p : Nat) (i : Nat) : Nat := 0x2A3008 + 0x40 * p + 0x4 * i
/-- `AUD_IRQ_STATUS`, W1C: Interrupt events. -/
def R.AUD_IRQ_STATUS : Nat := 0x2A7FF0
/-- `AUD_IRQ_EN`, RW: Enables for AUD_IRQ_STATUS. -/
def R.AUD_IRQ_EN : Nat := 0x2A7FF4
/-- `PWR_STATUS`, RO: Feeds and hold-up. -/
def R.PWR_STATUS : Nat := 0x30000
/-- `PWR_ERR`, W1C: Sticky errors. -/
def R.PWR_ERR : Nat := 0x30004
/-- `PWR_CMD`, WO: Transfer. -/
def R.PWR_CMD : Nat := 0x30008
/-- `PWR_FEEDx_STATUS`, RO: Feed state. -/
def R.PWR_FEEDx_STATUS (x : Nat) : Nat := 0x30010 + 0x20 * x
/-- `PWR_FEEDx_V`, RO: Voltage, mV: rms for AC, magnitude for DC. -/
def R.PWR_FEEDx_V (x : Nat) : Nat := 0x30014 + 0x20 * x
/-- `PWR_FEEDx_I`, RO: [15:0] current, mA. -/
def R.PWR_FEEDx_I (x : Nat) : Nat := 0x30018 + 0x20 * x
/-- `PWR_FEEDx_P`, RO: Input power, mW, over one mains cycle or 20 ms. -/
def R.PWR_FEEDx_P (x : Nat) : Nat := 0x3001C + 0x20 * x
/-- `PWR_FEEDx_FREQ`, RO: [15:0] mHz; 0 for DC. -/
def R.PWR_FEEDx_FREQ (x : Nat) : Nat := 0x30020 + 0x20 * x
/-- `PWR_CNT_Ei`, RC: i = 0 FEED_A_LOSS, 1 FEED_B_LOSS, 2 SWITCHOVER, 3 LOCAL_LIMIT, 4 GRANT_OVER, 5 STANDIN, 6 PEER_MISSING, 7 PEER_STALE, 8 SCALE_DISAGREE. -/
def R.PWR_CNT_Ei (i : Nat) : Nat := 0x30060 + 0x4 * i
/-- `PWR_ENERGYi_LO`, RO: Counter i of R399, mJ. -/
def R.PWR_ENERGYi_LO (i : Nat) : Nat := 0x30090 + 0x8 * i
/-- `PWR_ENERGYi_HI`, RO: Counter i of R399, mJ. -/
def R.PWR_ENERGYi_HI (i : Nat) : Nat := 0x30094 + 0x8 * i
/-- `PWR_RAIL_P`, RO: Mean rail power of the last frame, mW. -/
def R.PWR_RAIL_P : Nat := 0x300C0
/-- `PWR_FRAME_RAIL`, RO: E_MEAS of the last frame, mJ. -/
def R.PWR_FRAME_RAIL : Nat := 0x300C4
/-- `PWR_GRANT`, RO: G of that frame, mJ. -/
def R.PWR_GRANT : Nat := 0x300C8
/-- `PWR_LIMIT_SCALE`, RO: L. -/
def R.PWR_LIMIT_SCALE : Nat := 0x300CC
/-- `PWR_FEED_CTRL`, RWS: Feed mode. -/
def R.PWR_FEED_CTRL : Nat := 0x30100
/-- `PWR_PLAN`, RWS: Planning and margins. -/
def R.PWR_PLAN : Nat := 0x30104
/-- `PWR_PLAN2`, RWS: Efficiency, stand-ins, rise. -/
def R.PWR_PLAN2 : Nat := 0x30108
/-- `PWR_PEER_US`, RWS: [15:0] US, chain point lead, reset 0x00C8. -/
def R.PWR_PEER_US : Nat := 0x3010C
/-- `PWR_GRANT_TOL`, RWS: [15:0] MJ, reset 0x0032. -/
def R.PWR_GRANT_TOL : Nat := 0x30110
/-- `PWR_CIRCk_LIMIT`, RWS: Circuit k, k = 0 to 15. -/
def R.PWR_CIRCk_LIMIT (k : Nat) : Nat := 0x30200 + 0x4 * k
/-- `PWR_SLOTs_CFG`, RWS: Slot s, s = 0 to 63. -/
def R.PWR_SLOTs_CFG (s : Nat) : Nat := 0x30300 + 0x4 * s
/-- `PWR_PEERi`, RWS: Peer head i, i = 0 to 63. -/
def R.PWR_PEERi (i : Nat) : Nat := 0x30400 + 0x4 * i
/-- `PWR_SLOTs_PLAN`, RO: plan_s of the last decision, 1/16 mJ. -/
def R.PWR_SLOTs_PLAN (s : Nat) : Nat := 0x30600 + 0x8 * s
/-- `PWR_SLOTs_GRANT`, RO: Grant of the last decision, mJ. -/
def R.PWR_SLOTs_GRANT (s : Nat) : Nat := 0x30604 + 0x8 * s
/-- `PWR_SCALE`, RO: Codes of the last decision. -/
def R.PWR_SCALE : Nat := 0x30800
/-- `PWR_BIND`, RO: What set them. -/
def R.PWR_BIND : Nat := 0x30804
/-- `PWR_IRQ_STATUS`, W1C: Interrupt events. -/
def R.PWR_IRQ_STATUS : Nat := 0x37FF0
/-- `PWR_IRQ_EN`, RW: Enables for PWR_IRQ_STATUS. -/
def R.PWR_IRQ_EN : Nat := 0x37FF4
/-- `CAL_CTRL`, RW: Enable, save policy, interval. -/
def R.CAL_CTRL : Nat := 0x50000
/-- `CAL_STATUS`, RO: Cycle and reference state. -/
def R.CAL_STATUS : Nat := 0x50004
/-- `CAL_ERR`, W1C: Sticky errors. -/
def R.CAL_ERR : Nat := 0x50008
/-- `CAL_REF`, RO: Last REF_IN sample. -/
def R.CAL_REF : Nat := 0x5000C
/-- `CAL_SAVE_CFG`, RW: Save spacing. -/
def R.CAL_SAVE_CFG : Nat := 0x50010
/-- `CAL_LIMIT`, RW: Residual limit. -/
def R.CAL_LIMIT : Nat := 0x50014
/-- `CAL_CMD`, WO: Cycle, save, abort. -/
def R.CAL_CMD : Nat := 0x50018
/-- `CAL_STORE_STATUS`, RO: Store copies. -/
def R.CAL_STORE_STATUS : Nat := 0x5001C
/-- `CAL_STORE_SEQ`, RO: SEQ of the copy in use. -/
def R.CAL_STORE_SEQ : Nat := 0x50020
/-- `CAL_LAST_CYCLE_LO`, RO: STC of the last completed cycle. -/
def R.CAL_LAST_CYCLE_LO : Nat := 0x50028
/-- `CAL_LAST_CYCLE_HI`, RO: STC of the last completed cycle. -/
def R.CAL_LAST_CYCLE_HI : Nat := 0x5002C
/-- `CAL_CNT_Ei`, RC: i = 0 STEPS, 1 ABANDONED, 2 ADJUSTED, 3 SAVES. -/
def R.CAL_CNT_Ei (i : Nat) : Nat := 0x50040 + 0x4 * i
/-- `CAL_TRIMt`, RO: Target t, t = 0 to 197. -/
def R.CAL_TRIMt (t : Nat) : Nat := 0x50100 + 0x4 * t
/-- `CAL_RESIDt`, RO: Residual of target t. -/
def R.CAL_RESIDt (t : Nat) : Nat := 0x50800 + 0x4 * t
/-- `CAL_LANEk_EYE`, RO: Lane k, k = 0 to 15. -/
def R.CAL_LANEk_EYE (k : Nat) : Nat := 0x50C00 + 0x4 * k
/-- `CAL_IRQ_STATUS`, W1C: Interrupt events. -/
def R.CAL_IRQ_STATUS : Nat := 0x57FF0
/-- `CAL_IRQ_EN`, RW: Enables for CAL_IRQ_STATUS. -/
def R.CAL_IRQ_EN : Nat := 0x57FF4
/-- `THM_STATUS`, RO: State, divisor, scale. -/
def R.THM_STATUS : Nat := 0x40000
/-- `THM_ERR`, W1C: Sticky errors. -/
def R.THM_ERR : Nat := 0x40004
/-- `THM_TEMP`, RO: Die and highest temperature. -/
def R.THM_TEMP : Nat := 0x40008
/-- `THM_COOL`, RO: Restart timer. -/
def R.THM_COOL : Nat := 0x4000C
/-- `THM_CNT_Ei`, RC: i = 0 THROTTLE_FRAMES, 1 SHUTDOWNS, 2 SUSPECT_SAMPLES, 3 CLKDIV_STEPS. -/
def R.THM_CNT_Ei (i : Nat) : Nat := 0x40040 + 0x4 * i
/-- `THM_CTRL`, RWS: Clock division and warning offset. -/
def R.THM_CTRL : Nat := 0x40100
/-- `THM_THROTTLE`, RWS: Steps. -/
def R.THM_THROTTLE : Nat := 0x40104
/-- `THM_THROTTLE2`, RWS: Floor, hysteresis, hold time. -/
def R.THM_THROTTLE2 : Nat := 0x40108
/-- `THM_SENSn`, RO: Sensor n, n = 0 to 23. -/
def R.THM_SENSn (n : Nat) : Nat := 0x40200 + 0x4 * n
/-- `THM_COMPc`, RO: Component c, c = 0 to 5. -/
def R.THM_COMPc (c : Nat) : Nat := 0x40300 + 0x4 * c
/-- `THM_IRQ_STATUS`, W1C: Interrupt events. -/
def R.THM_IRQ_STATUS : Nat := 0x47FF0
/-- `THM_IRQ_EN`, RW: Enables for THM_IRQ_STATUS. -/
def R.THM_IRQ_EN : Nat := 0x47FF4
/-- `PM_STATUS`, RO: State and pending request. -/
def R.PM_STATUS : Nat := 0x60000
/-- `PM_ERR`, W1C: Sticky errors. -/
def R.PM_ERR : Nat := 0x60004
/-- `PM_REQ`, WO: State request. -/
def R.PM_REQ : Nat := 0x60008
/-- `PM_REQ_WFN_LO`, RW: Target frame. -/
def R.PM_REQ_WFN_LO : Nat := 0x60010
/-- `PM_REQ_WFN_HI`, RW: Target frame. -/
def R.PM_REQ_WFN_HI : Nat := 0x60014
/-- `PM_CTRL`, RW: Options. -/
def R.PM_CTRL : Nat := 0x60018
/-- `PM_BRK_CFG`, RW: Sampling period and window. -/
def R.PM_BRK_CFG : Nat := 0x60020
/-- `PM_WAKE_EN`, RW: Wake sources. -/
def R.PM_WAKE_EN : Nat := 0x60024
/-- `PM_WAKE_SRC`, RO: Sources of the last wake. -/
def R.PM_WAKE_SRC : Nat := 0x60028
/-- `PM_WAKE_TEMP`, RW: Temperature threshold. -/
def R.PM_WAKE_TEMP : Nat := 0x6002C
/-- `PM_WAKE_TIMER`, RW: Timer. -/
def R.PM_WAKE_TIMER : Nat := 0x60030
/-- `PM_REFUSE_COUNT`, RO: Refusals and aborts. -/
def R.PM_REFUSE_COUNT : Nat := 0x60034
/-- `PM_LAST_REFUSER`, RO: Last refusal or abort. -/
def R.PM_LAST_REFUSER : Nat := 0x60038
/-- `PM_WAKE_COUNT`, RO: Wakes. -/
def R.PM_WAKE_COUNT : Nat := 0x6003C
/-- `PM_IRQ_STATUS`, W1C: Interrupt events. -/
def R.PM_IRQ_STATUS : Nat := 0x67FF0
/-- `PM_IRQ_EN`, RW: Enables for PM_IRQ_STATUS. -/
def R.PM_IRQ_EN : Nat := 0x67FF4
/-- `UPD_STATUS`, RO: State and last code. -/
def R.UPD_STATUS : Nat := 0x70000
/-- `UPD_ERR`, W1C: Sticky errors. -/
def R.UPD_ERR : Nat := 0x70004
/-- `UPD_CMD`, WO: Commands. -/
def R.UPD_CMD : Nat := 0x70008
/-- `UPD_CTRL`, RW: Target and confirm policy. -/
def R.UPD_CTRL : Nat := 0x7000C
/-- `UPD_STAGE_BASE_LO`, RW: Staging base, bits [39:0]. -/
def R.UPD_STAGE_BASE_LO : Nat := 0x70010
/-- `UPD_STAGE_BASE_HI`, RW: Staging base, bits [39:0]. -/
def R.UPD_STAGE_BASE_HI : Nat := 0x70014
/-- `UPD_IMPORT_LEN`, RW: [26:0] bytes. -/
def R.UPD_IMPORT_LEN : Nat := 0x70018
/-- `UPD_RX_COUNT`, RO: [14:0] blocks received. -/
def R.UPD_RX_COUNT : Nat := 0x7001C
/-- `UPD_ACT_WFN_LO`, RW: ACTIVATE_AT target. -/
def R.UPD_ACT_WFN_LO : Nat := 0x70020
/-- `UPD_ACT_WFN_HI`, RW: ACTIVATE_AT target. -/
def R.UPD_ACT_WFN_HI : Nat := 0x70024
/-- `UPD_TXN`, RO: Tag of the image. -/
def R.UPD_TXN : Nat := 0x70028
/-- `UPD_IMAGE_ID_LO`, RO: IMAGE_ID of the image. -/
def R.UPD_IMAGE_ID_LO : Nat := 0x70030
/-- `UPD_IMAGE_ID_HI`, RO: IMAGE_ID of the image. -/
def R.UPD_IMAGE_ID_HI : Nat := 0x70034
/-- `UPD_BOOT`, RO: Counter and boot record. -/
def R.UPD_BOOT : Nat := 0x70038
/-- `UPD_SLOTs_STATE`, RO: Slot s: 0 A, 1 B, 2 golden. -/
def R.UPD_SLOTs_STATE (s : Nat) : Nat := 0x70040 + 0x4 * s
/-- `UPD_SLOTs_ID_LO`, RO: BUILD_ID of slot s. -/
def R.UPD_SLOTs_ID_LO (s : Nat) : Nat := 0x70050 + 0x8 * s
/-- `UPD_SLOTs_ID_HI`, RO: BUILD_ID of slot s. -/
def R.UPD_SLOTs_ID_HI (s : Nat) : Nat := 0x70054 + 0x8 * s
/-- `UPD_BLK_OFFSET`, RW: [26:0] block offset, per path. -/
def R.UPD_BLK_OFFSET : Nat := 0x70070
/-- `UPD_BLK_DATA`, WO: Append word, per path. -/
def R.UPD_BLK_DATA : Nat := 0x70074
/-- `UPD_BLK_SUBMIT`, WO: [0] GO, per path. -/
def R.UPD_BLK_SUBMIT : Nat := 0x70078
/-- `UPD_BLK_STATUS`, RO: Block result, per path. -/
def R.UPD_BLK_STATUS : Nat := 0x7007C
/-- `SEC_STATUS`, RO: Fuses and keys. -/
def R.SEC_STATUS : Nat := 0x70100
/-- `SEC_CHAIN_VER`, RO: Current key VERSION; 0 if none. -/
def R.SEC_CHAIN_VER : Nat := 0x70104
/-- `SEC_WALL_VER`, RO: Current key VERSION; 0 if none. -/
def R.SEC_WALL_VER : Nat := 0x70108
/-- `SEC_DEV_PUBKEYw`, RO: w = 0 to 24; bytes 4w to 4w + 3, byte 4w in [7:0]; bytes beyond 96 read 0. -/
def R.SEC_DEV_PUBKEYw (w : Nat) : Nat := 0x70180 + 0x4 * w
/-- `SEC_ROOTs_HASHw`, RO: Slot s, w = 0 to 11; hash bytes 4w to 4w + 3, byte 4w in [7:0]. -/
def R.SEC_ROOTs_HASHw (s : Nat) (w : Nat) : Nat := 0x70200 + 0x40 * s + 0x4 * w
/-- `UPD_IRQ_STATUS`, W1C: Interrupt events. -/
def R.UPD_IRQ_STATUS : Nat := 0x77FF0
/-- `UPD_IRQ_EN`, RW: Enables for UPD_IRQ_STATUS. -/
def R.UPD_IRQ_EN : Nat := 0x77FF4
/-- `BST_STATUS`, RO: Test in progress. -/
def R.BST_STATUS : Nat := 0x80000
/-- `BST_ERR`, W1C: Sticky errors. -/
def R.BST_ERR : Nat := 0x80004
/-- `BST_CMD`, WO: Start a test. -/
def R.BST_CMD : Nat := 0x80008
/-- `BST_DRAM_BASE_LO`, RW: Range base, bits [39:0], aligned to 1 MiB. -/
def R.BST_DRAM_BASE_LO : Nat := 0x80010
/-- `BST_DRAM_BASE_HI`, RW: Range base, bits [39:0], aligned to 1 MiB. -/
def R.BST_DRAM_BASE_HI : Nat := 0x80014
/-- `BST_DRAM_LEN`, RW: [23:0] MiB. -/
def R.BST_DRAM_LEN : Nat := 0x80018
/-- `BST_RESULT`, RO: Result of the last test. -/
def R.BST_RESULT : Nat := 0x80020
/-- `BST_FAIL_ADDR_LO`, RO: First failing location (R478). -/
def R.BST_FAIL_ADDR_LO : Nat := 0x80024
/-- `BST_FAIL_ADDR_HI`, RO: First failing location (R478). -/
def R.BST_FAIL_ADDR_HI : Nat := 0x80028
/-- `BST_FAIL_BIT`, RO: Bit and count. -/
def R.BST_FAIL_BIT : Nat := 0x8002C
/-- `BST_REPAIR`, RO: Repairs. -/
def R.BST_REPAIR : Nat := 0x80030
/-- `BST_IRQ_STATUS`, W1C: Interrupt events. -/
def R.BST_IRQ_STATUS : Nat := 0x87FF0
/-- `BST_IRQ_EN`, RW: Enables for BST_IRQ_STATUS. -/
def R.BST_IRQ_EN : Nat := 0x87FF4
/-- `FLT_STATUS`, RO: Log state. -/
def R.FLT_STATUS : Nat := 0x300000
/-- `FLT_ERR`, W1C: Sticky errors. -/
def R.FLT_ERR : Nat := 0x300004
/-- `FLT_CMD`, WO: Clear and export. -/
def R.FLT_CMD : Nat := 0x300008
/-- `FLT_SINCE_RESET`, RO: Entries accepted since the last reset. -/
def R.FLT_SINCE_RESET : Nat := 0x30000C
/-- `FLT_NEXT_SEQ`, RO: SEQ of the next entry. -/
def R.FLT_NEXT_SEQ : Nat := 0x300010
/-- `FLT_OLDEST_SEQ`, RO: SEQ of the oldest entry in the log. -/
def R.FLT_OLDEST_SEQ : Nat := 0x300014
/-- `FLT_CLEAR_COUNT`, RO: CLEAR_COUNT in force. -/
def R.FLT_CLEAR_COUNT : Nat := 0x300018
/-- `FLT_RD_SEQ`, RW: Entry to present. -/
def R.FLT_RD_SEQ : Nat := 0x300020
/-- `FLT_RD_STATUS`, RO: State of the presented entry. -/
def R.FLT_RD_STATUS : Nat := 0x300024
/-- `FLT_RD_DATAw`, RO: w = 0 to 7: entry bytes 4w to 4w + 3. -/
def R.FLT_RD_DATAw (w : Nat) : Nat := 0x300040 + 0x4 * w
/-- `FLT_EXPORT_BASE_LO`, RW: Export base, bits [39:0]. -/
def R.FLT_EXPORT_BASE_LO : Nat := 0x300060
/-- `FLT_EXPORT_BASE_HI`, RW: Export base, bits [39:0]. -/
def R.FLT_EXPORT_BASE_HI : Nat := 0x300064
/-- `FLT_EXPORT_COUNT`, RO: Records written by the last export. -/
def R.FLT_EXPORT_COUNT : Nat := 0x300068
/-- `FLT_CNT_Ei`, RC: i = 0 LOST, 1 WRITE_RETRY, 2 CORRUPT. -/
def R.FLT_CNT_Ei (i : Nat) : Nat := 0x300080 + 0x4 * i
/-- `FLT_IRQ_STATUS`, W1C: Interrupt events. -/
def R.FLT_IRQ_STATUS : Nat := 0x307FF0
/-- `FLT_IRQ_EN`, RW: Enables for FLT_IRQ_STATUS. -/
def R.FLT_IRQ_EN : Nat := 0x307FF4

end Sys2Proof.Machine
end

