-- ==== Sys2Proof/Machine/Fields.lean ====
section
/-!
DEFINITION. The fields of the registers, one definition per row of the spec's field tables: register, highest bit,
lowest bit. A register that is one 32-bit value has one field of the register's own name.
-/

namespace Sys2Proof.Machine

def F.SYS_PART_ID_PART : Fld := ⟨R.SYS_PART_ID, 31, 0⟩
def F.SYS_REV_MAJOR : Fld := ⟨R.SYS_REV, 7, 4⟩
def F.SYS_REV_MINOR : Fld := ⟨R.SYS_REV, 3, 0⟩
def F.SYS_VARIANT_HEAD_ALLOWED : Fld := ⟨R.SYS_VARIANT, 5, 5⟩
def F.SYS_VARIANT_TEMP_GRADE : Fld := ⟨R.SYS_VARIANT, 4, 4⟩
def F.SYS_VARIANT_DRAM_CFG : Fld := ⟨R.SYS_VARIANT, 3, 0⟩
def F.SYS_ROLE_ROLE : Fld := ⟨R.SYS_ROLE, 1, 0⟩
def F.SYS_SERIAL_LO_SERIAL : Fld := ⟨R.SYS_SERIAL_LO, 31, 0⟩
def F.SYS_SERIAL_HI_SERIAL : Fld := ⟨R.SYS_SERIAL_HI, 31, 0⟩
def F.SYS_RESET_CMD_KEY : Fld := ⟨R.SYS_RESET_CMD, 31, 16⟩
def F.SYS_RESET_CMD_WARM : Fld := ⟨R.SYS_RESET_CMD, 0, 0⟩
def F.SYS_RESET_CAUSE_CAUSE : Fld := ⟨R.SYS_RESET_CAUSE, 1, 0⟩
def F.SYS_WDT_CTRL_EN : Fld := ⟨R.SYS_WDT_CTRL, 31, 31⟩
def F.SYS_WDT_CTRL_TIMEOUT_MS : Fld := ⟨R.SYS_WDT_CTRL, 15, 0⟩
def F.SYS_WDT_KICK_KEY : Fld := ⟨R.SYS_WDT_KICK, 7, 0⟩
def F.SYS_WDT_STATUS_REMAIN_MS : Fld := ⟨R.SYS_WDT_STATUS, 15, 0⟩
def F.SYS_IRQ_STATUS_WDT_WARN : Fld := ⟨R.SYS_IRQ_STATUS, 0, 0⟩
def F.SYS_IRQ_EN_WDT_WARN : Fld := ⟨R.SYS_IRQ_EN, 0, 0⟩
def F.HIF_CTRL_IBI_EN : Fld := ⟨R.HIF_CTRL, 2, 2⟩
def F.HIF_CTRL_FORWARD_EN : Fld := ⟨R.HIF_CTRL, 1, 1⟩
def F.HIF_CTRL_UDP_EN : Fld := ⟨R.HIF_CTRL, 0, 0⟩
def F.HIF_NODE_ID_NODE : Fld := ⟨R.HIF_NODE_ID, 17, 0⟩
def F.HIF_ERR_DMA : Fld := ⟨R.HIF_ERR, 7, 7⟩
def F.HIF_ERR_POOL_FULL : Fld := ⟨R.HIF_ERR, 6, 6⟩
def F.HIF_ERR_RING_FULL : Fld := ⟨R.HIF_ERR, 5, 5⟩
def F.HIF_ERR_REPLAY : Fld := ⟨R.HIF_ERR, 4, 4⟩
def F.HIF_ERR_AUTH : Fld := ⟨R.HIF_ERR, 3, 3⟩
def F.HIF_ERR_UNDERRUN : Fld := ⟨R.HIF_ERR, 2, 2⟩
def F.HIF_ERR_FRAME : Fld := ⟨R.HIF_ERR, 1, 1⟩
def F.HIF_ERR_ADDR : Fld := ⟨R.HIF_ERR, 0, 0⟩
def F.HIF_I3C_STATUS_STATIC_ADDR : Fld := ⟨R.HIF_I3C_STATUS, 22, 16⟩
def F.HIF_I3C_STATUS_HDR : Fld := ⟨R.HIF_I3C_STATUS, 9, 9⟩
def F.HIF_I3C_STATUS_IBI_ENABLED : Fld := ⟨R.HIF_I3C_STATUS, 8, 8⟩
def F.HIF_I3C_STATUS_DA_VALID : Fld := ⟨R.HIF_I3C_STATUS, 7, 7⟩
def F.HIF_I3C_STATUS_DA : Fld := ⟨R.HIF_I3C_STATUS, 6, 0⟩
def F.HIF_I3C_PID_LO_PID : Fld := ⟨R.HIF_I3C_PID_LO, 31, 0⟩
def F.HIF_I3C_PID_HI_PID : Fld := ⟨R.HIF_I3C_PID_HI, 15, 0⟩
def F.HIF_UDP_PORT_PORT : Fld := ⟨R.HIF_UDP_PORT, 15, 0⟩
def F.HIF_IRQ_PEND_LO : Fld := ⟨R.HIF_IRQ_PEND_LO, 31, 0⟩
def F.HIF_IRQ_PEND_HI : Fld := ⟨R.HIF_IRQ_PEND_HI, 31, 0⟩
def F.HIF_IBI_EN_LO : Fld := ⟨R.HIF_IBI_EN_LO, 31, 0⟩
def F.HIF_IBI_EN_HI : Fld := ⟨R.HIF_IBI_EN_HI, 31, 0⟩
def F.HIF_ALERT_EN_LO : Fld := ⟨R.HIF_ALERT_EN_LO, 31, 0⟩
def F.HIF_ALERT_EN_HI : Fld := ⟨R.HIF_ALERT_EN_HI, 31, 0⟩
def F.HIF_NOTIFY_EN_LO : Fld := ⟨R.HIF_NOTIFY_EN_LO, 31, 0⟩
def F.HIF_NOTIFY_EN_HI : Fld := ⟨R.HIF_NOTIFY_EN_HI, 31, 0⟩
def F.HIF_NOTIFY_NODE_NODE : Fld := ⟨R.HIF_NOTIFY_NODE, 17, 0⟩
def F.HIF_RING_CTRL_IDLE_S : Fld := ⟨R.HIF_RING_CTRL, 15, 8⟩
def F.HIF_RING_CTRL_DEPTH : Fld := ⟨R.HIF_RING_CTRL, 1, 0⟩
def F.HIF_RING_POOL_LO_BASE : Fld := ⟨R.HIF_RING_POOL_LO, 31, 0⟩
def F.HIF_RING_POOL_HI_BASE : Fld := ⟨R.HIF_RING_POOL_HI, 7, 0⟩
def F.HIF_RING_POOL_SIZE_MIB : Fld := ⟨R.HIF_RING_POOL_SIZE, 15, 0⟩
def F.HIF_RING_STATUS_POPULATED : Fld := ⟨R.HIF_RING_STATUS, 18, 0⟩
def F.HIF_RING_POOL_USED_PAGES : Fld := ⟨R.HIF_RING_POOL_USED, 23, 0⟩
def F.HIF_RX_SEL_NODE : Fld := ⟨R.HIF_RX_SEL, 17, 0⟩
def F.HIF_RX_INFO_LENGTH : Fld := ⟨R.HIF_RX_INFO, 24, 16⟩
def F.HIF_RX_INFO_TYPE : Fld := ⟨R.HIF_RX_INFO, 15, 8⟩
def F.HIF_RX_INFO_VALID : Fld := ⟨R.HIF_RX_INFO, 0, 0⟩
def F.HIF_RX_SRC_NODE : Fld := ⟨R.HIF_RX_SRC, 17, 0⟩
def F.HIF_RX_DATA_DATA : Fld := ⟨R.HIF_RX_DATA, 31, 0⟩
def F.HIF_RX_POP_POP : Fld := ⟨R.HIF_RX_POP, 0, 0⟩
def F.HIF_TX_DATA_DATA : Fld := ⟨R.HIF_TX_DATA, 31, 0⟩
def F.HIF_TX_CMD_TYPE : Fld := ⟨R.HIF_TX_CMD, 25, 18⟩
def F.HIF_TX_CMD_DEST : Fld := ⟨R.HIF_TX_CMD, 17, 0⟩
def F.HIF_TX_STATUS_WORDS : Fld := ⟨R.HIF_TX_STATUS, 13, 8⟩
def F.HIF_TX_STATUS_RESULT : Fld := ⟨R.HIF_TX_STATUS, 2, 0⟩
def F.HIF_DROP_DEST : Fld := ⟨R.HIF_DROP_DEST, 31, 0⟩
def F.HIF_DROP_AUTH : Fld := ⟨R.HIF_DROP_AUTH, 31, 0⟩
def F.HIF_DROP_REPLAY : Fld := ⟨R.HIF_DROP_REPLAY, 31, 0⟩
def F.HIF_DROP_FULL : Fld := ⟨R.HIF_DROP_FULL, 31, 0⟩
def F.HIF_DROP_POOL : Fld := ⟨R.HIF_DROP_POOL, 31, 0⟩
def F.HIF_DROP_TYPE : Fld := ⟨R.HIF_DROP_TYPE, 31, 0⟩
def F.HIF_DUP_COUNT : Fld := ⟨R.HIF_DUP_COUNT, 31, 0⟩
def F.HIF_EXPORT_BASE_LO : Fld := ⟨R.HIF_EXPORT_BASE_LO, 31, 0⟩
def F.HIF_EXPORT_BASE_HI_BASE : Fld := ⟨R.HIF_EXPORT_BASE_HI, 7, 0⟩
def F.HIF_EXPORT_SIZE : Fld := ⟨R.HIF_EXPORT_SIZE, 31, 0⟩
def F.HIF_DMAn_SRC_NODE_NODE (n : Nat) : Fld := ⟨R.HIF_DMAn_SRC_NODE n, 17, 0⟩
def F.HIF_DMAn_SRC_LO (n : Nat) : Fld := ⟨R.HIF_DMAn_SRC_LO n, 31, 0⟩
def F.HIF_DMAn_SRC_HI (n : Nat) : Fld := ⟨R.HIF_DMAn_SRC_HI n, 31, 0⟩
def F.HIF_DMAn_DST_LO (n : Nat) : Fld := ⟨R.HIF_DMAn_DST_LO n, 31, 0⟩
def F.HIF_DMAn_DST_HI_DST (n : Nat) : Fld := ⟨R.HIF_DMAn_DST_HI n, 7, 0⟩
def F.HIF_DMAn_LEN (n : Nat) : Fld := ⟨R.HIF_DMAn_LEN n, 31, 0⟩
def F.HIF_DMAn_CMD_ABORT (n : Nat) : Fld := ⟨R.HIF_DMAn_CMD n, 1, 1⟩
def F.HIF_DMAn_CMD_START (n : Nat) : Fld := ⟨R.HIF_DMAn_CMD n, 0, 0⟩
def F.HIF_DMAn_STATUS_ERR (n : Nat) : Fld := ⟨R.HIF_DMAn_STATUS n, 15, 8⟩
def F.HIF_DMAn_STATUS_STATE (n : Nat) : Fld := ⟨R.HIF_DMAn_STATUS n, 1, 0⟩
def F.HIF_IRQ_STATUS_DMA_ERR : Fld := ⟨R.HIF_IRQ_STATUS, 3, 3⟩
def F.HIF_IRQ_STATUS_DMA_DONE : Fld := ⟨R.HIF_IRQ_STATUS, 2, 2⟩
def F.HIF_IRQ_STATUS_ERR : Fld := ⟨R.HIF_IRQ_STATUS, 1, 1⟩
def F.HIF_IRQ_STATUS_RX_AVAIL : Fld := ⟨R.HIF_IRQ_STATUS, 0, 0⟩
def F.HIF_IRQ_EN_DMA_ERR : Fld := ⟨R.HIF_IRQ_EN, 3, 3⟩
def F.HIF_IRQ_EN_DMA_DONE : Fld := ⟨R.HIF_IRQ_EN, 2, 2⟩
def F.HIF_IRQ_EN_ERR : Fld := ⟨R.HIF_IRQ_EN, 1, 1⟩
def F.HIF_IRQ_EN_RX_AVAIL : Fld := ⟨R.HIF_IRQ_EN, 0, 0⟩
def F.CFG_BOOT_STATUS_BOOT_SEL : Fld := ⟨R.CFG_BOOT_STATUS, 11, 10⟩
def F.CFG_BOOT_STATUS_SLOT : Fld := ⟨R.CFG_BOOT_STATUS, 9, 8⟩
def F.CFG_BOOT_STATUS_STAGE : Fld := ⟨R.CFG_BOOT_STATUS, 3, 0⟩
def F.CFG_BOOT_SLOT_RESULT_GOLDEN : Fld := ⟨R.CFG_BOOT_SLOT_RESULT, 23, 16⟩
def F.CFG_BOOT_SLOT_RESULT_B : Fld := ⟨R.CFG_BOOT_SLOT_RESULT, 15, 8⟩
def F.CFG_BOOT_SLOT_RESULT_A : Fld := ⟨R.CFG_BOOT_SLOT_RESULT, 7, 0⟩
def F.CFG_ERR_CMD : Fld := ⟨R.CFG_ERR, 16, 16⟩
def F.CFG_ERR_LATE_COMMIT : Fld := ⟨R.CFG_ERR, 15, 15⟩
def F.CFG_ERR_NOROLE : Fld := ⟨R.CFG_ERR, 14, 14⟩
def F.CFG_ERR_RANGE : Fld := ⟨R.CFG_ERR, 13, 13⟩
def F.CFG_ERR_MISSED : Fld := ⟨R.CFG_ERR, 12, 12⟩
def F.CFG_ERR_BUSY : Fld := ⟨R.CFG_ERR, 11, 11⟩
def F.CFG_ERR_PAIR : Fld := ⟨R.CFG_ERR, 10, 10⟩
def F.CFG_ERR_PR_SECTION : Fld := ⟨R.CFG_ERR, 9, 9⟩
def F.CFG_ERR_BASE : Fld := ⟨R.CFG_ERR, 8, 8⟩
def F.CFG_ERR_ROLE : Fld := ⟨R.CFG_ERR, 7, 7⟩
def F.CFG_ERR_TOPO : Fld := ⟨R.CFG_ERR, 6, 6⟩
def F.CFG_ERR_BOOTSEL_RSVD : Fld := ⟨R.CFG_ERR, 5, 5⟩
def F.CFG_ERR_BOOT_NONE : Fld := ⟨R.CFG_ERR, 4, 4⟩
def F.CFG_ERR_SECTION : Fld := ⟨R.CFG_ERR, 3, 3⟩
def F.CFG_ERR_ROLLBACK : Fld := ⟨R.CFG_ERR, 2, 2⟩
def F.CFG_ERR_SIG : Fld := ⟨R.CFG_ERR, 1, 1⟩
def F.CFG_ERR_HDR : Fld := ⟨R.CFG_ERR, 0, 0⟩
def F.CFG_BUILD_ID_LO : Fld := ⟨R.CFG_BUILD_ID_LO, 31, 0⟩
def F.CFG_BUILD_ID_HI : Fld := ⟨R.CFG_BUILD_ID_HI, 31, 0⟩
def F.CFG_PR_APPLIED : Fld := ⟨R.CFG_PR_APPLIED, 31, 0⟩
def F.CFG_LATE_COUNT : Fld := ⟨R.CFG_LATE_COUNT, 31, 0⟩
def F.CFG_REJECT_COUNT : Fld := ⟨R.CFG_REJECT_COUNT, 31, 0⟩
def F.CFG_COMMIT_TXN_TXN : Fld := ⟨R.CFG_COMMIT_TXN, 15, 0⟩
def F.CFG_COMMIT_TARGET_LO : Fld := ⟨R.CFG_COMMIT_TARGET_LO, 31, 0⟩
def F.CFG_COMMIT_TARGET_HI : Fld := ⟨R.CFG_COMMIT_TARGET_HI, 31, 0⟩
def F.CFG_COMMIT_CMD_OP : Fld := ⟨R.CFG_COMMIT_CMD, 10, 8⟩
def F.CFG_COMMIT_CMD_GROUP : Fld := ⟨R.CFG_COMMIT_CMD, 7, 0⟩
def F.CFG_COMMIT_STATUS_CODE : Fld := ⟨R.CFG_COMMIT_STATUS, 31, 16⟩
def F.CFG_COMMIT_STATUS_STAGES : Fld := ⟨R.CFG_COMMIT_STATUS, 10, 8⟩
def F.CFG_COMMIT_STATUS_RESULT : Fld := ⟨R.CFG_COMMIT_STATUS, 3, 0⟩
def F.CFG_COMMIT_WFN_LO : Fld := ⟨R.CFG_COMMIT_WFN_LO, 31, 0⟩
def F.CFG_COMMIT_WFN_HI : Fld := ⟨R.CFG_COMMIT_WFN_HI, 31, 0⟩
def F.CFG_PR_SRC_LO : Fld := ⟨R.CFG_PR_SRC_LO, 31, 0⟩
def F.CFG_PR_SRC_HI_SRC : Fld := ⟨R.CFG_PR_SRC_HI, 7, 0⟩
def F.CFG_PR_LEN : Fld := ⟨R.CFG_PR_LEN, 31, 0⟩
def F.CFG_PR_CMD_OP : Fld := ⟨R.CFG_PR_CMD, 1, 0⟩
def F.CFG_PR_TARGET_LO : Fld := ⟨R.CFG_PR_TARGET_LO, 31, 0⟩
def F.CFG_PR_TARGET_HI : Fld := ⟨R.CFG_PR_TARGET_HI, 31, 0⟩
def F.CFG_PR_STATUS_CODE : Fld := ⟨R.CFG_PR_STATUS, 31, 16⟩
def F.CFG_PR_STATUS_STATE : Fld := ⟨R.CFG_PR_STATUS, 2, 0⟩
def F.CFG_GRPg_STATUS_LAST_WFN (g : Nat) : Fld := ⟨R.CFG_GRPg_STATUS g, 31, 16⟩
def F.CFG_GRPg_STATUS_STAGES (g : Nat) : Fld := ⟨R.CFG_GRPg_STATUS g, 10, 8⟩
def F.CFG_GRPg_STATUS_LAST_CODE (g : Nat) : Fld := ⟨R.CFG_GRPg_STATUS g, 7, 0⟩
def F.CFG_IRQ_STATUS_ERR : Fld := ⟨R.CFG_IRQ_STATUS, 6, 6⟩
def F.CFG_IRQ_STATUS_PR_ERROR : Fld := ⟨R.CFG_IRQ_STATUS, 5, 5⟩
def F.CFG_IRQ_STATUS_PR_DONE : Fld := ⟨R.CFG_IRQ_STATUS, 4, 4⟩
def F.CFG_IRQ_STATUS_PR_READY : Fld := ⟨R.CFG_IRQ_STATUS, 3, 3⟩
def F.CFG_IRQ_STATUS_LATE : Fld := ⟨R.CFG_IRQ_STATUS, 2, 2⟩
def F.CFG_IRQ_STATUS_REJECT : Fld := ⟨R.CFG_IRQ_STATUS, 1, 1⟩
def F.CFG_IRQ_STATUS_INSTALLED : Fld := ⟨R.CFG_IRQ_STATUS, 0, 0⟩
def F.CFG_IRQ_EN_ERR : Fld := ⟨R.CFG_IRQ_EN, 6, 6⟩
def F.CFG_IRQ_EN_PR_ERROR : Fld := ⟨R.CFG_IRQ_EN, 5, 5⟩
def F.CFG_IRQ_EN_PR_DONE : Fld := ⟨R.CFG_IRQ_EN, 4, 4⟩
def F.CFG_IRQ_EN_PR_READY : Fld := ⟨R.CFG_IRQ_EN, 3, 3⟩
def F.CFG_IRQ_EN_LATE : Fld := ⟨R.CFG_IRQ_EN, 2, 2⟩
def F.CFG_IRQ_EN_REJECT : Fld := ⟨R.CFG_IRQ_EN, 1, 1⟩
def F.CFG_IRQ_EN_INSTALLED : Fld := ⟨R.CFG_IRQ_EN, 0, 0⟩
def F.ETHn_CTRL_AN_EN (n : Nat) : Fld := ⟨R.ETHn_CTRL n, 5, 5⟩
def F.ETHn_CTRL_FEC_EN (n : Nat) : Fld := ⟨R.ETHn_CTRL n, 4, 4⟩
def F.ETHn_CTRL_MODE (n : Nat) : Fld := ⟨R.ETHn_CTRL n, 3, 1⟩
def F.ETHn_CTRL_EN (n : Nat) : Fld := ⟨R.ETHn_CTRL n, 0, 0⟩
def F.ETHn_STATUS_REMOTE_FAULT (n : Nat) : Fld := ⟨R.ETHn_STATUS n, 9, 9⟩
def F.ETHn_STATUS_LOCAL_FAULT (n : Nat) : Fld := ⟨R.ETHn_STATUS n, 8, 8⟩
def F.ETHn_STATUS_EEE_AGREED (n : Nat) : Fld := ⟨R.ETHn_STATUS n, 7, 7⟩
def F.ETHn_STATUS_LPI_RX (n : Nat) : Fld := ⟨R.ETHn_STATUS n, 6, 6⟩
def F.ETHn_STATUS_LPI_TX (n : Nat) : Fld := ⟨R.ETHn_STATUS n, 5, 5⟩
def F.ETHn_STATUS_ALIGNED (n : Nat) : Fld := ⟨R.ETHn_STATUS n, 4, 4⟩
def F.ETHn_STATUS_LINK (n : Nat) : Fld := ⟨R.ETHn_STATUS n, 3, 0⟩
def F.ETHn_ERR_TX_DROP (n : Nat) : Fld := ⟨R.ETHn_ERR n, 3, 3⟩
def F.ETHn_ERR_FEC_UNCORR (n : Nat) : Fld := ⟨R.ETHn_ERR n, 2, 2⟩
def F.ETHn_ERR_RX_OVERRUN (n : Nat) : Fld := ⟨R.ETHn_ERR n, 1, 1⟩
def F.ETHn_ERR_LINK_DOWN (n : Nat) : Fld := ⟨R.ETHn_ERR n, 0, 0⟩
def F.ETHn_MAC_LO (n : Nat) : Fld := ⟨R.ETHn_MAC_LO n, 31, 0⟩
def F.ETHn_MAC_HI_MAC (n : Nat) : Fld := ⟨R.ETHn_MAC_HI n, 15, 0⟩
def F.ETHn_MAX_FRAME_BYTES (n : Nat) : Fld := ⟨R.ETHn_MAX_FRAME n, 13, 0⟩
def F.ETHn_TX_PCP_VID (n : Nat) : Fld := ⟨R.ETHn_TX_PCP n, 27, 16⟩
def F.ETHn_TX_PCP_TAG (n : Nat) : Fld := ⟨R.ETHn_TX_PCP n, 15, 15⟩
def F.ETHn_TX_PCP_MSG (n : Nat) : Fld := ⟨R.ETHn_TX_PCP n, 10, 8⟩
def F.ETHn_TX_PCP_PTP (n : Nat) : Fld := ⟨R.ETHn_TX_PCP n, 6, 4⟩
def F.ETHn_TX_PCP_VIDEO (n : Nat) : Fld := ⟨R.ETHn_TX_PCP n, 2, 0⟩
def F.ETHn_FC_CTRL_PFC_EN (n : Nat) : Fld := ⟨R.ETHn_FC_CTRL n, 9, 9⟩
def F.ETHn_FC_CTRL_PAUSE_EN (n : Nat) : Fld := ⟨R.ETHn_FC_CTRL n, 8, 8⟩
def F.ETHn_FC_CTRL_RESPOND (n : Nat) : Fld := ⟨R.ETHn_FC_CTRL n, 7, 0⟩
def F.ETHn_FC_STATUS_PAUSED (n : Nat) : Fld := ⟨R.ETHn_FC_STATUS n, 7, 0⟩
def F.ETHn_EEE_IDLE_US (n : Nat) : Fld := ⟨R.ETHn_EEE n, 15, 8⟩
def F.ETHn_EEE_EN (n : Nat) : Fld := ⟨R.ETHn_EEE n, 0, 0⟩
def F.ETHn_EEE_STATUS_LLDP_SEEN (n : Nat) : Fld := ⟨R.ETHn_EEE_STATUS n, 16, 16⟩
def F.ETHn_EEE_STATUS_TW_TX_NS (n : Nat) : Fld := ⟨R.ETHn_EEE_STATUS n, 15, 0⟩
def F.ETHn_IP4 (n : Nat) : Fld := ⟨R.ETHn_IP4 n, 31, 0⟩
def F.ETHn_GW4 (n : Nat) : Fld := ⟨R.ETHn_GW4 n, 31, 0⟩
def F.ETHn_IP_CFG_PREFIX6 (n : Nat) : Fld := ⟨R.ETHn_IP_CFG n, 14, 8⟩
def F.ETHn_IP_CFG_PREFIX4 (n : Nat) : Fld := ⟨R.ETHn_IP_CFG n, 5, 0⟩
def F.ETHn_IP6w (n : Nat) (w : Nat) : Fld := ⟨R.ETHn_IP6w n w, 31, 0⟩
def F.ETHn_GW6w (n : Nat) (w : Nat) : Fld := ⟨R.ETHn_GW6w n w, 31, 0⟩
def F.ETHn_WAKE_CTRL_LAST (n : Nat) : Fld := ⟨R.ETHn_WAKE_CTRL n, 14, 12⟩
def F.ETHn_WAKE_CTRL_EN (n : Nat) : Fld := ⟨R.ETHn_WAKE_CTRL n, 8, 8⟩
def F.ETHn_WAKE_CTRL_UCAST (n : Nat) : Fld := ⟨R.ETHn_WAKE_CTRL n, 4, 4⟩
def F.ETHn_WAKE_CTRL_PAT_EN (n : Nat) : Fld := ⟨R.ETHn_WAKE_CTRL n, 3, 0⟩
def F.ETHn_WAKEp_DATAw (n : Nat) (p : Nat) (w : Nat) : Fld := ⟨R.ETHn_WAKEp_DATAw n p w, 31, 0⟩
def F.ETHn_WAKEp_MASKw (n : Nat) (p : Nat) (w : Nat) : Fld := ⟨R.ETHn_WAKEp_MASKw n p w, 31, 0⟩
def F.ETHn_CNT_Ti_LO (n : Nat) (i : Nat) : Fld := ⟨R.ETHn_CNT_Ti_LO n i, 31, 0⟩
def F.ETHn_CNT_Ti_HI (n : Nat) (i : Nat) : Fld := ⟨R.ETHn_CNT_Ti_HI n i, 31, 0⟩
def F.ETHn_CNT_Ei (n : Nat) (i : Nat) : Fld := ⟨R.ETHn_CNT_Ei n i, 31, 0⟩
def F.ETHn_IRQ_STATUS_ERR (n : Nat) : Fld := ⟨R.ETHn_IRQ_STATUS n, 1, 1⟩
def F.ETHn_IRQ_STATUS_LINK_CHANGE (n : Nat) : Fld := ⟨R.ETHn_IRQ_STATUS n, 0, 0⟩
def F.ETHn_IRQ_EN_ERR (n : Nat) : Fld := ⟨R.ETHn_IRQ_EN n, 1, 1⟩
def F.ETHn_IRQ_EN_LINK_CHANGE (n : Nat) : Fld := ⟨R.ETHn_IRQ_EN n, 0, 0⟩
def F.ING_STATUS_PX_RATE : Fld := ⟨R.ING_STATUS, 12, 0⟩
def F.ING_ERR_RATE : Fld := ⟨R.ING_ERR, 0, 0⟩
def F.ING_MCAST_CTRL_UNSOL_100MS : Fld := ⟨R.ING_MCAST_CTRL, 15, 8⟩
def F.ING_MCAST_CTRL_ROBUST : Fld := ⟨R.ING_MCAST_CTRL, 3, 0⟩
def F.ING_MON_CTRL_DSCP : Fld := ⟨R.ING_MON_CTRL, 29, 24⟩
def F.ING_MON_CTRL_PT : Fld := ⟨R.ING_MON_CTRL, 22, 16⟩
def F.ING_MON_CTRL_IPV6 : Fld := ⟨R.ING_MON_CTRL, 3, 3⟩
def F.ING_MON_CTRL_PATH_B : Fld := ⟨R.ING_MON_CTRL, 2, 2⟩
def F.ING_MON_CTRL_PATH_A : Fld := ⟨R.ING_MON_CTRL, 1, 1⟩
def F.ING_MON_CTRL_EN : Fld := ⟨R.ING_MON_CTRL, 0, 0⟩
def F.ING_MON_PORT_PORT : Fld := ⟨R.ING_MON_PORT, 15, 0⟩
def F.ING_MON_GRP_Aw (w : Nat) : Fld := ⟨R.ING_MON_GRP_Aw w, 31, 0⟩
def F.ING_MON_GRP_Bw (w : Nat) : Fld := ⟨R.ING_MON_GRP_Bw w, 31, 0⟩
def F.ING_STRs_CTRL_PT (s : Nat) : Fld := ⟨R.ING_STRs_CTRL s, 22, 16⟩
def F.ING_STRs_CTRL_FORMAT (s : Nat) : Fld := ⟨R.ING_STRs_CTRL s, 11, 8⟩
def F.ING_STRs_CTRL_SSM (s : Nat) : Fld := ⟨R.ING_STRs_CTRL s, 5, 5⟩
def F.ING_STRs_CTRL_IPV6 (s : Nat) : Fld := ⟨R.ING_STRs_CTRL s, 4, 4⟩
def F.ING_STRs_CTRL_OCS (s : Nat) : Fld := ⟨R.ING_STRs_CTRL s, 3, 3⟩
def F.ING_STRs_CTRL_PATH_B (s : Nat) : Fld := ⟨R.ING_STRs_CTRL s, 2, 2⟩
def F.ING_STRs_CTRL_PATH_A (s : Nat) : Fld := ⟨R.ING_STRs_CTRL s, 1, 1⟩
def F.ING_STRs_CTRL_EN (s : Nat) : Fld := ⟨R.ING_STRs_CTRL s, 0, 0⟩
def F.ING_STRs_PORTS_UDP_A (s : Nat) : Fld := ⟨R.ING_STRs_PORTS s, 15, 0⟩
def F.ING_STRs_PORTS_UDP_B (s : Nat) : Fld := ⟨R.ING_STRs_PORTS s, 31, 16⟩
def F.ING_STRs_SRC_SIZE_W (s : Nat) : Fld := ⟨R.ING_STRs_SRC_SIZE s, 13, 0⟩
def F.ING_STRs_SRC_SIZE_H (s : Nat) : Fld := ⟨R.ING_STRs_SRC_SIZE s, 29, 16⟩
def F.ING_STRs_CROP_XY_X0 (s : Nat) : Fld := ⟨R.ING_STRs_CROP_XY s, 13, 0⟩
def F.ING_STRs_CROP_XY_Y0 (s : Nat) : Fld := ⟨R.ING_STRs_CROP_XY s, 29, 16⟩
def F.ING_STRs_CROP_WH_W (s : Nat) : Fld := ⟨R.ING_STRs_CROP_WH s, 13, 0⟩
def F.ING_STRs_CROP_WH_H (s : Nat) : Fld := ⟨R.ING_STRs_CROP_WH s, 29, 16⟩
def F.ING_STRs_BUF_BASE_LO (s : Nat) : Fld := ⟨R.ING_STRs_BUF_BASE_LO s, 31, 0⟩
def F.ING_STRs_BUF_BASE_HI_BASE (s : Nat) : Fld := ⟨R.ING_STRs_BUF_BASE_HI s, 7, 0⟩
def F.ING_STRs_BUF_SIZE (s : Nat) : Fld := ⟨R.ING_STRs_BUF_SIZE s, 31, 0⟩
def F.ING_STRs_BUF_CFG_COUNT (s : Nat) : Fld := ⟨R.ING_STRs_BUF_CFG s, 3, 0⟩
def F.ING_STRs_BUF_CFG_SKEW_US (s : Nat) : Fld := ⟨R.ING_STRs_BUF_CFG s, 29, 16⟩
def F.ING_STRs_GRP_Aw (s : Nat) (w : Nat) : Fld := ⟨R.ING_STRs_GRP_Aw s w, 31, 0⟩
def F.ING_STRs_SRC_Aw (s : Nat) (w : Nat) : Fld := ⟨R.ING_STRs_SRC_Aw s w, 31, 0⟩
def F.ING_STRs_GRP_Bw (s : Nat) (w : Nat) : Fld := ⟨R.ING_STRs_GRP_Bw s w, 31, 0⟩
def F.ING_STRs_SRC_Bw (s : Nat) (w : Nat) : Fld := ⟨R.ING_STRs_SRC_Bw s w, 31, 0⟩
def F.ING_STRs_STATUS_HELD (s : Nat) : Fld := ⟨R.ING_STRs_STATUS s, 15, 12⟩
def F.ING_STRs_STATUS_NEWEST (s : Nat) : Fld := ⟨R.ING_STRs_STATUS s, 11, 8⟩
def F.ING_STRs_STATUS_RECEIVING (s : Nat) : Fld := ⟨R.ING_STRs_STATUS s, 4, 4⟩
def F.ING_STRs_STATUS_JOINED_B (s : Nat) : Fld := ⟨R.ING_STRs_STATUS s, 3, 3⟩
def F.ING_STRs_STATUS_JOINED_A (s : Nat) : Fld := ⟨R.ING_STRs_STATUS s, 2, 2⟩
def F.ING_STRs_STATUS_PATH_B_UP (s : Nat) : Fld := ⟨R.ING_STRs_STATUS s, 1, 1⟩
def F.ING_STRs_STATUS_PATH_A_UP (s : Nat) : Fld := ⟨R.ING_STRs_STATUS s, 0, 0⟩
def F.ING_STRs_ERR_BOTH_DOWN (s : Nat) : Fld := ⟨R.ING_STRs_ERR s, 6, 6⟩
def F.ING_STRs_ERR_PATH_DOWN (s : Nat) : Fld := ⟨R.ING_STRs_ERR s, 5, 5⟩
def F.ING_STRs_ERR_BOUNDS (s : Nat) : Fld := ⟨R.ING_STRs_ERR s, 4, 4⟩
def F.ING_STRs_ERR_FRAME_DROP (s : Nat) : Fld := ⟨R.ING_STRs_ERR s, 3, 3⟩
def F.ING_STRs_ERR_LOSS (s : Nat) : Fld := ⟨R.ING_STRs_ERR s, 2, 2⟩
def F.ING_STRs_ERR_FORMAT (s : Nat) : Fld := ⟨R.ING_STRs_ERR s, 1, 1⟩
def F.ING_STRs_ERR_PT (s : Nat) : Fld := ⟨R.ING_STRs_ERR s, 0, 0⟩
def F.ING_STRs_STRIDE (s : Nat) : Fld := ⟨R.ING_STRs_STRIDE s, 31, 0⟩
def F.ING_STRs_SURF_BYTES (s : Nat) : Fld := ⟨R.ING_STRs_SURF_BYTES s, 31, 0⟩
def F.ING_STRs_CNT_Ti_LO (s : Nat) (i : Nat) : Fld := ⟨R.ING_STRs_CNT_Ti_LO s i, 31, 0⟩
def F.ING_STRs_CNT_Ti_HI (s : Nat) (i : Nat) : Fld := ⟨R.ING_STRs_CNT_Ti_HI s i, 31, 0⟩
def F.ING_STRs_CNT_Ei (s : Nat) (i : Nat) : Fld := ⟨R.ING_STRs_CNT_Ei s i, 31, 0⟩
def F.ING_IRQ_STATUS_PATH_CHANGE : Fld := ⟨R.ING_IRQ_STATUS, 1, 1⟩
def F.ING_IRQ_STATUS_ERR : Fld := ⟨R.ING_IRQ_STATUS, 0, 0⟩
def F.ING_IRQ_EN_PATH_CHANGE : Fld := ⟨R.ING_IRQ_EN, 1, 1⟩
def F.ING_IRQ_EN_ERR : Fld := ⟨R.ING_IRQ_EN, 0, 0⟩
def F.PTP_CTRL_CLASS_LIMIT : Fld := ⟨R.PTP_CTRL, 31, 24⟩
def F.PTP_CTRL_REVERT_S : Fld := ⟨R.PTP_CTRL, 23, 16⟩
def F.PTP_CTRL_SELECT : Fld := ⟨R.PTP_CTRL, 2, 2⟩
def F.PTP_CTRL_REVERT : Fld := ⟨R.PTP_CTRL, 1, 1⟩
def F.PTP_CTRL_AUTO : Fld := ⟨R.PTP_CTRL, 0, 0⟩
def F.PTP_STATUS_SLEWING : Fld := ⟨R.PTP_STATUS, 9, 9⟩
def F.PTP_STATUS_TIME_VALID : Fld := ⟨R.PTP_STATUS, 8, 8⟩
def F.PTP_STATUS_SOURCE : Fld := ⟨R.PTP_STATUS, 5, 4⟩
def F.PTP_STATUS_STATE : Fld := ⟨R.PTP_STATUS, 2, 0⟩
def F.PTP_ERR_SLEW_LARGE : Fld := ⟨R.PTP_ERR, 7, 7⟩
def F.PTP_ERR_DISAGREE : Fld := ⟨R.PTP_ERR, 6, 6⟩
def F.PTP_ERR_SWITCH : Fld := ⟨R.PTP_ERR, 5, 5⟩
def F.PTP_ERR_HOLDOVER : Fld := ⟨R.PTP_ERR, 4, 4⟩
def F.PTP_ERR_CHAIN_LOST : Fld := ⟨R.PTP_ERR, 3, 3⟩
def F.PTP_ERR_DOM_B_LOST : Fld := ⟨R.PTP_ERR, 2, 2⟩
def F.PTP_ERR_DOM_A_LOST : Fld := ⟨R.PTP_ERR, 1, 1⟩
def F.PTP_ERR_REFCLK_LOSS : Fld := ⟨R.PTP_ERR, 0, 0⟩
def F.PTP_STC_LO : Fld := ⟨R.PTP_STC_LO, 31, 0⟩
def F.PTP_STC_HI : Fld := ⟨R.PTP_STC_HI, 31, 0⟩
def F.PTP_RATE_RATE : Fld := ⟨R.PTP_RATE, 31, 0⟩
def F.PTP_DOMd_CFG_EN (d : Nat) : Fld := ⟨R.PTP_DOMd_CFG d, 31, 31⟩
def F.PTP_DOMd_CFG_PORTS (d : Nat) : Fld := ⟨R.PTP_DOMd_CFG d, 25, 24⟩
def F.PTP_DOMd_CFG_PROFILE (d : Nat) : Fld := ⟨R.PTP_DOMd_CFG d, 17, 16⟩
def F.PTP_DOMd_CFG_TRANSPORT (d : Nat) : Fld := ⟨R.PTP_DOMd_CFG d, 13, 12⟩
def F.PTP_DOMd_CFG_DOMAIN (d : Nat) : Fld := ⟨R.PTP_DOMd_CFG d, 7, 0⟩
def F.PTP_DOMd_STATUS_GM_CLASS (d : Nat) : Fld := ⟨R.PTP_DOMd_STATUS d, 31, 24⟩
def F.PTP_DOMd_STATUS_PORT (d : Nat) : Fld := ⟨R.PTP_DOMd_STATUS d, 8, 8⟩
def F.PTP_DOMd_STATUS_STATE (d : Nat) : Fld := ⟨R.PTP_DOMd_STATUS d, 1, 0⟩
def F.PTP_DOMd_OFFSET (d : Nat) : Fld := ⟨R.PTP_DOMd_OFFSET d, 31, 0⟩
def F.PTP_DOMd_GM_LO (d : Nat) : Fld := ⟨R.PTP_DOMd_GM_LO d, 31, 0⟩
def F.PTP_DOMd_GM_HI (d : Nat) : Fld := ⟨R.PTP_DOMd_GM_HI d, 31, 0⟩
def F.PTP_DOMd_PATH_DELAY (d : Nat) : Fld := ⟨R.PTP_DOMd_PATH_DELAY d, 31, 0⟩
def F.PTP_SERVO_MAX_SLEW_PPM : Fld := ⟨R.PTP_SERVO, 23, 16⟩
def F.PTP_SERVO_BW : Fld := ⟨R.PTP_SERVO, 3, 0⟩
def F.PTP_LOCK_UNLOCK_100NS : Fld := ⟨R.PTP_LOCK, 31, 24⟩
def F.PTP_LOCK_LOCK_COUNT : Fld := ⟨R.PTP_LOCK, 23, 16⟩
def F.PTP_LOCK_LOCK_NS : Fld := ⟨R.PTP_LOCK, 15, 0⟩
def F.PTP_ASYM0 : Fld := ⟨R.PTP_ASYM0, 31, 0⟩
def F.PTP_ASYM1 : Fld := ⟨R.PTP_ASYM1, 31, 0⟩
def F.PTP_DOM_DIFF : Fld := ⟨R.PTP_DOM_DIFF, 31, 0⟩
def F.PTP_REFCLK_MON_RETURN_10MS : Fld := ⟨R.PTP_REFCLK_MON, 27, 20⟩
def F.PTP_REFCLK_MON_AUTO_RETURN : Fld := ⟨R.PTP_REFCLK_MON, 16, 16⟩
def F.PTP_REFCLK_MON_GLITCH_PS : Fld := ⟨R.PTP_REFCLK_MON, 15, 0⟩
def F.PTP_REFCLK_STATUS_OFFSET : Fld := ⟨R.PTP_REFCLK_STATUS, 31, 16⟩
def F.PTP_REFCLK_STATUS_CAUSE : Fld := ⟨R.PTP_REFCLK_STATUS, 5, 4⟩
def F.PTP_REFCLK_STATUS_SOURCE : Fld := ⟨R.PTP_REFCLK_STATUS, 0, 0⟩
def F.PTP_REFCLK_GLITCH : Fld := ⟨R.PTP_REFCLK_GLITCH, 31, 0⟩
def F.PTP_LNK_DELAY0 : Fld := ⟨R.PTP_LNK_DELAY0, 31, 0⟩
def F.PTP_LNK_DELAY1 : Fld := ⟨R.PTP_LNK_DELAY1, 31, 0⟩
def F.PTP_IRQ_STATUS_SWITCH : Fld := ⟨R.PTP_IRQ_STATUS, 2, 2⟩
def F.PTP_IRQ_STATUS_ERR : Fld := ⟨R.PTP_IRQ_STATUS, 1, 1⟩
def F.PTP_IRQ_STATUS_STATE : Fld := ⟨R.PTP_IRQ_STATUS, 0, 0⟩
def F.PTP_IRQ_EN_SWITCH : Fld := ⟨R.PTP_IRQ_EN, 2, 2⟩
def F.PTP_IRQ_EN_ERR : Fld := ⟨R.PTP_IRQ_EN, 1, 1⟩
def F.PTP_IRQ_EN_STATE : Fld := ⟨R.PTP_IRQ_EN, 0, 0⟩
def F.FRM_STATUS_BAD : Fld := ⟨R.FRM_STATUS, 17, 16⟩
def F.FRM_STATUS_ROLLING : Fld := ⟨R.FRM_STATUS, 8, 8⟩
def F.FRM_STATUS_STATE : Fld := ⟨R.FRM_STATUS, 2, 0⟩
def F.FRM_ERR_REF_LATE : Fld := ⟨R.FRM_ERR, 7, 7⟩
def F.FRM_ERR_IO_INVALID : Fld := ⟨R.FRM_ERR, 6, 6⟩
def F.FRM_ERR_PLAN_DISAGREE : Fld := ⟨R.FRM_ERR, 5, 5⟩
def F.FRM_ERR_MODE_MISMATCH : Fld := ⟨R.FRM_ERR, 4, 4⟩
def F.FRM_ERR_PLAN_MISSED : Fld := ⟨R.FRM_ERR, 3, 3⟩
def F.FRM_ERR_CLAMP : Fld := ⟨R.FRM_ERR, 2, 2⟩
def F.FRM_ERR_PHASE_ACCEPTED : Fld := ⟨R.FRM_ERR, 1, 1⟩
def F.FRM_ERR_REF_LOST : Fld := ⟨R.FRM_ERR, 0, 0⟩
def F.FRM_WFN_LO : Fld := ⟨R.FRM_WFN_LO, 31, 0⟩
def F.FRM_WFN_HI : Fld := ⟨R.FRM_WFN_HI, 31, 0⟩
def F.FRM_FS_LO : Fld := ⟨R.FRM_FS_LO, 31, 0⟩
def F.FRM_FS_HI : Fld := ⟨R.FRM_FS_HI, 31, 0⟩
def F.FRM_NEXT_FS_LO : Fld := ⟨R.FRM_NEXT_FS_LO, 31, 0⟩
def F.FRM_NEXT_FS_HI : Fld := ⟨R.FRM_NEXT_FS_HI, 31, 0⟩
def F.FRM_PERIOD : Fld := ⟨R.FRM_PERIOD, 31, 0⟩
def F.FRM_REF_PERIOD : Fld := ⟨R.FRM_REF_PERIOD, 31, 0⟩
def F.FRM_PHASE_ERR : Fld := ⟨R.FRM_PHASE_ERR, 31, 0⟩
def F.FRM_CNT_Ei (i : Nat) : Fld := ⟨R.FRM_CNT_Ei i, 31, 0⟩
def F.FRM_SYNC_IN_TS_LO : Fld := ⟨R.FRM_SYNC_IN_TS_LO, 31, 0⟩
def F.FRM_SYNC_IN_TS_HI : Fld := ⟨R.FRM_SYNC_IN_TS_HI, 31, 0⟩
def F.FRM_T_NOM_NS : Fld := ⟨R.FRM_T_NOM, 31, 0⟩
def F.FRM_T_NOM_FRAC_FRAC : Fld := ⟨R.FRM_T_NOM_FRAC, 15, 0⟩
def F.FRM_T_MIN_NS : Fld := ⟨R.FRM_T_MIN, 31, 0⟩
def F.FRM_T_MAX_NS : Fld := ⟨R.FRM_T_MAX, 31, 0⟩
def F.FRM_G_MIN_NS : Fld := ⟨R.FRM_G_MIN, 31, 0⟩
def F.FRM_L_FIX_NS : Fld := ⟨R.FRM_L_FIX, 31, 0⟩
def F.FRM_REF_LOSS_FRAMES : Fld := ⟨R.FRM_REF, 31, 28⟩
def F.FRM_REF_VARIABLE : Fld := ⟨R.FRM_REF, 8, 8⟩
def F.FRM_REF_STREAM : Fld := ⟨R.FRM_REF, 7, 4⟩
def F.FRM_REF_KIND : Fld := ⟨R.FRM_REF, 1, 0⟩
def F.FRM_TOL_NS : Fld := ⟨R.FRM_TOL, 31, 0⟩
def F.FRM_START_ROLLING : Fld := ⟨R.FRM_START, 0, 0⟩
def F.FRM_SEGMENTS_S_CODE : Fld := ⟨R.FRM_SEGMENTS, 2, 0⟩
def F.FRM_DEADLINE_LEAD_NS : Fld := ⟨R.FRM_DEADLINE_LEAD, 31, 0⟩
def F.FRM_SCALE_LEAD_NS : Fld := ⟨R.FRM_SCALE_LEAD, 31, 0⟩
def F.FRM_HDR_LEAD_NS : Fld := ⟨R.FRM_HDR_LEAD, 31, 0⟩
def F.FRM_ACTIVE_END_LEAD_NS : Fld := ⟨R.FRM_ACTIVE_END_LEAD, 31, 0⟩
def F.FRM_CLOSE_LINES : Fld := ⟨R.FRM_CLOSE, 7, 0⟩
def F.FRM_LINE_NS_NS : Fld := ⟨R.FRM_LINE_NS, 23, 0⟩
def F.FRM_MODE_EPOCH_EPOCH : Fld := ⟨R.FRM_MODE_EPOCH, 15, 0⟩
def F.FRM_SYNC_IN_DELAY : Fld := ⟨R.FRM_SYNC_IN_DELAY, 31, 0⟩
def F.FRM_ROLL_OFFSET : Fld := ⟨R.FRM_ROLL_OFFSET, 31, 0⟩
def F.FRM_SYNC_OUTk_CFG_DIV_M1 (k : Nat) : Fld := ⟨R.FRM_SYNC_OUTk_CFG k, 31, 24⟩
def F.FRM_SYNC_OUTk_CFG_PHASE (k : Nat) : Fld := ⟨R.FRM_SYNC_OUTk_CFG k, 23, 16⟩
def F.FRM_SYNC_OUTk_CFG_SEG_DIV_M1 (k : Nat) : Fld := ⟨R.FRM_SYNC_OUTk_CFG k, 15, 8⟩
def F.FRM_SYNC_OUTk_CFG_POL (k : Nat) : Fld := ⟨R.FRM_SYNC_OUTk_CFG k, 4, 4⟩
def F.FRM_SYNC_OUTk_CFG_MODE (k : Nat) : Fld := ⟨R.FRM_SYNC_OUTk_CFG k, 1, 0⟩
def F.FRM_SYNC_OUTk_OFFSET (k : Nat) : Fld := ⟨R.FRM_SYNC_OUTk_OFFSET k, 31, 0⟩
def F.FRM_SYNC_OUTk_WIDTH_NS (k : Nat) : Fld := ⟨R.FRM_SYNC_OUTk_WIDTH k, 19, 0⟩
def F.FRM_IRQ_STATUS_MODE_INSTALLED : Fld := ⟨R.FRM_IRQ_STATUS, 3, 3⟩
def F.FRM_IRQ_STATUS_STATE : Fld := ⟨R.FRM_IRQ_STATUS, 2, 2⟩
def F.FRM_IRQ_STATUS_ERR : Fld := ⟨R.FRM_IRQ_STATUS, 1, 1⟩
def F.FRM_IRQ_STATUS_FRAME : Fld := ⟨R.FRM_IRQ_STATUS, 0, 0⟩
def F.FRM_IRQ_EN_MODE_INSTALLED : Fld := ⟨R.FRM_IRQ_EN, 3, 3⟩
def F.FRM_IRQ_EN_STATE : Fld := ⟨R.FRM_IRQ_EN, 2, 2⟩
def F.FRM_IRQ_EN_ERR : Fld := ⟨R.FRM_IRQ_EN, 1, 1⟩
def F.FRM_IRQ_EN_FRAME : Fld := ⟨R.FRM_IRQ_EN, 0, 0⟩
def F.CMP_STATUS_BAND : Fld := ⟨R.CMP_STATUS, 25, 16⟩
def F.CMP_STATUS_STATE : Fld := ⟨R.CMP_STATUS, 1, 0⟩
def F.CMP_ERR_WB_DROP : Fld := ⟨R.CMP_ERR, 1, 1⟩
def F.CMP_ERR_OVERRUN : Fld := ⟨R.CMP_ERR, 0, 0⟩
def F.CMP_COMP_WFN_LO : Fld := ⟨R.CMP_COMP_WFN_LO, 31, 0⟩
def F.CMP_COMP_WFN_HI : Fld := ⟨R.CMP_COMP_WFN_HI, 31, 0⟩
def F.CMP_LAYER_FAULT_LAYER_CORRUPT : Fld := ⟨R.CMP_LAYER_FAULT, 31, 16⟩
def F.CMP_LAYER_FAULT_LAYER_UNDERRUN : Fld := ⟨R.CMP_LAYER_FAULT, 15, 0⟩
def F.CMP_LINEBUF_USED_UNITS : Fld := ⟨R.CMP_LINEBUF_USED, 6, 0⟩
def F.CMP_SLACK_NS : Fld := ⟨R.CMP_SLACK, 31, 0⟩
def F.CMP_TBL_BASE_LO_BASE : Fld := ⟨R.CMP_TBL_BASE_LO, 31, 0⟩
def F.CMP_TBL_BASE_HI_BASE : Fld := ⟨R.CMP_TBL_BASE_HI, 7, 0⟩
def F.CMP_TBL_BANK_BANK : Fld := ⟨R.CMP_TBL_BANK, 0, 0⟩
def F.CMP_CNT_Ei (i : Nat) : Fld := ⟨R.CMP_CNT_Ei i, 31, 0⟩
def F.CMP_CANVAS_H : Fld := ⟨R.CMP_CANVAS, 30, 16⟩
def F.CMP_CANVAS_W : Fld := ⟨R.CMP_CANVAS, 14, 0⟩
def F.CMP_BG_RG_G : Fld := ⟨R.CMP_BG_RG, 31, 16⟩
def F.CMP_BG_RG_R : Fld := ⟨R.CMP_BG_RG, 15, 0⟩
def F.CMP_BG_B_B : Fld := ⟨R.CMP_BG_B, 15, 0⟩
def F.CMP_REF_WHITE_NITS : Fld := ⟨R.CMP_REF_WHITE, 15, 0⟩
def F.CMP_ROLL_BAND_NS_NS : Fld := ⟨R.CMP_ROLL_BAND_NS, 23, 0⟩
def F.CMP_WB_CTRL_COUNT : Fld := ⟨R.CMP_WB_CTRL, 19, 16⟩
def F.CMP_WB_CTRL_DECIM : Fld := ⟨R.CMP_WB_CTRL, 13, 12⟩
def F.CMP_WB_CTRL_GAMUT : Fld := ⟨R.CMP_WB_CTRL, 11, 10⟩
def F.CMP_WB_CTRL_TRANSFER : Fld := ⟨R.CMP_WB_CTRL, 9, 8⟩
def F.CMP_WB_CTRL_FORMAT : Fld := ⟨R.CMP_WB_CTRL, 7, 4⟩
def F.CMP_WB_CTRL_EN : Fld := ⟨R.CMP_WB_CTRL, 0, 0⟩
def F.CMP_WB_WHITE_NITS : Fld := ⟨R.CMP_WB_WHITE, 15, 0⟩
def F.CMP_WB_XY_X : Fld := ⟨R.CMP_WB_XY, 14, 0⟩
def F.CMP_WB_XY_Y : Fld := ⟨R.CMP_WB_XY, 30, 16⟩
def F.CMP_WB_WH_H : Fld := ⟨R.CMP_WB_WH, 30, 16⟩
def F.CMP_WB_WH_W : Fld := ⟨R.CMP_WB_WH, 14, 0⟩
def F.CMP_WB_BASE_LO : Fld := ⟨R.CMP_WB_BASE_LO, 31, 0⟩
def F.CMP_WB_BASE_HI_BASE : Fld := ⟨R.CMP_WB_BASE_HI, 7, 0⟩
def F.CMP_WB_BUF_SIZE : Fld := ⟨R.CMP_WB_BUF_SIZE, 31, 0⟩
def F.CMP_PANEL_Mi_M (i : Nat) : Fld := ⟨R.CMP_PANEL_Mi i, 31, 0⟩
def F.CMP_SLOTs_XY_Y (s : Nat) : Fld := ⟨R.CMP_SLOTs_XY s, 30, 16⟩
def F.CMP_SLOTs_XY_X (s : Nat) : Fld := ⟨R.CMP_SLOTs_XY s, 14, 0⟩
def F.CMP_SLOTs_WH_EN (s : Nat) : Fld := ⟨R.CMP_SLOTs_WH s, 31, 31⟩
def F.CMP_SLOTs_WH_H (s : Nat) : Fld := ⟨R.CMP_SLOTs_WH s, 26, 16⟩
def F.CMP_SLOTs_WH_W (s : Nat) : Fld := ⟨R.CMP_SLOTs_WH s, 11, 0⟩
def F.CMP_LAYERn_CTRL_TM (n : Nat) : Fld := ⟨R.CMP_LAYERn_CTRL n, 27, 24⟩
def F.CMP_LAYERn_CTRL_TM_EN (n : Nat) : Fld := ⟨R.CMP_LAYERn_CTRL n, 20, 20⟩
def F.CMP_LAYERn_CTRL_COEF (n : Nat) : Fld := ⟨R.CMP_LAYERn_CTRL n, 19, 16⟩
def F.CMP_LAYERn_CTRL_HTAPS (n : Nat) : Fld := ⟨R.CMP_LAYERn_CTRL n, 14, 14⟩
def F.CMP_LAYERn_CTRL_VTAPS (n : Nat) : Fld := ⟨R.CMP_LAYERn_CTRL n, 13, 12⟩
def F.CMP_LAYERn_CTRL_BLEND (n : Nat) : Fld := ⟨R.CMP_LAYERn_CTRL n, 9, 9⟩
def F.CMP_LAYERn_CTRL_SEL (n : Nat) : Fld := ⟨R.CMP_LAYERn_CTRL n, 8, 8⟩
def F.CMP_LAYERn_CTRL_SRC_ID (n : Nat) : Fld := ⟨R.CMP_LAYERn_CTRL n, 7, 4⟩
def F.CMP_LAYERn_CTRL_SRC_KIND (n : Nat) : Fld := ⟨R.CMP_LAYERn_CTRL n, 2, 1⟩
def F.CMP_LAYERn_CTRL_EN (n : Nat) : Fld := ⟨R.CMP_LAYERn_CTRL n, 0, 0⟩
def F.CMP_LAYERn_SRC_XY_X (n : Nat) : Fld := ⟨R.CMP_LAYERn_SRC_XY n, 13, 0⟩
def F.CMP_LAYERn_SRC_XY_Y (n : Nat) : Fld := ⟨R.CMP_LAYERn_SRC_XY n, 29, 16⟩
def F.CMP_LAYERn_SRC_WH_W (n : Nat) : Fld := ⟨R.CMP_LAYERn_SRC_WH n, 13, 0⟩
def F.CMP_LAYERn_SRC_WH_H (n : Nat) : Fld := ⟨R.CMP_LAYERn_SRC_WH n, 29, 16⟩
def F.CMP_LAYERn_DST_XY_X (n : Nat) : Fld := ⟨R.CMP_LAYERn_DST_XY n, 14, 0⟩
def F.CMP_LAYERn_DST_XY_Y (n : Nat) : Fld := ⟨R.CMP_LAYERn_DST_XY n, 30, 16⟩
def F.CMP_LAYERn_DST_WH_W (n : Nat) : Fld := ⟨R.CMP_LAYERn_DST_WH n, 14, 0⟩
def F.CMP_LAYERn_DST_WH_H (n : Nat) : Fld := ⟨R.CMP_LAYERn_DST_WH n, 30, 16⟩
def F.CMP_LAYERn_STEP_H_STEP (n : Nat) : Fld := ⟨R.CMP_LAYERn_STEP_H n, 22, 0⟩
def F.CMP_LAYERn_STEP_V_STEP (n : Nat) : Fld := ⟨R.CMP_LAYERn_STEP_V n, 22, 0⟩
def F.CMP_LAYERn_COLOR_WHITE (n : Nat) : Fld := ⟨R.CMP_LAYERn_COLOR n, 31, 16⟩
def F.CMP_LAYERn_COLOR_GAMUT (n : Nat) : Fld := ⟨R.CMP_LAYERn_COLOR n, 10, 8⟩
def F.CMP_LAYERn_COLOR_TRANSFER (n : Nat) : Fld := ⟨R.CMP_LAYERn_COLOR n, 6, 4⟩
def F.CMP_LAYERn_COLOR_MATRIX (n : Nat) : Fld := ⟨R.CMP_LAYERn_COLOR n, 2, 1⟩
def F.CMP_LAYERn_COLOR_RANGE (n : Nat) : Fld := ⟨R.CMP_LAYERn_COLOR n, 0, 0⟩
def F.CMP_LAYERn_MIX_GAIN (n : Nat) : Fld := ⟨R.CMP_LAYERn_MIX n, 31, 16⟩
def F.CMP_LAYERn_MIX_ALPHA (n : Nat) : Fld := ⟨R.CMP_LAYERn_MIX n, 9, 0⟩
def F.CMP_LAYERn_SURF_LO (n : Nat) : Fld := ⟨R.CMP_LAYERn_SURF_LO n, 31, 0⟩
def F.CMP_LAYERn_SURF_HI_SURF (n : Nat) : Fld := ⟨R.CMP_LAYERn_SURF_HI n, 7, 0⟩
def F.CMP_LAYERn_STATUS_LAST_WFN (n : Nat) : Fld := ⟨R.CMP_LAYERn_STATUS n, 31, 16⟩
def F.CMP_LAYERn_STATUS_BUF (n : Nat) : Fld := ⟨R.CMP_LAYERn_STATUS n, 11, 8⟩
def F.CMP_LAYERn_STATUS_HELD (n : Nat) : Fld := ⟨R.CMP_LAYERn_STATUS n, 4, 4⟩
def F.CMP_LAYERn_STATUS_EDGE_CLAMP (n : Nat) : Fld := ⟨R.CMP_LAYERn_STATUS n, 3, 3⟩
def F.CMP_LAYERn_STATUS_NOSRC (n : Nat) : Fld := ⟨R.CMP_LAYERn_STATUS n, 2, 2⟩
def F.CMP_LAYERn_STATUS_FAULT (n : Nat) : Fld := ⟨R.CMP_LAYERn_STATUS n, 1, 1⟩
def F.CMP_LAYERn_STATUS_USED (n : Nat) : Fld := ⟨R.CMP_LAYERn_STATUS n, 0, 0⟩
def F.CMP_LAYERn_FRAME_FRAME_NO (n : Nat) : Fld := ⟨R.CMP_LAYERn_FRAME n, 31, 0⟩
def F.CMP_IRQ_STATUS_ERR : Fld := ⟨R.CMP_IRQ_STATUS, 3, 3⟩
def F.CMP_IRQ_STATUS_LAYER_FAULT : Fld := ⟨R.CMP_IRQ_STATUS, 2, 2⟩
def F.CMP_IRQ_STATUS_DONE : Fld := ⟨R.CMP_IRQ_STATUS, 1, 1⟩
def F.CMP_IRQ_STATUS_START : Fld := ⟨R.CMP_IRQ_STATUS, 0, 0⟩
def F.CMP_IRQ_EN_ERR : Fld := ⟨R.CMP_IRQ_EN, 3, 3⟩
def F.CMP_IRQ_EN_LAYER_FAULT : Fld := ⟨R.CMP_IRQ_EN, 2, 2⟩
def F.CMP_IRQ_EN_DONE : Fld := ⟨R.CMP_IRQ_EN, 1, 1⟩
def F.CMP_IRQ_EN_START : Fld := ⟨R.CMP_IRQ_EN, 0, 0⟩
def F.LNKn_CTRL_EN (n : Nat) : Fld := ⟨R.LNKn_CTRL n, 0, 0⟩
def F.LNKn_STATUS_PARTNER_SLOT (n : Nat) : Fld := ⟨R.LNKn_STATUS n, 15, 8⟩
def F.LNKn_STATUS_TOWARD_ACTIVE (n : Nat) : Fld := ⟨R.LNKn_STATUS n, 3, 3⟩
def F.LNKn_STATUS_SLAVE (n : Nat) : Fld := ⟨R.LNKn_STATUS n, 2, 2⟩
def F.LNKn_STATUS_SESSION_UP (n : Nat) : Fld := ⟨R.LNKn_STATUS n, 1, 1⟩
def F.LNKn_STATUS_UP (n : Nat) : Fld := ⟨R.LNKn_STATUS n, 0, 0⟩
def F.LNKn_ERR_CABLE (n : Nat) : Fld := ⟨R.LNKn_ERR n, 3, 3⟩
def F.LNKn_ERR_SESSION_FAIL (n : Nat) : Fld := ⟨R.LNKn_ERR n, 2, 2⟩
def F.LNKn_ERR_CELL_ERR (n : Nat) : Fld := ⟨R.LNKn_ERR n, 1, 1⟩
def F.LNKn_ERR_LINK_DOWN (n : Nat) : Fld := ⟨R.LNKn_ERR n, 0, 0⟩
def F.LNKn_PARTNER_NODE_NODE (n : Nat) : Fld := ⟨R.LNKn_PARTNER_NODE n, 17, 0⟩
def F.LNKn_SESSION_ID (n : Nat) : Fld := ⟨R.LNKn_SESSION n, 31, 0⟩
def F.LNKn_CNT_Ti_LO (n : Nat) (i : Nat) : Fld := ⟨R.LNKn_CNT_Ti_LO n i, 31, 0⟩
def F.LNKn_CNT_Ti_HI (n : Nat) (i : Nat) : Fld := ⟨R.LNKn_CNT_Ti_HI n i, 31, 0⟩
def F.LNKn_CNT_Ei (n : Nat) (i : Nat) : Fld := ⟨R.LNKn_CNT_Ei n i, 31, 0⟩
def F.LNK_CHAIN_CTRL_SPLIT_EN : Fld := ⟨R.LNK_CHAIN_CTRL, 2, 2⟩
def F.LNK_CHAIN_CTRL_TAKEOVER_UNSYNCED : Fld := ⟨R.LNK_CHAIN_CTRL, 1, 1⟩
def F.LNK_CHAIN_CTRL_TAKEOVER_EN : Fld := ⟨R.LNK_CHAIN_CTRL, 0, 0⟩
def F.LNK_CHAIN_STATUS_SPLIT_SLOT : Fld := ⟨R.LNK_CHAIN_STATUS, 23, 16⟩
def F.LNK_CHAIN_STATUS_SLOT : Fld := ⟨R.LNK_CHAIN_STATUS, 13, 8⟩
def F.LNK_CHAIN_STATUS_SLOT_VALID : Fld := ⟨R.LNK_CHAIN_STATUS, 4, 4⟩
def F.LNK_CHAIN_STATUS_SPLIT : Fld := ⟨R.LNK_CHAIN_STATUS, 3, 3⟩
def F.LNK_CHAIN_STATUS_SYNCED : Fld := ⟨R.LNK_CHAIN_STATUS, 2, 2⟩
def F.LNK_CHAIN_STATUS_DUTY : Fld := ⟨R.LNK_CHAIN_STATUS, 1, 0⟩
def F.LNK_ERR_RESEND_SHORT : Fld := ⟨R.LNK_ERR, 9, 9⟩
def F.LNK_ERR_BREAK : Fld := ⟨R.LNK_ERR, 8, 8⟩
def F.LNK_ERR_HDR_MISSED : Fld := ⟨R.LNK_ERR, 7, 7⟩
def F.LNK_ERR_COMMIT_MISSED : Fld := ⟨R.LNK_ERR, 6, 6⟩
def F.LNK_ERR_STATE_DIVERGED : Fld := ⟨R.LNK_ERR, 5, 5⟩
def F.LNK_ERR_SLOT_MISMATCH : Fld := ⟨R.LNK_ERR, 4, 4⟩
def F.LNK_ERR_EPOCH_AHEAD : Fld := ⟨R.LNK_ERR, 3, 3⟩
def F.LNK_ERR_STALE : Fld := ⟨R.LNK_ERR, 2, 2⟩
def F.LNK_ERR_DEMOTED : Fld := ⟨R.LNK_ERR, 1, 1⟩
def F.LNK_ERR_TAKEOVER : Fld := ⟨R.LNK_ERR, 0, 0⟩
def F.LNK_EPOCH_EPOCH : Fld := ⟨R.LNK_EPOCH, 31, 0⟩
def F.LNK_FIRST_WFN_LO : Fld := ⟨R.LNK_FIRST_WFN_LO, 31, 0⟩
def F.LNK_FIRST_WFN_HI : Fld := ⟨R.LNK_FIRST_WFN_HI, 31, 0⟩
def F.LNK_ALIVE_LISTEN_MS : Fld := ⟨R.LNK_ALIVE, 31, 24⟩
def F.LNK_ALIVE_ALIVE_10US : Fld := ⟨R.LNK_ALIVE, 23, 16⟩
def F.LNK_ALIVE_LOSS_US : Fld := ⟨R.LNK_ALIVE, 15, 0⟩
def F.LNK_CMD_HANDOVER : Fld := ⟨R.LNK_CMD, 0, 0⟩
def F.LNK_SLOT_MASK_LO_MASK : Fld := ⟨R.LNK_SLOT_MASK_LO, 31, 0⟩
def F.LNK_SLOT_MASK_HI_MASK : Fld := ⟨R.LNK_SLOT_MASK_HI, 31, 0⟩
def F.LNK_MASK_LATCHED_LO_MASK : Fld := ⟨R.LNK_MASK_LATCHED_LO, 31, 0⟩
def F.LNK_MASK_LATCHED_HI_MASK : Fld := ⟨R.LNK_MASK_LATCHED_HI, 31, 0⟩
def F.LNK_SCALE_LATCHED_SCALE : Fld := ⟨R.LNK_SCALE_LATCHED, 15, 0⟩
def F.LNK_RESEND_BASE_LO : Fld := ⟨R.LNK_RESEND_BASE_LO, 31, 0⟩
def F.LNK_RESEND_BASE_HI_BASE : Fld := ⟨R.LNK_RESEND_BASE_HI, 7, 0⟩
def F.LNK_RESEND_SIZE_MIB : Fld := ⟨R.LNK_RESEND_SIZE, 11, 0⟩
def F.LNK_SPORE_BASE_LO : Fld := ⟨R.LNK_SPORE_BASE_LO, 31, 0⟩
def F.LNK_SPORE_BASE_HI_BASE : Fld := ⟨R.LNK_SPORE_BASE_HI, 7, 0⟩
def F.LNK_CNT_Ei (i : Nat) : Fld := ⟨R.LNK_CNT_Ei i, 31, 0⟩
def F.LNK_SLOTs_INFO_SEEN (s : Nat) : Fld := ⟨R.LNK_SLOTs_INFO s, 31, 31⟩
def F.LNK_SLOTs_INFO_MISSED (s : Nat) : Fld := ⟨R.LNK_SLOTs_INFO s, 30, 30⟩
def F.LNK_SLOTs_INFO_HOLDING (s : Nat) : Fld := ⟨R.LNK_SLOTs_INFO s, 29, 29⟩
def F.LNK_SLOTs_INFO_INCARN (s : Nat) : Fld := ⟨R.LNK_SLOTs_INFO s, 23, 0⟩
def F.LNKn_IRQ_STATUS_SPLIT_CHANGE (n : Nat) : Fld := ⟨R.LNKn_IRQ_STATUS n, 4, 4⟩
def F.LNKn_IRQ_STATUS_DUTY_CHANGE (n : Nat) : Fld := ⟨R.LNKn_IRQ_STATUS n, 3, 3⟩
def F.LNKn_IRQ_STATUS_CHAIN_ERR (n : Nat) : Fld := ⟨R.LNKn_IRQ_STATUS n, 2, 2⟩
def F.LNKn_IRQ_STATUS_ERR (n : Nat) : Fld := ⟨R.LNKn_IRQ_STATUS n, 1, 1⟩
def F.LNKn_IRQ_STATUS_LINK_CHANGE (n : Nat) : Fld := ⟨R.LNKn_IRQ_STATUS n, 0, 0⟩
def F.LNKn_IRQ_EN_SPLIT_CHANGE (n : Nat) : Fld := ⟨R.LNKn_IRQ_EN n, 4, 4⟩
def F.LNKn_IRQ_EN_DUTY_CHANGE (n : Nat) : Fld := ⟨R.LNKn_IRQ_EN n, 3, 3⟩
def F.LNKn_IRQ_EN_CHAIN_ERR (n : Nat) : Fld := ⟨R.LNKn_IRQ_EN n, 2, 2⟩
def F.LNKn_IRQ_EN_ERR (n : Nat) : Fld := ⟨R.LNKn_IRQ_EN n, 1, 1⟩
def F.LNKn_IRQ_EN_LINK_CHANGE (n : Nat) : Fld := ⟨R.LNKn_IRQ_EN n, 0, 0⟩
def F.SCN_STATUS_SETTLING : Fld := ⟨R.SCN_STATUS, 9, 9⟩
def F.SCN_STATUS_NEXT_OPEN : Fld := ⟨R.SCN_STATUS, 8, 8⟩
def F.SCN_STATUS_SHOWN : Fld := ⟨R.SCN_STATUS, 0, 0⟩
def F.SCN_ERR_BAND_HELD : Fld := ⟨R.SCN_ERR, 4, 4⟩
def F.SCN_ERR_EARLY : Fld := ⟨R.SCN_ERR, 3, 3⟩
def F.SCN_ERR_LATE : Fld := ⟨R.SCN_ERR, 2, 2⟩
def F.SCN_ERR_GEOM : Fld := ⟨R.SCN_ERR, 1, 1⟩
def F.SCN_ERR_CRC : Fld := ⟨R.SCN_ERR, 0, 0⟩
def F.SCN_OPEN_WFN_LO_WFN : Fld := ⟨R.SCN_OPEN_WFN_LO, 31, 0⟩
def F.SCN_OPEN_WFN_HI_WFN : Fld := ⟨R.SCN_OPEN_WFN_HI, 31, 0⟩
def F.SCN_BANDS_LO_BANDS : Fld := ⟨R.SCN_BANDS_LO, 31, 0⟩
def F.SCN_BANDS_HI_BANDS : Fld := ⟨R.SCN_BANDS_HI, 31, 0⟩
def F.SCN_LAST_BANDS_LO_BANDS : Fld := ⟨R.SCN_LAST_BANDS_LO, 31, 0⟩
def F.SCN_LAST_BANDS_HI_BANDS : Fld := ⟨R.SCN_LAST_BANDS_HI, 31, 0⟩
def F.SCN_LAST_SCALE_SCALE : Fld := ⟨R.SCN_LAST_SCALE, 15, 0⟩
def F.SCN_CNT_Ei (i : Nat) : Fld := ⟨R.SCN_CNT_Ei i, 31, 0⟩
def F.SCN_CNT_Ti_LO (i : Nat) : Fld := ⟨R.SCN_CNT_Ti_LO i, 31, 0⟩
def F.SCN_CNT_Ti_HI (i : Nat) : Fld := ⟨R.SCN_CNT_Ti_HI i, 31, 0⟩
def F.SCN_SLOT_SIZE_H : Fld := ⟨R.SCN_SLOT_SIZE, 26, 16⟩
def F.SCN_SLOT_SIZE_W : Fld := ⟨R.SCN_SLOT_SIZE, 11, 0⟩
def F.SCN_MAP_SEL_BANK : Fld := ⟨R.SCN_MAP_SEL, 0, 0⟩
def F.SCN_MAP_BANKb_STATUS_VALID (b : Nat) : Fld := ⟨R.SCN_MAP_BANKb_STATUS b, 31, 31⟩
def F.SCN_MAP_BANKb_STATUS_BUSY (b : Nat) : Fld := ⟨R.SCN_MAP_BANKb_STATUS b, 30, 30⟩
def F.SCN_MAP_BANKb_STATUS_H (b : Nat) : Fld := ⟨R.SCN_MAP_BANKb_STATUS b, 26, 16⟩
def F.SCN_MAP_BANKb_STATUS_W (b : Nat) : Fld := ⟨R.SCN_MAP_BANKb_STATUS b, 11, 0⟩
def F.SCN_IRQ_STATUS_ERR : Fld := ⟨R.SCN_IRQ_STATUS, 2, 2⟩
def F.SCN_IRQ_STATUS_HELD : Fld := ⟨R.SCN_IRQ_STATUS, 1, 1⟩
def F.SCN_IRQ_STATUS_SETTLED : Fld := ⟨R.SCN_IRQ_STATUS, 0, 0⟩
def F.SCN_IRQ_EN_ERR : Fld := ⟨R.SCN_IRQ_EN, 2, 2⟩
def F.SCN_IRQ_EN_HELD : Fld := ⟨R.SCN_IRQ_EN, 1, 1⟩
def F.SCN_IRQ_EN_SETTLED : Fld := ⟨R.SCN_IRQ_EN, 0, 0⟩
def F.COR_STATUS_LOADING : Fld := ⟨R.COR_STATUS, 1, 1⟩
def F.COR_STATUS_CORRECTING : Fld := ⟨R.COR_STATUS, 0, 0⟩
def F.COR_ERR_LOAD_BUSY : Fld := ⟨R.COR_ERR, 1, 1⟩
def F.COR_ERR_LOAD_FAIL : Fld := ⟨R.COR_ERR, 0, 0⟩
def F.COR_E_PRED_E : Fld := ⟨R.COR_E_PRED, 31, 0⟩
def F.COR_KEE_K : Fld := ⟨R.COR_KEE, 23, 0⟩
def F.COR_PRED_WFN_LO_WFN : Fld := ⟨R.COR_PRED_WFN_LO, 31, 0⟩
def F.COR_PRED_WFN_HI_WFN : Fld := ⟨R.COR_PRED_WFN_HI, 31, 0⟩
def F.COR_CNT_Ei (i : Nat) : Fld := ⟨R.COR_CNT_Ei i, 31, 0⟩
def F.COR_CTRL_COMP_GAIN : Fld := ⟨R.COR_CTRL, 15, 8⟩
def F.COR_CTRL_EE_EN : Fld := ⟨R.COR_CTRL, 1, 1⟩
def F.COR_CTRL_COMP_EN : Fld := ⟨R.COR_CTRL, 0, 0⟩
def F.COR_PEAK_PEAK : Fld := ⟨R.COR_PEAK, 15, 0⟩
def F.COR_TBL_SEL_COEF_BANK : Fld := ⟨R.COR_TBL_SEL, 0, 0⟩
def F.COR_LOAD_SRC_LO_ADDR : Fld := ⟨R.COR_LOAD_SRC_LO, 31, 0⟩
def F.COR_LOAD_SRC_HI_ADDR : Fld := ⟨R.COR_LOAD_SRC_HI, 7, 0⟩
def F.COR_LOAD_LEN_BYTES : Fld := ⟨R.COR_LOAD_LEN, 23, 0⟩
def F.COR_LOAD_CMD_ABORT : Fld := ⟨R.COR_LOAD_CMD, 17, 17⟩
def F.COR_LOAD_CMD_START : Fld := ⟨R.COR_LOAD_CMD, 16, 16⟩
def F.COR_LOAD_CMD_TABLE : Fld := ⟨R.COR_LOAD_CMD, 15, 0⟩
def F.COR_LOAD_STATUS_CODE : Fld := ⟨R.COR_LOAD_STATUS, 31, 16⟩
def F.COR_LOAD_STATUS_BANK : Fld := ⟨R.COR_LOAD_STATUS, 8, 8⟩
def F.COR_LOAD_STATUS_STATE : Fld := ⟨R.COR_LOAD_STATUS, 1, 0⟩
def F.COR_COEF_BANKb_STATUS_VALID (b : Nat) : Fld := ⟨R.COR_COEF_BANKb_STATUS b, 31, 31⟩
def F.COR_COEF_BANKb_STATUS_BUSY (b : Nat) : Fld := ⟨R.COR_COEF_BANKb_STATUS b, 30, 30⟩
def F.COR_COEF_BANKb_STATUS_H (b : Nat) : Fld := ⟨R.COR_COEF_BANKb_STATUS b, 26, 16⟩
def F.COR_COEF_BANKb_STATUS_W (b : Nat) : Fld := ⟨R.COR_COEF_BANKb_STATUS b, 11, 0⟩
def F.COR_STRn_Ik_I (n : Nat) (k : Nat) : Fld := ⟨R.COR_STRn_Ik n k, 23, 0⟩
def F.COR_IRQ_STATUS_ERR : Fld := ⟨R.COR_IRQ_STATUS, 2, 2⟩
def F.COR_IRQ_STATUS_LOAD_DONE : Fld := ⟨R.COR_IRQ_STATUS, 1, 1⟩
def F.COR_IRQ_STATUS_PRED : Fld := ⟨R.COR_IRQ_STATUS, 0, 0⟩
def F.COR_IRQ_EN_ERR : Fld := ⟨R.COR_IRQ_EN, 2, 2⟩
def F.COR_IRQ_EN_LOAD_DONE : Fld := ⟨R.COR_IRQ_EN, 1, 1⟩
def F.COR_IRQ_EN_PRED : Fld := ⟨R.COR_IRQ_EN, 0, 0⟩
def F.STR_STATUS_DARK : Fld := ⟨R.STR_STATUS, 28, 28⟩
def F.STR_STATUS_HOLD : Fld := ⟨R.STR_STATUS, 27, 27⟩
def F.STR_STATUS_SKIP : Fld := ⟨R.STR_STATUS, 26, 16⟩
def F.STR_STATUS_S_CODE : Fld := ⟨R.STR_STATUS, 10, 8⟩
def F.STR_STATUS_PROBE_Q : Fld := ⟨R.STR_STATUS, 7, 0⟩
def F.STR_ERR_COLLECT_ERR : Fld := ⟨R.STR_ERR, 11, 11⟩
def F.STR_ERR_START_MISS : Fld := ⟨R.STR_ERR, 10, 10⟩
def F.STR_ERR_DRIVER_HOT : Fld := ⟨R.STR_ERR, 9, 9⟩
def F.STR_ERR_DIAG_SKIPPED : Fld := ⟨R.STR_ERR, 8, 8⟩
def F.STR_ERR_LAMP_FAILED : Fld := ⟨R.STR_ERR, 7, 7⟩
def F.STR_ERR_DRIVER_CRC : Fld := ⟨R.STR_ERR, 6, 6⟩
def F.STR_ERR_LOAD_LATE : Fld := ⟨R.STR_ERR, 5, 5⟩
def F.STR_ERR_RET_LOST : Fld := ⟨R.STR_ERR, 4, 4⟩
def F.STR_ERR_ENUM_MISMATCH : Fld := ⟨R.STR_ERR, 3, 3⟩
def F.STR_ERR_LOCKOUT : Fld := ⟨R.STR_ERR, 2, 2⟩
def F.STR_ERR_RAIL_FAULT : Fld := ⟨R.STR_ERR, 1, 1⟩
def F.STR_ERR_OVERCURRENT : Fld := ⟨R.STR_ERR, 0, 0⟩
def F.STR_CMD_OP : Fld := ⟨R.STR_CMD, 31, 28⟩
def F.STR_CMD_LAMP : Fld := ⟨R.STR_CMD, 23, 12⟩
def F.STR_CMD_STRING : Fld := ⟨R.STR_CMD, 6, 0⟩
def F.STR_FAILED_TOTAL_COUNT : Fld := ⟨R.STR_FAILED_TOTAL, 18, 0⟩
def F.STR_CNT_Ei (i : Nat) : Fld := ⟨R.STR_CNT_Ei i, 31, 0⟩
def F.STR_CNT_Ti_LO (i : Nat) : Fld := ⟨R.STR_CNT_Ti_LO i, 31, 0⟩
def F.STR_CNT_Ti_HI (i : Nat) : Fld := ⟨R.STR_CNT_Ti_HI i, 31, 0⟩
def F.STR_COMMON_CTRL_PROBE_MAX : Fld := ⟨R.STR_COMMON_CTRL, 13, 8⟩
def F.STR_COMMON_CTRL_LEAK_FAIL : Fld := ⟨R.STR_COMMON_CTRL, 2, 2⟩
def F.STR_COMMON_CTRL_PROBE_EN : Fld := ⟨R.STR_COMMON_CTRL, 1, 1⟩
def F.STR_COMMON_CTRL_DIAG_EN : Fld := ⟨R.STR_COMMON_CTRL, 0, 0⟩
def F.STR_HEADROOM_STEP_DOWN : Fld := ⟨R.STR_HEADROOM, 23, 16⟩
def F.STR_HEADROOM_STEP_UP : Fld := ⟨R.STR_HEADROOM, 15, 8⟩
def F.STR_HEADROOM_TARGET : Fld := ⟨R.STR_HEADROOM, 7, 0⟩
def F.STR_FAULT_CFG_RETRIES : Fld := ⟨R.STR_FAULT_CFG, 19, 16⟩
def F.STR_FAULT_CFG_RETRY_MS : Fld := ⟨R.STR_FAULT_CFG, 15, 0⟩
def F.STR_RAIL_LEAD_US : Fld := ⟨R.STR_RAIL_LEAD, 15, 0⟩
def F.STR_STRn_CFG_EN (n : Nat) : Fld := ⟨R.STR_STRn_CFG n, 31, 31⟩
def F.STR_STRn_CFG_RET_EN (n : Nat) : Fld := ⟨R.STR_STRn_CFG n, 30, 30⟩
def F.STR_STRn_CFG_DRIVERS (n : Nat) : Fld := ⟨R.STR_STRn_CFG n, 6, 0⟩
def F.STR_STRn_LMAP_MAP_DRIVERS (n : Nat) : Fld := ⟨R.STR_STRn_LMAP n, 6, 0⟩
def F.STR_STRn_CHMASK_LO_MASK (n : Nat) : Fld := ⟨R.STR_STRn_CHMASK_LO n, 31, 0⟩
def F.STR_STRn_CHMASK_HI_MASK (n : Nat) : Fld := ⟨R.STR_STRn_CHMASK_HI n, 15, 0⟩
def F.STR_STRn_RAIL_FIXED_MV (n : Nat) : Fld := ⟨R.STR_STRn_RAIL n, 12, 0⟩
def F.STR_STRn_RAIL_LIM_MAX_MV (n : Nat) : Fld := ⟨R.STR_STRn_RAIL_LIM n, 28, 16⟩
def F.STR_STRn_RAIL_LIM_MIN_MV (n : Nat) : Fld := ⟨R.STR_STRn_RAIL_LIM n, 12, 0⟩
def F.STR_STRn_DELAY_OUT_HNS (n : Nat) : Fld := ⟨R.STR_STRn_DELAY n, 11, 0⟩
def F.STR_STRn_STATUS_RETRIES_USED (n : Nat) : Fld := ⟨R.STR_STRn_STATUS n, 19, 16⟩
def F.STR_STRn_STATUS_ENUM_COUNT (n : Nat) : Fld := ⟨R.STR_STRn_STATUS n, 14, 8⟩
def F.STR_STRn_STATUS_RET_OK (n : Nat) : Fld := ⟨R.STR_STRn_STATUS n, 3, 3⟩
def F.STR_STRn_STATUS_STATE (n : Nat) : Fld := ⟨R.STR_STRn_STATUS n, 2, 0⟩
def F.STR_STRn_RAIL_STATUS_MEAS_MV (n : Nat) : Fld := ⟨R.STR_STRn_RAIL_STATUS n, 28, 16⟩
def F.STR_STRn_RAIL_STATUS_SET_MV (n : Nat) : Fld := ⟨R.STR_STRn_RAIL_STATUS n, 12, 0⟩
def F.STR_STRn_HEADROOM_LOOP (n : Nat) : Fld := ⟨R.STR_STRn_HEADROOM n, 31, 16⟩
def F.STR_STRn_HEADROOM_DRIVER (n : Nat) : Fld := ⟨R.STR_STRn_HEADROOM n, 13, 8⟩
def F.STR_STRn_HEADROOM_H (n : Nat) : Fld := ⟨R.STR_STRn_HEADROOM n, 7, 0⟩
def F.STR_STRn_LAMPS_UNMEASURED (n : Nat) : Fld := ⟨R.STR_STRn_LAMPS n, 27, 16⟩
def F.STR_STRn_LAMPS_FAILED (n : Nat) : Fld := ⟨R.STR_STRn_LAMPS n, 11, 0⟩
def F.STR_IRQ_STATUS_STATE_CHANGE : Fld := ⟨R.STR_IRQ_STATUS, 3, 3⟩
def F.STR_IRQ_STATUS_LAMP_FAILED : Fld := ⟨R.STR_IRQ_STATUS, 2, 2⟩
def F.STR_IRQ_STATUS_ERR : Fld := ⟨R.STR_IRQ_STATUS, 1, 1⟩
def F.STR_IRQ_STATUS_FRAME : Fld := ⟨R.STR_IRQ_STATUS, 0, 0⟩
def F.STR_IRQ_EN_STATE_CHANGE : Fld := ⟨R.STR_IRQ_EN, 3, 3⟩
def F.STR_IRQ_EN_LAMP_FAILED : Fld := ⟨R.STR_IRQ_EN, 2, 2⟩
def F.STR_IRQ_EN_ERR : Fld := ⟨R.STR_IRQ_EN, 1, 1⟩
def F.STR_IRQ_EN_FRAME : Fld := ⟨R.STR_IRQ_EN, 0, 0⟩
def F.SRD_STATUS_PLL_LOCK : Fld := ⟨R.SRD_STATUS, 19, 16⟩
def F.SRD_STATUS_LANE_UP : Fld := ⟨R.SRD_STATUS, 15, 0⟩
def F.SRD_ERR_BLOCK_LOSS : Fld := ⟨R.SRD_ERR, 5, 5⟩
def F.SRD_ERR_PLL_UNLOCK : Fld := ⟨R.SRD_ERR, 4, 4⟩
def F.SRD_ERR_LANE_ORDER : Fld := ⟨R.SRD_ERR, 3, 3⟩
def F.SRD_ERR_EYE_LOW : Fld := ⟨R.SRD_ERR, 2, 2⟩
def F.SRD_ERR_CDR_LOSS : Fld := ⟨R.SRD_ERR, 1, 1⟩
def F.SRD_ERR_TRAIN_FAIL : Fld := ⟨R.SRD_ERR, 0, 0⟩
def F.SRD_CMD_RETRAIN : Fld := ⟨R.SRD_CMD, 15, 0⟩
def F.SRD_EYE_CFG_DOWN_MS : Fld := ⟨R.SRD_EYE_CFG, 31, 28⟩
def F.SRD_EYE_CFG_EYE_DOWN : Fld := ⟨R.SRD_EYE_CFG, 25, 16⟩
def F.SRD_EYE_CFG_EYE_MIN : Fld := ⟨R.SRD_EYE_CFG, 9, 0⟩
def F.SRD_TRAIN_CFG_TIMEOUT_MS : Fld := ⟨R.SRD_TRAIN_CFG, 7, 0⟩
def F.SRDk_CFG_ADAPT (k : Nat) : Fld := ⟨R.SRDk_CFG k, 31, 31⟩
def F.SRDk_CFG_TX_FIX (k : Nat) : Fld := ⟨R.SRDk_CFG k, 30, 30⟩
def F.SRDk_CFG_CTLE (k : Nat) : Fld := ⟨R.SRDk_CFG k, 27, 24⟩
def F.SRDk_CFG_TX_PRESET (k : Nat) : Fld := ⟨R.SRDk_CFG k, 18, 16⟩
def F.SRDk_CFG_RX_POL (k : Nat) : Fld := ⟨R.SRDk_CFG k, 9, 9⟩
def F.SRDk_CFG_TX_POL (k : Nat) : Fld := ⟨R.SRDk_CFG k, 8, 8⟩
def F.SRDk_STATUS_CHK_LOCK (k : Nat) : Fld := ⟨R.SRDk_STATUS k, 19, 19⟩
def F.SRDk_STATUS_POL_INV (k : Nat) : Fld := ⟨R.SRDk_STATUS k, 18, 18⟩
def F.SRDk_STATUS_BLOCK_LOCK (k : Nat) : Fld := ⟨R.SRDk_STATUS k, 17, 17⟩
def F.SRDk_STATUS_CDR_LOCK (k : Nat) : Fld := ⟨R.SRDk_STATUS k, 16, 16⟩
def F.SRDk_STATUS_CTLE (k : Nat) : Fld := ⟨R.SRDk_STATUS k, 15, 12⟩
def F.SRDk_STATUS_RX_PRESET (k : Nat) : Fld := ⟨R.SRDk_STATUS k, 10, 8⟩
def F.SRDk_STATUS_TX_PRESET (k : Nat) : Fld := ⟨R.SRDk_STATUS k, 6, 4⟩
def F.SRDk_STATUS_STATE (k : Nat) : Fld := ⟨R.SRDk_STATUS k, 3, 0⟩
def F.SRDk_EYE_TRAIN_WIDTH (k : Nat) : Fld := ⟨R.SRDk_EYE k, 25, 16⟩
def F.SRDk_EYE_WIDTH (k : Nat) : Fld := ⟨R.SRDk_EYE k, 9, 0⟩
def F.SRDk_PAT_CTRL_INJECT (k : Nat) : Fld := ⟨R.SRDk_PAT_CTRL k, 16, 16⟩
def F.SRDk_PAT_CTRL_INJ_RATE (k : Nat) : Fld := ⟨R.SRDk_PAT_CTRL k, 12, 8⟩
def F.SRDk_PAT_CTRL_PATTERN (k : Nat) : Fld := ⟨R.SRDk_PAT_CTRL k, 6, 4⟩
def F.SRDk_PAT_CTRL_LOOP (k : Nat) : Fld := ⟨R.SRDk_PAT_CTRL k, 2, 2⟩
def F.SRDk_PAT_CTRL_CHK_EN (k : Nat) : Fld := ⟨R.SRDk_PAT_CTRL k, 1, 1⟩
def F.SRDk_PAT_CTRL_GEN_EN (k : Nat) : Fld := ⟨R.SRDk_PAT_CTRL k, 0, 0⟩
def F.SRDk_PAT_USER_PATTERN (k : Nat) : Fld := ⟨R.SRDk_PAT_USER k, 31, 0⟩
def F.SRDk_CNT_Ti_LO (k : Nat) (i : Nat) : Fld := ⟨R.SRDk_CNT_Ti_LO k i, 31, 0⟩
def F.SRDk_CNT_Ti_HI (k : Nat) (i : Nat) : Fld := ⟨R.SRDk_CNT_Ti_HI k i, 31, 0⟩
def F.SRDk_CNT_Ei (k : Nat) (i : Nat) : Fld := ⟨R.SRDk_CNT_Ei k i, 31, 0⟩
def F.SRD_IRQ_STATUS_PAT_ERR : Fld := ⟨R.SRD_IRQ_STATUS, 2, 2⟩
def F.SRD_IRQ_STATUS_ERR : Fld := ⟨R.SRD_IRQ_STATUS, 1, 1⟩
def F.SRD_IRQ_STATUS_LANE_CHANGE : Fld := ⟨R.SRD_IRQ_STATUS, 0, 0⟩
def F.SRD_IRQ_EN_PAT_ERR : Fld := ⟨R.SRD_IRQ_EN, 2, 2⟩
def F.SRD_IRQ_EN_ERR : Fld := ⟨R.SRD_IRQ_EN, 1, 1⟩
def F.SRD_IRQ_EN_LANE_CHANGE : Fld := ⟨R.SRD_IRQ_EN, 0, 0⟩
def F.DRM_STATUS_TRAINED : Fld := ⟨R.DRM_STATUS, 19, 16⟩
def F.DRM_STATUS_HOT : Fld := ⟨R.DRM_STATUS, 3, 0⟩
def F.DRM_SIZE_GIB : Fld := ⟨R.DRM_SIZE, 7, 0⟩
def F.DRM_ERR_TEMP_LIMIT : Fld := ⟨R.DRM_ERR, 3, 3⟩
def F.DRM_ERR_UE : Fld := ⟨R.DRM_ERR, 2, 2⟩
def F.DRM_ERR_TRAIN_RETRY : Fld := ⟨R.DRM_ERR, 1, 1⟩
def F.DRM_ERR_TRAIN_FAIL : Fld := ⟨R.DRM_ERR, 0, 0⟩
def F.DRM_PM_CTRL_MAX_STATE : Fld := ⟨R.DRM_PM_CTRL, 17, 16⟩
def F.DRM_PM_CTRL_IDLE_NS : Fld := ⟨R.DRM_PM_CTRL, 15, 0⟩
def F.DRM_LAT_CLIENT : Fld := ⟨R.DRM_LAT, 26, 24⟩
def F.DRM_LAT_US : Fld := ⟨R.DRM_LAT, 15, 0⟩
def F.DRM_TRAIN_CFG_MIN_STEPS : Fld := ⟨R.DRM_TRAIN_CFG, 6, 0⟩
def F.DRM_UE_ADDR_LO : Fld := ⟨R.DRM_UE_ADDR_LO, 31, 0⟩
def F.DRM_UE_ADDR_HI_ADDR : Fld := ⟨R.DRM_UE_ADDR_HI, 7, 0⟩
def F.DRM_FW_TOL_US : Fld := ⟨R.DRM_FW_TOL, 15, 0⟩
def F.DRM_CHc_STATUS_TEMP (c : Nat) : Fld := ⟨R.DRM_CHc_STATUS c, 10, 8⟩
def F.DRM_CHc_STATUS_HOT (c : Nat) : Fld := ⟨R.DRM_CHc_STATUS c, 4, 4⟩
def F.DRM_CHc_STATUS_PSTATE (c : Nat) : Fld := ⟨R.DRM_CHc_STATUS c, 1, 0⟩
def F.DRM_CHc_CNT_Ti_LO (c : Nat) (i : Nat) : Fld := ⟨R.DRM_CHc_CNT_Ti_LO c i, 31, 0⟩
def F.DRM_CHc_CNT_Ti_HI (c : Nat) (i : Nat) : Fld := ⟨R.DRM_CHc_CNT_Ti_HI c i, 31, 0⟩
def F.DRM_CHc_CNT_Ei (c : Nat) (i : Nat) : Fld := ⟨R.DRM_CHc_CNT_Ei c i, 31, 0⟩
def F.DRM_LANEl_EYE_RD_WIDTH (l : Nat) : Fld := ⟨R.DRM_LANEl_EYE l, 31, 24⟩
def F.DRM_LANEl_EYE_RD_CENTRE (l : Nat) : Fld := ⟨R.DRM_LANEl_EYE l, 23, 16⟩
def F.DRM_LANEl_EYE_WR_WIDTH (l : Nat) : Fld := ⟨R.DRM_LANEl_EYE l, 15, 8⟩
def F.DRM_LANEl_EYE_WR_CENTRE (l : Nat) : Fld := ⟨R.DRM_LANEl_EYE l, 7, 0⟩
def F.DRM_CLIENTn_TOL_US (n : Nat) : Fld := ⟨R.DRM_CLIENTn_TOL n, 15, 0⟩
def F.DRM_IRQ_STATUS_HOT_CHANGE : Fld := ⟨R.DRM_IRQ_STATUS, 1, 1⟩
def F.DRM_IRQ_STATUS_ERR : Fld := ⟨R.DRM_IRQ_STATUS, 0, 0⟩
def F.DRM_IRQ_EN_HOT_CHANGE : Fld := ⟨R.DRM_IRQ_EN, 1, 1⟩
def F.DRM_IRQ_EN_ERR : Fld := ⟨R.DRM_IRQ_EN, 0, 0⟩
def F.QDR_STATUS_READY : Fld := ⟨R.QDR_STATUS, 1, 0⟩
def F.QDR_ERR_TABLE_UE : Fld := ⟨R.QDR_ERR, 2, 2⟩
def F.QDR_ERR_UE : Fld := ⟨R.QDR_ERR, 1, 1⟩
def F.QDR_ERR_ADDR_PARITY : Fld := ⟨R.QDR_ERR, 0, 0⟩
def F.QDR_UE_ADDR_ADDR : Fld := ⟨R.QDR_UE_ADDR, 25, 0⟩
def F.QDR_SCRUB_PERIOD_S : Fld := ⟨R.QDR_SCRUB, 7, 0⟩
def F.QDR_CNT_Ei (i : Nat) : Fld := ⟨R.QDR_CNT_Ei i, 31, 0⟩
def F.QDR_IRQ_STATUS_ERR : Fld := ⟨R.QDR_IRQ_STATUS, 0, 0⟩
def F.QDR_IRQ_EN_ERR : Fld := ⟨R.QDR_IRQ_EN, 0, 0⟩
def F.RPL_ERR_POISON : Fld := ⟨R.RPL_ERR, 3, 3⟩
def F.RPL_ERR_RANGE : Fld := ⟨R.RPL_ERR, 2, 2⟩
def F.RPL_ERR_SIZE : Fld := ⟨R.RPL_ERR, 1, 1⟩
def F.RPL_ERR_REC_DROP : Fld := ⟨R.RPL_ERR, 0, 0⟩
def F.RPL_CHc_CTRL_SPEED (c : Nat) : Fld := ⟨R.RPL_CHc_CTRL c, 31, 16⟩
def F.RPL_CHc_CTRL_TGT_CUR (c : Nat) : Fld := ⟨R.RPL_CHc_CTRL c, 12, 12⟩
def F.RPL_CHc_CTRL_REC (c : Nat) : Fld := ⟨R.RPL_CHc_CTRL c, 8, 8⟩
def F.RPL_CHc_CTRL_SRC_ID (c : Nat) : Fld := ⟨R.RPL_CHc_CTRL c, 7, 4⟩
def F.RPL_CHc_CTRL_SRC_WB (c : Nat) : Fld := ⟨R.RPL_CHc_CTRL c, 3, 3⟩
def F.RPL_CHc_CTRL_MODE (c : Nat) : Fld := ⟨R.RPL_CHc_CTRL c, 1, 0⟩
def F.RPL_CHc_TARGET_LO (c : Nat) : Fld := ⟨R.RPL_CHc_TARGET_LO c, 31, 0⟩
def F.RPL_CHc_TARGET_HI (c : Nat) : Fld := ⟨R.RPL_CHc_TARGET_HI c, 31, 0⟩
def F.RPL_CHc_BASE_LO (c : Nat) : Fld := ⟨R.RPL_CHc_BASE_LO c, 31, 0⟩
def F.RPL_CHc_BASE_HI_BASE (c : Nat) : Fld := ⟨R.RPL_CHc_BASE_HI c, 7, 0⟩
def F.RPL_CHc_ENTRIES_ENTRIES (c : Nat) : Fld := ⟨R.RPL_CHc_ENTRIES c, 15, 0⟩
def F.RPL_CHc_ENTRY_SIZE (c : Nat) : Fld := ⟨R.RPL_CHc_ENTRY_SIZE c, 31, 0⟩
def F.RPL_CHc_STATUS_COPYING (c : Nat) : Fld := ⟨R.RPL_CHc_STATUS c, 31, 31⟩
def F.RPL_CHc_STATUS_CAUGHT_UP (c : Nat) : Fld := ⟨R.RPL_CHc_STATUS c, 30, 30⟩
def F.RPL_CHc_STATUS_RANGE (c : Nat) : Fld := ⟨R.RPL_CHc_STATUS c, 29, 29⟩
def F.RPL_CHc_STATUS_PRESENTING (c : Nat) : Fld := ⟨R.RPL_CHc_STATUS c, 28, 28⟩
def F.RPL_CHc_STATUS_ENTRY (c : Nat) : Fld := ⟨R.RPL_CHc_STATUS c, 15, 0⟩
def F.RPL_CHc_VALID_VALID (c : Nat) : Fld := ⟨R.RPL_CHc_VALID c, 15, 0⟩
def F.RPL_CHc_OLDEST_LO (c : Nat) : Fld := ⟨R.RPL_CHc_OLDEST_LO c, 31, 0⟩
def F.RPL_CHc_OLDEST_HI (c : Nat) : Fld := ⟨R.RPL_CHc_OLDEST_HI c, 31, 0⟩
def F.RPL_CHc_NEWEST_LO (c : Nat) : Fld := ⟨R.RPL_CHc_NEWEST_LO c, 31, 0⟩
def F.RPL_CHc_NEWEST_HI (c : Nat) : Fld := ⟨R.RPL_CHc_NEWEST_HI c, 31, 0⟩
def F.RPL_CHc_CNT_Ei (c : Nat) (i : Nat) : Fld := ⟨R.RPL_CHc_CNT_Ei c i, 31, 0⟩
def F.RPL_IRQ_STATUS_ERR : Fld := ⟨R.RPL_IRQ_STATUS, 0, 0⟩
def F.RPL_IRQ_EN_ERR : Fld := ⟨R.RPL_IRQ_EN, 0, 0⟩
def F.AUD_STATUS_RUNNING : Fld := ⟨R.AUD_STATUS, 3, 0⟩
def F.AUD_ERR_POISON : Fld := ⟨R.AUD_ERR, 5, 5⟩
def F.AUD_ERR_ROUTE : Fld := ⟨R.AUD_ERR, 4, 4⟩
def F.AUD_ERR_STREAM_LOST : Fld := ⟨R.AUD_ERR, 3, 3⟩
def F.AUD_ERR_LOSS : Fld := ⟨R.AUD_ERR, 2, 2⟩
def F.AUD_ERR_FORMAT : Fld := ⟨R.AUD_ERR, 1, 1⟩
def F.AUD_ERR_PT : Fld := ⟨R.AUD_ERR, 0, 0⟩
def F.AUDp_CFG_LATE_FS (p : Nat) : Fld := ⟨R.AUDp_CFG p, 9, 9⟩
def F.AUDp_CFG_FSYNC_LEN (p : Nat) : Fld := ⟨R.AUDp_CFG p, 8, 8⟩
def F.AUDp_CFG_EDGE (p : Nat) : Fld := ⟨R.AUDp_CFG p, 7, 7⟩
def F.AUDp_CFG_WIDTH (p : Nat) : Fld := ⟨R.AUDp_CFG p, 6, 6⟩
def F.AUDp_CFG_SLOTS (p : Nat) : Fld := ⟨R.AUDp_CFG p, 5, 4⟩
def F.AUDp_CFG_RATE (p : Nat) : Fld := ⟨R.AUDp_CFG p, 2, 2⟩
def F.AUDp_CFG_DIR (p : Nat) : Fld := ⟨R.AUDp_CFG p, 1, 1⟩
def F.AUDp_CFG_EN (p : Nat) : Fld := ⟨R.AUDp_CFG p, 0, 0⟩
def F.AUDp_SLOT_MASK_MASK (p : Nat) : Fld := ⟨R.AUDp_SLOT_MASK p, 15, 0⟩
def F.AUDp_DELAY_FRAMES (p : Nat) : Fld := ⟨R.AUDp_DELAY p, 19, 0⟩
def F.AUDp_ZC_FADE (p : Nat) : Fld := ⟨R.AUDp_ZC p, 23, 16⟩
def F.AUDp_ZC_TIMEOUT (p : Nat) : Fld := ⟨R.AUDp_ZC p, 15, 0⟩
def F.AUDp_STR_CTRL_PT (p : Nat) : Fld := ⟨R.AUDp_STR_CTRL p, 22, 16⟩
def F.AUDp_STR_CTRL_CH_M1 (p : Nat) : Fld := ⟨R.AUDp_STR_CTRL p, 11, 8⟩
def F.AUDp_STR_CTRL_RATE (p : Nat) : Fld := ⟨R.AUDp_STR_CTRL p, 6, 6⟩
def F.AUDp_STR_CTRL_L24 (p : Nat) : Fld := ⟨R.AUDp_STR_CTRL p, 5, 5⟩
def F.AUDp_STR_CTRL_SSM (p : Nat) : Fld := ⟨R.AUDp_STR_CTRL p, 4, 4⟩
def F.AUDp_STR_CTRL_IPV6 (p : Nat) : Fld := ⟨R.AUDp_STR_CTRL p, 3, 3⟩
def F.AUDp_STR_CTRL_PATH_B (p : Nat) : Fld := ⟨R.AUDp_STR_CTRL p, 2, 2⟩
def F.AUDp_STR_CTRL_PATH_A (p : Nat) : Fld := ⟨R.AUDp_STR_CTRL p, 1, 1⟩
def F.AUDp_STR_CTRL_EN (p : Nat) : Fld := ⟨R.AUDp_STR_CTRL p, 0, 0⟩
def F.AUDp_STR_PORTS_UDP_A (p : Nat) : Fld := ⟨R.AUDp_STR_PORTS p, 15, 0⟩
def F.AUDp_STR_PORTS_UDP_B (p : Nat) : Fld := ⟨R.AUDp_STR_PORTS p, 31, 16⟩
def F.AUDp_BUF_BASE_LO (p : Nat) : Fld := ⟨R.AUDp_BUF_BASE_LO p, 31, 0⟩
def F.AUDp_BUF_BASE_HI_BASE (p : Nat) : Fld := ⟨R.AUDp_BUF_BASE_HI p, 7, 0⟩
def F.AUDp_CAP_BASE_LO (p : Nat) : Fld := ⟨R.AUDp_CAP_BASE_LO p, 31, 0⟩
def F.AUDp_CAP_BASE_HI_BASE (p : Nat) : Fld := ⟨R.AUDp_CAP_BASE_HI p, 7, 0⟩
def F.AUDp_CAP_BLOCKS_RECORDS (p : Nat) : Fld := ⟨R.AUDp_CAP_BLOCKS p, 15, 0⟩
def F.AUDp_SLOTt_SRC_EN (p : Nat) (t : Nat) : Fld := ⟨R.AUDp_SLOTt_SRC p t, 15, 15⟩
def F.AUDp_SLOTt_SRC_STREAM (p : Nat) (t : Nat) : Fld := ⟨R.AUDp_SLOTt_SRC p t, 13, 12⟩
def F.AUDp_SLOTt_SRC_CHANNEL (p : Nat) (t : Nat) : Fld := ⟨R.AUDp_SLOTt_SRC p t, 3, 0⟩
def F.AUDp_GRP_Aw (p : Nat) (w : Nat) : Fld := ⟨R.AUDp_GRP_Aw p w, 31, 0⟩
def F.AUDp_SRC_Aw (p : Nat) (w : Nat) : Fld := ⟨R.AUDp_SRC_Aw p w, 31, 0⟩
def F.AUDp_GRP_Bw (p : Nat) (w : Nat) : Fld := ⟨R.AUDp_GRP_Bw p w, 31, 0⟩
def F.AUDp_SRC_Bw (p : Nat) (w : Nat) : Fld := ⟨R.AUDp_SRC_Bw p w, 31, 0⟩
def F.AUDp_STATUS_RECEIVING (p : Nat) : Fld := ⟨R.AUDp_STATUS p, 6, 6⟩
def F.AUDp_STATUS_JOINED_B (p : Nat) : Fld := ⟨R.AUDp_STATUS p, 5, 5⟩
def F.AUDp_STATUS_JOINED_A (p : Nat) : Fld := ⟨R.AUDp_STATUS p, 4, 4⟩
def F.AUDp_STATUS_PATH_B_UP (p : Nat) : Fld := ⟨R.AUDp_STATUS p, 1, 1⟩
def F.AUDp_STATUS_PATH_A_UP (p : Nat) : Fld := ⟨R.AUDp_STATUS p, 0, 0⟩
def F.AUDp_CAP_HEAD_COUNT (p : Nat) : Fld := ⟨R.AUDp_CAP_HEAD p, 31, 0⟩
def F.AUDp_CNT_Ei (p : Nat) (i : Nat) : Fld := ⟨R.AUDp_CNT_Ei p i, 31, 0⟩
def F.AUD_IRQ_STATUS_PATH_CHANGE : Fld := ⟨R.AUD_IRQ_STATUS, 1, 1⟩
def F.AUD_IRQ_STATUS_ERR : Fld := ⟨R.AUD_IRQ_STATUS, 0, 0⟩
def F.AUD_IRQ_EN_PATH_CHANGE : Fld := ⟨R.AUD_IRQ_EN, 1, 1⟩
def F.AUD_IRQ_EN_ERR : Fld := ⟨R.AUD_IRQ_EN, 0, 0⟩
def F.PWR_STATUS_CONVERTING : Fld := ⟨R.PWR_STATUS, 9, 8⟩
def F.PWR_STATUS_IN_RANGE : Fld := ⟨R.PWR_STATUS, 5, 4⟩
def F.PWR_STATUS_SWITCHING : Fld := ⟨R.PWR_STATUS, 2, 2⟩
def F.PWR_STATUS_LINK_OK : Fld := ⟨R.PWR_STATUS, 1, 1⟩
def F.PWR_STATUS_HOLDUP : Fld := ⟨R.PWR_STATUS, 0, 0⟩
def F.PWR_ERR_AUX_OVERLOAD : Fld := ⟨R.PWR_ERR, 9, 9⟩
def F.PWR_ERR_SCALE_DISAGREE : Fld := ⟨R.PWR_ERR, 8, 8⟩
def F.PWR_ERR_PEER_LOST : Fld := ⟨R.PWR_ERR, 7, 7⟩
def F.PWR_ERR_GRANT_OVER : Fld := ⟨R.PWR_ERR, 6, 6⟩
def F.PWR_ERR_LOCAL_LIMIT : Fld := ⟨R.PWR_ERR, 5, 5⟩
def F.PWR_ERR_FEED_LINK : Fld := ⟨R.PWR_ERR, 4, 4⟩
def F.PWR_ERR_OVERVOLT : Fld := ⟨R.PWR_ERR, 3, 3⟩
def F.PWR_ERR_BOTH_LOST : Fld := ⟨R.PWR_ERR, 2, 2⟩
def F.PWR_ERR_FEED_B_LOSS : Fld := ⟨R.PWR_ERR, 1, 1⟩
def F.PWR_ERR_FEED_A_LOSS : Fld := ⟨R.PWR_ERR, 0, 0⟩
def F.PWR_CMD_TRANSFER : Fld := ⟨R.PWR_CMD, 0, 0⟩
def F.PWR_FEEDx_STATUS_CAUSE (x : Nat) : Fld := ⟨R.PWR_FEEDx_STATUS x, 5, 4⟩
def F.PWR_FEEDx_STATUS_DC (x : Nat) : Fld := ⟨R.PWR_FEEDx_STATUS x, 3, 3⟩
def F.PWR_FEEDx_STATUS_STATE (x : Nat) : Fld := ⟨R.PWR_FEEDx_STATUS x, 1, 0⟩
def F.PWR_FEEDx_V (x : Nat) : Fld := ⟨R.PWR_FEEDx_V x, 31, 0⟩
def F.PWR_FEEDx_I_MA (x : Nat) : Fld := ⟨R.PWR_FEEDx_I x, 15, 0⟩
def F.PWR_FEEDx_P (x : Nat) : Fld := ⟨R.PWR_FEEDx_P x, 31, 0⟩
def F.PWR_FEEDx_FREQ_MHZ (x : Nat) : Fld := ⟨R.PWR_FEEDx_FREQ x, 15, 0⟩
def F.PWR_CNT_Ei (i : Nat) : Fld := ⟨R.PWR_CNT_Ei i, 31, 0⟩
def F.PWR_ENERGYi_LO (i : Nat) : Fld := ⟨R.PWR_ENERGYi_LO i, 31, 0⟩
def F.PWR_ENERGYi_HI (i : Nat) : Fld := ⟨R.PWR_ENERGYi_HI i, 31, 0⟩
def F.PWR_RAIL_P : Fld := ⟨R.PWR_RAIL_P, 31, 0⟩
def F.PWR_FRAME_RAIL : Fld := ⟨R.PWR_FRAME_RAIL, 31, 0⟩
def F.PWR_GRANT : Fld := ⟨R.PWR_GRANT, 31, 0⟩
def F.PWR_LIMIT_SCALE_L : Fld := ⟨R.PWR_LIMIT_SCALE, 15, 0⟩
def F.PWR_FEED_CTRL_REVERT_S : Fld := ⟨R.PWR_FEED_CTRL, 31, 16⟩
def F.PWR_FEED_CTRL_REVERT : Fld := ⟨R.PWR_FEED_CTRL, 14, 14⟩
def F.PWR_FEED_CTRL_PRIMARY : Fld := ⟨R.PWR_FEED_CTRL, 13, 13⟩
def F.PWR_FEED_CTRL_MODE : Fld := ⟨R.PWR_FEED_CTRL, 12, 12⟩
def F.PWR_FEED_CTRL_SHARE_A_PM : Fld := ⟨R.PWR_FEED_CTRL, 9, 0⟩
def F.PWR_PLAN_EN : Fld := ⟨R.PWR_PLAN, 31, 31⟩
def F.PWR_PLAN_SHARED : Fld := ⟨R.PWR_PLAN, 30, 30⟩
def F.PWR_PLAN_ROLL_MARGIN_PM : Fld := ⟨R.PWR_PLAN, 25, 16⟩
def F.PWR_PLAN_MARGIN_PM : Fld := ⟨R.PWR_PLAN, 9, 0⟩
def F.PWR_PLAN2_EFF_PM : Fld := ⟨R.PWR_PLAN2, 31, 22⟩
def F.PWR_PLAN2_STANDIN_FRAMES : Fld := ⟨R.PWR_PLAN2, 21, 16⟩
def F.PWR_PLAN2_RISE : Fld := ⟨R.PWR_PLAN2, 15, 0⟩
def F.PWR_PEER_US_US : Fld := ⟨R.PWR_PEER_US, 15, 0⟩
def F.PWR_GRANT_TOL_MJ : Fld := ⟨R.PWR_GRANT_TOL, 15, 0⟩
def F.PWR_CIRCk_LIMIT_W (k : Nat) : Fld := ⟨R.PWR_CIRCk_LIMIT k, 15, 0⟩
def F.PWR_SLOTs_CFG_FIX_W (s : Nat) : Fld := ⟨R.PWR_SLOTs_CFG s, 23, 16⟩
def F.PWR_SLOTs_CFG_B_EN (s : Nat) : Fld := ⟨R.PWR_SLOTs_CFG s, 12, 12⟩
def F.PWR_SLOTs_CFG_CIRC_B (s : Nat) : Fld := ⟨R.PWR_SLOTs_CFG s, 11, 8⟩
def F.PWR_SLOTs_CFG_A_EN (s : Nat) : Fld := ⟨R.PWR_SLOTs_CFG s, 4, 4⟩
def F.PWR_SLOTs_CFG_CIRC_A (s : Nat) : Fld := ⟨R.PWR_SLOTs_CFG s, 3, 0⟩
def F.PWR_PEERi_EN (i : Nat) : Fld := ⟨R.PWR_PEERi i, 31, 31⟩
def F.PWR_PEERi_NODE (i : Nat) : Fld := ⟨R.PWR_PEERi i, 17, 0⟩
def F.PWR_SLOTs_PLAN (s : Nat) : Fld := ⟨R.PWR_SLOTs_PLAN s, 31, 0⟩
def F.PWR_SLOTs_GRANT (s : Nat) : Fld := ⟨R.PWR_SLOTs_GRANT s, 31, 0⟩
def F.PWR_SCALE_WALL : Fld := ⟨R.PWR_SCALE, 31, 16⟩
def F.PWR_SCALE_CHAIN : Fld := ⟨R.PWR_SCALE, 15, 0⟩
def F.PWR_BIND_CHAIN_ID : Fld := ⟨R.PWR_BIND, 23, 16⟩
def F.PWR_BIND_RISE : Fld := ⟨R.PWR_BIND, 8, 8⟩
def F.PWR_BIND_CIRCUIT : Fld := ⟨R.PWR_BIND, 3, 0⟩
def F.PWR_IRQ_STATUS_SCALE_CHANGE : Fld := ⟨R.PWR_IRQ_STATUS, 2, 2⟩
def F.PWR_IRQ_STATUS_FEED_CHANGE : Fld := ⟨R.PWR_IRQ_STATUS, 1, 1⟩
def F.PWR_IRQ_STATUS_ERR : Fld := ⟨R.PWR_IRQ_STATUS, 0, 0⟩
def F.PWR_IRQ_EN_SCALE_CHANGE : Fld := ⟨R.PWR_IRQ_EN, 2, 2⟩
def F.PWR_IRQ_EN_FEED_CHANGE : Fld := ⟨R.PWR_IRQ_EN, 1, 1⟩
def F.PWR_IRQ_EN_ERR : Fld := ⟨R.PWR_IRQ_EN, 0, 0⟩
def F.CAL_CTRL_EN : Fld := ⟨R.CAL_CTRL, 31, 31⟩
def F.CAL_CTRL_AUTO_SAVE : Fld := ⟨R.CAL_CTRL, 30, 30⟩
def F.CAL_CTRL_INTERVAL_S : Fld := ⟨R.CAL_CTRL, 15, 0⟩
def F.CAL_STATUS_TARGET : Fld := ⟨R.CAL_STATUS, 31, 24⟩
def F.CAL_STATUS_REF_OK : Fld := ⟨R.CAL_STATUS, 8, 8⟩
def F.CAL_STATUS_CYCLE : Fld := ⟨R.CAL_STATUS, 4, 4⟩
def F.CAL_STATUS_TRACED : Fld := ⟨R.CAL_STATUS, 0, 0⟩
def F.CAL_ERR_SAVE_FAIL : Fld := ⟨R.CAL_ERR, 6, 6⟩
def F.CAL_ERR_STORE_LOST : Fld := ⟨R.CAL_ERR, 5, 5⟩
def F.CAL_ERR_STORE_COPY : Fld := ⟨R.CAL_ERR, 4, 4⟩
def F.CAL_ERR_TRIM_RANGE : Fld := ⟨R.CAL_ERR, 3, 3⟩
def F.CAL_ERR_RESIDUAL : Fld := ⟨R.CAL_ERR, 2, 2⟩
def F.CAL_ERR_REF_NOISE : Fld := ⟨R.CAL_ERR, 1, 1⟩
def F.CAL_ERR_REF_ABSENT : Fld := ⟨R.CAL_ERR, 0, 0⟩
def F.CAL_REF_UV : Fld := ⟨R.CAL_REF, 31, 0⟩
def F.CAL_SAVE_CFG_SAVE_MIN_S : Fld := ⟨R.CAL_SAVE_CFG, 15, 0⟩
def F.CAL_LIMIT_RESID_PPM : Fld := ⟨R.CAL_LIMIT, 15, 0⟩
def F.CAL_CMD_ABORT : Fld := ⟨R.CAL_CMD, 2, 2⟩
def F.CAL_CMD_SAVE : Fld := ⟨R.CAL_CMD, 1, 1⟩
def F.CAL_CMD_CYCLE : Fld := ⟨R.CAL_CMD, 0, 0⟩
def F.CAL_STORE_STATUS_IN_USE : Fld := ⟨R.CAL_STORE_STATUS, 2, 2⟩
def F.CAL_STORE_STATUS_COPY1_VALID : Fld := ⟨R.CAL_STORE_STATUS, 1, 1⟩
def F.CAL_STORE_STATUS_COPY0_VALID : Fld := ⟨R.CAL_STORE_STATUS, 0, 0⟩
def F.CAL_STORE_SEQ_SEQ : Fld := ⟨R.CAL_STORE_SEQ, 31, 0⟩
def F.CAL_LAST_CYCLE_LO_STC : Fld := ⟨R.CAL_LAST_CYCLE_LO, 31, 0⟩
def F.CAL_LAST_CYCLE_HI_STC : Fld := ⟨R.CAL_LAST_CYCLE_HI, 31, 0⟩
def F.CAL_CNT_Ei (i : Nat) : Fld := ⟨R.CAL_CNT_Ei i, 31, 0⟩
def F.CAL_TRIMt_PASS (t : Nat) : Fld := ⟨R.CAL_TRIMt t, 31, 31⟩
def F.CAL_TRIMt_SKIPPED (t : Nat) : Fld := ⟨R.CAL_TRIMt t, 30, 30⟩
def F.CAL_TRIMt_CODE (t : Nat) : Fld := ⟨R.CAL_TRIMt t, 11, 0⟩
def F.CAL_RESIDt_PPM (t : Nat) : Fld := ⟨R.CAL_RESIDt t, 31, 0⟩
def F.CAL_LANEk_EYE_WIDTH (k : Nat) : Fld := ⟨R.CAL_LANEk_EYE k, 9, 0⟩
def F.CAL_IRQ_STATUS_ERR : Fld := ⟨R.CAL_IRQ_STATUS, 2, 2⟩
def F.CAL_IRQ_STATUS_SAVED : Fld := ⟨R.CAL_IRQ_STATUS, 1, 1⟩
def F.CAL_IRQ_STATUS_CYCLE_DONE : Fld := ⟨R.CAL_IRQ_STATUS, 0, 0⟩
def F.CAL_IRQ_EN_ERR : Fld := ⟨R.CAL_IRQ_EN, 2, 2⟩
def F.CAL_IRQ_EN_SAVED : Fld := ⟨R.CAL_IRQ_EN, 1, 1⟩
def F.CAL_IRQ_EN_CYCLE_DONE : Fld := ⟨R.CAL_IRQ_EN, 0, 0⟩
def F.THM_STATUS_T_SCALE : Fld := ⟨R.THM_STATUS, 31, 16⟩
def F.THM_STATUS_DIV : Fld := ⟨R.THM_STATUS, 9, 8⟩
def F.THM_STATUS_STATE : Fld := ⟨R.THM_STATUS, 1, 0⟩
def F.THM_ERR_FALLBACK : Fld := ⟨R.THM_ERR, 5, 5⟩
def F.THM_ERR_CLKDIV : Fld := ⟨R.THM_ERR, 4, 4⟩
def F.THM_ERR_SENSOR_FAIL : Fld := ⟨R.THM_ERR, 3, 3⟩
def F.THM_ERR_SUSPECT : Fld := ⟨R.THM_ERR, 2, 2⟩
def F.THM_ERR_SHUTDOWN : Fld := ⟨R.THM_ERR, 1, 1⟩
def F.THM_ERR_WARN : Fld := ⟨R.THM_ERR, 0, 0⟩
def F.THM_TEMP_TMAX : Fld := ⟨R.THM_TEMP, 31, 16⟩
def F.THM_TEMP_DIE : Fld := ⟨R.THM_TEMP, 15, 0⟩
def F.THM_COOL_S : Fld := ⟨R.THM_COOL, 15, 0⟩
def F.THM_CNT_Ei (i : Nat) : Fld := ⟨R.THM_CNT_Ei i, 31, 0⟩
def F.THM_CTRL_CLKDIV_EN : Fld := ⟨R.THM_CTRL, 31, 31⟩
def F.THM_CTRL_WARN_OFS : Fld := ⟨R.THM_CTRL, 4, 0⟩
def F.THM_THROTTLE_DOWN : Fld := ⟨R.THM_THROTTLE, 31, 16⟩
def F.THM_THROTTLE_UP : Fld := ⟨R.THM_THROTTLE, 15, 0⟩
def F.THM_THROTTLE2_FLOOR : Fld := ⟨R.THM_THROTTLE2, 31, 16⟩
def F.THM_THROTTLE2_HYST : Fld := ⟨R.THM_THROTTLE2, 12, 8⟩
def F.THM_THROTTLE2_CLK_S : Fld := ⟨R.THM_THROTTLE2, 7, 0⟩
def F.THM_SENSn_FAILED (n : Nat) : Fld := ⟨R.THM_SENSn n, 17, 17⟩
def F.THM_SENSn_SUSPECT (n : Nat) : Fld := ⟨R.THM_SENSn n, 16, 16⟩
def F.THM_SENSn_T (n : Nat) : Fld := ⟨R.THM_SENSn n, 15, 0⟩
def F.THM_COMPc_FALLBACK (c : Nat) : Fld := ⟨R.THM_COMPc c, 16, 16⟩
def F.THM_COMPc_T (c : Nat) : Fld := ⟨R.THM_COMPc c, 15, 0⟩
def F.THM_IRQ_STATUS_ERR : Fld := ⟨R.THM_IRQ_STATUS, 1, 1⟩
def F.THM_IRQ_STATUS_STATE_CHANGE : Fld := ⟨R.THM_IRQ_STATUS, 0, 0⟩
def F.THM_IRQ_EN_ERR : Fld := ⟨R.THM_IRQ_EN, 1, 1⟩
def F.THM_IRQ_EN_STATE_CHANGE : Fld := ⟨R.THM_IRQ_EN, 0, 0⟩
def F.PM_STATUS_PENDING : Fld := ⟨R.PM_STATUS, 6, 4⟩
def F.PM_STATUS_STATE : Fld := ⟨R.PM_STATUS, 2, 0⟩
def F.PM_ERR_GATED_ACCESS : Fld := ⟨R.PM_ERR, 2, 2⟩
def F.PM_ERR_ABORTED : Fld := ⟨R.PM_ERR, 1, 1⟩
def F.PM_ERR_REFUSED : Fld := ⟨R.PM_ERR, 0, 0⟩
def F.PM_REQ_AT_WFN : Fld := ⟨R.PM_REQ, 8, 8⟩
def F.PM_REQ_STATE : Fld := ⟨R.PM_REQ, 2, 0⟩
def F.PM_REQ_WFN_LO_WFN : Fld := ⟨R.PM_REQ_WFN_LO, 31, 0⟩
def F.PM_REQ_WFN_HI_WFN : Fld := ⟨R.PM_REQ_WFN_HI, 31, 0⟩
def F.PM_CTRL_WAKE_TO_DIM : Fld := ⟨R.PM_CTRL, 2, 2⟩
def F.PM_CTRL_KEEP_TIME : Fld := ⟨R.PM_CTRL, 1, 1⟩
def F.PM_CTRL_AUX_BRACKEN : Fld := ⟨R.PM_CTRL, 0, 0⟩
def F.PM_BRK_CFG_WINDOW_US : Fld := ⟨R.PM_BRK_CFG, 23, 16⟩
def F.PM_BRK_CFG_PERIOD_MS : Fld := ⟨R.PM_BRK_CFG, 7, 0⟩
def F.PM_WAKE_EN_EN : Fld := ⟨R.PM_WAKE_EN, 8, 0⟩
def F.PM_WAKE_SRC_SRC : Fld := ⟨R.PM_WAKE_SRC, 8, 0⟩
def F.PM_WAKE_TEMP_C : Fld := ⟨R.PM_WAKE_TEMP, 7, 0⟩
def F.PM_WAKE_TIMER_S : Fld := ⟨R.PM_WAKE_TIMER, 31, 0⟩
def F.PM_REFUSE_COUNT_COUNT : Fld := ⟨R.PM_REFUSE_COUNT, 31, 0⟩
def F.PM_LAST_REFUSER_STATE : Fld := ⟨R.PM_LAST_REFUSER, 26, 24⟩
def F.PM_LAST_REFUSER_ABORT : Fld := ⟨R.PM_LAST_REFUSER, 16, 16⟩
def F.PM_LAST_REFUSER_REASON : Fld := ⟨R.PM_LAST_REFUSER, 15, 8⟩
def F.PM_LAST_REFUSER_BLOCK : Fld := ⟨R.PM_LAST_REFUSER, 7, 0⟩
def F.PM_WAKE_COUNT_COUNT : Fld := ⟨R.PM_WAKE_COUNT, 31, 0⟩
def F.PM_IRQ_STATUS_ERR : Fld := ⟨R.PM_IRQ_STATUS, 2, 2⟩
def F.PM_IRQ_STATUS_WAKE : Fld := ⟨R.PM_IRQ_STATUS, 1, 1⟩
def F.PM_IRQ_STATUS_STATE_CHANGE : Fld := ⟨R.PM_IRQ_STATUS, 0, 0⟩
def F.PM_IRQ_EN_ERR : Fld := ⟨R.PM_IRQ_EN, 2, 2⟩
def F.PM_IRQ_EN_WAKE : Fld := ⟨R.PM_IRQ_EN, 1, 1⟩
def F.PM_IRQ_EN_STATE_CHANGE : Fld := ⟨R.PM_IRQ_EN, 0, 0⟩
def F.UPD_STATUS_CODE : Fld := ⟨R.UPD_STATUS, 31, 16⟩
def F.UPD_STATUS_KIND : Fld := ⟨R.UPD_STATUS, 10, 8⟩
def F.UPD_STATUS_STATE : Fld := ⟨R.UPD_STATUS, 3, 0⟩
def F.UPD_ERR_CODES : Fld := ⟨R.UPD_ERR, 15, 0⟩
def F.UPD_CMD_OP : Fld := ⟨R.UPD_CMD, 3, 0⟩
def F.UPD_CTRL_AUTO_CONFIRM : Fld := ⟨R.UPD_CTRL, 31, 31⟩
def F.UPD_CTRL_GOLDEN_EN : Fld := ⟨R.UPD_CTRL, 30, 30⟩
def F.UPD_CTRL_TARGET : Fld := ⟨R.UPD_CTRL, 25, 24⟩
def F.UPD_CTRL_CONFIRM_S : Fld := ⟨R.UPD_CTRL, 15, 0⟩
def F.UPD_STAGE_BASE_LO_BASE : Fld := ⟨R.UPD_STAGE_BASE_LO, 31, 0⟩
def F.UPD_STAGE_BASE_HI_BASE : Fld := ⟨R.UPD_STAGE_BASE_HI, 7, 0⟩
def F.UPD_IMPORT_LEN_BYTES : Fld := ⟨R.UPD_IMPORT_LEN, 26, 0⟩
def F.UPD_RX_COUNT_BLOCKS : Fld := ⟨R.UPD_RX_COUNT, 14, 0⟩
def F.UPD_ACT_WFN_LO : Fld := ⟨R.UPD_ACT_WFN_LO, 31, 0⟩
def F.UPD_ACT_WFN_HI : Fld := ⟨R.UPD_ACT_WFN_HI, 31, 0⟩
def F.UPD_TXN_VALID : Fld := ⟨R.UPD_TXN, 16, 16⟩
def F.UPD_TXN_TXN : Fld := ⟨R.UPD_TXN, 15, 0⟩
def F.UPD_IMAGE_ID_LO : Fld := ⟨R.UPD_IMAGE_ID_LO, 31, 0⟩
def F.UPD_IMAGE_ID_HI : Fld := ⟨R.UPD_IMAGE_ID_HI, 31, 0⟩
def F.UPD_BOOT_COUNTER : Fld := ⟨R.UPD_BOOT, 31, 24⟩
def F.UPD_BOOT_GOLDEN_SV : Fld := ⟨R.UPD_BOOT, 23, 16⟩
def F.UPD_BOOT_PREFERRED : Fld := ⟨R.UPD_BOOT, 9, 8⟩
def F.UPD_BOOT_TRIALS_LEFT : Fld := ⟨R.UPD_BOOT, 6, 4⟩
def F.UPD_BOOT_TRIAL_RUNNING : Fld := ⟨R.UPD_BOOT, 1, 1⟩
def F.UPD_BOOT_HELD : Fld := ⟨R.UPD_BOOT, 0, 0⟩
def F.UPD_SLOTs_STATE_SETTINGS_FORMAT (s : Nat) : Fld := ⟨R.UPD_SLOTs_STATE s, 31, 16⟩
def F.UPD_SLOTs_STATE_SV (s : Nat) : Fld := ⟨R.UPD_SLOTs_STATE s, 15, 8⟩
def F.UPD_SLOTs_STATE_KEY_SLOT (s : Nat) : Fld := ⟨R.UPD_SLOTs_STATE s, 5, 4⟩
def F.UPD_SLOTs_STATE_STATE (s : Nat) : Fld := ⟨R.UPD_SLOTs_STATE s, 2, 0⟩
def F.UPD_SLOTs_ID_LO (s : Nat) : Fld := ⟨R.UPD_SLOTs_ID_LO s, 31, 0⟩
def F.UPD_SLOTs_ID_HI (s : Nat) : Fld := ⟨R.UPD_SLOTs_ID_HI s, 31, 0⟩
def F.UPD_BLK_OFFSET_OFFSET : Fld := ⟨R.UPD_BLK_OFFSET, 26, 0⟩
def F.UPD_BLK_DATA : Fld := ⟨R.UPD_BLK_DATA, 31, 0⟩
def F.UPD_BLK_SUBMIT_GO : Fld := ⟨R.UPD_BLK_SUBMIT, 0, 0⟩
def F.UPD_BLK_STATUS_WORDS : Fld := ⟨R.UPD_BLK_STATUS, 26, 16⟩
def F.UPD_BLK_STATUS_RESULT : Fld := ⟨R.UPD_BLK_STATUS, 2, 0⟩
def F.SEC_STATUS_DEBUG_FUSE : Fld := ⟨R.SEC_STATUS, 31, 31⟩
def F.SEC_STATUS_CLEARED : Fld := ⟨R.SEC_STATUS, 30, 30⟩
def F.SEC_STATUS_REVOKED : Fld := ⟨R.SEC_STATUS, 19, 16⟩
def F.SEC_STATUS_FILLED : Fld := ⟨R.SEC_STATUS, 11, 8⟩
def F.SEC_STATUS_WALL_KEY : Fld := ⟨R.SEC_STATUS, 1, 1⟩
def F.SEC_STATUS_CHAIN_KEY : Fld := ⟨R.SEC_STATUS, 0, 0⟩
def F.SEC_CHAIN_VER : Fld := ⟨R.SEC_CHAIN_VER, 31, 0⟩
def F.SEC_WALL_VER : Fld := ⟨R.SEC_WALL_VER, 31, 0⟩
def F.SEC_DEV_PUBKEYw (w : Nat) : Fld := ⟨R.SEC_DEV_PUBKEYw w, 31, 0⟩
def F.SEC_ROOTs_HASHw (s : Nat) (w : Nat) : Fld := ⟨R.SEC_ROOTs_HASHw s w, 31, 0⟩
def F.UPD_IRQ_STATUS_ERR : Fld := ⟨R.UPD_IRQ_STATUS, 2, 2⟩
def F.UPD_IRQ_STATUS_READY : Fld := ⟨R.UPD_IRQ_STATUS, 1, 1⟩
def F.UPD_IRQ_STATUS_STATE_CHANGE : Fld := ⟨R.UPD_IRQ_STATUS, 0, 0⟩
def F.UPD_IRQ_EN_ERR : Fld := ⟨R.UPD_IRQ_EN, 2, 2⟩
def F.UPD_IRQ_EN_READY : Fld := ⟨R.UPD_IRQ_EN, 1, 1⟩
def F.UPD_IRQ_EN_STATE_CHANGE : Fld := ⟨R.UPD_IRQ_EN, 0, 0⟩
def F.BST_STATUS_TEST : Fld := ⟨R.BST_STATUS, 6, 4⟩
def F.BST_STATUS_BUSY : Fld := ⟨R.BST_STATUS, 0, 0⟩
def F.BST_ERR_PLACE : Fld := ⟨R.BST_ERR, 2, 2⟩
def F.BST_ERR_BUSY : Fld := ⟨R.BST_ERR, 1, 1⟩
def F.BST_ERR_FAIL : Fld := ⟨R.BST_ERR, 0, 0⟩
def F.BST_CMD_TEST : Fld := ⟨R.BST_CMD, 2, 0⟩
def F.BST_DRAM_BASE_LO_BASE : Fld := ⟨R.BST_DRAM_BASE_LO, 31, 0⟩
def F.BST_DRAM_BASE_HI_BASE : Fld := ⟨R.BST_DRAM_BASE_HI, 7, 0⟩
def F.BST_DRAM_LEN_MIB : Fld := ⟨R.BST_DRAM_LEN, 23, 0⟩
def F.BST_RESULT_MEM : Fld := ⟨R.BST_RESULT, 31, 24⟩
def F.BST_RESULT_TEST : Fld := ⟨R.BST_RESULT, 6, 4⟩
def F.BST_RESULT_RESULT : Fld := ⟨R.BST_RESULT, 1, 0⟩
def F.BST_FAIL_ADDR_LO_ADDR : Fld := ⟨R.BST_FAIL_ADDR_LO, 31, 0⟩
def F.BST_FAIL_ADDR_HI_ADDR : Fld := ⟨R.BST_FAIL_ADDR_HI, 31, 0⟩
def F.BST_FAIL_BIT_COUNT : Fld := ⟨R.BST_FAIL_BIT, 31, 8⟩
def F.BST_FAIL_BIT_BIT : Fld := ⟨R.BST_FAIL_BIT, 5, 0⟩
def F.BST_REPAIR_UNREPAIRED : Fld := ⟨R.BST_REPAIR, 23, 16⟩
def F.BST_REPAIR_HARD : Fld := ⟨R.BST_REPAIR, 15, 8⟩
def F.BST_REPAIR_SOFT : Fld := ⟨R.BST_REPAIR, 7, 0⟩
def F.BST_IRQ_STATUS_ERR : Fld := ⟨R.BST_IRQ_STATUS, 1, 1⟩
def F.BST_IRQ_STATUS_DONE : Fld := ⟨R.BST_IRQ_STATUS, 0, 0⟩
def F.BST_IRQ_EN_ERR : Fld := ⟨R.BST_IRQ_EN, 1, 1⟩
def F.BST_IRQ_EN_DONE : Fld := ⟨R.BST_IRQ_EN, 0, 0⟩
def F.FLT_STATUS_LAST_CODE : Fld := ⟨R.FLT_STATUS, 31, 16⟩
def F.FLT_STATUS_EXPORTING : Fld := ⟨R.FLT_STATUS, 10, 10⟩
def F.FLT_STATUS_CLEARING : Fld := ⟨R.FLT_STATUS, 9, 9⟩
def F.FLT_STATUS_READY : Fld := ⟨R.FLT_STATUS, 8, 8⟩
def F.FLT_STATUS_PENDING : Fld := ⟨R.FLT_STATUS, 6, 0⟩
def F.FLT_ERR_PLACE : Fld := ⟨R.FLT_ERR, 3, 3⟩
def F.FLT_ERR_CORRUPT : Fld := ⟨R.FLT_ERR, 2, 2⟩
def F.FLT_ERR_WRITE_FAIL : Fld := ⟨R.FLT_ERR, 1, 1⟩
def F.FLT_ERR_OVERFLOW : Fld := ⟨R.FLT_ERR, 0, 0⟩
def F.FLT_CMD_KEY : Fld := ⟨R.FLT_CMD, 31, 16⟩
def F.FLT_CMD_OP : Fld := ⟨R.FLT_CMD, 1, 0⟩
def F.FLT_SINCE_RESET_COUNT : Fld := ⟨R.FLT_SINCE_RESET, 15, 0⟩
def F.FLT_NEXT_SEQ_SEQ : Fld := ⟨R.FLT_NEXT_SEQ, 31, 0⟩
def F.FLT_OLDEST_SEQ_SEQ : Fld := ⟨R.FLT_OLDEST_SEQ, 31, 0⟩
def F.FLT_CLEAR_COUNT_COUNT : Fld := ⟨R.FLT_CLEAR_COUNT, 31, 0⟩
def F.FLT_RD_SEQ_SEQ : Fld := ⟨R.FLT_RD_SEQ, 31, 0⟩
def F.FLT_RD_STATUS_STATE : Fld := ⟨R.FLT_RD_STATUS, 1, 0⟩
def F.FLT_RD_DATAw_DATA (w : Nat) : Fld := ⟨R.FLT_RD_DATAw w, 31, 0⟩
def F.FLT_EXPORT_BASE_LO_BASE : Fld := ⟨R.FLT_EXPORT_BASE_LO, 31, 0⟩
def F.FLT_EXPORT_BASE_HI_BASE : Fld := ⟨R.FLT_EXPORT_BASE_HI, 7, 0⟩
def F.FLT_EXPORT_COUNT_COUNT : Fld := ⟨R.FLT_EXPORT_COUNT, 16, 0⟩
def F.FLT_CNT_Ei (i : Nat) : Fld := ⟨R.FLT_CNT_Ei i, 31, 0⟩
def F.FLT_IRQ_STATUS_EXPORT_DONE : Fld := ⟨R.FLT_IRQ_STATUS, 3, 3⟩
def F.FLT_IRQ_STATUS_CLEARED : Fld := ⟨R.FLT_IRQ_STATUS, 2, 2⟩
def F.FLT_IRQ_STATUS_ERR : Fld := ⟨R.FLT_IRQ_STATUS, 1, 1⟩
def F.FLT_IRQ_STATUS_LOGGED : Fld := ⟨R.FLT_IRQ_STATUS, 0, 0⟩
def F.FLT_IRQ_EN_EXPORT_DONE : Fld := ⟨R.FLT_IRQ_EN, 3, 3⟩
def F.FLT_IRQ_EN_CLEARED : Fld := ⟨R.FLT_IRQ_EN, 2, 2⟩
def F.FLT_IRQ_EN_ERR : Fld := ⟨R.FLT_IRQ_EN, 1, 1⟩
def F.FLT_IRQ_EN_LOGGED : Fld := ⟨R.FLT_IRQ_EN, 0, 0⟩

end Sys2Proof.Machine
end

