-- ==== Sys2Proof/Machine/RegTable.lean ====
section
/-!
DEFINITION. The register table as data: for every register of a window its offset, its index strides and counts, the
bits that read (every access type but WO), the bits a write sets (RW, RWS), the W1C bits, the RC bits, the bits a warm
reset keeps (R17, R18), the reset value, and whether it is RWS (an active copy at + 0x8000, R12) or exists once per
access path. Derived from the spec's register tables and field tables.
-/

namespace Sys2Proof.Machine

/-- What is special about a register's storage: nothing; RWS with an active copy (R12); one copy per access path. -/
inductive RowKind where
  | plain | rws | perPath
  deriving DecidableEq, Repr

/-- One row of the register table: offset, outer stride and count, inner stride and count, then the masks. -/
structure Row where
  off : Nat
  s1 : Nat
  c1 : Nat
  s2 : Nat
  c2 : Nat
  vis : Nat
  wr : Nat
  w1c : Nat
  rc : Nat
  keep : Nat
  rst : Nat
  kind : RowKind
  deriving DecidableEq, Repr

/-- Does the row hold the register at offset `o`? -/
def Row.holds (r : Row) (o : Nat) : Bool :=
  r.off ≤ o && (o - r.off) / r.s1 < r.c1 && (o - r.off) % r.s1 % r.s2 == 0 && (o - r.off) % r.s1 / r.s2 < r.c2

/-- Register table of SYS, part 1. -/
def rowsSys1 : List Row :=
  [⟨0x0, 0x10000, 1, 4, 1, 0xFFFFFFFF, 0x0, 0x0, 0x0, 0x0, 0x9624, .plain⟩,
   ⟨0x4, 0x10000, 1, 4, 1, 0xFF, 0x0, 0x0, 0x0, 0x0, 0x0, .plain⟩,
   ⟨0x8, 0x10000, 1, 4, 1, 0x3F, 0x0, 0x0, 0x0, 0x0, 0x1, .plain⟩,
   ⟨0xC, 0x10000, 1, 4, 1, 0x3, 0x0, 0x0, 0x0, 0x0, 0x0, .plain⟩,
   ⟨0x10, 0x10000, 1, 4, 1, 0xFFFFFFFF, 0x0, 0x0, 0x0, 0x0, 0x0, .plain⟩,
   ⟨0x14, 0x10000, 1, 4, 1, 0xFFFFFFFF, 0x0, 0x0, 0x0, 0x0, 0x0, .plain⟩,
   ⟨0x20, 0x10000, 1, 4, 1, 0x0, 0x0, 0x0, 0x0, 0x0, 0x0, .plain⟩,
   ⟨0x24, 0x10000, 1, 4, 1, 0x3, 0x0, 0x0, 0x0, 0x3, 0x0, .plain⟩,
   ⟨0x30, 0x10000, 1, 4, 1, 0x8000FFFF, 0x8000FFFF, 0x0, 0x0, 0x0, 0x3E8, .plain⟩,
   ⟨0x34, 0x10000, 1, 4, 1, 0x0, 0x0, 0x0, 0x0, 0x0, 0x0, .plain⟩,
   ⟨0x38, 0x10000, 1, 4, 1, 0xFFFF, 0x0, 0x0, 0x0, 0x0, 0x0, .plain⟩,
   ⟨0x7FF0, 0x10000, 1, 4, 1, 0x1, 0x0, 0x1, 0x0, 0x0, 0x0, .plain⟩,
   ⟨0x7FF4, 0x10000, 1, 4, 1, 0x1, 0x1, 0x0, 0x0, 0x0, 0x0, .plain⟩]

/-- Register table of SYS: every register of its window. -/
def rowsSys : List Row := rowsSys1

/-- Register table of HIF, part 1. -/
def rowsHif1 : List Row :=
  [⟨0x0, 0x10000, 1, 4, 1, 0x7, 0x7, 0x0, 0x0, 0x0, 0x6, .plain⟩,
   ⟨0x4, 0x10000, 1, 4, 1, 0x3FFFF, 0x0, 0x0, 0x0, 0x0, 0x0, .plain⟩,
   ⟨0x8, 0x10000, 1, 4, 1, 0xFF, 0x0, 0xFF, 0x0, 0xFF, 0x0, .plain⟩,
   ⟨0xC, 0x10000, 1, 4, 1, 0x7F03FF, 0x0, 0x0, 0x0, 0x0, 0x4C0000, .plain⟩,
   ⟨0x10, 0x10000, 1, 4, 1, 0xFFFFFFFF, 0x0, 0x0, 0x0, 0x0, 0x0, .plain⟩,
   ⟨0x14, 0x10000, 1, 4, 1, 0xFFFF, 0x0, 0x0, 0x0, 0x0, 0x365C, .plain⟩,
   ⟨0x18, 0x10000, 1, 4, 1, 0xFFFF, 0xFFFF, 0x0, 0x0, 0x0, 0xC1D8, .plain⟩,
   ⟨0x20, 0x10000, 1, 4, 1, 0xFFFFFFFF, 0x0, 0x0, 0x0, 0x0, 0x0, .plain⟩,
   ⟨0x24, 0x10000, 1, 4, 1, 0xFFFFFFFF, 0x0, 0x0, 0x0, 0x0, 0x0, .plain⟩,
   ⟨0x28, 0x10000, 1, 4, 1, 0xFFFFFFFF, 0xFFFFFFFF, 0x0, 0x0, 0x0, 0x0, .plain⟩,
   ⟨0x2C, 0x10000, 1, 4, 1, 0xFFFFFFFF, 0xFFFFFFFF, 0x0, 0x0, 0x0, 0x0, .plain⟩,
   ⟨0x30, 0x10000, 1, 4, 1, 0xFFFFFFFF, 0xFFFFFFFF, 0x0, 0x0, 0x0, 0x0, .plain⟩,
   ⟨0x34, 0x10000, 1, 4, 1, 0xFFFFFFFF, 0xFFFFFFFF, 0x0, 0x0, 0x0, 0x0, .plain⟩,
   ⟨0x38, 0x10000, 1, 4, 1, 0xFFFFFFFF, 0xFFFFFFFF, 0x0, 0x0, 0x0, 0x0, .plain⟩,
   ⟨0x3C, 0x10000, 1, 4, 1, 0xFFFFFFFF, 0xFFFFFFFF, 0x0, 0x0, 0x0, 0x0, .plain⟩,
   ⟨0x40, 0x10000, 1, 4, 1, 0x3FFFF, 0x3FFFF, 0x0, 0x0, 0x0, 0x0, .plain⟩,
   ⟨0x50, 0x10000, 1, 4, 1, 0xFF03, 0xFF03, 0x0, 0x0, 0x0, 0x3C00, .plain⟩,
   ⟨0x54, 0x10000, 1, 4, 1, 0xFFFFFFFF, 0xFFFFFFFF, 0x0, 0x0, 0x0, 0x1000000, .plain⟩,
   ⟨0x58, 0x10000, 1, 4, 1, 0xFF, 0xFF, 0x0, 0x0, 0x0, 0x0, .plain⟩,
   ⟨0x5C, 0x10000, 1, 4, 1, 0xFFFF, 0xFFFF, 0x0, 0x0, 0x0, 0x40, .plain⟩,
   ⟨0x60, 0x10000, 1, 4, 1, 0x7FFFF, 0x0, 0x0, 0x0, 0x0, 0x0, .plain⟩,
   ⟨0x64, 0x10000, 1, 4, 1, 0xFFFFFF, 0x0, 0x0, 0x0, 0x0, 0x0, .plain⟩,
   ⟨0x70, 0x10000, 1, 4, 1, 0x3FFFF, 0x3FFFF, 0x0, 0x0, 0x0, 0x3FFFF, .perPath⟩,
   ⟨0x74, 0x10000, 1, 4, 1, 0x1FFFF01, 0x0, 0x0, 0x0, 0x0, 0x0, .perPath⟩,
   ⟨0x78, 0x10000, 1, 4, 1, 0x3FFFF, 0x0, 0x0, 0x0, 0x0, 0x0, .perPath⟩,
   ⟨0x7C, 0x10000, 1, 4, 1, 0xFFFFFFFF, 0x0, 0x0, 0x0, 0x0, 0x0, .perPath⟩,
   ⟨0x80, 0x10000, 1, 4, 1, 0x0, 0x0, 0x0, 0x0, 0x0, 0x0, .perPath⟩,
   ⟨0x84, 0x10000, 1, 4, 1, 0x0, 0x0, 0x0, 0x0, 0x0, 0x0, .perPath⟩,
   ⟨0x88, 0x10000, 1, 4, 1, 0x0, 0x0, 0x0, 0x0, 0x0, 0x0, .perPath⟩,
   ⟨0x8C, 0x10000, 1, 4, 1, 0x3F07, 0x0, 0x0, 0x0, 0x0, 0x0, .perPath⟩,
   ⟨0x90, 0x10000, 1, 4, 1, 0xFFFFFFFF, 0x0, 0x0, 0x0, 0x0, 0x0, .plain⟩,
   ⟨0x94, 0x10000, 1, 4, 1, 0xFFFFFFFF, 0x0, 0x0, 0x0, 0x0, 0x0, .plain⟩,
   ⟨0x98, 0x10000, 1, 4, 1, 0xFFFFFFFF, 0x0, 0x0, 0x0, 0x0, 0x0, .plain⟩,
   ⟨0x9C, 0x10000, 1, 4, 1, 0xFFFFFFFF, 0x0, 0x0, 0x0, 0x0, 0x0, .plain⟩,
   ⟨0xA0, 0x10000, 1, 4, 1, 0xFFFFFFFF, 0x0, 0x0, 0x0, 0x0, 0x0, .plain⟩,
   ⟨0xA4, 0x10000, 1, 4, 1, 0xFFFFFFFF, 0x0, 0x0, 0x0, 0x0, 0x0, .plain⟩,
   ⟨0xA8, 0x10000, 1, 4, 1, 0xFFFFFFFF, 0x0, 0x0, 0x0, 0x0, 0x0, .plain⟩,
   ⟨0xC0, 0x10000, 1, 4, 1, 0xFFFFFFFF, 0xFFFFFFFF, 0x0, 0x0, 0x0, 0x0, .plain⟩,
   ⟨0xC4, 0x10000, 1, 4, 1, 0xFF, 0xFF, 0x0, 0x0, 0x0, 0x0, .plain⟩,
   ⟨0xC8, 0x10000, 1, 4, 1, 0xFFFFFFFF, 0xFFFFFFFF, 0x0, 0x0, 0x0, 0x0, .plain⟩]

/-- Register table of HIF, part 2. -/
def rowsHif2 : List Row :=
  [⟨0x100, 0x20, 8, 4, 1, 0x3FFFF, 0x3FFFF, 0x0, 0x0, 0x0, 0x0, .plain⟩,
   ⟨0x104, 0x20, 8, 4, 1, 0xFFFFFFFF, 0xFFFFFFFF, 0x0, 0x0, 0x0, 0x0, .plain⟩,
   ⟨0x108, 0x20, 8, 4, 1, 0xFFFFFFFF, 0xFFFFFFFF, 0x0, 0x0, 0x0, 0x0, .plain⟩,
   ⟨0x10C, 0x20, 8, 4, 1, 0xFFFFFFFF, 0xFFFFFFFF, 0x0, 0x0, 0x0, 0x0, .plain⟩,
   ⟨0x110, 0x20, 8, 4, 1, 0xFF, 0xFF, 0x0, 0x0, 0x0, 0x0, .plain⟩,
   ⟨0x114, 0x20, 8, 4, 1, 0xFFFFFFFF, 0xFFFFFFFF, 0x0, 0x0, 0x0, 0x0, .plain⟩,
   ⟨0x118, 0x20, 8, 4, 1, 0x0, 0x0, 0x0, 0x0, 0x0, 0x0, .plain⟩,
   ⟨0x11C, 0x20, 8, 4, 1, 0xFF03, 0x0, 0x0, 0x0, 0x0, 0x0, .plain⟩,
   ⟨0x7FF0, 0x10000, 1, 4, 1, 0xF, 0x0, 0xF, 0x0, 0x0, 0x0, .plain⟩,
   ⟨0x7FF4, 0x10000, 1, 4, 1, 0xF, 0xF, 0x0, 0x0, 0x0, 0x0, .plain⟩]

/-- Register table of HIF: every register of its window. -/
def rowsHif : List Row := rowsHif1 ++ rowsHif2

/-- Register table of CFG, part 1. -/
def rowsCfg1 : List Row :=
  [⟨0x0, 0x10000, 1, 4, 1, 0xF0F, 0x0, 0x0, 0x0, 0xC00, 0x0, .plain⟩,
   ⟨0x4, 0x10000, 1, 4, 1, 0xFFFFFF, 0x0, 0x0, 0x0, 0x0, 0xFFFFFF, .plain⟩,
   ⟨0x8, 0x10000, 1, 4, 1, 0x1FFFF, 0x0, 0x1FFFF, 0x0, 0x1FFFF, 0x0, .plain⟩,
   ⟨0x10, 0x10000, 1, 4, 1, 0xFFFFFFFF, 0x0, 0x0, 0x0, 0x0, 0x0, .plain⟩,
   ⟨0x14, 0x10000, 1, 4, 1, 0xFFFFFFFF, 0x0, 0x0, 0x0, 0x0, 0x0, .plain⟩,
   ⟨0x18, 0x10000, 1, 4, 1, 0xFFFFFFFF, 0x0, 0x0, 0x0, 0x0, 0x0, .plain⟩,
   ⟨0x1C, 0x10000, 1, 4, 1, 0xFFFFFFFF, 0x0, 0x0, 0x0, 0x0, 0x0, .plain⟩,
   ⟨0x20, 0x10000, 1, 4, 1, 0xFFFFFFFF, 0x0, 0x0, 0x0, 0x0, 0x0, .plain⟩,
   ⟨0x30, 0x10000, 1, 4, 1, 0xFFFF, 0xFFFF, 0x0, 0x0, 0x0, 0x0, .perPath⟩,
   ⟨0x34, 0x10000, 1, 4, 1, 0xFFFFFFFF, 0xFFFFFFFF, 0x0, 0x0, 0x0, 0x0, .perPath⟩,
   ⟨0x38, 0x10000, 1, 4, 1, 0xFFFFFFFF, 0xFFFFFFFF, 0x0, 0x0, 0x0, 0x0, .perPath⟩,
   ⟨0x3C, 0x10000, 1, 4, 1, 0x0, 0x0, 0x0, 0x0, 0x0, 0x0, .perPath⟩,
   ⟨0x40, 0x10000, 1, 4, 1, 0xFFFF070F, 0x0, 0x0, 0x0, 0x0, 0x0, .perPath⟩,
   ⟨0x44, 0x10000, 1, 4, 1, 0xFFFFFFFF, 0x0, 0x0, 0x0, 0x0, 0x0, .perPath⟩,
   ⟨0x48, 0x10000, 1, 4, 1, 0xFFFFFFFF, 0x0, 0x0, 0x0, 0x0, 0x0, .perPath⟩,
   ⟨0x80, 0x10000, 1, 4, 1, 0xFFFFFFFF, 0xFFFFFFFF, 0x0, 0x0, 0x0, 0x0, .plain⟩,
   ⟨0x84, 0x10000, 1, 4, 1, 0xFF, 0xFF, 0x0, 0x0, 0x0, 0x0, .plain⟩,
   ⟨0x88, 0x10000, 1, 4, 1, 0xFFFFFFFF, 0xFFFFFFFF, 0x0, 0x0, 0x0, 0x0, .plain⟩,
   ⟨0x8C, 0x10000, 1, 4, 1, 0x0, 0x0, 0x0, 0x0, 0x0, 0x0, .plain⟩,
   ⟨0x90, 0x10000, 1, 4, 1, 0xFFFFFFFF, 0xFFFFFFFF, 0x0, 0x0, 0x0, 0x0, .plain⟩,
   ⟨0x94, 0x10000, 1, 4, 1, 0xFFFFFFFF, 0xFFFFFFFF, 0x0, 0x0, 0x0, 0x0, .plain⟩,
   ⟨0x98, 0x10000, 1, 4, 1, 0xFFFF0007, 0x0, 0x0, 0x0, 0x0, 0x0, .plain⟩,
   ⟨0x1000, 0x4, 256, 4, 1, 0xFFFF07FF, 0x0, 0x0, 0x0, 0x0, 0x0, .plain⟩,
   ⟨0x7FF0, 0x10000, 1, 4, 1, 0x7F, 0x0, 0x7F, 0x0, 0x0, 0x0, .plain⟩,
   ⟨0x7FF4, 0x10000, 1, 4, 1, 0x7F, 0x7F, 0x0, 0x0, 0x0, 0x0, .plain⟩]

/-- Register table of CFG: every register of its window. -/
def rowsCfg : List Row := rowsCfg1

/-- Register table of ETH, part 1. -/
def rowsEth1 : List Row :=
  [⟨0x0, 0x10000, 1, 4, 1, 0x3F, 0x3F, 0x0, 0x0, 0x0, 0x30, .plain⟩,
   ⟨0x4, 0x10000, 1, 4, 1, 0x3FF, 0x0, 0x0, 0x0, 0x0, 0x0, .plain⟩,
   ⟨0x8, 0x10000, 1, 4, 1, 0xF, 0x0, 0xF, 0x0, 0xF, 0x0, .plain⟩,
   ⟨0x10, 0x10000, 1, 4, 1, 0xFFFFFFFF, 0xFFFFFFFF, 0x0, 0x0, 0x0, 0x0, .plain⟩,
   ⟨0x14, 0x10000, 1, 4, 1, 0xFFFF, 0xFFFF, 0x0, 0x0, 0x0, 0x0, .plain⟩,
   ⟨0x18, 0x10000, 1, 4, 1, 0x3FFF, 0x3FFF, 0x0, 0x0, 0x0, 0x2400, .plain⟩,
   ⟨0x1C, 0x10000, 1, 4, 1, 0xFFF8777, 0xFFF8777, 0x0, 0x0, 0x0, 0x74, .plain⟩,
   ⟨0x20, 0x10000, 1, 4, 1, 0x3FF, 0x3FF, 0x0, 0x0, 0x0, 0x36F, .plain⟩,
   ⟨0x24, 0x10000, 1, 4, 1, 0xFF, 0x0, 0x0, 0x0, 0x0, 0x0, .plain⟩,
   ⟨0x30, 0x10000, 1, 4, 1, 0xFF01, 0xFF01, 0x0, 0x0, 0x0, 0xA00, .plain⟩,
   ⟨0x34, 0x10000, 1, 4, 1, 0x1FFFF, 0x0, 0x0, 0x0, 0x0, 0x0, .plain⟩,
   ⟨0x40, 0x10000, 1, 4, 1, 0xFFFFFFFF, 0xFFFFFFFF, 0x0, 0x0, 0x0, 0x0, .plain⟩,
   ⟨0x44, 0x10000, 1, 4, 1, 0xFFFFFFFF, 0xFFFFFFFF, 0x0, 0x0, 0x0, 0x0, .plain⟩,
   ⟨0x48, 0x10000, 1, 4, 1, 0x7F3F, 0x7F3F, 0x0, 0x0, 0x0, 0x4018, .plain⟩,
   ⟨0x50, 0x4, 4, 4, 1, 0xFFFFFFFF, 0xFFFFFFFF, 0x0, 0x0, 0x0, 0x0, .plain⟩,
   ⟨0x60, 0x4, 4, 4, 1, 0xFFFFFFFF, 0xFFFFFFFF, 0x0, 0x0, 0x0, 0x0, .plain⟩,
   ⟨0x70, 0x10000, 1, 4, 1, 0x711F, 0x11F, 0x0, 0x0, 0x0, 0x0, .plain⟩,
   ⟨0x100, 0x100, 4, 0x4, 32, 0xFFFFFFFF, 0xFFFFFFFF, 0x0, 0x0, 0x0, 0x0, .plain⟩,
   ⟨0x180, 0x100, 4, 0x4, 4, 0xFFFFFFFF, 0xFFFFFFFF, 0x0, 0x0, 0x0, 0x0, .plain⟩,
   ⟨0x800, 0x8, 8, 4, 1, 0xFFFFFFFF, 0x0, 0x0, 0x0, 0x0, 0x0, .plain⟩,
   ⟨0x804, 0x8, 8, 4, 1, 0xFFFFFFFF, 0x0, 0x0, 0x0, 0x0, 0x0, .plain⟩,
   ⟨0x900, 0x4, 13, 4, 1, 0xFFFFFFFF, 0x0, 0x0, 0xFFFFFFFF, 0x0, 0x0, .plain⟩,
   ⟨0x7FF0, 0x10000, 1, 4, 1, 0x3, 0x0, 0x3, 0x0, 0x0, 0x0, .plain⟩,
   ⟨0x7FF4, 0x10000, 1, 4, 1, 0x3, 0x3, 0x0, 0x0, 0x0, 0x0, .plain⟩]

/-- Register table of ETH: every register of its window. -/
def rowsEth : List Row := rowsEth1

/-- Register table of ING, part 1. -/
def rowsIng1 : List Row :=
  [⟨0x0, 0x10000, 1, 4, 1, 0x1FFF, 0x0, 0x0, 0x0, 0x0, 0x0, .plain⟩,
   ⟨0x4, 0x10000, 1, 4, 1, 0x1, 0x0, 0x1, 0x0, 0x1, 0x0, .plain⟩,
   ⟨0x8, 0x10000, 1, 4, 1, 0xFF0F, 0xFF0F, 0x0, 0x0, 0x0, 0xA02, .plain⟩,
   ⟨0x40, 0x10000, 1, 4, 1, 0x3F7F000F, 0x3F7F000F, 0x0, 0x0, 0x0, 0x22600006, .plain⟩,
   ⟨0x44, 0x10000, 1, 4, 1, 0xFFFF, 0xFFFF, 0x0, 0x0, 0x0, 0x1388, .plain⟩,
   ⟨0x50, 0x4, 4, 4, 1, 0xFFFFFFFF, 0xFFFFFFFF, 0x0, 0x0, 0x0, 0x0, .plain⟩,
   ⟨0x60, 0x4, 4, 4, 1, 0xFFFFFFFF, 0xFFFFFFFF, 0x0, 0x0, 0x0, 0x0, .plain⟩,
   ⟨0x1000, 0x100, 16, 4, 1, 0x7F0F3F, 0x7F0F3F, 0x0, 0x0, 0x0, 0x600106, .rws⟩,
   ⟨0x1004, 0x100, 16, 4, 1, 0xFFFFFFFF, 0xFFFFFFFF, 0x0, 0x0, 0x0, 0x0, .rws⟩,
   ⟨0x1008, 0x100, 16, 4, 1, 0x3FFF3FFF, 0x3FFF3FFF, 0x0, 0x0, 0x0, 0x8700F00, .rws⟩,
   ⟨0x100C, 0x100, 16, 4, 1, 0x3FFF3FFF, 0x3FFF3FFF, 0x0, 0x0, 0x0, 0x0, .rws⟩,
   ⟨0x1010, 0x100, 16, 4, 1, 0x3FFF3FFF, 0x3FFF3FFF, 0x0, 0x0, 0x0, 0x8700F00, .rws⟩,
   ⟨0x1014, 0x100, 16, 4, 1, 0xFFFFFFFF, 0xFFFFFFFF, 0x0, 0x0, 0x0, 0x0, .rws⟩,
   ⟨0x1018, 0x100, 16, 4, 1, 0xFF, 0xFF, 0x0, 0x0, 0x0, 0x0, .rws⟩,
   ⟨0x101C, 0x100, 16, 4, 1, 0xFFFFFFFF, 0xFFFFFFFF, 0x0, 0x0, 0x0, 0x0, .rws⟩,
   ⟨0x1020, 0x100, 16, 4, 1, 0x3FFF000F, 0x3FFF000F, 0x0, 0x0, 0x0, 0x3E80003, .rws⟩,
   ⟨0x1030, 0x100, 16, 0x4, 4, 0xFFFFFFFF, 0xFFFFFFFF, 0x0, 0x0, 0x0, 0x0, .rws⟩,
   ⟨0x1040, 0x100, 16, 0x4, 4, 0xFFFFFFFF, 0xFFFFFFFF, 0x0, 0x0, 0x0, 0x0, .rws⟩,
   ⟨0x1050, 0x100, 16, 0x4, 4, 0xFFFFFFFF, 0xFFFFFFFF, 0x0, 0x0, 0x0, 0x0, .rws⟩,
   ⟨0x1060, 0x100, 16, 0x4, 4, 0xFFFFFFFF, 0xFFFFFFFF, 0x0, 0x0, 0x0, 0x0, .rws⟩,
   ⟨0x1080, 0x100, 16, 4, 1, 0xFF1F, 0x0, 0x0, 0x0, 0x0, 0x0, .plain⟩,
   ⟨0x1084, 0x100, 16, 4, 1, 0x7F, 0x0, 0x7F, 0x0, 0x7F, 0x0, .plain⟩,
   ⟨0x1088, 0x100, 16, 4, 1, 0xFFFFFFFF, 0x0, 0x0, 0x0, 0x0, 0x3C00, .plain⟩,
   ⟨0x108C, 0x100, 16, 4, 1, 0xFFFFFFFF, 0x0, 0x0, 0x0, 0x0, 0x1FA4000, .plain⟩,
   ⟨0x10A0, 0x100, 16, 0x8, 4, 0xFFFFFFFF, 0x0, 0x0, 0x0, 0x0, 0x0, .plain⟩,
   ⟨0x10A4, 0x100, 16, 0x8, 4, 0xFFFFFFFF, 0x0, 0x0, 0x0, 0x0, 0x0, .plain⟩,
   ⟨0x10C0, 0x100, 16, 0x4, 6, 0xFFFFFFFF, 0x0, 0x0, 0xFFFFFFFF, 0x0, 0x0, .plain⟩,
   ⟨0x7FF0, 0x10000, 1, 4, 1, 0x3, 0x0, 0x3, 0x0, 0x0, 0x0, .plain⟩,
   ⟨0x7FF4, 0x10000, 1, 4, 1, 0x3, 0x3, 0x0, 0x0, 0x0, 0x0, .plain⟩]

/-- Register table of ING: every register of its window. -/
def rowsIng : List Row := rowsIng1

/-- Register table of PTP, part 1. -/
def rowsPtp1 : List Row :=
  [⟨0x0, 0x10000, 1, 4, 1, 0xFFFF0007, 0xFFFF0007, 0x0, 0x0, 0x0, 0x873C0003, .plain⟩,
   ⟨0x4, 0x10000, 1, 4, 1, 0x337, 0x0, 0x0, 0x0, 0x0, 0x30, .plain⟩,
   ⟨0x8, 0x10000, 1, 4, 1, 0xFF, 0x0, 0xFF, 0x0, 0xFF, 0x0, .plain⟩,
   ⟨0x10, 0x10000, 1, 4, 1, 0xFFFFFFFF, 0x0, 0x0, 0x0, 0x0, 0x0, .plain⟩,
   ⟨0x14, 0x10000, 1, 4, 1, 0xFFFFFFFF, 0x0, 0x0, 0x0, 0x0, 0x0, .plain⟩,
   ⟨0x18, 0x10000, 1, 4, 1, 0xFFFFFFFF, 0x0, 0x0, 0x0, 0x0, 0x0, .plain⟩,
   ⟨0x20, 0x20, 2, 4, 1, 0x830330FF, 0x830330FF, 0x0, 0x0, 0x0, 0x300007F, .rws⟩,
   ⟨0x24, 0x20, 2, 4, 1, 0xFF000103, 0x0, 0x0, 0x0, 0x0, 0xFF000000, .plain⟩,
   ⟨0x28, 0x20, 2, 4, 1, 0xFFFFFFFF, 0x0, 0x0, 0x0, 0x0, 0x0, .plain⟩,
   ⟨0x2C, 0x20, 2, 4, 1, 0xFFFFFFFF, 0x0, 0x0, 0x0, 0x0, 0x0, .plain⟩,
   ⟨0x30, 0x20, 2, 4, 1, 0xFFFFFFFF, 0x0, 0x0, 0x0, 0x0, 0x0, .plain⟩,
   ⟨0x34, 0x20, 2, 4, 1, 0xFFFFFFFF, 0x0, 0x0, 0x0, 0x0, 0x0, .plain⟩,
   ⟨0x60, 0x10000, 1, 4, 1, 0xFF000F, 0xFF000F, 0x0, 0x0, 0x0, 0xA0004, .rws⟩,
   ⟨0x64, 0x10000, 1, 4, 1, 0xFFFFFFFF, 0xFFFFFFFF, 0x0, 0x0, 0x0, 0xA100032, .plain⟩,
   ⟨0x68, 0x10000, 1, 4, 1, 0xFFFFFFFF, 0xFFFFFFFF, 0x0, 0x0, 0x0, 0x0, .plain⟩,
   ⟨0x6C, 0x10000, 1, 4, 1, 0xFFFFFFFF, 0xFFFFFFFF, 0x0, 0x0, 0x0, 0x0, .plain⟩,
   ⟨0x70, 0x10000, 1, 4, 1, 0xFFFFFFFF, 0x0, 0x0, 0x0, 0x0, 0x0, .plain⟩,
   ⟨0x80, 0x10000, 1, 4, 1, 0xFF1FFFF, 0xFF1FFFF, 0x0, 0x0, 0x0, 0xA103E8, .plain⟩,
   ⟨0x84, 0x10000, 1, 4, 1, 0xFFFF0031, 0x0, 0x0, 0x0, 0x0, 0x0, .plain⟩,
   ⟨0x88, 0x10000, 1, 4, 1, 0xFFFFFFFF, 0x0, 0x0, 0xFFFFFFFF, 0x0, 0x0, .plain⟩,
   ⟨0x90, 0x10000, 1, 4, 1, 0xFFFFFFFF, 0x0, 0x0, 0x0, 0x0, 0x0, .plain⟩,
   ⟨0x94, 0x10000, 1, 4, 1, 0xFFFFFFFF, 0x0, 0x0, 0x0, 0x0, 0x0, .plain⟩,
   ⟨0x7FF0, 0x10000, 1, 4, 1, 0x7, 0x0, 0x7, 0x0, 0x0, 0x0, .plain⟩,
   ⟨0x7FF4, 0x10000, 1, 4, 1, 0x7, 0x7, 0x0, 0x0, 0x0, 0x0, .plain⟩]

/-- Register table of PTP: every register of its window. -/
def rowsPtp : List Row := rowsPtp1

/-- Register table of FRM, part 1. -/
def rowsFrm1 : List Row :=
  [⟨0x0, 0x10000, 1, 4, 1, 0x30107, 0x0, 0x0, 0x0, 0x0, 0x0, .plain⟩,
   ⟨0x8, 0x10000, 1, 4, 1, 0xFF, 0x0, 0xFF, 0x0, 0xFF, 0x0, .plain⟩,
   ⟨0x10, 0x10000, 1, 4, 1, 0xFFFFFFFF, 0x0, 0x0, 0x0, 0x0, 0x0, .plain⟩,
   ⟨0x14, 0x10000, 1, 4, 1, 0xFFFFFFFF, 0x0, 0x0, 0x0, 0x0, 0x0, .plain⟩,
   ⟨0x18, 0x10000, 1, 4, 1, 0xFFFFFFFF, 0x0, 0x0, 0x0, 0x0, 0x0, .plain⟩,
   ⟨0x1C, 0x10000, 1, 4, 1, 0xFFFFFFFF, 0x0, 0x0, 0x0, 0x0, 0x0, .plain⟩,
   ⟨0x20, 0x10000, 1, 4, 1, 0xFFFFFFFF, 0x0, 0x0, 0x0, 0x0, 0x0, .plain⟩,
   ⟨0x24, 0x10000, 1, 4, 1, 0xFFFFFFFF, 0x0, 0x0, 0x0, 0x0, 0x0, .plain⟩,
   ⟨0x28, 0x10000, 1, 4, 1, 0xFFFFFFFF, 0x0, 0x0, 0x0, 0x0, 0x0, .plain⟩,
   ⟨0x30, 0x10000, 1, 4, 1, 0xFFFFFFFF, 0x0, 0x0, 0x0, 0x0, 0x0, .plain⟩,
   ⟨0x34, 0x10000, 1, 4, 1, 0xFFFFFFFF, 0x0, 0x0, 0x0, 0x0, 0x0, .plain⟩,
   ⟨0x40, 0x4, 14, 4, 1, 0xFFFFFFFF, 0x0, 0x0, 0xFFFFFFFF, 0x0, 0x0, .plain⟩,
   ⟨0x80, 0x10000, 1, 4, 1, 0xFFFFFFFF, 0x0, 0x0, 0x0, 0x0, 0x0, .plain⟩,
   ⟨0x84, 0x10000, 1, 4, 1, 0xFFFFFFFF, 0x0, 0x0, 0x0, 0x0, 0x0, .plain⟩,
   ⟨0x100, 0x10000, 1, 4, 1, 0xFFFFFFFF, 0xFFFFFFFF, 0x0, 0x0, 0x0, 0xFE502A, .rws⟩,
   ⟨0x104, 0x10000, 1, 4, 1, 0xFFFF, 0xFFFF, 0x0, 0x0, 0x0, 0xAAAB, .rws⟩,
   ⟨0x108, 0x10000, 1, 4, 1, 0xFFFFFFFF, 0xFFFFFFFF, 0x0, 0x0, 0x0, 0xFE502A, .rws⟩,
   ⟨0x10C, 0x10000, 1, 4, 1, 0xFFFFFFFF, 0xFFFFFFFF, 0x0, 0x0, 0x0, 0x1036640, .rws⟩,
   ⟨0x110, 0x10000, 1, 4, 1, 0xFFFFFFFF, 0xFFFFFFFF, 0x0, 0x0, 0x0, 0xA2C2B, .rws⟩,
   ⟨0x114, 0x10000, 1, 4, 1, 0xFFFFFFFF, 0xFFFFFFFF, 0x0, 0x0, 0x0, 0x121EAC0, .rws⟩,
   ⟨0x118, 0x10000, 1, 4, 1, 0xF00001F3, 0xF00001F3, 0x0, 0x0, 0x0, 0x30000000, .rws⟩,
   ⟨0x11C, 0x10000, 1, 4, 1, 0xFFFFFFFF, 0xFFFFFFFF, 0x0, 0x0, 0x0, 0x3E8, .rws⟩,
   ⟨0x120, 0x10000, 1, 4, 1, 0x1, 0x1, 0x0, 0x0, 0x0, 0x0, .rws⟩,
   ⟨0x128, 0x10000, 1, 4, 1, 0x7, 0x7, 0x0, 0x0, 0x0, 0x2, .rws⟩,
   ⟨0x12C, 0x10000, 1, 4, 1, 0xFFFFFFFF, 0xFFFFFFFF, 0x0, 0x0, 0x0, 0x16E360, .rws⟩,
   ⟨0x130, 0x10000, 1, 4, 1, 0xFFFFFFFF, 0xFFFFFFFF, 0x0, 0x0, 0x0, 0xF4240, .rws⟩,
   ⟨0x134, 0x10000, 1, 4, 1, 0xFFFFFFFF, 0xFFFFFFFF, 0x0, 0x0, 0x0, 0x927C0, .rws⟩,
   ⟨0x138, 0x10000, 1, 4, 1, 0xFFFFFFFF, 0xFFFFFFFF, 0x0, 0x0, 0x0, 0x186A00, .rws⟩,
   ⟨0x13C, 0x10000, 1, 4, 1, 0xFF, 0xFF, 0x0, 0x0, 0x0, 0x2, .rws⟩,
   ⟨0x140, 0x10000, 1, 4, 1, 0xFFFFFF, 0xFFFFFF, 0x0, 0x0, 0x0, 0x32DD, .rws⟩,
   ⟨0x144, 0x10000, 1, 4, 1, 0xFFFF, 0xFFFF, 0x0, 0x0, 0x0, 0x0, .rws⟩,
   ⟨0x200, 0x10000, 1, 4, 1, 0xFFFFFFFF, 0xFFFFFFFF, 0x0, 0x0, 0x0, 0x0, .rws⟩,
   ⟨0x204, 0x10000, 1, 4, 1, 0xFFFFFFFF, 0xFFFFFFFF, 0x0, 0x0, 0x0, 0x0, .rws⟩,
   ⟨0x210, 0x10, 2, 4, 1, 0xFFFFFF13, 0xFFFFFF13, 0x0, 0x0, 0x0, 0x0, .rws⟩,
   ⟨0x214, 0x10, 2, 4, 1, 0xFFFFFFFF, 0xFFFFFFFF, 0x0, 0x0, 0x0, 0x0, .rws⟩,
   ⟨0x218, 0x10, 2, 4, 1, 0xFFFFF, 0xFFFFF, 0x0, 0x0, 0x0, 0x2710, .rws⟩,
   ⟨0x7FF0, 0x10000, 1, 4, 1, 0xF, 0x0, 0xF, 0x0, 0x0, 0x0, .plain⟩,
   ⟨0x7FF4, 0x10000, 1, 4, 1, 0xF, 0xF, 0x0, 0x0, 0x0, 0x0, .plain⟩]

/-- Register table of FRM: every register of its window. -/
def rowsFrm : List Row := rowsFrm1

/-- Register table of CMP, part 1. -/
def rowsCmp1 : List Row :=
  [⟨0x0, 0x10000, 1, 4, 1, 0x3FF0003, 0x0, 0x0, 0x0, 0x0, 0x0, .plain⟩,
   ⟨0x4, 0x10000, 1, 4, 1, 0x3, 0x0, 0x3, 0x0, 0x3, 0x0, .plain⟩,
   ⟨0x8, 0x10000, 1, 4, 1, 0xFFFFFFFF, 0x0, 0x0, 0x0, 0x0, 0x0, .plain⟩,
   ⟨0xC, 0x10000, 1, 4, 1, 0xFFFFFFFF, 0x0, 0x0, 0x0, 0x0, 0x0, .plain⟩,
   ⟨0x10, 0x10000, 1, 4, 1, 0xFFFFFFFF, 0x0, 0xFFFFFFFF, 0x0, 0xFFFFFFFF, 0x0, .plain⟩,
   ⟨0x14, 0x10000, 1, 4, 1, 0x7F, 0x0, 0x0, 0x0, 0x0, 0x0, .plain⟩,
   ⟨0x18, 0x10000, 1, 4, 1, 0xFFFFFFFF, 0x0, 0x0, 0x0, 0x0, 0x0, .plain⟩,
   ⟨0x20, 0x10000, 1, 4, 1, 0xFFFFFFFF, 0xFFFFFFFF, 0x0, 0x0, 0x0, 0x5000000, .plain⟩,
   ⟨0x24, 0x10000, 1, 4, 1, 0xFF, 0xFF, 0x0, 0x0, 0x0, 0x0, .plain⟩,
   ⟨0x28, 0x10000, 1, 4, 1, 0x1, 0x0, 0x0, 0x0, 0x0, 0x0, .plain⟩,
   ⟨0x40, 0x4, 7, 4, 1, 0xFFFFFFFF, 0x0, 0x0, 0xFFFFFFFF, 0x0, 0x0, .plain⟩,
   ⟨0x100, 0x10000, 1, 4, 1, 0x7FFF7FFF, 0x7FFF7FFF, 0x0, 0x0, 0x0, 0x5000F00, .rws⟩,
   ⟨0x104, 0x10000, 1, 4, 1, 0xFFFFFFFF, 0xFFFFFFFF, 0x0, 0x0, 0x0, 0x0, .rws⟩,
   ⟨0x108, 0x10000, 1, 4, 1, 0xFFFF, 0xFFFF, 0x0, 0x0, 0x0, 0x0, .rws⟩,
   ⟨0x10C, 0x10000, 1, 4, 1, 0xFFFF, 0xFFFF, 0x0, 0x0, 0x0, 0x64, .rws⟩,
   ⟨0x110, 0x10000, 1, 4, 1, 0xFFFFFF, 0xFFFFFF, 0x0, 0x0, 0x0, 0x0, .rws⟩,
   ⟨0x114, 0x10000, 1, 4, 1, 0xF3FF1, 0xF3FF1, 0x0, 0x0, 0x0, 0x30060, .rws⟩,
   ⟨0x118, 0x10000, 1, 4, 1, 0xFFFF, 0xFFFF, 0x0, 0x0, 0x0, 0x64, .rws⟩,
   ⟨0x11C, 0x10000, 1, 4, 1, 0x7FFF7FFF, 0x7FFF7FFF, 0x0, 0x0, 0x0, 0x0, .rws⟩,
   ⟨0x120, 0x10000, 1, 4, 1, 0x7FFF7FFF, 0x7FFF7FFF, 0x0, 0x0, 0x0, 0x5000F00, .rws⟩,
   ⟨0x124, 0x10000, 1, 4, 1, 0xFFFFFFFF, 0xFFFFFFFF, 0x0, 0x0, 0x0, 0x0, .rws⟩,
   ⟨0x128, 0x10000, 1, 4, 1, 0xFF, 0xFF, 0x0, 0x0, 0x0, 0x0, .rws⟩,
   ⟨0x12C, 0x10000, 1, 4, 1, 0xFFFFFFFF, 0xFFFFFFFF, 0x0, 0x0, 0x0, 0x0, .rws⟩,
   ⟨0x140, 0x4, 9, 4, 1, 0xFFFFFFFF, 0xFFFFFFFF, 0x0, 0x0, 0x0, 0x10000, .rws⟩,
   ⟨0x200, 0x8, 64, 4, 1, 0x7FFF7FFF, 0x7FFF7FFF, 0x0, 0x0, 0x0, 0x1000180, .rws⟩,
   ⟨0x204, 0x8, 64, 4, 1, 0x87FF0FFF, 0x87FF0FFF, 0x0, 0x0, 0x0, 0x81000180, .rws⟩,
   ⟨0x1000, 0x40, 16, 4, 1, 0xF1F73F7, 0xF1F73F7, 0x0, 0x0, 0x0, 0x7000, .rws⟩,
   ⟨0x1004, 0x40, 16, 4, 1, 0x3FFF3FFF, 0x3FFF3FFF, 0x0, 0x0, 0x0, 0x0, .rws⟩,
   ⟨0x1008, 0x40, 16, 4, 1, 0x3FFF3FFF, 0x3FFF3FFF, 0x0, 0x0, 0x0, 0x5000F00, .rws⟩,
   ⟨0x100C, 0x40, 16, 4, 1, 0x7FFF7FFF, 0x7FFF7FFF, 0x0, 0x0, 0x0, 0x0, .rws⟩,
   ⟨0x1010, 0x40, 16, 4, 1, 0x7FFF7FFF, 0x7FFF7FFF, 0x0, 0x0, 0x0, 0x5000F00, .rws⟩,
   ⟨0x1014, 0x40, 16, 4, 1, 0x7FFFFF, 0x7FFFFF, 0x0, 0x0, 0x0, 0x100000, .rws⟩,
   ⟨0x1018, 0x40, 16, 4, 1, 0x7FFFFF, 0x7FFFFF, 0x0, 0x0, 0x0, 0x100000, .rws⟩,
   ⟨0x101C, 0x40, 16, 4, 1, 0xFFFF0777, 0xFFFF0777, 0x0, 0x0, 0x0, 0x640010, .rws⟩,
   ⟨0x1020, 0x40, 16, 4, 1, 0xFFFF03FF, 0xFFFF03FF, 0x0, 0x0, 0x0, 0x100003FF, .rws⟩,
   ⟨0x1024, 0x40, 16, 4, 1, 0xFFFFFFFF, 0xFFFFFFFF, 0x0, 0x0, 0x0, 0x0, .rws⟩,
   ⟨0x1028, 0x40, 16, 4, 1, 0xFF, 0xFF, 0x0, 0x0, 0x0, 0x0, .rws⟩,
   ⟨0x2000, 0x10, 16, 4, 1, 0xFFFF0F1F, 0x0, 0x0, 0x0, 0x0, 0x0, .plain⟩,
   ⟨0x2004, 0x10, 16, 4, 1, 0xFFFFFFFF, 0x0, 0x0, 0x0, 0x0, 0x0, .plain⟩,
   ⟨0x7FF0, 0x10000, 1, 4, 1, 0xF, 0x0, 0xF, 0x0, 0x0, 0x0, .plain⟩]

/-- Register table of CMP, part 2. -/
def rowsCmp2 : List Row :=
  [⟨0x7FF4, 0x10000, 1, 4, 1, 0xF, 0xF, 0x0, 0x0, 0x0, 0x0, .plain⟩]

/-- Register table of CMP: every register of its window. -/
def rowsCmp : List Row := rowsCmp1 ++ rowsCmp2

/-- Register table of LNK, part 1. -/
def rowsLnk1 : List Row :=
  [⟨0x0, 0x10000, 1, 4, 1, 0x1, 0x1, 0x0, 0x0, 0x0, 0x1, .plain⟩,
   ⟨0x4, 0x10000, 1, 4, 1, 0xFF0F, 0x0, 0x0, 0x0, 0x0, 0xFF00, .plain⟩,
   ⟨0x8, 0x10000, 1, 4, 1, 0xF, 0x0, 0xF, 0x0, 0xF, 0x0, .plain⟩,
   ⟨0xC, 0x10000, 1, 4, 1, 0x3FFFF, 0x0, 0x0, 0x0, 0x0, 0x0, .plain⟩,
   ⟨0x10, 0x10000, 1, 4, 1, 0xFFFFFFFF, 0x0, 0x0, 0x0, 0x0, 0x0, .plain⟩,
   ⟨0x20, 0x8, 5, 4, 1, 0xFFFFFFFF, 0x0, 0x0, 0x0, 0x0, 0x0, .plain⟩,
   ⟨0x24, 0x8, 5, 4, 1, 0xFFFFFFFF, 0x0, 0x0, 0x0, 0x0, 0x0, .plain⟩,
   ⟨0x60, 0x4, 5, 4, 1, 0xFFFFFFFF, 0x0, 0x0, 0xFFFFFFFF, 0x0, 0x0, .plain⟩,
   ⟨0x1000, 0x10000, 1, 4, 1, 0x7, 0x7, 0x0, 0x0, 0x0, 0x5, .plain⟩,
   ⟨0x1004, 0x10000, 1, 4, 1, 0xFF3F1F, 0x0, 0x0, 0x0, 0x0, 0xFF0000, .plain⟩,
   ⟨0x1008, 0x10000, 1, 4, 1, 0x3FF, 0x0, 0x3FF, 0x0, 0x3FF, 0x0, .plain⟩,
   ⟨0x100C, 0x10000, 1, 4, 1, 0xFFFFFFFF, 0x0, 0x0, 0x0, 0x0, 0x0, .plain⟩,
   ⟨0x1010, 0x10000, 1, 4, 1, 0xFFFFFFFF, 0x0, 0x0, 0x0, 0x0, 0x0, .plain⟩,
   ⟨0x1014, 0x10000, 1, 4, 1, 0xFFFFFFFF, 0x0, 0x0, 0x0, 0x0, 0x0, .plain⟩,
   ⟨0x1018, 0x10000, 1, 4, 1, 0xFFFFFFFF, 0xFFFFFFFF, 0x0, 0x0, 0x0, 0x321903E8, .plain⟩,
   ⟨0x101C, 0x10000, 1, 4, 1, 0x0, 0x0, 0x0, 0x0, 0x0, 0x0, .plain⟩,
   ⟨0x1020, 0x10000, 1, 4, 1, 0xFFFFFFFF, 0xFFFFFFFF, 0x0, 0x0, 0x0, 0xFFFFFFFF, .rws⟩,
   ⟨0x1024, 0x10000, 1, 4, 1, 0xFFFFFFFF, 0xFFFFFFFF, 0x0, 0x0, 0x0, 0xFFFFFFFF, .rws⟩,
   ⟨0x1028, 0x10000, 1, 4, 1, 0xFFFFFFFF, 0x0, 0x0, 0x0, 0x0, 0x0, .plain⟩,
   ⟨0x102C, 0x10000, 1, 4, 1, 0xFFFFFFFF, 0x0, 0x0, 0x0, 0x0, 0x0, .plain⟩,
   ⟨0x1030, 0x10000, 1, 4, 1, 0xFFFF, 0x0, 0x0, 0x0, 0x0, 0x8000, .plain⟩,
   ⟨0x1040, 0x10000, 1, 4, 1, 0xFFFFFFFF, 0xFFFFFFFF, 0x0, 0x0, 0x0, 0x0, .rws⟩,
   ⟨0x1044, 0x10000, 1, 4, 1, 0xFF, 0xFF, 0x0, 0x0, 0x0, 0x0, .rws⟩,
   ⟨0x1048, 0x10000, 1, 4, 1, 0xFFF, 0xFFF, 0x0, 0x0, 0x0, 0x0, .rws⟩,
   ⟨0x1050, 0x10000, 1, 4, 1, 0xFFFFFFFF, 0xFFFFFFFF, 0x0, 0x0, 0x0, 0x0, .rws⟩,
   ⟨0x1054, 0x10000, 1, 4, 1, 0xFF, 0xFF, 0x0, 0x0, 0x0, 0x0, .rws⟩,
   ⟨0x1080, 0x4, 8, 4, 1, 0xFFFFFFFF, 0x0, 0x0, 0xFFFFFFFF, 0x0, 0x0, .plain⟩,
   ⟨0x1100, 0x4, 64, 4, 1, 0xE0FFFFFF, 0x0, 0x0, 0x0, 0x0, 0x0, .plain⟩,
   ⟨0x7FF0, 0x10000, 1, 4, 1, 0x1F, 0x0, 0x1F, 0x0, 0x0, 0x0, .plain⟩,
   ⟨0x7FF4, 0x10000, 1, 4, 1, 0x1F, 0x1F, 0x0, 0x0, 0x0, 0x0, .plain⟩]

/-- Register table of LNK: every register of its window. -/
def rowsLnk : List Row := rowsLnk1

/-- Register table of SCN, part 1. -/
def rowsScn1 : List Row :=
  [⟨0x0, 0x10000, 1, 4, 1, 0x301, 0x0, 0x0, 0x0, 0x0, 0x0, .plain⟩,
   ⟨0x4, 0x10000, 1, 4, 1, 0x1F, 0x0, 0x1F, 0x0, 0x1F, 0x0, .plain⟩,
   ⟨0x10, 0x10000, 1, 4, 1, 0xFFFFFFFF, 0x0, 0x0, 0x0, 0x0, 0x0, .plain⟩,
   ⟨0x14, 0x10000, 1, 4, 1, 0xFFFFFFFF, 0x0, 0x0, 0x0, 0x0, 0x0, .plain⟩,
   ⟨0x18, 0x10000, 1, 4, 1, 0xFFFFFFFF, 0x0, 0x0, 0x0, 0x0, 0x0, .plain⟩,
   ⟨0x1C, 0x10000, 1, 4, 1, 0xFFFFFFFF, 0x0, 0x0, 0x0, 0x0, 0x0, .plain⟩,
   ⟨0x20, 0x10000, 1, 4, 1, 0xFFFFFFFF, 0x0, 0x0, 0x0, 0x0, 0x0, .plain⟩,
   ⟨0x24, 0x10000, 1, 4, 1, 0xFFFFFFFF, 0x0, 0x0, 0x0, 0x0, 0x0, .plain⟩,
   ⟨0x28, 0x10000, 1, 4, 1, 0xFFFF, 0x0, 0x0, 0x0, 0x0, 0x0, .plain⟩,
   ⟨0x40, 0x4, 6, 4, 1, 0xFFFFFFFF, 0x0, 0x0, 0xFFFFFFFF, 0x0, 0x0, .plain⟩,
   ⟨0x80, 0x8, 2, 4, 1, 0xFFFFFFFF, 0x0, 0x0, 0x0, 0x0, 0x0, .plain⟩,
   ⟨0x84, 0x8, 2, 4, 1, 0xFFFFFFFF, 0x0, 0x0, 0x0, 0x0, 0x0, .plain⟩,
   ⟨0x100, 0x10000, 1, 4, 1, 0x7FF0FFF, 0x7FF0FFF, 0x0, 0x0, 0x0, 0x1000180, .rws⟩,
   ⟨0x104, 0x10000, 1, 4, 1, 0x1, 0x1, 0x0, 0x0, 0x0, 0x0, .rws⟩,
   ⟨0x200, 0x4, 2, 4, 1, 0xC7FF0FFF, 0x0, 0x0, 0x0, 0x0, 0x0, .plain⟩,
   ⟨0x7FF0, 0x10000, 1, 4, 1, 0x7, 0x0, 0x7, 0x0, 0x0, 0x0, .plain⟩,
   ⟨0x7FF4, 0x10000, 1, 4, 1, 0x7, 0x7, 0x0, 0x0, 0x0, 0x0, .plain⟩]

/-- Register table of SCN: every register of its window. -/
def rowsScn : List Row := rowsScn1

/-- Register table of COR, part 1. -/
def rowsCor1 : List Row :=
  [⟨0x0, 0x10000, 1, 4, 1, 0x3, 0x0, 0x0, 0x0, 0x0, 0x0, .plain⟩,
   ⟨0x4, 0x10000, 1, 4, 1, 0x3, 0x0, 0x3, 0x0, 0x3, 0x0, .plain⟩,
   ⟨0x10, 0x10000, 1, 4, 1, 0xFFFFFFFF, 0x0, 0x0, 0x0, 0x0, 0x0, .plain⟩,
   ⟨0x14, 0x10000, 1, 4, 1, 0xFFFFFF, 0x0, 0x0, 0x0, 0x0, 0x10000, .plain⟩,
   ⟨0x18, 0x10000, 1, 4, 1, 0xFFFFFFFF, 0x0, 0x0, 0x0, 0x0, 0x0, .plain⟩,
   ⟨0x1C, 0x10000, 1, 4, 1, 0xFFFFFFFF, 0x0, 0x0, 0x0, 0x0, 0x0, .plain⟩,
   ⟨0x40, 0x4, 4, 4, 1, 0xFFFFFFFF, 0x0, 0x0, 0xFFFFFFFF, 0x0, 0x0, .plain⟩,
   ⟨0x100, 0x10000, 1, 4, 1, 0xFF03, 0xFF03, 0x0, 0x0, 0x0, 0x8001, .rws⟩,
   ⟨0x104, 0x10000, 1, 4, 1, 0xFFFF, 0xFFFF, 0x0, 0x0, 0x0, 0x7800, .rws⟩,
   ⟨0x200, 0x10000, 1, 4, 1, 0x1, 0x1, 0x0, 0x0, 0x0, 0x0, .rws⟩,
   ⟨0x300, 0x10000, 1, 4, 1, 0xFFFFFFFF, 0xFFFFFFFF, 0x0, 0x0, 0x0, 0x0, .plain⟩,
   ⟨0x304, 0x10000, 1, 4, 1, 0xFF, 0xFF, 0x0, 0x0, 0x0, 0x0, .plain⟩,
   ⟨0x308, 0x10000, 1, 4, 1, 0xFFFFFF, 0xFFFFFF, 0x0, 0x0, 0x0, 0x0, .plain⟩,
   ⟨0x30C, 0x10000, 1, 4, 1, 0x0, 0x0, 0x0, 0x0, 0x0, 0x0, .plain⟩,
   ⟨0x310, 0x10000, 1, 4, 1, 0xFFFF0103, 0x0, 0x0, 0x0, 0x0, 0x0, .plain⟩,
   ⟨0x400, 0x4, 2, 4, 1, 0xC7FF0FFF, 0x0, 0x0, 0x0, 0x0, 0x0, .plain⟩,
   ⟨0x1000, 0x10, 96, 0x4, 3, 0xFFFFFF, 0xFFFFFF, 0x0, 0x0, 0x0, 0x40000, .rws⟩,
   ⟨0x7FF0, 0x10000, 1, 4, 1, 0x7, 0x0, 0x7, 0x0, 0x0, 0x0, .plain⟩,
   ⟨0x7FF4, 0x10000, 1, 4, 1, 0x7, 0x7, 0x0, 0x0, 0x0, 0x0, .plain⟩]

/-- Register table of COR: every register of its window. -/
def rowsCor : List Row := rowsCor1

/-- Register table of STR, part 1. -/
def rowsStr1 : List Row :=
  [⟨0x0, 0x10000, 1, 4, 1, 0x1FFF07FF, 0x0, 0x0, 0x0, 0x0, 0x0, .plain⟩,
   ⟨0x4, 0x10000, 1, 4, 1, 0xFFF, 0x0, 0xFFF, 0x0, 0xFFF, 0x0, .plain⟩,
   ⟨0x8, 0x10000, 1, 4, 1, 0x0, 0x0, 0x0, 0x0, 0x0, 0x0, .plain⟩,
   ⟨0xC, 0x10000, 1, 4, 1, 0x7FFFF, 0x0, 0x0, 0x0, 0x0, 0x0, .plain⟩,
   ⟨0x40, 0x4, 11, 4, 1, 0xFFFFFFFF, 0x0, 0x0, 0xFFFFFFFF, 0x0, 0x0, .plain⟩,
   ⟨0x80, 0x8, 2, 4, 1, 0xFFFFFFFF, 0x0, 0x0, 0x0, 0x0, 0x0, .plain⟩,
   ⟨0x84, 0x8, 2, 4, 1, 0xFFFFFFFF, 0x0, 0x0, 0x0, 0x0, 0x0, .plain⟩,
   ⟨0x100, 0x10000, 1, 4, 1, 0x3F07, 0x3F07, 0x0, 0x0, 0x0, 0x3003, .rws⟩,
   ⟨0x104, 0x10000, 1, 4, 1, 0xFFFFFF, 0xFFFFFF, 0x0, 0x0, 0x0, 0x1050F, .rws⟩,
   ⟨0x108, 0x10000, 1, 4, 1, 0xFFFFF, 0xFFFFF, 0x0, 0x0, 0x0, 0x303E8, .rws⟩,
   ⟨0x10C, 0x10000, 1, 4, 1, 0xFFFF, 0xFFFF, 0x0, 0x0, 0x0, 0x50, .rws⟩,
   ⟨0x1000, 0x40, 96, 4, 1, 0xC000007F, 0xC000007F, 0x0, 0x0, 0x0, 0xC0000040, .rws⟩,
   ⟨0x1004, 0x40, 96, 4, 1, 0x7F, 0x7F, 0x0, 0x0, 0x0, 0x40, .rws⟩,
   ⟨0x1008, 0x40, 96, 4, 1, 0xFFFFFFFF, 0xFFFFFFFF, 0x0, 0x0, 0x0, 0xFFFFFFFF, .rws⟩,
   ⟨0x100C, 0x40, 96, 4, 1, 0xFFFF, 0xFFFF, 0x0, 0x0, 0x0, 0xFFFF, .rws⟩,
   ⟨0x1010, 0x40, 96, 4, 1, 0x1FFF, 0x1FFF, 0x0, 0x0, 0x0, 0xCE4, .rws⟩,
   ⟨0x1014, 0x40, 96, 4, 1, 0x1FFF1FFF, 0x1FFF1FFF, 0x0, 0x0, 0x0, 0x157C0960, .rws⟩,
   ⟨0x1018, 0x40, 96, 4, 1, 0xFFF, 0xFFF, 0x0, 0x0, 0x0, 0xF, .rws⟩,
   ⟨0x3000, 0x10, 96, 4, 1, 0xF7F0F, 0x0, 0x0, 0x0, 0x0, 0x0, .plain⟩,
   ⟨0x3004, 0x10, 96, 4, 1, 0x1FFF1FFF, 0x0, 0x0, 0x0, 0x0, 0x0, .plain⟩,
   ⟨0x3008, 0x10, 96, 4, 1, 0xFFFF3FFF, 0x0, 0x0, 0x0, 0x0, 0xFF, .plain⟩,
   ⟨0x300C, 0x10, 96, 4, 1, 0xFFF0FFF, 0x0, 0x0, 0x0, 0x0, 0x0, .plain⟩,
   ⟨0x7FF0, 0x10000, 1, 4, 1, 0xF, 0x0, 0xF, 0x0, 0x0, 0x0, .plain⟩,
   ⟨0x7FF4, 0x10000, 1, 4, 1, 0xF, 0xF, 0x0, 0x0, 0x0, 0x0, .plain⟩]

/-- Register table of STR: every register of its window. -/
def rowsStr : List Row := rowsStr1

/-- Register table of SRD, part 1. -/
def rowsSrd1 : List Row :=
  [⟨0x0, 0x10000, 1, 4, 1, 0xFFFFF, 0x0, 0x0, 0x0, 0x0, 0x0, .plain⟩,
   ⟨0x4, 0x10000, 1, 4, 1, 0x3F, 0x0, 0x3F, 0x0, 0x3F, 0x0, .plain⟩,
   ⟨0x8, 0x10000, 1, 4, 1, 0x0, 0x0, 0x0, 0x0, 0x0, 0x0, .plain⟩,
   ⟨0xC, 0x10000, 1, 4, 1, 0xF3FF03FF, 0xF3FF03FF, 0x0, 0x0, 0x0, 0xA0C8015E, .plain⟩,
   ⟨0x10, 0x10000, 1, 4, 1, 0xFF, 0xFF, 0x0, 0x0, 0x0, 0x64, .plain⟩,
   ⟨0x100, 0x40, 16, 4, 1, 0xCF070300, 0xCF070300, 0x0, 0x0, 0x0, 0x88040000, .plain⟩,
   ⟨0x104, 0x40, 16, 4, 1, 0xFF77F, 0x0, 0x0, 0x0, 0x0, 0x0, .plain⟩,
   ⟨0x108, 0x40, 16, 4, 1, 0x3FF03FF, 0x0, 0x0, 0x0, 0x0, 0x0, .plain⟩,
   ⟨0x10C, 0x40, 16, 4, 1, 0x1F77, 0x1F77, 0x0, 0x0, 0x0, 0x30, .plain⟩,
   ⟨0x110, 0x40, 16, 4, 1, 0xFFFFFFFF, 0xFFFFFFFF, 0x0, 0x0, 0x0, 0xAAAAAAAA, .plain⟩,
   ⟨0x118, 0x40, 16, 0x8, 2, 0xFFFFFFFF, 0x0, 0x0, 0x0, 0x0, 0x0, .plain⟩,
   ⟨0x11C, 0x40, 16, 0x8, 2, 0xFFFFFFFF, 0x0, 0x0, 0x0, 0x0, 0x0, .plain⟩,
   ⟨0x128, 0x40, 16, 0x4, 5, 0xFFFFFFFF, 0x0, 0x0, 0xFFFFFFFF, 0x0, 0x0, .plain⟩,
   ⟨0x7FF0, 0x10000, 1, 4, 1, 0x7, 0x0, 0x7, 0x0, 0x0, 0x0, .plain⟩,
   ⟨0x7FF4, 0x10000, 1, 4, 1, 0x7, 0x7, 0x0, 0x0, 0x0, 0x0, .plain⟩]

/-- Register table of SRD: every register of its window. -/
def rowsSrd : List Row := rowsSrd1

/-- Register table of DRM, part 1. -/
def rowsDrm1 : List Row :=
  [⟨0x0, 0x10000, 1, 4, 1, 0xF000F, 0x0, 0x0, 0x0, 0x0, 0x0, .plain⟩,
   ⟨0x4, 0x10000, 1, 4, 1, 0xFF, 0x0, 0x0, 0x0, 0x0, 0x10, .plain⟩,
   ⟨0x8, 0x10000, 1, 4, 1, 0xF, 0x0, 0xF, 0x0, 0xF, 0x0, .plain⟩,
   ⟨0xC, 0x10000, 1, 4, 1, 0x3FFFF, 0x3FFFF, 0x0, 0x0, 0x0, 0x303E8, .plain⟩,
   ⟨0x10, 0x10000, 1, 4, 1, 0x700FFFF, 0x0, 0x0, 0x0, 0x0, 0x32, .plain⟩,
   ⟨0x14, 0x10000, 1, 4, 1, 0x7F, 0x7F, 0x0, 0x0, 0x0, 0x10, .plain⟩,
   ⟨0x18, 0x10000, 1, 4, 1, 0xFFFFFFFF, 0x0, 0x0, 0x0, 0x0, 0x0, .plain⟩,
   ⟨0x1C, 0x10000, 1, 4, 1, 0xFF, 0x0, 0x0, 0x0, 0x0, 0x0, .plain⟩,
   ⟨0x20, 0x10000, 1, 4, 1, 0xFFFF, 0xFFFF, 0x0, 0x0, 0x0, 0x64, .plain⟩,
   ⟨0x100, 0x40, 4, 4, 1, 0x713, 0x0, 0x0, 0x0, 0x0, 0x0, .plain⟩,
   ⟨0x108, 0x40, 4, 0x8, 4, 0xFFFFFFFF, 0x0, 0x0, 0x0, 0x0, 0x0, .plain⟩,
   ⟨0x10C, 0x40, 4, 0x8, 4, 0xFFFFFFFF, 0x0, 0x0, 0x0, 0x0, 0x0, .plain⟩,
   ⟨0x128, 0x40, 4, 0x4, 6, 0xFFFFFFFF, 0x0, 0x0, 0xFFFFFFFF, 0x0, 0x0, .plain⟩,
   ⟨0x200, 0x4, 16, 4, 1, 0xFFFFFFFF, 0x0, 0x0, 0x0, 0x0, 0x0, .plain⟩,
   ⟨0x300, 0x4, 8, 4, 1, 0xFFFF, 0x0, 0x0, 0x0, 0x0, 0xFFFF, .plain⟩,
   ⟨0x7FF0, 0x10000, 1, 4, 1, 0x3, 0x0, 0x3, 0x0, 0x0, 0x0, .plain⟩,
   ⟨0x7FF4, 0x10000, 1, 4, 1, 0x3, 0x3, 0x0, 0x0, 0x0, 0x0, .plain⟩]

/-- Register table of DRM: every register of its window. -/
def rowsDrm : List Row := rowsDrm1

/-- Register table of QDR, part 1. -/
def rowsQdr1 : List Row :=
  [⟨0x0, 0x10000, 1, 4, 1, 0x3, 0x0, 0x0, 0x0, 0x0, 0x0, .plain⟩,
   ⟨0x4, 0x10000, 1, 4, 1, 0x7, 0x0, 0x7, 0x0, 0x7, 0x0, .plain⟩,
   ⟨0x8, 0x10000, 1, 4, 1, 0x3FFFFFF, 0x0, 0x0, 0x0, 0x0, 0x0, .plain⟩,
   ⟨0xC, 0x10000, 1, 4, 1, 0xFF, 0xFF, 0x0, 0x0, 0x0, 0x4, .plain⟩,
   ⟨0x40, 0x4, 4, 4, 1, 0xFFFFFFFF, 0x0, 0x0, 0xFFFFFFFF, 0x0, 0x0, .plain⟩,
   ⟨0x7FF0, 0x10000, 1, 4, 1, 0x1, 0x0, 0x1, 0x0, 0x0, 0x0, .plain⟩,
   ⟨0x7FF4, 0x10000, 1, 4, 1, 0x1, 0x1, 0x0, 0x0, 0x0, 0x0, .plain⟩]

/-- Register table of QDR: every register of its window. -/
def rowsQdr : List Row := rowsQdr1

/-- Register table of RPL, part 1. -/
def rowsRpl1 : List Row :=
  [⟨0x4, 0x10000, 1, 4, 1, 0xF, 0x0, 0xF, 0x0, 0xF, 0x0, .plain⟩,
   ⟨0x1000, 0x40, 16, 4, 1, 0xFFFF11FB, 0xFFFF11FB, 0x0, 0x0, 0x0, 0x1000100, .rws⟩,
   ⟨0x1004, 0x40, 16, 4, 1, 0xFFFFFFFF, 0xFFFFFFFF, 0x0, 0x0, 0x0, 0x0, .rws⟩,
   ⟨0x1008, 0x40, 16, 4, 1, 0xFFFFFFFF, 0xFFFFFFFF, 0x0, 0x0, 0x0, 0x0, .rws⟩,
   ⟨0x100C, 0x40, 16, 4, 1, 0xFFFFFFFF, 0xFFFFFFFF, 0x0, 0x0, 0x0, 0x0, .rws⟩,
   ⟨0x1010, 0x40, 16, 4, 1, 0xFF, 0xFF, 0x0, 0x0, 0x0, 0x0, .rws⟩,
   ⟨0x1014, 0x40, 16, 4, 1, 0xFFFF, 0xFFFF, 0x0, 0x0, 0x0, 0x0, .rws⟩,
   ⟨0x1018, 0x40, 16, 4, 1, 0xFFFFFFFF, 0xFFFFFFFF, 0x0, 0x0, 0x0, 0x0, .rws⟩,
   ⟨0x3000, 0x20, 16, 4, 1, 0xF000FFFF, 0x0, 0x0, 0x0, 0x0, 0x0, .plain⟩,
   ⟨0x3004, 0x20, 16, 4, 1, 0xFFFF, 0x0, 0x0, 0x0, 0x0, 0x0, .plain⟩,
   ⟨0x3008, 0x20, 16, 4, 1, 0xFFFFFFFF, 0x0, 0x0, 0x0, 0x0, 0x0, .plain⟩,
   ⟨0x300C, 0x20, 16, 4, 1, 0xFFFFFFFF, 0x0, 0x0, 0x0, 0x0, 0x0, .plain⟩,
   ⟨0x3010, 0x20, 16, 4, 1, 0xFFFFFFFF, 0x0, 0x0, 0x0, 0x0, 0x0, .plain⟩,
   ⟨0x3014, 0x20, 16, 4, 1, 0xFFFFFFFF, 0x0, 0x0, 0x0, 0x0, 0x0, .plain⟩,
   ⟨0x3018, 0x20, 16, 0x4, 2, 0xFFFFFFFF, 0x0, 0x0, 0xFFFFFFFF, 0x0, 0x0, .plain⟩,
   ⟨0x7FF0, 0x10000, 1, 4, 1, 0x1, 0x0, 0x1, 0x0, 0x0, 0x0, .plain⟩,
   ⟨0x7FF4, 0x10000, 1, 4, 1, 0x1, 0x1, 0x0, 0x0, 0x0, 0x0, .plain⟩]

/-- Register table of RPL: every register of its window. -/
def rowsRpl : List Row := rowsRpl1

/-- Register table of AUD, part 1. -/
def rowsAud1 : List Row :=
  [⟨0x0, 0x10000, 1, 4, 1, 0xF, 0x0, 0x0, 0x0, 0x0, 0x0, .plain⟩,
   ⟨0x4, 0x10000, 1, 4, 1, 0x3F, 0x0, 0x3F, 0x0, 0x3F, 0x0, .plain⟩,
   ⟨0x1000, 0x100, 4, 4, 1, 0x3F7, 0x3F7, 0x0, 0x0, 0x0, 0x260, .rws⟩,
   ⟨0x1004, 0x100, 4, 4, 1, 0xFFFF, 0xFFFF, 0x0, 0x0, 0x0, 0xFF, .rws⟩,
   ⟨0x1008, 0x100, 4, 4, 1, 0xFFFFF, 0xFFFFF, 0x0, 0x0, 0x0, 0x390, .rws⟩,
   ⟨0x100C, 0x100, 4, 4, 1, 0xFFFFFF, 0xFFFFFF, 0x0, 0x0, 0x0, 0x200060, .rws⟩,
   ⟨0x1010, 0x100, 4, 4, 1, 0x7F0F7F, 0x7F0F7F, 0x0, 0x0, 0x0, 0x610726, .rws⟩,
   ⟨0x1014, 0x100, 4, 4, 1, 0xFFFFFFFF, 0xFFFFFFFF, 0x0, 0x0, 0x0, 0x0, .rws⟩,
   ⟨0x1018, 0x100, 4, 4, 1, 0xFFFFFFFF, 0xFFFFFFFF, 0x0, 0x0, 0x0, 0x0, .rws⟩,
   ⟨0x101C, 0x100, 4, 4, 1, 0xFF, 0xFF, 0x0, 0x0, 0x0, 0x0, .rws⟩,
   ⟨0x1020, 0x100, 4, 4, 1, 0xFFFFFFFF, 0xFFFFFFFF, 0x0, 0x0, 0x0, 0x0, .rws⟩,
   ⟨0x1024, 0x100, 4, 4, 1, 0xFF, 0xFF, 0x0, 0x0, 0x0, 0x0, .rws⟩,
   ⟨0x1028, 0x100, 4, 4, 1, 0xFFFF, 0xFFFF, 0x0, 0x0, 0x0, 0x0, .rws⟩,
   ⟨0x1040, 0x100, 4, 0x4, 16, 0xB00F, 0xB00F, 0x0, 0x0, 0x0, 0x0, .rws⟩,
   ⟨0x1080, 0x100, 4, 0x4, 4, 0xFFFFFFFF, 0xFFFFFFFF, 0x0, 0x0, 0x0, 0x0, .rws⟩,
   ⟨0x1090, 0x100, 4, 0x4, 4, 0xFFFFFFFF, 0xFFFFFFFF, 0x0, 0x0, 0x0, 0x0, .rws⟩,
   ⟨0x10A0, 0x100, 4, 0x4, 4, 0xFFFFFFFF, 0xFFFFFFFF, 0x0, 0x0, 0x0, 0x0, .rws⟩,
   ⟨0x10B0, 0x100, 4, 0x4, 4, 0xFFFFFFFF, 0xFFFFFFFF, 0x0, 0x0, 0x0, 0x0, .rws⟩,
   ⟨0x3000, 0x40, 4, 4, 1, 0x73, 0x0, 0x0, 0x0, 0x0, 0x0, .plain⟩,
   ⟨0x3004, 0x40, 4, 4, 1, 0xFFFFFFFF, 0x0, 0x0, 0x0, 0x0, 0x0, .plain⟩,
   ⟨0x3008, 0x40, 4, 0x4, 6, 0xFFFFFFFF, 0x0, 0x0, 0xFFFFFFFF, 0x0, 0x0, .plain⟩,
   ⟨0x7FF0, 0x10000, 1, 4, 1, 0x3, 0x0, 0x3, 0x0, 0x0, 0x0, .plain⟩,
   ⟨0x7FF4, 0x10000, 1, 4, 1, 0x3, 0x3, 0x0, 0x0, 0x0, 0x0, .plain⟩]

/-- Register table of AUD: every register of its window. -/
def rowsAud : List Row := rowsAud1

/-- Register table of PWR, part 1. -/
def rowsPwr1 : List Row :=
  [⟨0x0, 0x10000, 1, 4, 1, 0x337, 0x0, 0x0, 0x0, 0x0, 0x0, .plain⟩,
   ⟨0x4, 0x10000, 1, 4, 1, 0x3FF, 0x0, 0x3FF, 0x0, 0x3FF, 0x0, .plain⟩,
   ⟨0x8, 0x10000, 1, 4, 1, 0x0, 0x0, 0x0, 0x0, 0x0, 0x0, .plain⟩,
   ⟨0x10, 0x20, 2, 4, 1, 0x3B, 0x0, 0x0, 0x0, 0x0, 0x0, .plain⟩,
   ⟨0x14, 0x20, 2, 4, 1, 0xFFFFFFFF, 0x0, 0x0, 0x0, 0x0, 0x0, .plain⟩,
   ⟨0x18, 0x20, 2, 4, 1, 0xFFFF, 0x0, 0x0, 0x0, 0x0, 0x0, .plain⟩,
   ⟨0x1C, 0x20, 2, 4, 1, 0xFFFFFFFF, 0x0, 0x0, 0x0, 0x0, 0x0, .plain⟩,
   ⟨0x20, 0x20, 2, 4, 1, 0xFFFF, 0x0, 0x0, 0x0, 0x0, 0x0, .plain⟩,
   ⟨0x60, 0x4, 9, 4, 1, 0xFFFFFFFF, 0x0, 0x0, 0xFFFFFFFF, 0x0, 0x0, .plain⟩,
   ⟨0x90, 0x8, 5, 4, 1, 0xFFFFFFFF, 0x0, 0x0, 0x0, 0xFFFFFFFF, 0x0, .plain⟩,
   ⟨0x94, 0x8, 5, 4, 1, 0xFFFFFFFF, 0x0, 0x0, 0x0, 0xFFFFFFFF, 0x0, .plain⟩,
   ⟨0xC0, 0x10000, 1, 4, 1, 0xFFFFFFFF, 0x0, 0x0, 0x0, 0x0, 0x0, .plain⟩,
   ⟨0xC4, 0x10000, 1, 4, 1, 0xFFFFFFFF, 0x0, 0x0, 0x0, 0x0, 0x0, .plain⟩,
   ⟨0xC8, 0x10000, 1, 4, 1, 0xFFFFFFFF, 0x0, 0x0, 0x0, 0x0, 0x0, .plain⟩,
   ⟨0xCC, 0x10000, 1, 4, 1, 0xFFFF, 0x0, 0x0, 0x0, 0x0, 0x8000, .plain⟩,
   ⟨0x100, 0x10000, 1, 4, 1, 0xFFFF73FF, 0xFFFF73FF, 0x0, 0x0, 0x0, 0xA41F4, .rws⟩,
   ⟨0x104, 0x10000, 1, 4, 1, 0xC3FF03FF, 0xC3FF03FF, 0x0, 0x0, 0x0, 0x64001E, .rws⟩,
   ⟨0x108, 0x10000, 1, 4, 1, 0xFFFFFFFF, 0xFFFFFFFF, 0x0, 0x0, 0x0, 0xED880100, .rws⟩,
   ⟨0x10C, 0x10000, 1, 4, 1, 0xFFFF, 0xFFFF, 0x0, 0x0, 0x0, 0xC8, .rws⟩,
   ⟨0x110, 0x10000, 1, 4, 1, 0xFFFF, 0xFFFF, 0x0, 0x0, 0x0, 0x32, .rws⟩,
   ⟨0x200, 0x4, 16, 4, 1, 0xFFFF, 0xFFFF, 0x0, 0x0, 0x0, 0x0, .rws⟩,
   ⟨0x300, 0x4, 64, 4, 1, 0xFF1F1F, 0xFF1F1F, 0x0, 0x0, 0x0, 0x160000, .rws⟩,
   ⟨0x400, 0x4, 64, 4, 1, 0x8003FFFF, 0x8003FFFF, 0x0, 0x0, 0x0, 0x0, .rws⟩,
   ⟨0x600, 0x8, 64, 4, 1, 0xFFFFFFFF, 0x0, 0x0, 0x0, 0x0, 0x0, .plain⟩,
   ⟨0x604, 0x8, 64, 4, 1, 0xFFFFFFFF, 0x0, 0x0, 0x0, 0x0, 0x0, .plain⟩,
   ⟨0x800, 0x10000, 1, 4, 1, 0xFFFFFFFF, 0x0, 0x0, 0x0, 0x0, 0x80008000, .plain⟩,
   ⟨0x804, 0x10000, 1, 4, 1, 0xFF010F, 0x0, 0x0, 0x0, 0x0, 0xF, .plain⟩,
   ⟨0x7FF0, 0x10000, 1, 4, 1, 0x7, 0x0, 0x7, 0x0, 0x0, 0x0, .plain⟩,
   ⟨0x7FF4, 0x10000, 1, 4, 1, 0x7, 0x7, 0x0, 0x0, 0x0, 0x0, .plain⟩]

/-- Register table of PWR: every register of its window. -/
def rowsPwr : List Row := rowsPwr1

/-- Register table of CAL, part 1. -/
def rowsCal1 : List Row :=
  [⟨0x0, 0x10000, 1, 4, 1, 0xC000FFFF, 0xC000FFFF, 0x0, 0x0, 0x0, 0xC0000258, .plain⟩,
   ⟨0x4, 0x10000, 1, 4, 1, 0xFF000111, 0x0, 0x0, 0x0, 0x0, 0xFF000000, .plain⟩,
   ⟨0x8, 0x10000, 1, 4, 1, 0x7F, 0x0, 0x7F, 0x0, 0x7F, 0x0, .plain⟩,
   ⟨0xC, 0x10000, 1, 4, 1, 0xFFFFFFFF, 0x0, 0x0, 0x0, 0x0, 0x0, .plain⟩,
   ⟨0x10, 0x10000, 1, 4, 1, 0xFFFF, 0xFFFF, 0x0, 0x0, 0x0, 0xE10, .plain⟩,
   ⟨0x14, 0x10000, 1, 4, 1, 0xFFFF, 0xFFFF, 0x0, 0x0, 0x0, 0xC8, .plain⟩,
   ⟨0x18, 0x10000, 1, 4, 1, 0x0, 0x0, 0x0, 0x0, 0x0, 0x0, .plain⟩,
   ⟨0x1C, 0x10000, 1, 4, 1, 0x7, 0x0, 0x0, 0x0, 0x0, 0x0, .plain⟩,
   ⟨0x20, 0x10000, 1, 4, 1, 0xFFFFFFFF, 0x0, 0x0, 0x0, 0x0, 0x0, .plain⟩,
   ⟨0x28, 0x10000, 1, 4, 1, 0xFFFFFFFF, 0x0, 0x0, 0x0, 0x0, 0x0, .plain⟩,
   ⟨0x2C, 0x10000, 1, 4, 1, 0xFFFFFFFF, 0x0, 0x0, 0x0, 0x0, 0x0, .plain⟩,
   ⟨0x40, 0x4, 4, 4, 1, 0xFFFFFFFF, 0x0, 0x0, 0xFFFFFFFF, 0x0, 0x0, .plain⟩,
   ⟨0x100, 0x4, 198, 4, 1, 0xC0000FFF, 0x0, 0x0, 0x0, 0x0, 0x800, .plain⟩,
   ⟨0x800, 0x4, 198, 4, 1, 0xFFFFFFFF, 0x0, 0x0, 0x0, 0x0, 0x0, .plain⟩,
   ⟨0xC00, 0x4, 16, 4, 1, 0x3FF, 0x0, 0x0, 0x0, 0x0, 0x0, .plain⟩,
   ⟨0x7FF0, 0x10000, 1, 4, 1, 0x7, 0x0, 0x7, 0x0, 0x0, 0x0, .plain⟩,
   ⟨0x7FF4, 0x10000, 1, 4, 1, 0x7, 0x7, 0x0, 0x0, 0x0, 0x0, .plain⟩]

/-- Register table of CAL: every register of its window. -/
def rowsCal : List Row := rowsCal1

/-- Register table of THM, part 1. -/
def rowsThm1 : List Row :=
  [⟨0x0, 0x10000, 1, 4, 1, 0xFFFF0303, 0x0, 0x0, 0x0, 0x0, 0x80000000, .plain⟩,
   ⟨0x4, 0x10000, 1, 4, 1, 0x3F, 0x0, 0x3F, 0x0, 0x3F, 0x0, .plain⟩,
   ⟨0x8, 0x10000, 1, 4, 1, 0xFFFFFFFF, 0x0, 0x0, 0x0, 0x0, 0x0, .plain⟩,
   ⟨0xC, 0x10000, 1, 4, 1, 0xFFFF, 0x0, 0x0, 0x0, 0x0, 0x0, .plain⟩,
   ⟨0x40, 0x4, 4, 4, 1, 0xFFFFFFFF, 0x0, 0x0, 0xFFFFFFFF, 0x0, 0x0, .plain⟩,
   ⟨0x100, 0x10000, 1, 4, 1, 0x8000001F, 0x8000001F, 0x0, 0x0, 0x0, 0x80000000, .rws⟩,
   ⟨0x104, 0x10000, 1, 4, 1, 0xFFFFFFFF, 0xFFFFFFFF, 0x0, 0x0, 0x0, 0x4000040, .rws⟩,
   ⟨0x108, 0x10000, 1, 4, 1, 0xFFFF1FFF, 0xFFFF1FFF, 0x0, 0x0, 0x0, 0x4000030A, .rws⟩,
   ⟨0x200, 0x4, 24, 4, 1, 0x3FFFF, 0x0, 0x0, 0x0, 0x0, 0x0, .plain⟩,
   ⟨0x300, 0x4, 6, 4, 1, 0x1FFFF, 0x0, 0x0, 0x0, 0x0, 0x0, .plain⟩,
   ⟨0x7FF0, 0x10000, 1, 4, 1, 0x3, 0x0, 0x3, 0x0, 0x0, 0x0, .plain⟩,
   ⟨0x7FF4, 0x10000, 1, 4, 1, 0x3, 0x3, 0x0, 0x0, 0x0, 0x0, .plain⟩]

/-- Register table of THM: every register of its window. -/
def rowsThm : List Row := rowsThm1

/-- Register table of PM, part 1. -/
def rowsPm1 : List Row :=
  [⟨0x0, 0x10000, 1, 4, 1, 0x77, 0x0, 0x0, 0x0, 0x0, 0x70, .plain⟩,
   ⟨0x4, 0x10000, 1, 4, 1, 0x7, 0x0, 0x7, 0x0, 0x7, 0x0, .plain⟩,
   ⟨0x8, 0x10000, 1, 4, 1, 0x0, 0x0, 0x0, 0x0, 0x0, 0x0, .plain⟩,
   ⟨0x10, 0x10000, 1, 4, 1, 0xFFFFFFFF, 0xFFFFFFFF, 0x0, 0x0, 0x0, 0x0, .plain⟩,
   ⟨0x14, 0x10000, 1, 4, 1, 0xFFFFFFFF, 0xFFFFFFFF, 0x0, 0x0, 0x0, 0x0, .plain⟩,
   ⟨0x18, 0x10000, 1, 4, 1, 0x7, 0x7, 0x0, 0x0, 0x0, 0x1, .plain⟩,
   ⟨0x20, 0x10000, 1, 4, 1, 0xFF00FF, 0xFF00FF, 0x0, 0x0, 0x0, 0x140005, .plain⟩,
   ⟨0x24, 0x10000, 1, 4, 1, 0x1FF, 0x1FF, 0x0, 0x0, 0x0, 0x1B1, .plain⟩,
   ⟨0x28, 0x10000, 1, 4, 1, 0x1FF, 0x0, 0x0, 0x0, 0x0, 0x0, .plain⟩,
   ⟨0x2C, 0x10000, 1, 4, 1, 0xFF, 0xFF, 0x0, 0x0, 0x0, 0x55, .plain⟩,
   ⟨0x30, 0x10000, 1, 4, 1, 0xFFFFFFFF, 0xFFFFFFFF, 0x0, 0x0, 0x0, 0x0, .plain⟩,
   ⟨0x34, 0x10000, 1, 4, 1, 0xFFFFFFFF, 0x0, 0x0, 0x0, 0x0, 0x0, .plain⟩,
   ⟨0x38, 0x10000, 1, 4, 1, 0x701FFFF, 0x0, 0x0, 0x0, 0x0, 0xFF, .plain⟩,
   ⟨0x3C, 0x10000, 1, 4, 1, 0xFFFFFFFF, 0x0, 0x0, 0x0, 0x0, 0x0, .plain⟩,
   ⟨0x7FF0, 0x10000, 1, 4, 1, 0x7, 0x0, 0x7, 0x0, 0x0, 0x0, .plain⟩,
   ⟨0x7FF4, 0x10000, 1, 4, 1, 0x7, 0x7, 0x0, 0x0, 0x0, 0x0, .plain⟩]

/-- Register table of PM: every register of its window. -/
def rowsPm : List Row := rowsPm1

/-- Register table of UPD, part 1. -/
def rowsUpd1 : List Row :=
  [⟨0x0, 0x10000, 1, 4, 1, 0xFFFF070F, 0x0, 0x0, 0x0, 0x0, 0x0, .plain⟩,
   ⟨0x4, 0x10000, 1, 4, 1, 0xFFFF, 0x0, 0xFFFF, 0x0, 0xFFFF, 0x0, .plain⟩,
   ⟨0x8, 0x10000, 1, 4, 1, 0x0, 0x0, 0x0, 0x0, 0x0, 0x0, .plain⟩,
   ⟨0xC, 0x10000, 1, 4, 1, 0xC300FFFF, 0xC300FFFF, 0x0, 0x0, 0x0, 0x8000003C, .plain⟩,
   ⟨0x10, 0x10000, 1, 4, 1, 0xFFFFFFFF, 0xFFFFFFFF, 0x0, 0x0, 0x0, 0x30000000, .plain⟩,
   ⟨0x14, 0x10000, 1, 4, 1, 0xFF, 0xFF, 0x0, 0x0, 0x0, 0x0, .plain⟩,
   ⟨0x18, 0x10000, 1, 4, 1, 0x7FFFFFF, 0x7FFFFFF, 0x0, 0x0, 0x0, 0x0, .plain⟩,
   ⟨0x1C, 0x10000, 1, 4, 1, 0x7FFF, 0x0, 0x0, 0x0, 0x0, 0x0, .plain⟩,
   ⟨0x20, 0x10000, 1, 4, 1, 0xFFFFFFFF, 0xFFFFFFFF, 0x0, 0x0, 0x0, 0x0, .plain⟩,
   ⟨0x24, 0x10000, 1, 4, 1, 0xFFFFFFFF, 0xFFFFFFFF, 0x0, 0x0, 0x0, 0x0, .plain⟩,
   ⟨0x28, 0x10000, 1, 4, 1, 0x1FFFF, 0x0, 0x0, 0x0, 0x0, 0x0, .plain⟩,
   ⟨0x30, 0x10000, 1, 4, 1, 0xFFFFFFFF, 0x0, 0x0, 0x0, 0x0, 0x0, .plain⟩,
   ⟨0x34, 0x10000, 1, 4, 1, 0xFFFFFFFF, 0x0, 0x0, 0x0, 0x0, 0x0, .plain⟩,
   ⟨0x38, 0x10000, 1, 4, 1, 0xFFFF0373, 0x0, 0x0, 0x0, 0x0, 0x100, .plain⟩,
   ⟨0x40, 0x4, 3, 4, 1, 0xFFFFFF37, 0x0, 0x0, 0x0, 0x0, 0x0, .plain⟩,
   ⟨0x50, 0x8, 3, 4, 1, 0xFFFFFFFF, 0x0, 0x0, 0x0, 0x0, 0x0, .plain⟩,
   ⟨0x54, 0x8, 3, 4, 1, 0xFFFFFFFF, 0x0, 0x0, 0x0, 0x0, 0x0, .plain⟩,
   ⟨0x70, 0x10000, 1, 4, 1, 0x7FFFFFF, 0x7FFFFFF, 0x0, 0x0, 0x0, 0x0, .perPath⟩,
   ⟨0x74, 0x10000, 1, 4, 1, 0x0, 0x0, 0x0, 0x0, 0x0, 0x0, .perPath⟩,
   ⟨0x78, 0x10000, 1, 4, 1, 0x0, 0x0, 0x0, 0x0, 0x0, 0x0, .perPath⟩,
   ⟨0x7C, 0x10000, 1, 4, 1, 0x7FF0007, 0x0, 0x0, 0x0, 0x0, 0x0, .perPath⟩,
   ⟨0x100, 0x10000, 1, 4, 1, 0xC00F0F03, 0x0, 0x0, 0x0, 0x0, 0x80000100, .plain⟩,
   ⟨0x104, 0x10000, 1, 4, 1, 0xFFFFFFFF, 0x0, 0x0, 0x0, 0x0, 0x0, .plain⟩,
   ⟨0x108, 0x10000, 1, 4, 1, 0xFFFFFFFF, 0x0, 0x0, 0x0, 0x0, 0x0, .plain⟩,
   ⟨0x180, 0x4, 25, 4, 1, 0xFFFFFFFF, 0x0, 0x0, 0x0, 0x0, 0x0, .plain⟩,
   ⟨0x200, 0x40, 4, 0x4, 12, 0xFFFFFFFF, 0x0, 0x0, 0x0, 0x0, 0x0, .plain⟩,
   ⟨0x7FF0, 0x10000, 1, 4, 1, 0x7, 0x0, 0x7, 0x0, 0x0, 0x0, .plain⟩,
   ⟨0x7FF4, 0x10000, 1, 4, 1, 0x7, 0x7, 0x0, 0x0, 0x0, 0x0, .plain⟩]

/-- Register table of UPD: every register of its window. -/
def rowsUpd : List Row := rowsUpd1

/-- Register table of BST, part 1. -/
def rowsBst1 : List Row :=
  [⟨0x0, 0x10000, 1, 4, 1, 0x71, 0x0, 0x0, 0x0, 0x0, 0x0, .plain⟩,
   ⟨0x4, 0x10000, 1, 4, 1, 0x7, 0x0, 0x7, 0x0, 0x7, 0x0, .plain⟩,
   ⟨0x8, 0x10000, 1, 4, 1, 0x0, 0x0, 0x0, 0x0, 0x0, 0x0, .plain⟩,
   ⟨0x10, 0x10000, 1, 4, 1, 0xFFFFFFFF, 0xFFFFFFFF, 0x0, 0x0, 0x0, 0x0, .plain⟩,
   ⟨0x14, 0x10000, 1, 4, 1, 0xFF, 0xFF, 0x0, 0x0, 0x0, 0x0, .plain⟩,
   ⟨0x18, 0x10000, 1, 4, 1, 0xFFFFFF, 0xFFFFFF, 0x0, 0x0, 0x0, 0x0, .plain⟩,
   ⟨0x20, 0x10000, 1, 4, 1, 0xFF000073, 0x0, 0x0, 0x0, 0xFF000073, 0x0, .plain⟩,
   ⟨0x24, 0x10000, 1, 4, 1, 0xFFFFFFFF, 0x0, 0x0, 0x0, 0xFFFFFFFF, 0x0, .plain⟩,
   ⟨0x28, 0x10000, 1, 4, 1, 0xFFFFFFFF, 0x0, 0x0, 0x0, 0xFFFFFFFF, 0x0, .plain⟩,
   ⟨0x2C, 0x10000, 1, 4, 1, 0xFFFFFF3F, 0x0, 0x0, 0x0, 0xFFFFFF3F, 0x0, .plain⟩,
   ⟨0x30, 0x10000, 1, 4, 1, 0xFFFFFF, 0x0, 0x0, 0x0, 0xFFFFFF, 0x0, .plain⟩,
   ⟨0x7FF0, 0x10000, 1, 4, 1, 0x3, 0x0, 0x3, 0x0, 0x0, 0x0, .plain⟩,
   ⟨0x7FF4, 0x10000, 1, 4, 1, 0x3, 0x3, 0x0, 0x0, 0x0, 0x0, .plain⟩]

/-- Register table of BST: every register of its window. -/
def rowsBst : List Row := rowsBst1

/-- Register table of FLT, part 1. -/
def rowsFlt1 : List Row :=
  [⟨0x0, 0x10000, 1, 4, 1, 0xFFFF077F, 0x0, 0x0, 0x0, 0x0, 0x0, .plain⟩,
   ⟨0x4, 0x10000, 1, 4, 1, 0xF, 0x0, 0xF, 0x0, 0xF, 0x0, .plain⟩,
   ⟨0x8, 0x10000, 1, 4, 1, 0x0, 0x0, 0x0, 0x0, 0x0, 0x0, .plain⟩,
   ⟨0xC, 0x10000, 1, 4, 1, 0xFFFF, 0x0, 0x0, 0x0, 0x0, 0x0, .plain⟩,
   ⟨0x10, 0x10000, 1, 4, 1, 0xFFFFFFFF, 0x0, 0x0, 0x0, 0x0, 0x0, .plain⟩,
   ⟨0x14, 0x10000, 1, 4, 1, 0xFFFFFFFF, 0x0, 0x0, 0x0, 0x0, 0x0, .plain⟩,
   ⟨0x18, 0x10000, 1, 4, 1, 0xFFFFFFFF, 0x0, 0x0, 0x0, 0x0, 0x0, .plain⟩,
   ⟨0x20, 0x10000, 1, 4, 1, 0xFFFFFFFF, 0xFFFFFFFF, 0x0, 0x0, 0x0, 0x0, .plain⟩,
   ⟨0x24, 0x10000, 1, 4, 1, 0x3, 0x0, 0x0, 0x0, 0x0, 0x0, .plain⟩,
   ⟨0x40, 0x4, 8, 4, 1, 0xFFFFFFFF, 0x0, 0x0, 0x0, 0x0, 0x0, .plain⟩,
   ⟨0x60, 0x10000, 1, 4, 1, 0xFFFFFFFF, 0xFFFFFFFF, 0x0, 0x0, 0x0, 0x0, .plain⟩,
   ⟨0x64, 0x10000, 1, 4, 1, 0xFF, 0xFF, 0x0, 0x0, 0x0, 0x0, .plain⟩,
   ⟨0x68, 0x10000, 1, 4, 1, 0x1FFFF, 0x0, 0x0, 0x0, 0x0, 0x0, .plain⟩,
   ⟨0x80, 0x4, 3, 4, 1, 0xFFFFFFFF, 0x0, 0x0, 0xFFFFFFFF, 0x0, 0x0, .plain⟩,
   ⟨0x7FF0, 0x10000, 1, 4, 1, 0xF, 0x0, 0xF, 0x0, 0x0, 0x0, .plain⟩,
   ⟨0x7FF4, 0x10000, 1, 4, 1, 0xF, 0xF, 0x0, 0x0, 0x0, 0x0, .plain⟩]

/-- Register table of FLT: every register of its window. -/
def rowsFlt : List Row := rowsFlt1

/-- The rows of the window with block ID `b` (R38, R39); a window that no block owns has none. The LNK1 window has no
chain registers (R278). -/
def windowRows (b : Nat) : List Row :=
  match b with
  | 0x0 => rowsSys
  | 0x1 => rowsHif
  | 0x2 => rowsCfg
  | 0x10 => rowsEth
  | 0x11 => rowsEth
  | 0x12 => rowsIng
  | 0x13 => rowsPtp
  | 0x14 => rowsFrm
  | 0x18 => rowsCmp
  | 0x1C => rowsLnk
  | 0x1D => rowsLnk.filter (fun r => r.off < 0x1000 || 0x2000 ≤ r.off)
  | 0x20 => rowsScn
  | 0x21 => rowsCor
  | 0x24 => rowsStr
  | 0x1E => rowsSrd
  | 0x28 => rowsDrm
  | 0x29 => rowsQdr
  | 0x2B => rowsRpl
  | 0x2A => rowsAud
  | 0x3 => rowsPwr
  | 0x5 => rowsCal
  | 0x4 => rowsThm
  | 0x6 => rowsPm
  | 0x7 => rowsUpd
  | 0x8 => rowsBst
  | 0x30 => rowsFlt
  | _ => []

/-- The row of the register at address `a`, if `a` is a register (R10); active copies and path copies are not. -/
def rowAt (a : Nat) : Option Row := (windowRows (a / 0x10000)).find? (·.holds (a % 0x10000))

/-- Reset values that depend on the index (R232): the slot grid, the enabled slots and the identity panel matrix. -/
def indexedReset (a : Nat) : Option Nat :=
  if 0x180200 ≤ a ∧ a < 0x180400 then
    let s := (a - 0x180200) / 8
    if a % 8 = 0 then some (256 * (s / 10) * 2 ^ 16 + 384 * (s % 10))
    else some ((if s ≤ 49 then 2 ^ 31 else 0) + 0x100 * 2 ^ 16 + 0x180)
  else if 0x180140 ≤ a ∧ a < 0x180164 then
    some (if a = 0x180140 ∨ a = 0x180150 ∨ a = 0x180160 then 0x10000 else 0)
  else if a = 0x280300 then some 0x0032
  else none

/-- The reset value of the register at address `a` (the reset columns of the field tables). -/
def resetAt (a : Nat) : Nat :=
  match indexedReset a with
  | some v => v
  | none =>
    match rowAt a with
    | some r => r.rst
    | none => 0

end Sys2Proof.Machine
end

