-- ==== Sys2Proof/Machine/State.lean ====
section
/-!
DEFINITION. The state of the block as plain data: the register file, the memories, the flash content, what each block
holds beside its registers, the pins, the model's own clock, free-value counter and output trace, and the queue of
commands that wait. Each field's comment gives its width or range, the chapter and rule of spec/ that names it, and its
reset value. `State.reset` is the module right after its internal power-on reset has been released (R67 step 5).
-/

namespace Sys2Proof.Machine

/-- Why the model stops with a fault. -/
inductive Fault where
  /-- COLD_RESET with a low level on RESET_N between 500 ns and 1 µs: R53 says the response is not specified. Safe. -/
  | resetPulseUnspecified
  deriving DecidableEq, Repr

/-- Why the model has no meaning for a command. -/
inductive Refusal where
  /-- A row of the table that has no meaning yet (raised only by an arm of `exec`). Safe. -/
  | notModelled (mnemonic : String)
  deriving DecidableEq, Repr

/-- Logic power (R67, R45): off, coming up, held in the internal power-on reset (RESET_N low included), running. -/
inductive LogicPower where
  | off | rising | held | running
  deriving DecidableEq, Repr

/-- What is fused at manufacture or by update. -/
structure Fuses where
  h128 : Bool  -- 1 bit; 00 R5 and 00 R6; DESIGN CHOICE true (log entry 1)
  gradeE : Bool  -- 1 bit; 00 R6; DESIGN CHOICE false (log entry 1)
  rev : Nat  -- 8 bits, major and minor; 00 R6; DESIGN CHOICE 0 (log entry 1)
  serial : Nat  -- 64 bits; 17 R452; DESIGN CHOICE 1 (log entry 1)
  macBase : Nat  -- 48 bits; 05 R146; DESIGN CHOICE 0x020000000000 (log entry 1)
  devPubkey : List Byte  -- 97 bytes; 17 R452; DESIGN CHOICE zeros (log entry 1)
  rootHash : List (List Byte)  -- 4 slots of 48 bytes; 17 R451; DESIGN CHOICE zeros (log entry 1)
  rootFilled : Nat  -- 4 bits; 17 R451; DESIGN CHOICE 1 (log entry 1)
  rootRevoked : Nat  -- 4 bits; 17 R451; DESIGN CHOICE 0 (log entry 1)
  antiRollback : Nat  -- 128-bit thermometer code's value; 17 R453; DESIGN CHOICE 0 (log entry 1)
  debugFuse : Bool  -- 1 bit; 17 R472; true
  deriving DecidableEq, Repr

/-- Pins and straps. `alertN` is the level: false while ALERT_N is driven low. -/
structure Pins where
  straps : Nat  -- ADDR0, ADDR1, BOOT_SEL0, BOOT_SEL1 as latched; 02 R52; DESIGN CHOICE 0 (log entry 2)
  alertN : Bool  -- level; 02 R57 and 03 R99; true
  syncOut : List Bool  -- 2 levels; 06 R199; inactive
  j3On : Bool  -- the J3 outputs have left high impedance; 02 R40, R45 and R67; true
  auxOn : Bool  -- output AUX_12V; 02 R62, R63 and 16 R436; on
  hkOn : Bool  -- output 3V3_HK; 02 R62; on
  railsOn : Bool  -- outputs; 01 R67; on
  deriving DecidableEq, Repr

/-- The I3C target: limits set by SETMWL and SETMRL, the read address and its mode, a pending IBI. -/
structure I3c where
  mwl : Nat  -- 16 bits; 03 R72; 69 (R72)
  mrl : Nat  -- 16 bits; 03 R71; 64 (R72)
  readAddr : Nat  -- 32 bits; 03 R75; 0
  readFixed : Bool  -- 1 bit; 03 R75; rising
  ibiPending : Bool  -- 1 bit; 03 R100; none
  deriving DecidableEq, Repr

/-- One message ring: its descriptor, its pages in the pool and the messages queued in its halves. -/
structure Ring where
  node : Nat  -- 18 bits; 03 R89; own index
  populated : Bool  -- 1 bit; 03 R89; false
  depth : Nat  -- 2 bits; 03 R89; 0
  inPages : List Nat  -- up to 4 pool pages; 03 R90; none
  outPages : List Nat  -- up to 4 pool pages; 03 R90; none
  inQ : List Msg  -- up to 64 messages; 03 R90; empty
  outQ : List Msg  -- up to 64 messages; 03 R90; empty
  inHead : Nat  -- 32 bits; 03 R89; 0
  inTail : Nat  -- 32 bits; 03 R89; 0
  outHead : Nat  -- 32 bits; 03 R89; 0
  outTail : Nat  -- 32 bits; 03 R89; 0
  inDrop : Nat  -- 32 bits; 03 R89; 0
  lastIn : Nat  -- 32 bits; 03 R89 and R82; 0
  lastOut : Nat  -- 32 bits; 03 R89; 0
  moved : Nat  -- clock at which either half last moved, for IDLE; 03 R89; 0
  session : Nat  -- 32 bits; 03 R89; 0
  deriving DecidableEq, Repr

/-- Mailbox state of one access path. -/
structure Mailbox where
  presented : Option (Nat × Msg)  -- ring and message; 03 R93; none
  ptr : Nat  -- word index; 03 R93; 0
  lastNode : Nat  -- round-robin position; 03 R93; 0
  stage : List Word  -- up to 56 words; 03 R94; empty
  oversize : Bool  -- 1 bit; 03 R94 and R102; false
  deriving DecidableEq, Repr

/-- One chunk of a bulk channel. -/
structure Chunk where
  index : Nat  -- chunk number; 03 R97; none
  seq : Nat  -- 32 bits; 03 R97; none
  tries : Nat  -- retries made, 0 to 3; 03 R97; none
  due : Nat  -- time of its 10 ms limit; 03 R97; none
  deriving DecidableEq, Repr

/-- A bulk channel at work: chunks not asked for yet, outstanding, and written. -/
structure Channel where
  next : Nat  -- next chunk to request; 03 R97; 0
  total : Nat  -- chunks of the transfer; 03 R97; 0
  open' : List Chunk  -- up to 8 outstanding; 03 R97; none
  deriving DecidableEq, Repr

/-- A UDP session: the node, its session ID and secret; one that has ended stands until the next one replaces it. -/
structure UdpSession where
  node : Nat  -- 18 bits; 17 R471; none
  id : Nat  -- 32 bits; 17 R471; none
  secret : List Byte  -- 32 bytes; 17 R471; none
  up : Bool  -- 1 bit, open; 17 R471; none
  deriving DecidableEq, Repr

/-- An outstanding SESSION_HELLO. -/
structure Hello where
  node : Nat  -- 18 bits; 17 R471; none
  nonce : Nat  -- 128 bits; 17 R471; none
  tries : Nat  -- repeats made, 0 to 3; 17 R471; none
  due : Nat  -- time of its repetition; 17 R471; none
  deriving DecidableEq, Repr

/-- A request that awaits its response, or whose response has been accepted: its session, and whose response it was. -/
structure Request where
  dest : Nat  -- 18 bits; 03 R83; none
  seq : Nat  -- 32 bits; 03 R83; none
  session : Nat  -- 32 bits, 0 until it is sent; 03 R83; none
  from' : List Nat  -- nodes whose response has been accepted; 03 R83; none
  deriving DecidableEq, Repr

/-- An entry of the UDP endpoint cache, least recently used first. -/
structure Endpoint where
  node : Nat  -- 18 bits; 03 R88; none
  addr : UdpAddr  -- IPv4 or IPv6 address and port; 03 R88; none
  static : Bool  -- 1 bit; 03 R88; none
  deriving DecidableEq, Repr

/-- HIF beside its registers: rings, pool, mailboxes, channels, sequence numbers, sessions, NOTIFY timing. -/
structure Hif where
  rings : List Ring  -- rings not in their empty state, by node; 03 R89; none
  lostPages : List Nat  -- pool pages; 03 R92; none
  boxes : List Mailbox  -- four; 03 R93; empty
  channels : List Channel  -- one per bulk channel; 03 R97; idle
  seq : Nat  -- 32 bits, last SEQ used; 03 R82; 0
  requests : List Request  -- 64 of each destination; 03 R83; none
  held : List (Nat × Msg)  -- source and held response; 03 R83; none
  endpoints : List Endpoint  -- 256 entries; 03 R88; none
  sessions : List UdpSession  -- 256 sessions; 17 R471; none
  hellos : List Hello  -- outstanding HELLOs; 17 R471; none
  ibiPrev : Nat  -- 64 bits, last enabled summary; 03 R100; 0
  notifyPrev : Nat  -- 64 bits, last enabled summary; 03 R101; 0
  notifyPending : Bool  -- 1 bit; 03 R101; false
  notifyLast : Option Nat  -- time of the last NOTIFY; 03 R101; none
  ringCheckLast : Option Nat  -- time of the last 0x0123; 03 R103; none
  summary : Nat  -- 64 bits, what HIF_IRQ_PEND follows; 03 R98; 0
  moves : List (Nat × Nat)  -- summary bits and the clock of their last change; 03 R98; none
  deriving DecidableEq, Repr

/-- A stage of a commit group: the snapshot of its shadow values as the register file holds them, its target frame and
its transaction. The list of stages is kept in staging order. -/
structure Stage where
  group : Nat  -- 4 bits; 04 R119; none
  snap : List (Nat × Word)  -- register words; 04 R119; none
  target : Option Nat  -- 64-bit WFN; 04 R121 and R122; none
  txn : Option Nat  -- 16 bits; 04 R120; none
  deriving DecidableEq, Repr

/-- Partial reconfiguration; its STATE and CODE are in CFG_PR_STATUS. -/
structure Partial where
  image : Option Image  -- the partial bit-stream under check or ready; 04 R127; none
  target : Option Nat  -- 64-bit WFN; 04 R129; none
  since : Nat  -- clock at which CHECK began; 04 R127; 0
  deriving DecidableEq, Repr

/-- A code bank of an engine (R109). -/
structure CodeBank where
  engine : Nat  -- block ID; 04 R109; none
  bank : Nat  -- 0 or 1; 04 R109; none
  code : List Byte  -- at most 1 MiB; 04 R109; none
  deriving DecidableEq, Repr

/-- CFG beside its registers: stages, the last frame whose close point has passed, the partial, the boot attempt. -/
structure Cfg where
  stages : List Stage  -- one per group and target; 04 R119; none
  closed : Nat  -- 64-bit WFN; 04 R121; 0
  part : Partial  -- partial reconfiguration; 04 R127; none
  slotsLeft : List Nat  -- slots still to be tried; 04 R111; set at the end of MEM
  stageFrom : Nat  -- clock at which the stage of boot began; 04 R114; 0
  running : Option Image  -- bit-stream in effect; 04 R115 and R7; none
  topo : Option Topology  -- TOPOLOGY in effect; 04 R108; none
  engines : List (Nat × Nat)  -- engines that run a section's code, and the code bank each runs from; 04 R109 and R129; none
  codes : List CodeBank  -- code written into the engines' banks, two of each; 04 R109; none
  deriving DecidableEq, Repr

/-- A frame as the plan point fixed it: its number and its event times, in STC nanoseconds times 2^16. -/
structure Plan where
  wfn : Nat  -- 64 bits; 06 R182; none
  fs : Int  -- FS(n); 06 R182; none
  own : Int  -- FS_own(n); 06 R186; none
  close : Int  -- commit close point; 06 R186; none
  deadline : Int  -- frond deadline; 06 R186; none
  scale : Int  -- scale decision; 06 R186; none
  hdr : Int  -- frame header; 06 R186; none
  guard : Int  -- guard start; 06 R186; none
  emit : Int  -- E; 06 R178; none
  period : Int  -- p_prev once the frame has started; 06 R183 and R188; none
  deriving DecidableEq, Repr

/-- FRM beside its registers. Times are in STC nanoseconds times 2^16. -/
structure Frm where
  cur : Plan  -- the frame that runs; 06 R182; zeros
  next : Option Plan  -- the next frame once it is fixed; 06 R182; none
  later : Option Plan  -- the frame behind the next one, once it is fixed too; 06 R182 and R190; none
  heard : Option FramePlan  -- a plan a standby head will compare with its own; 06 R191; none
  pPrev : Int  -- last period; 06 R183; 0
  pRef : Int  -- reference period; 06 R181; 0
  slewing : Bool  -- slewing of R183; 06 R183; false
  runOns : Nat  -- consecutive frames without an event; 06 R185; 0
  events : List Int  -- known, unpaired events, t_ev; 06 R179; none
  paired : Option (Nat × Int)  -- last event paired and not ignored; 06 R181; none
  grid : Bool  -- WFN is set from the reference or a plan; 06 R188 and R190; false
  mismatch : List Nat  -- frames not yet started whose mode epoch differs; 06 R196; none
  ioBad : List Nat  -- failing outputs 0 and 1, 2 the roll offset; 06 R200; none
  syncLast : Option Nat  -- STC of the last accepted SYNC_IN edge; 02 R58; none
  pulseEnd : List (Option Nat)  -- STC at which each output's pulse ends; 06 R199; none
  launched : Option Nat  -- frame whose START launch passed last; 10 R316; none
  pulseLast : List (Option Nat)  -- STC at which each output's last pulse began; 06 R199; none
  guarded : Option Nat  -- frame whose guard began last; 06 R186; none
  deriving DecidableEq, Repr

/-- FRM after reset: STOPPED, no grid. -/
def Frm.reset : Frm where
  cur := ⟨0, 0, 0, 0, 0, 0, 0, 0, 0, 0⟩
  next := none
  later := none
  heard := none
  pPrev := 0
  pRef := 0
  slewing := false
  runOns := 0
  events := []
  paired := none
  grid := false
  mismatch := []
  ioBad := []
  syncLast := none
  pulseEnd := [none, none]
  launched := none
  pulseLast := [none, none]
  guarded := none

/-- A master that a PTP domain or the chain hears. -/
structure Master where
  port : Nat  -- port; 06 R168; none
  id : Nat  -- 80-bit port identity; 06 R168; none
  rank : List Nat  -- data set in comparison order; 06 R168; none
  gm : Nat  -- 64-bit grandmaster identity; 06 R202; none
  gmClass : Nat  -- clockClass; 06 R172; none
  annDue : Nat  -- clock at which three Announce intervals have passed; 06 R170; none
  syncDue : Nat  -- clock at which three Sync intervals have passed; 06 R170; none
  syncSeq : Nat  -- sequenceId of the last Sync; 06 R167; none
  t1 : Option Int  -- origin time of the last Sync, 1/40 ns; 06 R170; none
  t2 : Int  -- receive time of the last Sync, 1/40 ns of STC; 06 R166; none
  reqSeq : Nat  -- sequenceId of the last Delay_Req; 06 R167; none
  t3 : Int  -- send time of the last Delay_Req, 1/40 ns of STC; 06 R166; none
  delay : Option Int  -- path delay, 1/40 ns; 06 R168; none
  deriving DecidableEq, Repr

/-- PTP beside its registers. -/
structure Ptp where
  masters : List (List Master)  -- of domain A, domain B and the chain; 06 R168 and R169; none
  offsets : List (Option Int)  -- last offset of A, B, chain, 1/40 ns; 06 R170; none
  stepped : Bool  -- STC has been stepped since reset; 06 R171; false
  recent : List Int  -- offsets before the step, 1/40 ns; 06 R171; none
  freq : Int  -- measured frequency, 2^-16 ppm; 06 R171; 0
  inLock : Nat  -- consecutive measurements within LOCK_NS; 06 R170; 0
  outLock : Nat  -- consecutive measurements beyond UNLOCK_100NS; 06 R170; 0
  firstAt : Option Nat  -- STC at which a domain was first selected, from no source; 06 R172; none
  cleanSince : Option Nat  -- clock since which A meets neither condition of R172; 06 R172; none
  diffSince : Option Nat  -- clock since which the domains differ by over 1 µs; 06 R172; none
  linkDelay : List (Option Int)  -- link delay of LNK0, LNK1 in 1/40 ns; 06 R169; none
  linkSeq : Nat  -- 16 bits, sequence of link time messages; 08 R249; 0
  linkT3 : List Int  -- send time of the last link delay request, 1/40 ns of STC; 06 R169; 0
  deriving DecidableEq, Repr

/-- PTP after reset: FREE, no source. -/
def Ptp.reset : Ptp where
  masters := [[], [], []]
  offsets := [none, none, none]
  stepped := false
  recent := []
  freq := 0
  inLock := 0
  outLock := 0
  firstAt := none
  cleanSince := none
  diffSince := none
  linkDelay := [none, none]
  linkSeq := 0
  linkT3 := [0, 0]

/-- REFCLK and the XO multiplexer beside PTP_REFCLK_STATUS. -/
structure Clocks where
  refMet : Bool  -- REFCLK has met R55 since the last reset; 11 R337; false
  glitches : List Nat  -- clock of the glitches of the last second; 06 R174; none
  resetAt : Nat  -- clock at the release of the reset; 04 R113; 0
  bootLost : Bool  -- the boot timeout has been declared; 04 R113; false
  badAt : Nat  -- clock at which REFCLK last failed R174; 06 R176; 0
  deriving DecidableEq, Repr

/-- A lane beside its registers. -/
structure Lane where
  partnerReady : Bool  -- PHASE READY received; 11 R344; false
  ack : Nat  -- 3 bits, TX_ACK last received; 11 R344; 0
  passed : Bool  -- its own check has passed; 11 R344; false
  seq : Nat  -- 16 bits, SEQ last received; 11 R340; 0
  lowSince : Option Nat  -- clock since which every sweep was below EYE_DOWN; 11 R345; none
  checkFrom : Option Nat  -- clock from which PAT_BITS counts; 11 R348; none
  fixed : Bool  -- SRDk_CFG.TX_FIX as read when CDR was entered; 11 R343; false
  adapt : Bool  -- SRDk_CFG.ADAPT as read when CDR was entered; 11 R343; false
  deriving DecidableEq, Repr

/-- The attempt of a port's four lanes. -/
structure LanePort where
  started : Nat  -- clock at which CDR was entered; 11 R342; 0
  failed : Option Nat  -- clock of the failure while the lanes hold; 11 R342; none
  deriving DecidableEq, Repr

/-- SRD beside its registers. -/
structure Srd where
  lanes : List Lane  -- 16 lanes; 11 R336; idle
  ports : List LanePort  -- 4 ports; 11 R336; idle
  deriving DecidableEq, Repr

/-- SRD after reset. -/
def Srd.reset : Srd := ⟨List.replicate 16 ⟨false, 0, false, 0, none, none, false, false⟩, List.replicate 4 ⟨0, none⟩⟩

/-- A frame in a transmit queue. -/
structure TxFrame where
  sub : Nat  -- sublink 0 to 3; 05 R136; none
  cls : Nat  -- class 0 to 7; 05 R140; none
  len : Nat  -- bytes, tag and FCS included; 05 R140; none
  item : Out  -- what it carries; 05 R140; none
  deriving DecidableEq, Repr

/-- A pause timer that is not zero. -/
structure Pause where
  sub : Nat  -- sublink; 05 R141; none
  cls : Nat  -- class; 05 R141; none
  stop : Nat  -- clock at which it runs out; 05 R141; none
  deriving DecidableEq, Repr

/-- A next hop and what waits for it. -/
structure Hop where
  v6 : Bool  -- IP version; 05 R139; none
  ip : Nat  -- address; 05 R139; none
  resolved : Bool  -- resolved, or asked for; 05 R139; none
  due : Nat  -- clock of its 60 s expiry, or of its 1 s limit; 05 R139; none
  waiting : List TxFrame  -- datagrams that wait for it; 05 R139; none
  deriving DecidableEq, Repr

/-- An Ethernet port beside its registers. -/
structure EthPort where
  queue : List TxFrame  -- 64 KiB a class; 05 R140; empty
  pauses : List Pause  -- pause timers; 05 R141; zero
  hops : List Hop  -- next hops; 05 R139; none
  lpiFrom : Option Nat  -- clock at which transmit LPI began; 05 R143; none
  lastBusy : Nat  -- clock at which the queues last held a frame; 05 R143; 0
  partnerTw : Nat  -- wake time the partner last requested, ns; 05 R143; 0
  partnerEee : Bool  -- the partner of the link that is up advertises EEE; 05 R143; false
  lpiRem : Nat  -- ns of transmit LPI not yet counted in TX_LPI_US, below 1000; 05 R145; 0
  lldpDue : Nat  -- clock of the next LLDP frame; 05 R143; 0
  lldpAnswer : Bool  -- a changed request awaits its answer; 05 R143; false
  deriving DecidableEq, Repr

/-- An Ethernet port after reset. -/
def EthPort.reset : EthPort := ⟨[], [], [], none, 0, 0, false, 0, 0, false⟩

/-- A Lysrov port beside its registers. -/
structure LnkPort where
  lastId : Option Nat  -- clock of the last LINK_ID; 08 R240; none
  ownNonce : Option Nat  -- 128 bits, drawn when the port trains; 08 R242; none
  partner : Option (Nat × Nat)  -- partner's nonce and serial; 08 R242; none
  sent : Bool  -- a LINK_ID with the nonce has been sent; 08 R242; false
  offered : Option Int  -- slot this port offers the module; 08 R235; none
  wrong : Bool  -- the partner's last LINK_ID showed a wrong cable; 08 R236; false
  passed : List (Nat × Nat)  -- source and last SEQ that has passed under the session; 08 R243; none
  secret : List Byte  -- 32 bytes, session secret; 08 R242; none
  underPrev : Bool  -- the session is tried under the previous chain key; 17 R470; false
  ended : Nat  -- 32 bits, ID of the session that ended last; 03 R82; 0
  deriving DecidableEq, Repr

/-- A port after reset: down. -/
def LnkPort.reset : LnkPort := ⟨none, none, none, false, none, false, [], [], false, 0⟩

/-- A frond kept in the resend buffer. -/
structure Kept where
  slot : Nat  -- 6 bits; 08 R265; none
  band : Nat  -- 6 bits; 08 R265; none
  frond : Frond  -- the frond; 08 R265; none
  deriving DecidableEq, Repr

/-- A Spore in the table. -/
structure SporeEntry where
  slot : Nat  -- 6 bits; 08 R256; none
  spore : Spore  -- 64 bytes; 08 R256; none
  deriving DecidableEq, Repr

/-- A transaction of this module: 1 prepared, 2 armed, 3 installed, 4 missed, 5 aborted. -/
structure MyTxn where
  txn : Nat  -- 16 bits; 08 R255; none
  state : Nat  -- 3 bits; 08 R255; none
  deriving DecidableEq, Repr

/-- A head's identity record of a slot. -/
structure IdRec where
  serial : Nat  -- 64 bits; 08 R267; 0
  incarn : Nat  -- 32 bits; 08 R267; 0
  past : List Nat  -- serials it has superseded; 08 R267; none
  deriving DecidableEq, Repr

/-- LNK beside its registers. -/
structure Lnk where
  ports : List LnkPort  -- two; 08 R235; down
  activeNode : Nat  -- node of the active head; 08 R251; 0
  headers : List FrameHeader  -- accepted headers of the next two frames; 08 R252; none
  storedEpoch : Nat  -- 32 bits, settings store in flash; 08 R257; DESIGN CHOICE 0 (log entry 6)
  listenFrom : Option Nat  -- clock at which listening began; 08 R257; none
  aliveDue : Nat  -- clock of the next HEAD_ALIVE; 08 R258; 0
  lastHead : Nat  -- clock of the last word from the active head; 08 R263; 0
  takeover : Bool  -- TAKEOVER, until the first header of the epoch; 08 R258; false
  sameDigests : Nat  -- consecutive matches; 08 R266; 0
  digestAt : Nat × Nat  -- last own frame start and the digest there; 08 R266; 0, 0
  digestDue : Option (Nat × Nat)  -- frame and digest of a HEAD_STATE ahead of the own frame start; 08 R266; none
  demotes : List (Nat × Nat)  -- sender and clock of the last DEMOTE; 08 R261; none
  firstDue : Bool  -- the epoch rose without its FIRST_WFN; 08 R262; false
  latched : Nat  -- EPOCH latched from the last header; 08 R252; 0
  breaks : Nat  -- BREAK events counted; 08 R269; 0
  missed : List (Nat × Nat)  -- slot and transaction its unit has missed; 08 R277; none
  ids : List IdRec  -- 64 records; 08 R267; zeros
  table : List TxnEntry  -- 8 entries; 08 R266; empty
  mine : List MyTxn  -- the four most recent transactions; 08 R276; none
  spores : List SporeEntry  -- accepted Spores of each slot, of its last two frames; 08 R256 and 06 R193; none
  kept : List Kept  -- the resend buffer's fronds; 08 R265; empty
  keptBytes : Nat  -- bytes of the resend buffer in use; 08 R265; 0
  scaleLast : Nat × Nat  -- WFN and wall scale of the last header sent or accepted; 14 R407; 0, 0x8000
  scaleSent : Nat  -- wall scale of the last header sent; 08 R245; 0x8000
  scaleNext : Nat  -- wall scale decided for the next header; 14 R407; 0x8000
  maskCaptured : Nat  -- slot mask captured with the latest composition; 08 R251; all ones
  delegateEnds : Bool  -- the delegate stops at the end of its composition; 08 R271; false
  headerSent : Option Nat  -- WFN of the last header sent; 08 R257; none
  broken : List Nat  -- broken links, by the slot at their west end; 08 R269; none
  hdrMissed : Bool  -- HDR_MISSED in the frame that runs; 08 R255; false
  holding : Bool  -- the frame that runs holds the last one; 08 R253; false
  handover : Option Nat  -- composition at whose end the standby takes over; 08 R268; none
  incarn : Nat  -- incarnation held for the own node ID; 08 R241; 0
  identityLost : Bool  -- demoted by its identity record; 08 R267; false
  deriving DecidableEq, Repr

/-- LNK after reset. -/
def Lnk.reset : Lnk where
  ports := [LnkPort.reset, LnkPort.reset]
  activeNode := 0
  headers := []
  storedEpoch := 0
  listenFrom := none
  aliveDue := 0
  lastHead := 0
  takeover := false
  sameDigests := 0
  digestAt := (0, 0)
  digestDue := none
  demotes := []
  firstDue := false
  latched := 0
  breaks := 0
  missed := []
  ids := List.replicate 64 ⟨0, 0, []⟩
  table := []
  mine := []
  spores := []
  kept := []
  keptBytes := 0
  scaleLast := (0, 0x8000)
  scaleSent := 0x8000
  scaleNext := 0x8000
  maskCaptured := 0xFFFFFFFFFFFFFFFF
  delegateEnds := false
  headerSent := none
  broken := []
  hdrMissed := false
  holding := false
  handover := none
  incarn := 0
  identityLost := false

/-- A band in the pixel buffers. -/
structure BackBand where
  wfn : Nat  -- 64 bits; 09 R283; none
  band : Nat  -- 6 bits; 09 R283; none
  epoch : Nat  -- 32 bits, under which it was accepted; 08 R262; none
  deriving DecidableEq, Repr

/-- COR's capture for a frame. -/
structure Capture where
  start : Nat  -- frame at whose start it was made; 09 R289; none
  w : Nat  -- 12 bits; 09 R289; none
  h : Nat  -- 11 bits; 09 R289; none
  mapBank : Nat  -- 1 bit; 09 R289; none
  coefBank : Nat  -- 1 bit; 09 R289; none
  usable : Bool  -- both selected banks VALID; 09 R289; none
  comp : Bool  -- COMP_EN; 09 R289; none
  gain : Nat  -- 8 bits; 09 R289; none
  ee : Bool  -- EE_EN; 09 R289; none
  peak : Nat  -- OLF16 code; 09 R289; none
  currents : List Nat  -- 288 of 24 bits, 3 x string + colour; 09 R289; none
  failed : List Nat  -- global indices of the FAILED lamps; 09 R289; none
  deriving DecidableEq, Repr

/-- What the end of settling publishes for a closed frame. -/
structure Settle where
  wfn : Nat  -- 64 bits; 09 R288; none
  mask : Nat  -- 64 bits, received bands; 09 R288; none
  held : Bool  -- a band was held; 09 R302; none
  ePred : Nat  -- 32 bits; 09 R299; none
  kee : Nat  -- 24 bits, Q16; 09 R298; none
  limit : Nat  -- STC by which settling ends; 09 R288; none
  deriving DecidableEq, Repr

/-- SCN and COR beside their registers. -/
structure Scn where
  back : List BackBand  -- received bands of frames f and f + 1; 09 R285; none
  early : List Nat  -- bands of f that a frond of f + 1 has closed; 09 R287; none
  heldEarly : Bool  -- one of them was held; 09 R287; false
  spoiled : List Nat  -- bands of f left without rows to hold; 09 R285; none
  last : Option Nat  -- frame whose frond deadline passed last; 09 R283; none
  cap : Option Capture  -- the latest capture; 09 R289; none
  corrected : List Nat  -- bands of its frame that are corrected; 09 R294; none
  settle : Option Settle  -- settling in progress; 09 R288; none
  load : Option Nat  -- table of the load that runs; 09 R300; none
  deriving DecidableEq, Repr

/-- SCN and COR after reset. -/
def Scn.reset : Scn := ⟨[], [], false, [], none, none, [], none, none⟩

/-- Where a string stands in its frame cycle. -/
inductive Cycle where
  | rest | load | control | probe | collect
  deriving DecidableEq, Repr

/-- A string beside its registers. -/
structure Strand where
  en : Bool  -- EN of the last capture; 10 R306; false
  due : Option Nat  -- clock at which RETRY_MS has passed; 10 R323; none
  runSince : Nat  -- clock at which RUN was entered; 10 R323; 0
  fresh : Bool  -- no START sent since RUN was entered; 10 R320; false
  bad : Nat  -- consecutive COLLECTs without a good report; 10 R324; 0
  good : Nat  -- consecutive good COLLECTs while lost; 10 R324; 0
  lost : Bool  -- return lost; 10 R324; false
  loop : Option Nat  -- LOOP, 0.5 ns units; 10 R316; none
  rotor : Nat  -- r_s; 10 R329; 0
  cycle : Cycle  -- packet that runs on CLW_OUT; 10 R305; rest
  until' : Nat  -- STC at which it ends; 10 R305; 0
  codes : List Nat  -- codes the last LOAD sent, 48 a share; 10 R318; none
  probes : List Nat  -- lamps selected for the guard; 10 R329; none
  examined : Nat  -- r_s after the selection; 10 R329; 0
  probed : List Nat  -- lamps probed in the guard; 10 R327; none
  charged : List Nat  -- lamps whose charge the last LOAD took; 10 R331; none
  collectAt : Option Nat  -- STC of the SOF of a COLLECT that has not returned; 10 R316; none
  leakNext : Option Nat  -- LEAK_CH of the next emission; 10 R310; none
  leakNow : Option Nat  -- LEAK_CH of the present emission; 10 R310; none
  cmd : Option (Nat × Nat)  -- held STR_CMD: OP and LAMP; 10 R332; none
  diagAt : Option Nat  -- STC of the first PROBE or COLLECT since the last START; 15 R418; none
  spoilt : Bool  -- its working data read uncorrectable: the next START holds; 12 R365; false
  slewEnd : Nat  -- clock at which the rail's last move ends; 10 R324; 0
  deriving DecidableEq, Repr

/-- A string after reset. -/
def Strand.reset : Strand :=
  ⟨false, none, 0, false, 0, 0, false, none, 0, .rest, 0, [], [], 0, [], [], none, none, none, none, none, false, 0⟩

/-- What STR formed the START of a frame from. -/
structure Launch where
  wfn : Nat  -- 64 bits; 10 R315; none
  header : Option FrameHeader  -- the header accepted by the launch; 10 R315; none
  hold : Bool  -- HOLD; 10 R320; none
  dark : Bool  -- DARK of every string; 10 R320; none
  skip : Nat  -- m; 10 R314; none
  first : Bool  -- the frame is the first in RUN; 04 R116; none
  deriving DecidableEq, Repr

/-- STR beside its registers. -/
structure Str where
  strings : List Strand  -- 96; 10 R333; idle
  loading : Option Nat  -- frame between the end of its settling and its START launch; 10 R305; none
  late : Bool  -- its LOAD was truncated on a string; 10 R318; false
  kee : Nat  -- 24 bits, Q16, K_EE of its LOAD; 10 R318; 0x10000
  launch : Option Launch  -- the last START launch; 10 R315; none
  throttle : Bool  -- m_thm above m_wall at the last START; 10 R314; false
  deriving DecidableEq, Repr

/-- STR after reset. -/
def Str.reset : Str := ⟨List.replicate 96 Strand.reset, none, false, 0x10000, none, false⟩

/-- A surface with its descriptor (R159), for an ING buffer, a replay entry or a write-back buffer. `id` numbers the
frames it has begun to hold (model's own), the key that holds and layers use. -/
structure Surf where
  id : Nat  -- serial number of the content, 0 for none; model's own; none
  desc : Nat  -- DRAM address of the descriptor; 05 R159; none
  data : Nat  -- DRAM address of the surface; 05 R153; none
  st : Nat  -- 0 FREE, 1 FILLING, 2 COMPLETE, 3 ABANDONED; 05 R159; none
  inc : Bool  -- INCOMPLETE; 05 R159; none
  a : Bool  -- path A contributed; 05 R159; none
  b : Bool  -- path B contributed; 05 R159; none
  holds : Nat  -- 4 bits; 05 R159; none
  rows : Nat  -- ROWS_DONE; 05 R159; none
  stc : Nat  -- STC_FIRST; 05 R159; none
  rtp : Nat  -- RTP_TS; 05 R159; none
  seq : Nat  -- SEQ_FIRST; 05 R159; none
  frame : Nat  -- FRAME_NO; 05 R159; none
  fmt : Nat  -- FORMAT; 05 R159; none
  ocs : Bool  -- OCS; 05 R159; none
  w : Nat  -- W; 05 R159; none
  h : Nat  -- H; 05 R159; none
  x0 : Nat  -- CROP_X0; 05 R159; none
  y0 : Nat  -- CROP_Y0; 05 R159; none
  stride : Nat  -- STRIDE; 05 R159; none
  lost : Nat  -- LOST; 05 R159; none
  deriving DecidableEq, Repr

/-- A source frame that fills: the first STC at which it must be concluded, what has been written, what is concealed. -/
structure Filling where
  ts : Nat  -- RTP timestamp; 05 R153; none
  buf : Option Nat  -- serial of its surface, none if the frame is dropped; 05 R153; none
  srcW : Nat  -- SRC_SIZE.W it began with; 05 R155; none
  srcH : Nat  -- SRC_SIZE.H it began with; 05 R155; none
  pt : Nat  -- payload type it began with; 05 R155; none
  skew : Nat  -- SKEW_US it began with, in ns; 05 R155; none
  cover : List (Nat × Nat × Nat)  -- crop row, from, to: pixels written, in order; 05 R154; none
  hidden : List Nat  -- crop rows counted as concealed; 05 R154; none
  stage : List Host.Cell  -- OCS staging pool, in the layout of R158; 05 R157; none
  done : List Nat  -- OCS tracks written; 05 R160; none
  lost : Nat  -- packets lost in this frame; 05 R159; none
  due : Option Nat  -- clock at which it is concluded, once the next frame has begun; 05 R154; none
  deriving DecidableEq, Repr

/-- A gap in the merged sequence numbers. -/
structure Gap where
  seqs : List Nat  -- numbers not received; 05 R151; none
  due : Nat  -- clock at which SKEW_US has passed; 05 R151; none
  before : Nat  -- RTP timestamp of the frame it opened in; 05 R151; none
  after : Nat  -- RTP timestamp of the packet that opened it; 05 R151; none
  row : Nat  -- source row that packet begins in; 05 R154; none
  x : Nat  -- source column it begins at; 05 R154; none
  deriving DecidableEq, Repr

/-- A stream of ING. -/
structure IngStream where
  on : Bool  -- EN of the last install; 05 R155; false
  bufs : List Surf  -- buffers of the region; 05 R153; none
  old : List Surf  -- buffers of regions an install has moved; 05 R155; none
  newest : Nat  -- serial of the newest complete surface, 0 for none; 05 R152; 0
  serial : Nat  -- last serial given; model's own; 0
  begun : Nat  -- source frames begun since the last enable, 64 bits; 05 R159; 0
  fills : List Filling  -- source frames that fill, oldest first; 05 R153; none
  events : List Int  -- event times of the last two frames begun, newest first; 07 R212; none
  origin : Option Nat  -- first number accepted of the run that `next` ends; 05 R151; none
  next : Option Nat  -- next expected extended sequence number; 05 R151; none
  seen : List (Nat × Nat)  -- earlier runs of numbers received or missed: first, count; 05 R151; none
  gaps : List Gap  -- open gaps, oldest first; 05 R151; none
  lostSeqs : List Nat  -- numbers declared lost; 05 R151; none
  past : List Nat  -- RTP timestamps of the last concluded frames; 05 R154; none
  heard : List (Option Nat)  -- clock of the last packet of path A and B; 05 R152; none
  recent : List (Nat × Nat)  -- clock and pixels of packets of the last millisecond; 05 R163; none
  deriving DecidableEq, Repr

/-- A stream after reset. -/
def IngStream.reset : IngStream := ⟨false, [], [], 0, 0, 0, [], [], none, none, [], [], [], [], [none, none], []⟩

/-- A group that a stream path has joined: owner 0 to 15 for ING, 16 to 19 for AUD. -/
structure Member where
  owner : Nat  -- stream; 05 R150; none
  path : Nat  -- 0 path A, 1 path B; 05 R150; none
  v6 : Bool  -- IP version; 05 R150; none
  grp : Nat  -- group address; 05 R150; none
  src : Option Nat  -- source of an INCLUDE; 05 R150; none
  deriving DecidableEq, Repr

/-- Unsolicited reports of a change that are still to be sent. -/
structure Pending where
  m : Member  -- the membership; 05 R150; none
  join : Bool  -- joined or left; 05 R150; none
  left : Nat  -- reports still to be sent; 05 R150; none
  due : Nat  -- clock of the next one; 05 R150; none
  deriving DecidableEq, Repr

/-- The monitoring sender. -/
structure Monitor where
  seq : Nat  -- 32 bits, sequence number of the next packet; 05 R162; 0
  surf : Option Surf  -- write-back surface that is being sent; 05 R162; none
  pos : Nat  -- pixels of it already sent, row by row; 05 R162; 0
  last : Nat  -- serial of the last surface taken; 05 R162; 0
  deriving DecidableEq, Repr

/-- ING beside its registers. -/
structure Ing where
  streams : List IngStream  -- 16; 05 R147; idle
  members : List Member  -- memberships declared, AUD's among them; 05 R150; none
  reports : List Pending  -- unsolicited reports to come; 05 R150; none
  mon : Monitor  -- monitoring sender; 05 R162; idle
  deriving DecidableEq, Repr

/-- ING after reset. -/
def Ing.reset : Ing := ⟨List.replicate 16 IngStream.reset, [], [], ⟨0, none, 0, 0⟩⟩

/-- A replay entry that holds a frame: its index, its surface and the frame's event time. -/
structure Entry where
  index : Nat  -- 16 bits; 12 R366; none
  surf : Surf  -- descriptor; 12 R366; none
  ev : Int  -- event time, ns times 2^16; 12 R367; none
  deriving DecidableEq, Repr

/-- A copy that runs. -/
structure Copy where
  index : Nat  -- target entry; 12 R367; none
  surf : Surf  -- the source's descriptor; 12 R367; none
  stream : Option Nat  -- ING stream, none for write-back; 12 R367; none
  ev : Int  -- event time; 12 R367; none
  deriving DecidableEq, Repr

/-- A replay channel. -/
structure RplChan where
  region : List Nat  -- BASE, ENTRIES, ENTRY_SIZE, SRC_ID, SRC_WB in force; 12 R366; none
  entries : List Entry  -- entries that hold a frame, by event time; 12 R366; none
  copy : Option Copy  -- the copy in progress; 12 R367; none
  t0 : Int  -- t0, ns times 2^16; 12 R369; 0
  from' : Int  -- FS(n) of PLAY's install, ns times 2^16; 12 R369; 0
  shown : List (Nat × Nat)  -- composition and entry presented to it, held; 12 R369; none
  last : Option Entry  -- entry presented at the last capture; 12 R369; none
  deriving DecidableEq, Repr

/-- A channel after reset. -/
def RplChan.reset : RplChan := ⟨[], [], none, 0, 0, [], none⟩

/-- What a layer reads. -/
inductive LayerSrc where
  | stream (s id : Nat)
  | fixed (x : Surf)
  deriving DecidableEq, Repr

/-- A layer in the composition in progress. -/
structure LayerUse where
  n : Nat  -- layer; 07 R212; none
  src : Option LayerSrc  -- the buffer it selected; 07 R212; none
  hold : Bool  -- it has a hold on an ING buffer; 07 R212; none
  out : Bool  -- faulted, or without a source; 07 R212 and R225; none
  deriving DecidableEq, Repr

/-- The set that governs a composition: its number, the active values of CMP_LAYERS and CMP_OUTPUT, the on-die copy of
the active bank. -/
structure CmpSet where
  m : Nat  -- 64-bit WFN; 07 R205; none
  bank : Nat  -- active bank; 07 R205; none
  swaps : Nat  -- swaps of the banks before its copy; 07 R218; none
  regs : List (Nat × Word)  -- active values; 07 R205; none
  tables : List Host.Cell  -- on-die copy of the bank, from offset 0; 07 R218; none
  mask : Nat  -- LNK_SLOT_MASK; 08 R251; none
  shown : List (Nat × Surf)  -- replay channel and what it presents; 12 R369; none
  copying : Option Nat  -- STC at which a new copy began, none if the tables were there; 07 R218; none
  deriving DecidableEq, Repr

/-- CMP beside its registers. -/
structure Cmp where
  next : Option CmpSet  -- captured for the composition to come; 07 R205; none
  comp : Option Nat  -- composition in progress; 07 R206; none
  set : Option CmpSet  -- the set it runs under; 07 R205; none
  modeEpoch : Nat  -- mode epoch when it began; 08 R245; 0
  layers : List LayerUse  -- its layers; 07 R212; none
  bufs : List Surf  -- write-back buffers; 07 R228; none
  region : List Nat  -- write-back region in force: base, count, size; 07 R228; none
  wb : Option Nat  -- serial of the buffer it writes; 07 R228; none
  newest : Nat  -- serial of the newest complete buffer, 0 for none; 07 R228; 0
  serial : Nat  -- last serial given; model's own; 0
  swaps : Nat  -- swaps of the table banks since reset; 07 R218; 0
  deriving DecidableEq, Repr

/-- CMP after reset. -/
def Cmp.reset : Cmp := ⟨none, none, none, 0, [], [], [], none, 0, 0, 0⟩

/-- An output channel of an audio port. -/
structure AudChan where
  st : Nat  -- 0 SILENT, 1 START, 2 FADE_IN, 3 PLAY, 4 STOP, 5 FADE_OUT; 13 R387; 0
  count : Nat  -- frames in the state; 13 R387; 0
  prev : Option Int  -- previous source sample; 13 R387; none
  out : Int  -- last output, 24 bits; 13 R387; 0
  base : Int  -- output a fade-out began from; 13 R387; 0
  stream : Nat  -- stream it plays; 13 R387; 0
  chan : Nat  -- channel it plays; 13 R387; 0
  deriving DecidableEq, Repr

/-- A frame fetched for playout. -/
structure Fetched where
  stream : Nat  -- stream; 13 R385; none
  k : Nat  -- sample index K; 13 R385; none
  samples : Option (List Int)  -- 16 channels, none if missing; 13 R385; none
  deriving DecidableEq, Repr

/-- An audio port. -/
structure AudPort where
  pause : Bool  -- the block of a restart; 13 R381; false
  k : Nat  -- index of the frame that begins next; 13 R376; 0
  cfg : List (Nat × Word)  -- group values latched at the last block boundary; 13 R380; none
  chans : List AudChan  -- 16; 13 R387; silent
  fetched : List Fetched  -- frames between fetch and playout; 13 R385; none
  first : Bool  -- the block is the first after a start or restart; 13 R388; false
  record : List Int  -- samples recorded in the block; 13 R388; none
  deriving DecidableEq, Repr

/-- A stream of AUD. -/
structure AudStream where
  valid : List Nat  -- frame slots whose valid bit is set; 13 R384; none
  fetchedTo : Option Nat  -- largest sample index fetched; 13 R385; none
  heard : List (Option Nat)  -- clock of the last packet of path A and B; 13 R383; none
  deriving DecidableEq, Repr

/-- AUD beside its registers. -/
structure Aud where
  ports : List AudPort  -- four; 13 R377; stopped
  streams : List AudStream  -- four; 13 R382; idle
  block : Nat  -- index of the next block boundary; 13 R376; 0
  deriving DecidableEq, Repr

/-- AUD after reset. -/
def Aud.reset : Aud :=
  ⟨List.replicate 4 ⟨false, 0, [], List.replicate 16 ⟨0, 0, none, 0, 0, 0, 0⟩, [], false, []⟩,
   List.replicate 4 ⟨[], none, [none, none]⟩, 0⟩

/-- A DRAM request that waits for its channel: its client (R359), its 256-byte granule, how many have passed it. -/
structure DramReq where
  client : Nat  -- 3 bits; 12 R356 and R359; none
  granule : Nat  -- DRAM address / 256; 12 R353; none
  passed : Nat  -- requests of other clients that have passed it, 0 to 16; 12 R356; 0
  deriving DecidableEq, Repr

/-- An open page. -/
structure Page where
  channel : Nat  -- 2 bits; 12 R356; none
  bank : Nat  -- 4 bits; 12 R356 and R357; none
  row : Nat  -- row of the bank; 12 R356; none
  deriving DecidableEq, Repr

/-- DRM and QDR beside their registers. -/
structure Drm where
  pages : List Page  -- open pages, at most one of a bank; 12 R356; none
  waiting : List DramReq  -- requests that wait for their channel's exit, in arrival order; 12 R356 and R358; none
  exiting : List Bool  -- a channel leaves its low-power state; 12 R358; false
  lastAt : List Nat  -- clock of each channel's last request; 12 R358; 0
  drift : Nat  -- clock of the next WCK reading; 12 R355; 0
  temp : Nat  -- clock of the next temperature reading; 12 R357; 0
  odecc : Nat  -- clock of the next reading of on-die errors; 12 R360; 0
  refresh : List Nat  -- clock of each channel's next refresh; 12 R357; 0
  bank : List Nat  -- bank each channel refreshes next; 12 R357; 0
  scrub : Nat  -- QDR address the scrubber reads next; 12 R364; 0
  delay : List (Int × Int)  -- read and write delay of the 16 lanes, steps of 1/64 UI from the default; 12 R354 and R355; 0
  deriving DecidableEq, Repr

/-- DRM and QDR after reset. -/
def Drm.reset : Drm := ⟨[], [], [false, false, false, false], [0, 0, 0, 0], 0, 0, 0, [0, 0, 0, 0], [0, 0, 0, 0], 0, List.replicate 16 (0, 0)⟩

/-- What the lead feed controller copies to the other (R397). -/
structure FeedCopy where
  mode : Nat  -- 1 bit; 14 R397; none
  primary : Nat  -- 1 bit; 14 R397; none
  converting : Nat  -- 2 bits; 14 R397; none
  switching : Bool  -- 1 bit; 14 R397; none
  share : Nat  -- per mille on feed A; 14 R397; none
  inA : Nat  -- 64 bits, mJ; 14 R397; none
  inB : Nat  -- 64 bits, mJ; 14 R397; none
  deriving DecidableEq, Repr

/-- A peer chain, as its CHAIN_ENERGY messages told. -/
structure Peer where
  chain : Nat  -- CHAIN_ID; 14 R406; none
  epoch : Nat  -- highest epoch seen; 14 R406; none
  wfn : Nat  -- frame of the last CHAIN_SCALE accepted; 14 R408; none
  scale : Nat  -- that CHAIN_SCALE; 14 R408; none
  missing : Nat  -- frames in a row without one; 14 R408; none
  out : Bool  -- left out of the decision; 14 R408; none
  deriving DecidableEq, Repr

/-- PWR beside its registers. -/
structure Pwr where
  mode : Nat  -- feed mode the controllers act on; 14 R396; 0
  primary : Nat  -- PRIMARY they act on; 14 R396; 0
  modeDue : Bool  -- an install of group PWR waits for them; 14 R396; false
  moving : Option Nat  -- feed that receives the load in a transfer; 14 R396; none
  began : Nat  -- clock at which the switch-over or transfer began; 14 R395; 0
  noRevert : Bool  -- a commanded transfer stops REVERT; 14 R396; false
  readySince : List (Option Nat)  -- clock since which each feed is READY; 14 R396; none
  convSince : List (Option Nat)  -- clock since which each feed converts, for its ramp; 14 R394; none
  copy : Option FeedCopy  -- last copy over the feed link; 14 R397; none
  copyAt : Nat  -- clock of the last copy; 14 R397; 0
  auxOff : Option Nat  -- clock at which AUX_12V was switched off for overload; 02 R63; none
  lostAt : Nat  -- clock at which the last feed left range; 02 R45; 0
  railAt : Nat  -- RAIL at the last FS_own, mJ; 14 R399; 0
  inAt : Nat  -- IN_A + IN_B at the last FS_own, mJ; 14 R401; 0
  ownAt : Option Int  -- the last FS_own, ns times 2^16; 14 R399; none
  grant : Option Nat  -- G of the frame that runs, if it is compared, mJ; 14 R402; none
  overs : Nat  -- frames over their grant in a row; 14 R402; 0
  planned : Option Nat  -- frame whose chain point has passed; 14 R403; none
  decided : Option Nat  -- frame whose scale decision has passed; 01 R26; none
  plans : List Nat  -- plan_s of 64 slots at the chain point, 1/16 mJ; 14 R404; none
  chain : Nat  -- s_c; 14 R405; 0x8000
  bind : Nat  -- circuit that set s_c; 14 R405; 0xF
  peers : List Peer  -- peer chains heard; 14 R406; none
  deriving DecidableEq, Repr

/-- PWR after reset. -/
def Pwr.reset : Pwr :=
  ⟨0, 0, false, none, 0, false, [none, none], [none, none], none, 0, none, 0, 0, 0, none, none, 0, none, none, [], 0x8000, 0xF, []⟩

/-- A copy of the calibration store in flash (R421). -/
structure CalCopy where
  ok : Bool  -- MAGIC, FORMAT, COUNT and CHECK are correct; 15 R421; none
  serial : Nat  -- 64 bits; 15 R421; none
  seq : Nat  -- 64 bits; 15 R421; none
  stc : Nat  -- CYCLE_STC; 15 R421; none
  records : List (Nat × Bool × Bool × Int)  -- 198 of CODE, PASS, SKIPPED, residual; 15 R421; none
  eyes : List Nat  -- 16 eye widths; 15 R421; none
  deriving DecidableEq, Repr

/-- CAL beside its registers; `copies` stand in flash. -/
structure Cal where
  copies : List CalCopy  -- two; 15 R421; DESIGN CHOICE not valid (log entry 6)
  seq : Nat  -- SEQ of the copy in use, 64 bits; 15 R423; 0
  saving : Option (Nat × CalCopy)  -- copy being written and its content; 15 R423; none
  saveFrom : Nat  -- clock at which the save began; 15 R423; 0
  lastSave : Option Nat  -- clock of the last save; 15 R423; none
  first : Bool  -- the first guard in RUN has passed; 15 R417; false
  lastStart : Option Nat  -- clock at which the last cycle started; 15 R417; none
  due : List Nat  -- targets of the cycle still due, ascending; 15 R417; none
  later : List Nat  -- targets that wait for a later guard; 15 R419; none
  adjusted : List Nat  -- one entry per adjustment in the cycle: its target; 15 R419; none
  passed : List Nat  -- targets passed in the cycle; 15 R417; none
  changed : Bool  -- the cycle changed a code; 15 R423; false
  step : Option Nat  -- STC at which the step in progress began; 15 R418; none
  spoilt : Bool  -- a switch-over or transfer ran when it began; 15 R420; false
  codes : List (Nat × Nat)  -- codes that take effect at the next frame start; 15 R419; none
  samples : List (Nat × Nat)  -- clock and value of REF_IN samples of 100 ms; 15 R416; none
  deriving DecidableEq, Repr

/-- CAL after reset. -/
def Cal.reset : Cal :=
  ⟨List.replicate 2 ⟨false, 0, 0, 0, [], []⟩, 0, none, 0, none, false, none, [], [], [], [], false, none, false, [], []⟩

/-- THM beside its registers. -/
structure Thm where
  scale : Nat  -- t_thm; 15 R427; 0x8000
  div : Nat  -- D, 1, 2 or 4; 15 R427; 1
  hotSince : Option Nat  -- hot_floor_since, STC; 15 R427; none
  coolSince : Option Nat  -- cool_since, STC; 15 R427; none
  suspects : List Nat  -- consecutive suspect samples of 24 sensors; 15 R426; 0
  tripping : List Bool  -- T_c was at or above S_c in the last sample, 6 components; 15 R429; false
  coolFrom : Option Nat  -- clock from which THM_COOL counts; 15 R430; none
  restart : Bool  -- a restart is due at the next frame start; 15 R430; false
  deriving DecidableEq, Repr

/-- THM after reset. -/
def Thm.reset : Thm := ⟨0x8000, 1, none, none, List.replicate 24 0, List.replicate 6 false, none, false⟩

/-- A slot's entry in the boot record. -/
structure SlotEntry where
  buildId : Nat  -- 64 bits; 17 R455; 0
  sv : Nat  -- SECURITY_VERSION; 17 R455; 0
  state : Nat  -- 0 EMPTY, 1 VALID, 2 TRIAL, 3 CONFIRMED, 4 FAILED; 17 R455; 0
  keySlot : Nat  -- 2 bits; 17 R455; 0
  fmt : Nat  -- SETTINGS_FORMAT; 17 R455; 0
  deriving DecidableEq, Repr

/-- A copy of the boot record in flash. -/
structure BootRec where
  ok : Bool  -- MAGIC, FORMAT and CHECK are correct; 17 R455; none
  preferred : Nat  -- 1 A, 2 B; 17 R455; none
  trials : Nat  -- TRIALS_LEFT, 0 to 3; 17 R455; none
  seq : Nat  -- 64 bits; 17 R455; none
  slots : List SlotEntry  -- A, B, golden; 17 R455; none
  setInUse : Nat  -- settings half; 17 R455; none
  setKeep : Nat  -- settings half, or 0xFF; 17 R455; none
  deriving DecidableEq, Repr

/-- An accepted image header's fields. -/
structure UpdHeader where
  kind : Nat  -- 1 to 5; 17 R457; none
  keySlot : Nat  -- root slot; 17 R457; none
  fmt : Nat  -- SETTINGS_FORMAT; 17 R457; none
  imageId : Nat  -- 64 bits; 17 R457; none
  sv : Nat  -- SECURITY_VERSION; 17 R457; none
  bodyLen : Nat  -- bytes; 17 R457; none
  signed : List Byte  -- bytes 0 to 255, BODY_HASH among them; 17 R457; none
  deriving DecidableEq, Repr

/-- A fuse burn: 0 a root slot's hash, 1 a revocation bit, 2 a step of the anti-rollback counter. -/
structure Burn where
  kind : Nat  -- 0 to 2; 17 R466 and R454; none
  slot : Nat  -- root slot, or the value to reach; 17 R466 and R454; none
  hash : List Byte  -- 48 bytes; 17 R466; none
  deriving DecidableEq, Repr

/-- A key of the key store. -/
structure SecKey where
  version : Nat  -- 32 bits; 17 R470; none
  bytes : List Byte  -- 32 bytes; 17 R470; none
  deriving DecidableEq, Repr

/-- UPD and the security core beside their registers. `recs`, `slots`, `halves` and `store` stand in flash. -/
structure Upd where
  recs : List BootRec  -- two copies; 17 R455; DESIGN CHOICE not valid (log entry 6)
  slots : List (Option Image)  -- A, B, golden: the bit-stream, none where no header reads; 17 R104; DESIGN CHOICE none (log entry 6)
  halves : List Nat  -- settings format of the two halves; 17 R469; DESIGN CHOICE 0 (log entry 6)
  keys : List (Option SecKey)  -- chain key, previous chain key, wall key, previous wall key; 17 R470; DESIGN CHOICE none (log entry 6)
  store : List (Option SecKey)  -- the key store in flash, as keys; 17 R469 and R470; DESIGN CHOICE none (log entry 6)
  head : Option UpdHeader  -- header of the image; 17 R458; none
  got : List Nat  -- block numbers received; 17 R461; none
  body : Option Image  -- bit-stream of a verified body; 17 R464; none
  root : Option (Nat × List Byte)  -- root slot and hash that the body names; 17 R459; none
  newKeys : List KeyRec  -- a KEYS body's records; 17 R470; none
  target : Nat  -- 0 A, 1 B, 2 golden; 17 R459; 0
  since : Nat  -- clock at which VERIFYING or WRITING began; 17 R464; 0
  cancel : Bool  -- CANCEL while VERIFYING or WRITING; 17 R465; false
  armed : Option Nat  -- frame an ARMED image acts at; 17 R466; none
  revert : Option Nat  -- frame a REVERT restarts at; 17 R468; none
  boxes : List (List Word)  -- words staged by each path, up to 1,024; 17 R462; empty
  burns : List Burn  -- burns in progress and to come; 17 R454 and R466; none
  burnFrom : Nat  -- clock at which the burn began; 17 R453; 0
  runFrom : Option Nat  -- clock at which stage RUN was entered; 17 R468; none
  noDram : Bool  -- HOLD after a DRAM training failure; 17 R460; false
  deriving DecidableEq, Repr

/-- UPD after reset: IDLE. -/
def Upd.reset : Upd where
  recs := List.replicate 2 ⟨false, 1, 0, 0, List.replicate 3 ⟨0, 0, 0, 0, 0⟩, 0, 0xFF⟩
  slots := [none, none, none]
  halves := [0, 0]
  keys := [none, none, none, none]
  store := [none, none, none, none]
  head := none
  got := []
  body := none
  root := none
  newKeys := []
  target := 0
  since := 0
  cancel := false
  armed := none
  revert := none
  boxes := [[], [], [], []]
  burns := []
  burnFrom := 0
  runFrom := none
  noDram := false

/-- PM beside its registers: the request that has not acted, an entry or wake in progress, latched wakes. -/
structure Pm where
  reqWfn : Option Nat  -- 64-bit WFN of a request with AT_WFN; 16 R437; none
  bound : Option Nat  -- frame the pending request acts at, once its START launch has passed; 16 R437; none
  before : Nat  -- state in force before ENTERING; 16 R438; 0
  entering : Option Nat  -- destination of the entry in progress; 16 R440; none
  gate : Bool  -- from FS_own(n) of an entry until the end of the wake order; 16 R441; false
  islandsOff : Bool  -- the core island is unpowered; 16 R440 and R444; false
  stcStopped : Bool  -- STC's clock stands; 16 R445 and 06 R173; false
  after : Option Nat  -- state held pending while ENTERING, or asked for the end of the wake; 16 R447; none
  wakes : Nat  -- 9 bits, sources that have fired; 16 R442; 0
  enteredAt : Nat  -- clock at entry, for the TIMER source; 16 R442; 0
  nextWindow : Nat  -- clock of the next sampling window; 16 R442; 0
  syncHigh : Bool  -- SYNC_IN was high in the last window; 16 R442; false
  feedsAtEntry : Nat  -- PWR_STATUS.IN_RANGE at entry; 16 R442; 0
  toneEnds : List (Nat × Nat)  -- Lysrov port and the clock at which its wake tone ends; 16 R443; none
  warmAfter : Bool  -- a warm reset follows the wake order; 16 R447; false
  slept : Nat  -- state of the sleep that lasts or that the wake ends; 16 R442 and R444; 0
  deriving DecidableEq, Repr

/-- PM after reset: ACTIVE, nothing pending. -/
def Pm.reset : Pm := ⟨none, none, 0, none, false, false, false, none, 0, 0, 0, false, 0, [], false, 0⟩

/-- An accepted code waiting for, or in, the fault log: what stood when it was raised. -/
structure FltEntry where
  seq : Nat  -- 32 bits; 18 R482; none
  code : Nat  -- 16 bits; 18 R482; none
  deferred : Bool  -- FLAGS bit; 18 R482; none
  noTime : Bool  -- FLAGS bit; 18 R482; none
  state : Nat  -- 8 bits; 18 R482; none
  stc : Nat  -- 64 bits; 18 R482; none
  wfn : Nat  -- 32 bits; 18 R482; none
  detail : Nat  -- 32 bits; 18 R483; none
  node : Nat  -- 32 bits; 18 R482; none
  deriving DecidableEq, Repr

/-- An entry position of the log in flash: the sector it lies in, and whether its CHECK is correct. -/
structure LogSlot where
  sector : Nat  -- sector number; 18 R482; none
  entry : FltEntry  -- 32 bytes; 18 R482; none
  checkOk : Bool  -- CHECK matches; 18 R482; none
  deriving DecidableEq, Repr

/-- FLT beside its registers. `log`, `sector`, `used`, `nextSeq` and `clears` stand in flash. -/
structure Flt where
  queue : List FltEntry  -- up to 64; 18 R484; empty
  deferred : List FltEntry  -- codes kept back while CORE is unpowered; 16 R441; empty
  lost : Nat  -- codes lost since the last 0x3001; 18 R484; 0
  retried : Bool  -- an entry's write has failed once; 18 R485; false
  clearWaiting : Bool  -- a CLEAR has been given; 18 R489; false
  heading : Bool  -- the queue has drained, the clear's header is being written; 18 R489; false
  voided : List LogSlot  -- void sectors not erased yet; 18 R489; none
  log : List LogSlot  -- the log in flash; 18 R482; DESIGN CHOICE empty (log entry 6)
  sector : Nat  -- sector in use; 18 R484; DESIGN CHOICE 0 (log entry 6)
  used : Nat  -- entries in the sector in use; 18 R484; DESIGN CHOICE 0 (log entry 6)
  nextSeq : Nat  -- 32 bits; 18 R482; DESIGN CHOICE 0 (log entry 6)
  clears : Nat  -- 32 bits; 18 R489; DESIGN CHOICE 0 (log entry 6)
  deriving DecidableEq, Repr

/-- Everything the block holds but its queue of commands. -/
structure Block where
  regs : List (Nat × Word)  -- register file, sparse; 01 R10; every register at its table's reset value
  latches : List (Nat × Word)  -- latched high words by path and pair; 01 R14; none
  dram : List Host.Cell  -- bytes of DRAM, sparse; 12 R353; DESIGN CHOICE zeros (log entry 7)
  qdr : List Host.Cell  -- bytes of QDR SRAM, sparse; 09 R281; DESIGN CHOICE zeros (log entry 7)
  qdrBad : List Nat  -- byte addresses that read uncorrectable; 12 R364; none
  fuses : Fuses  -- fuses; 00 R6; see Fuses
  logic : LogicPower  -- logic power; 02 R67; running
  clk : Nat  -- the model's monotone clock, ns; model's own; DESIGN CHOICE 0 (log entry 8)
  stc : Nat  -- 64 bits; 06 R173; 0
  stcFrac : Nat  -- part of a ns that STC has counted, 1/65,536,000,000 ns; 06 R173; 0
  freeCount : Nat  -- free values used; model's own; DESIGN CHOICE 0 (log entry 3)
  wdtStart : Nat  -- clock at which the count began; 00 R493; 0
  wdtMs : Nat  -- TIMEOUT_MS when the count began; 00 R493; 1000
  wdtWarned : Bool  -- WDT_WARN has been set in this count; 00 R493; false
  wdtStop : Option Nat  -- clock at which the count stopped for a sleep; 00 R493; none
  resetWanted : Option Nat  -- cause of a warm reset that is due; 00 R493; none
  pins : Pins  -- pins; 02 R52 to R63; see Pins
  i3c : I3c  -- I3C target; 03 R71; see I3c
  hif : Hif  -- HIF; 03; see Hif
  cfg : Cfg  -- CFG; 04; see Cfg
  frm : Frm  -- FRM; 06; see Frm
  ptp : Ptp  -- PTP; 06; see Ptp
  clocks : Clocks  -- REFCLK; 06; see Clocks
  srd : Srd  -- SRD; 11; see Srd
  eth : List EthPort  -- ETH0 and ETH1; 05; see EthPort
  scn : Scn  -- SCN and COR; 09; see Scn
  str : Str  -- STR; 10; see Str
  pwr : Pwr  -- PWR; 14; see Pwr
  cal : Cal  -- CAL; 15; see Cal
  thm : Thm  -- THM; 15; see Thm
  upd : Upd  -- UPD; 17; see Upd
  cmp : Cmp  -- CMP; 07; see Cmp
  ing : Ing  -- ING; 05; see Ing
  rpl : List RplChan  -- RPL; 12 R366; see RplChan
  aud : Aud  -- AUD; 13; see Aud
  drm : Drm  -- DRM and QDR; 12; see Drm
  lnk : Lnk  -- LNK; 08; see Lnk
  pm : Pm  -- PM; 16; see Pm
  flt : Flt  -- FLT; 18; see Flt
  bstFrom : Nat  -- clock at which the on-demand test began; 17 R477; 0
  out : List Out  -- output trace, newest first; model's own; empty
  deriving DecidableEq, Repr

/-- The state: the block and the commands that wait, first in first out. -/
structure State where
  blk : Block  -- everything but the queue; the row's form; see below
  pending : List Instr  -- commands that wait, first in first out; the row's form; empty
  deriving DecidableEq, Repr

/-- The block right after the internal power-on reset has been released: stage ROM, no role (R67, R114). -/
def Block.reset : Block where
  regs := []
  latches := []
  dram := []
  qdr := []
  qdrBad := []
  fuses := ⟨true, false, 0, 1, 0x020000000000, List.replicate 97 0, List.replicate 4 (List.replicate 48 0), 1, 0, 0, true⟩
  logic := .running
  clk := 0
  stc := 0
  stcFrac := 0
  freeCount := 0
  wdtStart := 0
  wdtMs := 1000
  wdtWarned := false
  wdtStop := none
  resetWanted := none
  pins := ⟨0, true, [false, false], true, true, true, true⟩
  i3c := ⟨69, 64, 0, false, false⟩
  hif := ⟨[], [], List.replicate 4 ⟨none, 0, 0, [], false⟩, List.replicate 8 ⟨0, 0, []⟩, 0, [], [], [], [], [], 0, 0, false, none, none, 0, []⟩
  cfg := ⟨[], 0, ⟨none, none, 0⟩, [], 0, none, none, [], []⟩
  frm := Frm.reset
  ptp := Ptp.reset
  clocks := ⟨false, [], 0, false, 0⟩
  srd := Srd.reset
  eth := [EthPort.reset, EthPort.reset]
  scn := Scn.reset
  str := Str.reset
  pwr := Pwr.reset
  cal := Cal.reset
  thm := Thm.reset
  upd := Upd.reset
  cmp := Cmp.reset
  ing := Ing.reset
  rpl := List.replicate 16 RplChan.reset
  aud := Aud.reset
  drm := Drm.reset
  lnk := Lnk.reset
  pm := Pm.reset
  flt := ⟨[], [], 0, false, false, false, [], [], 0, 0, 0, 0⟩
  bstFrom := 0
  out := []

/-- The machine right after reset: nothing waits. -/
def State.reset : State where
  blk := Block.reset
  pending := []

end Sys2Proof.Machine
end

