-- ==== Sys2Proof/Machine/Operands.lean ====
section
/-!
DEFINITION. The operand forms of the commands: stored register words, fields, active copies (R12), 64-bit pairs (R14),
per-path copies, counters (R9, R145), and the identity the fuses give (R6, R72).
-/

namespace Sys2Proof.Machine

/-- Key offset of the active copies (R12). -/
def activeOffset : Nat := 0x8000

/-- Key of path `p`'s copy of the register at `a` (registers marked per path). -/
def pathKey (p : Path) (a : Nat) : Nat := a + 2 ^ 32 * p.index

/-- The register address that a key of the register file belongs to. -/
def keyAddr (k : Nat) : Nat :=
  let a := k % 2 ^ 32
  if a % 0x10000 ≥ 0x8000 then a - 0x8000 else a

/-- What the register at a key holds after reset. -/
def keyReset (k : Nat) : Word := BitVec.ofNat 32 (resetAt (keyAddr k))

/-- The stored word at a key. -/
def Block.word (b : Block) (k : Nat) : Word := cellsGet b.regs k (keyReset k)

/-- Store a word at a key. -/
def Block.setWord (b : Block) (k : Nat) (v : Word) : Block :=
  { b with regs := cellsSet b.regs k v (keyReset k) }

/-- The width of a field. -/
def Fld.width (f : Fld) : Nat := f.hi + 1 - f.lo

/-- The field's value within a word. -/
def Fld.of (f : Fld) (w : Nat) : Nat := w / 2 ^ f.lo % 2 ^ f.width

/-- A word with the field replaced by the low bits of `v`. -/
def Fld.into (f : Fld) (w v : Nat) : Nat := w - f.of w * 2 ^ f.lo + v % 2 ^ f.width * 2 ^ f.lo

/-- A field of a register as stored: the value in force, or the shadow of an RWS register. -/
def Block.get (b : Block) (f : Fld) : Nat := f.of (b.word f.addr).toNat

/-- The value in force of an RWS field: its active copy (R12). -/
def Block.act (b : Block) (f : Fld) : Nat := b.get f.act

/-- A one-bit field as a truth value. -/
def Block.bit (b : Block) (f : Fld) : Bool := b.get f != 0

/-- A one-bit RWS field in force. -/
def Block.actBit (b : Block) (f : Fld) : Bool := b.act f != 0

/-- Set a field to the low bits of `v`. -/
def Block.set (b : Block) (f : Fld) (v : Nat) : Block :=
  b.setWord f.addr (BitVec.ofNat 32 (f.into (b.word f.addr).toNat v))

/-- Set or clear a one-bit field. -/
def Block.setBit (b : Block) (f : Fld) (v : Bool) : Block := b.set f (if v then 1 else 0)

/-- The field of path `p`'s copy. -/
def Fld.on (f : Fld) (p : Path) : Fld := { f with addr := pathKey p f.addr }

/-- A quantity in two registers, low word first (R14). -/
def Block.pair (b : Block) (lo hi : Fld) : Nat := b.get lo + 2 ^ 32 * b.get hi

/-- The value in force of a quantity in two RWS registers. -/
def Block.actPair (b : Block) (lo hi : Fld) : Nat := b.act lo + 2 ^ 32 * b.act hi

/-- Set a quantity in two registers. -/
def Block.setPair (b : Block) (lo hi : Fld) (v : Nat) : Block := (b.set lo v).set hi (v / 2 ^ 32)

/-- A wrapping counter counts `k` (R9). -/
def Block.count (b : Block) (f : Fld) (k : Nat) : Block := b.set f (b.get f + k)

/-- A counter that stops at its maximum counts `k` (R145). -/
def Block.countSat (b : Block) (f : Fld) (k : Nat) : Block := b.set f (min (b.get f + k) (2 ^ f.width - 1))

/-- A 64-bit traffic counter counts `k` (R145, R9). -/
def Block.countPair (b : Block) (lo hi : Fld) (k : Nat) : Block := b.setPair lo hi (b.pair lo hi + k)

/-- A signed field. -/
def Block.getInt (b : Block) (f : Fld) : Int := signed f.width (b.get f)

/-- A signed RWS field in force. -/
def Block.actInt (b : Block) (f : Fld) : Int := signed f.width (b.act f)

/-- Roles (R1): the code of SYS_ROLE. -/
def roleTile : Nat := 1
def roleHead : Nat := 2
def roleHeadTile : Nat := 3

/-- The role in effect, 0 for none (R7). -/
def Block.role (b : Block) : Nat := b.get F.SYS_ROLE_ROLE

/-- Does the module play HEAD or HEAD_TILE? -/
def Block.isHead (b : Block) : Bool := b.role == roleHead || b.role == roleHeadTile

/-- Does the module drive lamps (TILE or HEAD_TILE)? -/
def Block.drives (b : Block) : Bool := b.role == roleTile || b.role == roleHeadTile

/-- Is the block with this ID idle in role `r` (R23 and its table)? -/
def idleIn (fuses : Fuses) (r blk : Nat) : Bool :=
  if blk = 0x12 ∨ blk = 0x18 ∨ blk = 0x2B then r == roleTile || !fuses.h128
  else if blk = 0x20 ∨ blk = 0x21 ∨ blk = 0x24 then r == roleHead
  else false

/-- Is the block idle in the role in effect? -/
def Block.idle (b : Block) (blk : Nat) : Bool := idleIn b.fuses b.role blk

/-- The stage code of boot (R114). -/
def Block.stage (b : Block) : Nat := b.get F.CFG_BOOT_STATUS_STAGE

/-- The module's node ID (R108). -/
def Block.node (b : Block) : Nat := b.get F.HIF_NODE_ID_NODE

/-- LNK_CHAIN_STATUS.DUTY and its codes (R278). -/
def Block.duty (b : Block) : Nat := b.get F.LNK_CHAIN_STATUS_DUTY
def dutyTile : Nat := 0
def dutyActive : Nat := 1
def dutyStandby : Nat := 2
def dutyDelegate : Nat := 3

/-- Set a signed field, saturating to its width (R9). -/
def Block.setInt (b : Block) (f : Fld) (i : Int) : Block := b.set f (unsigned f.width (satSigned f.width i))

/-- Does THM hold the pipelines stopped (R429)? -/
def Block.shutdown (b : Block) : Bool := b.get F.THM_STATUS_STATE == 2

/-- Do the clocks of the pipelines run: no shutdown, no power state that stops them (R429, R440)? -/
def Block.pipes (b : Block) : Bool := !b.shutdown && !b.pm.gate

/-- Does UPD receive, verify or write an image (R359, R438)? -/
def Block.updBusy (b : Block) : Bool :=
  b.get F.UPD_STATUS_STATE == 2 || b.get F.UPD_STATUS_STATE == 3 || b.get F.UPD_STATUS_STATE == 4

/-- The code of stage RUN (R114). -/
def stageRun : Nat := 7

/-- f, the oldest frame whose frond deadline has not passed (R283). -/
def Block.openFrame (b : Block) : Nat :=
  let n := match b.frm.next with | some p => p.wfn | none => b.frm.cur.wfn + 1
  if b.scn.last = some n then n + 1 else n

/-- WFN in force. -/
def Block.wfn (b : Block) : Nat := b.pair F.FRM_WFN_LO F.FRM_WFN_HI

end Sys2Proof.Machine
end

