-- ==== Sys2Proof/Machine/Flags.lean ====
section
/-!
DEFINITION. Error bits and fault codes: one `Err` per row of the fault-code tables (R103, R133, R165, R204, R233, R280,
R304, R335, R352, R375, R391, R412, R435, R450, R481, R491), the submission of a code to the fault log (R484, R441), and
raising an error: the sticky bit, and on its rise the block's interrupt and the code.
-/

namespace Sys2Proof.Machine

/-- An error: its sticky bit, its block's interrupt bit for a rise of an ERR bit, its code, and whether it is logged. -/
structure Err where
  fld : Fld
  irq : Fld
  code : Nat
  logged : Bool
  deriving DecidableEq, Repr

/-- DETAIL of a code that names no instance (R483). -/
def noDetail : Nat := 0xFFFFFFFF

/-- The entry that a code raised now gives (R482). -/
def Block.fltEntry (b : Block) (code detail : Nat) : FltEntry :=
  { seq := 0, code := code, deferred := false, noTime := !b.bit F.PTP_STATUS_TIME_VALID
    state := 16 * b.role + b.stage, stc := b.stc, wfn := b.wfn % 2 ^ 32, detail := detail, node := b.node }

/-- How many entries at a queue's end were raised in the same cycle as `e` under a higher code (R484); codes kept back keep the
order in which they arose (R441). -/
def laterCodes (e : FltEntry) (l : List FltEntry) : Nat :=
  (l.reverse.takeWhile (fun x => !e.deferred && x.stc == e.stc && decide (e.code < x.code))).length

/-- FLT accepts an entry into its queue of 64, or loses it; codes of one cycle stand in ascending order (R484). -/
def Block.acceptEntry (b : Block) (e : FltEntry) : Block :=
  if b.flt.queue.length < 64 then
    let l := b.flt.queue
    let k := laterCodes e l
    let b := { b with flt.queue := l.take (l.length - k) ++ e :: l.drop (l.length - k) }
    let b := if k = 0 then b.set F.FLT_STATUS_LAST_CODE e.code else b
    let b := b.countSat F.FLT_SINCE_RESET_COUNT 1
    b.set F.FLT_STATUS_PENDING b.flt.queue.length
  else
    let b := { b with flt.lost := b.flt.lost + 1 }
    let b := b.countSat (F.FLT_CNT_Ei 0) 1
    if b.bit F.FLT_ERR_OVERFLOW then b else (b.set F.FLT_ERR_OVERFLOW 1).set F.FLT_IRQ_STATUS_ERR 1

/-- A block submits a code: accepted in this cycle, or kept back while the core island is unpowered (R484, R441). -/
def Block.submit (b : Block) (code detail : Nat) : Block :=
  if b.pm.islandsOff then
    { b with flt.deferred := b.flt.deferred ++ [{ b.fltEntry code detail with deferred := true }] }
  else b.acceptEntry (b.fltEntry code detail)

/-- An error event: the bit is set; when it goes from 0 to 1 the block's interrupt is set and a logged code submitted. -/
def Block.raiseAt (b : Block) (e : Err) (detail : Nat) : Block :=
  if b.bit e.fld then b
  else
    let b := (b.set e.fld 1).set e.irq 1
    if e.logged then b.submit e.code detail else b

/-- An error event whose code names no instance. -/
def Block.raise (b : Block) (e : Err) : Block := b.raiseAt e noDetail

/-- An error event that a condition brings about. -/
def Block.raiseIf (b : Block) (c : Bool) (e : Err) : Block := if c then b.raise e else b

/-- Set an interrupt event bit. -/
def Block.irq (b : Block) (f : Fld) : Block := b.set f 1

/-- Set an interrupt event bit if a condition holds. -/
def Block.irqIf (b : Block) (c : Bool) (f : Fld) : Block := if c then b.set f 1 else b

def E.HIF_ADDR : Err := ⟨F.HIF_ERR_ADDR, F.HIF_IRQ_STATUS_ERR, 0x0101, false⟩
def E.HIF_FRAME : Err := ⟨F.HIF_ERR_FRAME, F.HIF_IRQ_STATUS_ERR, 0x0102, false⟩
def E.HIF_UNDERRUN : Err := ⟨F.HIF_ERR_UNDERRUN, F.HIF_IRQ_STATUS_ERR, 0x0103, false⟩
def E.HIF_AUTH : Err := ⟨F.HIF_ERR_AUTH, F.HIF_IRQ_STATUS_ERR, 0x0110, true⟩
def E.HIF_REPLAY : Err := ⟨F.HIF_ERR_REPLAY, F.HIF_IRQ_STATUS_ERR, 0x0111, true⟩
def E.HIF_RING_FULL : Err := ⟨F.HIF_ERR_RING_FULL, F.HIF_IRQ_STATUS_ERR, 0x0120, true⟩
def E.HIF_POOL_FULL : Err := ⟨F.HIF_ERR_POOL_FULL, F.HIF_IRQ_STATUS_ERR, 0x0121, true⟩
def E.CFG_HDR : Err := ⟨F.CFG_ERR_HDR, F.CFG_IRQ_STATUS_ERR, 0x0201, true⟩
def E.CFG_SIG : Err := ⟨F.CFG_ERR_SIG, F.CFG_IRQ_STATUS_ERR, 0x0202, true⟩
def E.CFG_ROLLBACK : Err := ⟨F.CFG_ERR_ROLLBACK, F.CFG_IRQ_STATUS_ERR, 0x0203, true⟩
def E.CFG_SECTION : Err := ⟨F.CFG_ERR_SECTION, F.CFG_IRQ_STATUS_ERR, 0x0204, true⟩
def E.CFG_BOOT_NONE : Err := ⟨F.CFG_ERR_BOOT_NONE, F.CFG_IRQ_STATUS_ERR, 0x0205, true⟩
def E.CFG_BOOTSEL_RSVD : Err := ⟨F.CFG_ERR_BOOTSEL_RSVD, F.CFG_IRQ_STATUS_ERR, 0x0206, true⟩
def E.CFG_TOPO : Err := ⟨F.CFG_ERR_TOPO, F.CFG_IRQ_STATUS_ERR, 0x0207, true⟩
def E.CFG_ROLE : Err := ⟨F.CFG_ERR_ROLE, F.CFG_IRQ_STATUS_ERR, 0x0210, true⟩
def E.CFG_BASE : Err := ⟨F.CFG_ERR_BASE, F.CFG_IRQ_STATUS_ERR, 0x0211, true⟩
def E.CFG_PR_SECTION : Err := ⟨F.CFG_ERR_PR_SECTION, F.CFG_IRQ_STATUS_ERR, 0x0212, true⟩
def E.CFG_PAIR : Err := ⟨F.CFG_ERR_PAIR, F.CFG_IRQ_STATUS_ERR, 0x0220, true⟩
def E.CFG_BUSY : Err := ⟨F.CFG_ERR_BUSY, F.CFG_IRQ_STATUS_ERR, 0x0221, false⟩
def E.CFG_MISSED : Err := ⟨F.CFG_ERR_MISSED, F.CFG_IRQ_STATUS_ERR, 0x0222, false⟩
def E.CFG_RANGE : Err := ⟨F.CFG_ERR_RANGE, F.CFG_IRQ_STATUS_ERR, 0x0223, true⟩
def E.CFG_NOROLE : Err := ⟨F.CFG_ERR_NOROLE, F.CFG_IRQ_STATUS_ERR, 0x0224, true⟩
def E.CFG_LATE_COMMIT : Err := ⟨F.CFG_ERR_LATE_COMMIT, F.CFG_IRQ_STATUS_ERR, 0x0225, false⟩
def E.CFG_CMD : Err := ⟨F.CFG_ERR_CMD, F.CFG_IRQ_STATUS_ERR, 0x0226, true⟩
def E.PWR_FEED_A_LOSS : Err := ⟨F.PWR_ERR_FEED_A_LOSS, F.PWR_IRQ_STATUS_ERR, 0x0301, true⟩
def E.PWR_FEED_B_LOSS : Err := ⟨F.PWR_ERR_FEED_B_LOSS, F.PWR_IRQ_STATUS_ERR, 0x0302, true⟩
def E.PWR_BOTH_LOST : Err := ⟨F.PWR_ERR_BOTH_LOST, F.PWR_IRQ_STATUS_ERR, 0x0303, true⟩
def E.PWR_OVERVOLT : Err := ⟨F.PWR_ERR_OVERVOLT, F.PWR_IRQ_STATUS_ERR, 0x0304, true⟩
def E.PWR_FEED_LINK : Err := ⟨F.PWR_ERR_FEED_LINK, F.PWR_IRQ_STATUS_ERR, 0x0305, true⟩
def E.PWR_LOCAL_LIMIT : Err := ⟨F.PWR_ERR_LOCAL_LIMIT, F.PWR_IRQ_STATUS_ERR, 0x0306, true⟩
def E.PWR_GRANT_OVER : Err := ⟨F.PWR_ERR_GRANT_OVER, F.PWR_IRQ_STATUS_ERR, 0x0307, true⟩
def E.PWR_PEER_LOST : Err := ⟨F.PWR_ERR_PEER_LOST, F.PWR_IRQ_STATUS_ERR, 0x0308, true⟩
def E.PWR_SCALE_DISAGREE : Err := ⟨F.PWR_ERR_SCALE_DISAGREE, F.PWR_IRQ_STATUS_ERR, 0x0309, true⟩
def E.PWR_AUX_OVERLOAD : Err := ⟨F.PWR_ERR_AUX_OVERLOAD, F.PWR_IRQ_STATUS_ERR, 0x0340, true⟩
def E.THM_WARN : Err := ⟨F.THM_ERR_WARN, F.THM_IRQ_STATUS_ERR, 0x0401, true⟩
def E.THM_SHUTDOWN : Err := ⟨F.THM_ERR_SHUTDOWN, F.THM_IRQ_STATUS_ERR, 0x0402, true⟩
def E.THM_SUSPECT : Err := ⟨F.THM_ERR_SUSPECT, F.THM_IRQ_STATUS_ERR, 0x0403, true⟩
def E.THM_SENSOR_FAIL : Err := ⟨F.THM_ERR_SENSOR_FAIL, F.THM_IRQ_STATUS_ERR, 0x0404, true⟩
def E.THM_CLKDIV : Err := ⟨F.THM_ERR_CLKDIV, F.THM_IRQ_STATUS_ERR, 0x0405, true⟩
def E.THM_FALLBACK : Err := ⟨F.THM_ERR_FALLBACK, F.THM_IRQ_STATUS_ERR, 0x0406, true⟩
def E.CAL_REF_ABSENT : Err := ⟨F.CAL_ERR_REF_ABSENT, F.CAL_IRQ_STATUS_ERR, 0x0501, false⟩
def E.CAL_REF_NOISE : Err := ⟨F.CAL_ERR_REF_NOISE, F.CAL_IRQ_STATUS_ERR, 0x0502, true⟩
def E.CAL_RESIDUAL : Err := ⟨F.CAL_ERR_RESIDUAL, F.CAL_IRQ_STATUS_ERR, 0x0503, true⟩
def E.CAL_TRIM_RANGE : Err := ⟨F.CAL_ERR_TRIM_RANGE, F.CAL_IRQ_STATUS_ERR, 0x0504, true⟩
def E.CAL_STORE_COPY : Err := ⟨F.CAL_ERR_STORE_COPY, F.CAL_IRQ_STATUS_ERR, 0x0505, true⟩
def E.CAL_STORE_LOST : Err := ⟨F.CAL_ERR_STORE_LOST, F.CAL_IRQ_STATUS_ERR, 0x0506, true⟩
def E.CAL_SAVE_FAIL : Err := ⟨F.CAL_ERR_SAVE_FAIL, F.CAL_IRQ_STATUS_ERR, 0x0507, true⟩
def E.PM_REFUSED : Err := ⟨F.PM_ERR_REFUSED, F.PM_IRQ_STATUS_ERR, 0x0601, false⟩
def E.PM_ABORTED : Err := ⟨F.PM_ERR_ABORTED, F.PM_IRQ_STATUS_ERR, 0x0602, false⟩
def E.PM_GATED_ACCESS : Err := ⟨F.PM_ERR_GATED_ACCESS, F.PM_IRQ_STATUS_ERR, 0x0603, false⟩
def E.BST_FAIL : Err := ⟨F.BST_ERR_FAIL, F.BST_IRQ_STATUS_ERR, 0x0803, true⟩
def E.BST_PLACE : Err := ⟨F.BST_ERR_PLACE, F.BST_IRQ_STATUS_ERR, 0x0804, false⟩
def E.BST_BUSY : Err := ⟨F.BST_ERR_BUSY, F.BST_IRQ_STATUS_ERR, 0x0805, false⟩
def E.ETHn_LINK_DOWN (n : Nat) : Err := ⟨F.ETHn_ERR_LINK_DOWN n, F.ETHn_IRQ_STATUS_ERR n, 0x1001 + 0x100 * n, true⟩
def E.ETHn_RX_OVERRUN (n : Nat) : Err := ⟨F.ETHn_ERR_RX_OVERRUN n, F.ETHn_IRQ_STATUS_ERR n, 0x1002 + 0x100 * n, false⟩
def E.ETHn_FEC_UNCORR (n : Nat) : Err := ⟨F.ETHn_ERR_FEC_UNCORR n, F.ETHn_IRQ_STATUS_ERR n, 0x1003 + 0x100 * n, true⟩
def E.ETHn_TX_DROP (n : Nat) : Err := ⟨F.ETHn_ERR_TX_DROP n, F.ETHn_IRQ_STATUS_ERR n, 0x1004 + 0x100 * n, false⟩
def E.ING_STR_PT (s : Nat) : Err := ⟨F.ING_STRs_ERR_PT s, F.ING_IRQ_STATUS_ERR, 0x1201, true⟩
def E.ING_STR_FORMAT (s : Nat) : Err := ⟨F.ING_STRs_ERR_FORMAT s, F.ING_IRQ_STATUS_ERR, 0x1202, true⟩
def E.ING_STR_LOSS (s : Nat) : Err := ⟨F.ING_STRs_ERR_LOSS s, F.ING_IRQ_STATUS_ERR, 0x1203, false⟩
def E.ING_STR_FRAME_DROP (s : Nat) : Err := ⟨F.ING_STRs_ERR_FRAME_DROP s, F.ING_IRQ_STATUS_ERR, 0x1204, true⟩
def E.ING_STR_BOUNDS (s : Nat) : Err := ⟨F.ING_STRs_ERR_BOUNDS s, F.ING_IRQ_STATUS_ERR, 0x1205, false⟩
def E.ING_STR_PATH_DOWN (s : Nat) : Err := ⟨F.ING_STRs_ERR_PATH_DOWN s, F.ING_IRQ_STATUS_ERR, 0x1206, true⟩
def E.ING_STR_BOTH_DOWN (s : Nat) : Err := ⟨F.ING_STRs_ERR_BOTH_DOWN s, F.ING_IRQ_STATUS_ERR, 0x1207, true⟩
def E.ING_RATE : Err := ⟨F.ING_ERR_RATE, F.ING_IRQ_STATUS_ERR, 0x1208, true⟩
def E.PTP_REFCLK_LOSS : Err := ⟨F.PTP_ERR_REFCLK_LOSS, F.PTP_IRQ_STATUS_ERR, 0x1301, true⟩
def E.PTP_DOM_A_LOST : Err := ⟨F.PTP_ERR_DOM_A_LOST, F.PTP_IRQ_STATUS_ERR, 0x1302, true⟩
def E.PTP_DOM_B_LOST : Err := ⟨F.PTP_ERR_DOM_B_LOST, F.PTP_IRQ_STATUS_ERR, 0x1303, true⟩
def E.PTP_HOLDOVER : Err := ⟨F.PTP_ERR_HOLDOVER, F.PTP_IRQ_STATUS_ERR, 0x1304, true⟩
def E.PTP_SWITCH : Err := ⟨F.PTP_ERR_SWITCH, F.PTP_IRQ_STATUS_ERR, 0x1305, false⟩
def E.PTP_DISAGREE : Err := ⟨F.PTP_ERR_DISAGREE, F.PTP_IRQ_STATUS_ERR, 0x1306, true⟩
def E.PTP_SLEW_LARGE : Err := ⟨F.PTP_ERR_SLEW_LARGE, F.PTP_IRQ_STATUS_ERR, 0x1307, true⟩
def E.PTP_CHAIN_LOST : Err := ⟨F.PTP_ERR_CHAIN_LOST, F.PTP_IRQ_STATUS_ERR, 0x1308, true⟩
def E.FRM_REF_LOST : Err := ⟨F.FRM_ERR_REF_LOST, F.FRM_IRQ_STATUS_ERR, 0x1401, true⟩
def E.FRM_PHASE_ACCEPTED : Err := ⟨F.FRM_ERR_PHASE_ACCEPTED, F.FRM_IRQ_STATUS_ERR, 0x1402, false⟩
def E.FRM_CLAMP : Err := ⟨F.FRM_ERR_CLAMP, F.FRM_IRQ_STATUS_ERR, 0x1403, true⟩
def E.FRM_PLAN_MISSED : Err := ⟨F.FRM_ERR_PLAN_MISSED, F.FRM_IRQ_STATUS_ERR, 0x1404, false⟩
def E.FRM_MODE_MISMATCH : Err := ⟨F.FRM_ERR_MODE_MISMATCH, F.FRM_IRQ_STATUS_ERR, 0x1405, true⟩
def E.FRM_PLAN_DISAGREE : Err := ⟨F.FRM_ERR_PLAN_DISAGREE, F.FRM_IRQ_STATUS_ERR, 0x1406, true⟩
def E.FRM_IO_INVALID : Err := ⟨F.FRM_ERR_IO_INVALID, F.FRM_IRQ_STATUS_ERR, 0x1407, true⟩
def E.FRM_REF_LATE : Err := ⟨F.FRM_ERR_REF_LATE, F.FRM_IRQ_STATUS_ERR, 0x1408, false⟩
def E.CMP_OVERRUN : Err := ⟨F.CMP_ERR_OVERRUN, F.CMP_IRQ_STATUS_ERR, 0x1812, true⟩
def E.CMP_WB_DROP : Err := ⟨F.CMP_ERR_WB_DROP, F.CMP_IRQ_STATUS_ERR, 0x1813, false⟩
def E.LNKn_LINK_DOWN (n : Nat) : Err := ⟨F.LNKn_ERR_LINK_DOWN n, F.LNKn_IRQ_STATUS_ERR n, 0x1C01 + 0x100 * n, true⟩
def E.LNKn_CELL_ERR (n : Nat) : Err := ⟨F.LNKn_ERR_CELL_ERR n, F.LNKn_IRQ_STATUS_ERR n, 0x1C02 + 0x100 * n, false⟩
def E.LNKn_SESSION_FAIL (n : Nat) : Err := ⟨F.LNKn_ERR_SESSION_FAIL n, F.LNKn_IRQ_STATUS_ERR n, 0x1C03 + 0x100 * n, true⟩
def E.LNKn_CABLE (n : Nat) : Err := ⟨F.LNKn_ERR_CABLE n, F.LNKn_IRQ_STATUS_ERR n, 0x1C04 + 0x100 * n, true⟩
def E.LNK_TAKEOVER : Err := ⟨F.LNK_ERR_TAKEOVER, F.LNKn_IRQ_STATUS_CHAIN_ERR 0, 0x1C10, true⟩
def E.LNK_DEMOTED : Err := ⟨F.LNK_ERR_DEMOTED, F.LNKn_IRQ_STATUS_CHAIN_ERR 0, 0x1C11, true⟩
def E.LNK_STALE : Err := ⟨F.LNK_ERR_STALE, F.LNKn_IRQ_STATUS_CHAIN_ERR 0, 0x1C12, false⟩
def E.LNK_SLOT_MISMATCH : Err := ⟨F.LNK_ERR_SLOT_MISMATCH, F.LNKn_IRQ_STATUS_CHAIN_ERR 0, 0x1C13, true⟩
def E.LNK_STATE_DIVERGED : Err := ⟨F.LNK_ERR_STATE_DIVERGED, F.LNKn_IRQ_STATUS_CHAIN_ERR 0, 0x1C14, true⟩
def E.LNK_COMMIT_MISSED : Err := ⟨F.LNK_ERR_COMMIT_MISSED, F.LNKn_IRQ_STATUS_CHAIN_ERR 0, 0x1C15, true⟩
def E.LNK_HDR_MISSED : Err := ⟨F.LNK_ERR_HDR_MISSED, F.LNKn_IRQ_STATUS_CHAIN_ERR 0, 0x1C16, false⟩
def E.LNK_BREAK : Err := ⟨F.LNK_ERR_BREAK, F.LNKn_IRQ_STATUS_CHAIN_ERR 0, 0x1C17, true⟩
def E.LNK_RESEND_SHORT : Err := ⟨F.LNK_ERR_RESEND_SHORT, F.LNKn_IRQ_STATUS_CHAIN_ERR 0, 0x1C18, true⟩
def E.LNK_EPOCH_AHEAD : Err := ⟨F.LNK_ERR_EPOCH_AHEAD, F.LNKn_IRQ_STATUS_CHAIN_ERR 0, 0x1C19, false⟩
def E.SRD_TRAIN_FAIL : Err := ⟨F.SRD_ERR_TRAIN_FAIL, F.SRD_IRQ_STATUS_ERR, 0x1E01, true⟩
def E.SRD_CDR_LOSS : Err := ⟨F.SRD_ERR_CDR_LOSS, F.SRD_IRQ_STATUS_ERR, 0x1E02, false⟩
def E.SRD_EYE_LOW : Err := ⟨F.SRD_ERR_EYE_LOW, F.SRD_IRQ_STATUS_ERR, 0x1E03, true⟩
def E.SRD_LANE_ORDER : Err := ⟨F.SRD_ERR_LANE_ORDER, F.SRD_IRQ_STATUS_ERR, 0x1E04, true⟩
def E.SRD_PLL_UNLOCK : Err := ⟨F.SRD_ERR_PLL_UNLOCK, F.SRD_IRQ_STATUS_ERR, 0x1E05, true⟩
def E.SRD_BLOCK_LOSS : Err := ⟨F.SRD_ERR_BLOCK_LOSS, F.SRD_IRQ_STATUS_ERR, 0x1E06, false⟩
def E.SCN_CRC : Err := ⟨F.SCN_ERR_CRC, F.SCN_IRQ_STATUS_ERR, 0x2001, false⟩
def E.SCN_GEOM : Err := ⟨F.SCN_ERR_GEOM, F.SCN_IRQ_STATUS_ERR, 0x2002, true⟩
def E.SCN_LATE : Err := ⟨F.SCN_ERR_LATE, F.SCN_IRQ_STATUS_ERR, 0x2003, false⟩
def E.SCN_EARLY : Err := ⟨F.SCN_ERR_EARLY, F.SCN_IRQ_STATUS_ERR, 0x2004, true⟩
def E.SCN_BAND_HELD : Err := ⟨F.SCN_ERR_BAND_HELD, F.SCN_IRQ_STATUS_ERR, 0x2005, false⟩
def E.COR_LOAD_FAIL : Err := ⟨F.COR_ERR_LOAD_FAIL, F.COR_IRQ_STATUS_ERR, 0x2101, true⟩
def E.COR_LOAD_BUSY : Err := ⟨F.COR_ERR_LOAD_BUSY, F.COR_IRQ_STATUS_ERR, 0x2102, false⟩
def E.STR_OVERCURRENT : Err := ⟨F.STR_ERR_OVERCURRENT, F.STR_IRQ_STATUS_ERR, 0x2401, true⟩
def E.STR_RAIL_FAULT : Err := ⟨F.STR_ERR_RAIL_FAULT, F.STR_IRQ_STATUS_ERR, 0x2402, true⟩
def E.STR_LOCKOUT : Err := ⟨F.STR_ERR_LOCKOUT, F.STR_IRQ_STATUS_ERR, 0x2403, true⟩
def E.STR_ENUM_MISMATCH : Err := ⟨F.STR_ERR_ENUM_MISMATCH, F.STR_IRQ_STATUS_ERR, 0x2404, true⟩
def E.STR_RET_LOST : Err := ⟨F.STR_ERR_RET_LOST, F.STR_IRQ_STATUS_ERR, 0x2405, true⟩
def E.STR_LOAD_LATE : Err := ⟨F.STR_ERR_LOAD_LATE, F.STR_IRQ_STATUS_ERR, 0x2406, false⟩
def E.STR_DRIVER_CRC : Err := ⟨F.STR_ERR_DRIVER_CRC, F.STR_IRQ_STATUS_ERR, 0x2407, false⟩
def E.STR_LAMP_FAILED : Err := ⟨F.STR_ERR_LAMP_FAILED, F.STR_IRQ_STATUS_ERR, 0x2408, true⟩
def E.STR_DIAG_SKIPPED : Err := ⟨F.STR_ERR_DIAG_SKIPPED, F.STR_IRQ_STATUS_ERR, 0x2409, false⟩
def E.STR_DRIVER_HOT : Err := ⟨F.STR_ERR_DRIVER_HOT, F.STR_IRQ_STATUS_ERR, 0x240A, true⟩
def E.STR_START_MISS : Err := ⟨F.STR_ERR_START_MISS, F.STR_IRQ_STATUS_ERR, 0x240B, false⟩
def E.STR_COLLECT_ERR : Err := ⟨F.STR_ERR_COLLECT_ERR, F.STR_IRQ_STATUS_ERR, 0x240C, false⟩
def E.DRM_TRAIN_FAIL : Err := ⟨F.DRM_ERR_TRAIN_FAIL, F.DRM_IRQ_STATUS_ERR, 0x2801, true⟩
def E.DRM_TRAIN_RETRY : Err := ⟨F.DRM_ERR_TRAIN_RETRY, F.DRM_IRQ_STATUS_ERR, 0x2802, false⟩
def E.DRM_UE : Err := ⟨F.DRM_ERR_UE, F.DRM_IRQ_STATUS_ERR, 0x2803, true⟩
def E.DRM_TEMP_LIMIT : Err := ⟨F.DRM_ERR_TEMP_LIMIT, F.DRM_IRQ_STATUS_ERR, 0x2804, true⟩
def E.QDR_ADDR_PARITY : Err := ⟨F.QDR_ERR_ADDR_PARITY, F.QDR_IRQ_STATUS_ERR, 0x2901, true⟩
def E.QDR_UE : Err := ⟨F.QDR_ERR_UE, F.QDR_IRQ_STATUS_ERR, 0x2902, true⟩
def E.QDR_TABLE_UE : Err := ⟨F.QDR_ERR_TABLE_UE, F.QDR_IRQ_STATUS_ERR, 0x2904, true⟩
def E.RPL_REC_DROP : Err := ⟨F.RPL_ERR_REC_DROP, F.RPL_IRQ_STATUS_ERR, 0x2B01, false⟩
def E.RPL_SIZE : Err := ⟨F.RPL_ERR_SIZE, F.RPL_IRQ_STATUS_ERR, 0x2B02, true⟩
def E.RPL_RANGE : Err := ⟨F.RPL_ERR_RANGE, F.RPL_IRQ_STATUS_ERR, 0x2B03, false⟩
def E.RPL_POISON : Err := ⟨F.RPL_ERR_POISON, F.RPL_IRQ_STATUS_ERR, 0x2B04, true⟩
def E.AUD_PT : Err := ⟨F.AUD_ERR_PT, F.AUD_IRQ_STATUS_ERR, 0x2A01, true⟩
def E.AUD_FORMAT : Err := ⟨F.AUD_ERR_FORMAT, F.AUD_IRQ_STATUS_ERR, 0x2A02, true⟩
def E.AUD_LOSS : Err := ⟨F.AUD_ERR_LOSS, F.AUD_IRQ_STATUS_ERR, 0x2A03, false⟩
def E.AUD_STREAM_LOST : Err := ⟨F.AUD_ERR_STREAM_LOST, F.AUD_IRQ_STATUS_ERR, 0x2A04, true⟩
def E.AUD_ROUTE : Err := ⟨F.AUD_ERR_ROUTE, F.AUD_IRQ_STATUS_ERR, 0x2A05, true⟩
def E.AUD_POISON : Err := ⟨F.AUD_ERR_POISON, F.AUD_IRQ_STATUS_ERR, 0x2A06, true⟩
def E.FLT_OVERFLOW : Err := ⟨F.FLT_ERR_OVERFLOW, F.FLT_IRQ_STATUS_ERR, 0x3001, false⟩
def E.FLT_WRITE_FAIL : Err := ⟨F.FLT_ERR_WRITE_FAIL, F.FLT_IRQ_STATUS_ERR, 0x3002, false⟩
def E.FLT_CORRUPT : Err := ⟨F.FLT_ERR_CORRUPT, F.FLT_IRQ_STATUS_ERR, 0x3003, false⟩
def E.FLT_PLACE : Err := ⟨F.FLT_ERR_PLACE, F.FLT_IRQ_STATUS_ERR, 0x3004, false⟩

/-- HIF_ERR.DMA, whose code is that of the channel that set it (R103). -/
def E.HIF_DMA (code : Nat) : Err := ⟨F.HIF_ERR_DMA, F.HIF_IRQ_STATUS_ERR, code, true⟩
/-- A failed power-on self-test shares BST_ERR.FAIL under its own code (R475). -/
def E.BST_POST : Err := ⟨F.BST_ERR_FAIL, F.BST_IRQ_STATUS_ERR, 0x0801, true⟩
/-- CMP_LAYER_FAULT, one bit per layer and cause (R225, R226). -/
def E.CMP_UNDERRUN (n : Nat) : Err := ⟨⟨R.CMP_LAYER_FAULT, n, n⟩, F.CMP_IRQ_STATUS_LAYER_FAULT, 0x1810, true⟩
def E.CMP_CORRUPT (n : Nat) : Err := ⟨⟨R.CMP_LAYER_FAULT, 16 + n, 16 + n⟩, F.CMP_IRQ_STATUS_LAYER_FAULT, 0x1811, true⟩
/- UPD_ERR has one bit per code, in code order (R481). -/
def E.UPD_HDR : Err := ⟨⟨R.UPD_ERR, 0, 0⟩, F.UPD_IRQ_STATUS_ERR, 0x0701, false⟩
def E.UPD_SIG : Err := ⟨⟨R.UPD_ERR, 1, 1⟩, F.UPD_IRQ_STATUS_ERR, 0x0702, true⟩
def E.UPD_ROLLBACK : Err := ⟨⟨R.UPD_ERR, 2, 2⟩, F.UPD_IRQ_STATUS_ERR, 0x0703, true⟩
def E.UPD_TARGET : Err := ⟨⟨R.UPD_ERR, 3, 3⟩, F.UPD_IRQ_STATUS_ERR, 0x0704, false⟩
def E.UPD_BLOCK : Err := ⟨⟨R.UPD_ERR, 4, 4⟩, F.UPD_IRQ_STATUS_ERR, 0x0705, false⟩
def E.UPD_HASH : Err := ⟨⟨R.UPD_ERR, 5, 5⟩, F.UPD_IRQ_STATUS_ERR, 0x0706, true⟩
def E.UPD_BODY : Err := ⟨⟨R.UPD_ERR, 6, 6⟩, F.UPD_IRQ_STATUS_ERR, 0x0707, true⟩
def E.UPD_FLASH : Err := ⟨⟨R.UPD_ERR, 7, 7⟩, F.UPD_IRQ_STATUS_ERR, 0x0708, true⟩
def E.UPD_PLACE : Err := ⟨⟨R.UPD_ERR, 8, 8⟩, F.UPD_IRQ_STATUS_ERR, 0x0709, false⟩
def E.UPD_TRIAL_FAIL : Err := ⟨⟨R.UPD_ERR, 9, 9⟩, F.UPD_IRQ_STATUS_ERR, 0x070A, true⟩
def E.UPD_KEYS : Err := ⟨⟨R.UPD_ERR, 10, 10⟩, F.UPD_IRQ_STATUS_ERR, 0x070B, true⟩
def E.UPD_BUSY : Err := ⟨⟨R.UPD_ERR, 11, 11⟩, F.UPD_IRQ_STATUS_ERR, 0x070C, false⟩
def E.UPD_MISSED : Err := ⟨⟨R.UPD_ERR, 12, 12⟩, F.UPD_IRQ_STATUS_ERR, 0x070D, false⟩
def E.UPD_FUSE : Err := ⟨⟨R.UPD_ERR, 13, 13⟩, F.UPD_IRQ_STATUS_ERR, 0x070E, true⟩
def E.UPD_KAT_FAIL : Err := ⟨⟨R.UPD_ERR, 14, 14⟩, F.UPD_IRQ_STATUS_ERR, 0x0720, true⟩
def E.UPD_CLEARED : Err := ⟨⟨R.UPD_ERR, 15, 15⟩, F.UPD_IRQ_STATUS_ERR, 0x0721, true⟩

end Sys2Proof.Machine
end

