-- ==== Sys2Proof/Machine/Ops.lean ====
section
/-!
DEFINITION. The named operations every meaning is built from: DRAM and QDR by bytes, address ranges, the output trace,
fresh free values, the model's time, the interrupt summary with ALERT_N, IBI and NOTIFY (R98 to R101), and the way a
meaning ends.
-/

namespace Sys2Proof.Machine

/-- Append to the output trace (the model's own record of what leaves the module). -/
def Block.emit (b : Block) (o : Out) : Block := { b with out := o :: b.out }

/-- Append several items, the first of the list first. -/
def Block.emitAll (b : Block) (os : List Out) : Block := { b with out := os.reverse ++ b.out }

/-- Apply an operation if a condition holds. -/
def Block.when (b : Block) (c : Bool) (f : Block → Block) : Block := if c then f b else b

/-- Apply an operation for each item of a list, in order. -/
def Block.each {α : Type} (b : Block) (l : List α) (f : α → Block → Block) : Block := l.foldl (fun b x => f x b) b

/-- A fresh free value and the state that has used it up. -/
def Block.fresh (b : Block) : Nat × Block := (b.freeCount, { b with freeCount := b.freeCount + 1 })

/-! ### Memory (R281, R353) -/

/-- The byte of DRAM at address `a`. -/
def Block.dramByte (b : Block) (a : Nat) : Byte := cellsGet b.dram a 0

/-- Write one byte of DRAM. -/
def Block.setDram (b : Block) (a : Nat) (v : Byte) : Block := { b with dram := cellsSet b.dram a v 0 }

/-- The byte of QDR SRAM at address `a`. -/
def Block.qdrByte (b : Block) (a : Nat) : Byte := cellsGet b.qdr a 0

/-- Write one byte of QDR SRAM; new data ends an uncorrectable error there. -/
def Block.setQdr (b : Block) (a : Nat) (v : Byte) : Block :=
  { b with qdr := cellsSet b.qdr a v 0, qdrBad := b.qdrBad.filter (· != a) }

/-- Write bytes to DRAM from address `a` up. -/
def Block.writeDram (b : Block) (a : Nat) (bs : List Byte) : Block :=
  match bs with
  | [] => b
  | v :: r => (b.setDram a v).writeDram (a + 1) r

/-- Write bytes to QDR from address `a` up. -/
def Block.writeQdr (b : Block) (a : Nat) (bs : List Byte) : Block :=
  match bs with
  | [] => b
  | v :: r => (b.setQdr a v).writeQdr (a + 1) r

/-- `n` bytes of DRAM from address `a` up. -/
def Block.dramBytes (b : Block) (a n : Nat) : List Byte := (List.range n).map (fun i => b.dramByte (a + i))

/-- `n` bytes of QDR from address `a` up. -/
def Block.qdrBytes (b : Block) (a n : Nat) : List Byte := (List.range n).map (fun i => b.qdrByte (a + i))

/-- Clear `n` bytes of QDR from address `a` up to 0. -/
def Block.clearQdr (b : Block) (a n : Nat) : Block :=
  { b with qdr := b.qdr.filter (fun c => !(decide (a ≤ c.1) && decide (c.1 < a + n)))
           qdrBad := b.qdrBad.filter (fun c => !(decide (a ≤ c) && decide (c < a + n))) }

/-- Does an uncorrectable error lie in the `n` bytes of QDR from `a` up (R364)? -/
def Block.qdrLost (b : Block) (a n : Nat) : Bool := b.qdrBad.any (fun c => decide (a ≤ c) && decide (c < a + n))

/-- A little-endian number of `n` bytes in QDR. -/
def Block.qdrNat (b : Block) (a n : Nat) : Nat := leNat (b.qdrBytes a n)

/-- The bytes of DRAM the module has (R353). -/
def dramSize (f : Fuses) : Nat := if f.h128 then 128 * 2 ^ 30 else 16 * 2 ^ 30

/-- An address range: base and length. -/
structure Span where
  base : Nat
  len : Nat
  deriving DecidableEq, Repr

/-- Do two ranges share an address? -/
def Span.overlaps (r q : Span) : Bool :=
  decide (0 < r.len) && decide (0 < q.len) && decide (r.base < q.base + q.len) && decide (q.base < r.base + r.len)

/-- Does the range lie in DRAM? -/
def Block.inDram (b : Block) (r : Span) : Bool := r.base + r.len ≤ dramSize b.fuses

/-- The ring table (R89). -/
def ringTable : Span := ⟨0, 2 ^ 24⟩

/-- The ring pool (R102). -/
def Block.ringPool (b : Block) : Span :=
  ⟨b.pair F.HIF_RING_POOL_LO_BASE F.HIF_RING_POOL_HI_BASE, b.get F.HIF_RING_POOL_SIZE_MIB * 2 ^ 20⟩

/-- Is the range clear of every range of a list? -/
def Span.clearOf (r : Span) (l : List Span) : Bool := l.all (fun q => !r.overlaps q)

/-! ### DRAM requests (R356, R358)

A request is for one granule of 256 bytes, the piece that stands in one channel (R353): DESIGN CHOICE (log entry 63). -/

/-- The channel of a granule (R353). -/
def granuleChannel (g : Nat) : Nat := g % 4

/-- The page a granule lies in: the spec gives no map of banks and rows (log entry 63). -/
def granulePage (g : Nat) : Page := ⟨granuleChannel g, Config.dramBank g % 16, Config.dramRow g⟩

/-- Is the page open? -/
def Block.pageOpen (b : Block) (g : Nat) : Bool := b.drm.pages.contains (granulePage g)

/-- Close the pages of channel `c` that satisfy a test. -/
def Block.closePages (b : Block) (c : Nat) (f : Page → Bool) : Block :=
  { b with drm.pages := b.drm.pages.filter (fun p => !(p.channel == c && f p)) }

/-- A request is served: its page stays open after it, in place of another row of the bank. -/
def Block.serveGranule (b : Block) (g : Nat) : Block :=
  let p := granulePage g
  let b := b.closePages p.channel (fun q => q.bank == p.bank)
  { b with drm.pages := b.drm.pages ++ [p] }

/-- A request arrives: it is served, or it waits for its channel, which starts its exit at once (R358). -/
def Block.dramRequest (b : Block) (client g : Nat) : Block :=
  let c := granuleChannel g
  let b := { b with drm.lastAt := b.drm.lastAt.set c b.clk }
  if b.get (F.DRM_CHc_STATUS_PSTATE c) = 0 then b.serveGranule g
  else { b with drm := { b.drm with exiting := b.drm.exiting.set c true, waiting := b.drm.waiting ++ [⟨client, g, 0⟩] } }

/-- Client `client` reads or writes `n` bytes of DRAM from address `a` up. -/
def Block.dramUse (b : Block) (client a n : Nat) : Block :=
  if n = 0 ∨ b.get F.DRM_STATUS_TRAINED = 0 then b
  else b.each (List.range ((a + n - 1) / 256 - a / 256 + 1)) (fun i b => b.dramRequest client (a / 256 + i))

/-- A client writes bytes to DRAM from address `a` up. -/
def Block.dramWrite (b : Block) (client a : Nat) (bs : List Byte) : Block := (b.dramUse client a bs.length).writeDram a bs

/-- May the request behind `before` be served next (R356)? The oldest may; another only before every one of its own client,
on an open page, past requests that miss and that fewer than 16 have passed. -/
def Block.mayPass (b : Block) (before : List DramReq) (r : DramReq) : Bool :=
  before.isEmpty || b.pageOpen r.granule
    && before.all (fun q => q.client != r.client && !b.pageOpen q.granule && decide (q.passed < 16))

/-- The positions in a channel's waiting list from which a request may be served next. -/
def Block.passers (b : Block) (l : List DramReq) : List Nat :=
  (List.range l.length).filter (fun i => match l[i]? with | some r => b.mayPass (l.take i) r | none => false)

/-- The `n` requests of a list, in an order that R356 allows; which of those allowed leaves next is free. -/
def Block.serveAll (b : Block) : Nat → List DramReq → Block
  | 0, _ => b
  | n + 1, l =>
    let (k, b) := b.fresh
    let ok := b.passers l
    let i := ok.getD (Config.freeValue k % max 1 ok.length) 0
    match l[i]? with
    | none => b
    | some r =>
      (b.serveGranule r.granule).serveAll n ((l.take i).map (fun q => { q with passed := q.passed + 1 }) ++ l.drop (i + 1))

/-- Channel `c` is ACTIVE again: what waited for it is served. -/
def Block.serveChannel (b : Block) (c : Nat) : Block :=
  let l := b.drm.waiting.filter (fun r => granuleChannel r.granule == c)
  { b with drm.waiting := b.drm.waiting.filter (fun r => granuleChannel r.granule != c) }.serveAll l.length l

/-! ### Time -/

/-- The parts of a nanosecond that STC counts: PTP_RATE is in 2^-16 ppm (R202). -/
def stcUnit : Nat := 65536000000

/-- STC in those parts. -/
def Block.stcParts (b : Block) : Nat := b.stc * stcUnit + b.stcFrac

/-- The parts by which STC advances in one nanosecond of the model's clock: the servo's rate, PTP_RATE above or below the nominal
one (R173). -/
def Block.stcRate (b : Block) : Nat := (stcUnit + signed 32 (b.get F.PTP_RATE_RATE)).toNat

/-- `n` nanoseconds of the module's own clock pass; STC advances at the servo's rate, and only while its clock runs (R173, R445). -/
def Block.elapse (b : Block) (n : Nat) : Block :=
  { b with
    clk := b.clk + n
    stc := if b.pm.stcStopped then b.stc else (b.stcParts + n * b.stcRate) / stcUnit % 2 ^ 64
    stcFrac := if b.pm.stcStopped then b.stcFrac else (b.stcParts + n * b.stcRate) % stcUnit }

/-- Time passes until the model's clock reads `t`; it never runs back. -/
def Block.untilClk (b : Block) (t : Nat) : Block := b.elapse (t - b.clk)

/-- Time passes until STC reads `t`; it never runs back. The model's clock then stands at its first whole nanosecond from that instant
on (log entry 8). -/
def Block.untilStc (b : Block) (t : Nat) : Block :=
  let need := (t - b.stc) * stcUnit - b.stcFrac
  { b with
    clk := b.clk + (if b.pm.stcStopped then t - b.stc else (need + (b.stcRate - 1)) / b.stcRate)
    stc := if b.pm.stcStopped ∨ t ≤ b.stc then b.stc else t % 2 ^ 64
    stcFrac := if b.pm.stcStopped ∨ t ≤ b.stc then b.stcFrac else 0 }

/-! ### Interrupts (R98 to R101) -/

/-- The block IDs that own a window (R38). -/
def blockIds : List Nat :=
  [0x00, 0x01, 0x02, 0x03, 0x04, 0x05, 0x06, 0x07, 0x08, 0x10, 0x11, 0x12, 0x13, 0x14, 0x18, 0x1C, 0x1D, 0x1E, 0x20,
   0x21, 0x24, 0x28, 0x29, 0x2A, 0x2B, 0x30]

/-- Has the block any event bit set whose enable is set? -/
def Block.irqOf (b : Block) (id : Nat) : Bool :=
  let st := (cellsGet b.regs (id * 0x10000 + 0x7FF0) (0 : Word)).toNat
  let en := (cellsGet b.regs (id * 0x10000 + 0x7FF4) (0 : Word)).toNat
  Nat.land st en != 0

/-- HIF_IRQ_PEND (R98). -/
def Block.irqPend (b : Block) : Nat :=
  (blockIds.map (fun id => if b.irqOf id then 2 ^ id else 0)).sum

/-- By how many ns the summary may follow a block (R98). -/
def summaryLag (id : Nat) : Nat := if id = 0x06 then 100000 else 100

/-- HIF_IRQ_PEND as a read shows it: a bit that changed less than its lag ago shows either value, a free one (R98, R495). -/
def Block.irqShown (b : Block) : Nat × Block :=
  let moving := b.hif.moves.filter (fun m => decide (b.clk < m.2 + summaryLag m.1))
  if moving.isEmpty then (b.irqPend, b)
  else
    let (k, b) := b.fresh
    let mask := (moving.map (fun m => 2 ^ m.1)).sum
    (Nat.lor (b.irqPend - Nat.land b.irqPend mask) (Nat.land (Config.freeValue k) mask), b)

/-- The bits of the summary that have changed since `b` last settled, with the clock of the change. -/
def Block.irqMoves (b : Block) : List (Nat × Nat) :=
  let changed := (blockIds.filter (fun id => bitOf b.irqPend id != bitOf b.hif.summary id)).map (fun id => (id, b.clk))
  b.hif.moves.filter (fun m => !changed.any (·.1 == m.1) && decide (b.clk < m.2 + summaryLag m.1)) ++ changed

/-- Does ALERT_N have a cause (R99)? -/
def Block.alertDue (b : Block) : Bool :=
  Nat.land b.irqPend (b.pair F.HIF_ALERT_EN_LO F.HIF_ALERT_EN_HI) != 0

/-- May an IBI be raised now (R100)? -/
def Block.ibiAllowed (b : Block) : Bool :=
  b.bit F.HIF_I3C_STATUS_DA_VALID && b.bit F.HIF_I3C_STATUS_IBI_ENABLED && b.bit F.HIF_CTRL_IBI_EN

/-- Does any bit rise from `old` to `new`? -/
def rises (old new : Nat) : Bool := Nat.land old new != new

/-- What follows the block status registers: ALERT_N (R99), a pending IBI (R100), a pending NOTIFY (R101), at once, the
earliest instant that their bounds admit (log entry 62); a read of HIF_IRQ_PEND shows either value within its bound. -/
def Block.settle (b : Block) : Block :=
  let pend := b.irqPend
  let ibi := Nat.land pend (b.pair F.HIF_IBI_EN_LO F.HIF_IBI_EN_HI)
  let ntf := Nat.land pend (b.pair F.HIF_NOTIFY_EN_LO F.HIF_NOTIFY_EN_HI)
  { b with
    pins.alertN := !(b.alertDue && b.logic == .running)
    i3c.ibiPending := ibi != 0 && (b.i3c.ibiPending || (rises b.hif.ibiPrev ibi && b.ibiAllowed))
    hif.ibiPrev := ibi
    hif.notifyPending := b.hif.notifyPending || rises b.hif.notifyPrev ntf
    hif.notifyPrev := ntf
    hif.moves := b.irqMoves
    hif.summary := pend }

/-- How a meaning ends that needs no logic power: the block settles, the queue is as it was. -/
def State.power (s : State) (b : Block) : Host.Outcome State Fault Refusal := .next { s with blk := b.settle }

/-- How every other meaning ends: without logic power, or in reset, nothing happens (R54, R67, R446). -/
def State.done (s : State) (b : Block) : Host.Outcome State Fault Refusal :=
  .next { s with blk := if s.blk.logic == .running then b.settle else s.blk }

end Sys2Proof.Machine
end

