-- ==== Sys2Proof/Machine/Pm.lean ====
section
/-!
DEFINITION. Power states: requests, refusals and aborts, wake sources, the sampling windows (R436 to R450). The entry
itself and the wake order reach into every other block and stand in Machine/Sleep.lean.
-/

namespace Sys2Proof.Machine

def pmActive : Nat := 0
def pmDim : Nat := 1
def pmBracken : Nat := 2
def pmRetain : Nat := 3
def pmOff : Nat := 4
def pmEntering : Nat := 5
def pmWaking : Nat := 6

/-- PM_STATUS.STATE (R436). -/
def Block.pmState (b : Block) : Nat := b.get F.PM_STATUS_STATE

/-- Is the module asleep, in BRACKEN or RETAIN? -/
def Block.asleep (b : Block) : Bool := b.pmState == pmBracken || b.pmState == pmRetain

/-- The watchdog's count stops from ENTERING on, and goes on if the entry aborts (R493). -/
def Block.wdtPause (b : Block) (st : Nat) : Block :=
  if st = pmActive ∨ st = pmDim then
    match b.wdtStop with
    | none => b
    | some t => { b with wdtStart := b.wdtStart + (b.clk - t), wdtStop := none }
  else { b with wdtStop := some (b.wdtStop.getD b.clk) }

/-- A new PM_STATUS.STATE sets STATE_CHANGE (R449). -/
def Block.setPmState (b : Block) (st : Nat) : Block :=
  if b.pmState = st then b else ((b.set F.PM_STATUS_STATE st).irq F.PM_IRQ_STATUS_STATE_CHANGE).wdtPause st

/-- Is the module in BRACKEN, on its way there, or on its way back: are the islands that BRACKEN keeps powered (R436, R442)? -/
def Block.bracken (b : Block) : Bool :=
  b.pm.entering.getD (if b.pmState = pmWaking then b.pm.slept else b.pmState) == pmBracken

/-- Is ETHn kept powered in BRACKEN (R442)? -/
def Block.ethKept (b : Block) (n : Nat) : Bool :=
  b.bit (F.ETHn_WAKE_CTRL_EN n) && bitOf (b.get F.PM_WAKE_EN_EN) (2 + n)

/-- Is the register at `a` in a powered island while the module is gated (R436, R442)? PM, the SYS identity and reset
registers, HIF's I3C target, THM and PWR always; a kept ETH port and the kept time island in BRACKEN; the core island
(SYS, HIF, CFG, UPD, FLT) once a wake has begun (R444). -/
def Block.powered (b : Block) (a : Nat) : Bool :=
  let blk := a / 0x10000
  let sleep := b.bracken
  (b.pmState == pmWaking && (blk == 0x00 || blk == 0x01 || blk == 0x02 || blk == 0x07 || blk == 0x30))
    || blk == 0x06 || blk == 0x04 || blk == 0x03 || (blk == 0x00 && decide (a < 0x30)) || a == R.HIF_I3C_STATUS
    || (sleep && (blk == 0x10 && b.ethKept 0 || blk == 0x11 && b.ethKept 1
        || (blk == 0x13 || blk == 0x14) && b.bit F.PM_CTRL_KEEP_TIME))

/-- Wake sources fire: with those enabled the entry in progress aborts or latches them, the sleep ends, or they join the
wake that runs (R438, R441, R444, R447). `forced` is the HOST wake of a request, whatever PM_WAKE_EN holds. -/
def Block.pmWake (b : Block) (bits : Nat) (forced : Bool) : Block :=
  let en := Nat.land bits (b.get F.PM_WAKE_EN_EN)
  let en := if forced then Nat.lor en 1 else en
  let en := if b.pmState = pmRetain then Nat.land en 3 else en
  if en = 0 then b
  else if b.pmState = pmWaking then b.set F.PM_WAKE_SRC_SRC (Nat.lor (b.get F.PM_WAKE_SRC_SRC) en)
  else if b.asleep || b.pm.entering.isSome then { b with pm.wakes := Nat.lor b.pm.wakes en }
  else b

/-- An access to a register outside the powered islands: PM_ERR.GATED_ACCESS, and the HOST wake in sleep (R441). -/
def Block.gatedAccess (b : Block) : Block :=
  let b := b.raise E.PM_GATED_ACCESS
  b.when b.asleep (fun b => b.pmWake 1 false)

/-- Is an access to address `a` gated now? -/
def Block.gated (b : Block) (a : Nat) : Bool := b.pm.gate && !b.powered a

/-- A write to the register at `a`, unless it is gated (R441). -/
def Block.writing (b : Block) (a : Nat) (f : Block → Block) : Block := if b.gated a then b.gatedAccess else f b

/-- The first condition of R438 that holds, in the table's order: block ID and reason. `entry` tells the checks at START
launch and FS_own(n), which the entry's own ENTERING state does not fail. -/
def Block.refuser (b : Block) (entry : Bool) : Option (Nat × Nat) :=
  let conds : List (Bool × Nat × Nat) :=
    [((List.range 8).any (fun n => b.get (F.HIF_DMAn_STATUS_STATE n) == 1), 0x01, 0x01),
     (!b.cfg.stages.isEmpty, 0x02, 0x01),
     (b.get F.CFG_PR_STATUS_STATE != 0, 0x02, 0x02),
     (b.stage == 2 || b.stage == 3, 0x02, 0x03),
     (b.bit F.PWR_STATUS_SWITCHING || b.pwr.moving.isSome || b.bit F.PWR_STATUS_HOLDUP, 0x03, 0x01),
     (b.cal.saving.isSome, 0x05, 0x01),
     (!entry && (b.pmState == pmEntering || b.pmState == pmWaking), 0x06, 0x03)]
      ++ (List.range 9).map (fun s => (bitOf b.pm.wakes s, 0x06, 0x10 + s))
      ++ [(bitOf (b.get F.PM_WAKE_EN_EN) 7 && (List.range 6).any (fun c =>
            decide ((b.get F.PM_WAKE_TEMP_C : Int) * 8 ≤ b.getInt (F.THM_COMPc_T c))), 0x06, 0x17),
     (b.updBusy, 0x07, 0x01),
     (b.get F.COR_LOAD_STATUS_STATE == 1, 0x21, 0x01),
     (b.duty == dutyDelegate, 0x1C, 0x01),
     (b.duty == dutyActive && b.lnk.spores.any (fun e => e.slot != b.get F.LNK_CHAIN_STATUS_SLOT
        && (e.spore.wfn + 1 == b.wfn || e.spore.wfn == b.wfn)),
      0x1C, 0x02),
     (!b.flt.queue.isEmpty, 0x30, 0x01)]
  (conds.find? (·.1)).map (·.2)

/-- A refusal or an abort (R438): counted, recorded, flagged; the request is cleared and the state in force stays. A request for
ACTIVE or DIM that waited for the end of an entry that aborts is pending from now on (R447; log entry 29). -/
def Block.refuse (b : Block) (st blk reason : Nat) (abort : Bool) : Block :=
  let b := b.count F.PM_REFUSE_COUNT_COUNT 1
  let b := (b.set F.PM_LAST_REFUSER_STATE st).setBit F.PM_LAST_REFUSER_ABORT abort
  let b := (b.set F.PM_LAST_REFUSER_REASON reason).set F.PM_LAST_REFUSER_BLOCK blk
  let b := b.raise (if abort then E.PM_ABORTED else E.PM_REFUSED)
  let b := (b.set F.PM_STATUS_PENDING 7).when (abort && b.pmState == pmEntering) (fun b => b.setPmState b.pm.before)
  let b := match b.pm.after with
    | some st => if abort ∧ st ≠ b.pmState then b.set F.PM_STATUS_PENDING st else b
    | none => b
  { b with pm := { b.pm with reqWfn := none, bound := none, entering := none, wakes := 0, after := none } }

/-- A request becomes the pending one, in place of any earlier one (R437). -/
def Block.pend (b : Block) (st : Nat) (atWfn : Bool) : Block :=
  let w := b.pair F.PM_REQ_WFN_LO_WFN F.PM_REQ_WFN_HI_WFN
  let b := { b with pm := { b.pm with reqWfn := if atWfn then some w else none, bound := none } }
  b.set F.PM_STATUS_PENDING st

/-- At the START launch of frame `n` the pending request binds to the frame; an entry is checked and STATE becomes
ENTERING (R437, R438, R440 step 1). -/
def Block.pmLaunch (b : Block) (n : Nat) : Block :=
  let st := b.get F.PM_STATUS_PENDING
  if st = 7 ∨ b.pm.bound.isSome ∨ b.pmState = pmEntering ∨ b.pmState = pmWaking ∨ n < b.pm.reqWfn.getD 0 then b
  else if st = pmActive ∨ st = pmDim then { b with pm.bound := some n }
  else
    match b.refuser true with
    | some (blk, reason) => b.refuse st blk reason true
    | none =>
      let b := { b with pm := { b.pm with bound := some n, entering := some st, before := b.pmState } }
      b.setPmState pmEntering

/-- Does START of frame `n` carry DARK by PM (R439, R440)? -/
def Block.pmDark (b : Block) : Bool :=
  if b.pmState = pmDim then !(b.pm.bound.isSome && b.get F.PM_STATUS_PENDING == pmActive)
  else b.pmState == pmEntering || b.get F.PM_STATUS_PENDING == pmDim && b.pm.bound.isSome

/-- Sampling period in ns (R449). -/
def Block.brackenPeriod (b : Block) : Nat := max 1 (b.get F.PM_BRK_CFG_PERIOD_MS) * 1000000

/-- WAKE_TIMER (R442): PM_WAKE_TIMER.S seconds of AON time since entry. -/
def wakeTimer (b : Block) : Block :=
  let s := b.get F.PM_WAKE_TIMER_S
  if b.asleep ∧ s ≠ 0 then (b.untilClk (b.pm.enteredAt + s * 1000000000)).pmWake 2 false else b

/-- BRACKEN_WINDOW (R442): the windowed sources are evaluated; those that fire together are recorded. -/
def brackenWindow (tone0 tone1 sync : Bool) (b : Block) : Block :=
  if b.pmState ≠ pmBracken then b
  else
    let b := b.untilClk b.pm.nextWindow
    let hot := (List.range 6).any (fun c => decide ((b.get F.PM_WAKE_TEMP_C : Int) * 8 ≤ b.getInt (F.THM_COMPc_T c)))
    let feed := b.get F.PWR_STATUS_IN_RANGE != b.pm.feedsAtEntry
    let bits := 16 * flagBits [tone0, tone1, sync && b.pm.syncHigh, hot, feed]
    let b := { b with pm := { b.pm with syncHigh := sync, nextWindow := b.pm.nextWindow + b.brackenPeriod } }
    b.pmWake bits false

/-- BRACKEN_WINDOW. -/
def execBrackenWindow (tone0 tone1 sync : Bool) (s : State) : Host.Outcome State Fault Refusal :=
  s.done (brackenWindow tone0 tone1 sync s.blk)
/-- WAKE_TIMER. -/
def execWakeTimer (s : State) : Host.Outcome State Fault Refusal := s.done (wakeTimer s.blk)

end Sys2Proof.Machine
end

