-- ==== Sys2Proof/Machine/Flt.lean ====
section
/-!
DEFINITION. The sticky fault log (R482 to R491): scan, writing, reading, export, clear.
-/

namespace Sys2Proof.Machine

/-- The 32 bytes of an entry (R482). -/
def FltEntry.bytes (e : FltEntry) : List Byte :=
  let bs := leBytes 4 e.seq ++ leBytes 2 e.code ++ leBytes 1 (flagBits [e.deferred, e.noTime]) ++ leBytes 1 e.state
    ++ leBytes 8 e.stc ++ leBytes 4 e.wfn ++ leBytes 4 e.detail ++ leBytes 4 e.node
  bs ++ leBytes 4 (crc32c bs)

/-- SEQ of the oldest entry of the log, a corrupt one too, or of the next entry when it is empty (R487). -/
def Flt.oldest (f : Flt) : Nat := (f.log.head?.map (·.entry.seq)).getD f.nextSeq

/-- FLT_NEXT_SEQ, FLT_OLDEST_SEQ, FLT_CLEAR_COUNT and PENDING follow the log and the queue (R490). -/
def Block.fltShow (b : Block) : Block :=
  let b := (b.set F.FLT_NEXT_SEQ_SEQ b.flt.nextSeq).set F.FLT_OLDEST_SEQ_SEQ b.flt.oldest
  (b.set F.FLT_CLEAR_COUNT_COUNT b.flt.clears).set F.FLT_STATUS_PENDING b.flt.queue.length

/-- What the scan finds corrupt: every failing entry but a torn last one; each with the SEQ it should carry (R483, R486).
`prev` is the last valid SEQ of the sector met so far. -/
def corruptSeqs (last : Nat) : List LogSlot → Option (Nat × Nat) → List Nat
  | [], _ => []
  | s :: r, prev =>
    let inSector := match prev with
      | some (sec, q) => if sec = s.sector then some q else none
      | none => none
    let expected := match inSector with
      | some q => q
      | none => s.entry.seq
    if s.checkOk then corruptSeqs last r (some (s.sector, s.entry.seq + 1))
    else if s.entry.seq = last ∧ r.isEmpty then []
    else expected :: corruptSeqs last r (some (s.sector, expected))

/-- The scan of the log ends (R486): corrupt entries are counted and logged, the cause of the boot is logged. -/
def fltScanDone (b : Block) : Block :=
  if b.bit F.FLT_STATUS_READY ∨ ¬ (b.stage = 1 ∨ b.stage = 2) then b
  else
    let bad := corruptSeqs ((b.flt.log.getLast?.map (·.entry.seq)).getD 0) b.flt.log none
    let b := b.each bad (fun seq b =>
      ((b.countSat (F.FLT_CNT_Ei 2) 1).raise E.FLT_CORRUPT).submit 0x3003 seq)
    let b := b.submit 0x3010 (b.get F.SYS_RESET_CAUSE_CAUSE)
    (b.set F.FLT_STATUS_READY 1).fltShow

/-- Move to the next sector when the one in use is full; the oldest of 47 leaves the log (R484). -/
def Flt.room (f : Flt) : Flt :=
  if f.used < 2046 then f
  else { f with sector := f.sector + 1, used := 0, log := f.log.filter (fun s => f.sector + 1 < s.sector + 47) }

/-- Program an entry position. -/
def Flt.program (f : Flt) (e : FltEntry) (ok : Bool) : Flt :=
  let f := f.room
  { f with log := f.log ++ [⟨f.sector, { e with seq := f.nextSeq }, ok⟩], used := f.used + 1 }

/-- A clear that waits goes on when the queue is empty: from then on its header is written, and no entry before it (R489). -/
def Block.fltHeading (b : Block) : Block :=
  if b.flt.clearWaiting ∧ b.flt.queue.isEmpty then { b with flt.heading := true } else b

/-- FLT programs the next queued entry (R484, R485). -/
def fltEntryWrite (ok : Bool) (b : Block) : Block :=
  match b.flt.queue with
  | [] => b
  | e :: rest =>
    if !b.bit F.FLT_STATUS_READY ∨ b.flt.heading then b
    else
      let f := b.flt.program e ok
      if !ok && !b.flt.retried then
        { b with flt := { f with retried := true } }.countSat (F.FLT_CNT_Ei 1) 1
      else
        let b := { b with flt := { f with queue := rest, retried := false, nextSeq := (f.nextSeq + 1) % 2 ^ 32 } }
        let b := if ok then b.irq F.FLT_IRQ_STATUS_LOGGED else b.raise E.FLT_WRITE_FAIL
        let b := if b.flt.lost = 0 then b
          else
            let x := { b.fltEntry 0x3001 b.flt.lost with seq := 0 }
            let b := { b with flt.queue := x :: b.flt.queue, flt.lost := 0 }
            (b.set F.FLT_STATUS_LAST_CODE 0x3001).countSat F.FLT_SINCE_RESET_COUNT 1
        b.fltShow.fltHeading

/-- Every entry of the queue is programmed, as within 16 ms after the last feed left range (R485). -/
def Block.fltDrain (b : Block) : Block := b.each (List.range (b.flt.queue.length + 1)) (fun _ b => fltEntryWrite true b)

/-- A write of FLT_CMD with OP = CLEAR (R489): with the key, the clear waits for the queue to drain. -/
def fltClear (v : Nat) (b : Block) : Block :=
  if F.FLT_CMD_OP.of v = 1 ∧ F.FLT_CMD_KEY.of v = 0xC1EA then { b with flt.clearWaiting := true }.fltHeading else b

/-- The new header is written and the clear takes effect (R489). -/
def fltClearEffect (b : Block) : Block :=
  if b.flt.heading then
    let f := b.flt
    let b := { b with flt := { f with
      clearWaiting := false, heading := false, voided := f.voided ++ f.log, log := [], sector := f.sector + 1, used := 0
      clears := (f.clears + 1) % 2 ^ 32 } }
    ((b.set F.FLT_STATUS_CLEARING 1).irq F.FLT_IRQ_STATUS_CLEARED).fltShow
  else b

/-- The void sectors have been erased (R489). -/
def fltEraseDone (b : Block) : Block := { b with flt.voided := [] }.set F.FLT_STATUS_CLEARING 0

/-- The range an export may fill (R488). -/
def Block.exportSpan (b : Block) : Span := ⟨b.pair F.FLT_EXPORT_BASE_LO_BASE F.FLT_EXPORT_BASE_HI_BASE, 3077184⟩

/-- A write of FLT_CMD with OP = EXPORT (R488). -/
def fltExport (v : Nat) (b : Block) : Block :=
  if F.FLT_CMD_OP.of v ≠ 2 ∨ b.bit F.FLT_STATUS_EXPORTING then b
  else
    let r := b.exportSpan
    if r.base % 4096 = 0 ∧ b.inDram r ∧ r.clearOf [ringTable, b.ringPool] then b.set F.FLT_STATUS_EXPORTING 1
    else b.raise E.FLT_PLACE

/-- The export ends (R488). -/
def fltExportDone (b : Block) : Block :=
  if b.bit F.FLT_STATUS_EXPORTING then
    let l := b.flt.log.filter (·.checkOk)
    let b := b.dramWrite 7 b.exportSpan.base (l.map (·.entry.bytes)).flatten
    ((b.set F.FLT_EXPORT_COUNT_COUNT l.length).set F.FLT_STATUS_EXPORTING 0).irq F.FLT_IRQ_STATUS_EXPORT_DONE
  else b

/-- Fill the eight presentation words. -/
def Block.fltWords (b : Block) (ws : List Nat) : Block :=
  b.each ws.zipIdx (fun x b => b.set (F.FLT_RD_DATAw_DATA x.2) x.1)

/-- Eight words that the spec does not state: what is presented for an entry that is not there (free values). -/
def Block.fltFree (b : Block) : Block :=
  let (k, b) := b.fresh
  b.fltWords ((List.range 8).map (fun i => Config.freeValue (8 * k + i) % 2 ^ 32))

/-- A write of FLT_RD_SEQ presents an entry (R487). -/
def fltRdSeq (v : Nat) (b : Block) : Block :=
  let b := b.set F.FLT_RD_SEQ_SEQ v
  if b.flt.nextSeq ≤ v then (b.set F.FLT_RD_STATUS_STATE 2).fltFree
  else if v < b.flt.oldest then (b.set F.FLT_RD_STATUS_STATE 1).fltFree
  else
    match b.flt.log.find? (fun s => s.checkOk && s.entry.seq == v) with
    | some s =>
      let bs := s.entry.bytes
      (b.set F.FLT_RD_STATUS_STATE 0).fltWords ((List.range 8).map (fun i => leNat ((bs.drop (4 * i)).take 4)))
    | none => (b.set F.FLT_RD_STATUS_STATE 3).fltFree

/-- FLT_SCAN_DONE (R486). -/
def execFltScanDone (s : State) : Host.Outcome State Fault Refusal := s.done (fltScanDone s.blk)
/-- FLT_ENTRY_WRITE (R484, R485). -/
def execFltEntryWrite (ok : Bool) (s : State) : Host.Outcome State Fault Refusal := s.done (fltEntryWrite ok s.blk)
/-- FLT_CLEAR (R489). -/
def execFltClear (_p : Path) (v : Word) (s : State) : Host.Outcome State Fault Refusal := s.done (s.blk.writing R.FLT_CMD (fltClear v.toNat))
/-- FLT_CLEAR_EFFECT (R489). -/
def execFltClearEffect (s : State) : Host.Outcome State Fault Refusal := s.done (fltClearEffect s.blk)
/-- FLT_ERASE_DONE (R489). -/
def execFltEraseDone (s : State) : Host.Outcome State Fault Refusal := s.done (fltEraseDone s.blk)
/-- FLT_EXPORT (R488). -/
def execFltExport (_p : Path) (v : Word) (s : State) : Host.Outcome State Fault Refusal := s.done (s.blk.writing R.FLT_CMD (fltExport v.toNat))
/-- FLT_EXPORT_DONE (R488). -/
def execFltExportDone (s : State) : Host.Outcome State Fault Refusal := s.done (fltExportDone s.blk)
/-- FLT_RD_SEQ (R487). -/
def execFltRdSeq (_p : Path) (v : Word) (s : State) : Host.Outcome State Fault Refusal := s.done (s.blk.writing R.FLT_RD_SEQ (fltRdSeq v.toNat))

end Sys2Proof.Machine
end

