-- ==== Sys2Proof/Machine/Crypto.lean ====
section
/-!
DEFINITION. The algorithms that R81, R242, R243, R452, R457, R470 and R471 name: SHA-256, SHA-384, HKDF-SHA-256 and
AES-256-GCM over lists of bytes. The
spec names them and does not print them: they follow the published standards (PRESUMED, log entry 66). Words and blocks are
numbers, their bytes in big-endian order.
-/

namespace Sys2Proof.Machine

/-- The number whose big-endian bytes are `bs`. -/
def beNat (bs : List Byte) : Nat := bs.foldl (fun n b => 256 * n + b.toNat) 0

/-- The big-endian bytes of `n`, `k` of them. -/
def beBytes (k n : Nat) : List Byte := (leBytes k n).reverse

/-- `bs` filled with zeros to `k` bytes. -/
def zeroFill (k : Nat) (bs : List Byte) : List Byte := bs ++ List.replicate (k - bs.length) 0

/-- The list cut into cutInto of `k`, `n` of them. -/
def cutInto {α : Type} (k : Nat) : Nat → List α → List (List α)
  | 0, _ => []
  | n + 1, l => l.take k :: cutInto k n (l.drop k)

/-- Exclusive or of two lists of bytes, to the shorter's length. -/
def xorBytes (a b : List Byte) : List Byte := List.zipWith (· ^^^ ·) a b

/-- The characters of a name as bytes. -/
def ascii (s : String) : List Byte := s.toList.map (fun c => BitVec.ofNat 8 c.toNat)

/-! ### SHA-256 -/

/-- The largest `r` with `r ^ e ≤ n`, found bit by bit from bit `k - 1`, `r` so far. -/
def rootFrom (e n : Nat) : Nat → Nat → Nat
  | 0, r => r
  | k + 1, r => rootFrom e n k (if (r + 2 ^ k) ^ e ≤ n then r + 2 ^ k else r)

/-- The first 64 primes. -/
def shaPrimes : List Nat := (List.range 312).filter (fun n => 2 ≤ n && (List.range 18).all (fun d => d < 2 || n ≤ d || n % d != 0))

/-- The first 32 bits of the fraction of a prime's cube root. -/
def shaRound : List Nat := shaPrimes.map (fun p => rootFrom 3 (p * 2 ^ 96) 36 0 % 2 ^ 32)

/-- The first 32 bits of the fraction of a prime's square root. -/
def shaStart : List Nat := (shaPrimes.take 8).map (fun p => rootFrom 2 (p * 2 ^ 64) 37 0 % 2 ^ 32)

/-- A 32-bit word rotated right. -/
def rotr (x n : Nat) : Nat := x / 2 ^ n + x % 2 ^ n * 2 ^ (32 - n)

/-- Exclusive or of three words. -/
def xor3 (a b c : Nat) : Nat := Nat.xor (Nat.xor a b) c

/-- `n` further words of the message schedule, the latest word first. -/
def shaSchedule : Nat → List Nat → List Nat
  | 0, w => w
  | n + 1, w =>
    let x := w.getD 1 0
    let y := w.getD 14 0
    let t := w.getD 15 0 + xor3 (rotr y 7) (rotr y 18) (y / 8) + w.getD 6 0 + xor3 (rotr x 17) (rotr x 19) (x / 1024)
    shaSchedule n (t % 2 ^ 32 :: w)

/-- The eight working words. -/
structure ShaWords where
  a : Nat
  b : Nat
  c : Nat
  d : Nat
  e : Nat
  f : Nat
  g : Nat
  h : Nat
  deriving DecidableEq, Repr

/-- One round with `kw` the sum of its constant and its schedule word. -/
def shaStep (s : ShaWords) (kw : Nat) : ShaWords :=
  let t := s.h + xor3 (rotr s.e 6) (rotr s.e 11) (rotr s.e 25)
    + Nat.xor (Nat.land s.e s.f) (Nat.land (2 ^ 32 - 1 - s.e) s.g) + kw
  let u := xor3 (rotr s.a 2) (rotr s.a 13) (rotr s.a 22) + xor3 (Nat.land s.a s.b) (Nat.land s.a s.c) (Nat.land s.b s.c)
  ⟨(t + u) % 2 ^ 32, s.a, s.b, s.c, (s.d + t) % 2 ^ 32, s.e, s.f, s.g⟩

/-- One block of 64 bytes. -/
def shaBlock (h : List Nat) (bs : List Byte) : List Nat :=
  let w := (shaSchedule 48 ((cutInto 4 16 bs).map beNat).reverse).reverse
  let g (i : Nat) : Nat := h.getD i 0
  let s := (List.zipWith (· + ·) shaRound w).foldl shaStep ⟨g 0, g 1, g 2, g 3, g 4, g 5, g 6, g 7⟩
  List.zipWith (fun x y => (x + y) % 2 ^ 32) h [s.a, s.b, s.c, s.d, s.e, s.f, s.g, s.h]

/-- SHA-256: 32 bytes. -/
def sha256 (bs : List Byte) : List Byte :=
  let n := (bs.length + 9 + 63) / 64
  let full := zeroFill (64 * n - 8) (bs ++ [0x80]) ++ beBytes 8 (8 * bs.length)
  (((cutInto 64 n full).foldl shaBlock shaStart).map (beBytes 4)).flatten

/-! ### SHA-384 -/

/-- The first 80 primes. -/
def shaLongPrimes : List Nat :=
  (List.range 410).filter (fun n => 2 ≤ n && (List.range 21).all (fun d => d < 2 || n ≤ d || n % d != 0))

/-- The first 64 bits of the fraction of a prime's cube root. -/
def shaLongRound : List Nat := shaLongPrimes.map (fun p => rootFrom 3 (p * 2 ^ 192) 68 0 % 2 ^ 64)

/-- The first 64 bits of the fraction of the square root, of the ninth to the sixteenth prime. -/
def shaLongStart : List Nat := ((shaLongPrimes.drop 8).take 8).map (fun p => rootFrom 2 (p * 2 ^ 128) 68 0 % 2 ^ 64)

/-- A 64-bit word rotated right. -/
def rotrLong (x n : Nat) : Nat := x / 2 ^ n + x % 2 ^ n * 2 ^ (64 - n)

/-- `n` further words of the message schedule, the latest word first. -/
def shaLongSchedule : Nat → List Nat → List Nat
  | 0, w => w
  | n + 1, w =>
    let x := w.getD 1 0
    let y := w.getD 14 0
    let t := w.getD 15 0 + xor3 (rotrLong y 1) (rotrLong y 8) (y / 128) + w.getD 6 0
      + xor3 (rotrLong x 19) (rotrLong x 61) (x / 64)
    shaLongSchedule n (t % 2 ^ 64 :: w)

/-- One round with `kw` the sum of its constant and its schedule word. -/
def shaLongStep (s : ShaWords) (kw : Nat) : ShaWords :=
  let t := s.h + xor3 (rotrLong s.e 14) (rotrLong s.e 18) (rotrLong s.e 41)
    + Nat.xor (Nat.land s.e s.f) (Nat.land (2 ^ 64 - 1 - s.e) s.g) + kw
  let u := xor3 (rotrLong s.a 28) (rotrLong s.a 34) (rotrLong s.a 39)
    + xor3 (Nat.land s.a s.b) (Nat.land s.a s.c) (Nat.land s.b s.c)
  ⟨(t + u) % 2 ^ 64, s.a, s.b, s.c, (s.d + t) % 2 ^ 64, s.e, s.f, s.g⟩

/-- One block of 128 bytes. -/
def shaLongBlock (h : List Nat) (bs : List Byte) : List Nat :=
  let w := (shaLongSchedule 64 ((cutInto 8 16 bs).map beNat).reverse).reverse
  let g (i : Nat) : Nat := h.getD i 0
  let s := (List.zipWith (· + ·) shaLongRound w).foldl shaLongStep ⟨g 0, g 1, g 2, g 3, g 4, g 5, g 6, g 7⟩
  List.zipWith (fun x y => (x + y) % 2 ^ 64) h [s.a, s.b, s.c, s.d, s.e, s.f, s.g, s.h]

/-- SHA-384: 48 bytes. -/
def sha384 (bs : List Byte) : List Byte :=
  let n := (bs.length + 17 + 127) / 128
  let full := zeroFill (128 * n - 16) (bs ++ [0x80]) ++ beBytes 16 (8 * bs.length)
  ((((cutInto 128 n full).foldl shaLongBlock shaLongStart).take 6).map (beBytes 8)).flatten

/-! ### HKDF -/

/-- HMAC-SHA-256. -/
def hmac256 (key bs : List Byte) : List Byte :=
  let k := zeroFill 64 (if 64 < key.length then sha256 key else key)
  sha256 (k.map (· ^^^ 0x5C) ++ sha256 (k.map (· ^^^ 0x36) ++ bs))

/-- Blocks `i` and on of HKDF's expansion, `n` of them, `t` the one before. -/
def hkdfBlocks (prk info : List Byte) : Nat → Nat → List Byte → List Byte
  | 0, _, _ => []
  | n + 1, i, t =>
    let t := hmac256 prk (t ++ info ++ [BitVec.ofNat 8 i])
    t ++ hkdfBlocks prk info n (i + 1) t

/-- HKDF-SHA-256: `len` bytes from an input key, a salt and an info. -/
def hkdf (key salt info : List Byte) (len : Nat) : List Byte :=
  (hkdfBlocks (hmac256 salt key) info (ceilDiv len 32) 1 []).take len

/-! ### AES-256 -/

/-- A byte times x in AES's field. -/
def aesDouble (x : Nat) : Nat := if x < 128 then 2 * x else Nat.xor (2 * x % 256) 0x1B

/-- Product in AES's field, from the low `k` bits of `y`. -/
def aesMul : Nat → Nat → Nat → Nat
  | 0, _, _ => 0
  | k + 1, x, y => Nat.xor (if y % 2 = 1 then x else 0) (aesMul k (aesDouble x) (y / 2))

/-- `x` to the power 2 ^ k - 2, the inverse for k = 8: from `p` so far, `x` the running square. -/
def aesInverse : Nat → Nat → Nat → Nat
  | 0, _, p => p
  | k + 1, x, p => let x := aesMul 8 x x; aesInverse k x (aesMul 8 p x)

/-- The S-box of a byte: inverse, then the affine map. -/
def aesBox (x : Nat) : Nat :=
  let i := aesInverse 7 x 1
  let r (k : Nat) : Nat := i * 2 ^ k % 256 + i / 2 ^ (8 - k)
  Nat.xor 0x63 (Nat.xor i (Nat.xor (Nat.xor (r 1) (r 2)) (Nat.xor (r 3) (r 4))))

/-- The S-box as a table. -/
def aesTable : List Nat := (List.range 256).map aesBox

/-- The S-box of a byte. -/
def aesSub (x : Nat) : Nat := aesTable.getD x 0

/-- `n` further words of the key schedule, the latest first; the next has number `i`, round constant `rc`. -/
def aesExpand : Nat → Nat → Nat → List (List Nat) → List (List Nat)
  | 0, _, _, w => w
  | n + 1, i, rc, w =>
    let p := w.headD []
    let t :=
      if i % 8 = 0 then List.zipWith Nat.xor ((p.drop 1 ++ p.take 1).map aesSub) [rc, 0, 0, 0]
      else if i % 8 = 4 then p.map aesSub
      else p
    aesExpand n (i + 1) (if i % 8 = 0 then aesDouble rc else rc) (List.zipWith Nat.xor (w.getD 7 []) t :: w)

/-- The 15 round keys of a 32-byte key. -/
def aesKeys (key : List Byte) : List (List Nat) :=
  let w := (aesExpand 52 8 1 (cutInto 4 8 (key.map (·.toNat))).reverse).reverse
  (cutInto 4 15 w).map (·.flatten)

/-- Bytes substituted, then rows shifted: the state lies by columns. -/
def aesShift (s : List Nat) : List Nat := (List.range 16).map (fun i => aesSub (s.getD ((i + 4 * (i % 4)) % 16) 0))

/-- One column mixed. -/
def aesColumn (c : List Nat) : List Nat :=
  (List.range 4).map (fun i =>
    let g (k : Nat) : Nat := c.getD ((i + k) % 4) 0
    Nat.xor (Nat.xor (aesDouble (g 0)) (Nat.xor (aesDouble (g 1)) (g 1))) (Nat.xor (g 2) (g 3)))

/-- The rounds after the first key, the last without mixing. -/
def aesRounds : List (List Nat) → List Nat → List Nat
  | [], s => s
  | [k], s => List.zipWith Nat.xor (aesShift s) k
  | k :: r, s => aesRounds r (List.zipWith Nat.xor ((cutInto 4 4 (aesShift s)).map aesColumn).flatten k)

/-- One block of 16 bytes under AES with these round keys. -/
def aesBlock (keys : List (List Nat)) (bs : List Byte) : List Byte :=
  let s := List.zipWith Nat.xor (bs.map (·.toNat)) (keys.headD [])
  (aesRounds keys.tail s).map (BitVec.ofNat 8)

/-! ### GCM -/

/-- Product in GCM's field, bits taken from the most significant down: `k` bits of `x` left, `v` the running multiple. -/
def gcmMul : Nat → Nat → Nat → Nat → Nat
  | 0, _, _, z => z
  | k + 1, x, v, z =>
    gcmMul k x (if v % 2 = 1 then Nat.xor (v / 2) (0xE1 * 2 ^ 120) else v / 2) (if bitOf x k then Nat.xor z v else z)

/-- GHASH of blocks under the hash key `h`. -/
def gcmHash (h : Nat) (bs : List Byte) : Nat :=
  (cutInto 16 (bs.length / 16) bs).foldl (fun y x => gcmMul 128 (Nat.xor y (beNat x)) h 0) 0

/-- Zeros to whole blocks. -/
def gcmPad (bs : List Byte) : List Byte := zeroFill (16 * ceilDiv bs.length 16) bs

/-- AES-256-GCM under a 96-bit nonce: the ciphertext and the 16-byte tag. -/
def gcmSeal (key nonce aad plain : List Byte) : List Byte × List Byte :=
  let keys := aesKeys key
  let block (i : Nat) : List Byte := aesBlock keys (nonce ++ beBytes 4 i)
  let n := ceilDiv plain.length 16
  let ct := (List.zipWith xorBytes (cutInto 16 n plain) ((List.range n).map (fun i => block (i + 2)))).flatten
  let h := beNat (aesBlock keys (List.replicate 16 0))
  let y := gcmHash h (gcmPad aad ++ gcmPad ct ++ beBytes 8 (8 * aad.length) ++ beBytes 8 (8 * ct.length))
  (ct, xorBytes (block 1) (beBytes 16 y))

/-- A ciphertext opened: its plaintext, none if the tag is another. -/
def gcmOpen (key nonce aad ct tag : List Byte) : Option (List Byte) :=
  let plain := (gcmSeal key nonce aad ct).1
  if (gcmSeal key nonce aad plain).2 = tag then some plain else none

end Sys2Proof.Machine
end

