-- ==== Sys2Proof/Machine/Seal.lean ====
section
/-!
DEFINITION. Link and UDP sessions as a message is sealed under them (R81, R242, R243, R471): keys, secrets, session IDs, and the
bytes that leave the module.
-/

namespace Sys2Proof.Machine

/-- Lysrov port `p` beside its registers. -/
def Block.lnkPort (b : Block) (p : Nat) : LnkPort := b.lnk.ports.getD p LnkPort.reset

/-- Change port `p`. -/
def Block.onLnk (b : Block) (p : Nat) (f : LnkPort → LnkPort) : Block :=
  { b with lnk.ports := b.lnk.ports.modify p f }

/-- The session of port `p` ends: its ID, nonces and secret go (R240, R473). -/
def Block.endSession (b : Block) (p : Nat) : Block :=
  let old := b.get (F.LNKn_SESSION_ID p)
  let b := (b.set (F.LNKn_STATUS_SESSION_UP p) 0).set (F.LNKn_SESSION_ID p) 0
  b.onLnk p (fun q => { q with ownNonce := none, partner := none, sent := false, secret := [], underPrev := false, passed := []
                               ended := if old = 0 then q.ended else old })

/-- Does Lysrov port `p` carry chain traffic: it is UP, rightly cabled, and not a head's other port (R234, R236)? -/
def Block.carries (b : Block) (p : Nat) : Bool :=
  b.bit (F.LNKn_STATUS_UP p) && !(b.lnkPort p).wrong && (!b.isHead || (b.cfg.topo.map (·.chainPort)) == some p)

/-- Cells sent (`way` 0) or received (1) on port `p` are counted (R278). Idle cells are not counted, and a TIME frame is taken to
fill one cell (DESIGN CHOICE, log entry 70). -/
def Block.countCells (b : Block) (p way n : Nat) : Block := b.countPair (F.LNKn_CNT_Ti_LO p way) (F.LNKn_CNT_Ti_HI p way) n

/-- Cells of a message in its C frame, or a DATA message in its BULK frame: 4 bytes of header or start word before it (R238, R239). -/
def msgCells (m : Msg) : Nat := (4 + m.length + 63) / 64

/-- The chain key as the security core holds it: the current or the previous one; none while it holds none (R470). -/
def Block.chainKey (b : Block) (prev : Bool) : Option SecKey :=
  if b.bit F.SEC_STATUS_CHAIN_KEY then b.upd.keys.getD (if prev then 1 else 0) none else none

/-- The wall key that a message of a session open names by its VERSION: the previous one if that is its version, else the current
one (R470, R471; DEDUCED, log entry 66). -/
def Block.wallKey (b : Block) (version : Nat) : Option SecKey :=
  if b.bit F.SEC_STATUS_WALL_KEY then
    match b.upd.keys.getD 3 none with
    | some k => if k.version = version then some k else b.upd.keys.getD 2 none
    | none => b.upd.keys.getD 2 none
  else none

/-- Secret (32 bytes) and ID of a link session (R242). -/
def linkSecret (key : List Byte) (westNonce eastNonce chain westSerial eastSerial : Nat) : List Byte × Nat :=
  let serial (n : Nat) : List Byte := leBytes 4 (n / 2 ^ 32) ++ leBytes 4 n
  let bs := hkdf key (leBytes 16 westNonce ++ leBytes 16 eastNonce)
    (ascii "LYSROV" ++ leBytes 1 chain ++ serial westSerial ++ serial eastSerial) 36
  (bs.take 32, leNat (bs.drop 32))

/-- Secret of a UDP session (R471). -/
def udpSecret (key : List Byte) (nonceI nonceR initiator responder : Nat) : List Byte :=
  hkdf key (leBytes 16 nonceI ++ leBytes 16 nonceR) (ascii "OLVUDP" ++ leBytes 4 initiator ++ leBytes 4 responder) 32

/-- The cache's entry for a node (R88). -/
def Block.endpointOf (b : Block) (n : Nat) : Option Endpoint := b.hif.endpoints.find? (·.node == n)

/-- The open UDP session with a node (R471). -/
def Block.udpSession (b : Block) (n : Nat) : Option UdpSession := b.hif.sessions.find? (fun s => s.node == n && s.up)

/-- The node whose session serves node `n` at UDP address `a`: itself if the cache holds it, else the one that the cache holds at
that address. -/
def Block.udpPeer (b : Block) (a : UdpAddr) (n : Nat) : Nat :=
  if (b.endpointOf n).isSome then n
  else ((b.hif.endpoints.find? (fun e => e.addr.v6 == a.v6 && e.addr.ip == a.ip)).map (·.node)).getD n

/-- The open session on the way `v` for messages to or from node `n`: over UDP the node's own, or that of a node with the same
address, which forwards for it (R86; DEDUCED, log entry 64). -/
def Block.sessionWith (b : Block) (a : UdpAddr) (n : Nat) : Option UdpSession :=
  match b.udpSession n with
  | some s => some s
  | none =>
    let near := b.hif.endpoints.filter (fun e => e.addr.v6 == a.v6 && e.addr.ip == a.ip)
    near.findSome? (fun e => b.udpSession e.node)

/-- Is a session open on the way `v` (toward or from node `n`)? -/
def Block.sessionOpen (b : Block) (v : Via) (n : Nat) : Bool :=
  match v with
  | .lnk p => b.bit (F.LNKn_STATUS_SESSION_UP p)
  | .udp _ a => (b.sessionWith a n).isSome
  | .loopback => true

/-- The ID of the session on the way `v`. -/
def Block.sessionId (b : Block) (v : Via) (n : Nat) : Nat :=
  match v with
  | .lnk p => b.get (F.LNKn_SESSION_ID p)
  | .udp _ a => ((b.sessionWith a n).map (·.id)).getD 0
  | .loopback => 0

/-- The secret of the session on the way `v`. -/
def Block.sessionSecret (b : Block) (v : Via) (n : Nat) : List Byte :=
  match v with
  | .lnk p => (b.lnkPort p).secret
  | .udp _ a => ((b.sessionWith a n).map (·.secret)).getD []
  | .loopback => []

/-- Is a session of this ID open still? -/
def Block.sessionLives (b : Block) (id : Nat) : Bool :=
  id != 0 && (b.get (F.LNKn_SESSION_ID 0) == id || b.get (F.LNKn_SESSION_ID 1) == id
    || b.hif.sessions.any (fun s => s.up && s.id == id))

/-- The 96-bit nonce of a message under session `id` (R81). -/
def sealNonce (m : Msg) (id : Nat) : List Byte :=
  leBytes 4 id ++ leBytes 4 (m.src % 2 ^ 31 + (if m.response then 2 ^ 31 else 0)) ++ leBytes 4 m.seq

/-- A message sealed under a message key and a session ID: header, ciphertext, tag (R81). -/
def sealWith (m : Msg) (key : List Byte) (id : Nat) : List Byte :=
  let (ct, tag) := gcmSeal key (sealNonce m id) m.headerBytes m.body.bytes
  m.headerBytes ++ ct ++ tag

/-- The key of messages to DEST under a session's secret (R243); the spec names no salt (log entry 66). -/
def messageKey (secret : List Byte) (dest : Nat) : List Byte := hkdf secret [] (leBytes 4 dest) 32

/-- The key of messages to DEST under session 0 (R471). -/
def zeroKey (wall : List Byte) (dest : Nat) : List Byte := hkdf wall [] (ascii "OLVUDP0" ++ leBytes 4 dest) 32

/-- The wall key VERSION that a message of a session open carries (R471). -/
def keyVersion : Body → Option Nat
  | .hello _ v => some v
  | .accept _ _ _ v => some v
  | _ => none

/-- The bytes of a message as it leaves on the way `v`: sealed under the session there, SESSION_HELLO and SESSION_ACCEPT under
session 0 (R81, R243, R471). -/
def Block.wire (b : Block) (v : Via) (m : Msg) : List Byte :=
  match v with
  | .loopback => m.slotBytes
  | _ =>
    match keyVersion m.body with
    | some ver => sealWith m (zeroKey (((b.wallKey ver).map (·.bytes)).getD []) m.dest) 0
    | none => sealWith m (messageKey (b.sessionSecret v m.dest) m.dest) (b.sessionId v m.dest)

end Sys2Proof.Machine
end

