-- ==== Sys2Proof/Machine/EthTx.lean ====
section
/-!
DEFINITION. Transmission on the Ethernet ports: classes and queues (R140), next hops (R139), and the departure of a
message by its way.
-/

namespace Sys2Proof.Machine

/-- Ethernet port `n` beside its registers. -/
def Block.ethPort (b : Block) (n : Nat) : EthPort := b.eth.getD n EthPort.reset

/-- Change port `n`. -/
def Block.onEth (b : Block) (n : Nat) (f : EthPort → EthPort) : Block := { b with eth := b.eth.modify n f }

/-- A frame is dropped at transmission (R139, R140): counted, flagged. -/
def Block.txDrop (b : Block) (n : Nat) : Block := (b.countSat (F.ETHn_CNT_Ei n 9) 1).raise (E.ETHn_TX_DROP n)

/-- A frame becomes ready: it joins its class's queue of 64 KiB, or is dropped (R140). DESIGN CHOICE (log entry 65): a frame
for a port with EN = 0 is counted in TX_DROP and sets no bit of ETHn_ERR. -/
def Block.ethQueue (b : Block) (n : Nat) (t : TxFrame) : Block :=
  let held := (((b.ethPort n).queue.filter (·.cls == t.cls)).map (·.len)).sum
  if !b.bit (F.ETHn_CTRL_EN n) then b.countSat (F.ETHn_CNT_Ei n 9) 1
  else if 65536 < held + t.len then b.txDrop n
  else b.onEth n (fun q => { q with queue := q.queue ++ [t] })

/-- Length on the wire of `payload` bytes behind `hdr` bytes of headers (tag by ETHn_TX_PCP.TAG), 64 at least. -/
def Block.frameLen (b : Block) (n hdr payload : Nat) : Nat :=
  max 64 (18 + (if b.bit (F.ETHn_TX_PCP_TAG n) then 4 else 0) + hdr + payload)

/-- What goes out with the port's 802.1Q tag: the PCP of its class and VID (R140). -/
def Block.withTag (b : Block) (n cls : Nat) (item : Out) : Out :=
  if b.bit (F.ETHn_TX_PCP_TAG n) then .tagged cls (b.get (F.ETHn_TX_PCP_VID n)) item else item

/-- A frame of class `cls` that carries `item` in `payload` bytes behind `hdr` bytes of headers. -/
def Block.txFrame (b : Block) (n sub cls hdr payload : Nat) (item : Out) : TxFrame :=
  ⟨sub, cls, b.frameLen n hdr payload, b.withTag n cls item⟩

/-- A 128-bit address held in four words, word 0 first. -/
def Block.addr128 (b : Block) (w : Nat → Fld) : Nat :=
  ((b.get (w 0) * 2 ^ 32 + b.get (w 1)) * 2 ^ 32 + b.get (w 2)) * 2 ^ 32 + b.get (w 3)

/-- The port's own address; 0 disables the version (R139). -/
def Block.ownIp (b : Block) (n : Nat) (v6 : Bool) : Nat :=
  if v6 then b.addr128 (F.ETHn_IP6w n) else b.get (F.ETHn_IP4 n)

/-- The next hop of a destination: itself within the prefix, else the gateway (R139). -/
def Block.nextHop (b : Block) (n : Nat) (v6 : Bool) (dst : Nat) : Nat :=
  let own := b.ownIp n v6
  if v6 then
    let k := 128 - min 128 (b.get (F.ETHn_IP_CFG_PREFIX6 n))
    if own / 2 ^ k = dst / 2 ^ k then dst else b.addr128 (F.ETHn_GW6w n)
  else
    let k := 32 - min 32 (b.get (F.ETHn_IP_CFG_PREFIX4 n))
    if own / 2 ^ k = dst / 2 ^ k then dst else b.get (F.ETHn_GW4 n)

/-- Is the address a multicast group (or the IPv4 broadcast)? -/
def isGroup (v6 : Bool) (ip : Nat) : Bool := if v6 then ip / 2 ^ 120 == 255 else decide (224 * 2 ^ 24 ≤ ip)

/-- An IP datagram of `len` bytes of UDP or ICMP and payload becomes ready on port `n` (R139, R140). DESIGN CHOICE (log
entry 65): from a port whose address of the version is zero it is dropped as R140 drops, with TX_DROP and ETHn_ERR.TX_DROP. -/
def Block.ethSendIp (b : Block) (n sub cls : Nat) (v6 : Bool) (dst len : Nat) (item : Out) : Block :=
  let t := b.txFrame n sub cls (if v6 then 40 else 20) len item
  if b.ownIp n v6 = 0 then b.txDrop n
  else if isGroup v6 dst then b.ethQueue n t
  else
    let ip := b.nextHop n v6 dst
    let hops := (b.ethPort n).hops
    match hops.find? (fun h => h.v6 == v6 && h.ip == ip) with
    | some h =>
      if h.resolved then b.ethQueue n t
      else b.onEth n (fun q => { q with hops := q.hops.map (fun g =>
        if g.v6 == v6 && g.ip == ip then { g with waiting := g.waiting ++ [t] } else g) })
    | none =>
      let b := b.onEth n (fun q => { q with hops := q.hops ++ [⟨v6, ip, false, b.clk + 1000000000, [t]⟩] })
      b.ethQueue n (b.txFrame n 0 (b.get (F.ETHn_TX_PCP_MSG n)) (if v6 then 40 else 0) (if v6 then 32 else 28) (.resolve n ip))

/-- The cache's entries that a send to node `n` at address `a` uses become the latest used (R88). -/
def Block.endpointUsed (b : Block) (a : UdpAddr) (n : Nat) : Block :=
  let used (e : Endpoint) : Bool := if (b.endpointOf n).isSome then e.node == n else e.addr.v6 == a.v6 && e.addr.ip == a.ip
  { b with hif.endpoints := b.hif.endpoints.filter (fun e => !used e) ++ b.hif.endpoints.filter used }

/-- A message leaves on its way, sealed: into a Lysrov port, or as a datagram on an Ethernet port (R81, R86, R88, R140). -/
def Block.depart (b : Block) (v : Via) (m : Msg) : Block :=
  let item := Out.msg v m (b.wire v m)
  match v with
  | .udp n a => (b.endpointUsed a m.dest).ethSendIp n 0 (b.get (F.ETHn_TX_PCP_MSG n)) a.v6 a.ip (8 + m.length) item
  | .lnk p => (b.countCells p 0 (msgCells m)).emit item
  | .loopback => b.emit item

/-- Several messages leave, in order. -/
def Block.departAll (b : Block) (l : List (Via × Msg)) : Block := b.each l (fun x b => b.depart x.1 x.2)

end Sys2Proof.Machine
end

