-- ==== Sys2Proof/Machine/Hif.lean ====
section
/-!
DEFINITION. Message rings, sequence numbers, routing and mailboxes of HIF (R79 to R94), shared by every row that takes or
sends a message.
-/

namespace Sys2Proof.Machine

/-! ### Rings (R89 to R92) -/

/-- The broadcast node ID (R21). -/
def nodeAll : Nat := 0x3FFFF

/-- Is the node ID reserved (R21)? -/
def nodeReserved (n : Nat) : Bool := 250000 < n && n < nodeAll

/-- The empty ring of node `n`. -/
def Ring.empty (n : Nat) : Ring := ⟨n, false, 0, [], [], [], [], 0, 0, 0, 0, 0, 0, 0, 0, 0⟩

/-- Ring `n`. -/
def Block.ring (b : Block) (n : Nat) : Ring := (b.hif.rings.find? (·.node == n)).getD (Ring.empty n)

/-- The descriptor's bytes (R89). -/
def Ring.descriptor (pool clk : Nat) (r : Ring) : List Byte :=
  let page (l : List Nat) : Nat := match l with | [] => 0 | i :: _ => pool + 4096 * i
  let bs :=
    leBytes 4 ((if r.populated then 1 else 0) + 2 * r.depth) ++ leBytes 4 r.node ++ leBytes 8 (page r.inPages)
      ++ leBytes 4 r.inHead ++ leBytes 4 r.inTail ++ leBytes 8 (page r.outPages) ++ leBytes 4 r.outHead
      ++ leBytes 4 r.outTail ++ leBytes 4 r.inDrop ++ leBytes 4 r.lastIn ++ leBytes 4 r.lastOut ++ leBytes 4 ((clk - r.moved) / 1000000000)
      ++ leBytes 4 r.session
  bs ++ leBytes 4 (crc32c bs)

/-- Put a ring back: the typed copy in node order, and its descriptor in the table in DRAM. -/
def Block.setRing (b : Block) (r : Ring) : Block :=
  let l := b.hif.rings
  let l : List Ring := l.filter (fun q => decide (q.node < r.node)) ++ [r] ++ l.filter (fun q => decide (r.node < q.node))
  let b := { b with hif.rings := l }
  b.dramWrite 0 (64 * r.node) (r.descriptor b.ringPool.base b.clk)

/-- Pages per half for a DEPTH code (R90). -/
def depthPages (d : Nat) : Nat := if d = 0 then 1 else if d = 1 then 2 else 4

/-- Slots of a half (R90). -/
def Ring.slots (r : Ring) : Nat := 16 * depthPages r.depth

/-- The pool pages that rings hold, or that are lost until the next reset (R92). -/
def Block.usedPages (b : Block) : List Nat :=
  b.hif.lostPages ++ (b.hif.rings.map (fun r => r.inPages ++ r.outPages)).flatten

/-- The lowest run of `p` free pages of the pool. R90 names neither the pages nor whether they adjoin: the model takes the lowest
adjoining ones, and calls the pool exhausted where none adjoin (DESIGN CHOICE, log entry 64). -/
def Block.freeRun (b : Block) (used : List Nat) (p : Nat) : Option (List Nat) :=
  let total := b.get F.HIF_RING_POOL_SIZE_MIB * 256
  let run (i : Nat) := (List.range p).map (i + ·)
  let fits := (0 :: used.map (· + 1)).filter (fun i => i + p ≤ total && (run i).all (fun k => !used.contains k))
  match fits with
  | [] => none
  | i :: r => some (run (r.foldl min i))

/-- POPULATED and PAGES follow the rings (R102). -/
def Block.ringStatus (b : Block) : Block :=
  (b.set F.HIF_RING_STATUS_POPULATED (b.hif.rings.filter (·.populated)).length).set
    F.HIF_RING_POOL_USED_PAGES b.usedPages.length

/-- The 64 bytes of ring `n`'s descriptor as DRAM holds them. -/
def Block.ringBytes (b : Block) (n : Nat) : List Byte := b.dramBytes (64 * n) 64

/-- Is the descriptor cleared, or its CHECK right (R89, R92)? -/
def ringSound (bs : List Byte) : Bool := bs.all (· == 0) || leNat (bs.drop 60) == crc32c (bs.take 60)

/-- A descriptor whose CHECK failed: the ring is cleared, its pages are lost to the pool until the next reset, and
0x0123 is recorded at most once in any second (R92, R103). -/
def Block.ringCheckFailed (b : Block) (n : Nat) : Block :=
  let r := b.ring n
  let b := { b with hif.lostPages := b.hif.lostPages ++ r.inPages ++ r.outPages }
  let b := (b.setRing (Ring.empty n)).ringStatus
  let due := match b.hif.ringCheckLast with
    | none => true
    | some t => t + 1000000000 ≤ b.clk
  if due then { b with hif.ringCheckLast := some b.clk }.submit 0x0123 noDetail else b

/-- HIF reads ring `n`'s descriptor and checks it (R92). -/
def Block.readRing (b : Block) (n : Nat) : Block :=
  let b := b.dramUse 0 (64 * n) 64
  if ringSound (b.ringBytes n) then b else b.ringCheckFailed n

/-- A byte of the ring table as a read finds it: IDLE and CHECK of a sound descriptor follow the clock (R89). -/
def Block.tableByte (b : Block) (a : Nat) : Byte :=
  match b.hif.rings.find? (·.node == a / 64) with
  | some r => if ringSound (b.ringBytes (a / 64)) then (r.descriptor b.ringPool.base b.clk).getD (a % 64) 0 else b.dramByte a
  | none => b.dramByte a

/-- `n` bytes of DRAM from address `a` up as a FETCH reads them, the ring table among them (R89, R96). -/
def Block.dramRead (b : Block) (a n : Nat) : List Byte :=
  (List.range n).map (fun i => if a + i < ringTable.len then b.tableByte (a + i) else b.dramByte (a + i))

/-- Ring `n` populated: the ring as it is, or with pages taken from the pool; none if the pool is exhausted (R90). -/
def Block.populate (b : Block) (n : Nat) : Option Block :=
  let r := b.ring n
  if r.populated then some b
  else
    let d := b.get F.HIF_RING_CTRL_DEPTH
    let p := depthPages d
    match b.freeRun b.usedPages p with
    | none => none
    | some i =>
      match b.freeRun (b.usedPages ++ i) p with
      | none => none
      | some o => some ((b.setRing { r with populated := true, depth := d, inPages := i, outPages := o, moved := b.clk }).ringStatus)

/-- A message that cannot be queued for want of pool pages (R91). -/
def Block.poolFull (b : Block) : Block := (b.count F.HIF_DROP_POOL 1).raise E.HIF_POOL_FULL

/-- Queue a message in the inbound half of ring `n` (R90, R91). A path that presents nothing goes on presenting nothing until its next
write of HIF_RX_SEL or HIF_RX_POP: R93 names no other instant (DESIGN CHOICE, log entry 64). -/
def Block.queueIn (b : Block) (n : Nat) (m : Msg) : Block :=
  if nodeReserved n || n == nodeAll then b
  else
    let b := b.readRing n
    match b.populate n with
    | none => b.poolFull
    | some b =>
      let r := b.ring n
      if r.inQ.length < r.slots then
        let page := r.inPages.headD 0
        let b := b.dramWrite 0 (b.ringPool.base + 4096 * page + 256 * (r.inHead % r.slots)) m.slotBytes
        let b := b.setRing { r with inQ := r.inQ ++ [m], inHead := (r.inHead + 1) % 2 ^ 32, moved := b.clk }
        b.irq F.HIF_IRQ_STATUS_RX_AVAIL
      else
        let b := b.setRing { r with inDrop := (r.inDrop + 1) % 2 ^ 32 }
        (b.count F.HIF_DROP_FULL 1).raise E.HIF_RING_FULL

/-- An idle ring returns its pages (R90). -/
def Block.releaseRing (b : Block) (n : Nat) : Block :=
  let r := b.ring n
  (b.setRing { r with populated := false, inPages := [], outPages := [], inQ := [], outQ := [] }).ringStatus

/-! ### Routing (R86, R87, R272) -/

/-- The module's own slot. -/
def Block.slotNumber (b : Block) : Nat := b.get F.LNK_CHAIN_STATUS_SLOT

/-- Where a message goes by its DEST. -/
inductive Route where
  | here | out (v : Via) | nowhere
  deriving DecidableEq, Repr

/-- The slot of a node of the module's chain (R86 step 2). -/
def Block.slotOfNode (b : Block) (n : Nat) : Option Nat :=
  match b.cfg.topo with
  | none => none
  | some t => if n = 0 then none else t.slotNode.findIdx? (· == n)

/-- Does the active head stand at the chain's west end (R234)? -/
def Block.activeWest (b : Block) : Bool :=
  match b.cfg.topo with
  | some t =>
    let occ := t.slotNode.filter (· != 0)
    occ.head? == some b.lnk.activeNode || occ.getLast? != some b.lnk.activeNode
  | none => true

/-- Is slot `s` beyond the split slot, as seen from the active head's end (R270)? -/
def Block.beyondSplit (b : Block) (s : Nat) : Bool :=
  b.bit F.LNK_CHAIN_STATUS_SPLIT &&
    (if b.activeWest then b.get F.LNK_CHAIN_STATUS_SPLIT_SLOT ≤ s else s ≤ b.get F.LNK_CHAIN_STATUS_SPLIT_SLOT)

/-- The Lysrov port toward slot `s`: slots ascend eastward, LNK1 faces east (R234). -/
def Block.portToward (b : Block) (s : Nat) : Nat := if b.slotNumber < s then 1 else 0

/-- The port toward the active head (LNKn_STATUS.TOWARD_ACTIVE), LNK0 if none is marked. -/
def Block.portToActive (b : Block) : Nat := if b.bit (F.LNKn_STATUS_TOWARD_ACTIVE 1) then 1 else 0

/-- The Ethernet port that carries datagrams: the lowest enabled one whose link is up, else ETH0. -/
def Block.udpPort (b : Block) : Nat :=
  if b.bit (F.ETHn_CTRL_EN 0) && b.bit (F.ETHn_STATUS_LINK 0) then 0
  else if b.bit (F.ETHn_CTRL_EN 1) && b.bit (F.ETHn_STATUS_LINK 1) then 1 else 0

/-- The other head's node: the other of the lowest and highest occupied slots whose module is a head (R234). -/
def Block.otherHead (b : Block) : Nat :=
  match b.cfg.topo with
  | none => 0
  | some t =>
    let occ := t.slotNode.filter (· != 0)
    if occ.headD 0 == b.node then occ.getLastD 0 else occ.headD 0

/-- The way over UDP to a node, if the cache holds it and UDP is enabled. -/
def Block.viaUdp (b : Block) (n : Nat) : Option Via :=
  if b.bit F.HIF_CTRL_UDP_EN then
    (b.endpointOf n).map (fun e => Via.udp b.udpPort { e.addr with port := b.get F.HIF_UDP_PORT_PORT })
  else none

/-- The route of a message by DEST (R86); `originated` tells a message of the module's own from one it forwards. -/
def Block.route (b : Block) (dest : Nat) (originated : Bool) : Route :=
  if dest = 0 ∨ dest = b.node then .here
  else if nodeReserved dest then .nowhere
  else
    let may := originated || !b.isHead || b.bit F.HIF_CTRL_FORWARD_EN
    match b.slotOfNode dest with
    | some s =>
      if !may then .nowhere
      else if b.beyondSplit s != b.beyondSplit b.slotNumber then
        if b.isHead then
          match b.viaUdp b.otherHead with
          | some v => .out v
          | none => .nowhere
        else .out (.lnk (1 - b.portToward s))
      else .out (.lnk (b.portToward s))
    | none =>
      match b.viaUdp dest with
      | some v => if may then .out v else .nowhere
      | none => if b.role == roleTile then .out (.lnk b.portToActive) else .nowhere

/-! ### Sessions and sequence numbers (R81 to R83) -/

/-- A new session takes the place of session `old`: the sources counted under it start again at 0 (R82). -/
def Block.sessionChanged (b : Block) (old new : Nat) : Block :=
  b.each (b.hif.rings.filter (fun r => old != 0 && r.session == old)) (fun r b => b.setRing { r with lastIn := 0, session := new })

/-- Send SESSION_HELLO to a node with no open session, once; it is repeated by its own timer (R471). -/
def Block.sendHello (b : Block) (n : Nat) : Block :=
  if (b.hif.hellos.find? (·.node == n)).isSome then b
  else
    let (k, b) := b.fresh
    let nonce := Config.freeNumber k % 2 ^ 128
    let b := { b with hif.hellos := b.hif.hellos ++ [⟨n, nonce, 0, b.clk + 10000000⟩] }
    match b.viaUdp n with
    | none => b
    | some v =>
      b.depart v (⟨0x28, false, false, true, 64, n, b.node, 0, .hello nonce (b.get F.SEC_WALL_VER)⟩)

/-- A message's slot in the outbound half of ring `n` is written, sent and freed; SESSION is the session it leaves by, if one is
named (R89, R90). -/
def Block.slotSent (b : Block) (n session : Nat) (m : Msg) : Block :=
  let r := b.ring n
  let b := b.dramWrite 0 (b.ringPool.base + 4096 * r.outPages.headD 0 + 256 * (r.outHead % r.slots)) m.slotBytes
  b.setRing { r with
    outHead := (r.outHead + 1) % 2 ^ 32, outTail := (r.outTail + 1) % 2 ^ 32, lastOut := m.seq, moved := b.clk
    session := if session = 0 ∨ b.sessionLives r.session then r.session else session }

/-- Put a message on its way through the outbound half of ring `n`: out if a session is open, else held there until one opens (R90,
R471). Answers the TX_STATUS.RESULT code and the state. -/
def Block.dispatchTo (b : Block) (n : Nat) (v : Via) (m : Msg) : Nat × Block :=
  let b := b.readRing n
  match b.populate n with
  | none => (5, b.poolFull)
  | some b =>
    let r := b.ring n
    if b.sessionOpen v n then (0, (b.slotSent n (b.sessionId v n) m).depart v m)
    else if r.outQ.length < r.slots then
      let b := b.dramWrite 0 (b.ringPool.base + 4096 * r.outPages.headD 0 + 256 * (r.outHead % r.slots)) m.slotBytes
      let b := b.setRing { r with outQ := r.outQ ++ [m], outHead := (r.outHead + 1) % 2 ^ 32, lastOut := m.seq, moved := b.clk }
      (0, match v with | .udp _ a => b.sendHello (b.udpPeer a n) | _ => b)
    else (1, (b.count F.HIF_DROP_FULL 1).raise E.HIF_RING_FULL)

/-- Put a message on its way through its destination's ring. -/
def Block.dispatch (b : Block) (v : Via) (m : Msg) : Nat × Block := b.dispatchTo m.dest v m

/-- A broadcast leaves by several ways through the outbound half of ring 0x3FFFF (R90). Answers the TX_STATUS.RESULT code. -/
def Block.sendWays (b : Block) (ways : List Via) (m : Msg) : Nat × Block :=
  let b := b.readRing m.dest
  match b.populate m.dest with
  | none => (5, b.poolFull)
  | some b => (0, (b.slotSent m.dest ((ways.map (fun v => b.sessionId v m.dest)).headD 0) m).departAll (ways.map (fun v => (v, m))))

/-- Messages held for node `n` leave over `v` once its session is open; requests among them count as sent under it. -/
def Block.flushNode (b : Block) (v : Via) (n : Nat) : Block :=
  let r := b.ring n
  if r.outQ.isEmpty then b
  else
    let id := b.sessionId v n
    let b := b.setRing { r with outQ := [], outTail := r.outHead, moved := b.clk, session := if b.sessionLives r.session then r.session else id }
    let held (q : Request) : Bool := q.dest == n && q.session == 0 && r.outQ.any (fun m => m.seq == q.seq)
    let b := { b with hif.requests := b.hif.requests.map (fun q => if held q then { q with session := id } else q) }
    b.departAll (r.outQ.map (fun m => (v, m)))

/-- Messages held for any node leave by the way R86 gives them if it passes a test. -/
def Block.flushWaiting (b : Block) (test : Nat → Via → Bool) : Block :=
  b.each ((b.hif.rings.filter (fun r => !r.outQ.isEmpty)).map (·.node)) (fun n b =>
    match b.route n true with
    | .out v => b.when (test n v) (·.flushNode v n)
    | _ => b)

/-- What waits for a UDP session with node `n` leaves once it is open (R471). -/
def Block.flushUdp (b : Block) (n : Nat) : Block :=
  let b := match b.viaUdp n with | some v => b.flushNode v n | none => b
  b.flushWaiting (fun k v => match v with | .udp _ a => b.udpPeer a k == n | _ => false)

/-- The next sequence number of the module's single counter. Before it would wrap, every session ends, link sessions and UDP
sessions open anew, and it starts again at 1: nothing leaves under SEQ 1 by an old session (R82, R243). -/
def Block.nextSeq (b : Block) : Nat × Block :=
  if b.hif.seq + 1 < 2 ^ 32 then (b.hif.seq + 1, { b with hif.seq := b.hif.seq + 1 })
  else
    let nodes := (b.hif.sessions.filter (·.up)).map (·.node)
    let b := (b.endSession 0).endSession 1
    let b := { b with hif.sessions := b.hif.sessions.map (fun (s : UdpSession) => { s with up := false, secret := [] }), hif.seq := 1 }
    (1, b.each nodes (fun n b => b.sendHello n))

/-- The LENGTH of a sealed message with this payload (R79). -/
def sealedLength (body : Body) : Nat := 16 + body.bytes.length + 16

/-- The module's own message of a type, with its next SEQ. -/
def Block.compose (b : Block) (type dest : Nat) (body : Body) : Msg × Block :=
  let (seq, b) := b.nextSeq
  (⟨type, false, false, true, sealedLength body, dest, b.node, seq, body⟩, b)

/-- Is the message a request that awaits a response (R83)? A FETCH is matched under R95. -/
def isRequest (type : Nat) : Bool := type == 0x01 || type == 0x18 || type == 0x19 || type == 0x2A

/-- Does the request await its response still? One to every node always does. -/
def Request.awaits (q : Request) : Bool := q.dest == nodeAll || q.from'.isEmpty

/-- Remember a request that awaits its response: the last 64 such of each destination; one whose response has been accepted stays
as long as its session, so that a second copy is known (R83). -/
def Block.remember (b : Block) (dest seq session : Nat) : Block :=
  let mine (q : Request) : Bool := q.dest == dest && q.awaits
  let l := b.hif.requests.filter mine
  let rest := b.hif.requests.filter (fun q => !mine q && (q.session == 0 || b.sessionLives q.session))
  { b with hif.requests := rest ++ (l ++ [(⟨dest, seq, session, []⟩ : Request)]).drop (l.length - 63) }

/-- A message of the module's own leaves or is held; a request is remembered. -/
def Block.sendOut (b : Block) (v : Via) (m : Msg) : Nat × Block :=
  let (r, b) := b.dispatch v m
  (r, b.when (r == 0 && isRequest m.type) (fun b =>
    b.remember m.dest m.seq (if b.sessionOpen v m.dest then b.sessionId v m.dest else 0)))

/-- The ways a broadcast leaves: a head's chain port, a tile's two ports, but not the way it came (R87, R250). -/
def Block.broadcastPorts (b : Block) (arrived : Option Via) : List Via :=
  let ports : List Nat :=
    if b.isHead then match b.cfg.topo with | none => [] | some t => [t.chainPort] else [0, 1]
  (ports.map Via.lnk).filter (fun v => some v != arrived && (match v with | .lnk p => b.bit (F.LNKn_STATUS_SESSION_UP p) | _ => false))

/-- May the module originate a message of this type: one that has lost its identity sends nothing but Spores (R267)? -/
def Block.speaks (b : Block) (type : Nat) : Bool := !b.lnk.identityLost || type == 0x11

/-- Send a message of the module's own (R86, R87). Answers the TX_STATUS.RESULT code. -/
def Block.send (b : Block) (type dest : Nat) (body : Body) : Nat × Block :=
  if !b.speaks type then (2, b)
  else if dest = nodeAll then
    let (m, b) := b.compose type dest body
    let (r, b) := b.sendWays (b.broadcastPorts none) m
    let b := b.when (r == 0 && isRequest type) (·.remember nodeAll m.seq 0)
    let statics := if b.isHead && b.bit F.HIF_CTRL_UDP_EN then b.hif.endpoints.filter (·.static) else []
    (r, b.each statics (fun e b => match b.viaUdp e.node with | some v => (b.dispatchTo e.node v m).2 | none => b))
  else
    match b.route dest true with
    | .nowhere => (2, b.count F.HIF_DROP_DEST 1)
    | .here =>
      let (m, b) := b.compose type dest body
      let r := b.ring 0
      (if (b.populate 0).isNone then 5 else if r.populated && r.slots ≤ r.inQ.length then 1 else 0, b.queueIn 0 m)
    | .out v =>
      let (m, b) := b.compose type dest body
      b.sendOut v m

/-- Send, the outcome aside. -/
def Block.sendMsg (b : Block) (type dest : Nat) (body : Body) : Block := (b.send type dest body).2

/-- Send into the chain only, out of the given Lysrov ports. -/
def Block.sendChain (b : Block) (ports : List Nat) (type dest : Nat) (body : Body) : Block :=
  if !b.speaks type then b else
  let (m, b) := b.compose type dest body
  let (r, b) := b.sendWays ((ports.filter (fun p => b.bit (F.LNKn_STATUS_SESSION_UP p))).map Via.lnk) m
  b.when (r == 0 && isRequest type) (·.remember dest m.seq 0)

/-- Answer a request on the way it came (R85); a held copy is kept for duplicates (R83). -/
def Block.respond (b : Block) (rx : Rx) (error : Bool) (body : Body) : Block :=
  if !b.speaks rx.msg.type then b else
  let m : Msg := ⟨rx.msg.type, true, error, true, sealedLength body, rx.msg.src, b.node, rx.msg.seq, body⟩
  let b := { b with hif.held := ((rx.msg.src, m) :: b.hif.held.filter (·.1 != rx.msg.src)).take 64 }
  b.depart rx.via m

/-! ### Receiving (R80 to R83, R86 to R88) -/

/-- The largest LENGTH of a message type (R80, R250, R406, R462, R471); none for a type no chapter assigns. -/
def maxLength (t : Nat) : Option Nat :=
  if t = 0x01 ∨ t = 0x02 ∨ 0x40 ≤ t then some 256
  else if t = 0x03 then some 48
  else if t = 0x04 ∨ t = 0x2A then some 4144
  else if t = 0x10 then some 60
  else if t = 0x11 ∨ t = 0x12 then some 96
  else if t = 0x13 then some 144
  else if t = 0x15 ∨ t = 0x16 ∨ t = 0x17 ∨ t = 0x18 ∨ t = 0x19 ∨ t = 0x1A then some 48
  else if t = 0x20 ∨ t = 0x28 then some 64
  else if t = 0x29 then some 80
  else none

/-- Learn the endpoint of an authenticated UDP message (R88). -/
def Block.learn (b : Block) (rx : Rx) : Block :=
  match rx.via with
  | .udp _ a =>
    let l := b.hif.endpoints
    match l.find? (·.node == rx.msg.src) with
    | some e =>
      if e.static then b
      else { b with hif.endpoints := l.filter (·.node != rx.msg.src) ++ [⟨rx.msg.src, a, false⟩] }
    | none =>
      let l := if l.length < 256 then l else
        match l.findIdx? (fun e => !e.static) with
        | some i => l.eraseIdx i
        | none => l
      if l.length < 256 then { b with hif.endpoints := l ++ [⟨rx.msg.src, a, false⟩] } else b
  | _ => b

/-- A message that may not be taken: no AUTH, a failed tag, or no open session (R81). -/
def Block.authFail (b : Block) : Block := (b.count F.HIF_DROP_AUTH 1).raise E.HIF_AUTH

/-- What the receive checks answer: the message is dropped, is a duplicate, or is accepted. -/
inductive Taken where
  | dropped (b : Block) | duplicate (b : Block) | accepted (b : Block)
  deriving DecidableEq, Repr

/-- The cells of a message that arrives on a Lysrov port are counted (R278). -/
def Block.cellsIn (b : Block) (rx : Rx) : Block :=
  match rx.via with
  | .lnk p => b.countCells p 1 (msgCells rx.msg)
  | _ => b

/-- The checks of the path a message arrives by: UDP enabled, a Lysrov port that carries chain traffic (R234, R236), tag and session,
length and type (R80, R81). In the low-power states nothing is received (R440). -/
def Block.letIn (b : Block) (rx : Rx) : Taken :=
  let udpOff := match rx.via with | .udp _ _ => !b.bit F.HIF_CTRL_UDP_EN | .lnk p => !b.carries p | _ => false
  let b := if udpOff || b.pm.gate then b else b.cellsIn rx
  let from' := match rx.via with | .udp _ _ => rx.msg.src | _ => 0
  if udpOff || b.pm.gate then .dropped b
  else if rx.via == .loopback then .accepted b
  else if !rx.msg.auth || !rx.tagOk || !b.sessionOpen rx.via from' then .dropped b.authFail
  else
    let b := b.learn rx
    match maxLength rx.msg.type with
    | none => .dropped (b.count F.HIF_DROP_TYPE 1)
    | some n =>
      if n < rx.msg.length || rx.msg.length != rx.received then .dropped (b.count F.HIF_DROP_TYPE 1)
      else .accepted b

/-- The SEQ window of the source (R82); a response is exempt (R83). -/
def Block.window (b : Block) (rx : Rx) : Taken :=
  if rx.msg.response || rx.via == .loopback then .accepted b
  else
    let b := b.readRing rx.msg.src
    let r := b.ring rx.msg.src
    let sid := b.sessionId rx.via rx.msg.src
    let last := if b.sessionLives r.session then r.lastIn else 0
    let d := (rx.msg.seq + 2 ^ 32 - last) % 2 ^ 32
    if d = 0 then .duplicate (b.count F.HIF_DUP_COUNT 1)
    else if d < 2 ^ 31 then .accepted (b.setRing { r with lastIn := rx.msg.seq, session := if b.sessionLives r.session then r.session else sid })
    else .dropped ((b.count F.HIF_DROP_REPLAY 1).raise E.HIF_REPLAY)

/-- A frame that arrived by `from'` is relayed, or its onward port `o` is down: counted at the port it arrived on, at the onward one
if it came over UDP (R248, R278; DESIGN CHOICE, log entry 70). -/
def Block.countRelay (b : Block) (from' : Via) (o : Nat) (relayed : Bool) : Block :=
  match from', relayed with
  | .lnk p, true => b.countPair (F.LNKn_CNT_Ti_LO p 4) (F.LNKn_CNT_Ti_HI p 4) 1
  | .lnk p, false => b.countSat (F.LNKn_CNT_Ei p 4) 1
  | _, true => b
  | _, false => b.countSat (F.LNKn_CNT_Ei o 4) 1

/-- Would the SEQ of a message that passes through port `p` repeat within the session there: its source's counter has come round
(R243)? A response carries the SEQ of its request. -/
def Block.seqRepeats (b : Block) (p : Nat) (m : Msg) : Bool :=
  !m.response && (b.lnkPort p).passed.any (fun x => x.1 == m.src && decide (m.seq + 2 ^ 31 ≤ x.2))

/-- A message of another module leaves by Lysrov port `o` (R244), with a new session first where its SEQ would repeat (R243); while
no session is up there it is discarded (R248). -/
def Block.relayTo (b : Block) (from' : Via) (o : Nat) (m : Msg) : Block :=
  let b := if b.seqRepeats o m then b.endSession o else b
  if b.bit (F.LNKn_STATUS_SESSION_UP o) && b.carries o then
    let b := b.onLnk o (fun q => { q with passed := if m.response then q.passed else (m.src, m.seq) :: q.passed.filter (·.1 != m.src) })
    (b.depart (.lnk o) m).countRelay from' o true
  else b.countRelay from' o false

/-- A BULK frame passes a tile from port `p` to the other one, cut-through and with the cells that were wrong as zeros; without an
onward port it is dropped (R237, R238, R248). -/
def Block.passBulk (b : Block) (p : Nat) (m : Msg) (bad : List Nat) : Block :=
  let o := 1 - p
  if !b.isHead && b.carries o && b.bit (F.LNKn_CTRL_EN o) then (b.countCells o 0 (msgCells m)).emit (.bulk o m bad)
  else b.countSat (F.LNKn_CNT_Ei p 4) 1

/-- A received broadcast goes on to the rest of the chain: a tile relays it from port to port, a head passes on what did not come by
its chain port (R87). -/
def Block.forwardBroadcast (b : Block) (rx : Rx) : Block :=
  if rx.msg.dest = nodeAll then
    let ports : List Nat := if b.isHead then match b.cfg.topo with | none => [] | some t => [t.chainPort] else [0, 1]
    b.each (ports.filter (fun o => Via.lnk o != rx.via)) (fun o b => b.relayTo rx.via o rx.msg)
  else b

/-- A module that relays or takes a HEAD_STATE with the record of its own slot and serial holds that INCARN: R241 and R255 have it
send the INCARN of its node ID, and no rule says how it comes to know it (DESIGN CHOICE, log entry 69). -/
def Block.learnIncarn (b : Block) (m : Msg) : Block :=
  match m.body with
  | .headState h =>
    if b.bit F.LNK_CHAIN_STATUS_SLOT_VALID && h.idSlot == b.slotNumber && h.idSerial == b.fuses.serial then
      { b with lnk.incarn := h.idIncarn } else b
  | _ => b

/-- The whole receive path of a message that the module consumes: path checks, forwarding of a broadcast, the window. -/
def Block.receive (b : Block) (rx : Rx) : Taken :=
  match b.letIn rx with
  | .accepted b =>
    if nodeReserved rx.msg.dest then .dropped (b.count F.HIF_DROP_DEST 1)
    else (b.forwardBroadcast rx).window rx
  | t => t

/-- Does the module consume the message: its own ID, 0 or broadcast (R86, R87)? -/
def Block.consumes (b : Block) (m : Msg) : Bool := m.dest == 0 || m.dest == b.node || m.dest == nodeAll

/-- Run `f` on the state of an accepted message; a dropped or duplicate one ends with its count. -/
def Block.taking (b : Block) (rx : Rx) (f : Block → Block) : Block :=
  match b.receive rx with
  | .accepted b => f b
  | .duplicate b => b
  | .dropped b => b

/-! ### Mailbox (R93, R94) -/

/-- Path `p`'s mailbox. -/
def Block.box (b : Block) (p : Path) : Mailbox := b.hif.boxes.getD p.index ⟨none, 0, 0, [], false⟩

/-- Put path `p`'s mailbox back. -/
def Block.setBox (b : Block) (p : Path) (m : Mailbox) : Block := { b with hif.boxes := b.hif.boxes.set p.index m }

/-- The ring whose oldest message is to be presented: the selected one, or the next in round-robin order. -/
def Block.pickRing (b : Block) (sel last : Nat) : Option Ring :=
  if sel = nodeAll then
    let l := b.hif.rings.filter (fun r => !r.inQ.isEmpty)
    match l.find? (fun r => last < r.node) with
    | some r => some r
    | none => l.head?
  else
    let r := b.ring sel
    if r.inQ.isEmpty then none else some r

/-- HIF reads the descriptors of the rings that a selection names (R92). -/
def Block.readRings (b : Block) (sel : Nat) : Block :=
  if sel = nodeAll then b.each (b.hif.rings.map (·.node)) (fun n b => b.readRing n) else b.readRing sel

/-- Present the oldest message of the selected ring on path `p`; the data pointer starts again (R93). -/
def Block.present (b : Block) (p : Path) : Block :=
  let b := b.readRings (b.get (F.HIF_RX_SEL_NODE.on p))
  let m := b.box p
  match b.pickRing (b.get (F.HIF_RX_SEL_NODE.on p)) m.lastNode with
  | none =>
    let b := b.setBox p { m with presented := none, ptr := 0 }
    ((b.set (F.HIF_RX_INFO_VALID.on p) 0).set (F.HIF_RX_INFO_TYPE.on p) 0).set (F.HIF_RX_INFO_LENGTH.on p) 0
  | some r =>
    match r.inQ with
    | [] => b
    | x :: _ =>
      let b := b.setBox p { m with presented := some (r.node, x), ptr := 0, lastNode := r.node }
      let b := (b.set (F.HIF_RX_INFO_VALID.on p) 1).set (F.HIF_RX_INFO_TYPE.on p) x.type
      (b.set (F.HIF_RX_INFO_LENGTH.on p) x.slotBytes.length).set (F.HIF_RX_SRC_NODE.on p) x.src

/-- A write of HIF_RX_SEL (R93). -/
def rxSel (p : Path) (v : Nat) (b : Block) : Block := (b.set (F.HIF_RX_SEL_NODE.on p) v).present p

/-- A read of HIF_RX_DATA: the next word, 0 after the last (R93). -/
def rxData (p : Path) (b : Block) : Word × Block :=
  let m := b.box p
  match m.presented with
  | none => (0, b)
  | some (_, x) =>
    let bs := x.slotBytes
    if 4 * m.ptr < bs.length then
      (BitVec.ofNat 32 (leNat ((bs.drop (4 * m.ptr)).take 4)), b.setBox p { m with ptr := m.ptr + 1 })
    else (0, b)

/-- A write of HIF_RX_POP: 1 removes the presented message and presents the next (R93). Another path that presents the same message
goes on presenting it: R93 does not say otherwise (DESIGN CHOICE, log entry 64). -/
def rxPop (p : Path) (v : Nat) (b : Block) : Block :=
  if v % 2 = 1 then
    match (b.box p).presented with
    | none => b.present p
    | some (n, x) =>
      let b := b.readRing n
      let r := b.ring n
      let b := if r.inQ.head? == some x then
          b.setRing { r with inQ := r.inQ.tail, inTail := (r.inTail + 1) % 2 ^ 32, moved := b.clk }
        else b
      b.present p
  else b.setBox p { b.box p with ptr := 0 }

/-- A write of HIF_TX_DATA (R94, R102). -/
def txData (p : Path) (v : Word) (b : Block) : Block :=
  let m := b.box p
  if m.stage.length < 56 then
    let b := b.setBox p { m with stage := m.stage ++ [v] }
    b.set (F.HIF_TX_STATUS_WORDS.on p) (m.stage.length + 1)
  else
    let b := b.setBox p { m with oversize := true }
    b.set (F.HIF_TX_STATUS_RESULT.on p) 4

/-- A write of HIF_TX_CMD: route, number and queue the staged message, and empty the staging buffer (R94, R102). -/
def txCmd (p : Path) (v : Nat) (b : Block) : Block :=
  let m := b.box p
  let type := F.HIF_TX_CMD_TYPE.of v
  let dest := F.HIF_TX_CMD_DEST.of v
  let b := (b.setBox p { m with stage := [], oversize := false }).set (F.HIF_TX_STATUS_WORDS.on p) 0
  if m.oversize then b.set (F.HIF_TX_STATUS_RESULT.on p) 4
  else if type ≠ 0x01 ∧ type < 0x40 then b.set (F.HIF_TX_STATUS_RESULT.on p) 3
  else
    let (r, b) := b.send type dest (.raw ((m.stage.map (fun w => leBytes 4 w.toNat)).flatten))
    b.set (F.HIF_TX_STATUS_RESULT.on p) r

end Sys2Proof.Machine
end

