-- ==== Sys2Proof/Machine/HifMsg.lean ====
section
/-!
DEFINITION. Messages that HIF itself handles, apart from REG_ACCESS: forwarding, responses, NOTIFY, application messages
(R80 to R92), FETCH and DATA with the bulk channels (R95 to R97), NOTIFY_SEND (R101), and the mailbox rows (R93, R94).
-/

namespace Sys2Proof.Machine

/-! ### Requests that are answered (R83) -/

/-- A duplicate request is answered again from the held response, or with DUPLICATE (R83). -/
def Block.answerAgain (b : Block) (rx : Rx) (dup : Body) (type : Nat) : Block :=
  match b.hif.held.find? (fun x => x.1 == rx.msg.src && x.2.seq == rx.msg.seq) with
  | some (_, m) => b.depart rx.via m
  | none => b.depart rx.via ⟨type, true, true, true, sealedLength dup, rx.msg.src, b.node, rx.msg.seq, dup⟩

/-- Take a request and answer it: `f` runs on an accepted one, `dup` is the answer to a duplicate no longer held. -/
def Block.answering (b : Block) (rx : Rx) (type : Nat) (dup : Body) (f : Block → Block) : Block :=
  match b.receive rx with
  | .accepted b => f b
  | .duplicate b => b.answerAgain rx dup type
  | .dropped b => b

/-! ### Messages for rings (R80, R83, R90) -/

/-- NOTIFY or an application message arrives: it is queued in the ring of its source. -/
def toRing (rx : Rx) (b : Block) : Block := b.taking rx (fun b => b.queueIn rx.msg.src rx.msg)

/-- Does the response answer the request: the same SEQ, sent to its source, or to every node, under the session that is current
(R83)? -/
def Block.answers (b : Block) (rx : Rx) (q : Request) : Bool :=
  q.seq == rx.msg.seq && (q.dest == nodeAll || q.dest == rx.msg.src && q.session == b.sessionId rx.via rx.msg.src)

/-- A response other than DATA arrives: it is matched to its request (R83) and queued in the responder's ring (R94). -/
def messageResponse (rx : Rx) (b : Block) : Block :=
  if !rx.msg.response || rx.msg.type == 0x04 then b
  else
    b.taking rx (fun b =>
      match b.hif.requests.find? (b.answers rx) with
      | none => (b.count F.HIF_DROP_REPLAY 1).raise E.HIF_REPLAY
      | some q =>
        if q.from'.contains rx.msg.src then b.count F.HIF_DUP_COUNT 1
        else
          let b := { b with hif.requests := b.hif.requests.map (fun q =>
            if b.answers rx q then { q with from' := q.from' ++ [rx.msg.src] } else q) }
          b.queueIn rx.msg.src rx.msg)

/-- A message that came by `from'` leaves again by the way R86 gives it, sealed under the session there (R244, R248). -/
def Block.forwardVia (b : Block) (from' v : Via) (m : Msg) : Block :=
  match v with
  | .lnk p => b.relayTo from' p m
  | _ =>
    let last := (b.ring m.dest).lastOut
    let b := (b.dispatch v m).2
    (b.setRing { b.ring m.dest with lastOut := last }).countRelay from' 0 true

/-- Does the message arrive in a BULK frame at a tile, which relays it cut-through (R238, R248)? -/
def Block.passesBulk (b : Block) (rx : Rx) : Option Nat :=
  match rx.via with
  | .lnk p => if rx.msg.type == 0x04 && !b.isHead && decide (p < 2) && b.carries p then some p else none
  | _ => none

/-- MESSAGE_FORWARD (R86, R244): a message for another node; a BULK frame passes a tile as it is. -/
def messageForward (rx : Rx) (b : Block) : Block :=
  if b.consumes rx.msg then b
  else
    match b.passesBulk rx with
    | some p => (b.countCells p 1 (msgCells rx.msg)).passBulk p rx.msg []
    | none =>
    match b.letIn rx with
    | .accepted b =>
      match b.route rx.msg.dest false with
      | .out v => (b.learnIncarn rx.msg).forwardVia rx.via v rx.msg
      | _ => b.count F.HIF_DROP_DEST 1
    | .duplicate b => b
    | .dropped b => b

/-- RING_IDLE_RELEASE (R90): ring `n`, both halves empty, has stayed idle for IDLE_S seconds. -/
def ringIdleRelease (n : Nat) (b : Block) : Block :=
  let r := b.ring n
  let s := b.get F.HIF_RING_CTRL_IDLE_S
  if r.populated && r.inQ.isEmpty && r.outQ.isEmpty && s != 0 then (b.untilClk (r.moved + s * 1000000000)).releaseRing n else b

/-- NOTIFY_SEND (R101): 1 ms after the last one at the earliest, and then only if the value is not zero. -/
def notifySend (b : Block) : Block :=
  if !b.hif.notifyPending then b
  else
    let due := match b.hif.notifyLast with | some t => t + 1000000 | none => 0
    let late := decide (b.clk < due)
    let b := { b.untilClk due with hif.notifyPending := false }
    let v := Nat.land b.irqPend (b.pair F.HIF_NOTIFY_EN_LO F.HIF_NOTIFY_EN_HI)
    if late && v == 0 then b
    else { b with hif.notifyLast := some b.clk }.sendMsg 0x02 (b.get F.HIF_NOTIFY_NODE_NODE) (.notify b.irqPend)

/-! ### Bulk channels (R95 to R97) -/

/-- The range that channel `n` writes. -/
def Block.dmaSpan (b : Block) (n : Nat) : Span :=
  ⟨b.get (F.HIF_DMAn_DST_LO n) + 2 ^ 32 * b.get (F.HIF_DMAn_DST_HI_DST n), b.get (F.HIF_DMAn_LEN n) / 4 * 4⟩

/-- Channel `n` beside its registers. -/
def Block.channel (b : Block) (n : Nat) : Channel := b.hif.channels.getD n ⟨0, 0, []⟩

/-- Put channel `n` back. -/
def Block.setChannel (b : Block) (n : Nat) (c : Channel) : Block := { b with hif.channels := b.hif.channels.set n c }

/-- Length of chunk `i` of channel `n`: 4,096 bytes, the last one shorter. -/
def Block.chunkLen (b : Block) (n i : Nat) : Nat := min 4096 ((b.dmaSpan n).len - 4096 * i)

/-- Request chunk `i` of channel `n`, for the first time or again; it waits 10 ms. -/
def Block.dmaAsk (b : Block) (n i tries : Nat) : Block :=
  let addr := b.get (F.HIF_DMAn_SRC_LO n) + 2 ^ 32 * b.get (F.HIF_DMAn_SRC_HI n) + 4096 * i
  let (r, b) := b.send 0x03 (b.get (F.HIF_DMAn_SRC_NODE_NODE n)) (.fetch addr (b.chunkLen n i) i)
  let c := b.channel n
  let seq := if r = 0 then b.hif.seq else 0
  b.setChannel n { c with open' := c.open'.filter (·.index != i) ++ [(⟨i, seq, tries, b.clk + 10000000⟩ : Chunk)] }

/-- Ask for chunks until eight are outstanding or none is left. -/
def Block.dmaFill (b : Block) (n : Nat) : Nat → Block
  | 0 => b
  | k + 1 =>
    let c := b.channel n
    if c.next < c.total ∧ c.open'.length < 8 then
      ((b.setChannel n { c with next := c.next + 1 }).dmaAsk n c.next 0).dmaFill n k
    else b

/-- Channel `n` ends in a state: DONE or IDLE. -/
def Block.dmaEnd (b : Block) (n st : Nat) : Block := (b.setChannel n ⟨0, 0, []⟩).set (F.HIF_DMAn_STATUS_STATE n) st

/-- Channel `n` goes to ERROR with the low byte of its code. -/
def Block.dmaError (b : Block) (n code : Nat) : Block :=
  let b := (b.dmaEnd n 3).set (F.HIF_DMAn_STATUS_ERR n) code
  (b.raise (E.HIF_DMA (0x0100 + code))).irq F.HIF_IRQ_STATUS_DMA_ERR

/-- Does channel `n` run? -/
def Block.dmaBusy (b : Block) (n : Nat) : Bool := b.get (F.HIF_DMAn_STATUS_STATE n) == 1

/-- Every chunk has been written. -/
def Block.dmaDone (b : Block) (n : Nat) : Block := (b.dmaEnd n 2).irq F.HIF_IRQ_STATUS_DMA_DONE

/-- A write of HIF_DMAn_CMD (R97, R102): ABORT, then START. -/
def dmaCmd (n v : Nat) (b : Block) : Block :=
  if 8 ≤ n then b
  else
    let b := if (F.HIF_DMAn_CMD_ABORT n).of v = 1 then (b.dmaEnd n 0).set (F.HIF_DMAn_STATUS_ERR n) 0 else b
    if (F.HIF_DMAn_CMD_START n).of v = 0 ∨ b.dmaBusy n then b
    else
      let r := b.dmaSpan n
      let b := b.set (F.HIF_DMAn_STATUS_ERR n) 0
      if !(b.inDram r && r.clearOf [ringTable, b.ringPool]) then b.dmaError n 0x32
      else if r.len = 0 then b.dmaDone n
      else ((b.setChannel n ⟨0, ceilDiv r.len 4096, []⟩).set (F.HIF_DMAn_STATUS_STATE n) 1).dmaFill n 8

/-- DMA_CHUNK_TIMEOUT (R97): chunk `i` of channel `n` has had no answer for 10 ms. -/
def dmaChunkTimeout (n i : Nat) (b : Block) : Block :=
  match (b.channel n).open'.find? (·.index == i) with
  | none => b
  | some k =>
    let b := b.untilClk k.due
    if 3 ≤ k.tries then b.dmaError n 0x30 else b.dmaAsk n i (k.tries + 1)

/-- The channel and chunk that a DATA response from `src` with `seq` answers (R95). -/
def Block.dmaMatch (b : Block) (src seq : Nat) : Option (Nat × Chunk) :=
  (List.range 8).findSome? (fun n =>
    if b.dmaBusy n && b.get (F.HIF_DMAn_SRC_NODE_NODE n) == src then
      ((b.channel n).open'.find? (fun c => c.seq == seq && seq != 0)).map (fun c => (n, c))
    else none)

/-- DATA arrives (R95, R97); the BULK frame that carries it goes on along the chain (R248). -/
def data (rx : Rx) (b : Block) : Block :=
  let b := match b.passesBulk rx with | some p => b.passBulk p rx.msg [] | none => b
  b.taking rx (fun b =>
    match (if rx.msg.response then b.dmaMatch rx.msg.src rx.msg.seq else none) with
    | none => b.count F.HIF_DROP_TYPE 1
    | some (n, c) =>
      if rx.msg.error then b.dmaError n 0x31
      else
        match rx.msg.body with
        | .data _ len i bs =>
          if i ≠ c.index ∨ bs.length ≠ b.chunkLen n i ∨ len ≠ bs.length then b.count F.HIF_DROP_TYPE 1
          else
            let b := b.dramWrite 0 ((b.dmaSpan n).base + 4096 * i) bs
            let q := b.channel n
            let b := (b.setChannel n { q with open' := q.open'.filter (·.index != i) }).dmaFill n 1
            if (b.channel n).open'.isEmpty then b.dmaDone n else b
        | _ => b.count F.HIF_DROP_TYPE 1)

/-- Is a FETCH within the export window, with a length R96 allows? -/
def Block.exported (b : Block) (addr len : Nat) : Bool :=
  let base := b.get F.HIF_EXPORT_BASE_LO + 2 ^ 32 * b.get F.HIF_EXPORT_BASE_HI_BASE
  decide (4 ≤ len) && decide (len ≤ 4096) && len % 4 == 0 && decide (base ≤ addr) &&
    decide (addr + len ≤ base + b.get F.HIF_EXPORT_SIZE) && b.inDram ⟨addr, len⟩

/-- FETCH arrives (R96, R83): DATA answers it on the way it came, with an error outside the window. -/
def fetch (rx : Rx) (b : Block) : Block :=
  match rx.msg.body with
  | .fetch addr len i =>
    b.answering rx 0x04 (.data addr len i []) (fun b =>
      let ok := b.exported addr len
      let b := b.when ok (·.dramUse 0 addr len)
      b.respond { rx with msg := { rx.msg with type := 0x04 } } (!ok) (.data addr len i (if ok then b.dramRead addr len else [])))
  | _ => b.taking rx (fun b => b.count F.HIF_DROP_TYPE 1)

/-- NOTIFY_SEND. -/
def execNotifySend (s : State) : Host.Outcome State Fault Refusal := s.done (notifySend s.blk)
/-- MESSAGE_FORWARD. -/
def execMessageForward (rx : Rx) (s : State) : Host.Outcome State Fault Refusal := s.done (messageForward rx s.blk)
/-- MESSAGE_RESPONSE. -/
def execMessageResponse (rx : Rx) (s : State) : Host.Outcome State Fault Refusal := s.done (messageResponse rx s.blk)
/-- NOTIFY. -/
def execNotify (rx : Rx) (s : State) : Host.Outcome State Fault Refusal := s.done (toRing rx s.blk)
/-- APPLICATION_MESSAGE. -/
def execApplicationMessage (rx : Rx) (s : State) : Host.Outcome State Fault Refusal := s.done (toRing rx s.blk)
/-- RING_IDLE_RELEASE. -/
def execRingIdleRelease (n : Nat) (s : State) : Host.Outcome State Fault Refusal := s.done (ringIdleRelease n s.blk)
/-- FETCH. -/
def execFetch (rx : Rx) (s : State) : Host.Outcome State Fault Refusal := s.done (fetch rx s.blk)
/-- DATA. -/
def execData (rx : Rx) (s : State) : Host.Outcome State Fault Refusal := s.done (data rx s.blk)
/-- HIF_DMA_START: a write of HIF_DMAn_CMD. -/
def execHifDmaStart (_p : Path) (n : Nat) (v : Word) (s : State) : Host.Outcome State Fault Refusal :=
  s.done (s.blk.writing (R.HIF_DMAn_CMD n) (dmaCmd n v.toNat))
/-- HIF_DMA_ABORT: a write of HIF_DMAn_CMD. -/
def execHifDmaAbort (_p : Path) (n : Nat) (v : Word) (s : State) : Host.Outcome State Fault Refusal :=
  s.done (s.blk.writing (R.HIF_DMAn_CMD n) (dmaCmd n v.toNat))
/-- DMA_CHUNK_TIMEOUT. -/
def execDmaChunkTimeout (n i : Nat) (s : State) : Host.Outcome State Fault Refusal := s.done (dmaChunkTimeout n i s.blk)
/-- HIF_RX_SEL. -/
def execHifRxSel (p : Path) (v : Word) (s : State) : Host.Outcome State Fault Refusal :=
  s.done (s.blk.writing R.HIF_RX_SEL (rxSel p v.toNat))
/-- HIF_RX_POP. -/
def execHifRxPop (p : Path) (v : Word) (s : State) : Host.Outcome State Fault Refusal :=
  s.done (s.blk.writing R.HIF_RX_POP (rxPop p v.toNat))
/-- HIF_TX_DATA. -/
def execHifTxData (p : Path) (v : Word) (s : State) : Host.Outcome State Fault Refusal :=
  s.done (s.blk.writing R.HIF_TX_DATA (txData p v))
/-- HIF_TX_CMD. -/
def execHifTxCmd (p : Path) (v : Word) (s : State) : Host.Outcome State Fault Refusal :=
  s.done (s.blk.writing R.HIF_TX_CMD (txCmd p v.toNat))

end Sys2Proof.Machine
end

