-- ==== Sys2Proof/Machine/Groups.lean ====
section
/-!
DEFINITION. Commit groups (R118): which group an RWS register belongs to (R163, R202, R203, R232, R278, R302, R303, R333,
R374, R390, R411, R433), the blocks of a group, shadow and active values, and the digest over active values (R266).
-/

namespace Sys2Proof.Machine

/-- The commit group of the RWS register at address `a`; 0 for no group. -/
def groupOf (a : Nat) : Nat :=
  let o := a % 0x10000
  match a / 0x10000 with
  | 0x12 => 0x10 + (o - 0x1000) / 0x100
  | 0x13 => 0x02
  | 0x14 => if o < 0x200 then 0x01 else 0x03
  | 0x03 => 0x08
  | 0x04 => 0x09
  | 0x18 => if o < 0x1000 then 0x21 else 0x20
  | 0x1C => 0x28
  | 0x20 => 0x30
  | 0x21 => if o = 0x200 then 0x32 else 0x31
  | 0x2A => 0x38 + (o - 0x1000) / 0x100
  | 0x24 => if o < 0x1000 then 0xA0 else 0x40 + (o - 0x1000) / 0x40
  | 0x2B => 0xB0
  | _ => 0

/-- Is the group assigned, BOOT apart (R118)? -/
def groupAssigned (g : Nat) : Bool :=
  g == 0x01 || g == 0x02 || g == 0x03 || g == 0x08 || g == 0x09 || (decide (0x10 ≤ g) && decide (g ≤ 0x21)) || g == 0x28
    || (decide (0x30 ≤ g) && decide (g ≤ 0x32)) || (decide (0x38 ≤ g) && decide (g ≤ 0x3B))
    || (decide (0x40 ≤ g) && decide (g ≤ 0xA0)) || g == 0xB0

/-- The block ID of a group's window. -/
def groupBlock (g : Nat) : Nat :=
  if g = 0x01 ∨ g = 0x03 then 0x14
  else if g = 0x02 then 0x13
  else if g = 0x08 then 0x03
  else if g = 0x09 then 0x04
  else if g ≤ 0x1F then 0x12
  else if g ≤ 0x21 then 0x18
  else if g = 0x28 then 0x1C
  else if g = 0x30 then 0x20
  else if g ≤ 0x32 then 0x21
  else if g ≤ 0x3B then 0x2A
  else if g ≤ 0xA0 then 0x24
  else 0x2B

/-- Is the register at `a` an RWS register? -/
def isRws (a : Nat) : Bool :=
  match rowAt a with
  | some r => r.kind == .rws
  | none => false

/-- Does key `k` of the register file hold the shadow of a register of group `g`? -/
def shadowKey (g k : Nat) : Bool := decide (k % 0x10000 < 0x8000) && isRws k && groupOf k == g

/-- Does key `k` hold the active copy of a register of group `g`? -/
def activeKey (g k : Nat) : Bool := decide (0x8000 ≤ k % 0x10000) && isRws (k - 0x8000) && groupOf (k - 0x8000) == g

/-- The shadow values of a group, as the register file lists them: the snapshot a stage keeps (R119). -/
def Block.snapshot (b : Block) (g : Nat) : List (Nat × Word) := b.regs.filter (fun c => shadowKey g c.1)

/-- Install a snapshot of group `g`: every active value of the group takes it, in one step (R13). -/
def Block.install (b : Block) (g : Nat) (snap : List (Nat × Word)) : Block :=
  let b := { b with regs := b.regs.filter (fun c => !activeKey g c.1) }
  b.each snap (fun c b => b.setWord (c.1 + 0x8000) c.2)

/-- Every shadow value of every group becomes active (the boot commit, R115). -/
def Block.installAll (b : Block) : Block :=
  let shadows := b.regs.filter (fun c => decide (c.1 % 0x10000 < 0x8000) && isRws c.1)
  let b := { b with regs := b.regs.filter (fun c => !(decide (0x8000 ≤ c.1 % 0x10000) && isRws (c.1 - 0x8000))) }
  b.each shadows (fun c b => b.setWord (c.1 + 0x8000) c.2)

/-- The addresses of a group's registers in ascending offset order. -/
def groupAddrs (g : Nat) : List Nat :=
  ((List.range 0x1000).map (fun i => groupBlock g * 0x10000 + 4 * i)).filter (fun a => isRws a && groupOf a == g)

/-- DIGEST (R266): CRC-32C over the active values of the groups named there. -/
def Block.digest (b : Block) : Nat :=
  let gs := [0x01] ++ (List.range 16).map (0x10 + ·) ++ [0x20, 0x21, 0xB0]
  crc32c (gs.map (fun g => ((groupAddrs g).map (fun a => leBytes 4 (b.word (a + 0x8000)).toNat)).flatten)).flatten

/-- The region of ING stream `s` (R157). -/
def Block.ingRegion (b : Block) (s : Nat) : Span :=
  ⟨b.actPair (F.ING_STRs_BUF_BASE_LO s) (F.ING_STRs_BUF_BASE_HI_BASE s),
   4096 + b.act (F.ING_STRs_BUF_CFG_COUNT s) * b.act (F.ING_STRs_BUF_SIZE s)⟩

end Sys2Proof.Machine
end

