-- ==== Sys2Proof/Machine/BitStream.lean ====
section
/-!
DEFINITION. A bit-stream read from its bytes: header, directory and sections (R105 to R109, R452).
-/

namespace Sys2Proof

open Sys2Proof.Machine

/-! ### Bytes (R105, R106) -/

/-- A little-endian field of `n` bytes at `o`. -/
def fieldAt (bs : List Byte) (o n : Nat) : Nat := leNat ((bs.drop o).take n)

/-- Are the `n` bytes from `o` zero? -/
def zeroAt (bs : List Byte) (o n : Nat) : Bool := ((bs.drop o).take n).all (· == 0)

/-- MAGIC. -/
def Image.magic (i : Image) : Nat := fieldAt i.bytes 0 4
/-- FORMAT. -/
def Image.format (i : Image) : Nat := fieldAt i.bytes 4 2
/-- SECTION_COUNT. -/
def Image.sectionCount (i : Image) : Nat := fieldAt i.bytes 6 2
/-- PART. -/
def Image.part (i : Image) : Nat := fieldAt i.bytes 8 4
/-- MIN_REV. -/
def Image.minRev (i : Image) : Nat := fieldAt i.bytes 12 1
/-- KIND. -/
def Image.kind (i : Image) : Nat := fieldAt i.bytes 13 1
/-- BUILD_ID. -/
def Image.buildId (i : Image) : Nat := fieldAt i.bytes 16 8
/-- BASE_BUILD_ID. -/
def Image.baseBuildId (i : Image) : Nat := fieldAt i.bytes 24 8
/-- SECURITY_VERSION. -/
def Image.secVersion (i : Image) : Nat := fieldAt i.bytes 32 4
/-- TOTAL_LEN. -/
def Image.totalLen (i : Image) : Nat := fieldAt i.bytes 36 4

/-- Is MAGIC right? -/
def Image.magicOk (i : Image) : Bool := i.magic == 0x42564C4F
/-- Is HDR_CHECK the CRC-32C of bytes 0 to 59? -/
def Image.hdrOk (i : Image) : Bool := decide (64 ≤ i.bytes.length) && fieldAt i.bytes 60 4 == crc32c (i.bytes.take 60)

/-- A static UDP entry: node, family, address (R108's layout). -/
def udpEntry (bs : List Byte) : Nat × Nat × UdpAddr :=
  let fam := fieldAt bs 6 1
  (fieldAt bs 0 4, fam, ⟨fam == 6, if fam = 6 then beNat ((bs.drop 8).take 16) else beNat ((bs.drop 8).take 4), fieldAt bs 4 2⟩)

/-- TOPOLOGY from its bytes. -/
def topologyOf (bs : List Byte) : Topology :=
  let n := fieldAt bs 0 4
  let count := fieldAt bs 272 2
  let udp := (List.range (min count 128)).map (fun k => (bs.drop (288 + 24 * k)).take 24)
  { node := n % 2 ^ 18, source1 := bitOf n 31, chainBase := fieldAt bs 4 4 % 2 ^ 18, chainId := fieldAt bs 8 1
    duty := fieldAt bs 9 1, chainPort := fieldAt bs 10 1, slots := fieldAt bs 11 1
    slotNode := (List.range 64).map (fun s => fieldAt bs (16 + 4 * s) 4), udp := udp.map udpEntry, udpCount := count
    length := bs.length
    zeros := n / 2 ^ 18 % 2 ^ 13 == 0 && zeroAt bs 12 4 && zeroAt bs 274 14 && udp.all (fun u => zeroAt u 7 1) }

/-- The entries of a REGISTERS section. -/
def registersOf (bs : List Byte) : List (Nat × Word) :=
  (List.range (bs.length / 8)).map (fun k => (fieldAt bs (8 * k) 4, BitVec.ofNat 32 (fieldAt bs (8 * k + 4) 4)))

/-- What a section of a TYPE and INSTANCE holds (R106, R108, R109, R452). -/
def contentOf (type inst : Nat) (bs : List Byte) (sigOk : Bool) : Content :=
  if type = 1 then .role (fieldAt bs 0 1)
  else if type = 2 then .topology (topologyOf bs)
  else if type = 3 then .firmware bs
  else if type = 4 then .registers (registersOf bs)
  else if type = 5 then .table (fieldAt bs 0 4 == 1) (fieldAt bs 8 8) (bs.drop 16)
  else if type = 6 then .engine inst bs
  else if type = 0xFF then .signature (fieldAt bs 0 1) ((bs.drop 16).take 97) sigOk
  else .other type

/-- Directory entry `k` and its section. -/
def Image.entry (i : Image) (k : Nat) : Section :=
  let d := i.bytes.drop (64 + 16 * k)
  let inst := fieldAt d 2 2
  let offset := fieldAt d 4 4
  let length := fieldAt d 8 4
  let bs := (i.bytes.drop offset).take length
  ⟨inst, offset, length, fieldAt d 12 4, bs, contentOf (fieldAt d 0 2) inst bs i.sigOk⟩

/-- The sections in directory order; step 1 admits at most 64. -/
def Image.sections (i : Image) : List Section := (List.range (min i.sectionCount 64)).map i.entry

/-- Is CHECK the CRC-32C of the section's bytes? -/
def Section.checkOk (s : Section) : Bool := s.bytes.length == s.length && s.check == crc32c s.bytes

end Sys2Proof

namespace Sys2Proof.Machine

/-- The register entries of a bit-stream in the order they are written: ascending INSTANCE, then entry order (R109). -/
def imageEntries (i : Image) : List (Nat × Word) :=
  ((List.range 16).map (fun n => (i.sections.map (fun s =>
    match s.content with | .registers l => if s.inst = n then l else [] | _ => [])).flatten)).flatten

end Sys2Proof.Machine
end

