-- ==== Sys2Proof/Machine/Frm.lean ====
section
/-!
DEFINITION. The frame grid (R178 to R200): mode parameters in force, reference events, the plan point, the frame-start
computation, run-on in FOLLOW, SYNC_IN and SYNC_OUT. Times are in nanoseconds of STC times 2^16.
-/

namespace Sys2Proof.Machine

def frmStopped : Nat := 0
def frmFreerun : Nat := 1
def frmAcquire : Nat := 2
def frmLocked : Nat := 3
def frmSlew : Nat := 4
def frmRunOn : Nat := 5
def frmFollow : Nat := 6

/-- Nanoseconds as a grid time. -/
def q16 (ns : Int) : Int := ns * 65536

/-- A grid time in whole nanoseconds. -/
def nsOf (t : Int) : Nat := (t / 65536).toNat

/-- The mode parameters in force (R178). -/
def Block.tNom (b : Block) : Int := q16 (b.act F.FRM_T_NOM_NS) + b.act F.FRM_T_NOM_FRAC_FRAC
def Block.pMin (b : Block) : Int := max (q16 (b.act F.FRM_T_MIN_NS)) b.tNom
def Block.tMax (b : Block) : Int := q16 (b.act F.FRM_T_MAX_NS)
def Block.gMin (b : Block) : Int := q16 (b.act F.FRM_G_MIN_NS)
def Block.emitLen (b : Block) : Int := b.tNom - b.gMin
def Block.lFix (b : Block) : Int := q16 (b.act F.FRM_L_FIX_NS)
def Block.closeLead (b : Block) : Int :=
  q16 (b.act F.FRM_ACTIVE_END_LEAD_NS + b.act F.FRM_CLOSE_LINES * b.act F.FRM_LINE_NS_NS)
def Block.leadMax (b : Block) : Int :=
  max (max b.closeLead (q16 (b.act F.FRM_DEADLINE_LEAD_NS)))
    (max (q16 (b.act F.FRM_SCALE_LEAD_NS)) (q16 (b.act F.FRM_HDR_LEAD_NS)))

/-- The margin of the plan point (R182). -/
def planMargin : Int := q16 20000

/-- Segments per frame (R203). -/
def Block.segments (b : Block) : Nat := 64 * 2 ^ b.act F.FRM_SEGMENTS_S_CODE

/-- FRM_STATUS.STATE. -/
def Block.frmState (b : Block) : Nat := b.get F.FRM_STATUS_STATE

/-- A new grid state sets FRM_IRQ_STATUS.STATE (R203). -/
def Block.setFrm (b : Block) (st : Nat) : Block :=
  if b.frmState = st then b else (b.set F.FRM_STATUS_STATE st).irq F.FRM_IRQ_STATUS_STATE

/-- The roll of the module's own frame start (R186, R192, R200). -/
def Block.roll (b : Block) : Int :=
  if b.actBit F.FRM_START_ROLLING && b.drives && !b.frm.ioBad.contains 2 then q16 (b.act F.FRM_ROLL_OFFSET) else 0

/-- Frame `n` starting at `fs`, with every event time the parameters in force give it (R186). -/
def Block.planAt (b : Block) (n : Nat) (fs period : Int) : Plan where
  wfn := n
  fs := fs
  own := fs + b.roll
  close := fs - b.closeLead
  deadline := fs + b.roll - q16 (b.act F.FRM_DEADLINE_LEAD_NS)
  scale := fs - q16 (b.act F.FRM_SCALE_LEAD_NS)
  hdr := fs - q16 (b.act F.FRM_HDR_LEAD_NS)
  guard := fs + b.roll + b.emitLen
  emit := b.emitLen
  period := period

/-- FRM_NEXT_FS shows the next frame once it is fixed (R203). -/
def Block.showNext (b : Block) : Block :=
  b.setPair F.FRM_NEXT_FS_LO F.FRM_NEXT_FS_HI (match b.frm.next with | some p => nsOf p.own | none => 0)

/-- A frame is fixed (R182): the next one, or in rolling start the one behind it, whose plan point can come before the next one's own
start (R192). -/
def Block.fix (b : Block) (p : Plan) : Block :=
  match b.frm.next with
  | none => { b with frm.next := some p }.showNext
  | some _ => { b with frm.later := some p }

/-- The last frame that is fixed, or runs: the one a plan point plans from. -/
def Block.lastFixed (b : Block) : Plan := (b.frm.later.orElse (fun _ => b.frm.next)).getD b.frm.cur

/-- p_prev at the plan point (R183). -/
def Block.prevPeriod (b : Block) : Int :=
  match b.frm.later.orElse (fun _ => b.frm.next) with
  | some p => p.period
  | none => b.frm.pPrev

/-- The fixed frame whose event of some kind comes next, `last` being the frame whose event has passed last. -/
def Block.eventFrame (b : Block) (last : Option Nat) : Option Plan :=
  match b.frm.next with
  | none => none
  | some p =>
    if last = some p.wfn then b.frm.later
    else if b.frm.later.any (fun q => last == some q.wfn) then none
    else some p

/-! ### References (R179 to R181) -/

/-- The event time of an RTP timestamp received at `rx` (R180). -/
def rtpEvent (rtp rx : Nat) : Int :=
  let est := rx * 9 / 100000
  let full := est / 2 ^ 32 * 2 ^ 32 + rtp
  let full := if est + 0x80000000 < full then full - 0x100000000
    else if full + 0x80000000 < est then full + 0x100000000 else full
  ((full * 100000 * 65536 / 9 : Nat) : Int)

/-- The first event of the FREE reference: the smallest multiple of T_NOM whose target lies late enough (R179). -/
def Block.freeEvent (b : Block) : Int :=
  let t := q16 b.stc + b.leadMax + planMargin - b.lFix
  b.tNom * ((t + b.tNom - 1) / b.tNom)

/-- With time valid and an event known FREERUN moves to ACQUIRE (R187). -/
def Block.frmKnow (b : Block) : Block :=
  if b.frmState = frmFreerun ∧ b.bit F.PTP_STATUS_TIME_VALID then
    if b.act F.FRM_REF_KIND = 0 then { b with frm.events := [b.freeEvent] }.setFrm frmAcquire
    else if b.frm.events.isEmpty then b
    else b.setFrm frmAcquire
  else b

/-- Does an event pair in the window after `fs` (R181)? -/
def Block.inWindow (b : Block) (fs t : Int) : Bool :=
  let target := t + b.lFix
  decide (fs + b.frm.pRef / 2 < target) && decide (target ≤ fs + 3 * b.frm.pRef / 2)

/-- Would an event have paired with a frame that is fixed already (R181)? -/
def Block.eventLate (b : Block) (t : Int) : Bool :=
  let bound := match b.frm.next, b.frm.later with
    | none, _ => b.frm.cur.fs + b.frm.pRef / 2
    | some _, none => b.frm.cur.fs + 3 * b.frm.pRef / 2
    | some p, some _ => p.fs + 3 * b.frm.pRef / 2
  b.isHead && decide (frmLocked ≤ b.frmState) && decide (t + b.lFix ≤ bound)

/-- A reference event arrives (R179, R181): one for a frame already fixed is late. -/
def Block.frmEvent (b : Block) (t : Int) : Block :=
  if b.frmState = frmStopped ∨ b.frmState = frmFollow then b
  else
    let late := b.eventLate t
    let b := { b with frm.events := b.frm.events ++ [t] }
    let b := b.when late (fun b => (b.countSat (F.FRM_CNT_Ei 12) 1).raise E.FRM_REF_LATE)
    b.frmKnow

/-! ### The plan point (R182 to R188) -/

/-- The period of R183 for frame n: the state after the decision, and p before the limits. -/
def Block.decide183 (b : Block) (ev : Option Int) : Block × Int :=
  let f := b.frm
  match ev with
  | none => (b, b.prevPeriod)
  | some t =>
    let e := t + b.lFix - b.lastFixed.fs - f.pRef
    let b := b.set F.FRM_PHASE_ERR (unsigned 32 (e / 65536))
    let bad := b.get F.FRM_STATUS_BAD
    if e.natAbs ≤ (q16 (b.act F.FRM_TOL_NS)).toNat then
      (({ b with frm.slewing := false }.set F.FRM_STATUS_BAD 0).setFrm frmLocked, f.pRef + e)
    else if !f.slewing && bad < 3 then ((b.set F.FRM_STATUS_BAD (bad + 1)).countSat (F.FRM_CNT_Ei 2) 1, b.prevPeriod)
    else
      let step := b.prevPeriod / 200
      let dMax : Int := Nat.sqrt (2 * step * e.natAbs).toNat
      let b := { b with frm.slewing := true }.countSat (F.FRM_CNT_Ei 3) 1
      ((b.raiseIf (!f.slewing) E.FRM_PHASE_ACCEPTED).setFrm frmSlew, f.pRef + max (-dMax) (min e dMax))

/-- A clamp to P_MIN and T_MAX that changes the period is counted (R183, R184). -/
def Block.clampCount (b : Block) (p q : Int) : Block :=
  if p < q then (b.countSat (F.FRM_CNT_Ei 4) 1).raise E.FRM_CLAMP
  else if q < p then (b.countSat (F.FRM_CNT_Ei 5) 1).raise E.FRM_CLAMP
  else b

/-- The event that frame n pairs with, the earliest in the window, after those behind the window are skipped (R181). -/
def Block.pairEvent (b : Block) : Option Int × Block :=
  let f := b.frm
  let base := b.lastFixed.fs
  let lower := base + f.pRef / 2
  let old := f.events.filter (fun t => decide (t + b.lFix ≤ lower))
  let live := f.events.filter (fun t => decide (lower < t + b.lFix))
  let b := { b with frm.events := live }.countSat (F.FRM_CNT_Ei 1) old.length
  match live.filter (fun t => decide (t + b.lFix ≤ base + 3 * f.pRef / 2)) with
  | [] => (none, b)
  | t :: r =>
    let first := r.foldl min t
    (some first, { b with frm.events := live.erase first })

/-- What a paired event leaves: the next FREE event, and p_ref from two consecutive events not ignored (R179, R181). -/
def Block.afterPair (b : Block) (n : Nat) (t : Int) (ignored : Bool) : Block :=
  let b := if b.act F.FRM_REF_KIND = 0 then { b with frm.events := b.frm.events ++ [t + b.tNom] } else b
  if ignored then b
  else
    let ref := match b.frm.paired with
      | some (m, t0) => if m + 1 = n then t - t0 else b.frm.pRef
      | none => b.frm.pRef
    let b := { b with frm := { b.frm with paired := some (n, t), pRef := ref } }
    b.set F.FRM_REF_PERIOD (nsOf ref)

/-- A frame without an event: counted; after LOSS_FRAMES in a row the reference is lost (R181, R185). -/
def Block.noEvent (b : Block) : Block :=
  let b := { b.countSat (F.FRM_CNT_Ei 0) 1 with frm.runOns := b.frm.runOns + 1 }
  if b.act F.FRM_REF_LOSS_FRAMES ≤ b.frm.runOns ∧ b.frmState ≠ frmRunOn then
    let b := { b.set F.FRM_STATUS_BAD 0 with frm.slewing := false }
    (b.raise E.FRM_REF_LOST).setFrm frmRunOn
  else b

/-- The plan of the next frame in LOCKED, SLEW and RUN_ON (R183, R184). -/
def Block.planLocked (b : Block) : Block :=
  let n := b.lastFixed.wfn + 1
  let b := if b.act F.FRM_REF_KIND = 0 && b.frm.events.isEmpty then { b with frm.events := [b.freeEvent] } else b
  let fs := b.lastFixed.fs
  let pPrev := b.prevPeriod
  let (ev, b) := b.pairEvent
  let varying := b.actBit F.FRM_REF_VARIABLE
  let badBefore := b.get F.FRM_STATUS_BAD
  let now := q16 b.stc
  let (b, p, q) :=
    if varying then
      match ev with
      | some t =>
        let e := t + b.lFix - fs - b.frm.pRef
        let b := b.set F.FRM_PHASE_ERR (unsigned 32 (e / 65536))
        let b := b.when (decide (e.natAbs ≤ (q16 (b.act F.FRM_TOL_NS)).toNat)) (·.setFrm frmLocked)
        let p := t + b.lFix - fs
        let lo := max b.pMin (now + b.leadMax + planMargin - fs)
        (b, p, min (max p lo) b.tMax)
      | none => (b, b.tMax, b.tMax)
    else
      let (b, p) := b.decide183 ev
      let step := pPrev / 200
      let p := max (pPrev - step) (min p (pPrev + step))
      (b, p, max b.pMin (min p b.tMax))
  let b := b.clampCount p q
  let b := match ev with
    | some t => { b.afterPair n t (!varying && decide (badBefore < b.get F.FRM_STATUS_BAD)) with frm.runOns := 0 }
    | none => b.noEvent
  b.fix (b.planAt n (fs + q) q)

/-- Acquisition (R188): the frame start of the first known event, and the WFN it gives. With k above 0 the reference goes on
from the acquired frame start, k × T_NOM later (R179, R181). -/
def Block.planAcquire (b : Block) : Block :=
  match b.frm.events with
  | [] => b.fix (b.planAt (b.lastFixed.wfn + 1) (b.lastFixed.fs + b.pMin) b.pMin)
  | t :: rest =>
    let target := t + b.lFix
    let low := b.lastFixed.fs + b.pMin
    let k := if low ≤ target then 0 else (low - target + b.tNom - 1) / b.tNom
    let fs := target + k * b.tNom
    let wfn := ((2 * fs + b.tNom) / (2 * b.tNom)).toNat
    let b := { b with frm := { b.frm with
      events := rest, pRef := b.tNom, grid := true, runOns := 0, slewing := false, paired := none } }
    let b := (b.set F.FRM_REF_PERIOD (nsOf b.tNom)).set F.FRM_STATUS_BAD 0
    let b := b.afterPair wfn (t + k * b.tNom) false
    (b.setFrm frmLocked).fix (b.planAt wfn fs b.tNom)

/-- PP(n) (R182, R184): in VARIABLE mode deferred until an event qualifies, at the latest T_MAX's plan point. -/
def Block.planTime (b : Block) : Int :=
  let base := b.lastFixed.fs - b.leadMax - planMargin
  let early := base + b.pMin
  if b.actBit F.FRM_REF_VARIABLE && decide (frmLocked ≤ b.frmState) then
    let here := max early (q16 b.stc)
    if b.frm.events.any (b.inWindow b.lastFixed.fs) then min here (base + b.tMax) else base + b.tMax
  else early

/-- The stages due at frame `n`, in the order they install: FRM_MODE first, then in staging order. Stages of a transaction are due only
together: no part of one installs (R119, R276). -/
def Block.dueStages (b : Block) (n : Nat) : List Stage :=
  let there (s : Stage) : Bool := match s.target with | some t => decide (t ≤ n) | none => false
  let whole (s : Stage) : Bool := s.txn.isNone || (b.cfg.stages.filter (fun x : Stage => x.txn == s.txn)).all there
  let due := b.cfg.stages.filter (fun s : Stage => there s && whole s)
  due.filter (fun s => s.group == 1) ++ due.filter (fun s => s.group != 1)

/-- The mode epoch that an armed partial due by frame `n` sets, if it sets one (R129). -/
def Block.partialEpoch (b : Block) (n : Nat) : Option Nat :=
  match b.cfg.part.image, b.cfg.part.target with
  | some i, some t =>
    if t ≤ n then ((imageEntries i).reverse.find? (fun e => e.1 == R.FRM_MODE_EPOCH)).map (fun e => F.FRM_MODE_EPOCH_EPOCH.of e.2.toNat) else none
  | _, _ => none

/-- The mode epoch in force for frame `n`: that of an armed partial due by then, else of the FRM_MODE stages due, which install before
it, else the active one (R27, R189, R194). -/
def Block.modeEpochAt (b : Block) (n : Nat) : Nat :=
  let staged := match ((b.dueStages n).filter (·.group == 1)).getLast? with
    | some s => F.FRM_MODE_EPOCH_EPOCH.of (cellsGet s.snap R.FRM_MODE_EPOCH (keyReset R.FRM_MODE_EPOCH)).toNat
    | none => b.act F.FRM_MODE_EPOCH_EPOCH
  (b.partialEpoch n).getD staged

/-- The payload of FRAME_PLAN (R189). -/
def Block.planMessage (b : Block) (p : Plan) : FramePlan where
  wfn := p.wfn
  fsNs := nsOf p.fs
  fsFrac := (p.fs % 65536).toNat
  modeEpoch := b.modeEpochAt p.wfn
  epoch := b.get F.LNK_EPOCH_EPOCH
  rolling := b.actBit F.FRM_START_ROLLING
  locked := b.frmState == frmLocked
  slew := b.frmState == frmSlew
  runOn := b.frmState == frmRunOn

/-- Do two plans of one frame differ (R191)? -/
def plansDiffer (a c : FramePlan) : Bool :=
  a.wfn != c.wfn ||
    decide (50 * 65536 < ((q16 a.fsNs + a.fsFrac) - (q16 c.fsNs + c.fsFrac)).natAbs)

/-- A standby head finds that a plan disagrees with its own (R191). -/
def Block.planDisagree (b : Block) : Block := (b.countSat (F.FRM_CNT_Ei 13) 1).raise E.FRM_PLAN_DISAGREE

/-- The active head sends its plan into its chain; a standby head compares the one it has heard (R189, R191). -/
def Block.planSent (b : Block) : Block :=
  match b.frm.later.orElse (fun _ => b.frm.next) with
  | none => b
  | some p =>
    let m := b.planMessage p
    if b.duty = dutyActive ∨ b.duty = dutyDelegate then
      let port := match b.cfg.topo with | some t => [t.chainPort] | none => []
      b.sendChain port 0x10 nodeAll (.framePlan m)
    else
      match b.frm.heard with
      | some h => { b.when (plansDiffer m h) Block.planDisagree with frm.heard := none }
      | none => b

/-- Does the next plan point wait for the start of the next frame: two frames are fixed, or that start comes first (R182, R192)? -/
def Block.planWaits (b : Block) : Bool :=
  match b.frm.next with
  | none => false
  | some p => b.frm.later.isSome || decide (p.own ≤ b.planTime)

/-- PLAN_POINT (R182, R188): the plan point of a module that plans its own grid. -/
def planPoint (b : Block) : Block :=
  let st := b.frmState
  if st = frmStopped ∨ st = frmFollow ∨ b.planWaits ∨ b.pm.stcStopped then b
  else
    let b := b.untilStc (nsOf b.planTime)
    let b := if st = frmFreerun then b.fix (b.planAt (b.lastFixed.wfn + 1) (b.lastFixed.fs + b.pMin) b.pMin)
      else if st = frmAcquire then b.planAcquire
      else b.planLocked
    b.planSent

/-! ### Following (R190) -/

/-- A following module takes an accepted plan: the frame it names is fixed (R190). -/
def Block.takePlan (b : Block) (p : FramePlan) : Block :=
  let fs := q16 p.fsNs + p.fsFrac
  { b.fix (b.planAt p.wfn fs (fs - b.lastFixed.fs)) with frm.grid := true }

/-- A plan or header shows another mode epoch for a frame that has not started: a following module will not show that frame, which
is counted once (R196). -/
def Block.modeMismatch (b : Block) (n e : Nat) : Block :=
  if b.frmState = frmFollow ∧ e ≠ b.modeEpochAt n ∧ b.frm.cur.wfn < n ∧ !b.frm.mismatch.contains n then
    ({ b with frm.mismatch := b.frm.mismatch ++ [n] }.countSat (F.FRM_CNT_Ei 10) 1).raise E.FRM_MODE_MISMATCH
  else b

/-- The frame a following module runs on to when no plan came by its frond deadline: at P_MIN until it has accepted a plan,
then at the last period, and never below P_MIN; with its time valid it has missed the plan (R30, R187, R190). -/
def Block.followRunOn (b : Block) : Block :=
  if b.frmState ≠ frmFollow ∨ b.frm.next.isSome then b
  else
    let n := b.frm.cur.wfn + 1
    if b.bit F.PTP_STATUS_TIME_VALID then
      let p := if b.frm.grid then max b.frm.pPrev b.pMin else b.pMin
      let b := b.fix (b.planAt n (b.frm.cur.fs + p) p)
      (b.countSat (F.FRM_CNT_Ei 6) 1).raise E.FRM_PLAN_MISSED
    else b.fix (b.planAt n (b.frm.cur.fs + b.pMin) b.pMin)

/-! ### Starting frames (R27 step 1, R187) -/

/-- WFN and the frame's times take effect (R27 step 1, R203). -/
def Block.gridStart (b : Block) (p : Plan) : Block :=
  let last := b.frm.cur.fs
  let b := { b with frm := { b.frm with
    cur := p, next := b.frm.later, later := none, pPrev := p.period, mismatch := b.frm.mismatch.filter (fun n => decide (p.wfn < n)) } }
  let b := (b.setPair F.FRM_WFN_LO F.FRM_WFN_HI p.wfn).setPair F.FRM_FS_LO F.FRM_FS_HI (nsOf p.own)
  let b := b.showNext.set F.FRM_PERIOD (nsOf (p.fs - last))
  b.irq F.FRM_IRQ_STATUS_FRAME

/-- FS(0): the grid begins now, with WFN 0, at P_MIN (R187, R445). -/
def Block.gridBegin (b : Block) : Block :=
  let fs := q16 b.stc
  let b := b.setFrm (if b.role = roleTile then frmFollow else frmFreerun)
  let b := { b with scn.last := none, frm := { Frm.reset with
    cur := b.planAt 0 fs b.pMin, pPrev := b.pMin, pRef := b.tNom, ioBad := b.frm.ioBad, syncLast := b.frm.syncLast } }
  let b := (b.setPair F.FRM_WFN_LO F.FRM_WFN_HI 0).setPair F.FRM_FS_LO F.FRM_FS_HI (nsOf b.frm.cur.own)
  ((b.setPair F.FRM_NEXT_FS_LO F.FRM_NEXT_FS_HI 0).irq F.FRM_IRQ_STATUS_FRAME).frmKnow

/-- A change of role by a partial moves FRM between FOLLOW and FREERUN without a step (R187). -/
def Block.gridRole (b : Block) : Block :=
  if b.role = roleTile then (if b.frmState = frmFollow then b else b.setFrm frmFollow)
  else if b.frmState = frmFollow then { b.setFrm frmFreerun with frm.events := [] }.frmKnow else b

/-- An instant in whole nanoseconds of STC, moved with a step of STC. -/
def movedNs (d : Int) (t : Nat) : Nat := (t + d).toNat

/-- The step of STC, `o` in 1/40 ns, moves the frame times already fixed and discards what came before it (R171); what began at an
instant of the old STC ends at the same real instant. -/
def Block.gridStep (b : Block) (o : Int) : Block :=
  let d := o / 40
  let q := o * 65536 / 40
  let mv (p : Plan) : Plan :=
    { p with fs := p.fs + q, own := p.own + q, close := p.close + q, deadline := p.deadline + q
             scale := p.scale + q, hdr := p.hdr + q, guard := p.guard + q }
  let wire (q : Strand) : Strand :=
    { q with until' := movedNs d q.until', collectAt := q.collectAt.map (movedNs d), diagAt := q.diagAt.map (movedNs d) }
  let ends := b.frm.pulseEnd.map (fun x => x.map (movedNs d))
  let lasts := b.frm.pulseLast.map (fun x => x.map (movedNs d))
  let b := { b with frm := { b.frm with cur := mv b.frm.cur, next := b.frm.next.map mv, later := b.frm.later.map mv, events := [], syncLast := none } }
  let b := { b with frm := { b.frm with pulseEnd := ends, pulseLast := lasts } }
  let b := { b with scn.settle := b.scn.settle.map (fun x : Settle => { x with limit := movedNs d x.limit }) }
  let b := { b with str.strings := b.str.strings.map wire }
  (b.setPair F.FRM_FS_LO F.FRM_FS_HI (nsOf b.frm.cur.own)).showNext

/-! ### FRM_IO (R199, R200) -/

/-- Is a width `w` less than the spacing of the pulses of output `k` (R200)? -/
def Block.belowSpacing (b : Block) (k : Nat) (w : Int) : Bool :=
  if b.act (F.FRM_SYNC_OUTk_CFG_MODE k) = 2 then
    decide (w * b.segments < b.emitLen * (b.act (F.FRM_SYNC_OUTk_CFG_SEG_DIV_M1 k) + 1))
  else decide (w < b.pMin * (b.act (F.FRM_SYNC_OUTk_CFG_DIV_M1 k) + 1))

/-- The signed OFFSET of output `k`. -/
def Block.pulseOffset (b : Block) (k : Nat) : Int := q16 (b.actInt (F.FRM_SYNC_OUTk_OFFSET k))

/-- Does output `k`, if it is in use, meet R200? -/
def Block.outputOk (b : Block) (k : Nat) : Bool :=
  let w := q16 (b.act (F.FRM_SYNC_OUTk_WIDTH_NS k))
  b.act (F.FRM_SYNC_OUTk_CFG_MODE k) == 0 ||
    (decide (q16 100 ≤ w) && decide (w ≤ q16 1000000) && decide (-(min b.gMin b.leadMax) ≤ b.pulseOffset k)
      && decide (b.pulseOffset k < b.pMin - w) && b.belowSpacing k w)

/-- Does ROLL_OFFSET meet R200? -/
def Block.rollOk (b : Block) : Bool := decide (q16 (b.act F.FRM_ROLL_OFFSET) ≤ b.emitLen)

/-- What of FRM_IO fails R200 under the mode in force: outputs 0 and 1, and 2 for the roll offset. -/
def Block.ioFails (b : Block) : List Nat :=
  (if b.outputOk 0 then [] else [0]) ++ (if b.outputOk 1 then [] else [1]) ++ (if b.rollOk then [] else [2])

/-- The inactive level of output `k`: low, or high with POL set (R199); low before a role takes effect and in sleep. -/
def Block.syncIdle (b : Block) (k : Nat) : Bool :=
  b.role != 0 && !b.pm.gate && b.actBit (F.FRM_SYNC_OUTk_CFG_POL k)

/-- Drive output `k`. -/
def Block.drive (b : Block) (k : Nat) (v : Bool) : Block :=
  if b.pins.syncOut[k]? = some v then b
  else { b with pins.syncOut := b.pins.syncOut.set k v }.emit (.syncOut k v)

/-- Outputs without a pulse take their inactive level. -/
def Block.syncRest (b : Block) : Block :=
  b.each [0, 1] (fun k b => if (b.frm.pulseEnd[k]?).join.isSome then b else b.drive k (b.syncIdle k))

/-- After an install of FRM_MODE, or with `io` of FRM_IO: what fails is held inactive, and IO_INVALID tells; what is held already stays
so until a valid FRM_IO installs (R200). -/
def Block.ioInstalled (b : Block) (io : Bool) : Block :=
  let bad := b.ioFails
  let held := if io && bad.isEmpty then [] else b.frm.ioBad.filter (!bad.contains ·) ++ bad
  ({ b with frm.ioBad := held }.raiseIf (!bad.isEmpty) E.FRM_IO_INVALID).syncRest

/-- When a pulse of output `k` begins: in frame `p`, at segment `j` in SEGMENT mode; none if the mode gives no pulse. -/
def Block.pulseStart (b : Block) (k : Nat) (p : Plan) (j : Nat) : Option Int :=
  let mode := b.act (F.FRM_SYNC_OUTk_CFG_MODE k)
  let inPhase := p.wfn % (b.act (F.FRM_SYNC_OUTk_CFG_DIV_M1 k) + 1) == b.act (F.FRM_SYNC_OUTk_CFG_PHASE k)
  if b.frm.ioBad.contains k then none
  else if mode = 1 ∧ inPhase then some (p.own + b.pulseOffset k)
  else if mode = 2 ∧ j < b.segments ∧ j % (b.act (F.FRM_SYNC_OUTk_CFG_SEG_DIV_M1 k) + 1) = 0 then
    some (p.own + j * p.emit / b.segments + b.pulseOffset k)
  else if mode = 3 ∧ inPhase then some (p.own + p.emit + b.pulseOffset k)
  else none

/-- SYNC_OUT_PULSE (R199): the pulse of output `k` in the frame that runs, or in the next one once it is fixed. -/
def syncOutPulse (k : Nat) (ahead : Bool) (j : Nat) (b : Block) : Block :=
  let frame := if ahead then b.frm.next else some b.frm.cur
  match frame with
  | none => b
  | some p =>
    match b.pulseStart k p j with
    | none => b
    | some t =>
      let t := nsOf t
      let done : Bool := match (b.frm.pulseLast[k]?).join with | some t0 => decide (t ≤ t0) | none => false
      if 2 ≤ k ∨ b.role = 0 ∨ b.pm.gate ∨ done then b
      else
        let b := b.untilStc t
        let stop := t + b.act (F.FRM_SYNC_OUTk_WIDTH_NS k)
        let active := (b.frm.pulseEnd[k]?).join.isSome
        let b := { b with frm := { b.frm with
          pulseEnd := b.frm.pulseEnd.set k (some stop), pulseLast := b.frm.pulseLast.set k (some t) } }
        if active then b.countSat (F.FRM_CNT_Ei 11) 1 else b.drive k (!b.syncIdle k)

/-- SYNC_OUT_PULSE_END (R199). -/
def syncOutPulseEnd (k : Nat) (b : Block) : Block :=
  match (b.frm.pulseEnd[k]?).join with
  | some t =>
    let b := b.untilStc t
    { b with frm.pulseEnd := b.frm.pulseEnd.set k none }.drive k (b.syncIdle k)
  | none => b

/-- SYNC_IN_EDGE (R58, R198): a rising edge at STC `ts`; none is stamped while the time island stands (R442). -/
def syncInEdge (ts : Nat) (b : Block) : Block :=
  let b := b.untilStc ts
  if b.pm.stcStopped then b else
  let soon : Bool := match b.frm.syncLast with | some t => decide (ts < t + 3333333) | none => false
  if soon then b.countSat (F.FRM_CNT_Ei 9) 1
  else
    let b := { b with frm.syncLast := some ts }.setPair F.FRM_SYNC_IN_TS_LO F.FRM_SYNC_IN_TS_HI ts
    let b := b.countSat (F.FRM_CNT_Ei 8) 1
    if b.isHead ∧ b.act F.FRM_REF_KIND = 2 then b.frmEvent (q16 (ts - b.actInt F.FRM_SYNC_IN_DELAY)) else b

/-- PLAN_POINT. -/
def execPlanPoint (s : State) : Host.Outcome State Fault Refusal := s.done (planPoint s.blk)
/-- SYNC_IN_EDGE. -/
def execSyncInEdge (ts : Nat) (s : State) : Host.Outcome State Fault Refusal := s.done (syncInEdge ts s.blk)
/-- SYNC_OUT_PULSE. -/
def execSyncOutPulse (k : Nat) (ahead : Bool) (j : Nat) (s : State) : Host.Outcome State Fault Refusal :=
  s.done (syncOutPulse k ahead j s.blk)
/-- SYNC_OUT_PULSE_END. -/
def execSyncOutPulseEnd (k : Nat) (s : State) : Host.Outcome State Fault Refusal := s.done (syncOutPulseEnd k s.blk)

end Sys2Proof.Machine
end

