-- ==== Sys2Proof/Machine/Surface.lean ====
section
/-!
DEFINITION. Surfaces in DRAM: storage formats (R148), the layouts of R158 and R160, OCS blocks (R161), descriptors (R159)
and the holds on them, shared by ING, RPL and CMP.
-/

namespace Sys2Proof.Machine

/-! ### Formats (R148, R158, R160) -/

/-- Is FORMAT reserved? -/
def fmtReserved (f : Nat) : Bool := decide (8 < f)
/-- Depth n of a FORMAT. -/
def fmtDepth (f : Nat) : Nat :=
  if f = 0 ∨ f = 5 then 8 else if f = 1 ∨ f = 3 ∨ f = 6 then 10 else if f = 8 then 16 else 12
/-- Is the FORMAT 4:2:2? -/
def fmt422 (f : Nat) : Bool := decide (f < 3)
/-- Is the FORMAT RGB? -/
def fmtRgb (f : Nat) : Bool := decide (5 ≤ f)
/-- Storage bytes per pixel. -/
def fmtBytes (f : Nat) : Nat := if fmt422 f then 4 else 8
/-- STRIDE of an uncompressed surface (R158). -/
def rawStride (w f : Nat) : Nat := ceilDiv (w * fmtBytes f) 256 * 256
/-- HDR of an OCS track (R160). -/
def ocsHdr (w : Nat) : Nat := ceilDiv (w / 8) 16 * 16
/-- MAXB (R160). -/
def ocsMax (f : Nat) : Nat := if fmt422 f then 272 else 400
/-- Track stride of an OCS surface (R160). -/
def ocsStride (w f : Nat) : Nat := ceilDiv (ocsHdr w + w / 8 * ocsMax f) 256 * 256
/-- STRIDE by layout. -/
def strideOf (ocs : Bool) (w f : Nat) : Nat := if ocs then ocsStride w f else rawStride w f
/-- Surface bytes (R158, R160). -/
def surfBytes (ocs : Bool) (w h f : Nat) : Nat := if ocs then ceilDiv h 8 * ocsStride w f else h * rawStride w f
/-- Surface bytes of a surface. -/
def Surf.bytes (x : Surf) : Nat := surfBytes x.ocs x.w x.h x.fmt

/-! ### Descriptors (R159) -/

/-- A surface that holds nothing. -/
def Surf.free (desc data : Nat) : Surf :=
  ⟨0, desc, data, 0, false, false, false, 0, 0, 0, 0, 0, 0, 0, false, 0, 0, 0, 0, 0, 0⟩

/-- The STATE word. -/
def Surf.word (x : Surf) : Nat := x.st + flagBits [false, false, x.inc, x.a, x.b] + x.holds % 16 * 256

/-- The 64 bytes of a descriptor. -/
def Surf.descriptor (x : Surf) : List Byte :=
  leBytes 4 x.word ++ leBytes 4 x.rows ++ leBytes 8 x.stc ++ leBytes 4 x.rtp ++ leBytes 4 x.seq ++ leBytes 8 x.frame
    ++ leBytes 4 (x.fmt + if x.ocs then 256 else 0) ++ leBytes 4 (x.w + 65536 * x.h) ++ leBytes 4 (x.x0 + 65536 * x.y0)
    ++ leBytes 4 x.stride ++ leBytes 4 x.lost ++ leBytes 12 0

/-- A client writes a surface's descriptor to DRAM. -/
def Block.writeDesc (b : Block) (client : Nat) (x : Surf) : Block := b.dramWrite client x.desc x.descriptor

/-- A little-endian number of `n` bytes in DRAM. -/
def Block.dramNat (b : Block) (a n : Nat) : Nat := leNat (b.dramBytes a n)

/-- The surface that the descriptor at `a` describes (R212, SURFACE), with its data at `data`: a descriptor does not say
where they lie, and no rule does (free value `Config.surfaceData`, log entry 20). -/
def Block.readDesc (b : Block) (a data : Nat) : Surf :=
  let st := b.dramNat a 4
  let f := b.dramNat (a + 32) 4
  let sz := b.dramNat (a + 36) 4
  let org := b.dramNat (a + 40) 4
  { id := 0, desc := a, data := data, st := st % 4, inc := bitOf st 2, a := bitOf st 3, b := bitOf st 4
    holds := st / 256 % 16, rows := b.dramNat (a + 4) 4, stc := b.dramNat (a + 8) 8, rtp := b.dramNat (a + 16) 4
    seq := b.dramNat (a + 20) 4, frame := b.dramNat (a + 24) 8, fmt := f % 16, ocs := bitOf f 8
    w := sz % 0x4000, h := sz / 65536 % 0x4000, x0 := org % 0x4000, y0 := org / 65536 % 0x4000
    stride := b.dramNat (a + 44) 4, lost := b.dramNat (a + 48) 4 }

/-! ### Pixels of uncompressed surfaces (R158) -/

/-- The stored bytes of a pixel of code values `p`. -/
def pixelBytes (f : Nat) (p : List Nat) : List Byte :=
  let n := fmtDepth f
  let k := if fmt422 f then 2 else 3
  let bs := ((List.range k).map (fun i => leBytes 2 (p.getD i 0 % 2 ^ n * 2 ^ (16 - n)))).flatten
  if fmt422 f then bs else bs ++ leBytes 2 0

/-- The code values of a stored pixel. -/
def pixelOf (f : Nat) (bs : List Byte) : List Nat :=
  let n := fmtDepth f
  (List.range (if fmt422 f then 2 else 3)).map (fun i => leNat ((bs.drop (2 * i)).take 2) / 2 ^ (16 - n))

/-- The black code of a format at column `x` (R154). -/
def blackPixel (f : Nat) : List Nat :=
  if fmtRgb f then [0, 0, 0]
  else
    let k := 2 ^ (fmtDepth f - 8)
    if fmt422 f then [16 * k, 128 * k] else [16 * k, 128 * k, 128 * k]

/-- Write a run of pixels from column `x` of a row that starts at `a`, into sparse bytes. -/
def writePixels (f a : Nat) : List (List Nat) → List Host.Cell → List Host.Cell
  | [], l => l
  | p :: r, l =>
    let bs := pixelBytes f p
    writePixels f (a + fmtBytes f) r
      ((List.range bs.length).foldl (fun l i => cellsSet l (a + i) (bs.getD i 0) 0) l)

/-- The pixel at address `a` of sparse bytes. -/
def readPixel (l : List Host.Cell) (f a : Nat) : List Nat :=
  pixelOf f ((List.range (fmtBytes f)).map (fun i => cellsGet l (a + i) 0))

/-! ### OCS blocks (R161) -/

/-- The components of an 8 × 8 block of pixels (row-major): samples and columns. -/
def blockComponents (f : Nat) (px : List (List Nat)) : List (List Nat × Nat) :=
  let comp (i : Nat) (l : List (List Nat)) : List Nat := l.map (·.getD i 0)
  if fmt422 f then
    let at' (k : Nat) : List (List Nat) :=
      ((List.range 64).filter (fun i => i % 2 == k)).map (fun i => px.getD i [])
    [(comp 0 px, 8), (comp 1 (at' 0), 4), (comp 1 (at' 1), 4)]
  else [(comp 0 px, 8), (comp 1 px, 8), (comp 2 px, 8)]

/-- The folded differences of a component's samples 1 onward. -/
def ocsFold (s : List Nat) (cols n : Nat) : List Nat :=
  ((List.range s.length).drop 1).map (fun i =>
    let p := if i % cols ≠ 0 then s.getD (i - 1) 0 else s.getD (i - cols) 0
    let d := (s.getD i 0 + 2 ^ n - p % 2 ^ n) % 2 ^ n
    if d < 2 ^ (n - 1) then 2 * d else 2 * (2 ^ n - d) - 1)

/-- Numbers packed `k` bits each, least significant bit first. -/
def packBits (k : Nat) : List Nat → Nat
  | [] => 0
  | m :: r => m + 2 ^ k * packBits k r

/-- One coded component. -/
def ocsComponent (n : Nat) (c : List Nat × Nat) : List Byte :=
  let ms := ocsFold c.1 c.2 n
  let top := ms.foldl max 0
  let k := if top = 0 then 0 else Nat.log2 top + 1
  leBytes 1 k ++ leBytes 2 (c.1.headD 0) ++ leBytes (ceilDiv (k * ms.length) 8) (packBits k ms)

/-- A coded block, padded to a multiple of 16 bytes. -/
def ocsBlock (f : Nat) (px : List (List Nat)) : List Byte :=
  let bs := ((blockComponents f px).map (ocsComponent (fmtDepth f))).flatten
  bs ++ List.replicate (ceilDiv bs.length 16 * 16 - bs.length) 0

/-- A coded track: its blocks' bytes behind the header of their sizes (R160). -/
def ocsTrack (w f : Nat) (px : Nat → Nat → List Nat) : List Byte :=
  let blocks := (List.range (w / 8)).map (fun k =>
    ocsBlock f ((List.range 64).map (fun i => px (i / 8) (8 * k + i % 8))))
  let hdr := (blocks.map (fun bs => (BitVec.ofNat 8 (bs.length / 16) : Byte)))
  hdr ++ List.replicate (ocsHdr w - w / 8) 0 ++ blocks.flatten

/-- Undo the prediction: samples from sample 0 and the folded differences. -/
def ocsUnfold (cols n : Nat) : List Nat → List Nat → List Nat
  | s, [] => s
  | s, m :: r =>
    let i := s.length
    let p := if i % cols ≠ 0 then s.getD (i - 1) 0 else s.getD (i - cols) 0
    let d := if m % 2 = 0 then m / 2 else 2 ^ n - (m + 1) / 2
    ocsUnfold cols n (s ++ [(p + d) % 2 ^ n]) r

/-- Decode one component: its samples and the bytes behind it; none if k > n or the bytes end before it does. -/
def ocsDecode (cols count n : Nat) (bs : List Byte) : Option (List Nat × List Byte) :=
  let k := leNat (bs.take 1)
  if n < k then none
  else
    let len := ceilDiv (k * (count - 1)) 8
    if bs.length < 3 + len then none
    else
    let v := leNat ((bs.drop 3).take len)
    let ms := (List.range (count - 1)).map (fun i => v / 2 ^ (k * i) % 2 ^ k)
    some (ocsUnfold cols n [leNat ((bs.drop 1).take 2)] ms, bs.drop (3 + len))

/-- Decode a block: the three components' samples; none if it is corrupt (R161). -/
def ocsUnblock (f : Nat) (bs : List Byte) : Option (List (List Nat)) :=
  let n := fmtDepth f
  let c := if fmt422 f then (4, 32) else (8, 64)
  match ocsDecode 8 64 n bs with
  | none => none
  | some (x, r) =>
    match ocsDecode c.1 c.2 n r with
    | none => none
    | some (y, r) =>
      match ocsDecode c.1 c.2 n r with
      | none => none
      | some (z, r) =>
        let used := bs.length - r.length
        if ceilDiv used 16 * 16 == bs.length then some [x, y, z] else none

/-- Block `k` of track `t` of an OCS surface, decoded. -/
def Block.ocsRead (b : Block) (x : Surf) (t k : Nat) : Option (List (List Nat)) :=
  let base := x.data + t * x.stride
  let sizes := (List.range (k + 1)).map (fun i => (b.dramByte (base + i)).toNat)
  let from' := base + ocsHdr x.w + 16 * (sizes.dropLast).sum
  ocsUnblock x.fmt (b.dramBytes from' (16 * sizes.getLastD 0))

/-- A client reads crop rows `lo` to `hi` of a surface (R356). -/
def Block.surfUse (b : Block) (client : Nat) (x : Surf) (lo hi : Nat) : Block :=
  let k := if x.ocs then 8 else 1
  b.dramUse client (x.data + lo / k * x.stride) ((hi / k - lo / k + 1) * x.stride)

/-- The code values of the pixel at crop row `r`, column `c` of a surface; for 4:2:2 Y and the chroma stored at that
column. None where the block is corrupt. -/
def Block.surfPixel (b : Block) (x : Surf) (r c : Nat) : Option (List Nat) :=
  if x.ocs then
    (b.ocsRead x (r / 8) (c / 8)).map (fun s =>
      let i := r % 8 * 8 + c % 8
      if fmt422 x.fmt then [(s.getD 0 []).getD i 0, (s.getD (1 + c % 2) []).getD (r % 8 * 4 + c % 8 / 2) 0]
      else [(s.getD 0 []).getD i 0, (s.getD 1 []).getD i 0, (s.getD 2 []).getD i 0])
  else some (readPixel b.dram x.fmt (x.data + r * x.stride + c * fmtBytes x.fmt))

/-! ### Choosing a buffer (R153, R228) -/

/-- The buffer whose content is oldest among those with no hold and not `busy`, never the newest complete one: a free
one first, the lowest. -/
def oldestFree (l : List Surf) (newest : Nat) (busy : List Nat) : Option Surf :=
  let ok := l.filter (fun x => x.holds == 0 && (x.id == 0 || x.id != newest) && !busy.contains x.id)
  ok.foldl (fun best x => match best with
    | none => some x
    | some y => if x.id < y.id then some x else some y) none

end Sys2Proof.Machine
end

