-- ==== Sys2Proof/Machine/Join.lean ====
section
/-!
DEFINITION. Which stream a datagram belongs to, for ING and AUD alike (R147, R382), and the group memberships of their
paths (R150).
-/

namespace Sys2Proof.Machine

/-- Is ING at work: HEAD or HEAD_TILE on an H128, with its clocks running (R23, R429)? -/
def Block.ingOn (b : Block) : Bool := b.role != 0 && !b.idle 0x12 && b.pipes

/-- Does AUD receive streams: HEAD and HEAD_TILE (R382)? -/
def Block.audStreamOn (b : Block) : Bool := b.isHead

/-- A value in force of an address: the IPv4 word, or four words (R147). -/
def Block.actAddr (b : Block) (v6 : Bool) (w : Nat → Fld) : Nat :=
  if v6 then ((b.act (w 0) * 2 ^ 32 + b.act (w 1)) * 2 ^ 32 + b.act (w 2)) * 2 ^ 32 + b.act (w 3) else b.act (w 0)

/-- A stream path as its registers in force configure it: enabled, group, source if SSM, UDP port. -/
structure PathCfg where
  on : Bool
  v6 : Bool
  grp : Nat
  src : Option Nat
  port : Nat
  deriving DecidableEq, Repr

/-- Path `e` (0 A, 1 B) of ING stream `s`. -/
def Block.ingPath (b : Block) (s e : Nat) : PathCfg :=
  let v6 := b.actBit (F.ING_STRs_CTRL_IPV6 s)
  { on := b.actBit (F.ING_STRs_CTRL_EN s) && b.actBit (if e = 0 then F.ING_STRs_CTRL_PATH_A s else F.ING_STRs_CTRL_PATH_B s)
    v6 := v6
    grp := b.actAddr v6 (if e = 0 then F.ING_STRs_GRP_Aw s else F.ING_STRs_GRP_Bw s)
    src := if b.actBit (F.ING_STRs_CTRL_SSM s) then
        some (b.actAddr v6 (if e = 0 then F.ING_STRs_SRC_Aw s else F.ING_STRs_SRC_Bw s)) else none
    port := b.act (if e = 0 then F.ING_STRs_PORTS_UDP_A s else F.ING_STRs_PORTS_UDP_B s) }

/-- A field of group AUDp as port and stream `p` latched it at the last block boundary (R380). -/
def Block.audGet (b : Block) (p : Nat) (f : Fld) : Nat :=
  f.of (cellsGet ((b.aud.ports[p]?).map (·.cfg) |>.getD []) f.addr (keyReset f.addr)).toNat

/-- A latched one-bit field. -/
def Block.audBit (b : Block) (p : Nat) (f : Fld) : Bool := b.audGet p f != 0

/-- A latched address: the IPv4 word, or four words. -/
def Block.audAddr (b : Block) (p : Nat) (v6 : Bool) (w : Nat → Fld) : Nat :=
  if v6 then ((b.audGet p (w 0) * 2 ^ 32 + b.audGet p (w 1)) * 2 ^ 32 + b.audGet p (w 2)) * 2 ^ 32 + b.audGet p (w 3)
  else b.audGet p (w 0)

/-- Path `e` of AUD stream `a`. -/
def Block.audPath (b : Block) (a e : Nat) : PathCfg :=
  let v6 := b.audBit a (F.AUDp_STR_CTRL_IPV6 a)
  { on := b.audBit a (F.AUDp_STR_CTRL_EN a) && b.audBit a (if e = 0 then F.AUDp_STR_CTRL_PATH_A a else F.AUDp_STR_CTRL_PATH_B a)
    v6 := v6
    grp := b.audAddr a v6 (if e = 0 then F.AUDp_GRP_Aw a else F.AUDp_GRP_Bw a)
    src := if b.audBit a (F.AUDp_STR_CTRL_SSM a) then
        some (b.audAddr a v6 (if e = 0 then F.AUDp_SRC_Aw a else F.AUDp_SRC_Bw a)) else none
    port := b.audGet a (if e = 0 then F.AUDp_STR_PORTS_UDP_A a else F.AUDp_STR_PORTS_UDP_B a) }

/-- Does a datagram belong to a path (R147)? -/
def PathCfg.takes (c : PathCfg) (d : Datagram) : Bool :=
  c.on && c.v6 == d.v6 && c.grp == d.dst && c.port == d.port && (match c.src with | some x => x == d.src | none => true)

/-- The ING stream a datagram belongs to: the lowest that matches. -/
def Block.ingMatch (b : Block) (d : Datagram) : Option Nat :=
  if b.ingOn && decide (d.eth < 2) then (List.range 16).find? (fun s => (b.ingPath s d.eth).takes d) else none

/-- The AUD stream a datagram belongs to. -/
def Block.audMatch (b : Block) (d : Datagram) : Option Nat :=
  if b.audStreamOn && decide (d.eth < 2) then (List.range 4).find? (fun a => (b.audPath a d.eth).takes d) else none

/-! ### Group membership (R150) -/

/-- What identifies a membership on the network. -/
def Member.same (x y : Member) : Bool := x.path == y.path && x.v6 == y.v6 && x.grp == y.grp && x.src == y.src

/-- A membership report leaves on the path's port: an IGMPv3 or MLDv2 report with one record. -/
def Block.sendReport (b : Block) (m : Member) (join : Bool) : Block :=
  let n := m.path
  let srcs := if m.src.isSome then 1 else 0
  let dst := if m.v6 then 0xFF020000000000000000000000000016 else 0xE0000016
  let len := if m.v6 then 8 + 8 + 20 + 16 * srcs else 4 + 8 + 8 + 4 * srcs
  b.ethSendIp n 0 (b.get (F.ETHn_TX_PCP_MSG n)) m.v6 dst len (.member n m.v6 m.grp m.src join)

/-- UNSOL_100MS in ns. -/
def Block.unsolNs (b : Block) : Nat := b.get F.ING_MCAST_CTRL_UNSOL_100MS * 100000000

/-- A change of membership, or a link that comes up: ROBUST reports, the first now (R150). -/
def Block.startReports (b : Block) (m : Member) (join : Bool) : Block :=
  let k := b.get F.ING_MCAST_CTRL_ROBUST
  let rest := b.ing.reports.filter (fun r => !r.m.same m)
  if k = 0 then { b with ing.reports := rest }
  else
    let b := b.sendReport m join
    { b with ing.reports := if k = 1 then rest else rest ++ [Pending.mk m join (k - 1) (b.clk + b.unsolNs)] }

/-- The memberships that the values in force call for: every enabled path whose address is a group. In a thermal shutdown ING
stands where it stopped, and AUD goes on (R429). -/
def Block.wantMembers (b : Block) : List Member :=
  let of' (owner e : Nat) (c : PathCfg) : List Member :=
    if c.on && isGroup c.v6 c.grp then [⟨owner, e, c.v6, c.grp, c.src⟩] else []
  let ing := if b.shutdown && !b.pm.gate then b.ing.members.filter (fun m => decide (m.owner < 16))
    else if b.ingOn then
      ((List.range 16).map (fun s => of' s 0 (b.ingPath s 0) ++ of' s 1 (b.ingPath s 1))).flatten else []
  let aud := if b.audStreamOn && !b.pm.gate then
      ((List.range 4).map (fun a => of' (16 + a) 0 (b.audPath a 0) ++ of' (16 + a) 1 (b.audPath a 1))).flatten else []
  ing ++ aud

/-- JOINED_A and JOINED_B show membership as declared (R150, R382). -/
def Block.showJoined (b : Block) : Block :=
  let has (o e : Nat) : Bool := b.ing.members.any (fun m => m.owner == o && m.path == e)
  let b := b.each (List.range 16) (fun s b =>
    (b.setBit (F.ING_STRs_STATUS_JOINED_A s) (has s 0)).setBit (F.ING_STRs_STATUS_JOINED_B s) (has s 1))
  b.each (List.range 4) (fun a b =>
    (b.setBit (F.AUDp_STATUS_JOINED_A a) (has (16 + a) 0)).setBit (F.AUDp_STATUS_JOINED_B a) (has (16 + a) 1))

/-- After an install: groups of paths that are gone are left, those of new ones joined. A tile sends no report (R24). -/
def Block.joinSync (b : Block) : Block :=
  let had := b.ing.members
  let want := b.wantMembers
  if had = want then b
  else
    let b := { b with ing.members := want }
    if b.role = roleTile then { b with ing.reports := [] }.showJoined
    else
    let left := had.filter (fun m => !want.any (·.same m))
    let came := want.filter (fun m => !had.any (·.same m))
    let b := b.each left (fun m b => b.startReports m false)
    (b.each came (fun m b => b.startReports m true)).showJoined

/-- IGMP_QUERY (R150): a general query, or one for a group, is answered with the current memberships on that port. -/
def igmpQuery (eth : Nat) (v6 : Bool) (grp : Option Nat) (b : Block) : Block :=
  let l := b.ing.members.filter (fun m => m.path == eth && m.v6 == v6 && (match grp with | some g => g == m.grp | none => true))
  b.each l (fun m b => b.sendReport m true)

/-- UNSOLICITED_REPORT (R150): the earliest report that is due. -/
def unsolicitedReport (b : Block) : Block :=
  let first := b.ing.reports.foldl (fun best r => match best with
    | some (x : Pending) => if r.due < x.due then some r else some x
    | none => some r) none
  match first with
  | none => b
  | some r =>
    let b := b.untilClk r.due
    let rest := b.ing.reports.filter (fun x => !x.m.same r.m)
    let b := { b with ing.reports :=
      if r.left ≤ 1 then rest else rest ++ [{ r with left := r.left - 1, due := r.due + b.unsolNs }] }
    b.sendReport r.m r.join

/-- A port's link has come up: reports are sent again (R150). -/
def Block.linkReports (b : Block) (n : Nat) : Block :=
  b.each (b.ing.members.filter (·.path == n)) (fun m b => b.startReports m true)

/-- IGMP_QUERY. -/
def execIgmpQuery (eth : Nat) (v6 : Bool) (grp : Option Nat) (s : State) : Host.Outcome State Fault Refusal :=
  s.done (igmpQuery eth v6 grp s.blk)
/-- UNSOLICITED_REPORT. -/
def execUnsolicitedReport (s : State) : Host.Outcome State Fault Refusal := s.done (unsolicitedReport s.blk)

end Sys2Proof.Machine
end

