-- ==== Sys2Proof/Machine/Aud.lean ====
section
/-!
DEFINITION. Audio ports (R376 to R391): reception and merging of ST 2110-30 packets, the block boundary that latches a
group's values and starts, restarts and stops ports, the frame that fetches and plays, silent start and stop, capture.
-/

namespace Sys2Proof.Machine

/-! ### Streams (R382 to R384) -/

/-- Stream `a` beside its registers. -/
def Block.audStream (b : Block) (a : Nat) : AudStream := b.aud.streams.getD a ⟨[], none, [none, none]⟩

/-- Change stream `a`. -/
def Block.onAud (b : Block) (a : Nat) (f : AudStream → AudStream) : Block :=
  { b with aud.streams := b.aud.streams.modify a f }

/-- Samples a second by a RATE code. -/
def audFs (rate : Nat) : Nat := if rate = 0 then 48000 else 96000

/-- The UP bits of stream `a`, and PATH_CHANGE if one changes (R390). -/
def Block.audUp (b : Block) (a : Nat) (pa pb : Bool) : Block :=
  let change := b.bit (F.AUDp_STATUS_PATH_A_UP a) != pa || b.bit (F.AUDp_STATUS_PATH_B_UP a) != pb
  let b := (b.setBit (F.AUDp_STATUS_PATH_A_UP a) pa).setBit (F.AUDp_STATUS_PATH_B_UP a) pb
  b.irqIf change F.AUD_IRQ_STATUS_PATH_CHANGE

/-- A packet of path `e` arrives: the path is up and the stream receives (R383). -/
def Block.audHeard (b : Block) (a e : Nat) : Block :=
  let b := b.onAud a (fun q => { q with heard := q.heard.set e (some b.clk) })
  let b := b.audUp a (e == 0 || b.bit (F.AUDp_STATUS_PATH_A_UP a)) (e == 1 || b.bit (F.AUDp_STATUS_PATH_B_UP a))
  b.setBit (F.AUDp_STATUS_RECEIVING a) true

/-- The 64-bit index of a sample (R384, by the rule of R180). -/
def sampleIndex (fs ts rx : Nat) : Nat :=
  let est := rx * fs / 1000000000
  let full := est / 2 ^ 32 * 2 ^ 32 + ts % 2 ^ 32
  if est + 0x80000000 < full then full - 2 ^ 32
  else if full + 0x80000000 < est then full + 2 ^ 32 else full

/-- A sample of `n` bytes as it arrives, MSB first, in 24 bits two's complement (R379). -/
def sampleOf (bytes : List Byte) : Nat := bytes.foldl (fun acc (x : Byte) => 256 * acc + x.toNat) 0 * 256 ^ (3 - bytes.length)

/-- Split a list into pieces of `n`, at most `k` of them. -/
def pieces {α : Type} (n : Nat) : Nat → List α → List (List α)
  | 0, _ => []
  | _ + 1, [] => []
  | k + 1, l => l.take n :: pieces n k (l.drop n)

/-- DELAY of the first port that will fetch stream `a`: the least of the running output ports that name it. -/
def Block.audDelay (b : Block) (a : Nat) : Option Nat :=
  let ps := (List.range 4).filter (fun p => bitOf (b.get F.AUD_STATUS_RUNNING) p && !b.audBit p (F.AUDp_CFG_DIR p)
    && (List.range 16).any (fun t => b.audBit p (F.AUDp_SLOTt_SRC_EN p t) && b.audGet p (F.AUDp_SLOTt_SRC_STREAM p t) == a))
  match ps.map (fun p => b.audGet p (F.AUDp_DELAY_FRAMES p)) with
  | [] => none
  | d :: r => some (r.foldl min d)

/-- Write frame `k` of stream `a` into the playout buffer, unless its valid bit is set or it has been fetched (R384, R385). -/
def Block.audWrite (b : Block) (a k : Nat) (samples : List Nat) : Block :=
  let q := b.audStream a
  let slot := k % 16384
  if (match q.fetchedTo with | some t => decide (k ≤ t) | none => false) then b.countSat (F.AUDp_CNT_Ei a 1) 1
  else if q.valid.contains slot then b
  else
    let base := b.audGet a (F.AUDp_BUF_BASE_LO a) + 2 ^ 32 * b.audGet a (F.AUDp_BUF_BASE_HI_BASE a)
    let b := b.dramWrite 6 (base + 64 * slot) ((samples.map (fun x => leBytes 4 (256 * x))).flatten)
    b.onAud a (fun q => { q with valid := slot :: q.valid })

/-- AUDIO_PACKET (R383, R384). -/
def audioPacket (k : AudioPacket) (b : Block) : Block :=
  match b.audMatch k.addr with
  | none => b
  | some a =>
    let b := b.audHeard a k.addr.eth
    let width := if b.audBit a (F.AUDp_STR_CTRL_L24 a) then 3 else 2
    let frame := width * (b.audGet a (F.AUDp_STR_CTRL_CH_M1 a) + 1)
    if k.pt ≠ b.audGet a (F.AUDp_STR_CTRL_PT a) then (b.countSat (F.AUDp_CNT_Ei a 3) 1).raise E.AUD_PT
    else if k.payload.length % frame ≠ 0 then (b.countSat (F.AUDp_CNT_Ei a 4) 1).raise E.AUD_FORMAT
    else
      let fs := audFs (b.audGet a (F.AUDp_STR_CTRL_RATE a))
      let k0 := sampleIndex fs k.ts k.rx
      let early := match b.audDelay a with
        | some d => decide (k.rx * fs / 1000000000 + 16320 + 64 < k0 + d)
        | none => false
      if early then b.countSat (F.AUDp_CNT_Ei a 2) 1
      else
        let frames := pieces frame (k.payload.length / frame) k.payload
        (frames.foldl (fun (x : Nat × Block) f =>
          (x.1 + 1, x.2.audWrite a x.1 ((pieces width 16 f).map sampleOf))) (k0, b)).2

/-- 2 ms in ns (R383). -/
def audSilence : Nat := 2000000

/-- AUDIO_PATH_TIMEOUT (R383): path `e` of stream `a` has delivered nothing for 2 ms. -/
def audioPathTimeout (a e : Nat) (b : Block) : Block :=
  let upA := b.bit (F.AUDp_STATUS_PATH_A_UP a)
  let upB := b.bit (F.AUDp_STATUS_PATH_B_UP a)
  match ((b.audStream a).heard[e]?).join with
  | none => b
  | some t =>
    if 4 ≤ a ∨ 2 ≤ e ∨ !(if e = 0 then upA else upB) ∨ !b.audStreamOn then b
    else
      let b := b.untilClk (t + audSilence)
      let other := match ((b.audStream a).heard[1 - e]?).join with
        | some u => (if e = 0 then upB else upA) && decide (b.clk < u + audSilence)
        | none => false
      if other then b.audUp a (e != 0) (e != 1)
      else ((b.audUp a false false).setBit (F.AUDp_STATUS_RECEIVING a) false).raise E.AUD_STREAM_LOST

/-! ### Ports (R377 to R381, R389) -/

/-- Port `p`. -/
def Block.audPort (b : Block) (p : Nat) : AudPort :=
  b.aud.ports.getD p ⟨false, 0, [], List.replicate 16 ⟨0, 0, none, 0, 0, 0, 0⟩, [], false, []⟩

/-- Change port `p`. -/
def Block.onPort (b : Block) (p : Nat) (f : AudPort → AudPort) : Block := { b with aud.ports := b.aud.ports.modify p f }

/-- Do port `p`'s clocks run? -/
def Block.audRuns (b : Block) (p : Nat) : Bool := bitOf (b.get F.AUD_STATUS_RUNNING) p

/-- Set RUNNING of port `p`. -/
def Block.setRuns (b : Block) (p : Nat) (v : Bool) : Block := b.set F.AUD_STATUS_RUNNING (setBitOf (b.get F.AUD_STATUS_RUNNING) p v)

/-- Slots of a frame of port `p`. -/
def Block.audSlots (b : Block) (p : Nat) : Nat := 2 ^ (b.audGet p (F.AUDp_CFG_SLOTS p) + 1)

/-- Frames of port `p` in a block of 1 ms. -/
def Block.audPerBlock (b : Block) (p : Nat) : Nat := if b.audBit p (F.AUDp_CFG_RATE p) then 96 else 48

/-- Does slot `t` of output port `p` name a stream of the port's rate that has its channel (R389)? -/
def Block.routeOk (b : Block) (p t : Nat) : Bool :=
  let a := b.audGet p (F.AUDp_SLOTt_SRC_STREAM p t)
  b.audGet a (F.AUDp_STR_CTRL_RATE a) == b.audGet p (F.AUDp_CFG_RATE p)
    && decide (b.audGet p (F.AUDp_SLOTt_SRC_CHANNEL p t) ≤ b.audGet a (F.AUDp_STR_CTRL_CH_M1 a))

/-- Is some enabled slot of an output port without its route? -/
def Block.routesBroken (b : Block) : Bool :=
  (List.range 4).any (fun p => !b.audBit p (F.AUDp_CFG_DIR p)
    && (List.range 16).any (fun t => b.audBit p (F.AUDp_SLOTt_SRC_EN p t) && !b.routeOk p t))

/-- The format of a port, whose change restarts it (R381). -/
def Block.audFormat (b : Block) (p : Nat) : List Nat :=
  [b.audGet p (F.AUDp_CFG_EN p), b.audGet p (F.AUDp_CFG_DIR p), b.audGet p (F.AUDp_CFG_RATE p), b.audGet p (F.AUDp_CFG_SLOTS p),
   b.audGet p (F.AUDp_CFG_WIDTH p), b.audGet p (F.AUDp_CFG_EDGE p), b.audGet p (F.AUDp_CFG_FSYNC_LEN p),
   b.audGet p (F.AUDp_CFG_LATE_FS p)]

/-- The record of the block that ends on input port `p` (R388). -/
def Block.captureRecord (b : Block) (p n : Nat) (poison : Bool) : Block :=
  let q := b.audPort p
  let size := if b.audBit p (F.AUDp_CFG_RATE p) then 8192 else 4096
  let base := b.audGet p (F.AUDp_CAP_BASE_LO p) + 2 ^ 32 * b.audGet p (F.AUDp_CAP_BASE_HI_BASE p)
  let h := b.get (F.AUDp_CAP_HEAD_COUNT p) % max 1 (b.audGet p (F.AUDp_CAP_BLOCKS_RECORDS p))
  let bytes := leBytes 8 n ++ leBytes 8 (b.audPerBlock p * n) ++ leBytes 2 (b.audGet p (F.AUDp_SLOT_MASK_MASK p))
    ++ leBytes 1 (flagBits [q.first, poison]) ++ List.replicate 13 0 ++ (q.record.map (fun x => leBytes 4 x.toNat)).flatten
  let b := (b.dramWrite 6 (base + size * h) bytes).count (F.AUDp_CAP_HEAD_COUNT p) 1
  let b := b.raiseIf poison E.AUD_POISON
  b.onPort p (fun q => { q with record := [] })

/-- Every output channel of a port silent, or in START (R381, R387). -/
def audChans (start : Bool) : List AudChan := List.replicate 16 ⟨if start then 1 else 0, 0, none, 0, 0, 0, 0⟩

/-- A port stops: clocks low, channels silent (R377, R439). A thermal shutdown stops none (R429). -/
def Block.audStop (b : Block) (p : Nat) : Block :=
  (b.setRuns p false).onPort p (fun q => { q with pause := false, chans := audChans false, fetched := [], first := false, record := [] })

/-- Port `p` at the boundary of block `n`: its record, then the new values, then start, restart or stop (R377, R380,
R381, R388). -/
def Block.portBoundary (b : Block) (p n : Nat) (poison : Bool) : Block :=
  let b := if b.audRuns p && b.audBit p (F.AUDp_CFG_DIR p) && decide (0 < n) then b.captureRecord p (n - 1) poison else b
  let old := b.audFormat p
  let latched := (b.regs.filter (fun c => activeKey (0x38 + p) c.1)).map (fun c => (c.1 - 0x8000, c.2))
  let b := b.onPort p (fun q => { q with cfg := latched, first := false })
  let b := b.onPort p (fun q => { q with k := b.audPerBlock p * n })
  let en := b.audBit p (F.AUDp_CFG_EN p)
  let at' := b.audRuns p || (b.audPort p).pause
  if !en || b.pm.gate then b.audStop p
  else if at' && b.audFormat p != old then
    (b.setRuns p false).onPort p (fun q => { q with pause := true, chans := audChans true, fetched := [], record := [] })
  else if b.audRuns p then b
  else if at' || (b.bit F.PTP_STATUS_TIME_VALID && b.role != 0) then
    let b := b.setRuns p true
    b.onPort p (fun q => { q with pause := false, first := true, fetched := [], record := [], chans := audChans q.pause })
  else b

/-- A stream path that the latched values disable stops (R383). -/
def Block.audPaths (b : Block) (a : Nat) : Block :=
  let on (e : Nat) : Bool := (b.audPath a e).on
  let b := b.onAud a (fun q => { q with heard := q.heard.mapIdx (fun e t => if on e then t else none) })
  let b := b.audUp a (b.bit (F.AUDp_STATUS_PATH_A_UP a) && on 0) (b.bit (F.AUDp_STATUS_PATH_B_UP a) && on 1)
  if on 0 || on 1 then b else b.setBit (F.AUDp_STATUS_RECEIVING a) false

/-- The index of the next block boundary (R376): while no port runs, STC may have been stepped. -/
def Block.nextBlock (b : Block) : Nat :=
  let n := ceilDiv b.stc 1000000
  if b.get F.AUD_STATUS_RUNNING ≠ 0 ∨ n + 1 = b.aud.block then b.aud.block else n

/-- AUDIO_BLOCK_BOUNDARY (R376, R380): `failed` are the input ports whose record's write failed. -/
def audioBlockBoundary (failed : List Nat) (b : Block) : Block :=
  let n := b.nextBlock
  let b := b.untilStc (1000000 * n)
  let was := b.aud.ports.map (·.cfg)
  let b := { b with aud.block := n + 1 }
  let b := b.each (List.range 4) (fun p b => b.portBoundary p n (failed.contains p))
  let b := b.each (List.range 4) (fun a b => b.audPaths a)
  let b := b.raiseIf (b.aud.ports.map (·.cfg) != was && b.routesBroken) E.AUD_ROUTE
  b.joinSync

/-! ### Frames (R385, R387) -/

/-- A fade's output: `x` × `j` / FADE, free where that is no whole number. -/
def fadeOut (x : Int) (j fade : Nat) : Int :=
  if x * j % (max 1 fade : Nat) = 0 then x * j / (max 1 fade : Nat) else Config.fade (x * j) fade

/-- Does sample `s` zero-cross after `prev`? -/
def crosses (prev : Option Int) (s : Int) : Bool :=
  s == 0 || (match prev with | some r => decide (r < 0) != decide (s < 0) | none => false)

/-- One frame in START (R387): without a source sample the channel stays with output 0. -/
def chanStart (timeout : Nat) (src : Option Int) (c : AudChan) : AudChan :=
  match src with
  | none => { c with out := 0, prev := none }
  | some s =>
    if crosses c.prev s then { c with st := 3, count := 0, out := s, prev := some s }
    else if timeout ≤ c.count + 1 then { c with st := 2, count := 0, out := 0, prev := some s }
    else { c with count := c.count + 1, out := 0, prev := some s }

/-- The j-th frame of a fade-out, j = `count` + 1 (R387). -/
def chanFadeOut (fade : Nat) (en : Bool) (c : AudChan) : AudChan :=
  let j := c.count + 1
  let c := { c with out := fadeOut c.base (fade - j) fade, prev := none, count := j }
  if fade ≤ j then { c with st := if en then 1 else 0, count := 0 } else c

/-- A fade-out begins with this frame. -/
def chanDrop (fade : Nat) (en : Bool) (c : AudChan) : AudChan :=
  chanFadeOut fade en { c with st := 5, count := 0, base := c.out }

/-- One frame in STOP (R387). -/
def chanStop (fade timeout : Nat) (en : Bool) (src : Option Int) (c : AudChan) : AudChan :=
  match src with
  | none => chanDrop fade en c
  | some s =>
    if crosses c.prev s then { c with st := 0, count := 0, out := 0, prev := none }
    else if timeout ≤ c.count + 1 then { c with st := 5, count := 0, out := s, base := s, prev := some s }
    else { c with count := c.count + 1, out := s, prev := some s }

/-- One frame of an output channel (R387): `want` is the slot's EN, stream and channel; `src` the sample of the source
that the channel plays. A silent channel, or one in START, takes its slot's source. -/
def chanStep (fade timeout : Nat) (en : Bool) (stream chan : Nat) (sample : Nat → Nat → Option Int) (c : AudChan) : AudChan :=
  let c := if c.st = 0 && en then { c with st := 1, count := 0, prev := none } else c
  let c := if c.st = 1 && !en then { c with st := 0, count := 0, prev := none } else c
  let c := if c.st = 1 && (c.stream != stream || c.chan != chan) then { c with stream := stream, chan := chan, prev := none } else c
  let src := sample c.stream c.chan
  if c.st = 0 then { c with out := 0 }
  else if c.st = 1 then chanStart timeout src c
  else if c.st = 2 then
    let j := c.count + 1
    let c := { c with out := fadeOut (src.getD 0) j fade, prev := src, count := j }
    if fade ≤ j then { c with st := 3, count := 0 } else c
  else if c.st = 3 then
    if !en || c.stream != stream || c.chan != chan then chanStop fade timeout en src { c with st := 4, count := 0 }
    else
      match src with
      | none => chanDrop fade en c
      | some s => { c with out := s, prev := some s }
  else if c.st = 4 then chanStop fade timeout en src c
  else chanFadeOut fade en c

/-- A sample as an output slot sends it (R379): 24 bits above 8 zeros, or rounded to 16 bits and saturated. -/
def slotWord (wide : Bool) (x : Int) : Int := if wide then 256 * x else satSigned 16 ((x + 128) / 256)

/-- The streams port `p` needs a frame of: its enabled slots' and those that channels still play. -/
def Block.portStreams (b : Block) (p : Nat) : List Nat :=
  let named := (List.range 16).filterMap (fun t =>
    if b.audBit p (F.AUDp_SLOTt_SRC_EN p t) then some (b.audGet p (F.AUDp_SLOTt_SRC_STREAM p t)) else none)
  (named ++ ((b.audPort p).chans.filter (fun c => decide (2 ≤ c.st))).map (·.stream)).eraseDups

/-- The frame of stream `a` at sample index `k` in its buffer: 16 samples. -/
def Block.bufferFrame (b : Block) (a k : Nat) : List Int :=
  let base := b.audGet a (F.AUDp_BUF_BASE_LO a) + 2 ^ 32 * b.audGet a (F.AUDp_BUF_BASE_HI_BASE a)
  (List.range (b.audGet a (F.AUDp_STR_CTRL_CH_M1 a) + 1)).map (fun c =>
    signed 24 (leNat (b.dramBytes (base + 64 * (k % 16384) + 4 * c + 1) 3)))

/-- Fetch frame `k` of stream `a` (R385). -/
def Block.audFetch (b : Block) (a k : Nat) (poisoned : Bool) : Option (List Int) × Block :=
  let q := b.audStream a
  let got := if q.valid.contains (k % 16384) && !poisoned then some (b.bufferFrame a k) else none
  let b := b.dramUse 6 (b.audGet a (F.AUDp_BUF_BASE_LO a) + 2 ^ 32 * b.audGet a (F.AUDp_BUF_BASE_HI_BASE a) + 64 * (k % 16384)) 64
  let b := b.onAud a (fun q => { q with
    valid := q.valid.filter (· != k % 16384), fetchedTo := some (max k (q.fetchedTo.getD 0)) })
  let b := b.raiseIf (poisoned && q.valid.contains (k % 16384)) E.AUD_POISON
  match got with
  | some x => (some x, b)
  | none => (none, (b.countSat (F.AUDp_CNT_Ei a 0) 1).raise E.AUD_LOSS)

/-- The fetches when frame `k` of a rate begins: one of each (stream, index), handed to every port, so that a port of a larger DELAY
plays what another port's time has fetched (log entry 44). -/
def Block.audFetches (b : Block) (ps : List Nat) (k : Nat) (poison : List Nat) : Block :=
  let wants := (ps.map (fun p => ((b.portStreams p).filter (fun a =>
      b.audGet a (F.AUDp_STR_CTRL_RATE a) == b.audGet p (F.AUDp_CFG_RATE p) && b.audBit a (F.AUDp_STR_CTRL_EN a)
        && decide (b.audGet p (F.AUDp_DELAY_FRAMES p) ≤ k + 64)
        && !(b.audPort p).fetched.any (fun f => f.stream == a && f.k == k + 64 - b.audGet p (F.AUDp_DELAY_FRAMES p)))).map
    (fun a => (a, k + 64 - b.audGet p (F.AUDp_DELAY_FRAMES p))))).flatten.eraseDups
  b.each wants (fun w b =>
    let (got, b) := b.audFetch w.1 w.2 (poison.contains w.1)
    b.each ps (fun p b => b.onPort p (fun q => { q with fetched := Fetched.mk w.1 w.2 got :: q.fetched })))

/-- Frame `k` of output port `p` plays (R385, R387). -/
def Block.playFrame (b : Block) (p k : Nat) : Block :=
  let q := b.audPort p
  let delay := b.audGet p (F.AUDp_DELAY_FRAMES p)
  let sample (a c : Nat) : Option Int :=
    if k < delay then none
    else match q.fetched.find? (fun f => f.stream == a && f.k == k - delay) with
      | some f => match f.samples with | some l => l[c]? | none => none
      | none => none
  let fade := b.audGet p (F.AUDp_ZC_FADE p)
  let timeout := b.audGet p (F.AUDp_ZC_TIMEOUT p)
  let n := b.audSlots p
  let chans := q.chans.mapIdx (fun t c =>
    chanStep fade timeout (b.audBit p (F.AUDp_SLOTt_SRC_EN p t) && decide (t < n)) (b.audGet p (F.AUDp_SLOTt_SRC_STREAM p t))
      (b.audGet p (F.AUDp_SLOTt_SRC_CHANNEL p t)) sample c)
  let faded := ((q.chans.zip chans).filter (fun x => x.1.st == 2 && x.2.st == 3)).length
  let mask := b.audGet p (F.AUDp_SLOT_MASK_MASK p)
  let wide := b.audBit p (F.AUDp_CFG_WIDTH p)
  let slots := (List.range n).map (fun t =>
    if bitOf mask t then some (slotWord wide ((chans.getD t ⟨0, 0, none, 0, 0, 0, 0⟩).out)) else none)
  let b := b.onPort p (fun q => { q with chans := chans, fetched := q.fetched.filter (fun f => decide (k < f.k + delay)) })
  (b.countSat (F.AUDp_CNT_Ei p 5) faded).emit (.audio p k slots)

/-- Frame `k` of input port `p` is recorded: raw slot words as sampled, slot 0 first (R379, R380, R388). -/
def Block.recordFrame (b : Block) (p : Nat) (words : List Nat) : Block :=
  let mask := b.audGet p (F.AUDp_SLOT_MASK_MASK p)
  let wide := b.audBit p (F.AUDp_CFG_WIDTH p)
  let ts := (List.range (b.audSlots p)).filter (fun t => bitOf mask t)
  let xs := ts.map (fun t =>
    let w := words.getD t 0
    ((if wide then w / 256 % 2 ^ 24 * 256 else w % 2 ^ 16 * 2 ^ 16 : Nat) : Int))
  b.onPort p (fun q => { q with record := q.record ++ xs })

/-- AUDIO_FRAME (R376, R385): the next frame of every running port of one rate; `poison` are the streams whose fetch reads
poisoned, `ins` the slot words that input ports sample. -/
def audioFrame (r96 : Bool) (poison : List Nat) (ins : List (Nat × List Nat)) (b : Block) : Block :=
  let ps := (List.range 4).filter (fun p => b.audRuns p && b.audBit p (F.AUDp_CFG_RATE p) == r96)
  match ps with
  | [] => b
  | p0 :: _ =>
    let k := (b.audPort p0).k
    let b := b.untilStc (k * 1000000000 / audFs (if r96 then 1 else 0))
    let outs := ps.filter (fun p => !b.audBit p (F.AUDp_CFG_DIR p))
    let b := b.audFetches outs k poison
    let b := b.each outs (fun p b => b.playFrame p k)
    let b := b.each (ps.filter (fun p => b.audBit p (F.AUDp_CFG_DIR p))) (fun p b =>
      b.recordFrame p (((ins.find? (·.1 == p)).map (·.2)).getD []))
    b.each ps (fun p b => b.onPort p (fun q => { q with k := k + 1 }))

/-! ### Meanings -/

/-- AUDIO_PACKET. -/
def execAudioPacket (k : AudioPacket) (s : State) : Host.Outcome State Fault Refusal := s.done (audioPacket k s.blk)
/-- AUDIO_PATH_TIMEOUT. -/
def execAudioPathTimeout (a e : Nat) (s : State) : Host.Outcome State Fault Refusal := s.done (audioPathTimeout a e s.blk)
/-- AUDIO_BLOCK_BOUNDARY. -/
def execAudioBlockBoundary (failed : List Nat) (s : State) : Host.Outcome State Fault Refusal :=
  s.done (audioBlockBoundary failed s.blk)
/-- AUDIO_FRAME. -/
def execAudioFrame (r96 : Bool) (poison : List Nat) (ins : List (Nat × List Nat)) (s : State) :
    Host.Outcome State Fault Refusal := s.done (audioFrame r96 poison ins s.blk)

end Sys2Proof.Machine
end

