-- ==== Sys2Proof/Machine/Ptp.lean ====
section
/-!
DEFINITION. Time: PTP domains A and B, chain time over Lysrov, the servo, domain selection, STC (R166 to R173). The servo's
loop is not given in numbers: the frequency it measures and the correction it asks for are free values, the correction within
the limit of R171 (log entry 12); STC runs at the rate they give. Timestamps and offsets are in 1/40 ns (log entry 12).
-/

namespace Sys2Proof.Machine

def servoFree : Nat := 0
def servoAcquire : Nat := 1
def servoLocked : Nat := 2
def servoHoldover : Nat := 3
def sourceChain : Nat := 2
def sourceNone : Nat := 3

/-- A new servo state sets PTP_IRQ_STATUS.STATE. -/
def Block.setServo (b : Block) (st : Nat) : Block :=
  if b.get F.PTP_STATUS_STATE = st then b else (b.set F.PTP_STATUS_STATE st).irq F.PTP_IRQ_STATUS_STATE

/-- The stage LINK ends when time is valid (R114). -/
def Block.stageTime (b : Block) : Block :=
  b.when (b.stage == 5 && b.bit F.PTP_STATUS_TIME_VALID) (·.set F.CFG_BOOT_STATUS_STAGE 6)

/-- The masters of source `d`: domain A, domain B, the chain. -/
def Block.masters (b : Block) (d : Nat) : List Master := b.ptp.masters.getD d []

/-- Put a source's masters back. -/
def Block.setMasters (b : Block) (d : Nat) (l : List Master) : Block := { b with ptp.masters := b.ptp.masters.set d l }

/-- Data-set order: lexicographic, lower wins; ETH0 when equal (R168). -/
def rankLess : List Nat → List Nat → Bool
  | [], _ => false
  | _, [] => true
  | a :: r, c :: q => decide (a < c) || (a == c && rankLess r q)

/-- The better of two masters. -/
def betterMaster (x y : Master) : Master :=
  if rankLess y.rank x.rank || (!rankLess x.rank y.rank && decide (y.port < x.port)) then y else x

/-- The master a source follows. -/
def Block.bestMaster (b : Block) (d : Nat) : Option Master :=
  match b.masters d with
  | [] => none
  | m :: r => some (r.foldl betterMaster m)

/-- The last offset of source `d`, while it is tracked. -/
def Block.offsetOf (b : Block) (d : Nat) : Option Int := (b.ptp.offsets[d]?).join

/-- Is domain `d` tracked? -/
def Block.tracking (b : Block) (d : Nat) : Bool := (b.offsetOf d).isSome

/-- Does the grandmaster's clockClass of domain `d` exceed CLASS_LIMIT (R172)? -/
def Block.classBad (b : Block) (d : Nat) : Bool := decide (b.get F.PTP_CTRL_CLASS_LIMIT < b.get (F.PTP_DOMd_STATUS_GM_CLASS d))

/-- Does the module take time from the chain: TILE role with a master on its slave port (R169)? -/
def Block.onChain (b : Block) : Bool := b.role == roleTile && !(b.masters sourceChain).isEmpty

/-- STC in 1/40 ns, as a timestamp takes it (R166). -/
def Block.ticks (b : Block) : Nat := b.stcParts * 40 / stcUnit

/-- A timestamp of an Ethernet port: 0.8 ns is its resolution (R166). -/
def ethStamp (t : Nat) : Nat := t / 32 * 32

/-- A timestamp of a Lysrov port: 0.25 ns is its resolution (R166). -/
def lnkStamp (t : Nat) : Nat := t / 10 * 10

/-- A number of ns in 1/40 ns. -/
def ofNs (ns : Nat) : Nat := 40 * ns

/-- ACQUIRE is entered again with a large offset (R171). -/
def Block.reacquire (b : Block) (o : Int) : Block :=
  let b := { b.setServo servoAcquire with ptp := { b.ptp with inLock := 0, outLock := 0, recent := [] } }
  b.raiseIf (decide (ofNs 1000000 < o.natAbs)) E.PTP_SLEW_LARGE

/-- STC is set to the source time in the one step a reset allows (R171). -/
def Block.stepStc (b : Block) (o : Int) : Block :=
  let u := ((b.stcParts + o * (stcUnit / 40 : Nat)) % (2 ^ 64 * stcUnit : Nat)).toNat
  let b := { b with stc := u / stcUnit, stcFrac := u % stcUnit }
  { b with ptp := { b.ptp with stepped := true, recent := [], inLock := 0, outLock := 0 } }.gridStep o

/-- Do the last four offsets agree within 1 µs (R171)? -/
def agree (l : List Int) : Bool :=
  l.length == 4 && l.all (fun x => l.all (fun y => decide ((x - y).natAbs ≤ ofNs 1000)))

/-- The rate that follows an offset once STC has been stepped: the frequency measured, and beyond it the correction of the offset,
held back at MAX_SLEW_PPM (R171). How fast the loop would correct, and the frequency it finds, are free (log entry 12). -/
def Block.steer (b : Block) (o : Int) : Block :=
  let (n, b) := b.fresh
  let want := Config.freeValue (2 * n)
  let freq : Int := (Config.freeValue (2 * n + 1) % 2 ^ 31 : Nat) - 2 ^ 30
  let limit := b.act F.PTP_SERVO_MAX_SLEW_PPM * 65536
  let b := { b with ptp.freq := freq }
  (b.set F.PTP_RATE_RATE (unsigned 32 (freq + o.sign * min want limit))).setBit F.PTP_STATUS_SLEWING (o != 0 && decide (limit < want))

/-- Without a source STC runs on at the last rate the servo learned, and nothing is corrected (R29, R175). -/
def Block.coast (b : Block) : Block := (b.set F.PTP_RATE_RATE (unsigned 32 b.ptp.freq)).set F.PTP_STATUS_SLEWING 0

/-- The servo takes an offset of the selected source (R170, R171). -/
def Block.servo (b : Block) (o : Int) : Block :=
  let st := b.get F.PTP_STATUS_STATE
  let b := if st = servoFree then { b.setServo servoAcquire with ptp := { b.ptp with inLock := 0, recent := [] } }
    else if st = servoHoldover then b.reacquire o else b
  let b :=
    if b.get F.PTP_STATUS_STATE = servoAcquire then
      if !b.ptp.stepped then
        let r := (o :: b.ptp.recent).take 4
        if agree r then b.stepStc o else { b with ptp.recent := r }
      else
        let k := if o.natAbs ≤ ofNs (b.get F.PTP_LOCK_LOCK_NS) then b.ptp.inLock + 1 else 0
        let b := { b with ptp.inLock := k }
        if b.get F.PTP_LOCK_LOCK_COUNT ≤ k then
          let b := { (b.setServo servoLocked).set F.PTP_STATUS_TIME_VALID 1 with ptp.outLock := 0 }
          (b.stageTime).frmKnow
        else b
    else
      let k := if ofNs (b.get F.PTP_LOCK_UNLOCK_100NS * 100) < o.natAbs then b.ptp.outLock + 1 else 0
      if 4 ≤ k then b.reacquire o else { b with ptp.outLock := k }
  b.when b.ptp.stepped (·.steer o)

/-- The selected source changes; a move sets PTP_ERR.SWITCH (R172). -/
def Block.selectSource (b : Block) (d : Nat) : Block :=
  let old := b.get F.PTP_STATUS_SOURCE
  if old = d then b
  else
    let b := (b.set F.PTP_STATUS_SOURCE d).irq F.PTP_IRQ_STATUS_SWITCH
    b.raiseIf (old != sourceNone && d != sourceNone) E.PTP_SWITCH

/-- The source that a complete measurement of source `d` leaves selected (R169, R172). -/
def Block.chosen (b : Block) (d : Nat) : Nat :=
  let cur := b.get F.PTP_STATUS_SOURCE
  if b.onChain then sourceChain
  else if !b.bit F.PTP_CTRL_AUTO then b.get F.PTP_CTRL_SELECT
  else if 2 ≤ cur then d
  else if b.tracking (1 - cur) && (!b.tracking cur || b.classBad cur && !b.classBad (1 - cur)) then 1 - cur
  else cur

/-- Domain A delivers its first measurement in the cycle in which domain B was selected as the first: A is selected, and that is no
move (R172). -/
def Block.firstTogether (b : Block) (d : Nat) : Bool :=
  d == 0 && b.bit F.PTP_CTRL_AUTO && b.get F.PTP_STATUS_SOURCE == 1 && !b.tracking 0 && b.ptp.firstAt == some b.stc

/-- The source that is selected after a measurement of source `d` (R172); `together` is `firstTogether` as it was before it. -/
def Block.selectAfter (b : Block) (d : Nat) (together : Bool) : Block :=
  if together then { b.set F.PTP_STATUS_SOURCE 0 with ptp := { b.ptp with firstAt := none, recent := [], inLock := 0 } }
  else
    let first := b.get F.PTP_STATUS_SOURCE == sourceNone
    { b with ptp.firstAt := if first then some b.stc else b.ptp.firstAt }.selectSource (b.chosen d)

/-- Since when domain A has met neither condition for a move away (R172). -/
def Block.cleanA (b : Block) : Block :=
  let ok := b.tracking 0 && !b.classBad 0
  { b with ptp.cleanSince := if ok then some (b.ptp.cleanSince.getD b.clk) else none }

/-- A complete measurement of source `d` (R170, R172). -/
def Block.measured (b : Block) (d : Nat) (m : Master) (o : Int) : Block :=
  let together := b.firstTogether d
  let b := { b with ptp.offsets := b.ptp.offsets.set d (some o) }
  let b :=
    if d < 2 then
      let b := (b.set (F.PTP_DOMd_STATUS_STATE d) 2).setInt (F.PTP_DOMd_OFFSET d) (o / 40)
      let b := (b.set (F.PTP_DOMd_GM_LO d) m.gm).set (F.PTP_DOMd_GM_HI d) (m.gm / 2 ^ 32)
      let b := (b.set (F.PTP_DOMd_STATUS_GM_CLASS d) m.gmClass).set (F.PTP_DOMd_STATUS_PORT d) m.port
      (b.set (F.PTP_DOMd_PATH_DELAY d) (m.delay.getD 0 / 40).toNat).cleanA
    else b
  let b := match b.offsetOf 0, b.offsetOf 1 with
    | some x, some y =>
      let b := b.setInt F.PTP_DOM_DIFF ((x - y) / 40)
      { b with ptp.diffSince := if ofNs 1000 < (x - y).natAbs then some (b.ptp.diffSince.getD b.clk) else none }
    | _, _ => { b with ptp.diffSince := none }
  let b := b.selectAfter d together
  if b.get F.PTP_STATUS_SOURCE = d then b.servo o else b

/-- PTP_ASYMn of an Ethernet port. -/
def Block.asym (b : Block) (port : Nat) : Int := if port = 0 then b.getInt F.PTP_ASYM0 else b.getInt F.PTP_ASYM1

/-- If the best master of domain `d` is `m` and its measurement is complete, it is taken. -/
def Block.tryMeasure (b : Block) (d : Nat) (m : Master) : Block :=
  match m.t1, m.delay with
  | some t1, some dl =>
    if (b.bestMaster d).map (fun q => (q.port, q.id)) = some (m.port, m.id) then
      b.measured d m (t1 + dl + 40 * b.asym m.port - m.t2)
    else b
  | _, _ => b

/-- What a PTP message makes of its sender's record, and whether it completes a Sync or a first path delay. -/
def Master.take (m : Master) (clk : Nat) (g : PtpMsg) : Master × Bool :=
  match g.kind with
  | .announce rank gm gmClass iv => ({ m with rank := rank, gm := gm, gmClass := gmClass, annDue := clk + 3 * iv }, false)
  | .sync seq two t1 iv =>
    ({ m with syncSeq := seq, t2 := g.rx, t1 := if two then none else some t1, syncDue := clk + 3 * iv }, !two)
  | .followUp seq t1 => if seq = m.syncSeq ∧ m.t1.isNone then ({ m with t1 := some t1 }, true) else (m, false)
  | .delayResp seq t4 mine =>
    match m.t1 with
    | some t1 =>
      if mine ∧ seq = m.reqSeq then ({ m with delay := some (((m.t2 - t1) + (t4 - m.t3)) / 2) }, m.delay.isNone) else (m, false)
    | none => (m, false)

/-- A master heard for the first time. -/
def Master.new (port id clk : Nat) : Master := ⟨port, id, [], 0, 255, clk, clk, 0, none, 0, 0, 0, none⟩

/-- A message reaches domain `d`: only an Announce makes a new master known. -/
def Block.ptpTake (b : Block) (d : Nat) (g : PtpMsg) : Block :=
  let l := b.masters d
  let known := l.find? (fun m => m.port == g.port && m.id == g.src)
  let isAnn := match g.kind with | .announce _ _ _ _ => true | _ => false
  let start := match known with
    | some m => some m
    | none => if isAnn then some { Master.new g.port g.src b.clk with syncDue := b.clk + 3 * (match g.kind with | .announce _ _ _ iv => iv | _ => 0) } else none
  match start with
  | none => b
  | some m =>
    let (m, done) := m.take b.clk { g with rx := ethStamp g.rx }
    let b := b.setMasters d (l.filter (fun q => !(q.port == g.port && q.id == g.src)) ++ [m])
    let b := b.when (b.get (F.PTP_DOMd_STATUS_STATE d) == 0) (·.set (F.PTP_DOMd_STATUS_STATE d) 1)
    if done then b.tryMeasure d m else b

/-- PTP_MESSAGE (R167 to R172): a message of each enabled domain it matches by number, port and transport. -/
def ptpMessage (g : PtpMsg) (b : Block) : Block :=
  let b := b.untilStc (g.rx / 40)
  if 2 ≤ g.port ∨ b.gated R.PTP_CTRL then b
  else
    b.each [0, 1] (fun d b =>
      if b.actBit (F.PTP_DOMd_CFG_EN d) && b.act (F.PTP_DOMd_CFG_DOMAIN d) == g.domain
          && b.act (F.PTP_DOMd_CFG_TRANSPORT d) == g.transport && bitOf (b.act (F.PTP_DOMd_CFG_PORTS d)) g.port then
        b.ptpTake d g
      else b)

/-- Every source is lost: HOLDOVER once STC has been stepped, FREE before (R170). -/
def Block.allLost (b : Block) : Block :=
  let st := b.get F.PTP_STATUS_STATE
  if st = servoAcquire ∨ st = servoLocked then
    if b.ptp.stepped then (b.setServo servoHoldover).coast.raise E.PTP_HOLDOVER
    else { b.setServo servoFree with ptp.recent := [] }
  else b

/-- Source `d` is lost (R170, R172). -/
def Block.sourceLost (b : Block) (d : Nat) : Block :=
  let b := { b.setMasters d [] with ptp.offsets := b.ptp.offsets.set d none, ptp.diffSince := none }
  let b := if d < 2 then (b.set (F.PTP_DOMd_STATUS_STATE d) 3).cleanA else b
  let b := b.raise (if d = 0 then E.PTP_DOM_A_LOST else if d = 1 then E.PTP_DOM_B_LOST else E.PTP_CHAIN_LOST)
  if b.get F.PTP_STATUS_SOURCE ≠ d then b
  else
    let auto := b.bit F.PTP_CTRL_AUTO
    let other := if d = sourceChain then
        if auto then (if b.tracking 0 then some 0 else if b.tracking 1 then some 1 else none)
        else if b.tracking (b.get F.PTP_CTRL_SELECT) then some (b.get F.PTP_CTRL_SELECT) else none
      else if auto && b.tracking (1 - d) then some (1 - d) else none
    match other with
    | some e => (b.selectSource e).servo ((b.offsetOf e).getD 0)
    | none => (b.when auto (·.selectSource sourceNone)).allLost

/-- PTP_SOURCE_LOSS (R170): three Sync or three Announce intervals have passed for the masters of source `d`. -/
def ptpSourceLoss (d : Nat) (b : Block) : Block :=
  match b.bestMaster d with
  | none => b
  | some m =>
    if 3 ≤ d ∨ b.pm.stcStopped then b
    else
      let b := b.untilClk (min m.annDue m.syncDue)
      let left := (b.masters d).filter (fun q => decide (b.clk < q.annDue) && decide (b.clk < q.syncDue))
      if left.isEmpty then b.sourceLost d else b.setMasters d left

/-- Bytes of IP and UDP headers before a PTP message on a TRANSPORT (R202). -/
def ptpHeaders (transport : Nat) : Nat := if transport = 0 then 28 else if transport = 1 then 48 else 0

/-- PTP_DELAY_REQ_SEND (R167): a Delay_Req to the master of domain `d`, on the domain's transport; `unicast` asks for a unicast one,
which only the ST 2059-2 profile allows. A port without an own address of the version sends no datagram (R139). -/
def ptpDelayReqSend (d : Nat) (unicast : Bool) (b : Block) : Block :=
  match b.bestMaster d with
  | none => b
  | some m =>
    if 2 ≤ d ∨ b.pm.stcStopped then b
    else
      let m' := { m with reqSeq := (m.reqSeq + 1) % 65536, t3 := ethStamp b.ticks }
      let tr := b.act (F.PTP_DOMd_CFG_TRANSPORT d)
      let uni := unicast && b.act (F.PTP_DOMd_CFG_PROFILE d) == 0
      let b := b.setMasters d ((b.masters d).map (fun q => if q.port == m.port && q.id == m.id then m' else q))
      if tr < 2 ∧ b.ownIp m.port (tr == 1) = 0 then b.txDrop m.port
      else
        b.ethQueue m.port
          (b.txFrame m.port 0 (b.get (F.ETHn_TX_PCP_PTP m.port)) (ptpHeaders tr) 44 (.delayReq m.port d m'.reqSeq tr uni))

/-- DOMAIN_REVERT (R172): A has been clean for REVERT_S seconds. -/
def domainRevert (b : Block) : Block :=
  match b.ptp.cleanSince with
  | some t =>
    if b.bit F.PTP_CTRL_AUTO ∧ b.bit F.PTP_CTRL_REVERT ∧ b.get F.PTP_STATUS_SOURCE = 1 ∧ !b.pm.stcStopped then
      let b := b.untilClk (t + b.get F.PTP_CTRL_REVERT_S * 1000000000)
      (b.selectSource 0).servo ((b.offsetOf 0).getD 0)
    else b
  | none => b

/-- DOMAIN_DISAGREE (R172): the domains have differed by over 1 µs for 10 s. -/
def domainDisagree (b : Block) : Block :=
  match b.ptp.diffSince with
  | some t => if b.pm.stcStopped then b else (b.untilClk (t + 10000000000)).raise E.PTP_DISAGREE
  | none => b

/-- LINK_TIME_SEND (R169): a slave port asks for the delay, any other port sends Sync with STC. -/
def linkTimeSend (p : Nat) (b : Block) : Block :=
  if 2 ≤ p ∨ !b.carries p then b
  else
  let b := b.countCells p 0 1
  if b.bit (F.LNKn_STATUS_SLAVE p) then
    let seq := (b.ptp.linkSeq + 1) % 65536
    { b with ptp := { b.ptp with linkSeq := seq, linkT3 := b.ptp.linkT3.set p (lnkStamp b.ticks) } }.emit (.linkTime p (.request seq))
  else b.emit (.linkTime p (.sync (lnkStamp b.ticks)))

/-- LINK_TIME_MESSAGE (R169), received at STC `rx` in 1/40 ns. -/
def linkTimeMessage (p rx : Nat) (t : LinkTime) (b : Block) : Block :=
  let b := b.untilStc (rx / 40)
  let rx := lnkStamp rx
  if 2 ≤ p ∨ !b.carries p then b
  else
    let b := b.countCells p 1 1
    match t with
    | .request seq => (b.countCells p 0 1).emit (.linkTime p (.answer seq rx (max rx (lnkStamp b.ticks))))
    | .answer seq t2 t3 =>
      if seq ≠ b.ptp.linkSeq then b
      else
        let d := ((t2 - b.ptp.linkT3.getD p 0) + (rx - t3)) / 2
        let b := { b with ptp.linkDelay := b.ptp.linkDelay.set p (some d) }
        b.set (if p = 0 then F.PTP_LNK_DELAY0 else F.PTP_LNK_DELAY1) (d * 16 / 40).toNat
    | .sync t1 =>
      if b.role ≠ roleTile ∨ !b.bit (F.LNKn_STATUS_SLAVE p) then b
      else
        let due := b.clk + 23437500
        let m := { Master.new p 0 b.clk with t1 := some t1, t2 := rx, annDue := due, syncDue := due
                                             delay := (b.ptp.linkDelay[p]?).join }
        let moved := (b.masters sourceChain).any (·.port != p) && b.get F.PTP_STATUS_SOURCE == sourceChain
        let b := (b.setMasters sourceChain [m]).when moved (fun b => (b.irq F.PTP_IRQ_STATUS_SWITCH).raise E.PTP_SWITCH)
        match m.delay with
        | some d => b.measured sourceChain m (t1 + d - rx)
        | none => b

/-- After an install of group PTP: a domain that is disabled is followed no more, one enabled listens (R168). -/
def Block.ptpInstalled (b : Block) : Block :=
  b.each [0, 1] (fun d b =>
    if b.actBit (F.PTP_DOMd_CFG_EN d) then b.when (b.get (F.PTP_DOMd_STATUS_STATE d) == 0) (·.set (F.PTP_DOMd_STATUS_STATE d) 1)
    else if b.get (F.PTP_DOMd_STATUS_STATE d) = 0 then b
    else
      let b := { b.setMasters d [] with ptp.offsets := b.ptp.offsets.set d none, ptp.diffSince := none }
      let b := b.set (F.PTP_DOMd_STATUS_STATE d) 0
      if b.get F.PTP_STATUS_SOURCE = d then
        match b.offsetOf (1 - d) with
        | some o => if b.bit F.PTP_CTRL_AUTO then (b.selectSource (1 - d)).servo o else b.allLost
        | none => (b.when (b.bit F.PTP_CTRL_AUTO) (·.selectSource sourceNone)).allLost
      else b)

/-- PTP_MESSAGE. -/
def execPtpMessage (g : PtpMsg) (s : State) : Host.Outcome State Fault Refusal := s.done (ptpMessage g s.blk)
/-- PTP_SOURCE_LOSS. -/
def execPtpSourceLoss (d : Nat) (s : State) : Host.Outcome State Fault Refusal := s.done (ptpSourceLoss d s.blk)
/-- PTP_DELAY_REQ_SEND. -/
def execPtpDelayReqSend (q : DelayReq) (s : State) : Host.Outcome State Fault Refusal :=
  s.done (ptpDelayReqSend q.domain q.unicast s.blk)
/-- DOMAIN_REVERT. -/
def execDomainRevert (s : State) : Host.Outcome State Fault Refusal := s.done (domainRevert s.blk)
/-- DOMAIN_DISAGREE. -/
def execDomainDisagree (s : State) : Host.Outcome State Fault Refusal := s.done (domainDisagree s.blk)
/-- LINK_TIME_SEND. -/
def execLinkTimeSend (p : Nat) (s : State) : Host.Outcome State Fault Refusal := s.done (linkTimeSend p s.blk)
/-- LINK_TIME_MESSAGE. -/
def execLinkTimeMessage (p rx : Nat) (t : LinkTime) (s : State) : Host.Outcome State Fault Refusal :=
  s.done (linkTimeMessage p rx t s.blk)

end Sys2Proof.Machine
end

