-- ==== Sys2Proof/Machine/Cleino.lean ====
section
/-!
DEFINITION. The Cleino wire cell by cell (R307 to R310): a packet on CLW_OUT as its cells from SOF on, a cell being the bit it
carries; and the petal grid that a START sets going (R313).
-/

namespace Sys2Proof.Machine

/-- One step of a CRC of `w` bits over a bit, most significant bit first (R308). -/
def crcStep (w poly c : Nat) (bit : Bool) : Nat :=
  if bitOf c (w - 1) == bit then 2 * c % 2 ^ w else Nat.xor (2 * c % 2 ^ w) poly

/-- CRC-8 with polynomial 0x07 and initial value 0 over bits in wire order (R308). -/
def crc8 (bits : List Bool) : Nat := bits.foldl (crcStep 8 0x07) 0

/-- CRC-16 with polynomial 0x1021 and initial value 0xFFFF over bits in wire order (R308). -/
def crc16 (bits : List Bool) : Nat := bits.foldl (crcStep 16 0x1021) 0xFFFF

/-- A field of `w` bits, least significant bit first: POS, SHARES and COUNT (R308). -/
def lsbBits (w n : Nat) : List Bool := (List.range w).map (bitOf n)

/-- A field of `w` bits, most significant bit first (R308). -/
def msbBits (w n : Nat) : List Bool := (lsbBits w n).reverse

/-- A packet's header: SOF, TYPE, the fields after it and HCRC over all of them (R308, R309). -/
def clwHeader (type : Nat) (fields : List Bool) : List Bool :=
  let h := msbBits 8 type ++ fields
  true :: h ++ msbBits 8 (crc8 h)

/-- The load share of driver `d` with its 48 codes (R310). -/
def loadShare (d : Nat) (codes : List Nat) : List Bool :=
  let h := lsbBits 8 d ++ (codes.map (msbBits 16)).flatten
  h ++ msbBits 16 (crc16 h)

/-- The control share of driver `d`: the probe mask of the lamps named, channel 47 first, and CFLAGS (R310). -/
def controlShare (d diag leakCh : Nat) (probes : List Nat) : List Bool :=
  let h := lsbBits 8 d ++ ((List.range 48).reverse.map (fun ch => probes.contains (48 * d + ch)))
    ++ msbBits 8 (128 * diag + leakCh)
  h ++ msbBits 8 (crc8 h)

/-- A report as a driver sends it (R310); one whose check does not hold has it complemented here. -/
def reportBits (r : Report) : List Bool :=
  let h := lsbBits 8 r.pos ++ msbBits 8 r.flags ++ msbBits 8 r.headroom ++ msbBits 8 r.temp ++ msbBits 48 r.meas
    ++ msbBits 48 r.opens ++ msbBits 48 r.shorts
  h ++ msbBits 16 (if r.crcOk then crc16 h else 0xFFFF - crc16 h)

end Sys2Proof.Machine

namespace Sys2Proof

open Sys2Proof.Machine

/-- The cells of a packet from SOF on (R309, R310); a wire reset holds the line low and has none (R307). ENUM leaves with POS 0
and COLLECT with COUNT 0. -/
def ClwPacket.cells : ClwPacket → List Bool
  | .reset => []
  | .enum => clwHeader 1 (lsbBits 8 0)
  | .load wfn codes =>
    let shares := codes.length / 48
    clwHeader 2 (msbBits 8 wfn ++ lsbBits 8 shares)
      ++ ((List.range shares).map (fun d => loadShare d ((codes.drop (48 * d)).take 48))).flatten
  | .control wfn drivers diag leakCh probes =>
    clwHeader 3 (msbBits 8 wfn ++ lsbBits 8 drivers)
      ++ ((List.range drivers).map (fun d => controlShare d diag leakCh probes)).flatten
  | .probe wfn => clwHeader 4 (msbBits 8 wfn)
  | .start wfn hold dark sCode fine skip tickInc =>
    clwHeader 5 (msbBits 8 wfn ++ msbBits 8 (hold.toNat + 2 * dark.toNat) ++ msbBits 4 sCode ++ msbBits 4 fine
      ++ msbBits 11 skip ++ msbBits 5 0 ++ msbBits 32 tickInc)
  | .collect wfn => clwHeader 6 (msbBits 8 wfn ++ lsbBits 8 0)

/-- The `k` low bits of `j` in reverse order (R313). -/
def bitrev (k j : Nat) : Nat := (List.range k).foldl (fun r i => 2 * r + j / 2 ^ i % 2) 0

/-- The ticks of segment `j`, as starts and lengths, during which channel `ch` is on with code `c`, of `2 ^ k` segments with `m`
skipped (R313). -/
def petal (c j ch k m : Nat) : List (Nat × Nat) :=
  let n := 2 ^ k
  let l := 65536 / n
  let r := bitrev k j
  let len := c / n + (if r < c % n then 1 else 0)
  let rot := ch * l / 48
  if n - m ≤ r ∨ len = 0 then []
  else if rot + len ≤ l then [(rot, len)]
  else [(rot, l - rot), (0, rot + len - l)]

end Sys2Proof
end

