-- ==== Sys2Proof/Machine/Srd.lean ====
section
/-!
DEFINITION. Serial lanes: lane states, Lysrov training, retraining, eye width, test patterns (R336 to R352). Lanes move
here; a port whose lanes drop goes down in its own row (LINK_PORT_DOWN, ETH_LINK_DOWN).
-/

namespace Sys2Proof.Machine

def laneOff : Nat := 0
def lanePll : Nat := 1
def laneCdr : Nat := 2
def laneAlign : Nat := 3
def laneEq : Nat := 4
def laneCheck : Nat := 5
def laneReady : Nat := 6
def laneUp : Nat := 7
def laneTest : Nat := 8

/-- The lanes of port `p`: 0 ETH0, 1 ETH1, 2 LNK0, 3 LNK1 (R336). -/
def portLanes (p : Nat) : List Nat := [4 * p, 4 * p + 1, 4 * p + 2, 4 * p + 3]

/-- SRDk_STATUS.STATE. -/
def Block.laneState (b : Block) (k : Nat) : Nat := b.get (F.SRDk_STATUS_STATE k)

/-- Is the port's enable set (R135, R278)? -/
def Block.portEn (b : Block) (p : Nat) : Bool :=
  if p < 2 then b.bit (F.ETHn_CTRL_EN p) else b.bit (F.LNKn_CTRL_EN (p - 2))

/-- Are the port's lanes trained: all four UP (R341)? -/
def Block.trained (b : Block) (p : Nat) : Bool := (portLanes p).all (fun k => b.laneState k == laneUp)

/-- A lane takes a state; a change of UP shows in LANE_UP and LANE_CHANGE (R351). -/
def Block.setLane (st k : Nat) (b : Block) : Block :=
  let up := b.get F.SRD_STATUS_LANE_UP
  let b := b.set (F.SRDk_STATUS_STATE k) st
  let now := st == laneUp
  if bitOf up k == now then b
  else (b.set F.SRD_STATUS_LANE_UP (setBitOf up k now)).irq F.SRD_IRQ_STATUS_LANE_CHANGE

/-- Bits the checker of lane `k` has counted beside PAT_BITS: those since it locked, at the lane's rate (R336, R348). -/
def Block.patPending (b : Block) (k : Nat) : Nat :=
  match (b.srd.lanes[k]?).bind (·.checkFrom) with
  | some t => if k < 8 then (b.clk - t) * 2578125 / 100000 else (b.clk - t) * 32
  | none => 0

/-- Wrong bits the checker has counted beside PAT_ERRORS: those that INJ_RATE inverts while the lane's own signal is looped back
(R348). -/
def Block.patErrPending (b : Block) (k : Nat) : Nat :=
  let r := b.get (F.SRDk_PAT_CTRL_INJ_RATE k)
  if r = 0 ∨ b.bit (F.SRDk_PAT_CTRL_LOOP k) = false then 0 else b.patPending k / 2 ^ max 8 r

/-- The checker of lane `k` stops: its bits are counted with `errors` wrong ones, and CHK_LOCK falls (R348). -/
def Block.checkerStop (k errors : Nat) (b : Block) : Block :=
  let b := b.countPair (F.SRDk_CNT_Ti_LO k 0) (F.SRDk_CNT_Ti_HI k 0) (b.patPending k)
  let b := b.countPair (F.SRDk_CNT_Ti_LO k 1) (F.SRDk_CNT_Ti_HI k 1) errors
  let b := (b.set (F.SRDk_STATUS_CHK_LOCK k) 0).irqIf (errors != 0) F.SRD_IRQ_STATUS_PAT_ERR
  { b with srd.lanes := b.srd.lanes.modify k (fun l => { l with checkFrom := none }) }

/-- The checker of lane `k` stops if it is locked: the lane leaves TEST, its PLL changes, or its test bits do (R348, R349). -/
def Block.checkerOff (k : Nat) (b : Block) : Block :=
  if b.bit (F.SRDk_STATUS_CHK_LOCK k) then b.checkerStop k (b.patErrPending k) else b

/-- The receiver of a lane with ADAPT = 1 adapts: the peaking that results is a free value (R343, log entry 55). -/
def Block.adaptLane (k : Nat) (b : Block) : Block :=
  if (b.srd.lanes[k]?).any (fun l : Lane => l.adapt) then
    let (n, b) := b.fresh
    b.set (F.SRDk_STATUS_CTLE k) (Config.freeValue n)
  else b

/-- Does the port run no training: a CAUI-4 interface (R134, R347)? -/
def Block.untrained (b : Block) (p : Nat) : Bool :=
  decide (p < 2) && (b.get (F.ETHn_CTRL_MODE p) == 2 || b.get (F.ETHn_CTRL_MODE p) == 5)

/-- PHASE of the training blocks that lane `k` of a Lysrov port sends, none outside training (R340, R342, R344). -/
def Block.trainPhase (b : Block) (k : Nat) : Option Nat :=
  let st := b.laneState k
  if st < laneCdr ∨ laneUp ≤ st ∨ k < 8 ∨ 16 ≤ k then none
  else if ((b.srd.ports[k / 4]?).bind (·.failed)).isSome ∨ st ≤ laneAlign then some 1
  else if st = laneEq then some 2
  else if (b.srd.lanes[k]?).any (fun l : Lane => l.passed) then some 4
  else some 3

/-- The payload of the training block that lane `k` sends with SEQ `seq` and COUNT `count` (R340): it requests the preset that it
last asked for, while it sweeps and after. -/
def Block.trainBytes (b : Block) (k seq count : Nat) : Option (List Byte) :=
  (b.trainPhase k).map (fun ph =>
    let req := if ph = 1 then 0 else 0x80 + b.get (F.SRDk_STATUS_RX_PRESET k)
    let bs : List Byte := ([0x7E, 0x81, k % 4 + 4 * (k / 4 - 2), ph, count, req, b.get (F.SRDk_STATUS_TX_PRESET k),
      b.get (F.SRDk_EYE_WIDTH k) / 4].map (BitVec.ofNat 8)) ++ leBytes 2 seq ++ leBytes 4 0
    bs ++ leBytes 2 (crc16 ((bs.map (fun x => msbBits 8 x.toNat)).flatten)))

/-- A lane starts an attempt in CDR: SRDk_CFG is read, the transmitter starts at P4 or holds TX_PRESET (R343). -/
def Block.laneToCdr (k : Nat) (b : Block) : Block :=
  let cfg := b.bit (F.SRDk_CFG_TX_FIX k) || decide (k < 8)
  let adapt := b.bit (F.SRDk_CFG_ADAPT k)
  let b := (b.checkerOff k).setLane laneCdr k
  let b := b.set (F.SRDk_STATUS_TX_PRESET k) (if cfg then b.get (F.SRDk_CFG_TX_PRESET k) else 4)
  let b := if adapt then b else b.set (F.SRDk_STATUS_CTLE k) (b.get (F.SRDk_CFG_CTLE k))
  let b := b.set (F.SRDk_STATUS_CDR_LOCK k) 0
  let b := b.set (F.SRDk_STATUS_BLOCK_LOCK k) 0
  let fix := b.bit (F.SRDk_CFG_TX_FIX k)
  { b with srd.lanes := b.srd.lanes.modify k (fun l =>
    { l with partnerReady := false, passed := false, lowSince := none, fixed := fix, adapt := adapt }) }

/-- All four lanes of a port enter CDR. -/
def Block.portToCdr (p : Nat) (b : Block) : Block :=
  let b := { b with srd.ports := b.srd.ports.set p ⟨b.clk, none⟩ }
  b.each (portLanes p) Block.laneToCdr

/-- Does a Lysrov port send its wake tone (R443)? -/
def Block.toning (b : Block) (p : Nat) : Bool := b.pm.toneEnds.any (·.1 + 2 == p)

/-- Lanes in PLL, and those still in OFF of a port whose EN is 1 since reset, go on to CDR when their PLL is locked and
REFCLK has met R55 once (R337, R341); a port that sends its wake tone waits for its end (R443). -/
def Block.pllGo (p : Nat) (b : Block) : Block :=
  if bitOf (b.get F.SRD_STATUS_PLL_LOCK) p && b.clocks.refMet && !b.toning p
      && (portLanes p).any (fun k => b.laneState k == lanePll || (b.laneState k == laneOff && b.portEn p)) then
    b.portToCdr p
  else b

/-- A port's lanes are held in a state. -/
def Block.portTo (st p : Nat) (b : Block) : Block :=
  let b := { b with srd.ports := b.srd.ports.set p ⟨b.clk, none⟩ }
  b.each (portLanes p) (fun k b =>
    (((b.checkerOff k).setLane st k).set (F.SRDk_STATUS_CDR_LOCK k) 0).set (F.SRDk_STATUS_BLOCK_LOCK k) 0)

/-- The port's lanes leave OFF, or go to it (R341). -/
def Block.portEnable (p : Nat) (b : Block) : Block := (b.portTo lanePll p).pllGo p
def Block.portDisable (p : Nat) (b : Block) : Block := b.portTo laneOff p

/-- An attempt fails (R342): counted on each lane of the port, flagged; the lanes hold in ALIGN's training blocks. -/
def Block.trainFail (p : Nat) (b : Block) : Block :=
  let b := b.each (portLanes p) (fun k b => b.countSat (F.SRDk_CNT_Ei k 4) 1)
  let b := { b with srd.ports := b.srd.ports.modify p (fun q => { q with failed := some b.clk }) }
  b.raiseAt E.SRD_TRAIN_FAIL (4 * p)

/-- Has the port's attempt failed, its lanes holding? -/
def Block.holding (b : Block) (p : Nat) : Bool := ((b.srd.ports[p]?).bind (·.failed)).isSome

/-- Is an attempt running on the port? -/
def Block.training (b : Block) (p : Nat) : Bool :=
  (portLanes p).any (fun k => decide (laneCdr ≤ b.laneState k) && decide (b.laneState k ≤ laneReady)) && !b.holding p

/-- A retrain trigger on lane `k` (R345): in UP it is counted in event `cnt` of that lane; during an attempt the attempt
restarts from CDR. -/
def Block.retrain (b : Block) (k : Nat) (cnt : Option Nat) : Block :=
  let p := k / 4
  let st := b.laneState k
  if st = laneOff ∨ st = lanePll ∨ st = laneTest then b
  else
    let b := match cnt with
      | some i => if st = laneUp then b.countSat (F.SRDk_CNT_Ei k i) 1 else b
      | none => b
    b.portToCdr p

/-- A training block as received on a lane (R340): `inverted` tells markers 0x81, 0x7E under header 0b01. -/
def trainingBlock (k : Nat) (t : TrainBlock) (b : Block) : Block :=
  let p := k / 4
  if k < 8 ∨ 16 ≤ k ∨ b.laneState k < laneCdr ∨ laneUp ≤ b.laneState k then b
  else if t.inverted then
    (b.setBit (F.SRDk_STATUS_POL_INV k) (!b.bit (F.SRDk_STATUS_POL_INV k))).set (F.SRDk_STATUS_BLOCK_LOCK k) 0
  else if !t.crcOk then b
  else
    let b := match t.txReq with
      | some q => if (b.srd.lanes[k]?).any (fun l : Lane => l.fixed) then b else b.set (F.SRDk_STATUS_TX_PRESET k) q
      | none => b
    let b := { b with srd.lanes := b.srd.lanes.modify k (fun l =>
      { l with ack := t.txAck, seq := t.seq, partnerReady := l.partnerReady || t.phase == 4 }) }
    if b.laneState k = laneAlign ∧ t.lane ≠ k % 4 ∧ !b.holding p then (b.raiseAt E.SRD_LANE_ORDER k).trainFail p else b

/-- LANE_PLL_LOCK (R337). -/
def lanePllLock (p : Nat) (b : Block) : Block :=
  if p < 4 then ({ b with clocks.refMet := b.clocks.refMet || !b.bit F.PTP_REFCLK_STATUS_SOURCE }.set F.SRD_STATUS_PLL_LOCK (setBitOf (b.get F.SRD_STATUS_PLL_LOCK) p true)).pllGo p else b

/-- LANE_PLL_UNLOCK (R337, R345, R349): lock lost, or a change of source. -/
def lanePllUnlock (p : Nat) (source : Bool) (b : Block) : Block :=
  if 4 ≤ p then b
  else
    let b := b.set F.SRD_STATUS_PLL_LOCK (setBitOf (b.get F.SRD_STATUS_PLL_LOCK) p false)
    let b := if source then b else b.raiseAt E.SRD_PLL_UNLOCK (4 * p)
    let b := b.each (portLanes p) (fun k b => b.when (b.laneState k == laneUp) (·.countSat (F.SRDk_CNT_Ei k 2) 1))
    if (portLanes p).any (fun k => b.laneState k == laneOff || (source && b.laneState k == laneTest)) then
      b.each (portLanes p) Block.checkerOff
    else b.portTo lanePll p

/-- LANE_CDR_LOCK (R341): clock recovered with equalisation adapted. An Ethernet lane goes on to its clause's training, where its
mode has one (R347). -/
def laneCdrLock (k : Nat) (b : Block) : Block :=
  if b.laneState k = laneCdr ∧ k < 16 ∧ !b.holding (k / 4) then
    ((b.set (F.SRDk_STATUS_CDR_LOCK k) 1).adaptLane k).setLane (if 8 ≤ k then laneAlign else if b.untrained (k / 4) then laneUp else laneEq) k
  else b

/-- LANE_ALIGN_DONE (R341, R342): block lock on all four lanes, with the skew found between them in blocks. -/
def laneAlignDone (p skew : Nat) (b : Block) : Block :=
  if 2 ≤ p ∧ p < 4 ∧ (portLanes p).all (fun k => b.laneState k == laneAlign) ∧ !b.holding p then
    let b := b.each (portLanes p) (fun k b => b.set (F.SRDk_STATUS_BLOCK_LOCK k) 1)
    if 4 < skew then b.trainFail p else b.each (portLanes p) (Block.setLane laneEq)
  else b

/-- The preset with the widest eye, the lowest on a tie: `ws` pairs presets with widths in sweep order. -/
def bestPreset : List (Nat × Nat) → Nat × Nat → Nat
  | [], best => best.1
  | (p, w) :: r, best => bestPreset r (if best.2 < w then (p, w) else best)

/-- LANE_EQ_DONE (R344, R347): the sweep's presets with their widths; an Ethernet lane's clause training ends in UP. -/
def laneEqDone (k : Nat) (ws : List (Nat × Nat)) (b : Block) : Block :=
  if b.laneState k ≠ laneEq ∨ 16 ≤ k ∨ b.holding (k / 4) then b
  else if k < 8 then b.setLane laneUp k
  else
    match ws with
    | [] => b
    | w :: r => ((b.set (F.SRDk_STATUS_RX_PRESET k) (bestPreset r w)).adaptLane k).setLane laneCheck k

/-- Eye width in thousandths of a UI of `n` passing offsets (R346). -/
def eyeWidth (n : Nat) : Nat := roundDiv (1000 * n) 64

/-- LANE_CHECK_DONE (R344): the check measurement found `n` passing offsets. -/
def laneCheckDone (k n : Nat) (b : Block) : Block :=
  if b.laneState k ≠ laneCheck ∨ k < 8 ∨ 16 ≤ k ∨ b.holding (k / 4) then b
  else
    let w := eyeWidth n
    let b := (b.set (F.SRDk_EYE_TRAIN_WIDTH k) w).set (F.SRDk_EYE_WIDTH k) w
    if b.get F.SRD_EYE_CFG_EYE_MIN ≤ w then
      { b.setLane laneReady k with srd.lanes := b.srd.lanes.modify k (fun l => { l with passed := true }) }
    else b.trainFail (k / 4)

/-- Has PHASE READY been received on the four lanes of a port (R344)? -/
def Block.partnerShown (b : Block) (p : Nat) : Bool :=
  (portLanes p).all (fun k => (b.srd.lanes[k]?).any (fun l : Lane => l.partnerReady))

/-- LANE_COUNTDOWN_DONE (R344): COUNT 0 sent and received on the four lanes, whose partner has shown READY; they enter UP. -/
def laneCountdownDone (p : Nat) (b : Block) : Block :=
  if 2 ≤ p ∧ p < 4 ∧ (portLanes p).all (fun k => b.laneState k == laneReady) ∧ b.partnerShown p ∧ !b.holding p then
    b.each (portLanes p) (Block.setLane laneUp)
  else b

/-- TRAIN_TIMEOUT (R342): not UP within TIMEOUT_MS of entering CDR. -/
def trainTimeout (p : Nat) (b : Block) : Block :=
  if 2 ≤ p ∧ p < 4 ∧ b.training p then
    let t0 := ((b.srd.ports[p]?).map (·.started)).getD 0
    (b.untilClk (t0 + max 0x28 (b.get F.SRD_TRAIN_CFG_TIMEOUT_MS) * 1000000)).trainFail p
  else b

/-- TRAIN_RETRY (R342): 1 ms after a failed attempt the lanes enter CDR again. -/
def trainRetry (p : Nat) (b : Block) : Block :=
  match (b.srd.ports[p]?).bind (·.failed) with
  | some t => (b.untilClk (t + 1000000)).portToCdr p
  | none => b

/-- CDR_LOSS (R345). -/
def cdrLoss (k : Nat) (b : Block) : Block :=
  if b.laneState k < laneCdr ∨ laneTest ≤ b.laneState k ∨ 16 ≤ k then b
  else (if b.laneState k = laneUp then b.raiseAt E.SRD_CDR_LOSS k else b).retrain k (some 0)

/-- BLOCK_LOSS (R339, R345). -/
def blockLoss (k : Nat) (b : Block) : Block :=
  if b.laneState k = laneUp ∧ 8 ≤ k ∧ k < 16 then (b.raiseAt E.SRD_BLOCK_LOSS k).retrain k (some 1) else b

/-- EYE_MEASURE_DONE (R346): WIDTH, and for a Lysrov lane in UP how long it has been low (R345). -/
def eyeMeasureDone (k n : Nat) (b : Block) : Block :=
  if 16 ≤ k ∨ 64 < n then b
  else
    let b := b.set (F.SRDk_EYE_WIDTH k) (eyeWidth n)
    let low := decide (eyeWidth n < b.get F.SRD_EYE_CFG_EYE_DOWN) && decide (8 ≤ k) && b.laneState k == laneUp
    { b with srd.lanes := b.srd.lanes.modify k (fun l =>
        { l with lowSince := if low then some (l.lowSince.getD b.clk) else none }) }

/-- EYE_LOW (R345): below EYE_DOWN in every sweep for DOWN_MS. -/
def eyeLow (k : Nat) (b : Block) : Block :=
  match (b.srd.lanes[k]?).bind (·.lowSince) with
  | some t =>
    if b.laneState k = laneUp ∧ 8 ≤ k then
      ((b.untilClk (t + max 1 (b.get F.SRD_EYE_CFG_DOWN_MS) * 1000000)).raiseAt E.SRD_EYE_LOW k).retrain k (some 3)
    else b
  | none => b

/-- A write of SRD_CMD.RETRAIN (R345): the port of each named lane, once. -/
def srdRetrain (v : Nat) (b : Block) : Block :=
  b.each (List.range 4) (fun p b =>
    match (portLanes p).find? (bitOf v) with
    | some k => b.retrain k (some 2)
    | none => b)

/-- Is any test bit set on a lane of the port? -/
def Block.testing (b : Block) (p : Nat) : Bool :=
  (portLanes p).any (fun k => b.bit (F.SRDk_PAT_CTRL_GEN_EN k) || b.bit (F.SRDk_PAT_CTRL_CHK_EN k) || b.bit (F.SRDk_PAT_CTRL_LOOP k))

/-- INJECT (R348): one transmitted bit is inverted; looped back to a locked checker it is one wrong bit. -/
def inject (k : Nat) (b : Block) : Block :=
  if 16 ≤ k then b
  else
    let b := b.emit (.inverted k)
    if b.bit (F.SRDk_PAT_CTRL_LOOP k) && b.bit (F.SRDk_STATUS_CHK_LOCK k) then
      (b.countPair (F.SRDk_CNT_Ti_LO k 1) (F.SRDk_CNT_Ti_HI k 1) 1).irq F.SRD_IRQ_STATUS_PAT_ERR
    else b

/-- A write of SRDk_PAT_CTRL (R348, R349): test mode is entered or left for the lane's whole port, INJECT acts. -/
def patCtrl (k v : Nat) (b : Block) : Block :=
  if 16 ≤ k then b
  else
    let p := k / 4
    let old := b.word (R.SRDk_PAT_CTRL k)
    let new : Word := BitVec.ofNat 32 (Nat.land v 0x1F77)
    let b := if old = new then b else b.checkerOff k
    let b := b.setWord (R.SRDk_PAT_CTRL k) new
    let b :=
      if b.testing p then
        if (portLanes p).all (fun j => b.laneState j == laneTest) then b else b.portTo laneTest p
      else if (portLanes p).any (fun j => b.laneState j == laneTest) then
        if b.portEn p then b.portToCdr p else b.portDisable p
      else b
    b.when (F.SRDk_PAT_CTRL_INJECT k |>.of v |> (· == 1)) (inject k)

/-- CHECKER_LOCK (R348): 1,024 consecutive correct bits. -/
def checkerLock (k : Nat) (b : Block) : Block :=
  if b.laneState k = laneTest ∧ b.bit (F.SRDk_PAT_CTRL_CHK_EN k) ∧ b.get (F.SRDk_PAT_CTRL_PATTERN k) ≤ 5 ∧ k < 16
      ∧ !b.bit (F.SRDk_STATUS_CHK_LOCK k) then
    { b.set (F.SRDk_STATUS_CHK_LOCK k) 1 with
      srd.lanes := b.srd.lanes.modify k (fun l => { l with checkFrom := some b.clk }) }
  else b

/-- CHECKER_LOCK_LOSS (R348): 512 errors within 2^16 bits, of `errors` counted since the lock. -/
def checkerLockLoss (k errors : Nat) (b : Block) : Block :=
  if b.bit (F.SRDk_STATUS_CHK_LOCK k) ∧ k < 16 then b.checkerStop k errors else b

/-- TRAINING_BLOCK. -/
def execTrainingBlock (k : Nat) (t : TrainBlock) (s : State) : Host.Outcome State Fault Refusal :=
  s.done (trainingBlock k t s.blk)
/-- LANE_PLL_LOCK. -/
def execLanePllLock (p : Nat) (s : State) : Host.Outcome State Fault Refusal := s.done (lanePllLock p s.blk)
/-- LANE_PLL_UNLOCK. -/
def execLanePllUnlock (p : Nat) (source : Bool) (s : State) : Host.Outcome State Fault Refusal :=
  s.done (lanePllUnlock p source s.blk)
/-- LANE_CDR_LOCK. -/
def execLaneCdrLock (k : Nat) (s : State) : Host.Outcome State Fault Refusal := s.done (laneCdrLock k s.blk)
/-- LANE_ALIGN_DONE. -/
def execLaneAlignDone (p skew : Nat) (s : State) : Host.Outcome State Fault Refusal := s.done (laneAlignDone p skew s.blk)
/-- LANE_EQ_DONE. -/
def execLaneEqDone (k : Nat) (ws : List (Nat × Nat)) (s : State) : Host.Outcome State Fault Refusal :=
  s.done (laneEqDone k ws s.blk)
/-- LANE_CHECK_DONE. -/
def execLaneCheckDone (k n : Nat) (s : State) : Host.Outcome State Fault Refusal := s.done (laneCheckDone k n s.blk)
/-- LANE_COUNTDOWN_DONE. -/
def execLaneCountdownDone (p : Nat) (s : State) : Host.Outcome State Fault Refusal := s.done (laneCountdownDone p s.blk)
/-- TRAIN_TIMEOUT. -/
def execTrainTimeout (p : Nat) (s : State) : Host.Outcome State Fault Refusal := s.done (trainTimeout p s.blk)
/-- TRAIN_RETRY. -/
def execTrainRetry (p : Nat) (s : State) : Host.Outcome State Fault Refusal := s.done (trainRetry p s.blk)
/-- CDR_LOSS. -/
def execCdrLoss (k : Nat) (s : State) : Host.Outcome State Fault Refusal := s.done (cdrLoss k s.blk)
/-- BLOCK_LOSS. -/
def execBlockLoss (k : Nat) (s : State) : Host.Outcome State Fault Refusal := s.done (blockLoss k s.blk)
/-- EYE_MEASURE_DONE. -/
def execEyeMeasureDone (k n : Nat) (s : State) : Host.Outcome State Fault Refusal := s.done (eyeMeasureDone k n s.blk)
/-- EYE_LOW. -/
def execEyeLow (k : Nat) (s : State) : Host.Outcome State Fault Refusal := s.done (eyeLow k s.blk)
/-- SRD_RETRAIN. -/
def execSrdRetrain (_p : Path) (v : Word) (s : State) : Host.Outcome State Fault Refusal :=
  s.done (s.blk.writing R.SRD_CMD (srdRetrain v.toNat))
/-- TEST_MODE_ENTER: a write of SRDk_PAT_CTRL. -/
def execTestModeEnter (_p : Path) (k : Nat) (v : Word) (s : State) : Host.Outcome State Fault Refusal :=
  s.done (s.blk.writing (R.SRDk_PAT_CTRL k) (patCtrl k v.toNat))
/-- INJECT: a write of SRDk_PAT_CTRL.INJECT. -/
def execInject (_p : Path) (k : Nat) (s : State) : Host.Outcome State Fault Refusal :=
  s.done (s.blk.writing (R.SRDk_PAT_CTRL k) (inject k))
/-- CHECKER_LOCK. -/
def execCheckerLock (k : Nat) (s : State) : Host.Outcome State Fault Refusal := s.done (checkerLock k s.blk)
/-- CHECKER_LOCK_LOSS. -/
def execCheckerLockLoss (k errors : Nat) (s : State) : Host.Outcome State Fault Refusal :=
  s.done (checkerLockLoss k errors s.blk)

end Sys2Proof.Machine
end

