-- ==== Sys2Proof/Machine/Lnk.lean ====
section
/-!
DEFINITION. The Lysrov chain: link layer and sessions (R234 to R250), frame header and Spores (R251 to R256), epochs,
heads, takeover, state copy, breaks and split feed (R257 to R272).
-/

namespace Sys2Proof.Machine

/-! ### The link -/

/-- CHAIN_ID from TOPOLOGY. -/
def Block.chainId (b : Block) : Nat := (b.cfg.topo.map (·.chainId)).getD 0

/-- The Lysrov ports that are up and carry chain traffic. -/
def Block.upPorts (b : Block) : List Nat := [0, 1].filter b.carries

/-- Is port `p` up and rightly cabled (R236)? -/
def Block.usable (b : Block) (p : Nat) : Bool := b.bit (F.LNKn_STATUS_UP p) && !(b.lnkPort p).wrong

/-- The link at a port of a slot, named by the slot at its west end (R269); none west of slot 0 or for a module without a slot. -/
def linkAt (slot port : Nat) : Option Nat :=
  if 64 ≤ slot then none else if port = 0 then (if slot = 0 then none else some (slot - 1)) else some slot

/-- The heads' nodes: those of the lowest and the highest occupied slot (R234). -/
def Block.chainHeads (b : Block) : List Nat :=
  match b.cfg.topo with
  | none => []
  | some t =>
    let occ := t.slotNode.filter (· != 0)
    (occ.head?.toList ++ occ.getLast?.toList)

/-- Is the node a head of the module's chain? -/
def Block.fromHead (b : Block) (n : Nat) : Bool := b.chainHeads.contains n

/-- DUTY changes (R278). -/
def Block.setDuty (b : Block) (d : Nat) : Block :=
  if b.duty = d then b else (b.set F.LNK_CHAIN_STATUS_DUTY d).irq (F.LNKn_IRQ_STATUS_DUTY_CHANGE 0)

/-- The split in force changes (R270, R278). -/
def Block.setSplit (b : Block) (s : Option Nat) : Block :=
  let on := s.isSome
  let slot := s.getD 0xFF
  if b.bit F.LNK_CHAIN_STATUS_SPLIT = on ∧ b.get F.LNK_CHAIN_STATUS_SPLIT_SLOT = slot then b
  else ((b.setBit F.LNK_CHAIN_STATUS_SPLIT on).set F.LNK_CHAIN_STATUS_SPLIT_SLOT slot).irq (F.LNKn_IRQ_STATUS_SPLIT_CHANGE 0)

/-- The split slot, while a split is in force. -/
def Block.splitSlot (b : Block) : Option Nat :=
  if b.bit F.LNK_CHAIN_STATUS_SPLIT then some (b.get F.LNK_CHAIN_STATUS_SPLIT_SLOT) else none

/-- The head's chain port, as a list. -/
def Block.chainPorts (b : Block) : List Nat := match b.cfg.topo with | some t => [t.chainPort] | none => []

/-- Send to the other head over UDP, if it can be reached there. -/
def Block.sendOtherUdp (b : Block) (type : Nat) (body : Body) : Block :=
  match b.viaUdp b.otherHead with
  | some v =>
    if b.speaks type then
      let (m, b) := b.compose type b.otherHead body
      (b.sendOut v m).2
    else b
  | none => b

/-- FIRST_WFN in force. -/
def Block.firstWfn (b : Block) : Nat := b.pair F.LNK_FIRST_WFN_LO F.LNK_FIRST_WFN_HI

/-- Send HEAD_ALIVE, into the chain and over UDP to the other head (R258). -/
def Block.sendAlive (b : Block) : Block :=
  let body := Body.headAlive
    { epoch := b.get F.LNK_EPOCH_EPOCH, takeover := b.lnk.takeover, delegate := b.duty == dutyDelegate
      split := b.bit F.LNK_CHAIN_STATUS_SPLIT, senderSlot := b.slotNumber
      splitSlot := b.get F.LNK_CHAIN_STATUS_SPLIT_SLOT, firstWfn := b.firstWfn }
  (b.sendChain b.chainPorts 0x15 nodeAll body).sendOtherUdp 0x15 body

/-- HEAD_STATE of the moment, with the identity record of slot `s` (R266). -/
def Block.headState (b : Block) (s : Nat) : HeadState :=
  let r := b.lnk.ids.getD s ⟨0, 0, []⟩
  { wfn := b.wfn, epoch := b.get F.LNK_EPOCH_EPOCH, digest := b.digest
    slotMask := b.actPair F.LNK_SLOT_MASK_LO_MASK F.LNK_SLOT_MASK_HI_MASK, wallScale := b.get F.LNK_SCALE_LATCHED_SCALE
    splitSlot := b.get F.LNK_CHAIN_STATUS_SPLIT_SLOT, split := b.bit F.LNK_CHAIN_STATUS_SPLIT
    txns := b.lnk.table, idSlot := s, idIncarn := r.incarn, idSerial := r.serial }

/-- The active head sends HEAD_STATE to the standby, over the chain and over UDP (R266). -/
def Block.sendHeadState (b : Block) (s : Nat) : Block :=
  if b.duty ≠ dutyActive then b
  else
    let body := Body.headState (b.headState s)
    (b.sendChain b.chainPorts 0x13 b.otherHead body).sendOtherUdp 0x13 body

/-- The first slot beyond the nearest broken link, seen from the active head's end (R270). A slot whose LNK_SLOT_MASK bit is clear is
passed over, as 18_faults_and_recovery.md has it where slot 45 is replaced (DEDUCED, log entry 71). -/
def Block.splitOf (b : Block) (l : List Nat) : Option Nat :=
  match l with
  | [] => none
  | x :: r =>
    let beyond :=
      if b.activeWest then (List.range ((b.cfg.topo.map (·.slots)).getD 0)).drop (r.foldl min x + 1)
      else (List.range (r.foldl max x + 1)).reverse
    let mask := b.actPair F.LNK_SLOT_MASK_LO_MASK F.LNK_SLOT_MASK_HI_MASK
    (beyond.find? (bitOf mask ·)).orElse (fun _ => beyond.head?)

/-- A head learns of a break; the active one splits at once where the first slot beyond changes, and clears a healed break at its next
frame start (R269, R270, R271). -/
def Block.learnBreak (b : Block) (link : Option Nat) (up : Bool) : Block :=
  let b := { b with lnk.breaks := b.lnk.breaks + 1 }.raise E.LNK_BREAK
  match link with
  | none => b
  | some k =>
    let rest := b.lnk.broken.filter (· != k)
    let b := { b with lnk.broken := if up then rest else rest ++ [k] }
    let now := b.splitOf b.lnk.broken
    if !up && b.duty == dutyActive && b.bit F.LNK_CHAIN_CTRL_SPLIT_EN && now != b.splitSlot then
      ((b.setSplit now).sendHeadState b.slotNumber).sendAlive
    else b

/-- The module's slot as its messages carry it: 0xFF while it is not known. -/
def Block.shownSlot (b : Block) : Nat := if b.bit F.LNK_CHAIN_STATUS_SLOT_VALID then b.slotNumber else 0xFF

/-- A link of the chain goes down or comes up at port `p`, or changes between rightly and wrongly cabled: BREAK leaves every port that
is up, and a head learns of it (R236, R269). A head's other port is no link of the chain. -/
def Block.linkBroken (b : Block) (p : Nat) (up : Bool) : Block :=
  if b.isHead && b.chainPorts != [p] then b
  else
    let b := b.when (!b.upPorts.isEmpty) (fun b => b.sendChain b.upPorts 0x17 nodeAll (.brk b.node b.shownSlot p up b.wfn))
    if b.isHead then b.learnBreak (linkAt b.shownSlot p) up else b

/-- A port that is UP goes down (R240). -/
def Block.linkDown (p : Nat) (b : Block) : Block :=
  if !b.bit (F.LNKn_STATUS_UP p) then b
  else
    let b := ((b.set (F.LNKn_STATUS_UP p) 0).endSession p).onLnk p (fun q => { q with lastId := none, offered := none })
    let b := (b.set (F.LNKn_STATUS_PARTNER_SLOT p) 0xFF).countSat (F.LNKn_CNT_Ei p 2) 1
    ((b.raise (E.LNKn_LINK_DOWN p)).irq (F.LNKn_IRQ_STATUS_LINK_CHANGE p)).linkBroken p false

/-- A fresh nonce, as the port's own. -/
def Block.drawNonce (b : Block) (p : Nat) : Block :=
  let (k, b) := b.fresh
  b.onLnk p (fun q => { q with ownNonce := some (Config.freeNumber k % 2 ^ 128), sent := false })

/-- DUTY as LINK_ID carries it (R241). -/
def Block.dutyCode (b : Block) : Nat := if b.role = 0 then 0xF else b.duty

/-- LINK_ID_SEND (R235, R241). -/
def linkIdSend (p : Nat) (b : Block) : Block :=
  if 2 ≤ p ∨ !b.trained (2 + p) then b
  else
    let b := if (b.lnkPort p).ownNonce.isSome then b else b.drawNonce p
    let q := b.lnkPort p
    let x : LinkId :=
      { node := b.node, serial := b.fuses.serial, chainId := b.chainId, slot := b.shownSlot
        port := p, duty := b.dutyCode, epoch := b.get F.LNK_EPOCH_EPOCH, nonce := q.ownNonce.getD 0
        incarn := b.lnk.incarn, tag := if q.partner.isSome then some true else none }
    ((b.onLnk p (fun q => { q with sent := true })).countCells p 0 1).emit (.linkId p x)

/-- Does slot `s` bear out TOPOLOGY (R235)? -/
def slotBorne (t : Topology) (s : Nat) : Bool :=
  decide (s < t.slots) && t.slotNode.getD s 0 == (if t.source1 then t.chainBase + s else t.node)

/-- The module keeps no slot (R235). -/
def Block.refuseSlot (b : Block) : Block := (b.set F.LNK_CHAIN_STATUS_SLOT_VALID 0).raise E.LNK_SLOT_MISMATCH

/-- A head's slot is the place of its node ID in SLOT_NODE, if that bears out TOPOLOGY (R235). -/
def Block.takeHeadSlot (b : Block) : Block :=
  match b.cfg.topo with
  | none => b
  | some t =>
    match (b.slotOfNode t.node).filter (slotBorne t) with
    | some s => (b.set F.LNK_CHAIN_STATUS_SLOT s).set F.LNK_CHAIN_STATUS_SLOT_VALID 1
    | none => b.refuseSlot

/-- A neighbour's known slot `k` shows on port `p`: a module that knows no slot takes its own from it, after the checks of R235; one
that does only sees whether the two ports offer different slots. A module with its slot has its identity again (R267). -/
def Block.takeSlot (b : Block) (p k : Nat) : Block :=
  let b := b.onLnk p (fun q => { q with offered := some (if p = 0 then (k : Int) + 1 else (k : Int) - 1) })
  match b.cfg.topo with
  | none => b
  | some t =>
    match [0, 1].filterMap (fun p => (b.lnkPort p).offered) with
    | [] => b
    | s :: r =>
      if !r.all (· == s) then b.refuseSlot
      else if b.bit F.LNK_CHAIN_STATUS_SLOT_VALID then b
      else if s < 0 ∨ !slotBorne t s.toNat then b.refuseSlot
      else
        let b := (b.set F.LNK_CHAIN_STATUS_SLOT s.toNat).set F.LNK_CHAIN_STATUS_SLOT_VALID 1
        { b.set F.HIF_NODE_ID_NODE (if t.source1 then t.chainBase + s.toNat else t.node) with lnk.identityLost := false }

/-- A new session's secret and ID are computed once both partners have exchanged LINK_ID frames, from the current chain key or the
previous one (R242, R470): LNK0 faces west. Without the key no session opens. -/
def Block.openLink (b : Block) (p nonce serial : Nat) (prev : Bool) : Block :=
  match b.chainKey prev with
  | none => b
  | some key =>
    let q := b.lnkPort p
    let old := if b.get (F.LNKn_SESSION_ID p) = 0 then q.ended else b.get (F.LNKn_SESSION_ID p)
    let own := q.ownNonce.getD 0
    let (secret, id) :=
      if p = 0 then linkSecret key.bytes nonce own b.chainId serial b.fuses.serial
      else linkSecret key.bytes own nonce b.chainId b.fuses.serial serial
    let b := b.onLnk p (fun q => { q with partner := some (nonce, serial), secret := secret, underPrev := prev, ended := 0 })
    ((b.set (F.LNKn_SESSION_ID p) id).set (F.LNKn_STATUS_SESSION_UP p) 0).sessionChanged old id

/-- A LINK_ID's tag failed on port `p` under the session being opened: it is tried once more under the previous chain key, or has
failed (R242, R470). -/
def Block.linkTagFailed (b : Block) (p : Nat) : Block :=
  let q := b.lnkPort p
  match q.partner with
  | none => b
  | some (nonce, serial) =>
    if !q.underPrev && !b.bit (F.LNKn_STATUS_SESSION_UP p) && (b.chainKey true).isSome then b.openLink p nonce serial true
    else (((b.countSat (F.LNKn_CNT_Ei p 3) 1).raise (E.LNKn_SESSION_FAIL p)).endSession p).drawNonce p

/-- What waits for port `p` leaves once its session is up (R90). -/
def Block.flushPort (b : Block) (p : Nat) : Block := b.flushWaiting (fun _ v => v == .lnk p)

/-- LINK_ID (R235, R236, R240, R242). -/
def linkId (p : Nat) (x : LinkId) (b : Block) : Block :=
  if 2 ≤ p ∨ !b.trained (2 + p) then b
  else
    let wasUp := b.bit (F.LNKn_STATUS_UP p)
    let was := b.usable p
    let bad := x.port == p || (b.cfg.topo.isSome && x.chainId != b.chainId)
    let b := (b.countCells p 1 1).onLnk p (fun q => { q with lastId := some b.clk, wrong := bad })
    let b := (b.set (F.LNKn_PARTNER_NODE_NODE p) x.node).set (F.LNKn_STATUS_PARTNER_SLOT p) x.slot
    let b := b.set (F.LNKn_STATUS_UP p) 1
    let b :=
      if bad then (b.raise (E.LNKn_CABLE p)).endSession p
      else
        let b := b.when (b.role == roleTile && x.slot != 0xFF) (·.takeSlot p x.slot)
        let q := b.lnkPort p
        let b := if q.partner = some (x.nonce, x.serial) ∨ !q.sent then b else b.openLink p x.nonce x.serial false
        match x.tag with
        | none => b
        | some true =>
          if (b.lnkPort p).partner.isSome then (b.set (F.LNKn_STATUS_SESSION_UP p) 1).flushPort p else b
        | some false => b.linkTagFailed p
    let b := b.irqIf (!wasUp) (F.LNKn_IRQ_STATUS_LINK_CHANGE p)
    if wasUp && was == !bad then b else b.linkBroken p (!bad)

/-- LINK_ID_TIMEOUT (R240): 500 µs without a LINK_ID. -/
def linkIdTimeout (p : Nat) (b : Block) : Block :=
  match (b.lnkPort p).lastId with
  | some t => if p < 2 ∧ b.bit (F.LNKn_STATUS_UP p) then (b.untilClk (t + 500000)).linkDown p else b
  | none => b

/-- LINK_PORT_DOWN (R240): the lanes of a port that is UP have dropped. -/
def linkPortDown (p : Nat) (b : Block) : Block :=
  if p < 2 ∧ !b.trained (2 + p) then b.linkDown p else b

/-- A write of LNKn_CTRL (R278, R341); on a head's other port EN has no effect (R234). -/
def linkPortEnable (p v : Nat) (b : Block) : Block :=
  if 2 ≤ p then b
  else
    let was := b.bit (F.LNKn_CTRL_EN p)
    let b := b.set (F.LNKn_CTRL_EN p) v
    let now := b.bit (F.LNKn_CTRL_EN p)
    if b.isHead && b.chainPorts != [p] || was == now then b
    else if now then b.portEnable (2 + p)
    else (b.portDisable (2 + p)).linkDown p

/-- Cells of a frond of width `w` (R245). -/
def frondCells (w : Nat) : Nat := ceilDiv (36 + 96 * w) 64

/-- The bytes of a frond in its cells (R245). -/
def frondBytes (f : Frond) : List Byte :=
  let cells := frondCells f.w
  let body := leBytes 1 1 ++ leBytes 1 0xA5 ++ leBytes 2 cells ++ leBytes 4 (f.slot + 2 ^ 8 * f.band + 2 ^ 16 * f.w) ++ leBytes 8 f.wfn
    ++ leBytes 4 f.epoch ++ leBytes 2 f.modeEpoch ++ leBytes 2 f.scale ++ leBytes 1 f.chainId ++ leBytes 1 f.sender ++ leBytes 6 0
    ++ (f.pixels.map (fun p => leBytes 6 p.toNat)).flatten
  body ++ leBytes 4 (crc32c body) ++ List.replicate (64 * cells - body.length - 4) 0

/-- A frond on its way out of port `p`: its cells are counted. -/
def Block.sendFrond (b : Block) (p : Nat) (f : Frond) : Block := (b.countCells p 0 (frondCells f.w)).emit (.frond p f)

/-- Cells whose sync headers were wrong, or that carry no start word where a V frame should begin (R237, R238). -/
def Block.cellErrors (b : Block) (p n : Nat) : Block :=
  if n = 0 then b else (b.countSat (F.LNKn_CNT_Ei p 0) n).raise (E.LNKn_CELL_ERR p)

/-- The onward port of a tile for what port `p` receives, if it is up, enabled and rightly cabled (R248). -/
def Block.onward (b : Block) (p : Nat) : Option Nat :=
  let o := 1 - p
  if !b.isHead && b.carries o && b.bit (F.LNKn_CTRL_EN o) then some o else none

/-- A frond for another slot passes from port `p` to the other one, its CRC checked on the way (R248). -/
def Block.passFrond (b : Block) (p : Nat) (f : Frond) (bad : List Nat) : Block :=
  let ok := f.crcOk && bad.isEmpty
  let b := if ok then b else b.countSat (F.LNKn_CNT_Ei p 1) 1
  match b.onward p with
  | some o => (b.countPair (F.LNKn_CNT_Ti_LO p 2) (F.LNKn_CNT_Ti_HI p 2) 1).sendFrond o { f.zeroed bad with crcOk := ok }
  | none => b.countSat (F.LNKn_CNT_Ei p 4) 1

/-- What arrives on channel V of port `p` is counted, and relayed unless it is a frond for the module's own slot (R237, R238, R248).
`bad` numbers the cells of the frame whose sync headers were wrong; without its start word, cell 0, a frame is no frame, and its cells
are discarded. -/
def vArrive (p : Nat) (x : VFrame) (bad : List Nat) (b : Block) : Block :=
  if 2 ≤ p ∨ !b.carries p then b
  else
    match x with
    | .stray n => (b.countCells p 1 n).cellErrors p n
    | .bulk m =>
      let b := (b.countCells p 1 (msgCells m)).cellErrors p bad.length
      if bad.contains 0 then b else b.passBulk p m bad
    | .frond f =>
      let b := (b.countCells p 1 (frondCells f.w)).cellErrors p bad.length
      if bad.contains 0 then b
      else if b.bit F.LNK_CHAIN_STATUS_SLOT_VALID && f.slot == b.slotNumber then
        b.countPair (F.LNKn_CNT_Ti_LO p 3) (F.LNKn_CNT_Ti_HI p 3) 1
      else b.passFrond p f bad

/-! ### Epochs (R257 to R262) -/

/-- The epoch in force. -/
def Block.epoch (b : Block) : Nat := b.get F.LNK_EPOCH_EPOCH

/-- The back buffers lose every band of an older epoch for a frame at or after FIRST_WFN (R262); a band of the oldest
frame that a frond of the next one had closed is open again, without rows to hold (R285). -/
def Block.dropBands (b : Block) (e first : Nat) : Block :=
  let hit (x : BackBand) : Bool := decide (x.epoch < e) && decide (first ≤ x.wfn)
  let gone := (b.scn.back.filter (fun x => hit x && x.wfn == b.openFrame)).map (·.band)
  let reopened := b.scn.early.filter (gone.contains ·)
  { b with scn := { b.scn with
      back := b.scn.back.filter (fun x => !hit x)
      early := b.scn.early.filter (fun x => !gone.contains x)
      spoiled := b.scn.spoiled ++ reopened } }

/-- FIRST_WFN of the epoch in force is taken, and R262 applied with it. -/
def Block.takeFirst (b : Block) (w : Nat) : Block :=
  let b := { b with lnk.firstDue := false }.setPair F.LNK_FIRST_WFN_LO F.LNK_FIRST_WFN_HI w
  b.when b.drives (·.dropBands b.epoch w)

/-- The module's epoch rises (R260); heads store it. A message without FIRST_WFN leaves R262 to the first later one of the epoch that
carries it (DEDUCED, log entry 72). -/
def Block.raiseEpoch (b : Block) (e : Nat) (first : Option Nat) : Block :=
  if b.epoch < e then
    let b := { b.set F.LNK_EPOCH_EPOCH e with lnk.firstDue := true }
    let b := if b.isHead then { b with lnk.storedEpoch := max b.lnk.storedEpoch e } else b
    match first with
    | some w => b.takeFirst w
    | none => b
  else
    match first with
    | some w => b.when (e == b.epoch && b.lnk.firstDue) (·.takeFirst w)
    | none => b

/-- A head drops to STANDBY (R264). -/
def Block.dropToStandby (b : Block) : Block :=
  let b := (b.setDuty dutyStandby).set F.LNK_CHAIN_STATUS_SYNCED 0
  let b := { b with lnk := { b.lnk with takeover := false, delegateEnds := false, sameDigests := 0, lastHead := b.clk } }
  (b.setSplit none).raise E.LNK_DEMOTED

/-- What an authenticated message from head `src` under epoch `e` does to the module's epoch and duty (R259, R260). `claims` tells a
message that shows its sender active: between two active heads of one epoch the one with TOPOLOGY DUTY 0x2 drops. A head that is
STANDBY has nothing to drop (DEDUCED, log entry 72). -/
def Block.heed (b : Block) (src e : Nat) (first : Option Nat) (claims : Bool) : Block :=
  if !b.fromHead src || src == b.node then b
  else
    let higher := decide (b.epoch < e)
    let yields := higher || (e == b.epoch && claims && (b.cfg.topo.map (·.duty)) != some 1)
    let drop := b.isHead && (b.duty == dutyActive && yields || b.duty == dutyDelegate && higher)
    let b := b.raiseEpoch e first
    if drop then b.dropToStandby else b

/-- A stale message or frond from node `src` (R261): counted, and answered with DEMOTE, once per sender in 10 ms. -/
def Block.stale (b : Block) (src : Nat) : Block :=
  let b := (b.countSat (F.LNK_CNT_Ei 0) 1).raise E.LNK_STALE
  let recent := b.lnk.demotes.any (fun d => d.1 == src && decide (b.clk < d.2 + 10000000))
  if recent || src == 0 then b
  else
    let b := { b with lnk.demotes := b.lnk.demotes.filter (fun d : Nat × Nat => d.1 != src) ++ [(src, b.clk)] }
    (b.countSat (F.LNK_CNT_Ei 1) 1).sendMsg 0x16 src (.demote b.epoch b.lnk.activeNode 0)

/-- The active head lies beyond port `p`: TOWARD_ACTIVE, and a tile's time slave port (R169, R278). -/
def Block.activeBeyond (b : Block) (v : Via) (slaveOnly : Bool) : Block :=
  match v with
  | .lnk p =>
    let b := if slaveOnly then b
      else (b.set (F.LNKn_STATUS_TOWARD_ACTIVE p) 1).set (F.LNKn_STATUS_TOWARD_ACTIVE (1 - p)) 0
    if b.role ≠ roleTile ∨ b.bit (F.LNKn_STATUS_SLAVE p) then b
    else
      let moved := !(b.masters sourceChain).isEmpty && b.get F.PTP_STATUS_SOURCE == sourceChain
      let b := (b.set (F.LNKn_STATUS_SLAVE p) 1).set (F.LNKn_STATUS_SLAVE (1 - p)) 0
      let due := b.clk + 23437500
      if moved then
        ((b.setMasters sourceChain [{ Master.new p 0 b.clk with annDue := due, syncDue := due }]).raise E.PTP_SWITCH).irq
          F.PTP_IRQ_STATUS_SWITCH
      else b.setMasters sourceChain []
  | _ => b

/-! ### Duties (R257, R258, R263, R264) -/

/-- The composition that follows the one in progress. -/
def Block.nextComposition (b : Block) : Nat :=
  match b.cmp.comp with
  | some m => m + 1
  | none => b.wfn + 2

/-- A head becomes ACTIVE under the next epoch, its FIRST_WFN given (R257, R263); a split that was in force is over, and the other head
is told at once (R266). -/
def Block.becomeActive (b : Block) (first : Nat) : Block :=
  let e := (max b.lnk.storedEpoch b.epoch + 1) % 2 ^ 32
  let split := b.bit F.LNK_CHAIN_STATUS_SPLIT
  let b := (b.set F.LNK_EPOCH_EPOCH e).takeFirst first
  let b := { b with lnk := { b.lnk with
    delegateEnds := false
    storedEpoch := e, takeover := true, listenFrom := none, activeNode := b.node, handover := none
    aliveDue := b.clk + b.get F.LNK_ALIVE_ALIVE_10US * 10000 } }
  let b := b.set (F.LNKn_STATUS_TOWARD_ACTIVE 0) 0 |>.set (F.LNKn_STATUS_TOWARD_ACTIVE 1) 0
  let b := ((b.setDuty dutyActive).setSplit none).sendAlive
  b.when split (fun b => b.sendHeadState b.slotNumber)

/-- The fronds of the composition in progress that the resend buffer holds and `keep` admits leave the chain port, under the epoch in
force, where R247 lets them (R263 step 3, R270). -/
def Block.resend (b : Block) (keep : Nat → Bool) : Block :=
  let due (k : Kept) : Bool :=
    b.cmp.comp == some k.frond.wfn && keep k.slot && k.slot != b.slotNumber && bitOf ((b.cmp.set.map (·.mask)).getD 0) k.slot
  b.each (b.lnk.kept.filter due) (fun k b =>
    b.each (b.chainPorts.filter b.carries) (fun p b =>
      b.sendFrond p { k.frond with epoch := b.epoch, sender := b.slotNumber, scale := b.lnk.scaleSent }))

/-- A standby head takes over (R263). -/
def Block.takeOver (b : Block) : Block :=
  let first := match b.cmp.comp with | some m => m | none => b.nextComposition
  let b := (b.countSat (F.LNK_CNT_Ei 6) 1).raise E.LNK_TAKEOVER
  (b.becomeActive first).resend (fun _ => true)

/-- A head's start when its role takes effect: STANDBY, listening (R257); its slot from SLOT_NODE (R235). -/
def Block.headStart (b : Block) : Block :=
  let b := b.set F.LNK_EPOCH_EPOCH b.lnk.storedEpoch
  let b := ((b.setDuty dutyStandby).set F.LNK_CHAIN_STATUS_SYNCED 0).takeHeadSlot
  { b with lnk := { b.lnk with listenFrom := some b.clk, lastHead := b.clk, sameDigests := 0 } }

/-- HEAD_LISTEN_TIMEOUT (R257). -/
def headListenTimeout (b : Block) : Block :=
  match b.lnk.listenFrom with
  | some t =>
    if b.isHead ∧ b.duty = dutyStandby ∧ b.pipes then
      let k := if (b.cfg.topo.map (·.duty)) = some 2 then 2 else 1
      let b := b.untilClk (t + k * b.get F.LNK_ALIVE_LISTEN_MS * 1000000)
      b.becomeActive b.nextComposition
    else b
  | none => b

/-- LOSS_US in ns, at least four HEAD_ALIVE intervals (R278). -/
def Block.lossNs (b : Block) : Nat :=
  max (b.get F.LNK_ALIVE_LOSS_US * 1000) (4 * b.get F.LNK_ALIVE_ALIVE_10US * 10000)

/-- HEAD_LOSS (R263, R272). -/
def headLoss (b : Block) : Block :=
  let may := b.bit F.LNK_CHAIN_STATUS_SYNCED || b.bit F.LNK_CHAIN_CTRL_TAKEOVER_UNSYNCED
  if b.isHead ∧ (b.duty = dutyStandby ∨ b.duty = dutyDelegate) ∧ b.lnk.listenFrom.isNone
      ∧ b.bit F.LNK_CHAIN_CTRL_TAKEOVER_EN ∧ may ∧ b.pipes then
    (b.untilClk (b.lnk.lastHead + b.lossNs)).takeOver
  else b

/-- HEAD_ALIVE_SEND (R258). -/
def headAliveSend (b : Block) : Block :=
  if b.isHead ∧ (b.duty = dutyActive ∨ b.duty = dutyDelegate) then
    let b := b.untilClk b.lnk.aliveDue
    { b with lnk.aliveDue := b.clk + b.get F.LNK_ALIVE_ALIVE_10US * 10000 }.sendAlive
  else b

/-- HEAD_ALIVE (R257 to R262). -/
def headAlive (rx : Rx) (b : Block) : Block :=
  b.taking rx (fun b =>
    match rx.msg.body with
    | .headAlive a =>
      let src := rx.msg.src
      if !b.fromHead src || decide (a.epoch < b.epoch) then b
      else
        let b := b.heed src a.epoch (some a.firstWfn) (!a.delegate)
        let b := if a.delegate then b else { b with lnk.activeNode := src }
        let b := if b.role == roleTile || b.role == 0 then b.setSplit (if a.split then some a.splitSlot else none) else b
        let b := if a.delegate then
            b.when (b.beyondSplit b.slotNumber && (b.masters sourceChain).isEmpty) (·.activeBeyond rx.via true)
          else b.activeBeyond rx.via false
        if b.isHead && src != b.node then
          let b := { b with lnk.listenFrom := none }
          if a.delegate then b else { b with lnk.lastHead := b.clk }
        else b
    | _ => b)

/-- Fronds of composition in progress that the delegate owes from the split slot onward (R270). -/
def Block.becomeDelegate (b : Block) : Block :=
  let b := { b.setDuty dutyDelegate with lnk.delegateEnds := false }
  (b.resend b.beyondSplit).sendAlive

/-- The standby compares a digest of the active head with its own of the same frame start (R266). -/
def Block.judgeDigest (b : Block) (d own : Nat) : Block :=
  if d = own then
    let k := b.lnk.sameDigests + 1
    ({ b with lnk.sameDigests := k }).when (decide (2 ≤ k)) (·.set F.LNK_CHAIN_STATUS_SYNCED 1)
  else ({ b with lnk.sameDigests := 0 }.set F.LNK_CHAIN_STATUS_SYNCED 0).raise E.LNK_STATE_DIVERGED

/-- A HEAD_STATE of frame `n` with digest `d`: judged now, or at the own start of frame `n` if that is still ahead (R266). -/
def Block.takeDigest (b : Block) (n d : Nat) : Block :=
  if n = b.lnk.digestAt.1 then b.judgeDigest d b.lnk.digestAt.2
  else if b.lnk.digestAt.1 < n then { b with lnk.digestDue := some (n, d) }
  else b

/-- A head that is not active computes its digest at its start of frame `n` (R266). -/
def Block.digestStart (b : Block) (n : Nat) : Block :=
  if !b.isHead || b.duty == dutyActive then b
  else
    let d := b.digest
    let b := { b with lnk.digestAt := (n, d) }
    match b.lnk.digestDue with
    | some (k, x) => if k = n then { b with lnk.digestDue := none }.judgeDigest x d else b
    | none => b

/-- The split that a HEAD_STATE shows takes effect at a head that is not active (R270, R271): STANDBY becomes DELEGATE, a DELEGATE
takes on the slots it newly owes, and one whose split is over ends with its composition in progress. -/
def Block.heedSplit (b : Block) (split : Option Nat) : Block :=
  let before := b.beyondSplit
  let was := b.get F.LNK_CHAIN_STATUS_SPLIT_SLOT
  match split with
  | some k =>
    let b := { b.setSplit (some k) with lnk.delegateEnds := false }
    if b.duty = dutyStandby then b.becomeDelegate
    else if was = k then b
    else (b.resend (fun s => b.beyondSplit s && !before s)).sendAlive
  | none =>
    if b.duty = dutyDelegate ∧ b.cmp.comp.isSome then { b with lnk.delegateEnds := true }
    else (if b.duty = dutyDelegate then b.setDuty dutyStandby else b).setSplit none

/-- A head that is not active takes a HEAD_STATE: digest, transaction table, identity record, split (R266, R267, R270, R271). -/
def headState (rx : Rx) (b : Block) : Block :=
  b.taking rx (fun b =>
    match rx.msg.body with
    | .headState h =>
      let src := rx.msg.src
      if !b.isHead || src == b.node || !b.fromHead src || decide (h.epoch < b.epoch) then b
      else
        let b := b.heed src h.epoch none true
        if b.duty = dutyActive then b
        else
          let b := { b with lnk := { b.lnk with activeNode := src, lastHead := b.clk, listenFrom := none, table := h.txns } }
          let b := { b with lnk.ids := b.lnk.ids.modify h.idSlot (fun r => { r with serial := h.idSerial, incarn := h.idIncarn }) }
          let b := (b.set (F.LNK_SLOTs_INFO_INCARN h.idSlot) h.idIncarn).learnIncarn rx.msg
          (b.takeDigest h.wfn h.digest).heedSplit (if h.split then some h.splitSlot else none)
    | _ => b)

/-- A module whose node ID belongs to another now loses its identity: it holds the recorded INCARN from then on (R267, log entry 69). -/
def Block.loseIdentity (b : Block) (inc : Nat) : Block :=
  let b := { b.set F.HIF_NODE_ID_NODE 0 with lnk := { b.lnk with identityLost := true, incarn := inc } }
  let b := (b.raise E.LNK_DEMOTED).set F.LNK_CHAIN_STATUS_SLOT_VALID 0
  b.when (decide (4 ≤ b.stage) && decide (b.stage ≤ 7)) (·.set F.CFG_BOOT_STATUS_STAGE 4)

/-- DEMOTE (R264, R267): a head of a lower epoch drops to STANDBY, and an INCARN above the module's own takes its identity. -/
def demote (rx : Rx) (b : Block) : Block :=
  b.taking rx (fun b =>
    match rx.msg.body with
    | .demote e _ inc =>
      let b := b.when (b.isHead && decide (b.epoch < e)) (fun b => (b.raiseEpoch e none).dropToStandby)
      b.when (decide (b.lnk.incarn < inc)) (·.loseIdentity inc)
    | _ => b)

/-- BREAK (R269, R270). -/
def breakMsg (rx : Rx) (b : Block) : Block :=
  b.taking rx (fun b =>
    match rx.msg.body with
    | .brk _ slot port up _ => if b.isHead then b.learnBreak (linkAt slot port) up else b
    | _ => b)

/-- A write of LNK_CMD.HANDOVER (R268); `synced` tells whether the standby head is SYNCED. -/
def lnkCmdHandover (v : Nat) (synced : Bool) (b : Block) : Block :=
  if F.LNK_CMD_HANDOVER.of v = 0 ∨ b.duty ≠ dutyActive then b
  else if synced then
    let w := match b.cmp.comp with | some m => m | none => b.wfn + 1
    (b.sendMsg 0x1A b.otherHead (.handover b.epoch w))
  else b.raise E.LNK_STATE_DIVERGED

/-- The composition `m` of the standby has ended: a handover due then is carried out (R268). -/
def Block.handoverDue (b : Block) (m : Nat) : Block :=
  match b.lnk.handover with
  | some w => if w ≤ m then b.takeOver else b
  | none => b

/-- HANDOVER (R260, R268). -/
def handover (rx : Rx) (b : Block) : Block :=
  b.taking rx (fun b =>
    match rx.msg.body with
    | .handover e w =>
      let b := b.heed rx.msg.src e none true
      if b.isHead ∧ b.duty = dutyStandby ∧ b.bit F.LNK_CHAIN_STATUS_SYNCED ∧ b.fromHead rx.msg.src ∧ e = b.epoch
          ∧ b.pipes then
        let b := { b with lnk.handover := some w }
        match b.cmp.comp with
        | some m => if w < m then b.takeOver else b
        | none => if w ≤ b.wfn + 1 then b.takeOver else b
      else b
    | _ => b)

/-! ### Headers, plans (R190, R191, R251, R252) -/

/-- The frame the module starts next. -/
def Block.nextFrame (b : Block) : Nat :=
  match b.frm.next with
  | some p => p.wfn
  | none => b.frm.cur.wfn + 1

/-- FRAME_HEADER of the next frame (R251). -/
def Block.header (b : Block) (p : Plan) : FrameHeader where
  wfn := p.wfn
  epoch := b.epoch
  modeEpoch := b.modeEpochAt p.wfn
  wallScale := b.lnk.scaleNext
  slotMask := b.lnk.maskCaptured
  headNode := b.node
  split := b.bit F.LNK_CHAIN_STATUS_SPLIT
  rolling := b.actBit F.FRM_START_ROLLING
  first := b.lnk.takeover
  splitSlot := b.get F.LNK_CHAIN_STATUS_SPLIT_SLOT
  txns := ((b.lnk.table.filter (fun t => t.state == 1 && t.target == p.wfn % 2 ^ 32)).map (·.txn)).take 4
  firstWfn := b.firstWfn

/-- FRAME_HEADER_SEND (R251, R258). -/
def frameHeaderSend (b : Block) : Block :=
  match b.eventFrame b.lnk.headerSent with
  | none => b
  | some p =>
    if b.duty ≠ dutyActive then b
    else
      let b := b.untilStc (nsOf p.hdr)
      let h := b.header p
      let b := b.sendChain b.chainPorts 0x12 nodeAll (.frameHeader h)
      let b := if h.split then b.sendOtherUdp 0x12 (.frameHeader h) else b
      { b with lnk := { b.lnk with
        headers := b.lnk.headers.filter (·.wfn != p.wfn) ++ [h], takeover := false, headerSent := some p.wfn
        scaleSent := h.wallScale, scaleLast := (h.wfn, h.wallScale) } }

/-- Is the header of frame `n` too late to be passed on by a delegate: 20 µs before that frame (R270)? -/
def Block.headerLate (b : Block) (n : Nat) : Bool :=
  decide (n ≤ b.wfn) || (b.frm.next.toList ++ b.frm.later.toList).any (fun p => p.wfn == n && decide (p.fs - q16 20000 ≤ q16 b.stc))

/-- Is `n` a frame whose header the module holds: the one it starts next, or the one behind it once that is fixed (R252; DEDUCED, log
entry 71)? -/
def Block.headerFits (b : Block) (n : Nat) : Bool := n == b.nextFrame || b.frm.later.any (·.wfn == n)

/-- FRAME_HEADER (R252, R260, R261, R270). -/
def frameHeader (rx : Rx) (b : Block) : Block :=
  b.taking rx (fun b =>
    match rx.msg.body with
    | .frameHeader h =>
      let src := rx.msg.src
      if !b.fromHead src then b
      else if h.epoch < b.epoch then b.stale src
      else
        let b := b.heed src h.epoch (some h.firstWfn) (h.headNode == src)
        let b := { b with lnk.activeNode := h.headNode }
        let b := if b.role == roleTile || b.role == 0 then b.setSplit (if h.split then some h.splitSlot else none) else b
        let overUdp := match rx.via with | .udp _ _ => true | _ => false
        let b : Block := if b.duty == dutyDelegate && overUdp && !b.headerLate h.wfn then
            { b.sendChain b.chainPorts 0x12 nodeAll (.frameHeader h) with lnk.scaleSent := h.wallScale } else b
        if h.epoch = b.epoch ∧ b.headerFits h.wfn then
          (b.modeMismatch h.wfn h.modeEpoch |> fun b =>
            { b with lnk := { b.lnk with
              headers := b.lnk.headers.filter (·.wfn != h.wfn) ++ [h], scaleLast := (h.wfn, h.wallScale) } })
        else b
    | _ => b)

/-- Does R190 accept the plan in RUN: the frame behind the last one fixed, of the next two, within the window of periods? -/
def Block.planFits (b : Block) (p : FramePlan) : Bool :=
  let fs := q16 p.fsNs + p.fsFrac
  let last := b.lastFixed.fs
  b.frm.later.isNone && p.wfn == b.lastFixed.wfn + 1
    && decide (last + b.pMin - q16 1 ≤ fs) && decide (fs ≤ last + b.tMax + q16 1)

/-- A plan of the active head reaches a following module whose time is valid (R190): before RUN its WFN and FS are taken as they are. -/
def Block.judgePlan (b : Block) (p : FramePlan) : Block :=
  if b.stage < 7 then { b with frm := { b.frm with next := none, later := none } }.takePlan p
  else if b.planFits p then b.takePlan p
  else b.countSat (F.FRM_CNT_Ei 7) 1

/-- A standby head compares a plan with its own of that frame, or keeps it until it has one (R191). -/
def Block.comparePlan (b : Block) (p : FramePlan) : Block :=
  match b.frm.later.orElse (fun _ => b.frm.next) with
  | some q => b.when (plansDiffer (b.planMessage q) p) Block.planDisagree
  | none => { b with frm.heard := some p }

/-- FRAME_PLAN (R190, R191, R196, R259 to R261). -/
def framePlan (rx : Rx) (b : Block) : Block :=
  b.taking rx (fun b =>
    match rx.msg.body with
    | .framePlan p =>
      let src := rx.msg.src
      let follows := b.frmState == frmFollow
      let timed := b.bit F.PTP_STATUS_TIME_VALID
      if !b.fromHead src then b.when (follows && timed) (·.countSat (F.FRM_CNT_Ei 7) 1)
      else if p.epoch < b.epoch then b.stale src
      else
        let b := b.heed src p.epoch none (!b.bit F.LNK_CHAIN_STATUS_SPLIT)
        if b.isHead then b.when (b.duty == dutyStandby) (·.comparePlan p)
        else (b.modeMismatch p.wfn p.modeEpoch).when (follows && timed) (·.judgePlan p)
    | _ => b)

/-! ### Spores (R255 to R256, R267, R277) -/

/-- HOLDING and the rest of the Spore's flags (R255). -/
def Block.sporeFlags (b : Block) : Nat :=
  flagBits [b.bit F.LNK_ERR_COMMIT_MISSED, b.lnk.hdrMissed, b.lnk.holding, b.bit (F.LNKn_STATUS_UP 0),
    b.bit (F.LNKn_STATUS_UP 1), b.str.throttle || b.shutdown, bitOf (b.get F.PWR_STATUS_IN_RANGE) 0,
    bitOf (b.get F.PWR_STATUS_IN_RANGE) 1]

/-- The module's Spore for frame `n` with its predicted energy and the bands received (R255). -/
def Block.spore (b : Block) (n ePred bands : Nat) : Spore where
  wfn := n
  epoch := b.epoch
  modeEpoch := b.act F.FRM_MODE_EPOCH_EPOCH
  stage := b.stage
  role := b.role
  slot := b.shownSlot
  serial := b.fuses.serial
  incarn := b.lnk.incarn
  ePred := ePred
  bands := bands
  flags := b.sporeFlags
  tMax := b.get F.THM_TEMP_TMAX
  lastCode := b.get F.FLT_STATUS_LAST_CODE
  sinceReset := b.get F.FLT_SINCE_RESET_COUNT
  txns := b.lnk.mine.map (fun t => (t.txn, t.state))

/-- A Spore of slot `s` goes into the head's table (R256); the last two frames' of a slot are kept (R193). -/
def Block.storeSpore (b : Block) (s : Nat) (sp : Spore) : Block :=
  let base := b.actPair F.LNK_SPORE_BASE_LO F.LNK_SPORE_BASE_HI_BASE
  let b := if base = 0 then b else b.dramWrite 0 (base + 64 * s) (Body.spore sp).bytes
  let b := (b.set (F.LNK_SLOTs_INFO_SEEN s) 1).setBit (F.LNK_SLOTs_INFO_HOLDING s) (bitOf sp.flags 2)
  let older := (b.lnk.spores.filter (fun e : SporeEntry => e.slot == s && e.spore.wfn != sp.wfn)).getLast?.toList
  { b with lnk.spores := b.lnk.spores.filter (fun e : SporeEntry => e.slot != s) ++ older ++ [SporeEntry.mk s sp] }

/-- The Spore leaves: a tile's both ports, a head's chain port and HIF_NOTIFY_NODE over UDP (R255). A head holds its own in its table
as well (DEDUCED, log entry 73). -/
def Block.sendSpore (b : Block) (sp : Spore) : Block :=
  if b.role = 0 ∨ b.pm.gate then b
  else
    let b := b.sendChain (if b.isHead then b.chainPorts else [0, 1]) 0x11 nodeAll (.spore sp)
    let b := b.when (b.isHead && b.bit F.LNK_CHAIN_STATUS_SLOT_VALID) (·.storeSpore b.slotNumber sp)
    let n := b.get F.HIF_NOTIFY_NODE_NODE
    if b.isHead ∧ n ≠ 0 then
      match b.viaUdp n with
      | some v =>
        let (m, b) := b.compose 0x11 n (.spore sp)
        (b.dispatch v m).2
      | none => b
    else b

/-- Write an identity record, and tell the standby at once (R267). -/
def Block.recordId (b : Block) (s serial : Nat) : Block :=
  let r := b.lnk.ids.getD s ⟨0, 0, []⟩
  let r' : IdRec := ⟨serial, r.incarn + 1, if r.serial = 0 then r.past else r.past ++ [r.serial]⟩
  let b := { b with lnk.ids := b.lnk.ids.set s r' }
  (b.set (F.LNK_SLOTs_INFO_INCARN s) r'.incarn).sendHeadState s

/-- Is the sender of a Spore a stale holder of its node ID: another serial is recorded, and its INCARN is lower? A unit that holds no
INCARN is new unless its serial has been superseded (R267; DEDUCED, log entry 69). -/
def IdRec.staleHolder (r : IdRec) (sp : Spore) : Bool :=
  r.serial != sp.serial && decide (sp.incarn < r.incarn) && (r.past.contains sp.serial || decide (0 < sp.incarn))

/-- Bring a unit into line whose Spore shows a TXN in state 1 or 4 that the table shows installed; MISSED stays until the unit reports
that TXN as installed (R277). -/
def Block.catchUp (b : Block) (s node : Nat) (sp : Spore) : Block :=
  if b.duty ≠ dutyActive then b
  else
    let behind := sp.txns.filter (fun t => (t.2 == 1 || t.2 == 4) && b.lnk.table.any (fun e => e.txn == t.1 && e.state == 2))
    let still := b.lnk.missed.filter (fun x => !(x.1 == s && sp.txns.contains (x.2, 3)))
    let new := (behind.map (fun t => (s, t.1))).filter (fun x => !still.contains x)
    let b := { b with lnk.missed := still ++ new }
    let b := b.setBit (F.LNK_SLOTs_INFO_MISSED s) (b.lnk.missed.any (·.1 == s))
    b.each behind (fun t b =>
      let pr := b.lnk.table.any (fun e => e.txn == t.1 && bitOf e.flags 0)
      b.sendMsg 0x18 node (.txn t.1 pr true 0 (b.wfn + 2)))

/-- A head accepts a Spore of a slot of its chain (R256, R267, R277), and a head's Spore carries its epoch (R260); a delegate forwards
those from beyond the split to the active head (R403). -/
def spore (rx : Rx) (b : Block) : Block :=
  b.taking rx (fun b =>
    match rx.msg.body with
    | .spore sp =>
      let b := b.heed rx.msg.src sp.epoch none false
      let s := sp.slot
      let t := (b.cfg.topo.map (fun t => (t.slots, t.slotNode.getD s 0))).getD (0, 0)
      if !b.isHead || decide (t.1 ≤ s) || sp.epoch != b.epoch || rx.msg.src == 0 || rx.msg.src != t.2 then b
      else
        let r := b.lnk.ids.getD s ⟨0, 0, []⟩
        if b.duty == dutyActive && r.staleHolder sp then
          (b.countSat (F.LNK_CNT_Ei 1) 1).sendMsg 0x16 rx.msg.src (.demote b.epoch b.lnk.activeNode r.incarn)
        else
          let b := b.storeSpore s sp
          let b := if b.duty == dutyActive && r.serial != sp.serial then b.recordId s sp.serial else b
          let b := b.catchUp s rx.msg.src sp
          match b.viaUdp b.lnk.activeNode with
          | some v => if b.duty == dutyDelegate && b.beyondSplit s then b.depart v rx.msg else b
          | none => b
    | _ => b)

/-! ### Meanings -/

/-- LINK_ID_SEND. -/
def execLinkIdSend (p : Nat) (s : State) : Host.Outcome State Fault Refusal := s.done (linkIdSend p s.blk)
/-- LINK_ID. -/
def execLinkId (p : Nat) (x : LinkId) (s : State) : Host.Outcome State Fault Refusal := s.done (linkId p x s.blk)
/-- LINK_ID_TIMEOUT. -/
def execLinkIdTimeout (p : Nat) (s : State) : Host.Outcome State Fault Refusal := s.done (linkIdTimeout p s.blk)
/-- LINK_PORT_DOWN. -/
def execLinkPortDown (p : Nat) (s : State) : Host.Outcome State Fault Refusal := s.done (linkPortDown p s.blk)
/-- LINK_PORT_ENABLE: a write of LNKn_CTRL. -/
def execLinkPortEnable (_path : Path) (p : Nat) (v : Word) (s : State) : Host.Outcome State Fault Refusal :=
  s.done (s.blk.writing (R.LNKn_CTRL p) (linkPortEnable p v.toNat))
/-- SPORE. -/
def execSpore (rx : Rx) (s : State) : Host.Outcome State Fault Refusal := s.done (spore rx s.blk)
/-- HEAD_ALIVE_SEND. -/
def execHeadAliveSend (s : State) : Host.Outcome State Fault Refusal := s.done (headAliveSend s.blk)
/-- HEAD_ALIVE. -/
def execHeadAlive (rx : Rx) (s : State) : Host.Outcome State Fault Refusal := s.done (headAlive rx s.blk)
/-- HEAD_LISTEN_TIMEOUT. -/
def execHeadListenTimeout (s : State) : Host.Outcome State Fault Refusal := s.done (headListenTimeout s.blk)
/-- HEAD_LOSS. -/
def execHeadLoss (s : State) : Host.Outcome State Fault Refusal := s.done (headLoss s.blk)
/-- HEAD_STATE. -/
def execHeadState (rx : Rx) (s : State) : Host.Outcome State Fault Refusal := s.done (headState rx s.blk)
/-- DEMOTE. -/
def execDemote (rx : Rx) (s : State) : Host.Outcome State Fault Refusal := s.done (demote rx s.blk)
/-- BREAK. -/
def execBreak (rx : Rx) (s : State) : Host.Outcome State Fault Refusal := s.done (breakMsg rx s.blk)
/-- LNK_CMD_HANDOVER: a write of LNK_CMD. -/
def execLnkCmdHandover (_p : Path) (v : Word) (synced : Bool) (s : State) : Host.Outcome State Fault Refusal :=
  s.done (s.blk.writing R.LNK_CMD (lnkCmdHandover v.toNat synced))
/-- HANDOVER. -/
def execHandover (rx : Rx) (s : State) : Host.Outcome State Fault Refusal := s.done (handover rx s.blk)
/-- FRAME_HEADER_SEND. -/
def execFrameHeaderSend (s : State) : Host.Outcome State Fault Refusal := s.done (frameHeaderSend s.blk)
/-- FRAME_HEADER. -/
def execFrameHeader (rx : Rx) (s : State) : Host.Outcome State Fault Refusal := s.done (frameHeader rx s.blk)
/-- FRAME_PLAN. -/
def execFramePlan (rx : Rx) (s : State) : Host.Outcome State Fault Refusal := s.done (framePlan rx s.blk)

end Sys2Proof.Machine
end

