-- ==== Sys2Proof/Machine/Scn.lean ====
section
/-!
DEFINITION. Tile scan-out and correction (R281 to R300): fronds into the pixel buffers, the capture of a frame's
configuration, holds, lamp codes with compensation, the end of a frame with K_EE and E_PRED, and the load engine.
-/

namespace Sys2Proof.Machine

/-! ### Layout (R281, R290, R295) -/

/-- Pixel buffer of frame `m`. -/
def pixelBase (m : Nat) : Nat := 0x100000 * (m % 2)
/-- Code buffer of frame `m`. -/
def codeBase (m : Nat) : Nat := 0x200000 + 0x100000 * (m % 2)
/-- Lamp state words. -/
def lampBase : Nat := 0x400000
/-- Map bank `k`. -/
def mapBase (k : Nat) : Nat := 0x600000 + 0x200000 * k
/-- Coefficient bank `k`. -/
def coefBase (k : Nat) : Nat := 0xA00000 + 0x400000 * k
/-- Lamps of the module: 96 strings of 3,072. -/
def lampCount : Nat := 294912
/-- Bytes of a code buffer in use. -/
def codeBytes : Nat := 2 * lampCount

/-- The value of an OLF16 code in units of 2^-25 (R222). -/
def olf (c : Nat) : Nat :=
  let e := c / 2048 % 32
  let f := c % 2048
  if e = 0 then f else (2048 + f) * 2 ^ (e - 1)

/-- Are SCN and COR at work: a role that uses them, with their clocks running (R23, R429)? -/
def Block.scnOn (b : Block) : Bool := b.drives && b.pipes

/-- The slot size in force. -/
def Block.slotW (b : Block) : Nat := b.act F.SCN_SLOT_SIZE_W
def Block.slotH (b : Block) : Nat := b.act F.SCN_SLOT_SIZE_H

/-- A little-endian number in QDR, 0 where the read is uncorrectable (R365). -/
def Block.qdrSafe (b : Block) (a n : Nat) : Nat := if b.qdrLost a n then 0 else b.qdrNat a n

/-! ### Table checks (R291, R292, R295) -/

/-- Do a slot's width and height meet R292? -/
def slotSizeOk (w h : Nat) : Bool :=
  w % 8 == 0 && decide (8 ≤ w) && decide (w ≤ 2048) && h % 16 == 0 && decide (16 ≤ h) && decide (h ≤ 1024)
    && decide (w * h ≤ 98304)

/-- Does a list hold no value twice? -/
def noRepeat : List Nat → Bool
  | [] => true
  | x :: r => !r.contains x && noRepeat r

/-- The global lamp index a map entry names, if it is VALID (R290). -/
def entryLamp (e : Nat) : Option Nat :=
  if bitOf e 31 then some ((e % 128) * 3072 + (e / 2 ^ 8 % 64) * 48 + e / 2 ^ 16 % 64) else none

/-- Is a map entry well formed: reserved bits 0, STRING at most 95, CHANNEL at most 47 (R291)? -/
def entryOk (e : Nat) : Bool :=
  e / 2 ^ 22 % 2 ^ 9 == 0 && e / 2 ^ 14 % 4 == 0 && e / 2 ^ 7 % 2 == 0
    && (!bitOf e 31 || (decide (e % 128 ≤ 95) && decide (e / 2 ^ 16 % 64 ≤ 47)))

/-- The common header check of the two tables: sizes, COUNT, CHECK and the reserved bytes. -/
def Block.headerOk (b : Block) (base count size : Nat) : Bool :=
  slotSizeOk (b.qdrNat base 2) (b.qdrNat (base + 2) 2) && b.qdrNat (base + 4) 4 == count
    && b.qdrNat (base + 8) 4 == crc32c (b.qdrBytes (base + 64) (count * size))
    && b.qdrNat (base + 12) 52 == 0

/-- The load check of map bank `k` (R291). -/
def Block.mapOk (b : Block) (k : Nat) : Bool :=
  let n := 3 * b.qdrNat (mapBase k) 2 * b.qdrNat (mapBase k + 2) 2
  if 294912 < n then false
  else
    let es := (List.range n).map (fun i => b.qdrNat (mapBase k + 64 + 4 * i) 4)
    b.headerOk (mapBase k) n 4 && es.all entryOk && noRepeat (es.filterMap entryLamp)

/-- The load check of coefficient bank `k` (R295). -/
def Block.coefOk (b : Block) (k : Nat) : Bool :=
  let n := b.qdrNat (coefBase k) 2 * b.qdrNat (coefBase k + 2) 2
  if 98304 < n then false
  else b.headerOk (coefBase k) n 32 && (List.range n).all (fun i => b.qdrNat (coefBase k + 64 + 32 * i + 24) 8 == 0)

/-- Run a bank's load check and show its result (R291, R295): table 0x2000 or 0x2100. -/
def Block.bankCheck (b : Block) (table k : Nat) : Bool × Block :=
  if table = 0x2000 then
    let ok := b.mapOk k
    let b := (b.set (F.SCN_MAP_BANKb_STATUS_W k) (b.qdrNat (mapBase k) 2)).set (F.SCN_MAP_BANKb_STATUS_H k) (b.qdrNat (mapBase k + 2) 2)
    (ok, b.setBit (F.SCN_MAP_BANKb_STATUS_VALID k) ok)
  else
    let ok := b.coefOk k
    let b := (b.set (F.COR_COEF_BANKb_STATUS_W k) (b.qdrNat (coefBase k) 2)).set (F.COR_COEF_BANKb_STATUS_H k) (b.qdrNat (coefBase k + 2) 2)
    (ok, b.setBit (F.COR_COEF_BANKb_STATUS_VALID k) ok)

/-! ### Codes (R293, R294) -/

/-- The lamp of colour `k` of pixel (x, y) under a capture; an unreadable entry is not VALID (R365). -/
def Block.lampOf (b : Block) (c : Capture) (x y k : Nat) : Option Nat :=
  entryLamp (b.qdrSafe (mapBase c.mapBank + 64 + 4 * (3 * (y * c.w + x) + k)) 4)

/-- Is the lamp of colour `k` of pixel (x, y) there and failed in the snapshot? -/
def Block.lampFailed (b : Block) (c : Capture) (x y k : Nat) : Bool :=
  match b.lampOf c x y k with
  | some l => c.failed.contains l
  | none => false

/-- The pixel's raw code of colour `k` in frame `m`, rounded once, halves up (R293). -/
def Block.rawCode (b : Block) (c : Capture) (m x y k : Nat) : Nat :=
  let rec0 := coefBase c.coefBank + 64 + 32 * (y * c.w + x)
  let px := pixelBase m + 6 * (y * c.w + x)
  let lost := b.qdrLost rec0 32
  let coef (j : Nat) : Int := if lost then 0 else signed 16 (b.qdrNat (rec0 + 2 * (3 * k + j)) 2)
  let v (j : Nat) : Int := if b.qdrLost px 6 then 0 else olf (b.qdrNat (px + 2 * j) 2)
  let s := 8 * (coef 0 * v 0 + coef 1 * v 1 + coef 2 * v 2)
  let p : Int := olf c.peak
  (max 0 (min 65535 ((2 * s + p) / (2 * p)))).toNat

/-- The neighbours of a pixel inside the slot. -/
def neighbours (c : Capture) (x y : Nat) : List (Nat × Nat) :=
  (if 0 < x then [(x - 1, y)] else []) ++ (if x + 1 < c.w then [(x + 1, y)] else [])
    ++ (if 0 < y then [(x, y - 1)] else []) ++ (if y + 1 < c.h then [(x, y + 1)] else [])

/-- The eligible neighbours of a failed lamp (R294). -/
def Block.eligible (b : Block) (c : Capture) (x y k : Nat) : List (Nat × Nat) :=
  (neighbours c x y).filter (fun q => (b.lampOf c q.1 q.2 k).isSome && !b.lampFailed c q.1 q.2 k)

/-- The sum of the contributions to a lamp from failed neighbours in bands that are corrected (R294). -/
def Block.contribution (b : Block) (c : Capture) (m x y k : Nat) : Nat :=
  if !c.comp then 0
  else (((neighbours c x y).filter (fun q => b.lampFailed c q.1 q.2 k && b.scn.corrected.contains (q.2 / 16))).map
    (fun q => roundDiv (b.rawCode c m q.1 q.2 k * c.gain) (128 * (b.eligible c q.1 q.2 k).length))).sum

/-- The final code of a lamp that is not failed before its clamp, and clamped (R293). -/
def Block.fullCode (b : Block) (c : Capture) (m x y k : Nat) : Int :=
  let v := b.rawCode c m x y k + b.contribution c m x y k
  let rec0 := coefBase c.coefBank + 64 + 32 * (y * c.w + x)
  if v = 0 then 0 else v + (if b.qdrLost rec0 32 then 0 else signed 16 (b.qdrNat (rec0 + 18 + 2 * k) 2))

/-- Write the code of one lamp; one that the final clamp limits is counted (R293). -/
def Block.writeCode (b : Block) (c : Capture) (m x y k : Nat) : Block :=
  match b.lampOf c x y k with
  | none => b
  | some l =>
    if c.failed.contains l then b.writeQdr (codeBase m + 2 * l) (leBytes 2 0)
    else
      let v := b.fullCode c m x y k
      let b := if 65535 < v then b.countSat (F.COR_CNT_Ei 0) 1 else b
      b.writeQdr (codeBase m + 2 * l) (leBytes 2 (max 0 (min 65535 v)).toNat)

/-- The failed lamps of a row of pixels under a capture, and whether each spreads its code (R294). -/
def Block.spreads (b : Block) (c : Capture) (y : Nat) : List Bool :=
  (List.range (3 * c.w)).filterMap (fun i =>
    if c.comp && b.lampFailed c (i / 3) y (i % 3) then some (!(b.eligible c (i / 3) y (i % 3)).isEmpty) else none)

/-- The failed lamps of band `k` are counted as its codes are written: those that spread their code, and those that cannot (R294). -/
def Block.countSpread (b : Block) (c : Capture) (k : Nat) : Block :=
  let l := ((List.range 16).map (fun j => b.spreads c (16 * k + j))).flatten
  (b.countSat (F.COR_CNT_Ei 1) (l.filter id).length).countSat (F.COR_CNT_Ei 2) (l.filter (!·)).length

/-- The codes of the pixels of rows `y0` to `y0 + n - 1`. -/
def Block.writeRows (b : Block) (c : Capture) (m y0 n : Nat) : Block :=
  b.each (List.range (n * c.w)) (fun i b =>
    b.each [0, 1, 2] (fun k b => b.writeCode c m (i % c.w) (y0 + i / c.w) k))

/-- The capture that governs frame `m`, if there is one (R289). -/
def Block.capFor (b : Block) (m : Nat) : Option Capture :=
  let next := match b.frm.next with | some p => p.wfn | none => b.frm.cur.wfn + 1
  b.scn.cap.filter (fun c => c.start == b.frm.cur.wfn && m == next)

/-- COR corrects band `k` of frame `m` and every contribution across its boundaries (R294, R297). -/
def Block.correct (b : Block) (m k : Nat) : Block :=
  match b.capFor m with
  | none => b
  | some c =>
    let b := { b with scn.corrected := b.scn.corrected.filter (· != k) ++ [k] }
    if !c.usable then b
    else
      let b := (b.writeRows c m (16 * k) 16).countSpread c k
      let b := if 0 < k ∧ b.scn.corrected.contains (k - 1) then b.writeRows c m (16 * k - 1) 1 else b
      if b.scn.corrected.contains (k + 1) then b.writeRows c m (16 * k + 16) 1 else b

/-! ### Fronds and bands (R283 to R287) -/

/-- Address and length of band `k`'s rows in the pixel buffer of frame `m`. -/
def Block.bandAt (b : Block) (m k : Nat) : Nat × Nat := (pixelBase m + 96 * b.slotW * k, 96 * b.slotW)

/-- Band `k` of frame `m` is held (R287): it takes the rows of frame m - 1, which are black before RUN (R116). -/
def Block.holdBand (b : Block) (m k : Nat) : Block :=
  let (a, n) := b.bandAt m k
  let old := b.qdrBytes (b.bandAt (m + 1) k).1 n
  let b := if b.stage = stageRun then b.writeQdr a old else b.clearQdr a n
  ((b.countSat (F.SCN_CNT_Ei 4) 1).raise E.SCN_BAND_HELD).correct m k

/-- A spoiled band shows zero pixels (R285). -/
def Block.spoilBand (b : Block) (m k : Nat) : Block :=
  let (a, n) := b.bandAt m k
  ((b.clearQdr a n).countSat (F.SCN_CNT_Ei 4) 1).correct m k

/-- Has band `k` of frame `m` been received? -/
def Block.received (b : Block) (m k : Nat) : Bool := b.scn.back.any (fun x => x.wfn == m && x.band == k)

/-- The received-band mask of frame `m`. -/
def Block.bandMask (b : Block) (m : Nat) : Nat :=
  ((b.scn.back.filter (·.wfn == m)).map (fun x => 2 ^ x.band)).sum

/-- A frond of frame f + 1 closes band `k` of frame f (R285, R287). -/
def Block.closeEarly (b : Block) (f k : Nat) : Block :=
  if b.scn.early.contains k then b
  else
    let got := b.received f k
    let spoiled := b.scn.spoiled.contains k
    let b := if got then b else if spoiled then b.spoilBand f k else b.holdBand f k
    { b with scn := { b.scn with early := b.scn.early ++ [k], heldEarly := b.scn.heldEarly || !got
                                 spoiled := b.scn.spoiled.filter (· != k) } }

/-- The node that sits in slot `s` (R108). -/
def Block.nodeOfSlot (b : Block) (s : Nat) : Nat := ((b.cfg.topo.map (·.slotNode)).getD []).getD s 0

/-- A frond passes its checks and is written (R285). -/
def Block.acceptFrond (b : Block) (f : Frond) : Block :=
  let o := b.openFrame
  let b := if f.wfn = o + 1 then b.closeEarly o f.band else b
  let again := b.scn.back.any (fun x => x.wfn == f.wfn && x.band == f.band && x.epoch == f.epoch)
  let b := b.writeQdr (b.bandAt f.wfn f.band).1 ((f.pixels.map (fun p => leBytes 6 p.toNat)).flatten)
  let b := { b with scn := { b.scn with
    back := b.scn.back.filter (fun x : BackBand => !(x.wfn == f.wfn && x.band == f.band))
      ++ [BackBand.mk f.wfn f.band f.epoch]
    spoiled := if f.wfn = o then b.scn.spoiled.filter (· != f.band) else b.scn.spoiled } }
  let b := if again then b.countSat (F.SCN_CNT_Ei 5) 1 else b
  let b := (b.countPair (F.SCN_CNT_Ti_LO 0) (F.SCN_CNT_Ti_HI 0) 1).set F.SCN_LAST_SCALE_SCALE f.scale
  b.correct f.wfn f.band

/-- Is frame `m` one whose header leaves out the module's slot, as far as it has come (R253; DEDUCED, log entry 74)? -/
def Block.maskedOut (b : Block) (m : Nat) : Bool :=
  b.lnk.headers.any (fun h : FrameHeader => h.wfn == m && !bitOf h.slotMask b.slotNumber)

/-- A frond for the module's slot is checked (R283, R284); one for a frame that the module is masked out of is ignored (R253). -/
def Block.scnFrond (b : Block) (f : Frond) : Block :=
  let o := b.openFrame
  if !b.scnOn || !b.bit F.LNK_CHAIN_STATUS_SLOT_VALID || f.slot != b.slotNumber || b.maskedOut f.wfn then b
  else if !f.crcOk then (b.countSat (F.SCN_CNT_Ei 0) 1).raise E.SCN_CRC
  else if f.chainId ≠ b.chainId ∨ f.w ≠ b.slotW ∨ b.slotH / 16 ≤ f.band ∨ !f.zeros then
    (b.countSat (F.SCN_CNT_Ei 1) 1).raise E.SCN_GEOM
  else if f.epoch < b.epoch then b.stale (b.nodeOfSlot f.sender)
  else if b.epoch < f.epoch then (b.countSat (F.LNK_CNT_Ei 2) 1).raise E.LNK_EPOCH_AHEAD
  else if f.wfn < o ∨ f.wfn = o ∧ b.scn.early.contains f.band then
    (b.countSat (F.SCN_CNT_Ei 2) 1).raise E.SCN_LATE
  else if o + 1 < f.wfn then (b.countSat (F.SCN_CNT_Ei 3) 1).raise E.SCN_EARLY
  else b.acceptFrond f

/-- What channel V of Lysrov port `p` brings: relayed, or a frond for the module's slot, taken by SCN (R248, R284). -/
def frondArrive (p : Nat) (x : VFrame) (bad : List Nat) (b : Block) : Block :=
  let own := decide (p < 2) && b.carries p && b.bit F.LNK_CHAIN_STATUS_SLOT_VALID
  let b := vArrive p x bad b
  match x with
  | .frond f =>
    b.when (own && f.slot == b.slotNumber && !bad.contains 0) (·.scnFrond { f.zeroed bad with crcOk := f.crcOk && bad.isEmpty })
  | _ => b

/-! ### Frames (R282, R287 to R289, R298, R299) -/

/-- SCN and COR start afresh (R282): buffers cleared, no frame captured. -/
def Block.scnRestart (b : Block) : Block :=
  let b := (b.clearQdr 0 0x200000).clearQdr 0x200000 0x200000
  let b := { b with scn := { b.scn with
    back := [], early := [], heldEarly := false, spoiled := [], cap := none, corrected := [], settle := none } }
  (b.set F.SCN_STATUS_SETTLING 0).set F.COR_STATUS_CORRECTING 0

/-- The lamps whose state word has FAILED set (R326). -/
def Block.failedLamps (b : Block) : List Nat :=
  (b.qdr.filter (fun c => decide (lampBase ≤ c.1) && decide (c.1 < lampBase + 4 * lampCount) && c.1 % 4 == 3
    && decide (128 ≤ c.2.toNat))).map (fun c => (c.1 - lampBase) / 4)

/-- COR captures for the frame after `n` (R289). -/
def Block.capture (b : Block) (n : Nat) : Capture where
  start := n
  w := b.slotW
  h := b.slotH
  mapBank := b.act F.SCN_MAP_SEL_BANK
  coefBank := b.act F.COR_TBL_SEL_COEF_BANK
  usable := b.bit (F.SCN_MAP_BANKb_STATUS_VALID (b.act F.SCN_MAP_SEL_BANK))
    && b.bit (F.COR_COEF_BANKb_STATUS_VALID (b.act F.COR_TBL_SEL_COEF_BANK))
  comp := b.actBit F.COR_CTRL_COMP_EN
  gain := b.act F.COR_CTRL_COMP_GAIN
  ee := b.actBit F.COR_CTRL_EE_EN
  peak := b.act F.COR_PEAK_PEAK
  currents := (List.range 288).map (fun i => b.act (F.COR_STRn_Ik_I (i / 3) (i % 3)))
  failed := b.failedLamps

/-- An uncorrectable QDR read at `a` (R364). -/
def Block.qdrUe (b : Block) (a : Nat) : Block :=
  ((b.countSat (F.QDR_CNT_Ei 1) 1).set F.QDR_UE_ADDR_ADDR a).raiseAt E.QDR_UE a

/-- A selected bank with an uncorrectable word reports it in every frame until it is reloaded (R365). -/
def Block.tableErrors (b : Block) (c : Capture) : Block :=
  let inBank (a : Nat) := decide (mapBase c.mapBank ≤ a) && decide (a < mapBase c.mapBank + 0x200000)
    || decide (coefBase c.coefBank ≤ a) && decide (a < coefBase c.coefBank + 0x400000)
  match b.qdrBad.find? inBank with
  | some a => (b.qdrUe a).raiseAt E.QDR_TABLE_UE a
  | none => b

/-- A list of numbers in rising order. -/
def sortNat (l : List Nat) : List Nat :=
  l.foldr (fun x acc => (acc.takeWhile (decide <| · < x)) ++ x :: acc.dropWhile (decide <| · < x)) []

/-- SCN and COR at FS_own(n), after the installs of step 3 (R282, R289). -/
def Block.scnStart (b : Block) (n : Nat) (resized : Bool) : Block :=
  if !b.scnOn then b
  else
    let b := b.set F.SCN_STATUS_SHOWN (n % 2)
    let b := if resized then { b with scn := { b.scn with
      back := b.scn.back.filter (fun x : BackBand => x.wfn != n + 1), early := [], spoiled := [] } } else b
    let c := b.capture n
    let b := { b with scn := { b.scn with cap := some c, corrected := [] } }
    let b := if c.usable then b.tableErrors c else b.clearQdr (codeBase (n + 1)) codeBytes
    let ready := ((b.scn.back.filter (·.wfn == n + 1)).map (·.band)) ++ b.scn.early
    b.each (sortNat ready) (fun k b => b.correct (n + 1) k)

/-- Codes by pixel and colour under a capture: (x, y, k) of every entry with a lamp. -/
def Block.litEntries (b : Block) (c : Capture) : List (Nat × Nat × Nat × Nat) :=
  (List.range (3 * c.w * c.h)).filterMap (fun i =>
    let k := i % 3; let x := i / 3 % c.w; let y := i / 3 / c.w
    (b.lampOf c x y k).map (fun l => (x, y, k, l)))

/-- E_PRED of frame `m` (R299): `kee` in Q16, `e` the emission length in units of 2^-16 ns. -/
def Block.ePred (b : Block) (c : Capture) (m kee e : Nat) : Nat :=
  let total := ((b.litEntries c).map (fun q =>
    let (_, _, k, l) := q
    b.get (F.STR_STRn_RAIL_STATUS_SET_MV (l / 3072)) * c.currents.getD (3 * (l / 3072) + k) 0
      * b.qdrNat (codeBase m + 2 * l) 2)).sum
  min 0xFFFFFFFF (ceilDiv (16 * kee * e * total) (2 ^ 16 * 2 ^ 16 * 10 ^ 12 * 2 ^ 20 * 2 ^ 16))

/-- K_EE of frame `m` in Q16 (R298). -/
def Block.keeOf (b : Block) (m : Nat) (ee : Bool) : Nat :=
  match b.frm.next with
  | some p =>
    if ee && p.wfn == m && m == b.frm.cur.wfn + 1 && decide (0 < b.tNom) then
      (min 0xFFFFFF (max 0 ((2 * (p.own - b.frm.cur.own) * 65536 + b.tNom) / (2 * b.tNom)))).toNat
    else 65536
  | none => 65536

/-- PIPE divisor D (R428). -/
def Block.pipeDiv (b : Block) : Nat := 2 ^ b.get F.THM_STATUS_DIV

/-- The frond deadline of frame `m` at SCN and COR (R287, R288): every open band closes, and the frame's result is
fixed. -/
def Block.scnDeadline (b : Block) (m : Nat) : Block :=
  if !b.scnOn then { b with scn := { b.scn with last := some m, early := [], spoiled := [], heldEarly := false } }
  else
    let isOpen (k : Nat) : Bool := !b.scn.early.contains k && !b.received m k
    let bands := (List.range (b.slotH / 16)).filter isOpen
    let b := b.each bands (fun k b => if b.scn.spoiled.contains k then b.spoilBand m k else b.holdBand m k)
    let cap := b.capFor m
    let b := match cap with
      | some c => if c.usable then b else b.clearQdr (codeBase m) codeBytes
      | none => b.clearQdr (codeBase m) codeBytes
    let kee := b.keeOf m (match cap with | some c => c.ee | none => false)
    let live := cap.filter (·.usable)
    let r : Settle := {
      wfn := m
      mask := b.bandMask m
      held := b.scn.heldEarly || !bands.isEmpty
      ePred := match live with | some c => b.ePred c m kee b.emitLen.toNat | none => 0
      kee := kee
      limit := b.stc + b.pipeDiv * (10000 + (3 * bands.length * 16 * b.slotW + 1) / 2) }
    let b := { b with scn := { b.scn with
      last := some m, early := [], spoiled := [], heldEarly := false, settle := some r
      back := b.scn.back.filter (fun x : BackBand => decide (m < x.wfn)) } }
    (b.set F.SCN_STATUS_SETTLING 1).set F.COR_STATUS_CORRECTING 1

/-- The end of settling at SCN and COR (R288): the frame's result is published. -/
def Block.scnSettled (b : Block) (r : Settle) : Block :=
  let b := ({ b with scn.settle := none }.set F.SCN_STATUS_SETTLING 0).set F.COR_STATUS_CORRECTING 0
  let b := b.setPair F.SCN_LAST_BANDS_LO_BANDS F.SCN_LAST_BANDS_HI_BANDS r.mask
  let b := (b.countPair (F.SCN_CNT_Ti_LO 1) (F.SCN_CNT_Ti_HI 1) 1).irq F.SCN_IRQ_STATUS_SETTLED
  let b := if r.held then b.irq F.SCN_IRQ_STATUS_HELD else b
  let b := (b.set F.COR_E_PRED_E r.ePred).setPair F.COR_PRED_WFN_LO_WFN F.COR_PRED_WFN_HI_WFN r.wfn
  (b.set F.COR_KEE_K r.kee).irq F.COR_IRQ_STATUS_PRED

/-! ### The load engine (R300) -/

/-- The banks of a table that its group's active value or a stage of it selects. -/
def Block.selectedBanks (b : Block) (table : Nat) : List Nat :=
  let f := if table = 0x2000 then F.SCN_MAP_SEL_BANK else F.COR_TBL_SEL_COEF_BANK
  let g := if table = 0x2000 then 0x30 else 0x32
  b.act f :: (b.cfg.stages.filter (·.group == g)).map (fun s => f.of (cellsGet s.snap f.addr (keyReset f.addr)).toNat)

/-- Mark a bank BUSY or not. -/
def Block.bankBusy (b : Block) (table k : Nat) (v : Bool) : Block :=
  b.setBit (if table = 0x2000 then F.SCN_MAP_BANKb_STATUS_BUSY k else F.COR_COEF_BANKb_STATUS_BUSY k) v

/-- A bank is not VALID. -/
def Block.bankInvalid (b : Block) (table k : Nat) : Block :=
  b.set (if table = 0x2000 then F.SCN_MAP_BANKb_STATUS_VALID k else F.COR_COEF_BANKb_STATUS_VALID k) 0

/-- The source range of a load. -/
def Block.loadSpan (b : Block) : Span :=
  ⟨b.pair F.COR_LOAD_SRC_LO_ADDR F.COR_LOAD_SRC_HI_ADDR, b.get F.COR_LOAD_LEN_BYTES⟩

/-- A load ends: the engine is free again. -/
def Block.loadEnd (b : Block) (table st : Nat) : Block :=
  let b := { b with scn.load := none }.bankBusy table (b.get F.COR_LOAD_STATUS_BANK) false
  (b.set F.COR_STATUS_LOADING 0).set F.COR_LOAD_STATUS_STATE st

/-- ABORT while BUSY: the copy stops, the bank stays not VALID (R300). -/
def corLoadAbort (b : Block) : Block :=
  match b.scn.load with
  | some table => b.loadEnd table 0
  | none => b

/-- A refused load (R300). -/
def Block.loadRefused (b : Block) : Block :=
  ((b.set F.COR_LOAD_STATUS_CODE 0x2102).countSat (F.COR_CNT_Ei 3) 1).raise E.COR_LOAD_BUSY

/-- START (R300): the load begins in the bank that nothing selects, or is refused. -/
def corLoadStart (table : Nat) (b : Block) : Block :=
  let sel := b.selectedBanks table
  let pr := b.get F.CFG_PR_STATUS_STATE
  let src := b.loadSpan
  let bank := if sel.contains 0 then 1 else 0
  if sel.contains bank ∨ b.scn.load.isSome ∨ pr = 1 ∨ pr = 2 ∨ pr = 3 ∨ src.base % 64 ≠ 0 ∨ !b.inDram src then
    b.loadRefused
  else
    let b := (b.bankBusy table bank true).bankInvalid table bank
    let b := { b with scn.load := some table }.set F.COR_STATUS_LOADING 1
    (b.set F.COR_LOAD_STATUS_STATE 1).set F.COR_LOAD_STATUS_BANK bank

/-- A write of COR_LOAD_CMD (R300). -/
def corLoadCmd (v : Nat) (b : Block) : Block :=
  let table := F.COR_LOAD_CMD_TABLE.of v
  if !b.scnOn then b
  else if F.COR_LOAD_CMD_ABORT.of v = 1 then corLoadAbort b
  else if F.COR_LOAD_CMD_START.of v = 1 ∧ (table = 0x2000 ∨ table = 0x2100) then corLoadStart table b
  else b

/-- COR_LOAD_DONE (R300): the copy and the check end; `poisoned` tells a source read returned poisoned (R361). -/
def corLoadDone (poisoned : Bool) (b : Block) : Block :=
  match b.scn.load with
  | none => b
  | some table =>
    let k := b.get F.COR_LOAD_STATUS_BANK
    let src := b.loadSpan
    let room := if table = 0x2000 then 0x200000 else 0x400000
    let b := (b.dramUse 4 src.base src.len).writeQdr (if table = 0x2000 then mapBase k else coefBase k) (b.dramBytes src.base (min src.len room))
    let (ok, b) := b.bankCheck table k
    let b := b.irq F.COR_IRQ_STATUS_LOAD_DONE
    if ok && !poisoned then b.loadEnd table 2
    else
      let b := (b.loadEnd table 3).bankInvalid table k
      let code := if poisoned then 0x2803 else if table = 0x2000 then 0x2010 else 0x2110
      (b.set F.COR_LOAD_STATUS_CODE code).raise E.COR_LOAD_FAIL

/-! ### Meanings -/

/-- FROND_RELAY. -/
def execFrondRelay (p : Nat) (x : VFrame) (bad : List Nat) (s : State) : Host.Outcome State Fault Refusal :=
  s.done (frondArrive p x bad s.blk)
/-- FROND_RECEIVE. -/
def execFrondReceive (p : Nat) (f : Frond) (bad : List Nat) (s : State) : Host.Outcome State Fault Refusal :=
  s.done (frondArrive p (.frond f) bad s.blk)
/-- COR_LOAD_START. -/
def execCorLoadStart (_p : Path) (v : Word) (s : State) : Host.Outcome State Fault Refusal :=
  s.done (s.blk.writing R.COR_LOAD_CMD (corLoadCmd v.toNat))
/-- COR_LOAD_ABORT. -/
def execCorLoadAbort (_p : Path) (v : Word) (s : State) : Host.Outcome State Fault Refusal :=
  s.done (s.blk.writing R.COR_LOAD_CMD (corLoadCmd v.toNat))
/-- COR_LOAD_DONE. -/
def execCorLoadDone (poisoned : Bool) (s : State) : Host.Outcome State Fault Refusal := s.done (corLoadDone poisoned s.blk)

end Sys2Proof.Machine
end

