-- ==== Sys2Proof/Machine/Str.lean ====
section
/-!
DEFINITION. String drive (R305 to R332): lamp state words, string states and faults, LOAD and the diagnostic cycle on
each wire, reports, rails, and the START of a frame. Wire times count cells of 20 ns.
-/

namespace Sys2Proof.Machine

def strOff : Nat := 0
def strRamp : Nat := 1
def strEnum : Nat := 2
def strRun : Nat := 3
def strFault : Nat := 4
def strLockout : Nat := 5

/-! ### Lamp state words (R326) -/

/-- A lamp's state word by its fields. -/
structure Lamp where
  failed : Bool
  unmeasured : Bool
  leaky : Bool
  cause : Nat
  opens : Nat
  shorts : Nat
  leakSeen : Bool
  probed : Bool
  low : Nat
  zero : Nat
  deriving DecidableEq, Repr

/-- The fields of a state word. -/
def lampOfWord (w : Nat) : Lamp where
  failed := bitOf w 31
  unmeasured := bitOf w 30
  leaky := bitOf w 29
  cause := w / 2 ^ 27 % 4
  opens := w / 2 ^ 25 % 4
  shorts := w / 2 ^ 23 % 4
  leakSeen := bitOf w 22
  probed := bitOf w 21
  low := w / 2 ^ 14 % 128
  zero := w % 4096

/-- The state word of its fields. -/
def Lamp.word (l : Lamp) : Nat :=
  l.zero + 2 ^ 14 * l.low + 2 ^ 21 * flagBits [l.probed, l.leakSeen] + 2 ^ 23 * l.shorts + 2 ^ 25 * l.opens
    + 2 ^ 27 * l.cause + 2 ^ 29 * flagBits [l.leaky, l.unmeasured, l.failed]

/-- The state of the lamp with global index `g`. -/
def Block.lamp (b : Block) (g : Nat) : Lamp := lampOfWord (b.qdrNat (lampBase + 4 * g) 4)

/-- Write the state of a lamp. -/
def Block.setLamp (b : Block) (g : Nat) (l : Lamp) : Block := b.writeQdr (lampBase + 4 * g) (leBytes 4 l.word)

/-- A condition makes a lamp fail; CAUSE keeps the condition that set FAILED (R327). -/
def Lamp.fail (l : Lamp) (cause : Nat) : Lamp := if l.failed then l else { l with failed := true, cause := cause }

/-- An open result (R327). -/
def Lamp.openResult (l : Lamp) (v : Bool) : Lamp :=
  if v then
    let l := { l with opens := min 2 (l.opens + 1) }
    if l.opens = 2 then l.fail 1 else l
  else { l with opens := 0 }

/-- A short result (R327). -/
def Lamp.shortResult (l : Lamp) (v : Bool) : Lamp :=
  if v then
    let l := { l with shorts := min 2 (l.shorts + 1) }
    if l.shorts = 2 then l.fail 2 else l
  else { l with shorts := 0 }

/-- A leakage scan's result (R327). -/
def Lamp.leakResult (l : Lamp) (v leakFail : Bool) : Lamp :=
  if v then
    let l := if l.leakSeen then (if leakFail then { l with leaky := true }.fail 3 else { l with leaky := true }) else l
    { l with leakSeen := true }
  else { l with leakSeen := false }

/-- What a valid report does to one lamp (R327): probed in the guard or not, its MEAS, OPEN and SHORT bits. -/
def Lamp.report (l : Lamp) (probed meas isOpen isShort : Bool) : Lamp :=
  if probed then l.openResult isOpen
  else if meas then ({ l with low := 0, unmeasured := false }.openResult isOpen).shortResult isShort
  else
    let l := { l with low := min 64 (l.low + 1) }
    if l.low = 64 then { l with unmeasured := true } else l

/-! ### Strings -/

/-- String `s` beside its registers. -/
def Block.strand (b : Block) (s : Nat) : Strand := b.str.strings.getD s Strand.reset

/-- Change string `s`. -/
def Block.onStr (b : Block) (s : Nat) (f : Strand → Strand) : Block := { b with str.strings := b.str.strings.modify s f }

/-- All strings. -/
def strings : List Nat := List.range 96

/-- STATE of string `s`. -/
def Block.strState (b : Block) (s : Nat) : Nat := b.get (F.STR_STRn_STATUS_STATE s)

/-- A string changes STATE (R323, R333). -/
def Block.setStr (b : Block) (s st : Nat) : Block :=
  if b.strState s = st then b else (b.set (F.STR_STRn_STATUS_STATE s) st).irq F.STR_IRQ_STATUS_STATE_CHANGE

/-- Is STR at work? -/
def Block.strOn (b : Block) : Bool := b.drives && b.pipes

/-- Drivers of string `s`. -/
def Block.drivers (b : Block) (s : Nat) : Nat := b.act (F.STR_STRn_CFG_DRIVERS s)

/-- Is channel `ch` of string `s` fitted? -/
def Block.fitted (b : Block) (s ch : Nat) : Bool :=
  bitOf (b.actPair (F.STR_STRn_CHMASK_LO_MASK s) (F.STR_STRn_CHMASK_HI_MASK s)) ch

/-- Is the return of string `s` in use? -/
def Block.retEn (b : Block) (s : Nat) : Bool := b.actBit (F.STR_STRn_CFG_RET_EN s)

/-- FIXED_MV of string `s`. -/
def Block.fixedMv (b : Block) (s : Nat) : Nat := b.act (F.STR_STRn_RAIL_FIXED_MV s)

/-- Set the rail setpoint of string `s`; the rail moves at 1 V/ms (R48, R334). -/
def Block.setRail (b : Block) (s mv : Nat) : Block :=
  let old := b.get (F.STR_STRn_RAIL_STATUS_SET_MV s)
  if old = mv then b
  else (b.set (F.STR_STRn_RAIL_STATUS_SET_MV s) mv).onStr s (fun q => { q with slewEnd := b.clk + 1000 * ((mv - old) + (old - mv)) })

/-- The counts of a string's failed and unmeasured lamps and the module's total (R333). -/
def Block.lampCounts (b : Block) (s : Nat) : Block :=
  let lo := lampBase + 4 * 3072 * s
  let top := (b.qdr.filter (fun c => decide (lo ≤ c.1) && decide (c.1 < lo + 12288) && c.1 % 4 == 3)).map (·.2.toNat)
  let b := b.set (F.STR_STRn_LAMPS_FAILED s) (top.filter (decide <| 128 ≤ ·)).length
  let b := b.set (F.STR_STRn_LAMPS_UNMEASURED s) (top.filter (fun v => decide (64 ≤ v % 128))).length
  b.set F.STR_FAILED_TOTAL_COUNT b.failedLamps.length

/-- The wire of string `s` rests: whatever ran on it ends. -/
def Block.strRest (b : Block) (s : Nat) : Block :=
  b.onStr s (fun q => { q with cycle := .rest, probes := [], probed := [], charged := [], codes := [], collectAt := none })

/-- A string goes to a state with its rail off and CLW_OUT low (R323). -/
def Block.strDown (b : Block) (s st : Nat) : Block :=
  let b := ((b.setStr s st).setRail s 0).set (F.STR_STRn_STATUS_RET_OK s) 0
  (b.strRest s).onStr s (fun q => { q with due := none, fresh := false, lost := false, leakNext := none, leakNow := none })

/-- Every string goes to OFF (R323, R429, R440). -/
def Block.strAllOff (b : Block) : Block := { b.each strings (fun s b => b.strDown s strOff) with str.loading := none }

/-- A string goes to RAMP at FIXED_MV; its rail cannot have stood within 2 % of it for 1 ms earlier than R48's slew lets it
(R323). -/
def Block.strRampUp (b : Block) (s : Nat) : Block :=
  ((b.setStr s strRamp).setRail s (b.fixedMv s)).onStr s (fun q => { q with due := some (b.clk + 980 * b.fixedMv s + 1000000) })

/-- A packet leaves on CLW_OUT; its cells are counted (R309, R333). -/
def Block.clw (b : Block) (s cells : Nat) (p : ClwPacket) : Block :=
  (b.countPair (F.STR_CNT_Ti_LO 1) (F.STR_CNT_Ti_HI 1) cells).emit (.clw s p)

/-- The outbound delay of string `s` in 0.25 ns units (R316): half of a time that LOOP gives in 0.5 ns. -/
def Block.tOut (b : Block) (s : Nat) : Nat :=
  match b.retEn s, (b.strand s).loop with
  | true, some l => l - 80 * b.drivers s
  | _, _ => 2 * b.act (F.STR_STRn_DELAY_OUT_HNS s)

/-- The grid time at which START of a frame at `own` is due at the contact with FINE = 0 and an outbound delay of `q` quarter
nanoseconds (R305, R316). -/
def launchTime (own : Int) (q : Nat) : Int := own - q16 5080 - 16384 * (q : Int)

/-- STC at which START of the frame that is fixed leaves on string `s`, whole nanoseconds (R316). -/
def Block.launchAt (b : Block) (s : Nat) (own : Int) : Nat := nsOf (launchTime own (b.tOut s))

/-- The probe charge q (R331). -/
def Block.probeCharge (b : Block) : Nat := roundDiv (1200 * 65536 * 65536) (max 1 b.emitLen.toNat)

/-! ### LOAD (R318, R330, R331) -/

/-- The code of lamp `i` of string `s` after K_EE, as LOAD of frame `m` reads it. -/
def Block.loadCode (b : Block) (m s i : Nat) : Nat :=
  if b.fitted s (i % 48) then min 65535 (roundDiv (b.qdrSafe (codeBase m + 2 * (3072 * s + i)) 2 * b.str.kee) 65536) else 0

/-- One lamp of a LOAD: the code sent; in DIM the state words do not change (R330, R331, R439). -/
def Block.loadLamp (b : Block) (m s i : Nat) : Block :=
  let c := b.loadCode m s i
  let l := b.lamp (3072 * s + i)
  let sent := if l.probed then c - b.probeCharge else c
  let b := b.onStr s (fun q => { q with
    codes := q.codes ++ [sent], charged := if l.probed && b.fitted s (i % 48) then q.charged ++ [i] else q.charged })
  if !b.fitted s (i % 48) || b.pmState == pmDim then b
  else b.setLamp (3072 * s + i) { l with probed := false, zero := if sent = 0 then min 4095 (l.zero + 1) else 0 }

/-- The cells of CLW_OUT from STC `from'` on, less 8 before START of the frame that is fixed; none where no frame is fixed. -/
def Block.launchRoom (b : Block) (s from' : Nat) : Option Nat :=
  b.frm.next.map (fun p => (b.launchAt s p.own - from') / 20 - 8)

/-- LOAD of frame `m` starts on string `s` at STC `from'` (R305, R318): as many whole shares as end 8 cells before the launch,
and no packet where its header does not. -/
def Block.strLoad (b : Block) (m s from' : Nat) : Block :=
  let d := b.drivers s
  let cells := (b.launchRoom s from').getD (33 + 792 * d)
  let n := min d ((cells - 33) / 792)
  let b := b.onStr s (fun q => { q with
    cycle := .load, until' := from' + 20 * (33 + 792 * n), codes := [], charged := [], probes := [], probed := [] })
  let b := b.each (List.range (48 * n)) (fun i b => b.loadLamp m s i)
  let b := if cells < 33 then b.onStr s (fun q => { q with cycle := .rest })
    else b.clw s (33 + 792 * n) (.load (m % 256) (b.strand s).codes)
  let b := b.lampCounts s
  if n = d ∧ 33 ≤ cells then b
  else
    let b := if b.str.late then b else b.countSat (F.STR_CNT_Ei 0) 1
    { b with str.late := true }.raiseAt E.STR_LOAD_LATE s

/-- Settling of frame `m` has ended: LOAD starts on every string in RUN (R288, R305). -/
def Block.strSettled (b : Block) (m kee : Nat) : Block :=
  if !b.strOn then b
  else
    let b := { b with str := { b.str with loading := some m, late := false, kee := kee } }
    let b := b.set F.STR_STATUS_PROBE_Q b.probeCharge
    b.each (strings.filter (fun s => b.strState s == strRun)) (fun s b => b.strLoad m s b.stc)

/-! ### The diagnostic cycle (R305, R319, R329) -/

/-- Is lamp `i` of string `s` eligible for a probe (R329)? -/
def Block.eligibleProbe (b : Block) (s i : Nat) : Bool :=
  let l := b.lamp (3072 * s + i)
  let code := (b.strand s).codes[i]?
  !l.failed && !l.probed && b.fitted s (i % 48)
    && (match code with | some c => if c = 0 then l.zero == 4095 else l.unmeasured | none => false)

/-- Examine lamps from index `i`, `n` of them at most, until `room` are found: the lamps, and the index after the last
one examined. -/
def Block.probeScan (b : Block) (s size : Nat) : Nat → Nat → Nat → List Nat × Nat
  | 0, _, i => ([], i)
  | _ + 1, 0, i => ([], i)
  | n + 1, room + 1, i =>
    let next := if i + 1 < size then i + 1 else 0
    if b.eligibleProbe s i then
      let (l, j) := b.probeScan s size n room next
      (i :: l, j)
    else b.probeScan s size n (room + 1) next

/-- The lamps selected for the guard and the next r_s (R329). -/
def Block.selectProbes (b : Block) (s : Nat) : List Nat × Nat :=
  let size := 48 * b.drivers s
  let r := (b.strand s).rotor
  if !b.actBit F.STR_COMMON_CTRL_PROBE_EN || size == 0 then ([], r)
  else b.probeScan s size size (b.act F.STR_COMMON_CTRL_PROBE_MAX) (if r < size then r else 0)

/-- The largest number of lamps of one driver in a list. -/
def perDriver (l : List Nat) : Nat := ((l.map (fun i => (l.filter (fun j => j / 48 == i / 48)).length)).foldl max 0)

/-- ENUM leaves, if it can end 8 cells before the START launch (R305, R325); the wire then rests. -/
def Block.sendEnum (b : Block) (s from' : Nat) : Block :=
  let b := b.onStr s (fun q => { q with cycle := .rest })
  if 25 ≤ (b.launchRoom s from').getD 25 then b.clw s 25 .enum else b

/-- COLLECT leaves; CLW_OUT is reserved for its full length (R305). -/
def Block.sendCollect (b : Block) (s at' : Nat) : Block :=
  let b := b.onStr s (fun q => { q with
    cycle := .collect, until' := at' + 20 * (33 + 192 * b.drivers s), collectAt := some at', diagAt := some (q.diagAt.getD at') })
  b.clw s 33 (.collect (b.str.loading.getD 0 % 256))

/-- LOOP as last measured; before the first measurement the delay that t_out stands for (R316, R319). -/
def Block.loopHns (b : Block) (s : Nat) : Nat :=
  (b.strand s).loop.getD (80 * b.drivers s + 2 * b.act (F.STR_STRn_DELAY_OUT_HNS s))

/-- The STC by which the last report must have arrived (R305). -/
def Block.collectLimit (b : Block) : Nat :=
  match b.frm.next with
  | some p => nsOf p.own - 1000 * b.act F.STR_RAIL_LEAD_US
  | none => 2 ^ 64

/-- Does a COLLECT that leaves at `at'` return in time (R319)? -/
def Block.collectFits (b : Block) (s at' : Nat) : Bool :=
  decide (at' + (b.loopHns s + 1) / 2 + 20 * (33 + 192 * b.drivers s) ≤ b.collectLimit)

/-- When the first of PROBE and COLLECT leaves in the cycle that a LOAD ending at `t0` − 160 ns or the present CONTROL leads
to, as STR projects it; none where neither will leave (R319, R418). -/
def Block.diagProjected (b : Block) (s : Nat) : Option Nat :=
  let q := b.strand s
  match q.diagAt with
  | some t => some t
  | none =>
    let guard := nsOf b.frm.cur.guard
    if q.cycle = .control then
      some (if q.probes.isEmpty then q.until' + 160 else max (q.until' + 160) guard)
    else if q.cycle = .load ∧ b.retEn s ∧ b.actBit F.STR_COMMON_CTRL_DIAG_EN then
      let t0 := q.until' + 160
      let sel := (b.selectProbes s).1
      let ctlEnd := t0 + 20 * (33 + 72 * b.drivers s)
      let probeAt := max (ctlEnd + 160) guard
      if b.collectFits s (if sel.isEmpty then ctlEnd + 160 else probeAt + 4420 + 1600 * perDriver sel + 160) then
        some (if sel.isEmpty then ctlEnd + 160 else probeAt)
      else if b.collectFits s t0 then some t0 else none
    else none

/-- CLW_LOAD_DONE (R305, R319): after LOAD comes CONTROL, COLLECT alone, or ENUM. -/
def clwLoadDone (s : Nat) (b : Block) : Block :=
  if (b.strand s).cycle ≠ .load then b
  else
    let b := b.untilStc (b.strand s).until'
    let t0 := (b.strand s).until' + 160
    let n := b.str.loading.getD 0
    if !b.retEn s || !b.actBit F.STR_COMMON_CTRL_DIAG_EN || b.pmState == pmDim then b.sendEnum s t0
    else
      let (sel, next) := b.selectProbes s
      let ctlEnd := t0 + 20 * (33 + 72 * b.drivers s)
      let probeAt := max (ctlEnd + 160) (nsOf b.frm.cur.guard)
      let colAt := if sel.isEmpty then ctlEnd + 160 else probeAt + 4420 + 1600 * perDriver sel + 160
      if b.collectFits s colAt then
        let b := b.onStr s (fun q => { q with
          cycle := .control, until' := ctlEnd, probes := sel, examined := next, leakNext := some (n % 48) })
        b.clw s (33 + 72 * b.drivers s) (.control (n % 256) (b.drivers s) 1 (n % 48) sel)
      else
        let b := (b.countSat (F.STR_CNT_Ei 2) 1).raiseAt E.STR_DIAG_SKIPPED s
        if b.collectFits s t0 then b.sendCollect s t0 else b.sendEnum s t0

/-- CLW_CONTROL_DONE (R305, R329): PROBE once the guard has begun, or COLLECT when no lamp is probed. -/
def clwControlDone (s : Nat) (b : Block) : Block :=
  let q := b.strand s
  if q.cycle ≠ .control then b
  else
    let b := b.untilStc q.until'
    if q.probes.isEmpty then (b.onStr s (fun q => { q with rotor := q.examined })).sendCollect s (q.until' + 160)
    else
      let at' := max (q.until' + 160) (nsOf b.frm.cur.guard)
      let b := (b.untilStc at').clw s 25 (.probe (b.str.loading.getD 0 % 256))
      let b := b.each q.probes (fun i b =>
        b.setLamp (3072 * s + i) { b.lamp (3072 * s + i) with probed := true, zero := 0 })
      let b := b.countSat (F.STR_CNT_Ei 4) q.probes.length
      b.onStr s (fun q => { q with
        diagAt := some at', cycle := .probe, until' := at' + 4420 + 1600 * perDriver q.probes, probed := q.probes, rotor := q.examined })

/-- CLW_PROBE_DONE (R305): the probe window has passed and COLLECT is sent. -/
def clwProbeDone (s : Nat) (b : Block) : Block :=
  let q := b.strand s
  if q.cycle ≠ .probe then b else (b.untilStc q.until').sendCollect s (q.until' + 160)

/-- COLLECT_RESERVE_END (R305): ENUM follows. -/
def collectReserveEnd (s : Nat) (b : Block) : Block :=
  let q := b.strand s
  if q.cycle ≠ .collect then b else (b.untilStc q.until').sendEnum s (q.until' + 160)

/-! ### Reports (R321, R324, R327) -/

/-- A COLLECT brought a good report, or none (R324). -/
def Block.collected (b : Block) (s : Nat) (good : Bool) : Block :=
  let q := b.strand s
  if good then
    let ok := q.lost && decide (3 ≤ q.good + 1)
    let b := b.onStr s (fun q => { q with bad := 0, good := if q.lost && !ok then q.good + 1 else 0, lost := q.lost && !ok })
    if ok then b.set (F.STR_STRn_STATUS_RET_OK s) 1 else b
  else
    let b := b.onStr s (fun q => { q with bad := q.bad + 1, good := 0 })
    if q.bad + 1 < 3 ∨ q.lost then b
    else
      let b := (b.onStr s (fun q => { q with lost := true })).set (F.STR_STRn_STATUS_RET_OK s) 0
      (b.setRail s (b.fixedMv s)).raiseAt E.STR_RET_LOST s

/-- A lamp's update from a report, with what a new failure counts (R327). -/
def Block.updateLamp (b : Block) (s i : Nat) (r : Report) (leak : Option Nat) : Block :=
  let g := 3072 * s + i
  let ch := i % 48
  let old := b.lamp g
  let probed := (b.strand s).probed.contains i
  let l := old.report probed (bitOf r.meas ch) (bitOf r.opens ch) (bitOf r.shorts ch)
  let mid := l.failed
  let l := if leak = some ch then l.leakResult (bitOf r.flags 3) (b.actBit F.STR_COMMON_CTRL_LEAK_FAIL) else l
  let b := b.setLamp g l
  if l.failed && !old.failed then
    let b := if probed && mid then b.countSat (F.STR_CNT_Ei 5) 1 else b
    ((b.countSat (F.STR_CNT_Ei 7) 1).irq F.STR_IRQ_STATUS_LAMP_FAILED).raiseAt E.STR_LAMP_FAILED (s + 2 ^ 16 * i)
  else b

/-- One valid report (R324, R327). -/
def Block.takeReport (b : Block) (s : Nat) (r : Report) (leak : Option Nat) : Block :=
  let b := b.each [7, 6] (fun k b => if bitOf r.flags k then
    (b.countSat (F.STR_CNT_Ei 1) 1).raiseAt E.STR_DRIVER_CRC s else b)
  let b := if bitOf r.flags 5 then (b.countSat (F.STR_CNT_Ei 6) 1).raiseAt E.STR_START_MISS s else b
  let b := if bitOf r.flags 4 then b.raiseAt E.STR_DRIVER_HOT s else b
  b.each ((List.range 48).filter (b.fitted s)) (fun ch b => b.updateLamp s (48 * r.pos + ch) r leak)

/-- The report with the smallest HEADROOM that is not 0xFF (R321). -/
def minHeadroom : List Report → Option Report
  | [] => none
  | r :: l =>
    match minHeadroom l with
    | some q => if r.headroom < 255 ∧ r.headroom ≤ q.headroom then some r else some q
    | none => if r.headroom < 255 then some r else none

/-- The rail update (R321). -/
def Block.trackRail (b : Block) (s : Nat) (r : Report) : Block :=
  let d : Int := 20 * (b.act F.STR_HEADROOM_TARGET : Int) - 20 * r.headroom
  let d := max (-(10 * (b.act F.STR_HEADROOM_STEP_DOWN : Int))) (min d (10 * (b.act F.STR_HEADROOM_STEP_UP : Int)))
  let v := (b.get (F.STR_STRn_RAIL_STATUS_SET_MV s) : Int) + d
  let v := (v + 5) / 10 * 10
  let v := max (b.act (F.STR_STRn_RAIL_LIM_MIN_MV s) : Int) (min v (b.act (F.STR_STRn_RAIL_LIM_MAX_MV s)))
  let b := (b.set (F.STR_STRn_HEADROOM_H s) r.headroom).set (F.STR_STRn_HEADROOM_DRIVER s) r.pos
  if (b.strand s).lost then b else b.setRail s v.toNat

/-- COLLECT_RETURN (R324, R327, R321): the packet's COUNT and its reports in order, with LOOP in 0.5 ns units. -/
def collectReturn (s loop count : Nat) (rs : List Report) (b : Block) : Block :=
  match (b.strand s).collectAt with
  | none => b
  | some at' =>
    let arrive (j : Nat) : Nat := at' + (loop + 1) / 2 + 20 * (33 + 192 * (j + 1))
    let leak := (b.strand s).leakNow
    let limit := b.collectLimit
    let b := b.untilStc (arrive (rs.length - 1))
    let b := (b.onStr s (fun q => { q with collectAt := none, loop := some loop })).set (F.STR_STRn_HEADROOM_LOOP s) (min loop 0xFFFF)
    let placed := rs.zipIdx
    let sound := placed.filter (fun x => x.1.crcOk && x.1.pos == x.2 && decide (x.2 < b.drivers s))
    let bad := (placed.length - sound.length) + (b.drivers s - min count rs.length)
    let b := if bad = 0 ∧ count = b.drivers s then b
      else (b.countSat (F.STR_CNT_Ei 3) (max 1 bad)).raiseAt E.STR_COLLECT_ERR s
    let good := (sound.filter (fun x => decide (arrive x.2 ≤ limit))).map (·.1)
    let b := b.collected s (!good.isEmpty)
    let b := b.each good (fun r b => b.takeReport s r leak)
    let b := b.lampCounts s
    match minHeadroom good with
    | some r => b.trackRail s r
    | none => b

/-! ### States and faults (R323 to R325) -/

/-- A string enters RUN and joins the next LOAD that the cycle lets it start, its wire free at STC `from'` (R323). -/
def Block.strEnterRun (b : Block) (s from' : Nat) : Block :=
  let b := (b.setStr s strRun).setBit (F.STR_STRn_STATUS_RET_OK s) (b.retEn s)
  let b := b.onStr s (fun q => { q with runSince := b.clk, fresh := true, bad := 0, good := 0, lost := false })
  match b.str.loading with
  | some m => b.strLoad m s from'
  | none => b

/-- RAIL_RAMP_DONE (R323): the rail has settled at `mv`; the wire is reset for 1 µs, ENUM follows 8 idle cells later and leaves
it free 8 cells after its end. -/
def railRampDone (s mv : Nat) (b : Block) : Block :=
  let v := b.fixedMv s
  if b.strState s ≠ strRamp ∨ 50 * mv < 49 * v ∨ 51 * v < 50 * mv then b
  else
    let b := b.untilClk ((b.strand s).due.getD 0)
    let b := b.onStr s (fun q => { q with due := none })
    let b := (b.set (F.STR_STRn_RAIL_STATUS_MEAS_MV s) mv).setStr s strEnum
    let b := (b.emit (.clw s .reset)).clw s 25 .enum
    if b.retEn s then b.onStr s (fun q => { q with until' := b.clk + 100000 }) else b.strEnterRun s (b.stc + 1000 + 20 * (8 + 25 + 8))

/-- ENUM_RETURN (R323, R324). -/
def enumReturn (s count : Nat) (b : Block) : Block :=
  if !b.retEn s || b.strState s != strEnum && b.strState s != strRun then b
  else
    let b := b.set (F.STR_STRn_STATUS_ENUM_COUNT s) count
    let b := if count = b.drivers s then b else b.raiseAt E.STR_ENUM_MISMATCH s
    if b.strState s = strEnum then b.strEnterRun s b.stc else b

/-- ENUM_TIMEOUT (R323): 100 µs without a return. -/
def enumTimeout (s : Nat) (b : Block) : Block :=
  if b.strState s ≠ strEnum then b
  else
    let b := b.untilClk (b.strand s).until'
    b.strEnterRun s b.stc

/-- A string goes to FAULT; it retries or locks out RETRY_MS later (R323). -/
def Block.strFaulted (b : Block) (s : Nat) : Block :=
  (b.strDown s strFault).onStr s (fun q => { q with due := some (b.clk + 1000000 * b.act F.STR_FAULT_CFG_RETRY_MS) })

/-- STRING_OVERCURRENT (R324). -/
def stringOvercurrent (s : Nat) (b : Block) : Block :=
  let st := b.strState s
  if st ≠ strRamp ∧ st ≠ strRun then b
  else ((b.countSat (F.STR_CNT_Ei 8) 1).raiseAt E.STR_OVERCURRENT s).strFaulted s

/-- STRING_RAIL_FAULT (R324): the rail has stood at `mv`, outside ±5 % of its setpoint, for 100 µs in which the setpoint did not
slew. -/
def stringRailFault (s mv : Nat) (b : Block) : Block :=
  let st := b.strState s
  let v := b.get (F.STR_STRn_RAIL_STATUS_SET_MV s)
  if st ≠ strRamp ∧ st ≠ strRun ∨ 95 * v ≤ 100 * mv ∧ 100 * mv ≤ 105 * v then b
  else
    let b := b.untilClk ((b.strand s).slewEnd + 100000)
    ((b.set (F.STR_STRn_RAIL_STATUS_MEAS_MV s) mv).raiseAt E.STR_RAIL_FAULT s).strFaulted s

/-- STRING_RETRY_TIMER (R323). -/
def stringRetryTimer (s : Nat) (b : Block) : Block :=
  match (b.strand s).due.filter (fun _ => b.strState s == strFault) with
  | none => b
  | some t =>
    let b := b.untilClk t
    let used := b.get (F.STR_STRn_STATUS_RETRIES_USED s)
    if used < b.act F.STR_FAULT_CFG_RETRIES then (b.strRampUp s).set (F.STR_STRn_STATUS_RETRIES_USED s) (used + 1)
    else ((b.onStr s (fun q => { q with due := none })).setStr s strLockout).raiseAt E.STR_LOCKOUT s

/-- RETRY_COUNT_RESET (R323): 60 s in RUN. -/
def retryCountReset (s : Nat) (b : Block) : Block :=
  if b.strState s ≠ strRun then b
  else (b.untilClk ((b.strand s).runSince + 60000000000)).set (F.STR_STRn_STATUS_RETRIES_USED s) 0

/-- A write of STR_CMD (R332): held for its string until the next frame start. -/
def strCmd (v : Nat) (b : Block) : Block :=
  let op := F.STR_CMD_OP.of v
  let s := F.STR_CMD_STRING.of v
  let l := F.STR_CMD_LAMP.of v
  if op = 0 ∨ 3 < op ∨ 95 < s ∨ 3072 ≤ l ∨ !b.drives then b else b.onStr s (fun q => { q with cmd := some (op, l) })

/-- Held commands act with the installs of step 3 (R332). -/
def Block.strCommands (b : Block) : Block :=
  if !b.strOn then b
  else b.each strings (fun s b =>
    match (b.strand s).cmd with
    | none => b
    | some (op, l) =>
      let b := b.onStr s (fun q => { q with cmd := none })
      if op = 1 then
        if b.strState s = strFault ∨ b.strState s = strLockout then
          (b.set (F.STR_STRn_STATUS_RETRIES_USED s) 0).strRampUp s
        else b
      else if op = 2 then (b.writeQdr (lampBase + 4 * (3072 * s + l)) (leBytes 4 0)).lampCounts s
      else (b.clearQdr (lampBase + 4 * 3072 * s) 12288).lampCounts s)

/-- FS_own(n) at one string, after step 3 (R306, R323): `installed` tells an install of its group. -/
def Block.strandStart (b : Block) (s : Nat) (installed : Bool) : Block :=
  let en := b.actBit (F.STR_STRn_CFG_EN s)
  let b := if !(b.strand s).en && b.strState s != strOff then b.strDown s strOff else b
  let b := b.onStr s (fun q => { q with en := en })
  let b := if en && (b.strState s == strOff || b.strState s == strLockout && installed) then b.strRampUp s else b
  if b.strState s = strRun ∧ (!b.retEn s || (b.strand s).lost) then b.setRail s (b.fixedMv s) else b

/-- STR's capture at FS_own(n) (R306): `groups` are those that installed. -/
def Block.strStart (b : Block) (groups : List Nat) : Block :=
  if !b.strOn then b else b.each strings (fun s b => b.strandStart s (groups.contains (0x40 + s)))

/-- A role that uses STR takes effect: state words are cleared (R326). -/
def Block.strRole (b : Block) : Block :=
  let b := b.clearQdr lampBase (4 * lampCount)
  b.each strings (fun s b => b.lampCounts s)

/-! ### START (R313 to R316, R320) -/

/-- Skip count for a scale code `w` of `n` segments (R314). -/
def skipFor (n w : Nat) : Nat := n - n * min w 0x8000 / 32768

/-- The launch cell and FINE: `edge` is a cell edge, `cell` the cell length, in STC nanoseconds times 2^16 (R316). -/
def Block.fineOf (b : Block) (s : Nat) (own : Int) (edge cell : Nat) : Nat :=
  let r := ((launchTime own (b.tOut s) - edge) % (max 1 cell : Nat)).toNat
  roundDiv r 163840 % 8

/-- The START of a launch on one string: a string's first frame after it enters RUN is dark; charges that do not reach
a lamp are taken at the next LOAD (R320, R331). -/
def Block.startOne (b : Block) (s : Nat) (l : Launch) (sCode : Nat) (emit own : Int) (edge cell : Nat) : Block :=
  let q := b.strand s
  let dark := l.dark || q.fresh
  let hold := l.hold || q.spoilt
  let b := if q.collectAt.isSome then b.collected s false else b
  let b := if hold || dark then b.each q.charged (fun i b =>
      b.setLamp (3072 * s + i) { b.lamp (3072 * s + i) with probed := true }) else b
  let b := b.onStr s (fun q => { q with
    cycle := .rest, fresh := false, spoilt := false, diagAt := none, charged := [], collectAt := none, leakNow := q.leakNext, leakNext := none })
  let inc := roundDiv (2 ^ 48 * cell) (max 1 emit.toNat)
  b.clw s 89 (.start (l.wfn % 256) hold dark sCode (b.fineOf s own edge cell) l.skip inc)

/-- STR launches START of a frame on every string in RUN (R316, R320). -/
def Block.strLaunch (b : Block) (l : Launch) (sCode : Nat) (emit own : Int) (edge cell : Nat) : Block :=
  let run := strings.filter (fun s => b.strState s == strRun)
  let anyDark := l.dark || run.any (fun s => (b.strand s).fresh)
  let b := { b with str := { b.str with launch := some l, loading := none } }
  let b := b.each run (fun s b => b.startOne s l sCode emit own edge cell)
  let b := b.each (strings.filter (fun s => b.strState s != strRun)) (fun s b =>
    b.onStr s (fun q => { q with leakNow := none, leakNext := none }))
  if run.isEmpty then b
  else
    let b := if l.hold then b.countSat (F.STR_CNT_Ei 9) 1 else b
    let b := if anyDark then b.countSat (F.STR_CNT_Ei 10) 1 else b
    let b := ((b.setBit F.STR_STATUS_HOLD l.hold).setBit F.STR_STATUS_DARK anyDark).set F.STR_STATUS_SKIP l.skip
    ((b.set F.STR_STATUS_S_CODE sCode).countPair (F.STR_CNT_Ti_LO 0) (F.STR_CNT_Ti_HI 0) 1).irq F.STR_IRQ_STATUS_FRAME

/-! ### Meanings -/

/-- CLW_LOAD_DONE. -/
def execClwLoadDone (n : Nat) (s : State) : Host.Outcome State Fault Refusal := s.done (clwLoadDone n s.blk)
/-- CLW_CONTROL_DONE. -/
def execClwControlDone (n : Nat) (s : State) : Host.Outcome State Fault Refusal := s.done (clwControlDone n s.blk)
/-- CLW_PROBE_DONE. -/
def execClwProbeDone (n : Nat) (s : State) : Host.Outcome State Fault Refusal := s.done (clwProbeDone n s.blk)
/-- COLLECT_RESERVE_END. -/
def execCollectReserveEnd (n : Nat) (s : State) : Host.Outcome State Fault Refusal := s.done (collectReserveEnd n s.blk)
/-- COLLECT_RETURN. -/
def execCollectReturn (n loop count : Nat) (rs : List Report) (s : State) : Host.Outcome State Fault Refusal :=
  s.done (collectReturn n loop count rs s.blk)
/-- ENUM_RETURN. -/
def execEnumReturn (n count : Nat) (s : State) : Host.Outcome State Fault Refusal := s.done (enumReturn n count s.blk)
/-- ENUM_TIMEOUT. -/
def execEnumTimeout (n : Nat) (s : State) : Host.Outcome State Fault Refusal := s.done (enumTimeout n s.blk)
/-- RAIL_RAMP_DONE. -/
def execRailRampDone (n mv : Nat) (s : State) : Host.Outcome State Fault Refusal := s.done (railRampDone n mv s.blk)
/-- STRING_OVERCURRENT. -/
def execStringOvercurrent (n : Nat) (s : State) : Host.Outcome State Fault Refusal := s.done (stringOvercurrent n s.blk)
/-- STRING_RAIL_FAULT. -/
def execStringRailFault (n mv : Nat) (s : State) : Host.Outcome State Fault Refusal := s.done (stringRailFault n mv s.blk)
/-- STRING_RETRY_TIMER. -/
def execStringRetryTimer (n : Nat) (s : State) : Host.Outcome State Fault Refusal := s.done (stringRetryTimer n s.blk)
/-- RETRY_COUNT_RESET. -/
def execRetryCountReset (n : Nat) (s : State) : Host.Outcome State Fault Refusal := s.done (retryCountReset n s.blk)
/-- STR_CMD_RESTART. -/
def execStrCmdRestart (_p : Path) (v : Word) (s : State) : Host.Outcome State Fault Refusal :=
  s.done (s.blk.writing R.STR_CMD (strCmd v.toNat))
/-- STR_CMD_CLEAR_LAMP. -/
def execStrCmdClearLamp (_p : Path) (v : Word) (s : State) : Host.Outcome State Fault Refusal :=
  s.done (s.blk.writing R.STR_CMD (strCmd v.toNat))
/-- STR_CMD_CLEAR_STRING. -/
def execStrCmdClearString (_p : Path) (v : Word) (s : State) : Host.Outcome State Fault Refusal :=
  s.done (s.blk.writing R.STR_CMD (strCmd v.toNat))

end Sys2Proof.Machine
end

