-- ==== Sys2Proof/Machine/Pwr.lean ====
section
/-!
DEFINITION. The mains feeds and the energy budget (R392 to R411), and AUX_12V (R63): feed states and modes, metering, the
local limit and the grant, the plan of a head, agreement among heads.
-/

namespace Sys2Proof.Machine

def feedOut : Nat := 0
def feedReady : Nat := 1
def feedConv : Nat := 2
def feedOver : Nat := 3

/-- PWR_FEEDx_STATUS.STATE. -/
def Block.feed (b : Block) (x : Nat) : Nat := b.get (F.PWR_FEEDx_STATUS_STATE x)

/-- A PWR error, while there is logic power to record it (R446). -/
def Block.pwrRaise (b : Block) (e : Err) : Block := if b.logic == .running then b.raise e else b

/-- A feed takes a state (R393): IN_RANGE and CONVERTING follow, with FEED_CHANGE (R411). -/
def Block.setFeed (b : Block) (x st : Nat) : Block :=
  if b.feed x = st then b
  else
    let b := b.set (F.PWR_FEEDx_STATUS_STATE x) st
    let inRange := setBitOf (b.get F.PWR_STATUS_IN_RANGE) x (st == feedReady || st == feedConv)
    let conv := setBitOf (b.get F.PWR_STATUS_CONVERTING) x (st == feedConv)
    let b := b.irqIf (b.get F.PWR_STATUS_IN_RANGE != inRange || b.get F.PWR_STATUS_CONVERTING != conv) F.PWR_IRQ_STATUS_FEED_CHANGE
    let b := (b.set F.PWR_STATUS_IN_RANGE inRange).set F.PWR_STATUS_CONVERTING conv
    { b with pwr := { b.pwr with
      readySince := b.pwr.readySince.set x (if st = feedReady then some b.clk else none)
      convSince := b.pwr.convSince.set x (if st = feedConv then some b.clk else none) } }

/-- Does a switch-over or a transfer run? -/
def Block.feedBusy (b : Block) : Bool := b.bit F.PWR_STATUS_SWITCHING || b.pwr.moving.isSome

/-- The feed mode acts on READY feeds (R393 to R395): in SHARE each converts; with no feed converting one converts at
once, the primary before the other. -/
def Block.feedPolicy (b : Block) : Block :=
  if b.feedBusy then b
  else if b.pwr.mode = 0 then b.each [0, 1] (fun x b => if b.feed x = feedReady then b.setFeed x feedConv else b)
  else if b.feed 0 = feedConv ∨ b.feed 1 = feedConv then b
  else
    let pick := if b.feed b.pwr.primary = feedReady then b.pwr.primary else 1 - b.pwr.primary
    if b.feed pick = feedReady then b.setFeed pick feedConv else b

/-- A transfer starts the receiving converter (R396). -/
def Block.startTransfer (b : Block) (x : Nat) : Block :=
  let b := b.setFeed x feedConv
  { b with pwr := { b.pwr with moving := some x, began := b.clk } }

/-- A change of MODE or PRIMARY that waits acts, unless a switch-over or transfer runs (R396). -/
def Block.applyMode (b : Block) : Block :=
  if !b.pwr.modeDue || b.feedBusy then b
  else
    let mode := b.act F.PWR_FEED_CTRL_MODE
    let primary := b.act F.PWR_FEED_CTRL_PRIMARY
    let changed := mode != b.pwr.mode || primary != b.pwr.primary
    let b := { b with pwr := { b.pwr with modeDue := false, mode := mode, primary := primary } }
    if changed && mode == 1 && b.feed (1 - primary) == feedConv && (b.feed primary == feedReady || b.feed primary == feedConv) then
      b.startTransfer primary
    else b.feedPolicy

/-- A switch-over or transfer has ended: a change of mode that waited acts (R396). -/
def Block.feedSettled (b : Block) : Block := if b.pwr.modeDue then b.applyMode else b.feedPolicy

/-- After an install of group PWR (R396). -/
def Block.pwrInstalled (b : Block) : Block := { b with pwr := { b.pwr with modeDue := true, noRevert := false } }

/-- A feed comes into range (R392, R393, R398): the controller restarts and takes its energy count from the last copy (R397);
3V3_HK is there from now on (R62). -/
def feedInRange (x : Nat) (dc : Bool) (b : Block) : Block :=
  if 2 ≤ x ∨ b.feed x ≠ feedOut then b
  else
    let b := match b.pwr.copy with
      | some c => if b.bit F.PWR_STATUS_LINK_OK then
          b.setPair (F.PWR_ENERGYi_LO x) (F.PWR_ENERGYi_HI x) (if x = 0 then c.inA else c.inB) else b
      | none => b
    let b := (b.setBit (F.PWR_FEEDx_STATUS_DC x) dc).setFeed x feedReady
    ({ b with pins.hkOn := true }.setBit F.PWR_STATUS_HOLDUP false).feedPolicy

/-- A feed that was in range has left it: its loss is counted, the load moves, or the hold-up begins (R394, R395, R398). -/
def Block.feedLost (b : Block) (x st cause : Nat) : Block :=
  let was := b.feed x
  let b := (b.set (F.PWR_FEEDx_STATUS_CAUSE x) cause).setFeed x st
  let b := (b.countSat (F.PWR_CNT_Ei x) 1).pwrRaise (if x = 0 then E.PWR_FEED_A_LOSS else E.PWR_FEED_B_LOSS)
  let o := 1 - x
  let b := if was = feedConv then
      let switching := b.bit F.PWR_STATUS_SWITCHING
      let moved := b.pwr.moving.isSome
      let b := { (b.setBit F.PWR_STATUS_SWITCHING false) with pwr.moving := none }
      if b.feed o = feedConv then (if moved then b.feedSettled else b)
      else if b.pwr.mode == 1 && b.feed o == feedReady && !switching then
        let b := (b.setFeed o feedConv).setBit F.PWR_STATUS_SWITCHING true
        { b with pwr := { b.pwr with began := b.clk, noRevert := false } }
      else b.feedPolicy
    else b
  if b.get F.PWR_STATUS_IN_RANGE = 0 then
    ({ b with pwr.lostAt := b.clk }.setBit F.PWR_STATUS_HOLDUP true).pwrRaise E.PWR_BOTH_LOST
  else b

/-- FEED_OUT_OF_RANGE (R392, R393): `cause` 1 low, 2 distortion. -/
def feedOutOfRange (x cause : Nat) (b : Block) : Block :=
  if 2 ≤ x ∨ b.feed x = feedOut ∨ b.feed x = feedOver then b else b.feedLost x feedOut cause

/-- FEED_OVERVOLTAGE (R392, R393): the input relay opens. -/
def feedOvervoltage (x : Nat) (b : Block) : Block :=
  if 2 ≤ x ∨ b.feed x = feedOver then b
  else
    let b := b.pwrRaise E.PWR_OVERVOLT
    if b.feed x = feedOut then b.setFeed x feedOver else b.feedLost x feedOver 3

/-- A feed leaves OVERVOLT (R393): in range for 1 s at the relay's sense input; the relay closes. -/
def overvoltRecover (x : Nat) (b : Block) : Block :=
  if 2 ≤ x ∨ b.feed x ≠ feedOver then b
  else (({ b with pins.hkOn := true }.setFeed x feedReady).setBit F.PWR_STATUS_HOLDUP false).feedPolicy

/-- SWITCHOVER_DONE (R395): no later than 6 ms after the report. -/
def switchoverDone (after : Nat) (b : Block) : Block :=
  if !b.bit F.PWR_STATUS_SWITCHING then b
  else
    let b := b.untilClk (b.pwr.began + min after 6000000)
    ((b.setBit F.PWR_STATUS_SWITCHING false).countSat (F.PWR_CNT_Ei 2) 1).feedSettled

/-- A write of PWR_CMD (R396). -/
def pwrTransfer (v : Nat) (b : Block) : Block :=
  if v % 2 = 0 ∨ b.pwr.mode = 0 ∨ b.feedBusy then b
  else
    match [0, 1].find? (fun x => b.feed x == feedReady && b.feed (1 - x) == feedConv) with
    | some x => { b.startTransfer x with pwr.noRevert := true }
    | none => b

/-- TRANSFER_DONE (R396, R400): after 10 ms to 12 ms the other converter stops. -/
def transferDone (after : Nat) (b : Block) : Block :=
  match b.pwr.moving with
  | none => b
  | some x =>
    let b := b.untilClk (b.pwr.began + max 10000000 (min after 12000000))
    let b := if b.feed (1 - x) = feedConv then b.setFeed (1 - x) feedReady else b
    { b with pwr.moving := none }.feedSettled

/-- REVERT_TIMER (R396). -/
def revertTimer (b : Block) : Block :=
  let p := b.pwr.primary
  match (b.pwr.readySince[p]?).join with
  | none => b
  | some t =>
    if b.pwr.mode = 0 ∨ !b.actBit F.PWR_FEED_CTRL_REVERT ∨ b.pwr.noRevert ∨ b.feedBusy ∨ b.feed (1 - p) ≠ feedConv then b
    else
      let t := max t (((b.pwr.convSince[1 - p]?).join).getD 0)
      (b.untilClk (t + b.act F.PWR_FEED_CTRL_REVERT_S * 1000000000)).startTransfer p

/-- The part of the input power on feed A now, per mille: a transfer moves the load over 10 ms (R396), in SHARE a share ramps from 0
over 100 ms (R394). -/
def Block.shareNow (b : Block) : Nat :=
  let c := b.get F.PWR_STATUS_CONVERTING
  if c = 1 then 1000
  else if c = 2 then 0
  else if c = 0 then 0
  else
    let a := b.act F.PWR_FEED_CTRL_SHARE_A_PM
    let ramp (x : Nat) : Nat := min 100000000 (b.clk - ((b.pwr.convSince[x]?).join).getD 0)
    let moved := min 10000000 (b.clk - b.pwr.began) * 1000 / 10000000
    if b.pwr.moving = some 0 then moved
    else if b.pwr.moving = some 1 then 1000 - moved
    else if ramp 0 < 100000000 then a * ramp 0 / 100000000
    else 1000 - (1000 - a) * ramp 1 / 100000000

/-- What a control cycle measures: per feed voltage, current, power, frequency; the energies of the five counters. -/
def Block.measureFeed (b : Block) (x : Nat) (m : Nat × Nat × Nat × Nat) : Block :=
  let b := (b.set (F.PWR_FEEDx_V x) m.1).set (F.PWR_FEEDx_I_MA x) m.2.1
  (b.set (F.PWR_FEEDx_P x) m.2.2.1).set (F.PWR_FEEDx_FREQ_MHZ x) m.2.2.2

/-- FEED_CONTROL_CYCLE (R397, R399): 20 µs; `energy` are the mJ added to IN_A, IN_B, RAIL, AUX and LOGIC, the last three only with
logic power (R446), `feeds` the measurements of A and B, `link` tells that the lead's copy arrived. -/
def feedControlCycle (energy : List Nat) (feeds : List (Nat × Nat × Nat × Nat)) (link : Bool) (b : Block) : Block :=
  let b := (b.elapse 20000).applyMode
  let b := b.each (List.range (if b.logic == .off then 2 else 5)) (fun i b =>
    b.countPair (F.PWR_ENERGYi_LO i) (F.PWR_ENERGYi_HI i) (energy.getD i 0))
  let b := b.each [0, 1] (fun x b => match feeds[x]? with | some m => b.measureFeed x m | none => b)
  if link && b.get F.PWR_STATUS_CONVERTING != 0 then
    let c : FeedCopy :=
      { mode := b.pwr.mode, primary := b.pwr.primary, converting := b.get F.PWR_STATUS_CONVERTING
        switching := b.bit F.PWR_STATUS_SWITCHING, share := b.shareNow
        inA := b.pair (F.PWR_ENERGYi_LO 0) (F.PWR_ENERGYi_HI 0), inB := b.pair (F.PWR_ENERGYi_LO 1) (F.PWR_ENERGYi_HI 1) }
    let b := { b with pwr := { b.pwr with copy := some c, copyAt := b.clk } }
    b.setBit F.PWR_STATUS_LINK_OK true
  else b

/-- FEED_LINK (R397): no copy for five cycles. -/
def feedLink (b : Block) : Block :=
  ((b.untilClk (b.pwr.copyAt + 100000)).setBit F.PWR_STATUS_LINK_OK false).pwrRaise E.PWR_FEED_LINK

/-- AUX_OVERLOAD (R63). -/
def auxOverload (b : Block) : Block :=
  if !b.pins.auxOn then b
  else ({ b with pins.auxOn := false, pwr.auxOff := some b.clk }).pwrRaise E.PWR_AUX_OVERLOAD

/-- Does the power state have AUX_12V on (R436)? A state shown as ENTERING has it as before; the wake order switches it on
at its end. -/
def Block.auxWanted (b : Block) : Bool :=
  (b.logic == .running || b.logic == .held)
    && (if b.asleep || b.pmState == pmWaking then b.pmState == pmBracken && b.bit F.PM_CTRL_AUX_BRACKEN else true)

/-- AUX_12V follows the power state and the overload (R63, R436). -/
def Block.auxSync (b : Block) : Block := { b with pins.auxOn := b.auxWanted && b.pwr.auxOff.isNone }

/-- AUX_RETRY (R63): 1 s after switch-off, if the power state has it on. -/
def auxRetry (b : Block) : Block :=
  match b.pwr.auxOff with
  | none => b
  | some t => { b.untilClk (t + 1000000000) with pwr.auxOff := none }.auxSync

/-! ### Local limit and grant (R399, R401, R402) -/

/-- L after a frame with rail and input energies `rail` and `inp` mJ in `dt` ns times 2^16 (R401). -/
def limitScale (l rise rail inp dt : Nat) : Nat :=
  let unit := 65536 * 1000000
  if 160 * dt < rail * unit ∨ 220 * dt < inp * unit then
    min (if rail = 0 then l else l * (160 * dt) / (rail * unit)) (if inp = 0 then l else l * (220 * dt) / (inp * unit))
  else min 0x8000 (l + rise)

/-- G(n) in mJ (R402). -/
def grantOf (ePred margin w : Nat) : Nat := ceilDiv (ePred * (1000 + margin) * w) (1000 * 32768 * 16)

/-- At FS_own(n) PWR closes frame n − 1 (R399, R401, R402): the energies, the grant's comparison, L. -/
def Block.pwrClose (b : Block) (own : Int) : Block :=
  let rail := b.pair (F.PWR_ENERGYi_LO 2) (F.PWR_ENERGYi_HI 2)
  let inp := b.pair (F.PWR_ENERGYi_LO 0) (F.PWR_ENERGYi_HI 0) + b.pair (F.PWR_ENERGYi_LO 1) (F.PWR_ENERGYi_HI 1)
  let b := match b.pwr.ownAt with
    | none => b
    | some t =>
      let dt := (own - t).toNat
      if dt = 0 then b
      else
        let e := rail - b.pwr.railAt
        let b := (b.set F.PWR_FRAME_RAIL e).set F.PWR_RAIL_P (e * 65536 * 1000000000 / dt)
        let b := match b.pwr.grant with
          | none => b
          | some g =>
            let b := b.set F.PWR_GRANT g
            if g + b.act F.PWR_GRANT_TOL_MJ < e then
              let b := { b.countSat (F.PWR_CNT_Ei 4) 1 with pwr.overs := b.pwr.overs + 1 }
              b.raiseIf (b.pwr.overs == 8) E.PWR_GRANT_OVER
            else { b with pwr.overs := 0 }
        let l := limitScale (b.get F.PWR_LIMIT_SCALE_L) (b.act F.PWR_PLAN2_RISE) e (inp - b.pwr.inAt) dt
        let b := b.set F.PWR_LIMIT_SCALE_L l
        if l < 0x8000 then (b.countSat (F.PWR_CNT_Ei 3) 1).raise E.PWR_LOCAL_LIMIT else b
  { b with pwr := { b.pwr with railAt := rail, inAt := inp, ownAt := some own } }

/-- At FS_own(n) PWR closes the frame before and computes the grant of frame n (R399 to R402); `w` is the wall scale
latched, `l` the limit scale that the frame's START used. -/
def Block.pwrStart (b : Block) (n : Nat) (own : Int) (w : Nat) : Block :=
  let l := b.get F.PWR_LIMIT_SCALE_L
  let b := b.pwrClose own
  let compared := match b.str.launch with
    | some x => x.wfn == n && !x.hold && !x.dark && !b.str.late && l == 0x8000
    | none => false
  let g := grantOf (b.get F.COR_E_PRED_E) (b.act F.PWR_PLAN_MARGIN_PM) (min w 0x8000)
  { b with pwr.grant := if compared && b.drives then some g else none }

/-! ### Planning (R403 to R405) -/

/-- e of a slot for frame `u` as a number of 1/16 mJ over a denominator, and the feed flags of the Spore used (R404). -/
def Block.slotEnergy (b : Block) (s u : Nat) : Nat × Nat × Option Nat :=
  let mine := b.lnk.spores.filter (·.slot == s)
  match (mine.find? (·.spore.wfn == u)).orElse (fun _ => mine.getLast?) with
  | some x =>
    if x.spore.wfn = u then
      let e := if bitOf x.spore.flags 2 then max x.spore.ePred (b.get (F.PWR_SLOTs_PLAN s)) else x.spore.ePred
      (e, 1, some x.spore.flags)
    else if u ≤ x.spore.wfn + b.act F.PWR_PLAN2_STANDIN_FRAMES then (x.spore.ePred, 1, none)
    else (160 * 16 * b.emitLen.toNat, 65536 * 1000000, none)
  | none => (160 * 16 * b.emitLen.toNat, 65536 * 1000000, none)

/-- The feed fractions per mille of a slot on A and B (R404). -/
def Block.fractions (b : Block) (flags : Option Nat) : Nat × Nat :=
  match flags with
  | none => (1000, 1000)
  | some f =>
    if !b.actBit F.PWR_PLAN_SHARED then (1000, 1000)
    else if bitOf f 6 && bitOf f 7 then
      if b.act F.PWR_FEED_CTRL_MODE = 0 then (b.act F.PWR_FEED_CTRL_SHARE_A_PM, 1000 - b.act F.PWR_FEED_CTRL_SHARE_A_PM)
      else if b.act F.PWR_FEED_CTRL_PRIMARY = 0 then (1000, 0) else (0, 1000)
    else if bitOf f 6 then (1000, 0)
    else if bitOf f 7 then (0, 1000)
    else (1000, 1000)

/-- One slot in the plan: number, plan_s, fractions, stand-in. -/
structure SlotPlan where
  slot : Nat
  plan : Nat
  fa : Nat
  fb : Nat
  standin : Bool
  deriving DecidableEq, Repr

/-- The plan of every occupied slot for frame `n` (R403, R404). -/
def Block.slotPlans (b : Block) (n : Nat) : List SlotPlan :=
  let rolling := b.actBit F.FRM_START_ROLLING
  let u := if rolling then n - 1 else n
  let margin := b.act F.PWR_PLAN_MARGIN_PM + (if rolling then b.act F.PWR_PLAN_ROLL_MARGIN_PM else 0)
  let nodes := (b.cfg.topo.map (·.slotNode)).getD []
  ((List.range 64).filter (fun s => nodes.getD s 0 != 0)).map (fun s =>
    let (e, d, flags) := b.slotEnergy s u
    let (fa, fb) := b.fractions flags
    ⟨s, ceilDiv (e * (1000 + margin)) (1000 * d), fa, fb, flags.isNone⟩)

/-- The circuits that slot `s` names: circuit and the feed, 0 for A (R403). -/
def Block.circuits (b : Block) (s : Nat) : List (Nat × Nat) :=
  (if b.actBit (F.PWR_SLOTs_CFG_A_EN s) then [(b.act (F.PWR_SLOTs_CFG_CIRC_A s), 0)] else [])
    ++ (if b.actBit (F.PWR_SLOTs_CFG_B_EN s) then [(b.act (F.PWR_SLOTs_CFG_CIRC_B s), 1)] else [])

/-- Planned lamp load and fixed load of circuit `k` in 1/16 mJ (R405). -/
def Block.circuitLoad (b : Block) (ps : List SlotPlan) (k : Nat) : Nat × Nat :=
  let p := (b.pMin / 65536).toNat
  ps.foldl (fun (acc : Nat × Nat) x =>
    let f := b.act (F.PWR_SLOTs_CFG_FIX_W x.slot) * p * 16 / 1000000
    let e := if bitOf b.lnk.maskCaptured x.slot then x.plan else 0
    ((b.circuits x.slot).filter (·.1 == k)).foldl (fun (acc : Nat × Nat) c =>
      let frac := if c.2 = 0 then x.fa else x.fb
      (acc.1 + e * frac / 1000, acc.2 + f * frac / 1000)) acc) (0, 0)

/-- The chain scale over circuits from `k` on, with what has been found so far: code and circuit (R405). -/
def Block.scaleFrom (b : Block) (ps : List SlotPlan) : Nat → Nat → Nat × Nat → Nat × Nat
  | 0, _, best => best
  | n + 1, k, best =>
    let limit := b.act (F.PWR_CIRCk_LIMIT_W k)
    let (load, fix) := b.circuitLoad ps k
    if limit = 0 ∨ load = 0 then b.scaleFrom ps n (k + 1) best
    else
      let room := limit * b.act F.PWR_PLAN2_EFF_PM * (b.pMin / 65536).toNat * 16 / 1000000000
      if room ≤ fix then (0, k)
      else
        let allow := room - fix
        let code := allow * 32768 / load
        b.scaleFrom ps n (k + 1) (if allow < load ∧ code < best.1 then (code, k) else best)

/-- s_c and the circuit that set it, 0xF for none (R405). -/
def Block.chainScale (b : Block) (ps : List SlotPlan) : Nat × Nat := b.scaleFrom ps 16 0 (0x8000, 0xF)

/-- Does the head plan (R403)? -/
def Block.plansPower (b : Block) : Bool := b.isHead && b.actBit F.PWR_PLAN_EN

/-- The plan and the chain scale of frame `n` (R404, R405). -/
def Block.planFrame (b : Block) (n : Nat) : Block :=
  let ps := b.slotPlans n
  let (sc, bind) := b.chainScale ps
  let b := b.countSat (F.PWR_CNT_Ei 5) (ps.filter (·.standin)).length
  { b with pwr := { b.pwr with
    planned := some n, chain := sc, bind := bind
    plans := (List.range 64).map (fun s => ((ps.find? (·.slot == s)).map (·.plan)).getD 0) } }

/-- CHAIN_ENERGY of frame `n` (R406). -/
def Block.chainEnergyMsg (b : Block) (n standins : Nat) : ChainEnergy where
  wfn := n
  epoch := b.epoch
  chainId := b.chainId
  shared := b.actBit F.PWR_PLAN_SHARED
  rolling := b.actBit F.FRM_START_ROLLING
  chainScale := b.pwr.chain
  usedScale := b.lnk.scaleLast.2
  standin := min 255 standins
  bind := b.pwr.bind
  eChain := min 0xFFFFFFFF b.pwr.plans.sum

/-- CHAIN_POINT (R403, R405, R406). -/
def chainPoint (b : Block) : Block :=
  match b.eventFrame b.pwr.planned with
  | none => b
  | some p =>
    if !b.plansPower then b
    else
      let b := b.untilStc (nsOf (p.fs - q16 (b.act F.FRM_SCALE_LEAD_NS) - q16 (1000 * b.act F.PWR_PEER_US_US)))
      let standins := ((b.slotPlans p.wfn).filter (·.standin)).length
      let b := b.planFrame p.wfn
      if b.duty ≠ dutyActive then b
      else
        let m := b.chainEnergyMsg p.wfn standins
        b.each ((List.range 64).filter (fun i => b.actBit (F.PWR_PEERi_EN i))) (fun i b =>
          b.sendMsg 0x20 (b.act (F.PWR_PEERi_NODE i)) (.chainEnergy m))

/-! ### Agreement (R406 to R408) -/

/-- CHAIN_ENERGY (R406, R408). -/
def chainEnergy (rx : Rx) (b : Block) : Block :=
  b.taking rx (fun b =>
    match rx.msg.body with
    | .chainEnergy m =>
      let listed := (List.range 64).any (fun i => b.actBit (F.PWR_PEERi_EN i) && b.act (F.PWR_PEERi_NODE i) == rx.msg.src)
      if !b.isHead || !listed then b
      else
        let old := b.pwr.peers.find? (·.chain == m.chainId)
        if m.epoch < (old.map (·.epoch)).getD 0 then b.countSat (F.PWR_CNT_Ei 7) 1
        else
          let keep := match old with
            | some o => if m.wfn < o.wfn then (o.wfn, o.scale) else (m.wfn, m.chainScale)
            | none => (m.wfn, m.chainScale)
          let peer : Peer := ⟨m.chainId, m.epoch, keep.1, keep.2, (old.map (·.missing)).getD 0, false⟩
          let b := { b with pwr.peers := b.pwr.peers.filter (·.chain != m.chainId) ++ [peer] }
          if b.lnk.scaleLast.1 + 1 = m.wfn ∧ m.usedScale ≠ b.lnk.scaleLast.2 then
            (b.countSat (F.PWR_CNT_Ei 8) 1).raise E.PWR_SCALE_DISAGREE
          else b
    | _ => b)

/-- A peer chain at the scale decision of frame `n` (R408). -/
def Block.peerDecides (b : Block) (n : Nat) (x : Peer) : Block :=
  let put (y : Peer) (b : Block) : Block :=
    { b with pwr.peers := b.pwr.peers.map (fun z => if z.chain = y.chain then y else z) }
  if x.wfn = n then put { x with missing := 0 } b
  else
    let b := b.countSat (F.PWR_CNT_Ei 6) 1
    if x.out then b
    else if 16 ≤ x.missing + 1 then (put { x with missing := x.missing + 1, out := true } b).raise E.PWR_PEER_LOST
    else put { x with missing := x.missing + 1 } b

/-- The enabled slots of which no Spore of frame `n` has come (R256). -/
def Block.sporesMissing (b : Block) (n : Nat) : List Nat :=
  let mask := b.actPair F.LNK_SLOT_MASK_LO_MASK F.LNK_SLOT_MASK_HI_MASK
  let there (s : Nat) : Bool := b.lnk.spores.any (fun e => e.slot == s && e.spore.wfn == n)
  match b.cfg.topo with
  | some t => (List.range t.slots).filter (fun s => bitOf mask s && t.slotNode.getD s 0 != 0 && !there s)
  | none => []

/-- SCALE_DECISION (R407, R403, R404), once a frame (R26); the missing Spores of the frame are counted (R256). -/
def scaleDecision (b : Block) : Block :=
  match b.eventFrame b.pwr.decided with
  | none => b
  | some p =>
    if !b.isHead then b
    else
      let b := { b.untilStc (nsOf p.scale) with pwr.decided := some p.wfn }
      let b := b.countSat (F.LNK_CNT_Ei 5) (b.sporesMissing p.wfn).length
      if !b.plansPower then { b with lnk.scaleNext := 0x8000 }
      else
        let b := if b.pwr.planned = some p.wfn then b else b.planFrame p.wfn
        let peers := b.pwr.peers.filter (fun x => x.chain != b.chainId && (!x.out || x.wfn == p.wfn))
        let limit := b.lnk.scaleLast.2 + b.act F.PWR_PLAN2_RISE
        let (code, chain) := peers.foldl (fun (best : Nat × Nat) x => if x.scale < best.1 then (x.scale, x.chain) else best)
          (min 0x8000 b.pwr.chain, b.chainId)
        let byRise := decide (limit < code)
        let w := min code limit
        let b := b.each (b.pwr.peers.filter (·.chain != b.chainId)) (fun x b => b.peerDecides p.wfn x)
        let b := b.each (List.range 64) (fun s b =>
          let plan := b.pwr.plans.getD s 0
          (b.set (F.PWR_SLOTs_PLAN s) (min plan 0xFFFFFFFF)).set (F.PWR_SLOTs_GRANT s) (min 0xFFFFFFFF (ceilDiv (plan * w) (32768 * 16))))
        let b := b.irqIf (b.get F.PWR_SCALE_WALL != w) F.PWR_IRQ_STATUS_SCALE_CHANGE
        let b := (b.set F.PWR_SCALE_WALL w).set F.PWR_SCALE_CHAIN b.pwr.chain
        let b := (b.set F.PWR_BIND_CHAIN_ID chain).setBit F.PWR_BIND_RISE byRise
        { b.set F.PWR_BIND_CIRCUIT b.pwr.bind with lnk.scaleNext := w }

/-! ### Meanings -/

/-- FEED_OUT_OF_RANGE. -/
def execFeedOutOfRange (x cause : Nat) (s : State) : Host.Outcome State Fault Refusal := s.power (feedOutOfRange x cause s.blk)
/-- FEED_OVERVOLTAGE. -/
def execFeedOvervoltage (x : Nat) (s : State) : Host.Outcome State Fault Refusal := s.power (feedOvervoltage x s.blk)
/-- SWITCHOVER_DONE. -/
def execSwitchoverDone (after : Nat) (s : State) : Host.Outcome State Fault Refusal := s.power (switchoverDone after s.blk)
/-- PWR_TRANSFER: a write of PWR_CMD. -/
def execPwrTransfer (_p : Path) (v : Word) (s : State) : Host.Outcome State Fault Refusal :=
  s.done (s.blk.writing R.PWR_CMD (pwrTransfer v.toNat))
/-- TRANSFER_DONE. -/
def execTransferDone (after : Nat) (s : State) : Host.Outcome State Fault Refusal := s.power (transferDone after s.blk)
/-- REVERT_TIMER. -/
def execRevertTimer (s : State) : Host.Outcome State Fault Refusal := s.power (revertTimer s.blk)
/-- FEED_CONTROL_CYCLE. -/
def execFeedControlCycle (energy : List Nat) (feeds : List (Nat × Nat × Nat × Nat)) (link : Bool) (s : State) :
    Host.Outcome State Fault Refusal := s.power (feedControlCycle energy feeds link s.blk)
/-- FEED_LINK. -/
def execFeedLink (s : State) : Host.Outcome State Fault Refusal := s.power (feedLink s.blk)
/-- AUX_OVERLOAD. -/
def execAuxOverload (s : State) : Host.Outcome State Fault Refusal := s.power (auxOverload s.blk)
/-- AUX_RETRY. -/
def execAuxRetry (s : State) : Host.Outcome State Fault Refusal := s.power (auxRetry s.blk)
/-- CHAIN_POINT. -/
def execChainPoint (s : State) : Host.Outcome State Fault Refusal := s.done (chainPoint s.blk)
/-- CHAIN_ENERGY. -/
def execChainEnergy (rx : Rx) (s : State) : Host.Outcome State Fault Refusal := s.done (chainEnergy rx s.blk)
/-- SCALE_DECISION. -/
def execScaleDecision (s : State) : Host.Outcome State Fault Refusal := s.done (scaleDecision s.blk)

end Sys2Proof.Machine
end

