-- ==== Sys2Proof/Machine/Cal.lean ====
section
/-!
DEFINITION. Calibration (R413 to R424): reference samples, cycles and steps, trim codes, the store in flash.
-/

namespace Sys2Proof.Machine

/-- The longest time of a step on target `t` in ns (R413). -/
def calTime (t : Nat) : Nat := if t < 2 then 30000 else if t < 98 then 20000 else if t < 194 then 25000 else if t % 2 = 0 then 20000 else 25000

/-- The string of a string target (R413). -/
def calString (t : Nat) : Option Nat := if 2 ≤ t ∧ t < 98 then some (t - 2) else if 98 ≤ t ∧ t < 194 then some (t - 98) else none

/-- How much a target's code falls for a relative error of `e` ppm: e over the DAC's step, to the nearest (R414, R419). -/
def calDelta (t : Nat) (e : Int) : Int := if t = 0 then (2 * (e * 64) + 125) / 250 else (2 * (e * 128) + 3125) / 6250

/-- A cycle may start: EN, RUN and ACTIVE (R417). -/
def Block.calMayRun (b : Block) : Bool := b.bit F.CAL_CTRL_EN && b.stage == stageRun && b.pmState == pmActive

/-- A cycle starts, unless one runs (R417). -/
def Block.calStart (b : Block) : Block :=
  if !b.calMayRun || b.bit F.CAL_STATUS_CYCLE then b
  else
    let b := { b with cal := { b.cal with
      lastStart := some b.clk, due := List.range 198, later := [], adjusted := [], passed := [], changed := false, step := none } }
    b.setBit F.CAL_STATUS_CYCLE true

/-- The cycle ends (R417, R432). -/
def Block.calEnd (b : Block) : Block :=
  let b := { b with cal := { b.cal with due := [], later := [], step := none } }
  ((b.setBit F.CAL_STATUS_CYCLE false).set F.CAL_STATUS_TARGET 0xFF).irq F.CAL_IRQ_STATUS_CYCLE_DONE

/-- The step in progress is abandoned; its target stays due (R420). -/
def Block.calAbandon (b : Block) : Block :=
  match b.cal.step with
  | none => b
  | some _ => ({ b with cal.step := none }.set F.CAL_STATUS_TARGET 0xFF).countSat (F.CAL_CNT_Ei 1) 1

/-- CAL runs no cycle from now on: DIM of a module that drives lamps, or sleep (R439, R440). -/
def Block.calStop (b : Block) : Block := if b.bit F.CAL_STATUS_CYCLE then b.calAbandon.calEnd else b

/-! ### Store (R421 to R423) -/

/-- CRC-32, polynomial 0x04C1_1DB7 reflected, initial value 0xFFFF_FFFF and final inversion (R421). -/
def crc32 (bs : List Byte) : Nat :=
  let bit (c : Nat) : Nat := if c % 2 = 1 then Nat.xor (c / 2) 0xEDB88320 else c / 2
  Nat.xor (bs.foldl (fun c x => bit (bit (bit (bit (bit (bit (bit (bit (Nat.xor c x.toNat))))))))) 0xFFFFFFFF) 0xFFFFFFFF

/-- The 1,652 bytes of a copy that is sound (R421). -/
def calBytes (c : CalCopy) : List Byte :=
  let record (r : Nat × Bool × Bool × Int) : List Byte :=
    leBytes 2 r.1 ++ leBytes 1 (flagBits [r.2.1, r.2.2.1]) ++ leBytes 1 0 ++ leBytes 4 (unsigned 32 r.2.2.2)
  let bs := leBytes 4 0x4C41434F ++ leBytes 2 1 ++ leBytes 2 198 ++ leBytes 8 c.seq ++ leBytes 8 c.stc ++ leBytes 8 c.serial
    ++ (c.records.map record).flatten ++ (c.eyes.map (leBytes 2)).flatten
  bs ++ leBytes 4 (crc32 bs)

/-- The values in force as a copy of the store. -/
def Block.calImage (b : Block) (seq : Nat) : CalCopy where
  ok := true
  serial := b.fuses.serial
  seq := seq
  stc := b.pair F.CAL_LAST_CYCLE_LO_STC F.CAL_LAST_CYCLE_HI_STC
  records := (List.range 198).map (fun t =>
    (b.get (F.CAL_TRIMt_CODE t), b.bit (F.CAL_TRIMt_PASS t), b.bit (F.CAL_TRIMt_SKIPPED t), b.getInt (F.CAL_RESIDt_PPM t)))
  eyes := (List.range 16).map (fun k => b.get (F.CAL_LANEk_EYE_WIDTH k))

/-- Is a copy valid (R421)? -/
def Block.calValid (b : Block) (c : CalCopy) : Bool := c.ok && c.serial == b.fuses.serial

/-- Copy `k` of the store. -/
def Block.calCopy (b : Block) (k : Nat) : CalCopy := b.cal.copies.getD k ⟨false, 0, 0, 0, [], []⟩

/-- COPY0_VALID and COPY1_VALID. -/
def Block.setCopyValid (b : Block) (k : Nat) (v : Bool) : Block :=
  b.setBit (if k = 0 then F.CAL_STORE_STATUS_COPY0_VALID else F.CAL_STORE_STATUS_COPY1_VALID) v

/-- A save begins: the copy that is not in use is written with SEQ + 1, and is no valid copy until its check has passed (R423). -/
def Block.calSave (b : Block) : Block :=
  if b.cal.saving.isSome then b
  else
    let k := 1 - b.get F.CAL_STORE_STATUS_IN_USE
    { b with cal := { b.cal with
      saving := some (k, b.calImage (b.cal.seq + 1)), saveFrom := b.clk
      copies := b.cal.copies.set k { b.calCopy k with ok := false } } }.setCopyValid k false

/-- CAL_SAVE_DONE (R423): the read-back has passed or failed. -/
def calSaveDone (ok : Bool) (after : Nat) (b : Block) : Block :=
  match b.cal.saving with
  | none => b
  | some (k, c) =>
    let b := b.untilClk (b.cal.saveFrom + min after 400000000)
    let b := { b with cal := { b.cal with
      saving := none, copies := b.cal.copies.set k { c with ok := ok }, lastSave := some b.clk } }
    let b := b.setCopyValid k ok
    if ok then
      let b := ({ b with cal.seq := c.seq }.set F.CAL_STORE_STATUS_IN_USE k).set F.CAL_STORE_SEQ_SEQ c.seq
      (b.countSat (F.CAL_CNT_Ei 3) 1).irq F.CAL_IRQ_STATUS_SAVED
    else b.raise E.CAL_SAVE_FAIL

/-- In stage LOAD, CAL reads the store (R422). -/
def Block.calLoad (b : Block) : Block :=
  let v0 := b.calValid (b.calCopy 0)
  let v1 := b.calValid (b.calCopy 1)
  let b := (b.setCopyValid 0 v0).setCopyValid 1 v1
  let b := b.raiseIf (!(v0 && v1)) E.CAL_STORE_COPY
  if !(v0 || v1) then (b.each (List.range 198) (fun t b => b.set (F.CAL_TRIMt_CODE t) 0x800)).raise E.CAL_STORE_LOST
  else
    let k := if v1 && (!v0 || decide ((b.calCopy 0).seq < (b.calCopy 1).seq)) then 1 else 0
    let c := b.calCopy k
    let b := ({ b with cal.seq := c.seq }.set F.CAL_STORE_STATUS_IN_USE k).set F.CAL_STORE_SEQ_SEQ c.seq
    b.each (List.range 198) (fun t b =>
      let (code, pass, skipped, resid) := c.records.getD t (0x800, false, false, 0)
      let b := ((b.set (F.CAL_TRIMt_CODE t) code).setBit (F.CAL_TRIMt_PASS t) pass).setBit (F.CAL_TRIMt_SKIPPED t) skipped
      b.set (F.CAL_RESIDt_PPM t) (unsigned 32 resid))

/-- The cycle is complete (R417, R423, R424). -/
def Block.calComplete (b : Block) : Block :=
  let b := b.setPair F.CAL_LAST_CYCLE_LO_STC F.CAL_LAST_CYCLE_HI_STC b.stc
  let b := b.each (List.range 16) (fun k b =>
    b.set (F.CAL_LANEk_EYE_WIDTH k) (if b.laneState k = laneUp then b.get (F.SRDk_EYE_WIDTH k) else 0))
  let b := b.setBit F.CAL_STATUS_TRACED (b.cal.passed.contains 0 && b.cal.passed.contains 1)
  let auto := b.cal.changed && b.bit F.CAL_CTRL_AUTO_SAVE && (match b.cal.lastSave with
    | none => true
    | some t => decide (t + b.get F.CAL_SAVE_CFG_SAVE_MIN_S * 1000000000 ≤ b.clk))
  b.calEnd.when auto Block.calSave

/-! ### Steps (R417 to R420) -/

/-- STC at which the window of a target closes in the guard that runs (R418). -/
def Block.calClose (b : Block) (t : Nat) : Option Nat :=
  match b.frm.next with
  | none => none
  | some p =>
    let own := nsOf p.own
    match calString t with
    | none => some (own - 10000)
    | some s =>
      let lim := own - 1000 * b.act F.STR_RAIL_LEAD_US
      some (match b.diagProjected s with | some x => min x lim | none => lim)

/-- Does the step of target `t` fit before its window closes? -/
def Block.calFits (b : Block) (t : Nat) : Bool :=
  match b.calClose t with
  | some c => decide (b.stc + calTime t ≤ c)
  | none => false

/-- Is target `t` passed over in this cycle: a string target without its string in RUN, or any target after converter
targets that have failed? -/
def Block.calSkips (b : Block) (t : Nat) : Bool :=
  2 ≤ t && ((match calString t with | some s => !b.drives || b.strState s != strRun | none => false)
    || (!b.cal.due.contains 0 && !b.cal.passed.contains 0) || (!b.cal.due.contains 1 && !b.cal.passed.contains 1))

/-- May target `t` run now: not waiting for a later guard, its needs met, its step fits? -/
def Block.calReady (b : Block) (t : Nat) : Bool :=
  !b.cal.later.contains t && b.calFits t
    && (if t < 2 then b.bit F.CAL_STATUS_REF_OK else b.cal.passed.contains 0 && b.cal.passed.contains 1)

/-- The targets that the cycle, in ascending order, reaches now and passes over: those ahead of the next one that runs or has
to wait (R417). -/
def Block.calReached (b : Block) : List Nat :=
  match b.cal.due.find? (fun t => !b.calSkips t && b.calReady t) with
  | some t => b.cal.due.filter (fun x => decide (x < t) && b.calSkips x)
  | none => b.cal.due.takeWhile (fun x => b.calSkips x)

/-- CAL goes on with its cycle: skips, completes, or starts the next step that fits (R417, R418). -/
def Block.calNext (b : Block) : Block :=
  if !b.bit F.CAL_STATUS_CYCLE || b.cal.step.isSome || b.shutdown then b
  else if b.cal.due.head? = some 0 ∧ !b.cal.adjusted.contains 0 ∧ !b.bit F.CAL_STATUS_REF_OK then b.calEnd
  else
    let skip := b.calReached
    let b := b.each skip (fun t b => b.setBit (F.CAL_TRIMt_SKIPPED t) true)
    let b := { b with cal.due := b.cal.due.filter (fun t => !skip.contains t) }
    if b.cal.due.isEmpty then b.calComplete
    else
      match b.cal.due.find? (fun t => !b.calSkips t && b.calReady t) with
      | none => b
      | some t => { b with cal := { b.cal with step := some b.stc, spoilt := b.feedBusy } }.set F.CAL_STATUS_TARGET t

/-- CAL_WINDOW_OPEN (R418): 5 µs after the guard start. -/
def calWindowOpen (b : Block) : Block :=
  if b.shutdown || b.pm.gate then b
  else
    let b := b.untilStc (nsOf b.frm.cur.guard + 5000)
    { b with cal.later := [] }.calNext

/-- Is the step in progress to be abandoned (R420)? A loss of REFCLK abandons it at once (Machine/Clock.lean). -/
def Block.calBroken (b : Block) (t : Nat) : Bool :=
  b.feedBusy || b.cal.spoilt || b.shutdown
    || (match calString t with | some s => b.strState s != strRun | none => false)
    || (match b.calClose t with | some c => decide (c < b.stc) | none => true)

/-- A target passes or fails and leaves the cycle. -/
def Block.calResult (b : Block) (t : Nat) (pass : Bool) : Block :=
  let b := (b.setBit (F.CAL_TRIMt_PASS t) pass).setBit (F.CAL_TRIMt_SKIPPED t) false
  let b := { b with cal := { b.cal with
    due := b.cal.due.filter (· != t), passed := if pass then b.cal.passed ++ [t] else b.cal.passed } }
  if b.cal.passed.contains 0 && b.cal.passed.contains 1 then b.setBit F.CAL_STATUS_TRACED true else b

/-- A new code is computed; it takes effect at the next frame start (R419). -/
def Block.calAdjust (b : Block) (t : Nat) (e : Int) : Block :=
  let code := (b.get (F.CAL_TRIMt_CODE t) : Int) - calDelta t e
  let clamped := if code < 0 then 0 else if 0xFFF < code then 0xFFF else code
  let b := b.countSat (F.CAL_CNT_Ei 2) 1
  let b := { b with cal := { b.cal with
    codes := b.cal.codes.filter (fun c : Nat × Nat => c.1 != t) ++ [(t, clamped.toNat)], adjusted := t :: b.cal.adjusted
    later := t :: b.cal.later, changed := b.cal.changed || clamped != b.get (F.CAL_TRIMt_CODE t) } }
  if clamped = code then b else (b.calResult t false).raise E.CAL_TRIM_RANGE

/-- CAL_STEP_DONE (R419, R420): the step in progress ends after `dur` ns with error `e` in ppm. -/
def calStepDone (e : Int) (dur : Nat) (b : Block) : Block :=
  match b.cal.step with
  | none => b
  | some t0 =>
    let t := b.get F.CAL_STATUS_TARGET
    let b := b.untilStc (t0 + min dur (calTime t))
    if b.calBroken t then b.calAbandon.calNext
    else
      let b := ({ b with cal.step := none }.set F.CAL_STATUS_TARGET 0xFF).countSat (F.CAL_CNT_Ei 0) 1
      let b := b.set (F.CAL_RESIDt_PPM t) (unsigned 32 e)
      let b := if e.natAbs ≤ max 1 (b.get F.CAL_LIMIT_RESID_PPM) then b.calResult t true
        else if 3 ≤ (b.cal.adjusted.filter (· == t)).length then (b.calResult t false).raise E.CAL_RESIDUAL
        else b.calAdjust t e
      b.calNext

/-- Codes computed take effect at FS_own(n) (R414, R419); the windows have closed, so a step in progress is abandoned (R418,
R420). -/
def Block.calFrame (b : Block) : Block :=
  let b := b.calAbandon
  let b := b.each b.cal.codes (fun c b => b.set (F.CAL_TRIMt_CODE c.1) c.2)
  { b with cal.codes := [] }

/-- At the first guard in RUN a cycle starts (R417). -/
def Block.calGuard (b : Block) : Block :=
  if b.stage = stageRun then
    if b.cal.first then b else { b.calStart with cal.first := true }
  else { b with cal.first := false }

/-- When a sample of REF_IN taken now ends: 5 µs after now or after the module window of the guard opens, if the window is then
still open; none without a frame grid (R416, R418). -/
def Block.refSampleAt (b : Block) : Option Nat :=
  let t := max b.stc (nsOf b.frm.cur.guard + 5000) + 5000
  match b.frm.next with
  | some p => if b.role = 0 ∨ nsOf p.own < t + 10000 then none else some t
  | none => none

/-- CAL_REF_SAMPLE (R416): a sample of REF_IN in µV, in the module window of a guard. -/
def calRefSample (uv : Nat) (b : Block) : Block :=
  match b.refSampleAt.filter (fun _ => !b.pm.gate) with
  | none => b
  | some t =>
    let b := b.untilStc t
    let l := (b.cal.samples ++ [(b.clk, uv)]).filter (fun x => decide (b.clk ≤ x.1 + 100000000))
    let vs := l.map (·.2)
    let inside := vs.all (fun v => decide (2487500 ≤ v) && decide (v ≤ 2512500))
    let quiet := decide (vs.foldl max 0 ≤ vs.foldl min uv + 50)
    let b := ({ b with cal.samples := l }.set F.CAL_REF_UV uv).setBit F.CAL_STATUS_REF_OK (inside && quiet)
    let b := b.raiseIf (decide (uv < 2487500) || decide (2512500 < uv)) E.CAL_REF_ABSENT
    let b := b.raiseIf (!quiet) E.CAL_REF_NOISE
    let step : Nat := b.get F.CAL_STATUS_TARGET
    if !(inside && quiet) && decide (step < 2) then b.calAbandon else b

/-- A write of CAL_CMD (R417, R423): CYCLE, then SAVE, then ABORT. -/
def calCmd (v : Nat) (b : Block) : Block :=
  let b := if F.CAL_CMD_CYCLE.of v = 1 then b.calStart else b
  let b := if F.CAL_CMD_SAVE.of v = 1 then b.calSave else b
  if F.CAL_CMD_ABORT.of v = 1 ∧ b.bit F.CAL_STATUS_CYCLE then b.calAbandon.calEnd else b

/-- CAL_INTERVAL (R417): INTERVAL_S after the start of the last cycle. -/
def calInterval (b : Block) : Block :=
  let s := b.get F.CAL_CTRL_INTERVAL_S
  match b.cal.lastStart with
  | none => b
  | some t => if s = 0 then b else (b.untilClk (t + s * 1000000000)).calStart

/-! ### Meanings -/

/-- CAL_CYCLE: a write of CAL_CMD. -/
def execCalCycle (_p : Path) (v : Word) (s : State) : Host.Outcome State Fault Refusal :=
  s.done (s.blk.writing R.CAL_CMD (calCmd v.toNat))
/-- CAL_SAVE: a write of CAL_CMD. -/
def execCalSave (_p : Path) (v : Word) (s : State) : Host.Outcome State Fault Refusal :=
  s.done (s.blk.writing R.CAL_CMD (calCmd v.toNat))
/-- CAL_ABORT: a write of CAL_CMD. -/
def execCalAbort (_p : Path) (v : Word) (s : State) : Host.Outcome State Fault Refusal :=
  s.done (s.blk.writing R.CAL_CMD (calCmd v.toNat))
/-- CAL_INTERVAL. -/
def execCalInterval (s : State) : Host.Outcome State Fault Refusal := s.done (calInterval s.blk)
/-- CAL_SAVE_DONE. -/
def execCalSaveDone (ok : Bool) (after : Nat) (s : State) : Host.Outcome State Fault Refusal := s.done (calSaveDone ok after s.blk)
/-- CAL_REF_SAMPLE. -/
def execCalRefSample (uv : Nat) (s : State) : Host.Outcome State Fault Refusal := s.done (calRefSample uv s.blk)
/-- CAL_STEP_DONE. -/
def execCalStepDone (e : Int) (dur : Nat) (s : State) : Host.Outcome State Fault Refusal := s.done (calStepDone e dur s.blk)
/-- CAL_WINDOW_OPEN. -/
def execCalWindowOpen (s : State) : Host.Outcome State Fault Refusal := s.done (calWindowOpen s.blk)

end Sys2Proof.Machine
end

