-- ==== Sys2Proof/Machine/Rpl.lean ====
section
/-!
DEFINITION. The replay store RPL (R366 to R370): regions, recording of completed source buffers, and the entries presented
to compositions.
-/

namespace Sys2Proof.Machine

/-- Is RPL at work: HEAD or HEAD_TILE on an H128, with its clocks running (R23, R429)? -/
def Block.rplOn (b : Block) : Bool := b.role != 0 && !b.idle 0x2B && b.pipes

/-- Channel `c` beside its registers. -/
def Block.rplChan (b : Block) (c : Nat) : RplChan := b.rpl.getD c RplChan.reset

/-- Change channel `c`. -/
def Block.onRpl (b : Block) (c : Nat) (f : RplChan → RplChan) : Block := { b with rpl := b.rpl.modify c f }

/-- The values in force of BASE, ENTRIES, ENTRY_SIZE, SRC_ID and SRC_WB. -/
def Block.rplRegion (b : Block) (c : Nat) : List Nat :=
  [b.actPair (F.RPL_CHc_BASE_LO c) (F.RPL_CHc_BASE_HI_BASE c), b.act (F.RPL_CHc_ENTRIES_ENTRIES c),
   b.act (F.RPL_CHc_ENTRY_SIZE c), b.act (F.RPL_CHc_CTRL_SRC_ID c), b.act (F.RPL_CHc_CTRL_SRC_WB c)]

/-- D, the bytes of the descriptors' pages (R366). -/
def rplDesc (entries : Nat) : Nat := ceilDiv (64 * entries) 4096 * 4096

/-- The span of a channel's region in force. -/
def Block.rplSpan (b : Block) (c : Nat) : Span :=
  let n := b.act (F.RPL_CHc_ENTRIES_ENTRIES c)
  ⟨b.actPair (F.RPL_CHc_BASE_LO c) (F.RPL_CHc_BASE_HI_BASE c), rplDesc n + n * b.act (F.RPL_CHc_ENTRY_SIZE c)⟩

/-- Descriptor and data address of entry `i` of a region. -/
def entryPlace (region : List Nat) (i : Nat) : Nat × Nat :=
  let base := region.getD 0 0
  (base + 64 * i, base + rplDesc (region.getD 1 0) + i * region.getD 2 0)

/-- MODE of channel `c` in force. -/
def Block.rplMode (b : Block) (c : Nat) : Nat := b.act (F.RPL_CHc_CTRL_MODE c)

/-- Does channel `c` record (R367)? -/
def Block.rplRecords (b : Block) (c : Nat) : Bool :=
  b.rplMode c == 1 || b.rplMode c == 2 && b.actBit (F.RPL_CHc_CTRL_REC c)

/-- VALID, OLDEST, NEWEST and COPYING follow the channel (R374). -/
def Block.rplShow (b : Block) (c : Nat) : Block :=
  let q := b.rplChan c
  let time (e : Option Entry) : Nat := match e with | some e => nsOf e.ev | none => 0
  let b := (b.set (F.RPL_CHc_VALID_VALID c) q.entries.length).setBit (F.RPL_CHc_STATUS_COPYING c) q.copy.isSome
  (b.setPair (F.RPL_CHc_OLDEST_LO c) (F.RPL_CHc_OLDEST_HI c) (time q.entries.head?)).setPair
    (F.RPL_CHc_NEWEST_LO c) (F.RPL_CHc_NEWEST_HI c) (time q.entries.getLast?)

/-- RPL's tolerance while a copy runs (R359, client 3) follows by LATENCY_DECLARATION; a copy runs if any channel copies. -/
def Block.copying (b : Block) : Bool := b.rpl.any (·.copy.isSome)

/-! ### Holds on source buffers -/

/-- Add or remove a hold on a surface. -/
def Surf.hold (x : Surf) (add : Bool) : Surf := { x with holds := if add then x.holds + 1 else x.holds - 1 }

/-- The surfaces of a list whose serial is `id`, changed; the client that keeps them writes the descriptors of those. -/
def Block.onSurfs (b : Block) (client : Nat) (l : List Surf) (id : Nat) (f : Surf → Surf) : Block × List Surf :=
  let l' := l.map (fun x => if x.id == id && id != 0 then f x else x)
  (b.each (l'.filter (fun x => x.id == id && id != 0)) (fun x b => b.writeDesc client x), l')

/-- HELD of stream `s` (R163). -/
def Block.ingHeld (b : Block) (s : Nat) : Block :=
  let q := b.ing.streams.getD s IngStream.reset
  b.set (F.ING_STRs_STATUS_HELD s) ((q.bufs ++ q.old).filter (fun x => decide (0 < x.holds))).length

/-- Add or remove a hold on the buffer of stream `s` with serial `id`; an old region's buffer goes when it has no hold. -/
def Block.holdStream (b : Block) (s id : Nat) (add : Bool) : Block :=
  let q := b.ing.streams.getD s IngStream.reset
  let (b, bufs) := b.onSurfs 1 q.bufs id (·.hold add)
  let (b, old) := b.onSurfs 1 q.old id (·.hold add)
  let old := old.filter (fun x => decide (0 < x.holds) || x.id == q.newest || q.fills.any (fun f => f.buf == some x.id))
  { b with ing.streams := b.ing.streams.set s { q with bufs := bufs, old := old } }.ingHeld s

/-- Add or remove a hold on the write-back buffer with serial `id`. -/
def Block.holdWb (b : Block) (id : Nat) (add : Bool) : Block :=
  let (b, bufs) := b.onSurfs 2 b.cmp.bufs id (·.hold add)
  { b with cmp.bufs := bufs }

/-- RPL's hold on a source. -/
def Block.holdSource (b : Block) (stream : Option Nat) (id : Nat) (add : Bool) : Block :=
  match stream with
  | some s => b.holdStream s id add
  | none => b.holdWb id add

/-! ### Recording (R367, R368) -/

/-- Put an entry among the others, by event time. -/
def insertEntry (e : Entry) : List Entry → List Entry
  | [] => [e]
  | x :: r => if e.ev < x.ev then e :: x :: r else x :: insertEntry e r

/-- The entry that a copy may overwrite: a free one, the lowest, else the oldest that no composition holds and that, in
PLAY, is not the one after the presented entry. -/
def Block.targetEntry (b : Block) (c : Nat) : Option Nat :=
  let q := b.rplChan c
  let used := q.entries.map (·.index)
  match (List.range (q.region.getD 1 0)).find? (fun i => !used.contains i) with
  | some i => some i
  | none =>
    let after := match q.last with
      | some x => ((q.entries.dropWhile (fun e => e.index != x.index)).drop 1).head?.map (·.index)
      | none => none
    (q.entries.find? (fun e => !q.shown.any (·.2 == e.index) && !(b.rplMode c == 2 && after == some e.index))).map (·.index)

/-- A record that is dropped (R368). -/
def Block.recDrop (b : Block) (c : Nat) (e : Err) : Block := (b.countSat (F.RPL_CHc_CNT_Ei c 0) 1).raise e

/-- Channel `c` takes a completed source surface (R367 step 1), or not (R368). -/
def Block.recordOn (b : Block) (c : Nat) (stream : Option Nat) (x : Surf) (bytes : Nat) (ev : Int) : Block :=
  let q := b.rplChan c
  if q.copy.isSome then b.recDrop c E.RPL_REC_DROP
  else if b.act (F.RPL_CHc_ENTRY_SIZE c) < bytes then b.recDrop c E.RPL_SIZE
  else
    match b.targetEntry c with
    | none => b.recDrop c E.RPL_REC_DROP
    | some i =>
      let b := b.onRpl c (fun q => { q with
        entries := q.entries.filter (fun e => e.index != i), copy := some ⟨i, x, stream, ev⟩ })
      let b := b.writeDesc 3 { x with desc := (entryPlace q.region i).1, st := 1, holds := 0 }
      (b.holdSource stream x.id true).rplShow c

/-- A buffer of ING stream `s`, or of write-back, has reached COMPLETE: every channel that records it takes it. -/
def Block.recordAll (b : Block) (stream : Option Nat) (x : Surf) (bytes : Nat) (ev : Int) : Block :=
  if !b.rplOn then b
  else
    b.each (List.range 16) (fun c b =>
      let mine := match stream with
        | some s => b.act (F.RPL_CHc_CTRL_SRC_WB c) == 0 && b.act (F.RPL_CHc_CTRL_SRC_ID c) == s
        | none => b.act (F.RPL_CHc_CTRL_SRC_WB c) == 1
      if mine && b.rplRecords c then b.recordOn c stream x bytes ev else b)

/-- REPLAY_COPY_DONE (R367 steps 2 to 4): the copy of channel `c` ends; `bad` are the offsets of the 64-byte words of the
source that read poisoned (R361). -/
def replayCopyDone (c : Nat) (bad : List Nat) (b : Block) : Block :=
  match (b.rplChan c).copy with
  | none => b
  | some k =>
    if !b.rplOn then b
    else
      let bytes := match k.stream with
        | some _ => k.surf.bytes
        | none => b.cmp.region.getD 2 0
      let place := entryPlace (b.rplChan c).region k.index
      let bad := bad.filter (fun o => decide (o < bytes))
      let data := (List.range bytes).map (fun i =>
        if bad.any (fun o => o / 64 == i / 64) then (0 : Byte) else b.dramByte (k.surf.data + i))
      let b := (b.dramUse 3 k.surf.data bytes).dramWrite 3 place.2 data
      let x := { k.surf with desc := place.1, data := place.2, st := 2, holds := 0, inc := k.surf.inc || !bad.isEmpty }
      let b := (b.writeDesc 3 x).when (!bad.isEmpty) (·.raise E.RPL_POISON)
      let b := b.onRpl c (fun q => { q with copy := none, entries := insertEntry ⟨k.index, x, k.ev⟩ q.entries })
      (b.holdSource k.stream k.surf.id false).rplShow c

/-! ### Presentation (R369) -/

/-- An install that changes the region discards the channel's history and abandons its copy (R366). -/
def Block.rplDiscard (b : Block) (c : Nat) : Block :=
  let q := b.rplChan c
  let region := b.rplRegion c
  if q.region = region then b
  else
    let b := match q.copy with
      | some k => b.holdSource k.stream k.surf.id false
      | none => b
    let b := b.onRpl c (fun q => { q with region := region, entries := [], copy := none, shown := [], last := none })
    (((b.set (F.RPL_CHc_STATUS_PRESENTING c) 0).set (F.RPL_CHc_STATUS_ENTRY c) 0).set (F.RPL_CHc_STATUS_CAUGHT_UP c) 0).rplShow c

/-- The entry with the largest event time not after `p`, and whether `p` lies before all (RANGE) or after all
(CAUGHT_UP); `p` counts in 256ths of the unit of event times. -/
def playEntry (l : List Entry) (p : Int) : Option Entry × Bool × Bool :=
  match (l.filter (fun e => decide (256 * e.ev ≤ p))).getLast?, l.getLast? with
  | some e, some z => (some e, false, decide (256 * z.ev < p))
  | _, _ => (l.head?, !l.isEmpty, false)

/-- Channel `c` fixes the entry it presents to composition `m` at FS(m − 1) = `fs`; `installed` tells an install of the
group at that frame start. -/
def Block.rplPresent (b : Block) (c m : Nat) (fs : Int) (installed : Bool) : Block :=
  let b := b.rplDiscard c
  let q := b.rplChan c
  let mode := b.rplMode c
  let t0 : Int := if b.actBit (F.RPL_CHc_CTRL_TGT_CUR c) then
      match q.last, q.entries.getLast? with
      | some e, _ => e.ev
      | none, some e => e.ev
      | none, none => 0
    else q16 (b.actPair (F.RPL_CHc_TARGET_LO c) (F.RPL_CHc_TARGET_HI c))
  let b := if installed ∧ mode = 2 then b.onRpl c (fun q => { q with t0 := t0, from' := fs }) else b
  let q := b.rplChan c
  let p := 256 * q.t0 + b.act (F.RPL_CHc_CTRL_SPEED c) * (fs - q.from')
  let (e, range, caught) := if mode = 1 then (q.entries.getLast?, false, false)
    else if mode = 2 then playEntry q.entries p else (none, false, false)
  let b := b.onRpl c (fun q => { q with
    last := e
    shown := match e with
      | some e => q.shown ++ [(m, e.index)]
      | none => q.shown })
  let b := (b.setBit (F.RPL_CHc_STATUS_CAUGHT_UP c) caught).setBit (F.RPL_CHc_STATUS_RANGE c) range
  let b := (b.setBit (F.RPL_CHc_STATUS_PRESENTING c) e.isSome).set (F.RPL_CHc_STATUS_ENTRY c) ((e.map (·.index)).getD 0)
  b.when range (fun b => (b.countSat (F.RPL_CHc_CNT_Ei c 1) 1).raise E.RPL_RANGE)

/-- RPL's capture at FS(m − 1) (R369). -/
def Block.rplCapture (b : Block) (m : Nat) (fs : Int) (installed : Bool) : Block :=
  if b.rplOn then b.each (List.range 16) (fun c b => b.rplPresent c m fs installed) else b

/-- The surface that channel `c` presents to composition `m`. -/
def Block.rplShown (b : Block) (c m : Nat) : Option Surf :=
  let q := b.rplChan c
  (q.shown.find? (·.1 == m)).bind (fun x => (q.entries.find? (·.index == x.2)).map (·.surf))

/-- Composition `m` has ended: what was presented to it is released. -/
def Block.rplRelease (b : Block) (m : Nat) : Block :=
  { b with rpl := b.rpl.map (fun q : RplChan => { q with shown := q.shown.filter (fun x : Nat × Nat => decide (m < x.1)) }) }

/-- A reset discards every channel's history (R366). -/
def Block.rplReset (b : Block) : Block := { b with rpl := List.replicate 16 RplChan.reset }

/-- REPLAY_COPY_DONE. -/
def execReplayCopyDone (c : Nat) (bad : List Nat) (s : State) : Host.Outcome State Fault Refusal :=
  s.done (replayCopyDone c bad s.blk)

end Sys2Proof.Machine
end

