-- ==== Sys2Proof/Machine/Ing.lean ====
section
/-!
DEFINITION. ING: paths (R152), seamless merge (R151), source frames and surfaces (R153 to R161), the monitoring sender
(R162).
-/

namespace Sys2Proof.Machine

/-! ### Streams and paths -/

/-- Stream `s` beside its registers. -/
def Block.stream (b : Block) (s : Nat) : IngStream := b.ing.streams.getD s IngStream.reset

/-- Change stream `s`. -/
def Block.onIng (b : Block) (s : Nat) (f : IngStream → IngStream) : Block :=
  { b with ing.streams := b.ing.streams.modify s f }

/-- SKEW_US of stream `s` in ns. -/
def Block.skewNs (b : Block) (s : Nat) : Nat := b.act (F.ING_STRs_BUF_CFG_SKEW_US s) * 1000

/-- The UP bits of stream `s`; a change sets PATH_CHANGE (R152, R163). -/
def Block.setUp (b : Block) (s : Nat) (a c : Bool) : Block :=
  let was := (b.bit (F.ING_STRs_STATUS_PATH_A_UP s), b.bit (F.ING_STRs_STATUS_PATH_B_UP s))
  let b := (b.setBit (F.ING_STRs_STATUS_PATH_A_UP s) a).setBit (F.ING_STRs_STATUS_PATH_B_UP s) c
  (b.setBit (F.ING_STRs_STATUS_RECEIVING s) (a || c)).irqIf (was != (a, c)) F.ING_IRQ_STATUS_PATH_CHANGE

/-- A path delivers a packet (R152): it is up. -/
def Block.pathHeard (b : Block) (s e : Nat) : Block :=
  let b := b.onIng s (fun q => { q with heard := q.heard.set e (some b.clk) })
  let b := b.countPair (F.ING_STRs_CNT_Ti_LO s (1 + e)) (F.ING_STRs_CNT_Ti_HI s (1 + e)) 1
  b.setUp s (e == 0 || b.bit (F.ING_STRs_STATUS_PATH_A_UP s)) (e == 1 || b.bit (F.ING_STRs_STATUS_PATH_B_UP s))

/-- Two milliseconds, the silence that takes a path down (R152, R383). -/
def pathSilence : Nat := 2000000

/-- STREAM_PATH_TIMEOUT (R152): path `e` of stream `s` has delivered nothing for 2 ms. -/
def streamPathTimeout (s e : Nat) (b : Block) : Block :=
  let upA := b.bit (F.ING_STRs_STATUS_PATH_A_UP s)
  let upB := b.bit (F.ING_STRs_STATUS_PATH_B_UP s)
  match ((b.stream s).heard[e]?).join with
  | none => b
  | some t =>
    if 16 ≤ s ∨ 2 ≤ e ∨ !(if e = 0 then upA else upB) ∨ !b.ingOn then b
    else
      let b := b.untilClk (t + pathSilence)
      let other := match ((b.stream s).heard[1 - e]?).join with
        | some u => (if e = 0 then upB else upA) && decide (b.clk < u + pathSilence)
        | none => false
      if other then (b.setUp s (e != 0) (e != 1)).raiseAt (E.ING_STR_PATH_DOWN s) s
      else (b.setUp s false false).raiseAt (E.ING_STR_BOTH_DOWN s) s

/-! ### Surfaces that fill (R153 to R155, R158 to R160) -/

/-- The parts of `lo` to `hi` that a list of runs in order leaves open. -/
def holes : List (Nat × Nat) → Nat → Nat → List (Nat × Nat)
  | [], lo, hi => if lo < hi then [(lo, hi)] else []
  | (a, z) :: r, lo, hi => (if lo < min a hi then [(lo, min a hi)] else []) ++ holes r (max lo z) hi

/-- Insert a run into an ordered cover. -/
def insertRun (x : Nat × Nat × Nat) : List (Nat × Nat × Nat) → List (Nat × Nat × Nat)
  | [] => [x]
  | y :: r => if x.1 < y.1 ∨ x.1 = y.1 ∧ x.2.1 < y.2.1 then x :: y :: r else y :: insertRun x r

/-- What is open in crop row `r` of width `w`, up to column `hi`. -/
def Filling.open' (f : Filling) (r hi : Nat) : List (Nat × Nat) :=
  holes ((f.cover.filter (fun x => x.1 == r)).map (·.2)) 0 hi

/-- The surface with serial `id` of a stream. -/
def IngStream.surf (q : IngStream) (id : Nat) : Option Surf :=
  if id = 0 then none else (q.bufs ++ q.old).find? (·.id == id)

/-- Change the surface with serial `id` of stream `s`; its descriptor follows. -/
def Block.onSurf (b : Block) (s id : Nat) (f : Surf → Surf) : Block :=
  let q := b.stream s
  let (b, bufs) := b.onSurfs 1 q.bufs id f
  let (b, old) := b.onSurfs 1 q.old id f
  b.onIng s (fun q => { q with bufs := bufs, old := old })

/-- Put a filling frame back. -/
def Block.putFill (b : Block) (s : Nat) (f : Filling) : Block :=
  b.onIng s (fun q => { q with fills := q.fills.map (fun g => if g.ts == f.ts then f else g) })

/-- Buffers of a moved region stay while held, while they fill, or as the newest complete one. -/
def Block.pruneOld (b : Block) (s : Nat) : Block :=
  b.onIng s (fun q => { q with old := q.old.filter (fun x =>
    decide (0 < x.holds) || x.id == q.newest || q.fills.any (fun f => f.buf == some x.id)) })

/-- The buffers of stream `s`'s region in force (R153). -/
def Block.ingBuffers (b : Block) (s : Nat) : List (Nat × Nat) :=
  let base := b.actPair (F.ING_STRs_BUF_BASE_LO s) (F.ING_STRs_BUF_BASE_HI_BASE s)
  (List.range (b.act (F.ING_STRs_BUF_CFG_COUNT s))).map (fun i =>
    (base + 64 * i, base + 4096 + i * b.act (F.ING_STRs_BUF_SIZE s)))

/-- The region in force is the one the stream fills: a buffer that has not moved goes on, a moved one is left behind (R155). -/
def Block.ingRegionSync (b : Block) (s : Nat) : Block :=
  let want := b.ingBuffers s
  let at' (p : Nat × Nat) (x : Surf) : Bool := x.desc == p.1 && x.data == p.2
  if (b.stream s).bufs.map (fun x => (x.desc, x.data)) = want then b
  else
    (b.onIng s (fun q => { q with
      bufs := want.map (fun p => (q.bufs.find? (at' p)).getD (Surf.free p.1 p.2))
      old := q.old ++ q.bufs.filter (fun x => x.id != 0 && !want.any (fun p => at' p x)) })).pruneOld s

/-- Crop row and column of a raster position: pixels before it are those of earlier rows, or of its row to its left. -/
def cropLimit (x : Surf) (row col : Nat) : Nat × Nat :=
  if row < x.y0 then (0, 0) else (row - x.y0, min (col - x.x0) x.w)

/-- Columns of crop row `r` before the limit. -/
def upTo (x : Surf) (lim : Nat × Nat) (r : Nat) : Nat := if r < lim.1 then x.w else if r = lim.1 then lim.2 else 0

/-- What fills a concealed pixel: the newest complete surface of the same FORMAT and crop size, else black (R154). -/
def Block.concealPixel (b : Block) (like : Option Surf) (x : Surf) (r c : Nat) : List Nat :=
  match like with
  | some y => if y.fmt = x.fmt ∧ y.w = x.w ∧ y.h = x.h then (b.surfPixel y r c).getD (blackPixel x.fmt) else blackPixel x.fmt
  | none => blackPixel x.fmt

/-- Put pixels of crop row `r` from column `c` into the surface: into DRAM, or into the staging pool for OCS. -/
def Block.putPixels (b : Block) (f : Filling) (x : Surf) (r c : Nat) (px : List (List Nat)) : Block × Filling :=
  let f := { f with cover := insertRun (r, c, c + px.length) f.cover }
  if x.ocs then
    (b, { f with stage := writePixels x.fmt (r * rawStride x.w x.fmt + c * fmtBytes x.fmt) px f.stage })
  else
    let a := x.data + r * x.stride + c * fmtBytes x.fmt
    ({ b.dramUse 1 a (px.length * fmtBytes x.fmt) with dram := writePixels x.fmt a px b.dram }, f)

/-- OCS tracks whose rows are all there are written, each with its header; the last one repeats the last row (R160). -/
def Block.writeTracks (b : Block) (f : Filling) (x : Surf) : Block × Filling :=
  if !x.ocs then (b, f)
  else
    let row (r : Nat) : Nat := min r (x.h - 1)
    let ready := (List.range (ceilDiv x.h 8)).filter (fun t =>
      !f.done.contains t && (List.range 8).all (fun i => (f.open' (row (8 * t + i)) x.w).isEmpty))
    let px (t r c : Nat) : List Nat :=
      readPixel f.stage x.fmt (row (8 * t + r) * rawStride x.w x.fmt + c * fmtBytes x.fmt)
    (b.each ready (fun t b => b.dramWrite 1 (x.data + t * x.stride) (ocsTrack x.w x.fmt (px t))),
     { f with
       done := f.done ++ ready
       stage := f.stage.filter (fun c => !ready.contains (c.1 / rawStride x.w x.fmt / 8)) })

/-- Crop rows complete from the top. -/
def rowsDone (f : Filling) (x : Surf) : Nat :=
  if x.ocs then
    let n := ceilDiv x.h 8
    min x.h (8 * ((List.range n).find? (fun t => !f.done.contains t)).getD n)
  else ((List.range x.h).find? (fun r => !(f.open' r x.w).isEmpty)).getD x.h

/-- The rows written so far show in ROWS_DONE, after the pixels (R158 to R160). -/
def Block.advance (b : Block) (s : Nat) (f : Filling) : Block :=
  match f.buf.bind (b.stream s).surf with
  | none => b.putFill s f
  | some x =>
    let (b, f) := b.writeTracks f x
    (b.putFill s f).onSurf s x.id (fun y => { y with rows := rowsDone f x })

/-- Conceal every open pixel before a raster limit (R154): the rows are counted, LOSS and INCOMPLETE set. -/
def Block.conceal (b : Block) (s : Nat) (f : Filling) (lim : Option (Nat × Nat)) : Block :=
  match f.buf.bind (b.stream s).surf with
  | none => b
  | some x =>
    let lim := match lim with | some l => cropLimit x l.1 l.2 | none => (x.h, 0)
    let like := (b.stream s).surf (b.stream s).newest
    let parts := ((List.range x.h).map (fun r => (f.open' r (upTo x lim r)).map (fun p => (r, p)))).flatten
    if parts.isEmpty then b
    else
      let rows := (parts.map (·.1)).dedup.filter (fun r => !f.hidden.contains r)
      let (b, f) := parts.foldl (fun (bf : Block × Filling) p =>
        bf.1.putPixels bf.2 x p.1 p.2.1
          ((List.range (p.2.2 - p.2.1)).map (fun i => bf.1.concealPixel like x p.1 (p.2.1 + i)))) (b, f)
      let b := b.countSat (F.ING_STRs_CNT_Ei s 2) rows.length
      let b := (b.raiseAt (E.ING_STR_LOSS s) s).onSurf s x.id (fun y => { y with inc := true })
      b.advance s { f with hidden := f.hidden ++ rows }

/-- A source frame is concluded (R154): what is missing is concealed and the buffer is COMPLETE; RPL may record it. -/
def Block.concludeFill (b : Block) (s : Nat) (f : Filling) : Block :=
  let b := b.conceal s f none
  let f := ((b.stream s).fills.find? (·.ts == f.ts)).getD f
  let b := b.onIng s (fun q => { q with
    fills := q.fills.filter (fun g => g.ts != f.ts), past := (f.ts :: q.past).take 16 })
  match f.buf with
  | none => b
  | some id =>
    let b := b.onSurf s id (fun y => { y with st := 2, lost := f.lost })
    let b := (b.onIng s (fun q => { q with newest := id })).countPair (F.ING_STRs_CNT_Ti_LO s 0) (F.ING_STRs_CNT_Ti_HI s 0) 1
    let b := b.set (F.ING_STRs_STATUS_NEWEST s) (((b.stream s).bufs.findIdx? (·.id == id)).getD 0)
    let b := b.pruneOld s
    match (b.stream s).surf id with
    | none => b
    | some x => b.recordAll (some s) x x.bytes (rtpEvent x.rtp x.stc)

/-- Conclude a frame whose rows are all written (R154). -/
def Block.concludeFull (b : Block) (s ts : Nat) : Block :=
  match (b.stream s).fills.find? (·.ts == ts) with
  | none => b
  | some f =>
    match f.buf.bind (b.stream s).surf with
    | none => b
    | some x => if x.h ≤ x.rows then b.concludeFill s f else b

/-- A source frame begins (R153): it takes a buffer or is dropped; FRM learns of it; the frames before it have SKEW_US
left (R154). -/
def Block.beginFill (b : Block) (s : Nat) (k : VideoPacket) : Block :=
  let b := b.ingRegionSync s
  let b := b.onIng s (fun q => { q with
    begun := q.begun + 1
    events := (rtpEvent k.ts k.rx :: q.events).take 2
    fills := q.fills.map (fun f => if f.due.isNone then { f with due := some (b.clk + f.skew) } else f) })
  let q := b.stream s
  let fmt := b.act (F.ING_STRs_CTRL_FORMAT s)
  let ocs := b.actBit (F.ING_STRs_CTRL_OCS s)
  let w := b.act (F.ING_STRs_CROP_WH_W s)
  let new (buf : Option Nat) : Filling :=
    ⟨k.ts, buf, b.act (F.ING_STRs_SRC_SIZE_W s), b.act (F.ING_STRs_SRC_SIZE_H s), b.act (F.ING_STRs_CTRL_PT s), b.skewNs s,
      [], [], [], [], 0, none⟩
  let b : Block := match oldestFree q.bufs q.newest (q.fills.filterMap (·.buf)) with
    | none =>
      let b := b.onIng s (fun q => { q with fills := q.fills ++ [new none] })
      (b.countSat (F.ING_STRs_CNT_Ei s 3) 1).raiseAt (E.ING_STR_FRAME_DROP s) s
    | some x =>
      let id := q.serial + 1
      let y : Surf := { x with
        id := id, st := 1, inc := false, a := false, b := false, rows := 0, stc := k.rx, rtp := k.ts
        seq := k.seq, frame := q.begun, fmt := fmt, ocs := ocs, w := w, h := b.act (F.ING_STRs_CROP_WH_H s)
        x0 := b.act (F.ING_STRs_CROP_XY_X0 s), y0 := b.act (F.ING_STRs_CROP_XY_Y0 s)
        stride := strideOf ocs w fmt, lost := 0 }
      (b.onIng s (fun q => { q with
        serial := id, bufs := q.bufs.map (fun z => if z.desc == x.desc then y else z)
        fills := q.fills ++ [new (some id)] })).writeDesc 1 y
  if b.isHead ∧ b.act F.FRM_REF_KIND = 1 ∧ b.act F.FRM_REF_STREAM = s then b.frmEvent (rtpEvent k.ts k.rx) else b

/-- A segment with pixels outside SRC_SIZE sets ERR.BOUNDS (R149). -/
def Block.segBounds (b : Block) (s : Nat) (f : Filling) (g : Seg) : Block :=
  if f.srcH ≤ g.row ∨ f.srcW < g.x + g.pixels.length then b.raiseAt (E.ING_STR_BOUNDS s) s else b

/-- One segment of a packet: what lies in the source and in the crop is written (R149, crop at ingest). -/
def Block.putSeg (b : Block) (s : Nat) (f : Filling) (x : Surf) (g : Seg) : Block × Filling :=
  let z := g.x + g.pixels.length
  let b := b.segBounds s f g
  let lo := max g.x x.x0
  let hi := min (min z f.srcW) (x.x0 + x.w)
  if f.srcH ≤ g.row ∨ g.row < x.y0 ∨ x.y0 + x.h ≤ g.row ∨ hi ≤ lo then (b, f)
  else b.putPixels f x (g.row - x.y0) (lo - x.x0) ((g.pixels.drop (lo - g.x)).take (hi - lo))

/-- The pixels of an accepted packet go to the surface of its source frame (R151, R153, R154). -/
def Block.placePacket (b : Block) (s : Nat) (k : VideoPacket) : Block :=
  let q := b.stream s
  if q.past.contains k.ts && !q.fills.any (·.ts == k.ts) then b.countSat (F.ING_STRs_CNT_Ei s 1) 1
  else
    let b := if q.fills.any (·.ts == k.ts) then b else b.beginFill s k
    let n := (k.segs.map (·.pixels.length)).sum
    let b := b.onIng s (fun q => { q with
      recent := q.recent.filter (fun r : Nat × Nat => decide (b.clk < r.1 + 1000000)) ++ [(b.clk, n)] })
    match (b.stream s).fills.find? (·.ts == k.ts) with
    | none => b
    | some f =>
      match f.buf.bind (b.stream s).surf with
      | none => b.each k.segs (fun g b => b.segBounds s f g)
      | some x =>
        let (b, f) := k.segs.foldl (fun (bf : Block × Filling) g => bf.1.putSeg s bf.2 x g) (b, f)
        let b := b.onSurf s x.id (fun y => { y with a := y.a || k.addr.eth == 0, b := y.b || k.addr.eth == 1 })
        (b.advance s f).concludeFull s k.ts

/-! ### Merge (R151) -/

/-- Every filling frame of stream `s` is concluded. -/
def Block.concludeAll (b : Block) (s : Nat) : Block := b.each (b.stream s).fills (fun f b => b.concludeFill s f)

/-- Does a run of numbers (first, count) hold `n`? -/
def runHolds (r : Nat × Nat) (n : Nat) : Bool := decide ((n + 2 ^ 32 - r.1) % 2 ^ 32 < r.2)

/-- The run of numbers that ends before `next`. -/
def IngStream.run (q : IngStream) : List (Nat × Nat) :=
  match q.origin, q.next with
  | some o, some nx => [(o, (nx + 2 ^ 32 - o) % 2 ^ 32)]
  | _, _ => []

/-- Has a copy of number `n` been received, or its place been passed over as a gap (R151)? -/
def IngStream.knows (q : IngStream) (n : Nat) : Bool := (q.run ++ q.seen).any (runHolds · n)

/-- The number `n` is the newest; a run keeps the last 2 ^ 31 numbers. -/
def IngStream.upTo (q : IngStream) (n : Nat) : IngStream :=
  let nx := (n + 1) % 2 ^ 32
  let o := q.origin.getD n
  { q with next := some nx, origin := some (if (nx + 2 ^ 32 - o) % 2 ^ 32 ≤ 2 ^ 31 then o else (nx + 2 ^ 31) % 2 ^ 32) }

/-- A source restart (R151): the current frames are concluded, the numbers of open gaps are lost with them (DEDUCED, log entry 68),
and number `n` begins a new run. -/
def Block.sourceRestart (b : Block) (s n : Nat) : Block :=
  let b := b.concludeAll s
  let open' := ((b.stream s).gaps.map (·.seqs)).flatten
  let b := b.when (!open'.isEmpty) (·.countSat (F.ING_STRs_CNT_Ei s 0) open'.length)
  b.onIng s (fun q => { q with gaps := [], lostSeqs := q.lostSeqs ++ open', seen := q.seen ++ q.run, origin := none }.upTo n)

/-- SKEW_US for the source frame with RTP timestamp `ts`: the one it began with, if it fills (R155). -/
def Block.frameSkew (b : Block) (s ts : Nat) : Nat :=
  match (b.stream s).fills.find? (·.ts == ts) with
  | some f => f.skew
  | none => b.skewNs s

/-- A packet that passes R149 is merged by its sequence number. -/
def Block.merge (b : Block) (s : Nat) (k : VideoPacket) : Block :=
  let q := b.stream s
  let d := match q.next with | some nx => (k.seq + 2 ^ 32 - nx) % 2 ^ 32 | none => 0
  if 2 ^ 31 ≤ d then
    if q.gaps.any (·.seqs.contains k.seq) then
      let gaps := (q.gaps.map (fun g => { g with seqs := g.seqs.filter (· != k.seq) })).filter (fun g => !g.seqs.isEmpty)
      (b.onIng s (fun q => { q with gaps := gaps })).placePacket s k
    else if q.lostSeqs.contains k.seq then b.countSat (F.ING_STRs_CNT_Ei s 1) 1
    else if q.knows k.seq then b.countPair (F.ING_STRs_CNT_Ti_LO s 3) (F.ING_STRs_CNT_Ti_HI s 3) 1
    else (b.onIng s (fun q => { q with seen := q.seen ++ [(k.seq, 1)] })).placePacket s k
  else if 65536 < d then (b.sourceRestart s k.seq).placePacket s k
  else
    let seg := k.segs.headD ⟨0, 0, []⟩
    let gap : List Gap := if d = 0 then [] else
      [⟨(List.range d).map (fun i => (q.next.getD 0 + i) % 2 ^ 32), b.clk + b.frameSkew s k.ts,
        ((q.fills.getLast?.map (·.ts)).getD k.ts), k.ts, seg.row, seg.x⟩]
    (b.onIng s (fun q => { q with gaps := q.gaps ++ gap }.upTo k.seq)).placePacket s k

/-- The payload type a packet must bear: that of the frame it belongs to, if that fills (R149, R155). -/
def Block.framePt (b : Block) (s ts : Nat) : Nat :=
  match (b.stream s).fills.find? (·.ts == ts) with
  | some f => f.pt
  | none => b.act (F.ING_STRs_CTRL_PT s)

/-- STREAM_PACKET (R147, R149, R151, R164). -/
def streamPacket (k : VideoPacket) (b : Block) : Block :=
  match b.ingMatch k.addr with
  | none => b
  | some s =>
    let b := b.pathHeard s k.addr.eth
    if k.pt ≠ b.framePt s k.ts then (b.countSat (F.ING_STRs_CNT_Ei s 4) 1).raiseAt (E.ING_STR_PT s) s
    else if k.field then (b.countSat (F.ING_STRs_CNT_Ei s 5) 1).raiseAt (E.ING_STR_FORMAT s) s
    else if !k.room then b.raiseAt E.ING_RATE s
    else b.merge s k

/-- SKEW_WINDOW_EXPIRY (R151, R154): the numbers of the oldest gap are lost, and what they carried is concealed. -/
def skewWindowExpiry (s : Nat) (b : Block) : Block :=
  match (b.stream s).gaps with
  | [] => b
  | g :: rest =>
    if !b.ingOn then b
    else
      let b := b.untilClk g.due
      let n := g.seqs.length
      let b := b.onIng s (fun q => { q with
        gaps := rest, lostSeqs := q.lostSeqs ++ g.seqs
        fills := q.fills.map (fun f => if f.ts == g.before then { f with lost := f.lost + n } else f) })
      let b := b.countSat (F.ING_STRs_CNT_Ei s 0) n
      let b := match (b.stream s).fills.find? (fun f => f.ts == g.before && g.before != g.after) with
        | some f => b.conceal s f none
        | none => b
      let b := match (b.stream s).fills.find? (·.ts == g.after) with
        | some f => b.conceal s f (some (g.row, g.x))
        | none => b
      (b.concludeFull s g.before).concludeFull s g.after

/-- SOURCE_FRAME_CONCLUDE (R154): SKEW_US has passed since the frame after the oldest filling one began. -/
def sourceFrameConclude (s : Nat) (b : Block) : Block :=
  match (b.stream s).fills with
  | [] => b
  | f :: _ =>
    match f.due with
    | none => b
    | some t => if b.ingOn then (b.untilClk t).concludeFill s f else b

/-! ### Installs (R150, R155) -/

/-- Stream `s` after an install: EN that goes to 0 abandons what fills, a disabled path stops. -/
def Block.ingSync (b : Block) (s : Nat) : Block :=
  let q := b.stream s
  let on := b.actBit (F.ING_STRs_CTRL_EN s)
  let b := b.set (F.ING_STRs_STRIDE s)
    (strideOf (b.actBit (F.ING_STRs_CTRL_OCS s)) (b.act (F.ING_STRs_CROP_WH_W s)) (b.act (F.ING_STRs_CTRL_FORMAT s)))
  let b := b.set (F.ING_STRs_SURF_BYTES s)
    (surfBytes (b.actBit (F.ING_STRs_CTRL_OCS s)) (b.act (F.ING_STRs_CROP_WH_W s)) (b.act (F.ING_STRs_CROP_WH_H s))
      (b.act (F.ING_STRs_CTRL_FORMAT s)))
  if q.on && !on then
    let b := b.each (q.fills.filterMap (·.buf)) (fun id b => b.onSurf s id (fun y => { y with st := 3 }))
    let b := b.onIng s (fun q => { q with
      on := false, fills := [], events := [], origin := none, next := none, seen := [], gaps := [], lostSeqs := []
      past := [], heard := [none, none] })
    (b.setUp s false false).pruneOld s
  else
    let b := if on && !q.on then b.onIng s (fun q => { q with on := true, begun := 0 }) else b
    b.each [0, 1] (fun e b =>
      if (b.ingPath s e).on then b
      else
        let b := b.onIng s (fun q => { q with heard := q.heard.set e none })
        b.setUp s (e != 0 && b.bit (F.ING_STRs_STATUS_PATH_A_UP s)) (e != 1 && b.bit (F.ING_STRs_STATUS_PATH_B_UP s)))

/-- ING after any install of its groups (R150, R155); in a thermal shutdown the values wait for the restart (R429). -/
def Block.ingInstalled (b : Block) : Block :=
  (if b.shutdown then b else b.each (List.range 16) (fun s b => b.ingSync s)).joinSync

/-! ### Monitoring sender (R162) -/

/-- Pixels of a monitoring packet by FORMAT: whole pixel groups in 1,260 bytes, the largest whole number of 180-byte
blocks within 1,428 (PRESUMED from ST 2110-20's block packing mode, log entry 21). -/
def monitorPixels (f : Nat) : Nat := if f = 1 then 504 else if f = 6 then 336 else if f = 7 then 280 else 210

/-- The sender stops and releases its surface. -/
def Block.monitorStop (b : Block) : Block :=
  let b := match b.ing.mon.surf with
    | some x => b.holdWb x.id false
    | none => b
  { b with ing.mon := { b.ing.mon with surf := none, pos := 0 } }

/-- MONITOR_ENABLE (R162): a write of ING_MON_CTRL; while EN is 1 only EN itself can change. -/
def monitorEnable (v : Word) (b : Block) : Block :=
  if b.bit F.ING_MON_CTRL_EN then
    if F.ING_MON_CTRL_EN.of v.toNat = 0 then (b.set F.ING_MON_CTRL_EN 0).monitorStop else b
  else
    let w := v.toNat
    let b := (b.set F.ING_MON_CTRL_DSCP (F.ING_MON_CTRL_DSCP.of w)).set F.ING_MON_CTRL_PT (F.ING_MON_CTRL_PT.of w)
    let b := (b.set F.ING_MON_CTRL_IPV6 (F.ING_MON_CTRL_IPV6.of w)).set F.ING_MON_CTRL_PATH_B (F.ING_MON_CTRL_PATH_B.of w)
    (b.set F.ING_MON_CTRL_PATH_A (F.ING_MON_CTRL_PATH_A.of w)).set F.ING_MON_CTRL_EN (F.ING_MON_CTRL_EN.of w)

/-- The sender takes the newest complete write-back surface that it has not sent, with a hold. -/
def Block.monitorTake (b : Block) : Block :=
  if b.ing.mon.surf.isSome || b.cmp.newest == b.ing.mon.last then b
  else
    match b.cmp.bufs.find? (fun x => x.id == b.cmp.newest && x.id != 0) with
    | none => b
    | some x =>
      { b.holdWb x.id true with ing.mon := { b.ing.mon with surf := some x, pos := 0, last := x.id } }

/-- MONITOR_PACKET_SEND (R162): the next packet of the surface, its pixels row by row from where the last one ended; one whose pixels read poisoned is not sent and its number
is skipped (R361). -/
def monitorPacketSend (poisoned : Bool) (b : Block) : Block :=
  if !b.bit F.ING_MON_CTRL_EN || !b.ingOn then b
  else
    let b := b.monitorTake
    match b.ing.mon.surf with
    | none => b
    | some x =>
      let at' := b.ing.mon.pos
      let w := max 1 x.w
      let n := min (monitorPixels x.fmt) (x.w * x.h - at')
      let pos := at' + n
      let last := decide (x.w * x.h ≤ pos)
      let px := (List.range n).map (fun i => (b.surfPixel x ((at' + i) / w) ((at' + i) % w)).getD [])
      let rows := (pos - 1) / w + 1 - at' / w
      let len := 8 + 12 + 2 + 6 * rows + ceilDiv (1260 * n) (monitorPixels x.fmt)
      let seq := b.ing.mon.seq
      let b := b.surfUse 1 x (at' / w) ((pos - 1) / w)
      let b := { b with ing.mon := { b.ing.mon with seq := (seq + 1) % 2 ^ 32, pos := pos } }
      let v6 := b.bit F.ING_MON_CTRL_IPV6
      let grp (w : Nat → Fld) : Nat := if v6 then b.addr128 w else b.get (w 0)
      let sendOn (e : Nat) (on : Bool) (w : Nat → Fld) (b : Block) : Block :=
        if on && !poisoned then
          b.ethSendIp e 0 (b.get (F.ETHn_TX_PCP_VIDEO e)) v6 (grp w) len
            (.monitor e v6 (grp w) (b.get F.ING_MON_PORT_PORT) (b.get F.ING_MON_CTRL_PT) (b.get F.ING_MON_CTRL_DSCP) seq x.rtp
              (at' / max 1 x.w) (at' % max 1 x.w) px last)
        else b
      let b := sendOn 0 (b.bit F.ING_MON_CTRL_PATH_A) F.ING_MON_GRP_Aw b
      let b := sendOn 1 (b.bit F.ING_MON_CTRL_PATH_B) F.ING_MON_GRP_Bw b
      if last then b.monitorStop else b

/-- PX_RATE (R163): merged pixels over the last millisecond, in Mpx/s. -/
def Block.pxRate (b : Block) : Nat :=
  let l := (b.ing.streams.map (·.recent)).flatten.filter (fun r => decide (b.clk < r.1 + 1000000))
  (l.map (·.2)).sum / 1000

/-- STREAM_PACKET. -/
def execStreamPacket (k : VideoPacket) (s : State) : Host.Outcome State Fault Refusal := s.done (streamPacket k s.blk)
/-- SKEW_WINDOW_EXPIRY. -/
def execSkewWindowExpiry (n : Nat) (s : State) : Host.Outcome State Fault Refusal := s.done (skewWindowExpiry n s.blk)
/-- SOURCE_FRAME_CONCLUDE. -/
def execSourceFrameConclude (n : Nat) (s : State) : Host.Outcome State Fault Refusal := s.done (sourceFrameConclude n s.blk)
/-- STREAM_PATH_TIMEOUT. -/
def execStreamPathTimeout (n e : Nat) (s : State) : Host.Outcome State Fault Refusal := s.done (streamPathTimeout n e s.blk)
/-- MONITOR_ENABLE: a write of ING_MON_CTRL. -/
def execMonitorEnable (_p : Path) (v : Word) (s : State) : Host.Outcome State Fault Refusal :=
  s.done (s.blk.writing R.ING_MON_CTRL (monitorEnable v))
/-- MONITOR_PACKET_SEND. -/
def execMonitorPacketSend (poisoned : Bool) (s : State) : Host.Outcome State Fault Refusal :=
  s.done (monitorPacketSend poisoned s.blk)

end Sys2Proof.Machine
end

