-- ==== Sys2Proof/Machine/Transfer.lean ====
section
/-!
DEFINITION. The transcendental functions of the pixel pipeline (R216, R220, R229) as rationals: logarithm and power to base 2 in
fixed point with 96 fraction bits, closer to the real value than one part in 2^40, and the transfer functions built on them with the
constants of ST 2084 and BT.2100 (PRESUMED: the spec names the standards; log entry 4).
-/

namespace Sys2Proof.Machine

/-- One in fixed point. -/
def fixOne : Nat := 2 ^ 96

/-- The whole part of a square root, bit by bit from bit `k - 1` down. -/
def isqrt (n : Nat) : Nat → Nat → Nat
  | 0, r => r
  | k + 1, r => isqrt n k (if (r + 2 ^ k) * (r + 2 ^ k) ≤ n then r + 2 ^ k else r)

/-- The fraction bits of log2 of a fixed-point value between 1 and 2: square, and halve where the square reaches 2. -/
def logBits : Nat → Nat → Nat
  | 0, _ => 0
  | k + 1, m =>
    let q := m * m / fixOne
    if 2 * fixOne ≤ q then 2 ^ k + logBits k (q / 2) else logBits k q

/-- log2 of a positive value. -/
def log2 (x : ℚ) : ℚ :=
  let e : Int := (Nat.log2 x.num.natAbs : Int) - Nat.log2 x.den
  let m := x / (2 : ℚ) ^ e
  let (e, m) := if m < 1 then (e - 1, 2 * m) else (e, m)
  e + (logBits 64 (m * fixOne).floor.toNat : ℚ) / 2 ^ 64

/-- 2 to the power of the `k` fraction bits of `f`, the highest first; `root` is 2 to the power of twice the first one's weight. -/
def expBits : Nat → Nat → Nat → Nat
  | 0, _, _ => fixOne
  | k + 1, f, root =>
    let s := isqrt (root * fixOne) 98 0
    let r := expBits k (f % 2 ^ k) s
    if 2 ^ k ≤ f then s * r / fixOne else r

/-- 2 to a power. -/
def exp2 (y : ℚ) : ℚ :=
  let n := y.floor
  (expBits 64 ((y - n) * 2 ^ 64).floor.toNat (2 * fixOne) : ℚ) / fixOne * (2 : ℚ) ^ n

/-- A power of a value that is not negative. -/
def powQ (x a : ℚ) : ℚ := if x ≤ 0 then 0 else if x = 1 then 1 else exp2 (a * log2 x)

/-- log2 of e, the natural logarithm of 2, and log10 of 2. -/
def logE : ℚ := 1442695040888963407359924681001892137 / 10 ^ 36
def ln2 : ℚ := 693147180559945309417232121458176568 / 10 ^ 36
def lg2 : ℚ := 301029995663981195213738894724493027 / 10 ^ 36

/-! ### ST 2084 (R216, R229) -/

def pqM1 : ℚ := 2610 / 16384
def pqM2 : ℚ := 2523 / 32
def pqC1 : ℚ := 3424 / 4096
def pqC2 : ℚ := 2413 / 128
def pqC3 : ℚ := 2392 / 128

/-- The EOTF, in cd/m². -/
def pqEotf (e : ℚ) : ℚ :=
  let p := powQ e (1 / pqM2)
  10000 * powQ (max 0 (p - pqC1) / (pqC2 - pqC3 * p)) (1 / pqM1)

/-- Its inverse, of a value in cd/m². -/
def pqInverse (l : ℚ) : ℚ :=
  let p := powQ (l / 10000) pqM1
  powQ ((pqC1 + pqC2 * p) / (1 + pqC3 * p)) pqM2

/-! ### BT.2100 HLG (R216, R229) -/

def hlgA : ℚ := 17883277 / 10 ^ 8
def hlgB : ℚ := 28466892 / 10 ^ 8
def hlgC : ℚ := 55991073 / 10 ^ 8

/-- The inverse OETF. -/
def hlgScene (e : ℚ) : ℚ := if e ≤ 1 / 2 then e * e / 3 else (exp2 ((e - hlgC) / hlgA * logE) + hlgB) / 12

/-- The OETF. -/
def hlgSignal (e : ℚ) : ℚ := if e ≤ 1 / 12 then powQ (3 * e) (1 / 2) else hlgA * (ln2 * log2 (12 * e - hlgB)) + hlgC

/-- The luminance of an RGB triple in HLG's primaries. -/
def hlgY (v : List ℚ) : ℚ := 2627 / 10000 * v.getD 0 0 + 678 / 1000 * v.getD 1 0 + 593 / 10000 * v.getD 2 0

/-- The system gamma for a peak of `lw` cd/m² (R216). -/
def hlgGamma (lw : ℚ) : ℚ := 12 / 10 + 42 / 100 * (lg2 * log2 (lw / 1000))

/-- Inverse OETF and OOTF, in cd/m², black level 0. -/
def hlgLight (lw : ℚ) (e : List ℚ) : List ℚ :=
  let s := e.map hlgScene
  let k := powQ (hlgY s) (hlgGamma lw - 1)
  s.map (fun x => lw * k * x)

/-- Inverse OOTF and OETF of three components in cd/m². -/
def hlgCode (lw : ℚ) (v : List ℚ) : List ℚ :=
  let g := hlgGamma lw
  let k := powQ (hlgY v / lw) ((1 - g) / g)
  v.map (fun x => hlgSignal (k * x / lw))

end Sys2Proof.Machine
end

