-- ==== Sys2Proof/Machine/Pixel.lean ====
section
/-!
DEFINITION. Rosette's pixel pipeline (R214 to R222, R229) over rationals; the transfer functions and the logarithm stand in
Machine/Transfer.lean. A value between two stages is held exactly where 18 bits of mantissa hold it, and is else a free value within
the error that 18 bits leave (log entry 4).
-/

namespace Sys2Proof.Machine

/-! ### Numbers -/

/-- The largest power of two that divides `n`, removed; 0 stays 0. `fuel` bounds the halvings. -/
def oddPart : Nat → Nat → Nat
  | 0, n => n
  | k + 1, n => if n % 2 = 0 ∧ n ≠ 0 then oddPart k (n / 2) else n

/-- Does a mantissa of 18 bits hold the value exactly? -/
def fits18 (x : ℚ) : Bool := oddPart 64 x.den == 1 && decide (oddPart 200 x.num.natAbs < 2 ^ 18)

/-- A value as held between stages: at least 18 bits of mantissa leave it within one part in 2^17 (R214). -/
def held (x : ℚ) : ℚ :=
  let r := |x| / 2 ^ 17
  if fits18 x then x else max (x - r) (min (x + r) (Config.held x))

/-- Held, component by component. -/
def heldAll (l : List ℚ) : List ℚ := l.map held

/-- Clamp to 0 and 1. -/
def clamp01 (x : ℚ) : ℚ := if x < 0 then 0 else if 1 < x then 1 else x

/-- The nearest integer, halves up. -/
def nearest (x : ℚ) : Int := (x + 1 / 2).floor

/-- The nearest integer, ties to even. -/
def nearestEven (x : ℚ) : Int :=
  let f := x.floor
  let r := x - f
  if r < 1 / 2 then f else if 1 / 2 < r then f + 1 else if f % 2 = 0 then f else f + 1

/-- The value of an OLF16 code (R222). -/
def olfValue (c : Nat) : ℚ :=
  let e := c / 2048 % 32
  let f := c % 2048
  if e = 0 then (f : ℚ) / 2 ^ 25 else ((2048 + f : Nat) : ℚ) * 2 ^ (e - 1) / 2 ^ 25

/-- The OLF16 code of a value: the nearest, ties to an even mantissa, saturating (R222). -/
def olfCode (x : ℚ) : Nat :=
  if x ≤ 0 then 0
  else
    let v := x * 2 ^ 25
    let k := v.floor.toNat
    let e := if k < 4096 then (if k < 2048 then 0 else 1) else Nat.log2 k - 10
    let f := (nearestEven (if e = 0 then v else v / 2 ^ (e - 1))).toNat
    min 0xFFFF (if e = 0 then f else e * 2048 + f - 2048)

/-! ### Matrices -/

/-- Product of a 3 × 3 matrix, row by row, and a vector. -/
def matVec (m v : List ℚ) : List ℚ :=
  (List.range 3).map (fun i => m.getD (3 * i) 0 * v.getD 0 0 + m.getD (3 * i + 1) 0 * v.getD 1 0 + m.getD (3 * i + 2) 0 * v.getD 2 0)

/-- Product of two 3 × 3 matrices. -/
def matMul (a c : List ℚ) : List ℚ :=
  (List.range 9).map (fun k =>
    let i := k / 3
    let j := k % 3
    a.getD (3 * i) 0 * c.getD j 0 + a.getD (3 * i + 1) 0 * c.getD (3 + j) 0 + a.getD (3 * i + 2) 0 * c.getD (6 + j) 0)

/-- Determinant of a 3 × 3 matrix. -/
def matDet (m : List ℚ) : ℚ :=
  let a (i : Nat) := m.getD i 0
  a 0 * (a 4 * a 8 - a 5 * a 7) - a 1 * (a 3 * a 8 - a 5 * a 6) + a 2 * (a 3 * a 7 - a 4 * a 6)

/-- Inverse of a 3 × 3 matrix. -/
def matInv (m : List ℚ) : List ℚ :=
  let a (i : Nat) := m.getD i 0
  let d := matDet m
  [(a 4 * a 8 - a 5 * a 7) / d, (a 2 * a 7 - a 1 * a 8) / d, (a 1 * a 5 - a 2 * a 4) / d,
   (a 5 * a 6 - a 3 * a 8) / d, (a 0 * a 8 - a 2 * a 6) / d, (a 2 * a 3 - a 0 * a 5) / d,
   (a 3 * a 7 - a 4 * a 6) / d, (a 1 * a 6 - a 0 * a 7) / d, (a 0 * a 4 - a 1 * a 3) / d]

/-- RGB to CIE XYZ with Y = 1 at the white point, from the chromaticities of R, G, B and white (R219). -/
def toXyz (xr yr xg yg xb yb xw yw : ℚ) : List ℚ :=
  let p := [xr / yr, xg / yg, xb / yb, 1, 1, 1, (1 - xr - yr) / yr, (1 - xg - yg) / yg, (1 - xb - yb) / yb]
  let s := matVec (matInv p) [xw / yw, 1, (1 - xw - yw) / yw]
  (List.range 9).map (fun k => p.getD k 0 * s.getD (k % 3) 0)

/-- The source primaries of GAMUT 0 to 3 (R219). -/
def gamutXyz (g : Nat) : List ℚ :=
  if g = 0 then toXyz (64 / 100) (33 / 100) (30 / 100) (60 / 100) (15 / 100) (6 / 100) (3127 / 10000) (3290 / 10000)
  else if g = 1 then
    toXyz (708 / 1000) (292 / 1000) (170 / 1000) (797 / 1000) (131 / 1000) (46 / 1000) (3127 / 10000) (3290 / 10000)
  else if g = 2 then
    toXyz (680 / 1000) (320 / 1000) (265 / 1000) (690 / 1000) (150 / 1000) (60 / 1000) (3127 / 10000) (3290 / 10000)
  else toXyz (680 / 1000) (320 / 1000) (265 / 1000) (690 / 1000) (150 / 1000) (60 / 1000) (314 / 1000) (351 / 1000)

/-- The luma weights of R and B of a matrix: BT.709, BT.2020 (R215). -/
def lumaWeights (bt2020 : Bool) : ℚ × ℚ := if bt2020 then (2627 / 10000, 593 / 10000) else (2126 / 10000, 722 / 10000)

/-! ### Layers and outputs as their registers configure them -/

/-- A layer's values, read through `g`. -/
structure Layer where
  en : Bool
  kind : Nat
  id : Nat
  complete : Bool
  add : Bool
  vtaps : Nat
  htaps : Nat
  coef : Nat
  tm : Option Nat
  sx : Nat
  sy : Nat
  sw : Nat
  sh : Nat
  dx : Nat
  dy : Nat
  dw : Nat
  dh : Nat
  stepH : Nat
  stepV : Nat
  white : Nat
  gamut : Nat
  transfer : Nat
  matrix : Nat
  full : Bool
  gain : Nat
  alpha : Nat
  surf : Nat
  deriving DecidableEq, Repr

/-- Layer `n` of the values that `g` reads. -/
def layerOf (g : Fld → Nat) (n : Nat) : Layer where
  en := g (F.CMP_LAYERn_CTRL_EN n) != 0
  kind := g (F.CMP_LAYERn_CTRL_SRC_KIND n)
  id := g (F.CMP_LAYERn_CTRL_SRC_ID n)
  complete := g (F.CMP_LAYERn_CTRL_SEL n) != 0
  add := g (F.CMP_LAYERn_CTRL_BLEND n) != 0
  vtaps := 2 * g (F.CMP_LAYERn_CTRL_VTAPS n) + 2
  htaps := if g (F.CMP_LAYERn_CTRL_HTAPS n) = 0 then 4 else 8
  coef := g (F.CMP_LAYERn_CTRL_COEF n)
  tm := if g (F.CMP_LAYERn_CTRL_TM_EN n) = 0 then none else some (g (F.CMP_LAYERn_CTRL_TM n))
  sx := g (F.CMP_LAYERn_SRC_XY_X n)
  sy := g (F.CMP_LAYERn_SRC_XY_Y n)
  sw := g (F.CMP_LAYERn_SRC_WH_W n)
  sh := g (F.CMP_LAYERn_SRC_WH_H n)
  dx := g (F.CMP_LAYERn_DST_XY_X n)
  dy := g (F.CMP_LAYERn_DST_XY_Y n)
  dw := g (F.CMP_LAYERn_DST_WH_W n)
  dh := g (F.CMP_LAYERn_DST_WH_H n)
  stepH := g (F.CMP_LAYERn_STEP_H_STEP n)
  stepV := g (F.CMP_LAYERn_STEP_V_STEP n)
  white := g (F.CMP_LAYERn_COLOR_WHITE n)
  gamut := g (F.CMP_LAYERn_COLOR_GAMUT n)
  transfer := g (F.CMP_LAYERn_COLOR_TRANSFER n)
  matrix := g (F.CMP_LAYERn_COLOR_MATRIX n)
  full := g (F.CMP_LAYERn_COLOR_RANGE n) != 0
  gain := g (F.CMP_LAYERn_MIX_GAIN n)
  alpha := g (F.CMP_LAYERn_MIX_ALPHA n)
  surf := g (F.CMP_LAYERn_SURF_LO n) + 2 ^ 32 * g (F.CMP_LAYERn_SURF_HI_SURF n)

/-- A rectangle on the canvas. -/
structure Rect where
  x : Nat
  y : Nat
  w : Nat
  h : Nat
  deriving DecidableEq, Repr

/-- Slot `s`'s rectangle, if it is enabled. -/
def slotOf (g : Fld → Nat) (s : Nat) : Option Rect :=
  if g (F.CMP_SLOTs_WH_EN s) = 0 then none
  else some ⟨g (F.CMP_SLOTs_XY_X s), g (F.CMP_SLOTs_XY_Y s), g (F.CMP_SLOTs_WH_W s), g (F.CMP_SLOTs_WH_H s)⟩

/-- The write-back window, if write-back is enabled. -/
def wbWindow (g : Fld → Nat) : Option Rect :=
  if g F.CMP_WB_CTRL_EN = 0 then none
  else some ⟨g F.CMP_WB_XY_X, g F.CMP_WB_XY_Y, g F.CMP_WB_WH_W, g F.CMP_WB_WH_H⟩

/-- DECIM as a number. -/
def decimOf (g : Fld → Nat) : Nat := 2 ^ g F.CMP_WB_CTRL_DECIM

/-- REF_WHITE in cd/m²; 0 is taken as 1 (R232). -/
def refWhite (g : Fld → Nat) : Nat := max 1 (g F.CMP_REF_WHITE_NITS)

/-- The panel matrix (R219). -/
def panelMatrix (g : Fld → Nat) : List ℚ := (List.range 9).map (fun i => ((signed 32 (g (F.CMP_PANEL_Mi_M i)) : Int) : ℚ) / 65536)

/-! ### Stages 1 and 2 (R215, R216) -/

/-- Normalise a code. -/
def normal (f : Nat) (full chroma : Bool) (c : Nat) : ℚ :=
  let n := fmtDepth f
  let k : ℚ := 2 ^ (n - 8)
  if full || f == 8 then
    if chroma then ((c : ℚ) - 2 ^ (n - 1)) / (2 ^ n - 1) else (c : ℚ) / (2 ^ n - 1)
  else if chroma then ((c : ℚ) - 128 * k) / (224 * k) else ((c : ℚ) - 16 * k) / (219 * k)

/-- The code values of the stored pixel at a clamped position of a surface; none in a corrupt block. -/
def Block.storedAt (b : Block) (x : Surf) (r c : Int) : Option (List Nat) :=
  b.surfPixel x (min r.toNat (x.h - 1)) (min c.toNat (x.w - 1))

/-- Stage 1: R'G'B' at a stored position, each between 0 and 1 (R215); none where a block it needs is corrupt. -/
def Block.decodePixel (b : Block) (l : Layer) (x : Surf) (r c : Int) : Option (List ℚ) :=
  match b.storedAt x r c with
  | none => none
  | some p =>
    if fmtRgb x.fmt then some (heldAll (p.map (fun v => clamp01 (normal x.fmt l.full false v))))
    else
      let col := min c.toNat (x.w - 1)
      let pairs : Int := x.w / 2
      let chroma (k : Nat) (j : Int) : Option ℚ :=
        let j := max 0 (min j (pairs - 1))
        (b.storedAt x r (2 * j + k)).map (fun q => normal x.fmt l.full true (q.getD 1 0))
      let at' (k : Nat) : Option ℚ :=
        if !fmt422 x.fmt then some (normal x.fmt l.full true (p.getD (1 + k) 0))
        else
          let j : Int := col / 2
          if col % 2 = 0 then chroma k j
          else
            match chroma k (j - 1), chroma k j, chroma k (j + 1), chroma k (j + 2) with
            | some a, some d, some e, some g => some ((-a + 9 * d + 9 * e - g) / 16)
            | _, _, _, _ => none
      match at' 0, at' 1 with
      | some cb, some cr =>
        let (kr, kb) := lumaWeights (l.matrix == 1)
        let y := normal x.fmt l.full false (p.getD 0 0)
        let red := y + 2 * (1 - kr) * cr
        let blue := y + 2 * (1 - kb) * cb
        some (heldAll ([red, (y - kr * red - kb * blue) / (1 - kr - kb), blue].map clamp01))
      | _, _ => none

/-- x to the power 2.4. -/
def power24 (x : ℚ) : ℚ := powQ x (12 / 5)

/-- Stage 2: linear light times GAIN (R216). -/
def toLight (g : Fld → Nat) (l : Layer) (e : List ℚ) : List ℚ :=
  let white : ℚ := l.white
  let ref : ℚ := refWhite g
  let light :=
    if l.transfer = 0 then e.map (fun v => v * white / ref)
    else if l.transfer = 1 then e.map (fun v => power24 v * white / ref)
    else if l.transfer = 2 then
      e.map (fun v => (if v ≤ 4045 / 100000 then v / (1292 / 100) else power24 ((v + 55 / 1000) / (1055 / 1000))) * white / ref)
    else if l.transfer = 3 then e.map (fun v => pqEotf v / ref)
    else if l.white = 0 then e.map Config.noWhite
    else (hlgLight l.white e).map (· / ref)
  heldAll (light.map (fun v => v * l.gain / 4096))

/-- Stages 1 and 2 of the stored pixel at a clamped position. -/
def Block.lightAt (b : Block) (g : Fld → Nat) (l : Layer) (x : Surf) (r c : Int) : Option (List ℚ) :=
  (b.decodePixel l x r c).map (toLight g l)

/-! ### Stage 3 (R217) -/

/-- Source position of output column or row `i` in units of 2^-21. -/
def sourcePos (origin step i : Nat) : Int := (origin : Int) * 2 ^ 21 + (2 * i + 1) * step - 2 ^ 20

/-- The first tap of `taps` at a position, and its phase. -/
def firstTap (u : Int) (taps : Nat) : Int × Nat := (u / 2 ^ 21 - taps / 2 + 1, ((u % 2 ^ 21) / 2 ^ 15).toNat)

/-- A scaler coefficient: set, phase, and place among the 32 of the phase (R218). -/
def coefAt (tables : List Host.Cell) (set phase k : Nat) : ℚ :=
  let a := 4096 * set + 64 * phase + 2 * k
  ((signed 16 (leNat [cellsGet tables a 0, cellsGet tables (a + 1) 0]) : Int) : ℚ) / 16384

/-- Where the vertical taps of a count begin among the 32 coefficients. -/
def vtapBase (t : Nat) : Nat := if t = 2 then 0 else if t = 4 then 2 else if t = 6 then 6 else 12

/-- Where the horizontal taps begin. -/
def htapBase (t : Nat) : Nat := if t = 4 then 20 else 24

/-- Weighted sum of three-component values. -/
def weigh (l : List (ℚ × List ℚ)) : List ℚ :=
  l.foldl (fun acc x => (List.range 3).map (fun i => acc.getD i 0 + x.1 * x.2.getD i 0)) [0, 0, 0]

/-- All or nothing. -/
def allSome {α : Type} : List (Option α) → Option (List α)
  | [] => some []
  | none :: _ => none
  | some x :: r => (allSome r).map (x :: ·)

/-- Stage 3 at output column `i` and row `j` of the layer. -/
def Block.scaled (b : Block) (g : Fld → Nat) (tables : List Host.Cell) (l : Layer) (x : Surf) (i j : Nat) : Option (List ℚ) :=
  let (r0, rp) := firstTap (sourcePos l.sy l.stepV j) l.vtaps
  let (c0, cp) := firstTap (sourcePos l.sx l.stepH i) l.htaps
  let column (c : Int) : Option (List ℚ) :=
    (allSome ((List.range l.vtaps).map (fun (k : Nat) => (b.lightAt g l x (r0 + k - x.y0) c).map (fun v =>
      (coefAt tables l.coef rp (vtapBase l.vtaps + k), v))))).map weigh
  (allSome ((List.range l.htaps).map (fun (k : Nat) => (column (c0 + k - x.x0)).map (fun v =>
    (coefAt tables l.coef cp (htapBase l.htaps + k), v))))).map (fun l => heldAll (weigh l))

/-- Does a tap at output column `i` and row `j` fall outside the stored crop (R217)? -/
def edgeClamp (l : Layer) (x : Surf) (i j : Nat) : Bool :=
  let r0 := (firstTap (sourcePos l.sy l.stepV j) l.vtaps).1 - x.y0
  let c0 := (firstTap (sourcePos l.sx l.stepH i) l.htaps).1 - x.x0
  decide (r0 < 0) || decide ((x.h : Int) < r0 + l.vtaps) || decide (c0 < 0) || decide ((x.w : Int) < c0 + l.htaps)

/-! ### Stages 4 to 6 (R219 to R221) -/

/-- Stage 4. -/
def gamutStage (g : Fld → Nat) (l : Layer) (v : List ℚ) : List ℚ :=
  let v := if l.gamut = 4 then v else matVec (matMul (panelMatrix g) (gamutXyz l.gamut)) v
  heldAll (v.map (fun x => if x < 0 then 0 else x))

/-- Entry `e` of tone table `t`. -/
def toneEntry (tables : List Host.Cell) (t e : Nat) : ℚ :=
  let a := 65536 + 4096 * t + 2 * e
  olfValue (leNat [cellsGet tables a 0, cellsGet tables (a + 1) 0])

/-- Stage 5 (R220). -/
def toneStage (tables : List Host.Cell) (l : Layer) (v : List ℚ) : List ℚ :=
  match l.tm with
  | none => v
  | some t =>
    let x := v.foldl max 0
    if x = 0 then v
    else
      let y := if x < 1 / 65536 then x * toneEntry tables t 0 * 65536
        else
          let u := max 0 (min 1024 (32 * (log2 x + 16)))
          let k := u.floor.toNat
          if 1024 ≤ k then toneEntry tables t 1024
          else toneEntry tables t k + (u - k) * (toneEntry tables t (k + 1) - toneEntry tables t k)
      heldAll (v.map (fun c => c * y / x))

/-- Stage 6: one layer over what lies below (R221). -/
def blend (l : Layer) (v below : List ℚ) : List ℚ :=
  let a : ℚ := (l.alpha : ℚ) / 1023
  (List.range 3).map (fun i =>
    if l.add then below.getD i 0 + a * v.getD i 0 else a * v.getD i 0 + (1 - a) * below.getD i 0)

/-- The background (R221). -/
def background (g : Fld → Nat) : List ℚ := [olfValue (g F.CMP_BG_RG_R), olfValue (g F.CMP_BG_RG_G), olfValue (g F.CMP_BG_B_B)]

/-- A layer's contribution at canvas pixel (X, Y) over `below`: unchanged outside its rectangle; none in a corrupt block. -/
def Block.layerAt (b : Block) (g : Fld → Nat) (tables : List Host.Cell) (l : Layer) (x : Surf) (X Y : Nat) (below : List ℚ) :
    Option (List ℚ) :=
  if X < l.dx ∨ l.dx + l.dw ≤ X ∨ Y < l.dy ∨ l.dy + l.dh ≤ Y then some below
  else (b.scaled g tables l x (X - l.dx) (Y - l.dy)).map (fun v => blend l (toneStage tables l (gamutStage g l v)) below)

/-- Stages 1 to 7 at a canvas pixel, from the layers that take part, lowest first: three OLF16 codes. -/
def Block.canvasPixel (b : Block) (g : Fld → Nat) (tables : List Host.Cell) (ls : List (Layer × Surf)) (X Y : Nat) : List Nat :=
  let v := ls.foldl (fun below (l : Layer × Surf) => (b.layerAt g tables l.1 l.2 X Y below).getD below) (background g)
  (heldAll v).map olfCode

/-- Does a layer meet a corrupt block at a canvas pixel (R226)? -/
def Block.corruptAt (b : Block) (g : Fld → Nat) (tables : List Host.Cell) (l : Layer) (x : Surf) (X Y : Nat) : Bool :=
  (b.layerAt g tables l x X Y [0, 0, 0]).isNone

/-! ### Write-back (R229) -/

/-- Encode a channel in units of REF_WHITE, between 0 and 1; HLG takes the three together. -/
def wbEncode (g : Fld → Nat) (v : List ℚ) : List ℚ :=
  let ref : ℚ := refWhite g
  let white : ℚ := g F.CMP_WB_WHITE_NITS
  let t := g F.CMP_WB_CTRL_TRANSFER
  let e :=
    if t = 1 then v.map (fun x => pqInverse (x * ref))
    else if white = 0 then v.map Config.noWhite
    else if t = 0 then v.map (fun x => powQ (x * ref / white) (5 / 12))
    else hlgCode white (v.map (· * ref))
  e.map clamp01

/-- Panel RGB to the write-back gamut (R229). -/
def wbGamut (g : Fld → Nat) (v : List ℚ) : List ℚ :=
  let k := g F.CMP_WB_CTRL_GAMUT
  let v := if k = 2 then v else matVec (matMul (matInv (gamutXyz k)) (matInv (panelMatrix g))) v
  v.map (fun x => if x < 0 then 0 else x)

/-- Y, Cb and Cr of R'G'B' by the write-back's matrix. -/
def wbYcc (g : Fld → Nat) (v : List ℚ) : List ℚ :=
  let (kr, kb) := lumaWeights (g F.CMP_WB_CTRL_GAMUT == 1)
  let y := kr * v.getD 0 0 + (1 - kr - kb) * v.getD 1 0 + kb * v.getD 2 0
  [y, (v.getD 2 0 - y) / (2 * (1 - kb)), (v.getD 0 0 - y) / (2 * (1 - kr))]

/-- A row of write-back pixels as code values from their encoded R'G'B' (R229, R158). -/
def wbRow (g : Fld → Nat) (row : List (List ℚ)) : List (List Nat) :=
  let f := g F.CMP_WB_CTRL_FORMAT
  let n := fmtDepth f
  let w := row.length
  if f = 1 then
    let ycc := row.map (wbYcc g)
    let k : ℚ := 2 ^ (n - 8)
    let c (i x : Nat) : ℚ := (ycc.getD (min x (w - 1)) []).getD i 0
    let code (i x : Nat) : Nat := (nearest (224 * k * ((c i (x - 1) + 2 * c i x + c i (x + 1)) / 4) + 128 * k)).toNat
    (List.range w).map (fun x =>
      [(nearest (219 * k * c 0 x + 16 * k)).toNat, if x % 2 = 0 then code 1 x else code 2 (x - 1)])
  else row.map (fun v => v.map (fun x => (nearest (x * (2 ^ n - 1))).toNat))

end Sys2Proof.Machine
end

