-- ==== Sys2Proof/Machine/Cmp.lean ====
section
/-!
DEFINITION. Rosette: capture, deadlines, source selection, bands, faults and write-back (R205 to R213, R223 to R228), and
the fronds it hands over (R210, R247, R265).
-/

namespace Sys2Proof.Machine

/-! ### The governing set (R205, R218) -/

/-- Is CMP at work: HEAD or HEAD_TILE on an H128, with its clocks running (R23, R429)? -/
def Block.cmpOn (b : Block) : Bool := b.role != 0 && !b.idle 0x18 && b.pipes

/-- A captured value. -/
def CmpSet.get (c : CmpSet) (f : Fld) : Nat :=
  f.of (cellsGet c.regs f.act.addr (keyReset f.act.addr)).toNat

/-- The table region's base. -/
def Block.tblBase (b : Block) : Nat := b.pair F.CMP_TBL_BASE_LO_BASE F.CMP_TBL_BASE_HI_BASE

/-- The bytes of table bank `k`, from offset 0. -/
def Block.tableBank (b : Block) (k : Nat) : List Host.Cell :=
  let base := b.tblBase + 131072 * k
  (b.dram.filter (fun c => decide (base ≤ c.1) && decide (c.1 < base + 131072))).map (fun c => (c.1 - base, c.2))

/-- Rosette captures the set that governs composition `m` (R205); the on-die tables are those of the last capture unless
the banks have swapped since, when a new copy begins (R218). -/
def Block.cmpCapture (b : Block) (m : Nat) : Block :=
  if !b.cmpOn then b
  else
    let bank := b.get F.CMP_TBL_BANK_BANK
    let mask := b.actPair F.LNK_SLOT_MASK_LO_MASK F.LNK_SLOT_MASK_HI_MASK
    let last := b.cmp.next.orElse (fun _ => b.cmp.set)
    let (tables, copying) := match last.filter (·.swaps == b.cmp.swaps) with
      | some c => (c.tables, c.copying.filter (fun _ => b.cmp.next.isSome))
      | none => (b.tableBank bank, some b.stc)
    let b := b.when (copying == some b.stc) (·.dramUse 2 (b.tblBase + 131072 * bank) 131072)
    let shown := (List.range 16).filterMap (fun c => (b.rplShown c m).map (fun x => (c, x)))
    { b with
      cmp.next := some
        ⟨m, bank, b.cmp.swaps, b.regs.filter (fun c => activeKey 0x20 c.1 || activeKey 0x21 c.1), tables, mask, shown, copying⟩
      lnk.maskCaptured := mask }

/-! ### Bands, costs and deadlines (R207, R224) -/

/-- Bands of the canvas. -/
def bandCount (g : Fld → Nat) : Nat := g F.CMP_CANVAS_H / 16

/-- Enabled slots with their numbers. -/
def slotsOf (g : Fld → Nat) : List (Nat × Rect) := (List.range 64).filterMap (fun s => (slotOf g s).map (fun r => (s, r)))

/-- Does a rectangle meet band `r`? -/
def Rect.meets (q : Rect) (r : Nat) : Bool := decide (q.y < 16 * r + 16) && decide (16 * r < q.y + q.h)

/-- Rectangles whose pixels Rosette computes: the enabled slots, and the write-back window (R210). -/
def computed (g : Fld → Nat) : List Rect := (slotsOf g).map (·.2) ++ (wbWindow g).toList

/-- Insert an interval by its start. -/
def insertSpan (x : Nat × Nat) : List (Nat × Nat) → List (Nat × Nat)
  | [] => [x]
  | y :: r => if x.1 ≤ y.1 then x :: y :: r else y :: insertSpan x r

/-- Canvas columns of line `y` that lie in any of the rectangles. -/
def lineCount (g : Fld → Nat) (rs : List Rect) (y : Nat) : Nat :=
  let w := g F.CMP_CANVAS_W
  let l := (rs.filter (fun q => decide (q.y ≤ y) && decide (y < q.y + q.h))).foldr (fun q acc => insertSpan (q.x, q.x + q.w) acc) []
  w - ((holes l 0 w).map (fun p => p.2 - p.1)).sum

/-- O(r) (R224). -/
def bandPixels (g : Fld → Nat) (r : Nat) : Nat :=
  let rs := (computed g).filter (·.meets r)
  ((List.range 16).map (fun i => lineCount g rs (16 * r + i))).sum

/-- First and last + 1 of a layer's output rows that lie on the canvas in band `r`. -/
def Layer.linesIn (l : Layer) (g : Fld → Nat) (r : Nat) : Nat × Nat :=
  let lo := max (16 * r) l.dy
  let hi := min (min (16 * r + 16) (l.dy + l.dh)) (g F.CMP_CANVAS_H)
  (lo - l.dy, hi - l.dy)

/-- S_l(r) (R224). -/
def layerCost (g : Fld → Nat) (l : Layer) (r : Nat) : Nat :=
  if l.en then
    let (lo, hi) := l.linesIn g r
    l.sw * ceilDiv ((hi - lo) * l.stepV) (2 ^ 20)
  else 0

/-- The sixteen layers. -/
def layersOf (g : Fld → Nat) : List Layer := (List.range 16).map (layerOf g)

/-- t(r), in ns (R224). -/
def bandTime (g : Fld → Nat) (r : Nat) : Nat :=
  let c := ((layersOf g).map (fun l => layerCost g l r)).foldl max (bandPixels g r)
  ceilDiv (10 * c) 23

/-- top_band(r) (R207). -/
def topBand (g : Fld → Nat) (r : Nat) : Nat :=
  match ((slotsOf g).filter (fun s => s.2.meets r)).map (fun s => s.2.y / 16) with
  | [] => r
  | y :: l => l.foldl min y

/-- FS(m) as a grid time: that of the frame if it runs, has run or is fixed, FS(m − 1) + P_MIN before PP(m) (R207). -/
def Block.compFs (b : Block) (m : Nat) : Int :=
  let last := b.lastFixed
  match (b.frm.cur :: (b.frm.next.toList ++ b.frm.later.toList)).find? (·.wfn == m) with
  | some p => p.fs
  | none =>
    if m < b.frm.cur.wfn then b.frm.cur.fs - (b.frm.cur.wfn - m : Nat) * b.frm.cur.period
    else last.fs + (m - last.wfn : Nat) * b.pMin

/-- D(r) of the composition of frame `m` as a grid time (R207). -/
def Block.bandDeadline (b : Block) (g : Fld → Nat) (m r : Nat) : Int :=
  let k := if b.actBit F.FRM_START_ROLLING then topBand g r else 0
  b.compFs m - q16 (b.act F.FRM_ACTIVE_END_LEAD_NS) + q16 (k * g F.CMP_ROLL_BAND_NS_NS)

/-- LS of every band, from their deadlines and times (R207). -/
def latestStarts : List (Int × Int) → List Int
  | [] => []
  | (d, t) :: r =>
    match latestStarts r with
    | [] => [d - t]
    | l :: ls => (min d l - t) :: l :: ls

/-- LS(r) as a grid time. -/
def Block.latestStart (b : Block) (g : Fld → Nat) (m r : Nat) : Int :=
  (latestStarts ((List.range (bandCount g)).map (fun k => (b.bandDeadline g m k, q16 (bandTime g k))))).getD r 0

/-! ### The composition in progress -/

/-- The captured values of the composition in progress. -/
def Block.cset (b : Block) : Fld → Nat :=
  match b.cmp.set with
  | some c => c.get
  | none => fun f => f.of (keyReset f.act.addr).toNat

/-- Band r in WAIT or RUN. -/
def Block.band (b : Block) : Nat := b.get F.CMP_STATUS_BAND

/-- CMP_STATUS.STATE and its codes (R208). -/
def Block.cmpState (b : Block) : Nat := b.get F.CMP_STATUS_STATE
def cmpIdle : Nat := 0
def cmpWait : Nat := 1
def cmpRun : Nat := 2

/-- Line units a set needs (R223). -/
def lineUnits (g : Fld → Nat) : Nat :=
  ((layersOf g).map (fun l => if l.en then ceilDiv l.sw 4096 * l.vtaps else 0)).sum

/-- Does layer `l` contribute to band `r` (R211)? -/
def Layer.inBand (l : Layer) (g : Fld → Nat) (r : Nat) : Bool :=
  let (lo, hi) := l.linesIn g r
  l.en && decide (lo < hi) && decide (l.dx < g F.CMP_CANVAS_W) && decide (0 < l.dw)

/-- Layer `n` of the composition. -/
def Block.use (b : Block) (n : Nat) : LayerUse := (b.cmp.layers.find? (·.n == n)).getD ⟨n, none, false, true⟩

/-- Put a layer back. -/
def Block.setUse (b : Block) (u : LayerUse) : Block :=
  { b with cmp.layers := b.cmp.layers.map (fun v => if v.n == u.n then u else v) }

/-- The surface that a layer reads, as it stands now. -/
def Block.layerSurf (b : Block) (u : LayerUse) : Option Surf :=
  match u.src with
  | some (.stream s id) => (b.stream s).surf id
  | some (.fixed x) => some x
  | none => none

/-- Remove a layer's hold. -/
def Block.releaseLayer (b : Block) (u : LayerUse) : Block :=
  let b := match u.src with
    | some (.stream s id) => if u.hold then b.holdStream s id false else b
    | _ => b
  b.setUse { u with hold := false }

/-- No buffer qualifies (R212). -/
def Block.noSource (b : Block) (n : Nat) : Block :=
  ((b.setUse { b.use n with out := true }).countSat (F.CMP_CNT_Ei 5) 1).set (F.CMP_LAYERn_STATUS_NOSRC n) 1

/-- A layer takes a buffer (R212): a stream's gets a hold. -/
def Block.takeSource (b : Block) (n : Nat) (src : LayerSrc) (x : Surf) (index : Nat) : Block :=
  let b := match src with
    | .stream s id => (b.holdStream s id true).setUse { b.use n with src := some src, hold := true }
    | .fixed _ => b.setUse { b.use n with src := some src }
  (b.set (F.CMP_LAYERn_STATUS_BUF n) index).set (F.CMP_LAYERn_FRAME_FRAME_NO n) x.frame

/-- Take the newest complete buffer of stream `s`, if there is one. -/
def Block.takeNewest (b : Block) (n s : Nat) : Block :=
  let q := b.stream s
  match q.surf q.newest with
  | none => b.noSource n
  | some x => b.takeSource n (.stream s x.id) x ((q.bufs.findIdx? (·.id == x.id)).getD 0)

/-- The candidate of SEL = LIVE (R212): within half a source period of the target time, the nearest. -/
def Block.liveCandidate (b : Block) (s m : Nat) : Option Surf :=
  let q := b.stream s
  let target := b.compFs m - b.lFix
  let period := match q.events with
    | [a, c] => a - c
    | _ => b.tNom
  let dist (x : Surf) : Int := |rtpEvent x.rtp x.stc - target|
  let l := (q.bufs ++ q.old).filter (fun x => x.id != 0 && (x.st == 1 || x.st == 2) && decide (2 * dist x ≤ |period|))
  l.foldl (fun best x => match best with
    | some y => if dist x < dist y then some x else some y
    | none => some x) none

/-- Layer `n` selects its source when Rosette first reaches a band it contributes to; `latest` at LS (R212). -/
def Block.selectLayer (b : Block) (n : Nat) (latest : Bool) : Block :=
  let u := b.use n
  let l := layerOf b.cset n
  let m := b.cmp.comp.getD 0
  if u.out || u.src.isSome then b
  else if l.kind = 0 then
    if l.complete then b.takeNewest n l.id
    else
      match b.liveCandidate l.id m with
      | some x => b.takeSource n (.stream l.id x.id) x (((b.stream l.id).bufs.findIdx? (·.id == x.id)).getD 0)
      | none =>
        if latest then
          let b := b.takeNewest n l.id
          if (b.use n).src.isSome then (b.countSat (F.CMP_CNT_Ei 6) 1).set (F.CMP_LAYERn_STATUS_HELD n) 1 else b
        else b
  else if l.kind = 1 then
    let x := b.readDesc l.surf (Config.surfaceData l.surf)
    if x.st = 2 then b.takeSource n (.fixed x) x 0 else b.noSource n
  else
    match (b.cmp.set.bind (fun c => (c.shown.find? (·.1 == l.id)).map (·.2))) with
    | some x => b.takeSource n (.fixed x) x (((b.rplChan l.id).shown.find? (·.1 == m)).map (·.2) |>.getD 0)
    | none => b.noSource n

/-- Layers that contribute to band `r`, lowest first. -/
def Block.bandLayers (b : Block) (r : Nat) : List Nat :=
  (List.range 16).filter (fun n => (layerOf b.cset n).inBand b.cset r)

/-- Every layer that reaches band `r` selects its source. -/
def Block.selectBand (b : Block) (r : Nat) (latest : Bool) : Block :=
  b.each (b.bandLayers r) (fun n b => b.selectLayer n latest)

/-- The first and the last crop row that layer `n` reads of a surface for band `r` (R213). -/
def Block.rowsOf (b : Block) (n r : Nat) (x : Surf) : Nat × Nat :=
  let l := layerOf b.cset n
  let (lo, hi) := l.linesIn b.cset r
  let row (t : Int) : Nat := (max 0 (min (t - x.y0) ((x.h : Int) - 1))).toNat
  (row (firstTap (sourcePos l.sy l.stepV lo) l.vtaps).1, row ((firstTap (sourcePos l.sy l.stepV (hi - 1)) l.vtaps).1 + l.vtaps - 1))

/-- Are layer `n`'s rows for band `r` readable (R213)? A layer that takes no part is never waited for. -/
def Block.rowsReady (b : Block) (n r : Nat) : Bool :=
  let u := b.use n
  if u.out then true
  else
    match b.layerSurf u with
    | none => false
    | some x => decide ((b.rowsOf n r x).2 < x.rows)

/-- A layer faults (R225, R226): its hold goes, and it takes no further part in this composition. -/
def Block.layerFault (b : Block) (n : Nat) (corrupt : Bool) : Block :=
  let b := b.releaseLayer (b.use n)
  let b := (b.setUse { b.use n with out := true }).set (F.CMP_LAYERn_STATUS_FAULT n) 1
  (b.countSat (F.CMP_CNT_Ei (if corrupt then 1 else 0)) 1).raiseAt (if corrupt then E.CMP_CORRUPT n else E.CMP_UNDERRUN n) n

/-- WAIT for a band: layers that reach it select (R208). -/
def Block.waitBand (b : Block) (r : Nat) : Block :=
  ((b.set F.CMP_STATUS_BAND r).set F.CMP_STATUS_STATE cmpWait).selectBand r false

/-! ### Write-back (R228) -/

/-- The buffers of the write-back region in force: descriptor and data. -/
def wbPlaces (region : List Nat) : List (Nat × Nat) :=
  let base := region.getD 0 0
  (List.range (region.getD 1 0)).map (fun i => (base + 64 * i, base + 4096 + i * region.getD 2 0))

/-- Change the write-back buffer with serial `id`. -/
def Block.onWb (b : Block) (id : Nat) (f : Surf → Surf) : Block :=
  let (b, l) := b.onSurfs 2 b.cmp.bufs id f
  { b with cmp.bufs := l }

/-- A composition chooses its write-back buffer. -/
def Block.wbBegin (b : Block) (m : Nat) : Block :=
  let g := b.cset
  match wbWindow g with
  | none => { b with cmp.wb := none }
  | some w =>
    let region := [g F.CMP_WB_BASE_LO + 2 ^ 32 * g F.CMP_WB_BASE_HI_BASE, g F.CMP_WB_CTRL_COUNT, g F.CMP_WB_BUF_SIZE]
    let b := if b.cmp.region = region then b else
      { b with cmp := { b.cmp with
          region := region, newest := 0, bufs := (wbPlaces region).map (fun p => Surf.free p.1 p.2) } }
    match oldestFree b.cmp.bufs b.cmp.newest [] with
    | none => ({ b with cmp.wb := none }.countSat (F.CMP_CNT_Ei 3) 1).raise E.CMP_WB_DROP
    | some x =>
      let id := b.cmp.serial + 1
      let f := g F.CMP_WB_CTRL_FORMAT
      let d := decimOf g
      let y : Surf := { x with
        id := id, st := 1, inc := false, a := false, b := false, rows := 0, stc := b.stc
        rtp := (b.compFs m * 9 / (100000 * 65536)).toNat % 2 ^ 32, seq := 0, frame := m, fmt := f, ocs := false
        w := w.w / d, h := w.h / d, x0 := w.x, y0 := w.y, stride := rawStride (w.w / d) f, lost := 0 }
      { b.writeDesc 2 y with cmp := { b.cmp with
          serial := id, wb := some id, bufs := b.cmp.bufs.map (fun z => if z.desc == x.desc then y else z) } }

/-- The write-back buffer is given up. -/
def Block.wbAbandon (b : Block) : Block :=
  match b.cmp.wb with
  | none => b
  | some id => { b.onWb id (fun y => { y with st := 3 }) with cmp.wb := none }

/-- The write-back buffer is complete: RPL may record it, and it is the newest. -/
def Block.wbComplete (b : Block) (m : Nat) : Block :=
  match b.cmp.wb with
  | none => b
  | some id =>
    let b := b.onWb id (fun y => { y with st := 2 })
    let b := { b with cmp := { b.cmp with wb := none, newest := id } }
    match b.cmp.bufs.find? (·.id == id) with
    | none => b
    | some x => b.recordAll none x (b.cmp.region.getD 2 0) (b.compFs m)

/-- The rows of band `r` of the write-back window are written and ROWS_DONE advances. -/
def Block.wbBand (b : Block) (px : Nat → Nat → List Nat) (r : Nat) : Block :=
  let g := b.cset
  match wbWindow g, b.cmp.wb with
  | some w, some id =>
    if !w.meets r then b
    else
      let d := decimOf g
      let row (j : Nat) : List (List ℚ) := (List.range (w.w / d)).map (fun i =>
        let l := (List.range (d * d)).map (fun k => (px (w.x + d * i + k % d) (16 * r + d * j + k / d)).map olfValue)
        wbEncode g (wbGamut g ((weigh (l.map (fun v => (1, v)))).map (· / (d * d : Nat)))))
      match b.cmp.bufs.find? (·.id == id) with
      | none => b
      | some x =>
        let first := (16 * r - w.y) / d
        let b := b.each (List.range (16 / d)) (fun j b =>
          let a := x.data + (first + j) * x.stride
          { b.dramUse 2 a x.stride with dram := writePixels x.fmt a (wbRow g (row j)) b.dram })
        b.onWb id (fun y => { y with rows := first + 16 / d })
  | _, _ => b

/-! ### Begin, run and end (R206, R208, R227) -/

/-- COMPOSITION_BEGIN (R206): the captured composition begins once the one before it has ended and its tables are there; a new copy of
them takes up to 20 µs, a free time (R218, R495; log entry 42). -/
def compositionBegin (b : Block) : Block :=
  match b.cmp.next with
  | none => b
  | some c =>
    if !b.cmpOn || b.cmp.comp.isSome then b
    else
      let b :=
        match c.copying with
        | some t =>
          let (k, b) := b.fresh
          b.untilStc (t + min (Config.freeValue k) 20000)
        | none => b
      let uses := ((List.range 16).filter (fun n => (layerOf c.get n).en)).map (fun n => (⟨n, none, false, false⟩ : LayerUse))
      let b := { b with
        cmp := { b.cmp with next := none, comp := some c.m, set := some c, layers := uses, modeEpoch := b.act F.FRM_MODE_EPOCH_EPOCH }
        lnk := { b.lnk with kept := [], keptBytes := 0 } }
      let b := b.each (List.range 16) (fun n b =>
        b.setWord (R.CMP_LAYERn_STATUS n) (BitVec.ofNat 32 (b.get (F.CMP_LAYERn_STATUS_LAST_WFN n) * 65536)))
      let b := (b.setPair F.CMP_COMP_WFN_LO F.CMP_COMP_WFN_HI c.m).set F.CMP_LINEBUF_USED_UNITS (lineUnits c.get)
      let b := (b.irq F.CMP_IRQ_STATUS_START).wbBegin c.m
      b.waitBand 0

/-- A composition ends (R206): whole, or dropped (R227). Holds go; a delegate whose split has healed, and a standby with a
handover due, act now (R268, R271). -/
def Block.compositionEnd (b : Block) (whole : Bool) : Block :=
  match b.cmp.comp with
  | none => b
  | some m =>
    let g := b.cset
    let b := b.each b.cmp.layers (fun u b => b.releaseLayer u)
    let b := (if whole then b.wbComplete m else b.wbAbandon).rplRelease m
    let b := b.setInt F.CMP_SLACK_NS ((b.bandDeadline g m (bandCount g - 1) - q16 b.stc) / 65536)
    let b := (b.set F.CMP_STATUS_STATE cmpIdle).irq F.CMP_IRQ_STATUS_DONE
    let b := { b with cmp.comp := none }
    let b := if b.lnk.delegateEnds && b.duty == dutyDelegate then
        { (b.setDuty dutyStandby).setSplit none with lnk.delegateEnds := false } else b
    b.handoverDue m

/-- The rows of the band are there: its layers' rows are fetched, and it runs. -/
def Block.runBand (b : Block) : Block :=
  let r := b.band
  let b := b.each (b.bandLayers r) (fun n b =>
    let u := b.use n
    match b.layerSurf u with
    | some x => if u.out then b else b.surfUse 2 x (b.rowsOf n r x).1 (b.rowsOf n r x).2
    | none => b)
  b.set F.CMP_STATUS_STATE cmpRun

/-- BAND_START (R208): every contributing layer's rows are readable. -/
def bandStart (b : Block) : Block :=
  if b.cmp.comp.isNone || b.cmpState != cmpWait || !b.cmpOn then b
  else
    let b := b.selectBand b.band false
    if (b.bandLayers b.band).all (fun n => b.rowsReady n b.band) then b.runBand else b

/-- BAND_LATEST_START (R208, R225): at LS(r) layers whose rows are not readable fault, and the band starts. -/
def bandLatestStart (b : Block) : Block :=
  match b.cmp.comp with
  | none => b
  | some m =>
    if b.cmpState ≠ cmpWait ∨ !b.cmpOn then b
    else
      let r := b.band
      let b := (b.untilStc (nsOf (b.latestStart b.cset m r))).selectBand r true
      let b := b.each (b.bandLayers r) (fun n b => if b.rowsReady n r then b else b.layerFault n false)
      b.runBand

/-- The layers that take part in band `r`, lowest first, with what they read. -/
def Block.taking' (b : Block) (r : Nat) : List (Nat × Layer × Surf) :=
  (b.bandLayers r).filterMap (fun n =>
    let u := b.use n
    if u.out then none else (b.layerSurf u).map (fun x => (n, layerOf b.cset n, x)))

/-- The computed pixels of band `r` (R210). -/
def bandPoints (g : Fld → Nat) (r : Nat) : List (Nat × Nat) :=
  ((computed g).filter (·.meets r)).flatMap (fun q => (List.range 16).flatMap (fun i =>
    (List.range q.w).map (fun x => (q.x + x, 16 * r + i))))

/-- The frond of slot `s` in band `r` of composition `m` (R210, R245). -/
def Block.frondOf (b : Block) (px : Nat → Nat → List Nat) (m r s : Nat) (q : Rect) : Frond where
  slot := s
  band := (16 * r - q.y) / 16
  w := q.w
  wfn := m
  epoch := b.epoch
  modeEpoch := b.cmp.modeEpoch
  scale := b.lnk.scaleSent
  chainId := b.chainId
  sender := b.slotNumber
  pixels := (List.range 16).flatMap (fun i => (List.range q.w).map (fun x =>
    let c := px (q.x + x) (16 * r + i)
    BitVec.ofNat 48 (c.getD 0 0 + 2 ^ 16 * c.getD 1 0 + 2 ^ 32 * c.getD 2 0)))
  crcOk := true
  zeros := true

/-- Does a head send the fronds of slot `s` (R247, R270)? -/
def Block.sendsSlot (b : Block) (s : Nat) : Bool :=
  (b.duty == dutyActive && !b.beyondSplit s) || (b.duty == dutyDelegate && b.beyondSplit s)

/-- A frond in the resend buffer: its cells are written one frond behind the other (R265), if it fits. -/
def Block.keepFrond (b : Block) (f : Frond) : Block :=
  let size := b.act F.LNK_RESEND_SIZE_MIB * 2 ^ 20
  let len := 64 * frondCells f.w
  let keeps := b.duty == dutyStandby || b.duty == dutyDelegate || b.bit F.LNK_CHAIN_STATUS_SPLIT
  if size = 0 ∨ !keeps then b
  else if size < b.lnk.keptBytes + len then (b.countSat (F.LNK_CNT_Ei 7) 1).raise E.LNK_RESEND_SHORT
  else
    let base := b.actPair F.LNK_RESEND_BASE_LO F.LNK_RESEND_BASE_HI_BASE
    let b := b.dramWrite 0 (base + b.lnk.keptBytes) (frondBytes f)
    { b with lnk := { b.lnk with kept := b.lnk.kept ++ [Kept.mk f.slot f.band f], keptBytes := b.lnk.keptBytes + len } }

/-- A frond that Rosette hands over: the module's own goes to SCN inside the module (R25), others leave the chain port (R247); every
one goes to the resend buffer (R265). -/
def Block.handOver (b : Block) (f : Frond) : Block :=
  let leaves := f.slot != b.slotNumber && b.sendsSlot f.slot && bitOf ((b.cmp.set.map (·.mask)).getD 0) f.slot
  let b :=
    if f.slot = b.slotNumber ∧ b.role = roleHeadTile then b.scnFrond f
    else if leaves then b.each (b.chainPorts.filter b.carries) (fun p b => b.sendFrond p f)
    else b
  b.keepFrond f

/-- When a layer whose data is missing in band `r` faults: LS(r + 1), or D(R − 1) in the last band (R225 (b)). -/
def Block.faultTime (b : Block) (g : Fld → Nat) (m r : Nat) : Int :=
  if r + 1 < bandCount g then b.latestStart g m (r + 1) else b.bandDeadline g m (bandCount g - 1)

/-- BAND_EMIT (R210, R225 case (b), R226, R228): the band is complete. `missing` are layers whose fetched data has not come: the band
then waits for their fault, and misses its deadline where that comes first. `behind` tells that write-back writes have fallen more
than one band behind. -/
def bandEmit (missing : List Nat) (behind : Bool) (b : Block) : Block :=
  match b.cmp.comp with
  | none => b
  | some m =>
    let g := b.cset
    let r := b.band
    let late := (b.taking' r).filter (fun l => missing.contains l.1)
    if b.cmpState ≠ cmpRun ∨ !b.cmpOn ∨ b.bandDeadline g m r < q16 b.stc then b
    else if !late.isEmpty ∧ b.bandDeadline g m r < b.faultTime g m r then b
    else
      let tables := (b.cmp.set.map (·.tables)).getD []
      let b := if late.isEmpty then b else b.untilStc (nsOf (b.faultTime g m r))
      let b := b.each late (fun l b => b.layerFault l.1 false)
      let pts := bandPoints g r
      let bad := (b.taking' r).filter (fun l => pts.any (fun p => b.corruptAt g tables l.2.1 l.2.2 p.1 p.2))
      let b := b.each bad (fun l b => b.layerFault l.1 true)
      let ls := b.taking' r
      let b := b.each ls (fun l b =>
        let inside (p : Nat × Nat) : Bool := decide (l.2.1.dx ≤ p.1) && decide (p.1 < l.2.1.dx + l.2.1.dw)
          && decide (l.2.1.dy ≤ p.2) && decide (p.2 < l.2.1.dy + l.2.1.dh)
        let edge := pts.any (fun p => inside p && edgeClamp l.2.1 l.2.2 (p.1 - l.2.1.dx) (p.2 - l.2.1.dy))
        let b := if edge && !b.bit (F.CMP_LAYERn_STATUS_EDGE_CLAMP l.1) then
            (b.set (F.CMP_LAYERn_STATUS_EDGE_CLAMP l.1) 1).countSat (F.CMP_CNT_Ei 4) 1 else b
        (b.set (F.CMP_LAYERn_STATUS_USED l.1) 1).set (F.CMP_LAYERn_STATUS_LAST_WFN l.1) m)
      let px := b.canvasPixel g tables (ls.map (·.2))
      let fronds := ((slotsOf g).filter (fun s => s.2.meets r)).map (fun s => b.frondOf px m r s.1 s.2)
      let b := b.each fronds (fun f b => b.handOver f)
      let b := if behind && b.cmp.wb.isSome then (b.wbAbandon.countSat (F.CMP_CNT_Ei 3) 1).raise E.CMP_WB_DROP
        else b.wbBand px r
      if r + 1 < bandCount g then b.waitBand (r + 1) else b.compositionEnd true

/-- BAND_DEADLINE_MISS (R227): band r has not been emitted by D(r); the rest of the composition is dropped. -/
def bandDeadlineMiss (b : Block) : Block :=
  match b.cmp.comp with
  | none => b
  | some m =>
    if !b.cmpOn then b
    else
      let g := b.cset
      let b := b.untilStc (nsOf (b.bandDeadline g m b.band))
      let b := (b.countSat (F.CMP_CNT_Ei 2) (bandCount g - b.band)).raise E.CMP_OVERRUN
      b.compositionEnd false

/-- CMP stops at once: its clocks stop, or its role ends (R208, R429). -/
def Block.cmpStop (b : Block) : Block :=
  let b := b.each b.cmp.layers (fun u b => b.releaseLayer u)
  let b := b.wbAbandon
  let b := match b.cmp.comp with | some m => b.rplRelease m | none => b
  { b.set F.CMP_STATUS_STATE cmpIdle with cmp := { b.cmp with next := none, comp := none, layers := [] } }

/-- COMPOSITION_BEGIN. -/
def execCompositionBegin (s : State) : Host.Outcome State Fault Refusal := s.done (compositionBegin s.blk)
/-- BAND_START. -/
def execBandStart (s : State) : Host.Outcome State Fault Refusal := s.done (bandStart s.blk)
/-- BAND_LATEST_START. -/
def execBandLatestStart (s : State) : Host.Outcome State Fault Refusal := s.done (bandLatestStart s.blk)
/-- BAND_EMIT. -/
def execBandEmit (missing : List Nat) (behind : Bool) (s : State) : Host.Outcome State Fault Refusal :=
  s.done (bandEmit missing behind s.blk)
/-- BAND_DEADLINE_MISS. -/
def execBandDeadlineMiss (s : State) : Host.Outcome State Fault Refusal := s.done (bandDeadlineMiss s.blk)

end Sys2Proof.Machine
end

