-- ==== Sys2Proof/Machine/Mem.lean ====
section
/-!
DEFINITION. The memory controllers (R354 to R365): delays and drift, refresh and temperature, power-down by declared
tolerances, DRAM read errors with their clients' reactions, QDR scrubbing and read errors by region. Training's end moves
the boot stage and stands in Machine/Boot.lean; a client's reaction to poisoned data is in that client's own row.
-/

namespace Sys2Proof.Machine

/-! ### Sweeps (R354) -/

/-- The longest run of passing steps of a sweep from step `i` on, `n` steps left: its start and length; the first of
several equal ones (log entry 30). `cur` is the length of the run that ends before step `i`. -/
def sweepRun (sweep : Nat) : Nat → Nat → Nat → Nat × Nat → Nat × Nat
  | 0, _, _, best => best
  | n + 1, i, cur, best =>
    if bitOf sweep i then
      let cur := cur + 1
      sweepRun sweep n (i + 1) cur (if best.2 < cur then (i + 1 - cur, cur) else best)
    else sweepRun sweep n (i + 1) 0 best

/-- Eye width and centre of a sweep of 128 steps, bit i for step i (R354). -/
def sweepEye (sweep : Nat) : Nat × Nat :=
  let (s, n) := sweepRun sweep 128 0 0 (0, 0)
  (n, s + (n - 1) / 2)

/-- Record a lane's two sweeps: eyes and delays (R354). -/
def Block.laneEye (b : Block) (l rd wr : Nat) : Block :=
  let (rw, rc) := sweepEye rd
  let (ww, wc) := sweepEye wr
  let b := (b.set (F.DRM_LANEl_EYE_RD_WIDTH l) rw).set (F.DRM_LANEl_EYE_RD_CENTRE l) rc
  let b := (b.set (F.DRM_LANEl_EYE_WR_WIDTH l) ww).set (F.DRM_LANEl_EYE_WR_CENTRE l) wc
  { b with drm.delay := b.drm.delay.set l ((rc : Int) - 64, (wc : Int) - 64) }

/-- One attempt of a channel: does every lane reach MIN_STEPS both ways? -/
def Block.attemptOk (b : Block) (lanes : List (Nat × Nat)) : Bool :=
  let n := b.get F.DRM_TRAIN_CFG_MIN_STEPS
  lanes.length == 4 && lanes.all (fun x => decide (n ≤ (sweepEye x.1).1) && decide (n ≤ (sweepEye x.2).1))

/-- A channel's attempts in order, each failed one but the third tried again (R354): did it train? -/
def Block.trainChannel (b : Block) (c : Nat) : List (List (Nat × Nat)) → Bool × Block
  | [] => (false, b)
  | a :: r =>
    let b := (b.laneEye (4 * c) (a.getD 0 (0, 0)).1 (a.getD 0 (0, 0)).2).laneEye (4 * c + 1) (a.getD 1 (0, 0)).1 (a.getD 1 (0, 0)).2
    let b := (b.laneEye (4 * c + 2) (a.getD 2 (0, 0)).1 (a.getD 2 (0, 0)).2).laneEye (4 * c + 3) (a.getD 3 (0, 0)).1 (a.getD 3 (0, 0)).2
    if b.attemptOk a then (true, b.set F.DRM_STATUS_TRAINED (setBitOf (b.get F.DRM_STATUS_TRAINED) c true))
    else if r.isEmpty then (false, b)
    else (b.raise E.DRM_TRAIN_RETRY).trainChannel c r

/-! ### Power-down (R358, R359) -/

/-- Is channel `c` in SELF_REFRESH or DEEP? -/
def Block.selfRefresh (b : Block) (c : Nat) : Bool := 2 ≤ b.get (F.DRM_CHc_STATUS_PSTATE c)

/-- Does DRM control the channels: trained, and not in the sleep that forces SELF_REFRESH (R436, R440)? -/
def Block.drmOn (b : Block) : Bool := b.get F.DRM_STATUS_TRAINED != 0 && !b.pm.gate

/-- Exit latency of a power state in units of 0.5 µs. -/
def exitHalfUs (p : Nat) : Nat := if p = 0 then 0 else if p = 1 then 1 else if p = 2 then 8 else 80

/-- The tolerance client `n` declares now in µs, 0xFFFF for none (R359). An idle block declares none (R23). -/
def Block.tolerance (b : Block) (n : Nat) : Nat :=
  let none' := 0xFFFF
  match n with
  | 0 => 50
  | 1 => if !b.idle 0x12 && (b.bit F.ING_MON_CTRL_EN || (List.range 16).any (fun s => b.actBit (F.ING_STRs_CTRL_EN s))) then 10 else none'
  | 2 => if b.cmp.comp.isSome then 2 else none'
  | 3 => if b.rpl.any (·.copy.isSome) then 10 else none'
  | 4 => if b.get F.COR_LOAD_STATUS_STATE = 1 then 20 else none'
  | 5 => if b.get F.CFG_PR_STATUS_STATE = 1 ∨ b.stage = 2 ∨ b.stage = 3 ∨ b.updBusy then 50 else none'
  | 6 => if b.get F.AUD_STATUS_RUNNING ≠ 0 then 50 else none'
  | _ => b.get F.DRM_FW_TOL_US

/-- T in µs and the client that holds it, the lowest of several (R358). -/
def Block.leastTolerance (b : Block) : Nat × Nat :=
  (List.range 8).foldl (fun (best : Nat × Nat) n =>
    let t := b.get (F.DRM_CLIENTn_TOL_US n)
    if t < best.1 then (t, n) else best) (0xFFFF, 0)

/-- Is state `p` within T? 0xFFFF is no limit. -/
def Block.within (b : Block) (p : Nat) : Bool :=
  let t := b.leastTolerance.1
  t == 0xFFFF || decide (exitHalfUs p < 2 * t)

/-- LATENCY_DECLARATION (R358, R359): client `n`'s declaration reaches DRM; channels whose exit takes longer than T start
to exit. -/
def latencyDeclaration (n : Nat) (b : Block) : Block :=
  if 8 ≤ n then b
  else
    let b := b.set (F.DRM_CLIENTn_TOL_US n) (b.tolerance n)
    let (t, c) := b.leastTolerance
    let b := (b.set F.DRM_LAT_US t).set F.DRM_LAT_CLIENT c
    if !b.drmOn then b
    else b.each (List.range 4) (fun c b =>
      if t ≠ 0xFFFF ∧ 2 * t < exitHalfUs (b.get (F.DRM_CHc_STATUS_PSTATE c)) then { b with drm.exiting := b.drm.exiting.set c true } else b)

/-- An entry to POWER_DOWN or SELF_REFRESH is counted (R358). -/
def Block.countEntry (b : Block) (c p : Nat) : Block :=
  if p = 1 then b.countSat (F.DRM_CHc_CNT_Ei c 4) 1 else if p = 2 then b.countSat (F.DRM_CHc_CNT_Ei c 5) 1 else b

/-- Every trained channel enters SELF_REFRESH (R429, R440). -/
def Block.allSelfRefresh (b : Block) : Block :=
  b.each (List.range 4) (fun c b =>
    if b.get F.DRM_STATUS_TRAINED = 0 ∨ b.selfRefresh c then b
    else ((b.set (F.DRM_CHc_STATUS_PSTATE c) 2).countEntry c 2).closePages c (fun _ => true))

/-- DRAM_IDLE_ENTRY (R358): channel `c` has had no request for IDLE_NS. SELF_REFRESH and DEEP close its pages (R356). -/
def dramIdleEntry (c : Nat) (b : Block) : Block :=
  if 4 ≤ c ∨ !b.drmOn ∨ b.get (F.DRM_CHc_STATUS_PSTATE c) ≠ 0 then b
  else
    let b := b.untilClk (b.drm.lastAt.getD c 0 + b.get F.DRM_PM_CTRL_IDLE_NS)
    let deepest := ([3, 2, 1].find? (fun p => decide (p ≤ b.get F.DRM_PM_CTRL_MAX_STATE) && b.within p)).getD 0
    let b := (b.set (F.DRM_CHc_STATUS_PSTATE c) deepest).countEntry c deepest
    b.when (decide (2 ≤ deepest)) (·.closePages c (fun _ => true))

/-- The lanes of channel `c` shift by the drift measured, in steps of 1/64 UI (R355). -/
def Block.shiftLanes (b : Block) (c : Nat) (drift : Int) : Block :=
  { b with drm.delay := b.drm.delay.mapIdx (fun l d => if l / 4 = c then (d.1 + drift, d.2 + drift) else d) }

/-- DRAM_EXIT_DONE (R358, R355): channel `c` is ACTIVE again; after SELF_REFRESH or DEEP its lanes are corrected first; then
what waited is served. -/
def dramExitDone (c : Nat) (drift : Int) (b : Block) : Block :=
  if 4 ≤ c ∨ !b.drmOn ∨ b.get (F.DRM_CHc_STATUS_PSTATE c) = 0 ∨ !b.drm.exiting.getD c false then b
  else
    let b := if b.selfRefresh c then b.shiftLanes c drift else b
    let b := { b with drm.exiting := b.drm.exiting.set c false }
    (b.set (F.DRM_CHc_STATUS_PSTATE c) 0).serveChannel c

/-! ### Drift, refresh, temperature (R355, R357) -/

/-- WCK_DRIFT_CHECK (R355): every 100 ms, for the channels not in SELF_REFRESH or DEEP; one drift per channel. -/
def wckDriftCheck (drifts : List Int) (b : Block) : Block :=
  if !b.drmOn then b
  else
    let b := b.untilClk b.drm.drift
    let b := { b with drm.drift := b.clk + 100000000 }
    b.each (List.range 4) (fun c b => if b.selfRefresh c then b else b.shiftLanes c (drifts.getD c 0))

/-- Ns between two per-bank refreshes of channel `c`. -/
def Block.refreshNs (b : Block) (c : Nat) : Nat := if b.bit (F.DRM_CHc_STATUS_HOT c) then 122 else 244

/-- BANK_REFRESH (R357): the next of 16 banks, whose page closes (R356); a channel in POWER_DOWN wakes for it and enters POWER_DOWN again. -/
def bankRefresh (c : Nat) (b : Block) : Block :=
  if 4 ≤ c ∨ !b.drmOn ∨ b.selfRefresh c then b
  else
    let b := b.untilClk (b.drm.refresh.getD c 0)
    let b := b.closePages c (fun p => p.bank == b.drm.bank.getD c 0)
    let b := { b with drm := { b.drm with
      refresh := b.drm.refresh.set c (b.clk + b.refreshNs c), bank := b.drm.bank.set c ((b.drm.bank.getD c 0 + 1) % 16) } }
    b.countEntry c (b.get (F.DRM_CHc_STATUS_PSTATE c))

/-- One channel's temperature report: TEMP, whether a device calls for more refresh, whether one is above its limit. -/
def Block.channelTemp (b : Block) (c : Nat) (r : Nat × Bool × Bool) : Block :=
  let hot := r.2.1 || r.2.2
  let b := b.set (F.DRM_CHc_STATUS_TEMP c) r.1
  let b := b.irqIf (b.bit (F.DRM_CHc_STATUS_HOT c) != hot) F.DRM_IRQ_STATUS_HOT_CHANGE
  let b := b.setBit (F.DRM_CHc_STATUS_HOT c) hot
  let b := b.set F.DRM_STATUS_HOT (setBitOf (b.get F.DRM_STATUS_HOT) c hot)
  b.raiseIf r.2.2 E.DRM_TEMP_LIMIT

/-- DRAM_TEMP_READ (R357): every 16 ms, one report per channel. -/
def dramTempRead (rs : List (Nat × Bool × Bool)) (b : Block) : Block :=
  if !b.drmOn then b
  else
    let b := b.untilClk b.drm.temp
    let b := { b with drm.temp := b.clk + 16000000 }
    b.each (List.range 4) (fun c b => match rs[c]? with | some r => b.channelTemp c r | none => b)

/-- ODECC_READ (R360): once a second, the rise of each channel's on-die error counts. -/
def odeccRead (rises : List Nat) (b : Block) : Block :=
  if !b.drmOn then b
  else
    let b := b.untilClk b.drm.odecc
    let b := { b with drm.odecc := b.clk + 1000000000 }
    b.each (List.range 4) (fun c b => b.countSat (F.DRM_CHc_CNT_Ei c 3) (rises.getD c 0))

/-! ### Read errors (R360, R361) -/

/-- A half's oldest message lies in the slot that holds address `a`. -/
def Ring.slotHit (pool : Nat) (pages : List Nat) (tail slots a : Nat) : Bool :=
  match pages with
  | [] => false
  | i :: _ => let s := pool + 4096 * i + 256 * (tail % slots); decide (s ≤ a) && decide (a < s + 256)

/-- Poisoned data from the ring table or a message slot (R361): the ring is lost, or the message dropped. -/
def Block.hifPoison (b : Block) (a : Nat) : Block :=
  if a < ringTable.len then b.when (!nodeReserved (a / 64)) (·.ringCheckFailed (a / 64))
  else
    let pool := b.ringPool.base
    b.each b.hif.rings (fun r b =>
      if !r.inQ.isEmpty && Ring.slotHit pool r.inPages r.inTail r.slots a then
        b.setRing { r with inQ := r.inQ.tail, inTail := (r.inTail + 1) % 2 ^ 32 }
      else if !r.outQ.isEmpty && Ring.slotHit pool r.outPages r.outTail r.slots a then
        b.setRing { r with outQ := r.outQ.tail, outTail := (r.outTail + 1) % 2 ^ 32 }
      else b)

/-- DRAM_READ_ERROR (R360): `corrected` by link ECC, or a retry that succeeds or fails. -/
def dramReadError (a : Nat) (corrected retryOk : Bool) (b : Block) : Block :=
  if dramSize b.fuses ≤ a ∨ !b.drmOn then b
  else
    let c := a / 256 % 4
    if corrected then b.countSat (F.DRM_CHc_CNT_Ei c 0) 1
    else
      let b := b.countSat (F.DRM_CHc_CNT_Ei c 2) 1
      if retryOk then b
      else
        let b := (b.countSat (F.DRM_CHc_CNT_Ei c 1) 1).setPair F.DRM_UE_ADDR_LO F.DRM_UE_ADDR_HI_ADDR a
        (b.raiseAt E.DRM_UE (a % 2 ^ 32)).hifPoison a

/-! ### QDR (R364, R365) -/

/-- The bytes of a QDR word (log entry 31). -/
def qdrWord : Nat := 4

/-- QDR_SCRUB (R364): the scrubber reads the next word: 0 clean, 1 corrected, 2 uncorrectable. -/
def qdrScrub (result : Nat) (b : Block) : Block :=
  if b.get F.QDR_SCRUB_PERIOD_S = 0 ∨ b.pm.gate then b
  else
    let a := b.drm.scrub
    let b := { b with drm.scrub := (a + qdrWord) % 0x2400000 }
    if result = 1 then b.countSat (F.QDR_CNT_Ei 3) 1
    else if result = 2 then
      { b with qdrBad := b.qdrBad ++ ((List.range qdrWord).map (a + ·)).filter (fun x => !b.qdrBad.contains x) }.qdrUe a
    else b

/-- What an uncorrectable word does by its region (R365, R281); `s` is the string whose working data the STR working store
holds there. -/
def Block.qdrRegion (b : Block) (a s : Nat) : Block :=
  if a < lampBase then b
  else if a < 0x600000 then (b.writeQdr a (leBytes 4 0)).when (a < lampBase + 4 * lampCount) (·.lampCounts ((a - lampBase) / 4 / 3072))
  else if a < 0x1200000 then b.raiseAt E.QDR_TABLE_UE a
  else b.onStr s (fun q => { q with spoilt := true })

/-- QDR_READ_ERROR (R364, R365): a client's read at word `w`: 0 corrected, 1 parity error with a good retry, 2 parity error
whose retry fails, else uncorrectable. -/
def qdrReadError (w kind s : Nat) (b : Block) : Block :=
  let a := qdrWord * w
  if 0x2400000 ≤ a ∨ b.pm.gate then b
  else if kind = 0 then b.countSat (F.QDR_CNT_Ei 0) 1
  else
    let b := if kind ≤ 2 then (b.countSat (F.QDR_CNT_Ei 2) 1).raise E.QDR_ADDR_PARITY else b
    if kind = 1 then b
    else
      let b := { b with qdrBad := b.qdrBad ++ ((List.range qdrWord).map (a + ·)).filter (fun x => !b.qdrBad.contains x) }
      (b.qdrUe a).qdrRegion a s

/-! ### Meanings -/

/-- LATENCY_DECLARATION. -/
def execLatencyDeclaration (n : Nat) (s : State) : Host.Outcome State Fault Refusal := s.done (latencyDeclaration n s.blk)
/-- DRAM_IDLE_ENTRY. -/
def execDramIdleEntry (c : Nat) (s : State) : Host.Outcome State Fault Refusal := s.done (dramIdleEntry c s.blk)
/-- DRAM_EXIT_DONE. -/
def execDramExitDone (c : Nat) (drift : Int) (s : State) : Host.Outcome State Fault Refusal := s.done (dramExitDone c drift s.blk)
/-- WCK_DRIFT_CHECK. -/
def execWckDriftCheck (drifts : List Int) (s : State) : Host.Outcome State Fault Refusal := s.done (wckDriftCheck drifts s.blk)
/-- BANK_REFRESH. -/
def execBankRefresh (c : Nat) (s : State) : Host.Outcome State Fault Refusal := s.done (bankRefresh c s.blk)
/-- DRAM_TEMP_READ. -/
def execDramTempRead (rs : List (Nat × Bool × Bool)) (s : State) : Host.Outcome State Fault Refusal :=
  s.done (dramTempRead rs s.blk)
/-- ODECC_READ. -/
def execOdeccRead (rises : List Nat) (s : State) : Host.Outcome State Fault Refusal := s.done (odeccRead rises s.blk)
/-- DRAM_READ_ERROR. -/
def execDramReadError (a : Nat) (corrected retryOk : Bool) (s : State) : Host.Outcome State Fault Refusal :=
  s.done (dramReadError a corrected retryOk s.blk)
/-- QDR_SCRUB. -/
def execQdrScrub (result : Nat) (s : State) : Host.Outcome State Fault Refusal := s.done (qdrScrub result s.blk)
/-- QDR_READ_ERROR. -/
def execQdrReadError (w kind n : Nat) (s : State) : Host.Outcome State Fault Refusal := s.done (qdrReadError w kind n s.blk)

end Sys2Proof.Machine
end

