-- ==== Sys2Proof/Machine/Thm.lean ====
section
/-!
DEFINITION. Thermal protection (R425 to R431): the sample of the 24 sensors, the throttle at each guard start, shutdown and
restart. Temperatures are in 0.125 °C.
-/

namespace Sys2Proof.Machine

/-- Component of a sensor (R425). -/
def sensorComp (n : Nat) : Nat := if n < 12 then 0 else if n < 16 then 1 else (n - 16) / 2 + 2

/-- Neighbours of a sensor (R425). -/
def sensorNear (n : Nat) : List Nat :=
  if n < 12 then
    (List.range 12).filter (fun m =>
      (m / 4 == n / 4 && (m == n + 1 || m + 1 == n)) || m == n + 4 || m + 4 == n)
  else if n < 16 then [12 + (n - 12 + 1) % 4, 12 + (n - 12 + 3) % 4]
  else [if n % 2 = 0 then n + 1 else n - 1]

/-- W_c and S_c (R425). -/
def warnAt (c : Nat) : Int := 8 * ([95, 85, 90, 100, 100, 100].getD c 100 : Nat)
def shutAt (c : Nat) : Int := 8 * ([115, 105, 110, 120, 120, 120].getD c 120 : Nat)

/-- Insert into a rising list. -/
def insertInt (x : Int) : List Int → List Int
  | [] => [x]
  | y :: r => if x ≤ y then x :: y :: r else y :: insertInt x r

/-- Twice the median: the middle value twice, or the sum of the two in the middle. -/
def median2 (l : List Int) : Int :=
  let s := l.foldr insertInt []
  let n := s.length
  s.getD ((n - 1) / 2) 0 + s.getD (n / 2) 0

/-- Has a sensor failed in this sample (R426)? -/
def sensorFailed (t : Int) : Bool := t < -440 || 1200 < t

/-- Is sensor `n` suspect in this sample (R426)? -/
def sensorSuspect (ts : List Int) (n : Nat) : Bool :=
  let t := ts.getD n 0
  let near := ((sensorNear n).map (fun m => ts.getD m 0)).filter (fun x => !sensorFailed x)
  !sensorFailed t && !near.isEmpty && decide (128 < (2 * t - median2 near).natAbs)

/-- The largest of a list of temperatures. -/
def maxInt : List Int → Option Int
  | [] => none
  | x :: r => match maxInt r with | some y => some (max x y) | none => some x

/-- T_c and whether the component has no valid sensor (R426). -/
def compTemp (ts : List Int) (c : Nat) : Int × Bool :=
  let ns := (List.range 24).filter (fun n => sensorComp n == c && !sensorFailed (ts.getD n 0))
  match maxInt ((ns.filter (fun n => !sensorSuspect ts n)).map (fun n => ts.getD n 0)) with
  | some t => (t, false)
  | none => ((maxInt (ns.map (fun n => ts.getD n 0))).getD (warnAt c), true)

/-- STATE or DIV takes a value; a change sets STATE_CHANGE (R433). -/
def Block.setThm (b : Block) (f : Fld) (v : Nat) : Block :=
  if b.get f = v then b else (b.set f v).irq F.THM_IRQ_STATUS_STATE_CHANGE

/-- The trip (R429): strings off, pipelines stopped, DRAM in SELF_REFRESH, a head that sends drops to STANDBY. -/
def Block.thmTrip (b : Block) : Block :=
  let b := b.calAbandon.strAllOff.allSelfRefresh
  let b := if b.isHead && (b.duty == dutyActive || b.duty == dutyDelegate) then b.dropToStandby else b
  let b := { b with thm.coolFrom := none, thm.restart := false }
  ((b.setThm F.THM_STATUS_STATE 2).countSat (F.THM_CNT_Ei 1) 1).raise E.THM_SHUTDOWN

/-- THM_COOL (R430). -/
def Block.thmCool (b : Block) (valid : List Int) : Block :=
  let cold := valid.all (fun t => decide (t < 680))
  let from' := if cold then some (b.thm.coolFrom.getD b.clk) else none
  let b := { b with thm.coolFrom := from' }
  b.set F.THM_COOL_S (match from' with | some t => min 0xFFFF ((b.clk - t) / 1000000000) | none => 0)

/-- THM_SAMPLE (R426, R429, R430): 24 readings; it samples in every power state but OFF. -/
def thmSample (ts : List Int) (b : Block) : Block :=
  if b.logic ≠ .running ∨ b.pmState = pmOff then b
  else
    let b := b.elapse 100000
    let b := b.each (List.range 24) (fun n b =>
      let t := ts.getD n 0
      let b := (b.setBit (F.THM_SENSn_FAILED n) (sensorFailed t)).setBit (F.THM_SENSn_SUSPECT n) (sensorSuspect ts n)
      b.set (F.THM_SENSn_T n) (unsigned 16 (satSigned 16 t)))
    let suspects := (List.range 24).map (fun n => if sensorSuspect ts n then b.thm.suspects.getD n 0 + 1 else 0)
    let b := b.countSat (F.THM_CNT_Ei 2) ((List.range 24).filter (fun n => sensorSuspect ts n)).length
    let b := { b with thm.suspects := suspects }
    let b := b.raiseIf ((List.range 24).any (fun n => sensorFailed (ts.getD n 0))) E.THM_SENSOR_FAIL
    let b := b.raiseIf (suspects.any (fun k => decide (100 ≤ k))) E.THM_SUSPECT
    let comps := (List.range 6).map (fun c => compTemp ts c)
    let b := b.each (List.range 6) (fun c b =>
      let (t, fb) := comps.getD c (0, false)
      (b.set (F.THM_COMPc_T c) (unsigned 16 (satSigned 16 t))).setBit (F.THM_COMPc_FALLBACK c) fb)
    let b := b.raiseIf (comps.any (·.2)) E.THM_FALLBACK
    let valid := ((List.range 24).filter (fun n => !sensorFailed (ts.getD n 0) && !sensorSuspect ts n)).map (fun n => ts.getD n 0)
    let b := b.set F.THM_TEMP_DIE (unsigned 16 (satSigned 16 (comps.getD 0 (0, false)).1))
    let b := match maxInt valid with | some t => b.set F.THM_TEMP_TMAX (unsigned 16 (satSigned 16 t)) | none => b
    let over' := (List.range 6).map (fun c => decide (shutAt c ≤ (comps.getD c (0, false)).1))
    let trip := (List.range 6).any (fun c => over'.getD c false && b.thm.tripping.getD c false)
    let b := { b with thm.tripping := over' }
    let b := b.thmCool valid
    if trip && !b.shutdown then b.thmTrip else b

/-- THM_COOL_DONE (R430): THM_COOL reaches 60 s. -/
def thmCoolDone (b : Block) : Block :=
  match b.thm.coolFrom with
  | none => b
  | some t =>
    if !b.shutdown then b
    else
      let b := b.untilClk (t + 60000000000)
      { (b.set F.THM_COOL_S (min 0xFFFF ((b.clk - t) / 1000000000))) with thm.restart := true }

/-! ### Throttle (R427, R428) -/

/-- The evaluation's step (R427): t_thm, D and the two times, from hot, cool and STC `now`. -/
def thmStep (s : Thm) (hot cool head clkdiv : Bool) (floor down up clkNs now : Nat) : Thm :=
  let atFloor := s.scale == floor || head
  if hot then
    let s := { s with coolSince := none }
    if !atFloor then { s with scale := max floor (s.scale - down) }
    else if clkdiv && decide (s.div < 4) then
      let since := s.hotSince.getD now
      if clkNs ≤ now - since then { s with div := 2 * s.div, hotSince := some now } else { s with hotSince := some since }
    else s
  else
    let s := { s with hotSince := none }
    if cool then
      let since := s.coolSince.getD now
      if 1 < s.div then
        if clkNs ≤ now - since then { s with div := s.div / 2, coolSince := some now } else { s with coolSince := some since }
      else { s with coolSince := some since, scale := min 0x8000 (s.scale + up) }
    else { s with coolSince := none }

/-- The throttle at a guard start (R427). -/
def Block.thmGuard (b : Block) : Block :=
  if b.role = 0 ∨ b.shutdown then b
  else
    let warn (c : Nat) : Int := warnAt c - 8 * (b.act F.THM_CTRL_WARN_OFS : Nat)
    let temp (c : Nat) : Int := b.getInt (F.THM_COMPc_T c)
    let hot := (List.range 6).any (fun c => decide (warn c ≤ temp c))
    let cool := (List.range 6).all (fun c => decide (temp c ≤ warn c - 8 * (b.act F.THM_THROTTLE2_HYST : Nat)))
    let d := b.thm.div
    let s := thmStep b.thm hot cool (b.role == roleHead) (b.actBit F.THM_CTRL_CLKDIV_EN) (b.act F.THM_THROTTLE2_FLOOR)
      (b.act F.THM_THROTTLE_DOWN) (b.act F.THM_THROTTLE_UP) (b.act F.THM_THROTTLE2_CLK_S * 1000000000) b.stc
    let b := { b with thm := s }
    let b := if s.div = d then b else (b.countSat (F.THM_CNT_Ei 3) 1).raise E.THM_CLKDIV
    let b := b.set F.THM_STATUS_T_SCALE (min s.scale (b.get F.PWR_LIMIT_SCALE_L))
    let low := decide (s.scale < 0x8000) || decide (1 < s.div)
    let b := if low then b.countSat (F.THM_CNT_Ei 0) 1 else b
    let b := b.setThm F.THM_STATUS_STATE (if low then 1 else 0)
    b.raiseIf hot E.THM_WARN

/-- The code of D in THM_STATUS.DIV. -/
def divCode (d : Nat) : Nat := if d = 4 then 2 else if d = 2 then 1 else 0

/-- At FS_own(n): a change of D takes effect (R428), and a restart that is due happens (R430). -/
def Block.thmFrame (b : Block) : Block :=
  if b.shutdown then
    if b.thm.restart then
      let b := { b with thm := { b.thm with
        scale := b.act F.THM_THROTTLE2_FLOOR, div := 1, hotSince := none, coolSince := none, restart := false } }
      let low := decide (b.thm.scale < 0x8000)
      let b := (b.setThm F.THM_STATUS_DIV 0).setThm F.THM_STATUS_STATE (if low then 1 else 0)
      let b := b.scnRestart.ingInstalled
      { b.cmpStop with cmp.set := none }
    else b
  else b.setThm F.THM_STATUS_DIV (divCode b.thm.div)

/-! ### Meanings -/

/-- THM_SAMPLE. -/
def execThmSample (ts : List Int) (s : State) : Host.Outcome State Fault Refusal := s.done (thmSample ts s.blk)
/-- THM_COOL_DONE. -/
def execThmCoolDone (s : State) : Host.Outcome State Fault Refusal := s.done (thmCoolDone s.blk)

end Sys2Proof.Machine
end

