-- ==== Sys2Proof/Machine/Checks.lean ====
section
/-!
DEFINITION. The pairs and block checks of the commit groups (R123, and each group's own rule): R156, R157 for ING, R178 and
R200 for FRM, R223, R224, R230, R231 for CMP, R279 for LNK, R292 and R296 for SCN and COR, R334 for STR, R371 for RPL, R389
for AUD, R410 for PWR, R434 for THM. A check reads the active values of a block in which everything staged, and the snapshot
under check, stands installed.
-/

namespace Sys2Proof.Machine

/-! ### What will stand (R123) -/

/-- The last stage of group `g`, in staging order. -/
def Block.lastStage (b : Block) (g : Nat) : Option Stage := (b.cfg.stages.filter (·.group == g)).getLast?

/-- The block as it will stand after all staged installs. -/
def Block.standing (b : Block) : Block :=
  b.each (b.cfg.stages.map (·.group)).dedup (fun g b =>
    match b.lastStage g with
    | some s => b.install g s.snap
    | none => b)

/-! ### Regions -/

/-- ING's enabled regions, stream `skip` apart. -/
def Block.ingRegions (b : Block) (skip : Option Nat) : List Span :=
  ((List.range 16).filter (fun s => b.actBit (F.ING_STRs_CTRL_EN s) && some s != skip)).map b.ingRegion

/-- The CMP table region (R218). -/
def Block.tableRegion (b : Block) : Span := ⟨b.pair F.CMP_TBL_BASE_LO_BASE F.CMP_TBL_BASE_HI_BASE, 262144⟩

/-- The write-back region, while write-back is enabled (R228). -/
def Block.wbRegions (b : Block) : List Span :=
  if b.actBit F.CMP_WB_CTRL_EN then
    [⟨b.actPair F.CMP_WB_BASE_LO F.CMP_WB_BASE_HI_BASE, 4096 + b.act F.CMP_WB_CTRL_COUNT * b.act F.CMP_WB_BUF_SIZE⟩]
  else []

/-- The resend buffer and the Spore table, where they exist (R279). -/
def Block.lnkRegions (b : Block) : List Span :=
  let r := b.actPair F.LNK_RESEND_BASE_LO F.LNK_RESEND_BASE_HI_BASE
  let s := b.actPair F.LNK_SPORE_BASE_LO F.LNK_SPORE_BASE_HI_BASE
  (if b.act F.LNK_RESEND_SIZE_MIB = 0 then [] else [⟨r, b.act F.LNK_RESEND_SIZE_MIB * 2 ^ 20⟩])
    ++ (if s = 0 then [] else [⟨s, 4096⟩])

/-- The regions of replay channels whose MODE is not OFF, channel `skip` apart. -/
def Block.rplRegions (b : Block) (skip : Option Nat) : List Span :=
  ((List.range 16).filter (fun c => b.rplMode c != 0 && some c != skip)).map b.rplSpan

/-- The playout buffers of enabled streams and the rings of enabled capture ports, with port and kind. -/
def Block.audRegions (b : Block) : List (Nat × Bool × Span) :=
  ((List.range 4).filter (fun p => b.actBit (F.AUDp_STR_CTRL_EN p))).map (fun p =>
      (p, false, ⟨b.actPair (F.AUDp_BUF_BASE_LO p) (F.AUDp_BUF_BASE_HI_BASE p), 2 ^ 20⟩))
    ++ ((List.range 4).filter (fun p => b.actBit (F.AUDp_CFG_EN p) && b.actBit (F.AUDp_CFG_DIR p))).map (fun p =>
      (p, true, ⟨b.actPair (F.AUDp_CAP_BASE_LO p) (F.AUDp_CAP_BASE_HI_BASE p),
        b.act (F.AUDp_CAP_BLOCKS_RECORDS p) * (if b.actBit (F.AUDp_CFG_RATE p) then 8192 else 4096)⟩))

/-- The regions named in R371, replay regions apart. -/
def Block.fixedRegions (b : Block) : List Span :=
  [ringTable, b.ringPool, b.tableRegion] ++ b.ingRegions none ++ b.wbRegions ++ b.lnkRegions

/-- Does a region lie in DRAM, clear of the others? -/
def Block.placed (b : Block) (r : Span) (others : List Span) : Bool := b.inDram r && r.clearOf others

/-! ### The groups -/

/-- CFG_ERR_PAIR. -/
def codePair : Nat := 0x0220

/-- The first condition that fails, by its code. -/
def firstFail : List (Bool × Nat) → Option Nat
  | [] => none
  | (ok, code) :: r => if ok then firstFail r else some code

/-- R156. -/
def Block.ingPairs (h : Block) (s : Nat) : Bool :=
  let f := h.act (F.ING_STRs_CTRL_FORMAT s)
  let ocs := h.actBit (F.ING_STRs_CTRL_OCS s)
  let sw := h.act (F.ING_STRs_SRC_SIZE_W s)
  let sh := h.act (F.ING_STRs_SRC_SIZE_H s)
  let x := h.act (F.ING_STRs_CROP_XY_X0 s)
  let y := h.act (F.ING_STRs_CROP_XY_Y0 s)
  let w := h.act (F.ING_STRs_CROP_WH_W s)
  let hh := h.act (F.ING_STRs_CROP_WH_H s)
  let n := h.act (F.ING_STRs_BUF_CFG_COUNT s)
  let size := h.act (F.ING_STRs_BUF_SIZE s)
  !fmtReserved f && decide (h.act (F.ING_STRs_CTRL_PT s) ≤ 127)
    && decide (sw ≤ 8192) && decide (sh ≤ 4320) && (!fmt422 f || sw % 2 == 0)
    && x % 8 == 0 && w % 8 == 0 && decide (8 ≤ w) && decide (1 ≤ hh)
    && decide (x + w ≤ sw) && decide (y + hh ≤ sh)
    && decide (2 ≤ n) && decide (n ≤ 8) && decide (h.act (F.ING_STRs_BUF_CFG_SKEW_US s) ≤ 10000)
    && size % 4096 == 0 && decide (surfBytes ocs w hh f ≤ size)
    && (h.actBit (F.ING_STRs_CTRL_PATH_A s) || h.actBit (F.ING_STRs_CTRL_PATH_B s))

/-- CROP_W × 8 × bytes per pixel of stream `s`, if it encodes (R157). -/
def Block.staging (h : Block) (s : Nat) : Nat :=
  if h.actBit (F.ING_STRs_CTRL_EN s) && h.actBit (F.ING_STRs_CTRL_OCS s) then
    h.act (F.ING_STRs_CROP_WH_W s) * 8 * fmtBytes (h.act (F.ING_STRs_CTRL_FORMAT s))
  else 0

/-- R156, R157; `b` is the block as it is. -/
def Block.checkIng (b h : Block) (s : Nat) : Option Nat :=
  if !h.actBit (F.ING_STRs_CTRL_EN s) then none
  else
    let others := ((List.range 16).filter (· != s)).map (fun k => max (b.staging k) (h.staging k))
    firstFail [(h.ingPairs s, codePair),
      (h.placed (h.ingRegion s) ([ringTable, h.ringPool] ++ h.ingRegions (some s)), 0x1210),
      (decide (h.staging s + others.sum ≤ 4194304), 0x1211)]

/-- R178; `before` is the mode epoch that the group holds once every earlier stage has installed, none in the boot
commit. -/
def Block.checkMode (h : Block) (before : Option Nat) : Option Nat :=
  let hdr := h.act F.FRM_HDR_LEAD_NS
  let scale := h.act F.FRM_SCALE_LEAD_NS
  let tol := h.act F.FRM_TOL_NS
  let epochOk := match before with
    | none => true
    | some e => h.act F.FRM_MODE_EPOCH_EPOCH == (e + 1) % 65536
  firstFail [(decide (q16 3333333 ≤ h.tNom) && decide (h.tNom ≤ q16 41666667) && decide (h.pMin ≤ h.tMax)
    && decide (h.tMax ≤ q16 41666667) && decide (q16 100000 ≤ h.gMin) && decide (2 * h.gMin ≤ h.tNom)
    && decide (100000 ≤ hdr) && decide (q16 hdr ≤ h.gMin) && decide (hdr < scale)
    && decide (scale < h.act F.FRM_DEADLINE_LEAD_NS) && decide (h.leadMax + planMargin < h.pMin)
    && decide (100 ≤ tol) && decide (tol ≤ 1000000) && decide (1 ≤ h.act F.FRM_REF_LOSS_FRAMES)
    && decide (h.act F.FRM_L_FIX_NS ≤ 1000000000) && h.act F.FRM_REF_KIND != 3
    && decide (h.act F.FRM_SEGMENTS_S_CODE ≤ 4) && epochOk, codePair)]

/-- R200. -/
def Block.checkIo (h : Block) : Option Nat := firstFail [(h.ioFails.isEmpty, 0x1410)]

/-- R410. -/
def Block.checkPwr (h : Block) : Option Nat :=
  let share := h.act F.PWR_FEED_CTRL_SHARE_A_PM
  let eff := h.act F.PWR_PLAN2_EFF_PM
  let names (s k : Nat) : Bool :=
    (h.actBit (F.PWR_SLOTs_CFG_A_EN s) && h.act (F.PWR_SLOTs_CFG_CIRC_A s) == k)
      || (h.actBit (F.PWR_SLOTs_CFG_B_EN s) && h.act (F.PWR_SLOTs_CFG_CIRC_B s) == k)
  let named := (List.range 16).all (fun k =>
    h.act (F.PWR_CIRCk_LIMIT_W k) != 0 || (List.range 64).all (fun s => !names s k))
  let fixed (k : Nat) := (((List.range 64).filter (fun s => names s k)).map (fun s => h.act (F.PWR_SLOTs_CFG_FIX_W s))).sum
  let budget := (List.range 16).all (fun k =>
      h.act (F.PWR_CIRCk_LIMIT_W k) == 0 || decide (1000 * fixed k < h.act (F.PWR_CIRCk_LIMIT_W k) * eff))
    && decide (h.act F.PWR_PEER_US_US * 1000 + 200000 + h.act F.FRM_SCALE_LEAD_NS ≤ h.act F.FRM_DEADLINE_LEAD_NS)
  firstFail [(decide (100 ≤ share) && decide (share ≤ 900) && decide (1 ≤ h.act F.PWR_FEED_CTRL_REVERT_S)
      && decide (h.act F.PWR_PLAN_MARGIN_PM ≤ 500) && decide (h.act F.PWR_PLAN_ROLL_MARGIN_PM ≤ 1000)
      && decide (800 ≤ eff) && decide (eff ≤ 990) && decide (1 ≤ h.act F.PWR_PLAN2_RISE)
      && decide (1 ≤ h.act F.PWR_PLAN2_STANDIN_FRAMES) && named, codePair),
    (!h.actBit F.PWR_PLAN_EN || budget, 0x0310)]

/-- R434. -/
def Block.checkThm (h : Block) : Option Nat :=
  let down := h.act F.THM_THROTTLE_DOWN
  let up := h.act F.THM_THROTTLE_UP
  let floor := h.act F.THM_THROTTLE2_FLOOR
  let hyst := h.act F.THM_THROTTLE2_HYST
  firstFail [(decide (0x0800 ≤ floor) && decide (floor ≤ 0x8000) && decide (1 ≤ down) && decide (down ≤ 0x2000)
    && decide (1 ≤ up) && decide (up ≤ 0x2000) && decide (1 ≤ hyst) && decide (hyst ≤ 20)
    && decide (1 ≤ h.act F.THM_THROTTLE2_CLK_S) && decide (h.act F.THM_CTRL_WARN_OFS ≤ 30), codePair)]

/-- A step of the scaler agrees with its windows (R230). -/
def stepOk (step src dst : Nat) : Bool :=
  decide (2 ^ 14 ≤ step) && decide (step ≤ 2 ^ 22) && decide (step * dst < src * 2 ^ 20 + dst)
    && decide (src * 2 ^ 20 < step * dst + dst)

/-- The pairs of an enabled layer (R230). -/
def Block.layerOk (h : Block) (l : Layer) : Bool :=
  !l.en || (decide (l.kind ≤ 2) && decide (l.matrix ≤ 1) && decide (l.transfer ≤ 4) && decide (l.gamut ≤ 4)
    && decide (1 ≤ l.sw) && decide (1 ≤ l.sh) && decide (l.sx + l.sw ≤ 8192) && decide (l.sy + l.sh ≤ 4320)
    && decide (1 ≤ l.dw) && decide (1 ≤ l.dh) && decide (l.dx + l.dw ≤ 32767) && decide (l.dy + l.dh ≤ 32767)
    && stepOk l.stepH l.sw l.dw && stepOk l.stepV l.sh l.dh
    && (l.kind != 1 || (l.surf % 64 == 0 && h.inDram ⟨l.surf, 64⟩)))

/-- R224. -/
def Block.rateOk (h : Block) : Bool :=
  let g : Fld → Nat := h.act
  let total := ((List.range (bandCount g)).map (bandTime g)).sum
  let bMax := ((slotsOf g).map (fun s => s.2.y / 16)).foldl max 0
  let rolling := h.actBit F.FRM_START_ROLLING
  let back := if rolling then bMax * g F.CMP_ROLL_BAND_NS_NS else 0
  decide (q16 (total : Nat) + q16 (g F.FRM_ACTIVE_END_LEAD_NS - back : Nat) ≤ h.pMin)
    && (!rolling || decide (q16 (back + 20000 : Nat) ≤ h.pMin))

/-- R230. -/
def Block.checkLayers (h : Block) : Option Nat :=
  firstFail [((layersOf h.act).all h.layerOk, codePair), (decide (lineUnits h.act ≤ 96), 0x1801), (h.rateOk, 0x1802)]

/-- The pairs of a slot on the canvas (R231). -/
def slotFits (cw ch : Nat) (r : Rect) : Bool :=
  r.x % 8 == 0 && r.w % 8 == 0 && r.y % 16 == 0 && r.h % 16 == 0 && decide (8 ≤ r.w) && decide (r.w ≤ 2048)
    && decide (16 ≤ r.h) && decide (r.h ≤ 1024) && decide (r.w * r.h ≤ 98304) && decide (r.x + r.w ≤ cw)
    && decide (r.y + r.h ≤ ch)

/-- The pairs of the write-back window (R231). -/
def Block.wbOk (h : Block) (cw ch : Nat) : Bool :=
  match wbWindow h.act with
  | none => true
  | some r =>
    let f := h.act F.CMP_WB_CTRL_FORMAT
    let d := decimOf h.act
    let size := h.act F.CMP_WB_BUF_SIZE
    let n := h.act F.CMP_WB_CTRL_COUNT
    (f == 1 || f == 6 || f == 7 || f == 8) && h.act F.CMP_WB_CTRL_TRANSFER != 3 && h.act F.CMP_WB_CTRL_GAMUT != 3
      && h.act F.CMP_WB_CTRL_DECIM != 3 && decide (r.x + r.w ≤ cw) && decide (r.y + r.h ≤ ch)
      && r.x % 16 == 0 && r.y % 16 == 0 && r.w % 16 == 0 && r.h % 16 == 0 && decide (2 ≤ n) && decide (n ≤ 8)
      && size % 4096 == 0 && decide (surfBytes false (r.w / d) (r.h / d) f ≤ size)

/-- R231. -/
def Block.checkOutput (h : Block) : Option Nat :=
  let g : Fld → Nat := h.act
  let w := g F.CMP_CANVAS_W
  let ch := g F.CMP_CANVAS_H
  firstFail [(decide (8 ≤ w) && decide (w ≤ 16384) && decide (16 ≤ ch) && decide (ch ≤ 16384) && ch % 16 == 0
      && (slotsOf g).all (fun s => slotFits w ch s.2) && decide (matDet (panelMatrix g) ≠ 0) && h.wbOk w ch, codePair),
    (h.rateOk, 0x1802),
    (h.wbRegions.all (fun r => h.placed r ([ringTable, h.ringPool, h.tableRegion] ++ h.ingRegions none)), 0x1803)]

/-- R279. -/
def Block.checkLnk (h : Block) : Option Nat :=
  let others := [ringTable, h.ringPool, h.tableRegion] ++ h.ingRegions none ++ h.wbRegions
  firstFail [(h.lnkRegions.all (fun r => r.base % 4096 == 0 && h.placed r others), 0x1C20)]

/-- R292. -/
def Block.checkMap (h : Block) : Option Nat :=
  let w := h.act F.SCN_SLOT_SIZE_W
  let hh := h.act F.SCN_SLOT_SIZE_H
  let k := h.act F.SCN_MAP_SEL_BANK
  firstFail [(w % 8 == 0 && decide (8 ≤ w) && decide (w ≤ 2048) && hh % 16 == 0 && decide (16 ≤ hh) && decide (hh ≤ 1024)
      && decide (w * hh ≤ 98304), codePair),
    (h.bit (F.SCN_MAP_BANKb_STATUS_VALID k) && !h.bit (F.SCN_MAP_BANKb_STATUS_BUSY k)
      && h.get (F.SCN_MAP_BANKb_STATUS_W k) == w && h.get (F.SCN_MAP_BANKb_STATUS_H k) == hh, 0x2010)]

/-- R296, COR_PARAM. -/
def Block.checkParam (h : Block) : Option Nat := firstFail [(decide (0x4000 ≤ h.act F.COR_PEAK_PEAK), codePair)]

/-- R296, COR_TABLE. -/
def Block.checkCoef (h : Block) : Option Nat :=
  let k := h.act F.COR_TBL_SEL_COEF_BANK
  firstFail [(h.bit (F.COR_COEF_BANKb_STATUS_VALID k) && !h.bit (F.COR_COEF_BANKb_STATUS_BUSY k)
    && h.get (F.COR_COEF_BANKb_STATUS_W k) == h.act F.SCN_SLOT_SIZE_W
    && h.get (F.COR_COEF_BANKb_STATUS_H k) == h.act F.SCN_SLOT_SIZE_H, 0x2110)]

/-- R389, AUDp. -/
def Block.checkAud (h : Block) (p : Nat) : Option Nat :=
  let rate := if h.actBit (F.AUDp_CFG_RATE p) then 96000 else 48000
  let bclk := rate * 2 ^ (h.act (F.AUDp_CFG_SLOTS p) + 1) * (if h.actBit (F.AUDp_CFG_WIDTH p) then 32 else 16)
  let delay := h.act (F.AUDp_DELAY_FRAMES p)
  let str := h.actBit (F.AUDp_STR_CTRL_EN p)
  let input := h.actBit (F.AUDp_CFG_DIR p)
  let routes := input || (List.range 16).all (fun t =>
    let q := h.act (F.AUDp_SLOTt_SRC_STREAM p t)
    !h.actBit (F.AUDp_SLOTt_SRC_EN p t) || (h.act (F.AUDp_STR_CTRL_RATE q) == h.act (F.AUDp_CFG_RATE p)
      && decide (h.act (F.AUDp_SLOTt_SRC_CHANNEL p t) ≤ h.act (F.AUDp_STR_CTRL_CH_M1 q))))
  let regions := h.audRegions
  let placeOk := regions.all (fun r =>
    r.1 != p || (r.2.2.base % (if r.2.1 then 4096 else 2 ^ 20) == 0
      && h.placed r.2.2 (h.fixedRegions ++ h.rplRegions none ++ ((regions.filter (· != r)).map (·.2.2)))))
  firstFail [(decide (bclk ≤ 24576000) && decide (64 ≤ delay) && decide (delay ≤ 16000)
      && decide (1 ≤ h.act (F.AUDp_ZC_FADE p)) && decide (1 ≤ h.act (F.AUDp_ZC_TIMEOUT p))
      && decide (h.act (F.AUDp_STR_CTRL_PT p) ≤ 127)
      && (!str || h.actBit (F.AUDp_STR_CTRL_PATH_A p) || h.actBit (F.AUDp_STR_CTRL_PATH_B p))
      && (!(input && h.actBit (F.AUDp_CFG_EN p)) || decide (4 ≤ h.act (F.AUDp_CAP_BLOCKS_RECORDS p))), codePair),
    (routes, 0x2A10), (placeOk, 0x2A11)]

/-- R334, STR_STRINGn. -/
def Block.checkString (h : Block) (n : Nat) : Option Nat :=
  let d := h.act (F.STR_STRn_CFG_DRIVERS n)
  let lo := h.act (F.STR_STRn_RAIL_LIM_MIN_MV n)
  let mid := h.act (F.STR_STRn_RAIL_FIXED_MV n)
  let hi := h.act (F.STR_STRn_RAIL_LIM_MAX_MV n)
  let mask := h.actPair (F.STR_STRn_CHMASK_LO_MASK n) (F.STR_STRn_CHMASK_HI_MASK n)
  firstFail [(decide (d ≤ 64) && h.act (F.STR_STRn_LMAP_MAP_DRIVERS n) == d
    && (!h.actBit (F.STR_STRn_CFG_EN n) || (decide (1 ≤ d) && mask != 0))
    && decide (2400 ≤ lo) && decide (lo ≤ mid) && decide (mid ≤ hi) && decide (hi ≤ 5500)
    && lo % 10 == 0 && mid % 10 == 0 && hi % 10 == 0 && decide (h.act (F.STR_STRn_DELAY_OUT_HNS n) ≤ 2000), codePair)]

/-- R334, STR_COMMON. -/
def Block.checkCommon (h : Block) : Option Nat :=
  let probe := h.act F.STR_COMMON_CTRL_PROBE_MAX
  let target := h.act F.STR_HEADROOM_TARGET
  let down := h.act F.STR_HEADROOM_STEP_DOWN
  let up := h.act F.STR_HEADROOM_STEP_UP
  firstFail [(decide (1 ≤ probe) && decide (probe ≤ 48) && decide (5 ≤ target) && decide (target ≤ 100)
    && decide (1 ≤ down) && decide (down ≤ up) && decide (up ≤ 20) && decide (1 ≤ h.act F.STR_FAULT_CFG_RETRIES)
    && decide (10 + 10 * up ≤ h.act F.STR_RAIL_LEAD_US), codePair)]

/-- R371. -/
def Block.checkRpl (h : Block) : Option Nat :=
  let chanOk (c : Nat) : Bool :=
    let size := h.act (F.RPL_CHc_ENTRY_SIZE c)
    h.rplMode c != 3 && decide (h.act (F.RPL_CHc_CTRL_SPEED c) ≤ 0x0400)
      && (!h.actBit (F.RPL_CHc_CTRL_SRC_WB c) || h.act (F.RPL_CHc_CTRL_SRC_ID c) == 0)
      && (h.rplMode c == 0 || ((h.rplSpan c).base % 4096 == 0 && decide (4 ≤ h.act (F.RPL_CHc_ENTRIES_ENTRIES c))
        && size % 4096 == 0 && decide (4096 ≤ size)))
  firstFail [((List.range 16).all chanOk, codePair),
    ((List.range 16).all (fun c => h.rplMode c == 0
      || h.placed (h.rplSpan c) (h.fixedRegions ++ h.rplRegions (some c))), 0x2B10)]

/-- The checks of group `g`: the code of the first that fails. `b` is the block as it is, `h` as it will stand with the
values under check, `before` the mode epoch ahead of them. PTP has none. -/
def checkGroup (b h : Block) (before : Option Nat) (g : Nat) : Option Nat :=
  if g = 0x01 then h.checkMode before
  else if g = 0x03 then h.checkIo
  else if g = 0x08 then h.checkPwr
  else if g = 0x09 then h.checkThm
  else if 0x10 ≤ g ∧ g ≤ 0x1F then b.checkIng h (g - 0x10)
  else if g = 0x20 then h.checkLayers
  else if g = 0x21 then h.checkOutput
  else if g = 0x28 then h.checkLnk
  else if g = 0x30 then h.checkMap
  else if g = 0x31 then h.checkParam
  else if g = 0x32 then h.checkCoef
  else if 0x38 ≤ g ∧ g ≤ 0x3B then h.checkAud (g - 0x38)
  else if 0x40 ≤ g ∧ g ≤ 0x9F then h.checkString (g - 0x40)
  else if g = 0xA0 then h.checkCommon
  else if g = 0xB0 then h.checkRpl
  else none

/-- Every assigned group but BOOT, ascending. -/
def allGroups : List Nat := (List.range 256).filter groupAssigned

/-- The groups that a role which is to take effect leaves unchecked: those whose block it makes idle (R126). -/
def checkedGroups (fuses : Fuses) (role : Nat) (gs : List Nat) : List Nat :=
  gs.filter (fun g => !idleIn fuses role (groupBlock g))

end Sys2Proof.Machine
end

