-- ==== Sys2Proof/Machine/Image.lean ====
section
/-!
DEFINITION. The checks of a bit-stream (R105 to R109, R111, R127, R452). Each step answers whether it passes; the first
that fails gives the code.
-/

namespace Sys2Proof.Machine

/-- The bit-stream in the `len` bytes of DRAM at `base`; behind a header that fails nothing is read (R111). -/
def Block.imageAt (b : Block) (base len : Nat) (sigOk : Bool) : Image :=
  let head : Image := ⟨b.dramBytes base (min len 64), sigOk⟩
  if head.magicOk && head.hdrOk then ⟨b.dramBytes base (min len head.totalLen), sigOk⟩ else head

/-! ### Checks (R111) -/

/-- Step 1: the header, for a full bit-stream or a partial one, its KIND apart (R105, R111). -/
def imageHeaderOk (f : Fuses) (i : Image) : Bool :=
  i.magicOk && i.format == 1 && i.part == 0x9624 && decide (2 ≤ i.sectionCount) && decide (i.sectionCount ≤ 64)
    && decide (i.minRev ≤ f.rev) && decide (i.totalLen ≤ 2 ^ 26) && i.hdrOk

/-- Step 2 (R453). -/
def rollbackOk (f : Fuses) (i : Image) : Bool := decide (f.antiRollback ≤ i.secVersion)

/-- The type code of a section (R106). -/
def contentType : Content → Nat
  | .role _ => 1
  | .topology _ => 2
  | .firmware _ => 3
  | .registers _ => 4
  | .table _ _ _ => 5
  | .engine _ _ => 6
  | .signature _ _ _ => 0xFF
  | .other t => t

/-- The tables that a home chapter defines (R218, R290, R295); all of them are banked. -/
def tableKnown (t : Nat) : Bool := (decide (0x1800 ≤ t) && decide (t < 0x1820)) || t == 0x2000 || t == 0x2100

/-- The engines (R109). -/
def engineKnown (e : Nat) : Bool := e == 0x12 || e == 0x18 || e == 0x21 || e == 0x24 || e == 0x2A

/-- A section's INSTANCE is in its range, and its length fits its type (R106, R107, R109, R452). -/
def sectionFits (s : Section) : Bool :=
  match s.content with
  | .role _ => s.inst == 0 && s.length == 16
  | .topology _ => s.inst == 0
  | .firmware _ => s.inst == 0 && decide (s.length ≤ 2 ^ 24)
  | .registers l => decide (s.inst ≤ 15) && s.length == 8 * l.length
  | .table _ _ bs => tableKnown s.inst && s.length == 16 + bs.length
  | .engine e _ => s.inst == e && engineKnown e && decide (s.length ≤ 2 ^ 20)
  | .signature _ _ _ => s.inst == 0 && s.length == 256
  | .other _ => false

/-- Ascending OFFSETs, multiples of 64, behind what comes before and within TOTAL_LEN, or within what is there of it (R105, R107). -/
def laidOut (total : Nat) : Nat → List Section → Bool
  | _, [] => true
  | lo, s :: r =>
    decide (lo ≤ s.offset) && s.offset % 64 == 0 && decide (s.offset + s.length ≤ total) && laidOut total (s.offset + s.length) r

/-- How many sections of a type there are. -/
def countOf (i : Image) (t : Nat) : Nat := (i.sections.filter (fun s => contentType s.content == t)).length

/-- No type and INSTANCE twice (R106). -/
def sectionsOnce (i : Image) : Bool :=
  decide ((i.sections.map (fun s => (contentType s.content, s.inst))).Nodup)

/-- Step 3: the directory and the structure (R106, R107). -/
def structureOk (part : Bool) (i : Image) : Bool :=
  let kinds := i.sections.map (fun s => contentType s.content)
  let head := kinds.takeWhile (fun t => t == 1 || t == 2)
  i.sectionCount == i.sections.length && laidOut (min i.totalLen i.bytes.length) (64 + 16 * i.sections.length) i.sections
    && i.sections.all sectionFits && sectionsOnce i
    && head.length == countOf i 1 + countOf i 2 && (head.headD 1 == 1 || countOf i 1 == 0)
    && kinds.getLast? == some 0xFF && countOf i 0xFF == 1
    && (if part then decide (2 ≤ i.sections.length) else countOf i 1 == 1 && countOf i 2 == 1 && countOf i 3 == 1)

/-- The role a bit-stream carries. -/
def imageRole (i : Image) : Option Nat := i.sections.findSome? (fun s => match s.content with | .role c => some c | _ => none)

/-- The topology a bit-stream carries, with its section's length. -/
def imageTopology (i : Image) : Option (Topology × Nat) :=
  i.sections.findSome? (fun s => match s.content with | .topology t => some (t, s.length) | _ => none)

/-- Step 4: the role is one of R1 and allowed (R3). -/
def roleOk (f : Fuses) (i : Image) : Bool :=
  match imageRole i with
  | some c => c == roleTile || ((c == roleHead || c == roleHeadTile) && f.h128)
  | none => true

/-- Is `n` a node ID (R108)? -/
def nodeOk (n : Nat) : Bool := decide (1 ≤ n) && decide (n ≤ 250000)

/-- Step 5: TOPOLOGY (R108). -/
def topologyOk (i : Image) : Bool :=
  match imageTopology i with
  | none => true
  | some (t, len) =>
    let occ := t.slotNode.filter (· != 0)
    decide (288 + 24 * t.udpCount ≤ len) && t.zeros && decide (1 ≤ t.slots) && decide (t.slots ≤ 64) && decide (t.duty ≤ 2)
      && decide (t.chainPort ≤ 1) && decide (t.udpCount ≤ 128) && t.udp.length == t.udpCount
      && t.udp.all (fun u => u.2.1 == 4 || u.2.1 == 6) && t.udp.all (fun u => nodeOk u.1) && occ.all nodeOk
      && (if t.source1 then nodeOk t.chainBase && nodeOk (t.chainBase + t.slots - 1) && t.duty == 0 else nodeOk t.node)
      && (t.slotNode.drop t.slots).all (· == 0) && decide occ.Nodup

/-- An entry of a REGISTERS section addresses an aligned RW or RWS register outside CFG, UPD, BST and FLT (R109). -/
def regEntryOk (e : Nat × Word) : Bool :=
  let blk := e.1 / 0x10000
  e.1 % 4 == 0 && blk != 0x02 && blk != 0x07 && blk != 0x08 && blk != 0x30
    && (match rowAt e.1 with | some r => r.wr != 0 | none => false)

/-- Step 6: CHECK of every section, and every REGISTERS entry. -/
def bodyOk (i : Image) : Bool :=
  i.sections.all (fun s => s.checkOk && (match s.content with | .registers l => l.all regEntryOk | _ => true))

/-- Is root key slot `k` valid (R451)? -/
def rootValid (f : Fuses) (k : Nat) : Bool := decide (k < 4) && bitOf f.rootFilled k && !bitOf f.rootRevoked k

/-- Is `pub` the public key whose hash slot `k` holds (R451, R452)? -/
def rootIs (f : Fuses) (k : Nat) (pub : List Byte) : Bool := rootValid f k && sha384 pub == f.rootHash.getD k []

/-- Step 7: SIGNATURE (R452): a valid key slot, its key, and a signature that verifies. -/
def signatureOk (f : Fuses) (i : Image) : Bool :=
  i.sections.any (fun s => match s.content with | .signature k pub ok => rootIs f k pub && ok | _ => false)

/-- The key slot that signs a bit-stream. -/
def imageKeySlot (i : Image) : Option Nat :=
  i.sections.findSome? (fun s => match s.content with | .signature k _ _ => some k | _ => none)

/-- Steps 1 to 5 as R127 runs them on a partial: they read the header, the directory and the first sections (R111). -/
def checkPartialHead (f : Fuses) (base : Nat) (i : Image) : Option Err :=
  if !imageHeaderOk f i then some E.CFG_HDR
  else if !(i.kind == 1 && i.baseBuildId == base) then some E.CFG_BASE
  else if !rollbackOk f i then some E.CFG_ROLLBACK
  else if countOf i 3 != 0 then some E.CFG_PR_SECTION
  else if !structureOk true i then some E.CFG_SECTION
  else if !roleOk f i then some E.CFG_ROLE
  else if !topologyOk i then some E.CFG_TOPO
  else none

/-- R111 on a full bit-stream: the error of the first step that fails. An erased slot fails step 1. -/
def checkFull (f : Fuses) (i : Option Image) : Option Err :=
  match i with
  | none => some E.CFG_HDR
  | some i =>
    if !(imageHeaderOk f i && i.kind == 0) then some E.CFG_HDR
    else if !rollbackOk f i then some E.CFG_ROLLBACK
    else if !structureOk false i then some E.CFG_SECTION
    else if !roleOk f i then some E.CFG_ROLE
    else if !topologyOk i then some E.CFG_TOPO
    else if !bodyOk i then some E.CFG_SECTION
    else if !signatureOk f i then some E.CFG_SIG
    else none

/-- R111 as R127 runs it on a partial, to run under the bit-stream `base`; `poisoned` tells a read that returned poisoned
data (R361). -/
def checkPartial (f : Fuses) (base : Nat) (poisoned : Bool) (i : Image) : Option Err :=
  match checkPartialHead f base i with
  | some e => some e
  | none => if poisoned || !bodyOk i then some E.CFG_SECTION else if !signatureOk f i then some E.CFG_SIG else none

/-- The tables of a bit-stream: ID, offset, bytes. -/
def imageTables (i : Image) : List (Nat × Nat × List Byte) :=
  i.sections.filterMap (fun s => match s.content with | .table _ o bs => some (s.inst, o, bs) | _ => none)

/-- The engines of a bit-stream and their code. -/
def imageCode (i : Image) : List (Nat × List Byte) :=
  i.sections.filterMap (fun s => match s.content with | .engine e bs => some (e, bs) | _ => none)

/-- The engines of a bit-stream. -/
def imageEngines (i : Image) : List Nat := (imageCode i).map (·.1)

/-- The sections of a bit-stream that are copied into place before step 6 ends: up to the first that fails it (R111, R127). -/
def copiedSections (i : Image) : List Section :=
  let bad (s : Section) : Bool := !s.checkOk || (match s.content with | .registers l => !l.all regEntryOk | _ => false)
  i.sections.take ((i.sections.findIdx bad) + 1)

/-- The code of engine `e` is written into a bank (R109). -/
def Block.writeEngine (b : Block) (bank : Nat) (x : Nat × List Byte) : Block :=
  { b with cfg.codes := b.cfg.codes.filter (fun c => !(c.engine == x.1 && c.bank == bank)) ++ [(⟨x.1, bank, x.2⟩ : CodeBank)] }

/-- Write a TABLE section into a bank: 0 or 1 (R109, R218, R290, R295). The table's ID names its memory; the header's memory field
is not compared with it, since R109 names no failure (DESIGN CHOICE, log entry 67). -/
def Block.writeTable (b : Block) (bank : Nat) (t : Nat × Nat × List Byte) : Block :=
  let (id, o, bs) := t
  if id = 0x2000 then (b.bankInvalid id bank).writeQdr (mapBase bank + o) bs
  else if id = 0x2100 then (b.bankInvalid id bank).writeQdr (coefBase bank + o) bs
  else b.dramWrite 5 (b.tableRegion.base + bank * 131072 + 4096 * (id - 0x1800) + o) bs

end Sys2Proof.Machine
end

