-- ==== Sys2Proof/Machine/Upd.lean ====
section
/-!
DEFINITION. Updates (R451 to R469): boot record, image headers, blocks, verification and writing, activation, trial and
confirm, the settings halves, fuse burns; keys (R470).
-/

namespace Sys2Proof.Machine

def updIdle : Nat := 0
def updHeader : Nat := 1
def updReceiving : Nat := 2
def updVerifying : Nat := 3
def updWriting : Nat := 4
def updReady : Nat := 5
def updArmed : Nat := 6
def updRefused : Nat := 7
def updLocked : Nat := 8

/-- UPD_STATUS.STATE (R465). -/
def Block.updState (b : Block) : Nat := b.get F.UPD_STATUS_STATE

/-- A new STATE (R479). -/
def Block.updGo (b : Block) (st : Nat) : Block :=
  let b := if b.updState = st then b else (b.set F.UPD_STATUS_STATE st).irq F.UPD_IRQ_STATUS_STATE_CHANGE
  b.irqIf (st == updReady) F.UPD_IRQ_STATUS_READY

/-- A refusal that leaves STATE: the error bit and CODE. -/
def Block.updTell (b : Block) (e : Err) : Block := (b.raise e).set F.UPD_STATUS_CODE e.code

/-- Forget the image. -/
def Block.updForget (b : Block) : Block :=
  let b := { b with upd := { b.upd with
    head := none, got := [], body := none, root := none, newKeys := [], cancel := false, armed := none } }
  let b := (b.set F.UPD_STATUS_KIND 0).setPair F.UPD_IMAGE_ID_LO F.UPD_IMAGE_ID_HI 0
  ((b.set F.UPD_TXN_VALID 0).set F.UPD_TXN_TXN 0).set F.UPD_RX_COUNT_BLOCKS 0

/-- A failure: the image ends in REFUSED (R465). -/
def Block.updFail (b : Block) (e : Err) : Block := (b.updTell e).updGo updRefused

/-- The image is discarded: IDLE (R465). -/
def Block.updDrop (b : Block) : Block := b.updForget.updGo updIdle

/-! ### Boot record and slots (R455, R456) -/

/-- The copy of the boot record in force: the valid one with the higher SEQ. -/
def Block.recIndex (b : Block) : Option Nat :=
  match b.upd.recs with
  | [x, y] => if x.ok && (!y.ok || decide (y.seq ≤ x.seq)) then some 0 else if y.ok then some 1 else none
  | _ => none

/-- A record that says nothing: slot A is preferred (R110). -/
def BootRec.blank : BootRec := ⟨true, 1, 0, 0, List.replicate 3 ⟨0, 0, 0, 0, 0⟩, 0, 0xFF⟩

/-- The boot record in force. -/
def Block.bootRec (b : Block) : BootRec :=
  match b.recIndex with
  | some i => b.upd.recs.getD i BootRec.blank
  | none => BootRec.blank

/-- Slot `i`'s entry. -/
def BootRec.entry (r : BootRec) (i : Nat) : SlotEntry := r.slots.getD i ⟨0, 0, 0, 0, 0⟩

/-- Change slot `i`'s entry. -/
def BootRec.onEntry (r : BootRec) (i : Nat) (f : SlotEntry → SlotEntry) : BootRec := { r with slots := r.slots.modify i f }

/-- The slot that runs: 0 A, 1 B, 2 golden. -/
def Block.runSlot (b : Block) : Option Nat :=
  let s := b.get F.CFG_BOOT_STATUS_SLOT
  if s = 0 then none else some (s - 1)

/-- The slot that runs as a trial. -/
def Block.trialSlot (b : Block) : Option Nat :=
  match b.runSlot with
  | some s => if s < 2 ∧ (b.bootRec.entry s).state = 2 then some s else none
  | none => none

/-- SECURITY_VERSION of a golden slot that passes steps 1 and 3 of R111 (R454). -/
def Block.goldenLimit (b : Block) : Option Nat :=
  match b.upd.slots.getD 2 none with
  | some i => if imageHeaderOk b.fuses i && i.kind == 0 && structureOk false i then some i.secVersion else none
  | none => none

/-- Where the counter may go for a confirmed slot of version `sv` (R454). -/
def Block.counterGoal (b : Block) (sv : Nat) : Nat :=
  match b.goldenLimit with
  | some g => min sv g
  | none => sv

/-- UPD_BOOT and the slot registers follow the boot record and the fuses (R479). -/
def Block.updShow (b : Block) : Block :=
  let r := b.bootRec
  let held := [0, 1].any (fun i => (r.entry i).state == 3 && decide (b.fuses.antiRollback < (r.entry i).sv)
    && decide (b.counterGoal (r.entry i).sv < (r.entry i).sv))
  let b := ((b.set F.UPD_BOOT_COUNTER b.fuses.antiRollback).set F.UPD_BOOT_GOLDEN_SV (r.entry 2).sv).set
    F.UPD_BOOT_PREFERRED r.preferred
  let b := ((b.set F.UPD_BOOT_TRIALS_LEFT r.trials).setBit F.UPD_BOOT_TRIAL_RUNNING b.trialSlot.isSome).setBit F.UPD_BOOT_HELD held
  b.each [0, 1, 2] (fun s b =>
    let e := r.entry s
    let b := ((b.set (F.UPD_SLOTs_STATE_SETTINGS_FORMAT s) e.fmt).set (F.UPD_SLOTs_STATE_SV s) e.sv).set
      (F.UPD_SLOTs_STATE_KEY_SLOT s) e.keySlot
    (b.set (F.UPD_SLOTs_STATE_STATE s) e.state).setPair (F.UPD_SLOTs_ID_LO s) (F.UPD_SLOTs_ID_HI s) e.buildId)

/-- Write a change into the copy that is not in force, with SEQ + 1 (R455). -/
def Block.writeRec (b : Block) (f : BootRec → BootRec) : Block :=
  let r := b.bootRec
  let at' := match b.recIndex with | some i => 1 - i | none => 0
  { b with upd.recs := b.upd.recs.set at' { f r with ok := true, seq := r.seq + 1 } }.updShow

/-- A trial failed or was reverted: FAILED, the other slot preferred, the kept settings half back in use (R456, R468,
R469). -/
def BootRec.fail (r : BootRec) (s : Nat) : BootRec :=
  let r := r.onEntry s (fun e => { e with state := 4 })
  let r := { r with preferred := 2 - s }
  if r.setKeep = 0xFF then r else { r with setInUse := r.setKeep, setKeep := 0xFF }

/-- Slot `s` reaches LOAD: settings of another format are converted into the other half (R469). -/
def Block.settingsLoad (b : Block) (s : Nat) : Block :=
  let r := b.bootRec
  let fmt := (r.entry s).fmt
  if b.upd.halves.getD r.setInUse 0 = fmt then b
  else
    let new := 1 - r.setInUse
    { b with upd.halves := b.upd.halves.set new fmt }.writeRec (fun r => { r with setKeep := r.setInUse, setInUse := new })

/-! ### Headers (R457 to R459) -/

/-- A little-endian field of a header. -/
def hdrNat (bs : List Byte) (at' n : Nat) : Nat := leNat ((bs.drop at').take n)

/-- The fields of a header. -/
def updHeaderOf (bs : List Byte) : UpdHeader :=
  ⟨hdrNat bs 6 1, hdrNat bs 13 1, hdrNat bs 14 2, hdrNat bs 16 8, hdrNat bs 24 4, hdrNat bs 28 4, bs.take 256⟩

/-- BODY_HASH. -/
def UpdHeader.bodyHash (h : UpdHeader) : List Byte := (h.signed.drop 32).take 48

/-- PUBKEY. -/
def UpdHeader.pubkey (h : UpdHeader) : List Byte := (h.signed.drop 96).take 97

/-- Step 1 of R458. -/
def updStep1 (f : Fuses) (bs : List Byte) : Bool :=
  let len := hdrNat bs 28 4
  decide (512 ≤ bs.length) && hdrNat bs 0 4 == 0x55564C4F && hdrNat bs 4 2 == 1 && hdrNat bs 508 4 == crc32c (bs.take 508)
    && hdrNat bs 8 4 == 0x9624 && decide (hdrNat bs 12 1 ≤ f.rev) && bitOf (hdrNat bs 7 1) (if f.h128 then 1 else 0)
    && len % 4 == 0 && decide (4 ≤ len) && decide (len ≤ 2 ^ 26)

/-- The slot a BITSTREAM goes to: 0 A, 1 B (R459). -/
def Block.bitstreamTarget (b : Block) : Option Nat :=
  let run := b.runSlot
  let r := b.bootRec
  let t := b.get F.UPD_CTRL_TARGET
  let auto := if run = some 0 then 1 else if run = some 1 then 0
    else if (r.entry 0).state = 3 ∧ (r.entry 1).state ≠ 3 then 1 else 0
  let pick := if t = 1 then 0 else if t = 2 then 1 else auto
  if b.trialSlot.isSome || run == some pick then none else some pick

/-- The target of a header (R459), none if it is refused; `root` is the slot and hash that a root image's body names. -/
def Block.updTarget (b : Block) (h : UpdHeader) (root : Option (Nat × List Byte)) : Option Nat :=
  let f := b.fuses
  if h.kind = 1 then b.bitstreamTarget
  else if h.kind = 2 then if b.bit F.UPD_CTRL_GOLDEN_EN && b.runSlot != some 2 then some 2 else none
  else if h.kind = 3 then
    match root with
    | some (k, _) => if k < 4 ∧ !bitOf f.rootFilled k then some 0 else none
    | none => none
  else if h.kind = 4 then
    match root with
    | some (k, _) =>
      let left := [0, 1, 2, 3].any (fun j => j != k && rootValid f j)
      let signs := b.upd.slots.any (fun s =>
        match s with
        | some i => imageHeaderOk f i && i.kind == 0 && imageKeySlot i == some k
        | none => false)
      if k < 4 && k != h.keySlot && left && !signs then some 0 else none
    | none => none
  else if h.kind = 5 then some 0
  else none

/-- The header checks (R458): `sigOk` says that SIGNATURE verifies under PUBKEY. On a pass the image takes its header. -/
def Block.updHeaderCheck (b : Block) (bs : List Byte) (sigOk : Bool) (root : Option (Nat × List Byte)) : Bool × Block :=
  let h := updHeaderOf bs
  if !updStep1 b.fuses bs then (false, b.updFail E.UPD_HDR)
  else if !(rootIs b.fuses h.keySlot h.pubkey && sigOk) then (false, b.updFail E.UPD_SIG)
  else if h.sv < b.fuses.antiRollback then (false, b.updFail E.UPD_ROLLBACK)
  else
    match b.updTarget h root with
    | none => (false, b.updFail E.UPD_TARGET)
    | some t =>
      let b := { b with upd := { b.upd with head := some h, root := root, target := t } }
      (true, (b.set F.UPD_STATUS_KIND h.kind).setPair F.UPD_IMAGE_ID_LO F.UPD_IMAGE_ID_HI h.imageId)

/-! ### Delivery (R460 to R463) -/

/-- The staging window (R460). -/
def Block.stagingWindow (b : Block) : Span :=
  ⟨b.pair F.UPD_STAGE_BASE_LO_BASE F.UPD_STAGE_BASE_HI_BASE, 65 * 2 ^ 20⟩

/-- Does the window lie as OPEN and IMPORT require? -/
def Block.stagingOk (b : Block) : Bool := b.placed b.stagingWindow [ringTable, b.ringPool]

/-- Image length (R461). -/
def imageLen (h : UpdHeader) : Nat := 512 + h.bodyLen

/-- Results of a block (R461). -/
def resAccepted : Nat := 0
def resDuplicate : Nat := 1
def resNotOpen : Nat := 2
def resBadBlock : Nat := 3
def resBusy : Nat := 4
def resRefused : Nat := 5

/-- Does a block keep the rule of R461 in an image of `total` bytes? -/
def blockFits (total off len : Nat) : Bool :=
  off % 4096 == 0 && decide (off < total) && len == min 4096 (total - off)

/-- VERIFYING begins. -/
def Block.updVerify (b : Block) : Block := { b with upd.since := b.clk }.updGo updVerifying

/-- A block is written to staging and counted; the last one starts the verification (R461). -/
def Block.updStore (b : Block) (h : UpdHeader) (off : Nat) (bs : List Byte) : Block :=
  let b := b.dramWrite 5 (b.stagingWindow.base + off) bs
  let got := if b.upd.got.contains (off / 4096) then b.upd.got else off / 4096 :: b.upd.got
  let b := { b with upd.got := got }.set F.UPD_RX_COUNT_BLOCKS got.length
  if got.length = ceilDiv (imageLen h) 4096 then b.updVerify else b

/-- A block (R461): its result and the state. `idOk` says that a message's IMAGE_ID is the header's. -/
def Block.updBlock (b : Block) (off : Nat) (bs : List Byte) (idOk sigOk : Bool) (root : Option (Nat × List Byte)) :
    Nat × Block :=
  if b.upd.noDram then (resBusy, b.updTell E.UPD_BUSY)
  else if b.updState = updHeader then
    let h := updHeaderOf bs
    if off ≠ 0 ∨ bs.length < min 4096 (imageLen h) then (resNotOpen, b)
    else if !blockFits (imageLen h) off bs.length then (resBadBlock, b.raise E.UPD_BLOCK)
    else
      let (ok, b) := b.updHeaderCheck bs sigOk root
      if ok then (resAccepted, (b.updGo updReceiving).updStore h off bs) else (resRefused, b)
  else if b.updState = updReceiving then
    match b.upd.head with
    | none => (resBusy, b)
    | some h =>
      if !idOk || !blockFits (imageLen h) off bs.length then (resBadBlock, b.raise E.UPD_BLOCK)
      else (if b.upd.got.contains (off / 4096) then resDuplicate else resAccepted, b.updStore h off bs)
  else (resBusy, b)

/-- A write of UPD_BLK_DATA: a word joins the path's block, up to 1,024 (R462). -/
def updBlkData (p : Path) (v : Word) (b : Block) : Block :=
  let l := b.upd.boxes.getD p.index []
  if l.length < 1024 then
    { b with upd.boxes := b.upd.boxes.set p.index (l ++ [v]) }.set (F.UPD_BLK_STATUS_WORDS.on p) (l.length + 1)
  else b

/-- A write of UPD_BLK_SUBMIT (R461, R462). -/
def updBlkSubmit (p : Path) (v : Nat) (sigOk : Bool) (root : Option (Nat × List Byte)) (b : Block) : Block :=
  if F.UPD_BLK_SUBMIT_GO.of v = 0 then b
  else
    let l := b.upd.boxes.getD p.index []
    let b := { b with upd.boxes := b.upd.boxes.set p.index [] }
    let (r, b) := b.updBlock (b.get (F.UPD_BLK_OFFSET_OFFSET.on p)) ((l.map (fun w => leBytes 4 w.toNat)).flatten) true sigOk root
    (b.set (F.UPD_BLK_STATUS_WORDS.on p) 0).set (F.UPD_BLK_STATUS_RESULT.on p) r

/-- UPD_BLOCK arrives (R462): a request is handled and answered. -/
def updBlockMsg (rx : Rx) (sigOk : Bool) (root : Option (Nat × List Byte)) (b : Block) : Block :=
  match rx.msg.body with
  | .updBlock off len _ id bs =>
    b.taking rx (fun b =>
      if rx.msg.response then b
      else
        let idOk := match b.upd.head with | some h => h.imageId == id | none => true
        let (r, b) := if bs.length = len then b.updBlock off bs idOk sigOk root else (resBadBlock, b.raise E.UPD_BLOCK)
        b.respond rx (decide (1 < r)) (.updBlock off len r id []))
  | _ => b

/-- UPD_CMD OPEN (R460, R465). -/
def Block.updOpen (b : Block) : Block :=
  if b.upd.noDram || !(b.updState == updIdle || b.updState == updRefused) then b.updTell E.UPD_BUSY
  else if !b.stagingOk then b.updTell E.UPD_PLACE
  else b.updForget.updGo updHeader

/-- UPD_CMD IMPORT (R463): the header is read from staging, and only the header. -/
def Block.updImport (b : Block) (sigOk : Bool) (root : Option (Nat × List Byte)) : Block :=
  if b.upd.noDram || !(b.updState == updIdle || b.updState == updRefused) then b.updTell E.UPD_BUSY
  else if !b.stagingOk then b.updFail E.UPD_PLACE
  else
    let b := b.updForget
    let bs := b.dramBytes b.stagingWindow.base 512
    let b := b.dramUse 5 b.stagingWindow.base 512
    if b.get F.UPD_IMPORT_LEN_BYTES ≠ imageLen (updHeaderOf bs) then b.updFail E.UPD_HDR
    else
      let (ok, b) := b.updHeaderCheck bs sigOk root
      if ok then
        (b.set F.UPD_RX_COUNT_BLOCKS (ceilDiv (b.get F.UPD_IMPORT_LEN_BYTES) 4096)).updVerify
      else b

/-! ### Verification and writing (R464) -/

/-- A bit-stream body passes (R464). -/
def Block.updBodyOk (b : Block) (h : UpdHeader) (i : Option Image) : Bool :=
  (checkFull b.fuses i).isNone && (i.map (·.buildId)) == some h.imageId && (i.map (·.secVersion)) == some h.sv

/-- A record of a KEYS body (R470). -/
def keyRecOf (bs : List Byte) : KeyRec := ⟨hdrNat bs 0 1, hdrNat bs 4 4, (bs.drop 16).take 32⟩

/-- The records that a KEYS body unwraps to, none if it does not (R470); `shared` is the secret that the device identity key
and the ephemeral key agree on, none where the ephemeral key is no point of the curve. -/
def unwrapKeys (serial : Nat) (h : UpdHeader) (bs : List Byte) (shared : Option (List Byte)) : Option (List KeyRec) :=
  let n := bs.length - 144
  if bs.length < 144 ∨ n % 48 ≠ 0 then none
  else
    shared.bind (fun z =>
      let key := hkdf z (leBytes 8 serial) (ascii "OLVKEYS") 32
      (gcmOpen key ((bs.drop 112).take 12) h.signed ((bs.drop 128).take n) (bs.drop (128 + n))).map (fun plain =>
        (cutInto 48 (n / 48) plain).map keyRecOf))

/-- The body in staging. -/
def Block.updBody (b : Block) (h : UpdHeader) : List Byte := b.dramBytes (b.stagingWindow.base + 512) h.bodyLen

/-- The verification of the body ends (R464). -/
def Block.updVerified (b : Block) (poisoned : Bool) (body : Option Image) (shared : Option (List Byte)) : Block :=
  match b.upd.head with
  | none => b
  | some h =>
    let stream := h.kind == 1 || h.kind == 2
    let keys := if h.kind = 5 then unwrapKeys b.fuses.serial h (b.updBody h) shared else some []
    if poisoned then b.updFail E.UPD_BODY
    else if sha384 (b.updBody h) ≠ h.bodyHash then b.updFail E.UPD_HASH
    else if stream && !b.updBodyOk h body then b.updFail E.UPD_BODY
    else if keys.isNone then b.updFail E.UPD_KEYS
    else
      let b := { b with upd := { b.upd with body := body, newKeys := keys.getD [] } }
      if stream then
        let t := b.upd.target
        let b := { b with upd := { b.upd with since := b.clk, slots := b.upd.slots.set t none } }
        (b.writeRec (fun r => r.onEntry t (fun _ => ⟨0, 0, 0, 0, 0⟩))).updGo updWriting
      else b.updGo updReady

/-- The bit-stream that an image of kind BITSTREAM or GOLDEN holds in staging (R460, R464). -/
def Block.stagedBody (b : Block) (sigOk : Bool) : Option Image :=
  match b.upd.head with
  | some h => if h.kind = 1 ∨ h.kind = 2 then some (b.imageAt (b.stagingWindow.base + 512) h.bodyLen sigOk) else none
  | none => none

/-- A CANCEL given while the step ran takes effect at its end (R465). -/
def Block.updCancelled (b : Block) (was : Bool) : Block := if was then b.updDrop else b

/-- UPD_VERIFY_DONE, `after` ns after the verification began: the body is read at 2 GB/s or faster, as client 5. -/
def updVerifyDone (poisoned sigOk pointOk : Bool) (shared : List Byte) (after : Nat) (b : Block) : Block :=
  if b.updState ≠ updVerifying then b
  else
    let was := b.upd.cancel
    let len := (b.upd.head.map (·.bodyLen)).getD 0
    let b := (b.untilClk (b.upd.since + min after (ceilDiv len 2))).dramUse 5 (b.stagingWindow.base + 512) len
    if was then b.updDrop else b.updVerified poisoned (b.stagedBody sigOk) (if pointOk then some shared else none)

/-- The slot is written and read back (R464). -/
def Block.updWritten (b : Block) (ok : Bool) : Block :=
  match b.upd.head with
  | none => b
  | some h =>
    if !ok then b.updFail E.UPD_FLASH
    else
      let t := b.upd.target
      let b := { b with upd.slots := b.upd.slots.set t b.upd.body }
      if b.upd.cancel then b
      else
        let b := b.writeRec (fun r => r.onEntry t (fun _ => ⟨h.imageId, h.sv, 1, h.keySlot, h.fmt⟩))
        if h.kind = 2 then b.updDrop.irq F.UPD_IRQ_STATUS_READY else b.updGo updReady

/-- UPD_WRITE_DONE, at most 0.5 s + 120 ms per MiB of body after WRITING began (R464). -/
def updWriteDone (ok : Bool) (after : Nat) (b : Block) : Block :=
  if b.updState ≠ updWriting then b
  else
    let was := b.upd.cancel
    let mib := ceilDiv ((b.upd.head.map (·.bodyLen)).getD 0) (2 ^ 20)
    let b := b.untilClk (b.upd.since + min after (500000000 + 120000000 * mib))
    (b.updWritten ok).updCancelled was

/-! ### Transactions as Spores tell them (R255, R276) -/

/-- The record of the four most recent transactions takes a state. -/
def Block.txnNote (b : Block) (txn st : Nat) : Block :=
  let l := b.lnk.mine
  if l.any (·.txn == txn) then
    { b with lnk.mine := l.map (fun m : MyTxn => if m.txn = txn then { m with state := st } else m) }
  else { b with lnk.mine := (⟨txn, st⟩ :: l).take 4 }

/-- A missed commit is told (R276). -/
def Block.txnMissed (b : Block) (txn : Nat) : Block :=
  ((b.txnNote txn 4).countSat (F.LNK_CNT_Ei 4) 1).raiseAt E.LNK_COMMIT_MISSED txn

/-- Does the image carry the tag of a transaction? -/
def Block.updTagged (b : Block) (txn : Nat) : Bool := b.bit F.UPD_TXN_VALID && b.get F.UPD_TXN_TXN == txn

/-! ### Activation (R466, R467) -/

/-- The next frame whose START launch has not passed (R466, R437). -/
def Block.nextLaunch (b : Block) : Nat :=
  match b.frm.launched with
  | some n => max (b.wfn + 1) (n + 1)
  | none => b.wfn + 1

/-- A warm reset is due. -/
def Block.wantReset (b : Block) (cause : Nat) : Block := { b with resetWanted := some (b.resetWanted.getD cause) }

/-- A new key becomes current, the one it replaces previous (R470). -/
def takeKey (keys : List (Option SecKey)) (k : KeyRec) : List (Option SecKey) :=
  let i := if k.kind = 1 then 0 else 2
  if k.kind = 1 ∨ k.kind = 2 then (keys.set (i + 1) (keys.getD i none)).set i (some ⟨k.version, k.key⟩) else keys

/-- The security core and the key store hold these keys. -/
def Block.holdKeys (b : Block) (keys : List (Option SecKey)) : Block :=
  let b := { b with upd := { b.upd with keys := keys, store := keys } }
  let b := (b.setBit F.SEC_STATUS_CHAIN_KEY (b.upd.keys.getD 0 none).isSome).setBit F.SEC_STATUS_WALL_KEY (b.upd.keys.getD 2 none).isSome
  (b.set F.SEC_CHAIN_VER (((b.upd.keys.getD 0 none).map (·.version)).getD 0)).set F.SEC_WALL_VER
    (((b.upd.keys.getD 2 none).map (·.version)).getD 0)

/-- New keys are installed (R470). -/
def Block.installKeys (b : Block) (l : List KeyRec) : Block := b.holdKeys (l.foldl takeKey b.upd.store)

/-- A burn joins those to come; the first begins at once. -/
def Block.burn (b : Block) (x : Burn) : Block :=
  let b := if b.upd.burns.isEmpty then { b with upd.burnFrom := b.clk } else b
  { b with upd.burns := b.upd.burns ++ [x] }

/-- The image acts (R466). -/
def Block.updAct (b : Block) : Block :=
  match b.upd.head with
  | none => b
  | some h =>
    let t := b.upd.target
    let b := if b.bit F.UPD_TXN_VALID then b.txnNote (b.get F.UPD_TXN_TXN) 3 else b
    let b := { b with upd.armed := none }
    if h.kind = 1 then
      let b := b.writeRec (fun r => { r.onEntry t (fun e => { e with state := 2 }) with preferred := t + 1, trials := 3 })
      b.updDrop.wantReset 2
    else if h.kind = 3 then b.burn ⟨0, (b.upd.root.map (·.1)).getD 0, (b.upd.root.map (·.2)).getD []⟩
    else if h.kind = 4 then b.burn ⟨1, (b.upd.root.map (·.1)).getD 0, []⟩
    else (b.installKeys b.upd.newKeys).updDrop

/-- ACTIVATE or ACTIVATE_AT: a READY image is armed for frame `n`, or acts at once where no role is in effect. Answers
whether it was armed. -/
def Block.updArm (b : Block) (n : Nat) : Bool × Block :=
  if b.updState ≠ updReady then (false, b)
  else if b.role = 0 then (true, (b.updGo updArmed).updAct)
  else if n < b.nextLaunch then (false, b.updTell E.UPD_MISSED)
  else (true, { b with upd.armed := some n }.updGo updArmed)

/-- A START launch takes DARK for frame `n`: a bit-stream or a revert acts there (R466, R468). -/
def Block.updDark (b : Block) (n : Nat) : Bool :=
  (b.updState == updArmed && (b.upd.head.map (·.kind)) == some 1 && (match b.upd.armed with | some a => decide (a ≤ n) | none => false))
    || (match b.upd.revert with | some a => decide (a ≤ n) | none => false)

/-- FS_own(n): what is armed for frame `n` acts (R466, R468). -/
def Block.updFrame (b : Block) (n : Nat) : Block :=
  let b := match b.upd.armed with
    | some a => if a ≤ n ∧ b.updState = updArmed then b.updAct else b
    | none => b
  match b.upd.revert with
  | some a => if a ≤ n then { b with upd.revert := none }.wantReset 2 else b
  | none => b

/-- UPD_CMD CANCEL (R465); an armed image whose START launch has passed goes on. -/
def Block.updCancel (b : Block) : Block :=
  let st := b.updState
  if st = updVerifying ∨ st = updWriting then { b with upd.cancel := true }
  else if st = updArmed then
    match b.upd.armed with
    | some n => if b.nextLaunch ≤ n then { b with upd.armed := none }.updGo updReady else b
    | none => b
  else if st = updLocked then b
  else b.updDrop

/-- UPD_CMD PREPARE: a READY image is tagged, and counts as a stage of the transaction (R467, R276). -/
def Block.updPrepare (b : Block) (txn : Nat) : Block :=
  if b.updState ≠ updReady then b
  else ((b.set F.UPD_TXN_VALID 1).set F.UPD_TXN_TXN txn).txnNote txn 1

/-! ### Trial and confirm (R468) -/

/-- CONFIRM. -/
def Block.updConfirm (b : Block) : Block :=
  let b := b.holdKeys ((b.upd.store.set 1 none).set 3 none)
  match b.trialSlot with
  | none => b
  | some s =>
    let b := b.writeRec (fun r =>
      let r := (r.onEntry s (fun e => { e with state := 3 })).onEntry (1 - s) (fun e => if e.state = 3 then { e with state := 1 } else e)
      { r with setKeep := 0xFF })
    let goal := b.counterGoal (b.bootRec.entry s).sv
    b.when (decide (b.fuses.antiRollback < goal)) (·.burn ⟨2, goal, []⟩)

/-- REVERT. -/
def Block.updRevert (b : Block) : Block :=
  match b.trialSlot with
  | none => b
  | some s =>
    let b := b.writeRec (fun r => r.fail s)
    if b.role = 0 then b.wantReset 2 else { b with upd.revert := some b.nextLaunch }

/-- AUTO_CONFIRM: CONFIRM_S seconds in stage RUN have passed. -/
def autoConfirm (b : Block) : Block :=
  match b.upd.runFrom with
  | some t =>
    if b.bit F.UPD_CTRL_AUTO_CONFIRM && b.stage == stageRun && b.trialSlot.isSome then
      (b.untilClk (t + max 1 (b.get F.UPD_CTRL_CONFIRM_S) * 1000000000)).updConfirm
    else b
  | none => b

/-- FUSE_BURN_DONE: the first burn ends with its read-back, within 20 ms (R453, R454, R466). -/
def fuseBurnDone (ok : Bool) (after : Nat) (b : Block) : Block :=
  match b.upd.burns with
  | [] => b
  | x :: rest =>
    let b := b.untilClk (b.upd.burnFrom + min after 20000000)
    let b := { b with upd := { b.upd with burns := rest, burnFrom := b.clk } }
    if x.kind = 2 then
      if !ok then b.updTell E.UPD_FUSE
      else
        let b := { b with fuses.antiRollback := b.fuses.antiRollback + 1 }.updShow
        if b.fuses.antiRollback < x.slot then { b with upd.burns := x :: rest } else b
    else if !ok then b.updFail E.UPD_FUSE
    else if x.kind = 0 then
      { b with fuses := { b.fuses with
        rootHash := b.fuses.rootHash.set x.slot x.hash, rootFilled := setBitOf b.fuses.rootFilled x.slot true } }.updDrop
    else { b with fuses.rootRevoked := setBitOf b.fuses.rootRevoked x.slot true }.updDrop

/-- A write of UPD_CMD (R479); `sigOk` and `root` are for the header that IMPORT reads. -/
def updCmd (p : Path) (v : Nat) (sigOk : Bool) (root : Option (Nat × List Byte)) (b : Block) : Block :=
  match F.UPD_CMD_OP.of v with
  | 1 => b.updOpen
  | 2 => b.updCancel
  | 3 => b.updImport sigOk root
  | 4 => b.updPrepare (b.get (F.CFG_COMMIT_TXN_TXN.on p))
  | 5 => (b.updArm b.nextLaunch).2
  | 6 => (b.updArm (b.pair F.UPD_ACT_WFN_LO F.UPD_ACT_WFN_HI)).2
  | 7 => b.updConfirm
  | 8 => b.updRevert
  | _ => b

/-! ### Meanings -/

/-- UPD_OPEN. -/
def execUpdOpen (p : Path) (v : Word) (s : State) : Host.Outcome State Fault Refusal :=
  s.done (s.blk.writing R.UPD_CMD (updCmd p v.toNat false none))
/-- UPD_CANCEL. -/
def execUpdCancel (p : Path) (v : Word) (s : State) : Host.Outcome State Fault Refusal :=
  s.done (s.blk.writing R.UPD_CMD (updCmd p v.toNat false none))
/-- UPD_IMPORT. -/
def execUpdImport (p : Path) (v : Word) (sigOk : Bool) (root : Option (Nat × List Byte)) (s : State) :
    Host.Outcome State Fault Refusal := s.done (s.blk.writing R.UPD_CMD (updCmd p v.toNat sigOk root))
/-- UPD_PREPARE. -/
def execUpdPrepare (p : Path) (v : Word) (s : State) : Host.Outcome State Fault Refusal :=
  s.done (s.blk.writing R.UPD_CMD (updCmd p v.toNat false none))
/-- UPD_ACTIVATE. -/
def execUpdActivate (p : Path) (v : Word) (s : State) : Host.Outcome State Fault Refusal :=
  s.done (s.blk.writing R.UPD_CMD (updCmd p v.toNat false none))
/-- UPD_ACTIVATE_AT. -/
def execUpdActivateAt (p : Path) (v : Word) (s : State) : Host.Outcome State Fault Refusal :=
  s.done (s.blk.writing R.UPD_CMD (updCmd p v.toNat false none))
/-- UPD_CONFIRM. -/
def execUpdConfirm (p : Path) (v : Word) (s : State) : Host.Outcome State Fault Refusal :=
  s.done (s.blk.writing R.UPD_CMD (updCmd p v.toNat false none))
/-- UPD_REVERT. -/
def execUpdRevert (p : Path) (v : Word) (s : State) : Host.Outcome State Fault Refusal :=
  s.done (s.blk.writing R.UPD_CMD (updCmd p v.toNat false none))
/-- AUTO_CONFIRM. -/
def execAutoConfirm (s : State) : Host.Outcome State Fault Refusal := s.done (autoConfirm s.blk)
/-- UPD_BLK_DATA. -/
def execUpdBlkData (p : Path) (v : Word) (s : State) : Host.Outcome State Fault Refusal :=
  s.done (s.blk.writing R.UPD_BLK_DATA (updBlkData p v))
/-- UPD_BLK_SUBMIT. -/
def execUpdBlkSubmit (p : Path) (v : Word) (sigOk : Bool) (root : Option (Nat × List Byte)) (s : State) :
    Host.Outcome State Fault Refusal := s.done (s.blk.writing R.UPD_BLK_SUBMIT (updBlkSubmit p v.toNat sigOk root))
/-- UPD_BLOCK. -/
def execUpdBlock (rx : Rx) (sigOk : Bool) (root : Option (Nat × List Byte)) (s : State) :
    Host.Outcome State Fault Refusal := s.done (updBlockMsg rx sigOk root s.blk)
/-- UPD_VERIFY_DONE. -/
def execUpdVerifyDone (poisoned sigOk pointOk : Bool) (shared : List Byte) (after : Nat) (s : State) :
    Host.Outcome State Fault Refusal := s.done (updVerifyDone poisoned sigOk pointOk shared after s.blk)
/-- UPD_WRITE_DONE. -/
def execUpdWriteDone (ok : Bool) (after : Nat) (s : State) : Host.Outcome State Fault Refusal :=
  s.done (updWriteDone ok after s.blk)
/-- FUSE_BURN_DONE. -/
def execFuseBurnDone (ok : Bool) (after : Nat) (s : State) : Host.Outcome State Fault Refusal :=
  s.done (fuseBurnDone ok after s.blk)

end Sys2Proof.Machine
end

