-- ==== Sys2Proof/Machine/Session.lean ====
section
/-!
DEFINITION. UDP sessions (R471), their messages sealed under session 0, and the clearing of secrets before a scan chain
shifts (R473).
-/

namespace Sys2Proof.Machine

/-- The checks of a message under session 0: UDP enabled, a wall key, tag and length (R81, R471). None if it is dropped. -/
def Block.admitZero (b : Block) (rx : Rx) : Option Block × Block :=
  let udp := match rx.via with | .udp _ _ => true | _ => false
  if !udp || !b.bit F.HIF_CTRL_UDP_EN || b.pm.gate then (none, b)
  else if !rx.msg.auth || !rx.tagOk || !b.bit F.SEC_STATUS_WALL_KEY then (none, b.authFail)
  else
    let b := b.learn rx
    if (maxLength rx.msg.type).getD 0 < rx.msg.length ∨ rx.msg.length ≠ rx.received then (none, b.count F.HIF_DROP_TYPE 1)
    else (some b, b)

/-- The session with node `n` is replaced; the oldest of 256 makes room. -/
def Block.setSession (b : Block) (n id : Nat) (secret : List Byte) : Block :=
  let old := ((b.hif.sessions.find? (·.node == n)).map (·.id)).getD 0
  let l := b.hif.sessions.filter (·.node != n)
  let l := if l.length < 256 then l else l.tail
  { b with hif.sessions := l ++ [(⟨n, id, secret, true⟩ : UdpSession)] }.sessionChanged old id

/-- The wall key's bytes under which a session opens whose message names this VERSION (R470, R471). -/
def Block.wallBytes (b : Block) (version : Nat) : List Byte := ((b.wallKey version).map (·.bytes)).getD []

/-- SESSION_HELLO arrives: any earlier session with the node ends, a new one opens and is offered (R471). -/
def sessionHello (rx : Rx) (b : Block) : Block :=
  match rx.msg.body with
  | .hello nonce ver =>
    match b.admitZero rx with
    | (none, b) => b
    | (some b, _) =>
      let (k, b) := b.fresh
      let (j, b) := b.fresh
      let nonceR := Config.freeNumber k % 2 ^ 128
      let id := Config.freeNumber j % (2 ^ 32 - 1) + 1
      let b := b.setSession rx.msg.src id (udpSecret (b.wallBytes ver) nonce nonceR rx.msg.src b.node)
      let used := ((b.wallKey ver).map (·.version)).getD 0
      let m : Msg := ⟨0x29, false, false, true, 80, rx.msg.src, b.node, 0, .accept nonce nonceR id used⟩
      (b.depart rx.via m).flushUdp rx.msg.src
  | _ => b

/-- SESSION_ACCEPT arrives: with the outstanding NONCE_I it opens the session (R471). -/
def sessionAccept (rx : Rx) (b : Block) : Block :=
  match rx.msg.body with
  | .accept nonce nonceR id ver =>
    match b.admitZero rx with
    | (none, b) => b
    | (some b, _) =>
      if b.hif.hellos.any (fun h : Hello => h.node == rx.msg.src && h.nonce == nonce) then
        let b := { b with hif.hellos := b.hif.hellos.filter (fun h : Hello => h.node != rx.msg.src) }
        (b.setSession rx.msg.src id (udpSecret (b.wallBytes ver) nonce nonceR b.node rx.msg.src)).flushUdp rx.msg.src
      else b
  | _ => b

/-- SESSION_HELLO_RETRY: 10 ms have passed since the last HELLO to node `n`: it is repeated, or after three repeats the held
messages are dropped (R471). -/
def sessionHelloRetry (n : Nat) (b : Block) : Block :=
  match b.hif.hellos.find? (·.node == n) with
  | none => b
  | some h =>
    let b := b.untilClk h.due
    let rest := b.hif.hellos.filter (fun q : Hello => q.node != n)
    if h.tries < 3 then
      let b := { b with hif.hellos := rest ++ [{ h with tries := h.tries + 1, due := b.clk + 10000000 }] }
      match b.viaUdp n with
      | none => b
      | some v => b.depart v (⟨0x28, false, false, true, 64, n, b.node, 0, .hello h.nonce (b.get F.SEC_WALL_VER)⟩)
    else
      let r := b.ring n
      let b := { b with hif.hellos := rest }
      let b := b.count F.HIF_DROP_AUTH r.outQ.length
      b.when (!r.outQ.isEmpty) (·.setRing { r with outQ := [], outTail := r.outHead })

/-- Every secret is cleared before a scan chain shifts (R473); `clean` is what the read-back says. Answers whether a test
may start. -/
def Block.clearSecrets (b : Block) (clean : Bool) : Bool × Block :=
  let b := { (b.endSession 0).endSession 1 with hif := { b.hif with sessions := [], hellos := [] } }
  let b := { b with upd.keys := Upd.reset.keys }
  let b := (b.set F.SEC_STATUS_CHAIN_KEY 0).set F.SEC_STATUS_WALL_KEY 0
  let b := (b.set F.SEC_CHAIN_VER 0).set F.SEC_WALL_VER 0
  if clean then (true, (b.set F.SEC_STATUS_CLEARED 1).raise E.UPD_CLEARED) else (false, b)

/-- The key store is unwrapped from flash (R469, R473): the current versions are known again. -/
def Block.loadKeys (b : Block) : Block := b.holdKeys b.upd.store

/-! ### Meanings -/

/-- SESSION_HELLO. -/
def execSessionHello (rx : Rx) (s : State) : Host.Outcome State Fault Refusal := s.done (sessionHello rx s.blk)
/-- SESSION_ACCEPT. -/
def execSessionAccept (rx : Rx) (s : State) : Host.Outcome State Fault Refusal := s.done (sessionAccept rx s.blk)
/-- SESSION_HELLO_RETRY. -/
def execSessionHelloRetry (n : Nat) (s : State) : Host.Outcome State Fault Refusal := s.done (sessionHelloRetry n s.blk)

end Sys2Proof.Machine
end

