-- ==== Sys2Proof/Machine/Bst.lean ====
section
/-!
DEFINITION. Self-test on demand (R476 to R478).
-/

namespace Sys2Proof.Machine

def testSram : Nat := 1
def testLogic : Nat := 2
def testQdr : Nat := 3
def testDram : Nat := 4

/-- The range of the DRAM test; the low bits of its base are ignored (R480). -/
def Block.bstSpan (b : Block) : Span :=
  let base := b.pair F.BST_DRAM_BASE_LO_BASE F.BST_DRAM_BASE_HI_BASE
  ⟨base - base % 2 ^ 20, b.get F.BST_DRAM_LEN_MIB * 2 ^ 20⟩

/-- Does the range of the DRAM test pass the placement check (R477)? -/
def Block.bstPlaced (b : Block) : Bool :=
  let staging := if b.updState = updIdle then [] else [b.stagingWindow]
  b.placed b.bstSpan (b.fixedRegions ++ b.rplRegions none ++ b.audRegions.map (·.2.2) ++ staging)

/-- A test starts: the result of the last one is cleared (R478). -/
def Block.bstStart (b : Block) (t : Nat) : Block :=
  let b := { b with bstFrom := b.clk }
  let b := (b.set F.BST_STATUS_TEST t).set F.BST_STATUS_BUSY 1
  let b := ((b.set F.BST_RESULT_MEM 0).set F.BST_RESULT_TEST 0).set F.BST_RESULT_RESULT 0
  let b := b.setPair F.BST_FAIL_ADDR_LO_ADDR F.BST_FAIL_ADDR_HI_ADDR 0
  (b.set F.BST_FAIL_BIT_COUNT 0).set F.BST_FAIL_BIT_BIT 0

/-- A write of BST_CMD (R477); `clean` is the read-back of R473. -/
def bstCmd (v : Nat) (clean : Bool) (b : Block) : Block :=
  let t := F.BST_CMD_TEST.of v
  if t = 0 ∨ 4 < t then b
  else if b.bit F.BST_STATUS_BUSY then b.raise E.BST_BUSY
  else if t = testSram then if b.role = 0 then b.bstStart t else b.raise E.BST_BUSY
  else if t = testLogic then
    let (ok, b) := b.clearSecrets clean
    if ok then b.bstStart t else b.raise E.BST_BUSY
  else if t = testQdr then if b.drives then b.raise E.BST_BUSY else b.bstStart t
  else if b.bstPlaced then b.bstStart t else b.raise E.BST_PLACE

/-- The longest time of a test in ns (R477). -/
def Block.bstBound (b : Block) (t : Nat) : Nat :=
  if t = testSram then 20000000 else if t = testLogic then 50000000 else if t = testQdr then 40000000
  else ceilDiv (b.get F.BST_DRAM_LEN_MIB * 600000000) 1024


/-- A test's finding goes to the result registers (R478). -/
def Block.bstFound (b : Block) (t : Nat) (mem addr bit words : Nat) : Block :=
  let b := ((b.set F.BST_RESULT_MEM mem).set F.BST_RESULT_TEST t).set F.BST_RESULT_RESULT 2
  let b := b.setPair F.BST_FAIL_ADDR_LO_ADDR F.BST_FAIL_ADDR_HI_ADDR addr
  (b.set F.BST_FAIL_BIT_COUNT (min words 0xFFFFFF)).set F.BST_FAIL_BIT_BIT bit

/-- Repairs of the on-die instances (R476): soft repairs add up, instances beyond their spares are counted. -/
def Block.bstRepairs (b : Block) (soft beyond : Nat) : Block :=
  (b.countSat F.BST_REPAIR_SOFT soft).set F.BST_REPAIR_UNREPAIRED (min beyond 255)

/-- Of the faulty instances an SRAM test finds, those beyond their spares fail it; with none it passes (R476). -/
def instancesBeyond (fault : Option (Nat × Nat × Nat × Nat)) (beyond : Nat) : Nat := if fault.isSome then max 1 beyond else 0

/-- BST_TEST_DONE (R477, R478): `fault` is the first failing location (memory, address, bit, failing words), `soft` and
`beyond` the repairs of an SRAM test; the test ends within its longest time. What a memory test leaves is lost: it reads as
memory that nothing has written. -/
def bstTestDone (fault : Option (Nat × Nat × Nat × Nat)) (soft beyond after : Nat) (b : Block) : Block :=
  if !b.bit F.BST_STATUS_BUSY then b
  else
    let t := b.get F.BST_STATUS_TEST
    let b := b.untilClk (b.bstFrom + min after (b.bstBound t))
    let b := ((b.set F.BST_STATUS_BUSY 0).set F.BST_STATUS_TEST 0).irq F.BST_IRQ_STATUS_DONE
    let b := match fault with
      | some (mem, addr, bit, words) => (b.bstFound t mem addr bit words).raise E.BST_FAIL
      | none => (b.set F.BST_RESULT_TEST t).set F.BST_RESULT_RESULT 1
    let r := b.bstSpan
    if t = testSram then b.bstRepairs soft (instancesBeyond fault beyond)
    else if t = testLogic then b.wantReset 2
    else if t = testQdr then { b with qdr := [], qdrBad := [] }
    else { b with dram := b.dram.filter (fun c => !(decide (r.base ≤ c.1) && decide (c.1 < r.base + r.len))) }

/-! ### Meanings -/

/-- BST_SRAM. -/
def execBstSram (_p : Path) (v : Word) (s : State) : Host.Outcome State Fault Refusal :=
  s.done (s.blk.writing R.BST_CMD (bstCmd v.toNat true))
/-- BST_LOGIC. -/
def execBstLogic (_p : Path) (v : Word) (clean : Bool) (s : State) : Host.Outcome State Fault Refusal :=
  s.done (s.blk.writing R.BST_CMD (bstCmd v.toNat clean))
/-- BST_QDR. -/
def execBstQdr (_p : Path) (v : Word) (s : State) : Host.Outcome State Fault Refusal :=
  s.done (s.blk.writing R.BST_CMD (bstCmd v.toNat true))
/-- BST_DRAM. -/
def execBstDram (_p : Path) (v : Word) (s : State) : Host.Outcome State Fault Refusal :=
  s.done (s.blk.writing R.BST_CMD (bstCmd v.toNat true))
/-- BST_TEST_DONE. -/
def execBstTestDone (fault : Option (Nat × Nat × Nat × Nat)) (soft beyond after : Nat) (s : State) :
    Host.Outcome State Fault Refusal := s.done (bstTestDone fault soft beyond after s.blk)

end Sys2Proof.Machine
end

