-- ==== Sys2Proof/Machine/Commit.lean ====
section
/-!
DEFINITION. Commits (R118 to R126, R494), partial reconfiguration up to its install (R127 to R129), and the transactions that
arm and abort them (R274 to R276).
-/

namespace Sys2Proof.Machine

/-! ### Stages (R119 to R124) -/

/-- Results of a commit command (R132). -/
def comStaged : Nat := 1
def comLate : Nat := 2
def comPrepared : Nat := 3
def comArmed : Nat := 4
def comAborted : Nat := 5
def comRejected : Nat := 6
def comNotSupported : Nat := 7

/-- What a command answers: RESULT, CODE, the frame it staged for, the state. -/
structure Answer where
  result : Nat
  code : Nat
  wfn : Nat
  blk : Block
  deriving DecidableEq, Repr

/-- Stages of group `g`. -/
def Block.stagesOf (b : Block) (g : Nat) : Nat := (b.cfg.stages.filter (·.group == g)).length

/-- CFG_GRPg_STATUS.STAGES follows. -/
def Block.stageCount (b : Block) (g : Nat) : Block := b.set (F.CFG_GRPg_STATUS_STAGES g) (b.stagesOf g)

/-- Has the close point of frame `n` passed (R121)? -/
def Block.closePassed (b : Block) (n : Nat) : Bool := decide (n ≤ b.wfn) || decide (n ≤ b.cfg.closed)

/-- The CFG_ERR bit of a code; a block's own code has none (R123, R133). -/
def cfgErr (code : Nat) : Option Err :=
  [E.CFG_CMD, E.CFG_NOROLE, E.CFG_RANGE, E.CFG_MISSED, E.CFG_BUSY, E.CFG_PAIR].find? (·.code == code)

/-- A rejection (R123, R126, R494): counted once, told with its code; `g` is none for ARM and ABORT. PAIR, RANGE, NOROLE and CMD reach
the fault log as R133 has it, although 18_faults_and_recovery.md says that a code that ends in a rejected commit is never logged
(DESIGN CHOICE, log entry 67). -/
def Block.reject (b : Block) (g : Option Nat) (code : Nat) : Answer :=
  let b := (b.count F.CFG_REJECT_COUNT 1).irq F.CFG_IRQ_STATUS_REJECT
  let b := match cfgErr code with | some e => b.raise e | none => b
  let b := match g with | some g => b.set (F.CFG_GRPg_STATUS_LAST_CODE g) (code % 256) | none => b
  ⟨comRejected, code, 0, b⟩

/-- The groups that a partial under way touches (R128). -/
def touchedBy (i : Image) : List Nat :=
  if countOf i 1 + countOf i 2 = 0 then
    ((imageEntries i).filter (fun e => isRws e.1)).map (fun e => groupOf e.1)
      ++ (imageTables i).filterMap (fun t => if t.1 = 0x2000 then some 0x30 else if t.1 = 0x2100 then some 0x32 else none)
  else allGroups

/-- Is a commit to group `g` kept out by a partial (R128)? -/
def Block.heldByPartial (b : Block) (g : Nat) : Bool :=
  match b.cfg.part.image with
  | some i => (touchedBy i).contains g
  | none => false

/-- The checks of group `g` on the shadow values (R123). -/
def Block.shadowCheck (b : Block) (g : Nat) : Option Nat :=
  let h := b.standing
  checkGroup b (h.install g (b.snapshot g)) (some (h.act F.FRM_MODE_EPOCH_EPOCH)) g

/-- NEXT, AT_WFN and PREPARE from step 6 of R494 on: room, checks, and the stage. -/
def Block.stageGroup (b : Block) (g : Nat) (target txn : Option Nat) : Answer :=
  if 4 ≤ b.stagesOf g ∨ b.heldByPartial g then b.reject (some g) 0x0221
  else
    match b.shadowCheck g with
    | some code => b.reject (some g) code
    | none =>
      let b := { b with cfg.stages := b.cfg.stages ++ [(⟨g, b.snapshot g, target, txn⟩ : Stage)] }.stageCount g
      match txn with
      | some t => ⟨comPrepared, 0, 0, b.txnNote t 1⟩
      | none => ⟨comStaged, 0, target.getD 0, b⟩

/-- The target of a NEXT (R121), and whether it is late. -/
def Block.nextTarget (b : Block) : Nat × Bool :=
  if b.wfn < b.cfg.closed then (b.cfg.closed + 1, true) else (b.wfn + 1, false)

/-- A late commit (R121). -/
def Block.lateCommit (b : Block) : Block := ((b.raise E.CFG_LATE_COMMIT).count F.CFG_LATE_COUNT 1).irq F.CFG_IRQ_STATUS_LATE

/-- ARM of transaction `txn` (R120, R122, R494). -/
def Block.armStages (b : Block) (txn target : Nat) : Answer :=
  let prepared (s : Stage) : Bool := s.txn == some txn && s.target.isNone
  if !b.cfg.stages.any prepared then b.reject none 0x0226
  else if b.role = 0 then b.reject none 0x0224
  else if b.closePassed target then b.reject none 0x0222
  else if b.wfn + 2 ^ 24 < target then b.reject none 0x0223
  else
    let l := b.cfg.stages.map (fun s : Stage => if prepared s then { s with target := some target } else s)
    ⟨comArmed, 0, target, { b with cfg.stages := l }.txnNote txn 2⟩

/-- ABORT of transaction `txn` (R120). -/
def Block.abortStages (b : Block) (txn : Nat) : Answer :=
  if b.role = 0 then b.reject none 0x0224
  else
    let gone (s : Stage) : Bool := s.txn == some txn && (match s.target with | some t => !b.closePassed t | none => true)
    let groups := (b.cfg.stages.filter gone).map (·.group)
    let b := { b with cfg.stages := b.cfg.stages.filter (fun s : Stage => !gone s) }
    let b := b.each groups (fun g b => b.stageCount g)
    ⟨comAborted, 0, 0, b.when (!groups.isEmpty) (·.txnNote txn 5)⟩

/-- A commit command (R120, R126, R494). -/
def Block.commit (b : Block) (op g target txn : Nat) : Answer :=
  if op = 3 then b.armStages txn target
  else if op = 4 then b.abortStages txn
  else if 4 < op ∨ !groupAssigned g ∨ (op = 0 ∧ g = 0x01) then b.reject (some g) 0x0226
  else if b.role = 0 then b.reject (some g) 0x0224
  else if b.idle (groupBlock g) then ⟨comNotSupported, 0, 0, b⟩
  else if op = 0 then
    let (n, late) := b.nextTarget
    let a := b.stageGroup g (some n) none
    if late ∧ a.result = comStaged then { a with result := comLate, blk := a.blk.lateCommit } else a
  else if op = 1 then
    if b.closePassed target then b.reject (some g) 0x0222
    else if b.wfn + 2 ^ 24 < target then b.reject (some g) 0x0223
    else b.stageGroup g (some target) none
  else b.stageGroup g none (some txn)

/-- A write of CFG_COMMIT_CMD on a path: TARGET and TXN are the path's own (R120, R132). CFG_COMMIT_WFN is 0 after a command that
stages nothing (DESIGN CHOICE, log entry 67). -/
def commitCmd (p : Path) (v : Nat) (b : Block) : Block :=
  let g := F.CFG_COMMIT_CMD_GROUP.of v
  let target := b.get (F.CFG_COMMIT_TARGET_LO.on p) + 2 ^ 32 * b.get (F.CFG_COMMIT_TARGET_HI.on p)
  let a := b.commit (F.CFG_COMMIT_CMD_OP.of v) g target (b.get (F.CFG_COMMIT_TXN_TXN.on p))
  let b := (a.blk.set (F.CFG_COMMIT_STATUS_CODE.on p) a.code).set (F.CFG_COMMIT_STATUS_STAGES.on p) (a.blk.stagesOf g)
  let b := b.set (F.CFG_COMMIT_STATUS_RESULT.on p) a.result
  b.setPair (F.CFG_COMMIT_WFN_LO.on p) (F.CFG_COMMIT_WFN_HI.on p) a.wfn

/-! ### Partial reconfiguration (R127 to R129) -/

def prIdle : Nat := 0
def prChecking : Nat := 1
def prReady : Nat := 2
def prArmed : Nat := 3
def prError : Nat := 4

/-- CFG_PR_STATUS.STATE. -/
def Block.prState (b : Block) : Nat := b.get F.CFG_PR_STATUS_STATE

/-- The bank of a table that nothing in force selects. -/
def Block.idleBank (b : Block) (table : Nat) : Nat :=
  if table = 0x2000 then 1 - b.act F.SCN_MAP_SEL_BANK
  else if table = 0x2100 then 1 - b.act F.COR_TBL_SEL_COEF_BANK
  else 1 - b.get F.CMP_TBL_BANK_BANK

/-- The banks that a bit-stream's tables have been written into are checked (R127, R291, R295). Answers the code of a table that
fails. -/
def Block.checkTables (b : Block) (i : Image) (bankOf : Nat → Nat) : Option Nat × Block :=
  let ids := (imageTables i).map (·.1)
  let (mapBad, b) := if ids.contains 0x2000 then
      (let (ok, b) := b.bankCheck 0x2000 (bankOf 0x2000); (!ok, b)) else (false, b)
  let (coefBad, b) := if ids.contains 0x2100 then
      (let (ok, b) := b.bankCheck 0x2100 (bankOf 0x2100); (!ok, b)) else (false, b)
  (if mapBad then some 0x2010 else if coefBad then some 0x2110 else none, b)

/-- The tables of a bit-stream are written and checked (R115). -/
def Block.loadTables (b : Block) (i : Image) (bankOf : Nat → Nat) : Option Nat × Block :=
  (b.each (imageTables i) (fun t b => b.writeTable (bankOf t.1) t)).checkTables i bankOf

/-- The code bank that engine `e` does not run from (R109). -/
def Block.idleCode (b : Block) (e : Nat) : Nat :=
  match b.cfg.engines.find? (·.1 == e) with
  | some x => 1 - x.2
  | none => 0

/-- While checking, ENGINE code is written into the idle banks and TABLE data into the inactive ones, as each section is read
(R111, R127). -/
def Block.copyPartial (b : Block) (i : Image) : Block :=
  b.each (copiedSections i) (fun s b =>
    match s.content with
    | .table _ o bs => b.writeTable (b.idleBank s.inst) (s.inst, o, bs)
    | .engine e code => b.writeEngine (b.idleCode e) (e, code)
    | _ => b)

/-- The RWS values that a partial sets, its table banks among them, as register words at their shadows (R129). -/
def Block.partialShadows (b : Block) (i : Image) : Block :=
  let b := b.each (imageEntries i) (fun e b => if isRws e.1 then
    b.setWord e.1 (Nat.land e.2.toNat (match rowAt e.1 with | some r => r.wr | none => 0)) else b)
  b.each ((imageTables i).map (·.1)).dedup (fun t b =>
    if t = 0x2000 then b.set F.SCN_MAP_SEL_BANK (b.idleBank t)
    else if t = 0x2100 then b.set F.COR_TBL_SEL_COEF_BANK (b.idleBank t) else b)

/-- The keys of RWS registers that a partial sets. -/
def partialKeys (i : Image) : List Nat :=
  ((imageEntries i).map (·.1)).filter isRws
    ++ (imageTables i).filterMap (fun t => if t.1 = 0x2000 then some R.SCN_MAP_SEL else if t.1 = 0x2100 then some R.COR_TBL_SEL else none)

/-- The values a partial sets become active, and every affected shadow is set to its installed value (R129). Fields of a
register that the partial does not write keep their active value. -/
def Block.partialInstall (b : Block) (i : Image) : Block :=
  let h := { b with regs := b.regs }
  let h := h.each (partialKeys i) (fun k h => h.setWord k (b.word (k + 0x8000)))
  let h := h.partialShadows i
  h.each (partialKeys i) (fun k h => h.setWord (k + 0x8000) (h.word k))

/-- The role a partial puts into effect, or the one in force. -/
def Block.roleAfter (b : Block) (i : Image) : Nat := (imageRole i).getD b.role

/-- The groups that a partial's CHECK checks: those of the fields it sets, and those that its role begins to use; never
one whose block its role leaves idle (R126, R127). -/
def Block.partialGroups (b : Block) (i : Image) : List Nat :=
  let role := b.roleAfter i
  let set' := (partialKeys i).map groupOf
  (allGroups.filter (fun g => set'.contains g || idleIn b.fuses b.role (groupBlock g))).filter
    (fun g => !idleIn b.fuses role (groupBlock g))

/-- The first check that fails on the values that will stand after the partial's install. -/
def Block.partialChecks (b : Block) (i : Image) : Option Nat :=
  let h := b.standing
  let h' := h.partialInstall i
  (b.partialGroups i).findSome? (fun g => checkGroup b h' (some (h.act F.FRM_MODE_EPOCH_EPOCH)) g)

/-- Partial reconfiguration enters ERROR. -/
def Block.prFail (b : Block) (code : Nat) (e : Option Err) : Block :=
  let b := match e with | some e => b.raise e | none => b
  ((b.set F.CFG_PR_STATUS_STATE prError).set F.CFG_PR_STATUS_CODE code).irq F.CFG_IRQ_STATUS_PR_ERROR

/-- The bit-stream at CFG_PR_SRC (R127). -/
def Block.partialAt (b : Block) (sigOk : Bool) : Image :=
  b.imageAt (b.pair F.CFG_PR_SRC_LO F.CFG_PR_SRC_HI_SRC) (b.get F.CFG_PR_LEN) sigOk

/-- CFG_PR_CMD CHECK (R127, R128) on the bit-stream at CFG_PR_SRC; `sigOk` says that its signature verifies. While a table load is BUSY it fails with
CFG_ERR_BUSY (R300). -/
def Block.prCheck (b : Block) (sigOk : Bool) : Block :=
  let i := b.partialAt sigOk
  if b.prState ≠ prIdle then b
  else if (touchedBy i).any (fun g => b.stagesOf g != 0) then (b.raise E.CFG_BUSY).set F.CFG_PR_STATUS_CODE 0x0221
  else if b.scn.load.isSome then b.prFail 0x0221 (some E.CFG_BUSY)
  else { b with cfg.part := ⟨some i, none, b.clk⟩ }.set F.CFG_PR_STATUS_STATE prChecking

/-- PR_CHECK_DONE (R127): at most 2 ms + 5.3 ms per MiB after CHECK. -/
def prCheckDone (poisoned : Bool) (after : Nat) (b : Block) : Block :=
  if b.prState ≠ prChecking then b
  else
    match b.cfg.part.image with
    | none => b
    | some i =>
      let b := b.dramUse 5 (b.pair F.CFG_PR_SRC_LO F.CFG_PR_SRC_HI_SRC) i.totalLen
      let b := b.untilClk (b.cfg.part.since + min after (2000000 + 5300000 * ceilDiv i.totalLen (2 ^ 20)))
      let build := b.pair F.CFG_BUILD_ID_LO F.CFG_BUILD_ID_HI
      match checkPartialHead b.fuses build i with
      | some e => b.prFail e.code (some e)
      | none =>
      let b := b.copyPartial i
      match checkPartial b.fuses build poisoned i with
      | some e => b.prFail e.code (some e)
      | none =>
        let (bad, b) := b.checkTables i b.idleBank
        match bad with
        | some code => b.prFail code none
        | none =>
          match b.partialChecks i with
          | some code => b.prFail code (cfgErr code)
          | none => (b.set F.CFG_PR_STATUS_STATE prReady).irq F.CFG_IRQ_STATUS_PR_READY

/-- A READY partial is armed for frame `n`. -/
def Block.prArm (b : Block) (n : Nat) : Block :=
  { b with cfg := { b.cfg with part := { b.cfg.part with target := some n } } }.set F.CFG_PR_STATUS_STATE prArmed

/-- CFG_PR_CMD APPLY_NEXT (R129). -/
def Block.prApplyNext (b : Block) : Block :=
  if b.prState ≠ prReady then b
  else
    let (n, late) := b.nextTarget
    (b.when late (fun b => (b.raise E.CFG_LATE_COMMIT).count F.CFG_LATE_COUNT 1)).prArm n

/-- APPLY_AT for frame `n` (R129): the code of a refusal, 0 for none. -/
def Block.prApplyAt (b : Block) (n : Nat) : Nat × Block :=
  if b.prState = prArmed ∧ b.cfg.part.target = some n then (0, b)
  else if b.prState ≠ prReady then (0x0226, b)
  else if b.closePassed n then (0x0222, (b.raise E.CFG_MISSED).set F.CFG_PR_STATUS_CODE 0x0222)
  else if b.wfn + 2 ^ 24 < n then (0x0223, (b.raise E.CFG_RANGE).set F.CFG_PR_STATUS_CODE 0x0223)
  else (0, b.prArm n)

/-- CFG_PR_CMD CANCEL (R129). -/
def Block.prCancel (b : Block) : Block :=
  let open' := match b.cfg.part.target with | some n => !b.closePassed n | none => true
  if b.prState = prReady ∨ b.prState = prError ∨ (b.prState = prArmed ∧ open' = true) then
    { b with cfg.part := ⟨none, none, 0⟩ }.set F.CFG_PR_STATUS_STATE prIdle
  else b

/-- A write of CFG_PR_CMD (R132). -/
def prCmd (v : Nat) (sigOk : Bool) (b : Block) : Block :=
  match F.CFG_PR_CMD_OP.of v with
  | 0 => b.prCheck sigOk
  | 1 => b.prApplyNext
  | 2 => (b.prApplyAt (b.pair F.CFG_PR_TARGET_LO F.CFG_PR_TARGET_HI)).2
  | _ => b.prCancel

/-! ### Transactions (R274 to R276) -/

/-- A unit arms what carries the TXN: its stages, with PR its READY partial, and a tagged update image (R274, R467). Answers
the STATUS of the response. -/
def Block.armTxn (b : Block) (txn target : Nat) (pr : Bool) : Nat × Block :=
  let tagged := b.cfg.stages.filter (fun s => s.txn == some txn)
  let image := b.updTagged txn
  if !tagged.isEmpty && tagged.all (fun s => s.target == some target) && !pr && !image then (0, b)
  else
    let prepared := tagged.any (·.target.isNone)
    let already := !tagged.isEmpty && tagged.all (fun s => s.target == some target)
    let (c1, b) := if prepared || !(pr || image || already) then
        (let a := b.armStages txn target; (a.code, a.blk)) else (0, b)
    let (c2, b) := if pr then b.prApplyAt target else (0, b)
    let (c3, b) := if image && b.upd.armed != some target then
        (let (ok, b) := b.updArm target; (if ok then 0 else 0x070D, b)) else (0, b)
    let code := if c1 ≠ 0 then c1 else if c2 ≠ 0 then c2 else c3
    (code % 256, b.when (code == 0) (fun b => if image && b.upd.armed.isSome then b.txnNote txn 2 else b))

/-- A unit discards what carries the TXN (R275, R467). -/
def Block.abortTxn (b : Block) (txn : Nat) : Nat × Block :=
  let a := b.abortStages txn
  let b := a.blk
  let b := if b.updTagged txn then
      let launched : Bool := match b.upd.armed with | some n => decide (n < b.nextLaunch) | none => false
      if b.updState == updArmed && launched then b
      else
        let b := { b with upd.armed := none }
        let b := if b.updState = updArmed then b.updGo updReady else b
        ((b.set F.UPD_TXN_VALID 0).set F.UPD_TXN_TXN 0).txnNote txn 5
    else b
  (a.code % 256, b)

/-- The head's table takes a transaction: 8 entries, the oldest makes room (R266, R275). -/
def Block.tableTxn (b : Block) (txn target : Nat) (pr : Bool) : Block :=
  let l := b.lnk.table.filter (fun e => e.txn != txn)
  { b with lnk.table := l.drop (l.length - 7) ++ [(⟨txn, 1, if pr then 1 else 0, target % 2 ^ 32⟩ : TxnEntry)] }

/-- The active head passes a transaction on: into its chain, and to the standby (R275); not what the standby has passed on. -/
def Block.passTxn (b : Block) (rx : Rx) (body : Body) : Block :=
  let type := rx.msg.type
  if b.duty = dutyActive ∧ rx.msg.src ≠ b.otherHead then
    let b := b.sendChain b.chainPorts type nodeAll body
    if (b.viaUdp b.otherHead).isSome then b.sendOtherUdp type body else b.sendMsg type b.otherHead body
  else b

/-- A standby passes what the active head has sent it on from its own end (R275), `new` telling that it has not done so yet. -/
def Block.passStandby (b : Block) (rx : Rx) (new : Bool) : Block :=
  if new && b.duty == dutyStandby && rx.msg.src == b.lnk.activeNode && b.fromHead rx.msg.src then
    b.sendChain b.chainPorts rx.msg.type nodeAll rx.msg.body
  else b

/-- Is the TXN armed already at this target: in the active head's table, or in every stage a unit holds for it (R274)? -/
def Block.armedAt (b : Block) (txn target : Nat) : Bool :=
  let tagged := b.cfg.stages.filter (fun s => s.txn == some txn)
  b.lnk.table.any (fun e => e.txn == txn && e.state == 1 && e.target == target % 2 ^ 32) && b.duty == dutyActive
    || !tagged.isEmpty && tagged.all (fun s => s.target == some target)

/-- TXN_ARM arrives (R274, R275). -/
def txnArm (rx : Rx) (b : Block) : Block :=
  match rx.msg.body with
  | .txn txn pr cu _ target =>
    b.taking rx (fun b =>
      if rx.msg.response then b
      else
        let again := !cu && b.armedAt txn target
        let four := decide (4 ≤ (b.lnk.table.filter (fun e => e.state == 1 && e.target == target % 2 ^ 32 && e.txn != txn)).length)
        if again && b.duty == dutyActive then b.respond rx false (.txn txn pr cu 0 target)
        else if b.duty = dutyActive ∧ four = true then b.respond rx true (.txn txn pr cu 0xFF target)
        else
          let b := b.when (b.duty == dutyActive && !cu) (·.tableTxn txn target pr)
          let (st, b) := b.armTxn txn target pr
          let b := if cu then b else (b.passTxn rx (.txn txn pr cu 0 target)).passStandby rx (!again)
          b.respond rx (st != 0) (.txn txn pr cu st target))
  | _ => b

/-- TXN_ABORT arrives (R274, R275). -/
def txnAbort (rx : Rx) (b : Block) : Block :=
  match rx.msg.body with
  | .txn txn pr cu _ target =>
    b.taking rx (fun b =>
      if rx.msg.response then b
      else
        let known := b.cfg.stages.any (·.txn == some txn) || b.lnk.table.any (·.txn == txn) || b.updTagged txn
        let b := b.when (b.duty == dutyActive || b.duty == dutyStandby) (fun b => { b with lnk.table := b.lnk.table.filter (fun e => e.txn != txn) })
        let (st, b) := b.abortTxn txn
        let b := (b.passTxn rx (.txn txn pr cu 0 target)).passStandby rx known
        b.respond rx (st != 0) (.txn txn pr cu st target))
  | _ => b

/-- The header of the frame that starts lists TXNs: one whose stage is still prepared, or whose tagged image is not
armed, is missed (R276). -/
def Block.txnLatch (b : Block) (txns : List Nat) : Block :=
  b.each txns (fun t b =>
    let stage := b.cfg.stages.any (fun s => s.txn == some t && s.target.isNone)
    let image := b.updTagged t && b.updState == updReady
    if stage || image then b.txnMissed t else b)

/-! ### Meanings -/

/-- COMMIT_NEXT. -/
def execCommitNext (p : Path) (v : Word) (s : State) : Host.Outcome State Fault Refusal :=
  s.done (s.blk.writing R.CFG_COMMIT_CMD (commitCmd p v.toNat))
/-- COMMIT_AT_WFN. -/
def execCommitAtWfn (p : Path) (v : Word) (s : State) : Host.Outcome State Fault Refusal :=
  s.done (s.blk.writing R.CFG_COMMIT_CMD (commitCmd p v.toNat))
/-- COMMIT_PREPARE. -/
def execCommitPrepare (p : Path) (v : Word) (s : State) : Host.Outcome State Fault Refusal :=
  s.done (s.blk.writing R.CFG_COMMIT_CMD (commitCmd p v.toNat))
/-- COMMIT_ARM. -/
def execCommitArm (p : Path) (v : Word) (s : State) : Host.Outcome State Fault Refusal :=
  s.done (s.blk.writing R.CFG_COMMIT_CMD (commitCmd p v.toNat))
/-- COMMIT_ABORT. -/
def execCommitAbort (p : Path) (v : Word) (s : State) : Host.Outcome State Fault Refusal :=
  s.done (s.blk.writing R.CFG_COMMIT_CMD (commitCmd p v.toNat))
/-- PR_CHECK. -/
def execPrCheck (_p : Path) (v : Word) (sigOk : Bool) (s : State) : Host.Outcome State Fault Refusal :=
  s.done (s.blk.writing R.CFG_PR_CMD (prCmd v.toNat sigOk))
/-- PR_CHECK_DONE. -/
def execPrCheckDone (poisoned : Bool) (after : Nat) (s : State) : Host.Outcome State Fault Refusal :=
  s.done (prCheckDone poisoned after s.blk)
/-- PR_APPLY_NEXT. -/
def execPrApplyNext (_p : Path) (v : Word) (s : State) : Host.Outcome State Fault Refusal :=
  s.done (s.blk.writing R.CFG_PR_CMD (prCmd v.toNat false))
/-- PR_APPLY_AT. -/
def execPrApplyAt (_p : Path) (v : Word) (s : State) : Host.Outcome State Fault Refusal :=
  s.done (s.blk.writing R.CFG_PR_CMD (prCmd v.toNat false))
/-- PR_CANCEL. -/
def execPrCancel (_p : Path) (v : Word) (s : State) : Host.Outcome State Fault Refusal :=
  s.done (s.blk.writing R.CFG_PR_CMD (prCmd v.toNat false))
/-- TXN_ARM. -/
def execTxnArm (rx : Rx) (s : State) : Host.Outcome State Fault Refusal := s.done (txnArm rx s.blk)
/-- TXN_ABORT. -/
def execTxnAbort (rx : Rx) (s : State) : Host.Outcome State Fault Refusal := s.done (txnAbort rx s.blk)

end Sys2Proof.Machine
end

