-- ==== Sys2Proof/Machine/EthRx.lean ====
section
/-!
DEFINITION. The Ethernet ports: enabling and links (R134 to R136), received frames and their clients (R137, R138), the
port's own answers (R138, R139), transmission, pauses (R140 to R142), EEE (R143), wake patterns (R144).
-/

namespace Sys2Proof.Machine

/-! ### Ports and links -/

/-- Is the port in a 100G mode: one link over four lanes (R134)? -/
def Block.eth100 (b : Block) (n : Nat) : Bool := decide (b.get (F.ETHn_CTRL_MODE n) < 3)

/-- Is sublink `k` of port `n` up? -/
def Block.subUp (b : Block) (n k : Nat) : Bool := bitOf (b.get (F.ETHn_STATUS_LINK n)) k

/-- A sublink of the port's mode. -/
def Block.subOk (b : Block) (n k : Nat) : Bool := decide (n < 2) && (k == 0 || !b.eth100 n && decide (k < 4))

/-- LINK changes (R146). -/
def Block.setLink (b : Block) (n v : Nat) : Block :=
  if b.get (F.ETHn_STATUS_LINK n) = v then b else (b.set (F.ETHn_STATUS_LINK n) v).irq (F.ETHn_IRQ_STATUS_LINK_CHANGE n)

/-- Nanoseconds in transmit LPI that TX_LPI_US has not counted. -/
def Block.lpiPending (b : Block) (n : Nat) : Nat :=
  match (b.ethPort n).lpiFrom with
  | none => 0
  | some t => (b.ethPort n).lpiRem + (b.clk - t)

/-- Microseconds in LPI are counted and LPI ends (R143, R145); what is short of a microsecond counts later. -/
def Block.lpiEnd (b : Block) (n : Nat) : Block :=
  match (b.ethPort n).lpiFrom with
  | none => b
  | some _ =>
    let ns := b.lpiPending n
    let b := b.countPair (F.ETHn_CNT_Ti_LO n 7) (F.ETHn_CNT_Ti_HI n 7) (ns / 1000)
    (b.onEth n (fun q => { q with lpiFrom := none, lastBusy := b.clk, lpiRem := ns % 1000 })).set (F.ETHn_STATUS_LPI_TX n) 0

/-- Every link of the port is down: EEE is no longer agreed. -/
def Block.ethQuiet (b : Block) (n : Nat) : Block :=
  if b.get (F.ETHn_STATUS_LINK n) = 0 then
    (((b.lpiEnd n).set (F.ETHn_STATUS_ALIGNED n) 0).set (F.ETHn_STATUS_EEE_AGREED n) 0).set (F.ETHn_STATUS_LPI_RX n) 0
  else b

/-- EN goes from 0 to 1 (R135): MODE, FEC_EN and AN_EN are those in the register, the lanes start. -/
def Block.ethStart (b : Block) (n : Nat) : Block :=
  (b.onEth n (fun q => { EthPort.reset with lastBusy := b.clk, lldpDue := b.clk + 30000000000, lpiRem := q.lpiRem })).portEnable n

/-- EN goes from 1 to 0 (R135): every queued frame is dropped and counted, the links are down. -/
def Block.ethStop (b : Block) (n : Nat) : Block :=
  let q := b.ethPort n
  let k := q.queue.length + (q.hops.map (·.waiting.length)).sum
  let b := b.countSat (F.ETHn_CNT_Ei n 9) k
  let b := (b.setLink n 0).ethQuiet n
  (b.onEth n (fun q => { EthPort.reset with lpiRem := q.lpiRem })).portDisable n

/-- A write of ETHn_CTRL (R134, R135). -/
def ethCtrl (n : Nat) (v : Word) (b : Block) : Block :=
  if 2 ≤ n then b
  else
    let w := v.toNat
    let was := b.bit (F.ETHn_CTRL_EN n)
    let now := (F.ETHn_CTRL_EN n).of w != 0
    let mode := (F.ETHn_CTRL_MODE n).of w
    let b := if was then b else
      let b := (b.set (F.ETHn_CTRL_AN_EN n) ((F.ETHn_CTRL_AN_EN n).of w)).set (F.ETHn_CTRL_FEC_EN n) ((F.ETHn_CTRL_FEC_EN n).of w)
      if mode ≤ 5 then b.set (F.ETHn_CTRL_MODE n) mode else b
    let b := b.setBit (F.ETHn_CTRL_EN n) now
    if was == now then b else if now then b.ethStart n else b.ethStop n

/-- Is EEE advertised: EEE.EN, a mode with fast wake, and auto-negotiation (R134, R143)? -/
def Block.eeeAdvertised (b : Block) (n : Nat) : Bool :=
  let m := b.get (F.ETHn_CTRL_MODE n)
  b.bit (F.ETHn_EEE_EN n) && b.bit (F.ETHn_CTRL_AN_EN n) && (m == 0 || m == 1 || m == 3 || m == 4)

/-- The transmit wake time in force (R143). -/
def Block.setWakeTime (b : Block) (n : Nat) : Block :=
  b.set (F.ETHn_EEE_STATUS_TW_TX_NS n) (max (Config.lpiWakeMin (b.get (F.ETHn_CTRL_MODE n))) (b.ethPort n).partnerTw)

/-- EEE is in use while the link is up and both partners advertise it (R143): a change of ETHn_EEE.EN is advertised at
once. -/
def Block.eeeSync (b : Block) (n : Nat) : Block :=
  if b.get (F.ETHn_STATUS_LINK n) ≠ 0 ∧ (b.ethPort n).partnerEee ∧ b.eeeAdvertised n then
    if b.bit (F.ETHn_STATUS_EEE_AGREED n) then b else (b.set (F.ETHn_STATUS_EEE_AGREED n) 1).setWakeTime n
  else ((b.lpiEnd n).set (F.ETHn_STATUS_EEE_AGREED n) 0).set (F.ETHn_STATUS_LPI_RX n) 0

/-- ETH_LINK_UP (R146, R150): sublink `k` comes up; `eee` tells that the partner advertises EEE. -/
def ethLinkUp (n k : Nat) (eee : Bool) (b : Block) : Block :=
  let lanes := if b.eth100 n then b.trained n else b.laneState (4 * n + k) == laneUp
  if !b.subOk n k || !b.bit (F.ETHn_CTRL_EN n) || !lanes || b.subUp n k then b
  else
    let b := b.setLink n (setBitOf (b.get (F.ETHn_STATUS_LINK n)) k true)
    let b := (b.set (F.ETHn_STATUS_LOCAL_FAULT n) 0).set (F.ETHn_STATUS_REMOTE_FAULT n) 0
    let b := (b.set (F.ETHn_STATUS_ALIGNED n) 1).onEth n (fun q => { q with partnerEee := eee })
    (b.eeeSync n).linkReports n

/-- ETH_LINK_DOWN (R145, R146, R165): sublink `k` goes down, with the faults seen. -/
def ethLinkDown (n k : Nat) (localFault remoteFault : Bool) (b : Block) : Block :=
  if !b.subOk n k || !b.bit (F.ETHn_CTRL_EN n) || !b.subUp n k then b
  else
    let b := b.setLink n (setBitOf (b.get (F.ETHn_STATUS_LINK n)) k false)
    let b := (b.setBit (F.ETHn_STATUS_LOCAL_FAULT n) localFault).setBit (F.ETHn_STATUS_REMOTE_FAULT n) remoteFault
    let b := (b.countSat (F.ETHn_CNT_Ei n 10) 1).raise (E.ETHn_LINK_DOWN n)
    b.ethQuiet n

/-! ### Parsing (R137, R138) -/

/-- `n` bytes of `bs` from `o`. -/
def bytesAt (bs : List Byte) (o n : Nat) : List Byte := (bs.drop o).take n
/-- The network-order number of `n` bytes at `o`. -/
def beAt (bs : List Byte) (o n : Nat) : Nat := beNat (bytesAt bs o n)

/-- What a frame carries: its addresses, tags, EtherType and payload (without the FCS). -/
structure Parsed where
  dst : Nat
  src : Nat
  twoTags : Bool
  etherType : Nat
  payload : List Byte
  deriving DecidableEq, Repr

/-- Read a frame's header (R137): untagged, or with one 802.1Q tag. -/
def parseFrame (bs : List Byte) : Parsed :=
  let tagged := beAt bs 12 2 == 0x8100
  let o := if tagged then 16 else 12
  { dst := beAt bs 0 6, src := beAt bs 6 6, twoTags := tagged && beAt bs 16 2 == 0x8100
    etherType := beAt bs o 2, payload := (bs.drop (o + 2)).take (bs.length - (o + 2) - 4) }

/-- An IP packet's addresses, protocol and what lies behind its header; fragments have none. -/
structure Ip where
  v6 : Bool
  src : Nat
  dst : Nat
  proto : Nat
  l4 : List Byte
  deriving DecidableEq, Repr

/-- Read an IPv4 or IPv6 packet. -/
def parseIp (p : Parsed) : Option Ip :=
  let d := p.payload
  if p.etherType = 0x0800 then
    let ihl := beAt d 0 1 % 16 * 4
    if beAt d 0 1 / 16 ≠ 4 ∨ ihl < 20 ∨ beAt d 6 2 % 0x4000 ≠ 0 ∨ d.length < 20 then none
    else some ⟨false, beAt d 12 4, beAt d 16 4, beAt d 9 1, (d.take (beAt d 2 2)).drop ihl⟩
  else if p.etherType = 0x86DD then
    let d := d.take (40 + beAt d 4 2)
    if beAt d 0 1 / 16 ≠ 6 ∨ d.length < 40 then none
    else
      let hop := beAt d 6 1 == 0
      let o := if hop then 40 + 8 * (beAt d 41 1 + 1) else 40
      some ⟨true, beAt d 8 16, beAt d 24 16, if hop then beAt d 40 1 else beAt d 6 1, d.drop o⟩
  else none

/-- The fused base address, or its fourth successor, of port `n`. -/
def fusedMac (f : Fuses) (n : Nat) : Nat := f.macBase + 4 * n

/-- The MAC address of port `n`: the register pair is kept as its difference from the fused value it resets to (R146). -/
def Block.ethMac (b : Block) (n : Nat) : Nat :=
  Nat.xor (b.get (F.ETHn_MAC_LO n) + 2 ^ 32 * b.get (F.ETHn_MAC_HI_MAC n)) (fusedMac b.fuses n % 2 ^ 48)

/-! ### The port's own answers (R138 rule 3, R139) -/

/-- A frame to a MAC address with a payload, tagged by ETHn_TX_PCP, padded to 60 bytes (R140). -/
def Block.frameTo (b : Block) (n sub mac etherType : Nat) (payload : List Byte) : List Byte :=
  let tag : List Byte := if b.bit (F.ETHn_TX_PCP_TAG n) then
      beBytes 2 0x8100 ++ beBytes 2 (b.get (F.ETHn_TX_PCP_MSG n) * 8192 + b.get (F.ETHn_TX_PCP_VID n)) else []
  let bs := beBytes 6 mac ++ beBytes 6 (b.ethMac n + sub) ++ tag ++ beBytes 2 etherType ++ payload
  bs ++ List.replicate (60 - bs.length) 0

/-- An answer becomes ready in class MSG. -/
def Block.answer (b : Block) (n sub mac etherType : Nat) (payload : List Byte) : Block :=
  let f := b.frameTo n sub mac etherType payload
  b.ethQueue n ⟨sub, b.get (F.ETHn_TX_PCP_MSG n), f.length + 4, .ethBytes n sub f⟩

/-- The ones' complement sum of 16-bit words. -/
def onesSum : List Byte → Nat
  | [] => 0
  | [x] => x.toNat * 256
  | x :: y :: r => let s := x.toNat * 256 + y.toNat + onesSum r
    s % 65536 + s / 65536

/-- An ARP reply. -/
def Block.arpReply (b : Block) (n sub : Nat) (d : List Byte) : Block :=
  b.answer n sub (beAt d 8 6) 0x0806
    (bytesAt d 0 6 ++ beBytes 2 2 ++ beBytes 6 (b.ethMac n + sub) ++ bytesAt d 24 4 ++ bytesAt d 8 10)

/-- A neighbour advertisement for the port's own address (solicited, override). -/
def Block.neighbourReply (b : Block) (n sub : Nat) (p : Parsed) (i : Ip) : Block :=
  let own := beBytes 16 (b.ownIp n true)
  let body (sum : Nat) : List Byte :=
    beBytes 2 0x8800 ++ beBytes 2 sum ++ beBytes 4 0x60000000 ++ own ++ beBytes 2 0x0201 ++ beBytes 6 (b.ethMac n + sub)
  let to' := beBytes 16 i.src
  let sum := 65535 - onesSum (own ++ to' ++ beBytes 4 32 ++ beBytes 4 58 ++ body 0)
  b.answer n sub p.src 0x86DD (beBytes 4 0x60000000 ++ beBytes 2 32 ++ beBytes 2 0x3AFF ++ own ++ to' ++ body sum)

/-- An echo reply: the request with its addresses exchanged, its type changed and its checksum mended. -/
def Block.echoReply (b : Block) (n sub : Nat) (p : Parsed) (i : Ip) : Block :=
  let d := p.payload
  let head := d.length - i.l4.length
  let step := if i.v6 then 0xFEFF else 0x0800
  let c := beAt i.l4 2 2 + step
  let c := c % 65536 + c / 65536
  let l4 := beBytes 2 (if i.v6 then 0x8100 else 0) ++ beBytes 2 c ++ i.l4.drop 4
  let swapped := if i.v6 then bytesAt d 0 8 ++ bytesAt d 24 16 ++ bytesAt d 8 16 ++ bytesAt d 40 (head - 40)
    else bytesAt d 0 12 ++ bytesAt d 16 4 ++ bytesAt d 12 4 ++ bytesAt d 20 (head - 20)
  b.answer n sub p.src p.etherType (swapped ++ l4)

/-- A next hop resolves (R139): it is kept for 60 s and what waited for it is queued. -/
def Block.resolved (b : Block) (n : Nat) (v6 : Bool) (ip : Nat) : Block :=
  match (b.ethPort n).hops.find? (fun h => h.v6 == v6 && h.ip == ip && !h.resolved) with
  | none => b
  | some h =>
    let b := b.onEth n (fun q => { q with hops := q.hops.map (fun g =>
      if g.v6 == v6 && g.ip == ip then { g with resolved := true, due := b.clk + 60000000000, waiting := [] } else g) })
    b.each h.waiting (fun t b => b.ethQueue n t)

/-! ### Receive (R137, R138, R144) -/

/-- The first rule of R138 that matches: the client, and the state after what the port itself does. -/
def Block.classify (b : Block) (n sub : Nat) (p : Parsed) : Client × Block :=
  let none' := (Client.none, b)
  if p.etherType = 0x8808 then (.flow, b)
  else if p.etherType = 0x88F7 then if sub = 0 then (.ptp, b) else none'
  else if p.etherType = 0x88CC then if b.bit (F.ETHn_STATUS_EEE_AGREED n) then (.lldp, b) else none'
  else if p.etherType = 0x0806 then
    let d := p.payload
    let own := b.ownIp n false
    if own = 0 ∨ beAt d 24 4 ≠ own then none'
    else if beAt d 6 2 = 1 then (.port, b.arpReply n sub d)
    else if beAt d 6 2 = 2 then (.port, b.resolved n false (beAt d 14 4))
    else none'
  else
    match parseIp p with
    | none => none'
    | some i =>
      let own := b.ownIp n i.v6
      let mine := own != 0 && i.dst == own
      let kind := beAt i.l4 0 1
      if i.proto = 1 ∧ !i.v6 then if kind = 8 ∧ mine then (.port, b.echoReply n sub p i) else none'
      else if i.proto = 58 ∧ i.v6 then
        if kind = 135 ∧ own ≠ 0 ∧ beAt i.l4 8 16 = own then (.port, b.neighbourReply n sub p i)
        else if kind = 136 ∧ mine then (.port, b.resolved n true (beAt i.l4 8 16))
        else if kind = 128 ∧ mine then (.port, b.echoReply n sub p i)
        else if kind = 130 then (.groups, b)
        else none'
      else if i.proto = 2 ∧ !i.v6 then if kind = 0x11 then (.groups, b) else none'
      else if i.proto = 17 then
        let port := beAt i.l4 2 2
        let g : Datagram := ⟨n, i.v6, i.dst, i.src, port⟩
        if port = 319 ∨ port = 320 then if sub = 0 then (.ptp, b) else none'
        else if (b.ingMatch g).isSome then (.ing, b)
        else if (b.audMatch g).isSome then (.aud, b)
        else if mine ∧ port = b.get F.HIF_UDP_PORT_PORT ∧ b.bit F.HIF_CTRL_UDP_EN ∧ sub = 0 then (.hif, b)
        else none'
      else none'

/-- Does wake pattern `p` of port `n` match the frame (R144)? -/
def Block.patternHit (b : Block) (n p : Nat) (bs : List Byte) : Bool :=
  bitOf (b.get (F.ETHn_WAKE_CTRL_PAT_EN n)) p &&
    (List.range 128).all (fun i =>
      !bitOf (b.get (F.ETHn_WAKEp_MASKw n p (i / 32))) (i % 32)
        || decide (i < bs.length) && (bs.getD i 0).toNat == b.get (F.ETHn_WAKEp_DATAw n p (i / 4)) / 2 ^ (8 * (i % 4)) % 256)

/-- A frame that passes R137 reaches the wake patterns of a port kept powered in sleep (R144). -/
def Block.wakeFrame (b : Block) (n sub : Nat) (bs : List Byte) : Block :=
  let pats := (List.range 4).filter (fun p => b.patternHit n p bs)
  let hit := match pats with
    | p :: _ => some (p + 1)
    | [] => if b.bit (F.ETHn_WAKE_CTRL_UCAST n) && beAt bs 0 6 == b.ethMac n + sub then some 5 else none
  match hit with
  | none => b
  | some k =>
    let b := (b.set (F.ETHn_WAKE_CTRL_LAST n) k).countSat (F.ETHn_CNT_Ei n 11) 1
    b.pmWake (2 ^ (2 + n)) false

/-- The event counter of the first check of R137 that a frame fails. -/
def Block.rxFault (b : Block) (n : Nat) (bs : List Byte) (fcsOk : Bool) : Option Nat :=
  if (parseFrame bs).twoTags then some 3
  else if bs.length < 64 then some 1
  else if b.get (F.ETHn_MAX_FRAME_BYTES n) < bs.length then some 2
  else if fcsOk then none else some 0

/-- Does the port run RS-FEC (R134)? In modes 0x3 and 0x4 only with FEC_EN = 1. -/
def Block.fecOn (b : Block) (n : Nat) : Bool :=
  let m := b.get (F.ETHn_CTRL_MODE n)
  !(m == 3 || m == 4) || b.bit (F.ETHn_CTRL_FEC_EN n)

/-- The codewords that carried a frame, on a port with RS-FEC (R134, R145). -/
def Block.fecCount (b : Block) (n corrected uncorrected : Nat) : Block :=
  if b.fecOn n then
    let b := (b.countSat (F.ETHn_CNT_Ei n 7) corrected).countSat (F.ETHn_CNT_Ei n 8) uncorrected
    b.when (uncorrected != 0) (·.raise (E.ETHn_FEC_UNCORR n))
  else b

/-- The traffic counters of a frame that R137 accepts (R145): its octets, itself, a multicast one. -/
def Block.rxCount (b : Block) (n : Nat) (bytes : List Byte) : Block :=
  let b := b.countPair (F.ETHn_CNT_Ti_LO n 0) (F.ETHn_CNT_Ti_HI n 0) bytes.length
  let b := b.countPair (F.ETHn_CNT_Ti_LO n 1) (F.ETHn_CNT_Ti_HI n 1) 1
  b.when (bitOf (beAt bytes 0 1) 0) (fun b => b.countPair (F.ETHn_CNT_Ti_LO n 2) (F.ETHn_CNT_Ti_HI n 2) 1)

/-- ETH_FRAME_RECEIVE (R137, R138, R144): a frame of `bytes`, FCS included, on sublink `sub`; `held` bytes wait in the
receive buffer, and the codewords that carried it needed correction or could not be corrected. -/
def ethFrameReceive (n sub : Nat) (bytes : List Byte) (fcsOk : Bool) (held corrected uncorrected : Nat) (b : Block) : Block :=
  let kept := b.pm.gate && b.ethKept n && b.bracken
  if !b.subOk n sub || !b.bit (F.ETHn_CTRL_EN n) || !b.subUp n sub || b.pm.gate && !kept then b
  else
    let b := b.fecCount n corrected uncorrected
    if 524288 < held + bytes.length then (b.countSat (F.ETHn_CNT_Ei n 4) 1).raise (E.ETHn_RX_OVERRUN n)
    else
      match b.rxFault n bytes fcsOk with
      | some i => b.countSat (F.ETHn_CNT_Ei n i) 1
      | none =>
        let b := b.rxCount n bytes
        if kept then b.wakeFrame n sub bytes
        else
          let (c, b) := b.classify n sub (parseFrame bytes)
          let b := b.when (c == .ing || c == .groups) (fun b => b.countPair (F.ETHn_CNT_Ti_LO n 3) (F.ETHn_CNT_Ti_HI n 3) 1)
          let b := b.when (c == .none) (fun b => b.countPair (F.ETHn_CNT_Ti_LO n 4) (F.ETHn_CNT_Ti_HI n 4) 1)
          b.emit (.handed n c)

/-! ### Flow control and transmission (R140 to R142) -/

/-- Load a pause timer with quanta (R141). DESIGN CHOICE (log entry 65): a time that is no whole number of nanoseconds ends at
the next one. -/
def Block.loadPause (b : Block) (n sub cls quanta : Nat) : Block :=
  let sub := if b.eth100 n then 0 else sub
  let ns := ceilDiv (quanta * if b.eth100 n then 512 else 2048) 100
  b.onEth n (fun q =>
    let rest := q.pauses.filter (fun p => !(p.sub == sub && p.cls == cls))
    { q with pauses := if quanta = 0 then rest else rest ++ [Pause.mk sub cls (b.clk + ns)] })

/-- Bit c: the timer of class c is not zero, on any sublink (ETHn_FC_STATUS). -/
def Block.paused (b : Block) (n : Nat) : Nat :=
  ((List.range 8).map (fun c =>
    if (b.ethPort n).pauses.any (fun p => p.cls == c && decide (b.clk < p.stop)) then 2 ^ c else 0)).sum

/-- PAUSE_FRAME (R141). -/
def pauseFrame (n sub quanta : Nat) (b : Block) : Block :=
  if !b.subOk n sub || !b.subUp n sub then b
  else
    let b := b.countSat (F.ETHn_CNT_Ei n 5) 1
    let cs := (List.range 8).filter (fun c => bitOf (b.get (F.ETHn_FC_CTRL_RESPOND n)) c)
    if !b.bit (F.ETHn_FC_CTRL_PAUSE_EN n) || cs.isEmpty then b.countSat (F.ETHn_CNT_Ei n 6) 1
    else b.each cs (fun c b => b.loadPause n sub c quanta)

/-- PFC_FRAME (R141): the enable vector and the eight classes' quanta. DESIGN CHOICE (log entry 65): with PFC_EN = 0 the
frame counts once in RX_PAUSE_IGNORED, not once for each class it names. -/
def pfcFrame (n sub vector : Nat) (quanta : List Nat) (b : Block) : Block :=
  if !b.subOk n sub || !b.subUp n sub then b
  else
    let b := b.countSat (F.ETHn_CNT_Ei n 5) 1
    let named := (List.range 8).filter (fun c => bitOf vector c)
    if !b.bit (F.ETHn_FC_CTRL_PFC_EN n) || named.isEmpty then b.countSat (F.ETHn_CNT_Ei n 6) 1
    else b.each named (fun c b =>
      if bitOf (b.get (F.ETHn_FC_CTRL_RESPOND n)) c then b.loadPause n sub c (quanta.getD c 0)
      else b.countSat (F.ETHn_CNT_Ei n 6) 1)

/-- PAUSE_TIMER_EXPIRY (R142). -/
def pauseTimerExpiry (n sub cls : Nat) (b : Block) : Block :=
  match (b.ethPort n).pauses.find? (fun p => p.sub == sub && p.cls == cls) with
  | none => b
  | some p =>
    (b.untilClk p.stop).onEth n (fun q => { q with pauses := q.pauses.filter (fun x => !(x.sub == sub && x.cls == cls)) })

/-- May a frame of class `c` start on a sublink now (R142)? -/
def Block.mayStart (b : Block) (n sub c : Nat) : Bool :=
  !(b.ethPort n).pauses.any (fun p => p.sub == sub && p.cls == c && decide (b.clk < p.stop))

/-- The frame that starts next on a sublink: the oldest of the highest class that is not paused (R140). -/
def Block.nextFrameOut (b : Block) (n sub : Nat) : Option TxFrame :=
  let l := (b.ethPort n).queue.filter (fun t => t.sub == sub && b.mayStart n sub t.cls)
  l.foldl (fun best t => match best with
    | some (x : TxFrame) => if x.cls < t.cls then some t else some x
    | none => some t) none

/-- Remove the first occurrence of a frame. -/
def dropFirst (t : TxFrame) : List TxFrame → List TxFrame
  | [] => []
  | x :: r => if x = t then r else x :: dropFirst t r

/-- ETH_FRAME_TRANSMIT (R140, R142). -/
def ethFrameTransmit (n sub : Nat) (b : Block) : Block :=
  if !b.subOk n sub || !b.subUp n sub || b.pm.gate || (b.ethPort n).lpiFrom.isSome then b
  else
    match b.nextFrameOut n sub with
    | none => b
    | some t =>
      let b := b.onEth n (fun q => { q with queue := dropFirst t q.queue, lastBusy := b.clk })
      let b := b.countPair (F.ETHn_CNT_Ti_LO n 5) (F.ETHn_CNT_Ti_HI n 5) t.len
      (b.countPair (F.ETHn_CNT_Ti_LO n 6) (F.ETHn_CNT_Ti_HI n 6) 1).emit t.item

/-- The hop of a port that falls due first, resolved or not. -/
def Block.firstHop (b : Block) (n : Nat) (resolved : Bool) : Option Hop :=
  ((b.ethPort n).hops.filter (·.resolved == resolved)).foldl (fun best h => match best with
    | some (x : Hop) => if h.due < x.due then some h else some x
    | none => some h) none

/-- NEXT_HOP_TIMEOUT (R139): a next hop that has not resolved within 1 s drops what waits for it. -/
def nextHopTimeout (n : Nat) (b : Block) : Block :=
  match b.firstHop n false with
  | none => b
  | some h =>
    let b := (b.untilClk h.due).onEth n (fun q => { q with hops := q.hops.filter (fun g => !(g.v6 == h.v6 && g.ip == h.ip)) })
    b.each h.waiting (fun _ b => b.txDrop n)

/-- NEXT_HOP_EXPIRY (R139): a resolved next hop is kept for 60 s. -/
def nextHopExpiry (n : Nat) (b : Block) : Block :=
  match b.firstHop n true with
  | none => b
  | some h =>
    (b.untilClk h.due).onEth n (fun q => { q with hops := q.hops.filter (fun g => !(g.v6 == h.v6 && g.ip == h.ip)) })

/-! ### Energy-Efficient Ethernet (R143) -/

/-- Does the monitoring sender use port `n`? An idle ING does not (R23). -/
def Block.monitorOn (b : Block) (n : Nat) : Bool :=
  b.bit F.ING_MON_CTRL_EN && !b.idle 0x12 && b.bit (if n = 0 then F.ING_MON_CTRL_PATH_A else F.ING_MON_CTRL_PATH_B)

/-- LPI_ENTRY: the queues have been empty for IDLE_US. -/
def lpiEntry (n : Nat) (b : Block) : Block :=
  let q := b.ethPort n
  if !b.bit (F.ETHn_STATUS_EEE_AGREED n) || q.lpiFrom.isSome || !q.queue.isEmpty || b.monitorOn n || b.pm.gate then b
  else
    let b := b.untilClk (q.lastBusy + b.get (F.ETHn_EEE_IDLE_US n) * 1000)
    ((b.onEth n (fun q => { q with lpiFrom := some b.clk })).set (F.ETHn_STATUS_LPI_TX n) 1).countSat (F.ETHn_CNT_Ei n 12) 1

/-- LPI_WAKE: a queued frame ends LPI; it starts after the transmit wake time. -/
def lpiWake (n : Nat) (b : Block) : Block :=
  let q := b.ethPort n
  if q.lpiFrom.isNone || q.queue.isEmpty then b
  else (b.lpiEnd n).untilClk (b.clk + b.get (F.ETHn_EEE_STATUS_TW_TX_NS n))

/-- LLDP_SEND: every 30 s, and in answer to a changed request, while EEE is in use; EEE_AGREED implies ETHn_EEE.EN = 1
(R24, R143). -/
def lldpSend (n : Nat) (b : Block) : Block :=
  if !b.bit (F.ETHn_STATUS_EEE_AGREED n) then b
  else
    let q := b.ethPort n
    let b := if q.lldpAnswer then b else b.untilClk q.lldpDue
    let b := b.onEth n (fun q => { q with lldpAnswer := false, lldpDue := if q.lldpAnswer then q.lldpDue else b.clk + 30000000000 })
    b.ethQueue n (b.txFrame n 0 (b.get (F.ETHn_TX_PCP_MSG n)) 0 46 (.lldp n (b.get (F.ETHn_EEE_STATUS_TW_TX_NS n))))

/-- LLDP_RECEIVE: the partner's EEE TLV with the transmit wake time it asks for. -/
def lldpReceive (n tw : Nat) (b : Block) : Block :=
  if 2 ≤ n ∨ !b.bit (F.ETHn_STATUS_EEE_AGREED n) then b
  else
    let changed := (b.ethPort n).partnerTw != tw % 65536
    let b := b.set (F.ETHn_EEE_STATUS_LLDP_SEEN n) 1
    (b.onEth n (fun q => { q with partnerTw := tw % 65536, lldpAnswer := q.lldpAnswer || changed })).setWakeTime n

/-- PARTNER_LPI: the partner enters or leaves LPI. -/
def partnerLpi (n : Nat) (enter : Bool) (b : Block) : Block :=
  if n < 2 ∧ b.bit (F.ETHn_STATUS_EEE_AGREED n) then b.setBit (F.ETHn_STATUS_LPI_RX n) enter else b

/-- ETH_PORT_ENABLE: a write of ETHn_CTRL. -/
def execEthPortEnable (_p : Path) (n : Nat) (v : Word) (s : State) : Host.Outcome State Fault Refusal :=
  s.done (s.blk.writing (R.ETHn_CTRL n) (ethCtrl n v))
/-- ETH_PORT_DISABLE: a write of ETHn_CTRL. -/
def execEthPortDisable (_p : Path) (n : Nat) (v : Word) (s : State) : Host.Outcome State Fault Refusal :=
  s.done (s.blk.writing (R.ETHn_CTRL n) (ethCtrl n v))
/-- ETH_LINK_UP. -/
def execEthLinkUp (n k : Nat) (eee : Bool) (s : State) : Host.Outcome State Fault Refusal := s.done (ethLinkUp n k eee s.blk)
/-- ETH_LINK_DOWN. -/
def execEthLinkDown (n k : Nat) (localFault remoteFault : Bool) (s : State) : Host.Outcome State Fault Refusal :=
  s.done (ethLinkDown n k localFault remoteFault s.blk)
/-- ETH_FRAME_RECEIVE. -/
def execEthFrameReceive (n sub : Nat) (bytes : List Byte) (fcsOk : Bool) (held corrected uncorrected : Nat) (s : State) :
    Host.Outcome State Fault Refusal :=
  s.done (ethFrameReceive n sub bytes fcsOk held corrected uncorrected s.blk)
/-- PAUSE_FRAME. -/
def execPauseFrame (n sub quanta : Nat) (s : State) : Host.Outcome State Fault Refusal := s.done (pauseFrame n sub quanta s.blk)
/-- PFC_FRAME. -/
def execPfcFrame (n sub vector : Nat) (quanta : List Nat) (s : State) : Host.Outcome State Fault Refusal :=
  s.done (pfcFrame n sub vector quanta s.blk)
/-- PAUSE_TIMER_EXPIRY. -/
def execPauseTimerExpiry (n sub cls : Nat) (s : State) : Host.Outcome State Fault Refusal :=
  s.done (pauseTimerExpiry n sub cls s.blk)
/-- ETH_FRAME_TRANSMIT. -/
def execEthFrameTransmit (n sub : Nat) (s : State) : Host.Outcome State Fault Refusal := s.done (ethFrameTransmit n sub s.blk)
/-- NEXT_HOP_TIMEOUT. -/
def execNextHopTimeout (n : Nat) (s : State) : Host.Outcome State Fault Refusal := s.done (nextHopTimeout n s.blk)
/-- NEXT_HOP_EXPIRY. -/
def execNextHopExpiry (n : Nat) (s : State) : Host.Outcome State Fault Refusal := s.done (nextHopExpiry n s.blk)
/-- LPI_ENTRY. -/
def execLpiEntry (n : Nat) (s : State) : Host.Outcome State Fault Refusal := s.done (lpiEntry n s.blk)
/-- LPI_WAKE. -/
def execLpiWake (n : Nat) (s : State) : Host.Outcome State Fault Refusal := s.done (lpiWake n s.blk)
/-- LLDP_SEND. -/
def execLldpSend (n : Nat) (s : State) : Host.Outcome State Fault Refusal := s.done (lldpSend n s.blk)
/-- LLDP_RECEIVE. -/
def execLldpReceive (n tw : Nat) (s : State) : Host.Outcome State Fault Refusal := s.done (lldpReceive n tw s.blk)
/-- PARTNER_LPI. -/
def execPartnerLpi (n : Nat) (enter : Bool) (s : State) : Host.Outcome State Fault Refusal := s.done (partnerLpi n enter s.blk)

end Sys2Proof.Machine
end

