-- ==== Sys2Proof/Machine/Sleep.lean ====
section
/-!
DEFINITION. Requests for power states, the entry into BRACKEN, RETAIN and OFF, the wake order and what follows it (R437 to
R447), and the end of the hold-up (R45).
-/

namespace Sys2Proof.Machine

/-! ### Entry (R440) -/

/-- Step 2 of an entry: strings off, audio ports stopped, groups left, the composition dropped, no further Spore, SYNC_OUT
low. The request has acted. -/
def Block.pmEntryAct (b : Block) : Block :=
  let b := { b with pm := { b.pm with gate := true, bound := none, reqWfn := none } }.set F.PM_STATUS_PENDING 7
  let b := b.calStop.strAllOff
  let b := b.each (List.range 4) (fun p b => b.audStop p)
  let b := { b.joinSync.cmpStop with scn.settle := none }
  { b with frm.pulseEnd := [none, none] }.syncRest

/-- A Lysrov port's transmitter goes idle: a port that is UP goes down, and its session ends (R240, R440). -/
def Block.lnkSleep (b : Block) (p : Nat) : Block :=
  let b := if b.bit (F.LNKn_STATUS_UP p) then
      (((b.set (F.LNKn_STATUS_UP p) 0).set (F.LNKn_STATUS_PARTNER_SLOT p) 0xFF).countSat (F.LNKn_CNT_Ei p 2) 1).raise (E.LNKn_LINK_DOWN p)
    else b
  let b := (b.endSession p).onLnk p (fun q => { q with lastId := none, offered := none })
  b.portTo laneOff (2 + p)

/-- An Ethernet port stops as at a write of EN = 0, EN unchanged (R440). -/
def Block.ethSleep (b : Block) (n : Nat) : Block := if b.bit (F.ETHn_CTRL_EN n) then b.ethStop n else b

/-- The ports, the time island and AUX_12V of a sleep in state `st` (R436, R440, R442). -/
def Block.sleepIslands (b : Block) (st : Nat) : Block :=
  let b := b.each [0, 1] (fun n b => if st == pmBracken && b.ethKept n then b else b.ethSleep n)
  let time := st == pmBracken && b.bit F.PM_CTRL_KEEP_TIME
  { b with pm.stcStopped := b.pm.stcStopped || !time
           pins.auxOn := st == pmBracken && b.bit F.PM_CTRL_AUX_BRACKEN && b.pwr.auxOff.isNone }

/-- Logic power goes: the outputs switch off in the order of R45, the J3 outputs high-impedance with the logic rails, and
what DRAM and QDR SRAM held is lost (R446). -/
def Block.powerOff (b : Block) : Block :=
  let b := b.strAllOff
  { b with dram := [], qdr := [], qdrBad := [], logic := .off, pwr.auxOff := none
           pins := { b.pins with alertN := true, syncOut := [false, false], j3On := false, auxOn := false, railsOn := false } }

/-- The sleep in state `st` begins (R440 step 5): the sequencer samples PERIOD_MS later. -/
def Block.sleepFrom (b : Block) (st : Nat) : Block :=
  let b := b.setPmState st
  { b with pm := { b.pm with
      slept := st, enteredAt := b.clk, nextWindow := b.clk + b.brackenPeriod, syncHigh := false, feedsAtEntry := b.get F.PWR_STATUS_IN_RANGE } }

/-- POWER_ENTRY_DONE (R440 steps 3 to 5, R446): within 3 ms of FS_own(n). -/
def powerEntryDone (after : Nat) (b : Block) : Block :=
  match b.pm.entering with
  | none => b
  | some st =>
    if !b.pm.gate then b
    else
      let b := (b.elapse (min after 3000000)).allSelfRefresh
      let b := b.each [0, 1] (fun p b => b.lnkSleep p)
      let b := (b.sleepIslands st).set F.SRD_STATUS_PLL_LOCK 0
      let b := { b with pm := { b.pm with entering := none, islandsOff := true } }
      if st = pmOff then (b.setPmState pmOff).powerOff
      else
        let b := b.sleepFrom st
        if b.pm.after.isSome then b.pmWake 1 true else b

/-- FS_own(n) for PM: a request bound to the frame acts, or its entry is checked once more (R437, R438). -/
def Block.pmFrame (b : Block) (n : Nat) : Block :=
  if b.pm.bound = some n then
    let st := b.get F.PM_STATUS_PENDING
    match b.pm.entering with
    | some d =>
      match b.refuser true with
      | some (blk, reason) => b.refuse d blk reason true
      | none => b.pmEntryAct
    | none =>
      (({ b with pm := { b.pm with bound := none, reqWfn := none } }.set F.PM_STATUS_PENDING 7).setPmState st).when
        (st == pmDim && b.drives) (·.calStop)
  else b

/-! ### Requests (R437, R438, R447) -/

/-- A request that is refused because the module is ENTERING or WAKING; what is under way goes on (R447). -/
def Block.refuseBusy (b : Block) (st : Nat) : Block :=
  let r := b.refuse st 0x06 0x03 false
  { r with pm := b.pm }.set F.PM_STATUS_PENDING (b.get F.PM_STATUS_PENDING)

/-- A request to enter BRACKEN, RETAIN or OFF that has no frame to wait for acts at the write (R437). -/
def Block.enterNow (b : Block) (st : Nat) : Block :=
  match b.refuser false with
  | some (blk, reason) => b.refuse st blk reason false
  | none =>
    if b.asleep then
      if st = pmOff then (b.setPmState pmOff).powerOff else (b.sleepIslands st).sleepFrom st
    else
      let b := { b with pm := { b.pm with entering := some st, before := b.pmState } }
      (b.setPmState pmEntering).pmEntryAct

/-- A write of PM_REQ (R437, R447). -/
def pmReq (st : Nat) (atWfn : Bool) (b : Block) : Block :=
  let now := b.pmState
  let lit := st == pmActive || st == pmDim
  if now = st then b
  else if now = pmEntering ∨ now = pmWaking then
    if lit then
      let b := { b with pm.after := some st }
      if now = pmEntering then b.set F.PM_STATUS_PENDING st else b
    else b.refuseBusy st
  else if b.asleep then
    if lit then { b with pm.after := some st }.pmWake 1 true else b.enterNow st
  else if b.role = 0 then
    if lit then b.setPmState st else b.enterNow st
  else if lit || atWfn then b.pend st atWfn
  else
    match b.refuser false with
    | some (blk, reason) => b.refuse st blk reason false
    | none => b.pend st atWfn

/-- A write of PM_REQ by its word: STATE above 0x4 is ignored (R449). -/
def pmReqWord (v : Nat) (b : Block) : Block :=
  let st := F.PM_REQ_STATE.of v
  if st ≤ 4 then pmReq st (F.PM_REQ_AT_WFN.of v != 0) b else b

/-! ### Wake (R444, R445) -/

/-- WAKE_START (R444 steps 1 to 4): the core powers up, and the codes kept back are accepted in their order (R441). -/
def wakeStart (b : Block) : Block :=
  if !b.asleep || b.pm.wakes == 0 then b
  else
    let b := (b.set F.PM_WAKE_SRC_SRC b.pm.wakes).setPmState pmWaking
    let kept := b.flt.deferred
    let b := { b with
      pm := { b.pm with wakes := 0, islandsOff := false, enteredAt := b.clk }
      flt.deferred := []
      clocks := { b.clocks with resetAt := b.clk, bootLost := false } }
    b.each kept (fun e b => b.acceptEntry e)

/-- WAKE_TONE_END (R443): the tone of port `p` ends and its lanes go on to CDR. -/
def wakeToneEnd (p : Nat) (b : Block) : Block :=
  match b.pm.toneEnds.find? (·.1 == p) with
  | none => b
  | some (_, t) =>
    let b := b.untilClk t
    { b with pm.toneEnds := b.pm.toneEnds.filter (·.1 != p) }.pllGo (2 + p)

/-- HOLDUP_END (R45, R398, R446): no feed came back in the 20 ms, at the least, of the hold-up; 3V3_HK goes last. -/
def holdupEnd (b : Block) : Block :=
  if b.bit F.PWR_STATUS_HOLDUP then
    { ((b.untilClk (b.pwr.lostAt + 20000000)).when (b.logic == LogicPower.running) Block.fltDrain).powerOff with pins.hkOn := false }.setPmState pmOff |>.set F.PWR_STATUS_HOLDUP 0
  else b

/-- PM_REQ_ACTIVE: a write of PM_REQ. -/
def execPmReqActive (_p : Path) (atWfn : Bool) (s : State) : Host.Outcome State Fault Refusal :=
  s.done (s.blk.writing R.PM_REQ (pmReq pmActive atWfn))
/-- PM_REQ_DIM: a write of PM_REQ. -/
def execPmReqDim (_p : Path) (atWfn : Bool) (s : State) : Host.Outcome State Fault Refusal :=
  s.done (s.blk.writing R.PM_REQ (pmReq pmDim atWfn))
/-- PM_REQ_BRACKEN: a write of PM_REQ. -/
def execPmReqBracken (_p : Path) (atWfn : Bool) (s : State) : Host.Outcome State Fault Refusal :=
  s.done (s.blk.writing R.PM_REQ (pmReq pmBracken atWfn))
/-- PM_REQ_RETAIN: a write of PM_REQ. -/
def execPmReqRetain (_p : Path) (atWfn : Bool) (s : State) : Host.Outcome State Fault Refusal :=
  s.done (s.blk.writing R.PM_REQ (pmReq pmRetain atWfn))
/-- PM_REQ_OFF: a write of PM_REQ. -/
def execPmReqOff (_p : Path) (atWfn : Bool) (s : State) : Host.Outcome State Fault Refusal :=
  s.done (s.blk.writing R.PM_REQ (pmReq pmOff atWfn))
/-- POWER_ENTRY_DONE. -/
def execPowerEntryDone (after : Nat) (s : State) : Host.Outcome State Fault Refusal := s.done (powerEntryDone after s.blk)
/-- WAKE_START. -/
def execWakeStart (s : State) : Host.Outcome State Fault Refusal := s.done (wakeStart s.blk)
/-- WAKE_TONE_END. -/
def execWakeToneEnd (p : Nat) (s : State) : Host.Outcome State Fault Refusal := s.done (wakeToneEnd p s.blk)
/-- HOLDUP_END. -/
def execHoldupEnd (s : State) : Host.Outcome State Fault Refusal := s.power (holdupEnd s.blk)

end Sys2Proof.Machine
end

