-- ==== Sys2Proof/Machine/RegWrite.lean ====
section
/-!
DEFINITION. Register accesses (R10 to R16, R35 to R39): the read of any register with its computed fields and the latch of
R14, the write of any register with the commands that writes give, the watchdog and reset registers (R492, R493), and the
rows for plain accesses.
-/

namespace Sys2Proof.Machine

/-! ### The register an address names -/

/-- Block and offset of every register named NAME_LO, LNK1 and ETH1 as LNK0 and ETH0 (R14). -/
def pairRows : List (Nat × Nat) :=
  [(0x0, 0x10), (0x1, 0x10), (0x1, 0x20), (0x1, 0x28), (0x1, 0x30), (0x1, 0x38), (0x1, 0x54), (0x1, 0xC0), (0x1, 0x104),
   (0x1, 0x10C), (0x2, 0x10), (0x2, 0x34), (0x2, 0x44), (0x2, 0x80), (0x2, 0x90), (0x10, 0x10), (0x10, 0x800),
   (0x12, 0x1014), (0x12, 0x10A0), (0x13, 0x10), (0x13, 0x2C), (0x14, 0x10), (0x14, 0x18), (0x14, 0x20), (0x14, 0x80),
   (0x18, 0x8), (0x18, 0x20), (0x18, 0x124), (0x18, 0x1024), (0x1C, 0x20), (0x1C, 0x1010), (0x1C, 0x1020)]
  ++ [(0x1C, 0x1028), (0x1C, 0x1040), (0x1C, 0x1050), (0x20, 0x10), (0x20, 0x18), (0x20, 0x20), (0x20, 0x80), (0x21, 0x18),
   (0x21, 0x300), (0x24, 0x80), (0x24, 0x1008), (0x1E, 0x118), (0x28, 0x18), (0x28, 0x108), (0x2B, 0x1004), (0x2B, 0x100C),
   (0x2B, 0x3008), (0x2B, 0x3010), (0x2A, 0x1018), (0x2A, 0x1020), (0x3, 0x90), (0x5, 0x28), (0x6, 0x10), (0x7, 0x10),
   (0x7, 0x20), (0x7, 0x30), (0x7, 0x50), (0x8, 0x10), (0x8, 0x24), (0x30, 0x60)]

/-- An address without the offset of an active copy (R12). -/
def baseOf (a : Nat) : Nat := if a % 0x10000 < 0x8000 then a else a - 0x8000

/-- The row of the register that an access of `size` bytes at address `a` reaches; none for an access that R10 calls
narrow, unaligned or to no register. Only RWS registers have an active copy. -/
def accessRow (a size : Nat) : Option Row :=
  if size ≠ 4 ∨ a % 4 ≠ 0 then none
  else
    match rowAt (baseOf a) with
    | none => none
    | some r => if baseOf a = a ∨ r.kind = .rws then some r else none

/-- Is `a` the low register of a pair? -/
def isLow (a : Nat) : Bool :=
  match rowAt (baseOf a) with
  | none => false
  | some r =>
    let blk := a / 0x10000
    pairRows.contains (if blk = 0x11 ∨ blk = 0x1D then blk - 1 else blk, r.off)

/-- Is `a` the high register of a pair? -/
def isHigh (a : Nat) : Bool := decide (4 ≤ a) && isLow (a - 4)

/-! ### Reading -/

/-- Computed quantities of two registers, by the low register's address. -/
def Block.wide (b : Block) (a : Nat) : Option Nat :=
  if a = R.SYS_SERIAL_LO then some b.fuses.serial
  else if a = R.HIF_I3C_PID_LO then
    some (0x365C * 2 ^ 32 + 0x9624 * 2 ^ 16 + b.pins.straps % 4 * 2 ^ 12 + b.fuses.serial % 2 ^ 12)
  else if a = R.PTP_STC_LO then some b.stc
  else if a = R.ETHn_CNT_Ti_LO 0 7 ∨ a = R.ETHn_CNT_Ti_LO 1 7 then
    let n := a / 0x10000 % 2
    some (b.pair (F.ETHn_CNT_Ti_LO n 7) (F.ETHn_CNT_Ti_HI n 7) + b.lpiPending n / 1000)
  else if a = R.ETHn_MAC_LO 0 then some (b.ethMac 0)
  else if a = R.ETHn_MAC_LO 1 then some (b.ethMac 1)
  else if a = R.SCN_OPEN_WFN_LO then some (if b.drives then b.openFrame else 0)
  else if a = R.SCN_BANDS_LO then some (if b.drives then b.bandMask b.openFrame else 0)
  else
    match (List.range 16).find? (fun k => a == R.SRDk_CNT_Ti_LO k 0) with
    | some k => some (b.pair (F.SRDk_CNT_Ti_LO k 0) (F.SRDk_CNT_Ti_HI k 0) + b.patPending k)
    | none =>
      match (List.range 16).find? (fun k => a == R.SRDk_CNT_Ti_LO k 1) with
      | some k => some (b.pair (F.SRDk_CNT_Ti_LO k 1) (F.SRDk_CNT_Ti_HI k 1) + b.patErrPending k)
      | none => none

/-- Milliseconds left on the watchdog; 0 while EN = 0 (R492). -/
def Block.wdtLeft (b : Block) : Nat :=
  if b.bit F.SYS_WDT_CTRL_EN then b.wdtMs - (b.wdtStop.getD b.clk - b.wdtStart) / 1000000 else 0

/-- Bytes 4w to 4w + 3 of a list as a register word. -/
def wordOf (bs : List Byte) (w : Nat) : Nat := leNat ((bs.drop (4 * w)).take 4)

/-- A stored word with the fields that are computed at the read. -/
def Block.narrow (b : Block) (a stored : Nat) : Nat :=
  let f := b.fuses
  if a = R.SYS_REV then f.rev
  else if a = R.SYS_VARIANT then (if f.h128 then 0x22 else 0x01) + (if f.gradeE then 0x10 else 0)
  else if a = R.SYS_WDT_STATUS then b.wdtLeft
  else if a = R.HIF_I3C_STATUS then F.HIF_I3C_STATUS_STATIC_ADDR.into stored (0x4C + b.pins.straps % 4)
  else if a = R.ETHn_FC_STATUS 0 then b.paused 0
  else if a = R.ETHn_FC_STATUS 1 then b.paused 1
  else if a = R.ING_STATUS then F.ING_STATUS_PX_RATE.into stored b.pxRate
  else if a = R.SCN_STATUS then
    F.SCN_STATUS_NEXT_OPEN.into stored (if b.drives && b.scn.back.any (fun x => x.wfn == b.openFrame + 1) then 1 else 0)
  else if a = R.FRM_STATUS then F.FRM_STATUS_ROLLING.into stored (b.act F.FRM_START_ROLLING)
  else if a = R.DRM_SIZE then (if f.h128 then 128 else 16)
  else if a = R.SEC_STATUS then
    F.SEC_STATUS_DEBUG_FUSE.into (F.SEC_STATUS_FILLED.into (F.SEC_STATUS_REVOKED.into stored f.rootRevoked) f.rootFilled)
      (if f.debugFuse then 1 else 0)
  else
    match (List.range 25).find? (fun w => a == R.SEC_DEV_PUBKEYw w) with
    | some w => wordOf f.devPubkey w
    | none =>
      match (List.range 48).find? (fun i => a == R.SEC_ROOTs_HASHw (i / 12) (i % 12)) with
      | some i => wordOf (f.rootHash.getD (i / 12) []) (i % 12)
      | none => stored

/-- Is `a` a traffic counter of a DRAM channel, whose count the spec's traffic alone gives (log entry 33)? -/
def isDramCount (a : Nat) : Bool := (List.range 16).any (fun i => a == R.DRM_CHc_CNT_Ti_LO (i / 4) (i % 4))

/-- The key of path `p`'s copy of the register at `a`. -/
def keyOf (p : Path) (r : Row) (a : Nat) : Nat := if r.kind = .perPath then pathKey p a else a

/-- What the register at `a` shows on path `p`, reserved bits and WO fields 0 (R11, R16). -/
def Block.shown (b : Block) (p : Path) (r : Row) (a : Nat) : Word :=
  let v :=
    if isLow a && (b.wide a).isSome then ((b.wide a).getD 0) % 2 ^ 32
    else if isHigh a && (b.wide (a - 4)).isSome then ((b.wide (a - 4)).getD 0) / 2 ^ 32
    else b.narrow a (b.word (keyOf p r a)).toNat
  BitVec.ofNat 32 (Nat.land v r.vis)

/-- The latch of path `p` for the high register at `a`. -/
def Block.latchOf (b : Block) (p : Path) (a : Nat) : Option Word := (b.latches.find? (·.1 == pathKey p a)).map (·.2)

/-- Drop path `p`'s latch for the high register at `a`. -/
def Block.unlatch (b : Block) (p : Path) (a : Nat) : Block := { b with latches := b.latches.filter (·.1 != pathKey p a) }

/-- Latch the high word for path `p`. -/
def Block.latch (b : Block) (p : Path) (a : Nat) (v : Word) : Block :=
  { b.unlatch p a with latches := (pathKey p a, v) :: (b.unlatch p a).latches }

/-- A read of `size` bytes at `a` through path `p` (R10, R11, R12, R14, R35): the value, and what the read does. The offset
of a present REFCLK is measured anew (R175; free value, log entry 61). -/
def Block.readReg (b : Block) (p : Path) (a size : Nat) : Word × Block :=
  match accessRow a size with
  | none => (0, b.raise E.HIF_ADDR)
  | some r =>
    if b.gated (baseOf a) then (0, b.gatedAccess)
    else if a = R.HIF_RX_DATA then rxData p b
    else if a = R.PTP_REFCLK_STATUS ∧ b.clocks.refMet ∧ !b.bit F.PTP_REFCLK_STATUS_SOURCE then
      let (k, b) := b.fresh
      let b := b.set F.PTP_REFCLK_STATUS_OFFSET (Config.freeValue k)
      (b.shown p r a, b)
    else if a = R.HIF_IRQ_PEND_LO then
      let (v, b) := b.irqShown
      (BitVec.ofNat 32 v, b.latch p (a + 4) (BitVec.ofNat 32 (v / 2 ^ 32)))
    else if isDramCount a then
      let (k, b) := b.fresh
      let v := Config.freeValue k % 2 ^ 64
      (BitVec.ofNat 32 v, b.latch p (a + 4) (BitVec.ofNat 32 (v / 2 ^ 32)))
    else if isLow a then
      match accessRow (a + 4) 4 with
      | some h => (b.shown p r a, b.latch p (a + 4) (b.shown p h (a + 4)))
      | none => (b.shown p r a, b)
    else
      match (if isHigh a then b.latchOf p a else none) with
      | some v => (v, b.unlatch p a)
      | none =>
        if a = R.HIF_IRQ_PEND_HI then
          let (v, b) := b.irqShown
          (BitVec.ofNat 32 (v / 2 ^ 32), b)
        else if decide (4 ≤ a) && isDramCount (a - 4) then
          let (k, b) := b.fresh
          (BitVec.ofNat 32 (Config.freeValue k), b)
        else
          let k := keyOf p r a
          (b.shown p r a, if r.rc = 0 then b else b.setWord k (b.word k &&& ~~~(BitVec.ofNat 32 r.rc)))

/-- A read whose value goes out on its path. -/
def regRead (p : Path) (a size : Nat) (b : Block) : Block :=
  let (v, b) := b.readReg p a size
  b.emit (.read p a v)

/-! ### Registers of SYS with an effect (R493) -/

/-- A write of SYS_RESET_CMD; in BRACKEN and RETAIN the wake order runs first (R447). -/
def resetCmd (v : Nat) (b : Block) : Block :=
  if F.SYS_RESET_CMD_KEY.of v = 0x5752 ∧ F.SYS_RESET_CMD_WARM.of v = 1 then
    if b.asleep then { b with pm.warmAfter := true }.pmWake 1 true else b.wantReset 2
  else b

/-- The count starts from TIMEOUT_MS as it stands. -/
def Block.wdtRestart (b : Block) : Block :=
  { b with wdtStart := b.clk, wdtMs := max 10 (b.get F.SYS_WDT_CTRL_TIMEOUT_MS), wdtWarned := false
           wdtStop := if b.wdtStop.isSome then some b.clk else none }

/-- A write of SYS_WDT_CTRL: EN from 0 to 1 starts the count. -/
def wdtCtrl (v : Nat) (b : Block) : Block :=
  let was := b.bit F.SYS_WDT_CTRL_EN
  let b := (b.set F.SYS_WDT_CTRL_EN (F.SYS_WDT_CTRL_EN.of v)).set F.SYS_WDT_CTRL_TIMEOUT_MS (F.SYS_WDT_CTRL_TIMEOUT_MS.of v)
  b.when (!was && b.bit F.SYS_WDT_CTRL_EN) (·.wdtRestart)

/-- A write of SYS_WDT_KICK: 0xA5 restarts the count. -/
def wdtKick (v : Nat) (b : Block) : Block := if F.SYS_WDT_KICK_KEY.of v = 0xA5 then b.wdtRestart else b

/-! ### Writing -/

/-- With AUTO = 0 the selected domain is SELECT (R172): the servo takes its offset, or holds over without one. -/
def Block.ptpPolicy (b : Block) : Block :=
  let cur := b.get F.PTP_STATUS_SOURCE
  let d := b.get F.PTP_CTRL_SELECT
  if b.bit F.PTP_CTRL_AUTO ∨ 2 ≤ cur ∨ cur = d then b
  else
    match b.offsetOf d with
    | some o => (b.selectSource d).servo o
    | none => (b.selectSource d).allLost

/-- A write of FLT_CMD. -/
def fltCmd (v : Nat) (b : Block) : Block := if F.FLT_CMD_OP.of v = 1 then fltClear v b else fltExport v b

/-- The commands that writes below block 0x10 give; none for a register without one. -/
def Block.commandLow (b : Block) (p : Path) (a : Nat) (v : Word) (x : Ext) : Option Block :=
  let w := v.toNat
  if a = R.SYS_RESET_CMD then some (resetCmd w b)
  else if a = R.SYS_WDT_CTRL then some (wdtCtrl w b)
  else if a = R.SYS_WDT_KICK then some (wdtKick w b)
  else if a = R.HIF_RX_SEL then some (rxSel p w b)
  else if a = R.HIF_RX_POP then some (rxPop p w b)
  else if a = R.HIF_TX_DATA then some (txData p v b)
  else if a = R.HIF_TX_CMD then some (txCmd p w b)
  else if a = R.CFG_COMMIT_CMD then some (commitCmd p w b)
  else if a = R.CFG_PR_CMD then some (prCmd w x.sigOk b)
  else if a = R.PWR_CMD then some (pwrTransfer w b)
  else if a = R.CAL_CMD then some (calCmd w b)
  else if a = R.PM_REQ then some (pmReqWord w b)
  else if a = R.UPD_CMD then some (updCmd p w x.sigOk x.root b)
  else if a = R.UPD_BLK_DATA then some (updBlkData p v b)
  else if a = R.UPD_BLK_SUBMIT then some (updBlkSubmit p w x.sigOk x.root b)
  else if a = R.BST_CMD then some (bstCmd w x.clean b)
  else ((List.range 8).find? (fun n => a == R.HIF_DMAn_CMD n)).map (fun n => dmaCmd n w b)

/-- The commands that writes from block 0x10 up give. -/
def Block.commandHigh (b : Block) (a : Nat) (v : Word) (x : Ext) : Option Block :=
  let w := v.toNat
  if a = R.ETHn_CTRL 0 then some (ethCtrl 0 v b)
  else if a = R.ETHn_CTRL 1 then some (ethCtrl 1 v b)
  else if a = R.ING_MON_CTRL then some (monitorEnable v b)
  else if a = R.LNKn_CTRL 0 then some (linkPortEnable 0 w b)
  else if a = R.LNKn_CTRL 1 then some (linkPortEnable 1 w b)
  else if a = R.LNK_CMD then some (lnkCmdHandover w x.synced b)
  else if a = R.SRD_CMD then some (srdRetrain w b)
  else if a = R.COR_LOAD_CMD then some (corLoadCmd w b)
  else if a = R.STR_CMD then some (strCmd w b)
  else if a = R.FLT_CMD then some (fltCmd w b)
  else if a = R.FLT_RD_SEQ then some (fltRdSeq w b)
  else ((List.range 16).find? (fun k => a == R.SRDk_PAT_CTRL k)).map (fun k => patCtrl k w b)

/-- Is a write of a RW register ignored by its field table: out of range, or not now? -/
def Block.ignores (b : Block) (a v : Nat) : Bool :=
  let between (lo hi : Nat) : Bool := decide (lo ≤ a) && decide (a ≤ hi)
  let dma := (List.range 8).any (fun n => b.dmaBusy n && between (R.HIF_DMAn_SRC_NODE n) (R.HIF_DMAn_LEN n))
  let partial' := decide (1 ≤ b.prState) && decide (b.prState ≤ 3)
    && (between R.CFG_PR_SRC_LO R.CFG_PR_LEN || between R.CFG_PR_TARGET_LO R.CFG_PR_TARGET_HI)
  let frame := (a == R.ETHn_MAX_FRAME 0 || a == R.ETHn_MAX_FRAME 1) && (decide (v % 2 ^ 14 < 1518) || decide (9216 < v % 2 ^ 14))
  let mon := b.bit F.ING_MON_CTRL_EN && (a == R.ING_MON_PORT || between (R.ING_MON_GRP_Aw 0) (R.ING_MON_GRP_Bw 3))
  let tbl := (a == R.CMP_TBL_BASE_LO && (b.role != 0 || v % 0x40000 != 0)) || (a == R.CMP_TBL_BASE_HI && b.role != 0)
  let load := b.get F.COR_LOAD_STATUS_STATE == 1 && between R.COR_LOAD_SRC_LO R.COR_LOAD_LEN
  let upd := between R.UPD_STAGE_BASE_LO R.UPD_STAGE_BASE_HI && b.updState != updIdle && b.updState != updRefused
  dma || partial' || frame || mon || tbl || load || upd

/-- The pool registers take a value only while no ring is populated and the pool lies well (R102). -/
def Block.poolWrite (b c : Block) : Block :=
  if b.get F.HIF_RING_STATUS_POPULATED = 0 ∧ c.inDram c.ringPool ∧ c.ringPool.clearOf [ringTable] then c else b

/-- The value that a field table lets a RW register take: a field out of range keeps its old value, and a MAC address is
kept as its difference from the fused one (R146). -/
def Block.writeValue (b : Block) (a v old : Nat) : Nat :=
  if a = R.HIF_RING_CTRL ∧ F.HIF_RING_CTRL_DEPTH.of v = 3 then F.HIF_RING_CTRL_DEPTH.into v (F.HIF_RING_CTRL_DEPTH.of old)
  else if a = R.PTP_REFCLK_MON then
    let g := F.PTP_REFCLK_MON_GLITCH_PS.of v
    if g < 200 ∨ 5000 < g then F.PTP_REFCLK_MON_GLITCH_PS.into v (F.PTP_REFCLK_MON_GLITCH_PS.of old) else v
  else if a = R.ETHn_MAC_LO 0 ∨ a = R.ETHn_MAC_LO 1 then Nat.xor v (fusedMac b.fuses (a / 0x10000 % 2) % 2 ^ 32)
  else if a = R.ETHn_MAC_HI 0 ∨ a = R.ETHn_MAC_HI 1 then
    Nat.xor (v % 2 ^ 16) (fusedMac b.fuses (a / 0x10000 % 2) / 2 ^ 32 % 2 ^ 16)
  else v

/-- A write by access type (R11): RW and RWS bits take the value, W1C bits are cleared by a 1, the rest keeps. -/
def writeBits (r : Row) (old v : Word) : Word :=
  let wr := BitVec.ofNat 32 r.wr
  ((old &&& ~~~wr) ||| (v &&& wr)) &&& ~~~(v &&& BitVec.ofNat 32 r.w1c)

/-- A write of a register that gives no command. -/
def Block.store (b : Block) (p : Path) (r : Row) (a : Nat) (v : Word) : Block :=
  let k := keyOf p r a
  let old := b.word k
  if b.ignores a v.toNat then b
  else
    let c := b.setWord k (writeBits r old (BitVec.ofNat 32 (b.writeValue a v.toNat old.toNat)))
    if R.HIF_RING_POOL_LO ≤ a ∧ a ≤ R.HIF_RING_POOL_SIZE then b.poolWrite c
    else if a = R.PTP_CTRL then c.ptpPolicy
    else if a = R.ETHn_EEE 0 ∨ a = R.ETHn_EEE 1 then c.eeeSync (a / 0x10000 % 2)
    else if a = R.PM_CTRL then c.when c.asleep (·.auxSync)
    else c

/-- A write of `size` bytes at `a` through path `p` (R10 to R12, R14, R35, R441). -/
def Block.writeReg (b : Block) (p : Path) (a size : Nat) (v : Word) (x : Ext) : Block :=
  match accessRow a size with
  | none => b.raise E.HIF_ADDR
  | some r =>
    if b.gated (baseOf a) then b.gatedAccess
    else
      let b := if isLow a then b.unlatch p (a + 4) else if isHigh a then b.unlatch p a else b
      if baseOf a ≠ a then b else
      match (if a < 0x100000 then b.commandLow p a v x else b.commandHigh a v x) with
      | some b => b
      | none => b.store p r a v

/-- REG_WRITE. -/
def execRegWrite (p : Path) (addr size : Nat) (v : Word) (x : Ext) (s : State) : Host.Outcome State Fault Refusal :=
  s.done (s.blk.writeReg p addr size v x)
/-- RC_READ: the read of an RC register. -/
def execRcRead (p : Path) (addr size : Nat) (s : State) : Host.Outcome State Fault Refusal :=
  s.done (regRead p addr size s.blk)
/-- PAIR_LOW_READ: the read of the low register of a pair. -/
def execPairLowRead (p : Path) (addr size : Nat) (s : State) : Host.Outcome State Fault Refusal :=
  s.done (regRead p addr size s.blk)
/-- HIF_RX_DATA: the read of HIF_RX_DATA. -/
def execHifRxData (p : Path) (s : State) : Host.Outcome State Fault Refusal := s.done (regRead p R.HIF_RX_DATA 4 s.blk)
/-- WARM_RESET_REQUEST: a write of SYS_RESET_CMD. -/
def execWarmResetRequest (_p : Path) (v : Word) (s : State) : Host.Outcome State Fault Refusal :=
  s.done (s.blk.writing R.SYS_RESET_CMD (resetCmd v.toNat))
/-- WDT_ENABLE: a write of SYS_WDT_CTRL. -/
def execWdtEnable (_p : Path) (v : Word) (s : State) : Host.Outcome State Fault Refusal :=
  s.done (s.blk.writing R.SYS_WDT_CTRL (wdtCtrl v.toNat))
/-- WDT_KICK: a write of SYS_WDT_KICK. -/
def execWdtKick (_p : Path) (v : Word) (s : State) : Host.Outcome State Fault Refusal :=
  s.done (s.blk.writing R.SYS_WDT_KICK (wdtKick v.toNat))

end Sys2Proof.Machine
end

