-- ==== Sys2Proof/Machine/Access.lean ====
section
/-!
DEFINITION. Register access by I3C and by message: private writes and reads of the I3C path (R75 to R78), the common
command codes (R71 to R73), in-band interrupts (R100), and REG_ACCESS (R84, R85).
-/

namespace Sys2Proof.Machine

/-! ### The I3C target (R71 to R77) -/

/-- The address the target answers: the dynamic one if assigned, else the static one (R73). -/
def Block.i3cAddr (b : Block) : Nat :=
  if b.bit F.HIF_I3C_STATUS_DA_VALID then b.get F.HIF_I3C_STATUS_DA else 0x4C + b.pins.straps % 4

/-- The words of a private write's data, up to the 16th; bytes short of a word are left out (R76). -/
def wholeWords : Nat → List Byte → List Word
  | 0, _ => []
  | k + 1, b0 :: b1 :: b2 :: b3 :: r => BitVec.ofNat 32 (leNat [b0, b1, b2, b3]) :: wholeWords k r
  | _, _ => []

/-- The data words of a WRITE or WRITE_FIXED in order (R75). -/
def Block.writeWords (b : Block) (addr step : Nat) (x : Ext) : List Word → Block
  | [] => b
  | w :: r => (b.writeReg .i3c addr 4 w x).writeWords ((addr + step) % 2 ^ 32) step x r

/-- The command bytes of R75. -/
def i3cCommands : List Nat := [0x01, 0x02, 0x03, 0x04]

/-- WRITE and WRITE_FIXED after the command byte (R75, R76). -/
def Block.i3cData (b : Block) (step : Nat) (bytes : List Byte) (x : Ext) : Block :=
  let data := bytes.drop 4
  let bad := decide (bytes.length < 8) || data.length % 4 != 0 || decide (64 < data.length)
  let b := if bytes.length < 4 then b else b.writeWords (leNat (bytes.take 4)) step x (wholeWords 16 data)
  b.when bad (·.raise E.HIF_FRAME)

/-- SET_READ and SET_READ_FIXED after the command byte (R75, R76). -/
def Block.i3cSetRead (b : Block) (fixed : Bool) (bytes : List Byte) : Block :=
  let b := if bytes.length < 4 then b
    else { b with i3c.readAddr := leNat (bytes.take 4), i3c.readFixed := fixed }
  b.when (bytes.length != 4) (·.raise E.HIF_FRAME)

/-- A private write to `addr`, all its bytes in `bytes`, as the row of command byte `cmd` (R75 to R77). Without bytes it is
ignored; `busy` tells that an earlier access of the path has not completed. -/
def i3cWrite (cmd addr : Nat) (bytes : List Byte) (busy : Bool) (x : Ext) (b : Block) : Block :=
  if addr ≠ b.i3cAddr then b
  else if busy then b.emit .i3cNack
  else
    match bytes with
    | [] => b
    | c :: r =>
      if !i3cCommands.contains c.toNat then b.raise E.HIF_FRAME
      else if c.toNat ≠ cmd then b
      else if cmd = 0x01 then b.i3cData 4 r x
      else if cmd = 0x03 then b.i3cData 0 r x
      else b.i3cSetRead (cmd == 0x04) r

/-- The words of a private read: `ready` tells for each word asked for whether it is ready in time. Without a dynamic
address the module cannot end the read and returns 0xFFFF_FFFF (R77). -/
def Block.readWords (b : Block) (i2c : Bool) : List Bool → List Word × Block
  | [] => ([], b)
  | ok :: r =>
    if !ok && !i2c then ([], b)
    else
      let a := b.i3c.readAddr
      let (v, b) := if ok then b.readReg .i3c a 4 else (0xFFFFFFFF, b.raise E.HIF_UNDERRUN)
      let b := if b.i3c.readFixed then b else { b with i3c.readAddr := (a + 4) % 2 ^ 32 }
      let (l, b) := b.readWords i2c r
      (v :: l, b)

/-- A private read from `addr` (R75, R77): in I3C the maximum read length ends it (R72). -/
def i3cRead (addr : Nat) (ready : List Bool) (busy : Bool) (b : Block) : Block :=
  if addr ≠ b.i3cAddr then b
  else if busy || !ready.headD false then b.emit .i3cNack
  else
    let i2c := !b.bit F.HIF_I3C_STATUS_DA_VALID
    let (l, b) := b.readWords i2c (if i2c then ready else ready.take (b.i3c.mrl / 4))
    b.emit (.i3cWords l)

/-- A dynamic address is assigned or changed. -/
def Block.assign (b : Block) (da : Nat) : Block := (b.set F.HIF_I3C_STATUS_DA da).setBit F.HIF_I3C_STATUS_DA_VALID true

/-- Is the target addressed by a direct CCC to `addr`? Only with its dynamic address. -/
def Block.ccc (b : Block) (addr : Nat) : Bool :=
  b.bit F.HIF_I3C_STATUS_DA_VALID && b.get F.HIF_I3C_STATUS_DA == addr

/-- Is the target addressed by a CCC that is direct or broadcast? -/
def Block.cccAny (b : Block) (target : Option Nat) : Bool := match target with | none => true | some a => b.ccc a

/-- A direct CCC that reads: the bytes go out. -/
def Block.cccGet (b : Block) (addr : Nat) (bytes : List Byte) : Block :=
  if b.ccc addr then b.emit (.i3cBytes bytes) else b

/-- ENTDAA: an unassigned target that wins the arbitration takes the address. -/
def entdaa (won : Bool) (da : Nat) (b : Block) : Block :=
  if won ∧ !b.bit F.HIF_I3C_STATUS_DA_VALID then b.assign da else b

/-- SETDASA to the static address of an unassigned target. -/
def setdasa (addr da : Nat) (b : Block) : Block :=
  if !b.bit F.HIF_I3C_STATUS_DA_VALID ∧ addr = b.i3cAddr then b.assign da else b

/-- SETNEWDA. -/
def setnewda (addr da : Nat) (b : Block) : Block := if b.ccc addr then b.assign da else b

/-- RSTDAA: the target answers its static address again (R73). -/
def rstdaa (b : Block) : Block := (b.set F.HIF_I3C_STATUS_DA 0).setBit F.HIF_I3C_STATUS_DA_VALID false

/-- ENEC and DISEC: bit 0 of the events byte is the interrupt request. -/
def ibiEvents (target : Option Nat) (events : Byte) (on : Bool) (b : Block) : Block :=
  if b.cccAny target ∧ events.toNat % 2 = 1 then b.setBit F.HIF_I3C_STATUS_IBI_ENABLED on else b

/-- SETMWL: not below 8 (R72). -/
def setmwl (target : Option Nat) (v : Nat) (b : Block) : Block :=
  if b.cccAny target ∧ 8 ≤ v % 2 ^ 16 then { b with i3c.mwl := v % 2 ^ 16 } else b

/-- SETMRL. -/
def setmrl (target : Option Nat) (v : Nat) (b : Block) : Block :=
  if b.cccAny target then { b with i3c.mrl := v % 2 ^ 16 } else b

/-- The provisional ID (R72). -/
def Block.pid (b : Block) : Nat :=
  0x365C * 2 ^ 32 + 0x9624 * 2 ^ 16 + b.pins.straps % 4 * 2 ^ 12 + b.fuses.serial % 2 ^ 12

/-- A direct CCC whose two bytes the spec does not state: free bytes. -/
def Block.cccFree (b : Block) (addr : Nat) : Block :=
  let (k, b) := b.fresh
  b.cccGet addr (leBytes 2 (Config.freeValue k))

/-- IBI_RAISE (R100): at bus-free a pending interrupt is raised; NACKed, it stays pending. -/
def ibiRaise (accepted : Bool) (b : Block) : Block :=
  if b.i3c.ibiPending ∧ b.ibiAllowed then
    if accepted then { b with i3c.ibiPending := false }.emit (.ibi (0x00 :: leBytes 8 b.irqPend)) else b
  else b

/-- I3C_WRITE. -/
def execI3cWrite (addr : Nat) (bytes : List Byte) (busy : Bool) (x : Ext) (s : State) : Host.Outcome State Fault Refusal :=
  s.done (i3cWrite 0x01 addr bytes busy x s.blk)
/-- I3C_WRITE_FIXED. -/
def execI3cWriteFixed (addr : Nat) (bytes : List Byte) (busy : Bool) (x : Ext) (s : State) :
    Host.Outcome State Fault Refusal := s.done (i3cWrite 0x03 addr bytes busy x s.blk)
/-- I3C_SET_READ. -/
def execI3cSetRead (addr : Nat) (bytes : List Byte) (busy : Bool) (x : Ext) (s : State) :
    Host.Outcome State Fault Refusal := s.done (i3cWrite 0x02 addr bytes busy x s.blk)
/-- I3C_SET_READ_FIXED. -/
def execI3cSetReadFixed (addr : Nat) (bytes : List Byte) (busy : Bool) (x : Ext) (s : State) :
    Host.Outcome State Fault Refusal := s.done (i3cWrite 0x04 addr bytes busy x s.blk)
/-- I3C_PRIVATE_READ. -/
def execI3cPrivateRead (addr : Nat) (ready : List Bool) (busy : Bool) (s : State) : Host.Outcome State Fault Refusal :=
  s.done (i3cRead addr ready busy s.blk)
/-- ENTDAA. -/
def execEntdaa (won : Bool) (da : Nat) (s : State) : Host.Outcome State Fault Refusal := s.done (entdaa won da s.blk)
/-- SETDASA. -/
def execSetdasa (addr da : Nat) (s : State) : Host.Outcome State Fault Refusal := s.done (setdasa addr da s.blk)
/-- SETNEWDA. -/
def execSetnewda (addr da : Nat) (s : State) : Host.Outcome State Fault Refusal := s.done (setnewda addr da s.blk)
/-- RSTDAA. -/
def execRstdaa (s : State) : Host.Outcome State Fault Refusal := s.done (rstdaa s.blk)
/-- ENEC. -/
def execEnec (target : Option Nat) (events : Byte) (s : State) : Host.Outcome State Fault Refusal :=
  s.done (ibiEvents target events true s.blk)
/-- DISEC. -/
def execDisec (target : Option Nat) (events : Byte) (s : State) : Host.Outcome State Fault Refusal :=
  s.done (ibiEvents target events false s.blk)
/-- SETMWL. -/
def execSetmwl (target : Option Nat) (v : Nat) (s : State) : Host.Outcome State Fault Refusal :=
  s.done (setmwl target v s.blk)
/-- SETMRL. -/
def execSetmrl (target : Option Nat) (v : Nat) (s : State) : Host.Outcome State Fault Refusal :=
  s.done (setmrl target v s.blk)
/-- GETMWL: most significant byte first (PRESUMED, I3C Basic). -/
def execGetmwl (addr : Nat) (s : State) : Host.Outcome State Fault Refusal :=
  s.done (s.blk.cccGet addr (leBytes 2 s.blk.i3c.mwl).reverse)
/-- GETMRL: most significant byte first, then the size of the IBI payload (PRESUMED, I3C Basic). -/
def execGetmrl (addr : Nat) (s : State) : Host.Outcome State Fault Refusal :=
  s.done (s.blk.cccGet addr ((leBytes 2 s.blk.i3c.mrl).reverse ++ [9]))
/-- GETPID: most significant byte first (PRESUMED, I3C Basic). -/
def execGetpid (addr : Nat) (s : State) : Host.Outcome State Fault Refusal :=
  s.done (s.blk.cccGet addr (leBytes 6 s.blk.pid).reverse)
/-- GETBCR. -/
def execGetbcr (addr : Nat) (s : State) : Host.Outcome State Fault Refusal := s.done (s.blk.cccGet addr [0x26])
/-- GETDCR. -/
def execGetdcr (addr : Nat) (s : State) : Host.Outcome State Fault Refusal := s.done (s.blk.cccGet addr [0x00])
/-- GETSTATUS: two free bytes. -/
def execGetstatus (addr : Nat) (s : State) : Host.Outcome State Fault Refusal := s.done (s.blk.cccFree addr)
/-- GETMXDS: two free bytes. -/
def execGetmxds (addr : Nat) (s : State) : Host.Outcome State Fault Refusal := s.done (s.blk.cccFree addr)
/-- ENTHDR0. -/
def execEnthdr0 (s : State) : Host.Outcome State Fault Refusal := s.done (s.blk.setBit F.HIF_I3C_STATUS_HDR true)
/-- HDR_EXIT. -/
def execHdrExit (s : State) : Host.Outcome State Fault Refusal := s.done (s.blk.setBit F.HIF_I3C_STATUS_HDR false)
/-- UNSUPPORTED_CCC: a direct one to the module is NACKed, a broadcast one ignored (PRESUMED, I3C Basic). -/
def execUnsupportedCcc (target : Option Nat) (s : State) : Host.Outcome State Fault Refusal :=
  s.done (if target.isSome ∧ s.blk.cccAny target then s.blk.emit .i3cNack else s.blk)
/-- IBI_RAISE. -/
def execIbiRaise (accepted : Bool) (s : State) : Host.Outcome State Fault Refusal := s.done (ibiRaise accepted s.blk)

/-! ### REG_ACCESS (R84, R85) -/

/-- The access path that a message arrives by (R70). -/
def pathOf (v : Via) : Path := match v with | .lnk _ => .lysrov | .udp _ _ => .udp | .loopback => .firmware

/-- The operations of a message in order: the answered operations and the indexes that reach no register. -/
def Block.regOps (b : Block) (p : Path) (x : Ext) (i : Nat) : List (Nat × Nat) → List (Nat × Nat) × List Nat × Block
  | [] => ([], [], b)
  | (ao, d) :: r =>
    let a := ao / 4 * 4
    let bad := (accessRow a 4).isNone
    let (v, b) :=
      if ao % 4 = 1 then (d, b.writeReg p a 4 (BitVec.ofNat 32 d) x)
      else
        let (v, b) := b.readReg p a 4
        (v.toNat, b)
    let (l, f, b) := b.regOps p x (i + 1) r
    ((ao, v) :: l, (if bad then i :: f else f), b)

/-- Is the payload malformed (R85)? -/
def regMalformed (m : Msg) (count : Nat) (ops : List (Nat × Nat)) : Bool :=
  decide (count < 1) || decide (27 < count) || ops.length != count || m.length != (if m.auth then 36 else 20) + 8 * count
    || ops.any (fun o => decide (2 ≤ o.1 % 4))

/-- REG_ACCESS arrives. -/
def regAccess (rx : Rx) (x : Ext) (b : Block) : Block :=
  match rx.msg.body with
  | .regAccess count fi _ ops =>
    if rx.msg.response then b
    else
      b.answering rx 0x01 (.regAccess count fi 2 []) (fun b =>
        if regMalformed rx.msg count ops then b.respond rx true (.regAccess count 0xFF 3 ops)
        else
          let (l, bad, b) := b.regOps (pathOf rx.via) x 0 ops
          match bad with
          | [] => b.respond rx false (.regAccess count 0xFF 0 l)
          | i :: _ => b.respond rx true (.regAccess count i 1 l))
  | _ => b.answering rx 0x01 (.regAccess 0 0xFF 2 []) (fun b => b.respond rx true (.regAccess 0 0xFF 3 []))

/-- REG_ACCESS. -/
def execRegAccess (rx : Rx) (x : Ext) (s : State) : Host.Outcome State Fault Refusal := s.done (regAccess rx x s.blk)

end Sys2Proof.Machine
end

