-- ==== Sys2Proof/Machine/Role.lean ====
section
/-!
DEFINITION. The stages of boot (R114), and what takes effect with a topology and with a role, at boot and by a partial
(R7, R108, R115, R116, R130).
-/

namespace Sys2Proof.Machine

/-! ### Stages (R114) -/

def stageRom : Nat := 0
def stageMem : Nat := 1
def stageSlot : Nat := 2
def stageLoad : Nat := 3
def stageRole : Nat := 4
def stageLink : Nat := 5
def timeStage : Nat := 6
def stageHold : Nat := 0xE

/-- Boot enters a stage. -/
def Block.goStage (b : Block) (st : Nat) : Block := { b.set F.CFG_BOOT_STATUS_STAGE st with cfg.stageFrom := b.clk }

/-- What a write that gives no command is given. -/
def blankExt : Ext := ⟨false, none, false, false⟩

/-! ### Topology and role -/

/-- The static endpoints of TOPOLOGY take the place of the earlier ones (R88). -/
def Block.staticEndpoints (b : Block) (t : Topology) : Block :=
  let new : List Endpoint := t.udp.map (fun u => ⟨u.1, u.2.2, true⟩)
  let learned := b.hif.endpoints.filter (fun e => !e.static && !new.any (·.node == e.node))
  { b with hif.endpoints := new ++ learned.drop (new.length + learned.length - 256) }

/-- The slot of a module whose topology takes effect: a head's by its node ID, a tile's as it was, if TOPOLOGY still bears
it out (R235). -/
def Block.judgeSlot (b : Block) (t : Topology) : Block :=
  if b.isHead then b.takeHeadSlot
  else if b.bit F.LNK_CHAIN_STATUS_SLOT_VALID && !slotBorne t b.slotNumber then b.refuseSlot
  else b

/-- TOPOLOGY takes effect: the chain, the static endpoints, the slot and HIF_NODE_ID (R108, R130). -/
def Block.takeTopology (b : Block) (t : Topology) : Block :=
  let b := ({ b with cfg.topo := some t }.staticEndpoints t).judgeSlot t
  b.set F.HIF_NODE_ID_NODE
    (if !t.source1 then t.node else if b.bit F.LNK_CHAIN_STATUS_SLOT_VALID then t.chainBase + b.slotNumber else 0)

/-- A role takes effect (R7, R23, R116, R130, R257): blocks that become idle stop, a role that drives lamps starts dark and
without a previous frame, a head listens. -/
def Block.takeRole (b : Block) (role : Nat) : Block :=
  if b.role = role then b
  else
    let lit := b.drives
    let head := b.isHead
    let first := b.role == 0
    let b := b.set F.SYS_ROLE_ROLE role
    let b := b.when b.isHead (fun b => (b.set (F.LNKn_STATUS_SLAVE 0) 0).set (F.LNKn_STATUS_SLAVE 1) 0)
    let b := if role = roleHead then { b.strAllOff with scn.settle := none } else b
    let b := (b.when b.drives (·.scnRestart)).when (b.drives && !lit) (·.strRole)
    let b := if b.idle 0x18 then b.cmpStop else b
    let b := b.joinSync
    let b :=
      if b.isHead && !head then b.headStart
      else if head && !b.isHead then ((b.setDuty dutyTile).set F.LNK_CHAIN_STATUS_SYNCED 0).setSplit none
      else b
    if first then b.gridBegin
    else if b.isHead != head then (b.gridRole.selectSource sourceNone).allLost
    else b

/-- What follows at once when the active values of every group change. -/
def Block.allInstalled (b : Block) : Block := (b.ptpInstalled.ioInstalled true).ingInstalled.pwrInstalled

end Sys2Proof.Machine
end

