-- ==== Sys2Proof/Machine/Frame.lean ====
section
/-!
DEFINITION. The events of a frame (R27, R182, R186, R253, R288, R315): the START launch, the frame start with every change
bound to its frame, the commit close point, the frond deadline, the end of settling and the guard.
-/

namespace Sys2Proof.Machine

/-! ### What a frame start installs (R27 steps 2 and 3) -/

/-- The armed partial, if it is due at frame `n` (R129). -/
def Block.duePartial (b : Block) (n : Nat) : Option Image :=
  match b.cfg.part.image, b.cfg.part.target with
  | some i, some t => if b.prState = prArmed ∧ t ≤ n then some i else none
  | _, _ => none

/-- The module with the active values that frame `n` will find (R315). -/
def Block.ahead (b : Block) (n : Nat) : Block :=
  let h := b.each (b.dueStages n) (fun s h => h.install s.group s.snap)
  match b.duePartial n with
  | some i => h.partialInstall i
  | none => h

/-- The due stages of frame `n` install (R27 steps 2 and 3, R119, R120, R203, R276). -/
def Block.installDue (b : Block) (n : Nat) : Block :=
  let due := b.dueStages n
  let b := { b with cfg.stages := b.cfg.stages.filter (fun s : Stage => !due.contains s) }
  b.each due (fun s b =>
    let b := (b.install s.group s.snap).stageCount s.group
    let b := (b.set (F.CFG_GRPg_STATUS_LAST_WFN s.group) n).irq F.CFG_IRQ_STATUS_INSTALLED
    let b := b.irqIf (s.group == 1) F.FRM_IRQ_STATUS_MODE_INSTALLED
    match s.txn with | some t => b.txnNote t 3 | none => b)

/-- Engine banks swap (R129). -/
def swapEngines (old : List (Nat × Nat)) (ids : List Nat) : List (Nat × Nat) :=
  old.filter (fun e => !ids.contains e.1)
    ++ ids.map (fun e => (e, match old.find? (·.1 == e) with | some x => 1 - x.2 | none => 0))

/-- The armed partial installs as one group (R129, R130). -/
def Block.installPartial (b : Block) (i : Image) : Block :=
  let b := { b with cfg := { b.cfg with
    engines := swapEngines b.cfg.engines (imageEngines i), part := { b.cfg.part with image := none, target := none } } }
  let b := b.when ((imageTables i).any (fun t => t.1 / 256 == 0x18)) (fun b =>
    { b with cmp.swaps := b.cmp.swaps + 1 }.set F.CMP_TBL_BANK_BANK (1 - b.get F.CMP_TBL_BANK_BANK))
  let b := b.partialInstall i
  let b := b.each ((imageEntries i).filter (fun e => !isRws e.1)) (fun e b => b.writeReg .firmware e.1 4 e.2 blankExt)
  let b := match imageTopology i with | some (t, _) => b.takeTopology t | none => b
  let b := match imageRole i with | some r => b.takeRole r | none => b
  let b := b.count F.CFG_PR_APPLIED 1
  (b.set F.CFG_PR_STATUS_STATE prIdle).irq F.CFG_IRQ_STATUS_PR_DONE

/-- The groups that frame `n` installs. -/
def Block.dueGroups (b : Block) (n : Nat) : List Nat :=
  (b.dueStages n).map (·.group) ++ (match b.duePartial n with | some i => (partialKeys i).map groupOf | none => [])

/-- What follows at once from new active values of some groups. -/
def Block.groupsInstalled (b : Block) (gs : List Nat) : Block :=
  let b := b.when (gs.contains 0x02) (·.ptpInstalled)
  let b := b.when (gs.contains 0x01 || gs.contains 0x03) (·.ioInstalled (gs.contains 0x03))
  let b := b.when (gs.contains 0x08) (·.pwrInstalled)
  b.when (gs.any (fun g => decide (0x10 ≤ g) && decide (g ≤ 0x1F))) (·.ingInstalled)

/-! ### The header (R27 step 4, R252, R253) -/

/-- The header that frame `n` takes: for a module that drives lamps, the one accepted by its START launch (R315). -/
def Block.headerFor (b : Block) (n : Nat) : Option FrameHeader :=
  match b.str.launch with
  | some l => if b.drives && l.wfn == n then l.header else b.lnk.headers.find? (·.wfn == n)
  | none => b.lnk.headers.find? (·.wfn == n)

/-- Mask, epoch and scale are latched from the header of frame `n`; without one a module that drives lamps has missed it. -/
def Block.latchHeader (b : Block) (n : Nat) : Block :=
  let b := match b.headerFor n with
    | some h =>
      let b := b.setPair F.LNK_MASK_LATCHED_LO_MASK F.LNK_MASK_LATCHED_HI_MASK h.slotMask
      ({ b with lnk := { b.lnk with hdrMissed := false, latched := h.epoch } }.set F.LNK_SCALE_LATCHED_SCALE h.wallScale).txnLatch h.txns
    | none =>
      if b.drives then { (b.countSat (F.LNK_CNT_Ei 3) 1).raise E.LNK_HDR_MISSED with lnk.hdrMissed := true } else b
  { b with lnk := { b.lnk with
      headers := b.lnk.headers.filter (fun h : FrameHeader => decide (n < h.wfn))
      holding := match b.str.launch with | some l => b.drives && l.wfn == n && l.hold | none => false } }

/-- Does stage TIME end at frame `n` (R114, R257)? -/
def Block.runsFrom (b : Block) (n : Nat) : Bool :=
  b.stage == timeStage
    && (if b.drives then (match b.str.launch with | some l => l.wfn == n && l.first | none => false)
        else b.lnk.headers.any (fun h => h.wfn == n && h.epoch == b.epoch))

/-! ### The frame start (R27) -/

/-- The active head at its frame start: a healed split is cleared and told, and HEAD_STATE leaves (R258, R266, R271). -/
def Block.headFrame (b : Block) (n : Nat) : Block :=
  if b.duty ≠ dutyActive then b
  else
    let was := b.splitSlot
    let b := (b.when (b.bit F.LNK_CHAIN_CTRL_SPLIT_EN) (fun b => b.setSplit (b.splitOf b.lnk.broken))).sendHeadState (n % 64)
    b.when (b.splitSlot != was) (·.sendAlive)

/-- What the blocks do at the start of frame `n`, on the state after the installs: `gs` are the groups that installed,
`resized` tells a change of the slot's size. -/
def Block.frameActs (b : Block) (n : Nat) (own fs : Int) (gs : List Nat) (resized : Bool) : Block :=
  let b := b.thmFrame.pmFrame n
  let b := b.pwrStart n own (b.get F.LNK_SCALE_LATCHED_SCALE)
  let b := (b.scnStart n resized).strStart gs
  let b := (b.rplCapture (n + 1) fs (gs.contains 0xB0)).cmpCapture (n + 1)
  ((b.calFrame.digestStart n).headFrame n).updFrame n

/-- FS(0), when a role takes effect or time has stood (R187, R445): no header belongs to it. -/
def Block.frameZero (b : Block) : Block := b.frameActs 0 b.frm.cur.own b.frm.cur.fs [] false

/-- The frame start of the frame that is fixed. -/
def Block.startFrame (b : Block) (p : Plan) : Block :=
  let n := p.wfn
  let size := (b.slotW, b.slotH)
  let gs := b.dueGroups n
  let pr := b.duePartial n
  let run := b.runsFrom n
  let b := (b.gridStart p).installDue n
  let b := { b with lnk.table := b.lnk.table.map (fun e : TxnEntry =>
    if e.state = 1 ∧ e.target = n % 2 ^ 32 then { e with state := 2 } else e) }
  let b := match pr with | some i => b.installPartial i | none => b
  let b := (b.groupsInstalled gs).strCommands
  let b := b.latchHeader n
  let b := b.each (List.range 64) (fun s b => b.set (F.LNK_SLOTs_INFO_SEEN s) 0)
  let b := b.when run (fun b => { b.goStage stageRun with upd.runFrom := some b.clk })
  b.frameActs n p.own p.fs gs (size != (b.slotW, b.slotH))

/-- FRAME_START (R27): FS_own of the frame that is fixed. In sleep the grid goes on where its clock runs (R445). -/
def frameStart (b : Block) : Block :=
  match b.frm.next with
  | none => b
  | some p =>
    if b.role = 0 ∨ b.pm.stcStopped then b
    else
      let b := b.untilStc (nsOf p.own)
      if b.pm.gate then b.gridStart p else b.startFrame p

/-! ### The START launch (R315, R316, R320) -/

/-- The largest of the outbound delays of the strings in RUN, in 0.25 ns units. -/
def Block.longestOut (b : Block) : Nat :=
  ((strings.filter (fun s => b.strState s == strRun)).map (fun s => b.tOut s)).foldl max 0

/-- Does the START of frame `n` hold (R253, R196, R395)? -/
def Block.holds (b : Block) (n : Nat) (h : Option FrameHeader) : Bool :=
  h.isNone || b.frm.mismatch.contains n || b.bit F.PWR_STATUS_SWITCHING

/-- Is the module's slot left out by the mask that frame takes (R253)? -/
def Block.masked (b : Block) (h : Option FrameHeader) : Bool :=
  let mask := match h with
    | some h => h.slotMask
    | none => b.pair F.LNK_MASK_LATCHED_LO_MASK F.LNK_MASK_LATCHED_HI_MASK
  b.bit F.LNK_CHAIN_STATUS_SLOT_VALID && !bitOf mask b.slotNumber

/-- The START of frame `n` as STR forms it (R314, R315, R320). -/
def Block.launchOf (b : Block) (n : Nat) : Launch :=
  let h := b.lnk.headers.find? (·.wfn == n)
  let hold := b.holds n h
  let first := b.stage == timeStage && (match h with | some x => x.epoch == b.epoch | none => false)
  let segs := (b.ahead n).segments
  let w := match h with | some x => x.wallScale | none => b.get F.LNK_SCALE_LATCHED_SCALE
  let m := max (skipFor segs w) (skipFor segs (b.get F.THM_STATUS_T_SCALE))
  { wfn := n, header := h, hold := hold, first := first
    dark := !(b.stage == stageRun || first) || b.masked h || b.pmDark || b.updDark n || !b.strOn
    skip := if hold then (match b.str.launch with | some l => l.skip | none => m) else m }

/-- START_LAUNCH (R315, R437): STR launches START of the frame that is fixed, and PM binds a pending request to it. `edge`
is a cell edge and `cell` the cell length, as STR measures them in STC. -/
def startLaunch (edge cell : Nat) (b : Block) : Block :=
  match b.frm.next with
  | none => b
  | some p =>
    if b.role = 0 ∨ b.pm.gate ∨ b.frm.launched = some p.wfn then b
    else
      let n := p.wfn
      let b := b.untilStc (nsOf (launchTime p.own b.longestOut))
      let b := { b.pmLaunch n with frm.launched := some n }
      if !b.drives then b
      else
        let l := b.launchOf n
        let a := b.ahead n
        let w := match l.header with | some x => x.wallScale | none => b.get F.LNK_SCALE_LATCHED_SCALE
        let b := { b with str.throttle := decide (skipFor a.segments w < skipFor a.segments (b.get F.THM_STATUS_T_SCALE)) }
        if b.strOn then b.strLaunch l (a.act F.FRM_SEGMENTS_S_CODE) a.emitLen p.own edge cell
        else { b with str.launch := some l }

/-! ### Close point, deadline, settling, guard (R121, R186, R288) -/

/-- COMMIT_CLOSE_POINT (R121, R186) of the frame that is fixed; a tile's close point is its frond deadline. -/
def commitClosePoint (b : Block) : Block :=
  match b.eventFrame (if b.frm.next.any (fun p => decide (p.wfn ≤ b.cfg.closed)) then b.frm.next.map (·.wfn) else none) with
  | none => b
  | some p =>
    if !b.isHead || b.pm.gate || decide (p.wfn ≤ b.cfg.closed) then b
    else { b.untilStc (nsOf p.close) with cfg.closed := p.wfn }

/-- FROND_DEADLINE (R190, R287, R288): a module without a plan runs on, a tile's commits close, every open band closes. A
module whose SCN does not work sends its Spore here (R255). -/
def frondDeadline (b : Block) : Block :=
  if b.role = 0 ∨ b.pm.stcStopped then b
  else
    let b := b.followRunOn
    match b.frm.next with
    | none => b
    | some p =>
      if b.pm.gate ∨ b.scn.last = some p.wfn then b
      else
        let b := b.untilStc (nsOf p.deadline)
        let b := b.when (b.role == roleTile) (fun b => { b with cfg.closed := max b.cfg.closed p.wfn })
        let b := b.scnDeadline p.wfn
        if b.scnOn then b else b.sendSpore (b.spore p.wfn 0 0)

/-- Will PM make the frame dark (R439, R299)? -/
def Block.darkAhead (b : Block) (n : Nat) : Bool :=
  let p := b.get F.PM_STATUS_PENDING
  let due := p != 7 && (b.pm.bound.isSome || decide (b.pm.reqWfn.getD 0 ≤ n))
  if b.pmState = pmDim then !(due && p == pmActive) else b.pmState == pmEntering || due && p != pmActive

/-- SETTLING_END (R288, R299, R255): the result is published, the Spore leaves, and LOAD starts. -/
def settlingEnd (after : Nat) (b : Block) : Block :=
  match b.scn.settle with
  | none => b
  | some r =>
    let b := (b.untilStc (min (b.stc + after) r.limit)).scnSettled r
    let b := b.sendSpore (b.spore r.wfn (if b.darkAhead r.wfn then 0 else r.ePred) r.mask)
    b.strSettled r.wfn r.kee

/-- GUARD_START (R186, R417, R427). -/
def guardStart (b : Block) : Block :=
  if b.role = 0 ∨ b.pm.gate ∨ b.frm.guarded = some b.frm.cur.wfn then b
  else { b.untilStc (nsOf b.frm.cur.guard) with frm.guarded := some b.frm.cur.wfn }.thmGuard.calGuard

/-! ### Meanings -/

/-- FRAME_START. -/
def execFrameStart (s : State) : Host.Outcome State Fault Refusal := s.done (frameStart s.blk)
/-- COMMIT_CLOSE_POINT. -/
def execCommitClosePoint (s : State) : Host.Outcome State Fault Refusal := s.done (commitClosePoint s.blk)
/-- FROND_DEADLINE. -/
def execFrondDeadline (s : State) : Host.Outcome State Fault Refusal := s.done (frondDeadline s.blk)
/-- SETTLING_END. -/
def execSettlingEnd (after : Nat) (s : State) : Host.Outcome State Fault Refusal := s.done (settlingEnd after s.blk)
/-- GUARD_START. -/
def execGuardStart (s : State) : Host.Outcome State Fault Refusal := s.done (guardStart s.blk)
/-- START_LAUNCH. -/
def execStartLaunch (edge cell : Nat) (s : State) : Host.Outcome State Fault Refusal :=
  s.done (startLaunch edge cell s.blk)

end Sys2Proof.Machine
end

