-- ==== Sys2Proof/Machine/Boot.lean ====
section
/-!
DEFINITION. Boot (R110 to R117): power-on self-test (R475), DRAM training (R354), slots and their checks (R111, R112, R456), the
end of LOAD with the boot commit and the role (R115), and the stage LINK (R114).
-/

namespace Sys2Proof.Machine

/-! ### Stages (R114) -/

/-- The stage ends `after` its begin, at most `bound` (R114, R495). -/
def Block.stageEnd (b : Block) (after bound : Nat) : Block := b.untilClk (b.cfg.stageFrom + min after bound)

/-- Stage HOLD: no slot in effect (R112). -/
def Block.bootHold (b : Block) : Block := { b.set F.CFG_BOOT_STATUS_SLOT 0 with cfg.slotsLeft := [] }.goStage stageHold

/-! ### Self-test and training (R475, R354) -/

/-- POST_COMPLETE (R475, R476): whether the ROM and known-answer tests pass; the first failing location of the fuse read and
the SRAM tests (memory, address, bit, failing words); hard and soft repairs, and instances beyond their spares. -/
def postComplete (kat : Bool) (fault : Option (Nat × Nat × Nat × Nat)) (hard soft beyond after : Nat) (b : Block) : Block :=
  if b.stage ≠ stageRom then b
  else
    let b := b.stageEnd after 30000000
    if !kat then ((b.updTell E.UPD_KAT_FAIL).updGo updLocked).bootHold
    else
      let b := (b.set F.BST_REPAIR_HARD hard).bstRepairs soft beyond
      match fault with
      | some (mem, addr, bit, words) => ((b.bstFound 0 mem addr bit words).raise E.BST_POST).bootHold
      | none => ((b.set F.BST_RESULT_TEST 0).set F.BST_RESULT_RESULT 1).goStage stageMem

/-- The slots that BOOT_SEL has tried, in order (R110). -/
def Block.bootOrder (b : Block) : List Nat :=
  let sel := b.get F.CFG_BOOT_STATUS_BOOT_SEL
  let p := b.bootRec.preferred - 1
  if sel = 0 then [p, 1 - p, 2] else if sel = 1 then [2] else []

/-- A trial failed (R456). -/
def Block.trialFail (b : Block) (s : Nat) : Block := (b.writeRec (fun r => r.fail s)).raise E.UPD_TRIAL_FAIL

/-- Before the preferred slot is tried, a TRIAL slot loses a trial or is marked FAILED (R456). -/
def Block.trialCount (b : Block) : Block :=
  let r := b.bootRec
  let p := r.preferred - 1
  if b.get F.CFG_BOOT_STATUS_BOOT_SEL ≠ 0 ∨ (r.entry p).state ≠ 2 then b
  else if r.trials = 0 then b.trialFail p
  else b.writeRec (fun r => { r with trials := r.trials - 1 })

/-- Stage SLOT begins (R110, R456, R479). With no slot to try the module is in HOLD at once. -/
def Block.slotStage (b : Block) : Block :=
  let b := (b.goStage stageSlot).updShow.trialCount
  let b := { b with cfg.slotsLeft := b.bootOrder }
  let b := b.raiseIf (b.get F.CFG_BOOT_STATUS_BOOT_SEL == 3) E.CFG_BOOTSEL_RSVD
  if b.cfg.slotsLeft.isEmpty then b.bootHold else b

/-- DRAM_TRAINING_COMPLETE (R354): for each channel its attempts, each the sweeps of its four lanes (read, write). -/
def dramTrainingComplete (attempts : List (List (List (Nat × Nat)))) (after : Nat) (b : Block) : Block :=
  if b.stage ≠ stageMem then b
  else
    let b := (b.stageEnd after (if b.fuses.h128 then 120000000 else 40000000)).set F.QDR_STATUS_READY 3
    let (ok, b) := (List.range 4).foldl (fun (x : Bool × Block) c =>
      let (ok, b) := x.2.trainChannel c ((attempts.getD c []).take 3)
      (x.1 && ok, b)) (true, b)
    if ok then b.slotStage
    else { b.raise E.DRM_TRAIN_FAIL with upd.noDram := true }.bootHold

/-! ### Slots (R111, R112) -/

/-- A slot's byte of CFG_BOOT_SLOT_RESULT. -/
def slotResult (s : Nat) : Fld :=
  if s = 0 then F.CFG_BOOT_SLOT_RESULT_A else if s = 1 then F.CFG_BOOT_SLOT_RESULT_B else F.CFG_BOOT_SLOT_RESULT_GOLDEN

/-- The registers whose write acts on a block. -/
def actingRegisters : List Nat :=
  [R.SYS_WDT_CTRL, R.ETHn_CTRL 0, R.ETHn_CTRL 1, R.ING_MON_CTRL, R.LNKn_CTRL 0, R.LNKn_CTRL 1]
    ++ (List.range 16).map R.SRDk_PAT_CTRL

/-- Blocks whose read-only bits show what the failed slot has not brought about: power, links, training, logs, messages and the boot
itself (log entry 67). -/
def standingBlocks : List Nat := [0x00, 0x01, 0x02, 0x03, 0x04, 0x05, 0x06, 0x07, 0x08, 0x13, 0x28, 0x29, 0x30]

/-- The bits of a register that keep their value when a slot fails: sticky and kept bits (R17, R18), and in the standing blocks what
can only be read. -/
def Row.stays (a : Nat) (r : Row) : Nat :=
  let ro := if standingBlocks.contains (a / 0x10000) then Nat.land r.vis (2 ^ 32 - 1 - Nat.lor r.wr (Nat.lor r.w1c r.rc)) else 0
  Nat.lor r.keep ro

/-- Every register returns to its reset value (R112): the acting ones as by a write. -/
def Block.registersReset (b : Block) : Block :=
  let b := b.each actingRegisters (fun a b => b.writeReg .firmware a 4 (keyReset a) blankExt)
  let b := b.each b.regs (fun c b =>
    match rowAt (keyAddr c.1) with
    | none => b
    | some r =>
      let k := BitVec.ofNat 32 (Row.stays (keyAddr c.1) r)
      b.setWord c.1 ((c.2 &&& k) ||| (keyReset c.1 &&& ~~~k)))
  let b := b.each [0, 1] (fun k b => (b.bankInvalid 0x2000 k).bankInvalid 0x2100 k)
  { b with cfg := { b.cfg with engines := [], codes := [] }, latches := [] }

/-- A slot fails with a code (R111, R112, R456): the next one is tried, or none is left. -/
def Block.slotFail (b : Block) (code : Nat) (e : Option Err) : Block :=
  match b.cfg.slotsLeft with
  | [] => b
  | s :: rest =>
    let b := b.registersReset
    let b := match e with | some e => b.raise e | none => b
    let b := b.set (slotResult s) (code % 256)
    let b := if s < 2 ∧ (b.bootRec.entry s).state = 2 then b.trialFail s else b
    if rest.isEmpty then (b.raise E.CFG_BOOT_NONE).bootHold else { b with cfg.slotsLeft := rest }.goStage stageSlot

/-- The bit-stream of the slot being tried. -/
def Block.slotImage (b : Block) : Option Image := b.upd.slots.getD (b.cfg.slotsLeft.headD 0) none

/-- The longest time of a slot's check: 0.1 ms + 5.3 ms per MiB of TOTAL_LEN (R114). -/
def slotBound (i : Option Image) : Nat :=
  match i with
  | some i => 100000 + ceilDiv (5300000 * min i.totalLen (2 ^ 26)) (2 ^ 20)
  | none => 100000

/-- SLOT_CHECK_COMPLETE (R111, R112). -/
def slotCheckComplete (after : Nat) (b : Block) : Block :=
  if b.stage ≠ stageSlot then b
  else
    match b.cfg.slotsLeft with
    | [] => b
    | s :: _ =>
      let i := b.slotImage
      let r := checkFull b.fuses i
      let b := b.stageEnd after (slotBound i)
      match r with
      | some e => b.slotFail e.code (some e)
      | none => ((b.set (slotResult s) 0).settingsLoad s).goStage stageLoad

/-! ### The end of LOAD (R115) -/

/-- The boot commit checks every group whose block the role uses, on the shadow values (R115, R126). -/
def Block.bootChecks (b : Block) (role : Nat) : Option Nat :=
  let h := b.installAll
  (checkedGroups b.fuses role allGroups).findSome? (checkGroup h h none)

/-- The state that LOAD ends with, before its tables: the calibration store and the REGISTERS sections (R115). -/
def Block.loadRegisters (b : Block) (i : Image) (after : Nat) : Block :=
  let b := (b.stageEnd after 80000000).calLoad
  b.each (imageEntries i) (fun e b => b.writeReg .firmware e.1 4 e.2 blankExt)

/-- The boot commit (R115): the image runs, every group's active values are its shadows, TOPOLOGY and the stage ROLE. -/
def Block.bootImage (b : Block) (i : Image) : Block :=
  let slot := b.cfg.slotsLeft.headD 0
  let b := (b.set F.CFG_BOOT_STATUS_SLOT (slot + 1)).setPair F.CFG_BUILD_ID_LO F.CFG_BUILD_ID_HI i.buildId
  let b := { b with cfg := { b.cfg with running := some i, slotsLeft := [] } }.installAll
  let b := (b.goStage stageRole).updShow
  let b := match imageTopology i with | some (t, _) => { b with cfg.topo := some t } | none => b
  b.set F.HIF_NODE_ID_NODE (match imageTopology i with | some (t, _) => if t.source1 then 0 else t.node | none => 0)

/-- What the role and the topology bring about at the boot commit (R7, R115, R116). -/
def Block.bootRole (b : Block) (i : Image) : Block :=
  let b := b.allInstalled.takeRole ((imageRole i).getD roleTile)
  match imageTopology i with
  | some (t, _) => b.takeTopology t
  | none => b

/-- Every ENGINE section is written into bank 0 of its engine, which runs from it (R115). -/
def Block.loadEngines (b : Block) (i : Image) : Block :=
  { b.each (imageCode i) (fun x b => b.writeEngine 0 x) with cfg.engines := (imageEngines i).map (fun e => (e, 0)) }

/-- LOAD_COMPLETE (R115): calibration store, REGISTERS, TABLE and ENGINE sections, the boot commit, the role. -/
def loadComplete (after : Nat) (b : Block) : Block :=
  if b.stage ≠ stageLoad then b
  else
    match b.slotImage with
    | none => b
    | some i =>
      let (bad, b) := (b.loadRegisters i after).loadTables i (fun _ => 0)
      let b := b.loadEngines i
      match bad with
      | some code => b.slotFail code (some E.CFG_SECTION)
      | none =>
        match b.bootChecks ((imageRole i).getD roleTile) with
        | some code => b.slotFail code (cfgErr code)
        | none => ((b.bootImage i).bootRole i).frameZero

/-- LINK_STAGE_ENTRY (R114): Lysrov lanes are trained, and the slot is known where SOURCE = 1; a module that TOPOLOGY
refuses its slot stays in ROLE (R235). Time that is already valid ends LINK at once. -/
def linkStageEntry (b : Block) : Block :=
  let known := match b.cfg.topo with
    | some t => b.bit F.LNK_CHAIN_STATUS_SLOT_VALID || (!t.source1 && [0, 1].all (fun p => (b.lnkPort p).offered.isNone))
    | none => false
  if b.stage == stageRole && (b.trained 2 || b.trained 3) && known then (b.goStage stageLink).stageTime else b

/-- REFCLK_BOOT_TIMEOUT (R113): REFCLK has not met R55 by 5 ms after the reset was released. -/
def refclkBootTimeout (cause : Nat) (b : Block) : Block :=
  if b.clocks.refMet || b.clocks.bootLost || b.bit F.PTP_REFCLK_STATUS_SOURCE then b
  else
    let b := { b with clocks.bootLost := true }.untilClk (b.clocks.resetAt + 5000000)
    let b := { b with clocks.badAt := b.clk }
    ((b.set F.PTP_REFCLK_STATUS_SOURCE 1).set F.PTP_REFCLK_STATUS_CAUSE cause).raise E.PTP_REFCLK_LOSS

/-- POST_COMPLETE. -/
def execPostComplete (kat : Bool) (fault : Option (Nat × Nat × Nat × Nat)) (hard soft beyond after : Nat) (s : State) :
    Host.Outcome State Fault Refusal := s.done (postComplete kat fault hard soft beyond after s.blk)
/-- DRAM_TRAINING_COMPLETE. -/
def execDramTrainingComplete (attempts : List (List (List (Nat × Nat)))) (after : Nat) (s : State) :
    Host.Outcome State Fault Refusal := s.done (dramTrainingComplete attempts after s.blk)
/-- SLOT_CHECK_COMPLETE. -/
def execSlotCheckComplete (after : Nat) (s : State) : Host.Outcome State Fault Refusal :=
  s.done (slotCheckComplete after s.blk)
/-- LOAD_COMPLETE. -/
def execLoadComplete (after : Nat) (s : State) : Host.Outcome State Fault Refusal := s.done (loadComplete after s.blk)
/-- LINK_STAGE_ENTRY. -/
def execLinkStageEntry (s : State) : Host.Outcome State Fault Refusal := s.done (linkStageEntry s.blk)
/-- REFCLK_BOOT_TIMEOUT. -/
def execRefclkBootTimeout (cause : Nat) (s : State) : Host.Outcome State Fault Refusal :=
  s.done (refclkBootTimeout cause s.blk)

end Sys2Proof.Machine
end

