-- ==== Sys2Proof/Machine/Clock.lean ====
section
/-!
DEFINITION. REFCLK: glitches, loss and return (R174 to R176), with the lane PLLs that change source (R337) and the calibration
step that a loss abandons (R420).
-/

namespace Sys2Proof.Machine

/-- The XO multiplexer moves: every lane PLL changes source (R175). -/
def Block.xoMove (b : Block) (internal : Bool) : Block :=
  let b := b.setBit F.PTP_REFCLK_STATUS_SOURCE internal
  b.each [0, 1, 2, 3] (fun p b => lanePllUnlock p true b)

/-- REFCLK fails R174 (R175): 1 stopped, 2 glitches, 3 rate step. It is declared lost, or what it had met so far for its return
counts no more (R176). -/
def refclkLoss (cause : Nat) (b : Block) : Block :=
  if cause < 1 ∨ 3 < cause then b
  else if b.bit F.PTP_REFCLK_STATUS_SOURCE ∨ !b.clocks.refMet then { b with clocks.badAt := b.clk }
  else
    let b := { b with clocks.badAt := b.clk }
    let b := { b.xoMove true with clocks.glitches := [] }.set F.PTP_REFCLK_STATUS_CAUSE cause
    (b.raise E.PTP_REFCLK_LOSS).calAbandon

/-- REFCLK_GLITCH (R174): a period of `ps` picoseconds is counted if it departs from 10 ns by more than GLITCH_PS; the
eighth within a second is a loss. -/
def refclkGlitch (ps : Nat) (b : Block) : Block :=
  let off := max ps 10000 - min ps 10000
  if off ≤ b.get F.PTP_REFCLK_MON_GLITCH_PS then b
  else
    let b := b.countSat F.PTP_REFCLK_GLITCH 1
    let l := b.clk :: b.clocks.glitches.filter (fun t => decide (b.clk ≤ t + 1000000000))
    let b := { b with clocks.glitches := l }
    if 8 ≤ l.length then refclkLoss 2 { b with clocks.glitches := [] } else b

/-- REFCLK_RETURN (R176): REFCLK has met R174 for RETURN_10MS × 10 ms since it last failed. -/
def refclkReturn (b : Block) : Block :=
  if !b.bit F.PTP_REFCLK_STATUS_SOURCE ∨ !b.bit F.PTP_REFCLK_MON_AUTO_RETURN then b
  else
    let b := b.untilClk (b.clocks.badAt + b.get F.PTP_REFCLK_MON_RETURN_10MS * 10000000)
    { b with clocks.refMet := true }.xoMove false

/-- REFCLK_GLITCH. -/
def execRefclkGlitch (ps : Nat) (s : State) : Host.Outcome State Fault Refusal := s.done (refclkGlitch ps s.blk)
/-- REFCLK_LOSS. -/
def execRefclkLoss (cause : Nat) (s : State) : Host.Outcome State Fault Refusal := s.done (refclkLoss cause s.blk)
/-- REFCLK_RETURN. -/
def execRefclkReturn (s : State) : Host.Outcome State Fault Refusal := s.done (refclkReturn s.blk)

end Sys2Proof.Machine
end

