-- ==== Sys2Proof/Machine/Sys.lean ====
section
/-!
DEFINITION. Power-up, cold reset, warm reset and the watchdog (R16 to R19, R52 to R54, R67, R117, R446, R465, R492, R493).
-/

namespace Sys2Proof.Machine

/-! ### What a reset keeps (R17 to R19) -/

/-- Is the update image one that a reset does not discard (R465)? -/
def Block.updKept (b : Block) : Bool :=
  (b.updState == updReady || b.updState == updArmed) && (b.upd.head.map (·.kind)) == some 1

/-- UPD after a reset: what stands in flash, and an image that is kept. -/
def Block.updReset (b : Block) : Upd :=
  let u : Upd := { Upd.reset with recs := b.upd.recs, slots := b.upd.slots, halves := b.upd.halves, keys := b.upd.store, store := b.upd.store }
  if b.updKept then { u with head := b.upd.head, body := b.upd.body, root := b.upd.root, target := b.upd.target, armed := b.upd.armed } else u

/-- The registers of UPD that tell a kept image. -/
def keptUpdRegs : List Nat := [R.UPD_STATUS, R.UPD_TXN, R.UPD_RX_COUNT, R.UPD_IMAGE_ID_LO, R.UPD_IMAGE_ID_HI]

/-- The registers in which PWR shows the feed controllers, which run on through a warm reset (R34): PWR_STATUS and the ten
feed registers. The event counters clear (R17). -/
def feedRegs : List Nat :=
  R.PWR_STATUS :: ([0, 1].map (fun x =>
    [R.PWR_FEEDx_STATUS x, R.PWR_FEEDx_V x, R.PWR_FEEDx_I x, R.PWR_FEEDx_P x, R.PWR_FEEDx_FREQ x])).flatten

/-- Take the values of some registers from the state before the reset. -/
def Block.keepWords (b old : Block) (l : List Nat) : Block := b.each l (fun a b => b.setWord a (old.word a))

/-- The bits of the register file that a warm reset keeps (R17, R18). -/
def Block.keepBits (b old : Block) : Block :=
  b.each old.regs (fun c b =>
    match rowAt (keyAddr c.1) with
    | none => b
    | some r =>
      let k := BitVec.ofNat 32 r.keep
      if r.keep = 0 then b else b.setWord c.1 ((c.2 &&& k) ||| (keyReset c.1 &&& ~~~k)))

/-- FLT after a reset: the log in flash. -/
def Flt.restart (f : Flt) : Flt := { f with queue := [], deferred := [], lost := 0, retried := false, clearWaiting := false, heading := false }

/-- PWR after a warm reset: the feed controllers run on (R34, R399). -/
def Pwr.warm (p : Pwr) : Pwr :=
  { Pwr.reset with
    mode := p.mode, primary := p.primary, moving := p.moving, began := p.began, noRevert := p.noRevert
    readySince := p.readySince, convSince := p.convSince, copy := p.copy, copyAt := p.copyAt, auxOff := p.auxOff, lostAt := p.lostAt }

/-- The module as a cold reset leaves it: flash, fuses and the model's own records stay (R19, R446). -/
def Block.coldReset (b : Block) (logic : LogicPower) (pins : Pins) (cause due : Nat) : Block :=
  let n := { Block.reset with
    fuses := b.fuses, logic := logic, clk := b.clk, freeCount := b.freeCount, out := b.out, pins := pins
    cal := { Cal.reset with copies := b.cal.copies }
    lnk := { Lnk.reset with storedEpoch := b.lnk.storedEpoch }
    flt := b.flt.restart
    upd := b.updReset
    cfg := { Block.reset.cfg with stageFrom := due } }
  let n := (n.when b.updKept (fun n => n.keepWords b keptUpdRegs)).set F.SYS_RESET_CAUSE_CAUSE cause
  n.installKeys []

/-! ### Power-up and RESET_N (R53, R54, R67) -/

/-- The pins of a power-up: J3 high impedance, nothing on but 3V3_HK (R40, R54, R62). -/
def risingPins : Pins := { Block.reset.pins with auxOn := false, railsOn := false, j3On := false }

/-- Logic power goes up (R67 steps 1 to 3), from the state the feed controllers are in: they are powered by their feeds. -/
def Block.powerUp (b : Block) (cause : Nat) : Block := (b.coldReset .rising risingPins cause 0).keepWords b feedRegs

/-- Is this the first feed in range while logic power is off (R67 step 1, R446)? -/
def Block.firstFeed (b : Block) : Bool := b.logic == .off && b.get F.PWR_STATUS_IN_RANGE == 0

/-- A feed's return acts: the first one while logic power is off also starts a power-up (R67, R398, R446). -/
def Block.orPowerUp (b : Block) (first : Bool) : Block := if first then b.powerUp 0 else b

/-- LOGIC_POWER_ON (R67 steps 1 to 3): the first feed comes into range while logic power is off; the other may be out of
range or in over-voltage. -/
def logicPowerOn (feed : Nat) (dc : Bool) (b : Block) : Block :=
  if !b.firstFeed ∨ 2 ≤ feed ∨ b.feed feed ≠ feedOut then b else feedInRange feed dc (b.powerUp 0)

/-- FEED_IN_RANGE: the first feed also powers the logic up, as LOGIC_POWER_ON tells. -/
def feedReturn (x : Nat) (dc : Bool) (b : Block) : Block :=
  if b.feed x = feedOut then feedInRange x dc (b.orPowerUp (b.firstFeed && decide (x < 2))) else b

/-- OVERVOLT_RECOVER: the feed is in range again, and if it is the first it powers the logic up (R67, R393). -/
def overvoltReturn (x : Nat) (b : Block) : Block :=
  if b.feed x = feedOver then overvoltRecover x (b.orPowerUp (b.firstFeed && decide (x < 2))) else b

/-- LOGIC_RAILS_UP (R67 step 4): the internal power-on reset is held for 10 ms more. -/
def logicRailsUp (b : Block) : Block :=
  if b.logic ≠ .rising then b
  else { b with logic := .held, cfg.stageFrom := b.clk + 10000000
                pins := { b.pins with railsOn := true, auxOn := true } }

/-- POR_RELEASE (R52, R67 step 5): the straps are latched, the J3 pins take their states (R40, R54), AUX_12V is on as in
ACTIVE (R436) unless an overload holds it off (R63), and boot starts in stage ROM. -/
def porRelease (straps : Nat) (b : Block) : Block :=
  if b.logic ≠ .held then b
  else
    let b := b.untilClk b.cfg.stageFrom
    let b := { b with logic := .running, stc := 0, stcFrac := 0, wdtStart := b.clk
                      pins := { b.pins with straps := straps % 16, j3On := true, auxOn := b.pins.auxOn || b.pwr.auxOff.isNone }
                      cfg.stageFrom := b.clk, clocks.resetAt := b.clk }
    b.set F.CFG_BOOT_STATUS_BOOT_SEL (straps / 4 % 4)

/-- COLD_RESET (R53): RESET_N stays low for `lowNs`. From OFF it also brings the logic rails up, if 3V3_HK is there (R446).
With logic power the J3 outputs go to the states "during cold reset" of R54; RESET_N does not switch AUX_12V. -/
def coldReset (lowNs : Nat) (b : Block) : Block :=
  if lowNs ≤ 500 then b
  else
    match b.logic with
    | .off =>
      if b.pins.hkOn then (b.powerUp 1).elapse lowNs else b
    | .running =>
      { b.coldReset .held { Block.reset.pins with auxOn := b.pins.auxOn } 1 0 with pwr.auxOff := b.pwr.auxOff }.elapse lowNs
    | _ => b.elapse lowNs

/-! ### Warm reset (R17, R34, R117, R276, R430) -/

/-- Transactions whose stages the reset discards (R276): those in state 1 or 2 of the last four, and those of the stages held. -/
def Block.lostTxns (b : Block) : List Nat :=
  let open' := (b.lnk.mine.filter (fun m : MyTxn => (m.state == 1 || m.state == 2)
    && (b.cfg.stages.any (·.txn == some m.txn) || !(b.updKept && b.updTagged m.txn)))).map (·.txn)
  let older := (b.cfg.stages.filterMap (·.txn)).filter (fun t => !b.lnk.mine.any (·.txn == t))
  open' ++ older.dedup

/-- A warm reset begins with a cause. -/
def Block.warmReset (b : Block) (cause : Nat) : Block :=
  let n := { Block.reset with
    fuses := b.fuses, clk := b.clk, stc := b.stc, stcFrac := b.stcFrac, freeCount := b.freeCount, out := b.out
    dram := b.dram.filter (fun c => decide (ringTable.len ≤ c.1)), qdr := b.qdr, qdrBad := b.qdrBad
    wdtStart := b.clk
    pins := { Block.reset.pins with straps := b.pins.straps, auxOn := b.pins.auxOn, hkOn := b.pins.hkOn, railsOn := b.pins.railsOn }
    clocks := { Block.reset.clocks with resetAt := b.clk }
    cal := { Cal.reset with copies := b.cal.copies }
    lnk := { Lnk.reset with storedEpoch := b.lnk.storedEpoch, mine := b.lnk.mine }
    pwr := b.pwr.warm
    thm := if b.shutdown then { Thm.reset with coolFrom := b.thm.coolFrom, restart := b.thm.restart } else Thm.reset
    flt := { b.flt.restart with queue := b.flt.queue, lost := b.flt.lost }
    upd := b.updReset
    cfg := { Block.reset.cfg with stageFrom := b.clk } }
  let n := ((n.keepBits b).keepWords b feedRegs).set F.CFG_BOOT_STATUS_BOOT_SEL (b.pins.straps / 4)
  let n := n.when b.updKept (fun n => n.keepWords b keptUpdRegs)
  let n := n.when (b.updState == updLocked) (·.set F.UPD_STATUS_STATE updLocked)
  let n := n.when b.shutdown (fun n => (n.keepWords b [R.THM_COOL]).set F.THM_STATUS_STATE 2)
  let n := (n.set F.SYS_RESET_CAUSE_CAUSE cause).installKeys []
  n.each b.lostTxns (fun t n => n.txnMissed t)

/-- WARM_RESET (R117, R493): the reset that is due begins, at most 2 µs later. -/
def warmReset (after : Nat) (b : Block) : Block :=
  match b.resetWanted with
  | some c => (b.elapse (min after 2000)).warmReset c
  | none => b

/-! ### The watchdog (R493) -/

/-- Does the watchdog count? -/
def Block.wdtCounts (b : Block) : Bool := b.bit F.SYS_WDT_CTRL_EN && b.wdtStop.isNone

/-- WDT_WARN: half of TIMEOUT_MS has passed since the count began. DESIGN CHOICE (log entry 62): the half is of the value
that TIMEOUT_MS had when the count began, if it has been rewritten since. -/
def wdtWarn (b : Block) : Block :=
  if !b.wdtCounts || b.wdtWarned then b
  else { b.untilClk (b.wdtStart + b.wdtMs * 500000) with wdtWarned := true }.irq F.SYS_IRQ_STATUS_WDT_WARN

/-- WDT_EXPIRY: a warm reset with cause 0x3. -/
def wdtExpiry (b : Block) : Block :=
  if b.wdtCounts then (b.untilClk (b.wdtStart + b.wdtMs * 1000000)).warmReset 3 else b

/-! ### The idle block -/

/-- Nothing waits: one nanosecond of the model's time passes (log entry 8). -/
def State.idle (s : State) : State := { s with blk := s.blk.elapse 1 }

/-! ### Meanings -/

/-- FEED_IN_RANGE. -/
def execFeedInRange (x : Nat) (dc : Bool) (s : State) : Host.Outcome State Fault Refusal := s.power (feedReturn x dc s.blk)
/-- OVERVOLT_RECOVER. -/
def execOvervoltRecover (x : Nat) (s : State) : Host.Outcome State Fault Refusal := s.power (overvoltReturn x s.blk)
/-- LOGIC_POWER_ON. -/
def execLogicPowerOn (feed : Nat) (dc : Bool) (s : State) : Host.Outcome State Fault Refusal :=
  s.power (logicPowerOn feed dc s.blk)
/-- LOGIC_RAILS_UP. -/
def execLogicRailsUp (s : State) : Host.Outcome State Fault Refusal := s.power (logicRailsUp s.blk)
/-- POR_RELEASE. -/
def execPorRelease (straps : Nat) (s : State) : Host.Outcome State Fault Refusal := s.power (porRelease straps s.blk)
/-- COLD_RESET: a pulse between 500 ns and 1 µs has no specified response (R53). -/
def execColdReset (lowNs : Nat) (s : State) : Host.Outcome State Fault Refusal :=
  if 500 < lowNs ∧ lowNs < 1000 then .fault .resetPulseUnspecified else s.power (coldReset lowNs s.blk)
/-- WARM_RESET. -/
def execWarmReset (after : Nat) (s : State) : Host.Outcome State Fault Refusal := s.done (warmReset after s.blk)
/-- WDT_WARN. -/
def execWdtWarn (s : State) : Host.Outcome State Fault Refusal := s.done (wdtWarn s.blk)
/-- WDT_EXPIRY. -/
def execWdtExpiry (s : State) : Host.Outcome State Fault Refusal := s.done (wdtExpiry s.blk)

end Sys2Proof.Machine
end

