-- ==== Sys2Proof/Machine/Wake.lean ====
section
/-!
DEFINITION. The end of the wake order (R443 to R445, R447, R493).
-/

namespace Sys2Proof.Machine

/-- Time stood: STC, the servo and the grid start again (R445). -/
def Block.timeRestart (b : Block) : Block :=
  let b := { b with stc := 0, stcFrac := 0, pm.stcStopped := false, ptp := Ptp.reset, cfg.closed := 0, lnk.headers := [] }
  let b := (((b.setServo servoFree).set F.PTP_STATUS_TIME_VALID 0).set F.PTP_STATUS_SOURCE sourceNone).setFrm frmStopped
  b.when (b.role != 0) (·.gridBegin)

/-- A Lysrov port with EN = 1 sends the wake tone for 2 × PERIOD_MS + 1 ms (R443). -/
def Block.toneSend (b : Block) (p : Nat) : Block :=
  if b.bit (F.LNKn_CTRL_EN p) then
    { b with pm.toneEnds := b.pm.toneEnds ++ [(p, b.clk + 2 * b.brackenPeriod + 1000000)] }.portTo lanePll (2 + p)
  else b

/-- The islands release and the module rejoins its wall (R444 step 5, R445). -/
def Block.rejoin (b : Block) (drifts : List Int) : Block :=
  let b := b.when (!b.shutdown) (fun b =>
    { b with drm.exiting := List.replicate 4 true }.each (List.range 4) (fun c b => dramExitDone c (drifts.getD c 0) b))
  let b := b.each [0, 1] (fun n b => b.when (b.bit (F.ETHn_CTRL_EN n) && b.laneState (4 * n) == laneOff) (·.ethStart n))
  let b := b.each [0, 1] (fun p b => b.toneSend p)
  let b := if b.pm.stcStopped then b.timeRestart else b
  let b := { b with cal.first := false, upd.runFrom := none }
  let b := b.when (b.role != 0) (·.set F.CFG_BOOT_STATUS_STAGE 4)
  let b := b.when b.drives (·.scnRestart)
  let b := b.when b.isHead (·.headStart)
  b.joinSync.syncRest

/-- WAKE_DONE (R444 steps 5 and 6, R445): within 6 ms of the wake; the watchdog's count starts again (R493), and a warm
reset that was asked for in sleep follows (R447). -/
def wakeDone (drifts : List Int) (after : Nat) (b : Block) : Block :=
  if b.pmState ≠ pmWaking then b
  else
    let b := b.untilClk (b.pm.enteredAt + min after 6000000)
    let st := b.pm.after.getD (if b.bit F.PM_CTRL_WAKE_TO_DIM then pmDim else pmActive)
    let reset := b.pm.warmAfter
    let fresh := b.pm.stcStopped && b.role != 0
    let b := { b with pm := { b.pm with gate := false, after := none, warmAfter := false }
                      wdtStart := b.clk, wdtMs := max 10 (b.get F.SYS_WDT_CTRL_TIMEOUT_MS), wdtWarned := false, wdtStop := none }
    let b := (((b.rejoin drifts).set F.PM_STATUS_PENDING 7).setPmState st).auxSync
    let b := (b.irq F.PM_IRQ_STATUS_WAKE).count F.PM_WAKE_COUNT_COUNT 1
    let b := b.when fresh (·.frameZero)
    b.when reset (·.wantReset 2)

/-- WAKE_DONE. -/
def execWakeDone (drifts : List Int) (after : Nat) (s : State) : Host.Outcome State Fault Refusal :=
  s.done (wakeDone drifts after s.blk)

end Sys2Proof.Machine
end

