-- ==== Sys2Proof/Machine/Dispatch.lean ====
section
/-!
DEFINITION. One arm per command, each a direct call of its meaning.
-/

namespace Sys2Proof.Machine

def exec (i : Instr) (s : State) : Host.Outcome State Fault Refusal :=
  match i with
  | .logicPowerOn feed dc => Sys2Proof.Machine.execLogicPowerOn feed dc s
  | .logicRailsUp => Sys2Proof.Machine.execLogicRailsUp s
  | .porRelease straps => Sys2Proof.Machine.execPorRelease straps s
  | .coldReset lowNs => Sys2Proof.Machine.execColdReset lowNs s
  | .warmResetRequest p v => Sys2Proof.Machine.execWarmResetRequest p v s
  | .warmReset after => Sys2Proof.Machine.execWarmReset after s
  | .wdtEnable p v => Sys2Proof.Machine.execWdtEnable p v s
  | .wdtKick p v => Sys2Proof.Machine.execWdtKick p v s
  | .wdtWarn => Sys2Proof.Machine.execWdtWarn s
  | .wdtExpiry => Sys2Proof.Machine.execWdtExpiry s
  | .regWrite p addr size v x => Sys2Proof.Machine.execRegWrite p addr size v x s
  | .rcRead p addr size => Sys2Proof.Machine.execRcRead p addr size s
  | .pairLowRead p addr size => Sys2Proof.Machine.execPairLowRead p addr size s
  | .i3cWrite addr bytes busy x => Sys2Proof.Machine.execI3cWrite addr bytes busy x s
  | .i3cWriteFixed addr bytes busy x => Sys2Proof.Machine.execI3cWriteFixed addr bytes busy x s
  | .i3cSetRead addr bytes busy x => Sys2Proof.Machine.execI3cSetRead addr bytes busy x s
  | .i3cSetReadFixed addr bytes busy x => Sys2Proof.Machine.execI3cSetReadFixed addr bytes busy x s
  | .i3cPrivateRead addr ready busy => Sys2Proof.Machine.execI3cPrivateRead addr ready busy s
  | .entdaa won da => Sys2Proof.Machine.execEntdaa won da s
  | .setdasa addr da => Sys2Proof.Machine.execSetdasa addr da s
  | .setnewda addr da => Sys2Proof.Machine.execSetnewda addr da s
  | .rstdaa => Sys2Proof.Machine.execRstdaa s
  | .enec target events => Sys2Proof.Machine.execEnec target events s
  | .disec target events => Sys2Proof.Machine.execDisec target events s
  | .setmwl target v => Sys2Proof.Machine.execSetmwl target v s
  | .setmrl target v => Sys2Proof.Machine.execSetmrl target v s
  | .getmwl addr => Sys2Proof.Machine.execGetmwl addr s
  | .getmrl addr => Sys2Proof.Machine.execGetmrl addr s
  | .getpid addr => Sys2Proof.Machine.execGetpid addr s
  | .getbcr addr => Sys2Proof.Machine.execGetbcr addr s
  | .getdcr addr => Sys2Proof.Machine.execGetdcr addr s
  | .getstatus addr => Sys2Proof.Machine.execGetstatus addr s
  | .getmxds addr => Sys2Proof.Machine.execGetmxds addr s
  | .enthdr0 => Sys2Proof.Machine.execEnthdr0 s
  | .unsupportedCcc target => Sys2Proof.Machine.execUnsupportedCcc target s
  | .ibiRaise accepted => Sys2Proof.Machine.execIbiRaise accepted s
  | .notifySend => Sys2Proof.Machine.execNotifySend s
  | .regAccess rx x => Sys2Proof.Machine.execRegAccess rx x s
  | .messageForward rx => Sys2Proof.Machine.execMessageForward rx s
  | .notifyMsg rx => Sys2Proof.Machine.execNotify rx s
  | .applicationMessage rx => Sys2Proof.Machine.execApplicationMessage rx s
  | .ringIdleRelease n => Sys2Proof.Machine.execRingIdleRelease n s
  | .fetchMsg rx => Sys2Proof.Machine.execFetch rx s
  | .dataMsg rx => Sys2Proof.Machine.execData rx s
  | .hifDmaStart p n v => Sys2Proof.Machine.execHifDmaStart p n v s
  | .hifDmaAbort p n v => Sys2Proof.Machine.execHifDmaAbort p n v s
  | .dmaChunkTimeout n chunk => Sys2Proof.Machine.execDmaChunkTimeout n chunk s
  | .hifRxSel p v => Sys2Proof.Machine.execHifRxSel p v s
  | .hifRxData p => Sys2Proof.Machine.execHifRxData p s
  | .hifRxPop p v => Sys2Proof.Machine.execHifRxPop p v s
  | .hifTxData p v => Sys2Proof.Machine.execHifTxData p v s
  | .hifTxCmd p v => Sys2Proof.Machine.execHifTxCmd p v s
  | .dramTrainingComplete attempts after => Sys2Proof.Machine.execDramTrainingComplete attempts after s
  | .postComplete kat fault hard soft beyond after => Sys2Proof.Machine.execPostComplete kat fault hard soft beyond after s
  | .slotCheckComplete after => Sys2Proof.Machine.execSlotCheckComplete after s
  | .refclkBootTimeout cause => Sys2Proof.Machine.execRefclkBootTimeout cause s
  | .loadComplete after => Sys2Proof.Machine.execLoadComplete after s
  | .linkStageEntry => Sys2Proof.Machine.execLinkStageEntry s
  | .commitNext p v => Sys2Proof.Machine.execCommitNext p v s
  | .commitAtWfn p v => Sys2Proof.Machine.execCommitAtWfn p v s
  | .commitPrepare p v => Sys2Proof.Machine.execCommitPrepare p v s
  | .commitArm p v => Sys2Proof.Machine.execCommitArm p v s
  | .commitAbort p v => Sys2Proof.Machine.execCommitAbort p v s
  | .prCheck p v sigOk => Sys2Proof.Machine.execPrCheck p v sigOk s
  | .prCheckDone poisoned after => Sys2Proof.Machine.execPrCheckDone poisoned after s
  | .prApplyNext p v => Sys2Proof.Machine.execPrApplyNext p v s
  | .prApplyAt p v => Sys2Proof.Machine.execPrApplyAt p v s
  | .prCancel p v => Sys2Proof.Machine.execPrCancel p v s
  | .frameStart => Sys2Proof.Machine.execFrameStart s
  | .planPoint => Sys2Proof.Machine.execPlanPoint s
  | .framePlan rx => Sys2Proof.Machine.execFramePlan rx s
  | .commitClosePoint => Sys2Proof.Machine.execCommitClosePoint s
  | .frondDeadline => Sys2Proof.Machine.execFrondDeadline s
  | .settlingEnd after => Sys2Proof.Machine.execSettlingEnd after s
  | .scaleDecision => Sys2Proof.Machine.execScaleDecision s
  | .frameHeaderSend => Sys2Proof.Machine.execFrameHeaderSend s
  | .frameHeader rx => Sys2Proof.Machine.execFrameHeader rx s
  | .guardStart => Sys2Proof.Machine.execGuardStart s
  | .startLaunch edge cell => Sys2Proof.Machine.execStartLaunch edge cell s
  | .syncInEdge ts => Sys2Proof.Machine.execSyncInEdge ts s
  | .syncOutPulse k ahead j => Sys2Proof.Machine.execSyncOutPulse k ahead j s
  | .refclkGlitch ps => Sys2Proof.Machine.execRefclkGlitch ps s
  | .refclkLoss cause => Sys2Proof.Machine.execRefclkLoss cause s
  | .refclkReturn => Sys2Proof.Machine.execRefclkReturn s
  | .ptpMessage g => Sys2Proof.Machine.execPtpMessage g s
  | .ptpSourceLoss d => Sys2Proof.Machine.execPtpSourceLoss d s
  | .ptpDelayReqSend q => Sys2Proof.Machine.execPtpDelayReqSend q s
  | .domainRevert => Sys2Proof.Machine.execDomainRevert s
  | .domainDisagree => Sys2Proof.Machine.execDomainDisagree s
  | .linkTimeSend p => Sys2Proof.Machine.execLinkTimeSend p s
  | .linkTimeMessage p rx t => Sys2Proof.Machine.execLinkTimeMessage p rx t s
  | .ethPortEnable p n v => Sys2Proof.Machine.execEthPortEnable p n v s
  | .ethPortDisable p n v => Sys2Proof.Machine.execEthPortDisable p n v s
  | .ethLinkUp n k eee => Sys2Proof.Machine.execEthLinkUp n k eee s
  | .ethLinkDown n k localFault remoteFault => Sys2Proof.Machine.execEthLinkDown n k localFault remoteFault s
  | .ethFrameReceive n sub bytes fcsOk held corrected uncorrected => Sys2Proof.Machine.execEthFrameReceive n sub bytes fcsOk held corrected uncorrected s
  | .pauseFrame n sub quanta => Sys2Proof.Machine.execPauseFrame n sub quanta s
  | .pfcFrame n sub vector quanta => Sys2Proof.Machine.execPfcFrame n sub vector quanta s
  | .pauseTimerExpiry n sub cls => Sys2Proof.Machine.execPauseTimerExpiry n sub cls s
  | .ethFrameTransmit n sub => Sys2Proof.Machine.execEthFrameTransmit n sub s
  | .nextHopTimeout n => Sys2Proof.Machine.execNextHopTimeout n s
  | .nextHopExpiry n => Sys2Proof.Machine.execNextHopExpiry n s
  | .lpiEntry n => Sys2Proof.Machine.execLpiEntry n s
  | .lpiWake n => Sys2Proof.Machine.execLpiWake n s
  | .lldpSend n => Sys2Proof.Machine.execLldpSend n s
  | .lldpReceive n tw => Sys2Proof.Machine.execLldpReceive n tw s
  | .igmpQuery eth v6 grp => Sys2Proof.Machine.execIgmpQuery eth v6 grp s
  | .unsolicitedReport => Sys2Proof.Machine.execUnsolicitedReport s
  | .streamPacket k => Sys2Proof.Machine.execStreamPacket k s
  | .skewWindowExpiry n => Sys2Proof.Machine.execSkewWindowExpiry n s
  | .sourceFrameConclude n => Sys2Proof.Machine.execSourceFrameConclude n s
  | .streamPathTimeout n e => Sys2Proof.Machine.execStreamPathTimeout n e s
  | .monitorEnable p v => Sys2Proof.Machine.execMonitorEnable p v s
  | .monitorPacketSend poisoned => Sys2Proof.Machine.execMonitorPacketSend poisoned s
  | .compositionBegin => Sys2Proof.Machine.execCompositionBegin s
  | .bandStart => Sys2Proof.Machine.execBandStart s
  | .bandLatestStart => Sys2Proof.Machine.execBandLatestStart s
  | .bandEmit missing behind => Sys2Proof.Machine.execBandEmit missing behind s
  | .bandDeadlineMiss => Sys2Proof.Machine.execBandDeadlineMiss s
  | .linkIdSend p => Sys2Proof.Machine.execLinkIdSend p s
  | .linkId p x => Sys2Proof.Machine.execLinkId p x s
  | .linkIdTimeout p => Sys2Proof.Machine.execLinkIdTimeout p s
  | .linkPortDown p => Sys2Proof.Machine.execLinkPortDown p s
  | .linkPortEnable path p v => Sys2Proof.Machine.execLinkPortEnable path p v s
  | .frondRelay p x bad => Sys2Proof.Machine.execFrondRelay p x bad s
  | .frondReceive p f bad => Sys2Proof.Machine.execFrondReceive p f bad s
  | .spore rx => Sys2Proof.Machine.execSpore rx s
  | .headAliveSend => Sys2Proof.Machine.execHeadAliveSend s
  | .headAlive rx => Sys2Proof.Machine.execHeadAlive rx s
  | .headListenTimeout => Sys2Proof.Machine.execHeadListenTimeout s
  | .headLoss => Sys2Proof.Machine.execHeadLoss s
  | .headState rx => Sys2Proof.Machine.execHeadState rx s
  | .demote rx => Sys2Proof.Machine.execDemote rx s
  | .brk rx => Sys2Proof.Machine.execBreak rx s
  | .lnkCmdHandover p v synced => Sys2Proof.Machine.execLnkCmdHandover p v synced s
  | .handover rx => Sys2Proof.Machine.execHandover rx s
  | .txnArm rx => Sys2Proof.Machine.execTxnArm rx s
  | .txnAbort rx => Sys2Proof.Machine.execTxnAbort rx s
  | .chainPoint => Sys2Proof.Machine.execChainPoint s
  | .chainEnergy rx => Sys2Proof.Machine.execChainEnergy rx s
  | .clwLoadDone n => Sys2Proof.Machine.execClwLoadDone n s
  | .clwControlDone n => Sys2Proof.Machine.execClwControlDone n s
  | .clwProbeDone n => Sys2Proof.Machine.execClwProbeDone n s
  | .collectReserveEnd n => Sys2Proof.Machine.execCollectReserveEnd n s
  | .collectReturn n loop count rs => Sys2Proof.Machine.execCollectReturn n loop count rs s
  | .enumReturn n count => Sys2Proof.Machine.execEnumReturn n count s
  | .enumTimeout n => Sys2Proof.Machine.execEnumTimeout n s
  | .railRampDone n mv => Sys2Proof.Machine.execRailRampDone n mv s
  | .stringOvercurrent n => Sys2Proof.Machine.execStringOvercurrent n s
  | .stringRailFault n mv => Sys2Proof.Machine.execStringRailFault n mv s
  | .stringRetryTimer n => Sys2Proof.Machine.execStringRetryTimer n s
  | .retryCountReset n => Sys2Proof.Machine.execRetryCountReset n s
  | .strCmdRestart p v => Sys2Proof.Machine.execStrCmdRestart p v s
  | .strCmdClearLamp p v => Sys2Proof.Machine.execStrCmdClearLamp p v s
  | .strCmdClearString p v => Sys2Proof.Machine.execStrCmdClearString p v s
  | .corLoadStart p v => Sys2Proof.Machine.execCorLoadStart p v s
  | .corLoadAbort p v => Sys2Proof.Machine.execCorLoadAbort p v s
  | .corLoadDone poisoned => Sys2Proof.Machine.execCorLoadDone poisoned s
  | .trainingBlock k t => Sys2Proof.Machine.execTrainingBlock k t s
  | .lanePllLock port => Sys2Proof.Machine.execLanePllLock port s
  | .lanePllUnlock port source => Sys2Proof.Machine.execLanePllUnlock port source s
  | .laneCdrLock k => Sys2Proof.Machine.execLaneCdrLock k s
  | .laneAlignDone port skew => Sys2Proof.Machine.execLaneAlignDone port skew s
  | .laneEqDone k widths => Sys2Proof.Machine.execLaneEqDone k widths s
  | .laneCheckDone k n => Sys2Proof.Machine.execLaneCheckDone k n s
  | .laneCountdownDone port => Sys2Proof.Machine.execLaneCountdownDone port s
  | .trainTimeout port => Sys2Proof.Machine.execTrainTimeout port s
  | .trainRetry port => Sys2Proof.Machine.execTrainRetry port s
  | .cdrLoss k => Sys2Proof.Machine.execCdrLoss k s
  | .blockLoss k => Sys2Proof.Machine.execBlockLoss k s
  | .eyeMeasureDone k n => Sys2Proof.Machine.execEyeMeasureDone k n s
  | .eyeLow k => Sys2Proof.Machine.execEyeLow k s
  | .srdRetrain p v => Sys2Proof.Machine.execSrdRetrain p v s
  | .testModeEnter p k v => Sys2Proof.Machine.execTestModeEnter p k v s
  | .inject p k => Sys2Proof.Machine.execInject p k s
  | .wckDriftCheck drifts => Sys2Proof.Machine.execWckDriftCheck drifts s
  | .bankRefresh c => Sys2Proof.Machine.execBankRefresh c s
  | .dramTempRead rs => Sys2Proof.Machine.execDramTempRead rs s
  | .dramIdleEntry c => Sys2Proof.Machine.execDramIdleEntry c s
  | .latencyDeclaration n => Sys2Proof.Machine.execLatencyDeclaration n s
  | .dramReadError a corrected retryOk => Sys2Proof.Machine.execDramReadError a corrected retryOk s
  | .odeccRead rises => Sys2Proof.Machine.execOdeccRead rises s
  | .qdrScrub result => Sys2Proof.Machine.execQdrScrub result s
  | .qdrReadError w kind n => Sys2Proof.Machine.execQdrReadError w kind n s
  | .replayCopyDone c bad => Sys2Proof.Machine.execReplayCopyDone c bad s
  | .audioPacket k => Sys2Proof.Machine.execAudioPacket k s
  | .audioPathTimeout a e => Sys2Proof.Machine.execAudioPathTimeout a e s
  | .audioBlockBoundary failed => Sys2Proof.Machine.execAudioBlockBoundary failed s
  | .audioFrame r96 poison ins => Sys2Proof.Machine.execAudioFrame r96 poison ins s
  | .feedInRange x dc => Sys2Proof.Machine.execFeedInRange x dc s
  | .feedOutOfRange x cause => Sys2Proof.Machine.execFeedOutOfRange x cause s
  | .feedOvervoltage x => Sys2Proof.Machine.execFeedOvervoltage x s
  | .overvoltRecover x => Sys2Proof.Machine.execOvervoltRecover x s
  | .switchoverDone after => Sys2Proof.Machine.execSwitchoverDone after s
  | .pwrTransfer p v => Sys2Proof.Machine.execPwrTransfer p v s
  | .transferDone after => Sys2Proof.Machine.execTransferDone after s
  | .revertTimer => Sys2Proof.Machine.execRevertTimer s
  | .feedControlCycle energy feeds link => Sys2Proof.Machine.execFeedControlCycle energy feeds link s
  | .feedLink => Sys2Proof.Machine.execFeedLink s
  | .holdupEnd => Sys2Proof.Machine.execHoldupEnd s
  | .auxOverload => Sys2Proof.Machine.execAuxOverload s
  | .auxRetry => Sys2Proof.Machine.execAuxRetry s
  | .calCycle p v => Sys2Proof.Machine.execCalCycle p v s
  | .calInterval => Sys2Proof.Machine.execCalInterval s
  | .calAbort p v => Sys2Proof.Machine.execCalAbort p v s
  | .calSave p v => Sys2Proof.Machine.execCalSave p v s
  | .calSaveDone ok after => Sys2Proof.Machine.execCalSaveDone ok after s
  | .calRefSample uv => Sys2Proof.Machine.execCalRefSample uv s
  | .calStepDone e dur => Sys2Proof.Machine.execCalStepDone e dur s
  | .thmSample ts => Sys2Proof.Machine.execThmSample ts s
  | .thmCoolDone => Sys2Proof.Machine.execThmCoolDone s
  | .pmReqActive p atWfn => Sys2Proof.Machine.execPmReqActive p atWfn s
  | .pmReqDim p atWfn => Sys2Proof.Machine.execPmReqDim p atWfn s
  | .pmReqBracken p atWfn => Sys2Proof.Machine.execPmReqBracken p atWfn s
  | .pmReqRetain p atWfn => Sys2Proof.Machine.execPmReqRetain p atWfn s
  | .pmReqOff p atWfn => Sys2Proof.Machine.execPmReqOff p atWfn s
  | .powerEntryDone after => Sys2Proof.Machine.execPowerEntryDone after s
  | .brackenWindow tone0 tone1 sync => Sys2Proof.Machine.execBrackenWindow tone0 tone1 sync s
  | .wakeTimer => Sys2Proof.Machine.execWakeTimer s
  | .wakeStart => Sys2Proof.Machine.execWakeStart s
  | .wakeDone drifts after => Sys2Proof.Machine.execWakeDone drifts after s
  | .updOpen p v => Sys2Proof.Machine.execUpdOpen p v s
  | .updCancel p v => Sys2Proof.Machine.execUpdCancel p v s
  | .updImport p v sigOk root => Sys2Proof.Machine.execUpdImport p v sigOk root s
  | .updPrepare p v => Sys2Proof.Machine.execUpdPrepare p v s
  | .updActivate p v => Sys2Proof.Machine.execUpdActivate p v s
  | .updActivateAt p v => Sys2Proof.Machine.execUpdActivateAt p v s
  | .updConfirm p v => Sys2Proof.Machine.execUpdConfirm p v s
  | .updRevert p v => Sys2Proof.Machine.execUpdRevert p v s
  | .autoConfirm => Sys2Proof.Machine.execAutoConfirm s
  | .updBlkData p v => Sys2Proof.Machine.execUpdBlkData p v s
  | .updBlkSubmit p v sigOk root => Sys2Proof.Machine.execUpdBlkSubmit p v sigOk root s
  | .updBlock rx sigOk root => Sys2Proof.Machine.execUpdBlock rx sigOk root s
  | .updVerifyDone poisoned sigOk pointOk shared after => Sys2Proof.Machine.execUpdVerifyDone poisoned sigOk pointOk shared after s
  | .updWriteDone ok after => Sys2Proof.Machine.execUpdWriteDone ok after s
  | .sessionHello rx => Sys2Proof.Machine.execSessionHello rx s
  | .sessionAccept rx => Sys2Proof.Machine.execSessionAccept rx s
  | .sessionHelloRetry n => Sys2Proof.Machine.execSessionHelloRetry n s
  | .bstSram p v => Sys2Proof.Machine.execBstSram p v s
  | .bstLogic p v clean => Sys2Proof.Machine.execBstLogic p v clean s
  | .bstQdr p v => Sys2Proof.Machine.execBstQdr p v s
  | .bstDram p v => Sys2Proof.Machine.execBstDram p v s
  | .bstTestDone fault soft beyond after => Sys2Proof.Machine.execBstTestDone fault soft beyond after s
  | .fltScanDone => Sys2Proof.Machine.execFltScanDone s
  | .fltEntryWrite readBackOk => Sys2Proof.Machine.execFltEntryWrite readBackOk s
  | .fltClear p v => Sys2Proof.Machine.execFltClear p v s
  | .fltClearEffect => Sys2Proof.Machine.execFltClearEffect s
  | .fltEraseDone => Sys2Proof.Machine.execFltEraseDone s
  | .fltExport p v => Sys2Proof.Machine.execFltExport p v s
  | .fltExportDone => Sys2Proof.Machine.execFltExportDone s
  | .fltRdSeq p v => Sys2Proof.Machine.execFltRdSeq p v s
  | .syncOutPulseEnd k => Sys2Proof.Machine.execSyncOutPulseEnd k s
  | .wakeToneEnd p => Sys2Proof.Machine.execWakeToneEnd p s
  | .checkerLock k => Sys2Proof.Machine.execCheckerLock k s
  | .checkerLockLoss k errors => Sys2Proof.Machine.execCheckerLockLoss k errors s
  | .dramExitDone c drift => Sys2Proof.Machine.execDramExitDone c drift s
  | .calWindowOpen => Sys2Proof.Machine.execCalWindowOpen s
  | .fuseBurnDone ok after => Sys2Proof.Machine.execFuseBurnDone ok after s
  | .messageResponse rx => Sys2Proof.Machine.execMessageResponse rx s
  | .hdrExit => Sys2Proof.Machine.execHdrExit s
  | .partnerLpi n enter => Sys2Proof.Machine.execPartnerLpi n enter s

end Sys2Proof.Machine
end

