-- ==== Sys2Proof/Machine/Pins.lean ====
section
/-!
DEFINITION. What the module drives on its contacts in a state (R40, R45, R51, R54, R59, R62): every output of J3, the two supply
outputs, and a string's RAIL and CLW_OUT. Nothing here is state of its own; the levels of SYNC_OUT and ALERT_N are held in Pins.
-/

namespace Sys2Proof.Machine

/-- An output contact, or a contact of both directions. -/
inductive Contact where
  | slTx (lane : Nat) | i3cSda | alertN | syncOut (k : Nat) | audBclk (p : Nat) | audFsync (p : Nat) | audData (p : Nat) | tdo
  | aux12v | hk3v3 | rail (s : Nat) | clwOut (s : Nat)
  deriving DecidableEq, Repr

/-- What the module does with a contact: high impedance; a level; the common mode of a pair without data; signals of its own; an
input; a supply on or off. -/
inductive Drive where
  | highZ | low | high | commonMode | signals | input | on | off
  deriving DecidableEq, Repr

/-- Does audio port `p` drive its clocks: it runs, outside a block that R381 keeps low? -/
def Block.audClocks (b : Block) (p : Nat) : Bool := b.logic == .running && b.audRuns p && !b.pm.gate

/-- A contact of J3 with logic power on and the power-on reset released, or held again by RESET_N (R54). -/
def Block.j3Contact (b : Block) : Contact → Drive
  | .slTx k => if b.logic == .running && b.laneState k == laneUp then .signals else .commonMode
  | .i3cSda => if b.logic == .running then .signals else .highZ
  | .alertN => if b.pins.alertN then .highZ else .low
  | .syncOut k => if b.pins.syncOut.getD k false then .high else .low
  | .audBclk p => if b.audClocks p then .signals else .low
  | .audFsync p => if b.audClocks p then .signals else .low
  | .audData p => if !b.audClocks p then .highZ else if b.audGet p (F.AUDp_CFG_DIR p) = 1 then .input else .signals
  | _ => .highZ

/-- What the module drives on a contact: J3 is in high impedance until the power-on reset is released, and from the moment the logic
rails are off (R40, R45, R54); the lamp outputs wait for a role that drives lamps (R40). -/
def Block.contact (b : Block) : Contact → Drive
  | .aux12v => if b.pins.auxOn then .on else .off
  | .hk3v3 => if b.pins.hkOn then .on else .off
  | .rail s => if b.logic == .running && b.strOn && decide (0 < b.get (F.STR_STRn_RAIL_STATUS_SET_MV s)) then .on else .off
  | .clwOut s => if b.logic == .running && b.strOn && [strRamp, strEnum, strRun].contains (b.strState s) then .signals else .low
  | c => if b.pins.j3On && b.pins.railsOn then b.j3Contact c else .highZ

end Sys2Proof.Machine
end

