-- ==== Sys2Proof/WellFormed.lean ====
section
/-!
DEFINITION. Which commands are well formed: indices that name an instance the module has, lists of the length their meaning
takes, values of their field's width. A command that is not well formed names nothing the block has.
-/

namespace Sys2Proof

/-- Is the command well formed? -/
def Instr.wf : Instr → Bool
  | .logicPowerOn feed _ => decide (feed < 2)
  | .logicRailsUp => true
  | .porRelease straps => decide (straps < 16)
  | .coldReset _ => true
  | .warmResetRequest _ _ => true
  | .warmReset _ => true
  | .wdtEnable _ _ => true
  | .wdtKick _ _ => true
  | .wdtWarn => true
  | .wdtExpiry => true
  | .regWrite _ _ _ _ _ => true
  | .rcRead _ _ _ => true
  | .pairLowRead _ _ _ => true
  | .i3cWrite addr _ _ _ => decide (addr < 128)
  | .i3cWriteFixed addr _ _ _ => decide (addr < 128)
  | .i3cSetRead addr _ _ _ => decide (addr < 128)
  | .i3cSetReadFixed addr _ _ _ => decide (addr < 128)
  | .i3cPrivateRead addr _ _ => decide (addr < 128)
  | .entdaa _ da => decide (da < 128)
  | .setdasa addr da => decide (addr < 128) && decide (da < 128)
  | .setnewda addr da => decide (addr < 128) && decide (da < 128)
  | .rstdaa => true
  | .enec _ _ => true
  | .disec _ _ => true
  | .setmwl _ v => decide (v < 65536)
  | .setmrl _ v => decide (v < 65536)
  | .getmwl addr => decide (addr < 128)
  | .getmrl addr => decide (addr < 128)
  | .getpid addr => decide (addr < 128)
  | .getbcr addr => decide (addr < 128)
  | .getdcr addr => decide (addr < 128)
  | .getstatus addr => decide (addr < 128)
  | .getmxds addr => decide (addr < 128)
  | .enthdr0 => true
  | .unsupportedCcc _ => true
  | .ibiRaise _ => true
  | .notifySend => true
  | .regAccess _ _ => true
  | .messageForward _ => true
  | .notifyMsg _ => true
  | .applicationMessage _ => true
  | .ringIdleRelease _ => true
  | .fetchMsg _ => true
  | .dataMsg _ => true
  | .hifDmaStart _ n _ => decide (n < 8)
  | .hifDmaAbort _ n _ => decide (n < 8)
  | .dmaChunkTimeout n _ => decide (n < 8)
  | .hifRxSel _ _ => true
  | .hifRxData _ => true
  | .hifRxPop _ _ => true
  | .hifTxData _ _ => true
  | .hifTxCmd _ _ => true
  | .dramTrainingComplete attempts _ => decide (attempts.length = 4)
  | .postComplete _ _ _ _ _ _ => true
  | .slotCheckComplete _ => true
  | .refclkBootTimeout cause => decide (cause < 4)
  | .loadComplete _ => true
  | .linkStageEntry => true
  | .commitNext _ _ => true
  | .commitAtWfn _ _ => true
  | .commitPrepare _ _ => true
  | .commitArm _ _ => true
  | .commitAbort _ _ => true
  | .prCheck _ _ _ => true
  | .prCheckDone _ _ => true
  | .prApplyNext _ _ => true
  | .prApplyAt _ _ => true
  | .prCancel _ _ => true
  | .frameStart => true
  | .planPoint => true
  | .framePlan _ => true
  | .commitClosePoint => true
  | .frondDeadline => true
  | .settlingEnd _ => true
  | .scaleDecision => true
  | .frameHeaderSend => true
  | .frameHeader _ => true
  | .guardStart => true
  | .startLaunch _ _ => true
  | .syncInEdge _ => true
  | .syncOutPulse k _ _ => decide (k < 2)
  | .refclkGlitch _ => true
  | .refclkLoss cause => decide (cause < 4)
  | .refclkReturn => true
  | .ptpMessage _ => true
  | .ptpSourceLoss d => decide (d < 3)
  | .ptpDelayReqSend q => decide (q.domain < 2)
  | .domainRevert => true
  | .domainDisagree => true
  | .linkTimeSend p => decide (p < 2)
  | .linkTimeMessage p _ _ => decide (p < 2)
  | .ethPortEnable _ n _ => decide (n < 2)
  | .ethPortDisable _ n _ => decide (n < 2)
  | .ethLinkUp n k _ => decide (n < 2) && decide (k < 4)
  | .ethLinkDown n k _ _ => decide (n < 2) && decide (k < 4)
  | .ethFrameReceive n sub _ _ _ _ _ => decide (n < 2) && decide (sub < 4)
  | .pauseFrame n sub quanta => decide (n < 2) && decide (sub < 4) && decide (quanta < 65536)
  | .pfcFrame n sub vector quanta => decide (n < 2) && decide (sub < 4) && decide (vector < 256) && decide (quanta.length = 8)
  | .pauseTimerExpiry n sub cls => decide (n < 2) && decide (sub < 4) && decide (cls < 8)
  | .ethFrameTransmit n sub => decide (n < 2) && decide (sub < 4)
  | .nextHopTimeout n => decide (n < 2)
  | .nextHopExpiry n => decide (n < 2)
  | .lpiEntry n => decide (n < 2)
  | .lpiWake n => decide (n < 2)
  | .lldpSend n => decide (n < 2)
  | .lldpReceive n _ => decide (n < 2)
  | .igmpQuery eth _ _ => decide (eth < 2)
  | .unsolicitedReport => true
  | .streamPacket _ => true
  | .skewWindowExpiry n => decide (n < 16)
  | .sourceFrameConclude n => decide (n < 16)
  | .streamPathTimeout n e => decide (n < 16) && decide (e < 2)
  | .monitorEnable _ _ => true
  | .monitorPacketSend _ => true
  | .compositionBegin => true
  | .bandStart => true
  | .bandLatestStart => true
  | .bandEmit _ _ => true
  | .bandDeadlineMiss => true
  | .linkIdSend p => decide (p < 2)
  | .linkId p _ => decide (p < 2)
  | .linkIdTimeout p => decide (p < 2)
  | .linkPortDown p => decide (p < 2)
  | .linkPortEnable _ p _ => decide (p < 2)
  | .frondRelay p _ _ => decide (p < 2)
  | .frondReceive p _ _ => decide (p < 2)
  | .spore _ => true
  | .headAliveSend => true
  | .headAlive _ => true
  | .headListenTimeout => true
  | .headLoss => true
  | .headState _ => true
  | .demote _ => true
  | .brk _ => true
  | .lnkCmdHandover _ _ _ => true
  | .handover _ => true
  | .txnArm _ => true
  | .txnAbort _ => true
  | .chainPoint => true
  | .chainEnergy _ => true
  | .clwLoadDone n => decide (n < 96)
  | .clwControlDone n => decide (n < 96)
  | .clwProbeDone n => decide (n < 96)
  | .collectReserveEnd n => decide (n < 96)
  | .collectReturn n _ _ _ => decide (n < 96)
  | .enumReturn n count => decide (n < 96) && decide (count < 256)
  | .enumTimeout n => decide (n < 96)
  | .railRampDone n _ => decide (n < 96)
  | .stringOvercurrent n => decide (n < 96)
  | .stringRailFault n _ => decide (n < 96)
  | .stringRetryTimer n => decide (n < 96)
  | .retryCountReset n => decide (n < 96)
  | .strCmdRestart _ _ => true
  | .strCmdClearLamp _ _ => true
  | .strCmdClearString _ _ => true
  | .corLoadStart _ _ => true
  | .corLoadAbort _ _ => true
  | .corLoadDone _ => true
  | .trainingBlock k _ => decide (k < 16)
  | .lanePllLock port => decide (port < 4)
  | .lanePllUnlock port _ => decide (port < 4)
  | .laneCdrLock k => decide (k < 16)
  | .laneAlignDone port _ => decide (port < 4)
  | .laneEqDone k _ => decide (k < 16)
  | .laneCheckDone k n => decide (k < 16) && decide (n < 65)
  | .laneCountdownDone port => decide (port < 4)
  | .trainTimeout port => decide (port < 4)
  | .trainRetry port => decide (port < 4)
  | .cdrLoss k => decide (k < 16)
  | .blockLoss k => decide (k < 16)
  | .eyeMeasureDone k n => decide (k < 16) && decide (n < 65)
  | .eyeLow k => decide (k < 16)
  | .srdRetrain _ _ => true
  | .testModeEnter _ k _ => decide (k < 16)
  | .inject _ k => decide (k < 16)
  | .wckDriftCheck drifts => decide (drifts.length = 4)
  | .bankRefresh c => decide (c < 4)
  | .dramTempRead rs => decide (rs.length = 4)
  | .dramIdleEntry c => decide (c < 4)
  | .latencyDeclaration n => decide (n < 8)
  | .dramReadError _ _ _ => true
  | .odeccRead rises => decide (rises.length = 4)
  | .qdrScrub result => decide (result < 3)
  | .qdrReadError _ kind _ => decide (kind < 4)
  | .replayCopyDone c _ => decide (c < 16)
  | .audioPacket _ => true
  | .audioPathTimeout a e => decide (a < 4) && decide (e < 2)
  | .audioBlockBoundary _ => true
  | .audioFrame _ _ _ => true
  | .feedInRange x _ => decide (x < 2)
  | .feedOutOfRange x _ => decide (x < 2)
  | .feedOvervoltage x => decide (x < 2)
  | .overvoltRecover x => decide (x < 2)
  | .switchoverDone _ => true
  | .pwrTransfer _ _ => true
  | .transferDone _ => true
  | .revertTimer => true
  | .feedControlCycle energy feeds _ => decide (energy.length = 5) && decide (feeds.length = 2)
  | .feedLink => true
  | .holdupEnd => true
  | .auxOverload => true
  | .auxRetry => true
  | .calCycle _ _ => true
  | .calInterval => true
  | .calAbort _ _ => true
  | .calSave _ _ => true
  | .calSaveDone _ _ => true
  | .calRefSample _ => true
  | .calStepDone _ _ => true
  | .thmSample ts => decide (ts.length = 24)
  | .thmCoolDone => true
  | .pmReqActive _ _ => true
  | .pmReqDim _ _ => true
  | .pmReqBracken _ _ => true
  | .pmReqRetain _ _ => true
  | .pmReqOff _ _ => true
  | .powerEntryDone _ => true
  | .brackenWindow _ _ _ => true
  | .wakeTimer => true
  | .wakeStart => true
  | .wakeDone drifts _ => decide (drifts.length = 4)
  | .updOpen _ _ => true
  | .updCancel _ _ => true
  | .updImport _ _ _ _ => true
  | .updPrepare _ _ => true
  | .updActivate _ _ => true
  | .updActivateAt _ _ => true
  | .updConfirm _ _ => true
  | .updRevert _ _ => true
  | .autoConfirm => true
  | .updBlkData _ _ => true
  | .updBlkSubmit _ _ _ _ => true
  | .updBlock _ _ _ => true
  | .updVerifyDone _ _ _ _ _ => true
  | .updWriteDone _ _ => true
  | .sessionHello _ => true
  | .sessionAccept _ => true
  | .sessionHelloRetry _ => true
  | .bstSram _ _ => true
  | .bstLogic _ _ _ => true
  | .bstQdr _ _ => true
  | .bstDram _ _ => true
  | .bstTestDone _ _ _ _ => true
  | .fltScanDone => true
  | .fltEntryWrite _ => true
  | .fltClear _ _ => true
  | .fltClearEffect => true
  | .fltEraseDone => true
  | .fltExport _ _ => true
  | .fltExportDone => true
  | .fltRdSeq _ _ => true
  | .syncOutPulseEnd k => decide (k < 2)
  | .wakeToneEnd p => decide (p < 2)
  | .checkerLock k => decide (k < 16)
  | .checkerLockLoss k _ => decide (k < 16)
  | .dramExitDone c _ => decide (c < 4)
  | .calWindowOpen => true
  | .fuseBurnDone _ _ => true
  | .messageResponse _ => true
  | .hdrExit => true
  | .partnerLpi n _ => decide (n < 2)

end Sys2Proof
end

