-- ==== Sys2Proof/Safety.lean ====
section
/-!
DEFINITION. The terms in which claims are stated: safe states, a command's next state, and what a next state leaves as it
was.
-/

namespace Sys2Proof.Machine

/-- DRAM, QDR and the register file keep their canonical form. -/
def Memory.wf (b : Block) : Bool :=
  cellsWf (fun _ => (0 : Byte)) b.dram && cellsWf (fun _ => (0 : Byte)) b.qdr && cellsWf keyReset b.regs

/-- ALERT_N is low exactly while it has a cause and logic power runs (R54, R99). -/
def AlertSound (b : Block) : Prop := b.pins.alertN = !(b.alertDue && b.logic == .running)

/-- A safe state. -/
def Safe (s : State) : Prop := Memory.wf s.blk = true ∧ AlertSound s.blk

/-- Logic power runs. -/
abbrev Runs (b : Block) : Prop := b.logic = .running

/-- Whatever waits in the queue, the command answers a next state with the same queue and a block that satisfies `P`. -/
def Gives (c : Instr) (b : Block) (P : Block → Prop) : Prop :=
  ∀ q : List Instr, ∃ t : Block, exec c ⟨b, q⟩ = .next ⟨t, q⟩ ∧ P t

/-- Every byte of DRAM and of QDR reads as before. -/
def SameMem (b t : Block) : Prop := ∀ a, t.dramByte a = b.dramByte a ∧ t.qdrByte a = b.qdrByte a

/-- Every word of the register file but those listed reads as before: shadows, active copies and path copies. -/
def SameWords (l : List Nat) (b t : Block) : Prop := ∀ k, k ∉ l → t.word k = b.word k

/-- Every word of the register file outside the windows of the listed blocks reads as before. -/
def SameOutside (ids : List Nat) (b t : Block) : Prop := ∀ k, keyAddr k / 0x10000 ∉ ids → t.word k = b.word k

/-- What STC reads once time has passed until it reads `t`: it never runs back, and stands while its clock does (R173, R442). -/
def Block.stcBy (b : Block) (t : Nat) : Nat := if b.pm.stcStopped ∨ t ≤ b.stc then b.stc else t % 2 ^ 64

/-- The four lanes of a port are in a state (R336, R341). -/
abbrev PortIn (b : Block) (p st : Nat) : Prop := ∀ k ∈ portLanes p, b.laneState k = st

/-- The commands that act whatever the state of logic power: power-up, cold reset, the feeds and AUX_12V (R53, R63,
R67, R392 to R398). -/
def powerRow : Instr → Bool
  | .logicPowerOn _ _ | .logicRailsUp | .porRelease _ | .coldReset _ | .feedInRange _ _ | .feedOutOfRange _ _
  | .feedOvervoltage _ | .overvoltRecover _ | .switchoverDone _ | .transferDone _ | .revertTimer
  | .feedControlCycle _ _ _ | .feedLink | .holdupEnd | .auxOverload | .auxRetry => true
  | _ => false

end Sys2Proof.Machine
end

