-- ==== Sys2Proof/Certificates/Slice0/Obligations.lean ====
section
/-!
DEFINITION. The statements about the model. `Gives c b P` says that command `c` answers a next state whose queue is as it was
and whose block satisfies `P`; `SameMem`, `SameWords` and `SameOutside` say what it leaves as it was (Sys2Proof/Safety.lean).
-/

open Sys2Proof Sys2Proof.Machine

/-! ### The queue and the outcomes -/

/-- A step takes the command at the front of the queue and gives it its effect on the rest (the row's form). -/
def Obligations.StepRunsTheFrontCommand : Prop :=
  ∀ (c : Instr) (rest : List Instr) (s : State), step { s with pending := c :: rest } = exec c { s with pending := rest }

/-- With nothing waiting a step lets one nanosecond of the model's clock pass; STC stands if its clock does, advances by one ns at
the nominal rate, and by what PTP_RATE makes of it at another; every register and every byte of memory stays (the model's choice,
log entry 8). -/
def Obligations.EmptyQueueIdles : Prop :=
  ∀ s : State, s.pending = [] → ∃ t : Block, step s = .next ⟨t, []⟩ ∧ t.clk = s.blk.clk + 1
    ∧ t.stc = (s.blk.elapse 1).stc ∧ (s.blk.pm.stcStopped = true → t.stc = s.blk.stc)
    ∧ (s.blk.pm.stcStopped = false → s.blk.get F.PTP_RATE_RATE = 0 → s.blk.stcFrac < stcUnit → t.stc = (s.blk.stc + 1) % 2 ^ 64)
    ∧ SameWords [] s.blk t ∧ SameMem s.blk t

/-- No command is refused, and the one that stops is the pulse on RESET_N between 500 ns and 1 µs, whose response R53 leaves
open; every other command completes in every state. -/
def Obligations.OnlyTheOpenPulseStops : Prop :=
  (∀ (c : Instr) (s : State) (r : Refusal), exec c s ≠ .refused r)
    ∧ (∀ (c : Instr) (s : State) (f : Fault), exec c s = .fault f ↔
        ∃ n, c = .coldReset n ∧ 500 < n ∧ n < 1000 ∧ f = .resetPulseUnspecified)
    ∧ ∀ (c : Instr) (s : State), (∀ n, c = .coldReset n → n ≤ 500 ∨ 1000 ≤ n) → ∃ t, exec c s = .next t

/-- A command's effect is on the block alone: the commands that wait stay as they are. -/
def Obligations.QueueIsKept : Prop :=
  ∀ (c : Instr) (s t : State), exec c s = .next t → t.pending = s.pending

/-- Without logic power, and while the internal reset is held, every command but those of power-up, RESET_N and the feeds
leaves the state as it was (R54, R67, R446; that nothing at all happens is the model's choice, log entry 34). -/
def Obligations.NoPowerNoEffect : Prop :=
  ∀ (c : Instr) (s : State), powerRow c = false → s.blk.logic ≠ .running → exec c s = .next s

/-- Every step keeps ALERT_N as R99 asks: low exactly while HIF_IRQ_PEND AND HIF_ALERT_EN is not zero, released without logic
power and during a cold reset (R54). -/
def Obligations.AlertFollowsItsCause : Prop :=
  ∀ s t : State, AlertSound s.blk → step s = .next t → AlertSound t.blk

/-- After reset ALERT_N is released, and nothing asks for it. -/
def Obligations.AlertAtReset : Prop := AlertSound State.reset.blk ∧ State.reset.blk.alertDue = false

/-! ### SYS: power-up, resets, watchdog -/

/-- Power-up and RESET_N (R40, R52 to R54, R67): the first feed starts it, the rails lead to the internal reset, under which J3
stays in high impedance, its release latches the straps, clears STC and drives SYNC_OUT low; a low level of 1 µs holds the module
in reset, with the flash and the fuses as they were. -/
def Obligations.PowerUpAndColdReset : Prop :=
  (∀ (b : Block) (feed : Nat) (dc : Bool), b.logic = .off → feed < 2 → b.feed 0 = feedOut → b.feed 1 = feedOut →
    Gives (.logicPowerOn feed dc) b (fun t => t.logic = .rising ∧ t.get F.SYS_RESET_CAUSE_CAUSE = 0 ∧ t.feed feed = feedConv
      ∧ t.feed (1 - feed) = feedOut ∧ t.fuses = b.fuses ∧ t.flt.log = b.flt.log))
  ∧ (∀ b : Block, b.logic = .rising → Gives .logicRailsUp b (fun t => t.logic = .held ∧ t.pins.railsOn = true
      ∧ t.pins.auxOn = true ∧ t.clk = b.clk ∧ SameWords [] b t ∧ SameMem b t
      ∧ (b.pins.j3On = false → ∀ k < 16, t.contact (.syncOut k) = .highZ ∧ t.contact (.slTx k) = .highZ ∧ t.contact (.audData k) = .highZ)))
  ∧ (∀ (b : Block) (straps : Nat), b.logic = .held → straps < 16 →
    Gives (.porRelease straps) b (fun t => t.logic = .running ∧ t.pins.straps = straps ∧ t.stc = 0
      ∧ t.get F.CFG_BOOT_STATUS_BOOT_SEL = straps / 4 ∧ t.clk = max b.clk b.cfg.stageFrom
      ∧ SameWords [R.CFG_BOOT_STATUS] b t ∧ SameMem b t
      ∧ (b.pins.railsOn = true → b.pins.syncOut = [false, false] → ∀ k < 2, t.contact (.syncOut k) = .low)))
  ∧ ∀ (b : Block) (low : Nat), Runs b → 1000 ≤ low →
    Gives (.coldReset low) b (fun t => t.logic = .held ∧ t.get F.SYS_RESET_CAUSE_CAUSE = 1 ∧ t.pins.alertN = true
      ∧ t.pins.syncOut = [false, false] ∧ t.pins.auxOn = b.pins.auxOn ∧ t.role = 0 ∧ t.cfg.stages = []
      ∧ t.fuses = b.fuses ∧ t.flt.log = b.flt.log ∧ t.cal.copies = b.cal.copies
      ∧ (∀ k < 4, t.contact (.audBclk k) = .low ∧ t.contact (.audData k) = .highZ))

/-- A write of SYS_RESET_CMD with its key asks for a warm reset (R493), and the warm reset reruns boot from stage ROM without
a role, with every stage and partial discarded (R117), the ring table cleared (R89), the fault log and the rest of DRAM kept. -/
def Obligations.WarmReset : Prop :=
  (∀ (b : Block) (p : Path) (v : Word), Runs b → b.gated R.SYS_RESET_CMD = false → b.asleep = false →
    F.SYS_RESET_CMD_KEY.of v.toNat = 0x5752 → F.SYS_RESET_CMD_WARM.of v.toNat = 1 →
    Gives (.warmResetRequest p v) b (fun t => t.resetWanted = some (b.resetWanted.getD 2) ∧ SameWords [] b t ∧ SameMem b t))
  ∧ ∀ (b : Block) (after cause : Nat), Runs b → b.resetWanted = some cause → cause < 4 →
    Gives (.warmReset after) b (fun t => t.stage = 0 ∧ t.role = 0 ∧ t.get F.SYS_RESET_CAUSE_CAUSE = cause
      ∧ t.cfg.stages = [] ∧ t.cfg.part.image = none ∧ t.resetWanted = none ∧ t.flt.log = b.flt.log ∧ t.fuses = b.fuses
      ∧ (∀ a, a < 2 ^ 24 → t.dramByte a = 0) ∧ ∀ a, 2 ^ 24 ≤ a → t.dramByte a = b.dramByte a)

/-- The watchdog (R493): EN from 0 to 1 and a kick with 0xA5 start the count from TIMEOUT_MS, at least 10 ms; half of it
passed sets WDT_WARN; at its end a warm reset begins with cause 0x3, and EN is 0. -/
def Obligations.Watchdog : Prop :=
  (∀ (b : Block) (p : Path) (v : Word), Runs b → b.gated R.SYS_WDT_CTRL = false → b.bit F.SYS_WDT_CTRL_EN = false →
    F.SYS_WDT_CTRL_EN.of v.toNat = 1 →
    Gives (.wdtEnable p v) b (fun t => t.bit F.SYS_WDT_CTRL_EN = true ∧ t.wdtStart = b.clk
      ∧ t.wdtMs = max 10 (F.SYS_WDT_CTRL_TIMEOUT_MS.of v.toNat) ∧ t.get F.SYS_WDT_CTRL_TIMEOUT_MS = F.SYS_WDT_CTRL_TIMEOUT_MS.of v.toNat
      ∧ SameWords [R.SYS_WDT_CTRL] b t ∧ SameMem b t))
  ∧ (∀ (b : Block) (p : Path) (v : Word), Runs b → b.gated R.SYS_WDT_KICK = false → F.SYS_WDT_KICK_KEY.of v.toNat = 0xA5 →
    Gives (.wdtKick p v) b (fun t => t.wdtStart = b.clk ∧ t.wdtMs = max 10 (b.get F.SYS_WDT_CTRL_TIMEOUT_MS)
      ∧ t.wdtWarned = false ∧ SameWords [] b t ∧ SameMem b t))
  ∧ (∀ b : Block, Runs b → b.wdtCounts = true → b.wdtWarned = false →
    Gives .wdtWarn b (fun t => t.get F.SYS_IRQ_STATUS_WDT_WARN = 1 ∧ t.clk = max b.clk (b.wdtStart + b.wdtMs * 500000)
      ∧ SameWords [R.SYS_IRQ_STATUS] b t ∧ SameMem b t))
  ∧ ∀ b : Block, Runs b → b.wdtCounts = true →
    Gives .wdtExpiry b (fun t => t.get F.SYS_RESET_CAUSE_CAUSE = 3 ∧ t.stage = 0 ∧ t.role = 0
      ∧ t.bit F.SYS_WDT_CTRL_EN = false ∧ t.flt.log = b.flt.log)

/-- The bits of the register file that a warm reset keeps (R17, R18): in every word, those its row keeps stand and the others
are at their reset value. -/
def Obligations.WarmResetBits : Prop :=
  ∀ (n old : Block) (k : Nat) (r : Row), n.regs = [] → cellsWf keyReset old.regs = true → rowAt (keyAddr k) = some r →
    (n.keepBits old).word k
      = (old.word k &&& BitVec.ofNat 32 r.keep) ||| (keyReset k &&& ~~~(BitVec.ofNat 32 r.keep))

/-! ### Register accesses -/

/-- What a write does to each bit of a word (R11, R16): a bit that can be written takes the value, a W1C bit is cleared by a
1, every other bit stays. -/
def Obligations.WriteBitByBit : Prop :=
  ∀ (r : Row) (old v : Word) (i : Nat), i < 32 → (writeBits r old v).getLsbD i =
    ((if r.wr.testBit i then v.getLsbD i else old.getLsbD i) && !(v.getLsbD i && r.w1c.testBit i))

/-- R10: an access that is narrow or unaligned, or that addresses no register, has no effect but the sticky HIF_ERR.ADDR with its
interrupt event, and a read of such an address returns 0. `accessRow a 4` is the register, or the active copy of one, at address
`a`. -/
def Obligations.AccessToNoRegister : Prop :=
  ∀ (b : Block) (p : Path) (a n : Nat) (v : Word) (x : Ext), Runs b → n ≠ 4 ∨ a % 4 ≠ 0 ∨ accessRow a 4 = none →
    Gives (.regWrite p a n v x) b (fun t => t.bit F.HIF_ERR_ADDR = true ∧ t.out = b.out
      ∧ SameWords [R.HIF_ERR, R.HIF_IRQ_STATUS] b t ∧ SameMem b t)
    ∧ Gives (.rcRead p a n) b (fun t => t.out = .read p a 0 :: b.out ∧ t.bit F.HIF_ERR_ADDR = true
      ∧ SameWords [R.HIF_ERR, R.HIF_IRQ_STATUS] b t ∧ SameMem b t)
    ∧ Gives (.pairLowRead p a n) b (fun t => t.out = .read p a 0 :: b.out ∧ t.bit F.HIF_ERR_ADDR = true
      ∧ SameWords [R.HIF_ERR, R.HIF_IRQ_STATUS] b t ∧ SameMem b t)

/-- A write to a register that gives no command and has no rule of its own takes the bits of R11 and changes nothing else. -/
def Obligations.RegisterWrites : Prop :=
  ∀ (b : Block) (p : Path) (a : Nat) (v : Word) (x : Ext) (r : Row), Runs b → accessRow a 4 = some r → baseOf a = a →
    b.gated a = false → (if a < 0x100000 then b.commandLow p a v x else b.commandHigh a v x) = none →
    b.ignores a v.toNat = false → b.writeValue a v.toNat (b.word (keyOf p r a)).toNat = v.toNat →
    (a < R.HIF_RING_POOL_LO ∨ R.HIF_RING_POOL_SIZE < a) → a ≠ R.PTP_CTRL →
    Gives (.regWrite p a 4 v x) b (fun t => t.word (keyOf p r a) = writeBits r (b.word (keyOf p r a)) v
      ∧ SameWords [keyOf p r a] b t ∧ SameMem b t)

/-- Reads with an effect: a read of an RC register returns its value and clears the RC bits (R11); a read of the low register of a
pair latches the high one for its path, and the next read of the high one through that path returns and consumes the latch (R14).
The current time through PTP_STC_LO and PTP_STC_HI is one 64-bit value (R14, R173): the low word is STC's, and the high word read
next through the same path is STC's of the moment the low one was read. -/
def Obligations.ReadsWithAnEffect : Prop :=
  (∀ (b : Block) (p : Path) (a : Nat) (r : Row), Runs b → accessRow a 4 = some r → b.gated (baseOf a) = false →
    a ≠ R.HIF_RX_DATA → isDramCount a = false → isLow a = false → isHigh a = false → (decide (4 ≤ a) && isDramCount (a - 4)) = false →
    r.rc ≠ 0 →
    Gives (.rcRead p a 4) b (fun t => t.out = .read p a (b.shown p r a) :: b.out
      ∧ t.word (keyOf p r a) = b.word (keyOf p r a) &&& ~~~(BitVec.ofNat 32 r.rc) ∧ SameWords [keyOf p r a] b t ∧ SameMem b t))
  ∧ (∀ (b : Block) (p : Path) (a : Nat) (r h : Row), Runs b → accessRow a 4 = some r → accessRow (a + 4) 4 = some h →
    b.gated (baseOf a) = false → a ≠ R.HIF_RX_DATA → isDramCount a = false → isLow a = true →
    Gives (.pairLowRead p a 4) b (fun t => t.out = .read p a (b.shown p r a) :: b.out
      ∧ t.latchOf p (a + 4) = some (b.shown p h (a + 4)) ∧ SameWords [] b t ∧ SameMem b t))
  ∧ (∀ (b : Block) (p : Path) (a : Nat) (h : Row) (v : Word), Runs b → accessRow a 4 = some h → b.gated (baseOf a) = false →
    a ≠ R.HIF_RX_DATA → isDramCount a = false → isLow a = false → isHigh a = true → b.latchOf p a = some v →
    Gives (.rcRead p a 4) b (fun t => t.out = .read p a v :: b.out ∧ t.latchOf p a = none ∧ SameWords [] b t ∧ SameMem b t))
  ∧ ∀ (b : Block) (p : Path), Runs b → b.gated R.PTP_STC_LO = false → b.stc < 2 ^ 64 →
    Gives (.pairLowRead p R.PTP_STC_LO 4) b (fun t => t.out = .read p R.PTP_STC_LO (BitVec.ofNat 32 b.stc) :: b.out
      ∧ t.latchOf p R.PTP_STC_HI = some (BitVec.ofNat 32 (b.stc / 2 ^ 32)))

/-! ### I3C -/

/-- Private writes and reads (R75 to R78): a WRITE or WRITE_FIXED of one word acts as the register write at its address; SET_READ
and SET_READ_FIXED take the read address; a private read of a ready word returns what the register read returns, and the read
address rises by 4 unless it is fixed. -/
def Obligations.I3cPrivateTransfers : Prop :=
  (∀ (b : Block) (x : Ext) (a0 a1 a2 a3 d0 d1 d2 d3 : Byte), Runs b → ∀ q : List Instr,
    exec (.i3cWrite b.i3cAddr [0x01, a0, a1, a2, a3, d0, d1, d2, d3] false x) ⟨b, q⟩
      = exec (.regWrite .i3c (leNat [a0, a1, a2, a3]) 4 (BitVec.ofNat 32 (leNat [d0, d1, d2, d3])) x) ⟨b, q⟩
    ∧ exec (.i3cWriteFixed b.i3cAddr [0x03, a0, a1, a2, a3, d0, d1, d2, d3] false x) ⟨b, q⟩
      = exec (.regWrite .i3c (leNat [a0, a1, a2, a3]) 4 (BitVec.ofNat 32 (leNat [d0, d1, d2, d3])) x) ⟨b, q⟩)
  ∧ (∀ (b : Block) (x : Ext) (a0 a1 a2 a3 d0 d1 d2 d3 : Byte), Runs b →
    Gives (.i3cWrite b.i3cAddr [0x01, a0, a1, a2, a3, d0, d1, d2, d3] false x) b (fun t =>
      t = (b.writeReg .i3c (leNat [a0, a1, a2, a3]) 4 (BitVec.ofNat 32 (leNat [d0, d1, d2, d3])) x).settle)
    ∧ Gives (.i3cWriteFixed b.i3cAddr [0x03, a0, a1, a2, a3, d0, d1, d2, d3] false x) b (fun t =>
      t = (b.writeReg .i3c (leNat [a0, a1, a2, a3]) 4 (BitVec.ofNat 32 (leNat [d0, d1, d2, d3])) x).settle))
  ∧ (∀ (b : Block) (x : Ext) (a0 a1 a2 a3 : Byte), Runs b →
    Gives (.i3cSetRead b.i3cAddr [0x02, a0, a1, a2, a3] false x) b (fun t => t.i3c.readAddr = leNat [a0, a1, a2, a3]
      ∧ t.i3c.readFixed = false ∧ SameWords [] b t ∧ SameMem b t)
    ∧ Gives (.i3cSetReadFixed b.i3cAddr [0x04, a0, a1, a2, a3] false x) b (fun t => t.i3c.readAddr = leNat [a0, a1, a2, a3]
      ∧ t.i3c.readFixed = true ∧ SameWords [] b t ∧ SameMem b t))
  ∧ ∀ b : Block, Runs b → b.bit F.HIF_I3C_STATUS_DA_VALID = true → 4 ≤ b.i3c.mrl →
    Gives (.i3cPrivateRead b.i3cAddr [true] false) b (fun t =>
      t.out.head? = some (.i3cWords [(b.readReg .i3c b.i3c.readAddr 4).1])
      ∧ t.i3c.readAddr = (if b.i3c.readFixed then b.i3c.readAddr else (b.i3c.readAddr + 4) % 2 ^ 32))

/-- Dynamic address assignment (R71 to R73): the winner of ENTDAA and the target of SETDASA take the address, SETNEWDA changes it,
RSTDAA gives it up; the target then answers its static address, 0x4C plus the straps ADDR1 and ADDR0 (R52). Common command codes
(R71, R72, R100): what the module sets and what it answers. The order of the bytes of GETMWL, GETMRL and GETPID, the events byte
of ENEC and DISEC, and what an unsupported code does are the model's choices (log entry 35); the bytes of GETSTATUS and GETMXDS
are free. -/
def Obligations.I3cAddressAndCodes : Prop :=
  (∀ (b : Block) (da : Nat), Runs b → b.bit F.HIF_I3C_STATUS_DA_VALID = false → da < 128 →
    Gives (.entdaa true da) b (fun t => t.i3cAddr = da ∧ t.bit F.HIF_I3C_STATUS_DA_VALID = true
      ∧ SameWords [R.HIF_I3C_STATUS] b t ∧ SameMem b t)
    ∧ Gives (.setdasa (0x4C + b.pins.straps % 4) da) b (fun t => t.i3cAddr = da ∧ t.bit F.HIF_I3C_STATUS_DA_VALID = true
      ∧ SameWords [R.HIF_I3C_STATUS] b t ∧ SameMem b t))
  ∧ (∀ (b : Block) (da : Nat), Runs b → b.bit F.HIF_I3C_STATUS_DA_VALID = true → da < 128 →
    Gives (.setnewda (b.get F.HIF_I3C_STATUS_DA) da) b (fun t => t.i3cAddr = da
      ∧ SameWords [R.HIF_I3C_STATUS] b t ∧ SameMem b t))
  ∧ (∀ b : Block, Runs b → Gives .rstdaa b (fun t => t.bit F.HIF_I3C_STATUS_DA_VALID = false
      ∧ t.i3cAddr = 0x4C + b.pins.straps % 4 ∧ SameWords [R.HIF_I3C_STATUS] b t ∧ SameMem b t))
  ∧ (∀ (b : Block) (target : Option Nat) (events : Byte), Runs b → b.cccAny target = true → events.toNat % 2 = 1 →
    Gives (.enec target events) b (fun t => t.bit F.HIF_I3C_STATUS_IBI_ENABLED = true ∧ SameWords [R.HIF_I3C_STATUS] b t ∧ SameMem b t)
    ∧ Gives (.disec target events) b (fun t => t.bit F.HIF_I3C_STATUS_IBI_ENABLED = false ∧ SameWords [R.HIF_I3C_STATUS] b t ∧ SameMem b t))
  ∧ (∀ (b : Block) (target : Option Nat) (v : Nat), Runs b → b.cccAny target = true → 8 ≤ v → v < 2 ^ 16 →
    Gives (.setmwl target v) b (fun t => t.i3c.mwl = v ∧ SameWords [] b t ∧ SameMem b t)
    ∧ Gives (.setmrl target v) b (fun t => t.i3c.mrl = v ∧ SameWords [] b t ∧ SameMem b t))
  ∧ (∀ (b : Block) (a : Nat), Runs b → b.ccc a = true →
    Gives (.getmwl a) b (fun t => t.out = .i3cBytes (leBytes 2 b.i3c.mwl).reverse :: b.out ∧ SameWords [] b t ∧ SameMem b t)
    ∧ Gives (.getmrl a) b (fun t => t.out = .i3cBytes ((leBytes 2 b.i3c.mrl).reverse ++ [9]) :: b.out ∧ SameWords [] b t ∧ SameMem b t)
    ∧ Gives (.getpid a) b (fun t => t.out = .i3cBytes (leBytes 6 (0x365C96240000 + b.pins.straps % 4 * 2 ^ 12
        + b.fuses.serial % 2 ^ 12)).reverse :: b.out ∧ SameWords [] b t ∧ SameMem b t)
    ∧ Gives (.getbcr a) b (fun t => t.out = .i3cBytes [0x26] :: b.out ∧ SameWords [] b t ∧ SameMem b t)
    ∧ Gives (.getdcr a) b (fun t => t.out = .i3cBytes [0x00] :: b.out ∧ SameWords [] b t ∧ SameMem b t)
    ∧ Gives (.getstatus a) b (fun t => (∃ x y : Byte, t.out = .i3cBytes [x, y] :: b.out) ∧ SameWords [] b t ∧ SameMem b t)
    ∧ Gives (.getmxds a) b (fun t => (∃ x y : Byte, t.out = .i3cBytes [x, y] :: b.out) ∧ SameWords [] b t ∧ SameMem b t)
    ∧ Gives (.unsupportedCcc (some a)) b (fun t => t.out = .i3cNack :: b.out ∧ SameWords [] b t ∧ SameMem b t))
  ∧ ∀ b : Block, Runs b →
    Gives .enthdr0 b (fun t => t.bit F.HIF_I3C_STATUS_HDR = true ∧ SameWords [R.HIF_I3C_STATUS] b t ∧ SameMem b t)
    ∧ Gives .hdrExit b (fun t => t.bit F.HIF_I3C_STATUS_HDR = false ∧ SameWords [R.HIF_I3C_STATUS] b t ∧ SameMem b t)
    ∧ Gives (.unsupportedCcc none) b (fun t => t.out = b.out ∧ SameWords [] b t ∧ SameMem b t)

/-! ### Interrupts -/

/-! ### Messages and rings -/

/-- Messages for the host are queued in the ring of their source (R83, R90, R94): NOTIFY, an application message, and a response
to a request that awaits it; the ring is populated if it was not, and RX_AVAIL is set. A message for another node leaves by the
Lysrov port its slot lies toward, as it came (R86, R244), and is not counted as dropped. -/
def Obligations.MessagesAreQueuedOrForwarded : Prop :=
  (∀ (b b1 b2 : Block) (rx : Rx), Runs b → b.receive rx = .accepted b1 → nodeReserved rx.msg.src = false → rx.msg.src ≠ nodeAll →
    (b1.readRing rx.msg.src).populate rx.msg.src = some b2 → (b2.ring rx.msg.src).inQ.length < (b2.ring rx.msg.src).slots →
    Gives (.notifyMsg rx) b (fun t => (t.ring rx.msg.src).inQ = (b2.ring rx.msg.src).inQ ++ [rx.msg]
        ∧ t.bit F.HIF_IRQ_STATUS_RX_AVAIL = true)
      ∧ Gives (.applicationMessage rx) b (fun t => (t.ring rx.msg.src).inQ = (b2.ring rx.msg.src).inQ ++ [rx.msg]
        ∧ t.bit F.HIF_IRQ_STATUS_RX_AVAIL = true))
  ∧ (∀ (b b1 b2 : Block) (rx : Rx) (r : Request), Runs b → b.receive rx = .accepted b1 → nodeReserved rx.msg.src = false →
    rx.msg.src ≠ nodeAll → (b1.readRing rx.msg.src).populate rx.msg.src = some b2 →
    (b2.ring rx.msg.src).inQ.length < (b2.ring rx.msg.src).slots → rx.msg.response = true → rx.msg.type ≠ 0x04 →
    b1.hif.requests.find? (b1.answers rx) = some r → rx.msg.src ∉ r.from' →
    Gives (.messageResponse rx) b (fun t => (t.ring rx.msg.src).inQ = (b2.ring rx.msg.src).inQ ++ [rx.msg]
      ∧ t.bit F.HIF_IRQ_STATUS_RX_AVAIL = true
      ∧ ∀ q ∈ t.hif.requests, b1.answers rx q = true → rx.msg.src ∈ q.from'))
  ∧ ∀ (b b1 : Block) (rx : Rx) (p : Nat), Runs b → b.consumes rx.msg = false → b.passesBulk rx = none → b.letIn rx = .accepted b1 →
    b1.route rx.msg.dest false = .out (.lnk p) → b1.bit (F.LNKn_STATUS_SESSION_UP p) = true → b1.carries p = true →
    b1.seqRepeats p rx.msg = false →
    Gives (.messageForward rx) b (fun t => t.get F.HIF_DROP_DEST = b1.get F.HIF_DROP_DEST ∧ SameMem b1 t
      ∧ ∃ w, t.out = .msg (.lnk p) rx.msg w :: b1.out)

/-- REG_ACCESS reads and FETCH are answered on the way they came, with the response kept for duplicates (R83 to R85, R96): a read of
one register with its value, a range of the export window with its bytes of DRAM. -/
def Obligations.RequestsAreAnswered : Prop :=
  (∀ (b b1 : Block) (rx : Rx) (x : Ext) (fi st a d : Nat) (r : Row), Runs b → b.receive rx = .accepted b1 →
    rx.msg.body = .regAccess 1 fi st [(a, d)] → rx.msg.response = false → a % 4 = 0 → accessRow a 4 = some r →
    rx.msg.length = (if rx.msg.auth then 44 else 28) → b1.lnk.identityLost = false →
    Gives (.regAccess rx x) b (fun t => ∃ m : Msg, t.hif.held.head? = some (rx.msg.src, m) ∧ m.response = true ∧ m.error = false
      ∧ m.seq = rx.msg.seq ∧ m.dest = rx.msg.src
      ∧ m.body = .regAccess 1 0xFF 0 [(a, (b1.readReg (pathOf rx.via) a 4).1.toNat)]))
  ∧ ∀ (b b1 : Block) (rx : Rx) (addr len i : Nat), Runs b → b.receive rx = .accepted b1 → rx.msg.body = .fetch addr len i →
    b1.exported addr len = true → b1.lnk.identityLost = false →
    Gives (.fetchMsg rx) b (fun t => ∃ m : Msg, t.hif.held.head? = some (rx.msg.src, m) ∧ m.type = 0x04 ∧ m.response = true
      ∧ m.error = false ∧ m.seq = rx.msg.seq ∧ m.body = .data addr len i (b1.dramRead addr len) ∧ SameMem b1 t)

/-- Bulk channels (R97, R102): START sets BUSY and clears ERR, ABORT ends in IDLE, the data of the last chunk is written and ends
in DONE, a chunk that has had no answer is asked for again with one try more, and the third retry's failure ends in ERROR. -/
def Obligations.BulkChannels : Prop :=
  (∀ (b : Block) (p : Path) (n : Nat) (v : Word), Runs b → n < 8 → b.hif.channels.length = 8 → b.gated (R.HIF_DMAn_CMD n) = false →
    (F.HIF_DMAn_CMD_START n).of v.toNat = 1 → (F.HIF_DMAn_CMD_ABORT n).of v.toNat = 0 → b.dmaBusy n = false →
    b.inDram (b.dmaSpan n) = true → (b.dmaSpan n).clearOf [ringTable, b.ringPool] = true → 0 < (b.dmaSpan n).len →
    Gives (.hifDmaStart p n v) b (fun t => t.get (F.HIF_DMAn_STATUS_STATE n) = 1 ∧ t.get (F.HIF_DMAn_STATUS_ERR n) = 0
      ∧ (t.channel n).next = min 8 (ceilDiv (b.dmaSpan n).len 4096)))
  ∧ (∀ (b : Block) (p : Path) (n : Nat) (v : Word), Runs b → n < 8 → b.hif.channels.length = 8 → b.gated (R.HIF_DMAn_CMD n) = false →
    (F.HIF_DMAn_CMD_START n).of v.toNat = 0 → (F.HIF_DMAn_CMD_ABORT n).of v.toNat = 1 →
    Gives (.hifDmaAbort p n v) b (fun t => t.get (F.HIF_DMAn_STATUS_STATE n) = 0 ∧ t.get (F.HIF_DMAn_STATUS_ERR n) = 0
      ∧ (t.channel n).open' = []
      ∧ SameWords [R.HIF_DMAn_STATUS n] b t ∧ SameMem b t))
  ∧ (∀ (b b1 : Block) (rx : Rx) (n a i len : Nat) (c : Chunk) (bs : List Byte), Runs b → b.receive rx = .accepted b1 →
    n < 8 → b1.hif.channels.length = 8 → rx.msg.response = true → rx.msg.error = false → rx.msg.body = .data a len i bs →
    b1.dmaMatch rx.msg.src rx.msg.seq = some (n, c) → b1.channel n = ⟨i + 1, i + 1, [c]⟩ → c.index = i →
    bs.length = b1.chunkLen n i → len = bs.length → b.passesBulk rx = none →
    Gives (.dataMsg rx) b (fun t => t.get (F.HIF_DMAn_STATUS_STATE n) = 2 ∧ t.bit F.HIF_IRQ_STATUS_DMA_DONE = true
      ∧ t.dramBytes ((b1.dmaSpan n).base + 4096 * i) bs.length = bs
      ∧ ∀ x, x < (b1.dmaSpan n).base + 4096 * i ∨ (b1.dmaSpan n).base + 4096 * i + bs.length ≤ x → t.dramByte x = b1.dramByte x))
  ∧ ∀ (b : Block) (n i : Nat) (k : Chunk), Runs b → n < 8 → b.hif.channels.length = 8 →
    (b.channel n).open'.find? (fun c => c.index == i) = some k →
    (3 ≤ k.tries → Gives (.dmaChunkTimeout n i) b (fun t => t.get (F.HIF_DMAn_STATUS_STATE n) = 3
      ∧ t.get (F.HIF_DMAn_STATUS_ERR n) = 0x30 ∧ t.bit F.HIF_IRQ_STATUS_DMA_ERR = true ∧ t.clk = max b.clk k.due ∧ SameMem b t))
    ∧ (k.tries < 3 → Gives (.dmaChunkTimeout n i) b (fun t => (∃ c ∈ (t.channel n).open', c.index = i ∧ c.tries = k.tries + 1
      ∧ c.due = t.clk + 10000000) ∧ t.clk = max b.clk k.due))

/-- The mailbox (R93, R94): selecting a ring presents its oldest message, reading moves on word by word, popping removes it from
the ring, a data word is staged, and a command with a type from 0x40 up for node 0 queues the staged message in ring 0. -/
def Obligations.Mailbox : Prop :=
  (∀ (b : Block) (p : Path) (v : Word) (m : Msg) (l : List Msg), Runs b → b.gated R.HIF_RX_SEL = false → b.hif.boxes.length = 4 →
    F.HIF_RX_SEL_NODE.of v.toNat ≠ nodeAll → (b.ring (F.HIF_RX_SEL_NODE.of v.toNat)).inQ = m :: l →
    ringSound (b.ringBytes (F.HIF_RX_SEL_NODE.of v.toNat)) = true →
    Gives (.hifRxSel p v) b (fun t => (t.box p).presented = some (F.HIF_RX_SEL_NODE.of v.toNat, m) ∧ (t.box p).ptr = 0
      ∧ t.bit (F.HIF_RX_INFO_VALID.on p) = true ∧ t.get (F.HIF_RX_INFO_TYPE.on p) = m.type % 256 ∧ SameMem b t))
  ∧ (∀ (b : Block) (p : Path) (n : Nat) (m : Msg), Runs b → b.gated R.HIF_RX_DATA = false → b.hif.boxes.length = 4 →
    (b.box p).presented = some (n, m) → 4 * (b.box p).ptr < m.slotBytes.length →
    Gives (.hifRxData p) b (fun t => (t.box p).ptr = (b.box p).ptr + 1
      ∧ t.out = .read p R.HIF_RX_DATA (BitVec.ofNat 32 (leNat ((m.slotBytes.drop (4 * (b.box p).ptr)).take 4))) :: b.out
      ∧ SameWords [] b t ∧ SameMem b t))
  ∧ (∀ (b : Block) (p : Path) (n : Nat) (v : Word) (m : Msg) (l : List Msg), Runs b → b.gated R.HIF_RX_POP = false →
    v.toNat % 2 = 1 → (b.box p).presented = some (n, m) → (b.ring n).inQ = m :: l → ringSound (b.ringBytes n) = true →
    Gives (.hifRxPop p v) b (fun t => (t.ring n).inQ = l ∧ (t.ring n).inTail = ((b.ring n).inTail + 1) % 2 ^ 32))
  ∧ (∀ (b : Block) (p : Path) (v : Word), Runs b → b.gated R.HIF_TX_DATA = false → b.hif.boxes.length = 4 →
    (b.box p).stage.length < 56 →
    Gives (.hifTxData p v) b (fun t => (t.box p).stage = (b.box p).stage ++ [v]
      ∧ t.get (F.HIF_TX_STATUS_WORDS.on p) = (b.box p).stage.length + 1
      ∧ SameWords [pathKey p R.HIF_TX_STATUS] b t ∧ SameMem b t))
  ∧ ∀ (b b1 : Block) (p : Path) (v : Word), Runs b → b.gated R.HIF_TX_CMD = false → b.hif.boxes.length = 4 →
    (b.box p).oversize = false → 0x40 ≤ F.HIF_TX_CMD_TYPE.of v.toNat → F.HIF_TX_CMD_DEST.of v.toNat = 0 →
    b.hif.seq + 1 < 2 ^ 32 → b.populate 0 = some b1 → b.ring 0 = b1.ring 0 → (b.ring 0).inQ.length < (b.ring 0).slots →
    ringSound (b.ringBytes 0) = true → b.lnk.identityLost = false →
    Gives (.hifTxCmd p v) b (fun t => (t.box p).stage = [] ∧ t.get (F.HIF_TX_STATUS_WORDS.on p) = 0
      ∧ t.get (F.HIF_TX_STATUS_RESULT.on p) = 0
      ∧ ∃ m : Msg, (t.ring 0).inQ = (b.ring 0).inQ ++ [m] ∧ m.type = F.HIF_TX_CMD_TYPE.of v.toNat ∧ m.seq = b.hif.seq + 1
        ∧ m.body = .raw (((b.box p).stage.map (fun w => leBytes 4 w.toNat)).flatten))

/-- A ring whose halves have stayed empty for IDLE_S seconds gives its pages back (R90), and a NOTIFY leaves for HIF_NOTIFY_NODE
with HIF_IRQ_PEND (R101). In-band interrupts (R100): one that is accepted carries the mandatory byte 0x00 and HIF_IRQ_PEND, least
significant byte first, and is no longer pending unless a new one arises; one that is not accepted stays pending. -/
def Obligations.NotificationsAndInterrupts : Prop :=
  (∀ (b : Block) (n : Nat), Runs b → (b.ring n).populated = true → (b.ring n).inQ = [] → (b.ring n).outQ = [] →
    b.get F.HIF_RING_CTRL_IDLE_S ≠ 0 →
    Gives (.ringIdleRelease n) b (fun t => (t.ring n).populated = false ∧ (t.ring n).inPages = [] ∧ (t.ring n).outPages = []
      ∧ t.clk = max b.clk ((b.ring n).moved + b.get F.HIF_RING_CTRL_IDLE_S * 1000000000)))
  ∧ (∀ (b b1 : Block) (p : Nat), Runs b → b.hif.notifyPending = true → b.hif.notifyLast = none → b.hif.seq + 1 < 2 ^ 32 →
    b.get F.HIF_NOTIFY_NODE_NODE ≠ nodeAll → b.route (b.get F.HIF_NOTIFY_NODE_NODE) true = .out (.lnk p) →
    b.bit (F.LNKn_STATUS_SESSION_UP p) = true → b.populate (b.get F.HIF_NOTIFY_NODE_NODE) = some b1 →
    ringSound (b.ringBytes (b.get F.HIF_NOTIFY_NODE_NODE)) = true → b.lnk.identityLost = false → p < 2 →
    Gives .notifySend b (fun t => t.hif.notifyLast = some b.clk ∧ t.hif.seq = b.hif.seq + 1
      ∧ ∃ (m : Msg) (w : List Byte), t.out.head? = some (.msg (.lnk p) m w) ∧ m.type = 0x02 ∧ m.dest = b.get F.HIF_NOTIFY_NODE_NODE
        ∧ m.seq = b.hif.seq + 1 ∧ m.body = .notify b.irqPend))
  ∧ ∀ b : Block, Runs b → b.i3c.ibiPending = true → b.ibiAllowed = true →
    Gives (.ibiRaise true) b (fun t => t.out = .ibi (0x00 :: leBytes 8 b.irqPend) :: b.out ∧ SameWords [] b t ∧ SameMem b t)
    ∧ (Nat.land b.irqPend (b.pair F.HIF_IBI_EN_LO F.HIF_IBI_EN_HI) ≠ 0 →
      Gives (.ibiRaise false) b (fun t => t.out = b.out ∧ t.i3c.ibiPending = true ∧ SameWords [] b t ∧ SameMem b t))

/-! ### Boot -/

/-- The stages ROM and MEM (R114, R354, R475): a self-test without a finding leads to MEM, one with a finding or a failed known
answer to HOLD; DRAM that trains on every channel leads to SLOT with the slots BOOT_SEL names still to be tried, a channel that
fails every attempt to HOLD. A stage ends at the time its event carries, at most its bound. -/
def Obligations.SelfTestAndTraining : Prop :=
  (∀ (b : Block) (hard soft beyond after : Nat), Runs b → b.stage = 0 →
    Gives (.postComplete true none hard soft beyond after) b (fun t => t.stage = 1 ∧ t.get F.BST_RESULT_RESULT = 1
      ∧ t.clk = max b.clk (b.cfg.stageFrom + min after 30000000) ∧ t.cfg.stageFrom = t.clk
      ∧ SameOutside [0x02, 0x08] b t ∧ SameMem b t))
  ∧ (∀ (b : Block) (mem addr bit words hard soft beyond after : Nat), Runs b → b.stage = 0 → mem < 256 → words < 2 ^ 16 →
    Gives (.postComplete true (some (mem, addr, bit, words)) hard soft beyond after) b (fun t => t.stage = 0xE
      ∧ t.get F.BST_RESULT_RESULT = 2 ∧ t.bit F.BST_ERR_FAIL = true ∧ t.get F.BST_FAIL_BIT_COUNT = words
      ∧ SameOutside [0x02, 0x08, 0x30] b t ∧ SameMem b t))
  ∧ (∀ (b : Block) (fault : Option (Nat × Nat × Nat × Nat)) (hard soft beyond after : Nat), Runs b → b.stage = 0 →
    Gives (.postComplete false fault hard soft beyond after) b (fun t => t.stage = 0xE ∧ t.updState = updLocked
      ∧ t.bit E.UPD_KAT_FAIL.fld = true ∧ SameOutside [0x02, 0x07, 0x30] b t ∧ SameMem b t))
  ∧ (∀ (b : Block) (attempts : List (List (List (Nat × Nat)))) (after : Nat), Runs b → b.stage = 1 → attempts.length = 4 →
    (∀ l ∈ attempts, l ≠ [] ∧ b.attemptOk (l.headD []) = true) → b.get F.CFG_BOOT_STATUS_BOOT_SEL < 2 →
    Gives (.dramTrainingComplete attempts after) b (fun t => t.stage = 2 ∧ t.get F.DRM_STATUS_TRAINED = 15
      ∧ t.clk = max b.clk (b.cfg.stageFrom + min after (if b.fuses.h128 then 120000000 else 40000000))
      ∧ t.cfg.slotsLeft.length = (if b.get F.CFG_BOOT_STATUS_BOOT_SEL = 0 then 3 else 1)
      ∧ t.get F.QDR_STATUS_READY = 3 ∧ SameOutside [0x02, 0x07, 0x28, 0x29, 0x30] b t ∧ SameMem b t))
  ∧ ∀ (b : Block) (attempts : List (List (List (Nat × Nat)))) (after : Nat), Runs b → b.stage = 1 → attempts.length = 4 →
    (∀ l ∈ attempts, ∀ a ∈ l.take 3, b.attemptOk a = false) →
    Gives (.dramTrainingComplete attempts after) b (fun t => t.stage = 0xE ∧ t.bit F.DRM_ERR_TRAIN_FAIL = true
      ∧ t.upd.noDram = true ∧ SameOutside [0x02, 0x28, 0x29, 0x30] b t ∧ SameMem b t)

/-- A slot's check (R111, R112): an image that passes leads to LOAD and leaves 0 as the slot's result; one that fails leaves the
low byte of its code, and the next slot is tried, or none is left and the module holds in stage 0xE with BOOT_NONE. -/
def Obligations.SlotChecks : Prop :=
  (∀ (b : Block) (s after : Nat) (rest : List Nat), Runs b → b.stage = 2 → b.cfg.slotsLeft = s :: rest → s < 3 →
    checkFull b.fuses b.slotImage = none →
    Gives (.slotCheckComplete after) b (fun t => t.stage = 3 ∧ t.get (slotResult s) = 0 ∧ t.cfg.slotsLeft = s :: rest
      ∧ t.clk = max b.clk (b.cfg.stageFrom + min after (slotBound b.slotImage)) ∧ SameOutside [0x02, 0x07] b t ∧ SameMem b t))
  ∧ ∀ (b : Block) (s after : Nat) (rest : List Nat) (e : Err), Runs b → b.stage = 2 → b.cfg.slotsLeft = s :: rest → s < 3 →
    checkFull b.fuses b.slotImage = some e →
    Gives (.slotCheckComplete after) b (fun t => t.get (slotResult s) = e.code % 256
      ∧ t.stage = (if rest.isEmpty then 0xE else 2) ∧ t.cfg.slotsLeft = rest
      ∧ (rest.isEmpty = true → t.bit F.CFG_ERR_BOOT_NONE = true))

/-- The end of LOAD (R115, R114): with its tables and the code of its engines loaded, these in bank 0, and the boot commit's
checks passed, the image's SLOT and BUILD_ID stand, every shadow value is active, the image runs, and the stage is ROLE before the
role and frame 0 take their effect. -/
def Obligations.LoadAndBootCommit : Prop :=
  (∀ (b c : Block) (i : Image) (after : Nat), Runs b → b.stage = 3 → b.slotImage = some i →
    (b.loadRegisters i after).loadTables i (fun _ => 0) = (none, c) →
    (c.loadEngines i).bootChecks ((imageRole i).getD roleTile) = none →
    Gives (.loadComplete after) b (fun t => t = ((((c.loadEngines i).bootImage i).bootRole i).frameZero).settle))
  ∧ (∀ (c : Block) (i : Image), (c.loadEngines i).cfg.engines = (imageEngines i).map (fun e => (e, 0))
    ∧ (∀ x ∈ imageCode i, ∃ y ∈ (c.loadEngines i).cfg.codes, y.engine = x.1 ∧ y.bank = 0) ∧ SameWords [] c (c.loadEngines i)
    ∧ SameMem c (c.loadEngines i))
  ∧ (∀ (b : Block) (i : Image), b.cfg.slotsLeft.headD 0 < 3 → i.buildId < 2 ^ 64 → (b.bootImage i).stage = 4
    ∧ (b.bootImage i).get F.CFG_BOOT_STATUS_SLOT = b.cfg.slotsLeft.headD 0 + 1
    ∧ (b.bootImage i).pair F.CFG_BUILD_ID_LO F.CFG_BUILD_ID_HI = i.buildId ∧ (b.bootImage i).cfg.running = some i
    ∧ (b.bootImage i).cfg.slotsLeft = [] ∧ SameMem b (b.bootImage i))
  ∧ ∀ (b : Block) (i : Image) (k : Nat), cellsWf keyReset b.regs = true → isRws k = true →
    (b.bootImage i).word (k + activeOffset) = b.word k ∧ (b.bootImage i).word k = b.word k

/-- LINK begins with a Lysrov port trained and the slot known (R114), and a REFCLK that has not met R55 within 5 ms of the reset
is declared lost, with the cause and PTP_ERR.REFCLK_LOSS (R113). REFCLK (R174 to R176, R337): a period that departs by more than
GLITCH_PS is counted, one that does not changes nothing; a loss moves the XO to the internal oscillator with its cause,
REFCLK_LOSS and every lane PLL unlocked; with AUTO_RETURN its return moves it back. -/
def Obligations.BootClockAndReferenceClock : Prop :=
  (∀ (b : Block) (t : Topology), Runs b → b.stage = 4 → (b.trained 2 || b.trained 3) = true → b.cfg.topo = some t →
    b.bit F.LNK_CHAIN_STATUS_SLOT_VALID = true →
    Gives .linkStageEntry b (fun u => (u.stage = 5 ∨ u.stage = 6) ∧ SameOutside [0x02] b u ∧ SameMem b u))
  ∧ (∀ (b : Block) (cause : Nat), Runs b → b.clocks.refMet = false → b.clocks.bootLost = false →
    b.bit F.PTP_REFCLK_STATUS_SOURCE = false → 1 ≤ cause → cause < 4 →
    Gives (.refclkBootTimeout cause) b (fun t => t.bit F.PTP_REFCLK_STATUS_SOURCE = true ∧ t.get F.PTP_REFCLK_STATUS_CAUSE = cause
      ∧ t.bit F.PTP_ERR_REFCLK_LOSS = true ∧ t.clk = max b.clk (b.clocks.resetAt + 5000000)
      ∧ SameOutside [0x13, 0x30] b t ∧ SameMem b t))
  ∧ (∀ (b : Block) (ps : Nat), Runs b → max ps 10000 - min ps 10000 ≤ b.get F.PTP_REFCLK_MON_GLITCH_PS →
    Gives (.refclkGlitch ps) b (fun t => SameWords [] b t ∧ SameMem b t ∧ t.clocks = b.clocks))
  ∧ (∀ (b : Block) (ps : Nat), Runs b → b.get F.PTP_REFCLK_MON_GLITCH_PS < max ps 10000 - min ps 10000 → b.clocks.glitches = [] →
    Gives (.refclkGlitch ps) b (fun t => t.get F.PTP_REFCLK_GLITCH = min (b.get F.PTP_REFCLK_GLITCH + 1) (2 ^ 32 - 1)
      ∧ t.clocks.glitches = [b.clk] ∧ SameWords [R.PTP_REFCLK_GLITCH] b t ∧ SameMem b t))
  ∧ (∀ (b : Block) (cause : Nat), Runs b → b.clocks.refMet = true → b.bit F.PTP_REFCLK_STATUS_SOURCE = false → 1 ≤ cause →
    cause < 4 →
    Gives (.refclkLoss cause) b (fun t => t.bit F.PTP_REFCLK_STATUS_SOURCE = true ∧ t.get F.PTP_REFCLK_STATUS_CAUSE = cause
      ∧ t.bit F.PTP_ERR_REFCLK_LOSS = true))
  ∧ ∀ b : Block, Runs b → b.bit F.PTP_REFCLK_STATUS_SOURCE = true → b.bit F.PTP_REFCLK_MON_AUTO_RETURN = true →
    Gives .refclkReturn b (fun t => t.bit F.PTP_REFCLK_STATUS_SOURCE = false ∧ t.clocks.refMet = true)

/-! ### Self-test on demand -/

/-- Self-test on demand (R477, R478): a test that may run makes BUSY and clears the last result, one that may not sets BUSY's or
PLACE's error and starts nothing; its end sets DONE and the result. -/
def Obligations.SelfTestOnDemand : Prop :=
  (∀ (b : Block) (p : Path) (v : Word), Runs b → b.gated R.BST_CMD = false → b.bit F.BST_STATUS_BUSY = false →
    (F.BST_CMD_TEST.of v.toNat = 1 → b.role = 0 →
      Gives (.bstSram p v) b (fun t => t.bit F.BST_STATUS_BUSY = true ∧ t.get F.BST_STATUS_TEST = 1
        ∧ t.get F.BST_RESULT_RESULT = 0 ∧ t.bstFrom = b.clk ∧ SameOutside [0x08] b t ∧ SameMem b t))
    ∧ (F.BST_CMD_TEST.of v.toNat = 3 → b.drives = false →
      Gives (.bstQdr p v) b (fun t => t.bit F.BST_STATUS_BUSY = true ∧ t.get F.BST_STATUS_TEST = 3
        ∧ t.get F.BST_RESULT_RESULT = 0 ∧ t.bstFrom = b.clk ∧ SameOutside [0x08] b t ∧ SameMem b t))
    ∧ (F.BST_CMD_TEST.of v.toNat = 4 → b.bstPlaced = true →
      Gives (.bstDram p v) b (fun t => t.bit F.BST_STATUS_BUSY = true ∧ t.get F.BST_STATUS_TEST = 4
        ∧ t.get F.BST_RESULT_RESULT = 0 ∧ t.bstFrom = b.clk ∧ SameOutside [0x08] b t ∧ SameMem b t)))
  ∧ (∀ (b c : Block) (p : Path) (v : Word), Runs b → b.gated R.BST_CMD = false → b.bit F.BST_STATUS_BUSY = false →
    F.BST_CMD_TEST.of v.toNat = 2 → b.clearSecrets true = (true, c) →
    Gives (.bstLogic p v true) b (fun t => t = (c.bstStart testLogic).settle ∧ t.bit F.BST_STATUS_BUSY = true
      ∧ t.get F.BST_STATUS_TEST = 2))
  ∧ (∀ (b : Block) (p : Path) (v : Word), Runs b → b.gated R.BST_CMD = false → b.bit F.BST_STATUS_BUSY = true →
    F.BST_CMD_TEST.of v.toNat = 4 →
    Gives (.bstDram p v) b (fun t => t.bit F.BST_ERR_BUSY = true ∧ t.get F.BST_STATUS_TEST = b.get F.BST_STATUS_TEST
      ∧ SameOutside [0x08, 0x30] b t ∧ SameMem b t))
  ∧ (∀ (b : Block) (soft beyond after : Nat), Runs b → b.bit F.BST_STATUS_BUSY = true → b.get F.BST_STATUS_TEST = 4 →
    Gives (.bstTestDone none soft beyond after) b (fun t => t.bit F.BST_STATUS_BUSY = false ∧ t.get F.BST_RESULT_TEST = 4
      ∧ t.get F.BST_RESULT_RESULT = 1 ∧ t.bit F.BST_IRQ_STATUS_DONE = true
      ∧ t.clk = max b.clk (b.bstFrom + min after (b.bstBound 4)) ∧ SameOutside [0x08] b t
      ∧ ∀ a, (a < b.bstSpan.base ∨ b.bstSpan.base + b.bstSpan.len ≤ a) → t.dramByte a = b.dramByte a))
  ∧ ∀ (b : Block) (mem addr bit words soft beyond after : Nat), Runs b → b.bit F.BST_STATUS_BUSY = true →
    b.get F.BST_STATUS_TEST = 1 → words < 2 ^ 16 →
    Gives (.bstTestDone (some (mem, addr, bit, words)) soft beyond after) b (fun t => t.bit F.BST_STATUS_BUSY = false
      ∧ t.get F.BST_RESULT_RESULT = 2 ∧ t.bit F.BST_ERR_FAIL = true ∧ t.get F.BST_FAIL_BIT_COUNT = words
      ∧ SameOutside [0x08, 0x30] b t ∧ SameMem b t)

/-! ### Serial lanes -/

/-- The order of lane training (R337, R341, R343, R344): a locked PLL leads the lanes of its port to CDR, a lost one back to PLL;
clock recovery leads to ALIGN, or on an Ethernet lane to EQ; alignment on four lanes with a skew of at most 4 blocks to EQ; the
sweep to CHECK with its best preset, an Ethernet lane's own training to UP; a check that meets EYE_MIN to READY; the countdown on
four lanes whose partner has shown READY to UP. A training block that arrives during an attempt (R340, R344): inverted markers
turn the lane's polarity; a good one gives its acknowledgement and sequence number, and its request the transmit preset unless
TX_FIX holds it. -/
def Obligations.LaneTraining : Prop :=
  (∀ (b : Block) (p : Nat), Runs b → p < 4 → PortIn b p lanePll → b.bit F.PTP_REFCLK_STATUS_SOURCE = false → b.toning p = false →
    Gives (.lanePllLock p) b (fun t => bitOf (t.get F.SRD_STATUS_PLL_LOCK) p = true ∧ PortIn t p laneCdr
      ∧ SameOutside [0x1E] b t ∧ SameMem b t))
  ∧ (∀ (b : Block) (p : Nat), Runs b → p < 4 → PortIn b p laneUp →
    Gives (.lanePllUnlock p false) b (fun t => bitOf (t.get F.SRD_STATUS_PLL_LOCK) p = false ∧ PortIn t p lanePll
      ∧ t.bit F.SRD_ERR_PLL_UNLOCK = true ∧ SameOutside [0x1E, 0x30] b t ∧ SameMem b t))
  ∧ (∀ (b : Block) (k : Nat), Runs b → k < 16 → b.laneState k = laneCdr → b.holding (k / 4) = false →
    Gives (.laneCdrLock k) b (fun t => t.laneState k = (if 8 ≤ k then laneAlign else if b.untrained (k / 4) then laneUp else laneEq)
      ∧ t.bit (F.SRDk_STATUS_CDR_LOCK k) = true ∧ SameOutside [0x1E] b t ∧ SameMem b t))
  ∧ (∀ (b : Block) (p skew : Nat), Runs b → 2 ≤ p → p < 4 → PortIn b p laneAlign → b.holding p = false → skew ≤ 4 →
    Gives (.laneAlignDone p skew) b (fun t => PortIn t p laneEq ∧ (∀ k ∈ portLanes p, t.bit (F.SRDk_STATUS_BLOCK_LOCK k) = true)
      ∧ SameOutside [0x1E] b t ∧ SameMem b t))
  ∧ (∀ (b : Block) (k : Nat) (w : Nat × Nat) (r : List (Nat × Nat)), Runs b → 8 ≤ k → k < 16 → b.laneState k = laneEq →
    b.holding (k / 4) = false → bestPreset r w < 8 →
    Gives (.laneEqDone k (w :: r)) b (fun t => t.laneState k = laneCheck ∧ t.get (F.SRDk_STATUS_RX_PRESET k) = bestPreset r w
      ∧ SameOutside [0x1E] b t ∧ SameMem b t))
  ∧ (∀ (b : Block) (k : Nat) (ws : List (Nat × Nat)), Runs b → k < 8 → b.laneState k = laneEq → b.holding (k / 4) = false →
    Gives (.laneEqDone k ws) b (fun t => t.laneState k = laneUp ∧ bitOf (t.get F.SRD_STATUS_LANE_UP) k = true
      ∧ SameOutside [0x1E] b t ∧ SameMem b t))
  ∧ (∀ (b : Block) (k n : Nat), Runs b → 8 ≤ k → k < 16 → n ≤ 64 → b.laneState k = laneCheck → b.holding (k / 4) = false →
    b.get F.SRD_EYE_CFG_EYE_MIN ≤ eyeWidth n →
    Gives (.laneCheckDone k n) b (fun t => t.laneState k = laneReady ∧ t.get (F.SRDk_EYE_TRAIN_WIDTH k) = eyeWidth n
      ∧ SameOutside [0x1E] b t ∧ SameMem b t))
  ∧ (∀ (b : Block) (p : Nat), Runs b → 2 ≤ p → p < 4 → PortIn b p laneReady → b.partnerShown p = true →
    b.holding p = false →
    Gives (.laneCountdownDone p) b (fun t => PortIn t p laneUp ∧ (∀ k ∈ portLanes p, bitOf (t.get F.SRD_STATUS_LANE_UP) k = true)
      ∧ SameOutside [0x1E] b t ∧ SameMem b t))
  ∧ (∀ (b : Block) (k : Nat) (x : TrainBlock), Runs b → 8 ≤ k → k < 16 → laneCdr ≤ b.laneState k → b.laneState k < laneUp →
    x.inverted = true →
    Gives (.trainingBlock k x) b (fun t => t.bit (F.SRDk_STATUS_POL_INV k) = !b.bit (F.SRDk_STATUS_POL_INV k)
      ∧ t.bit (F.SRDk_STATUS_BLOCK_LOCK k) = false ∧ SameWords [R.SRDk_STATUS k] b t ∧ SameMem b t))
  ∧ ∀ (b : Block) (k q : Nat) (x : TrainBlock) (l : Lane), Runs b → 8 ≤ k → k < 16 → laneCdr ≤ b.laneState k →
    b.laneState k < laneUp → b.laneState k ≠ laneAlign → x.inverted = false → x.crcOk = true → x.txReq = some q → q < 8 →
    b.srd.lanes[k]? = some l → l.fixed = false →
    Gives (.trainingBlock k x) b (fun t => t.get (F.SRDk_STATUS_TX_PRESET k) = q
      ∧ t.srd.lanes[k]? = some { l with ack := x.txAck, seq := x.seq, partnerReady := l.partnerReady || x.phase == 4 }
      ∧ SameWords [R.SRDk_STATUS k] b t ∧ SameMem b t)

/-- An attempt that fails (R342): a skew above 4 blocks, a check below EYE_MIN or TIMEOUT_MS without UP set TRAIN_FAIL and hold the
lanes; 1 ms later they enter CDR again. -/
def Obligations.TrainingFailure : Prop :=
  (∀ (b : Block) (p skew : Nat), Runs b → b.srd.ports.length = 4 → 2 ≤ p → p < 4 → PortIn b p laneAlign → b.holding p = false →
    4 < skew →
    Gives (.laneAlignDone p skew) b (fun t => t.holding p = true ∧ t.bit F.SRD_ERR_TRAIN_FAIL = true ∧ PortIn t p laneAlign
      ∧ SameOutside [0x1E, 0x30] b t ∧ SameMem b t))
  ∧ (∀ (b : Block) (k n : Nat), Runs b → b.srd.ports.length = 4 → 8 ≤ k → k < 16 → n ≤ 64 → b.laneState k = laneCheck →
    b.holding (k / 4) = false → eyeWidth n < b.get F.SRD_EYE_CFG_EYE_MIN →
    Gives (.laneCheckDone k n) b (fun t => t.holding (k / 4) = true ∧ t.bit F.SRD_ERR_TRAIN_FAIL = true
      ∧ SameOutside [0x1E, 0x30] b t ∧ SameMem b t))
  ∧ (∀ (b : Block) (p : Nat), Runs b → b.srd.ports.length = 4 → 2 ≤ p → p < 4 → b.training p = true →
    Gives (.trainTimeout p) b (fun t => t.holding p = true ∧ t.bit F.SRD_ERR_TRAIN_FAIL = true
      ∧ t.clk = max b.clk (((b.srd.ports[p]?).map (·.started)).getD 0 + max 40 (b.get F.SRD_TRAIN_CFG_TIMEOUT_MS) * 1000000)
      ∧ SameOutside [0x1E, 0x30] b t ∧ SameMem b t))
  ∧ ∀ (b : Block) (p at' : Nat), Runs b → b.srd.ports.length = 4 → p < 4 → (b.srd.ports[p]?).bind (·.failed) = some at' →
    Gives (.trainRetry p) b (fun t => PortIn t p laneCdr ∧ t.holding p = false ∧ t.clk = max b.clk (at' + 1000000)
      ∧ SameOutside [0x1E] b t ∧ SameMem b t)

/-- What ends UP (R339, R345, R346): lost clock, lost block lock, an eye below EYE_DOWN for DOWN_MS and RETRAIN count their event
on the lane, set their error and send the port's four lanes to CDR; a sweep gives WIDTH. Test patterns (R348, R349): a test bit
puts the port's lanes in TEST; a checker that locks starts its count, one that loses lock stops; INJECT inverts one transmitted
bit. -/
def Obligations.LaneLossAndTests : Prop :=
  (∀ (b : Block) (k : Nat), Runs b → k < 16 → b.laneState k = laneUp →
    Gives (.cdrLoss k) b (fun t => PortIn t (k / 4) laneCdr ∧ t.bit F.SRD_ERR_CDR_LOSS = true
      ∧ t.get (F.SRDk_CNT_Ei k 0) = min (b.get (F.SRDk_CNT_Ei k 0) + 1) (2 ^ 32 - 1) ∧ SameOutside [0x1E, 0x30] b t ∧ SameMem b t))
  ∧ (∀ (b : Block) (k : Nat), Runs b → 8 ≤ k → k < 16 → b.laneState k = laneUp →
    Gives (.blockLoss k) b (fun t => PortIn t (k / 4) laneCdr ∧ t.bit F.SRD_ERR_BLOCK_LOSS = true
      ∧ t.get (F.SRDk_CNT_Ei k 1) = min (b.get (F.SRDk_CNT_Ei k 1) + 1) (2 ^ 32 - 1) ∧ SameOutside [0x1E, 0x30] b t ∧ SameMem b t))
  ∧ (∀ (b : Block) (k n : Nat), Runs b → k < 16 → n ≤ 64 →
    Gives (.eyeMeasureDone k n) b (fun t => t.get (F.SRDk_EYE_WIDTH k) = (1000 * n + 32) / 64
      ∧ SameWords [(F.SRDk_EYE_WIDTH k).addr] b t ∧ SameMem b t))
  ∧ (∀ (b : Block) (k at' : Nat), Runs b → 8 ≤ k → k < 16 → b.laneState k = laneUp → (b.srd.lanes[k]?).bind (·.lowSince) = some at' →
    Gives (.eyeLow k) b (fun t => PortIn t (k / 4) laneCdr ∧ t.bit F.SRD_ERR_EYE_LOW = true
      ∧ t.get (F.SRDk_CNT_Ei k 3) = min (b.get (F.SRDk_CNT_Ei k 3) + 1) (2 ^ 32 - 1)
      ∧ t.clk = max b.clk (at' + max 1 (b.get F.SRD_EYE_CFG_DOWN_MS) * 1000000) ∧ SameOutside [0x1E, 0x30] b t ∧ SameMem b t))
  ∧ (∀ (b : Block) (p : Path) (k : Nat) (v : Word), Runs b → b.gated R.SRD_CMD = false → k < 16 → v.toNat = 2 ^ k → b.laneState k = laneUp →
    Gives (.srdRetrain p v) b (fun t => PortIn t (k / 4) laneCdr
      ∧ t.get (F.SRDk_CNT_Ei k 2) = min (b.get (F.SRDk_CNT_Ei k 2) + 1) (2 ^ 32 - 1) ∧ SameOutside [0x1E] b t ∧ SameMem b t))
  ∧ (∀ (b : Block) (p : Path) (k : Nat) (v : Word), Runs b → k < 16 → b.gated (R.SRDk_PAT_CTRL k) = false →
    (F.SRDk_PAT_CTRL_GEN_EN k).of v.toNat = 1 → (F.SRDk_PAT_CTRL_INJECT k).of v.toNat = 0 → PortIn b (k / 4) laneUp →
    Gives (.testModeEnter p k v) b (fun t => PortIn t (k / 4) laneTest ∧ t.bit (F.SRDk_PAT_CTRL_GEN_EN k) = true
      ∧ SameOutside [0x1E] b t ∧ SameMem b t))
  ∧ (∀ (b : Block) (p : Path) (k : Nat), Runs b → k < 16 → b.gated (R.SRDk_PAT_CTRL k) = false → b.bit (F.SRDk_PAT_CTRL_LOOP k) = false →
    Gives (.inject p k) b (fun t => t.out = .inverted k :: b.out ∧ SameWords [] b t ∧ SameMem b t))
  ∧ (∀ (b : Block) (p : Path) (k : Nat), Runs b → k < 16 → b.gated (R.SRDk_PAT_CTRL k) = false → b.bit (F.SRDk_PAT_CTRL_LOOP k) = true →
    b.bit (F.SRDk_STATUS_CHK_LOCK k) = true →
    Gives (.inject p k) b (fun t => t.bit F.SRD_IRQ_STATUS_PAT_ERR = true
      ∧ t.pair (F.SRDk_CNT_Ti_LO k 1) (F.SRDk_CNT_Ti_HI k 1) = (b.pair (F.SRDk_CNT_Ti_LO k 1) (F.SRDk_CNT_Ti_HI k 1) + 1) % 2 ^ 64
      ∧ SameOutside [0x1E] b t ∧ SameMem b t))
  ∧ (∀ (b : Block) (k : Nat), Runs b → k < 16 → b.laneState k = laneTest → b.bit (F.SRDk_PAT_CTRL_CHK_EN k) = true →
    b.get (F.SRDk_PAT_CTRL_PATTERN k) ≤ 5 → b.bit (F.SRDk_STATUS_CHK_LOCK k) = false →
    Gives (.checkerLock k) b (fun t => t.bit (F.SRDk_STATUS_CHK_LOCK k) = true ∧ t.laneState k = laneTest
      ∧ SameWords [R.SRDk_STATUS k] b t ∧ SameMem b t))
  ∧ ∀ (b : Block) (k errors : Nat), Runs b → k < 16 → b.bit (F.SRDk_STATUS_CHK_LOCK k) = true → 0 < errors →
    Gives (.checkerLockLoss k errors) b (fun t => t.bit (F.SRDk_STATUS_CHK_LOCK k) = false ∧ t.bit F.SRD_IRQ_STATUS_PAT_ERR = true
      ∧ t.pair (F.SRDk_CNT_Ti_LO k 1) (F.SRDk_CNT_Ti_HI k 1) = (b.pair (F.SRDk_CNT_Ti_LO k 1) (F.SRDk_CNT_Ti_HI k 1) + errors) % 2 ^ 64
      ∧ SameOutside [0x1E] b t ∧ SameMem b t)

/-! ### Memory controllers -/

/-- Power-down by tolerance (R356, R358, R359): a client's declaration is its tolerance, LAT_US the least of all; an idle channel
enters the deepest state that MAX_STATE and the tolerance allow, its pages closed in SELF_REFRESH and DEEP, and is ACTIVE again
after its exit, with its lanes corrected by the drift after SELF_REFRESH and no request waiting. A request opens its page, alone
in its bank, or waits for its channel, which starts its exit. What DRM does by itself (R355, R357, R360): drift is measured every
100 ms and moves the lanes, a bank refreshes every 244 ns and on a hot channel every 122 ns, the temperature is read every 16 ms
and the on-die error counts every second. -/
def Obligations.DramPowerDownAndUpkeep : Prop :=
  (∀ (b : Block) (n : Nat), Runs b → n < 8 →
    Gives (.latencyDeclaration n) b (fun t => t.get (F.DRM_CLIENTn_TOL_US n) = b.tolerance n
      ∧ (∀ m < 8, t.get F.DRM_LAT_US ≤ t.get (F.DRM_CLIENTn_TOL_US m)) ∧ SameOutside [0x28] b t ∧ SameMem b t))
  ∧ (∀ (b : Block) (c : Nat), Runs b → c < 4 → b.drmOn = true → b.get (F.DRM_CHc_STATUS_PSTATE c) = 0 →
    Gives (.dramIdleEntry c) b (fun t => t.clk = max b.clk (b.drm.lastAt.getD c 0 + b.get F.DRM_PM_CTRL_IDLE_NS)
      ∧ (2 ≤ t.get (F.DRM_CHc_STATUS_PSTATE c) → ∀ p ∈ t.drm.pages, p.channel ≠ c)
      ∧ t.get (F.DRM_CHc_STATUS_PSTATE c) ≤ b.get F.DRM_PM_CTRL_MAX_STATE
      ∧ (t.get (F.DRM_CHc_STATUS_PSTATE c) ≠ 0 → b.within (t.get (F.DRM_CHc_STATUS_PSTATE c)) = true)
      ∧ (∀ p < 4, t.get (F.DRM_CHc_STATUS_PSTATE c) < p → p ≤ b.get F.DRM_PM_CTRL_MAX_STATE → b.within p = false)
      ∧ SameOutside [0x28] b t ∧ SameMem b t))
  ∧ (∀ (b : Block) (c : Nat) (drift : Int), Runs b → c < 4 → b.drmOn = true → b.get (F.DRM_CHc_STATUS_PSTATE c) ≠ 0 →
    b.drm.exiting.getD c false = true →
    Gives (.dramExitDone c drift) b (fun t => t.get (F.DRM_CHc_STATUS_PSTATE c) = 0
      ∧ t.drm.delay = (if b.selfRefresh c then b.drm.delay.mapIdx (fun l d => if l / 4 = c then (d.1 + drift, d.2 + drift) else d) else b.drm.delay)
      ∧ (∀ r ∈ t.drm.waiting, granuleChannel r.granule ≠ c) ∧ SameWords [R.DRM_CHc_STATUS c] b t ∧ SameMem b t))
  ∧ (∀ (b : Block) (client g : Nat),
    (b.get (F.DRM_CHc_STATUS_PSTATE (granuleChannel g)) = 0 → (b.dramRequest client g).pageOpen g = true
      ∧ (∀ p ∈ (b.dramRequest client g).drm.pages, p.channel = granuleChannel g → p.bank = (granulePage g).bank → p = granulePage g)
      ∧ (b.dramRequest client g).drm.waiting = b.drm.waiting)
    ∧ (b.get (F.DRM_CHc_STATUS_PSTATE (granuleChannel g)) ≠ 0 → b.drm.exiting.length = 4 →
      (b.dramRequest client g).drm.waiting = b.drm.waiting ++ [⟨client, g, 0⟩] ∧ (b.dramRequest client g).drm.pages = b.drm.pages
      ∧ (b.dramRequest client g).drm.exiting.getD (granuleChannel g) false = true))
  ∧ (∀ (b : Block) (drifts : List Int), Runs b → b.drmOn = true → (List.range 4).any b.selfRefresh = false → b.drm.delay.length = 16 →
    Gives (.wckDriftCheck drifts) b (fun t => t.clk = max b.clk b.drm.drift ∧ t.drm.drift = t.clk + 100000000
      ∧ (∀ l < 16, t.drm.delay[l]? = (b.drm.delay[l]?).map (fun d => (d.1 + drifts.getD (l / 4) 0, d.2 + drifts.getD (l / 4) 0)))
      ∧ SameWords [] b t ∧ SameMem b t))
  ∧ (∀ (b : Block) (c : Nat), Runs b → c < 4 → b.drmOn = true → b.selfRefresh c = false → b.drm.refresh.length = 4 →
    b.drm.bank.length = 4 →
    Gives (.bankRefresh c) b (fun t => t.clk = max b.clk (b.drm.refresh.getD c 0)
      ∧ t.drm.refresh.getD c 0 = t.clk + (if b.bit (F.DRM_CHc_STATUS_HOT c) then 122 else 244)
      ∧ (∀ p ∈ t.drm.pages, p.channel = c → p.bank ≠ b.drm.bank.getD c 0)
      ∧ t.drm.bank.getD c 0 = (b.drm.bank.getD c 0 + 1) % 16 ∧ SameWords [(F.DRM_CHc_CNT_Ei c 4).addr] b t ∧ SameMem b t))
  ∧ (∀ (b : Block) (r : Nat × Bool × Bool), Runs b → b.drmOn = true → r.1 < 8 → r.2.2 = false →
    Gives (.dramTempRead [r]) b (fun t => t.clk = max b.clk b.drm.temp ∧ t.drm.temp = t.clk + 16000000
      ∧ t.get (F.DRM_CHc_STATUS_TEMP 0) = r.1 ∧ t.bit (F.DRM_CHc_STATUS_HOT 0) = r.2.1
      ∧ SameWords [R.DRM_CHc_STATUS 0, R.DRM_STATUS, R.DRM_IRQ_STATUS] b t ∧ SameMem b t))
  ∧ ∀ (b : Block) (rises : List Nat), Runs b → b.drmOn = true →
    Gives (.odeccRead rises) b (fun t => t.clk = max b.clk b.drm.odecc ∧ t.drm.odecc = t.clk + 1000000000
      ∧ (∀ c < 4, t.get (F.DRM_CHc_CNT_Ei c 3) = min (b.get (F.DRM_CHc_CNT_Ei c 3) + rises.getD c 0) (2 ^ 32 - 1))
      ∧ SameWords ((List.range 4).map (fun c => (F.DRM_CHc_CNT_Ei c 3).addr)) b t ∧ SameMem b t)

/-- Memory errors (R360, R361, R364, R365): a corrected DRAM read is counted; a failed retry records its address and sets UE; a
QDR word that is corrected is counted, a parity error with a good retry counted and flagged, an uncorrectable table word sets
TABLE_UE, and one in the pixel buffers stays bad until it is written. -/
def Obligations.MemoryErrors : Prop :=
  (∀ (b : Block) (a : Nat) (retryOk : Bool), Runs b → a < dramSize b.fuses → b.drmOn = true →
    Gives (.dramReadError a true retryOk) b (fun t => t.get (F.DRM_CHc_CNT_Ei (a / 256 % 4) 0)
        = min (b.get (F.DRM_CHc_CNT_Ei (a / 256 % 4) 0) + 1) (2 ^ 32 - 1)
      ∧ SameWords [(F.DRM_CHc_CNT_Ei (a / 256 % 4) 0).addr] b t ∧ SameMem b t))
  ∧ (∀ (b : Block) (a : Nat), Runs b → 64 * 250001 ≤ a → a < dramSize b.fuses → b.drmOn = true → b.hif.rings = [] →
    Gives (.dramReadError a false false) b (fun t => t.pair F.DRM_UE_ADDR_LO F.DRM_UE_ADDR_HI_ADDR = a
      ∧ t.bit F.DRM_ERR_UE = true ∧ SameOutside [0x28, 0x30] b t ∧ SameMem b t))
  ∧ (∀ b : Block, Runs b → b.get F.QDR_SCRUB_PERIOD_S ≠ 0 → b.pm.gate = false →
    Gives (.qdrScrub 1) b (fun t => t.get (F.QDR_CNT_Ei 3) = min (b.get (F.QDR_CNT_Ei 3) + 1) (2 ^ 32 - 1)
      ∧ t.drm.scrub = (b.drm.scrub + 4) % 0x2400000 ∧ SameWords [(F.QDR_CNT_Ei 3).addr] b t ∧ SameMem b t))
  ∧ (∀ (b : Block) (w s : Nat), Runs b → 4 * w < 0x2400000 → b.pm.gate = false →
    Gives (.qdrReadError w 0 s) b (fun t => t.get (F.QDR_CNT_Ei 0) = min (b.get (F.QDR_CNT_Ei 0) + 1) (2 ^ 32 - 1)
      ∧ SameWords [(F.QDR_CNT_Ei 0).addr] b t ∧ SameMem b t)
    ∧ Gives (.qdrReadError w 1 s) b (fun t => t.get (F.QDR_CNT_Ei 2) = min (b.get (F.QDR_CNT_Ei 2) + 1) (2 ^ 32 - 1)
      ∧ t.bit F.QDR_ERR_ADDR_PARITY = true ∧ t.qdrBad = b.qdrBad ∧ SameOutside [0x29, 0x30] b t ∧ SameMem b t))
  ∧ (∀ (b : Block) (w s : Nat), Runs b → 0x600000 ≤ 4 * w → 4 * w < 0x1200000 → b.pm.gate = false →
    Gives (.qdrReadError w 3 s) b (fun t => t.bit F.QDR_ERR_TABLE_UE = true ∧ t.bit F.QDR_ERR_UE = true ∧ SameMem b t))
  ∧ ∀ (b : Block) (w s : Nat), Runs b → 4 * w < lampBase → b.pm.gate = false →
    Gives (.qdrReadError w 3 s) b (fun t => t.qdrLost (4 * w) 4 = true ∧ t.bit F.QDR_ERR_UE = true
      ∧ SameOutside [0x29, 0x30] b t ∧ SameMem b t)

/-! ### Audio -/

/-- An audio packet of stream `a` (R383, R384): a frame whose valid bit is clear and that has not been fetched is written to its
slot of the playout buffer, 64 bytes a slot, each sample in the upper 24 bits of a word, and its path is up; a wrong payload type
is counted and flagged and writes nothing. A path silent for 2 ms is down, and with the other one down too the stream is lost. The
block boundary and the frame (R376, R377, R380, R385): a boundary lies at the next multiple of 1 ms and a port whose EN in force
is 0 does not run after it; a frame begins at its index divided by the sample rate and every running port of the rate goes on by
one; memory stays but for the records of input ports. -/
def Obligations.AudioStreamsAndBlocks : Prop :=
  (∀ (b : Block) (x : AudioPacket) (a k : Nat), Runs b → b.audMatch x.addr = some a → a < 4 → b.aud.streams.length = 4 →
    x.pt = b.audGet a (F.AUDp_STR_CTRL_PT a) →
    x.payload.length = (if b.audBit a (F.AUDp_STR_CTRL_L24 a) then 3 else 2) * (b.audGet a (F.AUDp_STR_CTRL_CH_M1 a) + 1) →
    k = sampleIndex (audFs (b.audGet a (F.AUDp_STR_CTRL_RATE a))) x.ts x.rx →
    (b.audDelay a).all (fun d => decide (k + d ≤ x.rx * audFs (b.audGet a (F.AUDp_STR_CTRL_RATE a)) / 1000000000 + 16320 + 64)) = true →
    (b.audStream a).valid.contains (k % 16384) = false → (b.audStream a).fetchedTo = none →
    Gives (.audioPacket x) b (fun t => (t.audStream a).valid.contains (k % 16384) = true
      ∧ t.bit (F.AUDp_STATUS_RECEIVING a) = true ∧ (if x.addr.eth = 0 then t.bit (F.AUDp_STATUS_PATH_A_UP a) else t.bit (F.AUDp_STATUS_PATH_B_UP a)) = true
      ∧ t.dramBytes (b.audGet a (F.AUDp_BUF_BASE_LO a) + 2 ^ 32 * b.audGet a (F.AUDp_BUF_BASE_HI_BASE a) + 64 * (k % 16384))
          (4 * (b.audGet a (F.AUDp_STR_CTRL_CH_M1 a) + 1))
        = (((pieces (if b.audBit a (F.AUDp_STR_CTRL_L24 a) then 3 else 2) 16 x.payload).map sampleOf).map (fun y => leBytes 4 (256 * y))).flatten
      ∧ SameOutside [0x2A] b t
      ∧ ∀ y, (y < b.audGet a (F.AUDp_BUF_BASE_LO a) + 2 ^ 32 * b.audGet a (F.AUDp_BUF_BASE_HI_BASE a) + 64 * (k % 16384)
        ∨ b.audGet a (F.AUDp_BUF_BASE_LO a) + 2 ^ 32 * b.audGet a (F.AUDp_BUF_BASE_HI_BASE a) + 64 * (k % 16384)
          + 4 * (b.audGet a (F.AUDp_STR_CTRL_CH_M1 a) + 1) ≤ y) → t.dramByte y = b.dramByte y))
  ∧ (∀ (b : Block) (x : AudioPacket) (a : Nat), Runs b → b.audMatch x.addr = some a → a < 4 → x.pt ≠ b.audGet a (F.AUDp_STR_CTRL_PT a) →
    Gives (.audioPacket x) b (fun t => t.bit F.AUD_ERR_PT = true
      ∧ t.get (F.AUDp_CNT_Ei a 3) = min (b.get (F.AUDp_CNT_Ei a 3) + 1) (2 ^ 32 - 1) ∧ SameOutside [0x2A, 0x30] b t ∧ SameMem b t))
  ∧ (∀ (b : Block) (a at' : Nat) (q : Option Nat), Runs b → a < 4 → b.isHead = true → (b.audStream a).heard = [some at', q] →
    b.bit (F.AUDp_STATUS_PATH_A_UP a) = true → b.bit (F.AUDp_STATUS_PATH_B_UP a) = false →
    Gives (.audioPathTimeout a 0) b (fun t => t.bit (F.AUDp_STATUS_PATH_A_UP a) = false ∧ t.bit (F.AUDp_STATUS_RECEIVING a) = false
      ∧ t.bit F.AUD_ERR_STREAM_LOST = true ∧ t.clk = max b.clk (at' + 2000000) ∧ SameOutside [0x2A, 0x30] b t ∧ SameMem b t))
  ∧ (∀ (b : Block) (failed : List Nat), Runs b → b.pm.stcStopped = false → 1000000 * b.nextBlock < 2 ^ 64 → b.aud.ports.length = 4 →
    b.get F.AUD_STATUS_RUNNING = 0 →
    Gives (.audioBlockBoundary failed) b (fun t => t.aud.block = b.nextBlock + 1 ∧ t.stc = max b.stc (1000000 * b.nextBlock)
      ∧ (∀ p < 4, b.act (F.AUDp_CFG_EN p) = 0 → t.audRuns p = false)))
  ∧ ∀ (b : Block) (p : Nat) (r96 : Bool) (poison : List Nat) (ins : List (Nat × List Nat)), Runs b → p < 4 → b.aud.ports.length = 4 →
    b.get F.AUD_STATUS_RUNNING = 2 ^ p → b.audBit p (F.AUDp_CFG_RATE p) = r96 →
    Gives (.audioFrame r96 poison ins) b (fun t => (t.audPort p).k = (b.audPort p).k + 1
      ∧ t.clk = b.clk + ((b.audPort p).k * 1000000000 / (if r96 then 96000 else 48000) - b.stc)
      ∧ SameOutside [0x2A, 0x30] b t ∧ SameMem b t)

/-! ### Group membership -/

/-- A query is answered on its port with the memberships it asks for, and an unsolicited report that is due leaves with one less to
come (R150). -/
def Obligations.GroupMembership : Prop :=
  (∀ (b : Block) (m : Member), Runs b → b.ing.members = [m] →
    Gives (.igmpQuery m.path m.v6 none) b (fun t => t = (b.sendReport m true).settle ∧ t.ing = b.ing ∧ SameMem b t)
    ∧ Gives (.igmpQuery m.path m.v6 (some m.grp)) b (fun t => t = (b.sendReport m true).settle ∧ t.ing = b.ing ∧ SameMem b t)
    ∧ Gives (.igmpQuery m.path (!m.v6) none) b (fun t => t = b.settle ∧ t.ing = b.ing ∧ SameWords [] b t ∧ SameMem b t))
  ∧ ∀ (b : Block) (r : Pending), Runs b → b.ing.reports = [r] → 2 ≤ r.left →
    Gives .unsolicitedReport b (fun t => t.clk = max b.clk r.due ∧ SameMem b t
      ∧ t.ing.reports = [{ r with left := r.left - 1, due := r.due + b.get F.ING_MCAST_CTRL_UNSOL_100MS * 100000000 }])

/-! ### Feeds and energy -/

/-- The states of a feed (R392, R393, R395, R398): a feed that comes into range is READY beside one that converts, and with none
converting it converts at once; one that leaves is counted and flagged with its cause, its load goes to a READY feed in failover
with SWITCHING, and with no feed left in range the hold-up begins; overvoltage opens the relay until it recovers. -/
def Obligations.FeedStates : Prop :=
  (∀ (b : Block) (x : Nat) (dc : Bool), x < 2 → b.feed x = feedOut → b.feed (1 - x) = feedConv → b.pwr.mode = 1 →
    b.pwr.copy = none →
    Gives (.feedInRange x dc) b (fun t => t.feed x = feedReady ∧ t.feed (1 - x) = feedConv ∧ t.bit (F.PWR_FEEDx_STATUS_DC x) = dc
      ∧ t.bit F.PWR_STATUS_HOLDUP = false ∧ SameOutside [0x03] b t ∧ SameMem b t))
  ∧ (∀ (b : Block) (x : Nat) (dc : Bool), x < 2 → b.feed x = feedOut → b.feed (1 - x) = feedOut → b.feedBusy = false →
    b.pwr.mode < 2 → b.pwr.primary < 2 → b.pwr.copy = none →
    Gives (.feedInRange x dc) b (fun t => t.feed x = feedConv ∧ t.feed (1 - x) = feedOut ∧ t.bit F.PWR_STATUS_HOLDUP = false
      ∧ SameOutside [0x03] b t ∧ SameMem b t))
  ∧ (∀ (b : Block) (x cause : Nat), Runs b → x < 2 → 1 ≤ cause → cause < 3 → b.feed x = feedConv → b.feed (1 - x) = feedReady →
    b.feedBusy = false → b.pwr.mode = 1 → b.get F.PWR_STATUS_IN_RANGE = 3 →
    Gives (.feedOutOfRange x cause) b (fun t => t.feed x = feedOut ∧ t.feed (1 - x) = feedConv ∧ t.bit F.PWR_STATUS_SWITCHING = true
      ∧ t.get (F.PWR_FEEDx_STATUS_CAUSE x) = cause ∧ t.get (F.PWR_CNT_Ei x) = min (b.get (F.PWR_CNT_Ei x) + 1) (2 ^ 32 - 1)
      ∧ (if x = 0 then t.bit F.PWR_ERR_FEED_A_LOSS else t.bit F.PWR_ERR_FEED_B_LOSS) = true ∧ t.pwr.began = t.clk
      ∧ SameOutside [0x03, 0x30] b t ∧ SameMem b t))
  ∧ (∀ (b : Block) (x cause : Nat), Runs b → x < 2 → 1 ≤ cause → cause < 3 → b.feed x = feedConv → b.feed (1 - x) = feedOut →
    b.feedBusy = false → b.pwr.mode < 2 → b.pwr.primary < 2 → b.get F.PWR_STATUS_IN_RANGE = 2 ^ x →
    Gives (.feedOutOfRange x cause) b (fun t => t.feed x = feedOut ∧ t.bit F.PWR_STATUS_HOLDUP = true ∧ t.bit F.PWR_ERR_BOTH_LOST = true
      ∧ t.pwr.lostAt = b.clk
      ∧ SameOutside [0x03, 0x30] b t ∧ SameMem b t))
  ∧ (∀ (b : Block) (x : Nat), Runs b → x < 2 → b.feed x = feedReady → b.feed (1 - x) = feedConv → b.feedBusy = false →
    b.get F.PWR_STATUS_IN_RANGE = 3 →
    Gives (.feedOvervoltage x) b (fun t => t.feed x = feedOver ∧ t.feed (1 - x) = feedConv ∧ t.bit F.PWR_ERR_OVERVOLT = true
      ∧ t.get (F.PWR_FEEDx_STATUS_CAUSE x) = 3 ∧ SameOutside [0x03, 0x30] b t ∧ SameMem b t))
  ∧ ∀ (b : Block) (x : Nat), x < 2 → b.feed x = feedOver → b.feed (1 - x) = feedConv → b.pwr.mode = 1 →
    Gives (.overvoltRecover x) b (fun t => t.feed x = feedReady ∧ t.feed (1 - x) = feedConv ∧ SameOutside [0x03] b t ∧ SameMem b t)

/-- Switch-over and transfer (R395, R396, R400): a switch-over ends at most 6 ms after it began and is counted; a commanded
transfer in failover starts the READY converter and stops the other 10 ms to 12 ms later; REVERT starts one once the primary has
been READY for REVERT_S. -/
def Obligations.FeedTransfers : Prop :=
  (∀ (b : Block) (after : Nat), b.bit F.PWR_STATUS_SWITCHING = true → b.pwr.modeDue = false → b.pwr.mode = 1 →
    (b.feed 0 = feedConv ∨ b.feed 1 = feedConv) →
    Gives (.switchoverDone after) b (fun t => t.bit F.PWR_STATUS_SWITCHING = false ∧ t.clk = max b.clk (b.pwr.began + min after 6000000)
      ∧ t.get (F.PWR_CNT_Ei 2) = min (b.get (F.PWR_CNT_Ei 2) + 1) (2 ^ 32 - 1)
      ∧ SameWords [R.PWR_STATUS, R.PWR_CNT_Ei 2] b t ∧ SameMem b t))
  ∧ (∀ (b : Block) (p : Path) (v : Word) (x : Nat), Runs b → b.gated R.PWR_CMD = false → v.toNat % 2 = 1 → b.pwr.mode = 1 →
    b.feedBusy = false → x < 2 → b.feed x = feedReady → b.feed (1 - x) = feedConv →
    Gives (.pwrTransfer p v) b (fun t => t.feed x = feedConv ∧ t.feed (1 - x) = feedConv ∧ t.pwr.moving = some x ∧ t.pwr.began = b.clk
      ∧ t.pwr.noRevert = true ∧ SameOutside [0x03] b t ∧ SameMem b t))
  ∧ (∀ (b : Block) (after x : Nat), x < 2 → b.pwr.moving = some x → b.feed x = feedConv → b.feed (1 - x) = feedConv →
    b.pwr.modeDue = false → b.pwr.mode = 1 →
    Gives (.transferDone after) b (fun t => t.feed x = feedConv ∧ t.feed (1 - x) = feedReady ∧ t.pwr.moving = none
      ∧ t.clk = max b.clk (b.pwr.began + max 10000000 (min after 12000000)) ∧ SameOutside [0x03] b t ∧ SameMem b t))
  ∧ ∀ (b : Block) (since : Nat), b.pwr.primary < 2 → (b.pwr.readySince[b.pwr.primary]?).join = some since → b.pwr.mode = 1 →
    b.actBit F.PWR_FEED_CTRL_REVERT = true → b.pwr.noRevert = false → b.feedBusy = false → b.feed (1 - b.pwr.primary) = feedConv →
    b.feed b.pwr.primary = feedReady →
    Gives .revertTimer b (fun t => t.feed b.pwr.primary = feedConv ∧ t.pwr.moving = some b.pwr.primary ∧ t.pwr.began = t.clk
      ∧ t.clk = max b.clk (since + b.act F.PWR_FEED_CTRL_REVERT_S * 1000000000) ∧ SameOutside [0x03] b t ∧ SameMem b t)

/-- Metering and the feed link (R397, R399), the end of the hold-up (R45, R446) and AUX_12V (R63): a control cycle of 20 µs adds
to the five energies and, while a converter runs, keeps a copy over the link; five cycles without one clear LINK_OK; the end of
the hold-up switches every output and the logic off, no earlier than 20 ms after the last feed left; an AUX_12V overload switches
it off for 1 s. The energy plan (R403 to R408): the chain point plans the frame, a peer's CHAIN_ENERGY gives its chain scale, and
the scale decision, once a frame, takes the least of the chain scales, no more than RISE above the last header's, and counts the
Spores that are missing (R256). -/
def Obligations.FeedMetersAndEnergyPlan : Prop :=
  (∀ (b : Block) (energy : List Nat) (m0 m1 : Nat × Nat × Nat × Nat), b.pwr.modeDue = false → m0.2.2.1 < 2 ^ 32 → m1.1 < 2 ^ 32 →
    b.get F.PWR_STATUS_CONVERTING ≠ 0 →
    Gives (.feedControlCycle energy [m0, m1] true) b (fun t => t.clk = b.clk + 20000
      ∧ (∀ i < 5, t.pair (F.PWR_ENERGYi_LO i) (F.PWR_ENERGYi_HI i) = (b.pair (F.PWR_ENERGYi_LO i) (F.PWR_ENERGYi_HI i) + energy.getD i 0) % 2 ^ 64)
      ∧ t.get (F.PWR_FEEDx_P 0) = m0.2.2.1 ∧ t.get (F.PWR_FEEDx_V 1) = m1.1 ∧ t.bit F.PWR_STATUS_LINK_OK = true
      ∧ t.pwr.copyAt = t.clk ∧ SameOutside [0x03] b t ∧ SameMem b t))
  ∧ (∀ b : Block, Runs b → Gives .feedLink b (fun t => t.bit F.PWR_STATUS_LINK_OK = false ∧ t.bit F.PWR_ERR_FEED_LINK = true
      ∧ t.clk = max b.clk (b.pwr.copyAt + 100000) ∧ SameOutside [0x03, 0x30] b t ∧ SameMem b t))
  ∧ (∀ b : Block, b.bit F.PWR_STATUS_HOLDUP = true → Gives .holdupEnd b (fun t => t.logic = .off ∧ t.pins.hkOn = false
      ∧ t.pins.railsOn = false ∧ t.pins.auxOn = false ∧ t.pins.syncOut = [false, false] ∧ t.pins.alertN = true
      ∧ t.bit F.PWR_STATUS_HOLDUP = false ∧ t.clk = max b.clk (b.pwr.lostAt + 20000000) ∧ (b.flt.queue = [] → t.flt.log = b.flt.log)
      ∧ t.fuses = b.fuses ∧ (∀ k < 96, t.contact (.syncOut k) = .highZ ∧ t.contact (.audBclk k) = .highZ ∧ t.contact (.rail k) = .off)))
  ∧ (∀ b : Block, Runs b → b.pins.auxOn = true → Gives .auxOverload b (fun t => t.pins.auxOn = false ∧ t.pwr.auxOff = some b.clk
      ∧ t.bit F.PWR_ERR_AUX_OVERLOAD = true ∧ SameOutside [0x03, 0x30] b t ∧ SameMem b t))
  ∧ (∀ (b : Block) (off : Nat), b.pwr.auxOff = some off → Gives .auxRetry b (fun t =>
      (Runs b → b.asleep = false → b.pmState ≠ pmWaking → t.pins.auxOn = true) ∧ (b.logic = .off → t.pins.auxOn = false)
      ∧ t.pwr.auxOff = none ∧ t.clk = max b.clk (off + 1000000000) ∧ SameWords [] b t ∧ SameMem b t))
  ∧ (∀ (b : Block) (p : Plan), Runs b → b.eventFrame b.pwr.planned = some p → b.plansPower = true → b.duty ≠ dutyActive →
    Gives .chainPoint b (fun t => t.pwr.planned = some p.wfn ∧ t.pwr.plans.length = 64 ∧ SameWords [R.PWR_CNT_Ei 5] b t ∧ SameMem b t))
  ∧ (∀ (b b1 : Block) (rx : Rx) (m : ChainEnergy) (i : Nat), Runs b → b.receive rx = .accepted b1 → rx.msg.body = .chainEnergy m →
    b1.isHead = true → i < 64 → b1.actBit (F.PWR_PEERi_EN i) = true → b1.act (F.PWR_PEERi_NODE i) = rx.msg.src → b1.pwr.peers = [] →
    Gives (.chainEnergy rx) b (fun t => t.pwr.peers = [⟨m.chainId, m.epoch, m.wfn, m.chainScale, 0, false⟩]))
  ∧ (∀ (b : Block) (p : Plan), Runs b → b.eventFrame b.pwr.decided = some p → b.isHead = true → b.plansPower = false →
    Gives .scaleDecision b (fun t => t.lnk.scaleNext = 0x8000 ∧ t.pwr.decided = some p.wfn ∧ t.stc = b.stcBy (nsOf p.scale)
      ∧ t.get (F.LNK_CNT_Ei 5) = min (b.get (F.LNK_CNT_Ei 5) + (b.sporesMissing p.wfn).length) (2 ^ 32 - 1)
      ∧ SameWords [R.LNK_CNT_Ei 5] b t ∧ SameMem b t))
  ∧ ∀ (b : Block) (p : Plan), Runs b → b.eventFrame b.pwr.decided = some p → b.plansPower = true → b.pwr.planned = some p.wfn → b.pwr.peers = [] →
    Gives .scaleDecision b (fun t =>
      t.lnk.scaleNext = min (min 0x8000 b.pwr.chain) (b.lnk.scaleLast.2 + b.act F.PWR_PLAN2_RISE)
      ∧ t.pwr.decided = some p.wfn ∧ SameOutside [0x03, 0x1C] b t ∧ SameMem b t)

/-! ### Calibration -/

/-- A calibration cycle (R417): a command or the interval starts one, with all 198 targets due, only with EN, in RUN and ACTIVE;
ABORT ends one at once. -/
def Obligations.CalibrationCycles : Prop :=
  (∀ (b : Block) (p : Path) (v : Word), Runs b → b.gated R.CAL_CMD = false → F.CAL_CMD_CYCLE.of v.toNat = 1 →
    F.CAL_CMD_SAVE.of v.toNat = 0 → F.CAL_CMD_ABORT.of v.toNat = 0 → b.calMayRun = true → b.bit F.CAL_STATUS_CYCLE = false →
    Gives (.calCycle p v) b (fun t => t.bit F.CAL_STATUS_CYCLE = true ∧ t.cal.due = List.range 198 ∧ t.cal.lastStart = some b.clk
      ∧ SameWords [R.CAL_STATUS] b t ∧ SameMem b t))
  ∧ (∀ (b : Block) (p : Path) (v : Word), Runs b → b.gated R.CAL_CMD = false → F.CAL_CMD_CYCLE.of v.toNat = 1 →
    F.CAL_CMD_SAVE.of v.toNat = 0 → F.CAL_CMD_ABORT.of v.toNat = 0 → b.calMayRun = false →
    Gives (.calCycle p v) b (fun t => t.cal = b.cal ∧ SameWords [] b t ∧ SameMem b t))
  ∧ (∀ (b : Block) (start : Nat), Runs b → b.cal.lastStart = some start → b.get F.CAL_CTRL_INTERVAL_S ≠ 0 → b.calMayRun = true →
    b.bit F.CAL_STATUS_CYCLE = false →
    Gives .calInterval b (fun t => t.bit F.CAL_STATUS_CYCLE = true ∧ t.cal.due = List.range 198 ∧ t.cal.lastStart = some t.clk
      ∧ t.clk = max b.clk (start + b.get F.CAL_CTRL_INTERVAL_S * 1000000000) ∧ SameWords [R.CAL_STATUS] b t ∧ SameMem b t))
  ∧ ∀ (b : Block) (p : Path) (v : Word), Runs b → b.gated R.CAL_CMD = false → F.CAL_CMD_CYCLE.of v.toNat = 0 →
    F.CAL_CMD_SAVE.of v.toNat = 0 → F.CAL_CMD_ABORT.of v.toNat = 1 → b.bit F.CAL_STATUS_CYCLE = true →
    Gives (.calAbort p v) b (fun t => t.bit F.CAL_STATUS_CYCLE = false ∧ t.get F.CAL_STATUS_TARGET = 0xFF ∧ t.cal.due = []
      ∧ t.cal.step = none ∧ t.bit F.CAL_IRQ_STATUS_CYCLE_DONE = true ∧ SameOutside [0x05] b t ∧ SameMem b t)

/-- Calibration steps (R414, R416, R418 to R420): the reference is good while its samples of 100 ms lie within 2,487,500 µV and
2,512,500 µV and within 50 µV of each other, each sample within the module window of a guard; a step within the residual limit
passes its target, one beyond it stores a code for the next frame start; 5 µs after the guard start the next target that fits
starts. -/
def Obligations.CalibrationSteps : Prop :=
  (∀ (b : Block) (uv ends : Nat), Runs b → b.pm.gate = false → b.refSampleAt = some ends → b.cal.samples = [] → 2487500 ≤ uv → uv ≤ 2512500 →
    Gives (.calRefSample uv) b (fun t => t.bit F.CAL_STATUS_REF_OK = true ∧ t.get F.CAL_REF_UV = uv ∧ t.cal.samples = [(t.clk, uv)]
      ∧ t.stc = b.stcBy ends ∧ SameWords [R.CAL_STATUS, R.CAL_REF] b t ∧ SameMem b t))
  ∧ (∀ (b : Block) (uv ends : Nat), Runs b → b.pm.gate = false → b.refSampleAt = some ends → uv < 2487500 ∨ 2512500 < uv →
    Gives (.calRefSample uv) b (fun t => t.bit F.CAL_STATUS_REF_OK = false ∧ t.bit F.CAL_ERR_REF_ABSENT = true ∧ t.stc = b.stcBy ends
      ∧ SameOutside [0x05, 0x30] b t ∧ SameMem b t))
  ∧ (∀ (b : Block) (e : Int) (dur start : Nat), Runs b → b.cal.step = some start → b.get F.CAL_STATUS_TARGET < 198 →
    (b.untilStc (start + min dur (calTime (b.get F.CAL_STATUS_TARGET)))).calBroken (b.get F.CAL_STATUS_TARGET) = false →
    e.natAbs ≤ max 1 (b.get F.CAL_LIMIT_RESID_PPM) → e.natAbs < 2 ^ 31 →
    Gives (.calStepDone e dur) b (fun t => t.bit (F.CAL_TRIMt_PASS (b.get F.CAL_STATUS_TARGET)) = true
      ∧ t.getInt (F.CAL_RESIDt_PPM (b.get F.CAL_STATUS_TARGET)) = e
      ∧ t.stc = b.stcBy (start + min dur (calTime (b.get F.CAL_STATUS_TARGET)))
      ∧ SameOutside [0x05] b t ∧ SameMem b t))
  ∧ (∀ (b : Block) (e : Int) (dur start : Nat), Runs b → b.cal.step = some start → b.get F.CAL_STATUS_TARGET < 198 →
    (b.untilStc (start + min dur (calTime (b.get F.CAL_STATUS_TARGET)))).calBroken (b.get F.CAL_STATUS_TARGET) = false →
    max 1 (b.get F.CAL_LIMIT_RESID_PPM) < e.natAbs → b.cal.adjusted = [] → b.cal.codes = [] →
    0 ≤ (b.get (F.CAL_TRIMt_CODE (b.get F.CAL_STATUS_TARGET)) : Int) - calDelta (b.get F.CAL_STATUS_TARGET) e →
    (b.get (F.CAL_TRIMt_CODE (b.get F.CAL_STATUS_TARGET)) : Int) - calDelta (b.get F.CAL_STATUS_TARGET) e ≤ 0xFFF →
    Gives (.calStepDone e dur) b (fun t => t.cal.codes = [(b.get F.CAL_STATUS_TARGET,
        ((b.get (F.CAL_TRIMt_CODE (b.get F.CAL_STATUS_TARGET)) : Int) - calDelta (b.get F.CAL_STATUS_TARGET) e).toNat)]
      ∧ t.get (F.CAL_TRIMt_CODE (b.get F.CAL_STATUS_TARGET)) = b.get (F.CAL_TRIMt_CODE (b.get F.CAL_STATUS_TARGET))
      ∧ SameOutside [0x05] b t ∧ SameMem b t))
  ∧ ∀ (b w : Block) (r : List Nat), Runs b → b.shutdown = false → b.pm.gate = false → b.bit F.CAL_STATUS_CYCLE = true →
    b.cal.step = none → b.cal.due = 0 :: r → b.bit F.CAL_STATUS_REF_OK = true →
    w = { b.untilStc (nsOf b.frm.cur.guard + 5000) with cal.later := [] } → w.calFits 0 = true →
    Gives .calWindowOpen b (fun t => t.cal.step = some t.stc ∧ t.get F.CAL_STATUS_TARGET = 0 ∧ t.cal.due = 0 :: r
      ∧ t.stc = b.stcBy (nsOf b.frm.cur.guard + 5000) ∧ SameWords [R.CAL_STATUS] b t ∧ SameMem b t)

/-- The calibration store (R421, R423): SAVE writes the copy that is not in use with the next sequence number, and a read-back
that passes makes it the copy in use, one that fails leaves the other in use. -/
def Obligations.CalibrationStore : Prop :=
  (∀ (b : Block) (p : Path) (v : Word), Runs b → b.gated R.CAL_CMD = false → F.CAL_CMD_CYCLE.of v.toNat = 0 →
    F.CAL_CMD_SAVE.of v.toNat = 1 → F.CAL_CMD_ABORT.of v.toNat = 0 → b.cal.saving = none →
    Gives (.calSave p v) b (fun t => t.cal.saving = some (1 - b.get F.CAL_STORE_STATUS_IN_USE, b.calImage (b.cal.seq + 1))
      ∧ t.cal.saveFrom = b.clk ∧ t.cal.copies = b.cal.copies.set (1 - b.get F.CAL_STORE_STATUS_IN_USE)
          { b.calCopy (1 - b.get F.CAL_STORE_STATUS_IN_USE) with ok := false }
      ∧ SameWords [R.CAL_STORE_STATUS] b t ∧ SameMem b t))
  ∧ (∀ (b : Block) (k after : Nat) (c : CalCopy), Runs b → b.cal.saving = some (k, c) → k < 2 → b.cal.copies.length = 2 →
    c.seq < 2 ^ 32 →
    Gives (.calSaveDone true after) b (fun t => t.cal.copies = b.cal.copies.set k { c with ok := true } ∧ t.cal.saving = none
      ∧ t.get F.CAL_STORE_STATUS_IN_USE = k ∧ t.get F.CAL_STORE_SEQ_SEQ = c.seq ∧ t.bit F.CAL_IRQ_STATUS_SAVED = true
      ∧ t.clk = max b.clk (b.cal.saveFrom + min after 400000000) ∧ SameOutside [0x05] b t ∧ SameMem b t))
  ∧ ∀ (b : Block) (k after : Nat) (c : CalCopy), Runs b → b.cal.saving = some (k, c) → k < 2 →
    Gives (.calSaveDone false after) b (fun t => t.cal.copies = b.cal.copies.set k { c with ok := false } ∧ t.cal.saving = none
      ∧ t.get F.CAL_STORE_STATUS_IN_USE = b.get F.CAL_STORE_STATUS_IN_USE ∧ t.bit F.CAL_ERR_SAVE_FAIL = true
      ∧ SameOutside [0x05, 0x30] b t ∧ SameMem b t)

/-! ### Thermal protection -/

/-- Thermal samples (R425, R426, R429, R430): a sample takes 100 µs and shows each sensor, with its failure where it reads below
-55 °C or above 150 °C; readings that all agree are the component's temperature; a component at its limit in two samples in a row
trips to SHUTDOWN; THM_COOL at 60 s makes the restart due. -/
def Obligations.ThermalSamples : Prop :=
  (∀ (b : Block) (x : Int), Runs b → b.pmState ≠ pmOff → -440 ≤ x → x < 680 →
    Gives (.thmSample (List.replicate 24 x)) b (fun t => t.clk = b.clk + 100000
      ∧ (∀ n < 24, t.getInt (F.THM_SENSn_T n) = x ∧ t.bit (F.THM_SENSn_FAILED n) = false ∧ t.bit (F.THM_SENSn_SUSPECT n) = false)
      ∧ (∀ c < 6, t.getInt (F.THM_COMPc_T c) = x) ∧ t.getInt F.THM_TEMP_TMAX = x ∧ t.shutdown = b.shutdown
      ∧ SameOutside [0x04] b t ∧ SameMem b t))
  ∧ (∀ (b : Block) (x : Int), Runs b → b.pmState ≠ pmOff → b.shutdown = false → b.thm.tripping = List.replicate 6 true →
    960 ≤ x → x ≤ 1200 →
    Gives (.thmSample (List.replicate 24 x)) b (fun t => t.shutdown = true ∧ t.bit F.THM_ERR_SHUTDOWN = true))
  ∧ ∀ (b : Block) (cool : Nat), Runs b → b.thm.coolFrom = some cool → b.shutdown = true →
    Gives .thmCoolDone b (fun t => t.thm.restart = true ∧ t.clk = max b.clk (cool + 60000000000) ∧ 60 ≤ t.get F.THM_COOL_S
      ∧ SameWords [R.THM_COOL] b t ∧ SameMem b t)

/-! ### Power states -/

/-- Requests (R437, R438): ACTIVE and DIM of a lit module with a role, and an entry that nothing refuses or that names its frame,
become the pending request; without a role ACTIVE and DIM act at once; an entry that a condition of R438 meets is refused,
recorded and flagged, and the state in force stays. -/
def Obligations.PowerRequests : Prop :=
  (∀ (b : Block) (p : Path) (w : Bool), Runs b → b.role ≠ 0 → b.pmState = pmDim →
    Gives (.pmReqActive p w) b (fun t => t.get F.PM_STATUS_PENDING = pmActive ∧ t.pmState = b.pmState
      ∧ t.pm.reqWfn = (if w then some (b.pair F.PM_REQ_WFN_LO_WFN F.PM_REQ_WFN_HI_WFN) else none) ∧ SameWords [R.PM_STATUS] b t ∧ SameMem b t))
  ∧ (∀ (b : Block) (p : Path) (w : Bool), Runs b → b.role ≠ 0 → b.pmState = pmActive →
    Gives (.pmReqDim p w) b (fun t => t.get F.PM_STATUS_PENDING = pmDim ∧ t.pmState = b.pmState
      ∧ t.pm.reqWfn = (if w then some (b.pair F.PM_REQ_WFN_LO_WFN F.PM_REQ_WFN_HI_WFN) else none) ∧ SameWords [R.PM_STATUS] b t ∧ SameMem b t))
  ∧ (∀ (b : Block) (p : Path) (w : Bool), Runs b → b.role = 0 → b.pmState = pmActive →
    Gives (.pmReqDim p w) b (fun t => t.pmState = pmDim ∧ t.bit F.PM_IRQ_STATUS_STATE_CHANGE = true ∧ SameOutside [0x06] b t ∧ SameMem b t))
  ∧ (∀ (b : Block) (p : Path) (w : Bool), Runs b → b.role ≠ 0 → b.pmState = pmActive ∨ b.pmState = pmDim → w = true ∨ b.refuser false = none →
    Gives (.pmReqBracken p w) b (fun t => t.get F.PM_STATUS_PENDING = pmBracken ∧ t.pmState = b.pmState ∧ SameWords [R.PM_STATUS] b t ∧ SameMem b t)
    ∧ Gives (.pmReqRetain p w) b (fun t => t.get F.PM_STATUS_PENDING = pmRetain ∧ t.pmState = b.pmState ∧ SameWords [R.PM_STATUS] b t ∧ SameMem b t)
    ∧ Gives (.pmReqOff p w) b (fun t => t.get F.PM_STATUS_PENDING = pmOff ∧ t.pmState = b.pmState ∧ SameWords [R.PM_STATUS] b t ∧ SameMem b t))
  ∧ ∀ (b : Block) (p : Path) (blk reason : Nat), Runs b → b.role ≠ 0 → b.pmState = pmActive ∨ b.pmState = pmDim →
    b.refuser false = some (blk, reason) → blk < 256 → reason < 256 →
    Gives (.pmReqOff p false) b (fun t => t.pmState = b.pmState ∧ t.bit F.PM_ERR_REFUSED = true ∧ t.get F.PM_LAST_REFUSER_BLOCK = blk
      ∧ t.get F.PM_LAST_REFUSER_REASON = reason ∧ t.get F.PM_LAST_REFUSER_STATE = pmOff ∧ t.bit F.PM_LAST_REFUSER_ABORT = false
      ∧ t.get F.PM_STATUS_PENDING = 7 ∧ SameOutside [0x06, 0x30] b t ∧ SameMem b t)

/-- The end of an entry (R440, R446): BRACKEN and RETAIN begin with the islands off, and in RETAIN STC stands; OFF ends logic
power. Wake sources and the wake order (R442 to R445): the timer and a window latch the sources that are enabled, one that is not
enabled does nothing; WAKE_START shows them and goes to WAKING; WAKE_DONE ends in ACTIVE, in DIM where WAKE_TO_DIM asks for it or
in the state that was requested, and counts the wake; a wake tone ends at its time. -/
def Obligations.SleepAndWaking : Prop :=
  (∀ (b : Block) (st after : Nat), Runs b → b.pm.gate = true → b.pm.entering = some st → st = pmBracken ∨ st = pmRetain →
    Gives (.powerEntryDone after) b (fun t => t.pmState = st ∧ t.pm.entering = none ∧ t.pm.islandsOff = true ∧ t.pm.enteredAt = t.clk
      ∧ t.get F.SRD_STATUS_PLL_LOCK = 0 ∧ (st = pmRetain → t.pm.stcStopped = true)))
  ∧ (∀ (b : Block) (after : Nat), Runs b → b.pm.gate = true → b.pm.entering = some pmOff →
    Gives (.powerEntryDone after) b (fun t => t.pmState = pmOff ∧ t.logic = .off ∧ t.dram = [] ∧ t.qdr = [] ∧ t.pins.railsOn = false
      ∧ t.pins.alertN = true))
  ∧ (∀ b : Block, Runs b → b.asleep = true → b.get F.PM_WAKE_TIMER_S ≠ 0 → bitOf (b.get F.PM_WAKE_EN_EN) 1 = true →
    Gives .wakeTimer b (fun t => bitOf t.pm.wakes 1 = true ∧ t.clk = max b.clk (b.pm.enteredAt + b.get F.PM_WAKE_TIMER_S * 1000000000)
      ∧ t.pmState = b.pmState ∧ SameWords [] b t ∧ SameMem b t))
  ∧ (∀ (b : Block) (tone1 sync : Bool), Runs b → b.pmState = pmBracken → bitOf (b.get F.PM_WAKE_EN_EN) 4 = true →
    Gives (.brackenWindow true tone1 sync) b (fun t => bitOf t.pm.wakes 4 = true ∧ t.clk = max b.clk b.pm.nextWindow
      ∧ t.pm.nextWindow = b.pm.nextWindow + b.brackenPeriod ∧ t.pm.syncHigh = sync ∧ SameWords [] b t ∧ SameMem b t))
  ∧ (∀ (b : Block) (tone0 tone1 sync : Bool), Runs b → b.pmState = pmBracken → b.get F.PM_WAKE_EN_EN = 0 →
    Gives (.brackenWindow tone0 tone1 sync) b (fun t => t.pm.wakes = b.pm.wakes ∧ t.pmState = pmBracken ∧ SameWords [] b t ∧ SameMem b t))
  ∧ (∀ b : Block, Runs b → b.asleep = true → b.pm.wakes ≠ 0 → b.pm.wakes < 512 → b.flt.deferred = [] →
    Gives .wakeStart b (fun t => t.pmState = pmWaking ∧ t.get F.PM_WAKE_SRC_SRC = b.pm.wakes ∧ t.pm.wakes = 0 ∧ t.pm.islandsOff = false
      ∧ t.pm.enteredAt = b.clk ∧ SameOutside [0x06] b t ∧ SameMem b t))
  ∧ (∀ (b : Block) (drifts : List Int) (after : Nat), Runs b → b.pmState = pmWaking →
    Gives (.wakeDone drifts after) b (fun t => ∃ c : Block, c.get F.PM_STATUS_PENDING = 7 ∧ c.bit F.PM_IRQ_STATUS_WAKE = true
      ∧ c.pmState = b.pm.after.getD (if b.bit F.PM_CTRL_WAKE_TO_DIM then pmDim else pmActive)
      ∧ t = ((c.when (b.pm.stcStopped && b.role != 0) (·.frameZero)).when b.pm.warmAfter (·.wantReset 2)).settle))
  ∧ ∀ (b : Block) (p at' : Nat), Runs b → p < 2 → b.pm.toneEnds = [(p, at')] →
    Gives (.wakeToneEnd p) b (fun t => t.pm.toneEnds = [] ∧ t.clk = max b.clk at' ∧ SameOutside [0x1E] b t ∧ SameMem b t)

/-! ### Updates, sessions and the fault log -/

/-- How an image comes in (R460 to R463, R465): OPEN in IDLE or REFUSED waits for a header, and anywhere else is refused with
UPD_BUSY; a word joins its path's block; a block of the image that has not come before is written to staging and counted, through a
register or as a message, which is answered; IMPORT of an image whose header passes goes to VERIFYING; CANCEL discards the image. -/
def Obligations.UpdateDelivery : Prop :=
  (∀ (b : Block) (p : Path) (v : Word), Runs b → b.gated R.UPD_CMD = false → F.UPD_CMD_OP.of v.toNat = 1 → b.upd.noDram = false →
    b.updState = updIdle ∨ b.updState = updRefused → b.stagingOk = true →
    Gives (.updOpen p v) b (fun t => t.updState = updHeader ∧ t.get F.UPD_RX_COUNT_BLOCKS = 0 ∧ t.upd.got = [] ∧ t.upd.head = none
      ∧ t.bit F.UPD_IRQ_STATUS_STATE_CHANGE = true ∧ SameOutside [0x07] b t ∧ SameMem b t))
  ∧ (∀ (b : Block) (p : Path) (v : Word), Runs b → b.gated R.UPD_CMD = false → F.UPD_CMD_OP.of v.toNat = 1 →
    b.updState ≠ updIdle → b.updState ≠ updRefused →
    Gives (.updOpen p v) b (fun t => t.updState = b.updState ∧ t.bit E.UPD_BUSY.fld = true ∧ t.get F.UPD_STATUS_CODE = 0x070C
      ∧ t.upd = b.upd ∧ SameOutside [0x07] b t ∧ SameMem b t))
  ∧ (∀ (b : Block) (p : Path) (v : Word), Runs b → b.gated R.UPD_BLK_DATA = false → b.upd.boxes.length = 4 →
    (b.upd.boxes.getD p.index []).length < 1024 →
    Gives (.updBlkData p v) b (fun t => t.upd.boxes.getD p.index [] = b.upd.boxes.getD p.index [] ++ [v]
      ∧ t.get (F.UPD_BLK_STATUS_WORDS.on p) = (b.upd.boxes.getD p.index []).length + 1
      ∧ SameWords [pathKey p R.UPD_BLK_STATUS] b t ∧ SameMem b t))
  ∧ (∀ (b : Block) (p : Path) (v : Word) (sigOk : Bool) (root : Option (Nat × List Byte)) (h : UpdHeader) (off : Nat) (bs : List Byte),
    Runs b → b.gated R.UPD_BLK_SUBMIT = false → F.UPD_BLK_SUBMIT_GO.of v.toNat = 1 → b.upd.noDram = false → b.updState = updReceiving →
    b.upd.head = some h → off = b.get (F.UPD_BLK_OFFSET_OFFSET.on p) →
    bs = ((b.upd.boxes.getD p.index []).map (fun w => leBytes 4 w.toNat)).flatten → blockFits (imageLen h) off bs.length = true →
    b.upd.got.contains (off / 4096) = false → b.upd.got.length + 1 < ceilDiv (imageLen h) 4096 → b.upd.got.length < 2 ^ 15 - 1 →
    Gives (.updBlkSubmit p v sigOk root) b (fun t => t.get (F.UPD_BLK_STATUS_RESULT.on p) = resAccepted
      ∧ t.get (F.UPD_BLK_STATUS_WORDS.on p) = 0 ∧ t.upd.got = off / 4096 :: b.upd.got
      ∧ t.get F.UPD_RX_COUNT_BLOCKS = b.upd.got.length + 1 ∧ t.updState = updReceiving
      ∧ t.dramBytes (b.stagingWindow.base + off) bs.length = bs
      ∧ (∀ x, x < b.stagingWindow.base + off ∨ b.stagingWindow.base + off + bs.length ≤ x → t.dramByte x = b.dramByte x)
      ∧ SameWords [pathKey p R.UPD_BLK_STATUS, R.UPD_RX_COUNT] b t))
  ∧ (∀ (b c : Block) (rx : Rx) (sigOk : Bool) (root : Option (Nat × List Byte)) (h : UpdHeader) (off st : Nat) (bs : List Byte), Runs b →
    b.receive rx = .accepted c → rx.msg.response = false → rx.msg.body = .updBlock off bs.length st h.imageId bs →
    c.upd.noDram = false → c.updState = updReceiving → c.upd.head = some h → blockFits (imageLen h) off bs.length = true →
    c.upd.got.contains (off / 4096) = true → c.upd.got.length < ceilDiv (imageLen h) 4096 →
    Gives (.updBlock rx sigOk root) b (fun t =>
      t.updState = updReceiving ∧ t.upd.got = c.upd.got
      ∧ t = ((c.updStore h off bs).respond rx false (.updBlock off bs.length resDuplicate h.imageId [])).settle))
  ∧ (∀ (b c : Block) (p : Path) (v : Word) (sigOk : Bool) (root : Option (Nat × List Byte)), Runs b → b.gated R.UPD_CMD = false →
    F.UPD_CMD_OP.of v.toNat = 3 → b.upd.noDram = false → b.updState = updIdle ∨ b.updState = updRefused → b.stagingOk = true →
    b.get F.UPD_IMPORT_LEN_BYTES = imageLen (updHeaderOf (b.dramBytes b.stagingWindow.base 512)) →
    b.updForget.updHeaderCheck (b.dramBytes b.stagingWindow.base 512) sigOk root = (true, c) →
    Gives (.updImport p v sigOk root) b (fun t => t.updState = updVerifying ∧ t.upd.head = c.upd.head ∧ t.upd.since = b.clk
      ∧ SameOutside [0x07] b t ∧ SameMem b t))
  ∧ ∀ (b : Block) (p : Path) (v : Word), Runs b → b.gated R.UPD_CMD = false → F.UPD_CMD_OP.of v.toNat = 2 →
    b.updState ∈ [updIdle, updHeader, updReceiving, updReady, updRefused] →
    Gives (.updCancel p v) b (fun t => t.updState = updIdle ∧ t.upd.head = none ∧ t.upd.body = none ∧ t.bit F.UPD_TXN_VALID = false
      ∧ t.upd.slots = b.upd.slots ∧ SameOutside [0x07] b t ∧ SameMem b t)

/-- What becomes of an image (R464 to R468, R454): a verified bit-stream empties its slot's entry and is written, a failed hash ends
in REFUSED; a slot that reads back as written holds the image, its entry is VALID and the image READY; PREPARE tags it; ACTIVATE and
ACTIVATE_AT arm it for its frame, or act at once without a role; CONFIRM, by command or by itself, makes a trial slot CONFIRMED and
REVERT makes it FAILED; a burn of the counter that reads back advances it by one. -/
def Obligations.UpdateLife : Prop :=
  (∀ (b : Block) (h : UpdHeader) (sigOk pointOk : Bool) (shared : List Byte) (after : Nat), Runs b → b.updState = updVerifying →
    b.upd.cancel = false → b.upd.head = some h → h.kind = 1 ∨ h.kind = 2 → sha384 (b.updBody h) = h.bodyHash →
    b.updBodyOk h (b.stagedBody sigOk) = true → b.upd.recs.length = 2 →
    Gives (.updVerifyDone false sigOk pointOk shared after) b (fun t => t.updState = updWriting ∧ t.upd.body = b.stagedBody sigOk
      ∧ t.upd.slots = b.upd.slots.set b.upd.target none
      ∧ t.bootRec = { b.bootRec.onEntry b.upd.target (fun _ => ⟨0, 0, 0, 0, 0⟩) with ok := true, seq := b.bootRec.seq + 1 }
      ∧ t.clk = max b.clk (b.upd.since + min after (ceilDiv h.bodyLen 2)) ∧ SameOutside [0x07] b t ∧ SameMem b t))
  ∧ (∀ (b : Block) (h : UpdHeader) (sigOk pointOk : Bool) (shared : List Byte) (after : Nat), Runs b → b.updState = updVerifying →
    b.upd.cancel = false → b.upd.head = some h → sha384 (b.updBody h) ≠ h.bodyHash →
    Gives (.updVerifyDone false sigOk pointOk shared after) b (fun t => t.updState = updRefused ∧ t.bit E.UPD_HASH.fld = true
      ∧ t.get F.UPD_STATUS_CODE = 0x0706 ∧ t.upd.slots = b.upd.slots ∧ SameOutside [0x07, 0x30] b t ∧ SameMem b t))
  ∧ (∀ (b : Block) (h : UpdHeader) (after : Nat), Runs b → b.updState = updWriting → b.upd.cancel = false → b.upd.head = some h →
    h.kind = 1 → b.upd.recs.length = 2 →
    Gives (.updWriteDone true after) b (fun t => t.updState = updReady ∧ t.upd.slots = b.upd.slots.set b.upd.target b.upd.body
      ∧ t.bootRec = { b.bootRec.onEntry b.upd.target (fun _ => ⟨h.imageId, h.sv, 1, h.keySlot, h.fmt⟩) with
          ok := true, seq := b.bootRec.seq + 1 }
      ∧ t.bit F.UPD_IRQ_STATUS_READY = true
      ∧ t.clk = max b.clk (b.upd.since + min after (500000000 + 120000000 * ceilDiv h.bodyLen (2 ^ 20)))
      ∧ SameOutside [0x07] b t ∧ SameMem b t))
  ∧ (∀ (b : Block) (p : Path) (v : Word), Runs b → b.gated R.UPD_CMD = false → F.UPD_CMD_OP.of v.toNat = 4 → b.updState = updReady →
    Gives (.updPrepare p v) b (fun t => t.bit F.UPD_TXN_VALID = true
      ∧ t.get F.UPD_TXN_TXN = b.get (F.CFG_COMMIT_TXN_TXN.on p) ∧ t.updState = updReady
      ∧ SameWords [R.UPD_TXN] b t ∧ SameMem b t))
  ∧ (∀ (b : Block) (p : Path) (v : Word), Runs b → b.gated R.UPD_CMD = false → b.updState = updReady → b.role ≠ 0 →
    (F.UPD_CMD_OP.of v.toNat = 5 → Gives (.updActivate p v) b (fun t => t.updState = updArmed ∧ t.upd.armed = some b.nextLaunch
      ∧ SameOutside [0x07] b t ∧ SameMem b t))
    ∧ (F.UPD_CMD_OP.of v.toNat = 6 → b.nextLaunch ≤ b.pair F.UPD_ACT_WFN_LO F.UPD_ACT_WFN_HI →
      Gives (.updActivateAt p v) b (fun t => t.updState = updArmed
        ∧ t.upd.armed = some (b.pair F.UPD_ACT_WFN_LO F.UPD_ACT_WFN_HI) ∧ SameOutside [0x07] b t ∧ SameMem b t))
    ∧ (F.UPD_CMD_OP.of v.toNat = 6 → b.pair F.UPD_ACT_WFN_LO F.UPD_ACT_WFN_HI < b.nextLaunch →
      Gives (.updActivateAt p v) b (fun t => t.updState = updReady ∧ t.bit E.UPD_MISSED.fld = true
        ∧ t.get F.UPD_STATUS_CODE = 0x070D ∧ t.upd = b.upd ∧ SameOutside [0x07] b t ∧ SameMem b t)))
  ∧ (∀ (b : Block) (p : Path) (v : Word) (h : UpdHeader), Runs b → b.gated R.UPD_CMD = false → b.updState = updReady → b.role = 0 →
    F.UPD_CMD_OP.of v.toNat = 5 → b.upd.head = some h → h.kind = 1 → b.upd.recs.length = 2 → b.bit F.UPD_TXN_VALID = false →
    Gives (.updActivate p v) b (fun t => t.updState = updIdle ∧ t.resetWanted = some (b.resetWanted.getD 2)
      ∧ t.bootRec.preferred = b.upd.target + 1 ∧ t.bootRec.trials = 3 ∧ SameOutside [0x07] b t ∧ SameMem b t))
  ∧ (∀ (b : Block) (p : Path) (v : Word) (s : Nat), Runs b → b.gated R.UPD_CMD = false → b.trialSlot = some s →
    b.upd.recs.length = 2 →
    (F.UPD_CMD_OP.of v.toNat = 7 → Gives (.updConfirm p v) b (fun t => (t.bootRec.entry s).state = 3 ∧ t.bootRec.setKeep = 0xFF
      ∧ (t.bootRec.entry (1 - s)).state ≠ 3 ∧ t.updState = b.updState ∧ SameOutside [0x07] b t ∧ SameMem b t))
    ∧ (F.UPD_CMD_OP.of v.toNat = 8 → Gives (.updRevert p v) b (fun t => (t.bootRec.entry s).state = 4 ∧ t.bootRec.preferred = 2 - s
      ∧ (b.role = 0 → t.resetWanted = some (b.resetWanted.getD 2)) ∧ (b.role ≠ 0 → t.upd.revert = some b.nextLaunch)
      ∧ SameOutside [0x07] b t ∧ SameMem b t)))
  ∧ (∀ (b : Block) (s t0 : Nat), Runs b → b.trialSlot = some s → b.upd.recs.length = 2 → b.upd.runFrom = some t0 →
    b.bit F.UPD_CTRL_AUTO_CONFIRM = true → b.stage = stageRun →
    Gives .autoConfirm b (fun t => (t.bootRec.entry s).state = 3
      ∧ t.clk = max b.clk (t0 + max 1 (b.get F.UPD_CTRL_CONFIRM_S) * 1000000000) ∧ SameOutside [0x07] b t ∧ SameMem b t))
  ∧ ∀ (b : Block) (goal after : Nat) (hash : List Byte) (rest : List Burn), Runs b → b.upd.burns = ⟨2, goal, hash⟩ :: rest →
    Gives (.fuseBurnDone true after) b (fun t => t.fuses = { b.fuses with antiRollback := b.fuses.antiRollback + 1 }
      ∧ t.get F.UPD_BOOT_COUNTER = (b.fuses.antiRollback + 1) % 2 ^ F.UPD_BOOT_COUNTER.width
      ∧ t.upd.burns = (if b.fuses.antiRollback + 1 < goal then ⟨2, goal, hash⟩ :: rest else rest)
      ∧ t.clk = max b.clk (b.upd.burnFrom + min after 20000000) ∧ SameOutside [0x07] b t ∧ SameMem b t)

/-- Sessions (R471): a HELLO opens one with a session ID that is not 0 and is answered with it, an ACCEPT opens one only for the
outstanding NONCE_I, a HELLO without answer is repeated after 10 ms and the third one gives up; and the fault log (R482 to R490):
the scan, the entry at the front of the queue is written with the next SEQ, a clear waits for the queue to be empty and then
empties the log, an export writes the entries to its range of DRAM, and a SEQ selects the entry that is presented. -/
def Obligations.SessionsAndFaultLog : Prop :=
  (∀ (b c d : Block) (rx : Rx) (nonce : Nat) (ver : Nat), Runs b → rx.msg.body = .hello nonce ver → b.admitZero rx = (some c, d) →
    Gives (.sessionHello rx) b (fun t => ∃ (e : Block) (r id : Nat), 0 < id ∧ id < 2 ^ 32
      ∧ e.hif.sessions.filter (·.node == rx.msg.src) =
          [⟨rx.msg.src, id, udpSecret (c.wallBytes ver) nonce r rx.msg.src c.node, true⟩]
      ∧ t = ((e.depart rx.via ⟨0x29, false, false, true, 80, rx.msg.src, c.node, 0,
          .accept nonce r id (((c.wallKey ver).map (·.version)).getD 0)⟩).flushUdp rx.msg.src).settle))
  ∧ (∀ (b c d : Block) (rx : Rx) (nonce nonceR id ver : Nat), Runs b → rx.msg.body = .accept nonce nonceR id ver →
    b.admitZero rx = (some c, d) → c.hif.hellos.any (fun h => h.node == rx.msg.src && h.nonce == nonce) = true →
    Gives (.sessionAccept rx) b (fun t => ∃ e : Block,
      e.hif.sessions.filter (·.node == rx.msg.src) = [⟨rx.msg.src, id, udpSecret (c.wallBytes ver) nonce nonceR c.node rx.msg.src, true⟩]
      ∧ e.hif.hellos.any (·.node == rx.msg.src) = false ∧ t = (e.flushUdp rx.msg.src).settle))
  ∧ (∀ (b : Block) (n : Nat) (h : Hello), Runs b → b.hif.hellos.find? (·.node == n) = some h → h.tries < 3 → b.viaUdp n = none →
    Gives (.sessionHelloRetry n) b (fun t => t.clk = max b.clk h.due
      ∧ t.hif.hellos = b.hif.hellos.filter (·.node != n) ++ [{ h with tries := h.tries + 1, due := t.clk + 10000000 }]
      ∧ t.out = b.out ∧ SameWords [] b t ∧ SameMem b t))
  ∧ (∀ (b : Block) (n : Nat) (h : Hello), Runs b → b.hif.hellos.find? (·.node == n) = some h → 3 ≤ h.tries → n < 2 ^ 16 →
    Gives (.sessionHelloRetry n) b (fun t => t.clk = max b.clk h.due ∧ t.hif.hellos = b.hif.hellos.filter (·.node != n)
      ∧ t.get F.HIF_DROP_AUTH = (b.get F.HIF_DROP_AUTH + (b.ring n).outQ.length) % 2 ^ 32))
  ∧ (∀ b : Block, Runs b → b.bit F.FLT_STATUS_READY = false → b.stage = 1 ∨ b.stage = 2 → b.flt.log.all (·.checkOk) = true →
    b.pm.islandsOff = false → b.flt.queue.length < 64 → (∀ x ∈ b.flt.queue, x.code ≤ 0x3010) →
    Gives .fltScanDone b (fun t => t.bit F.FLT_STATUS_READY = true
      ∧ t.flt.queue = b.flt.queue ++ [b.fltEntry 0x3010 (b.get F.SYS_RESET_CAUSE_CAUSE)] ∧ SameOutside [0x30] b t ∧ SameMem b t))
  ∧ (∀ (b : Block) (e : FltEntry) (rest : List FltEntry), Runs b → b.bit F.FLT_STATUS_READY = true → b.flt.queue = e :: rest →
    b.flt.heading = false → b.flt.lost = 0 → b.flt.used < 2046 → b.flt.nextSeq + 1 < 2 ^ 32 →
    Gives (.fltEntryWrite true) b (fun t => t.flt.log = b.flt.log ++ [⟨b.flt.sector, { e with seq := b.flt.nextSeq }, true⟩]
      ∧ t.flt.queue = rest ∧ t.get F.FLT_NEXT_SEQ_SEQ = b.flt.nextSeq + 1 ∧ t.flt.nextSeq = b.flt.nextSeq + 1
      ∧ t.bit F.FLT_IRQ_STATUS_LOGGED = true ∧ SameOutside [0x30] b t ∧ SameMem b t))
  ∧ (∀ (b : Block) (p : Path) (v : Word), Runs b → b.gated R.FLT_CMD = false → F.FLT_CMD_OP.of v.toNat = 1 →
    F.FLT_CMD_KEY.of v.toNat = 0xC1EA →
    Gives (.fltClear p v) b (fun t => t.flt = { b.flt with clearWaiting := true, heading := b.flt.heading || b.flt.queue.isEmpty }
      ∧ SameWords [] b t ∧ SameMem b t))
  ∧ (∀ b : Block, Runs b → b.flt.heading = true → b.flt.clears + 1 < 2 ^ 32 → b.flt.nextSeq < 2 ^ 32 →
    Gives .fltClearEffect b (fun t => t.flt.log = [] ∧ t.get F.FLT_CLEAR_COUNT_COUNT = b.flt.clears + 1
      ∧ t.get F.FLT_OLDEST_SEQ_SEQ = b.flt.nextSeq ∧ t.get F.FLT_NEXT_SEQ_SEQ = b.flt.nextSeq
      ∧ t.bit F.FLT_STATUS_CLEARING = true ∧ t.bit F.FLT_IRQ_STATUS_CLEARED = true ∧ SameOutside [0x30] b t ∧ SameMem b t))
  ∧ (∀ b : Block, Runs b → Gives .fltEraseDone b (fun t => t.bit F.FLT_STATUS_CLEARING = false ∧ t.flt.voided = []
      ∧ t.flt.log = b.flt.log ∧ SameWords [R.FLT_STATUS] b t ∧ SameMem b t))
  ∧ (∀ (b : Block) (p : Path) (v : Word), Runs b → b.gated R.FLT_CMD = false → F.FLT_CMD_OP.of v.toNat = 2 →
    b.bit F.FLT_STATUS_EXPORTING = false → b.exportSpan.base % 4096 = 0 → b.inDram b.exportSpan = true →
    b.exportSpan.clearOf [ringTable, b.ringPool] = true →
    Gives (.fltExport p v) b (fun t => t.bit F.FLT_STATUS_EXPORTING = true ∧ SameWords [R.FLT_STATUS] b t ∧ SameMem b t))
  ∧ (∀ (b : Block) (bs : List Byte), Runs b → b.bit F.FLT_STATUS_EXPORTING = true →
    bs = ((b.flt.log.filter (·.checkOk)).map (·.entry.bytes)).flatten →
    Gives .fltExportDone b (fun t => t.dramBytes b.exportSpan.base bs.length = bs ∧ t.bit F.FLT_STATUS_EXPORTING = false
      ∧ t.bit F.FLT_IRQ_STATUS_EXPORT_DONE = true
      ∧ (∀ x, x < b.exportSpan.base ∨ b.exportSpan.base + bs.length ≤ x → t.dramByte x = b.dramByte x) ∧ SameOutside [0x30] b t))
  ∧ ∀ (b : Block) (p : Path) (v : Word) (x : LogSlot), Runs b → b.gated R.FLT_RD_SEQ = false → v.toNat < b.flt.nextSeq →
    b.flt.oldest ≤ v.toNat → b.flt.log.find? (fun s => s.checkOk && s.entry.seq == v.toNat) = some x →
    Gives (.fltRdSeq p v) b (fun t => t.get F.FLT_RD_STATUS_STATE = 0
      ∧ ((List.range 8).map (fun i => leBytes 4 (t.get (F.FLT_RD_DATAw_DATA i)))).flatten = x.entry.bytes
      ∧ t.flt = b.flt ∧ SameOutside [0x30] b t ∧ SameMem b t)

/-! ### Commits, partial reconfiguration and transactions -/

/-- Commits (R119 to R123, R126): NEXT stages the group's shadow values for the next frame whose close point has not passed, and
says where that is a frame later than the running one allows; AT_WFN stages them for its target, or is rejected with MISSED once
that target's close point has passed; PREPARE keeps them with the transaction and no target; ARM gives every prepared stage of the
transaction its target; ABORT discards them; a failed check rejects the commit whole, with the check's code; an unassigned group
is rejected with CMD, a commit without a role with NOROLE, and a group whose block is idle is not supported. No active value
changes. -/
def Obligations.Commits : Prop :=
  (∀ (b : Block) (p : Path) (v : Word) (g n : Nat) (late : Bool), Runs b → b.gated R.CFG_COMMIT_CMD = false →
    F.CFG_COMMIT_CMD_GROUP.of v.toNat = g → F.CFG_COMMIT_CMD_OP.of v.toNat = 0 → groupAssigned g = true → g ≠ 1 → b.role ≠ 0 →
    b.idle (groupBlock g) = false → b.stagesOf g < 4 → b.heldByPartial g = false → b.shadowCheck g = none →
    b.nextTarget = (n, late) → n < 2 ^ 64 →
    Gives (.commitNext p v) b (fun t => t.cfg.stages = b.cfg.stages ++ [⟨g, b.snapshot g, some n, none⟩]
      ∧ t.get (F.CFG_COMMIT_STATUS_RESULT.on p) = (if late then comLate else comStaged) ∧ t.get (F.CFG_COMMIT_STATUS_CODE.on p) = 0
      ∧ t.get (F.CFG_COMMIT_STATUS_STAGES.on p) = b.stagesOf g + 1
      ∧ t.pair (F.CFG_COMMIT_WFN_LO.on p) (F.CFG_COMMIT_WFN_HI.on p) = n
      ∧ (late = true → t.bit F.CFG_ERR_LATE_COMMIT = true ∧ t.get F.CFG_LATE_COUNT = (b.get F.CFG_LATE_COUNT + 1) % 2 ^ 32)
      ∧ SameOutside [0x02] b t ∧ SameMem b t))
  ∧ (∀ (b : Block) (p : Path) (v : Word) (g n : Nat), Runs b → b.gated R.CFG_COMMIT_CMD = false →
    F.CFG_COMMIT_CMD_GROUP.of v.toNat = g → F.CFG_COMMIT_CMD_OP.of v.toNat = 1 → groupAssigned g = true → b.role ≠ 0 →
    b.idle (groupBlock g) = false → n = b.pair (F.CFG_COMMIT_TARGET_LO.on p) (F.CFG_COMMIT_TARGET_HI.on p) → n < 2 ^ 64 →
    (b.closePassed n = false → n ≤ b.wfn + 2 ^ 24 → b.stagesOf g < 4 → b.heldByPartial g = false → b.shadowCheck g = none →
      Gives (.commitAtWfn p v) b (fun t => t.cfg.stages = b.cfg.stages ++ [⟨g, b.snapshot g, some n, none⟩]
        ∧ t.get (F.CFG_COMMIT_STATUS_RESULT.on p) = comStaged ∧ t.pair (F.CFG_COMMIT_WFN_LO.on p) (F.CFG_COMMIT_WFN_HI.on p) = n
        ∧ SameOutside [0x02] b t ∧ SameMem b t))
    ∧ (b.closePassed n = true →
      Gives (.commitAtWfn p v) b (fun t => t.cfg.stages = b.cfg.stages ∧ t.get (F.CFG_COMMIT_STATUS_RESULT.on p) = comRejected
        ∧ t.get (F.CFG_COMMIT_STATUS_CODE.on p) = 0x0222 ∧ t.bit F.CFG_ERR_MISSED = true
        ∧ t.get F.CFG_REJECT_COUNT = (b.get F.CFG_REJECT_COUNT + 1) % 2 ^ 32 ∧ SameOutside [0x02] b t ∧ SameMem b t)))
  ∧ (∀ (b : Block) (p : Path) (v : Word) (g : Nat), Runs b → b.gated R.CFG_COMMIT_CMD = false →
    F.CFG_COMMIT_CMD_GROUP.of v.toNat = g → F.CFG_COMMIT_CMD_OP.of v.toNat = 2 → groupAssigned g = true → b.role ≠ 0 →
    b.idle (groupBlock g) = false → b.stagesOf g < 4 → b.heldByPartial g = false →
    (b.shadowCheck g = none →
      Gives (.commitPrepare p v) b (fun t =>
        t.cfg.stages = b.cfg.stages ++ [⟨g, b.snapshot g, none, some (b.get (F.CFG_COMMIT_TXN_TXN.on p))⟩]
        ∧ t.get (F.CFG_COMMIT_STATUS_RESULT.on p) = comPrepared ∧ t.get (F.CFG_COMMIT_STATUS_STAGES.on p) = b.stagesOf g + 1
        ∧ SameOutside [0x02] b t ∧ SameMem b t))
    ∧ (∀ code : Nat, b.shadowCheck g = some code →
      Gives (.commitPrepare p v) b (fun t => t.cfg.stages = b.cfg.stages ∧ t.get (F.CFG_COMMIT_STATUS_RESULT.on p) = comRejected
        ∧ t.get (F.CFG_COMMIT_STATUS_CODE.on p) = code % 2 ^ 16 ∧ t.get (F.CFG_GRPg_STATUS_LAST_CODE g) = code % 256
        ∧ t.get F.CFG_REJECT_COUNT = (b.get F.CFG_REJECT_COUNT + 1) % 2 ^ 32 ∧ SameOutside [0x02, 0x30] b t ∧ SameMem b t)))
  ∧ (∀ (b : Block) (p : Path) (v : Word) (txn n : Nat), Runs b → b.gated R.CFG_COMMIT_CMD = false →
    F.CFG_COMMIT_CMD_OP.of v.toNat = 3 → txn = b.get (F.CFG_COMMIT_TXN_TXN.on p) →
    n = b.pair (F.CFG_COMMIT_TARGET_LO.on p) (F.CFG_COMMIT_TARGET_HI.on p) →
    b.cfg.stages.any (fun s => s.txn == some txn && s.target.isNone) = true → b.role ≠ 0 →
    (b.closePassed n = false → n ≤ b.wfn + 2 ^ 24 →
      Gives (.commitArm p v) b (fun t => t.cfg.stages =
          b.cfg.stages.map (fun s => if s.txn = some txn ∧ s.target = none then { s with target := some n } else s)
        ∧ t.get (F.CFG_COMMIT_STATUS_RESULT.on p) = comArmed ∧ SameOutside [0x02] b t ∧ SameMem b t))
    ∧ (b.closePassed n = true →
      Gives (.commitArm p v) b (fun t => t.cfg.stages = b.cfg.stages ∧ t.get (F.CFG_COMMIT_STATUS_RESULT.on p) = comRejected
        ∧ t.bit F.CFG_ERR_MISSED = true ∧ SameOutside [0x02] b t ∧ SameMem b t)))
  ∧ (∀ (b : Block) (p : Path) (v : Word), Runs b → b.gated R.CFG_COMMIT_CMD = false → F.CFG_COMMIT_CMD_OP.of v.toNat = 4 →
    b.role ≠ 0 →
    Gives (.commitAbort p v) b (fun t => t.cfg.stages = b.cfg.stages.filter (fun s =>
        !(s.txn == some (b.get (F.CFG_COMMIT_TXN_TXN.on p)) && (s.target.all (fun n => !b.closePassed n))))
      ∧ t.get (F.CFG_COMMIT_STATUS_RESULT.on p) = comAborted ∧ SameOutside [0x02] b t ∧ SameMem b t))
  ∧ ∀ (b : Block) (p : Path) (v : Word) (g : Nat), Runs b → b.gated R.CFG_COMMIT_CMD = false →
    F.CFG_COMMIT_CMD_GROUP.of v.toNat = g → F.CFG_COMMIT_CMD_OP.of v.toNat = 0 →
    (groupAssigned g = false → Gives (.commitNext p v) b (fun t => t.cfg.stages = b.cfg.stages
      ∧ t.get (F.CFG_COMMIT_STATUS_RESULT.on p) = comRejected ∧ t.get (F.CFG_COMMIT_STATUS_CODE.on p) = 0x0226
      ∧ t.bit F.CFG_ERR_CMD = true ∧ SameOutside [0x02, 0x30] b t ∧ SameMem b t))
    ∧ (groupAssigned g = true → g ≠ 1 → b.role = 0 → Gives (.commitNext p v) b (fun t => t.cfg.stages = b.cfg.stages
      ∧ t.get (F.CFG_COMMIT_STATUS_RESULT.on p) = comRejected ∧ t.get (F.CFG_COMMIT_STATUS_CODE.on p) = 0x0224
      ∧ t.bit F.CFG_ERR_NOROLE = true ∧ SameOutside [0x02, 0x30] b t ∧ SameMem b t))
    ∧ (groupAssigned g = true → g ≠ 1 → b.role ≠ 0 → b.idle (groupBlock g) = true →
      Gives (.commitNext p v) b (fun t => t.cfg = b.cfg ∧ t.get (F.CFG_COMMIT_STATUS_RESULT.on p) = comNotSupported
        ∧ SameWords [pathKey p R.CFG_COMMIT_STATUS, pathKey p R.CFG_COMMIT_WFN_LO, pathKey p R.CFG_COMMIT_WFN_HI] b t ∧ SameMem b t))

/-- Partial reconfiguration (R127 to R129): CHECK of the image at CFG_PR_SRC whose groups hold no stage begins the checks, one
that finds a stage is rejected with BUSY, and a table load going on ends it in ERROR; an image that passes leads to READY, one
that fails to ERROR with its code; APPLY_NEXT and APPLY_AT arm a READY image for their frame, and a missed APPLY_AT leaves it
READY; CANCEL gives it up. And transactions (R274, R275): a tile that receives TXN_ARM arms its prepared stages and answers, and
on TXN_ABORT it discards them and answers. -/
def Obligations.PartialsAndTransactions : Prop :=
  (∀ (b : Block) (p : Path) (v : Word) (sigOk : Bool), Runs b → b.gated R.CFG_PR_CMD = false → F.CFG_PR_CMD_OP.of v.toNat = 0 →
    b.prState = prIdle →
    (b.scn.load = none → (touchedBy (b.partialAt sigOk)).all (fun g => b.stagesOf g == 0) = true →
      Gives (.prCheck p v sigOk) b (fun t => t.prState = prChecking ∧ t.cfg.part = ⟨some (b.partialAt sigOk), none, b.clk⟩
        ∧ SameWords [R.CFG_PR_STATUS] b t ∧ SameMem b t))
    ∧ ((touchedBy (b.partialAt sigOk)).any (fun g => b.stagesOf g != 0) = true →
      Gives (.prCheck p v sigOk) b (fun t => t.prState = prIdle ∧ t.get F.CFG_PR_STATUS_CODE = 0x0221 ∧ t.bit F.CFG_ERR_BUSY = true
        ∧ t.cfg = b.cfg ∧ SameOutside [0x02] b t ∧ SameMem b t))
    ∧ (b.scn.load.isSome = true → (touchedBy (b.partialAt sigOk)).all (fun g => b.stagesOf g == 0) = true →
      Gives (.prCheck p v sigOk) b (fun t => t.prState = prError ∧ t.get F.CFG_PR_STATUS_CODE = 0x0221
        ∧ t.bit F.CFG_ERR_BUSY = true ∧ t.bit F.CFG_IRQ_STATUS_PR_ERROR = true ∧ t.cfg = b.cfg ∧ SameOutside [0x02] b t ∧ SameMem b t)))
  ∧ (∀ (b c d : Block) (i : Image) (after : Nat), Runs b → b.prState = prChecking → b.cfg.part.image = some i →
    c = ((b.dramUse 5 (b.pair F.CFG_PR_SRC_LO F.CFG_PR_SRC_HI_SRC) i.totalLen).untilClk
      (b.cfg.part.since + min after (2000000 + 5300000 * ceilDiv i.totalLen (2 ^ 20)))).copyPartial i →
    checkPartial b.fuses (b.pair F.CFG_BUILD_ID_LO F.CFG_BUILD_ID_HI) false i = none →
    c.checkTables i c.idleBank = (none, d) → d.partialChecks i = none →
    Gives (.prCheckDone false after) b (fun t => t = ((d.set F.CFG_PR_STATUS_STATE prReady).irq F.CFG_IRQ_STATUS_PR_READY).settle
      ∧ t.prState = prReady ∧ t.bit F.CFG_IRQ_STATUS_PR_READY = true))
  ∧ (∀ (b : Block) (i : Image) (e : Err) (poisoned : Bool) (after : Nat), Runs b → b.prState = prChecking →
    b.cfg.part.image = some i → checkPartial b.fuses (b.pair F.CFG_BUILD_ID_LO F.CFG_BUILD_ID_HI) poisoned i = some e →
    Gives (.prCheckDone poisoned after) b (fun t => t.prState = prError ∧ t.get F.CFG_PR_STATUS_CODE = e.code
      ∧ t.bit e.fld = true ∧ t.bit F.CFG_IRQ_STATUS_PR_ERROR = true ∧ t.cfg.stages = b.cfg.stages
      ∧ ((checkPartialHead b.fuses (b.pair F.CFG_BUILD_ID_LO F.CFG_BUILD_ID_HI) i).isSome = true →
        t.cfg = b.cfg ∧ SameOutside [0x02, 0x30] b t ∧ SameMem b t)))
  ∧ (∀ (b : Block) (p : Path) (v : Word), Runs b → b.gated R.CFG_PR_CMD = false → F.CFG_PR_CMD_OP.of v.toNat = 1 →
    b.prState = prReady →
    Gives (.prApplyNext p v) b (fun t => t.prState = prArmed ∧ t.cfg.part = { b.cfg.part with target := some b.nextTarget.1 }
      ∧ SameOutside [0x02] b t ∧ SameMem b t))
  ∧ (∀ (b : Block) (p : Path) (v : Word) (n : Nat), Runs b → b.gated R.CFG_PR_CMD = false → F.CFG_PR_CMD_OP.of v.toNat = 2 →
    b.prState = prReady → n = b.pair F.CFG_PR_TARGET_LO F.CFG_PR_TARGET_HI →
    (b.closePassed n = false → n ≤ b.wfn + 2 ^ 24 →
      Gives (.prApplyAt p v) b (fun t => t.prState = prArmed ∧ t.cfg.part = { b.cfg.part with target := some n }
        ∧ SameWords [R.CFG_PR_STATUS] b t ∧ SameMem b t))
    ∧ (b.closePassed n = true →
      Gives (.prApplyAt p v) b (fun t => t.prState = prReady ∧ t.get F.CFG_PR_STATUS_CODE = 0x0222 ∧ t.bit F.CFG_ERR_MISSED = true
        ∧ t.cfg = b.cfg ∧ SameOutside [0x02] b t ∧ SameMem b t)))
  ∧ (∀ (b : Block) (p : Path) (v : Word), Runs b → b.gated R.CFG_PR_CMD = false → F.CFG_PR_CMD_OP.of v.toNat = 3 →
    b.prState = prReady ∨ b.prState = prError →
    Gives (.prCancel p v) b (fun t => t.prState = prIdle ∧ t.cfg.part.image = none ∧ SameWords [R.CFG_PR_STATUS] b t ∧ SameMem b t))
  ∧ (∀ (b c : Block) (rx : Rx) (txn target st : Nat) (cu : Bool), Runs b → b.receive rx = .accepted c →
    rx.msg.body = .txn txn false cu st target → rx.msg.response = false → c.duty = dutyTile → c.role ≠ 0 →
    c.cfg.stages.any (fun s => s.txn == some txn && s.target.isNone) = true → c.updTagged txn = false →
    c.closePassed target = false → target ≤ c.wfn + 2 ^ 24 → c.lnk.identityLost = false →
    Gives (.txnArm rx) b (fun t => t.cfg.stages =
        c.cfg.stages.map (fun s => if s.txn = some txn ∧ s.target = none then { s with target := some target } else s)
      ∧ ∃ m : Msg, t.hif.held.head? = some (rx.msg.src, m) ∧ m.response = true ∧ m.error = false
        ∧ m.body = .txn txn false cu 0 target))
  ∧ ∀ (b c : Block) (rx : Rx) (txn target st : Nat) (pr cu : Bool), Runs b → b.receive rx = .accepted c →
    rx.msg.body = .txn txn pr cu st target → rx.msg.response = false → c.duty = dutyTile → c.role ≠ 0 → c.updTagged txn = false →
    c.lnk.identityLost = false →
    Gives (.txnAbort rx) b (fun t => t.cfg.stages =
        c.cfg.stages.filter (fun s => !(s.txn == some txn && (s.target.all (fun n => !c.closePassed n))))
      ∧ ∃ m : Msg, t.hif.held.head? = some (rx.msg.src, m) ∧ m.response = true ∧ m.error = false
        ∧ m.body = .txn txn pr cu 0 target)

/-! ### The frame grid and the frame's events -/

/-- Commits install whole (R13, R119, R124): installing a group's snapshot gives every active value of the group the shadow value
it had when the snapshot was taken, and changes no other word; a due stage installs at its frame start, leaves its group, and the
group's LAST_WFN and INSTALLED tell; a stage that is not due stays, and no word changes. -/
def Obligations.InstallTakesTheSnapshot : Prop :=
  (∀ (b c : Block) (g k : Nat), cellsWf keyReset b.regs = true → cellsWf keyReset c.regs = true →
    (shadowKey g k = true → (b.install g (c.snapshot g)).word (k + activeOffset) = c.word k)
    ∧ (activeKey g k = false → (b.install g (c.snapshot g)).word k = b.word k) ∧ SameMem b (b.install g (c.snapshot g)))
  ∧ (∀ (b c : Block) (g m n : Nat) (txn : Option Nat), cellsWf keyReset b.regs = true → cellsWf keyReset c.regs = true → g < 256 →
    b.cfg.stages = [⟨g, c.snapshot g, some m, txn⟩] → m ≤ n →
    (b.installDue n).cfg.stages = [] ∧ (∀ k, shadowKey g k = true → (b.installDue n).word (k + activeOffset) = c.word k)
    ∧ (b.installDue n).get (F.CFG_GRPg_STATUS_STAGES g) = 0 ∧ (b.installDue n).get (F.CFG_GRPg_STATUS_LAST_WFN g) = n % 2 ^ 16
    ∧ (b.installDue n).bit F.CFG_IRQ_STATUS_INSTALLED = true)
  ∧ ∀ (b : Block) (g m n : Nat) (l : List (Nat × Word)) (txn : Option Nat), b.cfg.stages = [⟨g, l, some m, txn⟩] → n < m →
    (b.installDue n).cfg.stages = b.cfg.stages ∧ SameWords [] b (b.installDue n) ∧ SameMem b (b.installDue n)

/-- A frame's events (R27, R121, R186, R187, R190, R288, R315), each of which completes once its frame is fixed: FRAME_START
starts that frame at its time: WFN and its times first, then what is due; in sleep only the grid runs on. COMMIT_CLOSE_POINT
closes a head's commits and FROND_DEADLINE a tile's; a following module without a plan runs on; SETTLING_END publishes the frame;
GUARD_START opens the guard; START_LAUNCH is of the frame that is fixed. -/
def Obligations.FrameEvents : Prop :=
  (∀ (b : Block) (p : Plan), Runs b → b.frm.next = some p → b.role ≠ 0 → b.pm.stcStopped = false → b.pm.gate = false →
    Gives .frameStart b (fun t => t = ((b.untilStc (nsOf p.own)).startFrame p).settle))
  ∧ (∀ (b : Block) (p : Plan), p.wfn < 2 ^ 64 → (b.gridStart p).wfn = p.wfn ∧ (b.gridStart p).frm.cur = p
    ∧ (b.gridStart p).frm.next = b.frm.later ∧ (b.gridStart p).frm.later = none
    ∧ (b.gridStart p).get F.FRM_PERIOD = nsOf (p.fs - b.frm.cur.fs) % 2 ^ 32
    ∧ (b.gridStart p).bit F.FRM_IRQ_STATUS_FRAME = true ∧ SameOutside [0x14] b (b.gridStart p) ∧ SameMem b (b.gridStart p))
  ∧ (∀ (b : Block) (p : Plan), Runs b → b.frm.next = some p → b.role ≠ 0 → b.pm.stcStopped = false → b.pm.gate = true → p.wfn < 2 ^ 64 →
    Gives .frameStart b (fun t => t.wfn = p.wfn ∧ t.frm.cur = p ∧ t.stc = b.stcBy (nsOf p.own) ∧ t.cfg = b.cfg
      ∧ SameOutside [0x14, 0x30] b t ∧ SameMem b t))
  ∧ (∀ (b : Block) (p : Plan), Runs b →
    b.eventFrame (if b.frm.next.any (fun q => decide (q.wfn ≤ b.cfg.closed)) then b.frm.next.map (·.wfn) else none) = some p →
    b.isHead = true → b.pm.gate = false → b.cfg.closed < p.wfn →
    Gives .commitClosePoint b (fun t => t.cfg = { b.cfg with closed := p.wfn } ∧ t.stc = b.stcBy (nsOf p.close)
      ∧ SameWords [] b t ∧ SameMem b t))
  ∧ (∀ (b : Block) (p : Plan), Runs b → b.frm.next = some p → b.role = roleTile → b.pm.gate = false → b.pm.stcStopped = false →
    b.scn.last ≠ some p.wfn →
    Gives .frondDeadline b (fun t => t.cfg.closed = max b.cfg.closed p.wfn ∧ t.scn.last = some p.wfn
      ∧ t.stc = b.stcBy (nsOf p.deadline)))
  ∧ (∀ (b : Block) (p : Plan), Runs b → b.frm.next = some p → b.role = roleHead → b.pm.gate = false → b.pm.stcStopped = false →
    b.scn.last ≠ some p.wfn →
    Gives .frondDeadline b (fun t => t.scn.last = some p.wfn ∧ t.cfg = b.cfg ∧ t.stc = b.stcBy (nsOf p.deadline)))
  ∧ (∀ b : Block, b.frmState = frmFollow → b.frm.next = none → b.bit F.PTP_STATUS_TIME_VALID = true → b.frm.grid = true →
    b.followRunOn.frm.next = some (b.planAt (b.frm.cur.wfn + 1) (b.frm.cur.fs + max b.frm.pPrev b.pMin)
      (max b.frm.pPrev b.pMin))
    ∧ b.followRunOn.bit F.FRM_ERR_PLAN_MISSED = true ∧ SameOutside [0x14] b b.followRunOn ∧ SameMem b b.followRunOn)
  ∧ (∀ (b c : Block) (r : Settle) (after : Nat), Runs b → b.scn.settle = some r →
    c = (b.untilStc (min (b.stc + after) r.limit)).scnSettled r →
    Gives (.settlingEnd after) b (fun t => t.scn.settle = none ∧ t.stc = b.stcBy (min (b.stc + after) r.limit) ∧ t =
      ((c.sendSpore (c.spore r.wfn (if c.darkAhead r.wfn then 0 else r.ePred) r.mask)).strSettled r.wfn r.kee).settle))
  ∧ (∀ b : Block, Runs b → b.role ≠ 0 → b.pm.gate = false → b.frm.guarded ≠ some b.frm.cur.wfn →
    Gives .guardStart b (fun t => t.frm.guarded = some b.frm.cur.wfn ∧ t.stc = b.stcBy (nsOf b.frm.cur.guard)))
  ∧ (∀ (b : Block) (edge cell : Nat) (p : Plan), Runs b → b.frm.next = some p → b.role = roleHead → b.pm.gate = false →
    b.frm.launched ≠ some p.wfn →
    Gives (.startLaunch edge cell) b (fun t => t.frm.launched = some p.wfn
      ∧ t.stc = b.stcBy (nsOf (launchTime p.own b.longestOut)) ∧ t.str = b.str ∧ SameOutside [0x06, 0x30] b t ∧ SameMem b t))
  ∧ ∀ (b : Block) (edge cell : Nat) (p : Plan), Runs b → b.frm.next = some p → b.drives = true → b.pm.gate = false →
    b.frm.launched ≠ some p.wfn →
    Gives (.startLaunch edge cell) b (fun t => t.frm.launched = some p.wfn ∧ ∃ l : Launch, t.str.launch = some l ∧ l.wfn = p.wfn
      ∧ l.header = b.lnk.headers.find? (·.wfn == p.wfn) ∧ (l.header = none → l.hold = true))

/-- The grid (R182 to R184, R187 to R192, R198, R199, R251, R252), each of whose commands completes: a module in FREERUN plans the
next frame a T_MIN ahead, one that is locked to a reference a period between P_MIN and T_MAX, in rolling start the frame behind
the next one; a following tile takes the plan of its next frame from the active head and counts one that does not fit; an edge of
SYNC_IN is time-stamped and counted, one that comes too soon only counted; an output's pulse begins and ends at its times; the
active head sends the header of the next frame, and a tile keeps the one of its next frame. -/
def Obligations.FramePlanning : Prop :=
  (∀ b : Block, Runs b → b.pm.stcStopped = false → b.frmState = frmFreerun → b.frm.next = none → b.frm.later = none →
    Gives .planPoint b (fun t => t.frm.next = some (b.planAt (b.frm.cur.wfn + 1) (b.frm.cur.fs + b.pMin) b.pMin)
      ∧ t.frm.cur = b.frm.cur ∧ t.frmState = frmFreerun ∧ (b.duty ≠ dutyActive ∧ b.duty ≠ dutyDelegate → SameMem b t)))
  ∧ (∀ (b : Block) (p : Plan), Runs b → b.pm.stcStopped = false → b.frmState = frmFreerun → b.frm.next = some p → b.planWaits = false →
    Gives .planPoint b (fun t => t.frm.later = some (b.planAt (p.wfn + 1) (p.fs + b.pMin) b.pMin)
      ∧ t.frm.next = b.frm.next ∧ t.frm.cur = b.frm.cur))
  ∧ (∀ b : Block, Runs b → b.pm.stcStopped = false → b.frmState = frmLocked ∨ b.frmState = frmSlew ∨ b.frmState = frmRunOn →
    b.frm.next = none → b.frm.later = none → b.actBit F.FRM_REF_VARIABLE = false →
    Gives .planPoint b (fun t => ∃ p : Plan, t.frm.next = some p ∧ p.wfn = b.frm.cur.wfn + 1 ∧ p.fs = b.frm.cur.fs + p.period
      ∧ b.pMin ≤ p.period ∧ p.period ≤ max b.pMin b.tMax ∧ t.frm.cur = b.frm.cur))
  ∧ (∀ (b c : Block) (rx : Rx) (p : FramePlan), Runs b → b.receive rx = .accepted c → rx.msg.body = .framePlan p → c.role = roleTile →
    c.frmState = frmFollow → c.bit F.PTP_STATUS_TIME_VALID = true → p.epoch = c.epoch → c.fromHead rx.msg.src = true → c.stage = stageRun →
    p.modeEpoch = c.modeEpochAt p.wfn →
    (c.frm.next = none → c.planFits p = true →
      Gives (.framePlan rx) b (fun t => t.frm.next = some (c.planAt p.wfn (q16 p.fsNs + p.fsFrac) (q16 p.fsNs + p.fsFrac - c.frm.cur.fs))
        ∧ t.frm.grid = true))
    ∧ (∀ q : Plan, c.frm.next = some q → c.planFits p = true →
      Gives (.framePlan rx) b (fun t => t.frm.later = some (c.planAt p.wfn (q16 p.fsNs + p.fsFrac) (q16 p.fsNs + p.fsFrac - q.fs))
        ∧ t.frm.next = some q))
    ∧ (c.planFits p = false → Gives (.framePlan rx) b (fun t => t.frm = c.frm
      ∧ t.get (F.FRM_CNT_Ei 7) = min (c.get (F.FRM_CNT_Ei 7) + 1) (2 ^ 32 - 1))))
  ∧ (∀ (b : Block) (ts : Nat), Runs b → b.pm.stcStopped = false → b.isHead = false → ts < 2 ^ 64 → (∀ t ∈ b.frm.syncLast, t + 3333333 ≤ ts) →
    Gives (.syncInEdge ts) b (fun t => t.frm.syncLast = some ts ∧ t.pair F.FRM_SYNC_IN_TS_LO F.FRM_SYNC_IN_TS_HI = ts
      ∧ t.get (F.FRM_CNT_Ei 8) = min (b.get (F.FRM_CNT_Ei 8) + 1) (2 ^ 32 - 1) ∧ SameOutside [0x14] b t ∧ SameMem b t))
  ∧ (∀ (b : Block) (ts t0 : Nat), Runs b → b.pm.stcStopped = false → b.frm.syncLast = some t0 → ts < t0 + 3333333 →
    Gives (.syncInEdge ts) b (fun t => t.frm = b.frm ∧ t.get (F.FRM_CNT_Ei 9) = min (b.get (F.FRM_CNT_Ei 9) + 1) (2 ^ 32 - 1)
      ∧ SameWords [F.FRM_CNT_Ei 9 |>.addr] b t ∧ SameMem b t))
  ∧ (∀ (b : Block) (k j : Nat) (t0 : Int), Runs b → k < 2 → b.pins.syncOut.length = 2 → b.frm.pulseEnd = [none, none] →
    b.frm.pulseLast = [none, none] → b.role ≠ 0 → b.pm.gate = false → b.pulseStart k b.frm.cur j = some t0 →
    Gives (.syncOutPulse k false j) b (fun t => t.pins.syncOut.getD k false = !b.syncIdle k
      ∧ (t.frm.pulseEnd[k]?).join = some (nsOf t0 + b.act (F.FRM_SYNC_OUTk_WIDTH_NS k)) ∧ SameWords [] b t ∧ SameMem b t))
  ∧ (∀ (b : Block) (k t0 : Nat), Runs b → k < 2 → b.pins.syncOut.length = 2 → (b.frm.pulseEnd[k]?).join = some t0 →
    Gives (.syncOutPulseEnd k) b (fun t => t.pins.syncOut.getD k false = b.syncIdle k ∧ (t.frm.pulseEnd[k]?).join = none
      ∧ SameWords [] b t ∧ SameMem b t))
  ∧ (∀ (b : Block) (p : Plan), Runs b → b.eventFrame b.lnk.headerSent = some p → b.duty = dutyActive →
    Gives .frameHeaderSend b (fun t => t.lnk.headerSent = some p.wfn ∧ t.lnk.takeover = false
      ∧ t.lnk.headers.filter (·.wfn == p.wfn) = [b.header p]))
  ∧ ∀ (b c : Block) (rx : Rx) (h : FrameHeader), Runs b → b.receive rx = .accepted c → rx.msg.body = .frameHeader h →
    c.fromHead rx.msg.src = true → c.role = roleTile →
    (h.epoch = c.epoch → h.wfn = c.nextFrame → h.modeEpoch = c.modeEpochAt h.wfn →
      Gives (.frameHeader rx) b (fun t => t.lnk.headers = c.lnk.headers.filter (·.wfn != h.wfn) ++ [h] ∧ t.lnk.activeNode = h.headNode))
    ∧ (h.epoch < c.epoch → Gives (.frameHeader rx) b (fun t => t.lnk.headers = c.lnk.headers
      ∧ t.get (F.LNK_CNT_Ei 0) = min (c.get (F.LNK_CNT_Ei 0) + 1) (2 ^ 32 - 1) ∧ t.bit F.LNK_ERR_STALE = true))

/-! ### Time sources and the Lysrov chain -/

/-- Time (R167 to R172), each of whose commands completes: an Announce makes a master known, a complete Sync of the followed
master gives the domain's offset, a loss clears the domain and, where the time came from it and no other source is tracked, the
servo holds over; a Delay_Req is remembered; domain A takes over again after its clean time; domains that differ too long set
DISAGREE. Chain time (R169): a slave port asks, any other port sends Sync, and an answer gives the link's delay. -/
def Obligations.TimeSources : Prop :=
  (∀ (b : Block) (g : PtpMsg) (rank : List Nat) (gm cl iv : Nat), Runs b → g.port < 2 → b.gated R.PTP_CTRL = false →
    b.ptp.masters.length = 3 → b.actBit (F.PTP_DOMd_CFG_EN 0) = true → b.actBit (F.PTP_DOMd_CFG_EN 1) = false →
    b.act (F.PTP_DOMd_CFG_DOMAIN 0) = g.domain → b.act (F.PTP_DOMd_CFG_TRANSPORT 0) = g.transport →
    bitOf (b.act (F.PTP_DOMd_CFG_PORTS 0)) g.port = true → g.kind = .announce rank gm cl iv → b.masters 0 = [] →
    Gives (.ptpMessage g) b (fun t => (∃ m : Master, t.masters 0 = [m] ∧ m.port = g.port ∧ m.id = g.src ∧ m.rank = rank ∧ m.gm = gm
        ∧ m.gmClass = cl ∧ m.annDue = t.clk + 3 * iv)
      ∧ (b.get (F.PTP_DOMd_STATUS_STATE 0) = 0 → t.get (F.PTP_DOMd_STATUS_STATE 0) = 1) ∧ SameWords [R.PTP_DOMd_STATUS 0] b t ∧ SameMem b t))
  ∧ (∀ (b : Block) (g : PtpMsg) (m : Master) (seq iv : Nat) (t1 dl : Int), Runs b → g.port < 2 → b.gated R.PTP_CTRL = false →
    b.ptp.masters.length = 3 → b.actBit (F.PTP_DOMd_CFG_EN 0) = true → b.actBit (F.PTP_DOMd_CFG_EN 1) = false →
    b.act (F.PTP_DOMd_CFG_DOMAIN 0) = g.domain → b.act (F.PTP_DOMd_CFG_TRANSPORT 0) = g.transport →
    bitOf (b.act (F.PTP_DOMd_CFG_PORTS 0)) g.port = true → g.kind = .sync seq false t1 iv → b.masters 0 = [m] →
    m.port = g.port → m.id = g.src → m.delay = some dl → b.get (F.PTP_DOMd_STATUS_STATE 0) ≠ 0 →
    Gives (.ptpMessage g) b (fun t => t.get (F.PTP_DOMd_STATUS_STATE 0) = 2
      ∧ t.getInt (F.PTP_DOMd_OFFSET 0) = satSigned 32 ((t1 + dl + 40 * b.asym g.port - ethStamp g.rx) / 40) ∧ SameMem b t))
  ∧ (∀ (b : Block) (d : Nat) (m : Master), Runs b → b.pm.stcStopped = false → d < 2 → b.ptp.masters.length = 3 → b.masters d = [m] →
    b.get F.PTP_STATUS_SOURCE ≠ d →
    Gives (.ptpSourceLoss d) b (fun t => t.masters d = [] ∧ t.tracking d = false ∧ t.get (F.PTP_DOMd_STATUS_STATE d) = 3
      ∧ t.bit (if d = 0 then F.PTP_ERR_DOM_A_LOST else F.PTP_ERR_DOM_B_LOST) = true ∧ t.clk = max b.clk (min m.annDue m.syncDue)
      ∧ t.get F.PTP_STATUS_SOURCE = b.get F.PTP_STATUS_SOURCE ∧ SameOutside [0x13, 0x30] b t ∧ SameMem b t))
  ∧ (∀ (b : Block) (d : Nat) (m : Master), Runs b → b.pm.stcStopped = false → d < 2 → b.ptp.masters.length = 3 → b.masters d = [m] →
    b.get F.PTP_STATUS_SOURCE = d → b.bit F.PTP_CTRL_AUTO = true → b.tracking (1 - d) = false → b.ptp.stepped = true →
    b.get F.PTP_STATUS_STATE = servoLocked →
    Gives (.ptpSourceLoss d) b (fun t => t.get F.PTP_STATUS_SOURCE = sourceNone ∧ t.get F.PTP_STATUS_STATE = servoHoldover
      ∧ t.bit F.PTP_ERR_HOLDOVER = true ∧ t.get F.PTP_RATE_RATE = unsigned 32 b.ptp.freq ∧ SameOutside [0x13, 0x30] b t ∧ SameMem b t))
  ∧ (∀ (b : Block) (d : Nat) (m : Master) (u : Bool), Runs b → b.pm.stcStopped = false → d < 2 → b.ptp.masters.length = 3 →
    b.masters d = [m] → Gives (.ptpDelayReqSend ⟨d, u⟩) b (fun t =>
      t.masters d = [{ m with reqSeq := (m.reqSeq + 1) % 65536, t3 := ethStamp b.ticks }] ∧ SameMem b t))
  ∧ (∀ (b : Block) (t0 : Nat), Runs b → b.pm.stcStopped = false → b.ptp.cleanSince = some t0 → b.bit F.PTP_CTRL_AUTO = true → b.bit F.PTP_CTRL_REVERT = true →
    b.get F.PTP_STATUS_SOURCE = 1 →
    Gives .domainRevert b (fun t => t.get F.PTP_STATUS_SOURCE = 0 ∧ t.bit F.PTP_ERR_SWITCH = true
      ∧ t.bit F.PTP_IRQ_STATUS_SWITCH = true ∧ t.clk = max b.clk (t0 + b.get F.PTP_CTRL_REVERT_S * 1000000000)))
  ∧ (∀ (b : Block) (t0 : Nat), Runs b → b.pm.stcStopped = false → b.ptp.diffSince = some t0 →
    Gives .domainDisagree b (fun t => t.bit F.PTP_ERR_DISAGREE = true ∧ t.clk = max b.clk (t0 + 10000000000)
      ∧ SameOutside [0x13, 0x30] b t ∧ SameMem b t))
  ∧ (∀ (b : Block) (p : Nat), Runs b → p < 2 → b.carries p = true →
    (b.bit (F.LNKn_STATUS_SLAVE p) = true →
      Gives (.linkTimeSend p) b (fun t => t.out = .linkTime p (.request ((b.ptp.linkSeq + 1) % 65536)) :: b.out
        ∧ t.ptp.linkSeq = (b.ptp.linkSeq + 1) % 65536 ∧ t.ptp.linkT3 = b.ptp.linkT3.set p (lnkStamp b.ticks)
        ∧ SameWords [R.LNKn_CNT_Ti_LO p 0, R.LNKn_CNT_Ti_HI p 0] b t ∧ SameMem b t))
    ∧ (b.bit (F.LNKn_STATUS_SLAVE p) = false →
      Gives (.linkTimeSend p) b (fun t => t.out = .linkTime p (.sync (lnkStamp b.ticks)) :: b.out ∧ t.ptp = b.ptp
        ∧ SameWords [R.LNKn_CNT_Ti_LO p 0, R.LNKn_CNT_Ti_HI p 0] b t ∧ SameMem b t)))
  ∧ (∀ (b : Block) (p rx seq : Nat), Runs b → p < 2 → b.carries p = true → b.stc < rx / 40 → rx / 40 < 2 ^ 64 →
    b.pm.stcStopped = false →
    Gives (.linkTimeMessage p rx (.request seq)) b (fun t =>
      t.out = .linkTime p (.answer seq (lnkStamp rx) (lnkStamp rx)) :: b.out ∧ t.stc = rx / 40
      ∧ SameWords [R.LNKn_CNT_Ti_LO p 0, R.LNKn_CNT_Ti_HI p 0, R.LNKn_CNT_Ti_LO p 1, R.LNKn_CNT_Ti_HI p 1] b t ∧ SameMem b t))
  ∧ ∀ (b : Block) (p rx : Nat) (t2 t3 : Int), Runs b → p < 2 → b.carries p = true → b.ptp.linkDelay.length = 2 →
    Gives (.linkTimeMessage p rx (.answer b.ptp.linkSeq t2 t3)) b (fun t =>
      t.ptp.linkDelay[p]? = some (some (((t2 - b.ptp.linkT3.getD p 0) + (lnkStamp rx - t3)) / 2))
      ∧ SameOutside [0x13, 0x1C, 0x1D] b t ∧ SameMem b t)

/-- The link layer (R234 to R243, R248), each of whose commands completes: LINK_ID leaves a trained port with the module's
identity; one that arrives brings the port up, tells the partner, opens a session from the chain key once both have been exchanged
and completes it with its tag; one from a port of the same number or of another chain is a wrong cable; a neighbour's slot gives a
tile its own, and ports that offer different ones give none; 500 µs without one, or dropped lanes, take the port down; a write of
LNKn_CTRL trains the port or stops it; a frond for another slot goes on by the other port, its CRC failed where a cell was wrong,
and is dropped where that port is not up. -/
def Obligations.ChainLinks : Prop :=
  (∀ (b : Block) (p n : Nat), Runs b → p < 2 → b.lnk.ports.length = 2 → b.trained (2 + p) = true →
    (b.lnkPort p).ownNonce = some n →
    Gives (.linkIdSend p) b (fun t => (∃ x : LinkId, t.out = .linkId p x :: b.out ∧ x.node = b.node ∧ x.serial = b.fuses.serial
        ∧ x.chainId = b.chainId ∧ x.port = p ∧ x.epoch = b.epoch ∧ x.nonce = n ∧ x.incarn = b.lnk.incarn
        ∧ (x.tag = none ↔ (b.lnkPort p).partner = none)
        ∧ x.slot = (if b.bit F.LNK_CHAIN_STATUS_SLOT_VALID then b.slotNumber else 0xFF))
      ∧ (t.lnkPort p).sent = true ∧ SameWords [R.LNKn_CNT_Ti_LO p 0, R.LNKn_CNT_Ti_HI p 0] b t ∧ SameMem b t))
  ∧ (∀ (b : Block) (p own : Nat) (x : LinkId) (key : SecKey), Runs b → p < 2 → b.lnk.ports.length = 2 → b.trained (2 + p) = true →
    b.role = roleTile → b.bit (F.LNKn_STATUS_UP p) = false → (b.lnkPort p).sent = true → (b.lnkPort p).ownNonce = some own →
    (b.lnkPort p).partner ≠ some (x.nonce, x.serial) → (b.lnkPort p).ended = 0 → b.get (F.LNKn_SESSION_ID p) = 0 →
    b.chainKey false = some key → b.hif.seq + 1 < 2 ^ 32 →
    x.port ≠ p → x.slot = 0xFF → x.tag = none → (b.cfg.topo.isSome = true → x.chainId = b.chainId) → x.node < 2 ^ 18 →
    Gives (.linkId p x) b (fun t => t.bit (F.LNKn_STATUS_UP p) = true ∧ t.get (F.LNKn_PARTNER_NODE_NODE p) = x.node
      ∧ t.get (F.LNKn_STATUS_PARTNER_SLOT p) = 0xFF ∧ (t.lnkPort p).partner = some (x.nonce, x.serial)
      ∧ (t.lnkPort p).lastId = some b.clk ∧ t.bit (F.LNKn_STATUS_SESSION_UP p) = false
      ∧ t.bit (F.LNKn_IRQ_STATUS_LINK_CHANGE p) = true
      ∧ ∃ y : List Byte × Nat, y = (if p = 0 then linkSecret key.bytes x.nonce own b.chainId x.serial b.fuses.serial
            else linkSecret key.bytes own x.nonce b.chainId b.fuses.serial x.serial)
          ∧ (t.lnkPort p).secret = y.1 ∧ t.get (F.LNKn_SESSION_ID p) = y.2 % 2 ^ 32))
  ∧ (∀ (b : Block) (p : Nat) (x : LinkId), Runs b → p < 2 → b.lnk.ports.length = 2 → b.trained (2 + p) = true → b.role = roleTile →
    b.bit (F.LNKn_STATUS_UP p) = true → (b.lnkPort p).wrong = false → (b.lnkPort p).partner = some (x.nonce, x.serial) → x.port ≠ p →
    x.slot = 0xFF → x.tag = some true → (b.cfg.topo.isSome = true → x.chainId = b.chainId) →
    Gives (.linkId p x) b (fun t => t.bit (F.LNKn_STATUS_SESSION_UP p) = true ∧ t.bit (F.LNKn_STATUS_UP p) = true))
  ∧ (∀ (b : Block) (p : Nat) (x : LinkId), Runs b → p < 2 → b.lnk.ports.length = 2 → b.trained (2 + p) = true →
    b.bit (F.LNKn_STATUS_UP p) = true → x.port = p ∨ (b.cfg.topo.isSome = true ∧ x.chainId ≠ b.chainId) →
    Gives (.linkId p x) b (fun t => t.bit (F.LNKn_ERR_CABLE p) = true ∧ t.bit (F.LNKn_STATUS_SESSION_UP p) = false
      ∧ t.get (F.LNKn_SESSION_ID p) = 0 ∧ (t.lnkPort p).wrong = true ∧ t.carries p = false
      ∧ ((b.lnkPort p).wrong = true → SameOutside [0x1C, 0x1D, 0x30] b t ∧ SameMem b t)))
  ∧ (∀ (b : Block) (k s : Nat) (t : Topology), b.lnk.ports.length = 2 → b.cfg.topo = some t → (b.lnkPort 1).offered = none →
    b.bit F.LNK_CHAIN_STATUS_SLOT_VALID = false →
    s = k + 1 → s < t.slots → s < 64 → t.source1 = false → t.slotNode.getD s 0 = t.node → t.node < 2 ^ 18 →
    (b.takeSlot 0 k).slotNumber = s ∧ (b.takeSlot 0 k).bit F.LNK_CHAIN_STATUS_SLOT_VALID = true ∧ (b.takeSlot 0 k).node = t.node
    ∧ (b.takeSlot 0 k).lnk.identityLost = false ∧ SameWords [R.LNK_CHAIN_STATUS, R.HIF_NODE_ID] b (b.takeSlot 0 k))
  ∧ (∀ (b : Block) (k : Nat) (o : Int) (t : Topology), b.lnk.ports.length = 2 → b.cfg.topo = some t → (b.lnkPort 1).offered = some o →
    o ≠ k + 1 →
    (b.takeSlot 0 k).bit F.LNK_CHAIN_STATUS_SLOT_VALID = false ∧ (b.takeSlot 0 k).bit F.LNK_ERR_SLOT_MISMATCH = true)
  ∧ (∀ (b : Block) (p t0 : Nat), Runs b → p < 2 → b.lnk.ports.length = 2 → b.bit (F.LNKn_STATUS_UP p) = true →
    (b.lnkPort p).lastId = some t0 →
    Gives (.linkIdTimeout p) b (fun t => t.bit (F.LNKn_STATUS_UP p) = false ∧ t.bit (F.LNKn_STATUS_SESSION_UP p) = false
      ∧ t.get (F.LNKn_STATUS_PARTNER_SLOT p) = 0xFF ∧ t.bit (F.LNKn_ERR_LINK_DOWN p) = true ∧ (t.lnkPort p).partner = none
      ∧ t.get (F.LNKn_CNT_Ei p 2) = min (b.get (F.LNKn_CNT_Ei p 2) + 1) (2 ^ 32 - 1) ∧ t.clk = max b.clk (t0 + 500000)))
  ∧ (∀ (b : Block) (p : Nat), Runs b → p < 2 → b.lnk.ports.length = 2 → b.bit (F.LNKn_STATUS_UP p) = true → b.trained (2 + p) = false →
    Gives (.linkPortDown p) b (fun t => t.bit (F.LNKn_STATUS_UP p) = false ∧ t.bit (F.LNKn_STATUS_SESSION_UP p) = false
      ∧ t.bit (F.LNKn_ERR_LINK_DOWN p) = true ∧ (t.lnkPort p).partner = none ∧ t.clk = b.clk))
  ∧ (∀ (b : Block) (path : Path) (p : Nat) (v : Word), Runs b → p < 2 → b.gated (R.LNKn_CTRL p) = false → b.isHead = false →
    (b.bit (F.LNKn_CTRL_EN p) = false → (F.LNKn_CTRL_EN p).of v.toNat = 0 →
      Gives (.linkPortEnable path p v) b (fun t => t.bit (F.LNKn_CTRL_EN p) = false ∧ SameWords [] b t ∧ SameMem b t))
    ∧ (b.bit (F.LNKn_CTRL_EN p) = false → v = 1 → bitOf (b.get F.SRD_STATUS_PLL_LOCK) (2 + p) = false →
      Gives (.linkPortEnable path p v) b (fun t => t.bit (F.LNKn_CTRL_EN p) = true ∧ PortIn t (2 + p) lanePll
        ∧ SameOutside [0x1C, 0x1D, 0x1E] b t ∧ SameMem b t))
    ∧ (b.bit (F.LNKn_CTRL_EN p) = true → v = 0 →
      Gives (.linkPortEnable path p v) b (fun t => t.bit (F.LNKn_CTRL_EN p) = false ∧ t.bit (F.LNKn_STATUS_UP p) = false)))
  ∧ (∀ (b : Block) (p : Nat) (f : Frond), Runs b → p < 2 → b.carries p = true → b.isHead = false →
    (b.bit F.LNK_CHAIN_STATUS_SLOT_VALID = true → f.slot ≠ b.slotNumber) →
    (b.carries (1 - p) = true → b.bit (F.LNKn_CTRL_EN (1 - p)) = true → f.crcOk = true →
      Gives (.frondRelay p (.frond f) []) b (fun t => t.out = .frond (1 - p) f :: b.out ∧ t.scn = b.scn
        ∧ SameOutside [0x1C, 0x1D] b t ∧ SameMem b t))
    ∧ (∀ k : Nat, 0 < k → b.carries (1 - p) = true → b.bit (F.LNKn_CTRL_EN (1 - p)) = true →
      Gives (.frondRelay p (.frond f) [k]) b (fun t => t.out = .frond (1 - p) { f.zeroed [k] with crcOk := false } :: b.out
        ∧ t.bit (F.LNKn_ERR_CELL_ERR p) = true ∧ t.get (F.LNKn_CNT_Ei p 0) = min (b.get (F.LNKn_CNT_Ei p 0) + 1) (2 ^ 32 - 1)
        ∧ t.get (F.LNKn_CNT_Ei p 1) = min (b.get (F.LNKn_CNT_Ei p 1) + 1) (2 ^ 32 - 1) ∧ t.scn = b.scn))
    ∧ (b.carries (1 - p) = false → f.crcOk = true →
      Gives (.frondRelay p (.frond f) []) b (fun t => t.out = b.out
        ∧ t.get (F.LNKn_CNT_Ei p 4) = min (b.get (F.LNKn_CNT_Ei p 4) + 1) (2 ^ 32 - 1) ∧ SameMem b t)))
  ∧ ∀ (b : Block) (p n : Nat) (bad : List Nat), Runs b → p < 2 → b.carries p = true → 0 < n →
    Gives (.frondRelay p (.stray n) bad) b (fun t => t.bit (F.LNKn_ERR_CELL_ERR p) = true
      ∧ t.get (F.LNKn_CNT_Ei p 0) = min (b.get (F.LNKn_CNT_Ei p 0) + n) (2 ^ 32 - 1) ∧ t.out = b.out ∧ SameMem b t)

/-- The heads (R256 to R272): a standby that hears nobody, and one that loses the active head, become ACTIVE under the next epoch;
an active head sends HEAD_ALIVE in its interval; a tile follows the head it hears and ignores one of an older epoch; a standby is
SYNCED after two equal digests of one frame start and STATE_DIVERGED by an unequal one, and becomes DELEGATE under a split; an
active head with an older epoch drops to STANDBY on DEMOTE; BREAK is learnt; HANDOVER goes to a SYNCED standby, which takes over
in its time; and a Spore of the node of its slot is kept and written to its place. -/
def Obligations.ChainHeads : Prop :=
  (∀ (b : Block) (t0 : Nat), Runs b → b.isHead = true → b.duty = dutyStandby → b.pipes = true → b.lnk.listenFrom = some t0 →
    b.nextComposition < 2 ^ 64 →
    Gives .headListenTimeout b (fun t => t.duty = dutyActive ∧ t.epoch = (max b.lnk.storedEpoch b.epoch + 1) % 2 ^ 32
      ∧ t.lnk.storedEpoch = t.epoch ∧ t.firstWfn = b.nextComposition ∧ t.lnk.activeNode = b.node ∧ t.lnk.listenFrom = none
      ∧ t.bit F.LNK_CHAIN_STATUS_SPLIT = false
      ∧ t.clk = max b.clk (t0 + (if (b.cfg.topo.map (·.duty)) = some 2 then 2 else 1) * b.get F.LNK_ALIVE_LISTEN_MS * 1000000)))
  ∧ (∀ b : Block, Runs b → b.isHead = true → b.duty = dutyStandby ∨ b.duty = dutyDelegate → b.pipes = true →
    b.lnk.listenFrom = none → b.bit F.LNK_CHAIN_CTRL_TAKEOVER_EN = true → b.bit F.LNK_CHAIN_STATUS_SYNCED = true →
    Gives .headLoss b (fun t => t.duty = dutyActive ∧ t.epoch = (max b.lnk.storedEpoch b.epoch + 1) % 2 ^ 32
      ∧ t.bit F.LNK_ERR_TAKEOVER = true ∧ t.lnk.activeNode = b.node
      ∧ t.firstWfn = (match b.cmp.comp with | some m => m | none => b.nextComposition) % 2 ^ 64
      ∧ t.clk = max b.clk (b.lnk.lastHead + b.lossNs)))
  ∧ (∀ b : Block, Runs b → b.isHead = true → b.duty = dutyActive ∨ b.duty = dutyDelegate →
    Gives .headAliveSend b (fun t => t.clk = max b.clk b.lnk.aliveDue
      ∧ t.lnk.aliveDue = t.clk + b.get F.LNK_ALIVE_ALIVE_10US * 10000 ∧ t.duty = b.duty ∧ t.epoch = b.epoch))
  ∧ (∀ (b c : Block) (rx : Rx) (a : HeadAlive) (p : Nat), Runs b → b.receive rx = .accepted c → rx.msg.body = .headAlive a →
    c.role = roleTile → c.fromHead rx.msg.src = true → rx.msg.src ≠ c.node → rx.via = .lnk p → p < 2 → a.delegate = false →
    (c.epoch ≤ a.epoch → a.epoch < 2 ^ 32 →
      Gives (.headAlive rx) b (fun t => t.epoch = a.epoch ∧ t.lnk.activeNode = rx.msg.src ∧ t.bit (F.LNKn_STATUS_TOWARD_ACTIVE p) = true
        ∧ t.bit (F.LNKn_STATUS_TOWARD_ACTIVE (1 - p)) = false ∧ t.bit (F.LNKn_STATUS_SLAVE p) = true))
    ∧ (a.epoch < c.epoch → Gives (.headAlive rx) b (fun t => t = c.settle)))
  ∧ (∀ (b c : Block) (rx : Rx) (h : HeadState), Runs b → b.receive rx = .accepted c → rx.msg.body = .headState h → c.isHead = true →
    c.duty = dutyStandby → c.fromHead rx.msg.src = true → rx.msg.src ≠ c.node → h.epoch = c.epoch → h.idSlot < 64 →
    (h.split = false → h.wfn = c.lnk.digestAt.1 → h.digest = c.lnk.digestAt.2 → 1 ≤ c.lnk.sameDigests →
      Gives (.headState rx) b (fun t => t.bit F.LNK_CHAIN_STATUS_SYNCED = true ∧ t.lnk.table = h.txns ∧ t.lnk.lastHead = c.clk))
    ∧ (h.split = false → h.wfn = c.lnk.digestAt.1 → h.digest ≠ c.lnk.digestAt.2 →
      Gives (.headState rx) b (fun t => t.bit F.LNK_CHAIN_STATUS_SYNCED = false ∧ t.bit F.LNK_ERR_STATE_DIVERGED = true
        ∧ t.lnk.sameDigests = 0 ∧ t.lnk.table = h.txns))
    ∧ (h.split = false → c.lnk.digestAt.1 < h.wfn →
      Gives (.headState rx) b (fun t => t.lnk.digestDue = some (h.wfn, h.digest) ∧ t.lnk.sameDigests = c.lnk.sameDigests))
    ∧ (h.split = true → h.splitSlot < 64 →
      Gives (.headState rx) b (fun t => t.duty = dutyDelegate ∧ t.bit F.LNK_CHAIN_STATUS_SPLIT = true
        ∧ t.get F.LNK_CHAIN_STATUS_SPLIT_SLOT = h.splitSlot ∧ t.lnk.table = h.txns)))
  ∧ (∀ (b c : Block) (rx : Rx) (e node inc : Nat), Runs b → b.receive rx = .accepted c → rx.msg.body = .demote e node inc →
    c.isHead = true → c.duty = dutyActive → c.epoch < e → e < 2 ^ 32 → inc ≤ c.lnk.incarn →
    Gives (.demote rx) b (fun t => t.duty = dutyStandby ∧ t.epoch = e ∧ t.bit F.LNK_ERR_DEMOTED = true
      ∧ t.bit F.LNK_CHAIN_STATUS_SYNCED = false ∧ t.lnk.storedEpoch = max c.lnk.storedEpoch e))
  ∧ (∀ (b c : Block) (rx : Rx) (node slot port w k : Nat), Runs b → b.receive rx = .accepted c →
    rx.msg.body = .brk node slot port false w → c.isHead = true → c.duty ≠ dutyActive → linkAt slot port = some k →
    Gives (.brk rx) b (fun t => t.bit F.LNK_ERR_BREAK = true ∧ k ∈ t.lnk.broken ∧ t.lnk.breaks = c.lnk.breaks + 1 ∧ t.duty = c.duty
      ∧ SameOutside [0x1C, 0x30] c t ∧ SameMem c t))
  ∧ (∀ (b : Block) (p : Path) (v : Word), Runs b → b.gated R.LNK_CMD = false → F.LNK_CMD_HANDOVER.of v.toNat = 1 → b.duty = dutyActive →
    Gives (.lnkCmdHandover p v false) b (fun t => t.bit F.LNK_ERR_STATE_DIVERGED = true ∧ t.duty = dutyActive
      ∧ SameOutside [0x1C, 0x30] b t ∧ SameMem b t)
    ∧ (∀ q : Nat, b.route b.otherHead true = .out (.lnk q) → b.bit (F.LNKn_STATUS_SESSION_UP q) = true → b.otherHead ≠ nodeAll →
      (b.ring b.otherHead).populated = true → ringSound (b.ringBytes b.otherHead) = true → b.lnk.identityLost = false →
      b.hif.seq + 1 < 2 ^ 32 →
      Gives (.lnkCmdHandover p v true) b (fun t => t.duty = dutyActive ∧ t.hif.seq = b.hif.seq + 1
        ∧ ∃ (m : Msg) (w : List Byte), t.out = .msg (.lnk q) m w :: b.out ∧ m.type = 0x1A ∧ m.dest = b.otherHead ∧ m.src = b.node
          ∧ m.body = .handover b.epoch (match b.cmp.comp with | some m => m | none => b.wfn + 1))))
  ∧ (∀ (b c : Block) (rx : Rx) (w m : Nat), Runs b → b.receive rx = .accepted c → rx.msg.body = .handover c.epoch w → c.isHead = true →
    c.duty = dutyStandby → c.bit F.LNK_CHAIN_STATUS_SYNCED = true → c.fromHead rx.msg.src = true → c.pipes = true → c.cmp.comp = some m →
    (m ≤ w → Gives (.handover rx) b (fun t => t.lnk.handover = some w ∧ t.duty = dutyStandby))
    ∧ (w < m → Gives (.handover rx) b (fun t => t.duty = dutyActive ∧ t.lnk.handover = none ∧ t.bit F.LNK_ERR_TAKEOVER = true)))
  ∧ ∀ (b c : Block) (rx : Rx) (sp : Spore) (base : Nat), Runs b → b.receive rx = .accepted c → rx.msg.body = .spore sp → c.isHead = true →
    c.duty = dutyStandby → sp.slot < (c.cfg.topo.map (·.slots)).getD 0 → sp.slot < 64 → sp.epoch = c.epoch →
    rx.msg.src ≠ 0 → rx.msg.src = (c.cfg.topo.map (fun t => t.slotNode.getD sp.slot 0)).getD 0 →
    base = c.actPair F.LNK_SPORE_BASE_LO F.LNK_SPORE_BASE_HI_BASE → base ≠ 0 →
    Gives (.spore rx) b (fun t => t.bit (F.LNK_SLOTs_INFO_SEEN sp.slot) = true
      ∧ t.bit (F.LNK_SLOTs_INFO_HOLDING sp.slot) = bitOf sp.flags 2 ∧ (⟨sp.slot, sp⟩ : SporeEntry) ∈ t.lnk.spores
      ∧ t.dramBytes (base + 64 * sp.slot) (Body.spore sp).bytes.length = (Body.spore sp).bytes
      ∧ ∀ x, x < base + 64 * sp.slot ∨ base + 64 * sp.slot + (Body.spore sp).bytes.length ≤ x → t.dramByte x = c.dramByte x)

/-! ### Ethernet, streams, composition and replay -/

/-- The Ethernet ports (R134 to R146): EN from 0 to 1 takes the mode and starts the port, and while it is 1 the mode stands; EN
from 1 to 0 drops what is queued; a sublink that comes up or goes down shows in LINK, with the faults; a received frame that fails
a check is counted there, one that finds the buffer full is an overrun, and a PTP frame goes to PTP; PAUSE and PFC stop their
classes until the timer ends; the next frame leaves and is counted; a next hop that does not resolve drops what waits, and a
resolved one expires; LPI begins after IDLE_US, a queued frame ends it; LLDP asks for wake times. -/
def Obligations.EthernetPorts : Prop :=
  (∀ (b : Block) (p : Path) (n : Nat) (v : Word), Runs b → n < 2 → b.eth.length = 2 → b.gated (R.ETHn_CTRL n) = false →
    (F.ETHn_CTRL_EN n).of v.toNat = 1 →
    (b.bit (F.ETHn_CTRL_EN n) = false → (F.ETHn_CTRL_MODE n).of v.toNat ≤ 5 →
      Gives (.ethPortEnable p n v) b (fun t => t.bit (F.ETHn_CTRL_EN n) = true
        ∧ t.get (F.ETHn_CTRL_MODE n) = (F.ETHn_CTRL_MODE n).of v.toNat ∧ t.get (F.ETHn_CTRL_FEC_EN n) = (F.ETHn_CTRL_FEC_EN n).of v.toNat
        ∧ (t.ethPort n).queue = [] ∧ (t.ethPort n).lldpDue = b.clk + 30000000000 ∧ SameMem b t))
    ∧ (b.bit (F.ETHn_CTRL_EN n) = true → Gives (.ethPortEnable p n v) b (fun t => t.eth = b.eth ∧ SameWords [] b t ∧ SameMem b t)))
  ∧ (∀ (b : Block) (p : Path) (n : Nat) (v : Word), Runs b → n < 2 → b.eth.length = 2 → b.gated (R.ETHn_CTRL n) = false →
    (F.ETHn_CTRL_EN n).of v.toNat = 0 → b.bit (F.ETHn_CTRL_EN n) = true → (b.ethPort n).hops = [] →
    Gives (.ethPortDisable p n v) b (fun t => t.bit (F.ETHn_CTRL_EN n) = false ∧ t.get (F.ETHn_STATUS_LINK n) = 0
      ∧ (t.ethPort n).queue = [] ∧ SameMem b t
      ∧ t.get (F.ETHn_CNT_Ei n 9) = min (b.get (F.ETHn_CNT_Ei n 9) + (b.ethPort n).queue.length) (2 ^ 32 - 1)))
  ∧ (∀ (b : Block) (n : Nat) (eee : Bool), Runs b → n < 2 → b.eth.length = 2 → b.eth100 n = true → b.bit (F.ETHn_CTRL_EN n) = true → b.trained n = true →
    b.get (F.ETHn_STATUS_LINK n) = 0 →
    Gives (.ethLinkUp n 0 eee) b (fun t => t.get (F.ETHn_STATUS_LINK n) = 1 ∧ t.bit (F.ETHn_STATUS_LOCAL_FAULT n) = false
      ∧ t.bit (F.ETHn_STATUS_EEE_AGREED n) = (eee && b.eeeAdvertised n) ∧ t.bit (F.ETHn_IRQ_STATUS_LINK_CHANGE n) = true ∧ SameMem b t))
  ∧ (∀ (b : Block) (n : Nat) (lf rf : Bool), Runs b → n < 2 → b.bit (F.ETHn_CTRL_EN n) = true → b.get (F.ETHn_STATUS_LINK n) = 1 →
    Gives (.ethLinkDown n 0 lf rf) b (fun t => t.get (F.ETHn_STATUS_LINK n) = 0 ∧ t.bit (F.ETHn_STATUS_LOCAL_FAULT n) = lf
      ∧ t.bit (F.ETHn_STATUS_REMOTE_FAULT n) = rf ∧ t.bit (F.ETHn_ERR_LINK_DOWN n) = true ∧ t.bit (F.ETHn_STATUS_EEE_AGREED n) = false
      ∧ t.get (F.ETHn_CNT_Ei n 10) = min (b.get (F.ETHn_CNT_Ei n 10) + 1) (2 ^ 32 - 1) ∧ SameOutside [0x10 + n, 0x30] b t ∧ SameMem b t))
  ∧ (∀ (b : Block) (n held : Nat) (bs : List Byte) (fcs : Bool), Runs b → n < 2 → b.bit (F.ETHn_CTRL_EN n) = true → b.pm.gate = false →
    b.subUp n 0 = true →
    (∀ (i : Nat), held + bs.length ≤ 524288 → b.rxFault n bs fcs = some i →
      Gives (.ethFrameReceive n 0 bs fcs held 0 0) b (fun t => t.out = b.out ∧ SameMem b t
        ∧ t.get (F.ETHn_CNT_Ei n i) = min (b.get (F.ETHn_CNT_Ei n i) + 1) (2 ^ 32 - 1) ∧ SameWords [R.ETHn_CNT_Ei n i] b t))
    ∧ (524288 < held + bs.length → Gives (.ethFrameReceive n 0 bs fcs held 0 0) b (fun t => t.out = b.out
      ∧ t.get (F.ETHn_CNT_Ei n 4) = min (b.get (F.ETHn_CNT_Ei n 4) + 1) (2 ^ 32 - 1) ∧ t.bit (F.ETHn_ERR_RX_OVERRUN n) = true
      ∧ SameOutside [0x10 + n] b t ∧ SameMem b t))
    ∧ (held + bs.length ≤ 524288 → b.rxFault n bs fcs = none → (parseFrame bs).etherType = 0x88F7 →
      Gives (.ethFrameReceive n 0 bs fcs held 0 0) b (fun t => t.out = .handed n .ptp :: b.out ∧ t.eth = b.eth
        ∧ t.pair (F.ETHn_CNT_Ti_LO n 1) (F.ETHn_CNT_Ti_HI n 1)
          = (b.pair (F.ETHn_CNT_Ti_LO n 1) (F.ETHn_CNT_Ti_HI n 1) + 1) % 2 ^ 64 ∧ SameOutside [0x10 + n] b t ∧ SameMem b t)))
  ∧ (∀ (b : Block) (n c quanta : Nat), Runs b → n < 2 → b.eth.length = 2 → b.eth100 n = true → b.subUp n 0 = true → c < 8 → 0 < quanta →
    bitOf (b.get (F.ETHn_FC_CTRL_RESPOND n)) c = true →
    (b.bit (F.ETHn_FC_CTRL_PAUSE_EN n) = true → Gives (.pauseFrame n 0 quanta) b (fun t => t.mayStart n 0 c = false
      ∧ t.get (F.ETHn_CNT_Ei n 5) = min (b.get (F.ETHn_CNT_Ei n 5) + 1) (2 ^ 32 - 1) ∧ SameWords [R.ETHn_CNT_Ei n 5] b t ∧ SameMem b t))
    ∧ (b.bit (F.ETHn_FC_CTRL_PFC_EN n) = true →
      Gives (.pfcFrame n 0 (2 ^ c) (List.replicate 8 quanta)) b (fun t => t.mayStart n 0 c = false
      ∧ t.get (F.ETHn_CNT_Ei n 5) = min (b.get (F.ETHn_CNT_Ei n 5) + 1) (2 ^ 32 - 1) ∧ SameWords [R.ETHn_CNT_Ei n 5] b t ∧ SameMem b t)))
  ∧ (∀ (b : Block) (n sub c : Nat) (x : Pause), Runs b → n < 2 → b.eth.length = 2 →
    (b.ethPort n).pauses.find? (fun q => q.sub == sub && q.cls == c) = some x →
    Gives (.pauseTimerExpiry n sub c) b (fun t => t.mayStart n sub c = true ∧ t.clk = max b.clk x.stop ∧ SameWords [] b t ∧ SameMem b t))
  ∧ (∀ (b : Block) (n : Nat) (f : TxFrame), Runs b → n < 2 → b.eth.length = 2 → b.subUp n 0 = true → b.pm.gate = false →
    (b.ethPort n).lpiFrom = none → b.nextFrameOut n 0 = some f →
    Gives (.ethFrameTransmit n 0) b (fun t => t.out = f.item :: b.out ∧ (t.ethPort n).queue = dropFirst f (b.ethPort n).queue
      ∧ t.pair (F.ETHn_CNT_Ti_LO n 6) (F.ETHn_CNT_Ti_HI n 6) = (b.pair (F.ETHn_CNT_Ti_LO n 6) (F.ETHn_CNT_Ti_HI n 6) + 1) % 2 ^ 64
      ∧ SameOutside [0x10 + n] b t ∧ SameMem b t))
  ∧ (∀ (b : Block) (n : Nat) (h : Hop), Runs b → n < 2 → b.eth.length = 2 → (b.ethPort n).hops = [h] →
    (h.resolved = false → Gives (.nextHopTimeout n) b (fun t => (t.ethPort n).hops = [] ∧ t.clk = max b.clk h.due
      ∧ t.get (F.ETHn_CNT_Ei n 9) = min (b.get (F.ETHn_CNT_Ei n 9) + h.waiting.length) (2 ^ 32 - 1) ∧ SameOutside [0x10 + n] b t ∧ SameMem b t))
    ∧ (h.resolved = true → Gives (.nextHopExpiry n) b (fun t => (t.ethPort n).hops = [] ∧ t.clk = max b.clk h.due
      ∧ SameWords [] b t ∧ SameMem b t)))
  ∧ (∀ (b : Block) (n : Nat), Runs b → n < 2 → b.eth.length = 2 → b.bit (F.ETHn_STATUS_EEE_AGREED n) = true → b.pm.gate = false →
    ((b.ethPort n).lpiFrom = none → (b.ethPort n).queue = [] → b.monitorOn n = false →
      Gives (.lpiEntry n) b (fun t => t.bit (F.ETHn_STATUS_LPI_TX n) = true ∧ (t.ethPort n).lpiFrom = some t.clk
        ∧ t.clk = max b.clk ((b.ethPort n).lastBusy + b.get (F.ETHn_EEE_IDLE_US n) * 1000) ∧ SameOutside [0x10 + n] b t ∧ SameMem b t))
    ∧ ((b.ethPort n).lpiFrom ≠ none → (b.ethPort n).queue ≠ [] →
      Gives (.lpiWake n) b (fun t => t.bit (F.ETHn_STATUS_LPI_TX n) = false ∧ (t.ethPort n).lpiFrom = none
        ∧ t.clk = b.clk + b.get (F.ETHn_EEE_STATUS_TW_TX_NS n) ∧ SameOutside [0x10 + n] b t ∧ SameMem b t))
    ∧ ((b.ethPort n).lldpAnswer = false →
      Gives (.lldpSend n) b (fun t => t.clk = max b.clk (b.ethPort n).lldpDue ∧ (t.ethPort n).lldpDue = t.clk + 30000000000 ∧ SameMem b t)))
  ∧ ∀ (b : Block) (n tw : Nat) (enter : Bool), Runs b → n < 2 → b.eth.length = 2 → b.bit (F.ETHn_STATUS_EEE_AGREED n) = true →
    Gives (.lldpReceive n tw) b (fun t => t.bit (F.ETHn_EEE_STATUS_LLDP_SEEN n) = true ∧ (t.ethPort n).partnerTw = tw % 65536
      ∧ SameWords [R.ETHn_EEE_STATUS n] b t ∧ SameMem b t)
    ∧ Gives (.partnerLpi n enter) b (fun t => t.bit (F.ETHn_STATUS_LPI_RX n) = enter ∧ SameWords [R.ETHn_STATUS n] b t ∧ SameMem b t)

/-- Streams (R149, R151, R152, R154, R155, R162): a packet of the next number is placed and the next one expected, a number that
both paths brought is redundant, and one of another payload type is counted; the numbers of a gap whose window has passed are
lost; a source frame is concluded at its time; a path that falls silent goes down, alone or with the other; the monitoring sender
starts and stops with EN and sends its surface packet by packet. -/
def Obligations.StreamsIn : Prop :=
  (∀ (b : Block) (k : VideoPacket) (s : Nat), Runs b → b.ing.streams.length = 16 → b.ingMatch k.addr = some s →
    (k.pt = b.framePt s k.ts → k.field = false → k.room = true → (b.stream s).next = some k.seq →
      Gives (.streamPacket k) b (fun t =>
        t = (((b.pathHeard s k.addr.eth).onIng s (fun q => q.upTo k.seq)).placePacket s k).settle))
    ∧ (∀ f : Filling, (b.stream s).fills.find? (·.ts == k.ts) = some f → f.buf = none → f.pt = k.pt → k.field = false → k.room = true →
      (b.stream s).next = some k.seq → k.segs = [] →
      Gives (.streamPacket k) b (fun t => (t.stream s).next = some ((k.seq + 1) % 2 ^ 32) ∧ (t.stream s).fills = (b.stream s).fills
        ∧ (t.stream s).gaps = (b.stream s).gaps ∧ SameOutside [0x12] b t ∧ SameMem b t))
    ∧ (k.pt = b.framePt s k.ts → k.field = false → k.room = true → (b.stream s).next = some (k.seq + 1) →
      k.seq + 1 < 2 ^ 32 → (b.stream s).gaps = [] → (b.stream s).lostSeqs = [] → (b.stream s).knows k.seq = true →
      Gives (.streamPacket k) b (fun t => (t.stream s).fills = (b.stream s).fills ∧ (t.stream s).next = (b.stream s).next
        ∧ t.pair (F.ING_STRs_CNT_Ti_LO s 3) (F.ING_STRs_CNT_Ti_HI s 3)
          = (b.pair (F.ING_STRs_CNT_Ti_LO s 3) (F.ING_STRs_CNT_Ti_HI s 3) + 1) % 2 ^ 64 ∧ SameOutside [0x12] b t ∧ SameMem b t))
    ∧ (k.pt ≠ b.framePt s k.ts →
      Gives (.streamPacket k) b (fun t => t.get (F.ING_STRs_CNT_Ei s 4) = min (b.get (F.ING_STRs_CNT_Ei s 4) + 1) (2 ^ 32 - 1)
        ∧ t.bit (F.ING_STRs_ERR_PT s) = true ∧ (t.stream s).fills = (b.stream s).fills ∧ SameOutside [0x12, 0x30] b t ∧ SameMem b t)))
  ∧ (∀ (b : Block) (s : Nat) (g : Gap) (rest : List Gap), Runs b → s < 16 → b.ing.streams.length = 16 → b.ingOn = true →
    (b.stream s).gaps = g :: rest → (b.stream s).fills = [] →
    Gives (.skewWindowExpiry s) b (fun t => (t.stream s).gaps = rest ∧ (t.stream s).lostSeqs = (b.stream s).lostSeqs ++ g.seqs
      ∧ t.get (F.ING_STRs_CNT_Ei s 0) = min (b.get (F.ING_STRs_CNT_Ei s 0) + g.seqs.length) (2 ^ 32 - 1)
      ∧ t.clk = max b.clk g.due ∧ SameWords [R.ING_STRs_CNT_Ei s 0] b t ∧ SameMem b t))
  ∧ (∀ (b : Block) (s due : Nat) (f : Filling) (rest : List Filling), Runs b → s < 16 → b.ing.streams.length = 16 → b.ingOn = true →
    (b.stream s).fills = f :: rest → f.due = some due →
    Gives (.sourceFrameConclude s) b (fun t => t = ((b.untilClk due).concludeFill s f).settle)
    ∧ (f.buf = none → (∀ g ∈ rest, g.ts ≠ f.ts) → Gives (.sourceFrameConclude s) b (fun t => (t.stream s).fills = rest
      ∧ (t.stream s).past = (f.ts :: (b.stream s).past).take 16 ∧ t.clk = max b.clk due ∧ SameWords [] b t ∧ SameMem b t)))
  ∧ (∀ (b : Block) (s e t0 : Nat), Runs b → s < 16 → e < 2 → b.ingOn = true → ((b.stream s).heard[e]?).join = some t0 →
    (if e = 0 then b.bit (F.ING_STRs_STATUS_PATH_A_UP s) else b.bit (F.ING_STRs_STATUS_PATH_B_UP s)) = true →
    (((b.stream s).heard[1 - e]?).join = none →
      Gives (.streamPathTimeout s e) b (fun t => t.bit (F.ING_STRs_STATUS_PATH_A_UP s) = false ∧ t.bit (F.ING_STRs_STATUS_PATH_B_UP s) = false
        ∧ t.bit (F.ING_STRs_STATUS_RECEIVING s) = false ∧ t.bit (F.ING_STRs_ERR_BOTH_DOWN s) = true
        ∧ t.bit F.ING_IRQ_STATUS_PATH_CHANGE = true ∧ t.clk = max b.clk (t0 + pathSilence) ∧ SameOutside [0x12, 0x30] b t ∧ SameMem b t))
    ∧ (∀ (u : Nat), ((b.stream s).heard[1 - e]?).join = some u → max b.clk (t0 + pathSilence) < u + pathSilence →
      (if e = 0 then b.bit (F.ING_STRs_STATUS_PATH_B_UP s) else b.bit (F.ING_STRs_STATUS_PATH_A_UP s)) = true →
      Gives (.streamPathTimeout s e) b (fun t => t.bit (F.ING_STRs_STATUS_PATH_A_UP s) = (e != 0)
        ∧ t.bit (F.ING_STRs_STATUS_PATH_B_UP s) = (e != 1) ∧ t.bit (F.ING_STRs_STATUS_RECEIVING s) = true
        ∧ t.bit (F.ING_STRs_ERR_PATH_DOWN s) = true ∧ SameOutside [0x12, 0x30] b t ∧ SameMem b t)))
  ∧ (∀ (b : Block) (p : Path) (v : Word), Runs b → b.gated R.ING_MON_CTRL = false →
    (b.bit F.ING_MON_CTRL_EN = false → Gives (.monitorEnable p v) b (fun t => t.get F.ING_MON_CTRL_EN = F.ING_MON_CTRL_EN.of v.toNat
      ∧ t.get F.ING_MON_CTRL_PT = F.ING_MON_CTRL_PT.of v.toNat ∧ t.get F.ING_MON_CTRL_PATH_A = F.ING_MON_CTRL_PATH_A.of v.toNat
      ∧ SameWords [R.ING_MON_CTRL] b t ∧ SameMem b t))
    ∧ (b.bit F.ING_MON_CTRL_EN = true → F.ING_MON_CTRL_EN.of v.toNat = 0 →
      Gives (.monitorEnable p v) b (fun t => t.bit F.ING_MON_CTRL_EN = false ∧ t.ing.mon.surf = none
        ∧ t.get F.ING_MON_CTRL_PT = b.get F.ING_MON_CTRL_PT ∧ SameWords [R.ING_MON_CTRL] b t)))
  ∧ ∀ (b : Block) (poisoned : Bool) (x : Surf), Runs b → b.bit F.ING_MON_CTRL_EN = true → b.ingOn = true → b.ing.mon.surf = some x →
    b.ing.mon.pos + min (monitorPixels x.fmt) (x.w * x.h - b.ing.mon.pos) < x.w * x.h →
    Gives (.monitorPacketSend poisoned) b (fun t => t.ing.mon.seq = (b.ing.mon.seq + 1) % 2 ^ 32 ∧ t.ing.mon.surf = some x
      ∧ t.ing.mon.pos = b.ing.mon.pos + min (monitorPixels x.fmt) (x.w * x.h - b.ing.mon.pos)
      ∧ (poisoned = true → t.eth = b.eth) ∧ SameMem b t)

/-- Compositions and replay (R206 to R208, R218, R225, R227, R367): the captured composition begins, once its tables are there,
and waits for band 0; a band whose rows are there runs, and one whose latest start has come runs with what there is; the band that
is emitted leads to the next one or to the end of the composition, and a layer whose data never came has faulted by then; a band
that misses its deadline ends it with OVERRUN; a replay copy that ends holds its frame. -/
def Obligations.CompositionAndReplay : Prop :=
  (∀ (b : Block) (c : CmpSet), Runs b → b.cmp.next = some c → b.cmpOn = true → b.cmp.comp = none → c.m < 2 ^ 64 →
    Gives .compositionBegin b (fun t => t.cmp.comp = some c.m ∧ t.cmp.next = none ∧ t.cmp.set = some c
      ∧ t.pair F.CMP_COMP_WFN_LO F.CMP_COMP_WFN_HI = c.m ∧ t.cmpState = cmpWait ∧ t.band = 0 ∧ t.bit F.CMP_IRQ_STATUS_START = true
      ∧ t.lnk.kept = [] ∧ t.stc = (match c.copying with | some t0 => b.stcBy (t0 + min (Config.freeValue b.freeCount) 20000) | none => b.stc)))
  ∧ (∀ (b c : Block) (m : Nat), Runs b → b.cmp.comp = some m → b.cmpState = cmpWait → b.cmpOn = true → c = b.selectBand b.band false →
    ((c.bandLayers c.band).all (fun n => c.rowsReady n c.band) = true →
      Gives .bandStart b (fun t => t.cmpState = cmpRun ∧ t.cmp.comp = some m ∧ t.band = b.band))
    ∧ ((c.bandLayers c.band).all (fun n => c.rowsReady n c.band) = false →
      Gives .bandStart b (fun t => t.cmpState = cmpWait ∧ t.cmp.comp = some m ∧ t.band = b.band)))
  ∧ (∀ (b : Block) (m : Nat), Runs b → b.cmp.comp = some m → b.cmpState = cmpWait → b.cmpOn = true →
    Gives .bandLatestStart b (fun t => t.cmpState = cmpRun ∧ t.cmp.comp = some m ∧ t.band = b.band
      ∧ t.stc = b.stcBy (nsOf (b.latestStart b.cset m b.band))))
  ∧ (∀ (b : Block) (m : Nat) (missing : List Nat) (behind : Bool), Runs b → b.cmp.comp = some m → b.cmpState = cmpRun → b.cmpOn = true →
    q16 b.stc ≤ b.bandDeadline b.cset m b.band → bandCount b.cset ≤ 2 ^ F.CMP_STATUS_BAND.width →
    (b.taking' b.band).filter (fun l => missing.contains l.1) = [] →
    (b.band + 1 < bandCount b.cset → Gives (.bandEmit missing behind) b (fun t => t.band = b.band + 1 ∧ t.cmpState = cmpWait
      ∧ t.cmp.comp = some m ∧ t.stc = b.stc))
    ∧ (bandCount b.cset ≤ b.band + 1 → Gives (.bandEmit missing behind) b (fun t => t.cmpState = cmpIdle ∧ t.cmp.comp = none
      ∧ t.bit F.CMP_IRQ_STATUS_DONE = true ∧ t.stc = b.stc)))
  ∧ (∀ (b : Block) (m : Nat) (missing : List Nat) (behind : Bool) (l : Nat × Layer × Surf), Runs b → b.cmp.comp = some m →
    b.cmpState = cmpRun → b.cmpOn = true → q16 b.stc ≤ b.bandDeadline b.cset m b.band → l ∈ b.taking' b.band → l.1 ∈ missing →
    b.faultTime b.cset m b.band ≤ b.bandDeadline b.cset m b.band →
    Gives (.bandEmit missing behind) b (fun t => t.bit (F.CMP_LAYERn_STATUS_FAULT l.1) = true
      ∧ t.stc = b.stcBy (nsOf (b.faultTime b.cset m b.band))))
  ∧ (∀ (b : Block) (m : Nat), Runs b → b.cmp.comp = some m → b.cmpOn = true →
    Gives .bandDeadlineMiss b (fun t => t.cmpState = cmpIdle ∧ t.cmp.comp = none ∧ t.bit F.CMP_ERR_OVERRUN = true
      ∧ t.bit F.CMP_IRQ_STATUS_DONE = true ∧ t.stc = b.stcBy (nsOf (b.bandDeadline b.cset m b.band))
      ∧ t.get (F.CMP_CNT_Ei 2) = min (b.get (F.CMP_CNT_Ei 2) + (bandCount b.cset - b.band)) (2 ^ 32 - 1)))
  ∧ ∀ (b : Block) (c : Nat) (k : Copy) (place : Nat × Nat), Runs b → c < 16 → b.rpl.length = 16 → (b.rplChan c).copy = some k →
    b.rplOn = true → place = entryPlace (b.rplChan c).region k.index →
    Gives (.replayCopyDone c []) b (fun t => (t.rplChan c).copy = none ∧ t.bit (F.RPL_CHc_STATUS_COPYING c) = false
      ∧ (t.rplChan c).entries = insertEntry ⟨k.index, { k.surf with desc := place.1, data := place.2, st := 2, holds := 0 }, k.ev⟩
          (b.rplChan c).entries)
    ∧ (k.stream = none → (∀ x ∈ b.cmp.bufs, x.id ≠ k.surf.id) → k.index < (b.rplChan c).region.getD 1 0 →
      Gives (.replayCopyDone c []) b (fun t =>
        t.dramBytes place.2 (b.cmp.region.getD 2 0) = b.dramBytes k.surf.data (b.cmp.region.getD 2 0)))

/-! ### Strings, the load engine and fronds -/

/-- The wire of a string (R305, R319, R321, R324, R327, R329): without diagnostics ENUM follows LOAD; with them CONTROL follows
when the COLLECT can return in time, and else DIAG_SKIPPED is set; PROBE leaves once the guard has begun, or COLLECT when no lamp
is probed; COLLECT follows the probe window, and ENUM the length it reserves. A COLLECT whose reports are all sound updates each
fitted lamp by the report of its driver, and the rail by the smallest HEADROOM; a report that fails its CRC is counted and changes
no lamp and no rail. -/
def Obligations.StringWires : Prop :=
  (∀ (b : Block) (s : Nat) (p : Plan), Runs b → s < 96 → b.str.strings.length = 96 → (b.strand s).cycle = .load → b.frm.next = some p →
    b.retEn s = false ∨ b.actBit F.STR_COMMON_CTRL_DIAG_EN = false ∨ b.pmState = pmDim →
    ((b.strand s).until' + 820 ≤ b.launchAt s p.own → Gives (.clwLoadDone s) b (fun t => t.out = .clw s .enum :: b.out
      ∧ (t.strand s).cycle = .rest ∧ t.pair (F.STR_CNT_Ti_LO 1) (F.STR_CNT_Ti_HI 1)
        = (b.pair (F.STR_CNT_Ti_LO 1) (F.STR_CNT_Ti_HI 1) + 25) % 2 ^ 64 ∧ SameOutside [0x24] b t ∧ SameMem b t))
    ∧ (b.launchAt s p.own < (b.strand s).until' + 820 → Gives (.clwLoadDone s) b (fun t => t.out = b.out
      ∧ (t.strand s).cycle = .rest ∧ SameWords [] b t ∧ SameMem b t)))
  ∧ (∀ (b : Block) (s ctlEnd : Nat), Runs b → s < 96 → b.str.strings.length = 96 → (b.strand s).cycle = .load → b.retEn s = true →
    b.actBit F.STR_COMMON_CTRL_DIAG_EN = true → b.pmState ≠ pmDim → b.actBit F.STR_COMMON_CTRL_PROBE_EN = false →
    ctlEnd = (b.strand s).until' + 160 + 20 * (33 + 72 * b.drivers s) →
    (b.collectFits s (ctlEnd + 160) = true → Gives (.clwLoadDone s) b (fun t =>
      t.out = .clw s (.control (b.str.loading.getD 0 % 256) (b.drivers s) 1 (b.str.loading.getD 0 % 48) []) :: b.out
      ∧ (t.strand s).cycle = .control ∧ (t.strand s).until' = ctlEnd ∧ (t.strand s).leakNext = some (b.str.loading.getD 0 % 48)
      ∧ SameOutside [0x24] b t ∧ SameMem b t))
    ∧ (b.collectFits s (ctlEnd + 160) = false → Gives (.clwLoadDone s) b (fun t => t.bit F.STR_ERR_DIAG_SKIPPED = true
      ∧ t.get (F.STR_CNT_Ei 2) = min (b.get (F.STR_CNT_Ei 2) + 1) (2 ^ 32 - 1) ∧ (t.strand s).cycle ≠ .control ∧ SameMem b t)))
  ∧ (∀ (b : Block) (s : Nat), Runs b → s < 96 → b.str.strings.length = 96 → (b.strand s).cycle = .control →
    ((b.strand s).probes = [] → Gives (.clwControlDone s) b (fun t => t.out = .clw s (.collect (b.str.loading.getD 0 % 256)) :: b.out
      ∧ (t.strand s).cycle = .collect ∧ (t.strand s).collectAt = some ((b.strand s).until' + 160)
      ∧ (t.strand s).until' = (b.strand s).until' + 160 + 20 * (33 + 192 * b.drivers s) ∧ (t.strand s).rotor = (b.strand s).examined
      ∧ SameOutside [0x24] b t ∧ SameMem b t))
    ∧ ((b.strand s).probes ≠ [] → Gives (.clwControlDone s) b (fun t => t.out = .clw s (.probe (b.str.loading.getD 0 % 256)) :: b.out
      ∧ (t.strand s).cycle = .probe ∧ (t.strand s).probed = (b.strand s).probes ∧ (t.strand s).rotor = (b.strand s).examined
      ∧ (t.strand s).until' = max ((b.strand s).until' + 160) (nsOf b.frm.cur.guard) + 4420 + 1600 * perDriver (b.strand s).probes
      ∧ (∀ i ∈ (b.strand s).probes, i < 3072 → (t.lamp (3072 * s + i)).probed = true ∧ (t.lamp (3072 * s + i)).zero = 0)
      ∧ t.get (F.STR_CNT_Ei 4) = min (b.get (F.STR_CNT_Ei 4) + (b.strand s).probes.length) (2 ^ 32 - 1)
      ∧ SameOutside [0x24] b t)))
  ∧ (∀ (b : Block) (s : Nat), Runs b → s < 96 → b.str.strings.length = 96 → (b.strand s).cycle = .probe →
    Gives (.clwProbeDone s) b (fun t => t.out = .clw s (.collect (b.str.loading.getD 0 % 256)) :: b.out ∧ (t.strand s).cycle = .collect
      ∧ (t.strand s).collectAt = some ((b.strand s).until' + 160) ∧ SameOutside [0x24] b t ∧ SameMem b t))
  ∧ (∀ (b : Block) (s : Nat) (p : Plan), Runs b → s < 96 → b.str.strings.length = 96 → (b.strand s).cycle = .collect →
    b.frm.next = some p → (b.strand s).until' + 820 ≤ b.launchAt s p.own →
    Gives (.collectReserveEnd s) b (fun t => t.out = .clw s .enum :: b.out ∧ (t.strand s).cycle = .rest
      ∧ (t.strand s).collectAt = (b.strand s).collectAt ∧ SameOutside [0x24] b t ∧ SameMem b t))
  ∧ (∀ (b : Block) (s loop at' : Nat) (rs : List Report), Runs b → s < 96 → b.str.strings.length = 96 →
    (b.strand s).collectAt = some at' → rs ≠ [] → rs.length = b.drivers s → (b.strand s).lost = false →
    at' + (loop + 1) / 2 + 20 * (33 + 192 * b.drivers s) ≤ b.collectLimit →
    rs.zipIdx.all (fun x => x.1.crcOk && x.1.pos == x.2) = true →
    Gives (.collectReturn s loop rs.length rs) b (fun t => (t.strand s).loop = some loop ∧ (t.strand s).collectAt = none
      ∧ t.get (F.STR_STRn_HEADROOM_LOOP s) = min loop 0xFFFF ∧ t.get (F.STR_CNT_Ei 3) = b.get (F.STR_CNT_Ei 3)
      ∧ t.get (F.STR_STRn_RAIL_STATUS_SET_MV s) = (match minHeadroom rs with
        | some r => ((b.trackRail s r).get (F.STR_STRn_RAIL_STATUS_SET_MV s)) | none => b.get (F.STR_STRn_RAIL_STATUS_SET_MV s))
      ∧ SameOutside [0x24, 0x30] b t)
    ∧ (∀ (j ch : Nat) (r : Report), rs[j]? = some r → ch < 48 → b.fitted s ch = true → (b.strand s).leakNow = none →
      b.drivers s ≤ 64 → Gives (.collectReturn s loop rs.length rs) b (fun t => t.lamp (3072 * s + 48 * j + ch)
        = (b.lamp (3072 * s + 48 * j + ch)).report ((b.strand s).probed.contains (48 * j + ch)) (bitOf r.meas ch) (bitOf r.opens ch)
            (bitOf r.shorts ch))))
  ∧ ∀ (b : Block) (s loop at' : Nat) (r : Report), Runs b → s < 96 → b.str.strings.length = 96 → (b.strand s).collectAt = some at' →
    b.drivers s = 1 → r.crcOk = false → (b.strand s).bad = 0 →
    Gives (.collectReturn s loop 1 [r]) b (fun t => t.get (F.STR_CNT_Ei 3) = min (b.get (F.STR_CNT_Ei 3) + 1) (2 ^ 32 - 1)
      ∧ t.bit F.STR_ERR_COLLECT_ERR = true ∧ t.get (F.STR_STRn_RAIL_STATUS_SET_MV s) = b.get (F.STR_STRn_RAIL_STATUS_SET_MV s)
      ∧ (t.strand s).bad = 1 ∧ (t.strand s).loop = some loop ∧ SameOutside [0x24, 0x30] b t ∧ SameMem b t)

/-- The states of a string (R323, R324, R332): a rail within 2 % of FIXED_MV leads to ENUM, after a reset of the wire and an ENUM,
or without a return to RUN; a returned ENUM, or 100 µs without one, leads to RUN, and a wrong count is an error; overcurrent and a
rail outside 5 % of its setpoint lead to FAULT with the rail off; after RETRY_MS the string retries, or goes to LOCKOUT when its
retries are used; 60 s in RUN return the count to 0; and a command is held for its string until the next frame start. -/
def Obligations.StringStates : Prop :=
  (∀ (b : Block) (s mv : Nat), Runs b → s < 96 → b.str.strings.length = 96 → b.str.loading = none → b.strState s = strRamp →
    49 * b.fixedMv s ≤ 50 * mv → 50 * mv ≤ 51 * b.fixedMv s → mv < 2 ^ 13 →
    Gives (.railRampDone s mv) b (fun t => t.out = .clw s .enum :: .clw s .reset :: b.out
      ∧ t.get (F.STR_STRn_RAIL_STATUS_MEAS_MV s) = mv ∧ t.strState s = (if b.retEn s then strEnum else strRun)
      ∧ t.clk = max b.clk ((b.strand s).due.getD 0) ∧ (b.retEn s = true → (t.strand s).until' = t.clk + 100000) ∧ t.bit F.STR_IRQ_STATUS_STATE_CHANGE = true
      ∧ SameOutside [0x24] b t ∧ SameMem b t))
  ∧ (∀ (b : Block) (s count : Nat), Runs b → s < 96 → b.str.strings.length = 96 → b.str.loading = none → b.retEn s = true →
    count < 2 ^ 7 → b.strState s = strEnum ∨ b.strState s = strRun →
    Gives (.enumReturn s count) b (fun t => t.strState s = strRun ∧ t.get (F.STR_STRn_STATUS_ENUM_COUNT s) = count
      ∧ t.bit F.STR_ERR_ENUM_MISMATCH = (b.bit F.STR_ERR_ENUM_MISMATCH || count != b.drivers s)
      ∧ (b.strState s = strEnum → t.bit (F.STR_STRn_STATUS_RET_OK s) = true ∧ (t.strand s).runSince = b.clk ∧ (t.strand s).fresh = true)
      ∧ SameOutside [0x24, 0x30] b t ∧ SameMem b t))
  ∧ (∀ (b : Block) (s : Nat), Runs b → s < 96 → b.str.strings.length = 96 → b.str.loading = none → b.strState s = strEnum →
    Gives (.enumTimeout s) b (fun t => t.strState s = strRun ∧ t.clk = max b.clk (b.strand s).until'
      ∧ t.get (F.STR_STRn_STATUS_ENUM_COUNT s) = b.get (F.STR_STRn_STATUS_ENUM_COUNT s) ∧ SameOutside [0x24] b t ∧ SameMem b t))
  ∧ (∀ (b : Block) (s mv : Nat), Runs b → s < 96 → b.str.strings.length = 96 → b.strState s = strRamp ∨ b.strState s = strRun →
    Gives (.stringOvercurrent s) b (fun t => t.strState s = strFault ∧ t.bit F.STR_ERR_OVERCURRENT = true
      ∧ t.get (F.STR_CNT_Ei 8) = min (b.get (F.STR_CNT_Ei 8) + 1) (2 ^ 32 - 1) ∧ t.get (F.STR_STRn_RAIL_STATUS_SET_MV s) = 0
      ∧ (t.strand s).due = some (b.clk + 1000000 * b.act F.STR_FAULT_CFG_RETRY_MS) ∧ SameOutside [0x24, 0x30] b t ∧ SameMem b t)
    ∧ (100 * mv < 95 * b.get (F.STR_STRn_RAIL_STATUS_SET_MV s) ∨ 105 * b.get (F.STR_STRn_RAIL_STATUS_SET_MV s) < 100 * mv →
      Gives (.stringRailFault s mv) b (fun t => t.strState s = strFault ∧ t.bit F.STR_ERR_RAIL_FAULT = true
        ∧ t.get (F.STR_CNT_Ei 8) = b.get (F.STR_CNT_Ei 8) ∧ t.get (F.STR_STRn_RAIL_STATUS_SET_MV s) = 0
        ∧ t.clk = max b.clk ((b.strand s).slewEnd + 100000) ∧ (t.strand s).due = some (t.clk + 1000000 * b.act F.STR_FAULT_CFG_RETRY_MS) ∧ SameOutside [0x24, 0x30] b t ∧ SameMem b t)))
  ∧ (∀ (b : Block) (s due : Nat), Runs b → s < 96 → b.str.strings.length = 96 → b.strState s = strFault → (b.strand s).due = some due →
    (b.get (F.STR_STRn_STATUS_RETRIES_USED s) < b.act F.STR_FAULT_CFG_RETRIES → b.act F.STR_FAULT_CFG_RETRIES ≤ 15 →
      Gives (.stringRetryTimer s) b (fun t => t.strState s = strRamp ∧ t.clk = max b.clk due
        ∧ t.get (F.STR_STRn_STATUS_RETRIES_USED s) = b.get (F.STR_STRn_STATUS_RETRIES_USED s) + 1
        ∧ t.get (F.STR_STRn_RAIL_STATUS_SET_MV s) = b.fixedMv s ∧ SameOutside [0x24] b t ∧ SameMem b t))
    ∧ (b.act F.STR_FAULT_CFG_RETRIES ≤ b.get (F.STR_STRn_STATUS_RETRIES_USED s) →
      Gives (.stringRetryTimer s) b (fun t => t.strState s = strLockout ∧ t.clk = max b.clk due ∧ (t.strand s).due = none
        ∧ t.bit F.STR_ERR_LOCKOUT = true ∧ SameOutside [0x24, 0x30] b t ∧ SameMem b t)))
  ∧ (∀ (b : Block) (s : Nat), Runs b → s < 96 → b.strState s = strRun →
    Gives (.retryCountReset s) b (fun t => t.get (F.STR_STRn_STATUS_RETRIES_USED s) = 0 ∧ t.strState s = strRun
      ∧ t.clk = max b.clk ((b.strand s).runSince + 60000000000) ∧ SameWords [R.STR_STRn_STATUS s] b t ∧ SameMem b t))
  ∧ ∀ (b : Block) (p : Path) (v : Word) (s l : Nat), Runs b → b.gated R.STR_CMD = false → b.drives = true → b.str.strings.length = 96 →
    s = F.STR_CMD_STRING.of v.toNat → l = F.STR_CMD_LAMP.of v.toNat → s < 96 → l < 3072 →
    (F.STR_CMD_OP.of v.toNat = 1 → Gives (.strCmdRestart p v) b (fun t => (t.strand s).cmd = some (1, l) ∧ SameWords [] b t ∧ SameMem b t))
    ∧ (F.STR_CMD_OP.of v.toNat = 2 → Gives (.strCmdClearLamp p v) b (fun t => (t.strand s).cmd = some (2, l) ∧ SameWords [] b t ∧ SameMem b t))
    ∧ (F.STR_CMD_OP.of v.toNat = 3 → Gives (.strCmdClearString p v) b (fun t => (t.strand s).cmd = some (3, l) ∧ SameWords [] b t ∧ SameMem b t))

/-- The load engine (R300) and fronds (R283 to R285): START begins a load in the bank that nothing selects and marks it not VALID,
or is refused; ABORT ends it; a load that passes its check makes the bank VALID and one that read poisoned data ends in ERROR; a
frond for the module's slot that passes its checks is written into its place in the pixel buffer of its frame, and one that fails
its CRC, its geometry or its frame is counted and written nowhere; one for a frame whose header leaves the slot out is ignored. -/
def Obligations.TablesAndFronds : Prop :=
  (∀ (b : Block) (p : Path) (v : Word) (table bank : Nat), Runs b → b.gated R.COR_LOAD_CMD = false → b.scnOn = true →
    F.COR_LOAD_CMD_START.of v.toNat = 1 → F.COR_LOAD_CMD_ABORT.of v.toNat = 0 → table = F.COR_LOAD_CMD_TABLE.of v.toNat →
    table = 0x2000 ∨ table = 0x2100 → bank = (if (b.selectedBanks table).contains 0 then 1 else 0) →
    ((b.selectedBanks table).contains bank = false → b.scn.load = none → b.get F.CFG_PR_STATUS_STATE = 0 → b.loadSpan.base % 64 = 0 →
      b.inDram b.loadSpan = true →
      Gives (.corLoadStart p v) b (fun t => t.scn.load = some table ∧ t.get F.COR_LOAD_STATUS_STATE = 1
        ∧ t.get F.COR_LOAD_STATUS_BANK = bank ∧ t.get F.COR_STATUS_LOADING = 1
        ∧ t.bit (if table = 0x2000 then F.SCN_MAP_BANKb_STATUS_VALID bank else F.COR_COEF_BANKb_STATUS_VALID bank) = false
        ∧ t.bit (if table = 0x2000 then F.SCN_MAP_BANKb_STATUS_BUSY bank else F.COR_COEF_BANKb_STATUS_BUSY bank) = true
        ∧ SameOutside [0x20, 0x21] b t ∧ SameMem b t))
    ∧ (b.loadSpan.base % 64 ≠ 0 ∨ b.inDram b.loadSpan = false ∨ b.scn.load.isSome = true ∨ b.get F.CFG_PR_STATUS_STATE = 1 →
      Gives (.corLoadStart p v) b (fun t => t.scn = b.scn ∧ t.get F.COR_LOAD_STATUS_CODE = 0x2102 ∧ t.bit F.COR_ERR_LOAD_BUSY = true
        ∧ t.get (F.COR_CNT_Ei 3) = min (b.get (F.COR_CNT_Ei 3) + 1) (2 ^ 32 - 1)
        ∧ t.get F.COR_LOAD_STATUS_STATE = b.get F.COR_LOAD_STATUS_STATE ∧ SameOutside [0x21, 0x30] b t ∧ SameMem b t)))
  ∧ (∀ (b : Block) (p : Path) (v : Word) (table : Nat), Runs b → b.gated R.COR_LOAD_CMD = false → b.scnOn = true →
    F.COR_LOAD_CMD_ABORT.of v.toNat = 1 → b.scn.load = some table →
    Gives (.corLoadAbort p v) b (fun t => t.scn.load = none ∧ t.get F.COR_LOAD_STATUS_STATE = 0 ∧ t.get F.COR_STATUS_LOADING = 0
      ∧ t.get (F.SCN_MAP_BANKb_STATUS_VALID (b.get F.COR_LOAD_STATUS_BANK)) = b.get (F.SCN_MAP_BANKb_STATUS_VALID (b.get F.COR_LOAD_STATUS_BANK))
      ∧ t.get (F.COR_COEF_BANKb_STATUS_VALID (b.get F.COR_LOAD_STATUS_BANK)) = b.get (F.COR_COEF_BANKb_STATUS_VALID (b.get F.COR_LOAD_STATUS_BANK))
      ∧ SameOutside [0x20, 0x21] b t ∧ SameMem b t))
  ∧ (∀ (b c : Block) (k : Nat), Runs b → b.scn.load = some 0x2000 → k = b.get F.COR_LOAD_STATUS_BANK →
    c = b.writeQdr (mapBase k) (b.dramBytes b.loadSpan.base (min b.loadSpan.len 0x200000)) →
    (c.mapOk k = true → Gives (.corLoadDone false) b (fun t => t.scn.load = none ∧ t.get F.COR_LOAD_STATUS_STATE = 2
      ∧ t.bit (F.SCN_MAP_BANKb_STATUS_VALID k) = true ∧ t.get (F.SCN_MAP_BANKb_STATUS_W k) = c.qdrNat (mapBase k) 2 % 2 ^ (F.SCN_MAP_BANKb_STATUS_W k).width
      ∧ t.bit F.COR_IRQ_STATUS_LOAD_DONE = true ∧ t.qdr = c.qdr ∧ t.dram = b.dram))
    ∧ (c.mapOk k = false → Gives (.corLoadDone false) b (fun t => t.scn.load = none ∧ t.get F.COR_LOAD_STATUS_STATE = 3
      ∧ t.bit (F.SCN_MAP_BANKb_STATUS_VALID k) = false ∧ t.get F.COR_LOAD_STATUS_CODE = 0x2010 ∧ t.bit F.COR_ERR_LOAD_FAIL = true
      ∧ t.qdr = c.qdr ∧ t.dram = b.dram))
    ∧ Gives (.corLoadDone true) b (fun t => t.scn.load = none ∧ t.get F.COR_LOAD_STATUS_STATE = 3
      ∧ t.bit (F.SCN_MAP_BANKb_STATUS_VALID k) = false ∧ t.get F.COR_LOAD_STATUS_CODE = 0x2803 ∧ t.bit F.COR_ERR_LOAD_FAIL = true
      ∧ t.bit F.COR_IRQ_STATUS_LOAD_DONE = true ∧ t.dram = b.dram))
  ∧ (∀ (b : Block) (p : Nat) (f : Frond), Runs b → p < 2 → b.carries p = true → b.bit F.LNK_CHAIN_STATUS_SLOT_VALID = true →
    f.slot = b.slotNumber → b.scnOn = true → b.maskedOut f.wfn = true →
    Gives (.frondReceive p f []) b (fun t => t.scn = b.scn ∧ SameOutside [0x1C, 0x1D] b t ∧ SameMem b t))
  ∧ ∀ (b : Block) (p : Nat) (f : Frond), Runs b → p < 2 → b.carries p = true → b.bit F.LNK_CHAIN_STATUS_SLOT_VALID = true →
    f.slot = b.slotNumber → b.scnOn = true → b.maskedOut f.wfn = false →
    (f.crcOk = true → f.chainId = b.chainId → f.w = b.slotW → f.band < b.slotH / 16 → f.zeros = true → f.epoch = b.epoch →
      f.wfn = b.openFrame + 1 ∨ f.wfn = b.openFrame ∧ b.scn.early.contains f.band = false → b.scn.cap = none →
      f.pixels.length = 16 * f.w → f.wfn = b.openFrame ∨ b.scn.early.contains f.band = true →
      Gives (.frondReceive p f []) b (fun t => t.received f.wfn f.band = true
        ∧ t.qdrBytes (b.bandAt f.wfn f.band).1 (6 * f.pixels.length) = (f.pixels.map (fun x => leBytes 6 x.toNat)).flatten
        ∧ (∀ a, a < (b.bandAt f.wfn f.band).1 ∨ (b.bandAt f.wfn f.band).1 + 6 * f.pixels.length ≤ a → t.qdrByte a = b.qdrByte a)
        ∧ t.get F.SCN_LAST_SCALE_SCALE = f.scale % 2 ^ 16 ∧ t.dram = b.dram ∧ SameOutside [0x1C, 0x1D, 0x20] b t))
    ∧ (f.crcOk = false → Gives (.frondReceive p f []) b (fun t => t.get (F.SCN_CNT_Ei 0) = min (b.get (F.SCN_CNT_Ei 0) + 1) (2 ^ 32 - 1)
      ∧ t.bit F.SCN_ERR_CRC = true ∧ t.scn = b.scn ∧ SameOutside [0x1C, 0x1D, 0x20, 0x30] b t ∧ SameMem b t))
    ∧ (∀ k : Nat, 0 < k → Gives (.frondReceive p f [k]) b (fun t => t.get (F.SCN_CNT_Ei 0) = min (b.get (F.SCN_CNT_Ei 0) + 1) (2 ^ 32 - 1)
      ∧ t.bit F.SCN_ERR_CRC = true ∧ t.bit (F.LNKn_ERR_CELL_ERR p) = true ∧ t.scn = b.scn ∧ SameMem b t))
    ∧ (f.crcOk = true → f.w ≠ b.slotW ∨ b.slotH / 16 ≤ f.band → Gives (.frondReceive p f []) b (fun t =>
      t.get (F.SCN_CNT_Ei 1) = min (b.get (F.SCN_CNT_Ei 1) + 1) (2 ^ 32 - 1) ∧ t.bit F.SCN_ERR_GEOM = true ∧ t.scn = b.scn ∧ SameMem b t))
    ∧ (f.crcOk = true → f.chainId = b.chainId → f.w = b.slotW → f.band < b.slotH / 16 → f.zeros = true → f.epoch = b.epoch →
      f.wfn < b.openFrame → Gives (.frondReceive p f []) b (fun t => t.get (F.SCN_CNT_Ei 2) = min (b.get (F.SCN_CNT_Ei 2) + 1) (2 ^ 32 - 1)
        ∧ t.bit F.SCN_ERR_LATE = true ∧ t.scn = b.scn ∧ SameMem b t))
end

