-- ==== Sys2Proof/Laws/Cells.lean ====
section
/-!
SUPPORT. Sparse storage: reading after writing, and that every write and every removal keeps the canonical form.
-/

namespace Sys2Proof.Machine

variable {β : Type}

theorem cellsGet_erase_self (l : List (Nat × β)) (a : Nat) (d : β) : cellsGet (cellsErase l a) a d = d := by
  induction l with
  | nil => rfl
  | cons c r ih =>
    obtain ⟨k, v⟩ := c
    by_cases h : k = a <;> simp [cellsErase, cellsGet, h, ih]

theorem cellsGet_erase_other (l : List (Nat × β)) {a c : Nat} (d : β) (h : c ≠ a) :
    cellsGet (cellsErase l a) c d = cellsGet l c d := by
  induction l with
  | nil => rfl
  | cons x r ih =>
    obtain ⟨k, v⟩ := x
    by_cases h1 : k = a
    · have : k ≠ c := fun e => h (e ▸ h1)
      simp [cellsErase, cellsGet, h1, ih]
      intro e; exact absurd e.symm h
    · rw [cellsErase, if_neg h1, cellsGet, cellsGet, ih]

theorem cellsGet_insert_self (l : List (Nat × β)) (a : Nat) (v d : β) (h : ∀ c ∈ l, c.1 ≠ a) :
    cellsGet (cellsInsert l a v) a d = v := by
  induction l with
  | nil => simp [cellsInsert, cellsGet]
  | cons x r ih =>
    obtain ⟨k, w⟩ := x
    have hk : k ≠ a := h (k, w) (by simp)
    by_cases h1 : a < k
    · simp [cellsInsert, cellsGet, h1]
    · simp [cellsInsert, cellsGet, h1, hk, ih (fun c hc => h c (by simp [hc]))]

theorem cellsGet_insert_other (l : List (Nat × β)) {a c : Nat} (v d : β) (h : c ≠ a) :
    cellsGet (cellsInsert l a v) c d = cellsGet l c d := by
  induction l with
  | nil => simp [cellsInsert, cellsGet, h.symm]
  | cons x r ih =>
    obtain ⟨k, w⟩ := x
    by_cases h1 : a < k
    · simp [cellsInsert, cellsGet, h1, h.symm]
    · rw [cellsInsert, if_neg h1, cellsGet, cellsGet, ih]

theorem cellsErase_ne (l : List (Nat × β)) (a : Nat) : ∀ c ∈ cellsErase l a, c.1 ≠ a := by
  induction l with
  | nil => simp [cellsErase]
  | cons x r ih =>
    obtain ⟨k, w⟩ := x
    by_cases h : k = a
    · simpa [cellsErase, h] using ih
    · intro c hc
      simp only [cellsErase, h, if_false, List.mem_cons] at hc
      rcases hc with rfl | hc
      · exact h
      · exact ih c hc

variable [DecidableEq β]

/-- A key reads as written. -/
@[simp] theorem cellsGet_set_self (l : List (Nat × β)) (a : Nat) (v d : β) : cellsGet (cellsSet l a v d) a d = v := by
  by_cases h : v = d
  · simp [cellsSet, h, cellsGet_erase_self]
  · simp [cellsSet, h, cellsGet_insert_self _ _ _ _ (cellsErase_ne l a)]

/-- Every other key reads as before. -/
theorem cellsGet_set_other (l : List (Nat × β)) {a c : Nat} (v d e : β) (h : c ≠ a) :
    cellsGet (cellsSet l a v d) c e = cellsGet l c e := by
  by_cases hv : v = d <;> simp [cellsSet, hv, cellsGet_insert_other, cellsGet_erase_other, h]

omit [DecidableEq β] in
/-- Rising keys, as a pairwise order with a lower bound. -/
theorem cellsRising_iff (lo : Option Nat) (l : List (Nat × β)) :
    cellsRising lo l = true ↔ (∀ c ∈ l, ∀ b, lo = some b → b < c.1) ∧ l.Pairwise (fun x y => x.1 < y.1) := by
  induction l generalizing lo with
  | nil => simp [cellsRising]
  | cons x r ih =>
    obtain ⟨k, v⟩ := x
    simp only [cellsRising, Bool.and_eq_true, ih, List.pairwise_cons, List.mem_cons]
    constructor
    · rintro ⟨h1, h2, h3⟩
      refine ⟨?_, fun y hy => h2 y hy k rfl, h3⟩
      rintro c (rfl | hc) b rfl
      · simpa using h1
      · exact lt_trans (by simpa using h1) (h2 c hc k rfl)
    · rintro ⟨h1, h2, h3⟩
      refine ⟨?_, fun c hc b hb => by cases hb; exact h2 c hc, h3⟩
      cases lo with
      | none => rfl
      | some b => simpa using h1 (k, v) (Or.inl rfl) b rfl

omit [DecidableEq β] in
theorem mem_cellsErase {l : List (Nat × β)} {a : Nat} {c : Nat × β} (h : c ∈ cellsErase l a) : c ∈ l := by
  induction l with
  | nil => simp [cellsErase] at h
  | cons x r ih =>
    obtain ⟨k, w⟩ := x
    by_cases hk : k = a
    · simp only [cellsErase, hk, if_true] at h
      exact List.mem_cons_of_mem _ (ih h)
    · simp only [cellsErase, hk, if_false, List.mem_cons] at h
      rcases h with rfl | h
      · simp
      · exact List.mem_cons_of_mem _ (ih h)

omit [DecidableEq β] in
theorem mem_cellsInsert {l : List (Nat × β)} {a : Nat} {v : β} {c : Nat × β} (h : c ∈ cellsInsert l a v) :
    c = (a, v) ∨ c ∈ l := by
  induction l with
  | nil => simpa [cellsInsert] using h
  | cons x r ih =>
    obtain ⟨k, w⟩ := x
    by_cases hk : a < k
    · simpa [cellsInsert, hk] using h
    · simp only [cellsInsert, hk, if_false, List.mem_cons] at h
      rcases h with rfl | h
      · simp
      · rcases ih h with h | h
        · exact Or.inl h
        · exact Or.inr (List.mem_cons_of_mem _ h)

omit [DecidableEq β] in
theorem cellsErase_pairwise {l : List (Nat × β)} (a : Nat) (h : l.Pairwise (fun x y => x.1 < y.1)) :
    (cellsErase l a).Pairwise (fun x y => x.1 < y.1) := by
  induction l with
  | nil => simp [cellsErase]
  | cons x r ih =>
    obtain ⟨k, w⟩ := x
    rw [List.pairwise_cons] at h
    by_cases hk : k = a
    · simpa [cellsErase, hk] using ih h.2
    · simp only [cellsErase, hk, if_false, List.pairwise_cons]
      exact ⟨fun y hy => h.1 y (mem_cellsErase hy), ih h.2⟩

omit [DecidableEq β] in
theorem cellsInsert_pairwise {l : List (Nat × β)} {a : Nat} (v : β) (h : l.Pairwise (fun x y => x.1 < y.1))
    (hne : ∀ c ∈ l, c.1 ≠ a) : (cellsInsert l a v).Pairwise (fun x y => x.1 < y.1) := by
  induction l with
  | nil => simp [cellsInsert]
  | cons x r ih =>
    obtain ⟨k, w⟩ := x
    have h' := h
    rw [List.pairwise_cons] at h
    by_cases hk : a < k
    · simp only [cellsInsert, hk, if_true, List.pairwise_cons]
      refine ⟨?_, h⟩
      intro y hy
      rcases List.mem_cons.1 hy with rfl | hy
      · exact hk
      · exact lt_trans hk (h.1 y hy)
    · simp only [cellsInsert, hk, if_false, List.pairwise_cons]
      refine ⟨?_, ih h.2 (fun c hc => hne c (by simp [hc]))⟩
      intro y hy
      rcases mem_cellsInsert hy with rfl | hy
      · exact lt_of_le_of_ne (not_lt.1 hk) (hne (k, w) (by simp))
      · exact h.1 y hy

/-- The canonical form as a pairwise order and a condition on every entry. -/
theorem cellsWf_iff (dflt : Nat → β) (l : List (Nat × β)) :
    cellsWf dflt l = true ↔ l.Pairwise (fun x y => x.1 < y.1) ∧ ∀ c ∈ l, c.2 ≠ dflt c.1 := by
  simp [cellsWf, cellsRising_iff]

/-- A write keeps the canonical form. -/
theorem cellsSet_wf {dflt : Nat → β} {l : List (Nat × β)} (a : Nat) (v : β) (h : cellsWf dflt l = true) :
    cellsWf dflt (cellsSet l a v (dflt a)) = true := by
  rw [cellsWf_iff] at h ⊢
  have he := cellsErase_pairwise a h.1
  by_cases hv : v = dflt a
  · rw [cellsSet, if_pos hv]
    exact ⟨he, fun c hc => h.2 c (mem_cellsErase hc)⟩
  · rw [cellsSet, if_neg hv]
    refine ⟨cellsInsert_pairwise v he (cellsErase_ne l a), fun c hc => ?_⟩
    rcases mem_cellsInsert hc with rfl | hc
    · exact hv
    · exact h.2 c (mem_cellsErase hc)

/-- Removing entries keeps the canonical form. -/
theorem cellsFilter_wf {dflt : Nat → β} {l : List (Nat × β)} (p : Nat × β → Bool) (h : cellsWf dflt l = true) :
    cellsWf dflt (l.filter p) = true := by
  rw [cellsWf_iff] at h ⊢
  exact ⟨h.1.filter p, fun c hc => h.2 c (List.mem_of_mem_filter hc)⟩

end Sys2Proof.Machine
end

