-- ==== Sys2Proof/Laws/State.lean ====
section
/-!
SUPPORT. What the primitive operations leave as it was, field by field: a register write, the trace, time, settling, an
error.
-/

namespace Sys2Proof.Machine

@[simp] theorem Block.setWord_latches (b : Block) (k : Nat) (v : Word) : (b.setWord k v).latches = b.latches := rfl
@[simp] theorem Block.setWord_dram (b : Block) (k : Nat) (v : Word) : (b.setWord k v).dram = b.dram := rfl
@[simp] theorem Block.setWord_qdr (b : Block) (k : Nat) (v : Word) : (b.setWord k v).qdr = b.qdr := rfl
@[simp] theorem Block.setWord_qdrBad (b : Block) (k : Nat) (v : Word) : (b.setWord k v).qdrBad = b.qdrBad := rfl
@[simp] theorem Block.setWord_fuses (b : Block) (k : Nat) (v : Word) : (b.setWord k v).fuses = b.fuses := rfl
@[simp] theorem Block.setWord_logic (b : Block) (k : Nat) (v : Word) : (b.setWord k v).logic = b.logic := rfl
@[simp] theorem Block.setWord_clk (b : Block) (k : Nat) (v : Word) : (b.setWord k v).clk = b.clk := rfl
@[simp] theorem Block.setWord_stc (b : Block) (k : Nat) (v : Word) : (b.setWord k v).stc = b.stc := rfl
@[simp] theorem Block.setWord_stcFrac (b : Block) (k : Nat) (v : Word) : (b.setWord k v).stcFrac = b.stcFrac := rfl
@[simp] theorem Block.setWord_freeCount (b : Block) (k : Nat) (v : Word) : (b.setWord k v).freeCount = b.freeCount := rfl
@[simp] theorem Block.setWord_wdtStart (b : Block) (k : Nat) (v : Word) : (b.setWord k v).wdtStart = b.wdtStart := rfl
@[simp] theorem Block.setWord_wdtMs (b : Block) (k : Nat) (v : Word) : (b.setWord k v).wdtMs = b.wdtMs := rfl
@[simp] theorem Block.setWord_wdtWarned (b : Block) (k : Nat) (v : Word) : (b.setWord k v).wdtWarned = b.wdtWarned := rfl
@[simp] theorem Block.setWord_wdtStop (b : Block) (k : Nat) (v : Word) : (b.setWord k v).wdtStop = b.wdtStop := rfl
@[simp] theorem Block.setWord_resetWanted (b : Block) (k : Nat) (v : Word) : (b.setWord k v).resetWanted = b.resetWanted := rfl
@[simp] theorem Block.setWord_pins (b : Block) (k : Nat) (v : Word) : (b.setWord k v).pins = b.pins := rfl
@[simp] theorem Block.setWord_i3c (b : Block) (k : Nat) (v : Word) : (b.setWord k v).i3c = b.i3c := rfl
@[simp] theorem Block.setWord_hif (b : Block) (k : Nat) (v : Word) : (b.setWord k v).hif = b.hif := rfl
@[simp] theorem Block.setWord_cfg (b : Block) (k : Nat) (v : Word) : (b.setWord k v).cfg = b.cfg := rfl
@[simp] theorem Block.setWord_frm (b : Block) (k : Nat) (v : Word) : (b.setWord k v).frm = b.frm := rfl
@[simp] theorem Block.setWord_ptp (b : Block) (k : Nat) (v : Word) : (b.setWord k v).ptp = b.ptp := rfl
@[simp] theorem Block.setWord_clocks (b : Block) (k : Nat) (v : Word) : (b.setWord k v).clocks = b.clocks := rfl
@[simp] theorem Block.setWord_srd (b : Block) (k : Nat) (v : Word) : (b.setWord k v).srd = b.srd := rfl
@[simp] theorem Block.setWord_eth (b : Block) (k : Nat) (v : Word) : (b.setWord k v).eth = b.eth := rfl
@[simp] theorem Block.setWord_scn (b : Block) (k : Nat) (v : Word) : (b.setWord k v).scn = b.scn := rfl
@[simp] theorem Block.setWord_str (b : Block) (k : Nat) (v : Word) : (b.setWord k v).str = b.str := rfl
@[simp] theorem Block.setWord_pwr (b : Block) (k : Nat) (v : Word) : (b.setWord k v).pwr = b.pwr := rfl
@[simp] theorem Block.setWord_cal (b : Block) (k : Nat) (v : Word) : (b.setWord k v).cal = b.cal := rfl
@[simp] theorem Block.setWord_thm (b : Block) (k : Nat) (v : Word) : (b.setWord k v).thm = b.thm := rfl
@[simp] theorem Block.setWord_upd (b : Block) (k : Nat) (v : Word) : (b.setWord k v).upd = b.upd := rfl
@[simp] theorem Block.setWord_cmp (b : Block) (k : Nat) (v : Word) : (b.setWord k v).cmp = b.cmp := rfl
@[simp] theorem Block.setWord_ing (b : Block) (k : Nat) (v : Word) : (b.setWord k v).ing = b.ing := rfl
@[simp] theorem Block.setWord_rpl (b : Block) (k : Nat) (v : Word) : (b.setWord k v).rpl = b.rpl := rfl
@[simp] theorem Block.setWord_aud (b : Block) (k : Nat) (v : Word) : (b.setWord k v).aud = b.aud := rfl
@[simp] theorem Block.setWord_drm (b : Block) (k : Nat) (v : Word) : (b.setWord k v).drm = b.drm := rfl
@[simp] theorem Block.setWord_lnk (b : Block) (k : Nat) (v : Word) : (b.setWord k v).lnk = b.lnk := rfl
@[simp] theorem Block.setWord_pm (b : Block) (k : Nat) (v : Word) : (b.setWord k v).pm = b.pm := rfl
@[simp] theorem Block.setWord_flt (b : Block) (k : Nat) (v : Word) : (b.setWord k v).flt = b.flt := rfl
@[simp] theorem Block.setWord_bstFrom (b : Block) (k : Nat) (v : Word) : (b.setWord k v).bstFrom = b.bstFrom := rfl
@[simp] theorem Block.setWord_out (b : Block) (k : Nat) (v : Word) : (b.setWord k v).out = b.out := rfl

@[simp] theorem Block.set_latches (b : Block) (f : Fld) (v : Nat) : (b.set f v).latches = b.latches := rfl
@[simp] theorem Block.set_dram (b : Block) (f : Fld) (v : Nat) : (b.set f v).dram = b.dram := rfl
@[simp] theorem Block.set_qdr (b : Block) (f : Fld) (v : Nat) : (b.set f v).qdr = b.qdr := rfl
@[simp] theorem Block.set_qdrBad (b : Block) (f : Fld) (v : Nat) : (b.set f v).qdrBad = b.qdrBad := rfl
@[simp] theorem Block.set_fuses (b : Block) (f : Fld) (v : Nat) : (b.set f v).fuses = b.fuses := rfl
@[simp] theorem Block.set_logic (b : Block) (f : Fld) (v : Nat) : (b.set f v).logic = b.logic := rfl
@[simp] theorem Block.set_clk (b : Block) (f : Fld) (v : Nat) : (b.set f v).clk = b.clk := rfl
@[simp] theorem Block.set_stc (b : Block) (f : Fld) (v : Nat) : (b.set f v).stc = b.stc := rfl
@[simp] theorem Block.set_stcFrac (b : Block) (f : Fld) (v : Nat) : (b.set f v).stcFrac = b.stcFrac := rfl
@[simp] theorem Block.set_freeCount (b : Block) (f : Fld) (v : Nat) : (b.set f v).freeCount = b.freeCount := rfl
@[simp] theorem Block.set_wdtStart (b : Block) (f : Fld) (v : Nat) : (b.set f v).wdtStart = b.wdtStart := rfl
@[simp] theorem Block.set_wdtMs (b : Block) (f : Fld) (v : Nat) : (b.set f v).wdtMs = b.wdtMs := rfl
@[simp] theorem Block.set_wdtWarned (b : Block) (f : Fld) (v : Nat) : (b.set f v).wdtWarned = b.wdtWarned := rfl
@[simp] theorem Block.set_wdtStop (b : Block) (f : Fld) (v : Nat) : (b.set f v).wdtStop = b.wdtStop := rfl
@[simp] theorem Block.set_resetWanted (b : Block) (f : Fld) (v : Nat) : (b.set f v).resetWanted = b.resetWanted := rfl
@[simp] theorem Block.set_pins (b : Block) (f : Fld) (v : Nat) : (b.set f v).pins = b.pins := rfl
@[simp] theorem Block.set_i3c (b : Block) (f : Fld) (v : Nat) : (b.set f v).i3c = b.i3c := rfl
@[simp] theorem Block.set_hif (b : Block) (f : Fld) (v : Nat) : (b.set f v).hif = b.hif := rfl
@[simp] theorem Block.set_cfg (b : Block) (f : Fld) (v : Nat) : (b.set f v).cfg = b.cfg := rfl
@[simp] theorem Block.set_frm (b : Block) (f : Fld) (v : Nat) : (b.set f v).frm = b.frm := rfl
@[simp] theorem Block.set_ptp (b : Block) (f : Fld) (v : Nat) : (b.set f v).ptp = b.ptp := rfl
@[simp] theorem Block.set_clocks (b : Block) (f : Fld) (v : Nat) : (b.set f v).clocks = b.clocks := rfl
@[simp] theorem Block.set_srd (b : Block) (f : Fld) (v : Nat) : (b.set f v).srd = b.srd := rfl
@[simp] theorem Block.set_eth (b : Block) (f : Fld) (v : Nat) : (b.set f v).eth = b.eth := rfl
@[simp] theorem Block.set_scn (b : Block) (f : Fld) (v : Nat) : (b.set f v).scn = b.scn := rfl
@[simp] theorem Block.set_str (b : Block) (f : Fld) (v : Nat) : (b.set f v).str = b.str := rfl
@[simp] theorem Block.set_pwr (b : Block) (f : Fld) (v : Nat) : (b.set f v).pwr = b.pwr := rfl
@[simp] theorem Block.set_cal (b : Block) (f : Fld) (v : Nat) : (b.set f v).cal = b.cal := rfl
@[simp] theorem Block.set_thm (b : Block) (f : Fld) (v : Nat) : (b.set f v).thm = b.thm := rfl
@[simp] theorem Block.set_upd (b : Block) (f : Fld) (v : Nat) : (b.set f v).upd = b.upd := rfl
@[simp] theorem Block.set_cmp (b : Block) (f : Fld) (v : Nat) : (b.set f v).cmp = b.cmp := rfl
@[simp] theorem Block.set_ing (b : Block) (f : Fld) (v : Nat) : (b.set f v).ing = b.ing := rfl
@[simp] theorem Block.set_rpl (b : Block) (f : Fld) (v : Nat) : (b.set f v).rpl = b.rpl := rfl
@[simp] theorem Block.set_aud (b : Block) (f : Fld) (v : Nat) : (b.set f v).aud = b.aud := rfl
@[simp] theorem Block.set_drm (b : Block) (f : Fld) (v : Nat) : (b.set f v).drm = b.drm := rfl
@[simp] theorem Block.set_lnk (b : Block) (f : Fld) (v : Nat) : (b.set f v).lnk = b.lnk := rfl
@[simp] theorem Block.set_pm (b : Block) (f : Fld) (v : Nat) : (b.set f v).pm = b.pm := rfl
@[simp] theorem Block.set_flt (b : Block) (f : Fld) (v : Nat) : (b.set f v).flt = b.flt := rfl
@[simp] theorem Block.set_bstFrom (b : Block) (f : Fld) (v : Nat) : (b.set f v).bstFrom = b.bstFrom := rfl
@[simp] theorem Block.set_out (b : Block) (f : Fld) (v : Nat) : (b.set f v).out = b.out := rfl

@[simp] theorem Block.emit_regs (b : Block) (o : Out) : (b.emit o).regs = b.regs := rfl
@[simp] theorem Block.emit_latches (b : Block) (o : Out) : (b.emit o).latches = b.latches := rfl
@[simp] theorem Block.emit_dram (b : Block) (o : Out) : (b.emit o).dram = b.dram := rfl
@[simp] theorem Block.emit_qdr (b : Block) (o : Out) : (b.emit o).qdr = b.qdr := rfl
@[simp] theorem Block.emit_qdrBad (b : Block) (o : Out) : (b.emit o).qdrBad = b.qdrBad := rfl
@[simp] theorem Block.emit_fuses (b : Block) (o : Out) : (b.emit o).fuses = b.fuses := rfl
@[simp] theorem Block.emit_logic (b : Block) (o : Out) : (b.emit o).logic = b.logic := rfl
@[simp] theorem Block.emit_clk (b : Block) (o : Out) : (b.emit o).clk = b.clk := rfl
@[simp] theorem Block.emit_stc (b : Block) (o : Out) : (b.emit o).stc = b.stc := rfl
@[simp] theorem Block.emit_stcFrac (b : Block) (o : Out) : (b.emit o).stcFrac = b.stcFrac := rfl
@[simp] theorem Block.emit_freeCount (b : Block) (o : Out) : (b.emit o).freeCount = b.freeCount := rfl
@[simp] theorem Block.emit_wdtStart (b : Block) (o : Out) : (b.emit o).wdtStart = b.wdtStart := rfl
@[simp] theorem Block.emit_wdtMs (b : Block) (o : Out) : (b.emit o).wdtMs = b.wdtMs := rfl
@[simp] theorem Block.emit_wdtWarned (b : Block) (o : Out) : (b.emit o).wdtWarned = b.wdtWarned := rfl
@[simp] theorem Block.emit_wdtStop (b : Block) (o : Out) : (b.emit o).wdtStop = b.wdtStop := rfl
@[simp] theorem Block.emit_resetWanted (b : Block) (o : Out) : (b.emit o).resetWanted = b.resetWanted := rfl
@[simp] theorem Block.emit_pins (b : Block) (o : Out) : (b.emit o).pins = b.pins := rfl
@[simp] theorem Block.emit_i3c (b : Block) (o : Out) : (b.emit o).i3c = b.i3c := rfl
@[simp] theorem Block.emit_hif (b : Block) (o : Out) : (b.emit o).hif = b.hif := rfl
@[simp] theorem Block.emit_cfg (b : Block) (o : Out) : (b.emit o).cfg = b.cfg := rfl
@[simp] theorem Block.emit_frm (b : Block) (o : Out) : (b.emit o).frm = b.frm := rfl
@[simp] theorem Block.emit_ptp (b : Block) (o : Out) : (b.emit o).ptp = b.ptp := rfl
@[simp] theorem Block.emit_clocks (b : Block) (o : Out) : (b.emit o).clocks = b.clocks := rfl
@[simp] theorem Block.emit_srd (b : Block) (o : Out) : (b.emit o).srd = b.srd := rfl
@[simp] theorem Block.emit_eth (b : Block) (o : Out) : (b.emit o).eth = b.eth := rfl
@[simp] theorem Block.emit_scn (b : Block) (o : Out) : (b.emit o).scn = b.scn := rfl
@[simp] theorem Block.emit_str (b : Block) (o : Out) : (b.emit o).str = b.str := rfl
@[simp] theorem Block.emit_pwr (b : Block) (o : Out) : (b.emit o).pwr = b.pwr := rfl
@[simp] theorem Block.emit_cal (b : Block) (o : Out) : (b.emit o).cal = b.cal := rfl
@[simp] theorem Block.emit_thm (b : Block) (o : Out) : (b.emit o).thm = b.thm := rfl
@[simp] theorem Block.emit_upd (b : Block) (o : Out) : (b.emit o).upd = b.upd := rfl
@[simp] theorem Block.emit_cmp (b : Block) (o : Out) : (b.emit o).cmp = b.cmp := rfl
@[simp] theorem Block.emit_ing (b : Block) (o : Out) : (b.emit o).ing = b.ing := rfl
@[simp] theorem Block.emit_rpl (b : Block) (o : Out) : (b.emit o).rpl = b.rpl := rfl
@[simp] theorem Block.emit_aud (b : Block) (o : Out) : (b.emit o).aud = b.aud := rfl
@[simp] theorem Block.emit_drm (b : Block) (o : Out) : (b.emit o).drm = b.drm := rfl
@[simp] theorem Block.emit_lnk (b : Block) (o : Out) : (b.emit o).lnk = b.lnk := rfl
@[simp] theorem Block.emit_pm (b : Block) (o : Out) : (b.emit o).pm = b.pm := rfl
@[simp] theorem Block.emit_flt (b : Block) (o : Out) : (b.emit o).flt = b.flt := rfl
@[simp] theorem Block.emit_bstFrom (b : Block) (o : Out) : (b.emit o).bstFrom = b.bstFrom := rfl

@[simp] theorem Block.elapse_regs (b : Block) (n : Nat) : (b.elapse n).regs = b.regs := rfl
@[simp] theorem Block.elapse_latches (b : Block) (n : Nat) : (b.elapse n).latches = b.latches := rfl
@[simp] theorem Block.elapse_dram (b : Block) (n : Nat) : (b.elapse n).dram = b.dram := rfl
@[simp] theorem Block.elapse_qdr (b : Block) (n : Nat) : (b.elapse n).qdr = b.qdr := rfl
@[simp] theorem Block.elapse_qdrBad (b : Block) (n : Nat) : (b.elapse n).qdrBad = b.qdrBad := rfl
@[simp] theorem Block.elapse_fuses (b : Block) (n : Nat) : (b.elapse n).fuses = b.fuses := rfl
@[simp] theorem Block.elapse_logic (b : Block) (n : Nat) : (b.elapse n).logic = b.logic := rfl
@[simp] theorem Block.elapse_freeCount (b : Block) (n : Nat) : (b.elapse n).freeCount = b.freeCount := rfl
@[simp] theorem Block.elapse_wdtStart (b : Block) (n : Nat) : (b.elapse n).wdtStart = b.wdtStart := rfl
@[simp] theorem Block.elapse_wdtMs (b : Block) (n : Nat) : (b.elapse n).wdtMs = b.wdtMs := rfl
@[simp] theorem Block.elapse_wdtWarned (b : Block) (n : Nat) : (b.elapse n).wdtWarned = b.wdtWarned := rfl
@[simp] theorem Block.elapse_wdtStop (b : Block) (n : Nat) : (b.elapse n).wdtStop = b.wdtStop := rfl
@[simp] theorem Block.elapse_resetWanted (b : Block) (n : Nat) : (b.elapse n).resetWanted = b.resetWanted := rfl
@[simp] theorem Block.elapse_pins (b : Block) (n : Nat) : (b.elapse n).pins = b.pins := rfl
@[simp] theorem Block.elapse_i3c (b : Block) (n : Nat) : (b.elapse n).i3c = b.i3c := rfl
@[simp] theorem Block.elapse_hif (b : Block) (n : Nat) : (b.elapse n).hif = b.hif := rfl
@[simp] theorem Block.elapse_cfg (b : Block) (n : Nat) : (b.elapse n).cfg = b.cfg := rfl
@[simp] theorem Block.elapse_frm (b : Block) (n : Nat) : (b.elapse n).frm = b.frm := rfl
@[simp] theorem Block.elapse_ptp (b : Block) (n : Nat) : (b.elapse n).ptp = b.ptp := rfl
@[simp] theorem Block.elapse_clocks (b : Block) (n : Nat) : (b.elapse n).clocks = b.clocks := rfl
@[simp] theorem Block.elapse_srd (b : Block) (n : Nat) : (b.elapse n).srd = b.srd := rfl
@[simp] theorem Block.elapse_eth (b : Block) (n : Nat) : (b.elapse n).eth = b.eth := rfl
@[simp] theorem Block.elapse_scn (b : Block) (n : Nat) : (b.elapse n).scn = b.scn := rfl
@[simp] theorem Block.elapse_str (b : Block) (n : Nat) : (b.elapse n).str = b.str := rfl
@[simp] theorem Block.elapse_pwr (b : Block) (n : Nat) : (b.elapse n).pwr = b.pwr := rfl
@[simp] theorem Block.elapse_cal (b : Block) (n : Nat) : (b.elapse n).cal = b.cal := rfl
@[simp] theorem Block.elapse_thm (b : Block) (n : Nat) : (b.elapse n).thm = b.thm := rfl
@[simp] theorem Block.elapse_upd (b : Block) (n : Nat) : (b.elapse n).upd = b.upd := rfl
@[simp] theorem Block.elapse_cmp (b : Block) (n : Nat) : (b.elapse n).cmp = b.cmp := rfl
@[simp] theorem Block.elapse_ing (b : Block) (n : Nat) : (b.elapse n).ing = b.ing := rfl
@[simp] theorem Block.elapse_rpl (b : Block) (n : Nat) : (b.elapse n).rpl = b.rpl := rfl
@[simp] theorem Block.elapse_aud (b : Block) (n : Nat) : (b.elapse n).aud = b.aud := rfl
@[simp] theorem Block.elapse_drm (b : Block) (n : Nat) : (b.elapse n).drm = b.drm := rfl
@[simp] theorem Block.elapse_lnk (b : Block) (n : Nat) : (b.elapse n).lnk = b.lnk := rfl
@[simp] theorem Block.elapse_pm (b : Block) (n : Nat) : (b.elapse n).pm = b.pm := rfl
@[simp] theorem Block.elapse_flt (b : Block) (n : Nat) : (b.elapse n).flt = b.flt := rfl
@[simp] theorem Block.elapse_bstFrom (b : Block) (n : Nat) : (b.elapse n).bstFrom = b.bstFrom := rfl
@[simp] theorem Block.elapse_out (b : Block) (n : Nat) : (b.elapse n).out = b.out := rfl

@[simp] theorem Block.untilClk_regs (b : Block) (n : Nat) : (b.untilClk n).regs = b.regs := rfl
@[simp] theorem Block.untilClk_latches (b : Block) (n : Nat) : (b.untilClk n).latches = b.latches := rfl
@[simp] theorem Block.untilClk_dram (b : Block) (n : Nat) : (b.untilClk n).dram = b.dram := rfl
@[simp] theorem Block.untilClk_qdr (b : Block) (n : Nat) : (b.untilClk n).qdr = b.qdr := rfl
@[simp] theorem Block.untilClk_qdrBad (b : Block) (n : Nat) : (b.untilClk n).qdrBad = b.qdrBad := rfl
@[simp] theorem Block.untilClk_fuses (b : Block) (n : Nat) : (b.untilClk n).fuses = b.fuses := rfl
@[simp] theorem Block.untilClk_logic (b : Block) (n : Nat) : (b.untilClk n).logic = b.logic := rfl
@[simp] theorem Block.untilClk_freeCount (b : Block) (n : Nat) : (b.untilClk n).freeCount = b.freeCount := rfl
@[simp] theorem Block.untilClk_wdtStart (b : Block) (n : Nat) : (b.untilClk n).wdtStart = b.wdtStart := rfl
@[simp] theorem Block.untilClk_wdtMs (b : Block) (n : Nat) : (b.untilClk n).wdtMs = b.wdtMs := rfl
@[simp] theorem Block.untilClk_wdtWarned (b : Block) (n : Nat) : (b.untilClk n).wdtWarned = b.wdtWarned := rfl
@[simp] theorem Block.untilClk_wdtStop (b : Block) (n : Nat) : (b.untilClk n).wdtStop = b.wdtStop := rfl
@[simp] theorem Block.untilClk_resetWanted (b : Block) (n : Nat) : (b.untilClk n).resetWanted = b.resetWanted := rfl
@[simp] theorem Block.untilClk_pins (b : Block) (n : Nat) : (b.untilClk n).pins = b.pins := rfl
@[simp] theorem Block.untilClk_i3c (b : Block) (n : Nat) : (b.untilClk n).i3c = b.i3c := rfl
@[simp] theorem Block.untilClk_hif (b : Block) (n : Nat) : (b.untilClk n).hif = b.hif := rfl
@[simp] theorem Block.untilClk_cfg (b : Block) (n : Nat) : (b.untilClk n).cfg = b.cfg := rfl
@[simp] theorem Block.untilClk_frm (b : Block) (n : Nat) : (b.untilClk n).frm = b.frm := rfl
@[simp] theorem Block.untilClk_ptp (b : Block) (n : Nat) : (b.untilClk n).ptp = b.ptp := rfl
@[simp] theorem Block.untilClk_clocks (b : Block) (n : Nat) : (b.untilClk n).clocks = b.clocks := rfl
@[simp] theorem Block.untilClk_srd (b : Block) (n : Nat) : (b.untilClk n).srd = b.srd := rfl
@[simp] theorem Block.untilClk_eth (b : Block) (n : Nat) : (b.untilClk n).eth = b.eth := rfl
@[simp] theorem Block.untilClk_scn (b : Block) (n : Nat) : (b.untilClk n).scn = b.scn := rfl
@[simp] theorem Block.untilClk_str (b : Block) (n : Nat) : (b.untilClk n).str = b.str := rfl
@[simp] theorem Block.untilClk_pwr (b : Block) (n : Nat) : (b.untilClk n).pwr = b.pwr := rfl
@[simp] theorem Block.untilClk_cal (b : Block) (n : Nat) : (b.untilClk n).cal = b.cal := rfl
@[simp] theorem Block.untilClk_thm (b : Block) (n : Nat) : (b.untilClk n).thm = b.thm := rfl
@[simp] theorem Block.untilClk_upd (b : Block) (n : Nat) : (b.untilClk n).upd = b.upd := rfl
@[simp] theorem Block.untilClk_cmp (b : Block) (n : Nat) : (b.untilClk n).cmp = b.cmp := rfl
@[simp] theorem Block.untilClk_ing (b : Block) (n : Nat) : (b.untilClk n).ing = b.ing := rfl
@[simp] theorem Block.untilClk_rpl (b : Block) (n : Nat) : (b.untilClk n).rpl = b.rpl := rfl
@[simp] theorem Block.untilClk_aud (b : Block) (n : Nat) : (b.untilClk n).aud = b.aud := rfl
@[simp] theorem Block.untilClk_drm (b : Block) (n : Nat) : (b.untilClk n).drm = b.drm := rfl
@[simp] theorem Block.untilClk_lnk (b : Block) (n : Nat) : (b.untilClk n).lnk = b.lnk := rfl
@[simp] theorem Block.untilClk_pm (b : Block) (n : Nat) : (b.untilClk n).pm = b.pm := rfl
@[simp] theorem Block.untilClk_flt (b : Block) (n : Nat) : (b.untilClk n).flt = b.flt := rfl
@[simp] theorem Block.untilClk_bstFrom (b : Block) (n : Nat) : (b.untilClk n).bstFrom = b.bstFrom := rfl
@[simp] theorem Block.untilClk_out (b : Block) (n : Nat) : (b.untilClk n).out = b.out := rfl

@[simp] theorem Block.untilStc_regs (b : Block) (n : Nat) : (b.untilStc n).regs = b.regs := rfl
@[simp] theorem Block.untilStc_latches (b : Block) (n : Nat) : (b.untilStc n).latches = b.latches := rfl
@[simp] theorem Block.untilStc_dram (b : Block) (n : Nat) : (b.untilStc n).dram = b.dram := rfl
@[simp] theorem Block.untilStc_qdr (b : Block) (n : Nat) : (b.untilStc n).qdr = b.qdr := rfl
@[simp] theorem Block.untilStc_qdrBad (b : Block) (n : Nat) : (b.untilStc n).qdrBad = b.qdrBad := rfl
@[simp] theorem Block.untilStc_fuses (b : Block) (n : Nat) : (b.untilStc n).fuses = b.fuses := rfl
@[simp] theorem Block.untilStc_logic (b : Block) (n : Nat) : (b.untilStc n).logic = b.logic := rfl
@[simp] theorem Block.untilStc_freeCount (b : Block) (n : Nat) : (b.untilStc n).freeCount = b.freeCount := rfl
@[simp] theorem Block.untilStc_wdtStart (b : Block) (n : Nat) : (b.untilStc n).wdtStart = b.wdtStart := rfl
@[simp] theorem Block.untilStc_wdtMs (b : Block) (n : Nat) : (b.untilStc n).wdtMs = b.wdtMs := rfl
@[simp] theorem Block.untilStc_wdtWarned (b : Block) (n : Nat) : (b.untilStc n).wdtWarned = b.wdtWarned := rfl
@[simp] theorem Block.untilStc_wdtStop (b : Block) (n : Nat) : (b.untilStc n).wdtStop = b.wdtStop := rfl
@[simp] theorem Block.untilStc_resetWanted (b : Block) (n : Nat) : (b.untilStc n).resetWanted = b.resetWanted := rfl
@[simp] theorem Block.untilStc_pins (b : Block) (n : Nat) : (b.untilStc n).pins = b.pins := rfl
@[simp] theorem Block.untilStc_i3c (b : Block) (n : Nat) : (b.untilStc n).i3c = b.i3c := rfl
@[simp] theorem Block.untilStc_hif (b : Block) (n : Nat) : (b.untilStc n).hif = b.hif := rfl
@[simp] theorem Block.untilStc_cfg (b : Block) (n : Nat) : (b.untilStc n).cfg = b.cfg := rfl
@[simp] theorem Block.untilStc_frm (b : Block) (n : Nat) : (b.untilStc n).frm = b.frm := rfl
@[simp] theorem Block.untilStc_ptp (b : Block) (n : Nat) : (b.untilStc n).ptp = b.ptp := rfl
@[simp] theorem Block.untilStc_clocks (b : Block) (n : Nat) : (b.untilStc n).clocks = b.clocks := rfl
@[simp] theorem Block.untilStc_srd (b : Block) (n : Nat) : (b.untilStc n).srd = b.srd := rfl
@[simp] theorem Block.untilStc_eth (b : Block) (n : Nat) : (b.untilStc n).eth = b.eth := rfl
@[simp] theorem Block.untilStc_scn (b : Block) (n : Nat) : (b.untilStc n).scn = b.scn := rfl
@[simp] theorem Block.untilStc_str (b : Block) (n : Nat) : (b.untilStc n).str = b.str := rfl
@[simp] theorem Block.untilStc_pwr (b : Block) (n : Nat) : (b.untilStc n).pwr = b.pwr := rfl
@[simp] theorem Block.untilStc_cal (b : Block) (n : Nat) : (b.untilStc n).cal = b.cal := rfl
@[simp] theorem Block.untilStc_thm (b : Block) (n : Nat) : (b.untilStc n).thm = b.thm := rfl
@[simp] theorem Block.untilStc_upd (b : Block) (n : Nat) : (b.untilStc n).upd = b.upd := rfl
@[simp] theorem Block.untilStc_cmp (b : Block) (n : Nat) : (b.untilStc n).cmp = b.cmp := rfl
@[simp] theorem Block.untilStc_ing (b : Block) (n : Nat) : (b.untilStc n).ing = b.ing := rfl
@[simp] theorem Block.untilStc_rpl (b : Block) (n : Nat) : (b.untilStc n).rpl = b.rpl := rfl
@[simp] theorem Block.untilStc_aud (b : Block) (n : Nat) : (b.untilStc n).aud = b.aud := rfl
@[simp] theorem Block.untilStc_drm (b : Block) (n : Nat) : (b.untilStc n).drm = b.drm := rfl
@[simp] theorem Block.untilStc_lnk (b : Block) (n : Nat) : (b.untilStc n).lnk = b.lnk := rfl
@[simp] theorem Block.untilStc_pm (b : Block) (n : Nat) : (b.untilStc n).pm = b.pm := rfl
@[simp] theorem Block.untilStc_flt (b : Block) (n : Nat) : (b.untilStc n).flt = b.flt := rfl
@[simp] theorem Block.untilStc_bstFrom (b : Block) (n : Nat) : (b.untilStc n).bstFrom = b.bstFrom := rfl
@[simp] theorem Block.untilStc_out (b : Block) (n : Nat) : (b.untilStc n).out = b.out := rfl

@[simp] theorem Block.settle_regs (b : Block) : (b.settle).regs = b.regs := rfl
@[simp] theorem Block.settle_latches (b : Block) : (b.settle).latches = b.latches := rfl
@[simp] theorem Block.settle_dram (b : Block) : (b.settle).dram = b.dram := rfl
@[simp] theorem Block.settle_qdr (b : Block) : (b.settle).qdr = b.qdr := rfl
@[simp] theorem Block.settle_qdrBad (b : Block) : (b.settle).qdrBad = b.qdrBad := rfl
@[simp] theorem Block.settle_fuses (b : Block) : (b.settle).fuses = b.fuses := rfl
@[simp] theorem Block.settle_logic (b : Block) : (b.settle).logic = b.logic := rfl
@[simp] theorem Block.settle_clk (b : Block) : (b.settle).clk = b.clk := rfl
@[simp] theorem Block.settle_stc (b : Block) : (b.settle).stc = b.stc := rfl
@[simp] theorem Block.settle_stcFrac (b : Block) : (b.settle).stcFrac = b.stcFrac := rfl
@[simp] theorem Block.settle_freeCount (b : Block) : (b.settle).freeCount = b.freeCount := rfl
@[simp] theorem Block.settle_wdtStart (b : Block) : (b.settle).wdtStart = b.wdtStart := rfl
@[simp] theorem Block.settle_wdtMs (b : Block) : (b.settle).wdtMs = b.wdtMs := rfl
@[simp] theorem Block.settle_wdtWarned (b : Block) : (b.settle).wdtWarned = b.wdtWarned := rfl
@[simp] theorem Block.settle_wdtStop (b : Block) : (b.settle).wdtStop = b.wdtStop := rfl
@[simp] theorem Block.settle_resetWanted (b : Block) : (b.settle).resetWanted = b.resetWanted := rfl
@[simp] theorem Block.settle_cfg (b : Block) : (b.settle).cfg = b.cfg := rfl
@[simp] theorem Block.settle_frm (b : Block) : (b.settle).frm = b.frm := rfl
@[simp] theorem Block.settle_ptp (b : Block) : (b.settle).ptp = b.ptp := rfl
@[simp] theorem Block.settle_clocks (b : Block) : (b.settle).clocks = b.clocks := rfl
@[simp] theorem Block.settle_srd (b : Block) : (b.settle).srd = b.srd := rfl
@[simp] theorem Block.settle_eth (b : Block) : (b.settle).eth = b.eth := rfl
@[simp] theorem Block.settle_scn (b : Block) : (b.settle).scn = b.scn := rfl
@[simp] theorem Block.settle_str (b : Block) : (b.settle).str = b.str := rfl
@[simp] theorem Block.settle_pwr (b : Block) : (b.settle).pwr = b.pwr := rfl
@[simp] theorem Block.settle_cal (b : Block) : (b.settle).cal = b.cal := rfl
@[simp] theorem Block.settle_thm (b : Block) : (b.settle).thm = b.thm := rfl
@[simp] theorem Block.settle_upd (b : Block) : (b.settle).upd = b.upd := rfl
@[simp] theorem Block.settle_cmp (b : Block) : (b.settle).cmp = b.cmp := rfl
@[simp] theorem Block.settle_ing (b : Block) : (b.settle).ing = b.ing := rfl
@[simp] theorem Block.settle_rpl (b : Block) : (b.settle).rpl = b.rpl := rfl
@[simp] theorem Block.settle_aud (b : Block) : (b.settle).aud = b.aud := rfl
@[simp] theorem Block.settle_drm (b : Block) : (b.settle).drm = b.drm := rfl
@[simp] theorem Block.settle_lnk (b : Block) : (b.settle).lnk = b.lnk := rfl
@[simp] theorem Block.settle_pm (b : Block) : (b.settle).pm = b.pm := rfl
@[simp] theorem Block.settle_flt (b : Block) : (b.settle).flt = b.flt := rfl
@[simp] theorem Block.settle_bstFrom (b : Block) : (b.settle).bstFrom = b.bstFrom := rfl
@[simp] theorem Block.settle_out (b : Block) : (b.settle).out = b.out := rfl

/-- An error touches the register file and the fault log alone. -/
theorem Block.raiseAt_eq (b : Block) (e : Err) (d : Nat) :
    b.raiseAt e d = { b with regs := (b.raiseAt e d).regs, flt := (b.raiseAt e d).flt } := by
  simp only [Block.raiseAt, Block.submit, Block.acceptEntry]
  split_ifs <;> rfl

@[simp] theorem Block.raiseAt_latches (b : Block) (e : Err) (d : Nat) : (b.raiseAt e d).latches = b.latches := by rw [Block.raiseAt_eq]
@[simp] theorem Block.raiseAt_dram (b : Block) (e : Err) (d : Nat) : (b.raiseAt e d).dram = b.dram := by rw [Block.raiseAt_eq]
@[simp] theorem Block.raiseAt_qdr (b : Block) (e : Err) (d : Nat) : (b.raiseAt e d).qdr = b.qdr := by rw [Block.raiseAt_eq]
@[simp] theorem Block.raiseAt_qdrBad (b : Block) (e : Err) (d : Nat) : (b.raiseAt e d).qdrBad = b.qdrBad := by rw [Block.raiseAt_eq]
@[simp] theorem Block.raiseAt_fuses (b : Block) (e : Err) (d : Nat) : (b.raiseAt e d).fuses = b.fuses := by rw [Block.raiseAt_eq]
@[simp] theorem Block.raiseAt_logic (b : Block) (e : Err) (d : Nat) : (b.raiseAt e d).logic = b.logic := by rw [Block.raiseAt_eq]
@[simp] theorem Block.raiseAt_clk (b : Block) (e : Err) (d : Nat) : (b.raiseAt e d).clk = b.clk := by rw [Block.raiseAt_eq]
@[simp] theorem Block.raiseAt_stc (b : Block) (e : Err) (d : Nat) : (b.raiseAt e d).stc = b.stc := by rw [Block.raiseAt_eq]
@[simp] theorem Block.raiseAt_stcFrac (b : Block) (e : Err) (d : Nat) : (b.raiseAt e d).stcFrac = b.stcFrac := by rw [Block.raiseAt_eq]
@[simp] theorem Block.raiseAt_freeCount (b : Block) (e : Err) (d : Nat) : (b.raiseAt e d).freeCount = b.freeCount := by rw [Block.raiseAt_eq]
@[simp] theorem Block.raiseAt_wdtStart (b : Block) (e : Err) (d : Nat) : (b.raiseAt e d).wdtStart = b.wdtStart := by rw [Block.raiseAt_eq]
@[simp] theorem Block.raiseAt_wdtMs (b : Block) (e : Err) (d : Nat) : (b.raiseAt e d).wdtMs = b.wdtMs := by rw [Block.raiseAt_eq]
@[simp] theorem Block.raiseAt_wdtWarned (b : Block) (e : Err) (d : Nat) : (b.raiseAt e d).wdtWarned = b.wdtWarned := by rw [Block.raiseAt_eq]
@[simp] theorem Block.raiseAt_wdtStop (b : Block) (e : Err) (d : Nat) : (b.raiseAt e d).wdtStop = b.wdtStop := by rw [Block.raiseAt_eq]
@[simp] theorem Block.raiseAt_resetWanted (b : Block) (e : Err) (d : Nat) : (b.raiseAt e d).resetWanted = b.resetWanted := by rw [Block.raiseAt_eq]
@[simp] theorem Block.raiseAt_pins (b : Block) (e : Err) (d : Nat) : (b.raiseAt e d).pins = b.pins := by rw [Block.raiseAt_eq]
@[simp] theorem Block.raiseAt_i3c (b : Block) (e : Err) (d : Nat) : (b.raiseAt e d).i3c = b.i3c := by rw [Block.raiseAt_eq]
@[simp] theorem Block.raiseAt_hif (b : Block) (e : Err) (d : Nat) : (b.raiseAt e d).hif = b.hif := by rw [Block.raiseAt_eq]
@[simp] theorem Block.raiseAt_cfg (b : Block) (e : Err) (d : Nat) : (b.raiseAt e d).cfg = b.cfg := by rw [Block.raiseAt_eq]
@[simp] theorem Block.raiseAt_frm (b : Block) (e : Err) (d : Nat) : (b.raiseAt e d).frm = b.frm := by rw [Block.raiseAt_eq]
@[simp] theorem Block.raiseAt_ptp (b : Block) (e : Err) (d : Nat) : (b.raiseAt e d).ptp = b.ptp := by rw [Block.raiseAt_eq]
@[simp] theorem Block.raiseAt_clocks (b : Block) (e : Err) (d : Nat) : (b.raiseAt e d).clocks = b.clocks := by rw [Block.raiseAt_eq]
@[simp] theorem Block.raiseAt_srd (b : Block) (e : Err) (d : Nat) : (b.raiseAt e d).srd = b.srd := by rw [Block.raiseAt_eq]
@[simp] theorem Block.raiseAt_eth (b : Block) (e : Err) (d : Nat) : (b.raiseAt e d).eth = b.eth := by rw [Block.raiseAt_eq]
@[simp] theorem Block.raiseAt_scn (b : Block) (e : Err) (d : Nat) : (b.raiseAt e d).scn = b.scn := by rw [Block.raiseAt_eq]
@[simp] theorem Block.raiseAt_str (b : Block) (e : Err) (d : Nat) : (b.raiseAt e d).str = b.str := by rw [Block.raiseAt_eq]
@[simp] theorem Block.raiseAt_pwr (b : Block) (e : Err) (d : Nat) : (b.raiseAt e d).pwr = b.pwr := by rw [Block.raiseAt_eq]
@[simp] theorem Block.raiseAt_cal (b : Block) (e : Err) (d : Nat) : (b.raiseAt e d).cal = b.cal := by rw [Block.raiseAt_eq]
@[simp] theorem Block.raiseAt_thm (b : Block) (e : Err) (d : Nat) : (b.raiseAt e d).thm = b.thm := by rw [Block.raiseAt_eq]
@[simp] theorem Block.raiseAt_upd (b : Block) (e : Err) (d : Nat) : (b.raiseAt e d).upd = b.upd := by rw [Block.raiseAt_eq]
@[simp] theorem Block.raiseAt_cmp (b : Block) (e : Err) (d : Nat) : (b.raiseAt e d).cmp = b.cmp := by rw [Block.raiseAt_eq]
@[simp] theorem Block.raiseAt_ing (b : Block) (e : Err) (d : Nat) : (b.raiseAt e d).ing = b.ing := by rw [Block.raiseAt_eq]
@[simp] theorem Block.raiseAt_rpl (b : Block) (e : Err) (d : Nat) : (b.raiseAt e d).rpl = b.rpl := by rw [Block.raiseAt_eq]
@[simp] theorem Block.raiseAt_aud (b : Block) (e : Err) (d : Nat) : (b.raiseAt e d).aud = b.aud := by rw [Block.raiseAt_eq]
@[simp] theorem Block.raiseAt_drm (b : Block) (e : Err) (d : Nat) : (b.raiseAt e d).drm = b.drm := by rw [Block.raiseAt_eq]
@[simp] theorem Block.raiseAt_lnk (b : Block) (e : Err) (d : Nat) : (b.raiseAt e d).lnk = b.lnk := by rw [Block.raiseAt_eq]
@[simp] theorem Block.raiseAt_pm (b : Block) (e : Err) (d : Nat) : (b.raiseAt e d).pm = b.pm := by rw [Block.raiseAt_eq]
@[simp] theorem Block.raiseAt_bstFrom (b : Block) (e : Err) (d : Nat) : (b.raiseAt e d).bstFrom = b.bstFrom := by rw [Block.raiseAt_eq]
@[simp] theorem Block.raiseAt_out (b : Block) (e : Err) (d : Nat) : (b.raiseAt e d).out = b.out := by rw [Block.raiseAt_eq]

/-! ### DRAM requests and writes -/

/-- What each step of a run keeps, the run keeps. -/
theorem Block.each_keeps {α β : Type} (g : Block → β) (f : α → Block → Block) (h : ∀ x b, g (f x b) = g b) (l : List α) (b : Block) :
    g (b.each l f) = g b := by
  unfold Block.each
  induction l generalizing b with
  | nil => rfl
  | cons x r ih => rw [List.foldl_cons, ih, h]

/-- A DRAM request changes nothing but the controller's pages and what waits for it. -/
theorem Block.dramRequest_eq (b : Block) (c g : Nat) : b.dramRequest c g = { b with drm := (b.dramRequest c g).drm } := by
  simp only [Block.dramRequest]
  split_ifs <;> rfl

/-- Requests for a range change nothing but the controller's pages and what waits for it. -/
theorem Block.dramUse_eq (b : Block) (c a n : Nat) : b.dramUse c a n = { b with drm := (b.dramUse c a n).drm } := by
  have h : ({ b.dramUse c a n with drm := b.drm } : Block) = b := by
    unfold Block.dramUse
    split_ifs
    · rfl
    · exact (Block.each_keeps (fun x : Block => ({ x with drm := b.drm } : Block)) _ (fun i x => by rw [Block.dramRequest_eq]) _ b)
  calc b.dramUse c a n = { ({ b.dramUse c a n with drm := b.drm } : Block) with drm := (b.dramUse c a n).drm } := rfl
    _ = _ := by rw [h]

/-- A run of bytes written to DRAM changes nothing but DRAM. -/
theorem Block.writeDram_eq (b : Block) (a : Nat) (bs : List Byte) : b.writeDram a bs = { b with dram := (b.writeDram a bs).dram } := by
  induction bs generalizing b a with
  | nil => rfl
  | cons v r ih => rw [Block.writeDram, ih]; rfl

@[simp] theorem Block.dramUse_regs (b : Block) (c a n : Nat) : (b.dramUse c a n).regs = b.regs := by rw [Block.dramUse_eq]
@[simp] theorem Block.dramUse_latches (b : Block) (c a n : Nat) : (b.dramUse c a n).latches = b.latches := by rw [Block.dramUse_eq]
@[simp] theorem Block.dramUse_dram (b : Block) (c a n : Nat) : (b.dramUse c a n).dram = b.dram := by rw [Block.dramUse_eq]
@[simp] theorem Block.dramUse_qdr (b : Block) (c a n : Nat) : (b.dramUse c a n).qdr = b.qdr := by rw [Block.dramUse_eq]
@[simp] theorem Block.dramUse_qdrBad (b : Block) (c a n : Nat) : (b.dramUse c a n).qdrBad = b.qdrBad := by rw [Block.dramUse_eq]
@[simp] theorem Block.dramUse_fuses (b : Block) (c a n : Nat) : (b.dramUse c a n).fuses = b.fuses := by rw [Block.dramUse_eq]
@[simp] theorem Block.dramUse_logic (b : Block) (c a n : Nat) : (b.dramUse c a n).logic = b.logic := by rw [Block.dramUse_eq]
@[simp] theorem Block.dramUse_clk (b : Block) (c a n : Nat) : (b.dramUse c a n).clk = b.clk := by rw [Block.dramUse_eq]
@[simp] theorem Block.dramUse_stc (b : Block) (c a n : Nat) : (b.dramUse c a n).stc = b.stc := by rw [Block.dramUse_eq]
@[simp] theorem Block.dramUse_stcFrac (b : Block) (c a n : Nat) : (b.dramUse c a n).stcFrac = b.stcFrac := by rw [Block.dramUse_eq]
@[simp] theorem Block.dramUse_freeCount (b : Block) (c a n : Nat) : (b.dramUse c a n).freeCount = b.freeCount := by rw [Block.dramUse_eq]
@[simp] theorem Block.dramUse_wdtStart (b : Block) (c a n : Nat) : (b.dramUse c a n).wdtStart = b.wdtStart := by rw [Block.dramUse_eq]
@[simp] theorem Block.dramUse_wdtMs (b : Block) (c a n : Nat) : (b.dramUse c a n).wdtMs = b.wdtMs := by rw [Block.dramUse_eq]
@[simp] theorem Block.dramUse_wdtWarned (b : Block) (c a n : Nat) : (b.dramUse c a n).wdtWarned = b.wdtWarned := by rw [Block.dramUse_eq]
@[simp] theorem Block.dramUse_wdtStop (b : Block) (c a n : Nat) : (b.dramUse c a n).wdtStop = b.wdtStop := by rw [Block.dramUse_eq]
@[simp] theorem Block.dramUse_resetWanted (b : Block) (c a n : Nat) : (b.dramUse c a n).resetWanted = b.resetWanted := by rw [Block.dramUse_eq]
@[simp] theorem Block.dramUse_pins (b : Block) (c a n : Nat) : (b.dramUse c a n).pins = b.pins := by rw [Block.dramUse_eq]
@[simp] theorem Block.dramUse_i3c (b : Block) (c a n : Nat) : (b.dramUse c a n).i3c = b.i3c := by rw [Block.dramUse_eq]
@[simp] theorem Block.dramUse_hif (b : Block) (c a n : Nat) : (b.dramUse c a n).hif = b.hif := by rw [Block.dramUse_eq]
@[simp] theorem Block.dramUse_cfg (b : Block) (c a n : Nat) : (b.dramUse c a n).cfg = b.cfg := by rw [Block.dramUse_eq]
@[simp] theorem Block.dramUse_frm (b : Block) (c a n : Nat) : (b.dramUse c a n).frm = b.frm := by rw [Block.dramUse_eq]
@[simp] theorem Block.dramUse_ptp (b : Block) (c a n : Nat) : (b.dramUse c a n).ptp = b.ptp := by rw [Block.dramUse_eq]
@[simp] theorem Block.dramUse_clocks (b : Block) (c a n : Nat) : (b.dramUse c a n).clocks = b.clocks := by rw [Block.dramUse_eq]
@[simp] theorem Block.dramUse_srd (b : Block) (c a n : Nat) : (b.dramUse c a n).srd = b.srd := by rw [Block.dramUse_eq]
@[simp] theorem Block.dramUse_eth (b : Block) (c a n : Nat) : (b.dramUse c a n).eth = b.eth := by rw [Block.dramUse_eq]
@[simp] theorem Block.dramUse_scn (b : Block) (c a n : Nat) : (b.dramUse c a n).scn = b.scn := by rw [Block.dramUse_eq]
@[simp] theorem Block.dramUse_str (b : Block) (c a n : Nat) : (b.dramUse c a n).str = b.str := by rw [Block.dramUse_eq]
@[simp] theorem Block.dramUse_pwr (b : Block) (c a n : Nat) : (b.dramUse c a n).pwr = b.pwr := by rw [Block.dramUse_eq]
@[simp] theorem Block.dramUse_cal (b : Block) (c a n : Nat) : (b.dramUse c a n).cal = b.cal := by rw [Block.dramUse_eq]
@[simp] theorem Block.dramUse_thm (b : Block) (c a n : Nat) : (b.dramUse c a n).thm = b.thm := by rw [Block.dramUse_eq]
@[simp] theorem Block.dramUse_upd (b : Block) (c a n : Nat) : (b.dramUse c a n).upd = b.upd := by rw [Block.dramUse_eq]
@[simp] theorem Block.dramUse_cmp (b : Block) (c a n : Nat) : (b.dramUse c a n).cmp = b.cmp := by rw [Block.dramUse_eq]
@[simp] theorem Block.dramUse_ing (b : Block) (c a n : Nat) : (b.dramUse c a n).ing = b.ing := by rw [Block.dramUse_eq]
@[simp] theorem Block.dramUse_rpl (b : Block) (c a n : Nat) : (b.dramUse c a n).rpl = b.rpl := by rw [Block.dramUse_eq]
@[simp] theorem Block.dramUse_aud (b : Block) (c a n : Nat) : (b.dramUse c a n).aud = b.aud := by rw [Block.dramUse_eq]
@[simp] theorem Block.dramUse_lnk (b : Block) (c a n : Nat) : (b.dramUse c a n).lnk = b.lnk := by rw [Block.dramUse_eq]
@[simp] theorem Block.dramUse_pm (b : Block) (c a n : Nat) : (b.dramUse c a n).pm = b.pm := by rw [Block.dramUse_eq]
@[simp] theorem Block.dramUse_flt (b : Block) (c a n : Nat) : (b.dramUse c a n).flt = b.flt := by rw [Block.dramUse_eq]
@[simp] theorem Block.dramUse_bstFrom (b : Block) (c a n : Nat) : (b.dramUse c a n).bstFrom = b.bstFrom := by rw [Block.dramUse_eq]
@[simp] theorem Block.dramUse_out (b : Block) (c a n : Nat) : (b.dramUse c a n).out = b.out := by rw [Block.dramUse_eq]

@[simp] theorem Block.writeDram_regs (b : Block) (a : Nat) (bs : List Byte) : (b.writeDram a bs).regs = b.regs := by rw [Block.writeDram_eq]
@[simp] theorem Block.writeDram_latches (b : Block) (a : Nat) (bs : List Byte) : (b.writeDram a bs).latches = b.latches := by rw [Block.writeDram_eq]
@[simp] theorem Block.writeDram_qdr (b : Block) (a : Nat) (bs : List Byte) : (b.writeDram a bs).qdr = b.qdr := by rw [Block.writeDram_eq]
@[simp] theorem Block.writeDram_qdrBad (b : Block) (a : Nat) (bs : List Byte) : (b.writeDram a bs).qdrBad = b.qdrBad := by rw [Block.writeDram_eq]
@[simp] theorem Block.writeDram_fuses (b : Block) (a : Nat) (bs : List Byte) : (b.writeDram a bs).fuses = b.fuses := by rw [Block.writeDram_eq]
@[simp] theorem Block.writeDram_logic (b : Block) (a : Nat) (bs : List Byte) : (b.writeDram a bs).logic = b.logic := by rw [Block.writeDram_eq]
@[simp] theorem Block.writeDram_clk (b : Block) (a : Nat) (bs : List Byte) : (b.writeDram a bs).clk = b.clk := by rw [Block.writeDram_eq]
@[simp] theorem Block.writeDram_stc (b : Block) (a : Nat) (bs : List Byte) : (b.writeDram a bs).stc = b.stc := by rw [Block.writeDram_eq]
@[simp] theorem Block.writeDram_stcFrac (b : Block) (a : Nat) (bs : List Byte) : (b.writeDram a bs).stcFrac = b.stcFrac := by rw [Block.writeDram_eq]
@[simp] theorem Block.writeDram_freeCount (b : Block) (a : Nat) (bs : List Byte) : (b.writeDram a bs).freeCount = b.freeCount := by rw [Block.writeDram_eq]
@[simp] theorem Block.writeDram_wdtStart (b : Block) (a : Nat) (bs : List Byte) : (b.writeDram a bs).wdtStart = b.wdtStart := by rw [Block.writeDram_eq]
@[simp] theorem Block.writeDram_wdtMs (b : Block) (a : Nat) (bs : List Byte) : (b.writeDram a bs).wdtMs = b.wdtMs := by rw [Block.writeDram_eq]
@[simp] theorem Block.writeDram_wdtWarned (b : Block) (a : Nat) (bs : List Byte) : (b.writeDram a bs).wdtWarned = b.wdtWarned := by rw [Block.writeDram_eq]
@[simp] theorem Block.writeDram_wdtStop (b : Block) (a : Nat) (bs : List Byte) : (b.writeDram a bs).wdtStop = b.wdtStop := by rw [Block.writeDram_eq]
@[simp] theorem Block.writeDram_resetWanted (b : Block) (a : Nat) (bs : List Byte) : (b.writeDram a bs).resetWanted = b.resetWanted := by rw [Block.writeDram_eq]
@[simp] theorem Block.writeDram_pins (b : Block) (a : Nat) (bs : List Byte) : (b.writeDram a bs).pins = b.pins := by rw [Block.writeDram_eq]
@[simp] theorem Block.writeDram_i3c (b : Block) (a : Nat) (bs : List Byte) : (b.writeDram a bs).i3c = b.i3c := by rw [Block.writeDram_eq]
@[simp] theorem Block.writeDram_hif (b : Block) (a : Nat) (bs : List Byte) : (b.writeDram a bs).hif = b.hif := by rw [Block.writeDram_eq]
@[simp] theorem Block.writeDram_cfg (b : Block) (a : Nat) (bs : List Byte) : (b.writeDram a bs).cfg = b.cfg := by rw [Block.writeDram_eq]
@[simp] theorem Block.writeDram_frm (b : Block) (a : Nat) (bs : List Byte) : (b.writeDram a bs).frm = b.frm := by rw [Block.writeDram_eq]
@[simp] theorem Block.writeDram_ptp (b : Block) (a : Nat) (bs : List Byte) : (b.writeDram a bs).ptp = b.ptp := by rw [Block.writeDram_eq]
@[simp] theorem Block.writeDram_clocks (b : Block) (a : Nat) (bs : List Byte) : (b.writeDram a bs).clocks = b.clocks := by rw [Block.writeDram_eq]
@[simp] theorem Block.writeDram_srd (b : Block) (a : Nat) (bs : List Byte) : (b.writeDram a bs).srd = b.srd := by rw [Block.writeDram_eq]
@[simp] theorem Block.writeDram_eth (b : Block) (a : Nat) (bs : List Byte) : (b.writeDram a bs).eth = b.eth := by rw [Block.writeDram_eq]
@[simp] theorem Block.writeDram_scn (b : Block) (a : Nat) (bs : List Byte) : (b.writeDram a bs).scn = b.scn := by rw [Block.writeDram_eq]
@[simp] theorem Block.writeDram_str (b : Block) (a : Nat) (bs : List Byte) : (b.writeDram a bs).str = b.str := by rw [Block.writeDram_eq]
@[simp] theorem Block.writeDram_pwr (b : Block) (a : Nat) (bs : List Byte) : (b.writeDram a bs).pwr = b.pwr := by rw [Block.writeDram_eq]
@[simp] theorem Block.writeDram_cal (b : Block) (a : Nat) (bs : List Byte) : (b.writeDram a bs).cal = b.cal := by rw [Block.writeDram_eq]
@[simp] theorem Block.writeDram_thm (b : Block) (a : Nat) (bs : List Byte) : (b.writeDram a bs).thm = b.thm := by rw [Block.writeDram_eq]
@[simp] theorem Block.writeDram_upd (b : Block) (a : Nat) (bs : List Byte) : (b.writeDram a bs).upd = b.upd := by rw [Block.writeDram_eq]
@[simp] theorem Block.writeDram_cmp (b : Block) (a : Nat) (bs : List Byte) : (b.writeDram a bs).cmp = b.cmp := by rw [Block.writeDram_eq]
@[simp] theorem Block.writeDram_ing (b : Block) (a : Nat) (bs : List Byte) : (b.writeDram a bs).ing = b.ing := by rw [Block.writeDram_eq]
@[simp] theorem Block.writeDram_rpl (b : Block) (a : Nat) (bs : List Byte) : (b.writeDram a bs).rpl = b.rpl := by rw [Block.writeDram_eq]
@[simp] theorem Block.writeDram_aud (b : Block) (a : Nat) (bs : List Byte) : (b.writeDram a bs).aud = b.aud := by rw [Block.writeDram_eq]
@[simp] theorem Block.writeDram_drm (b : Block) (a : Nat) (bs : List Byte) : (b.writeDram a bs).drm = b.drm := by rw [Block.writeDram_eq]
@[simp] theorem Block.writeDram_lnk (b : Block) (a : Nat) (bs : List Byte) : (b.writeDram a bs).lnk = b.lnk := by rw [Block.writeDram_eq]
@[simp] theorem Block.writeDram_pm (b : Block) (a : Nat) (bs : List Byte) : (b.writeDram a bs).pm = b.pm := by rw [Block.writeDram_eq]
@[simp] theorem Block.writeDram_flt (b : Block) (a : Nat) (bs : List Byte) : (b.writeDram a bs).flt = b.flt := by rw [Block.writeDram_eq]
@[simp] theorem Block.writeDram_bstFrom (b : Block) (a : Nat) (bs : List Byte) : (b.writeDram a bs).bstFrom = b.bstFrom := by rw [Block.writeDram_eq]
@[simp] theorem Block.writeDram_out (b : Block) (a : Nat) (bs : List Byte) : (b.writeDram a bs).out = b.out := by rw [Block.writeDram_eq]

@[simp] theorem Block.dramWrite_regs (b : Block) (c a : Nat) (bs : List Byte) : (b.dramWrite c a bs).regs = b.regs := by simp [Block.dramWrite]
@[simp] theorem Block.dramWrite_latches (b : Block) (c a : Nat) (bs : List Byte) : (b.dramWrite c a bs).latches = b.latches := by simp [Block.dramWrite]
@[simp] theorem Block.dramWrite_qdr (b : Block) (c a : Nat) (bs : List Byte) : (b.dramWrite c a bs).qdr = b.qdr := by simp [Block.dramWrite]
@[simp] theorem Block.dramWrite_qdrBad (b : Block) (c a : Nat) (bs : List Byte) : (b.dramWrite c a bs).qdrBad = b.qdrBad := by simp [Block.dramWrite]
@[simp] theorem Block.dramWrite_fuses (b : Block) (c a : Nat) (bs : List Byte) : (b.dramWrite c a bs).fuses = b.fuses := by simp [Block.dramWrite]
@[simp] theorem Block.dramWrite_logic (b : Block) (c a : Nat) (bs : List Byte) : (b.dramWrite c a bs).logic = b.logic := by simp [Block.dramWrite]
@[simp] theorem Block.dramWrite_clk (b : Block) (c a : Nat) (bs : List Byte) : (b.dramWrite c a bs).clk = b.clk := by simp [Block.dramWrite]
@[simp] theorem Block.dramWrite_stc (b : Block) (c a : Nat) (bs : List Byte) : (b.dramWrite c a bs).stc = b.stc := by simp [Block.dramWrite]
@[simp] theorem Block.dramWrite_stcFrac (b : Block) (c a : Nat) (bs : List Byte) : (b.dramWrite c a bs).stcFrac = b.stcFrac := by simp [Block.dramWrite]
@[simp] theorem Block.dramWrite_freeCount (b : Block) (c a : Nat) (bs : List Byte) : (b.dramWrite c a bs).freeCount = b.freeCount := by simp [Block.dramWrite]
@[simp] theorem Block.dramWrite_wdtStart (b : Block) (c a : Nat) (bs : List Byte) : (b.dramWrite c a bs).wdtStart = b.wdtStart := by simp [Block.dramWrite]
@[simp] theorem Block.dramWrite_wdtMs (b : Block) (c a : Nat) (bs : List Byte) : (b.dramWrite c a bs).wdtMs = b.wdtMs := by simp [Block.dramWrite]
@[simp] theorem Block.dramWrite_wdtWarned (b : Block) (c a : Nat) (bs : List Byte) : (b.dramWrite c a bs).wdtWarned = b.wdtWarned := by simp [Block.dramWrite]
@[simp] theorem Block.dramWrite_wdtStop (b : Block) (c a : Nat) (bs : List Byte) : (b.dramWrite c a bs).wdtStop = b.wdtStop := by simp [Block.dramWrite]
@[simp] theorem Block.dramWrite_resetWanted (b : Block) (c a : Nat) (bs : List Byte) : (b.dramWrite c a bs).resetWanted = b.resetWanted := by simp [Block.dramWrite]
@[simp] theorem Block.dramWrite_pins (b : Block) (c a : Nat) (bs : List Byte) : (b.dramWrite c a bs).pins = b.pins := by simp [Block.dramWrite]
@[simp] theorem Block.dramWrite_i3c (b : Block) (c a : Nat) (bs : List Byte) : (b.dramWrite c a bs).i3c = b.i3c := by simp [Block.dramWrite]
@[simp] theorem Block.dramWrite_hif (b : Block) (c a : Nat) (bs : List Byte) : (b.dramWrite c a bs).hif = b.hif := by simp [Block.dramWrite]
@[simp] theorem Block.dramWrite_cfg (b : Block) (c a : Nat) (bs : List Byte) : (b.dramWrite c a bs).cfg = b.cfg := by simp [Block.dramWrite]
@[simp] theorem Block.dramWrite_frm (b : Block) (c a : Nat) (bs : List Byte) : (b.dramWrite c a bs).frm = b.frm := by simp [Block.dramWrite]
@[simp] theorem Block.dramWrite_ptp (b : Block) (c a : Nat) (bs : List Byte) : (b.dramWrite c a bs).ptp = b.ptp := by simp [Block.dramWrite]
@[simp] theorem Block.dramWrite_clocks (b : Block) (c a : Nat) (bs : List Byte) : (b.dramWrite c a bs).clocks = b.clocks := by simp [Block.dramWrite]
@[simp] theorem Block.dramWrite_srd (b : Block) (c a : Nat) (bs : List Byte) : (b.dramWrite c a bs).srd = b.srd := by simp [Block.dramWrite]
@[simp] theorem Block.dramWrite_eth (b : Block) (c a : Nat) (bs : List Byte) : (b.dramWrite c a bs).eth = b.eth := by simp [Block.dramWrite]
@[simp] theorem Block.dramWrite_scn (b : Block) (c a : Nat) (bs : List Byte) : (b.dramWrite c a bs).scn = b.scn := by simp [Block.dramWrite]
@[simp] theorem Block.dramWrite_str (b : Block) (c a : Nat) (bs : List Byte) : (b.dramWrite c a bs).str = b.str := by simp [Block.dramWrite]
@[simp] theorem Block.dramWrite_pwr (b : Block) (c a : Nat) (bs : List Byte) : (b.dramWrite c a bs).pwr = b.pwr := by simp [Block.dramWrite]
@[simp] theorem Block.dramWrite_cal (b : Block) (c a : Nat) (bs : List Byte) : (b.dramWrite c a bs).cal = b.cal := by simp [Block.dramWrite]
@[simp] theorem Block.dramWrite_thm (b : Block) (c a : Nat) (bs : List Byte) : (b.dramWrite c a bs).thm = b.thm := by simp [Block.dramWrite]
@[simp] theorem Block.dramWrite_upd (b : Block) (c a : Nat) (bs : List Byte) : (b.dramWrite c a bs).upd = b.upd := by simp [Block.dramWrite]
@[simp] theorem Block.dramWrite_cmp (b : Block) (c a : Nat) (bs : List Byte) : (b.dramWrite c a bs).cmp = b.cmp := by simp [Block.dramWrite]
@[simp] theorem Block.dramWrite_ing (b : Block) (c a : Nat) (bs : List Byte) : (b.dramWrite c a bs).ing = b.ing := by simp [Block.dramWrite]
@[simp] theorem Block.dramWrite_rpl (b : Block) (c a : Nat) (bs : List Byte) : (b.dramWrite c a bs).rpl = b.rpl := by simp [Block.dramWrite]
@[simp] theorem Block.dramWrite_aud (b : Block) (c a : Nat) (bs : List Byte) : (b.dramWrite c a bs).aud = b.aud := by simp [Block.dramWrite]
@[simp] theorem Block.dramWrite_lnk (b : Block) (c a : Nat) (bs : List Byte) : (b.dramWrite c a bs).lnk = b.lnk := by simp [Block.dramWrite]
@[simp] theorem Block.dramWrite_pm (b : Block) (c a : Nat) (bs : List Byte) : (b.dramWrite c a bs).pm = b.pm := by simp [Block.dramWrite]
@[simp] theorem Block.dramWrite_flt (b : Block) (c a : Nat) (bs : List Byte) : (b.dramWrite c a bs).flt = b.flt := by simp [Block.dramWrite]
@[simp] theorem Block.dramWrite_bstFrom (b : Block) (c a : Nat) (bs : List Byte) : (b.dramWrite c a bs).bstFrom = b.bstFrom := by simp [Block.dramWrite]
@[simp] theorem Block.dramWrite_out (b : Block) (c a : Nat) (bs : List Byte) : (b.dramWrite c a bs).out = b.out := by simp [Block.dramWrite]

/-! ### Reading registers after what touches none -/

@[simp] theorem Block.emit_word (b : Block) (o : Out) (k : Nat) : (b.emit o).word k = b.word k := rfl
@[simp] theorem Block.emit_get (b : Block) (o : Out) (f : Fld) : (b.emit o).get f = b.get f := rfl
@[simp] theorem Block.emit_act (b : Block) (o : Out) (f : Fld) : (b.emit o).act f = b.act f := rfl
@[simp] theorem Block.emit_bit (b : Block) (o : Out) (f : Fld) : (b.emit o).bit f = b.bit f := rfl
@[simp] theorem Block.elapse_word (b : Block) (n : Nat) (k : Nat) : (b.elapse n).word k = b.word k := rfl
@[simp] theorem Block.elapse_get (b : Block) (n : Nat) (f : Fld) : (b.elapse n).get f = b.get f := rfl
@[simp] theorem Block.elapse_act (b : Block) (n : Nat) (f : Fld) : (b.elapse n).act f = b.act f := rfl
@[simp] theorem Block.elapse_bit (b : Block) (n : Nat) (f : Fld) : (b.elapse n).bit f = b.bit f := rfl
@[simp] theorem Block.settle_word (b : Block) (k : Nat) : (b.settle).word k = b.word k := rfl
@[simp] theorem Block.settle_get (b : Block) (f : Fld) : (b.settle).get f = b.get f := rfl
@[simp] theorem Block.settle_act (b : Block) (f : Fld) : (b.settle).act f = b.act f := rfl
@[simp] theorem Block.settle_bit (b : Block) (f : Fld) : (b.settle).bit f = b.bit f := rfl
@[simp] theorem Block.untilClk_word (b : Block) (n : Nat) (k : Nat) : (b.untilClk n).word k = b.word k := rfl
@[simp] theorem Block.untilClk_get (b : Block) (n : Nat) (f : Fld) : (b.untilClk n).get f = b.get f := rfl
@[simp] theorem Block.untilClk_act (b : Block) (n : Nat) (f : Fld) : (b.untilClk n).act f = b.act f := rfl
@[simp] theorem Block.untilClk_bit (b : Block) (n : Nat) (f : Fld) : (b.untilClk n).bit f = b.bit f := rfl
@[simp] theorem Block.untilStc_word (b : Block) (n : Nat) (k : Nat) : (b.untilStc n).word k = b.word k := rfl
@[simp] theorem Block.untilStc_get (b : Block) (n : Nat) (f : Fld) : (b.untilStc n).get f = b.get f := rfl
@[simp] theorem Block.untilStc_act (b : Block) (n : Nat) (f : Fld) : (b.untilStc n).act f = b.act f := rfl
@[simp] theorem Block.untilStc_bit (b : Block) (n : Nat) (f : Fld) : (b.untilStc n).bit f = b.bit f := rfl
@[simp] theorem Block.dramUse_word (b : Block) (c a n : Nat) (k : Nat) : (b.dramUse c a n).word k = b.word k := by rw [Block.dramUse_eq]; rfl
@[simp] theorem Block.dramUse_get (b : Block) (c a n : Nat) (f : Fld) : (b.dramUse c a n).get f = b.get f := by rw [Block.dramUse_eq]; rfl
@[simp] theorem Block.dramUse_act (b : Block) (c a n : Nat) (f : Fld) : (b.dramUse c a n).act f = b.act f := by rw [Block.dramUse_eq]; rfl
@[simp] theorem Block.dramUse_bit (b : Block) (c a n : Nat) (f : Fld) : (b.dramUse c a n).bit f = b.bit f := by rw [Block.dramUse_eq]; rfl
@[simp] theorem Block.writeDram_word (b : Block) (a : Nat) (bs : List Byte) (k : Nat) : (b.writeDram a bs).word k = b.word k := by rw [Block.writeDram_eq]; rfl
@[simp] theorem Block.writeDram_get (b : Block) (a : Nat) (bs : List Byte) (f : Fld) : (b.writeDram a bs).get f = b.get f := by rw [Block.writeDram_eq]; rfl
@[simp] theorem Block.writeDram_act (b : Block) (a : Nat) (bs : List Byte) (f : Fld) : (b.writeDram a bs).act f = b.act f := by rw [Block.writeDram_eq]; rfl
@[simp] theorem Block.writeDram_bit (b : Block) (a : Nat) (bs : List Byte) (f : Fld) : (b.writeDram a bs).bit f = b.bit f := by rw [Block.writeDram_eq]; rfl
@[simp] theorem Block.dramWrite_word (b : Block) (c a : Nat) (bs : List Byte) (k : Nat) : (b.dramWrite c a bs).word k = b.word k := by simp [Block.dramWrite]
@[simp] theorem Block.dramWrite_get (b : Block) (c a : Nat) (bs : List Byte) (f : Fld) : (b.dramWrite c a bs).get f = b.get f := by simp [Block.dramWrite]
@[simp] theorem Block.dramWrite_act (b : Block) (c a : Nat) (bs : List Byte) (f : Fld) : (b.dramWrite c a bs).act f = b.act f := by simp [Block.dramWrite]
@[simp] theorem Block.dramWrite_bit (b : Block) (c a : Nat) (bs : List Byte) (f : Fld) : (b.dramWrite c a bs).bit f = b.bit f := by simp [Block.dramWrite]

/-- Settling changes ALERT_N, the pending IBI and the pending NOTIFY. -/
theorem Block.settle_pins (b : Block) : b.settle.pins = { b.pins with alertN := !(b.alertDue && b.logic == .running) } := rfl

/-! ### How a meaning ends -/

theorem State.done_running {s : State} (b : Block) (h : s.blk.logic = .running) :
    s.done b = .next { s with blk := b.settle } := by simp [State.done, h]

theorem State.done_idle {s : State} (b : Block) (h : s.blk.logic ≠ .running) : s.done b = .next s := by
  cases s; simp_all [State.done]

end Sys2Proof.Machine
end

