-- ==== Sys2Proof/Laws/Exec.lean ====
section
/-!
SUPPORT. What any command can do, said once: it ends as `State.done` or as `State.power`, but for the pulse on RESET_N that
R53 leaves open.
-/

namespace Sys2Proof.Machine

/-- The commands of `powerRow` end as `State.power`, or stop on the pulse that R53 leaves open. -/
theorem exec_power (c : Instr) (h : powerRow c = true) (s : State) :
    (∃ b, exec c s = s.power b) ∨ ∃ n, c = .coldReset n ∧ 500 < n ∧ n < 1000 ∧ exec c s = .fault .resetPulseUnspecified := by
  cases c <;> simp only [powerRow, Bool.false_eq_true] at h
  case coldReset n =>
    by_cases hn : 500 < n ∧ n < 1000
    · exact .inr ⟨n, rfl, hn.1, hn.2, by simp only [exec, execColdReset, if_pos hn]⟩
    · exact .inl ⟨_, by simp only [exec, execColdReset, if_neg hn]; rfl⟩
  all_goals exact .inl ⟨_, rfl⟩

/-- Every other command ends as `State.done`. -/
theorem exec_done (c : Instr) (h : powerRow c = false) (s : State) : ∃ b, exec c s = s.done b := by
  cases c
  case coldReset n => simp [powerRow] at h
  all_goals first | exact ⟨_, rfl⟩ | simp [powerRow] at h

end Sys2Proof.Machine
end

