-- ==== Sys2Proof/Laws/Memory.lean ====
section
/-!
SUPPORT. DRAM and QDR: what a byte reads as after each memory operation, and that each of them, and a register write, keeps
the canonical form.
-/

namespace Sys2Proof.Machine

variable (b : Block)

/-- The canonical form, list by list. -/
theorem memory_wf_iff : Memory.wf b = true ↔ cellsWf (fun _ => (0 : Byte)) b.dram = true
    ∧ cellsWf (fun _ => (0 : Byte)) b.qdr = true ∧ cellsWf keyReset b.regs = true := by
  simp [Memory.wf, and_assoc]

/-! ### One byte -/

@[simp] theorem Block.dramByte_setDram (a : Nat) (v : Byte) : (b.setDram a v).dramByte a = v := by
  simp [Block.dramByte, Block.setDram]

theorem Block.dramByte_setDram_other {a c : Nat} (v : Byte) (h : c ≠ a) : (b.setDram a v).dramByte c = b.dramByte c :=
  cellsGet_set_other _ _ _ _ h

@[simp] theorem Block.qdrByte_setDram (a c : Nat) (v : Byte) : (b.setDram a v).qdrByte c = b.qdrByte c := rfl

@[simp] theorem Block.qdrByte_setQdr (a : Nat) (v : Byte) : (b.setQdr a v).qdrByte a = v := by
  simp [Block.qdrByte, Block.setQdr]

theorem Block.qdrByte_setQdr_other {a c : Nat} (v : Byte) (h : c ≠ a) : (b.setQdr a v).qdrByte c = b.qdrByte c :=
  cellsGet_set_other _ _ _ _ h

@[simp] theorem Block.dramByte_setQdr (a c : Nat) (v : Byte) : (b.setQdr a v).dramByte c = b.dramByte c := rfl

/-! ### Runs of bytes -/

/-- A run of bytes written to DRAM: byte `i` of it reads as written, every other byte as before. -/
theorem Block.dramByte_writeDram (bs : List Byte) (a c : Nat) : (b.writeDram a bs).dramByte c =
    if a ≤ c ∧ c < a + bs.length then bs.getD (c - a) 0 else b.dramByte c := by
  induction bs generalizing b a with
  | nil => simp [Block.writeDram]
  | cons v r ih =>
    rw [Block.writeDram, ih, List.length_cons]
    rcases lt_trichotomy c a with h | rfl | h
    · rw [if_neg (by omega), if_neg (by omega), Block.dramByte_setDram_other _ _ h.ne]
    · rw [if_neg (by omega), if_pos (by omega)]; simp
    · by_cases hc : c < a + 1 + r.length
      · rw [if_pos (by omega), if_pos (by omega), show c - a = (c - (a + 1)) + 1 by omega, List.getD_cons_succ]
      · rw [if_neg (by omega), if_neg (by omega), Block.dramByte_setDram_other _ _ h.ne']

/-- A request moves no byte. -/
@[simp] theorem Block.dramByte_dramUse (k a n c : Nat) : (b.dramUse k a n).dramByte c = b.dramByte c := by simp [Block.dramByte]

/-- A client's write: byte `i` of it reads as written, every other byte as before. -/
theorem Block.dramByte_dramWrite (k : Nat) (bs : List Byte) (a c : Nat) : (b.dramWrite k a bs).dramByte c =
    if a ≤ c ∧ c < a + bs.length then bs.getD (c - a) 0 else b.dramByte c := by
  rw [Block.dramWrite, Block.dramByte_writeDram, Block.dramByte_dramUse]

/-- A run of bytes written to QDR: byte `i` of it reads as written, every other byte as before. -/
theorem Block.qdrByte_writeQdr (bs : List Byte) (a c : Nat) : (b.writeQdr a bs).qdrByte c =
    if a ≤ c ∧ c < a + bs.length then bs.getD (c - a) 0 else b.qdrByte c := by
  induction bs generalizing b a with
  | nil => simp [Block.writeQdr]
  | cons v r ih =>
    rw [Block.writeQdr, ih, List.length_cons]
    rcases lt_trichotomy c a with h | rfl | h
    · rw [if_neg (by omega), if_neg (by omega), Block.qdrByte_setQdr_other _ _ h.ne]
    · rw [if_neg (by omega), if_pos (by omega)]; simp
    · by_cases hc : c < a + 1 + r.length
      · rw [if_pos (by omega), if_pos (by omega), show c - a = (c - (a + 1)) + 1 by omega, List.getD_cons_succ]
      · rw [if_neg (by omega), if_neg (by omega), Block.qdrByte_setQdr_other _ _ h.ne']

/-- What is kept of a sparse list reads as before, what is removed as its default. -/
theorem cellsGet_filter {β : Type} (p : Nat → Bool) (l : List (Nat × β)) (a : Nat) (d : β) :
    cellsGet (l.filter (fun c => p c.1)) a d = if p a then cellsGet l a d else d := by
  induction l with
  | nil => simp [cellsGet]
  | cons x r ih =>
    obtain ⟨k, v⟩ := x
    by_cases hk : p k = true
    · rw [List.filter_cons_of_pos (by simpa using hk), cellsGet, cellsGet, ih]
      by_cases e : k = a
      · subst e; simp [hk]
      · simp [e]
    · rw [List.filter_cons_of_neg (by simpa using hk), ih, cellsGet]
      by_cases e : k = a
      · subst e; simp [hk]
      · simp [e]

/-- Clearing QDR: the bytes of the range read 0, every other byte as before. -/
theorem Block.qdrByte_clearQdr (a n c : Nat) :
    (b.clearQdr a n).qdrByte c = if a ≤ c ∧ c < a + n then 0 else b.qdrByte c := by
  have h := cellsGet_filter (fun k => !(decide (a ≤ k) && decide (k < a + n))) b.qdr c (0 : Byte)
  simp only [Block.qdrByte, Block.clearQdr]
  rw [h]
  by_cases h1 : a ≤ c <;> by_cases h2 : c < a + n <;> simp [h1, h2]

/-! ### The canonical form -/

theorem memory_wf_setDram (a : Nat) (v : Byte) (h : Memory.wf b = true) : Memory.wf (b.setDram a v) = true := by
  rw [memory_wf_iff] at h ⊢
  exact ⟨cellsSet_wf (dflt := fun _ => (0 : Byte)) a v h.1, h.2⟩

theorem memory_wf_setQdr (a : Nat) (v : Byte) (h : Memory.wf b = true) : Memory.wf (b.setQdr a v) = true := by
  rw [memory_wf_iff] at h ⊢
  exact ⟨h.1, cellsSet_wf (dflt := fun _ => (0 : Byte)) a v h.2.1, h.2.2⟩

theorem memory_wf_writeDram (bs : List Byte) (a : Nat) (h : Memory.wf b = true) : Memory.wf (b.writeDram a bs) = true := by
  induction bs generalizing b a with
  | nil => exact h
  | cons v r ih => exact ih _ _ (memory_wf_setDram b a v h)

theorem memory_wf_dramUse (k a n : Nat) (h : Memory.wf b = true) : Memory.wf (b.dramUse k a n) = true := by
  rw [memory_wf_iff] at h ⊢
  simpa using h

theorem memory_wf_dramWrite (k a : Nat) (bs : List Byte) (h : Memory.wf b = true) : Memory.wf (b.dramWrite k a bs) = true :=
  memory_wf_writeDram _ _ _ (memory_wf_dramUse b k a bs.length h)

theorem memory_wf_writeQdr (bs : List Byte) (a : Nat) (h : Memory.wf b = true) : Memory.wf (b.writeQdr a bs) = true := by
  induction bs generalizing b a with
  | nil => exact h
  | cons v r ih => exact ih _ _ (memory_wf_setQdr b a v h)

theorem memory_wf_clearQdr (a n : Nat) (h : Memory.wf b = true) : Memory.wf (b.clearQdr a n) = true := by
  rw [memory_wf_iff] at h ⊢
  exact ⟨h.1, cellsFilter_wf _ h.2.1, h.2.2⟩

theorem memory_wf_setWord (k : Nat) (v : Word) (h : Memory.wf b = true) : Memory.wf (b.setWord k v) = true := by
  rw [memory_wf_iff] at h ⊢
  exact ⟨h.1, h.2.1, cellsSet_wf k v h.2.2⟩

theorem memory_wf_set (f : Fld) (v : Nat) (h : Memory.wf b = true) : Memory.wf (b.set f v) = true := memory_wf_setWord b _ _ h

/-- Pixels written row by row keep the form of the bytes they are written into. -/
theorem writePixels_wf (f : Nat) (px : List (List Nat)) (a : Nat) (l : List Host.Cell)
    (h : cellsWf (fun _ => (0 : Byte)) l = true) : cellsWf (fun _ => (0 : Byte)) (writePixels f a px l) = true := by
  induction px generalizing a l with
  | nil => exact h
  | cons p r ih =>
    refine ih _ _ ?_
    generalize List.range (pixelBytes f p).length = is
    induction is generalizing l with
    | nil => exact h
    | cons i t ih2 => exact ih2 _ (cellsSet_wf (dflt := fun _ => (0 : Byte)) _ _ h)

/-- The memory after reset has the form. -/
theorem memory_wf_reset : Memory.wf State.reset.blk = true := by decide

end Sys2Proof.Machine
end

