-- ==== Sys2Proof/Laws/Regs.lean ====
section
/-!
SUPPORT. The register file: a word and a field read as written, every other word and every disjoint field as before, and
no register operation touches anything but the register file.
-/

namespace Sys2Proof.Machine

/-! ### Words -/

@[simp] theorem Block.word_setWord (b : Block) (k : Nat) (v : Word) : (b.setWord k v).word k = v := by
  simp [Block.word, Block.setWord]

theorem Block.word_setWord_other (b : Block) {k c : Nat} (v : Word) (h : c ≠ k) : (b.setWord k v).word c = b.word c := by
  simp [Block.word, Block.setWord, cellsGet_set_other _ _ _ _ h]

theorem Block.word_set_other (b : Block) {f : Fld} {c : Nat} (v : Nat) (h : c ≠ f.addr) : (b.set f v).word c = b.word c :=
  Block.word_setWord_other _ _ h

/-! ### Fields -/

/-- A field that lies in its word. -/
def Fld.ok (f : Fld) : Bool := decide (f.lo ≤ f.hi) && decide (f.hi < 32)

/-- A word as the bits above a field, the field, and the bits below it. -/
theorem fld_split (w lo n : Nat) : w = 2 ^ lo * (2 ^ n * (w / 2 ^ lo / 2 ^ n) + w / 2 ^ lo % 2 ^ n) + w % 2 ^ lo := by
  rw [Nat.div_add_mod, Nat.div_add_mod]

/-- The word with a field replaced, in the same form. -/
theorem Fld.into_eq (f : Fld) (w v : Nat) :
    f.into w v = 2 ^ f.lo * (2 ^ f.width * (w / 2 ^ f.lo / 2 ^ f.width) + v % 2 ^ f.width) + w % 2 ^ f.lo := by
  have h := fld_split w f.lo f.width
  have e : w - f.of w * 2 ^ f.lo = 2 ^ f.lo * (2 ^ f.width * (w / 2 ^ f.lo / 2 ^ f.width)) + w % 2 ^ f.lo := by
    unfold Fld.of
    generalize w / 2 ^ f.lo % 2 ^ f.width = m at *
    generalize 2 ^ f.width * (w / 2 ^ f.lo / 2 ^ f.width) = q at *
    rw [Nat.mul_add] at h
    rw [Nat.mul_comm m]
    omega
  rw [Fld.into, e, Nat.mul_add, Nat.mul_comm (v % 2 ^ f.width)]
  omega

@[simp] theorem Fld.of_into (f : Fld) (w v : Nat) : f.of (f.into w v) = v % 2 ^ f.width := by
  have h1 : w % 2 ^ f.lo < 2 ^ f.lo := Nat.mod_lt _ (Nat.two_pow_pos _)
  rw [Fld.of, Fld.into_eq, Nat.mul_add_div (Nat.two_pow_pos _), Nat.div_eq_of_lt h1, Nat.add_zero, Nat.mul_add_mod, Nat.mod_mod]

theorem Fld.testBit_into (f : Fld) (w v i : Nat) :
    (f.into w v).testBit i = if i < f.lo then w.testBit i else if i < f.lo + f.width then v.testBit (i - f.lo) else w.testBit i := by
  have h1 : w % 2 ^ f.lo < 2 ^ f.lo := Nat.mod_lt _ (Nat.two_pow_pos _)
  have h2 : v % 2 ^ f.width < 2 ^ f.width := Nat.mod_lt _ (Nat.two_pow_pos _)
  rw [Fld.into_eq, Nat.testBit_two_pow_mul_add _ h1]
  by_cases a : i < f.lo
  · simp [a, Nat.testBit_mod_two_pow]
  · rw [if_neg a, if_neg a, Nat.testBit_two_pow_mul_add _ h2]
    by_cases c : i < f.lo + f.width
    · have : i - f.lo < f.width := by omega
      simp [c, this, Nat.testBit_mod_two_pow]
    · have d : ¬ i - f.lo < f.width := by omega
      rw [if_neg d, if_neg c, Nat.testBit_div_two_pow, Nat.testBit_div_two_pow]
      congr 1
      omega

theorem Fld.testBit_of (f : Fld) (w i : Nat) : (f.of w).testBit i = (decide (i < f.width) && w.testBit (f.lo + i)) := by
  rw [Fld.of, Nat.testBit_mod_two_pow, Nat.testBit_div_two_pow, Nat.add_comm]

theorem Fld.into_lt (f : Fld) {w : Nat} (v : Nat) (h : f.ok = true) (hw : w < 2 ^ 32) : f.into w v < 2 ^ 32 := by
  have hk : f.lo ≤ f.hi ∧ f.hi < 32 := by simpa [Fld.ok] using h
  refine Nat.lt_pow_two_of_testBit _ fun i hi => ?_
  have h1 : ¬ i < f.lo := by omega
  have h2 : ¬ i < f.lo + f.width := by simp only [Fld.width]; omega
  rw [Fld.testBit_into, if_neg h1, if_neg h2]
  exact Nat.testBit_lt_two_pow (lt_of_lt_of_le hw (Nat.pow_le_pow_right (by decide) hi))

/-- The word that a field write stores. -/
theorem Block.word_set (b : Block) {f : Fld} (v : Nat) (h : f.ok = true) :
    ((b.set f v).word f.addr).toNat = f.into (b.word f.addr).toNat v := by
  rw [Block.set, Block.word_setWord, BitVec.toNat_ofNat, Nat.mod_eq_of_lt (Fld.into_lt f v h (b.word f.addr).isLt)]

/-- A field reads as written. -/
theorem Block.get_set (b : Block) {f : Fld} (v : Nat) (h : f.ok = true := by decide) : (b.set f v).get f = v % 2 ^ f.width := by
  rw [Block.get, Block.word_set b v h, Fld.of_into]

/-- A field of another register reads as before. -/
theorem Block.get_set_other (b : Block) {f g : Fld} (v : Nat) (h : g.addr ≠ f.addr) : (b.set f v).get g = b.get g := by
  rw [Block.get, Block.word_set_other b v h, Block.get]

/-- A disjoint field of the same register reads as before. -/
theorem Block.get_set_disjoint (b : Block) {f g : Fld} (v : Nat) (h : f.ok = true) (ha : g.addr = f.addr)
    (hd : g.hi < f.lo ∨ f.hi < g.lo) : (b.set f v).get g = b.get g := by
  have hk : f.lo ≤ f.hi ∧ f.hi < 32 := by simpa [Fld.ok] using h
  rw [Block.get, ha, Block.word_set b v h, Block.get, ha]
  refine Nat.eq_of_testBit_eq fun i => ?_
  rw [Fld.testBit_of, Fld.testBit_of, Fld.testBit_into]
  by_cases c : i < g.width
  · have hw : f.width = f.hi + 1 - f.lo := rfl
    have gw : g.width = g.hi + 1 - g.lo := rfl
    by_cases c1 : g.lo + i < f.lo
    · simp [c1]
    · have c2 : ¬ g.lo + i < f.lo + f.width := by omega
      simp [c1, c2]
  · simp [c]

end Sys2Proof.Machine
end

