-- ==== Sys2Proof/Tests/Slice0.lean ====
section
/-!
SUPPORT. Tests: ill-formed commands are refused, single steps on small states give what the spec says, and for every
statement with hypotheses a state and operands that meet them, clause by clause.
-/

set_option linter.unusedVariables false
set_option maxRecDepth 1000000
set_option Elab.async false

namespace Sys2Proof.Tests

open Sys2Proof.Machine

/-! ### Small states and commands -/

/-- A module that waits for its first feed. -/
def tOff : Block := { Block.reset with logic := .off }
/-- A block in which nothing has been written but some fields. -/
def tSet (b : Block) (l : List (Fld × Nat)) : Block := l.foldl (fun b x => b.set x.1 x.2) b
/-- The row of a register. -/
def tRow (a : Nat) : Row := (rowAt a).getD ⟨0, 1, 1, 1, 1, 0, 0, 0, 0, 0, 0, .plain⟩
/-- A write that gives no command. -/
def tNoExt : Ext := blankExt
/-- A chain of three slots with nodes 1, 2 and 3. -/
def tTopo : Topology := ⟨1, true, 1, 1, 0, 1, 3, [1, 2, 3], [], 0, 0, true⟩
/-- The bytes of that chain's TOPOLOGY section. -/
def tTopoBytes : List Byte :=
  leBytes 4 (2 ^ 31 + 1) ++ leBytes 4 1 ++ [1, 0, 1, 3] ++ leBytes 4 0 ++ leBytes 4 1 ++ leBytes 4 2 ++ leBytes 4 3
    ++ List.replicate 260 0
/-- A bit-stream of KIND `kind` from its sections: type, instance, offset, bytes. -/
def tFile (kind base : Nat) (l : List (Nat × Nat × Nat × List Byte)) : Image :=
  let dir (x : Nat × Nat × Nat × List Byte) : List Byte :=
    leBytes 2 x.1 ++ leBytes 2 x.2.1 ++ leBytes 4 x.2.2.1 ++ leBytes 4 x.2.2.2.length ++ leBytes 4 (crc32c x.2.2.2)
  let lay (acc : List Byte) (x : Nat × Nat × Nat × List Byte) : List Byte :=
    acc ++ List.replicate (x.2.2.1 - 64 - acc.length) 0 ++ x.2.2.2
  let rest := l.foldl lay (l.map dir).flatten
  let head := leBytes 4 0x42564C4F ++ leBytes 2 1 ++ leBytes 2 l.length ++ leBytes 4 0x9624 ++ leBytes 1 0 ++ leBytes 1 kind
    ++ leBytes 2 0 ++ leBytes 8 77 ++ leBytes 8 base ++ leBytes 4 0 ++ leBytes 4 (64 + rest.length) ++ List.replicate 20 0
  ⟨head ++ leBytes 4 (crc32c head) ++ rest, true⟩
/-- A bit-stream of a role that passes every check under `tKeyed`'s root. -/
def tImageOf (role : Byte) : Image :=
  tFile 0 0 [(1, 0, 128, role :: List.replicate 15 0), (2, 0, 192, tTopoBytes), (3, 0, 512, List.replicate 64 0),
    (0xFF, 0, 576, List.replicate 256 0)]
/-- One of role TILE. -/
def tImage : Image := tImageOf 1
/-- SHA-384 of 97 zero bytes, the PUBKEY of these bit-streams. -/
def tRoot : List Byte :=
  [42, 224, 133, 44, 27, 212, 23, 71, 180, 193, 236, 89, 175, 102, 188, 244, 218, 7, 136, 122, 254, 5, 133, 225,
   48, 197, 235, 178, 192, 188, 207, 116, 42, 44, 12, 16, 248, 153, 94, 80, 86, 166, 234, 43, 157, 159, 145, 10]
/-- Fuses whose slot 0 trusts that key. -/
def tKeyed (b : Block) : Block := { b with fuses := { b.fuses with rootHash := [tRoot] } }
/-- The state after a message has been accepted. -/
def tTaken (b : Block) (rx : Rx) : Block := match b.receive rx with | .accepted c => c | _ => b
/-- A message from the module itself. -/
def tRx (type : Nat) (response : Bool) (len src seq : Nat) (body : Body) : Rx :=
  ⟨.loopback, true, len, ⟨type, response, false, true, len, 0, src, seq, body⟩⟩
/-- A block whose target has the dynamic address 9. -/
def tDa : Block := tSet Block.reset [(F.HIF_I3C_STATUS_DA_VALID, 1), (F.HIF_I3C_STATUS_DA, 9)]
/-- A block with an event bit set and enabled, and IBIs allowed. -/
def tIbi : Block :=
  { tSet tDa [(F.HIF_I3C_STATUS_IBI_ENABLED, 1), (F.HIF_CTRL_IBI_EN, 1), (F.SYS_IRQ_STATUS_WDT_WARN, 1), (F.SYS_IRQ_EN_WDT_WARN, 1),
    (F.HIF_IBI_EN_LO, 1)] with i3c := { Block.reset.i3c with ibiPending := true } }

/-- A block with a ring pool of 1 MiB. -/
def tPool : Block := tSet Block.reset [(F.HIF_RING_POOL_SIZE_MIB, 1), (F.HIF_RING_POOL_LO_BASE, 2 ^ 25), (F.HIF_RING_CTRL_IDLE_S, 1),
  (F.HIF_CTRL_FORWARD_EN, 1)]
/-- A tile at slot 1 of that chain, both sessions up. -/
def tChain : Block :=
  { tSet tPool [(F.SYS_ROLE_ROLE, 1), (F.CFG_BOOT_STATUS_STAGE, 7), (F.LNK_CHAIN_STATUS_SLOT, 1), (F.LNK_CHAIN_STATUS_SLOT_VALID, 1),
      (F.HIF_NODE_ID_NODE, 2), (F.LNKn_STATUS_SESSION_UP 0, 1), (F.LNKn_STATUS_SESSION_UP 1, 1), (F.LNKn_STATUS_UP 0, 1), (F.LNKn_STATUS_UP 1, 1), (F.HIF_NOTIFY_NODE_NODE, 3)] with
    cfg := { tPool.cfg with topo := some tTopo } }
def tFwd : Rx := ⟨.lnk 0, true, 33, ⟨1, false, false, true, 33, 3, 1, 9, .raw [1]⟩⟩
/-- Ring 7 holds a message. -/
def tMsg : Msg := ⟨0x40, false, false, true, 33, 0, 7, 9, .raw [1]⟩
def tRing : Block := tTaken tPool (tRx 0x40 false 33 7 8 (.raw [1])) |>.queueIn 7 tMsg
/-- The state after a message for another node has passed the checks of its way. -/
def tTaken2 (b : Block) (rx : Rx) : Block := match b.letIn rx with | .accepted c => c | _ => b
/-- A read of one register. -/
def tReg : Rx := tRx 1 false 44 7 9 (.regAccess 1 0 0 [(0x30, 0)])
/-- An export window of 4 KiB, and a FETCH in it. -/
def tExp : Block := tSet tPool [(F.HIF_EXPORT_BASE_LO, 2 ^ 26), (F.HIF_EXPORT_SIZE, 4096)]
def tFetch : Rx := tRx 3 false 44 7 9 (.fetch (2 ^ 26) 8 0)
/-- Channel 7 may write four bytes; the same with its only chunk outstanding, and the answer to it. -/
def tDma : Block := tSet tPool [(F.HIF_DMAn_DST_LO 7, 2 ^ 27), (F.HIF_DMAn_LEN 7, 4)]
def tDmaRun : Block := (tSet tDma [(F.HIF_DMAn_STATUS_STATE 7, 1), (F.HIF_DMAn_SRC_NODE_NODE 7, 3)]).setChannel 7 ⟨1, 1, [⟨0, 5, 0, 100⟩]⟩
def tData : Rx := tRx 4 true 52 3 5 (.data 0 4 0 [1, 2, 3, 4])
/-- A NOTIFY that is due. -/
def tNtf : Block := { tChain with hif := { tChain.hif with notifyPending := true } }
/-- A request to node 7 that awaits its response. -/
def tReq : Block := { tPool with hif := { tPool.hif with requests := [⟨7, 9, 0, []⟩] } }
def tResp : Rx := tRx 1 true 33 7 9 (.raw [1])

/-- A lane's sweeps with 128 passing steps, a channel's attempt of them, and one without any. -/
def tSweep : Nat × Nat := (2 ^ 128 - 1, 2 ^ 128 - 1)
def tGood : List (Nat × Nat) := [tSweep, tSweep, tSweep, tSweep]
def tMem : Block := tSet Block.reset [(F.CFG_BOOT_STATUS_STAGE, 1)]
/-- A block in stage SLOT with image A or nothing in its slots. -/
def tSlots (l : List Nat) (i : Option Image) : Block :=
  let b := tSet Block.reset [(F.CFG_BOOT_STATUS_STAGE, 2)]
  { b with cfg := { b.cfg with slotsLeft := l }, upd := { b.upd with slots := [i, none, none] } } |> tKeyed
/-- The same for role HEAD. -/
def tHeadImage : Image := tImageOf 2
def tLoad : Block := tSet (tSlots [0] (some tHeadImage)) [(F.CFG_BOOT_STATUS_STAGE, 3)]
def tLoaded : Block := ((tLoad.loadRegisters tHeadImage 1).loadTables tHeadImage (fun _ => 0)).2
/-- Lanes 8 to 11 are UP, the slot is known. -/
def tRole : Block :=
  let b := tSet Block.reset ([8, 9, 10, 11].map (fun k => (F.SRDk_STATUS_STATE k, laneUp)) ++ [(F.CFG_BOOT_STATUS_STAGE, 4), (F.LNK_CHAIN_STATUS_SLOT_VALID, 1)])
  { b with cfg := { b.cfg with topo := some tTopo } }
def tRef : Block := { Block.reset with clocks := { Block.reset.clocks with refMet := true } }
def tBusy (t : Nat) : Block := tSet Block.reset [(F.BST_STATUS_BUSY, 1), (F.BST_STATUS_TEST, t), (F.BST_DRAM_LEN_MIB, 1)]

/-- The four lanes of a port in a state. -/
def tPort (b : Block) (p st : Nat) : Block := tSet b ((portLanes p).map (fun k => (F.SRDk_STATUS_STATE k, st)))
def tPortUp (p : Nat) : Block := tSet (tPort Block.reset p laneUp) [(F.SRD_STATUS_LANE_UP, 15 * 16 ^ p), (F.SRD_STATUS_PLL_LOCK, 15)]
/-- Four lanes that are ready, as the partner is. -/
def tShown : Block :=
  let b := tPort Block.reset 3 laneReady
  { b with srd := { b.srd with lanes := b.srd.lanes.map (fun l => { l with partnerReady := true }) } }
/-- A port whose attempt has failed. -/
def tFailed : Block := let b := tPort Block.reset 3 laneAlign; { b with srd := { b.srd with ports := b.srd.ports.set 3 ⟨5, some 9⟩ } }
/-- A lane whose eye has been low since 7. -/
def tLow : Block :=
  let b := tPortUp 3
  { b with srd := { b.srd with lanes := b.srd.lanes.modify 15 (fun l => { l with lowSince := some 7 }) } }
def tBlk (inverted : Bool) : TrainBlock := { inverted := inverted, crcOk := true, lane := 3, phase := 4, seq := 65535, count := 0, txReq := some 7, txAck := 5, eye := 0 }

/-- A block whose DRAM is trained. -/
def tDrm : Block := tSet Block.reset [(F.DRM_STATUS_TRAINED, 15)]
/-- A channel of it that leaves a power state. -/
def tExiting (c st : Nat) : Block :=
  let b := tSet tDrm [(F.DRM_CHc_STATUS_PSTATE c, st)]
  { b with drm := { b.drm with exiting := b.drm.exiting.set c true } }

/-- A head whose audio stream 3 is latched: EN, both paths, L24, four channels, payload type 98, group 0xE0000001, port 5004, buffer at 2^30. -/
def tAud : Block :=
  let b := tSet Block.reset [(F.SYS_ROLE_ROLE, 2), (F.CFG_BOOT_STATUS_STAGE, 7), (F.PTP_STATUS_TIME_VALID, 1), (F.AUDp_STR_CTRL_EN 3, 1), (F.AUDp_STR_CTRL_PATH_A 3, 1),
    (F.AUDp_STR_CTRL_PATH_B 3, 1), (F.AUDp_STR_CTRL_L24 3, 1), (F.AUDp_STR_CTRL_CH_M1 3, 3), (F.AUDp_STR_CTRL_PT 3, 98),
    (F.AUDp_STR_PORTS_UDP_A 3, 5004), (F.AUDp_GRP_Aw 3 0, 0xE0000001), (F.AUDp_BUF_BASE_LO 3, 2 ^ 30)]
  { b with aud := { b.aud with ports := b.aud.ports.modify 3 (fun q => { q with cfg := b.regs }) } }
def tPacket (pt : Nat) : AudioPacket :=
  ⟨⟨0, false, 0xE0000001, 1, 5004⟩, pt, 48000, 1000000000, [1, 2, 3, 4, 5, 6, 0xFF, 0xFF, 0xFF, 0x80, 0, 0]⟩
/-- Path A of stream 3 has been heard at 7. -/
def tHeard : Block :=
  let b := tSet tAud [(F.AUDp_STATUS_PATH_A_UP 3, 1), (F.AUDp_STATUS_RECEIVING 3, 1)]
  { b with aud := { b.aud with streams := b.aud.streams.modify 3 (fun q => { q with heard := [some 7, none] }) } }
/-- Output port 3 runs. -/
def tPlay : Block := tSet tAud [(F.AUD_STATUS_RUNNING, 8)]
def tMember : Member := ⟨3, 1, false, 0xE0000001, some 9⟩
def tJoined : Block := { tSet Block.reset [(F.ETHn_CTRL_EN 1, 1), (F.ETHn_STATUS_LINK 1, 1)] with
  ing := { Block.reset.ing with members := [tMember], reports := [⟨tMember, true, 2, 55⟩] } }

/-- Two feeds in their states, in failover. -/
def tFeeds (a c mode : Nat) : Block :=
  let inR (s : Nat) : Nat := if s = feedReady ∨ s = feedConv then 1 else 0
  let conv (s : Nat) : Nat := if s = feedConv then 1 else 0
  let b := tSet Block.reset [(F.PWR_FEEDx_STATUS_STATE 0, a), (F.PWR_FEEDx_STATUS_STATE 1, c),
    (F.PWR_STATUS_IN_RANGE, inR a + 2 * inR c), (F.PWR_STATUS_CONVERTING, conv a + 2 * conv c), (F.PWR_FEED_CTRL_REVERT.act, 1)]
  { b with pwr := { b.pwr with mode := mode } }
/-- A head that plans the energy of its chain, with its next frame fixed. -/
def tPlanner : Block :=
  let b := tSet Block.reset [(F.SYS_ROLE_ROLE, 2), (F.PWR_PLAN_EN.act, 1), ((F.PWR_PEERi_EN 63).act, 1), ((F.PWR_PEERi_NODE 63).act, 9)]
  { b with frm := { b.frm with next := some { b.frm.cur with wfn := 5 } }, cfg := { b.cfg with topo := some tTopo } }
def tEnergy : Rx := ⟨.loopback, true, 64, ⟨0x20, false, false, true, 64, 0, 9, 3, .chainEnergy ⟨6, 1, 77, false, false, 5, 0, 0, 0, 0x7000⟩⟩⟩

/-- A block in RUN with calibration enabled; the same with a cycle, and with the step of target 97 begun at 0. -/
def tCal : Block := tSet Block.reset [(F.CFG_BOOT_STATUS_STAGE, 7), (F.CAL_CTRL_EN, 1), (F.CAL_CTRL_INTERVAL_S, 1)]
def tCycle : Block := tSet tCal [(F.CAL_STATUS_CYCLE, 1)]
def tStep (t : Nat) : Block :=
  let b := tSet tCal [(F.CAL_STATUS_TARGET, t), (F.CAL_STATUS_CYCLE, 1)]
  { b with cal := { b.cal with step := some 0, due := [1, 2] }, frm := { b.frm with next := some { b.frm.cur with own := 65536 * 2000000000 } } }
/-- A module with a role whose next frame starts in 2 s. -/
def tGuard : Block :=
  { tSet (tStep 255) [(F.SYS_ROLE_ROLE, 1)] with cal := tCal.cal }
def tOpen : Block :=
  let b := tSet (tStep 255) [(F.CAL_STATUS_REF_OK, 1)]
  { b with cal := { b.cal with step := none, due := [0, 1], later := [0] } }
def tSaving : Block := { tCal with cal := { tCal.cal with saving := some (1, tCal.calImage 1), copies := [tCal.calImage 0, tCal.calImage 0] } }

/-- A tile in RUN in a power state; the same about to end an entry, and asleep. -/
def tPm (st : Nat) : Block := tSet Block.reset [(F.SYS_ROLE_ROLE, 1), (F.CFG_BOOT_STATUS_STAGE, 7), (F.PM_STATUS_STATE, st)]
def tEntry (st : Nat) : Block := { tPm pmEntering with pm := { (tPm pmEntering).pm with gate := true, entering := some st } }
def tSleep (st : Nat) : Block :=
  let b := tSet (tPm st) [(F.PM_WAKE_EN_EN, 0x1FF), (F.PM_WAKE_TIMER_S, 1)]
  { b with pm := { b.pm with gate := true, islandsOff := true, wakes := 0x101 } }

/-- An image in a state, with staging of its own and words 0 of a block in the I3C path's box. -/
def tHdr : UpdHeader := ⟨1, 0, 3, 77, 0, 2 ^ 16, List.replicate 256 0⟩
def tUpd (st : Nat) (role : Nat) : Block :=
  let b := tSet Block.reset [(F.UPD_STAGE_BASE_LO_BASE, 2 ^ 28), (F.UPD_STATUS_STATE, st), (F.SYS_ROLE_ROLE, role),
    (F.CFG_BOOT_STATUS_STAGE, 7), (F.CFG_BOOT_STATUS_SLOT, 1), (F.UPD_ACT_WFN_LO, 5), (F.UPD_CTRL_AUTO_CONFIRM, 1),
    ((F.UPD_BLK_OFFSET_OFFSET.on .i3c), 4096), ((F.CFG_COMMIT_TXN_TXN.on .i3c), 0xABCD)]
  { b with upd := { b.upd with head := some tHdr, body := some tImage, target := 1, got := [0], runFrom := some 7, boxes := [List.replicate 1024 5, [], [], []] } }
/-- A boot record whose slot A is a trial. -/
def tTrial (role : Nat) : Block :=
  let b := tUpd 0 role
  { b with upd := { b.upd with recs := [⟨true, 1, 3, 4, [⟨77, 9, 2, 0, 0⟩, ⟨76, 1, 3, 0, 0⟩, ⟨0, 0, 0, 0, 0⟩], 0, 1⟩,
      ⟨true, 1, 3, 3, [⟨0, 0, 0, 0, 0⟩, ⟨76, 1, 3, 0, 0⟩, ⟨0, 0, 0, 0, 0⟩], 0, 0xFF⟩] } }
/-- A bit-stream in staging whose hash its header names, and a body of four bytes whose hash is another. -/
def tHdr2 : UpdHeader := ⟨1, 0, 3, 77, 0, tImage.bytes.length, List.replicate 32 0 ++ sha384 tImage.bytes ++ List.replicate 176 0⟩
def tStaged2 : Block :=
  let b := (tKeyed (tUpd 3 1)).writeDram (2 ^ 28 + 512) tImage.bytes
  { b with upd := { b.upd with head := some tHdr2 } }
def tHdr3 : UpdHeader := { tHdr2 with bodyLen := 4 }
def tSmall : Block := { tUpd 3 1 with upd := { (tUpd 3 1).upd with head := some tHdr3 } }
/-- A block of that image as a message, and a header of 516 bytes in staging. -/
def tBlkMsg : Rx := tRx 0x2A false 4144 7 9 (.updBlock 0 4096 0 77 (List.replicate 4096 1))
def tFltHead : List Byte :=
  let h := leBytes 4 0x55564C4F ++ leBytes 2 1 ++ leBytes 1 1 ++ leBytes 1 3 ++ leBytes 4 0x9624 ++ leBytes 4 0 ++ leBytes 8 77
    ++ leBytes 4 0 ++ leBytes 4 4 ++ List.replicate 476 0
  h ++ leBytes 4 (crc32c h)
def tImport : Block := (tSet (tKeyed (tUpd 7 1)) [(F.UPD_IMPORT_LEN_BYTES, 516)]).writeDram (2 ^ 28) tFltHead
/-- A module with a wall key that takes messages over UDP, with a HELLO of its own outstanding. -/
def tUdp : Block :=
  let b := tSet Block.reset [(F.HIF_CTRL_UDP_EN, 1), (F.SEC_STATUS_WALL_KEY, 1), (F.SEC_WALL_VER, 4)]
  { b with hif := { b.hif with hellos := [⟨5, 99, 2, 1000⟩] } }
def tHello : Rx := { tRx 0x28 false 64 5 0 (.hello 99 4) with via := .udp 0 ⟨false, 1, 1⟩ }
def tAccept : Rx := { tRx 0x29 false 80 5 0 (.accept 99 98 3 4) with via := .udp 0 ⟨false, 1, 1⟩ }
/-- A fault log with an entry in flash and one queued. -/
def tEnt (n : Nat) : FltEntry := ⟨n, 0x3010, false, true, 0x17, 5, 6, 7, 8⟩
def tFlt (ready stage : Nat) : Block :=
  let b := tSet Block.reset [(F.FLT_STATUS_READY, ready), (F.CFG_BOOT_STATUS_STAGE, stage), (F.FLT_EXPORT_BASE_LO_BASE, 2 ^ 28)]
  { b with flt := { b.flt with log := [⟨0, tEnt 3, true⟩], nextSeq := 4, used := 1, clears := 2 } }
def tFltQ : Block := { tFlt 1 7 with flt := { (tFlt 1 7).flt with queue := [tEnt 0] } }
def tFltC : Block := { tFlt 1 7 with flt := { (tFlt 1 7).flt with heading := true } }

/-- A tile in RUN at frame 5 with a commit's registers on the I3C path, and stages of group 8. -/
def tCom (role : Nat) (l : List (Fld × Nat)) : Block := tSet Block.reset ([(F.SYS_ROLE_ROLE, role), (F.CFG_BOOT_STATUS_STAGE, 7),
  (F.FRM_WFN_LO, 5), (F.CFG_COMMIT_TXN_TXN.on .i3c, 9), (F.CFG_COMMIT_TARGET_LO.on .i3c, 8), (F.CFG_PR_TARGET_LO, 8)] ++ l)
def tStaged (l : List Stage) : Block := { tCom 1 [] with cfg := { (tCom 1 []).cfg with stages := l } }
/-- A partial that sets a register without a shadow, and what the host sees of it. -/
def tPart : Image :=
  tFile 1 0 [(4, 0, 128, leBytes 4 R.HIF_CTRL ++ leBytes 4 1), (0xFF, 0, 192, List.replicate 256 0)]
/-- One at CFG_PR_SRC that sets a register of group 8. -/
def tPartBytes : List Byte := (tFile 1 0 [(4, 0, 128, leBytes 4 R.PWR_FEED_CTRL ++ leBytes 4 1), (0xFF, 0, 192, List.replicate 256 0)]).bytes
def tSrc (b : Block) (bs : List Byte) : Block :=
  (tSet b [(F.CFG_PR_SRC_LO, 2 ^ 28), (F.CFG_PR_LEN, bs.length)]).writeDram (2 ^ 28) bs
def tPr (st : Nat) (i : Image) : Block :=
  { tKeyed (tCom 1 [(F.CFG_PR_STATUS_STATE, st)]) with cfg := { (tCom 1 []).cfg with part := ⟨some i, none, 3⟩ } }
def tPrC : Block :=
  (((tPr 1 tPart).dramUse 5 0 tPart.totalLen).untilClk (3 + 9)).copyPartial tPart
def tTxn : Block := tStaged [⟨8, [], none, some 9⟩, ⟨9, [], some 7, some 9⟩]
def tArmMsg : Rx := tRx 0x18 false 44 7 9 (.txn 9 false false 0 8)

/-- A plan of frame `n`, and modules with that plan fixed. -/
def tPlan (n : Nat) : Plan := Block.reset.planAt n 6553600000000 1092266666667
def tFrm (role : Nat) (l : List (Fld × Nat)) (next : Option Plan) : Block :=
  let b := tSet Block.reset ([(F.SYS_ROLE_ROLE, role), (F.CFG_BOOT_STATUS_STAGE, 7), (F.FRM_WFN_LO, 5), (F.PTP_STATUS_TIME_VALID, 1), (F.LNKn_STATUS_UP 0, 1), (F.LNKn_STATUS_SESSION_UP 0, 1), (F.HIF_NODE_ID_NODE, 2)] ++ l)
  { b with frm := { b.frm with cur := { tPlan 5 with fs := 5000000000000, own := 5000000000000 }, next := next, grid := true, pPrev := 1092266666667, pRef := 1092266666667 }, cfg := { b.cfg with topo := some tTopo } }
/-- The topology of a standalone head with node 4. -/
def tHeadTopo : Topology := { tTopo with slotNode := [2, 4, 3] }
/-- A message from a head of the chain. -/
def tFromHead (type : Nat) (len : Nat) (src : Nat) (body : Body) : Rx := ⟨.lnk 0, true, len, ⟨type, false, false, true, len, nodeAll, src, 9, body⟩⟩
def tSettle : Settle := ⟨5, 1, false, 9, 65536, 100⟩
/-- The plan a tile hears, and the header. -/
def tHears : FramePlan := ⟨6, 5000000000000 / 65536 + 16666666, 0, 0, 0, false, true, false, false⟩
def tHears7 : FramePlan := ⟨7, 6553600000000 / 65536 + 16666666, 0, 0, 0, false, true, false, false⟩
def tAhead : Block := tFrm 1 [(F.FRM_STATUS_STATE, 6)] (some (tPlan 6))
def tHeader (n : Nat) : FrameHeader := ⟨n, 0, 0, 65535, 2 ^ 64 - 1, 3, false, false, false, 0, [], 0⟩

/-- Domain A on both ports, followed by a master; an Announce and a Sync from it. -/
def tPtp (l : List (Fld × Nat)) (ms : List Master) : Block :=
  let b := tSet Block.reset ([((F.PTP_DOMd_CFG_EN 0).act, 1), ((F.PTP_DOMd_CFG_EN 1).act, 0), ((F.PTP_DOMd_CFG_PORTS 0).act, 3), (F.PTP_DOMd_STATUS_STATE 0, 1)] ++ l)
  { b with ptp := { b.ptp with masters := [ms, [], []], cleanSince := some 5, diffSince := some 5, linkSeq := 4, stepped := true } }
def tMaster : Master := { Master.new 1 77 5 with delay := some 100, annDue := 9, syncDue := 8 }
def tAnnounce : PtpMsg := ⟨1, (tPtp [] []).act (F.PTP_DOMd_CFG_DOMAIN 0), (tPtp [] []).act (F.PTP_DOMd_CFG_TRANSPORT 0), 77, 1000, .announce [1] 5 6 1000⟩
def tSync : PtpMsg := { tAnnounce with kind := .sync 3 false 2000 125 }
/-- A chain key. -/
def tKey : SecKey := ⟨1, List.replicate 32 7⟩
/-- Lysrov port 0 and 1 of a module up; a LINK_ID on port 0 or 1 of the neighbour. -/
def tLink (role up : Nat) (l : List (Fld × Nat)) : Block :=
  let b := tSet Block.reset ([8, 9, 10, 11, 12, 13, 14, 15].map (fun k => (F.SRDk_STATUS_STATE k, laneUp)) ++ [(F.SYS_ROLE_ROLE, role), (F.CFG_BOOT_STATUS_STAGE, 7), (F.LNKn_STATUS_UP 0, up), (F.LNKn_STATUS_UP 1, up), (F.LNKn_CTRL_EN 0, 1), (F.LNKn_CTRL_EN 1, 1)] ++ l)
  let q : LnkPort := ⟨some 5, some 6, some (8, 9), true, none, false, [], [], false, 0⟩
  { b with lnk := { b.lnk with ports := [q, q] }, upd.keys := [some tKey, none, none, none] }
/-- The same with port 1 offering slot 5. -/
def tOffer : Block :=
  let b := tLink 1 1 []
  { b with lnk := { b.lnk with ports := b.lnk.ports.modify 1 (fun q => { q with offered := some 5 }) }, cfg := { b.cfg with topo := some tTopo } }
def tId : LinkId := ⟨3, 10, 0, 0xFF, 1, 0, 0, 7, 0, none⟩
def tFrond : Frond := ⟨3, 0, 16, 9, 0, 0, 65535, 0, 1, List.replicate 256 0, true, true⟩
/-- A head of that chain with a duty, and one in SYNCED. -/
def tHead (duty : Nat) (l : List (Fld × Nat)) : Block :=
  let b := tSet Block.reset ([(F.SYS_ROLE_ROLE, 2), (F.CFG_BOOT_STATUS_STAGE, 7), (F.LNK_CHAIN_STATUS_DUTY, duty), (F.HIF_NODE_ID_NODE, 1), (F.LNKn_STATUS_UP 1, 1), (F.LNKn_STATUS_SESSION_UP 1, 1), (F.LNK_CHAIN_CTRL_TAKEOVER_EN, 1), (F.LNK_CHAIN_STATUS_SLOT_VALID, 1), (F.LNK_SPORE_BASE_LO.act, 2 ^ 28)] ++ l)
  { b with cfg := { b.cfg with topo := some tTopo }, lnk := { b.lnk with sameDigests := 1, aliveDue := 6, digestAt := (5, 77) }, cmp := { b.cmp with comp := some 6 } }
def tMsgOf (type len src : Nat) (body : Body) : Rx := ⟨.lnk 1, true, len, ⟨type, false, false, true, len, nodeAll, src, 9, body⟩⟩
def tAlive (e : Nat) : Rx := tMsgOf 0x15 48 3 (.headAlive ⟨e, false, false, false, 0, 0, 7⟩)
def tShows (n d : Nat) (split : Bool) : HeadState := ⟨n, 0, d, 0, 0, 1, split, [⟨3, 1, 0, 7⟩], 63, 0, 0⟩
def tStateOf (h : HeadState) : Rx := tMsgOf 0x13 144 3 (.headState h)
/-- An active head whose ring for its standby is populated. -/
def tRinged : Block := ((tHead dutyActive []).populate 3).getD Block.reset
def tDemote : Rx := tMsgOf 0x16 44 3 (.demote 5 3 0)
def tBrk : Rx := tMsgOf 0x17 44 2 (.brk 2 1 1 false 5)
def tHand (w : Nat) : Rx := tMsgOf 0x1A 44 3 (.handover 0 w)
def tSporeOf : Spore := ⟨5, 0, 0, 7, 1, 1, 3, 0, 4, 5, 4, 6, 7, 8, []⟩
def tSpore : Rx := tMsgOf 0x11 96 2 (.spore tSporeOf)

/-- A running head with some fields set, and one whose Ethernet port 0 is up. -/
def tHd (l : List (Fld × Nat)) : Block := tSet Block.reset ([(F.SYS_ROLE_ROLE, 2), (F.CFG_BOOT_STATUS_STAGE, 7)] ++ l)
def tEth (l : List (Fld × Nat)) : Block := tHd ([(F.ETHn_CTRL_EN 0, 1), (F.ETHn_STATUS_LINK 0, 1), (F.ETHn_MAX_FRAME_BYTES 0, 1522)] ++ l)
def tEthPort (b : Block) (q : EthPort) : Block := { b with eth := [q, Block.reset.ethPort 1] }
def tQ : EthPort := Block.reset.ethPort 0
def tPtpFrame : List Byte := List.replicate 12 0 ++ [0x88, 0xF7] ++ List.replicate 50 0
def tTx : TxFrame := ⟨0, 3, 100, .handed 0 .ptp⟩
def tHop (r : Bool) : Hop := ⟨false, 9, r, 77, [tTx]⟩
/-- Stream 2 on path A, and a packet for it. -/
def tIng (l : List (Fld × Nat)) (q : IngStream) : Block :=
  let b := tHd ([((F.ING_STRs_CTRL_EN 2).act, 1), ((F.ING_STRs_CTRL_PATH_A 2).act, 1), ((F.ING_STRs_CTRL_PT 2).act, 96), ((F.ING_STRs_GRP_Aw 2 0).act, 7), ((F.ING_STRs_PORTS_UDP_A 2).act, 50)] ++ l)
  { b with ing := { b.ing with streams := b.ing.streams.set 2 q } }
def tStr : IngStream := { Block.reset.stream 2 with next := some 12 }
def tVid (seq pt : Nat) : VideoPacket := ⟨⟨0, false, 7, 3, 50⟩, pt, false, seq, 1000, 0, [], true⟩
def tFill (buf : Option Nat) : Filling := ⟨1000, buf, 10, 10, 96, 0, [], [], [], [], 0, some 99⟩
def tSurf : Surf := { Surf.free 4096 8192 with w := 1920, h := 1080 }
/-- Composition 6 in a state. -/
def tCmpSet : CmpSet := ⟨6, 0, 0, [], [], 1, [], none⟩
def tCmp (st : Nat) (l : List (Fld × Nat)) : Block :=
  let b := tHd ([(F.CMP_STATUS_STATE, st)] ++ l)
  { b with cmp := { b.cmp with comp := some 6, set := some tCmpSet }, frm := { b.frm with cur := { b.frm.cur with fs := 5000000000000 * 65536 } } }
def tWaits : Block :=
  let l := (tSet Block.reset [((F.CMP_LAYERn_CTRL_EN 0).act, 1), ((F.CMP_LAYERn_DST_WH_W 0).act, 64), ((F.CMP_LAYERn_DST_WH_H 0).act, 64), (F.CMP_CANVAS_W.act, 64), (F.CMP_CANVAS_H.act, 64)]).regs
  let b := tCmp 1 []
  { b with cmp := { b.cmp with set := some { tCmpSet with regs := l }, layers := [⟨0, none, false, false⟩] } }
def tMissing : Block :=
  let b := { tWaits with cmp := { tWaits.cmp with layers := [⟨0, some (.fixed tSurf), false, false⟩] } }
  tSet b [(F.CMP_STATUS_STATE, 2)]
def tTaken0 : Nat × Layer × Surf := (0, layerOf tMissing.cset 0, tSurf)
def tLast : Block := tCmp 2 [(F.CMP_STATUS_BAND, 127)]
def tCopy : Block :=
  let b := tHd []
  { b with rpl := b.rpl.set 3 { b.rplChan 3 with region := [65536, 4, 4096, 0, 0], copy := some ⟨1, { tSurf with id := 5 }, none, 44⟩ } }

/-- A tile in which string 2 has one driver and its return, with the wire in a state. -/
def tWire (l : List (Fld × Nat)) (q : Strand) : Block :=
  let b := tSet Block.reset ([(F.SYS_ROLE_ROLE, 1), (F.CFG_BOOT_STATUS_STAGE, 7), ((F.STR_STRn_CFG_DRIVERS 2).act, 1), ((F.STR_STRn_CFG_RET_EN 2).act, 1), ((F.STR_STRn_CHMASK_LO_MASK 2).act, 7), (F.STR_COMMON_CTRL_DIAG_EN.act, 1), ((F.STR_STRn_RAIL_FIXED_MV 2).act, 5000), ((F.STR_STRn_RAIL_LIM_MAX_MV 2).act, 6000)] ++ l)
  { b with str := { b.str with strings := b.str.strings.set 2 q, loading := none }, frm := { b.frm with next := some (Block.reset.planAt 6 6553600000000 1092266666667) } }
def tCyc (c : Cycle) : Strand := { Strand.reset with cycle := c, until' := 4000 }
def tTight : Block := let b := tWire [(F.STR_COMMON_CTRL_PROBE_EN.act, 0)] (tCyc .load)
  { b with frm := { b.frm with next := some (Block.reset.planAt 6 65536 1092266666667) } }
def tRep (crc : Bool) : Report := ⟨0, 0, 50, 0, 3, 2, 0, crc⟩
def tBack : Strand := { tCyc .collect with collectAt := some 5000 }
def tIn (st : Nat) (l : List (Fld × Nat)) (q : Strand) : Block := tWire ([(F.STR_STRn_STATUS_STATE 2, st)] ++ l) q
/-- A map of 8 by 16 pixels without lamps, in DRAM at 2^20; 4119866669 is the CRC of its 384 entries of 0. -/
def tMap (w crc : Nat) : Block :=
  let b := tSet (tWire [] Strand.reset) [(F.COR_LOAD_SRC_LO_ADDR, 2 ^ 20), (F.COR_LOAD_LEN_BYTES, 16), (F.CFG_PR_STATUS_STATE, 0)]
  { b with dram := ((leBytes 2 w ++ leBytes 2 16 ++ leBytes 4 384 ++ leBytes 4 crc).zipIdx.map (fun x => (2 ^ 20 + x.2, x.1))).filter (fun x => x.2 != 0) }
def tBusyLoad (w crc : Nat) : Block := let b := tMap w crc
  { b with scn := { b.scn with load := some 0x2000 } }
/-- A tile in slot 3, and a frond for it of one band of 8 pixels. -/
def tSlot : Block := let b := tSet (tWire [] Strand.reset) [(F.LNKn_STATUS_UP 1, 1), (F.LNK_CHAIN_STATUS_SLOT_VALID, 1), (F.LNK_CHAIN_STATUS_SLOT, 3), (F.SCN_SLOT_SIZE_W.act, 8), (F.SCN_SLOT_SIZE_H.act, 32)]
  { b with scn := { b.scn with early := [0] } }
def tMasked : Block := { tSlot with lnk := { tSlot.lnk with headers := [⟨6, 0, 0, 0, 0, 0, false, false, false, 0, [], 0⟩] } }
def tBand (w wfn : Nat) (ok : Bool) : Frond := ⟨3, 1, w, wfn, 0, 0, 65535, tSlot.chainId, 1, List.replicate 127 0 ++ [2 ^ 40 + 1], ok, true⟩

/-- A training block. -/
def tBlock : TrainBlock := ⟨false, true, 0, 0, 0, none, 0, 0, 0⟩

/-! ### Ill-formed commands -/

/-- Each of these commands names something the module does not have. -/
theorem test_illformed_1 :
    ([.logicPowerOn 2 false, .porRelease 16, .i3cWrite 128 [] false tNoExt, .i3cWriteFixed 128 [] false tNoExt,
    .i3cSetRead 128 [] false tNoExt, .i3cSetReadFixed 128 [] false tNoExt, .i3cPrivateRead 128 [] false,
    .entdaa false 128, .setdasa 128 0, .setdasa 0 128, .setnewda 128 0, .setnewda 0 128, .setmwl none 65536,
    .setmrl none 65536, .getmwl 128, .getmrl 128, .getpid 128, .getbcr 128, .getdcr 128, .getstatus 128,
    .getmxds 128, .hifDmaStart .i3c 8 0, .hifDmaAbort .i3c 8 0, .dmaChunkTimeout 8 0, .dramTrainingComplete [] 0,
    .refclkBootTimeout 4, .syncOutPulse 2 false 0, .refclkLoss 4, .ptpSourceLoss 3, .ptpDelayReqSend ⟨2, false⟩,
    .linkTimeSend 2, .linkTimeMessage 2 0 (.sync 0)] : List Instr).all (fun c => !c.wf) = true := by decide

/-- Each of these commands names something the module does not have. -/
theorem test_illformed_2 :
    ([.ethPortEnable .i3c 2 0, .ethPortDisable .i3c 2 0, .ethLinkUp 2 0 false, .ethLinkUp 0 4 false,
    .ethLinkDown 2 0 false false, .ethLinkDown 0 4 false false, .ethFrameReceive 2 0 [] false 0 0 0,
    .ethFrameReceive 0 4 [] false 0 0 0, .pauseFrame 2 0 0, .pauseFrame 0 4 0, .pauseFrame 0 0 65536,
    .pfcFrame 2 0 0 (List.replicate 8 0), .pfcFrame 0 4 0 (List.replicate 8 0),
    .pfcFrame 0 0 256 (List.replicate 8 0), .pfcFrame 0 0 0 [], .pauseTimerExpiry 2 0 0, .pauseTimerExpiry 0 4 0,
    .pauseTimerExpiry 0 0 8, .ethFrameTransmit 2 0, .ethFrameTransmit 0 4, .nextHopTimeout 2, .nextHopExpiry 2,
    .lpiEntry 2, .lpiWake 2, .lldpSend 2, .lldpReceive 2 0, .igmpQuery 2 false none, .skewWindowExpiry 16,
    .sourceFrameConclude 16, .streamPathTimeout 16 0, .streamPathTimeout 0 2, .linkIdSend 2] : List Instr).all (fun c => !c.wf) = true := by decide

/-- Each of these commands names something the module does not have. -/
theorem test_illformed_3 :
    ([.linkId 2 tId, .linkIdTimeout 2, .linkPortDown 2, .linkPortEnable .i3c 2 0, .frondRelay 2 (.stray 0) [],
    .frondReceive 2 tFrond [], .clwLoadDone 96, .clwControlDone 96, .clwProbeDone 96, .collectReserveEnd 96,
    .collectReturn 96 0 0 [], .enumReturn 96 0, .enumReturn 0 256, .enumTimeout 96, .railRampDone 96 0,
    .stringOvercurrent 96, .stringRailFault 96 0, .stringRetryTimer 96, .retryCountReset 96,
    .trainingBlock 16 tBlock, .lanePllLock 4, .lanePllUnlock 4 false, .laneCdrLock 16, .laneAlignDone 4 0,
    .laneEqDone 16 [], .laneCheckDone 16 0, .laneCheckDone 0 65, .laneCountdownDone 4, .trainTimeout 4,
    .trainRetry 4, .cdrLoss 16, .blockLoss 16] : List Instr).all (fun c => !c.wf) = true := by decide

/-- Each of these commands names something the module does not have. -/
theorem test_illformed_4 :
    ([.eyeMeasureDone 16 0, .eyeMeasureDone 0 65, .eyeLow 16, .testModeEnter .i3c 16 0, .inject .i3c 16,
    .wckDriftCheck [], .bankRefresh 4, .dramTempRead [], .dramIdleEntry 4, .latencyDeclaration 8, .odeccRead [],
    .qdrScrub 3, .qdrReadError 0 4 0, .replayCopyDone 16 [], .audioPathTimeout 0 2, .audioPathTimeout 4 0,
    .feedInRange 2 false, .feedOutOfRange 2 0, .feedOvervoltage 2, .overvoltRecover 2,
    .feedControlCycle [] (List.replicate 2 (0, 0, 0, 0)) false, .feedControlCycle (List.replicate 5 0) [] false,
    .thmSample [], .wakeDone [] 0, .syncOutPulseEnd 2, .wakeToneEnd 2, .checkerLock 16, .checkerLockLoss 16 0,
    .dramExitDone 4 0, .partnerLpi 2 false] : List Instr).all (fun c => !c.wf) = true := by decide

/-! ### Single steps and functions, with the values the spec gives -/

/-- The memory after reset has its canonical form, and ALERT_N is released (R54). -/
theorem test_reset_safe : Memory.wf State.reset.blk = true ∧ State.reset.blk.pins.alertN = true := by decide +kernel

/-- The front command is taken and the rest of the queue waits. -/
theorem test_step_takes_the_front :
    (match step { State.reset with pending := [.wdtWarn, .wdtExpiry] } with | .next s => s.pending | _ => []) = [.wdtExpiry] := by
  decide +kernel

/-- A RESET_N pulse of 500 ns is ignored, one of 700 ns is the case R53 leaves open, one of 1 µs is a cold reset. -/
theorem test_reset_pulse :
    (match exec (.coldReset 500) State.reset with | .next s => s.blk.logic == .running | _ => false) = true
      ∧ (match exec (.coldReset 700) State.reset with | .fault _ => true | _ => false) = true
      ∧ (match exec (.coldReset 1000) State.reset with | .next s => s.blk.logic == .held | _ => false) = true := by
  decide +kernel

/-- A write of SYS_RESET_CMD with another key is ignored (R493). -/
theorem test_warm_reset_key :
    (match exec (.warmResetRequest .i3c 0x57530001) State.reset with | .next s => s.blk.resetWanted | _ => some 0) = none := by
  decide +kernel

/-- Both straps at 1: the static address is 0x4F (R73). -/
theorem test_static_address : ({ Block.reset with pins := { Block.reset.pins with straps := 3 } } : Block).i3cAddr = 0x4F := by
  decide +kernel

/-- SYS_VARIANT and other registers read after reset; an unaligned read returns 0 (R10). -/
theorem test_unaligned_read : (Block.reset.readReg .i3c 0x2 4).1 = 0 := by decide +kernel

/-- OLF16: code 0x7800 is 1.0 and code 1 is 2^-25 (R222, COR_PEAK's reset value). -/
theorem test_olf : olf 0x7800 = 2 ^ 25 ∧ olf 1 = 1 := by decide +kernel

/-- Slot sizes (R292): 384 by 256 is allowed, 12 by 16 and 2,048 by 64 are not. -/
theorem test_slot_sizes : slotSizeOk 384 256 = true ∧ slotSizeOk 12 16 = false ∧ slotSizeOk 2048 64 = false := by decide +kernel

/-- The skip count of half scale is half the segments, of full scale none (R314, R246). -/
theorem test_skip : skipFor 640 0x4000 = 320 ∧ skipFor 640 0x8000 = 0 ∧ skipFor 640 0xFFFF = 0 := by decide +kernel

/-- Two open results in a row make a lamp FAILED with CAUSE open, one does not (R327). -/
theorem test_open_twice :
    (((lampOfWord 0).report false true true false).report false true true false).failed = true
      ∧ (((lampOfWord 0).report false true true false).report false true false false).failed = false
      ∧ (((lampOfWord 0).report false true true false).report false true true false).cause = 1 := by
  decide +kernel

/-- A lamp's word comes back from its fields (R326). -/
theorem test_lamp_word : (lampOfWord 0xFBFFCFFF).word = 0xFBFFCFFF := by decide +kernel

/-- START leaves 5,080 ns and the outbound delay of 8 half nanoseconds before the frame start (R316). -/
theorem test_launch :
    (tSet Block.reset [((F.STR_STRn_DELAY_OUT_HNS 2).act, 8)]).launchAt 2 (65536 * 100000) = 100000 - 5080 - 4 := by decide +kernel

/-- A rail at 5,000 mV whose least HEADROOM is 10 below TARGET rises by at most STEP_UP × 10 mV (R321). -/
theorem test_rail_step :
    ((tSet Block.reset [(F.STR_STRn_RAIL_STATUS_SET_MV 2, 5000), (F.STR_HEADROOM_TARGET.act, 20), (F.STR_HEADROOM_STEP_UP.act, 8),
      (F.STR_HEADROOM_STEP_DOWN.act, 2), ((F.STR_STRn_RAIL_LIM_MAX_MV 2).act, 5500)]).trackRail 2 ⟨0, 0, 10, 0, 0, 0, 0, true⟩).get
        (F.STR_STRn_RAIL_STATUS_SET_MV 2) = 5080 := by
  decide +kernel

/-- SHA-256 of "abc" (FIPS 180-4's example; PRESUMED standards, log entry 66). -/
theorem test_sha256 : sha256 (ascii "abc") =
    [0xBA, 0x78, 0x16, 0xBF, 0x8F, 0x01, 0xCF, 0xEA, 0x41, 0x41, 0x40, 0xDE, 0x5D, 0xAE, 0x22, 0x23,
     0xB0, 0x03, 0x61, 0xA3, 0x96, 0x17, 0x7A, 0x9C, 0xB4, 0x10, 0xFF, 0x61, 0xF2, 0x00, 0x15, 0xAD] := by decide +kernel

/-- HKDF-SHA-256, the first test case of RFC 5869. -/
theorem test_hkdf :
    hkdf (List.replicate 22 0x0B) ((List.range 13).map (BitVec.ofNat 8)) ((List.range 10).map (fun i => BitVec.ofNat 8 (0xF0 + i))) 42 =
    [0x3C, 0xB2, 0x5F, 0x25, 0xFA, 0xAC, 0xD5, 0x7A, 0x90, 0x43, 0x4F, 0x64, 0xD0, 0x36, 0x2F, 0x2A, 0x2D, 0x2D, 0x0A, 0x90, 0xCF,
     0x1A, 0x5A, 0x4C, 0x5D, 0xB0, 0x2D, 0x56, 0xEC, 0xC4, 0xC5, 0xBF, 0x34, 0x00, 0x72, 0x08, 0xD5, 0xB8, 0x87, 0x18, 0x58, 0x65] := by
  decide +kernel

/-- AES-256-GCM with a zero key, nonce and block: test case 14 of the GCM specification. -/
theorem test_gcm : gcmSeal (List.replicate 32 0) (List.replicate 12 0) [] (List.replicate 16 0) =
    ([0xCE, 0xA7, 0x40, 0x3D, 0x4D, 0x60, 0x6B, 0x6E, 0x07, 0x4E, 0xC5, 0xD3, 0xBA, 0xF3, 0x9D, 0x18],
     [0xD0, 0xD1, 0xC8, 0xA7, 0x99, 0x99, 0x6B, 0xF0, 0x26, 0x5B, 0x98, 0xB5, 0xD4, 0x8A, 0xB9, 0x19]) := by decide +kernel

/-- Before the power-on reset is released SYNC_OUT is in high impedance, after it it is low; without power it floats again (R40, R54). -/
theorem test_sync_contact :
    ({ Block.reset with logic := .held, pins := risingPins } : Block).contact (.syncOut 0) = .highZ ∧ Block.reset.contact (.syncOut 0) = .low
      ∧ Block.reset.powerOff.contact (.syncOut 0) = .highZ := by decide +kernel

/-! ### Witnesses of the statements' hypotheses -/

theorem witness_EmptyQueueIdles :
    (∃ s : State, s.pending = [] ∧ s.blk.pm.stcStopped = false ∧ s.blk.get F.PTP_RATE_RATE = 0 ∧ s.blk.stcFrac < stcUnit)
    ∧ ∃ s : State, s.pending = [] ∧ s.blk.pm.stcStopped = true :=
  ⟨⟨State.reset, by decide +kernel⟩,
   ⟨{ State.reset with blk := { Block.reset with pm := { Block.reset.pm with stcStopped := true } } }, by decide +kernel⟩⟩

theorem witness_OnlyTheOpenPulseStops :
    (∃ c : Instr, ∀ n, c = .coldReset n → n ≤ 500 ∨ 1000 ≤ n) ∧ (∃ c : Instr, c = .coldReset 500 ∧ ∀ n, c = .coldReset n → n ≤ 500 ∨ 1000 ≤ n)
    ∧ ∃ c : Instr, c = .coldReset 1000 ∧ ∀ n, c = .coldReset n → n ≤ 500 ∨ 1000 ≤ n :=
  ⟨⟨.wdtWarn, by intro n h; cases h⟩, ⟨_, rfl, by intro n h; cases h; omega⟩, ⟨_, rfl, by intro n h; cases h; omega⟩⟩

theorem witness_QueueIsKept : ∃ (c : Instr) (s t : State), exec c s = .next t := ⟨.wdtWarn, State.reset, _, rfl⟩

theorem witness_NoPowerNoEffect : ∃ (c : Instr) (s : State), powerRow c = false ∧ s.blk.logic ≠ .running :=
  ⟨.wdtWarn, { State.reset with blk := tOff }, by decide +kernel⟩

theorem witness_AlertFollowsItsCause : ∃ s t : State, AlertSound s.blk ∧ step s = .next t :=
  ⟨State.reset, _, by unfold AlertSound; decide, rfl⟩

theorem witness_PowerUpAndColdReset :
    (∃ (b : Block) (feed : Nat) (dc : Bool), b.logic = .off ∧ feed < 2 ∧ b.feed 0 = feedOut ∧ b.feed 1 = feedOut)
    ∧ (∃ (b : Block) (feed : Nat) (dc : Bool), b.logic = .off ∧ feed < 2 ∧ b.feed 0 = feedOut ∧ b.feed 1 = feedOut)
    ∧ (∃ (b : Block), b.logic = .rising)
    ∧ (∃ (b : Block) (straps : Nat), b.logic = .held ∧ straps < 16)
    ∧ (∃ (b : Block) (low : Nat), Runs b ∧ 1000 ≤ low) :=
  ⟨⟨tOff, 1, true, by decide +kernel⟩,
   ⟨tOff, 0, false, by decide +kernel⟩,
   ⟨{ Block.reset with logic := .rising }, by decide +kernel⟩,
   ⟨{ Block.reset with logic := .held }, 15, by decide +kernel⟩,
   ⟨Block.reset, 1000, by decide +kernel⟩⟩

theorem witness_WarmReset :
    (∃ (b : Block) (p : Path) (v : Word), Runs b ∧ b.gated R.SYS_RESET_CMD = false ∧ b.asleep = false ∧ F.SYS_RESET_CMD_KEY.of v.toNat
      = 0x5752 ∧ F.SYS_RESET_CMD_WARM.of v.toNat = 1)
    ∧ (∃ (b : Block) (after cause : Nat), Runs b ∧ b.resetWanted = some cause ∧ cause < 4) :=
  ⟨⟨Block.reset, .i3c, 0x57520001, by decide +kernel⟩,
   ⟨{ Block.reset with resetWanted := some 2, dram := [(5, 1), (2 ^ 24, 1)] }, 2000, 2, by decide +kernel⟩⟩

theorem witness_Watchdog :
    (∃ (b : Block) (p : Path) (v : Word), Runs b ∧ b.gated R.SYS_WDT_CTRL = false ∧ b.bit F.SYS_WDT_CTRL_EN = false ∧
      F.SYS_WDT_CTRL_EN.of v.toNat = 1)
    ∧ (∃ (b : Block) (p : Path) (v : Word), Runs b ∧ b.gated R.SYS_WDT_KICK = false ∧ F.SYS_WDT_KICK_KEY.of v.toNat = 0xA5)
    ∧ (∃ (b : Block), Runs b ∧ b.wdtCounts = true ∧ b.wdtWarned = false)
    ∧ (∃ (b : Block), Runs b ∧ b.wdtCounts = true) :=
  ⟨⟨Block.reset, .i3c, 0x80000005, by decide +kernel⟩,
   ⟨tSet Block.reset [(F.SYS_WDT_CTRL_TIMEOUT_MS, 65535)], .i3c, 0xA5, by decide +kernel⟩,
   ⟨{ tSet Block.reset [(F.SYS_WDT_CTRL_EN, 1)] with wdtMs := 10 }, by decide +kernel⟩,
   ⟨{ tSet Block.reset [(F.SYS_WDT_CTRL_EN, 1)] with wdtMs := 10 }, by decide +kernel⟩⟩

theorem witness_WarmResetBits :
    ∃ (n old : Block) (k : Nat) (r : Row), n.regs = [] ∧ cellsWf keyReset old.regs = true ∧ rowAt (keyAddr k) = some r :=
  ⟨Block.reset, tSet Block.reset [(F.HIF_ERR_ADDR, 1)], R.HIF_ERR, tRow R.HIF_ERR, by decide +kernel⟩

theorem witness_WriteBitByBit :
    ∃ (r : Row) (old v : Word) (i : Nat), i < 32 :=
  ⟨tRow R.HIF_ERR, 1, 1, 31, by decide +kernel⟩

theorem witness_AccessToNoRegister :
    ∃ (b : Block) (p : Path) (a n : Nat) (v : Word) (x : Ext), Runs b ∧ (n ≠ 4 ∨ a % 4 ≠ 0 ∨ accessRow a 4 = none) :=
  ⟨Block.reset, .i3c, 2, 4, 0, tNoExt, by decide +kernel⟩

theorem witness_RegisterWrites :
    ∃ (b : Block) (p : Path) (a : Nat) (v : Word) (x : Ext) (r : Row), Runs b ∧ accessRow a 4 = some r ∧ baseOf a = a ∧ b.gated a =
      false ∧ (if a < 0x100000 then b.commandLow p a v x else b.commandHigh a v x) = none ∧ b.ignores a v.toNat = false ∧ b.writeValue
      a v.toNat (b.word (keyOf p r a)).toNat = v.toNat ∧ ((a < R.HIF_RING_POOL_LO ∨ R.HIF_RING_POOL_SIZE < a)) ∧ a ≠ R.PTP_CTRL :=
  ⟨Block.reset, .i3c, R.PM_WAKE_TIMER, 7, tNoExt, tRow R.PM_WAKE_TIMER, by decide +kernel⟩

theorem witness_ReadsWithAnEffect :
    (∃ (b : Block) (p : Path) (a : Nat) (r : Row), Runs b ∧ accessRow a 4 = some r ∧ b.gated (baseOf a) = false ∧ a ≠ R.HIF_RX_DATA ∧
      isDramCount a = false ∧ isLow a = false ∧ isHigh a = false ∧ (decide (4 ≤ a) && isDramCount (a - 4)) = false ∧ r.rc ≠ 0)
    ∧ (∃ (b : Block) (p : Path) (a : Nat) (r h : Row), Runs b ∧ accessRow a 4 = some r ∧ accessRow (a + 4) 4 = some h ∧ b.gated (baseOf
      a) = false ∧ a ≠ R.HIF_RX_DATA ∧ isDramCount a = false ∧ isLow a = true)
    ∧ (∃ (b : Block) (p : Path) (a : Nat) (h : Row) (v : Word), Runs b ∧ accessRow a 4 = some h ∧ b.gated (baseOf a) = false ∧ a ≠
      R.HIF_RX_DATA ∧ isDramCount a = false ∧ isLow a = false ∧ isHigh a = true ∧ b.latchOf p a = some v)
    ∧ (∃ (b : Block) (p : Path), Runs b ∧ b.gated R.PTP_STC_LO = false ∧ b.stc < 2 ^ 64) :=
  ⟨⟨Block.reset, .i3c, 0x100900, tRow 0x100900, by decide +kernel⟩,
   ⟨Block.reset, .i3c, R.PTP_STC_LO, tRow R.PTP_STC_LO, tRow R.PTP_STC_HI, by decide +kernel⟩,
   ⟨(Block.reset.readReg .i3c R.PTP_STC_LO 4).2, .i3c, R.PTP_STC_HI, tRow R.PTP_STC_HI, 0, by decide +kernel⟩,
   ⟨{ Block.reset with stc := 2 ^ 64 - 1 }, .i3c, by decide +kernel⟩⟩

theorem witness_I3cPrivateTransfers :
    (∃ (b : Block) (x : Ext) (a0 a1 a2 a3 d0 d1 d2 d3 : Byte), Runs b)
    ∧ (∃ (b : Block) (x : Ext) (a0 a1 a2 a3 d0 d1 d2 d3 : Byte), Runs b)
    ∧ (∃ (b : Block) (x : Ext) (a0 a1 a2 a3 : Byte), Runs b)
    ∧ (∃ (b : Block), Runs b ∧ b.bit F.HIF_I3C_STATUS_DA_VALID = true ∧ 4 ≤ b.i3c.mrl) :=
  ⟨⟨Block.reset, tNoExt, 0x30, 0, 0, 0, 1, 2, 3, 4, by decide +kernel⟩,
   ⟨Block.reset, tNoExt, 0x30, 0, 0, 0, 1, 2, 3, 4, by decide +kernel⟩,
   ⟨Block.reset, tNoExt, 0x30, 0, 0, 0xFF, by decide +kernel⟩,
   ⟨tDa, by decide +kernel⟩⟩

theorem witness_I3cAddressAndCodes :
    (∃ (b : Block) (da : Nat), Runs b ∧ b.bit F.HIF_I3C_STATUS_DA_VALID = false ∧ da < 128)
    ∧ (∃ (b : Block) (da : Nat), Runs b ∧ b.bit F.HIF_I3C_STATUS_DA_VALID = true ∧ da < 128)
    ∧ (∃ (b : Block), Runs b)
    ∧ (∃ (b : Block) (target : Option Nat) (events : Byte), Runs b ∧ b.cccAny target = true ∧ events.toNat % 2 = 1)
    ∧ (∃ (b : Block) (target : Option Nat) (v : Nat), Runs b ∧ b.cccAny target = true ∧ 8 ≤ v ∧ v < 2 ^ 16)
    ∧ (∃ (b : Block) (a : Nat), Runs b ∧ b.ccc a = true)
    ∧ (∃ (b : Block), Runs b) :=
  ⟨⟨Block.reset, 127, by decide +kernel⟩,
   ⟨tDa, 127, by decide +kernel⟩,
   ⟨tDa, by decide +kernel⟩,
   ⟨tDa, none, 1, by decide +kernel⟩,
   ⟨tDa, some 9, 65535, by decide +kernel⟩,
   ⟨tDa, 9, by decide +kernel⟩,
   ⟨tDa, by decide +kernel⟩⟩

theorem witness_MessagesAreQueuedOrForwarded :
    (∃ (b b1 b2 : Block) (rx : Rx), Runs b ∧ b.receive rx = .accepted b1 ∧ nodeReserved rx.msg.src = false ∧ rx.msg.src ≠ nodeAll ∧
      (b1.readRing rx.msg.src).populate rx.msg.src = some b2 ∧ (b2.ring rx.msg.src).inQ.length < (b2.ring rx.msg.src).slots)
    ∧ (∃ (b b1 b2 : Block) (rx : Rx) (r : Request), Runs b ∧ b.receive rx = .accepted b1 ∧ nodeReserved rx.msg.src = false ∧ rx.msg.src
      ≠ nodeAll ∧ (b1.readRing rx.msg.src).populate rx.msg.src = some b2 ∧ (b2.ring rx.msg.src).inQ.length < (b2.ring rx.msg.src).slots
      ∧ rx.msg.response = true ∧ rx.msg.type ≠ 0x04 ∧ b1.hif.requests.find? (b1.answers rx) = some r ∧ rx.msg.src ∉ r.from')
    ∧ (∃ (b b1 : Block) (rx : Rx) (p : Nat), Runs b ∧ b.consumes rx.msg = false ∧ b.passesBulk rx = none ∧ b.letIn rx = .accepted b1 ∧
      b1.route rx.msg.dest false = .out (.lnk p) ∧ b1.bit (F.LNKn_STATUS_SESSION_UP p) = true ∧ b1.carries p = true ∧ b1.seqRepeats p
      rx.msg = false) :=
  ⟨⟨tReq, tTaken tReq tResp, (((tTaken tReq tResp).readRing 7).populate 7).getD tPool, tResp, by decide +kernel⟩,
   ⟨tReq, tTaken tReq tResp, (((tTaken tReq tResp).readRing 7).populate 7).getD tPool, tResp, ⟨7, 9, 0, []⟩, by decide +kernel⟩,
   ⟨tChain, tTaken2 tChain tFwd, tFwd, 1, by decide +kernel⟩⟩

theorem witness_RequestsAreAnswered :
    (∃ (b b1 : Block) (rx : Rx) (x : Ext) (fi st a d : Nat) (r : Row), Runs b ∧ b.receive rx = .accepted b1 ∧ rx.msg.body = .regAccess
      1 fi st [(a, d)] ∧ rx.msg.response = false ∧ a % 4 = 0 ∧ accessRow a 4 = some r ∧ rx.msg.length = (if rx.msg.auth then 44 else
      28) ∧ b1.lnk.identityLost = false)
    ∧ (∃ (b b1 : Block) (rx : Rx) (addr len i : Nat), Runs b ∧ b.receive rx = .accepted b1 ∧ rx.msg.body = .fetch addr len i ∧
      b1.exported addr len = true ∧ b1.lnk.identityLost = false) :=
  ⟨⟨tPool, tTaken tPool tReg, tReg, tNoExt, 0, 0, 0x30, 0, tRow 0x30, by decide +kernel⟩,
   ⟨tExp, tTaken tExp tFetch, tFetch, 2 ^ 26, 8, 0, by decide +kernel⟩⟩

theorem witness_BulkChannels :
    (∃ (b : Block) (p : Path) (n : Nat) (v : Word), Runs b ∧ n < 8 ∧ b.hif.channels.length = 8 ∧ b.gated (R.HIF_DMAn_CMD n) = false ∧
      (F.HIF_DMAn_CMD_START n).of v.toNat = 1 ∧ (F.HIF_DMAn_CMD_ABORT n).of v.toNat = 0 ∧ b.dmaBusy n = false ∧ b.inDram (b.dmaSpan n)
      = true ∧ (b.dmaSpan n).clearOf [ringTable, b.ringPool] = true ∧ 0 < (b.dmaSpan n).len)
    ∧ (∃ (b : Block) (p : Path) (n : Nat) (v : Word), Runs b ∧ n < 8 ∧ b.hif.channels.length = 8 ∧ b.gated (R.HIF_DMAn_CMD n) = false ∧
      (F.HIF_DMAn_CMD_START n).of v.toNat = 0 ∧ (F.HIF_DMAn_CMD_ABORT n).of v.toNat = 1)
    ∧ (∃ (b b1 : Block) (rx : Rx) (n a i len : Nat) (c : Chunk) (bs : List Byte), Runs b ∧ b.receive rx = .accepted b1 ∧ n < 8 ∧
      b1.hif.channels.length = 8 ∧ rx.msg.response = true ∧ rx.msg.error = false ∧ rx.msg.body = .data a len i bs ∧ b1.dmaMatch
      rx.msg.src rx.msg.seq = some (n, c) ∧ b1.channel n = ⟨i + 1, i + 1, [c]⟩ ∧ c.index = i ∧ bs.length = b1.chunkLen n i ∧ len =
      bs.length ∧ b.passesBulk rx = none)
    ∧ (∃ (b : Block) (n i : Nat) (k : Chunk), Runs b ∧ n < 8 ∧ b.hif.channels.length = 8 ∧ (b.channel n).open'.find? (fun c => c.index
      == i) = some k ∧ k.tries < 3)
    ∧ (∃ (b : Block) (n i : Nat) (k : Chunk), Runs b ∧ n < 8 ∧ b.hif.channels.length = 8 ∧ (b.channel n).open'.find? (fun c => c.index
      == i) = some k ∧ 3 ≤ k.tries) :=
  ⟨⟨tDma, .i3c, 7, 1, by decide +kernel⟩,
   ⟨tSet tDma [(F.HIF_DMAn_STATUS_STATE 7, 1)], .i3c, 7, 2, by decide +kernel⟩,
   ⟨tDmaRun, tTaken tDmaRun tData, tData, 7, 0, 0, 4, ⟨0, 5, 0, 100⟩, [1, 2, 3, 4], by decide +kernel⟩,
   ⟨tDmaRun, 7, 0, ⟨0, 5, 0, 100⟩, by decide +kernel⟩,
   ⟨(tDmaRun.setChannel 7 ⟨1, 1, [⟨0, 5, 3, 100⟩]⟩), 7, 0, ⟨0, 5, 3, 100⟩, by decide +kernel⟩⟩

theorem witness_Mailbox :
    (∃ (b : Block) (p : Path) (v : Word) (m : Msg) (l : List Msg), Runs b ∧ b.gated R.HIF_RX_SEL = false ∧ b.hif.boxes.length = 4 ∧
      F.HIF_RX_SEL_NODE.of v.toNat ≠ nodeAll ∧ (b.ring (F.HIF_RX_SEL_NODE.of v.toNat)).inQ = m :: l ∧ ringSound (b.ringBytes
      (F.HIF_RX_SEL_NODE.of v.toNat)) = true)
    ∧ (∃ (b : Block) (p : Path) (n : Nat) (m : Msg), Runs b ∧ b.gated R.HIF_RX_DATA = false ∧ b.hif.boxes.length = 4 ∧ (b.box
      p).presented = some (n, m) ∧ 4 * (b.box p).ptr < m.slotBytes.length)
    ∧ (∃ (b : Block) (p : Path) (n : Nat) (v : Word) (m : Msg) (l : List Msg), Runs b ∧ b.gated R.HIF_RX_POP = false ∧ v.toNat % 2 = 1
      ∧ (b.box p).presented = some (n, m) ∧ (b.ring n).inQ = m :: l ∧ ringSound (b.ringBytes n) = true)
    ∧ (∃ (b : Block) (p : Path) (v : Word), Runs b ∧ b.gated R.HIF_TX_DATA = false ∧ b.hif.boxes.length = 4 ∧ (b.box p).stage.length <
      56)
    ∧ (∃ (b b1 : Block) (p : Path) (v : Word), Runs b ∧ b.gated R.HIF_TX_CMD = false ∧ b.hif.boxes.length = 4 ∧ (b.box p).oversize =
      false ∧ 0x40 ≤ F.HIF_TX_CMD_TYPE.of v.toNat ∧ F.HIF_TX_CMD_DEST.of v.toNat = 0 ∧ b.hif.seq + 1 < 2 ^ 32 ∧ b.populate 0 = some b1
      ∧ b.ring 0 = b1.ring 0 ∧ (b.ring 0).inQ.length < (b.ring 0).slots ∧ ringSound (b.ringBytes 0) = true ∧ b.lnk.identityLost =
      false) :=
  ⟨⟨tRing, .i3c, 7, tMsg, [], by decide +kernel⟩,
   ⟨rxSel .i3c 7 tRing, .i3c, 7, tMsg, by decide +kernel⟩,
   ⟨rxSel .i3c 7 tRing, .i3c, 7, 1, tMsg, [], by decide +kernel⟩,
   ⟨tPool, .i3c, 0xFFFFFFFF, by decide +kernel⟩,
   ⟨txData .i3c 5 (tPool.setRing { Ring.empty 0 with populated := true }), (txData .i3c 5 (tPool.setRing { Ring.empty 0 with populated
     := true })), .i3c, 0x1000000, by decide +kernel⟩⟩

theorem witness_NotificationsAndInterrupts :
    (∃ (b : Block) (n : Nat), Runs b ∧ (b.ring n).populated = true ∧ (b.ring n).inQ = [] ∧ (b.ring n).outQ = [] ∧ b.get
      F.HIF_RING_CTRL_IDLE_S ≠ 0)
    ∧ (∃ (b b1 : Block) (p : Nat), Runs b ∧ b.hif.notifyPending = true ∧ b.hif.notifyLast = none ∧ b.hif.seq + 1 < 2 ^ 32 ∧ b.get
      F.HIF_NOTIFY_NODE_NODE ≠ nodeAll ∧ b.route (b.get F.HIF_NOTIFY_NODE_NODE) true = .out (.lnk p) ∧ b.bit (F.LNKn_STATUS_SESSION_UP
      p) = true ∧ b.populate (b.get F.HIF_NOTIFY_NODE_NODE) = some b1 ∧ ringSound (b.ringBytes (b.get F.HIF_NOTIFY_NODE_NODE)) = true ∧
      b.lnk.identityLost = false ∧ p < 2)
    ∧ (∃ (b : Block), Runs b ∧ b.i3c.ibiPending = true ∧ b.ibiAllowed = true ∧ Nat.land b.irqPend (b.pair F.HIF_IBI_EN_LO
      F.HIF_IBI_EN_HI) ≠ 0) :=
  ⟨⟨tPool.setRing { Ring.empty 7 with populated := true, inPages := [1], outPages := [2] }, 7, by decide +kernel⟩,
   ⟨tNtf, (tNtf.populate 3).getD tNtf, 1, by decide +kernel⟩,
   ⟨tIbi, by decide +kernel⟩⟩

theorem witness_SelfTestAndTraining :
    (∃ (b : Block) (hard soft beyond after : Nat), Runs b ∧ b.stage = 0)
    ∧ (∃ (b : Block) (mem addr bit words hard soft beyond after : Nat), Runs b ∧ b.stage = 0 ∧ mem < 256 ∧ words < 2 ^ 16)
    ∧ (∃ (b : Block) (fault : Option (Nat × Nat × Nat × Nat)) (hard soft beyond after : Nat), Runs b ∧ b.stage = 0)
    ∧ (∃ (b : Block) (attempts : List (List (List (Nat × Nat)))) (after : Nat), Runs b ∧ b.stage = 1 ∧ attempts.length = 4 ∧ ((∀ l ∈
      attempts, l ≠ [] ∧ b.attemptOk (l.headD []) = true)) ∧ b.get F.CFG_BOOT_STATUS_BOOT_SEL < 2)
    ∧ (∃ (b : Block) (attempts : List (List (List (Nat × Nat)))) (after : Nat), Runs b ∧ b.stage = 1 ∧ attempts.length = 4 ∧ ((∀ l ∈
      attempts, l ≠ [] ∧ b.attemptOk (l.headD []) = true)) ∧ b.get F.CFG_BOOT_STATUS_BOOT_SEL < 2)
    ∧ (∃ (b : Block) (attempts : List (List (List (Nat × Nat)))) (after : Nat), Runs b ∧ b.stage = 1 ∧ attempts.length = 4 ∧ ((∀ l ∈
      attempts, ∀ a ∈ l.take 3, b.attemptOk a = false))) :=
  ⟨⟨Block.reset, 1, 2, 3, 50000000, by decide +kernel⟩,
   ⟨Block.reset, 255, 4096, 3, 65535, 0, 0, 0, 50000000, by decide +kernel⟩,
   ⟨Block.reset, none, 0, 0, 0, 1, by decide +kernel⟩,
   ⟨tMem, List.replicate 4 [tGood], 200000000, by decide +kernel⟩,
   ⟨tSet tMem [(F.CFG_BOOT_STATUS_BOOT_SEL, 1)], List.replicate 4 [tGood], 2, by decide +kernel⟩,
   ⟨tMem, List.replicate 4 [[], [], []], 2, by decide +kernel⟩⟩

theorem witness_SlotChecks :
    (∃ (b : Block) (s after : Nat) (rest : List Nat), Runs b ∧ b.stage = 2 ∧ b.cfg.slotsLeft = s :: rest ∧ s < 3 ∧ checkFull b.fuses
      b.slotImage = none)
    ∧ (∃ (b : Block) (s after : Nat) (rest : List Nat) (e : Err), Runs b ∧ b.stage = 2 ∧ b.cfg.slotsLeft = s :: rest ∧ s < 3 ∧
      checkFull b.fuses b.slotImage = some e)
    ∧ (∃ (b : Block) (s after : Nat) (rest : List Nat) (e : Err), Runs b ∧ b.stage = 2 ∧ b.cfg.slotsLeft = s :: rest ∧ s < 3 ∧
      checkFull b.fuses b.slotImage = some e) :=
  ⟨⟨tSlots [0, 1, 2] (some tImage), 0, 99999999, [1, 2], by decide +kernel⟩,
   ⟨tSlots [0, 1, 2] none, 0, 5, [1, 2], E.CFG_HDR, by decide +kernel⟩,
   ⟨tSlots [2] none, 2, 5, [], E.CFG_HDR, by decide +kernel⟩⟩

theorem witness_LoadAndBootCommit :
    (∃ (b c : Block) (i : Image) (after : Nat), Runs b ∧ b.stage = 3 ∧ b.slotImage = some i ∧ (b.loadRegisters i after).loadTables i
      (fun _ => 0) = (none, c) ∧ (c.loadEngines i).bootChecks ((imageRole i).getD roleTile) = none)
    ∧ (∃ (b : Block) (i : Image), b.cfg.slotsLeft.headD 0 < 3 ∧ i.buildId < 2 ^ 64)
    ∧ (∃ (b : Block) (i : Image) (k : Nat), cellsWf keyReset b.regs = true ∧ isRws k = true) :=
  ⟨⟨tLoad, tLoaded, tHeadImage, 1, by decide +kernel⟩,
   ⟨tLoad, tImage, by decide +kernel⟩,
   ⟨tSet tLoad [(F.FRM_MODE_EPOCH_EPOCH, 3)], tImage, R.FRM_MODE_EPOCH, by decide +kernel⟩⟩

theorem witness_BootClockAndReferenceClock :
    (∃ (b : Block) (t : Topology), Runs b ∧ b.stage = 4 ∧ (b.trained 2 || b.trained 3) = true ∧ b.cfg.topo = some t ∧ b.bit
      F.LNK_CHAIN_STATUS_SLOT_VALID = true)
    ∧ (∃ (b : Block) (cause : Nat), Runs b ∧ b.clocks.refMet = false ∧ b.clocks.bootLost = false ∧ b.bit F.PTP_REFCLK_STATUS_SOURCE =
      false ∧ 1 ≤ cause ∧ cause < 4)
    ∧ (∃ (b : Block) (ps : Nat), Runs b ∧ max ps 10000 - min ps 10000 ≤ b.get F.PTP_REFCLK_MON_GLITCH_PS)
    ∧ (∃ (b : Block) (ps : Nat), Runs b ∧ b.get F.PTP_REFCLK_MON_GLITCH_PS < max ps 10000 - min ps 10000 ∧ b.clocks.glitches = [])
    ∧ (∃ (b : Block) (cause : Nat), Runs b ∧ b.clocks.refMet = true ∧ b.bit F.PTP_REFCLK_STATUS_SOURCE = false ∧ 1 ≤ cause ∧ cause < 4)
    ∧ (∃ (b : Block), Runs b ∧ b.bit F.PTP_REFCLK_STATUS_SOURCE = true ∧ b.bit F.PTP_REFCLK_MON_AUTO_RETURN = true) :=
  ⟨⟨tRole, tTopo, by decide +kernel⟩,
   ⟨Block.reset, 3, by decide +kernel⟩,
   ⟨Block.reset, 10000, by decide +kernel⟩,
   ⟨Block.reset, 100000, by decide +kernel⟩,
   ⟨tRef, 3, by decide +kernel⟩,
   ⟨tSet Block.reset [(F.PTP_REFCLK_STATUS_SOURCE, 1), (F.PTP_REFCLK_MON_AUTO_RETURN, 1)], by decide +kernel⟩⟩

theorem witness_SelfTestOnDemand :
    (∃ (b : Block) (p : Path) (v : Word), Runs b ∧ b.gated R.BST_CMD = false ∧ b.bit F.BST_STATUS_BUSY = false ∧ F.BST_CMD_TEST.of
      v.toNat = 1 ∧ b.role = 0)
    ∧ (∃ (b : Block) (p : Path) (v : Word), Runs b ∧ b.gated R.BST_CMD = false ∧ b.bit F.BST_STATUS_BUSY = false ∧ F.BST_CMD_TEST.of
      v.toNat = 3 ∧ b.drives = false)
    ∧ (∃ (b : Block) (p : Path) (v : Word), Runs b ∧ b.gated R.BST_CMD = false ∧ b.bit F.BST_STATUS_BUSY = false ∧ F.BST_CMD_TEST.of
      v.toNat = 4 ∧ b.bstPlaced = true)
    ∧ (∃ (b c : Block) (p : Path) (v : Word), Runs b ∧ b.gated R.BST_CMD = false ∧ b.bit F.BST_STATUS_BUSY = false ∧ F.BST_CMD_TEST.of
      v.toNat = 2 ∧ b.clearSecrets true = (true, c))
    ∧ (∃ (b : Block) (p : Path) (v : Word), Runs b ∧ b.gated R.BST_CMD = false ∧ b.bit F.BST_STATUS_BUSY = true ∧ F.BST_CMD_TEST.of
      v.toNat = 4)
    ∧ (∃ (b : Block) (soft beyond after : Nat), Runs b ∧ b.bit F.BST_STATUS_BUSY = true ∧ b.get F.BST_STATUS_TEST = 4)
    ∧ (∃ (b : Block) (mem addr bit words soft beyond after : Nat), Runs b ∧ b.bit F.BST_STATUS_BUSY = true ∧ b.get F.BST_STATUS_TEST =
      1 ∧ words < 2 ^ 16) :=
  ⟨⟨Block.reset, .i3c, 1, by decide +kernel⟩,
   ⟨Block.reset, .i3c, 3, by decide +kernel⟩,
   ⟨tSet Block.reset [(F.BST_DRAM_BASE_LO_BASE, 2 ^ 30), (F.BST_DRAM_LEN_MIB, 1)], .i3c, 4, by decide +kernel⟩,
   ⟨Block.reset, (Block.reset.clearSecrets true).2, .i3c, 2, by decide +kernel⟩,
   ⟨tBusy 1, .i3c, 4, by decide +kernel⟩,
   ⟨{ tBusy 4 with dram := [(2 ^ 20 - 1, 1), (2 ^ 20, 1)] }, 0, 0, 99, by decide +kernel⟩,
   ⟨tBusy 1, 2, 3, 4, 5, 1, 1, 99, by decide +kernel⟩⟩

theorem witness_LaneTraining :
    (∃ (b : Block) (p : Nat), Runs b ∧ p < 4 ∧ PortIn b p lanePll ∧ b.bit F.PTP_REFCLK_STATUS_SOURCE = false ∧ b.toning p = false)
    ∧ (∃ (b : Block) (p : Nat), Runs b ∧ p < 4 ∧ PortIn b p lanePll ∧ b.bit F.PTP_REFCLK_STATUS_SOURCE = false ∧ b.toning p = false)
    ∧ (∃ (b : Block) (p : Nat), Runs b ∧ p < 4 ∧ PortIn b p laneUp)
    ∧ (∃ (b : Block) (k : Nat), Runs b ∧ k < 16 ∧ b.laneState k = laneCdr ∧ b.holding (k / 4) = false)
    ∧ (∃ (b : Block) (k : Nat), Runs b ∧ k < 16 ∧ b.laneState k = laneCdr ∧ b.holding (k / 4) = false)
    ∧ (∃ (b : Block) (p skew : Nat), Runs b ∧ 2 ≤ p ∧ p < 4 ∧ PortIn b p laneAlign ∧ b.holding p = false ∧ skew ≤ 4)
    ∧ (∃ (b : Block) (k : Nat) (w : Nat × Nat) (r : List (Nat × Nat)), Runs b ∧ 8 ≤ k ∧ k < 16 ∧ b.laneState k = laneEq ∧ b.holding (k
      / 4) = false ∧ bestPreset r w < 8)
    ∧ (∃ (b : Block) (k : Nat) (ws : List (Nat × Nat)), Runs b ∧ k < 8 ∧ b.laneState k = laneEq ∧ b.holding (k / 4) = false)
    ∧ (∃ (b : Block) (k n : Nat), Runs b ∧ 8 ≤ k ∧ k < 16 ∧ n ≤ 64 ∧ b.laneState k = laneCheck ∧ b.holding (k / 4) = false ∧ b.get
      F.SRD_EYE_CFG_EYE_MIN ≤ eyeWidth n)
    ∧ (∃ (b : Block) (p : Nat), Runs b ∧ 2 ≤ p ∧ p < 4 ∧ PortIn b p laneReady ∧ b.partnerShown p = true ∧ b.holding p = false)
    ∧ (∃ (b : Block) (k : Nat) (x : TrainBlock), Runs b ∧ 8 ≤ k ∧ k < 16 ∧ laneCdr ≤ b.laneState k ∧ b.laneState k < laneUp ∧
      x.inverted = true)
    ∧ (∃ (b : Block) (k q : Nat) (x : TrainBlock) (l : Lane), Runs b ∧ 8 ≤ k ∧ k < 16 ∧ laneCdr ≤ b.laneState k ∧ b.laneState k <
      laneUp ∧ b.laneState k ≠ laneAlign ∧ x.inverted = false ∧ x.crcOk = true ∧ x.txReq = some q ∧ q < 8 ∧ b.srd.lanes[k]? = some l ∧
      l.fixed = false) :=
  ⟨⟨tPort Block.reset 3 lanePll, 3, by decide +kernel⟩,
   ⟨tPort Block.reset 0 lanePll, 0, by decide +kernel⟩,
   ⟨tPortUp 3, 3, by decide +kernel⟩,
   ⟨tPort Block.reset 3 laneCdr, 15, by decide +kernel⟩,
   ⟨tPort Block.reset 1 laneCdr, 7, by decide +kernel⟩,
   ⟨tPort Block.reset 3 laneAlign, 3, 4, by decide +kernel⟩,
   ⟨tPort Block.reset 3 laneEq, 15, (7, 40), [(5, 40), (2, 39)], by decide +kernel⟩,
   ⟨tPort Block.reset 1 laneEq, 7, [], by decide +kernel⟩,
   ⟨tPort Block.reset 3 laneCheck, 15, 64, by decide +kernel⟩,
   ⟨tShown, 3, by decide +kernel⟩,
   ⟨tPort Block.reset 3 laneReady, 15, tBlk true, by decide +kernel⟩,
   ⟨tPort Block.reset 3 laneReady, 15, 7, tBlk false, ⟨false, 0, false, 0, none, none, false, false⟩, by decide +kernel⟩⟩

theorem witness_TrainingFailure :
    (∃ (b : Block) (p skew : Nat), Runs b ∧ b.srd.ports.length = 4 ∧ 2 ≤ p ∧ p < 4 ∧ PortIn b p laneAlign ∧ b.holding p = false ∧ 4 <
      skew)
    ∧ (∃ (b : Block) (k n : Nat), Runs b ∧ b.srd.ports.length = 4 ∧ 8 ≤ k ∧ k < 16 ∧ n ≤ 64 ∧ b.laneState k = laneCheck ∧ b.holding (k
      / 4) = false ∧ eyeWidth n < b.get F.SRD_EYE_CFG_EYE_MIN)
    ∧ (∃ (b : Block) (p : Nat), Runs b ∧ b.srd.ports.length = 4 ∧ 2 ≤ p ∧ p < 4 ∧ b.training p = true)
    ∧ (∃ (b : Block) (p at' : Nat), Runs b ∧ b.srd.ports.length = 4 ∧ p < 4 ∧ (b.srd.ports[p]?).bind (·.failed) = some at') :=
  ⟨⟨tPort Block.reset 3 laneAlign, 3, 5, by decide +kernel⟩,
   ⟨tPort Block.reset 3 laneCheck, 15, 0, by decide +kernel⟩,
   ⟨tPort Block.reset 3 laneReady, 3, by decide +kernel⟩,
   ⟨tFailed, 3, 9, by decide +kernel⟩⟩

theorem witness_LaneLossAndTests :
    (∃ (b : Block) (k : Nat), Runs b ∧ k < 16 ∧ b.laneState k = laneUp)
    ∧ (∃ (b : Block) (k : Nat), Runs b ∧ k < 16 ∧ b.laneState k = laneUp)
    ∧ (∃ (b : Block) (k : Nat), Runs b ∧ 8 ≤ k ∧ k < 16 ∧ b.laneState k = laneUp)
    ∧ (∃ (b : Block) (k n : Nat), Runs b ∧ k < 16 ∧ n ≤ 64)
    ∧ (∃ (b : Block) (k n : Nat), Runs b ∧ k < 16 ∧ n ≤ 64)
    ∧ (∃ (b : Block) (k at' : Nat), Runs b ∧ 8 ≤ k ∧ k < 16 ∧ b.laneState k = laneUp ∧ (b.srd.lanes[k]?).bind (·.lowSince) = some at')
    ∧ (∃ (b : Block) (p : Path) (k : Nat) (v : Word), Runs b ∧ b.gated R.SRD_CMD = false ∧ k < 16 ∧ v.toNat = 2 ^ k ∧ b.laneState k =
      laneUp)
    ∧ (∃ (b : Block) (p : Path) (k : Nat) (v : Word), Runs b ∧ k < 16 ∧ b.gated (R.SRDk_PAT_CTRL k) = false ∧ (F.SRDk_PAT_CTRL_GEN_EN
      k).of v.toNat = 1 ∧ (F.SRDk_PAT_CTRL_INJECT k).of v.toNat = 0 ∧ PortIn b (k / 4) laneUp)
    ∧ (∃ (b : Block) (p : Path) (k : Nat), Runs b ∧ k < 16 ∧ b.gated (R.SRDk_PAT_CTRL k) = false ∧ b.bit (F.SRDk_PAT_CTRL_LOOP k) =
      false)
    ∧ (∃ (b : Block) (p : Path) (k : Nat), Runs b ∧ k < 16 ∧ b.gated (R.SRDk_PAT_CTRL k) = false ∧ b.bit (F.SRDk_PAT_CTRL_LOOP k) =
      true ∧ b.bit (F.SRDk_STATUS_CHK_LOCK k) = true)
    ∧ (∃ (b : Block) (k : Nat), Runs b ∧ k < 16 ∧ b.laneState k = laneTest ∧ b.bit (F.SRDk_PAT_CTRL_CHK_EN k) = true ∧ b.get
      (F.SRDk_PAT_CTRL_PATTERN k) ≤ 5 ∧ b.bit (F.SRDk_STATUS_CHK_LOCK k) = false)
    ∧ (∃ (b : Block) (k errors : Nat), Runs b ∧ k < 16 ∧ b.bit (F.SRDk_STATUS_CHK_LOCK k) = true ∧ 0 < errors) :=
  ⟨⟨tPortUp 3, 15, by decide +kernel⟩,
   ⟨tPortUp 0, 0, by decide +kernel⟩,
   ⟨tPortUp 3, 15, by decide +kernel⟩,
   ⟨tPortUp 3, 15, 64, by decide +kernel⟩,
   ⟨tPortUp 3, 15, 1, by decide +kernel⟩,
   ⟨tLow, 15, 7, by decide +kernel⟩,
   ⟨tPortUp 3, .i3c, 15, 0x8000, by decide +kernel⟩,
   ⟨tPortUp 3, .i3c, 15, BitVec.ofNat 32 ((F.SRDk_PAT_CTRL_GEN_EN 15).into 0 1), by decide +kernel⟩,
   ⟨Block.reset, .i3c, 15, by decide +kernel⟩,
   ⟨tSet Block.reset [(F.SRDk_PAT_CTRL_LOOP 15, 1), (F.SRDk_STATUS_CHK_LOCK 15, 1), (F.SRDk_CNT_Ti_LO 15 1, 2 ^ 32 - 1)], .i3c, 15,
     by decide +kernel⟩,
   ⟨tSet (tPort Block.reset 3 laneTest) [(F.SRDk_PAT_CTRL_CHK_EN 15, 1)], 15, by decide +kernel⟩,
   ⟨tSet (tPort Block.reset 3 laneTest) [(F.SRDk_STATUS_CHK_LOCK 15, 1)], 15, 512, by decide +kernel⟩⟩

theorem witness_DramPowerDownAndUpkeep :
    (∃ (b : Block) (n : Nat), Runs b ∧ n < 8)
    ∧ (∃ (b : Block) (n : Nat), Runs b ∧ n < 8)
    ∧ (∃ (b : Block) (c : Nat), Runs b ∧ c < 4 ∧ b.drmOn = true ∧ b.get (F.DRM_CHc_STATUS_PSTATE c) = 0)
    ∧ (∃ (b : Block) (c : Nat), Runs b ∧ c < 4 ∧ b.drmOn = true ∧ b.get (F.DRM_CHc_STATUS_PSTATE c) = 0)
    ∧ (∃ (b : Block) (c : Nat) (drift : Int), Runs b ∧ c < 4 ∧ b.drmOn = true ∧ b.get (F.DRM_CHc_STATUS_PSTATE c) ≠ 0 ∧
      b.drm.exiting.getD c false = true)
    ∧ (∃ (b : Block) (client g : Nat), b.get (F.DRM_CHc_STATUS_PSTATE (granuleChannel g)) = 0)
    ∧ (∃ (b : Block) (client g : Nat), b.get (F.DRM_CHc_STATUS_PSTATE (granuleChannel g)) ≠ 0 ∧ b.drm.exiting.length = 4)
    ∧ (∃ (b : Block) (c : Nat) (drift : Int), Runs b ∧ c < 4 ∧ b.drmOn = true ∧ b.get (F.DRM_CHc_STATUS_PSTATE c) ≠ 0 ∧
      b.drm.exiting.getD c false = true)
    ∧ (∃ (b : Block) (drifts : List Int), Runs b ∧ b.drmOn = true ∧ (List.range 4).any b.selfRefresh = false ∧ b.drm.delay.length = 16)
    ∧ (∃ (b : Block) (c : Nat), Runs b ∧ c < 4 ∧ b.drmOn = true ∧ b.selfRefresh c = false ∧ b.drm.refresh.length = 4 ∧
      b.drm.bank.length = 4)
    ∧ (∃ (b : Block) (c : Nat), Runs b ∧ c < 4 ∧ b.drmOn = true ∧ b.selfRefresh c = false ∧ b.drm.refresh.length = 4 ∧
      b.drm.bank.length = 4)
    ∧ (∃ (b : Block) (r : Nat × Bool × Bool), Runs b ∧ b.drmOn = true ∧ r.1 < 8 ∧ r.2.2 = false)
    ∧ (∃ (b : Block) (rises : List Nat), Runs b ∧ b.drmOn = true) :=
  ⟨⟨tDrm, 7, by decide +kernel⟩,
   ⟨tDrm, 0, by decide +kernel⟩,
   ⟨tDrm, 3, by decide +kernel⟩,
   ⟨tSet tDrm [(F.DRM_PM_CTRL_MAX_STATE, 3)], 0, by decide +kernel⟩,
   ⟨tExiting 3 2, 3, -5, by decide +kernel⟩,
   ⟨tDrm, 1, 9, by decide +kernel⟩,
   ⟨tExiting 3 1, 1, 7, by decide +kernel⟩,
   ⟨tExiting 0 1, 0, 5, by decide +kernel⟩,
   ⟨tDrm, [1, -2, 3, -4], by decide +kernel⟩,
   ⟨tSet tDrm [(F.DRM_CHc_STATUS_HOT 3, 1)], 3, by decide +kernel⟩,
   ⟨tSet tDrm [(F.DRM_CHc_STATUS_PSTATE 0, 1)], 0, by decide +kernel⟩,
   ⟨tDrm, (7, true, false), by decide +kernel⟩,
   ⟨tDrm, [1, 2, 3, 2 ^ 33], by decide +kernel⟩⟩

theorem witness_MemoryErrors :
    (∃ (b : Block) (a : Nat) (retryOk : Bool), Runs b ∧ a < dramSize b.fuses ∧ b.drmOn = true)
    ∧ (∃ (b : Block) (a : Nat), Runs b ∧ 64 * 250001 ≤ a ∧ a < dramSize b.fuses ∧ b.drmOn = true ∧ b.hif.rings = [])
    ∧ (∃ (b : Block), Runs b ∧ b.get F.QDR_SCRUB_PERIOD_S ≠ 0 ∧ b.pm.gate = false)
    ∧ (∃ (b : Block) (w s : Nat), Runs b ∧ 4 * w < 0x2400000 ∧ b.pm.gate = false)
    ∧ (∃ (b : Block) (w s : Nat), Runs b ∧ 0x600000 ≤ 4 * w ∧ 4 * w < 0x1200000 ∧ b.pm.gate = false)
    ∧ (∃ (b : Block) (w s : Nat), Runs b ∧ 0x600000 ≤ 4 * w ∧ 4 * w < 0x1200000 ∧ b.pm.gate = false)
    ∧ (∃ (b : Block) (w s : Nat), Runs b ∧ 4 * w < lampBase ∧ b.pm.gate = false) :=
  ⟨⟨tDrm, 0xFFF, true, by decide +kernel⟩,
   ⟨tDrm, 128 * 2 ^ 30 - 1, by decide +kernel⟩,
   ⟨tSet tDrm [(F.QDR_SCRUB_PERIOD_S, 1)], by decide +kernel⟩,
   ⟨tDrm, 0x8FFFFF, 95, by decide +kernel⟩,
   ⟨tDrm, 0x180000, 0, by decide +kernel⟩,
   ⟨tDrm, 0x47FFFF, 0, by decide +kernel⟩,
   ⟨tDrm, 0, 0, by decide +kernel⟩⟩

theorem witness_AudioStreamsAndBlocks :
    (∃ (b : Block) (x : AudioPacket) (a k : Nat), Runs b ∧ b.audMatch x.addr = some a ∧ a < 4 ∧ b.aud.streams.length = 4 ∧ x.pt =
      b.audGet a (F.AUDp_STR_CTRL_PT a) ∧ x.payload.length = (if b.audBit a (F.AUDp_STR_CTRL_L24 a) then 3 else 2) * (b.audGet a
      (F.AUDp_STR_CTRL_CH_M1 a) + 1) ∧ k = sampleIndex (audFs (b.audGet a (F.AUDp_STR_CTRL_RATE a))) x.ts x.rx ∧ (b.audDelay a).all
      (fun d => decide (k + d ≤ x.rx * audFs (b.audGet a (F.AUDp_STR_CTRL_RATE a)) / 1000000000 + 16320 + 64)) = true ∧ (b.audStream
      a).valid.contains (k % 16384) = false ∧ (b.audStream a).fetchedTo = none)
    ∧ (∃ (b : Block) (x : AudioPacket) (a : Nat), Runs b ∧ b.audMatch x.addr = some a ∧ a < 4 ∧ x.pt ≠ b.audGet a (F.AUDp_STR_CTRL_PT
      a))
    ∧ (∃ (b : Block) (a at' : Nat) (q : Option Nat), Runs b ∧ a < 4 ∧ b.isHead = true ∧ (b.audStream a).heard = [some at', q] ∧ b.bit
      (F.AUDp_STATUS_PATH_A_UP a) = true ∧ b.bit (F.AUDp_STATUS_PATH_B_UP a) = false)
    ∧ (∃ (b : Block) (failed : List Nat), Runs b ∧ b.pm.stcStopped = false ∧ 1000000 * b.nextBlock < 2 ^ 64 ∧ b.aud.ports.length = 4 ∧
      b.get F.AUD_STATUS_RUNNING = 0)
    ∧ (∃ (b : Block) (p : Nat) (r96 : Bool) (poison : List Nat) (ins : List (Nat × List Nat)), Runs b ∧ p < 4 ∧ b.aud.ports.length = 4
      ∧ b.get F.AUD_STATUS_RUNNING = 2 ^ p ∧ b.audBit p (F.AUDp_CFG_RATE p) = r96) :=
  ⟨⟨tAud, tPacket 98, 3, 48000, by decide +kernel⟩,
   ⟨tAud, tPacket 97, 3, by decide +kernel⟩,
   ⟨tHeard, 3, 7, none, by decide +kernel⟩,
   ⟨{ tSet tAud [(F.AUDp_CFG_EN 2, 1), ((F.AUDp_CFG_EN 2).act, 1)] with stc := 1 }, [], by decide +kernel⟩,
   ⟨tPlay, 3, false, [], [], by decide +kernel⟩⟩

theorem witness_GroupMembership :
    (∃ (b : Block) (m : Member), Runs b ∧ b.ing.members = [m])
    ∧ (∃ (b : Block) (r : Pending), Runs b ∧ b.ing.reports = [r] ∧ 2 ≤ r.left) :=
  ⟨⟨tJoined, tMember, by decide +kernel⟩,
   ⟨tJoined, ⟨tMember, true, 2, 55⟩, by decide +kernel⟩⟩

theorem witness_FeedStates :
    (∃ (b : Block) (x : Nat) (dc : Bool), x < 2 ∧ b.feed x = feedOut ∧ b.feed (1 - x) = feedConv ∧ b.pwr.mode = 1 ∧ b.pwr.copy = none)
    ∧ (∃ (b : Block) (x : Nat) (dc : Bool), x < 2 ∧ b.feed x = feedOut ∧ b.feed (1 - x) = feedConv ∧ b.pwr.mode = 1 ∧ b.pwr.copy =
      none)
    ∧ (∃ (b : Block) (x : Nat) (dc : Bool), x < 2 ∧ b.feed x = feedOut ∧ b.feed (1 - x) = feedOut ∧ b.feedBusy = false ∧ b.pwr.mode < 2
      ∧ b.pwr.primary < 2 ∧ b.pwr.copy = none)
    ∧ (∃ (b : Block) (x : Nat) (dc : Bool), x < 2 ∧ b.feed x = feedOut ∧ b.feed (1 - x) = feedOut ∧ b.feedBusy = false ∧ b.pwr.mode < 2
      ∧ b.pwr.primary < 2 ∧ b.pwr.copy = none)
    ∧ (∃ (b : Block) (x cause : Nat), Runs b ∧ x < 2 ∧ 1 ≤ cause ∧ cause < 3 ∧ b.feed x = feedConv ∧ b.feed (1 - x) = feedReady ∧
      b.feedBusy = false ∧ b.pwr.mode = 1 ∧ b.get F.PWR_STATUS_IN_RANGE = 3)
    ∧ (∃ (b : Block) (x cause : Nat), Runs b ∧ x < 2 ∧ 1 ≤ cause ∧ cause < 3 ∧ b.feed x = feedConv ∧ b.feed (1 - x) = feedReady ∧
      b.feedBusy = false ∧ b.pwr.mode = 1 ∧ b.get F.PWR_STATUS_IN_RANGE = 3)
    ∧ (∃ (b : Block) (x cause : Nat), Runs b ∧ x < 2 ∧ 1 ≤ cause ∧ cause < 3 ∧ b.feed x = feedConv ∧ b.feed (1 - x) = feedOut ∧
      b.feedBusy = false ∧ b.pwr.mode < 2 ∧ b.pwr.primary < 2 ∧ b.get F.PWR_STATUS_IN_RANGE = 2 ^ x)
    ∧ (∃ (b : Block) (x cause : Nat), Runs b ∧ x < 2 ∧ 1 ≤ cause ∧ cause < 3 ∧ b.feed x = feedConv ∧ b.feed (1 - x) = feedOut ∧
      b.feedBusy = false ∧ b.pwr.mode < 2 ∧ b.pwr.primary < 2 ∧ b.get F.PWR_STATUS_IN_RANGE = 2 ^ x)
    ∧ (∃ (b : Block) (x : Nat), Runs b ∧ x < 2 ∧ b.feed x = feedReady ∧ b.feed (1 - x) = feedConv ∧ b.feedBusy = false ∧ b.get
      F.PWR_STATUS_IN_RANGE = 3)
    ∧ (∃ (b : Block) (x : Nat), x < 2 ∧ b.feed x = feedOver ∧ b.feed (1 - x) = feedConv ∧ b.pwr.mode = 1) :=
  ⟨⟨tFeeds 0 2 1, 0, true, by decide +kernel⟩,
   ⟨tFeeds 2 0 1, 1, false, by decide +kernel⟩,
   ⟨tFeeds 0 0 0, 1, false, by decide +kernel⟩,
   ⟨tFeeds 0 0 1, 1, false, by decide +kernel⟩,
   ⟨tFeeds 2 1 1, 0, 2, by decide +kernel⟩,
   ⟨tFeeds 1 2 1, 1, 1, by decide +kernel⟩,
   ⟨tFeeds 2 0 1, 0, 1, by decide +kernel⟩,
   ⟨tFeeds 0 2 0, 1, 1, by decide +kernel⟩,
   ⟨tFeeds 1 2 1, 0, by decide +kernel⟩,
   ⟨tFeeds 2 3 1, 1, by decide +kernel⟩⟩

theorem witness_FeedTransfers :
    (∃ (b : Block) (after : Nat), b.bit F.PWR_STATUS_SWITCHING = true ∧ b.pwr.modeDue = false ∧ b.pwr.mode = 1 ∧ ((b.feed 0 = feedConv
      ∨ b.feed 1 = feedConv)))
    ∧ (∃ (b : Block) (p : Path) (v : Word) (x : Nat), Runs b ∧ b.gated R.PWR_CMD = false ∧ v.toNat % 2 = 1 ∧ b.pwr.mode = 1 ∧
      b.feedBusy = false ∧ x < 2 ∧ b.feed x = feedReady ∧ b.feed (1 - x) = feedConv)
    ∧ (∃ (b : Block) (after x : Nat), x < 2 ∧ b.pwr.moving = some x ∧ b.feed x = feedConv ∧ b.feed (1 - x) = feedConv ∧ b.pwr.modeDue =
      false ∧ b.pwr.mode = 1)
    ∧ (∃ (b : Block) (since : Nat), b.pwr.primary < 2 ∧ (b.pwr.readySince[b.pwr.primary]?).join = some since ∧ b.pwr.mode = 1 ∧
      b.actBit F.PWR_FEED_CTRL_REVERT = true ∧ b.pwr.noRevert = false ∧ b.feedBusy = false ∧ b.feed (1 - b.pwr.primary) = feedConv ∧
      b.feed b.pwr.primary = feedReady) :=
  ⟨⟨tSet (tFeeds 0 2 1) [(F.PWR_STATUS_SWITCHING, 1)], 7000000, by decide +kernel⟩,
   ⟨tFeeds 1 2 1, .i3c, 1, 0, by decide +kernel⟩,
   ⟨{ tFeeds 2 2 1 with pwr := { (tFeeds 2 2 1).pwr with moving := some 0 } }, 5, 0, by decide +kernel⟩,
   ⟨{ tFeeds 1 2 1 with pwr := { (tFeeds 1 2 1).pwr with readySince := [some 3, none] } }, 3, by decide +kernel⟩⟩

theorem witness_FeedMetersAndEnergyPlan :
    (∃ (b : Block) (energy : List Nat) (m0 m1 : Nat × Nat × Nat × Nat), b.pwr.modeDue = false ∧ m0.2.2.1 < 2 ^ 32 ∧ m1.1 < 2 ^ 32 ∧
      b.get F.PWR_STATUS_CONVERTING ≠ 0)
    ∧ (∃ (b : Block), Runs b)
    ∧ (∃ (b : Block), b.bit F.PWR_STATUS_HOLDUP = true)
    ∧ (∃ (b : Block), Runs b ∧ b.pins.auxOn = true)
    ∧ (∃ (b : Block) (off : Nat), b.pwr.auxOff = some off)
    ∧ (∃ (b : Block) (p : Plan), Runs b ∧ b.eventFrame b.pwr.planned = some p ∧ b.plansPower = true ∧ b.duty ≠ dutyActive)
    ∧ (∃ (b b1 : Block) (rx : Rx) (m : ChainEnergy) (i : Nat), Runs b ∧ b.receive rx = .accepted b1 ∧ rx.msg.body = .chainEnergy m ∧
      b1.isHead = true ∧ i < 64 ∧ b1.actBit (F.PWR_PEERi_EN i) = true ∧ b1.act (F.PWR_PEERi_NODE i) = rx.msg.src ∧ b1.pwr.peers = [])
    ∧ (∃ (b : Block) (p : Plan), Runs b ∧ b.eventFrame b.pwr.decided = some p ∧ b.isHead = true ∧ b.plansPower = false)
    ∧ (∃ (b : Block) (p : Plan), Runs b ∧ b.eventFrame b.pwr.decided = some p ∧ b.plansPower = true ∧ b.pwr.planned = some p.wfn ∧
      b.pwr.peers = []) :=
  ⟨⟨tFeeds 2 2 0, [1, 2, 3, 4, 5], (230000, 1, 2 ^ 32 - 1, 50000), (2, 3, 4, 5), by decide +kernel⟩,
   ⟨tFeeds 2 2 0, by decide +kernel⟩,
   ⟨tSet (tFeeds 0 0 0) [(F.PWR_STATUS_HOLDUP, 1)], by decide +kernel⟩,
   ⟨Block.reset, by decide +kernel⟩,
   ⟨{ Block.reset with pwr := { Block.reset.pwr with auxOff := some 3 } }, 3, by decide +kernel⟩,
   ⟨tPlanner, { tPlanner.frm.cur with wfn := 5 }, by decide +kernel⟩,
   ⟨tPlanner, tTaken tPlanner tEnergy, tEnergy, ⟨6, 1, 77, false, false, 5, 0, 0, 0, 0x7000⟩, 63, by decide +kernel⟩,
   ⟨{ tPlanner with regs := (tSet Block.reset [(F.SYS_ROLE_ROLE, 2)]).regs }, { tPlanner.frm.cur with wfn := 5 }, by decide +kernel⟩,
   ⟨{ tPlanner with pwr := { tPlanner.pwr with planned := some 5 } }, { tPlanner.frm.cur with wfn := 5 }, by decide +kernel⟩⟩

theorem witness_CalibrationCycles :
    (∃ (b : Block) (p : Path) (v : Word), Runs b ∧ b.gated R.CAL_CMD = false ∧ F.CAL_CMD_CYCLE.of v.toNat = 1 ∧ F.CAL_CMD_SAVE.of
      v.toNat = 0 ∧ F.CAL_CMD_ABORT.of v.toNat = 0 ∧ b.calMayRun = true ∧ b.bit F.CAL_STATUS_CYCLE = false)
    ∧ (∃ (b : Block) (p : Path) (v : Word), Runs b ∧ b.gated R.CAL_CMD = false ∧ F.CAL_CMD_CYCLE.of v.toNat = 1 ∧ F.CAL_CMD_SAVE.of
      v.toNat = 0 ∧ F.CAL_CMD_ABORT.of v.toNat = 0 ∧ b.calMayRun = false)
    ∧ (∃ (b : Block) (start : Nat), Runs b ∧ b.cal.lastStart = some start ∧ b.get F.CAL_CTRL_INTERVAL_S ≠ 0 ∧ b.calMayRun = true ∧
      b.bit F.CAL_STATUS_CYCLE = false)
    ∧ (∃ (b : Block) (p : Path) (v : Word), Runs b ∧ b.gated R.CAL_CMD = false ∧ F.CAL_CMD_CYCLE.of v.toNat = 0 ∧ F.CAL_CMD_SAVE.of
      v.toNat = 0 ∧ F.CAL_CMD_ABORT.of v.toNat = 1 ∧ b.bit F.CAL_STATUS_CYCLE = true) :=
  ⟨⟨tCal, .i3c, 1, by decide +kernel⟩,
   ⟨Block.reset, .i3c, 1, by decide +kernel⟩,
   ⟨{ tCal with cal := { tCal.cal with lastStart := some 5 } }, 5, by decide +kernel⟩,
   ⟨tCycle, .i3c, BitVec.ofNat 32 (F.CAL_CMD_ABORT.into 0 1), by decide +kernel⟩⟩

theorem witness_CalibrationSteps :
    (∃ (b : Block) (uv ends : Nat), Runs b ∧ b.pm.gate = false ∧ b.refSampleAt = some ends ∧ b.cal.samples = [] ∧ 2487500 ≤ uv ∧ uv ≤
      2512500)
    ∧ (∃ (b : Block) (uv ends : Nat), Runs b ∧ b.pm.gate = false ∧ b.refSampleAt = some ends ∧ (uv < 2487500 ∨ 2512500 < uv))
    ∧ (∃ (b : Block) (uv ends : Nat), Runs b ∧ b.pm.gate = false ∧ b.refSampleAt = some ends ∧ (uv < 2487500 ∨ 2512500 < uv))
    ∧ (∃ (b : Block) (e : Int) (dur start : Nat), Runs b ∧ b.cal.step = some start ∧ b.get F.CAL_STATUS_TARGET < 198 ∧ (b.untilStc
      (start + min dur (calTime (b.get F.CAL_STATUS_TARGET)))).calBroken (b.get F.CAL_STATUS_TARGET) = false ∧ e.natAbs ≤ max 1 (b.get
      F.CAL_LIMIT_RESID_PPM) ∧ e.natAbs < 2 ^ 31)
    ∧ (∃ (b : Block) (e : Int) (dur start : Nat), Runs b ∧ b.cal.step = some start ∧ b.get F.CAL_STATUS_TARGET < 198 ∧ (b.untilStc
      (start + min dur (calTime (b.get F.CAL_STATUS_TARGET)))).calBroken (b.get F.CAL_STATUS_TARGET) = false ∧ max 1 (b.get
      F.CAL_LIMIT_RESID_PPM) < e.natAbs ∧ b.cal.adjusted = [] ∧ b.cal.codes = [] ∧ 0 ≤ (b.get (F.CAL_TRIMt_CODE (b.get
      F.CAL_STATUS_TARGET)) : Int) - calDelta (b.get F.CAL_STATUS_TARGET) e ∧ (b.get (F.CAL_TRIMt_CODE (b.get F.CAL_STATUS_TARGET)) :
      Int) - calDelta (b.get F.CAL_STATUS_TARGET) e ≤ 0xFFF)
    ∧ (∃ (b w : Block) (r : List Nat), Runs b ∧ b.shutdown = false ∧ b.pm.gate = false ∧ b.bit F.CAL_STATUS_CYCLE = true ∧ b.cal.step =
      none ∧ b.cal.due = 0 :: r ∧ b.bit F.CAL_STATUS_REF_OK = true ∧ w = { b.untilStc (nsOf b.frm.cur.guard + 5000) with cal.later :=
      [] } ∧ w.calFits 0 = true) :=
  ⟨⟨tGuard, 2487500, 10000, by decide +kernel⟩,
   ⟨tGuard, 2512501, 10000, by decide +kernel⟩,
   ⟨tGuard, 0, 10000, by decide +kernel⟩,
   ⟨tStep 1, -1, 20000, 0, by decide +kernel⟩,
   ⟨tStep 1, 700, 20000, 0, by decide +kernel⟩,
   ⟨tOpen, { tOpen.untilStc (nsOf tOpen.frm.cur.guard + 5000) with cal := { tOpen.cal with later := [] } }, [1], by decide +kernel⟩⟩

theorem witness_CalibrationStore :
    (∃ (b : Block) (p : Path) (v : Word), Runs b ∧ b.gated R.CAL_CMD = false ∧ F.CAL_CMD_CYCLE.of v.toNat = 0 ∧ F.CAL_CMD_SAVE.of
      v.toNat = 1 ∧ F.CAL_CMD_ABORT.of v.toNat = 0 ∧ b.cal.saving = none)
    ∧ (∃ (b : Block) (k after : Nat) (c : CalCopy), Runs b ∧ b.cal.saving = some (k, c) ∧ k < 2 ∧ b.cal.copies.length = 2 ∧ c.seq < 2 ^
      32)
    ∧ (∃ (b : Block) (k after : Nat) (c : CalCopy), Runs b ∧ b.cal.saving = some (k, c) ∧ k < 2) :=
  ⟨⟨tCal, .i3c, BitVec.ofNat 32 (F.CAL_CMD_SAVE.into 0 1), by decide +kernel⟩,
   ⟨tSaving, 1, 5, tCal.calImage 1, by decide +kernel⟩,
   ⟨tSaving, 1, 5, tCal.calImage 1, by decide +kernel⟩⟩

theorem witness_ThermalSamples :
    (∃ (b : Block) (x : Int), Runs b ∧ b.pmState ≠ pmOff ∧ -440 ≤ x ∧ x < 680)
    ∧ (∃ (b : Block) (x : Int), Runs b ∧ b.pmState ≠ pmOff ∧ -440 ≤ x ∧ x < 680)
    ∧ (∃ (b : Block) (x : Int), Runs b ∧ b.pmState ≠ pmOff ∧ b.shutdown = false ∧ b.thm.tripping = List.replicate 6 true ∧ 960 ≤ x ∧ x
      ≤ 1200)
    ∧ (∃ (b : Block) (cool : Nat), Runs b ∧ b.thm.coolFrom = some cool ∧ b.shutdown = true) :=
  ⟨⟨tCal, -440, by decide +kernel⟩,
   ⟨tCal, 679, by decide +kernel⟩,
   ⟨{ tCal with thm := { tCal.thm with tripping := List.replicate 6 true } }, 1200, by decide +kernel⟩,
   ⟨{ tSet tCal [(F.THM_STATUS_STATE, 2)] with thm := { tCal.thm with coolFrom := some 7 } }, 7, by decide +kernel⟩⟩

theorem witness_PowerRequests :
    (∃ (b : Block) (p : Path) (w : Bool), Runs b ∧ b.role ≠ 0 ∧ b.pmState = pmDim)
    ∧ (∃ (b : Block) (p : Path) (w : Bool), Runs b ∧ b.role ≠ 0 ∧ b.pmState = pmActive)
    ∧ (∃ (b : Block) (p : Path) (w : Bool), Runs b ∧ b.role = 0 ∧ b.pmState = pmActive)
    ∧ (∃ (b : Block) (p : Path) (w : Bool), Runs b ∧ b.role ≠ 0 ∧ (b.pmState = pmActive ∨ b.pmState = pmDim) ∧ (w = true ∨ b.refuser
      false = none))
    ∧ (∃ (b : Block) (p : Path) (w : Bool), Runs b ∧ b.role ≠ 0 ∧ (b.pmState = pmActive ∨ b.pmState = pmDim) ∧ (w = true ∨ b.refuser
      false = none))
    ∧ (∃ (b : Block) (p : Path) (blk reason : Nat), Runs b ∧ b.role ≠ 0 ∧ (b.pmState = pmActive ∨ b.pmState = pmDim) ∧ b.refuser false
      = some (blk, reason) ∧ blk < 256 ∧ reason < 256) :=
  ⟨⟨tPm pmDim, .i3c, true, by decide +kernel⟩,
   ⟨tPm pmActive, .i3c, false, by decide +kernel⟩,
   ⟨Block.reset, .i3c, true, by decide +kernel⟩,
   ⟨tPm pmActive, .i3c, false, by decide +kernel⟩,
   ⟨tPm pmDim, .i3c, true, by decide +kernel⟩,
   ⟨tSet (tPm pmActive) [(F.HIF_DMAn_STATUS_STATE 7, 1)], .i3c, 1, 1, by decide +kernel⟩⟩

theorem witness_SleepAndWaking :
    (∃ (b : Block) (st after : Nat), Runs b ∧ b.pm.gate = true ∧ b.pm.entering = some st ∧ (st = pmBracken ∨ st = pmRetain))
    ∧ (∃ (b : Block) (st after : Nat), Runs b ∧ b.pm.gate = true ∧ b.pm.entering = some st ∧ (st = pmBracken ∨ st = pmRetain))
    ∧ (∃ (b : Block) (after : Nat), Runs b ∧ b.pm.gate = true ∧ b.pm.entering = some pmOff)
    ∧ (∃ (b : Block), Runs b ∧ b.asleep = true ∧ b.get F.PM_WAKE_TIMER_S ≠ 0 ∧ bitOf (b.get F.PM_WAKE_EN_EN) 1 = true)
    ∧ (∃ (b : Block) (tone1 sync : Bool), Runs b ∧ b.pmState = pmBracken ∧ bitOf (b.get F.PM_WAKE_EN_EN) 4 = true)
    ∧ (∃ (b : Block) (tone0 tone1 sync : Bool), Runs b ∧ b.pmState = pmBracken ∧ b.get F.PM_WAKE_EN_EN = 0)
    ∧ (∃ (b : Block), Runs b ∧ b.asleep = true ∧ b.pm.wakes ≠ 0 ∧ b.pm.wakes < 512 ∧ b.flt.deferred = [])
    ∧ (∃ (b : Block) (drifts : List Int) (after : Nat), Runs b ∧ b.pmState = pmWaking)
    ∧ (∃ (b : Block) (p at' : Nat), Runs b ∧ p < 2 ∧ b.pm.toneEnds = [(p, at')]) :=
  ⟨⟨tEntry pmBracken, 2, 4000000, by decide +kernel⟩,
   ⟨tEntry pmRetain, 3, 1, by decide +kernel⟩,
   ⟨tEntry pmOff, 1, by decide +kernel⟩,
   ⟨tSleep pmRetain, by decide +kernel⟩,
   ⟨tSleep pmBracken, false, true, by decide +kernel⟩,
   ⟨tSet (tSleep pmBracken) [(F.PM_WAKE_EN_EN, 0)], true, true, true, by decide +kernel⟩,
   ⟨tSleep pmRetain, by decide +kernel⟩,
   ⟨tPm pmWaking, [1, 2, 3, 4], 5, by decide +kernel⟩,
   ⟨{ tPm pmActive with pm := { (tPm pmActive).pm with toneEnds := [(1, 9)] } }, 1, 9, by decide +kernel⟩⟩

theorem witness_UpdateDelivery :
    (∃ (b : Block) (p : Path) (v : Word), Runs b ∧ b.gated R.UPD_CMD = false ∧ F.UPD_CMD_OP.of v.toNat = 1 ∧ b.upd.noDram = false ∧
      (b.updState = updIdle ∨ b.updState = updRefused) ∧ b.stagingOk = true)
    ∧ (∃ (b : Block) (p : Path) (v : Word), Runs b ∧ b.gated R.UPD_CMD = false ∧ F.UPD_CMD_OP.of v.toNat = 1 ∧ b.updState ≠ updIdle ∧
      b.updState ≠ updRefused)
    ∧ (∃ (b : Block) (p : Path) (v : Word), Runs b ∧ b.gated R.UPD_BLK_DATA = false ∧ b.upd.boxes.length = 4 ∧ (b.upd.boxes.getD
      p.index []).length < 1024)
    ∧ (∃ (b : Block) (p : Path) (v : Word) (sigOk : Bool) (root : Option (Nat × List Byte)) (h : UpdHeader) (off : Nat) (bs : List
      Byte), Runs b ∧ b.gated R.UPD_BLK_SUBMIT = false ∧ F.UPD_BLK_SUBMIT_GO.of v.toNat = 1 ∧ b.upd.noDram = false ∧ b.updState =
      updReceiving ∧ b.upd.head = some h ∧ off = b.get (F.UPD_BLK_OFFSET_OFFSET.on p) ∧ bs = ((b.upd.boxes.getD p.index []).map (fun w
      => leBytes 4 w.toNat)).flatten ∧ blockFits (imageLen h) off bs.length = true ∧ b.upd.got.contains (off / 4096) = false ∧
      b.upd.got.length + 1 < ceilDiv (imageLen h) 4096 ∧ b.upd.got.length < 2 ^ 15 - 1)
    ∧ (∃ (b c : Block) (rx : Rx) (sigOk : Bool) (root : Option (Nat × List Byte)) (h : UpdHeader) (off st : Nat) (bs : List Byte), Runs
      b ∧ b.receive rx = .accepted c ∧ rx.msg.response = false ∧ rx.msg.body = .updBlock off bs.length st h.imageId bs ∧ c.upd.noDram =
      false ∧ c.updState = updReceiving ∧ c.upd.head = some h ∧ blockFits (imageLen h) off bs.length = true ∧ c.upd.got.contains (off /
      4096) = true ∧ c.upd.got.length < ceilDiv (imageLen h) 4096)
    ∧ (∃ (b c : Block) (p : Path) (v : Word) (sigOk : Bool) (root : Option (Nat × List Byte)), Runs b ∧ b.gated R.UPD_CMD = false ∧
      F.UPD_CMD_OP.of v.toNat = 3 ∧ b.upd.noDram = false ∧ (b.updState = updIdle ∨ b.updState = updRefused) ∧ b.stagingOk = true ∧
      b.get F.UPD_IMPORT_LEN_BYTES = imageLen (updHeaderOf (b.dramBytes b.stagingWindow.base 512)) ∧ b.updForget.updHeaderCheck
      (b.dramBytes b.stagingWindow.base 512) sigOk root = (true, c))
    ∧ (∃ (b : Block) (p : Path) (v : Word), Runs b ∧ b.gated R.UPD_CMD = false ∧ F.UPD_CMD_OP.of v.toNat = 2 ∧ b.updState ∈ [updIdle,
      updHeader, updReceiving, updReady, updRefused]) :=
  ⟨⟨tUpd 7 1, .i3c, 1, by decide +kernel⟩,
   ⟨tUpd 3 1, .i3c, 1, by decide +kernel⟩,
   ⟨tUpd 2 1, .lysrov, 9, by decide +kernel⟩,
   ⟨tUpd 2 1, .i3c, 1, true, none, tHdr, 4096, (List.replicate 1024 [5, 0, 0, 0]).flatten, by decide +kernel⟩,
   ⟨tUpd 2 1, tTaken (tUpd 2 1) tBlkMsg, tBlkMsg, true, none, tHdr, 0, 0, List.replicate 4096 1, by decide +kernel⟩,
   ⟨tImport, (tImport.updForget.updHeaderCheck tFltHead true none).2, .i3c, 3, true, none, by decide +kernel⟩,
   ⟨tUpd 5 1, .i3c, 2, by decide +kernel⟩⟩

theorem witness_UpdateLife :
    (∃ (b : Block) (h : UpdHeader) (sigOk pointOk : Bool) (shared : List Byte) (after : Nat), Runs b ∧ b.updState = updVerifying ∧
      b.upd.cancel = false ∧ b.upd.head = some h ∧ (h.kind = 1 ∨ h.kind = 2) ∧ sha384 (b.updBody h) = h.bodyHash ∧ b.updBodyOk h
      (b.stagedBody sigOk) = true ∧ b.upd.recs.length = 2)
    ∧ (∃ (b : Block) (h : UpdHeader) (sigOk pointOk : Bool) (shared : List Byte) (after : Nat), Runs b ∧ b.updState = updVerifying ∧
      b.upd.cancel = false ∧ b.upd.head = some h ∧ sha384 (b.updBody h) ≠ h.bodyHash)
    ∧ (∃ (b : Block) (h : UpdHeader) (after : Nat), Runs b ∧ b.updState = updWriting ∧ b.upd.cancel = false ∧ b.upd.head = some h ∧
      h.kind = 1 ∧ b.upd.recs.length = 2)
    ∧ (∃ (b : Block) (p : Path) (v : Word), Runs b ∧ b.gated R.UPD_CMD = false ∧ F.UPD_CMD_OP.of v.toNat = 4 ∧ b.updState = updReady)
    ∧ (∃ (b : Block) (p : Path) (v : Word), Runs b ∧ b.gated R.UPD_CMD = false ∧ b.updState = updReady ∧ b.role ≠ 0 ∧ F.UPD_CMD_OP.of
      v.toNat = 5)
    ∧ (∃ (b : Block) (p : Path) (v : Word), Runs b ∧ b.gated R.UPD_CMD = false ∧ b.updState = updReady ∧ b.role ≠ 0 ∧ F.UPD_CMD_OP.of
      v.toNat = 6 ∧ b.nextLaunch ≤ b.pair F.UPD_ACT_WFN_LO F.UPD_ACT_WFN_HI)
    ∧ (∃ (b : Block) (p : Path) (v : Word), Runs b ∧ b.gated R.UPD_CMD = false ∧ b.updState = updReady ∧ b.role ≠ 0 ∧ F.UPD_CMD_OP.of
      v.toNat = 6 ∧ b.pair F.UPD_ACT_WFN_LO F.UPD_ACT_WFN_HI < b.nextLaunch)
    ∧ (∃ (b : Block) (p : Path) (v : Word) (h : UpdHeader), Runs b ∧ b.gated R.UPD_CMD = false ∧ b.updState = updReady ∧ b.role = 0 ∧
      F.UPD_CMD_OP.of v.toNat = 5 ∧ b.upd.head = some h ∧ h.kind = 1 ∧ b.upd.recs.length = 2 ∧ b.bit F.UPD_TXN_VALID = false)
    ∧ (∃ (b : Block) (p : Path) (v : Word) (s : Nat), Runs b ∧ b.gated R.UPD_CMD = false ∧ b.trialSlot = some s ∧ b.upd.recs.length = 2
      ∧ F.UPD_CMD_OP.of v.toNat = 7)
    ∧ (∃ (b : Block) (p : Path) (v : Word) (s : Nat), Runs b ∧ b.gated R.UPD_CMD = false ∧ b.trialSlot = some s ∧ b.upd.recs.length = 2
      ∧ F.UPD_CMD_OP.of v.toNat = 8)
    ∧ (∃ (b : Block) (s t0 : Nat), Runs b ∧ b.trialSlot = some s ∧ b.upd.recs.length = 2 ∧ b.upd.runFrom = some t0 ∧ b.bit
      F.UPD_CTRL_AUTO_CONFIRM = true ∧ b.stage = stageRun)
    ∧ (∃ (b : Block) (goal after : Nat) (hash : List Byte) (rest : List Burn), Runs b ∧ b.upd.burns = ⟨2, goal, hash⟩ :: rest) :=
  ⟨⟨tStaged2, tHdr2, true, true, [], 9, by decide +kernel⟩,
   ⟨tSmall, tHdr3, true, false, [], 9, by decide +kernel⟩,
   ⟨tUpd 4 1, tHdr, 9, by decide +kernel⟩,
   ⟨tUpd 5 1, .i3c, 4, by decide +kernel⟩,
   ⟨tUpd 5 1, .i3c, 5, by decide +kernel⟩,
   ⟨tUpd 5 1, .i3c, 6, by decide +kernel⟩,
   ⟨tSet (tUpd 5 1) [(F.UPD_ACT_WFN_LO, 0)], .i3c, 6, by decide +kernel⟩,
   ⟨tUpd 5 0, .i3c, 5, tHdr, by decide +kernel⟩,
   ⟨tTrial 1, .i3c, 7, 0, by decide +kernel⟩,
   ⟨tTrial 0, .i3c, 8, 0, by decide +kernel⟩,
   ⟨tTrial 1, 0, 7, by decide +kernel⟩,
   ⟨{ tTrial 1 with upd := { (tTrial 1).upd with burns := [⟨2, 2, []⟩] } }, 2, 3, [], [], by decide +kernel⟩⟩

theorem witness_SessionsAndFaultLog :
    (∃ (b c d : Block) (rx : Rx) (nonce : Nat) (ver : Nat), Runs b ∧ rx.msg.body = .hello nonce ver ∧ b.admitZero rx = (some c, d))
    ∧ (∃ (b c d : Block) (rx : Rx) (nonce nonceR id ver : Nat), Runs b ∧ rx.msg.body = .accept nonce nonceR id ver ∧ b.admitZero rx =
      (some c, d) ∧ c.hif.hellos.any (fun h => h.node == rx.msg.src && h.nonce == nonce) = true)
    ∧ (∃ (b : Block) (n : Nat) (h : Hello), Runs b ∧ b.hif.hellos.find? (·.node == n) = some h ∧ h.tries < 3 ∧ b.viaUdp n = none)
    ∧ (∃ (b : Block) (n : Nat) (h : Hello), Runs b ∧ b.hif.hellos.find? (·.node == n) = some h ∧ 3 ≤ h.tries ∧ n < 2 ^ 16)
    ∧ (∃ (b : Block), Runs b ∧ b.bit F.FLT_STATUS_READY = false ∧ (b.stage = 1 ∨ b.stage = 2) ∧ b.flt.log.all (·.checkOk) = true ∧
      b.pm.islandsOff = false ∧ b.flt.queue.length < 64 ∧ ((∀ x ∈ b.flt.queue, x.code ≤ 0x3010)))
    ∧ (∃ (b : Block) (e : FltEntry) (rest : List FltEntry), Runs b ∧ b.bit F.FLT_STATUS_READY = true ∧ b.flt.queue = e :: rest ∧
      b.flt.heading = false ∧ b.flt.lost = 0 ∧ b.flt.used < 2046 ∧ b.flt.nextSeq + 1 < 2 ^ 32)
    ∧ (∃ (b : Block) (p : Path) (v : Word), Runs b ∧ b.gated R.FLT_CMD = false ∧ F.FLT_CMD_OP.of v.toNat = 1 ∧ F.FLT_CMD_KEY.of v.toNat
      = 0xC1EA)
    ∧ (∃ (b : Block), Runs b ∧ b.flt.heading = true ∧ b.flt.clears + 1 < 2 ^ 32 ∧ b.flt.nextSeq < 2 ^ 32)
    ∧ (∃ (b : Block), Runs b)
    ∧ (∃ (b : Block) (p : Path) (v : Word), Runs b ∧ b.gated R.FLT_CMD = false ∧ F.FLT_CMD_OP.of v.toNat = 2 ∧ b.bit
      F.FLT_STATUS_EXPORTING = false ∧ b.exportSpan.base % 4096 = 0 ∧ b.inDram b.exportSpan = true ∧ b.exportSpan.clearOf [ringTable,
      b.ringPool] = true)
    ∧ (∃ (b : Block) (bs : List Byte), Runs b ∧ b.bit F.FLT_STATUS_EXPORTING = true ∧ bs = ((b.flt.log.filter (·.checkOk)).map
      (·.entry.bytes)).flatten)
    ∧ (∃ (b : Block) (p : Path) (v : Word) (x : LogSlot), Runs b ∧ b.gated R.FLT_RD_SEQ = false ∧ v.toNat < b.flt.nextSeq ∧
      b.flt.oldest ≤ v.toNat ∧ b.flt.log.find? (fun s => s.checkOk && s.entry.seq == v.toNat) = some x) :=
  ⟨⟨tUdp, (tUdp.admitZero tHello).1.getD tUdp, (tUdp.admitZero tHello).2, tHello, 99, 4, by decide +kernel⟩,
   ⟨tUdp, (tUdp.admitZero tAccept).1.getD tUdp, (tUdp.admitZero tAccept).2, tAccept, 99, 98, 3, 4, by decide +kernel⟩,
   ⟨tUdp, 5, ⟨5, 99, 2, 1000⟩, by decide +kernel⟩,
   ⟨{ tUdp with hif := { tUdp.hif with hellos := [⟨5, 99, 3, 1000⟩] } }, 5, ⟨5, 99, 3, 1000⟩, by decide +kernel⟩,
   ⟨tFlt 0 1, by decide +kernel⟩,
   ⟨tFltQ, tEnt 0, [], by decide +kernel⟩,
   ⟨tFlt 1 7, .i3c, 0xC1EA0001, by decide +kernel⟩,
   ⟨tFltC, by decide +kernel⟩,
   ⟨tFlt 1 7, by decide +kernel⟩,
   ⟨tFlt 1 7, .i3c, 2, by decide +kernel⟩,
   ⟨tSet (tFlt 1 7) [(F.FLT_STATUS_EXPORTING, 1)], (tEnt 3).bytes, by decide +kernel⟩,
   ⟨tFlt 1 7, .i3c, 3, ⟨0, tEnt 3, true⟩, by decide +kernel⟩⟩

theorem witness_Commits :
    (∃ (b : Block) (p : Path) (v : Word) (g n : Nat) (late : Bool), Runs b ∧ b.gated R.CFG_COMMIT_CMD = false ∧
      F.CFG_COMMIT_CMD_GROUP.of v.toNat = g ∧ F.CFG_COMMIT_CMD_OP.of v.toNat = 0 ∧ groupAssigned g = true ∧ g ≠ 1 ∧ b.role ≠ 0 ∧ b.idle
      (groupBlock g) = false ∧ b.stagesOf g < 4 ∧ b.heldByPartial g = false ∧ b.shadowCheck g = none ∧ b.nextTarget = (n, late) ∧ n < 2
      ^ 64)
    ∧ (∃ (b : Block) (p : Path) (v : Word) (g n : Nat) (late : Bool), Runs b ∧ b.gated R.CFG_COMMIT_CMD = false ∧
      F.CFG_COMMIT_CMD_GROUP.of v.toNat = g ∧ F.CFG_COMMIT_CMD_OP.of v.toNat = 0 ∧ groupAssigned g = true ∧ g ≠ 1 ∧ b.role ≠ 0 ∧ b.idle
      (groupBlock g) = false ∧ b.stagesOf g < 4 ∧ b.heldByPartial g = false ∧ b.shadowCheck g = none ∧ b.nextTarget = (n, late) ∧ n < 2
      ^ 64)
    ∧ (∃ (b : Block) (p : Path) (v : Word) (g n : Nat), Runs b ∧ b.gated R.CFG_COMMIT_CMD = false ∧ F.CFG_COMMIT_CMD_GROUP.of v.toNat =
      g ∧ F.CFG_COMMIT_CMD_OP.of v.toNat = 1 ∧ groupAssigned g = true ∧ b.role ≠ 0 ∧ b.idle (groupBlock g) = false ∧ n = b.pair
      (F.CFG_COMMIT_TARGET_LO.on p) (F.CFG_COMMIT_TARGET_HI.on p) ∧ n < 2 ^ 64 ∧ b.closePassed n = false ∧ n ≤ b.wfn + 2 ^ 24 ∧
      b.stagesOf g < 4 ∧ b.heldByPartial g = false ∧ b.shadowCheck g = none)
    ∧ (∃ (b : Block) (p : Path) (v : Word) (g n : Nat), Runs b ∧ b.gated R.CFG_COMMIT_CMD = false ∧ F.CFG_COMMIT_CMD_GROUP.of v.toNat =
      g ∧ F.CFG_COMMIT_CMD_OP.of v.toNat = 1 ∧ groupAssigned g = true ∧ b.role ≠ 0 ∧ b.idle (groupBlock g) = false ∧ n = b.pair
      (F.CFG_COMMIT_TARGET_LO.on p) (F.CFG_COMMIT_TARGET_HI.on p) ∧ n < 2 ^ 64 ∧ b.closePassed n = true)
    ∧ (∃ (b : Block) (p : Path) (v : Word) (g : Nat), Runs b ∧ b.gated R.CFG_COMMIT_CMD = false ∧ F.CFG_COMMIT_CMD_GROUP.of v.toNat = g
      ∧ F.CFG_COMMIT_CMD_OP.of v.toNat = 2 ∧ groupAssigned g = true ∧ b.role ≠ 0 ∧ b.idle (groupBlock g) = false ∧ b.stagesOf g < 4 ∧
      b.heldByPartial g = false ∧ b.shadowCheck g = none)
    ∧ (∃ (b : Block) (p : Path) (v : Word) (txn n : Nat), Runs b ∧ b.gated R.CFG_COMMIT_CMD = false ∧ F.CFG_COMMIT_CMD_OP.of v.toNat =
      3 ∧ txn = b.get (F.CFG_COMMIT_TXN_TXN.on p) ∧ n = b.pair (F.CFG_COMMIT_TARGET_LO.on p) (F.CFG_COMMIT_TARGET_HI.on p) ∧
      b.cfg.stages.any (fun s => s.txn == some txn && s.target.isNone) = true ∧ b.role ≠ 0 ∧ b.closePassed n = false ∧ n ≤ b.wfn + 2 ^
      24)
    ∧ (∃ (b : Block) (p : Path) (v : Word) (txn n : Nat), Runs b ∧ b.gated R.CFG_COMMIT_CMD = false ∧ F.CFG_COMMIT_CMD_OP.of v.toNat =
      3 ∧ txn = b.get (F.CFG_COMMIT_TXN_TXN.on p) ∧ n = b.pair (F.CFG_COMMIT_TARGET_LO.on p) (F.CFG_COMMIT_TARGET_HI.on p) ∧
      b.cfg.stages.any (fun s => s.txn == some txn && s.target.isNone) = true ∧ b.role ≠ 0 ∧ b.closePassed n = true)
    ∧ (∃ (b : Block) (p : Path) (v : Word), Runs b ∧ b.gated R.CFG_COMMIT_CMD = false ∧ F.CFG_COMMIT_CMD_OP.of v.toNat = 4 ∧ b.role ≠
      0)
    ∧ (∃ (b : Block) (p : Path) (v : Word) (g : Nat), Runs b ∧ b.gated R.CFG_COMMIT_CMD = false ∧ F.CFG_COMMIT_CMD_GROUP.of v.toNat = g
      ∧ F.CFG_COMMIT_CMD_OP.of v.toNat = 0 ∧ groupAssigned g = false)
    ∧ (∃ (b : Block) (p : Path) (v : Word) (g : Nat), Runs b ∧ b.gated R.CFG_COMMIT_CMD = false ∧ F.CFG_COMMIT_CMD_GROUP.of v.toNat = g
      ∧ F.CFG_COMMIT_CMD_OP.of v.toNat = 0 ∧ groupAssigned g = true ∧ g ≠ 1 ∧ b.role = 0)
    ∧ (∃ (b : Block) (p : Path) (v : Word) (g : Nat), Runs b ∧ b.gated R.CFG_COMMIT_CMD = false ∧ F.CFG_COMMIT_CMD_GROUP.of v.toNat = g
      ∧ F.CFG_COMMIT_CMD_OP.of v.toNat = 0 ∧ groupAssigned g = true ∧ g ≠ 1 ∧ b.role ≠ 0 ∧ b.idle (groupBlock g) = true)
    ∧ (∃ (b : Block) (p : Path) (v : Word) (g : Nat) (code : Nat), Runs b ∧ b.gated R.CFG_COMMIT_CMD = false ∧
      F.CFG_COMMIT_CMD_GROUP.of v.toNat = g ∧ F.CFG_COMMIT_CMD_OP.of v.toNat = 2 ∧ groupAssigned g = true ∧ b.role ≠ 0 ∧ b.idle
      (groupBlock g) = false ∧ b.stagesOf g < 4 ∧ b.heldByPartial g = false ∧ b.shadowCheck g = some code) :=
  ⟨⟨tCom 1 [], .i3c, 8, 8, 6, false, by decide +kernel⟩,
   ⟨{ tCom 1 [] with cfg := { (tCom 1 []).cfg with closed := 6 } }, .i3c, 8, 8, 7, true, by decide +kernel⟩,
   ⟨tCom 1 [], .i3c, 0x108, 8, 8, by decide +kernel⟩,
   ⟨tCom 1 [(F.FRM_WFN_LO, 8)], .i3c, 0x108, 8, 8, by decide +kernel⟩,
   ⟨tCom 1 [], .i3c, 0x208, 8, by decide +kernel⟩,
   ⟨tTxn, .i3c, 0x308, 9, 8, by decide +kernel⟩,
   ⟨tSet tTxn [(F.FRM_WFN_LO, 8)], .i3c, 0x308, 9, 8, by decide +kernel⟩,
   ⟨tTxn, .i3c, 0x400, by decide +kernel⟩,
   ⟨tCom 1 [], .i3c, 0xFF, 0xFF, by decide +kernel⟩,
   ⟨tCom 0 [], .i3c, 0xB0, 0xB0, by decide +kernel⟩,
   ⟨tCom 1 [], .i3c, 0xB0, 0xB0, by decide +kernel⟩,
   ⟨tSet (tCom 1 []) [(F.THM_THROTTLE2_HYST, 21)], .i3c, 0x209, 9, 0x220, by decide +kernel⟩⟩

theorem witness_PartialsAndTransactions :
    (∃ (b : Block) (p : Path) (v : Word) (sigOk : Bool), Runs b ∧ b.gated R.CFG_PR_CMD = false ∧ F.CFG_PR_CMD_OP.of v.toNat = 0 ∧
      b.prState = prIdle ∧ b.scn.load = none ∧ (touchedBy (b.partialAt sigOk)).all (fun g => b.stagesOf g == 0) = true)
    ∧ (∃ (b : Block) (p : Path) (v : Word) (sigOk : Bool), Runs b ∧ b.gated R.CFG_PR_CMD = false ∧ F.CFG_PR_CMD_OP.of v.toNat = 0 ∧
      b.prState = prIdle ∧ (touchedBy (b.partialAt sigOk)).any (fun g => b.stagesOf g != 0) = true)
    ∧ (∃ (b : Block) (p : Path) (v : Word) (sigOk : Bool), Runs b ∧ b.gated R.CFG_PR_CMD = false ∧ F.CFG_PR_CMD_OP.of v.toNat = 0 ∧
      b.prState = prIdle ∧ b.scn.load.isSome = true ∧ (touchedBy (b.partialAt sigOk)).all (fun g => b.stagesOf g == 0) = true)
    ∧ (∃ (b : Block) (i : Image) (e : Err) (poisoned : Bool) (after : Nat), Runs b ∧ b.prState = prChecking ∧ b.cfg.part.image = some i
      ∧ checkPartial b.fuses (b.pair F.CFG_BUILD_ID_LO F.CFG_BUILD_ID_HI) poisoned i = some e)
    ∧ (∃ (b : Block) (p : Path) (v : Word), Runs b ∧ b.gated R.CFG_PR_CMD = false ∧ F.CFG_PR_CMD_OP.of v.toNat = 1 ∧ b.prState =
      prReady)
    ∧ (∃ (b : Block) (p : Path) (v : Word) (n : Nat), Runs b ∧ b.gated R.CFG_PR_CMD = false ∧ F.CFG_PR_CMD_OP.of v.toNat = 2 ∧
      b.prState = prReady ∧ n = b.pair F.CFG_PR_TARGET_LO F.CFG_PR_TARGET_HI ∧ b.closePassed n = false ∧ n ≤ b.wfn + 2 ^ 24)
    ∧ (∃ (b : Block) (p : Path) (v : Word) (n : Nat), Runs b ∧ b.gated R.CFG_PR_CMD = false ∧ F.CFG_PR_CMD_OP.of v.toNat = 2 ∧
      b.prState = prReady ∧ n = b.pair F.CFG_PR_TARGET_LO F.CFG_PR_TARGET_HI ∧ b.closePassed n = true)
    ∧ (∃ (b : Block) (p : Path) (v : Word), Runs b ∧ b.gated R.CFG_PR_CMD = false ∧ F.CFG_PR_CMD_OP.of v.toNat = 3 ∧ (b.prState =
      prReady ∨ b.prState = prError))
    ∧ (∃ (b c : Block) (rx : Rx) (txn target st : Nat) (cu : Bool), Runs b ∧ b.receive rx = .accepted c ∧ rx.msg.body = .txn txn false
      cu st target ∧ rx.msg.response = false ∧ c.duty = dutyTile ∧ c.role ≠ 0 ∧ c.cfg.stages.any (fun s => s.txn == some txn &&
      s.target.isNone) = true ∧ c.updTagged txn = false ∧ c.closePassed target = false ∧ target ≤ c.wfn + 2 ^ 24 ∧ c.lnk.identityLost =
      false)
    ∧ (∃ (b c : Block) (rx : Rx) (txn target st : Nat) (pr cu : Bool), Runs b ∧ b.receive rx = .accepted c ∧ rx.msg.body = .txn txn pr
      cu st target ∧ rx.msg.response = false ∧ c.duty = dutyTile ∧ c.role ≠ 0 ∧ c.updTagged txn = false ∧ c.lnk.identityLost = false)
    ∧ (∃ (b c d : Block) (i : Image) (after : Nat), Runs b ∧ b.prState = prChecking ∧ b.cfg.part.image = some i ∧ c = ((b.dramUse 5
      (b.pair F.CFG_PR_SRC_LO F.CFG_PR_SRC_HI_SRC) i.totalLen).untilClk (b.cfg.part.since + min after (2000000 + 5300000 * ceilDiv
      i.totalLen (2 ^ 20)))).copyPartial i ∧ checkPartial b.fuses (b.pair F.CFG_BUILD_ID_LO F.CFG_BUILD_ID_HI) false i = none ∧
      c.checkTables i c.idleBank = (none, d) ∧ d.partialChecks i = none) :=
  ⟨⟨tSrc (tCom 1 []) tPart.bytes, .i3c, 0, true, by decide +kernel⟩,
   ⟨tSrc (tStaged [⟨8, [], none, some 9⟩]) tPartBytes, .i3c, 0, true, by decide +kernel⟩,
   ⟨{ tSrc (tCom 1 []) tPart.bytes with scn := { (tCom 1 []).scn with load := some 0x2000 } }, .i3c, 0, true, by decide +kernel⟩,
   ⟨tPr 1 tImage, tImage, E.CFG_BASE, false, 9, by decide +kernel⟩,
   ⟨tPr 2 tPart, .i3c, 1, by decide +kernel⟩,
   ⟨tPr 2 tPart, .i3c, 2, 8, by decide +kernel⟩,
   ⟨tSet (tPr 2 tPart) [(F.FRM_WFN_LO, 8)], .i3c, 2, 8, by decide +kernel⟩,
   ⟨tPr 4 tPart, .i3c, 3, by decide +kernel⟩,
   ⟨tTxn, tTaken tTxn tArmMsg, tArmMsg, 9, 8, 0, false, by decide +kernel⟩,
   ⟨tTxn, tTaken tTxn tArmMsg, tArmMsg, 9, 8, 0, false, false, by decide +kernel⟩,
   ⟨tPr 1 tPart, tPrC, (tPrC.checkTables tPart tPrC.idleBank).2, tPart, 9, by decide +kernel⟩⟩

theorem witness_InstallTakesTheSnapshot :
    (∃ (b c : Block) (g k : Nat), cellsWf keyReset b.regs = true ∧ cellsWf keyReset c.regs = true ∧ shadowKey g k = true)
    ∧ (∃ (b c : Block) (g k : Nat), cellsWf keyReset b.regs = true ∧ cellsWf keyReset c.regs = true ∧ activeKey g k = false)
    ∧ (∃ (b c : Block) (g m n : Nat) (txn : Option Nat), cellsWf keyReset b.regs = true ∧ cellsWf keyReset c.regs = true ∧ g < 256 ∧
      b.cfg.stages = [⟨g, c.snapshot g, some m, txn⟩] ∧ m ≤ n)
    ∧ (∃ (b : Block) (g m n : Nat) (l : List (Nat × Word)) (txn : Option Nat), b.cfg.stages = [⟨g, l, some m, txn⟩] ∧ n < m) :=
  ⟨⟨Block.reset, Block.reset, 8, R.PWR_FEED_CTRL, by decide +kernel⟩,
   ⟨Block.reset, Block.reset, 8, R.PWR_FEED_CTRL, by decide +kernel⟩,
   ⟨{ Block.reset with cfg := { Block.reset.cfg with stages := [⟨8, Block.reset.snapshot 8, some 6, some 3⟩] } }, Block.reset, 8, 6, 6,
     some 3, by decide +kernel⟩,
   ⟨{ Block.reset with cfg := { Block.reset.cfg with stages := [⟨8, Block.reset.snapshot 8, some 6, some 3⟩] } }, 8, 6, 5,
     Block.reset.snapshot 8, some 3, by decide +kernel⟩⟩

theorem witness_FrameEvents :
    (∃ (b : Block) (p : Plan), Runs b ∧ b.frm.next = some p ∧ b.role ≠ 0 ∧ b.pm.stcStopped = false ∧ b.pm.gate = false)
    ∧ (∃ (b : Block) (p : Plan), p.wfn < 2 ^ 64)
    ∧ (∃ (b : Block) (p : Plan), Runs b ∧ b.frm.next = some p ∧ b.role ≠ 0 ∧ b.pm.stcStopped = false ∧ b.pm.gate = true ∧ p.wfn < 2 ^
      64)
    ∧ (∃ (b : Block) (p : Plan), Runs b ∧ b.eventFrame (if b.frm.next.any (fun q => decide (q.wfn ≤ b.cfg.closed)) then b.frm.next.map
      (·.wfn) else none) = some p ∧ b.isHead = true ∧ b.pm.gate = false ∧ b.cfg.closed < p.wfn)
    ∧ (∃ (b : Block) (p : Plan), Runs b ∧ b.frm.next = some p ∧ b.role = roleTile ∧ b.pm.gate = false ∧ b.pm.stcStopped = false ∧
      b.scn.last ≠ some p.wfn)
    ∧ (∃ (b : Block) (p : Plan), Runs b ∧ b.frm.next = some p ∧ b.role = roleHead ∧ b.pm.gate = false ∧ b.pm.stcStopped = false ∧
      b.scn.last ≠ some p.wfn)
    ∧ (∃ (b : Block), b.frmState = frmFollow ∧ b.frm.next = none ∧ b.bit F.PTP_STATUS_TIME_VALID = true ∧ b.frm.grid = true)
    ∧ (∃ (b c : Block) (r : Settle) (after : Nat), Runs b ∧ b.scn.settle = some r ∧ c = (b.untilStc (min (b.stc + after)
      r.limit)).scnSettled r)
    ∧ (∃ (b : Block), Runs b ∧ b.role ≠ 0 ∧ b.pm.gate = false ∧ b.frm.guarded ≠ some b.frm.cur.wfn)
    ∧ (∃ (b : Block) (edge cell : Nat) (p : Plan), Runs b ∧ b.frm.next = some p ∧ b.role = roleHead ∧ b.pm.gate = false ∧
      b.frm.launched ≠ some p.wfn)
    ∧ (∃ (b : Block) (edge cell : Nat) (p : Plan), Runs b ∧ b.frm.next = some p ∧ b.drives = true ∧ b.pm.gate = false ∧ b.frm.launched
      ≠ some p.wfn) :=
  ⟨⟨tFrm 1 [] (some (tPlan 6)), tPlan 6, by decide +kernel⟩,
   ⟨tFrm 1 [] (some (tPlan 6)), tPlan 6, by decide +kernel⟩,
   ⟨{ tFrm 1 [] (some (tPlan 6)) with pm := { Block.reset.pm with gate := true } }, tPlan 6, by decide +kernel⟩,
   ⟨tFrm 3 [] (some (tPlan 6)), tPlan 6, by decide +kernel⟩,
   ⟨tFrm 1 [] (some (tPlan 6)), tPlan 6, by decide +kernel⟩,
   ⟨tFrm 2 [] (some (tPlan 6)), tPlan 6, by decide +kernel⟩,
   ⟨tFrm 1 [(F.FRM_STATUS_STATE, 6)] none, by decide +kernel⟩,
   ⟨{ tFrm 1 [] none with scn := { Block.reset.scn with settle := some tSettle } }, (({ tFrm 1 [] none with scn := { Block.reset.scn
     with settle := some tSettle } } : Block).untilStc (min (0 + 9) 100)).scnSettled tSettle, tSettle, 9, by decide +kernel⟩,
   ⟨tFrm 1 [] none, by decide +kernel⟩,
   ⟨tFrm 2 [] (some (tPlan 6)), 7, 20, tPlan 6, by decide +kernel⟩,
   ⟨tFrm 1 [] (some (tPlan 6)), 7, 20, tPlan 6, by decide +kernel⟩⟩

theorem witness_FramePlanning :
    (∃ (b : Block), Runs b ∧ b.pm.stcStopped = false ∧ b.frmState = frmFreerun ∧ b.frm.next = none ∧ b.frm.later = none)
    ∧ (∃ (b : Block) (p : Plan), Runs b ∧ b.pm.stcStopped = false ∧ b.frmState = frmFreerun ∧ b.frm.next = some p ∧ b.planWaits =
      false)
    ∧ (∃ (b : Block), Runs b ∧ b.pm.stcStopped = false ∧ (b.frmState = frmLocked ∨ b.frmState = frmSlew ∨ b.frmState = frmRunOn) ∧
      b.frm.next = none ∧ b.frm.later = none ∧ b.actBit F.FRM_REF_VARIABLE = false)
    ∧ (∃ (b c : Block) (rx : Rx) (p : FramePlan), Runs b ∧ b.receive rx = .accepted c ∧ rx.msg.body = .framePlan p ∧ c.role = roleTile
      ∧ c.frmState = frmFollow ∧ c.bit F.PTP_STATUS_TIME_VALID = true ∧ p.epoch = c.epoch ∧ c.fromHead rx.msg.src = true ∧ c.stage =
      stageRun ∧ p.modeEpoch = c.modeEpochAt p.wfn ∧ c.frm.next = none ∧ c.planFits p = true)
    ∧ (∃ (b c : Block) (rx : Rx) (p : FramePlan) (q : Plan), Runs b ∧ b.receive rx = .accepted c ∧ rx.msg.body = .framePlan p ∧ c.role
      = roleTile ∧ c.frmState = frmFollow ∧ c.bit F.PTP_STATUS_TIME_VALID = true ∧ p.epoch = c.epoch ∧ c.fromHead rx.msg.src = true ∧
      c.stage = stageRun ∧ p.modeEpoch = c.modeEpochAt p.wfn ∧ c.frm.next = some q ∧ c.planFits p = true)
    ∧ (∃ (b c : Block) (rx : Rx) (p : FramePlan), Runs b ∧ b.receive rx = .accepted c ∧ rx.msg.body = .framePlan p ∧ c.role = roleTile
      ∧ c.frmState = frmFollow ∧ c.bit F.PTP_STATUS_TIME_VALID = true ∧ p.epoch = c.epoch ∧ c.fromHead rx.msg.src = true ∧ c.stage =
      stageRun ∧ p.modeEpoch = c.modeEpochAt p.wfn ∧ c.planFits p = false)
    ∧ (∃ (b : Block) (ts : Nat), Runs b ∧ b.pm.stcStopped = false ∧ b.isHead = false ∧ ts < 2 ^ 64 ∧ ((∀ t ∈ b.frm.syncLast, t +
      3333333 ≤ ts)))
    ∧ (∃ (b : Block) (ts t0 : Nat), Runs b ∧ b.pm.stcStopped = false ∧ b.frm.syncLast = some t0 ∧ ts < t0 + 3333333)
    ∧ (∃ (b : Block) (k j : Nat) (t0 : Int), Runs b ∧ k < 2 ∧ b.pins.syncOut.length = 2 ∧ b.frm.pulseEnd = [none, none] ∧
      b.frm.pulseLast = [none, none] ∧ b.role ≠ 0 ∧ b.pm.gate = false ∧ b.pulseStart k b.frm.cur j = some t0)
    ∧ (∃ (b : Block) (k t0 : Nat), Runs b ∧ k < 2 ∧ b.pins.syncOut.length = 2 ∧ (b.frm.pulseEnd[k]?).join = some t0)
    ∧ (∃ (b : Block) (p : Plan), Runs b ∧ b.eventFrame b.lnk.headerSent = some p ∧ b.duty = dutyActive)
    ∧ (∃ (b c : Block) (rx : Rx) (h : FrameHeader), Runs b ∧ b.receive rx = .accepted c ∧ rx.msg.body = .frameHeader h ∧ c.fromHead
      rx.msg.src = true ∧ c.role = roleTile ∧ h.epoch = c.epoch ∧ h.wfn = c.nextFrame ∧ h.modeEpoch = c.modeEpochAt h.wfn)
    ∧ (∃ (b c : Block) (rx : Rx) (h : FrameHeader), Runs b ∧ b.receive rx = .accepted c ∧ rx.msg.body = .frameHeader h ∧ c.fromHead
      rx.msg.src = true ∧ c.role = roleTile ∧ h.epoch < c.epoch) :=
  ⟨⟨tFrm 2 [(F.FRM_STATUS_STATE, 1)] none, by decide +kernel⟩,
   ⟨tFrm 2 [(F.FRM_STATUS_STATE, 1)] (some { tPlan 6 with own := 2 ^ 60 }), { tPlan 6 with own := 2 ^ 60 }, by decide +kernel⟩,
   ⟨tFrm 2 [(F.FRM_STATUS_STATE, 3)] none, by decide +kernel⟩,
   ⟨tFrm 1 [(F.FRM_STATUS_STATE, 6)] none, tTaken (tFrm 1 [(F.FRM_STATUS_STATE, 6)] none) (tFromHead 0x10 60 1 (.framePlan tHears)),
     tFromHead 0x10 60 1 (.framePlan tHears), tHears, by decide +kernel⟩,
   ⟨tAhead, tTaken tAhead (tFromHead 0x10 60 1 (.framePlan tHears7)), tFromHead 0x10 60 1 (.framePlan tHears7), tHears7, tPlan 6,
     by decide +kernel⟩,
   ⟨tAhead, tTaken tAhead (tFromHead 0x10 60 1 (.framePlan tHears)), tFromHead 0x10 60 1 (.framePlan tHears), tHears,
     by decide +kernel⟩,
   ⟨tFrm 1 [] none, 7, by decide +kernel⟩,
   ⟨{ tFrm 1 [] none with frm := { Block.reset.frm with syncLast := some 7 } }, 8, 7, by decide +kernel⟩,
   ⟨tSet (tFrm 1 [] none) [((F.FRM_SYNC_OUTk_CFG_MODE 1).act, 1)], 1, 0, 5000000000000, by decide +kernel⟩,
   ⟨{ tFrm 1 [] none with frm := { Block.reset.frm with pulseEnd := [none, some 9] }, pins := { Block.reset.pins with syncOut :=
     [false, true] } }, 1, 9, by decide +kernel⟩,
   ⟨tFrm 2 [(F.LNK_CHAIN_STATUS_DUTY, dutyActive)] (some (tPlan 6)), tPlan 6, by decide +kernel⟩,
   ⟨tFrm 1 [] none, tTaken (tFrm 1 [] none) (tFromHead 0x12 96 1 (.frameHeader (tHeader 6))), tFromHead 0x12 96 1 (.frameHeader
     (tHeader 6)), tHeader 6, by decide +kernel⟩,
   ⟨tFrm 1 [(F.LNK_EPOCH_EPOCH, 1)] none, tTaken (tFrm 1 [(F.LNK_EPOCH_EPOCH, 1)] none) (tFromHead 0x12 96 1 (.frameHeader (tHeader
     6))), tFromHead 0x12 96 1 (.frameHeader (tHeader 6)), tHeader 6, by decide +kernel⟩⟩

theorem witness_TimeSources :
    (∃ (b : Block) (g : PtpMsg) (rank : List Nat) (gm cl iv : Nat), Runs b ∧ g.port < 2 ∧ b.gated R.PTP_CTRL = false ∧
      b.ptp.masters.length = 3 ∧ b.actBit (F.PTP_DOMd_CFG_EN 0) = true ∧ b.actBit (F.PTP_DOMd_CFG_EN 1) = false ∧ b.act
      (F.PTP_DOMd_CFG_DOMAIN 0) = g.domain ∧ b.act (F.PTP_DOMd_CFG_TRANSPORT 0) = g.transport ∧ bitOf (b.act (F.PTP_DOMd_CFG_PORTS 0))
      g.port = true ∧ g.kind = .announce rank gm cl iv ∧ b.masters 0 = [])
    ∧ (∃ (b : Block) (g : PtpMsg) (rank : List Nat) (gm cl iv : Nat), Runs b ∧ g.port < 2 ∧ b.gated R.PTP_CTRL = false ∧
      b.ptp.masters.length = 3 ∧ b.actBit (F.PTP_DOMd_CFG_EN 0) = true ∧ b.actBit (F.PTP_DOMd_CFG_EN 1) = false ∧ b.act
      (F.PTP_DOMd_CFG_DOMAIN 0) = g.domain ∧ b.act (F.PTP_DOMd_CFG_TRANSPORT 0) = g.transport ∧ bitOf (b.act (F.PTP_DOMd_CFG_PORTS 0))
      g.port = true ∧ g.kind = .announce rank gm cl iv ∧ b.masters 0 = [])
    ∧ (∃ (b : Block) (g : PtpMsg) (m : Master) (seq iv : Nat) (t1 dl : Int), Runs b ∧ g.port < 2 ∧ b.gated R.PTP_CTRL = false ∧
      b.ptp.masters.length = 3 ∧ b.actBit (F.PTP_DOMd_CFG_EN 0) = true ∧ b.actBit (F.PTP_DOMd_CFG_EN 1) = false ∧ b.act
      (F.PTP_DOMd_CFG_DOMAIN 0) = g.domain ∧ b.act (F.PTP_DOMd_CFG_TRANSPORT 0) = g.transport ∧ bitOf (b.act (F.PTP_DOMd_CFG_PORTS 0))
      g.port = true ∧ g.kind = .sync seq false t1 iv ∧ b.masters 0 = [m] ∧ m.port = g.port ∧ m.id = g.src ∧ m.delay = some dl ∧ b.get
      (F.PTP_DOMd_STATUS_STATE 0) ≠ 0)
    ∧ (∃ (b : Block) (d : Nat) (m : Master), Runs b ∧ b.pm.stcStopped = false ∧ d < 2 ∧ b.ptp.masters.length = 3 ∧ b.masters d = [m] ∧
      b.get F.PTP_STATUS_SOURCE ≠ d)
    ∧ (∃ (b : Block) (d : Nat) (m : Master), Runs b ∧ b.pm.stcStopped = false ∧ d < 2 ∧ b.ptp.masters.length = 3 ∧ b.masters d = [m] ∧
      b.get F.PTP_STATUS_SOURCE = d ∧ b.bit F.PTP_CTRL_AUTO = true ∧ b.tracking (1 - d) = false ∧ b.ptp.stepped = true ∧ b.get
      F.PTP_STATUS_STATE = servoLocked)
    ∧ (∃ (b : Block) (d : Nat) (m : Master) (u : Bool), Runs b ∧ b.pm.stcStopped = false ∧ d < 2 ∧ b.ptp.masters.length = 3 ∧ b.masters
      d = [m])
    ∧ (∃ (b : Block) (t0 : Nat), Runs b ∧ b.pm.stcStopped = false ∧ b.ptp.cleanSince = some t0 ∧ b.bit F.PTP_CTRL_AUTO = true ∧ b.bit
      F.PTP_CTRL_REVERT = true ∧ b.get F.PTP_STATUS_SOURCE = 1)
    ∧ (∃ (b : Block) (t0 : Nat), Runs b ∧ b.pm.stcStopped = false ∧ b.ptp.diffSince = some t0)
    ∧ (∃ (b : Block) (p : Nat), Runs b ∧ p < 2 ∧ b.carries p = true ∧ b.bit (F.LNKn_STATUS_SLAVE p) = true)
    ∧ (∃ (b : Block) (p : Nat), Runs b ∧ p < 2 ∧ b.carries p = true ∧ b.bit (F.LNKn_STATUS_SLAVE p) = false)
    ∧ (∃ (b : Block) (p rx seq : Nat), Runs b ∧ p < 2 ∧ b.carries p = true ∧ b.stc < rx / 40 ∧ rx / 40 < 2 ^ 64 ∧ b.pm.stcStopped =
      false)
    ∧ (∃ (b : Block) (p rx : Nat) (t2 t3 : Int), Runs b ∧ p < 2 ∧ b.carries p = true ∧ b.ptp.linkDelay.length = 2) :=
  ⟨⟨tPtp [] [], tAnnounce, [1], 5, 6, 1000, by decide +kernel⟩,
   ⟨tPtp [(F.PTP_DOMd_STATUS_STATE 0, 0)] [], tAnnounce, [1], 5, 6, 1000, by decide +kernel⟩,
   ⟨tPtp [] [tMaster], tSync, tMaster, 3, 125, 2000, 100, by decide +kernel⟩,
   ⟨tPtp [(F.PTP_STATUS_SOURCE, 1)] [tMaster], 0, tMaster, by decide +kernel⟩,
   ⟨tPtp [(F.PTP_STATUS_SOURCE, 0), (F.PTP_CTRL_AUTO, 1), (F.PTP_STATUS_STATE, 2)] [tMaster], 0, tMaster, by decide +kernel⟩,
   ⟨tPtp [] [tMaster], 0, tMaster, true, by decide +kernel⟩,
   ⟨tPtp [(F.PTP_STATUS_SOURCE, 1), (F.PTP_CTRL_AUTO, 1), (F.PTP_CTRL_REVERT, 1)] [tMaster], 5, by decide +kernel⟩,
   ⟨tPtp [] [], 5, by decide +kernel⟩,
   ⟨tLink 1 1 [(F.LNKn_STATUS_SLAVE 1, 1)], 1, by decide +kernel⟩,
   ⟨tLink 1 1 [(F.LNKn_STATUS_SLAVE 1, 1)], 0, by decide +kernel⟩,
   ⟨tLink 1 1 [], 1, 399, 5, by decide +kernel⟩,
   ⟨tLink 1 1 [], 1, 99, 5, 6, by decide +kernel⟩⟩

theorem witness_ChainLinks :
    (∃ (b : Block) (p n : Nat), Runs b ∧ p < 2 ∧ b.lnk.ports.length = 2 ∧ b.trained (2 + p) = true ∧ (b.lnkPort p).ownNonce = some n)
    ∧ (∃ (b : Block) (p own : Nat) (x : LinkId) (key : SecKey), Runs b ∧ p < 2 ∧ b.lnk.ports.length = 2 ∧ b.trained (2 + p) = true ∧
      b.role = roleTile ∧ b.bit (F.LNKn_STATUS_UP p) = false ∧ (b.lnkPort p).sent = true ∧ (b.lnkPort p).ownNonce = some own ∧
      (b.lnkPort p).partner ≠ some (x.nonce, x.serial) ∧ (b.lnkPort p).ended = 0 ∧ b.get (F.LNKn_SESSION_ID p) = 0 ∧ b.chainKey false =
      some key ∧ b.hif.seq + 1 < 2 ^ 32 ∧ x.port ≠ p ∧ x.slot = 0xFF ∧ x.tag = none ∧ ((b.cfg.topo.isSome = true → x.chainId =
      b.chainId)) ∧ x.node < 2 ^ 18)
    ∧ (∃ (b : Block) (p own : Nat) (x : LinkId) (key : SecKey), Runs b ∧ p < 2 ∧ b.lnk.ports.length = 2 ∧ b.trained (2 + p) = true ∧
      b.role = roleTile ∧ b.bit (F.LNKn_STATUS_UP p) = false ∧ (b.lnkPort p).sent = true ∧ (b.lnkPort p).ownNonce = some own ∧
      (b.lnkPort p).partner ≠ some (x.nonce, x.serial) ∧ (b.lnkPort p).ended = 0 ∧ b.get (F.LNKn_SESSION_ID p) = 0 ∧ b.chainKey false =
      some key ∧ b.hif.seq + 1 < 2 ^ 32 ∧ x.port ≠ p ∧ x.slot = 0xFF ∧ x.tag = none ∧ ((b.cfg.topo.isSome = true → x.chainId =
      b.chainId)) ∧ x.node < 2 ^ 18)
    ∧ (∃ (b : Block) (p : Nat) (x : LinkId), Runs b ∧ p < 2 ∧ b.lnk.ports.length = 2 ∧ b.trained (2 + p) = true ∧ b.role = roleTile ∧
      b.bit (F.LNKn_STATUS_UP p) = true ∧ (b.lnkPort p).wrong = false ∧ (b.lnkPort p).partner = some (x.nonce, x.serial) ∧ x.port ≠ p ∧
      x.slot = 0xFF ∧ x.tag = some true ∧ ((b.cfg.topo.isSome = true → x.chainId = b.chainId)))
    ∧ (∃ (b : Block) (p : Nat) (x : LinkId), Runs b ∧ p < 2 ∧ b.lnk.ports.length = 2 ∧ b.trained (2 + p) = true ∧ b.bit
      (F.LNKn_STATUS_UP p) = true ∧ (x.port = p ∨ (b.cfg.topo.isSome = true ∧ x.chainId ≠ b.chainId)))
    ∧ (∃ (b : Block) (k s : Nat) (t : Topology), b.lnk.ports.length = 2 ∧ b.cfg.topo = some t ∧ (b.lnkPort 1).offered = none ∧ b.bit
      F.LNK_CHAIN_STATUS_SLOT_VALID = false ∧ s = k + 1 ∧ s < t.slots ∧ s < 64 ∧ t.source1 = false ∧ t.slotNode.getD s 0 = t.node ∧
      t.node < 2 ^ 18)
    ∧ (∃ (b : Block) (k : Nat) (o : Int) (t : Topology), b.lnk.ports.length = 2 ∧ b.cfg.topo = some t ∧ (b.lnkPort 1).offered = some o
      ∧ o ≠ k + 1)
    ∧ (∃ (b : Block) (p t0 : Nat), Runs b ∧ p < 2 ∧ b.lnk.ports.length = 2 ∧ b.bit (F.LNKn_STATUS_UP p) = true ∧ (b.lnkPort p).lastId =
      some t0)
    ∧ (∃ (b : Block) (p : Nat), Runs b ∧ p < 2 ∧ b.lnk.ports.length = 2 ∧ b.bit (F.LNKn_STATUS_UP p) = true ∧ b.trained (2 + p) =
      false)
    ∧ (∃ (b : Block) (path : Path) (p : Nat) (v : Word), Runs b ∧ p < 2 ∧ b.gated (R.LNKn_CTRL p) = false ∧ b.isHead = false ∧ b.bit
      (F.LNKn_CTRL_EN p) = false ∧ (F.LNKn_CTRL_EN p).of v.toNat = 0)
    ∧ (∃ (b : Block) (path : Path) (p : Nat) (v : Word), Runs b ∧ p < 2 ∧ b.gated (R.LNKn_CTRL p) = false ∧ b.isHead = false ∧ b.bit
      (F.LNKn_CTRL_EN p) = false ∧ v = 1 ∧ bitOf (b.get F.SRD_STATUS_PLL_LOCK) (2 + p) = false)
    ∧ (∃ (b : Block) (path : Path) (p : Nat) (v : Word), Runs b ∧ p < 2 ∧ b.gated (R.LNKn_CTRL p) = false ∧ b.isHead = false ∧ b.bit
      (F.LNKn_CTRL_EN p) = true ∧ v = 0)
    ∧ (∃ (b : Block) (p : Nat) (f : Frond), Runs b ∧ p < 2 ∧ b.carries p = true ∧ b.isHead = false ∧ ((b.bit
      F.LNK_CHAIN_STATUS_SLOT_VALID = true → f.slot ≠ b.slotNumber)) ∧ b.carries (1 - p) = true ∧ b.bit (F.LNKn_CTRL_EN (1 - p)) = true
      ∧ f.crcOk = true)
    ∧ (∃ (b : Block) (p : Nat) (f : Frond) (k : Nat), Runs b ∧ p < 2 ∧ b.carries p = true ∧ b.isHead = false ∧ ((b.bit
      F.LNK_CHAIN_STATUS_SLOT_VALID = true → f.slot ≠ b.slotNumber)) ∧ 0 < k ∧ b.carries (1 - p) = true ∧ b.bit (F.LNKn_CTRL_EN (1 -
      p)) = true)
    ∧ (∃ (b : Block) (p : Nat) (f : Frond), Runs b ∧ p < 2 ∧ b.carries p = true ∧ b.isHead = false ∧ ((b.bit
      F.LNK_CHAIN_STATUS_SLOT_VALID = true → f.slot ≠ b.slotNumber)) ∧ b.carries (1 - p) = false ∧ f.crcOk = true)
    ∧ (∃ (b : Block) (p n : Nat) (bad : List Nat), Runs b ∧ p < 2 ∧ b.carries p = true ∧ 0 < n) :=
  ⟨⟨tLink 1 0 [], 1, 6, by decide +kernel⟩,
   ⟨tLink 1 0 [(F.SEC_STATUS_CHAIN_KEY, 1)], 0, 6, tId, tKey, by decide +kernel⟩,
   ⟨tLink 1 0 [(F.SEC_STATUS_CHAIN_KEY, 1)], 1, 6, { tId with port := 0 }, tKey, by decide +kernel⟩,
   ⟨tLink 1 1 [], 0, { tId with tag := some true, nonce := 8, serial := 9 }, by decide +kernel⟩,
   ⟨tLink 1 1 [(F.LNKn_STATUS_SESSION_UP 1, 1)], 1, tId, by decide +kernel⟩,
   ⟨{ tLink 1 1 [] with cfg := { Block.reset.cfg with topo := some { tTopo with source1 := false, slotNode := [0, 1], node := 1, slots
     := 2 } } }, 0, 1, { tTopo with source1 := false, slotNode := [0, 1], node := 1, slots := 2 }, by decide +kernel⟩,
   ⟨tOffer, 0, 5, tTopo, by decide +kernel⟩,
   ⟨tLink 1 1 [], 1, 5, by decide +kernel⟩,
   ⟨tSet (tLink 1 1 []) [(F.SRDk_STATUS_STATE 8, laneCdr)], 0, by decide +kernel⟩,
   ⟨tSet (tLink 1 1 []) [(F.LNKn_CTRL_EN 0, 0)], .i3c, 0, 2, by decide +kernel⟩,
   ⟨tSet (tLink 1 0 []) [(F.LNKn_CTRL_EN 0, 0)], .i3c, 0, 1, by decide +kernel⟩,
   ⟨tLink 1 1 [], .i3c, 1, 0, by decide +kernel⟩,
   ⟨tLink 1 1 [], 0, tFrond, by decide +kernel⟩,
   ⟨tLink 1 1 [], 1, tFrond, 3, by decide +kernel⟩,
   ⟨tSet (tLink 1 1 []) [(F.LNKn_STATUS_UP 1, 0)], 0, tFrond, by decide +kernel⟩,
   ⟨tLink 1 1 [], 1, 3, [1], by decide +kernel⟩⟩

theorem witness_ChainHeads :
    (∃ (b : Block) (t0 : Nat), Runs b ∧ b.isHead = true ∧ b.duty = dutyStandby ∧ b.pipes = true ∧ b.lnk.listenFrom = some t0 ∧
      b.nextComposition < 2 ^ 64)
    ∧ (∃ (b : Block), Runs b ∧ b.isHead = true ∧ (b.duty = dutyStandby ∨ b.duty = dutyDelegate) ∧ b.pipes = true ∧ b.lnk.listenFrom =
      none ∧ b.bit F.LNK_CHAIN_CTRL_TAKEOVER_EN = true ∧ b.bit F.LNK_CHAIN_STATUS_SYNCED = true)
    ∧ (∃ (b : Block), Runs b ∧ b.isHead = true ∧ (b.duty = dutyActive ∨ b.duty = dutyDelegate))
    ∧ (∃ (b c : Block) (rx : Rx) (a : HeadAlive) (p : Nat), Runs b ∧ b.receive rx = .accepted c ∧ rx.msg.body = .headAlive a ∧ c.role =
      roleTile ∧ c.fromHead rx.msg.src = true ∧ rx.msg.src ≠ c.node ∧ rx.via = .lnk p ∧ p < 2 ∧ a.delegate = false ∧ c.epoch ≤ a.epoch
      ∧ a.epoch < 2 ^ 32)
    ∧ (∃ (b c : Block) (rx : Rx) (a : HeadAlive) (p : Nat), Runs b ∧ b.receive rx = .accepted c ∧ rx.msg.body = .headAlive a ∧ c.role =
      roleTile ∧ c.fromHead rx.msg.src = true ∧ rx.msg.src ≠ c.node ∧ rx.via = .lnk p ∧ p < 2 ∧ a.delegate = false ∧ a.epoch < c.epoch)
    ∧ (∃ (b c : Block) (rx : Rx) (h : HeadState), Runs b ∧ b.receive rx = .accepted c ∧ rx.msg.body = .headState h ∧ c.isHead = true ∧
      c.duty = dutyStandby ∧ c.fromHead rx.msg.src = true ∧ rx.msg.src ≠ c.node ∧ h.epoch = c.epoch ∧ h.idSlot < 64 ∧ h.split = false ∧
      h.wfn = c.lnk.digestAt.1 ∧ h.digest = c.lnk.digestAt.2 ∧ 1 ≤ c.lnk.sameDigests)
    ∧ (∃ (b c : Block) (rx : Rx) (h : HeadState), Runs b ∧ b.receive rx = .accepted c ∧ rx.msg.body = .headState h ∧ c.isHead = true ∧
      c.duty = dutyStandby ∧ c.fromHead rx.msg.src = true ∧ rx.msg.src ≠ c.node ∧ h.epoch = c.epoch ∧ h.idSlot < 64 ∧ h.split = false ∧
      h.wfn = c.lnk.digestAt.1 ∧ h.digest ≠ c.lnk.digestAt.2)
    ∧ (∃ (b c : Block) (rx : Rx) (h : HeadState), Runs b ∧ b.receive rx = .accepted c ∧ rx.msg.body = .headState h ∧ c.isHead = true ∧
      c.duty = dutyStandby ∧ c.fromHead rx.msg.src = true ∧ rx.msg.src ≠ c.node ∧ h.epoch = c.epoch ∧ h.idSlot < 64 ∧ h.split = false ∧
      c.lnk.digestAt.1 < h.wfn)
    ∧ (∃ (b c : Block) (rx : Rx) (h : HeadState), Runs b ∧ b.receive rx = .accepted c ∧ rx.msg.body = .headState h ∧ c.isHead = true ∧
      c.duty = dutyStandby ∧ c.fromHead rx.msg.src = true ∧ rx.msg.src ≠ c.node ∧ h.epoch = c.epoch ∧ h.idSlot < 64 ∧ h.split = true ∧
      h.splitSlot < 64)
    ∧ (∃ (b c : Block) (rx : Rx) (e node inc : Nat), Runs b ∧ b.receive rx = .accepted c ∧ rx.msg.body = .demote e node inc ∧ c.isHead
      = true ∧ c.duty = dutyActive ∧ c.epoch < e ∧ e < 2 ^ 32 ∧ inc ≤ c.lnk.incarn)
    ∧ (∃ (b c : Block) (rx : Rx) (node slot port w k : Nat), Runs b ∧ b.receive rx = .accepted c ∧ rx.msg.body = .brk node slot port
      false w ∧ c.isHead = true ∧ c.duty ≠ dutyActive ∧ linkAt slot port = some k)
    ∧ (∃ (b : Block) (p : Path) (v : Word), Runs b ∧ b.gated R.LNK_CMD = false ∧ F.LNK_CMD_HANDOVER.of v.toNat = 1 ∧ b.duty =
      dutyActive)
    ∧ (∃ (b : Block) (p : Path) (v : Word) (q : Nat), Runs b ∧ b.gated R.LNK_CMD = false ∧ F.LNK_CMD_HANDOVER.of v.toNat = 1 ∧ b.duty =
      dutyActive ∧ b.route b.otherHead true = .out (.lnk q) ∧ b.bit (F.LNKn_STATUS_SESSION_UP q) = true ∧ b.otherHead ≠ nodeAll ∧
      (b.ring b.otherHead).populated = true ∧ ringSound (b.ringBytes b.otherHead) = true ∧ b.lnk.identityLost = false ∧ b.hif.seq + 1 <
      2 ^ 32)
    ∧ (∃ (b c : Block) (rx : Rx) (w m : Nat), Runs b ∧ b.receive rx = .accepted c ∧ rx.msg.body = .handover c.epoch w ∧ c.isHead = true
      ∧ c.duty = dutyStandby ∧ c.bit F.LNK_CHAIN_STATUS_SYNCED = true ∧ c.fromHead rx.msg.src = true ∧ c.pipes = true ∧ c.cmp.comp =
      some m ∧ m ≤ w)
    ∧ (∃ (b c : Block) (rx : Rx) (w m : Nat), Runs b ∧ b.receive rx = .accepted c ∧ rx.msg.body = .handover c.epoch w ∧ c.isHead = true
      ∧ c.duty = dutyStandby ∧ c.bit F.LNK_CHAIN_STATUS_SYNCED = true ∧ c.fromHead rx.msg.src = true ∧ c.pipes = true ∧ c.cmp.comp =
      some m ∧ w < m)
    ∧ (∃ (b c : Block) (rx : Rx) (sp : Spore) (base : Nat), Runs b ∧ b.receive rx = .accepted c ∧ rx.msg.body = .spore sp ∧ c.isHead =
      true ∧ c.duty = dutyStandby ∧ sp.slot < (c.cfg.topo.map (·.slots)).getD 0 ∧ sp.slot < 64 ∧ sp.epoch = c.epoch ∧ rx.msg.src ≠ 0 ∧
      rx.msg.src = (c.cfg.topo.map (fun t => t.slotNode.getD sp.slot 0)).getD 0 ∧ base = c.actPair F.LNK_SPORE_BASE_LO
      F.LNK_SPORE_BASE_HI_BASE ∧ base ≠ 0) :=
  ⟨⟨{ tHead dutyStandby [] with lnk := { (tHead dutyStandby []).lnk with listenFrom := some 5 } }, 5, by decide +kernel⟩,
   ⟨tHead dutyStandby [(F.LNK_CHAIN_STATUS_SYNCED, 1)], by decide +kernel⟩,
   ⟨tHead dutyActive [], by decide +kernel⟩,
   ⟨tSet (tHead dutyTile []) [(F.SYS_ROLE_ROLE, 1)], tTaken (tSet (tHead dutyTile []) [(F.SYS_ROLE_ROLE, 1)]) (tAlive 4), tAlive 4, ⟨4,
     false, false, false, 0, 0, 7⟩, 1, by decide +kernel⟩,
   ⟨tSet (tHead dutyTile []) [(F.SYS_ROLE_ROLE, 1), (F.LNK_EPOCH_EPOCH, 5)], tTaken (tSet (tHead dutyTile []) [(F.SYS_ROLE_ROLE, 1),
     (F.LNK_EPOCH_EPOCH, 5)]) (tAlive 4), tAlive 4, ⟨4, false, false, false, 0, 0, 7⟩, 1, by decide +kernel⟩,
   ⟨tHead dutyStandby [], tTaken (tHead dutyStandby []) (tStateOf (tShows 5 77 false)), tStateOf (tShows 5 77 false), tShows 5 77
     false, by decide +kernel⟩,
   ⟨tHead dutyStandby [], tTaken (tHead dutyStandby []) (tStateOf (tShows 5 78 false)), tStateOf (tShows 5 78 false), tShows 5 78
     false, by decide +kernel⟩,
   ⟨tHead dutyStandby [], tTaken (tHead dutyStandby []) (tStateOf (tShows 6 77 false)), tStateOf (tShows 6 77 false), tShows 6 77
     false, by decide +kernel⟩,
   ⟨tHead dutyStandby [], tTaken (tHead dutyStandby []) (tStateOf (tShows 6 77 true)), tStateOf (tShows 6 77 true), tShows 6 77 true,
     by decide +kernel⟩,
   ⟨tHead dutyActive [], tTaken (tHead dutyActive []) tDemote, tDemote, 5, 3, 0, by decide +kernel⟩,
   ⟨tHead dutyStandby [], tTaken (tHead dutyStandby []) tBrk, tBrk, 2, 1, 1, 5, 1, by decide +kernel⟩,
   ⟨tHead dutyActive [], .i3c, 1, by decide +kernel⟩,
   ⟨tRinged, .i3c, 1, 1, by decide +kernel⟩,
   ⟨tHead dutyStandby [(F.LNK_CHAIN_STATUS_SYNCED, 1)], tTaken (tHead dutyStandby [(F.LNK_CHAIN_STATUS_SYNCED, 1)]) (tHand 7), tHand 7,
     7, 6, by decide +kernel⟩,
   ⟨tHead dutyStandby [(F.LNK_CHAIN_STATUS_SYNCED, 1)], tTaken (tHead dutyStandby [(F.LNK_CHAIN_STATUS_SYNCED, 1)]) (tHand 5), tHand 5,
     5, 6, by decide +kernel⟩,
   ⟨tHead dutyStandby [], tTaken (tHead dutyStandby []) tSpore, tSpore, tSporeOf, 2 ^ 28, by decide +kernel⟩⟩

theorem witness_EthernetPorts :
    (∃ (b : Block) (p : Path) (n : Nat) (v : Word), Runs b ∧ n < 2 ∧ b.eth.length = 2 ∧ b.gated (R.ETHn_CTRL n) = false ∧
      (F.ETHn_CTRL_EN n).of v.toNat = 1 ∧ b.bit (F.ETHn_CTRL_EN n) = false ∧ (F.ETHn_CTRL_MODE n).of v.toNat ≤ 5)
    ∧ (∃ (b : Block) (p : Path) (n : Nat) (v : Word), Runs b ∧ n < 2 ∧ b.eth.length = 2 ∧ b.gated (R.ETHn_CTRL n) = false ∧
      (F.ETHn_CTRL_EN n).of v.toNat = 1 ∧ b.bit (F.ETHn_CTRL_EN n) = true)
    ∧ (∃ (b : Block) (p : Path) (n : Nat) (v : Word), Runs b ∧ n < 2 ∧ b.eth.length = 2 ∧ b.gated (R.ETHn_CTRL n) = false ∧
      (F.ETHn_CTRL_EN n).of v.toNat = 0 ∧ b.bit (F.ETHn_CTRL_EN n) = true ∧ (b.ethPort n).hops = [])
    ∧ (∃ (b : Block) (n : Nat) (eee : Bool), Runs b ∧ n < 2 ∧ b.eth.length = 2 ∧ b.eth100 n = true ∧ b.bit (F.ETHn_CTRL_EN n) = true ∧
      b.trained n = true ∧ b.get (F.ETHn_STATUS_LINK n) = 0)
    ∧ (∃ (b : Block) (n : Nat) (lf rf : Bool), Runs b ∧ n < 2 ∧ b.bit (F.ETHn_CTRL_EN n) = true ∧ b.get (F.ETHn_STATUS_LINK n) = 1)
    ∧ (∃ (b : Block) (n held : Nat) (bs : List Byte) (fcs : Bool) (i : Nat), Runs b ∧ n < 2 ∧ b.bit (F.ETHn_CTRL_EN n) = true ∧
      b.pm.gate = false ∧ b.subUp n 0 = true ∧ held + bs.length ≤ 524288 ∧ b.rxFault n bs fcs = some i)
    ∧ (∃ (b : Block) (n held : Nat) (bs : List Byte) (fcs : Bool), Runs b ∧ n < 2 ∧ b.bit (F.ETHn_CTRL_EN n) = true ∧ b.pm.gate = false
      ∧ b.subUp n 0 = true ∧ 524288 < held + bs.length)
    ∧ (∃ (b : Block) (n held : Nat) (bs : List Byte) (fcs : Bool), Runs b ∧ n < 2 ∧ b.bit (F.ETHn_CTRL_EN n) = true ∧ b.pm.gate = false
      ∧ b.subUp n 0 = true ∧ held + bs.length ≤ 524288 ∧ b.rxFault n bs fcs = none ∧ (parseFrame bs).etherType = 0x88F7)
    ∧ (∃ (b : Block) (n c quanta : Nat), Runs b ∧ n < 2 ∧ b.eth.length = 2 ∧ b.eth100 n = true ∧ b.subUp n 0 = true ∧ c < 8 ∧ 0 <
      quanta ∧ bitOf (b.get (F.ETHn_FC_CTRL_RESPOND n)) c = true ∧ b.bit (F.ETHn_FC_CTRL_PAUSE_EN n) = true)
    ∧ (∃ (b : Block) (n c quanta : Nat), Runs b ∧ n < 2 ∧ b.eth.length = 2 ∧ b.eth100 n = true ∧ b.subUp n 0 = true ∧ c < 8 ∧ 0 <
      quanta ∧ bitOf (b.get (F.ETHn_FC_CTRL_RESPOND n)) c = true ∧ b.bit (F.ETHn_FC_CTRL_PFC_EN n) = true)
    ∧ (∃ (b : Block) (n sub c : Nat) (x : Pause), Runs b ∧ n < 2 ∧ b.eth.length = 2 ∧ (b.ethPort n).pauses.find? (fun q => q.sub == sub
      && q.cls == c) = some x)
    ∧ (∃ (b : Block) (n : Nat) (f : TxFrame), Runs b ∧ n < 2 ∧ b.eth.length = 2 ∧ b.subUp n 0 = true ∧ b.pm.gate = false ∧ (b.ethPort
      n).lpiFrom = none ∧ b.nextFrameOut n 0 = some f)
    ∧ (∃ (b : Block) (n : Nat) (h : Hop), Runs b ∧ n < 2 ∧ b.eth.length = 2 ∧ (b.ethPort n).hops = [h] ∧ h.resolved = false)
    ∧ (∃ (b : Block) (n : Nat) (h : Hop), Runs b ∧ n < 2 ∧ b.eth.length = 2 ∧ (b.ethPort n).hops = [h] ∧ h.resolved = true)
    ∧ (∃ (b : Block) (n : Nat), Runs b ∧ n < 2 ∧ b.eth.length = 2 ∧ b.bit (F.ETHn_STATUS_EEE_AGREED n) = true ∧ b.pm.gate = false ∧
      (b.ethPort n).lpiFrom = none ∧ (b.ethPort n).queue = [] ∧ b.monitorOn n = false)
    ∧ (∃ (b : Block) (n : Nat), Runs b ∧ n < 2 ∧ b.eth.length = 2 ∧ b.bit (F.ETHn_STATUS_EEE_AGREED n) = true ∧ b.pm.gate = false ∧
      (b.ethPort n).lpiFrom ≠ none ∧ (b.ethPort n).queue ≠ [])
    ∧ (∃ (b : Block) (n : Nat), Runs b ∧ n < 2 ∧ b.eth.length = 2 ∧ b.bit (F.ETHn_STATUS_EEE_AGREED n) = true ∧ b.pm.gate = false ∧
      (b.ethPort n).lldpAnswer = false)
    ∧ (∃ (b : Block) (n tw : Nat) (enter : Bool), Runs b ∧ n < 2 ∧ b.eth.length = 2 ∧ b.bit (F.ETHn_STATUS_EEE_AGREED n) = true) :=
  ⟨⟨tHd [], .i3c, 0, 1, by decide +kernel⟩,
   ⟨tEth [], .i3c, 0, 1, by decide +kernel⟩,
   ⟨tEthPort (tEth []) { tQ with queue := [tTx] }, .i3c, 0, 0, by decide +kernel⟩,
   ⟨tSet (tHd [(F.ETHn_CTRL_EN 0, 1)]) ([0, 1, 2, 3].map (fun k => (F.SRDk_STATUS_STATE k, laneUp))), 0, true, by decide +kernel⟩,
   ⟨tEth [], 0, true, false, by decide +kernel⟩,
   ⟨tEth [], 0, 100, [1, 2, 3], true, 1, by decide +kernel⟩,
   ⟨tEth [], 0, 524286, [1, 2, 3], true, by decide +kernel⟩,
   ⟨tEth [], 0, 524224, tPtpFrame, true, by decide +kernel⟩,
   ⟨tEth [(F.ETHn_FC_CTRL_RESPOND 0, 8), (F.ETHn_FC_CTRL_PAUSE_EN 0, 1)], 0, 3, 65535, by decide +kernel⟩,
   ⟨tEth [(F.ETHn_FC_CTRL_RESPOND 0, 8), (F.ETHn_FC_CTRL_PFC_EN 0, 1)], 0, 3, 1, by decide +kernel⟩,
   ⟨tEthPort (tEth []) { tQ with pauses := [⟨0, 3, 1000⟩] }, 0, 0, 3, ⟨0, 3, 1000⟩, by decide +kernel⟩,
   ⟨tEthPort (tEth []) { tQ with queue := [{ tTx with cls := 1 }, tTx] }, 0, tTx, by decide +kernel⟩,
   ⟨tEthPort (tEth []) { tQ with hops := [tHop false] }, 0, tHop false, by decide +kernel⟩,
   ⟨tEthPort (tEth []) { tQ with hops := [tHop true] }, 0, tHop true, by decide +kernel⟩,
   ⟨tEth [(F.ETHn_STATUS_EEE_AGREED 0, 1)], 0, by decide +kernel⟩,
   ⟨tEthPort (tEth [(F.ETHn_STATUS_EEE_AGREED 0, 1)]) { tQ with queue := [tTx], lpiFrom := some 3 }, 0, by decide +kernel⟩,
   ⟨tEthPort (tEth [(F.ETHn_STATUS_EEE_AGREED 0, 1)]) { tQ with lldpDue := 44 }, 0, by decide +kernel⟩,
   ⟨tEth [(F.ETHn_STATUS_EEE_AGREED 0, 1)], 0, 300, true, by decide +kernel⟩⟩

theorem witness_StreamsIn :
    (∃ (b : Block) (k : VideoPacket) (s : Nat), Runs b ∧ b.ing.streams.length = 16 ∧ b.ingMatch k.addr = some s ∧ k.pt = b.framePt s
      k.ts ∧ k.field = false ∧ k.room = true ∧ (b.stream s).next = some k.seq)
    ∧ (∃ (b : Block) (k : VideoPacket) (s : Nat) (f : Filling), Runs b ∧ b.ing.streams.length = 16 ∧ b.ingMatch k.addr = some s ∧
      (b.stream s).fills.find? (·.ts == k.ts) = some f ∧ f.buf = none ∧ f.pt = k.pt ∧ k.field = false ∧ k.room = true ∧ (b.stream
      s).next = some k.seq ∧ k.segs = [])
    ∧ (∃ (b : Block) (k : VideoPacket) (s : Nat), Runs b ∧ b.ing.streams.length = 16 ∧ b.ingMatch k.addr = some s ∧ k.pt = b.framePt s
      k.ts ∧ k.field = false ∧ k.room = true ∧ (b.stream s).next = some (k.seq + 1) ∧ k.seq + 1 < 2 ^ 32 ∧ (b.stream s).gaps = [] ∧
      (b.stream s).lostSeqs = [] ∧ (b.stream s).knows k.seq = true)
    ∧ (∃ (b : Block) (k : VideoPacket) (s : Nat), Runs b ∧ b.ing.streams.length = 16 ∧ b.ingMatch k.addr = some s ∧ k.pt ≠ b.framePt s
      k.ts)
    ∧ (∃ (b : Block) (s : Nat) (g : Gap) (rest : List Gap), Runs b ∧ s < 16 ∧ b.ing.streams.length = 16 ∧ b.ingOn = true ∧ (b.stream
      s).gaps = g :: rest ∧ (b.stream s).fills = [])
    ∧ (∃ (b : Block) (s due : Nat) (f : Filling) (rest : List Filling), Runs b ∧ s < 16 ∧ b.ing.streams.length = 16 ∧ b.ingOn = true ∧
      (b.stream s).fills = f :: rest ∧ f.due = some due)
    ∧ (∃ (b : Block) (s due : Nat) (f : Filling) (rest : List Filling), Runs b ∧ s < 16 ∧ b.ing.streams.length = 16 ∧ b.ingOn = true ∧
      (b.stream s).fills = f :: rest ∧ f.due = some due ∧ f.buf = none ∧ ((∀ g ∈ rest, g.ts ≠ f.ts)))
    ∧ (∃ (b : Block) (s e t0 : Nat), Runs b ∧ s < 16 ∧ e < 2 ∧ b.ingOn = true ∧ ((b.stream s).heard[e]?).join = some t0 ∧ (if e = 0
      then b.bit (F.ING_STRs_STATUS_PATH_A_UP s) else b.bit (F.ING_STRs_STATUS_PATH_B_UP s)) = true ∧ ((b.stream s).heard[1 - e]?).join
      = none)
    ∧ (∃ (b : Block) (s e t0 : Nat) (u : Nat), Runs b ∧ s < 16 ∧ e < 2 ∧ b.ingOn = true ∧ ((b.stream s).heard[e]?).join = some t0 ∧ (if
      e = 0 then b.bit (F.ING_STRs_STATUS_PATH_A_UP s) else b.bit (F.ING_STRs_STATUS_PATH_B_UP s)) = true ∧ ((b.stream s).heard[1 -
      e]?).join = some u ∧ max b.clk (t0 + pathSilence) < u + pathSilence ∧ (if e = 0 then b.bit (F.ING_STRs_STATUS_PATH_B_UP s) else
      b.bit (F.ING_STRs_STATUS_PATH_A_UP s)) = true)
    ∧ (∃ (b : Block) (p : Path) (v : Word), Runs b ∧ b.gated R.ING_MON_CTRL = false ∧ b.bit F.ING_MON_CTRL_EN = false)
    ∧ (∃ (b : Block) (p : Path) (v : Word), Runs b ∧ b.gated R.ING_MON_CTRL = false ∧ b.bit F.ING_MON_CTRL_EN = true ∧
      F.ING_MON_CTRL_EN.of v.toNat = 0)
    ∧ (∃ (b : Block) (poisoned : Bool) (x : Surf), Runs b ∧ b.bit F.ING_MON_CTRL_EN = true ∧ b.ingOn = true ∧ b.ing.mon.surf = some x ∧
      b.ing.mon.pos + min (monitorPixels x.fmt) (x.w * x.h - b.ing.mon.pos) < x.w * x.h) :=
  ⟨⟨tIng [] tStr, tVid 12 96, 2, by decide +kernel⟩,
   ⟨tIng [] { tStr with fills := [tFill none] }, tVid 12 96, 2, tFill none, by decide +kernel⟩,
   ⟨tIng [] { tStr with origin := some 4 }, tVid 11 96, 2, by decide +kernel⟩,
   ⟨tIng [] tStr, tVid 12 97, 2, by decide +kernel⟩,
   ⟨tIng [] { tStr with gaps := [⟨[9, 10], 500, 1, 1, 0, 0⟩] }, 2, ⟨[9, 10], 500, 1, 1, 0, 0⟩, [], by decide +kernel⟩,
   ⟨tIng [] { tStr with fills := [tFill none] }, 2, 99, tFill none, [], by decide +kernel⟩,
   ⟨tIng [] { tStr with fills := [tFill none] }, 2, 99, tFill none, [], by decide +kernel⟩,
   ⟨tIng [(F.ING_STRs_STATUS_PATH_A_UP 2, 1), (F.ING_STRs_STATUS_RECEIVING 2, 1)] { tStr with heard := [some 8, none] }, 2, 0, 8,
     by decide +kernel⟩,
   ⟨tIng [(F.ING_STRs_STATUS_PATH_A_UP 2, 1), (F.ING_STRs_STATUS_PATH_B_UP 2, 1), (F.ING_STRs_STATUS_RECEIVING 2, 1)] { tStr with heard
     := [some 8, some 9] }, 2, 0, 8, 9, by decide +kernel⟩,
   ⟨tHd [], .i3c, 1, by decide +kernel⟩,
   ⟨tHd [(F.ING_MON_CTRL_EN, 1), (F.ING_MON_CTRL_PT, 5)], .i3c, 0, by decide +kernel⟩,
   ⟨{ tHd [(F.ING_MON_CTRL_EN, 1)] with ing := { Block.reset.ing with mon := ⟨2 ^ 32 - 1, some tSurf, 0, 0⟩ } }, true, tSurf,
     by decide +kernel⟩⟩

theorem witness_CompositionAndReplay :
    (∃ (b : Block) (c : CmpSet), Runs b ∧ b.cmp.next = some c ∧ b.cmpOn = true ∧ b.cmp.comp = none ∧ c.m < 2 ^ 64)
    ∧ (∃ (b c : Block) (m : Nat), Runs b ∧ b.cmp.comp = some m ∧ b.cmpState = cmpWait ∧ b.cmpOn = true ∧ c = b.selectBand b.band false
      ∧ (c.bandLayers c.band).all (fun n => c.rowsReady n c.band) = true)
    ∧ (∃ (b c : Block) (m : Nat), Runs b ∧ b.cmp.comp = some m ∧ b.cmpState = cmpWait ∧ b.cmpOn = true ∧ c = b.selectBand b.band false
      ∧ (c.bandLayers c.band).all (fun n => c.rowsReady n c.band) = false)
    ∧ (∃ (b : Block) (m : Nat), Runs b ∧ b.cmp.comp = some m ∧ b.cmpState = cmpWait ∧ b.cmpOn = true)
    ∧ (∃ (b : Block) (m : Nat) (missing : List Nat) (behind : Bool), Runs b ∧ b.cmp.comp = some m ∧ b.cmpState = cmpRun ∧ b.cmpOn =
      true ∧ q16 b.stc ≤ b.bandDeadline b.cset m b.band ∧ bandCount b.cset ≤ 2 ^ F.CMP_STATUS_BAND.width ∧ (b.taking' b.band).filter
      (fun l => missing.contains l.1) = [] ∧ b.band + 1 < bandCount b.cset)
    ∧ (∃ (b : Block) (m : Nat) (missing : List Nat) (behind : Bool), Runs b ∧ b.cmp.comp = some m ∧ b.cmpState = cmpRun ∧ b.cmpOn =
      true ∧ q16 b.stc ≤ b.bandDeadline b.cset m b.band ∧ bandCount b.cset ≤ 2 ^ F.CMP_STATUS_BAND.width ∧ (b.taking' b.band).filter
      (fun l => missing.contains l.1) = [] ∧ bandCount b.cset ≤ b.band + 1)
    ∧ (∃ (b : Block) (m : Nat) (missing : List Nat) (behind : Bool) (l : Nat × Layer × Surf), Runs b ∧ b.cmp.comp = some m ∧ b.cmpState
      = cmpRun ∧ b.cmpOn = true ∧ q16 b.stc ≤ b.bandDeadline b.cset m b.band ∧ l ∈ b.taking' b.band ∧ l.1 ∈ missing ∧ b.faultTime
      b.cset m b.band ≤ b.bandDeadline b.cset m b.band)
    ∧ (∃ (b : Block) (m : Nat), Runs b ∧ b.cmp.comp = some m ∧ b.cmpOn = true)
    ∧ (∃ (b : Block) (c : Nat) (k : Copy) (place : Nat × Nat), Runs b ∧ c < 16 ∧ b.rpl.length = 16 ∧ (b.rplChan c).copy = some k ∧
      b.rplOn = true ∧ place = entryPlace (b.rplChan c).region k.index)
    ∧ (∃ (b : Block) (c : Nat) (k : Copy) (place : Nat × Nat), Runs b ∧ c < 16 ∧ b.rpl.length = 16 ∧ (b.rplChan c).copy = some k ∧
      b.rplOn = true ∧ place = entryPlace (b.rplChan c).region k.index ∧ k.stream = none ∧ ((∀ x ∈ b.cmp.bufs, x.id ≠ k.surf.id)) ∧
      k.index < (b.rplChan c).region.getD 1 0) :=
  ⟨⟨{ tHd [] with cmp := { Block.reset.cmp with next := some { tCmpSet with copying := some 5 } } }, { tCmpSet with copying := some 5
     }, by decide +kernel⟩,
   ⟨tCmp 1 [], tCmp 1 [], 6, by decide +kernel⟩,
   ⟨tWaits, tWaits.selectBand tWaits.band false, 6, by decide +kernel⟩,
   ⟨tCmp 1 [], 6, by decide +kernel⟩,
   ⟨tCmp 2 [], 6, [], false, by decide +kernel⟩,
   ⟨tLast, 6, [], false, by decide +kernel⟩,
   ⟨tMissing, 6, [0], false, tTaken0, by decide +kernel⟩,
   ⟨tCmp 2 [], 6, by decide +kernel⟩,
   ⟨tCopy, 3, (tCopy.rplChan 3).copy.getD ⟨0, tSurf, none, 0⟩, (65600, 65536 + rplDesc 4 + 4096), by decide +kernel⟩,
   ⟨tCopy, 3, (tCopy.rplChan 3).copy.getD ⟨0, tSurf, none, 0⟩, (65600, 65536 + rplDesc 4 + 4096), by decide +kernel⟩⟩

theorem witness_StringWires :
    (∃ (b : Block) (s : Nat) (p : Plan), Runs b ∧ s < 96 ∧ b.str.strings.length = 96 ∧ (b.strand s).cycle = .load ∧ b.frm.next = some p
      ∧ (b.retEn s = false ∨ b.actBit F.STR_COMMON_CTRL_DIAG_EN = false ∨ b.pmState = pmDim) ∧ (b.strand s).until' + 820 ≤ b.launchAt s
      p.own)
    ∧ (∃ (b : Block) (s : Nat) (p : Plan), Runs b ∧ s < 96 ∧ b.str.strings.length = 96 ∧ (b.strand s).cycle = .load ∧ b.frm.next = some
      p ∧ (b.retEn s = false ∨ b.actBit F.STR_COMMON_CTRL_DIAG_EN = false ∨ b.pmState = pmDim) ∧ b.launchAt s p.own < (b.strand
      s).until' + 820)
    ∧ (∃ (b : Block) (s ctlEnd : Nat), Runs b ∧ s < 96 ∧ b.str.strings.length = 96 ∧ (b.strand s).cycle = .load ∧ b.retEn s = true ∧
      b.actBit F.STR_COMMON_CTRL_DIAG_EN = true ∧ b.pmState ≠ pmDim ∧ b.actBit F.STR_COMMON_CTRL_PROBE_EN = false ∧ ctlEnd = (b.strand
      s).until' + 160 + 20 * (33 + 72 * b.drivers s) ∧ b.collectFits s (ctlEnd + 160) = true)
    ∧ (∃ (b : Block) (s ctlEnd : Nat), Runs b ∧ s < 96 ∧ b.str.strings.length = 96 ∧ (b.strand s).cycle = .load ∧ b.retEn s = true ∧
      b.actBit F.STR_COMMON_CTRL_DIAG_EN = true ∧ b.pmState ≠ pmDim ∧ b.actBit F.STR_COMMON_CTRL_PROBE_EN = false ∧ ctlEnd = (b.strand
      s).until' + 160 + 20 * (33 + 72 * b.drivers s) ∧ b.collectFits s (ctlEnd + 160) = false)
    ∧ (∃ (b : Block) (s : Nat), Runs b ∧ s < 96 ∧ b.str.strings.length = 96 ∧ (b.strand s).cycle = .control ∧ (b.strand s).probes = [])
    ∧ (∃ (b : Block) (s : Nat), Runs b ∧ s < 96 ∧ b.str.strings.length = 96 ∧ (b.strand s).cycle = .control ∧ (b.strand s).probes ≠ [])
    ∧ (∃ (b : Block) (s : Nat), Runs b ∧ s < 96 ∧ b.str.strings.length = 96 ∧ (b.strand s).cycle = .probe)
    ∧ (∃ (b : Block) (s : Nat) (p : Plan), Runs b ∧ s < 96 ∧ b.str.strings.length = 96 ∧ (b.strand s).cycle = .collect ∧ b.frm.next =
      some p ∧ (b.strand s).until' + 820 ≤ b.launchAt s p.own)
    ∧ (∃ (b : Block) (s loop at' : Nat) (rs : List Report) (j ch : Nat) (r : Report), Runs b ∧ s < 96 ∧ b.str.strings.length = 96 ∧
      (b.strand s).collectAt = some at' ∧ rs ≠ [] ∧ rs.length = b.drivers s ∧ (b.strand s).lost = false ∧ at' + (loop + 1) / 2 + 20 *
      (33 + 192 * b.drivers s) ≤ b.collectLimit ∧ rs.zipIdx.all (fun x => x.1.crcOk && x.1.pos == x.2) = true ∧ rs[j]? = some r ∧ ch <
      48 ∧ b.fitted s ch = true ∧ (b.strand s).leakNow = none ∧ b.drivers s ≤ 64)
    ∧ (∃ (b : Block) (s loop at' : Nat) (rs : List Report), Runs b ∧ s < 96 ∧ b.str.strings.length = 96 ∧ (b.strand s).collectAt = some
      at' ∧ rs ≠ [] ∧ rs.length = b.drivers s ∧ (b.strand s).lost = false ∧ at' + (loop + 1) / 2 + 20 * (33 + 192 * b.drivers s) ≤
      b.collectLimit ∧ rs.zipIdx.all (fun x => x.1.crcOk && x.1.pos == x.2) = true)
    ∧ (∃ (b : Block) (s loop at' : Nat) (r : Report), Runs b ∧ s < 96 ∧ b.str.strings.length = 96 ∧ (b.strand s).collectAt = some at' ∧
      b.drivers s = 1 ∧ r.crcOk = false ∧ (b.strand s).bad = 0) :=
  ⟨⟨tWire [((F.STR_STRn_CFG_RET_EN 2).act, 0)] (tCyc .load), 2, Block.reset.planAt 6 6553600000000 1092266666667, by decide +kernel⟩,
   ⟨tWire [((F.STR_STRn_CFG_RET_EN 2).act, 0)] { tCyc .load with until' := 10 ^ 9 }, 2, Block.reset.planAt 6 6553600000000
     1092266666667, by decide +kernel⟩,
   ⟨tWire [(F.STR_COMMON_CTRL_PROBE_EN.act, 0)] (tCyc .load), 2, 6260, by decide +kernel⟩,
   ⟨tTight, 2, 6260, by decide +kernel⟩,
   ⟨tWire [] (tCyc .control), 2, by decide +kernel⟩,
   ⟨tWire [] { tCyc .control with probes := [47, 5] }, 2, by decide +kernel⟩,
   ⟨tWire [] (tCyc .probe), 2, by decide +kernel⟩,
   ⟨tWire [] tBack, 2, Block.reset.planAt 6 6553600000000 1092266666667, by decide +kernel⟩,
   ⟨tWire [] tBack, 2, 81, 5000, [tRep true], 0, 1, tRep true, by decide +kernel⟩,
   ⟨tWire [] tBack, 2, 81, 5000, [tRep true], by decide +kernel⟩,
   ⟨tWire [] tBack, 2, 81, 5000, tRep false, by decide +kernel⟩⟩

theorem witness_StringStates :
    (∃ (b : Block) (s mv : Nat), Runs b ∧ s < 96 ∧ b.str.strings.length = 96 ∧ b.str.loading = none ∧ b.strState s = strRamp ∧ 49 *
      b.fixedMv s ≤ 50 * mv ∧ 50 * mv ≤ 51 * b.fixedMv s ∧ mv < 2 ^ 13)
    ∧ (∃ (b : Block) (s mv : Nat), Runs b ∧ s < 96 ∧ b.str.strings.length = 96 ∧ b.str.loading = none ∧ b.strState s = strRamp ∧ 49 *
      b.fixedMv s ≤ 50 * mv ∧ 50 * mv ≤ 51 * b.fixedMv s ∧ mv < 2 ^ 13)
    ∧ (∃ (b : Block) (s count : Nat), Runs b ∧ s < 96 ∧ b.str.strings.length = 96 ∧ b.str.loading = none ∧ b.retEn s = true ∧ count < 2
      ^ 7 ∧ (b.strState s = strEnum ∨ b.strState s = strRun))
    ∧ (∃ (b : Block) (s count : Nat), Runs b ∧ s < 96 ∧ b.str.strings.length = 96 ∧ b.str.loading = none ∧ b.retEn s = true ∧ count < 2
      ^ 7 ∧ (b.strState s = strEnum ∨ b.strState s = strRun))
    ∧ (∃ (b : Block) (s : Nat), Runs b ∧ s < 96 ∧ b.str.strings.length = 96 ∧ b.str.loading = none ∧ b.strState s = strEnum)
    ∧ (∃ (b : Block) (s mv : Nat), Runs b ∧ s < 96 ∧ b.str.strings.length = 96 ∧ (b.strState s = strRamp ∨ b.strState s = strRun) ∧
      (100 * mv < 95 * b.get (F.STR_STRn_RAIL_STATUS_SET_MV s) ∨ 105 * b.get (F.STR_STRn_RAIL_STATUS_SET_MV s) < 100 * mv))
    ∧ (∃ (b : Block) (s due : Nat), Runs b ∧ s < 96 ∧ b.str.strings.length = 96 ∧ b.strState s = strFault ∧ (b.strand s).due = some due
      ∧ b.get (F.STR_STRn_STATUS_RETRIES_USED s) < b.act F.STR_FAULT_CFG_RETRIES ∧ b.act F.STR_FAULT_CFG_RETRIES ≤ 15)
    ∧ (∃ (b : Block) (s due : Nat), Runs b ∧ s < 96 ∧ b.str.strings.length = 96 ∧ b.strState s = strFault ∧ (b.strand s).due = some due
      ∧ b.act F.STR_FAULT_CFG_RETRIES ≤ b.get (F.STR_STRn_STATUS_RETRIES_USED s))
    ∧ (∃ (b : Block) (s : Nat), Runs b ∧ s < 96 ∧ b.strState s = strRun)
    ∧ (∃ (b : Block) (p : Path) (v : Word) (s l : Nat), Runs b ∧ b.gated R.STR_CMD = false ∧ b.drives = true ∧ b.str.strings.length =
      96 ∧ s = F.STR_CMD_STRING.of v.toNat ∧ l = F.STR_CMD_LAMP.of v.toNat ∧ s < 96 ∧ l < 3072 ∧ F.STR_CMD_OP.of v.toNat = 1)
    ∧ (∃ (b : Block) (p : Path) (v : Word) (s l : Nat), Runs b ∧ b.gated R.STR_CMD = false ∧ b.drives = true ∧ b.str.strings.length =
      96 ∧ s = F.STR_CMD_STRING.of v.toNat ∧ l = F.STR_CMD_LAMP.of v.toNat ∧ s < 96 ∧ l < 3072 ∧ F.STR_CMD_OP.of v.toNat = 2)
    ∧ (∃ (b : Block) (p : Path) (v : Word) (s l : Nat), Runs b ∧ b.gated R.STR_CMD = false ∧ b.drives = true ∧ b.str.strings.length =
      96 ∧ s = F.STR_CMD_STRING.of v.toNat ∧ l = F.STR_CMD_LAMP.of v.toNat ∧ s < 96 ∧ l < 3072 ∧ F.STR_CMD_OP.of v.toNat = 3) :=
  ⟨⟨tIn 1 [] Strand.reset, 2, 5100, by decide +kernel⟩,
   ⟨tIn 1 [((F.STR_STRn_CFG_RET_EN 2).act, 0)] Strand.reset, 2, 4900, by decide +kernel⟩,
   ⟨tIn 2 [] Strand.reset, 2, 2, by decide +kernel⟩,
   ⟨tIn 3 [] Strand.reset, 2, 1, by decide +kernel⟩,
   ⟨tIn 2 [] { Strand.reset with until' := 88 }, 2, by decide +kernel⟩,
   ⟨tIn 3 [(F.STR_STRn_RAIL_STATUS_SET_MV 2, 5000)] Strand.reset, 2, 5251, by decide +kernel⟩,
   ⟨tIn 4 [(F.STR_FAULT_CFG_RETRIES.act, 15), (F.STR_STRn_STATUS_RETRIES_USED 2, 14)] { Strand.reset with due := some 77 }, 2, 77,
     by decide +kernel⟩,
   ⟨tIn 4 [(F.STR_FAULT_CFG_RETRIES.act, 3), (F.STR_STRn_STATUS_RETRIES_USED 2, 3)] { Strand.reset with due := some 77 }, 2, 77,
     by decide +kernel⟩,
   ⟨tIn 3 [(F.STR_STRn_STATUS_RETRIES_USED 2, 3)] { Strand.reset with runSince := 5 }, 2, by decide +kernel⟩,
   ⟨tIn 4 [] Strand.reset, .i3c, 0x1000005F, 95, 0, by decide +kernel⟩,
   ⟨tIn 4 [] Strand.reset, .i3c, 0x20BFF05F, 95, 3071, by decide +kernel⟩,
   ⟨tIn 4 [] Strand.reset, .i3c, 0x30000000, 0, 0, by decide +kernel⟩⟩

theorem witness_TablesAndFronds :
    (∃ (b : Block) (p : Path) (v : Word) (table bank : Nat), Runs b ∧ b.gated R.COR_LOAD_CMD = false ∧ b.scnOn = true ∧
      F.COR_LOAD_CMD_START.of v.toNat = 1 ∧ F.COR_LOAD_CMD_ABORT.of v.toNat = 0 ∧ table = F.COR_LOAD_CMD_TABLE.of v.toNat ∧ (table =
      0x2000 ∨ table = 0x2100) ∧ bank = (if (b.selectedBanks table).contains 0 then 1 else 0) ∧ (b.selectedBanks table).contains bank =
      false ∧ b.scn.load = none ∧ b.get F.CFG_PR_STATUS_STATE = 0 ∧ b.loadSpan.base % 64 = 0 ∧ b.inDram b.loadSpan = true)
    ∧ (∃ (b : Block) (p : Path) (v : Word) (table bank : Nat), Runs b ∧ b.gated R.COR_LOAD_CMD = false ∧ b.scnOn = true ∧
      F.COR_LOAD_CMD_START.of v.toNat = 1 ∧ F.COR_LOAD_CMD_ABORT.of v.toNat = 0 ∧ table = F.COR_LOAD_CMD_TABLE.of v.toNat ∧ (table =
      0x2000 ∨ table = 0x2100) ∧ bank = (if (b.selectedBanks table).contains 0 then 1 else 0) ∧ (b.loadSpan.base % 64 ≠ 0 ∨ b.inDram
      b.loadSpan = false ∨ b.scn.load.isSome = true ∨ b.get F.CFG_PR_STATUS_STATE = 1))
    ∧ (∃ (b : Block) (p : Path) (v : Word) (table : Nat), Runs b ∧ b.gated R.COR_LOAD_CMD = false ∧ b.scnOn = true ∧
      F.COR_LOAD_CMD_ABORT.of v.toNat = 1 ∧ b.scn.load = some table)
    ∧ (∃ (b c : Block) (k : Nat), Runs b ∧ b.scn.load = some 0x2000 ∧ k = b.get F.COR_LOAD_STATUS_BANK ∧ c = b.writeQdr (mapBase k)
      (b.dramBytes b.loadSpan.base (min b.loadSpan.len 0x200000)) ∧ c.mapOk k = true)
    ∧ (∃ (b c : Block) (k : Nat), Runs b ∧ b.scn.load = some 0x2000 ∧ k = b.get F.COR_LOAD_STATUS_BANK ∧ c = b.writeQdr (mapBase k)
      (b.dramBytes b.loadSpan.base (min b.loadSpan.len 0x200000)) ∧ c.mapOk k = false)
    ∧ (∃ (b : Block) (p : Nat) (f : Frond), Runs b ∧ p < 2 ∧ b.carries p = true ∧ b.bit F.LNK_CHAIN_STATUS_SLOT_VALID = true ∧ f.slot =
      b.slotNumber ∧ b.scnOn = true ∧ b.maskedOut f.wfn = true)
    ∧ (∃ (b : Block) (p : Nat) (f : Frond), Runs b ∧ p < 2 ∧ b.carries p = true ∧ b.bit F.LNK_CHAIN_STATUS_SLOT_VALID = true ∧ f.slot =
      b.slotNumber ∧ b.scnOn = true ∧ b.maskedOut f.wfn = false ∧ f.crcOk = true ∧ f.chainId = b.chainId ∧ f.w = b.slotW ∧ f.band <
      b.slotH / 16 ∧ f.zeros = true ∧ f.epoch = b.epoch ∧ (f.wfn = b.openFrame + 1 ∨ f.wfn = b.openFrame ∧ b.scn.early.contains f.band
      = false) ∧ b.scn.cap = none ∧ f.pixels.length = 16 * f.w ∧ (f.wfn = b.openFrame ∨ b.scn.early.contains f.band = true))
    ∧ (∃ (b : Block) (p : Nat) (f : Frond), Runs b ∧ p < 2 ∧ b.carries p = true ∧ b.bit F.LNK_CHAIN_STATUS_SLOT_VALID = true ∧ f.slot =
      b.slotNumber ∧ b.scnOn = true ∧ b.maskedOut f.wfn = false ∧ f.crcOk = false)
    ∧ (∃ (b : Block) (p : Nat) (f : Frond) (k : Nat), Runs b ∧ p < 2 ∧ b.carries p = true ∧ b.bit F.LNK_CHAIN_STATUS_SLOT_VALID = true
      ∧ f.slot = b.slotNumber ∧ b.scnOn = true ∧ b.maskedOut f.wfn = false ∧ 0 < k)
    ∧ (∃ (b : Block) (p : Nat) (f : Frond), Runs b ∧ p < 2 ∧ b.carries p = true ∧ b.bit F.LNK_CHAIN_STATUS_SLOT_VALID = true ∧ f.slot =
      b.slotNumber ∧ b.scnOn = true ∧ b.maskedOut f.wfn = false ∧ f.crcOk = true ∧ (f.w ≠ b.slotW ∨ b.slotH / 16 ≤ f.band))
    ∧ (∃ (b : Block) (p : Nat) (f : Frond), Runs b ∧ p < 2 ∧ b.carries p = true ∧ b.bit F.LNK_CHAIN_STATUS_SLOT_VALID = true ∧ f.slot =
      b.slotNumber ∧ b.scnOn = true ∧ b.maskedOut f.wfn = false ∧ f.crcOk = true ∧ f.chainId = b.chainId ∧ f.w = b.slotW ∧ f.band <
      b.slotH / 16 ∧ f.zeros = true ∧ f.epoch = b.epoch ∧ f.wfn < b.openFrame) :=
  ⟨⟨tMap 8 0, .i3c, 0x12000, 0x2000, 1, by decide +kernel⟩,
   ⟨tSet (tMap 8 0) [(F.COR_LOAD_SRC_LO_ADDR, 2 ^ 20 + 32)], .i3c, 0x12100, 0x2100, 1, by decide +kernel⟩,
   ⟨tBusyLoad 8 0, .i3c, 0x20000, 0x2000, by decide +kernel⟩,
   ⟨tBusyLoad 8 4119866669, (tBusyLoad 8 4119866669).writeQdr (mapBase 0) ((tBusyLoad 8 4119866669).dramBytes (2 ^ 20) 16), 0,
     by decide +kernel⟩,
   ⟨tBusyLoad 9 0, (tBusyLoad 9 0).writeQdr (mapBase 0) ((tBusyLoad 9 0).dramBytes (2 ^ 20) 16), 0, by decide +kernel⟩,
   ⟨tMasked, 1, tBand 8 6 true, by decide +kernel⟩,
   ⟨tSlot, 1, tBand 8 6 true, by decide +kernel⟩,
   ⟨tSlot, 1, tBand 8 6 false, by decide +kernel⟩,
   ⟨tSlot, 1, tBand 8 6 true, 2, by decide +kernel⟩,
   ⟨tSlot, 1, tBand 16 6 true, by decide +kernel⟩,
   ⟨tSlot, 1, tBand 8 5 true, by decide +kernel⟩⟩

end Sys2Proof.Tests
end

section
/-!
PROOFS of chapter 00. An access to no register (R10) does nothing but raise HIF_ERR.ADDR; installing a snapshot gives a
group its active values in one step (R13), and a due stage installs at its frame start (R119, R124).
-/

namespace Sys2Proof.Machine

/-! ### An error that is not logged -/

/-- An error that is not logged writes its sticky bit and its block's interrupt bit, and no other word. -/
theorem Block.word_raiseAt_unlogged (b : Block) {e : Err} (d : Nat) {k : Nat} (hl : e.logged = false) (hf : k ≠ e.fld.addr)
    (hi : k ≠ e.irq.addr) : (b.raiseAt e d).word k = b.word k := by
  by_cases hb : b.bit e.fld = true
  · simp [Block.raiseAt, hb]
  · simp [Block.raiseAt, hb, hl, Block.word_set_other _ _ hi, Block.word_set_other _ _ hf]

/-- A one-bit field that is set to 1 is set. -/
theorem Block.bit_set_one (b : Block) {f : Fld} (hf : f.ok = true) (hw : f.hi = f.lo) : (b.set f 1).bit f = true := by
  have hwidth : f.width = 1 := by simp [Fld.width, hw]
  simp [Block.bit, Block.get_set b 1 hf, hwidth]

/-- A bit of another register stays. -/
theorem Block.bit_set_other (b : Block) {f g : Fld} (v : Nat) (h : g.addr ≠ f.addr) : (b.set f v).bit g = b.bit g := by
  rw [Block.bit, Block.get_set_other b v h, Block.bit]

/-- An error that is not logged leaves its sticky bit set. -/
theorem Block.bit_raiseAt_unlogged (b : Block) {e : Err} (d : Nat) (hl : e.logged = false) (hf : e.fld.ok = true)
    (hw : e.fld.hi = e.fld.lo) (ha : e.fld.addr ≠ e.irq.addr) : (b.raiseAt e d).bit e.fld = true := by
  by_cases hb : b.bit e.fld = true
  · simp [Block.raiseAt, hb]
  · simp [Block.raiseAt, hb, hl, Block.bit_set_other _ _ ha, Block.bit_set_one _ hf hw]

/-! ### Accesses to no register (R10) -/

/-- What R10 calls an access to no register has no row. -/
theorem accessRow_eq_none {a n : Nat} (h : n ≠ 4 ∨ a % 4 ≠ 0 ∨ accessRow a 4 = none) : accessRow a n = none := by
  by_cases hs : n ≠ 4 ∨ a % 4 ≠ 0
  · simp only [accessRow, if_pos hs]
  · obtain ⟨rfl, ha⟩ : n = 4 ∧ a % 4 = 0 := by simpa using hs
    simpa [ha] using h

theorem Block.writeReg_none (b : Block) (p : Path) {a n : Nat} (v : Word) (x : Ext) (h : accessRow a n = none) :
    b.writeReg p a n v x = b.raise E.HIF_ADDR := by
  simp only [Block.writeReg, h]

theorem regRead_none (b : Block) (p : Path) {a n : Nat} (h : accessRow a n = none) :
    regRead p a n b = (b.raise E.HIF_ADDR).emit (.read p a 0) := by
  simp only [regRead, Block.readReg, h]

/-- HIF_ERR.ADDR is sticky: once raised it is set, whether or not it was before. -/
theorem Block.bit_raise_HIF_ADDR (b : Block) : (b.raise E.HIF_ADDR).bit F.HIF_ERR_ADDR = true :=
  b.bit_raiseAt_unlogged (e := E.HIF_ADDR) noDetail rfl (by decide) rfl (by decide)

/-- Raising HIF_ERR.ADDR touches HIF_ERR and HIF_IRQ_STATUS, and no other word. -/
theorem Block.sameWords_raise_HIF_ADDR (b : Block) : SameWords [R.HIF_ERR, R.HIF_IRQ_STATUS] b (b.raise E.HIF_ADDR) := by
  intro k hk
  obtain ⟨herr, hirq⟩ : k ≠ R.HIF_ERR ∧ k ≠ R.HIF_IRQ_STATUS := by simpa using hk
  exact b.word_raiseAt_unlogged (e := E.HIF_ADDR) noDetail rfl herr hirq

/-- An error moves no byte of memory. -/
theorem Block.sameMem_raise (b : Block) (e : Err) : SameMem b (b.raise e) := by
  intro a
  simp [Block.raise, Block.dramByte, Block.qdrByte]

/-- An error puts nothing out. -/
@[simp] theorem Block.raise_out (b : Block) (e : Err) : (b.raise e).out = b.out := b.raiseAt_out e noDetail

/-- A command that ends as `State.done` with logic power running gives the settled block. -/
theorem gives_of_done {c : Instr} {b t : Block} {P : Block → Prop} (hr : Runs b)
    (he : ∀ q, exec c ⟨b, q⟩ = State.done ⟨b, q⟩ t) (hP : P t.settle) : Gives c b P :=
  fun q => ⟨t.settle, by rw [he, State.done_running t hr], hP⟩

/-- A read of no register puts out 0 and raises HIF_ERR.ADDR. -/
theorem gives_read_none {c : Instr} {b : Block} {p : Path} {a n : Nat} (hr : Runs b) (hrow : accessRow a n = none)
    (he : ∀ q, exec c ⟨b, q⟩ = State.done ⟨b, q⟩ (regRead p a n b)) :
    Gives c b (fun t => t.out = .read p a 0 :: b.out ∧ t.bit F.HIF_ERR_ADDR = true
      ∧ SameWords [R.HIF_ERR, R.HIF_IRQ_STATUS] b t ∧ SameMem b t) := by
  refine gives_of_done hr he ?_
  rw [regRead_none b p hrow]
  refine ⟨?_, b.bit_raise_HIF_ADDR, b.sameWords_raise_HIF_ADDR, b.sameMem_raise E.HIF_ADDR⟩
  exact congrArg (Out.read p a 0 :: ·) (b.raise_out E.HIF_ADDR)

/-- Settles O13: an access that names no row only raises HIF_ERR.ADDR, and a read of it gives 0 (R10). -/
theorem accessToNoRegister : Obligations.AccessToNoRegister := by
  unfold Obligations.AccessToNoRegister
  intro b p a n v x hr hno
  have hrow : accessRow a n = none := accessRow_eq_none hno
  refine ⟨gives_of_done hr (t := b.writeReg p a n v x) (fun q => rfl) ?_, gives_read_none hr hrow fun q => rfl,
    gives_read_none hr hrow fun q => rfl⟩
  rw [b.writeReg_none p v x hrow]
  exact ⟨b.bit_raise_HIF_ADDR, b.raise_out E.HIF_ADDR, b.sameWords_raise_HIF_ADDR, b.sameMem_raise E.HIF_ADDR⟩

/-! ### Active copies (R12) -/

/-- The shadows of a group lie in the lower half of a window. -/
theorem shadowKey_iff (g k : Nat) : shadowKey g k = true ↔ k % 0x10000 < 0x8000 ∧ isRws k = true ∧ groupOf k = g := by
  simp [shadowKey, and_assoc]

/-- The active copies of a group lie in the upper half of a window. -/
theorem activeKey_iff (g k : Nat) :
    activeKey g k = true ↔ 0x8000 ≤ k % 0x10000 ∧ isRws (k - 0x8000) = true ∧ groupOf (k - 0x8000) = g := by
  simp [activeKey, and_assoc]

/-- A shadow's active copy stands 0x8000 above it. -/
theorem activeKey_add_offset {g k : Nat} (h : shadowKey g k = true) : activeKey g (k + activeOffset) = true := by
  obtain ⟨hlow, hrws, hgrp⟩ := (shadowKey_iff g k).1 h
  have hhigh : 0x8000 ≤ (k + activeOffset) % 0x10000 := by
    simp only [activeOffset]
    omega
  exact (activeKey_iff g _).2 ⟨hhigh, by simpa [activeOffset] using hrws, by simpa [activeOffset] using hgrp⟩

/-- The active copy of a register has the reset value of the register. -/
theorem keyReset_add_offset {k : Nat} (h : k % 0x10000 < 0x8000) : keyReset (k + activeOffset) = keyReset k := by
  have haddr : keyAddr (k + activeOffset) = keyAddr k := by
    have hhigh : (k + 0x8000) % 2 ^ 32 % 0x10000 ≥ 0x8000 := by omega
    have hbase : ¬ k % 2 ^ 32 % 0x10000 ≥ 0x8000 := by omega
    unfold keyAddr activeOffset
    dsimp only
    rw [if_pos hhigh, if_neg hbase]
    omega
  rw [keyReset, haddr, keyReset]

/-! ### Installing a snapshot (R13, R119) -/

/-- A key that is not listed reads as its default. -/
theorem cellsGet_of_forall_ne {β : Type} {l : List (Nat × β)} {k : Nat} (d : β) (h : ∀ c ∈ l, c.1 ≠ k) : cellsGet l k d = d := by
  induction l with
  | nil => rfl
  | cons c r ih =>
    have hc : c.1 ≠ k := h c (by simp)
    rw [cellsGet, if_neg hc, ih fun x hx => h x (by simp [hx])]

/-- Values stored at the active copies leave every other word. -/
theorem Block.word_each_setWord_other {l : List (Nat × Word)} {k : Nat} (b : Block) (h : ∀ c ∈ l, k ≠ c.1 + 0x8000) :
    (b.each l (fun c b => b.setWord (c.1 + 0x8000) c.2)).word k = b.word k := by
  unfold Block.each
  induction l generalizing b with
  | nil => rfl
  | cons c r ih =>
    rw [List.foldl_cons, ih _ fun x hx => h x (by simp [hx]), Block.word_setWord_other _ _ (h c (by simp))]

/-- Values stored at the active copies, of keys that differ, read there as the list has them. -/
theorem Block.word_each_setWord {l : List (Nat × Word)} (k : Nat) (b : Block) (h : l.Pairwise (fun x y => x.1 < y.1)) :
    (b.each l (fun c b => b.setWord (c.1 + 0x8000) c.2)).word (k + activeOffset) = cellsGet l k (b.word (k + activeOffset)) := by
  unfold Block.each
  induction l generalizing b with
  | nil => rfl
  | cons c r ih =>
    obtain ⟨hlt, hr⟩ := List.pairwise_cons.1 h
    rw [List.foldl_cons, ih _ hr, cellsGet]
    by_cases hk : c.1 = k
    · subst hk
      rw [if_pos rfl, cellsGet_of_forall_ne _ fun x hx => (hlt x hx).ne']
      exact b.word_setWord _ _
    · have hne : k + activeOffset ≠ c.1 + 0x8000 := fun e => hk (Nat.add_right_cancel e).symm
      rw [if_neg hk, Block.word_setWord_other _ _ hne]

/-- With the active copies of a group dropped they read as after reset, every other word as before. -/
theorem Block.word_dropActive (b : Block) (g k : Nat) :
    ({ b with regs := b.regs.filter (fun c => !activeKey g c.1) } : Block).word k
      = if activeKey g k = true then keyReset k else b.word k := by
  rw [Block.word, cellsGet_filter (fun k => !activeKey g k)]
  by_cases h : activeKey g k = true <;> simp [h, Block.word]

/-- A snapshot lists the shadows of its group, in rising order. -/
theorem Block.snapshot_pairwise {c : Block} (g : Nat) (hc : cellsWf keyReset c.regs = true) :
    (c.snapshot g).Pairwise (fun x y => x.1 < y.1) :=
  ((cellsWf_iff keyReset c.regs).1 hc).1.filter _

/-- Every active value of the group takes the shadow value of the snapshot. -/
theorem Block.word_install_shadow (b : Block) {c : Block} {g k : Nat} (hc : cellsWf keyReset c.regs = true)
    (hk : shadowKey g k = true) : (b.install g (c.snapshot g)).word (k + activeOffset) = c.word k := by
  obtain ⟨hlow, -⟩ := (shadowKey_iff g k).1 hk
  rw [Block.install, Block.word_each_setWord k _ (c.snapshot_pairwise g hc), Block.word_dropActive,
    if_pos (activeKey_add_offset hk), keyReset_add_offset hlow, Block.snapshot, cellsGet_filter (shadowKey g), if_pos hk,
    Block.word]

/-- An install changes no word but the active values of its group. -/
theorem Block.word_install_other (b c : Block) {g k : Nat} (hk : activeKey g k = false) :
    (b.install g (c.snapshot g)).word k = b.word k := by
  have hne : ∀ x ∈ c.snapshot g, k ≠ x.1 + 0x8000 := by
    rintro x hx rfl
    have hx' : shadowKey g x.1 = true := (List.mem_filter.1 hx).2
    exact absurd (activeKey_add_offset hx') (by simp [activeOffset, hk])
  rw [Block.install, Block.word_each_setWord_other _ hne, Block.word_dropActive, if_neg (by simp [hk])]

/-- An install touches the register file alone. -/
theorem Block.install_eq (b : Block) (g : Nat) (l : List (Nat × Word)) : b.install g l = { b with regs := (b.install g l).regs } := by
  have h : ({ b.install g l with regs := b.regs } : Block) = b :=
    Block.each_keeps (fun x : Block => ({ x with regs := b.regs } : Block)) (fun (c : Nat × Word) x => x.setWord (c.1 + 0x8000) c.2)
      (fun _ _ => rfl) l _
  calc b.install g l = { ({ b.install g l with regs := b.regs } : Block) with regs := (b.install g l).regs } := rfl
    _ = _ := by rw [h]

@[simp] theorem Block.install_dram (b : Block) (g : Nat) (l : List (Nat × Word)) : (b.install g l).dram = b.dram := by rw [Block.install_eq]
@[simp] theorem Block.install_qdr (b : Block) (g : Nat) (l : List (Nat × Word)) : (b.install g l).qdr = b.qdr := by rw [Block.install_eq]
@[simp] theorem Block.install_cfg (b : Block) (g : Nat) (l : List (Nat × Word)) : (b.install g l).cfg = b.cfg := by rw [Block.install_eq]

/-- An install moves no byte of memory. -/
theorem Block.sameMem_install (b : Block) (g : Nat) (l : List (Nat × Word)) : SameMem b (b.install g l) := by
  intro a
  simp [Block.dramByte, Block.qdrByte]

/-! ### The due stages of a frame (R27, R119, R124) -/

/-- What tells of an install of group `g` at frame `n`: its count of stages, LAST_WFN and INSTALLED, and MODE_INSTALLED for FRM_MODE. -/
def Block.recordInstall (b : Block) (n g : Nat) : Block :=
  (((b.stageCount g).set (F.CFG_GRPg_STATUS_LAST_WFN g) n).irq F.CFG_IRQ_STATUS_INSTALLED).irqIf (g == 1) F.FRM_IRQ_STATUS_MODE_INSTALLED

/-- The transaction of an installed stage, if it has one, is told to be installed. -/
def Block.noteInstalled (b : Block) (txn : Option Nat) : Block := match txn with | some t => b.txnNote t 3 | none => b

/-- A frame start installs its due stages one after another, once they have left the list. -/
theorem Block.installDue_eq (b : Block) (n : Nat) : b.installDue n =
    ({ b with cfg.stages := b.cfg.stages.filter (fun s : Stage => !(b.dueStages n).contains s) } : Block).each (b.dueStages n)
      (fun s b => ((b.install s.group s.snap).recordInstall n s.group).noteInstalled s.txn) := rfl

/-- A stage alone is due from its target frame on. -/
theorem Block.dueStages_single {b : Block} {s : Stage} {m : Nat} (n : Nat) (hs : b.cfg.stages = [s]) (hm : s.target = some m) :
    b.dueStages n = if m ≤ n then [s] else [] := by
  by_cases hdue : m ≤ n <;> by_cases hg : s.group = 1 <;> simp [Block.dueStages, hs, hm, hdue, hg]

/-- A stage alone that is due leaves the list and installs. -/
theorem Block.installDue_single {b : Block} {s : Stage} {m n : Nat} (hs : b.cfg.stages = [s]) (hm : s.target = some m) (hn : m ≤ n) :
    b.installDue n = ((({ b with cfg.stages := [] } : Block).install s.group s.snap).recordInstall n s.group).noteInstalled s.txn := by
  have hdue : b.dueStages n = [s] := by rw [Block.dueStages_single n hs hm, if_pos hn]
  simp [Block.installDue_eq, hdue, hs, Block.each]

/-- A stage alone that is not due yet stays, and nothing happens. -/
theorem Block.installDue_early {b : Block} {s : Stage} {m n : Nat} (hs : b.cfg.stages = [s]) (hm : s.target = some m) (hn : n < m) :
    b.installDue n = b := by
  have hdue : b.dueStages n = [] := by rw [Block.dueStages_single n hs hm, if_neg (Nat.not_le.2 hn)]
  simp [Block.installDue_eq, hdue, Block.each]

/-- The state of a transaction is no word. -/
@[simp] theorem Block.noteInstalled_word (b : Block) (txn : Option Nat) (k : Nat) : (b.noteInstalled txn).word k = b.word k := by
  cases txn with
  | none => rfl
  | some t =>
    simp only [Block.noteInstalled, Block.txnNote]
    split_ifs <;> rfl

/-- The state of a transaction is no stage. -/
@[simp] theorem Block.noteInstalled_cfg (b : Block) (txn : Option Nat) : (b.noteInstalled txn).cfg = b.cfg := by
  cases txn with
  | none => rfl
  | some t =>
    simp only [Block.noteInstalled, Block.txnNote]
    split_ifs <;> rfl

@[simp] theorem Block.noteInstalled_get (b : Block) (txn : Option Nat) (f : Fld) : (b.noteInstalled txn).get f = b.get f := by
  rw [Block.get, Block.noteInstalled_word, Block.get]

@[simp] theorem Block.noteInstalled_bit (b : Block) (txn : Option Nat) (f : Fld) : (b.noteInstalled txn).bit f = b.bit f := by
  rw [Block.bit, Block.noteInstalled_get, Block.bit]

@[simp] theorem Block.recordInstall_cfg (b : Block) (n g : Nat) : (b.recordInstall n g).cfg = b.cfg := by
  unfold Block.recordInstall Block.irqIf
  split_ifs <;> rfl

/-- An interrupt event that a condition brings about leaves every other word. -/
theorem Block.word_irqIf_other (b : Block) (c : Bool) {f : Fld} {k : Nat} (h : k ≠ f.addr) : (b.irqIf c f).word k = b.word k := by
  cases c with
  | false => rfl
  | true => exact b.word_set_other 1 h

/-- An interrupt event that a condition brings about leaves every field of another register. -/
theorem Block.get_irqIf_other (b : Block) (c : Bool) {f e : Fld} (h : f.addr ≠ e.addr) : (b.irqIf c e).get f = b.get f := by
  rw [Block.get, Block.word_irqIf_other b c h, Block.get]

/-- The status of a group and the interrupts are told below the active copies of their windows. -/
theorem Block.word_recordInstall_active (b : Block) (n : Nat) {g k : Nat} (hg : g < 256) (hk : 0x8000 ≤ k % 0x10000) :
    (b.recordInstall n g).word k = b.word k := by
  have hfrm : k ≠ F.FRM_IRQ_STATUS_MODE_INSTALLED.addr := by rintro rfl; revert hk; decide
  have hcfg : k ≠ F.CFG_IRQ_STATUS_INSTALLED.addr := by rintro rfl; revert hk; decide
  have hgrp : k ≠ R.CFG_GRPg_STATUS g := by
    rintro rfl
    simp only [R.CFG_GRPg_STATUS] at hk
    omega
  rw [Block.recordInstall, Block.word_irqIf_other _ _ hfrm, Block.irq, Block.word_set_other _ _ hcfg, Block.word_set_other _ _ hgrp,
    Block.stageCount, Block.word_set_other _ _ hgrp]

/-- The status register of a group is neither of the interrupt registers. -/
theorem groupStatus_ne_irq {g : Nat} (hg : g < 256) :
    R.CFG_GRPg_STATUS g ≠ R.CFG_IRQ_STATUS ∧ R.CFG_GRPg_STATUS g ≠ R.FRM_IRQ_STATUS := by
  simp only [R.CFG_GRPg_STATUS, R.CFG_IRQ_STATUS, R.FRM_IRQ_STATUS]
  omega

/-- STAGES counts the stages of the group that are left. -/
theorem Block.get_recordInstall_stages (b : Block) (n : Nat) {g : Nat} (hg : g < 256) :
    (b.recordInstall n g).get (F.CFG_GRPg_STATUS_STAGES g) = b.stagesOf g % 2 ^ 3 := by
  obtain ⟨hcfg, hfrm⟩ := groupStatus_ne_irq hg
  rw [Block.recordInstall, Block.get_irqIf_other _ _ hfrm, Block.irq, Block.get_set_other _ _ hcfg,
    Block.get_set_disjoint (f := F.CFG_GRPg_STATUS_LAST_WFN g) (g := F.CFG_GRPg_STATUS_STAGES g) _ _ rfl rfl
      (.inl (by decide : (10 : Nat) < 16)), Block.stageCount, Block.get_set _ _ rfl]
  rfl

/-- LAST_WFN is the frame of the install. -/
theorem Block.get_recordInstall_lastWfn (b : Block) (n : Nat) {g : Nat} (hg : g < 256) :
    (b.recordInstall n g).get (F.CFG_GRPg_STATUS_LAST_WFN g) = n % 2 ^ 16 := by
  obtain ⟨hcfg, hfrm⟩ := groupStatus_ne_irq hg
  rw [Block.recordInstall, Block.get_irqIf_other _ _ hfrm, Block.irq, Block.get_set_other _ _ hcfg, Block.get_set _ _ rfl]
  rfl

/-- INSTALLED tells of the install. -/
theorem Block.bit_recordInstall_installed (b : Block) (n g : Nat) : (b.recordInstall n g).bit F.CFG_IRQ_STATUS_INSTALLED = true := by
  rw [Block.recordInstall, Block.bit, Block.get_irqIf_other _ _ (by decide)]
  exact Block.bit_set_one _ (by decide) rfl

/-- Settles O49: an install gives the group's active values the snapshot's, and a stage alone installs when it is due (R13, R119,
R124). -/
theorem installTakesTheSnapshot : Obligations.InstallTakesTheSnapshot := by
  unfold Obligations.InstallTakesTheSnapshot
  refine ⟨fun b c g k _ hc => ⟨b.word_install_shadow hc, b.word_install_other c, b.sameMem_install g _⟩, ?_, ?_⟩
  · intro b c g m n txn _ hc hg hs hmn
    rw [Block.installDue_single hs rfl hmn]
    refine ⟨by simp, fun k hk => ?_, ?_, ?_, ?_⟩
    · have hhigh := (activeKey_iff g (k + activeOffset)).1 (activeKey_add_offset hk)
      rw [Block.noteInstalled_word, Block.word_recordInstall_active _ n hg hhigh.1, Block.word_install_shadow _ hc hk]
    · rw [Block.noteInstalled_get, Block.get_recordInstall_stages _ n hg]
      simp [Block.stagesOf]
    · rw [Block.noteInstalled_get, Block.get_recordInstall_lastWfn _ n hg]
    · rw [Block.noteInstalled_bit, Block.bit_recordInstall_installed]
  · intro b g m n l txn hs hnm
    rw [Block.installDue_early hs rfl hnm]
    exact ⟨rfl, fun _ _ => rfl, fun _ => ⟨rfl, rfl⟩⟩

end Sys2Proof.Machine
end

section
/-!
PROOFS of chapter 03. Every next state of a command is the old state or one whose block has settled, so ALERT_N follows its
cause (R99) along every step; without logic power and during a cold reset it is released (R54).
-/

namespace Sys2Proof.Machine

/-! ### What a next state is -/

/-- A next state is the old one, or the old one with a block that has settled. -/
theorem exec_next_settled {c : Instr} {s t : State} (h : exec c s = .next t) : t = s ∨ ∃ b : Block, t = { s with blk := b.settle } := by
  cases hp : powerRow c
  case false =>
    obtain ⟨b, hb⟩ := exec_done c hp s
    by_cases hr : Runs s.blk
    · rw [hb, State.done_running b hr] at h
      exact .inr ⟨b, (Host.Outcome.next.inj h).symm⟩
    · rw [hb, State.done_idle b hr] at h
      exact .inl (Host.Outcome.next.inj h).symm
  case true =>
    obtain ⟨b, hb⟩ | ⟨_, _, _, _, hf⟩ := exec_power c hp s
    · rw [hb, State.power] at h
      exact .inr ⟨b, (Host.Outcome.next.inj h).symm⟩
    · rw [hf] at h
      cases h

/-! ### ALERT_N and its cause -/

/-- Settling leaves the cause of ALERT_N as it was: it is read from registers alone (R98, R99). -/
@[simp] theorem Block.settle_alertDue (b : Block) : b.settle.alertDue = b.alertDue := rfl

/-- Time alone leaves the cause of ALERT_N as it was. -/
@[simp] theorem Block.elapse_alertDue (b : Block) (n : Nat) : (b.elapse n).alertDue = b.alertDue := rfl

/-- A block that has settled drives ALERT_N by its cause, whatever it drove before (R54, R99, log entry 62). -/
theorem alertSound_settle (b : Block) : AlertSound b.settle := by
  rw [AlertSound, Block.settle_pins, Block.settle_alertDue, Block.settle_logic]

/-- Time alone moves neither ALERT_N nor its cause. -/
theorem alertSound_elapse {b : Block} (n : Nat) (h : AlertSound b) : AlertSound (b.elapse n) := by
  rw [AlertSound, Block.elapse_alertDue]
  exact h

/-- Every command keeps ALERT_N as its cause has it. -/
theorem exec_keeps_alertSound {c : Instr} {s t : State} (hs : AlertSound s.blk) (h : exec c s = .next t) : AlertSound t.blk := by
  obtain rfl | ⟨b, rfl⟩ := exec_next_settled h
  · exact hs
  · exact alertSound_settle b

/-- Settles O6: a step is idle time or a command, and each keeps ALERT_N as its cause has it (R54, R99). -/
theorem alertFollowsItsCause : Obligations.AlertFollowsItsCause := by
  unfold Obligations.AlertFollowsItsCause
  rintro ⟨blk, pending⟩ t hs h
  cases pending with
  | nil =>
    obtain rfl := Host.Outcome.next.inj h
    exact alertSound_elapse 1 hs
  | cons c rest => exact exec_keeps_alertSound (s := ⟨blk, rest⟩) hs h

end Sys2Proof.Machine
end

section
/-!
PROOFS, shared rules: what a field write, an error, a counter and a change outside the register file do to a field, to the words
that a claim says stay, and to memory. Later proofs rewrite with these rules and do not unfold the register file.
-/

namespace Sys2Proof.Machine

/-! ### Fields that share no bit -/

/-- Fields of one register that do not overlap, or fields of different registers. -/
def Fld.apart (f g : Fld) : Bool := Nat.blt f.hi g.lo || Nat.blt g.hi f.lo || !Nat.beq f.addr g.addr

theorem Fld.apart_iff (f g : Fld) : f.apart g = true ↔ f.hi < g.lo ∨ g.hi < f.lo ∨ f.addr ≠ g.addr := by
  simp [Fld.apart, or_assoc, ← Bool.not_eq_true]

/-- A field that shares no bit with the one written reads as before. -/
@[simp] theorem Block.get_set_apart (b : Block) {f g : Fld} (v : Nat) (hok : f.ok = true) (h : g.apart f = true) :
    (b.set f v).get g = b.get g := by
  by_cases ha : g.addr = f.addr
  · have hd : g.hi < f.lo ∨ f.hi < g.lo := by simpa [ha, Fld.apart_iff] using h
    exact b.get_set_disjoint v hok ha hd
  · exact b.get_set_other v ha

/-- A field that is written reads as its low bits. -/
@[simp] theorem Block.get_set_self (b : Block) {f : Fld} (v : Nat) (hok : f.ok = true) : (b.set f v).get f = v % 2 ^ f.width := b.get_set v hok

/-- A bit that shares no bit with the field written reads as before. -/
@[simp] theorem Block.bit_set_apart (b : Block) {f g : Fld} (v : Nat) (hok : f.ok = true) (h : g.apart f = true) :
    (b.set f v).bit g = b.bit g := by
  rw [Block.bit, Block.get_set_apart b v hok h, Block.bit]

/-- A bit that is set reads 1. -/
@[simp] theorem Block.bit_set_one_self (b : Block) {f : Fld} (hok : f.ok = true) (hw : f.hi = f.lo) : (b.set f 1).bit f = true :=
  b.bit_set_one hok hw

/-- A field that is cleared reads 0. -/
@[simp] theorem Block.bit_set_zero_self (b : Block) {f : Fld} (hok : f.ok = true) : (b.set f 0).bit f = false := by
  simp [Block.bit, Block.get_set_self b 0 hok]

/-- A word that is not the field's reads as before. -/
@[simp] theorem Block.word_set_ne (b : Block) {f : Fld} {k : Nat} (v : Nat) (h : k ≠ f.addr) : (b.set f v).word k = b.word k :=
  b.word_set_other v h

/-! ### Derived writes are field writes -/

@[simp] theorem Block.setBit_eq (b : Block) (f : Fld) (v : Bool) : b.setBit f v = b.set f (if v then 1 else 0) := rfl
@[simp] theorem Block.irq_eq (b : Block) (f : Fld) : b.irq f = b.set f 1 := rfl
@[simp] theorem Block.count_eq (b : Block) (f : Fld) (k : Nat) : b.count f k = b.set f (b.get f + k) := rfl
@[simp] theorem Block.countSat_eq (b : Block) (f : Fld) (k : Nat) : b.countSat f k = b.set f (min (b.get f + k) (2 ^ f.width - 1)) := rfl
@[simp] theorem Block.setPair_eq (b : Block) (lo hi : Fld) (v : Nat) : b.setPair lo hi v = (b.set lo v).set hi (v / 2 ^ 32) := rfl
@[simp] theorem Block.raise_eq (b : Block) (e : Err) : b.raise e = b.raiseAt e noDetail := rfl
@[simp] theorem Block.when_true (b : Block) (f : Block → Block) : b.when true f = f b := rfl
@[simp] theorem Block.when_false (b : Block) (f : Block → Block) : b.when false f = b := rfl
@[simp] theorem Block.raiseIf_true (b : Block) (e : Err) : b.raiseIf true e = b.raiseAt e noDetail := rfl
@[simp] theorem Block.raiseIf_false (b : Block) (e : Err) : b.raiseIf false e = b := rfl
@[simp] theorem Block.irqIf_true (b : Block) (f : Fld) : b.irqIf true f = b.set f 1 := rfl
@[simp] theorem Block.irqIf_false (b : Block) (f : Fld) : b.irqIf false f = b := rfl

/-! ### Changes outside the register file -/

theorem Block.word_ite (c : Prop) [Decidable c] (b t : Block) (k : Nat) : (if c then b else t).word k = if c then b.word k else t.word k :=
  apply_ite (Block.word · k) c b t

theorem Block.get_ite (c : Prop) [Decidable c] (b t : Block) (f : Fld) : (if c then b else t).get f = if c then b.get f else t.get f :=
  apply_ite (Block.get · f) c b t

/-- The word at a key of a register file alone. -/
def regsWord (r : List (Nat × Word)) (k : Nat) : Word := cellsGet r k (keyReset k)

/-- A field of a register file alone. -/
def regsGet (r : List (Nat × Word)) (f : Fld) : Nat := f.of (regsWord r f.addr).toNat

/-- A one-bit field of a register file alone. -/
def regsBit (r : List (Nat × Word)) (f : Fld) : Bool := regsGet r f != 0

@[simp] theorem regsWord_regs (b : Block) (k : Nat) : regsWord b.regs k = b.word k := rfl
@[simp] theorem regsGet_regs (b : Block) (f : Fld) : regsGet b.regs f = b.get f := rfl
@[simp] theorem regsBit_regs (b : Block) (f : Fld) : regsBit b.regs f = b.bit f := rfl

section
variable (regs latches : List (Nat × Word)) (dram qdr : List Host.Cell) (qdrBad : List Nat) (fuses : Fuses) (logic : LogicPower)
  (clk stc stcFrac freeCount wdtStart wdtMs : Nat) (wdtWarned : Bool) (wdtStop resetWanted : Option Nat) (pins : Pins) (i3c : I3c)
  (hif : Hif) (cfg : Cfg) (frm : Frm) (ptp : Ptp) (clocks : Clocks) (srd : Srd) (eth : List EthPort) (scn : Scn) (str : Str) (pwr : Pwr)
  (cal : Cal) (thm : Thm) (upd : Upd) (cmp : Cmp) (ing : Ing) (rpl : List RplChan) (aud : Aud) (drm : Drm) (lnk : Lnk) (pm : Pm)
  (flt : Flt) (bstFrom : Nat) (out : List Out)

/-- A word of a block given by its parts is the word of its register file. -/
@[simp] theorem Block.word_mk (k : Nat) : (Block.mk regs latches dram qdr qdrBad fuses logic clk stc stcFrac freeCount wdtStart wdtMs
    wdtWarned wdtStop resetWanted pins i3c hif cfg frm ptp clocks srd eth scn str pwr cal thm upd cmp ing rpl aud drm lnk pm flt bstFrom
    out).word k = regsWord regs k := rfl

/-- A field of a block given by its parts is the field of its register file. -/
@[simp] theorem Block.get_mk (f : Fld) : (Block.mk regs latches dram qdr qdrBad fuses logic clk stc stcFrac freeCount wdtStart wdtMs
    wdtWarned wdtStop resetWanted pins i3c hif cfg frm ptp clocks srd eth scn str pwr cal thm upd cmp ing rpl aud drm lnk pm flt bstFrom
    out).get f = regsGet regs f := rfl

/-- A bit of a block given by its parts is the bit of its register file. -/
@[simp] theorem Block.bit_mk (f : Fld) : (Block.mk regs latches dram qdr qdrBad fuses logic clk stc stcFrac freeCount wdtStart wdtMs
    wdtWarned wdtStop resetWanted pins i3c hif cfg frm ptp clocks srd eth scn str pwr cal thm upd cmp ing rpl aud drm lnk pm flt bstFrom
    out).bit f = regsBit regs f := rfl

end

/-! ### Errors -/

/-- An entry that FLT takes or loses is told in FLT's own registers. -/
theorem Block.word_acceptEntry_other (b : Block) (e : FltEntry) {k : Nat} (h : k / 0x10000 ≠ 0x30) : (b.acceptEntry e).word k = b.word k := by
  have hne : ∀ a : Nat, a / 0x10000 = 0x30 → k ≠ a := fun a ha he => h (he ▸ ha)
  have hlast : k ≠ F.FLT_STATUS_LAST_CODE.addr := hne _ rfl
  have hsince : k ≠ F.FLT_SINCE_RESET_COUNT.addr := hne _ rfl
  have hpend : k ≠ F.FLT_STATUS_PENDING.addr := hne _ rfl
  have hlost : k ≠ (F.FLT_CNT_Ei 0).addr := hne _ rfl
  have hover : k ≠ F.FLT_ERR_OVERFLOW.addr := hne _ rfl
  have hirq : k ≠ F.FLT_IRQ_STATUS_ERR.addr := hne _ rfl
  unfold Block.acceptEntry
  split
  · by_cases hk : laterCodes e b.flt.queue = 0 <;> simp [hk, hlast, hsince, hpend]
  · dsimp only
    split <;> simp [hlost, hover, hirq]

/-- A submitted code is told in FLT's own registers. -/
theorem Block.word_submit_other (b : Block) (code d : Nat) {k : Nat} (h : k / 0x10000 ≠ 0x30) : (b.submit code d).word k = b.word k := by
  unfold Block.submit
  split
  · rfl
  · exact b.word_acceptEntry_other _ h

/-- An error writes its sticky bit, its block's interrupt bit and the fault log's window, and no other word. -/
theorem Block.word_raiseAt_other (b : Block) {e : Err} (d : Nat) {k : Nat} (hf : k ≠ e.fld.addr) (hi : k ≠ e.irq.addr)
    (hflt : k / 0x10000 ≠ 0x30) : (b.raiseAt e d).word k = b.word k := by
  simp [Block.raiseAt, Block.word_ite, Block.word_submit_other _ _ _ hflt, Block.word_set_other _ _ hi, Block.word_set_other _ _ hf]

/-- A field that an error does not write reads as before. -/
@[simp] theorem Block.get_raiseAt_apart (b : Block) {e : Err} {g : Fld} (d : Nat) (hfok : e.fld.ok = true) (hiok : e.irq.ok = true)
    (hf : g.apart e.fld = true) (hi : g.apart e.irq = true) (hflt : g.addr / 0x10000 ≠ 0x30) : (b.raiseAt e d).get g = b.get g := by
  have hsub : ∀ c : Block, (c.submit e.code d).get g = c.get g := fun c => by
    rw [Block.get, Block.word_submit_other _ _ _ hflt, Block.get]
  simp [Block.raiseAt, Block.get_ite, hsub, Block.get_set_apart _ _ hfok hf, Block.get_set_apart _ _ hiok hi]

/-- A bit that an error does not write reads as before. -/
@[simp] theorem Block.bit_raiseAt_apart (b : Block) {e : Err} {g : Fld} (d : Nat) (hfok : e.fld.ok = true) (hiok : e.irq.ok = true)
    (hf : g.apart e.fld = true) (hi : g.apart e.irq = true) (hflt : g.addr / 0x10000 ≠ 0x30) : (b.raiseAt e d).bit g = b.bit g := by
  rw [Block.bit, Block.get_raiseAt_apart b d hfok hiok hf hi hflt, Block.bit]

/-- An error that is raised is set, whether or not it was before. -/
@[simp] theorem Block.bit_raiseAt_self (b : Block) {e : Err} (d : Nat) (hfok : e.fld.ok = true) (hw : e.fld.hi = e.fld.lo)
    (hiok : e.irq.ok = true) (hi : e.fld.apart e.irq = true) (hflt : e.fld.addr / 0x10000 ≠ 0x30) :
    (b.raiseAt e d).bit e.fld = true := by
  have hsub : ∀ c : Block, (c.submit e.code d).get e.fld = c.get e.fld := fun c => by
    rw [Block.get, Block.word_submit_other _ _ _ hflt, Block.get]
  have hset : ((b.set e.fld 1).set e.irq 1).get e.fld ≠ 0 := by
    have hwidth : e.fld.width = 1 := by simp [Fld.width, hw]
    rw [Block.get_set_apart _ _ hiok hi, Block.get_set_self _ _ hfok, hwidth]
    decide
  by_cases hb : b.bit e.fld = true
  · simp [Block.raiseAt, hb]
  · have hget : (b.raiseAt e d).get e.fld = ((b.set e.fld 1).set e.irq 1).get e.fld := by simp [Block.raiseAt, hb, Block.get_ite, hsub]
    simpa [Block.bit, hget] using hset

/-! ### The words a claim says stay -/

/-- A register file alone reads as a block's, but for the listed words. -/
def RegsSameWords (l : List Nat) (b : Block) (r : List (Nat × Word)) : Prop := ∀ k, k ∉ l → regsWord r k = b.word k

/-- A register file alone reads as a block's outside the listed windows. -/
def RegsSameOutside (l : List Nat) (b : Block) (r : List (Nat × Word)) : Prop := ∀ k, keyAddr k / 0x10000 ∉ l → regsWord r k = b.word k

@[simp] theorem regsSameWords_regs (l : List Nat) (b t : Block) : RegsSameWords l b t.regs ↔ SameWords l b t := .rfl
@[simp] theorem regsSameOutside_regs (l : List Nat) (b t : Block) : RegsSameOutside l b t.regs ↔ SameOutside l b t := .rfl

section
variable (regs latches : List (Nat × Word)) (dram qdr : List Host.Cell) (qdrBad : List Nat) (fuses : Fuses) (logic : LogicPower)
  (clk stc stcFrac freeCount wdtStart wdtMs : Nat) (wdtWarned : Bool) (wdtStop resetWanted : Option Nat) (pins : Pins) (i3c : I3c)
  (hif : Hif) (cfg : Cfg) (frm : Frm) (ptp : Ptp) (clocks : Clocks) (srd : Srd) (eth : List EthPort) (scn : Scn) (str : Str) (pwr : Pwr)
  (cal : Cal) (thm : Thm) (upd : Upd) (cmp : Cmp) (ing : Ing) (rpl : List RplChan) (aud : Aud) (drm : Drm) (lnk : Lnk) (pm : Pm)
  (flt : Flt) (bstFrom : Nat) (out : List Out)

/-- Of a block given by its parts only the register file counts. -/
@[simp] theorem sameWords_mk (l : List Nat) (b : Block) : SameWords l b (Block.mk regs latches dram qdr qdrBad fuses logic clk stc stcFrac freeCount wdtStart wdtMs
    wdtWarned wdtStop resetWanted pins i3c hif cfg frm ptp clocks srd eth scn str pwr cal thm upd cmp ing rpl aud drm lnk pm flt bstFrom
    out) ↔ RegsSameWords l b regs := .rfl

/-- Of a block given by its parts only the register file counts. -/
@[simp] theorem sameOutside_mk (l : List Nat) (b : Block) : SameOutside l b (Block.mk regs latches dram qdr qdrBad fuses logic clk stc stcFrac freeCount wdtStart wdtMs
    wdtWarned wdtStop resetWanted pins i3c hif cfg frm ptp clocks srd eth scn str pwr cal thm upd cmp ing rpl aud drm lnk pm flt bstFrom
    out) ↔ RegsSameOutside l b regs := .rfl

end

@[simp] theorem sameWords_settle (l : List Nat) (b t : Block) : SameWords l b t.settle ↔ SameWords l b t := .rfl
@[simp] theorem sameWords_emit (l : List Nat) (b t : Block) (o : Out) : SameWords l b (t.emit o) ↔ SameWords l b t := .rfl
@[simp] theorem sameWords_elapse (l : List Nat) (b t : Block) (n : Nat) : SameWords l b (t.elapse n) ↔ SameWords l b t := .rfl
@[simp] theorem sameWords_untilClk (l : List Nat) (b t : Block) (n : Nat) : SameWords l b (t.untilClk n) ↔ SameWords l b t := .rfl
@[simp] theorem sameWords_untilStc (l : List Nat) (b t : Block) (n : Nat) : SameWords l b (t.untilStc n) ↔ SameWords l b t := .rfl
@[simp] theorem sameOutside_settle (l : List Nat) (b t : Block) : SameOutside l b t.settle ↔ SameOutside l b t := .rfl
@[simp] theorem sameOutside_emit (l : List Nat) (b t : Block) (o : Out) : SameOutside l b (t.emit o) ↔ SameOutside l b t := .rfl
@[simp] theorem sameOutside_elapse (l : List Nat) (b t : Block) (n : Nat) : SameOutside l b (t.elapse n) ↔ SameOutside l b t := .rfl
@[simp] theorem sameOutside_untilClk (l : List Nat) (b t : Block) (n : Nat) : SameOutside l b (t.untilClk n) ↔ SameOutside l b t := .rfl
@[simp] theorem sameOutside_untilStc (l : List Nat) (b t : Block) (n : Nat) : SameOutside l b (t.untilStc n) ↔ SameOutside l b t := .rfl

@[simp] theorem SameWords.refl (l : List Nat) (b : Block) : SameWords l b b := fun _ _ => rfl
@[simp] theorem SameOutside.refl (l : List Nat) (b : Block) : SameOutside l b b := fun _ _ => rfl
@[simp] theorem SameMem.refl (b : Block) : SameMem b b := fun _ => ⟨rfl, rfl⟩

/-- A write of a listed word does not count. -/
@[simp] theorem sameWords_setWord {l : List Nat} {b t : Block} {k : Nat} (v : Word) (h : k ∈ l) :
    SameWords l b (t.setWord k v) ↔ SameWords l b t :=
  forall₂_congr fun c hc => by rw [Block.word_setWord_other t v fun e => hc (by rw [e]; exact h)]

/-- A field write in a listed word does not count. -/
@[simp] theorem sameWords_set {l : List Nat} {b t : Block} {f : Fld} (v : Nat) (h : f.addr ∈ l) :
    SameWords l b (t.set f v) ↔ SameWords l b t := sameWords_setWord _ h

/-- A word write in a listed window does not count. -/
@[simp] theorem sameOutside_setWord {l : List Nat} {b t : Block} {k : Nat} (v : Word) (h : keyAddr k / 0x10000 ∈ l) :
    SameOutside l b (t.setWord k v) ↔ SameOutside l b t :=
  forall₂_congr fun c hc => by rw [Block.word_setWord_other t v fun e => hc (by rw [e]; exact h)]

/-- A field write in a listed window does not count. -/
@[simp] theorem sameOutside_set {l : List Nat} {b t : Block} {f : Fld} (v : Nat) (h : keyAddr f.addr / 0x10000 ∈ l) :
    SameOutside l b (t.set f v) ↔ SameOutside l b t := sameOutside_setWord _ h

/-- An address below the window of the fault log's active copies, and its key, lie in one window. -/
theorem div_ne_of_keyAddr_div_ne {k : Nat} (h : keyAddr k / 0x10000 ≠ 0x30) : k / 0x10000 ≠ 0x30 := by
  intro e
  apply h
  simp only [keyAddr]
  split_ifs <;> omega

/-- An error whose bits lie in listed windows does not count, if the fault log's window is listed. -/
@[simp] theorem sameOutside_raiseAt {l : List Nat} {b t : Block} {e : Err} (d : Nat) (hf : keyAddr e.fld.addr / 0x10000 ∈ l)
    (hi : keyAddr e.irq.addr / 0x10000 ∈ l) (hflt : 0x30 ∈ l) : SameOutside l b (t.raiseAt e d) ↔ SameOutside l b t :=
  forall₂_congr fun c hc => by
    rw [Block.word_raiseAt_other t d (fun h => hc (by rw [h]; exact hf)) (fun h => hc (by rw [h]; exact hi))
      (div_ne_of_keyAddr_div_ne fun h => hc (by rw [h]; exact hflt))]

/-- An error that is not logged, whose bits lie in listed windows, does not count. -/
theorem sameOutside_raiseAt_unlogged {l : List Nat} {b t : Block} {e : Err} (d : Nat) (hl : e.logged = false)
    (hf : keyAddr e.fld.addr / 0x10000 ∈ l) (hi : keyAddr e.irq.addr / 0x10000 ∈ l) :
    SameOutside l b (t.raiseAt e d) ↔ SameOutside l b t :=
  forall₂_congr fun c hc => by
    rw [Block.word_raiseAt_unlogged t d hl (fun h => hc (by rw [h]; exact hf)) (fun h => hc (by rw [h]; exact hi))]

/-- Only the register file counts. -/
theorem sameWords_congr {l : List Nat} {b t u : Block} (h : t.regs = u.regs) : SameWords l b t ↔ SameWords l b u := by
  simp only [SameWords, Block.word, h]

theorem sameOutside_congr {l : List Nat} {b t u : Block} (h : t.regs = u.regs) : SameOutside l b t ↔ SameOutside l b u := by
  simp only [SameOutside, Block.word, h]

/-- Memory reads the same where both its lists are the same. -/
theorem sameMem_of_eq {b t : Block} (hd : t.dram = b.dram) (hq : t.qdr = b.qdr) : SameMem b t := by
  intro a
  simp only [Block.dramByte, Block.qdrByte, hd, hq, and_self]

/-! ### How a command is settled -/

/-- A write to a register that is not gated has its effect. -/
theorem Block.writing_open {b : Block} {a : Nat} (f : Block → Block) (h : b.gated a = false) : b.writing a f = f b := by
  rw [Block.writing, h]
  rfl

/-- A command that is a write to a register that is not gated, with logic power running, gives the settled block. -/
theorem gives_of_writing {c : Instr} {b : Block} {a : Nat} {f : Block → Block} {P : Block → Prop} (hr : Runs b) (hg : b.gated a = false)
    (he : ∀ q, exec c ⟨b, q⟩ = State.done ⟨b, q⟩ (b.writing a f)) (hP : P (f b).settle) : Gives c b P :=
  gives_of_done hr he (by rw [Block.writing_open f hg]; exact hP)

/-- A command of power, reset or the feeds gives the settled block. -/
theorem gives_of_power {c : Instr} {b t : Block} {P : Block → Prop} (he : ∀ q, exec c ⟨b, q⟩ = State.power ⟨b, q⟩ t)
    (hP : P t.settle) : Gives c b P :=
  fun q => ⟨t.settle, he q, hP⟩

end Sys2Proof.Machine
end

section
/-!
PROOFS of chapters 00 to 02, whole commands: what a step does with its queue, which command stops, and what happens without logic power.
-/

namespace Sys2Proof.Machine

/-- Settles O1: a step gives the front command to `exec`. -/
theorem stepRunsTheFrontCommand : Obligations.StepRunsTheFrontCommand := by
  unfold Obligations.StepRunsTheFrontCommand
  exact fun _ _ _ => rfl

/-! ### Idle time -/

/-- At the nominal rate STC advances by one in one nanosecond. -/
theorem Block.elapse_one_stc_nominal {b : Block} (hrun : b.pm.stcStopped = false) (hrate : b.get F.PTP_RATE_RATE = 0)
    (hfrac : b.stcFrac < stcUnit) : (b.elapse 1).stc = (b.stc + 1) % 2 ^ 64 := by
  have hunit : b.stcRate = stcUnit := by
    rw [Block.stcRate, hrate]
    rfl
  have hparts : b.stcParts + stcUnit = stcUnit * (b.stc + 1) + b.stcFrac := by
    rw [Block.stcParts]
    ring
  simp [Block.elapse, hrun, hunit, hparts, Nat.mul_add_div (by decide : 0 < stcUnit), Nat.div_eq_of_lt hfrac]

/-- Settles O2: an idle step is one nanosecond of time, and time touches neither registers nor memory. -/
theorem emptyQueueIdles : Obligations.EmptyQueueIdles := by
  unfold Obligations.EmptyQueueIdles
  rintro ⟨b, q⟩ (rfl : q = [])
  refine ⟨b.elapse 1, rfl, rfl, rfl, fun hstop => ?_, fun hrun hrate hfrac => b.elapse_one_stc_nominal hrun hrate hfrac,
    .refl [] b, .refl b⟩
  exact if_pos hstop

/-! ### Outcomes -/

/-- A command of power, reset or the feeds but the open pulse gives a next state with the queue as it was; the open pulse faults. -/
theorem exec_next_or_open (c : Instr) (s : State) :
    (∃ b, exec c s = .next { s with blk := b })
      ∨ ∃ n, c = .coldReset n ∧ 500 < n ∧ n < 1000 ∧ exec c s = .fault .resetPulseUnspecified := by
  cases hp : powerRow c
  case false =>
    obtain ⟨b, hb⟩ := exec_done c hp s
    exact .inl ⟨_, hb⟩
  case true =>
    obtain ⟨b, hb⟩ | h := exec_power c hp s
    · exact .inl ⟨_, hb⟩
    · exact .inr h

/-- The pulse that R53 leaves open faults. -/
theorem exec_open_pulse {n : Nat} (s : State) (hlo : 500 < n) (hhi : n < 1000) : exec (.coldReset n) s = .fault .resetPulseUnspecified := by
  simp only [exec, execColdReset, if_pos (And.intro hlo hhi)]

/-- Settles O3: every command but the open pulse ends as `State.done` or `State.power`. -/
theorem onlyTheOpenPulseStops : Obligations.OnlyTheOpenPulseStops := by
  unfold Obligations.OnlyTheOpenPulseStops
  refine ⟨fun c s r h => ?_, fun c s f => ⟨fun h => ?_, ?_⟩, fun c s hc => ?_⟩
  · obtain ⟨b, hb⟩ | ⟨_, _, _, _, hf⟩ := exec_next_or_open c s
    · rw [hb] at h; cases h
    · rw [hf] at h; cases h
  · obtain ⟨b, hb⟩ | ⟨n, hn, hlo, hhi, hf⟩ := exec_next_or_open c s
    · rw [hb] at h; cases h
    · rw [hf] at h
      exact ⟨n, hn, hlo, hhi, (Host.Outcome.fault.inj h).symm⟩
  · rintro ⟨n, rfl, hlo, hhi, rfl⟩
    exact exec_open_pulse s hlo hhi
  · obtain ⟨b, hb⟩ | ⟨n, hn, hlo, hhi, _⟩ := exec_next_or_open c s
    · exact ⟨_, hb⟩
    · have := hc n hn
      omega

/-- Settles O4: both ways a command ends keep the queue. -/
theorem queueIsKept : Obligations.QueueIsKept := by
  unfold Obligations.QueueIsKept
  intro c s t h
  obtain ⟨b, hb⟩ | ⟨_, _, _, _, hf⟩ := exec_next_or_open c s
  · rw [hb] at h
    rw [← Host.Outcome.next.inj h]
  · rw [hf] at h; cases h

/-- Settles O5: what is no command of power, reset or the feeds ends as `State.done`, which needs logic power. -/
theorem noPowerNoEffect : Obligations.NoPowerNoEffect := by
  unfold Obligations.NoPowerNoEffect
  intro c s hc hl
  obtain ⟨b, hb⟩ := exec_done c hc s
  rw [hb, State.done_idle b hl]

/-- Settles O7: the reset state has no cause for ALERT_N. -/
theorem alertAtReset : Obligations.AlertAtReset := by
  unfold Obligations.AlertAtReset AlertSound
  decide

/-! ### Register writes, bit by bit -/

/-- A bit of a register's mask is the bit of the number. -/
theorem getElem_mask (m : Nat) {i : Nat} (hi : i < 32) : (BitVec.ofNat 32 m)[i] = m.testBit i := by
  rw [← BitVec.getLsbD_eq_getElem, BitVec.getLsbD_ofNat]
  simp [hi]

/-- Settles O12: the masks of R11 act bit by bit. -/
theorem writeBitByBit : Obligations.WriteBitByBit := by
  unfold Obligations.WriteBitByBit
  intro r old v i hi
  cases hw : r.wr.testBit i <;> simp [writeBits, getElem_mask, hi, hw]

end Sys2Proof.Machine
end

section
/-!
PROOFS, shared rules: how a claim about every state is refuted by one state.
-/

namespace Sys2Proof.Machine

/-- What a claim says of a command's next state holds of the next state that the command answers. -/
theorem Gives.of_next {c : Instr} {b u : Block} {P : Block → Prop} (h : Gives c b P) (hu : exec c ⟨b, []⟩ = .next ⟨u, []⟩) : P u := by
  obtain ⟨t, ht, hP⟩ := h []
  rw [hu] at ht
  obtain rfl : u = t := congrArg State.blk (Host.Outcome.next.inj ht)
  exact hP

/-- What a claim says of a command that ends as `State.done` with logic power running holds of the settled block. -/
theorem Gives.of_done {c : Instr} {b u : Block} {P : Block → Prop} (h : Gives c b P) (hr : Runs b)
    (hu : exec c ⟨b, []⟩ = State.done ⟨b, []⟩ u) : P u.settle :=
  h.of_next (by rw [hu, State.done_running u hr])

/-- What a claim says of a command of power, reset or the feeds holds of the settled block. -/
theorem Gives.of_power {c : Instr} {b u : Block} {P : Block → Prop} (h : Gives c b P)
    (hu : exec c ⟨b, []⟩ = State.power ⟨b, []⟩ u) : P u.settle := h.of_next hu

end Sys2Proof.Machine
end

section
/-!
PROOFS of refutations: for each claim a state and a command that the model takes to a state the claim excludes.
-/

namespace Sys2Proof.Machine

/-! ### Power-up, O8 -/

/-- No logic power, both feeds out of range by their states, while PWR_STATUS.IN_RANGE still shows feed A. -/
def staleInRange : Block := { Block.reset.set F.PWR_STATUS_IN_RANGE 1 with logic := .off }

/-- Refutes O8: with IN_RANGE not 0 no feed is the first one, so LOGIC_POWER_ON leaves the logic off. -/
theorem not_powerUpAndColdReset : ¬ Obligations.PowerUpAndColdReset := by
  unfold Obligations.PowerUpAndColdReset
  rintro ⟨hon, -⟩
  obtain ⟨hlogic, -⟩ := (hon staleInRange 0 true rfl (by decide) (by decide) (by decide)).of_power (u := logicPowerOn 0 true staleInRange) rfl
  exact absurd hlogic (by decide)

/-! ### Register writes, O14 -/

/-- Ethernet port 0 without a partner, while EEE_AGREED still reads 1. -/
def agreedEee : Block := Block.reset.set (F.ETHn_STATUS_EEE_AGREED 0) 1

/-- Refutes O14: a write of ETHn_EEE also clears EEE_AGREED in ETHn_STATUS. -/
theorem not_registerWrites : ¬ Obligations.RegisterWrites := by
  unfold Obligations.RegisterWrites
  intro h
  have hrow : (accessRow (R.ETHn_EEE 0) 4).isSome = true := by decide +kernel
  obtain ⟨r, hr⟩ := Option.isSome_iff_exists.mp hrow
  have hkey : keyOf .i3c r (R.ETHn_EEE 0) ≠ R.ETHn_STATUS 0 := by
    unfold keyOf
    split <;> decide
  have hvalue : ∀ old, agreedEee.writeValue (R.ETHn_EEE 0) 0 old = 0 := fun old => rfl
  obtain ⟨-, hsame, -⟩ := (h agreedEee .i3c (R.ETHn_EEE 0) 0 blankExt r (by decide) hr (by decide +kernel) (by decide +kernel)
    (by decide +kernel) (by decide +kernel) (hvalue _) (by decide) (by decide)).of_done (by decide) rfl
  exact absurd (hsame (R.ETHn_STATUS 0) (by simpa using hkey.symm)) (by decide +kernel)

/-! ### Reads, O15 -/

/-- A watchdog warning is pending and enabled. -/
def warned : Block := (Block.reset.set F.SYS_IRQ_STATUS_WDT_WARN 1).set F.SYS_IRQ_EN_WDT_WARN 1

/-- Refutes O15: HIF_IRQ_PEND_LO answers the interrupts that pend, which no stored word holds. -/
theorem not_readsWithAnEffect : ¬ Obligations.ReadsWithAnEffect := by
  unfold Obligations.ReadsWithAnEffect
  rintro ⟨-, hlow, -⟩
  have hrow : (accessRow R.HIF_IRQ_PEND_LO 4).isSome = true := by decide +kernel
  have hrowHigh : (accessRow (R.HIF_IRQ_PEND_LO + 4) 4).isSome = true := by decide +kernel
  obtain ⟨hout, -⟩ := (hlow warned .i3c R.HIF_IRQ_PEND_LO _ _ (by decide) (Option.some_get hrow).symm (Option.some_get hrowHigh).symm
    (by decide +kernel) (by decide) (by decide +kernel) (by decide +kernel)).of_done (by decide) rfl
  exact absurd hout (by decide +kernel +revert)

/-! ### Feeds, O35 -/

/-- No logic power and no feed in range; a byte of DRAM is not 0. -/
def darkModule : Block := { Block.reset.setDram 0 1 with logic := .off, pwr.mode := 1 }

/-- Refutes O35: the first feed in range also powers the logic up, and DRAM does not keep its bytes. -/
theorem not_feedStates : ¬ Obligations.FeedStates := by
  unfold Obligations.FeedStates
  rintro ⟨-, hin, -⟩
  have hP := (hin darkModule 0 true (by decide) (by decide) (by decide) (by decide) (by decide) (by decide) rfl).of_power
    (u := feedReturn 0 true darkModule) rfl
  obtain ⟨-, -, -, -, hmem⟩ := hP
  exact absurd (hmem 0).1 (by decide)

end Sys2Proof.Machine
end

section
/-!
PROOFS, shared rules: what it means that an operation touches only the registers of some windows, or leaves the rest and memory as it was.
-/

namespace Sys2Proof.Machine

theorem SameMem.trans {b c t : Block} (h : SameMem b c) (k : SameMem c t) : SameMem b t :=
  fun a => ⟨(k a).1.trans (h a).1, (k a).2.trans (h a).2⟩

theorem SameOutside.trans {l : List Nat} {b c t : Block} (h : SameOutside l b c) (k : SameOutside l c t) : SameOutside l b t :=
  fun a ha => (k a ha).trans (h a ha)

theorem SameOutside.mono {l m : List Nat} {b t : Block} (h : SameOutside l b t) (hlm : l ⊆ m) : SameOutside m b t :=
  fun a ha => h a fun hl => ha (hlm hl)

/-- A field outside the listed windows reads as before. -/
theorem SameOutside.get {l : List Nat} {b t : Block} (h : SameOutside l b t) {f : Fld} (hf : keyAddr f.addr / 0x10000 ∉ l) :
    t.get f = b.get f := by
  rw [Block.get, h _ hf, Block.get]

/-- A function that writes listed windows does not count. -/
theorem sameOutside_through {l : List Nat} {b t u : Block} (h : SameOutside l t u) : SameOutside l b u ↔ SameOutside l b t :=
  forall₂_congr fun c hc => by rw [h c hc]

/-- Of a block only its two memories count. -/
theorem sameMem_congr {b t u : Block} (hd : t.dram = u.dram) (hq : t.qdr = u.qdr) : SameMem b t ↔ SameMem b u := by
  simp only [SameMem, Block.dramByte, Block.qdrByte, hd, hq]

/-- A function that leaves memory does not count. -/
theorem sameMem_through {b t u : Block} (h : SameMem t u) : SameMem b u ↔ SameMem b t :=
  forall_congr' fun a => by rw [(h a).1, (h a).2]

@[simp] theorem Block.untilClk_clk (b : Block) (n : Nat) : (b.untilClk n).clk = max b.clk n := by
  simp only [Block.untilClk, Block.elapse]
  omega

@[simp] theorem sameMem_settle (b t : Block) : SameMem b t.settle ↔ SameMem b t := .rfl
@[simp] theorem sameMem_set (b t : Block) (f : Fld) (v : Nat) : SameMem b (t.set f v) ↔ SameMem b t := .rfl
@[simp] theorem sameMem_setWord (b t : Block) (k : Nat) (v : Word) : SameMem b (t.setWord k v) ↔ SameMem b t := .rfl
@[simp] theorem sameMem_emit (b t : Block) (o : Out) : SameMem b (t.emit o) ↔ SameMem b t := .rfl
@[simp] theorem sameMem_elapse (b t : Block) (n : Nat) : SameMem b (t.elapse n) ↔ SameMem b t := .rfl
@[simp] theorem sameMem_untilClk (b t : Block) (n : Nat) : SameMem b (t.untilClk n) ↔ SameMem b t := .rfl
@[simp] theorem sameMem_untilStc (b t : Block) (n : Nat) : SameMem b (t.untilStc n) ↔ SameMem b t := .rfl
@[simp] theorem sameMem_raiseAt (b t : Block) (e : Err) (d : Nat) : SameMem b (t.raiseAt e d) ↔ SameMem b t :=
  sameMem_congr (t.raiseAt_dram e d) (t.raiseAt_qdr e d)

/-- A field reads the same in equal register files. -/
theorem Block.get_congr {t u : Block} (h : t.regs = u.regs) (f : Fld) : t.get f = u.get f := by rw [← regsGet_regs, h, regsGet_regs]

/-! ### Operations that touch registers alone -/

/-- Of a block only the listed windows of the register file and the fault log's queue changed. -/
def Touches (l : List Nat) (b t : Block) : Prop := t = { b with regs := t.regs, flt := t.flt } ∧ SameOutside l b t

namespace Touches

variable {l : List Nat} {b t u : Block}

theorem sameOutside (h : Touches l b t) : SameOutside l b t := h.2

theorem get (h : Touches l b t) {f : Fld} (hf : keyAddr f.addr / 0x10000 ∉ l) : t.get f = b.get f := h.2.get hf

theorem bit (h : Touches l b t) {f : Fld} (hf : keyAddr f.addr / 0x10000 ∉ l) : t.bit f = b.bit f := by
  rw [Block.bit, h.get hf, Block.bit]

theorem latches (h : Touches l b t) : t.latches = b.latches := by rw [h.1]
theorem dram (h : Touches l b t) : t.dram = b.dram := by rw [h.1]
theorem qdr (h : Touches l b t) : t.qdr = b.qdr := by rw [h.1]
theorem qdrBad (h : Touches l b t) : t.qdrBad = b.qdrBad := by rw [h.1]
theorem fuses (h : Touches l b t) : t.fuses = b.fuses := by rw [h.1]
theorem logic (h : Touches l b t) : t.logic = b.logic := by rw [h.1]
theorem clk (h : Touches l b t) : t.clk = b.clk := by rw [h.1]
theorem stc (h : Touches l b t) : t.stc = b.stc := by rw [h.1]
theorem stcFrac (h : Touches l b t) : t.stcFrac = b.stcFrac := by rw [h.1]
theorem freeCount (h : Touches l b t) : t.freeCount = b.freeCount := by rw [h.1]
theorem wdtStart (h : Touches l b t) : t.wdtStart = b.wdtStart := by rw [h.1]
theorem wdtMs (h : Touches l b t) : t.wdtMs = b.wdtMs := by rw [h.1]
theorem wdtWarned (h : Touches l b t) : t.wdtWarned = b.wdtWarned := by rw [h.1]
theorem wdtStop (h : Touches l b t) : t.wdtStop = b.wdtStop := by rw [h.1]
theorem resetWanted (h : Touches l b t) : t.resetWanted = b.resetWanted := by rw [h.1]
theorem pins (h : Touches l b t) : t.pins = b.pins := by rw [h.1]
theorem i3c (h : Touches l b t) : t.i3c = b.i3c := by rw [h.1]
theorem hif (h : Touches l b t) : t.hif = b.hif := by rw [h.1]
theorem cfg (h : Touches l b t) : t.cfg = b.cfg := by rw [h.1]
theorem frm (h : Touches l b t) : t.frm = b.frm := by rw [h.1]
theorem ptp (h : Touches l b t) : t.ptp = b.ptp := by rw [h.1]
theorem clocks (h : Touches l b t) : t.clocks = b.clocks := by rw [h.1]
theorem srd (h : Touches l b t) : t.srd = b.srd := by rw [h.1]
theorem eth (h : Touches l b t) : t.eth = b.eth := by rw [h.1]
theorem scn (h : Touches l b t) : t.scn = b.scn := by rw [h.1]
theorem str (h : Touches l b t) : t.str = b.str := by rw [h.1]
theorem pwr (h : Touches l b t) : t.pwr = b.pwr := by rw [h.1]
theorem cal (h : Touches l b t) : t.cal = b.cal := by rw [h.1]
theorem thm (h : Touches l b t) : t.thm = b.thm := by rw [h.1]
theorem upd (h : Touches l b t) : t.upd = b.upd := by rw [h.1]
theorem cmp (h : Touches l b t) : t.cmp = b.cmp := by rw [h.1]
theorem ing (h : Touches l b t) : t.ing = b.ing := by rw [h.1]
theorem rpl (h : Touches l b t) : t.rpl = b.rpl := by rw [h.1]
theorem aud (h : Touches l b t) : t.aud = b.aud := by rw [h.1]
theorem drm (h : Touches l b t) : t.drm = b.drm := by rw [h.1]
theorem lnk (h : Touches l b t) : t.lnk = b.lnk := by rw [h.1]
theorem pm (h : Touches l b t) : t.pm = b.pm := by rw [h.1]
theorem bstFrom (h : Touches l b t) : t.bstFrom = b.bstFrom := by rw [h.1]
theorem out (h : Touches l b t) : t.out = b.out := by rw [h.1]

theorem sameMem (h : Touches l b t) : SameMem b t := sameMem_of_eq h.dram h.qdr

theorem trans (h : Touches l b t) (k : Touches l t u) : Touches l b u :=
  ⟨by rw [k.1, h.1], h.2.trans k.2⟩

theorem symm (h : Touches l b t) : Touches l t b := ⟨by rw [h.1], fun a ha => (h.2 a ha).symm⟩

theorem mono {m : List Nat} (h : Touches l b t) (hlm : l ⊆ m) : Touches m b t := ⟨h.1, h.2.mono hlm⟩

end Touches

@[simp] theorem Touches.refl (l : List Nat) (b : Block) : Touches l b b := ⟨rfl, .refl l b⟩

/-- What an operation that touches listed windows does, does not count. -/
theorem touches_through {l m : List Nat} {b t u : Block} (h : Touches m t u) (hml : m ⊆ l) : Touches l b u ↔ Touches l b t :=
  ⟨fun k => k.trans (h.mono hml).symm, fun k => k.trans (h.mono hml)⟩

/-- A field write in a listed window does not count. -/
@[simp] theorem touches_set {l : List Nat} {b t : Block} {f : Fld} (v : Nat) (h : keyAddr f.addr / 0x10000 ∈ l) :
    Touches l b (t.set f v) ↔ Touches l b t :=
  touches_through (m := l) ⟨rfl, (sameOutside_set v h).mpr (.refl l t)⟩ fun _ => id

/-- A word write in a listed window does not count. -/
@[simp] theorem touches_setWord {l : List Nat} {b t : Block} {k : Nat} (v : Word) (h : keyAddr k / 0x10000 ∈ l) :
    Touches l b (t.setWord k v) ↔ Touches l b t :=
  touches_through (m := l) ⟨rfl, (sameOutside_setWord v h).mpr (.refl l t)⟩ fun _ => id

/-- An error whose bits lie in listed windows does not count, if the fault log's window is listed. -/
@[simp] theorem touches_raiseAt {l : List Nat} {b t : Block} {e : Err} (d : Nat) (hf : keyAddr e.fld.addr / 0x10000 ∈ l)
    (hi : keyAddr e.irq.addr / 0x10000 ∈ l) (hflt : 0x30 ∈ l) : Touches l b (t.raiseAt e d) ↔ Touches l b t :=
  touches_through (m := l) ⟨t.raiseAt_eq e d, (sameOutside_raiseAt d hf hi hflt).mpr (.refl l t)⟩ fun _ => id

@[simp] theorem touches_irqIf {l : List Nat} {b t : Block} (c : Bool) {f : Fld} (h : keyAddr f.addr / 0x10000 ∈ l) :
    Touches l b (t.irqIf c f) ↔ Touches l b t := by
  cases c <;> simp [h]

end Sys2Proof.Machine
end

section
/-!
PROOFS of chapter 04: the stages ROM and MEM.
-/

namespace Sys2Proof.Machine

/-! ### The update record and UPD's state as the registers show them -/

/-- The update record is shown in UPD's own registers. -/
theorem Block.touches_updShow (b : Block) : Touches [0x07] b b.updShow := by
  simp (disch := decide) [Block.updShow, Block.each]

theorem Block.touches_updGo (b : Block) (st : Nat) : Touches [0x07] b (b.updGo st) := by
  unfold Block.updGo
  split <;> simp (disch := decide)

theorem Block.touches_updTell (b : Block) {e : Err} (hf : keyAddr e.fld.addr / 0x10000 = 0x07) (hi : keyAddr e.irq.addr / 0x10000 = 0x07) :
    Touches [0x07, 0x30] b (b.updTell e) := by
  simp (disch := first | decide | simp [hf, hi]) [Block.updTell]

theorem Block.updState_updGo (b : Block) {st : Nat} (h : st < 2 ^ F.UPD_STATUS_STATE.width) : (b.updGo st).updState = st := by
  unfold Block.updGo
  split
  · next hst => cases hr : st == updReady <;> simp (disch := decide) [Block.updState] <;> simpa [Block.updState] using hst
  · cases hr : st == updReady <;> simp (disch := decide) [Block.updState, Nat.mod_eq_of_lt h]

theorem Block.get_updGo (b : Block) (st : Nat) {f : Fld} (hs : f.apart F.UPD_STATUS_STATE = true)
    (hc : f.apart F.UPD_IRQ_STATUS_STATE_CHANGE = true) (hr : f.apart F.UPD_IRQ_STATUS_READY = true) : (b.updGo st).get f = b.get f := by
  unfold Block.updGo
  split <;> cases st == updReady <;> simp (disch := first | decide | assumption)

/-- A new record changes the records and what the registers show of them. -/
theorem Block.sameOutside_writeRec (b : Block) (f : BootRec → BootRec) : SameOutside [0x07] b (b.writeRec f) := by
  rw [Block.writeRec, sameOutside_through (Block.touches_updShow _).sameOutside]
  simp

theorem Block.sameMem_writeRec (b : Block) (f : BootRec → BootRec) : SameMem b (b.writeRec f) := by
  rw [Block.writeRec, sameMem_through (Block.touches_updShow _).sameMem]
  exact sameMem_of_eq rfl rfl

/-! ### Stages (R114) -/

@[simp] theorem Block.sameOutside_goStage {l : List Nat} (b t : Block) (st : Nat) (h : 0x02 ∈ l) :
    SameOutside l b (t.goStage st) ↔ SameOutside l b t := sameOutside_set _ h

@[simp] theorem Block.sameMem_goStage (b t : Block) (st : Nat) : SameMem b (t.goStage st) ↔ SameMem b t := .rfl

@[simp] theorem Block.stage_goStage (b : Block) {st : Nat} (h : st < 16) : (b.goStage st).stage = st := by
  have hw : st < 2 ^ F.CFG_BOOT_STATUS_STAGE.width := h
  simp (disch := decide) [Block.goStage, Block.stage, Nat.mod_eq_of_lt hw]

theorem Block.get_goStage (b : Block) (st : Nat) {f : Fld} (h : f.apart F.CFG_BOOT_STATUS_STAGE = true) : (b.goStage st).get f = b.get f :=
  b.get_set_apart st rfl h

@[simp] theorem Block.settle_stage (b : Block) : b.settle.stage = b.stage := rfl

@[simp] theorem Block.sameOutside_bootHold {l : List Nat} (b t : Block) (h : 0x02 ∈ l) :
    SameOutside l b t.bootHold ↔ SameOutside l b t := by
  rw [Block.bootHold, Block.sameOutside_goStage _ _ _ h, sameOutside_mk, regsSameOutside_regs, sameOutside_set _ h]

@[simp] theorem sameMem_bootHold (b t : Block) : SameMem b t.bootHold ↔ SameMem b t := .rfl

@[simp] theorem Block.stage_bootHold (b : Block) : b.bootHold.stage = 0xE := Block.stage_goStage _ (by decide)

theorem Block.get_bootHold (b : Block) {f : Fld} (hs : f.apart F.CFG_BOOT_STATUS_STAGE = true) (hl : f.apart F.CFG_BOOT_STATUS_SLOT = true) :
    b.bootHold.get f = b.get f := by
  rw [Block.bootHold, Block.get_goStage _ _ hs, Block.get_mk, regsGet_regs, b.get_set_apart 0 rfl hl]

/-! ### Self-test (R475) -/

theorem postComplete_good (b : Block) (hard soft beyond after : Nat) (hs : b.stage = 0) :
    let t := (postComplete true none hard soft beyond after b).settle
    t.stage = 1 ∧ t.get F.BST_RESULT_RESULT = 1
      ∧ t.clk = max b.clk (b.cfg.stageFrom + min after 30000000) ∧ t.cfg.stageFrom = t.clk
      ∧ SameOutside [0x02, 0x08] b t ∧ SameMem b t := by
  rw [Block.stage] at hs
  simp -implicitDefEqProofs (disch := decide) [postComplete, hs, stageRom, stageMem, Block.stageEnd, Block.bstRepairs, Block.goStage,
    Block.stage, SameMem, Block.dramByte, Block.qdrByte]

/-- What a finding of the self-test leaves: the failing location, counted up to the register's width. -/
theorem Block.touches_bstFound (b : Block) (t mem addr bit words : Nat) : Touches [0x08] b (b.bstFound t mem addr bit words) := by
  simp (disch := decide) [Block.bstFound]

theorem Block.touches_bstRepairs (b : Block) (soft beyond : Nat) : Touches [0x08] b (b.bstRepairs soft beyond) := by
  simp (disch := decide) [Block.bstRepairs]

theorem Block.get_bstFound_result (b : Block) (t mem addr bit words : Nat) : (b.bstFound t mem addr bit words).get F.BST_RESULT_RESULT = 2 := by
  simp (disch := decide) [Block.bstFound, Nat.mod_eq_of_lt]

theorem Block.get_bstFound_count (b : Block) (t mem addr bit : Nat) {words : Nat} (h : words < 2 ^ 16) :
    (b.bstFound t mem addr bit words).get F.BST_FAIL_BIT_COUNT = words := by
  have hcount : min words 0xFFFFFF % 2 ^ F.BST_FAIL_BIT_COUNT.width = words := by
    rw [Nat.min_eq_left (by omega)]
    exact Nat.mod_eq_of_lt (h.trans (by decide))
  simp (disch := decide) [Block.bstFound, hcount]

/-- The state that a finding of the self-test at location `f` leaves, before its error and HOLD. -/
def Block.found (b : Block) (mem addr bit words hard soft beyond after : Nat) : Block :=
  (((b.stageEnd after 30000000).set F.BST_REPAIR_HARD hard).bstRepairs soft beyond).bstFound 0 mem addr bit words

theorem postComplete_some {b : Block} (mem addr bit words hard soft beyond after : Nat) (hs : b.stage = 0) :
    postComplete true (some (mem, addr, bit, words)) hard soft beyond after b
      = ((b.found mem addr bit words hard soft beyond after).raiseAt E.BST_POST noDetail).bootHold := by
  have hrom : b.stage = stageRom := hs
  simp only [postComplete, hrom, ne_eq, not_true_eq_false, if_false, Bool.not_true, Bool.false_eq_true, Block.raise_eq, Block.found]

theorem Block.sameOutside_found (b : Block) (mem addr bit words hard soft beyond after : Nat) :
    SameOutside [0x02, 0x08, 0x30] b (b.found mem addr bit words hard soft beyond after) := by
  rw [Block.found, sameOutside_through ((Block.touches_bstFound _ _ _ _ _ _).mono (by decide)).sameOutside,
    sameOutside_through ((Block.touches_bstRepairs _ _ _).mono (by decide)).sameOutside]
  simp (disch := decide) [Block.stageEnd]

theorem Block.sameMem_found (b : Block) (mem addr bit words hard soft beyond after : Nat) :
    SameMem b (b.found mem addr bit words hard soft beyond after) := by
  rw [Block.found, sameMem_through (Block.touches_bstFound _ _ _ _ _ _).sameMem, sameMem_through (Block.touches_bstRepairs _ _ _).sameMem]
  exact sameMem_of_eq rfl rfl

theorem postComplete_finding (b : Block) (mem addr bit words hard soft beyond after : Nat) (hs : b.stage = 0) (hw : words < 2 ^ 16) :
    let t := (postComplete true (some (mem, addr, bit, words)) hard soft beyond after b).settle
    t.stage = 0xE ∧ t.get F.BST_RESULT_RESULT = 2 ∧ t.bit F.BST_ERR_FAIL = true ∧ t.get F.BST_FAIL_BIT_COUNT = words
      ∧ SameOutside [0x02, 0x08, 0x30] b t ∧ SameMem b t := by
  have hresult := (((b.stageEnd after 30000000).set F.BST_REPAIR_HARD hard).bstRepairs soft beyond).get_bstFound_result 0 mem addr bit words
  have hcount := (((b.stageEnd after 30000000).set F.BST_REPAIR_HARD hard).bstRepairs soft beyond).get_bstFound_count 0 mem addr bit hw
  have hout := b.sameOutside_found mem addr bit words hard soft beyond after
  have hmem := b.sameMem_found mem addr bit words hard soft beyond after
  rw [← Block.found] at hresult hcount
  rw [postComplete_some _ _ _ _ _ _ _ _ hs]
  generalize b.found mem addr bit words hard soft beyond after = c at *
  have herr := c.bit_raiseAt_self (e := E.BST_POST) noDetail rfl rfl rfl rfl (by decide)
  simp -implicitDefEqProofs only [Block.settle_stage, Block.settle_get, Block.settle_bit, sameOutside_settle, sameMem_settle, sameMem_bootHold]
  refine ⟨Block.stage_bootHold _, ?_, ?_, ?_, ?_, hmem.trans (c.sameMem_raise E.BST_POST)⟩
  · rw [Block.get_bootHold _ rfl rfl, Block.get_raiseAt_apart _ _ rfl rfl rfl rfl (by decide), hresult]
  · rw [Block.bit, Block.get_bootHold _ rfl rfl]
    exact herr
  · rw [Block.get_bootHold _ rfl rfl, Block.get_raiseAt_apart _ _ rfl rfl rfl rfl (by decide), hcount]
  · simpa (disch := decide) using hout

theorem postComplete_kat {b : Block} (fault : Option (Nat × Nat × Nat × Nat)) (hard soft beyond after : Nat) (hs : b.stage = 0) :
    postComplete false fault hard soft beyond after b
      = (((b.stageEnd after 30000000).updTell E.UPD_KAT_FAIL).updGo updLocked).bootHold := by
  have hrom : b.stage = stageRom := hs
  simp -implicitDefEqProofs only [postComplete, hrom, ne_eq, not_true_eq_false, if_false, Bool.not_false, if_true]

theorem postComplete_knownAnswer (b : Block) (fault : Option (Nat × Nat × Nat × Nat)) (hard soft beyond after : Nat) (hs : b.stage = 0) :
    let t := (postComplete false fault hard soft beyond after b).settle
    t.stage = 0xE ∧ t.updState = updLocked
      ∧ t.bit E.UPD_KAT_FAIL.fld = true ∧ SameOutside [0x02, 0x07, 0x30] b t ∧ SameMem b t := by
  have htell := (b.stageEnd after 30000000).touches_updTell (e := E.UPD_KAT_FAIL) rfl rfl
  have herr : ((b.stageEnd after 30000000).updTell E.UPD_KAT_FAIL).bit E.UPD_KAT_FAIL.fld = true := by
    rw [Block.updTell, Block.bit_set_apart _ _ rfl rfl, Block.raise_eq, Block.bit_raiseAt_self _ _ rfl rfl rfl rfl (by decide)]
  have hout : SameOutside [0x02, 0x07, 0x30] b (b.stageEnd after 30000000) := by simp [Block.stageEnd]
  have hmem : SameMem b (b.stageEnd after 30000000) := sameMem_of_eq rfl rfl
  rw [postComplete_kat fault _ _ _ _ hs]
  generalize (b.stageEnd after 30000000).updTell E.UPD_KAT_FAIL = c at *
  have hgo := c.touches_updGo updLocked
  have hstate := c.updState_updGo (st := updLocked) (by decide)
  simp -implicitDefEqProofs only [Block.settle_stage, Block.updState, Block.settle_get, Block.settle_bit, sameOutside_settle, sameMem_settle, sameMem_bootHold]
  refine ⟨Block.stage_bootHold _, ?_, ?_, ?_, (hmem.trans htell.sameMem).trans hgo.sameMem⟩
  · rw [Block.get_bootHold _ rfl rfl]
    exact hstate
  · rw [Block.bit, Block.get_bootHold _ rfl rfl, Block.get_updGo _ _ rfl rfl rfl]
    exact herr
  · rw [Block.sameOutside_bootHold _ _ (by decide)]
    exact (hout.trans (htell.sameOutside.mono (by decide))).trans (hgo.sameOutside.mono (by decide))

/-! ### DRAM training (R354) -/

/-- What training may change: DRM's registers but the least eye, its lanes' delays, and the fault log. -/
def Trains (b t : Block) : Prop :=
  t = { b with regs := t.regs, flt := t.flt, drm := t.drm } ∧ SameOutside [0x28, 0x30] b t
    ∧ t.get F.DRM_TRAIN_CFG_MIN_STEPS = b.get F.DRM_TRAIN_CFG_MIN_STEPS

theorem Trains.refl (b : Block) : Trains b b := ⟨rfl, .refl _ b, rfl⟩

theorem Trains.trans {b c t : Block} (h : Trains b c) (k : Trains c t) : Trains b t :=
  ⟨by rw [k.1, h.1], h.2.1.trans k.2.1, k.2.2.trans h.2.2⟩

theorem Trains.sameMem {b t : Block} (h : Trains b t) : SameMem b t := sameMem_of_eq (by rw [h.1]) (by rw [h.1])

theorem Trains.attemptOk {b t : Block} (h : Trains b t) (lanes : List (Nat × Nat)) : t.attemptOk lanes = b.attemptOk lanes := by
  rw [Block.attemptOk, h.2.2, Block.attemptOk]

/-- A lane's register of its eye is DRM's, and no other one that training reads. -/
theorem drm_lane_addr {l : Nat} (h : l < 16) : keyAddr (R.DRM_LANEl_EYE l) / 0x10000 = 0x28 ∧ F.DRM_TRAIN_CFG_MIN_STEPS.addr ≠ R.DRM_LANEl_EYE l
    ∧ F.DRM_STATUS_TRAINED.addr ≠ R.DRM_LANEl_EYE l := by
  interval_cases l <;> decide

theorem Block.laneEye_regs (b : Block) (l rd wr : Nat) : (b.laneEye l rd wr).regs
    = ((((b.set (F.DRM_LANEl_EYE_RD_WIDTH l) (sweepEye rd).1).set (F.DRM_LANEl_EYE_RD_CENTRE l) (sweepEye rd).2).set
      (F.DRM_LANEl_EYE_WR_WIDTH l) (sweepEye wr).1).set (F.DRM_LANEl_EYE_WR_CENTRE l) (sweepEye wr).2).regs := by
  rw [Block.laneEye]

theorem Block.trains_laneEye (b : Block) {l : Nat} (rd wr : Nat) (h : l < 16) :
    Trains b (b.laneEye l rd wr) ∧ (b.laneEye l rd wr).get F.DRM_STATUS_TRAINED = b.get F.DRM_STATUS_TRAINED := by
  obtain ⟨hwin, hcfg, htrained⟩ := drm_lane_addr h
  have hset : ∀ (c : Block) (f : Fld) (v : Nat), f.addr = R.DRM_LANEl_EYE l → Trains c (c.set f v)
      ∧ (c.set f v).get F.DRM_STATUS_TRAINED = c.get F.DRM_STATUS_TRAINED := fun c f v hf =>
    ⟨⟨rfl, (sameOutside_set v (by rw [hf, hwin]; decide)).mpr (.refl _ c), c.get_set_other v (by rw [hf]; exact hcfg)⟩,
      c.get_set_other v (by rw [hf]; exact htrained)⟩
  obtain ⟨h1, k1⟩ := hset b (F.DRM_LANEl_EYE_RD_WIDTH l) (sweepEye rd).1 rfl
  obtain ⟨h2, k2⟩ := hset _ (F.DRM_LANEl_EYE_RD_CENTRE l) (sweepEye rd).2 rfl
  obtain ⟨h3, k3⟩ := hset _ (F.DRM_LANEl_EYE_WR_WIDTH l) (sweepEye wr).1 rfl
  obtain ⟨h4, k4⟩ := hset _ (F.DRM_LANEl_EYE_WR_CENTRE l) (sweepEye wr).2 rfl
  obtain ⟨-, hout, hmin⟩ := ((h1.trans h2).trans h3).trans h4
  have heq : b.laneEye l rd wr = { b with regs := (b.laneEye l rd wr).regs, flt := (b.laneEye l rd wr).flt, drm := (b.laneEye l rd wr).drm } := by
    simp -implicitDefEqProofs [Block.laneEye]
  have hregs := b.laneEye_regs l rd wr
  exact ⟨⟨heq, (sameOutside_congr hregs).mpr hout, (Block.get_congr hregs _).trans hmin⟩,
    (Block.get_congr hregs _).trans (k4.trans (k3.trans (k2.trans k1)))⟩

/-- The four lanes of a channel as one attempt leaves them. -/
def Block.laneEyes (b : Block) (c : Nat) (a : List (Nat × Nat)) : Block :=
  (((b.laneEye (4 * c) (a.getD 0 (0, 0)).1 (a.getD 0 (0, 0)).2).laneEye (4 * c + 1) (a.getD 1 (0, 0)).1 (a.getD 1 (0, 0)).2).laneEye
    (4 * c + 2) (a.getD 2 (0, 0)).1 (a.getD 2 (0, 0)).2).laneEye (4 * c + 3) (a.getD 3 (0, 0)).1 (a.getD 3 (0, 0)).2

theorem Block.trains_laneEyes (b : Block) {c : Nat} (a : List (Nat × Nat)) (h : c < 4) :
    Trains b (b.laneEyes c a) ∧ (b.laneEyes c a).get F.DRM_STATUS_TRAINED = b.get F.DRM_STATUS_TRAINED := by
  obtain ⟨h0, k0⟩ := b.trains_laneEye (l := 4 * c) (a.getD 0 (0, 0)).1 (a.getD 0 (0, 0)).2 (by omega)
  obtain ⟨h1, k1⟩ := Block.trains_laneEye _ (l := 4 * c + 1) (a.getD 1 (0, 0)).1 (a.getD 1 (0, 0)).2 (by omega)
  obtain ⟨h2, k2⟩ := Block.trains_laneEye _ (l := 4 * c + 2) (a.getD 2 (0, 0)).1 (a.getD 2 (0, 0)).2 (by omega)
  obtain ⟨h3, k3⟩ := Block.trains_laneEye _ (l := 4 * c + 3) (a.getD 3 (0, 0)).1 (a.getD 3 (0, 0)).2 (by omega)
  exact ⟨((h0.trans h1).trans h2).trans h3, k3.trans (k2.trans (k1.trans k0))⟩

theorem Block.trainChannel_cons (b : Block) (c : Nat) (a : List (Nat × Nat)) (r : List (List (Nat × Nat))) :
    b.trainChannel c (a :: r) = if (b.laneEyes c a).attemptOk a then
        (true, (b.laneEyes c a).set F.DRM_STATUS_TRAINED (setBitOf ((b.laneEyes c a).get F.DRM_STATUS_TRAINED) c true))
      else if r.isEmpty then (false, b.laneEyes c a) else ((b.laneEyes c a).raise E.DRM_TRAIN_RETRY).trainChannel c r := rfl

theorem Block.trains_raise_retry (b : Block) : Trains b (b.raise E.DRM_TRAIN_RETRY) :=
  ⟨by rw [Block.raise_eq, b.raiseAt_eq], (sameOutside_raiseAt _ (by decide) (by decide) (by decide)).mpr (.refl _ b),
    Block.get_raiseAt_apart _ _ rfl rfl rfl rfl (by decide)⟩

theorem Block.trains_trained (b : Block) (v : Nat) : Trains b (b.set F.DRM_STATUS_TRAINED v) :=
  ⟨rfl, (sameOutside_set v (by decide)).mpr (.refl _ b), b.get_set_apart v rfl rfl⟩

theorem Block.trains_trainChannel {c : Nat} (h : c < 4) : ∀ (l : List (List (Nat × Nat))) (b : Block), Trains b (b.trainChannel c l).2
  | [], b => .refl b
  | a :: r, b => by
    have heyes := (b.trains_laneEyes a h).1
    rw [Block.trainChannel_cons]
    split
    · exact heyes.trans (Block.trains_trained _ _)
    · split
      · exact heyes
      · exact (heyes.trans (Block.trains_raise_retry _)).trans (Block.trains_trainChannel h r _)

/-- A channel whose first attempt meets the least eye is trained. -/
theorem Block.trainChannel_ok {b : Block} {c : Nat} {a : List (Nat × Nat)} (r : List (List (Nat × Nat))) (h : c < 4)
    (ha : b.attemptOk a = true) : (b.trainChannel c (a :: r)).1 = true
      ∧ (b.trainChannel c (a :: r)).2.get F.DRM_STATUS_TRAINED = setBitOf (b.get F.DRM_STATUS_TRAINED) c true % 16 := by
  obtain ⟨heyes, htrained⟩ := b.trains_laneEyes a h
  rw [Block.trainChannel_cons, if_pos (by rw [heyes.attemptOk, ha])]
  exact ⟨rfl, by rw [Block.get_set_self _ _ rfl, htrained]; rfl⟩

/-- A channel none of whose attempts meets the least eye is not. -/
theorem Block.trainChannel_fails {c : Nat} (h : c < 4) : ∀ (l : List (List (Nat × Nat))) (b : Block),
    (∀ a ∈ l, b.attemptOk a = false) → (b.trainChannel c l).1 = false
  | [], _, _ => rfl
  | a :: r, b, hall => by
    have heyes := (b.trains_laneEyes a h).1
    have ha : (b.laneEyes c a).attemptOk a = false := by rw [heyes.attemptOk, hall a (by simp)]
    rw [Block.trainChannel_cons, ha]
    split
    · contradiction
    · split
      · rfl
      · have hretry := heyes.trans (b.laneEyes c a).trains_raise_retry
        exact Block.trainChannel_fails h r _ fun x hx => by rw [hretry.attemptOk, hall x (by simp [hx])]

/-- One channel's training within that of all. -/
def trainStep (attempts : List (List (List (Nat × Nat)))) (x : Bool × Block) (c : Nat) : Bool × Block :=
  (x.1 && (x.2.trainChannel c ((attempts.getD c []).take 3)).1, (x.2.trainChannel c ((attempts.getD c []).take 3)).2)

/-- All channels' training. -/
def Block.trainAll (b : Block) (attempts : List (List (List (Nat × Nat)))) : Bool × Block :=
  (List.range 4).foldl (trainStep attempts) (true, b)

theorem Block.trainAll_eq (b : Block) (attempts : List (List (List (Nat × Nat)))) : b.trainAll attempts
    = trainStep attempts (trainStep attempts (trainStep attempts (trainStep attempts (true, b) 0) 1) 2) 3 := rfl

theorem trains_trainStep (attempts : List (List (List (Nat × Nat)))) (x : Bool × Block) {c : Nat} (h : c < 4) :
    Trains x.2 (trainStep attempts x c).2 := Block.trains_trainChannel h _ _

theorem Block.trains_trainAll (b : Block) (attempts : List (List (List (Nat × Nat)))) : Trains b (b.trainAll attempts).2 := by
  rw [Block.trainAll_eq]
  have h (x : Bool × Block) {c : Nat} (hc : c < 4) := trains_trainStep attempts x hc
  exact (((h (true, b) (by decide)).trans (h _ (by decide))).trans (h _ (by decide))).trans (h _ (by decide))

/-- A channel whose first attempt is good stands as trained after its step. -/
theorem trainStep_ok {attempts : List (List (List (Nat × Nat)))} {x : Bool × Block} {c : Nat} (hc : c < 4) (hlen : attempts.length = 4)
    (h : ∀ l ∈ attempts, l ≠ [] ∧ x.2.attemptOk (l.headD []) = true) : (trainStep attempts x c).1 = x.1
      ∧ (trainStep attempts x c).2.get F.DRM_STATUS_TRAINED = setBitOf (x.2.get F.DRM_STATUS_TRAINED) c true % 16 := by
  have hget : attempts.getD c [] = attempts[c] := by simp [hlen, hc]
  obtain ⟨hne, hok⟩ := h attempts[c] (List.getElem_mem (by omega))
  obtain ⟨a, r, har⟩ := List.exists_cons_of_ne_nil hne
  rw [har] at hok hget
  obtain ⟨h1, h2⟩ := Block.trainChannel_ok (a := a) (r.take 2) hc hok
  simp only [trainStep, hget, List.take_succ_cons, h1, Bool.and_true, h2, and_self]

theorem setBitOf_all : ∀ n < 16, setBitOf (setBitOf (setBitOf (setBitOf n 0 true % 16) 1 true % 16) 2 true % 16) 3 true % 16 = 15 := by
  decide

theorem Block.trainAll_ok {b : Block} {attempts : List (List (List (Nat × Nat)))} (hlen : attempts.length = 4)
    (h : ∀ l ∈ attempts, l ≠ [] ∧ b.attemptOk (l.headD []) = true) :
    (b.trainAll attempts).1 = true ∧ (b.trainAll attempts).2.get F.DRM_STATUS_TRAINED = 15 := by
  have hkeep {c : Block} (hc : Trains b c) : ∀ l ∈ attempts, l ≠ [] ∧ c.attemptOk (l.headD []) = true := fun l hl => by
    rw [hc.attemptOk]
    exact h l hl
  have t0 := trains_trainStep attempts (true, b) (c := 0) (by decide)
  have t1 := t0.trans (trains_trainStep attempts _ (c := 1) (by decide))
  have t2 := t1.trans (trains_trainStep attempts _ (c := 2) (by decide))
  obtain ⟨h0, k0⟩ := trainStep_ok (x := (true, b)) (c := 0) (by decide) hlen h
  obtain ⟨h1, k1⟩ := trainStep_ok (c := 1) (by decide) hlen (hkeep t0)
  obtain ⟨h2, k2⟩ := trainStep_ok (c := 2) (by decide) hlen (hkeep t1)
  obtain ⟨h3, k3⟩ := trainStep_ok (c := 3) (by decide) hlen (hkeep t2)
  rw [Block.trainAll_eq]
  refine ⟨h3.trans (h2.trans (h1.trans h0)), ?_⟩
  rw [k3, k2, k1, k0]
  exact setBitOf_all _ (Nat.mod_lt _ (by decide))

theorem Block.trainAll_fails {b : Block} {attempts : List (List (List (Nat × Nat)))}
    (h : ∀ l ∈ attempts, ∀ a ∈ l.take 3, b.attemptOk a = false) : (b.trainAll attempts).1 = false := by
  have hfirst : (trainStep attempts (true, b) 0).1 = false := by
    rw [trainStep, Bool.true_and]
    refine Block.trainChannel_fails (by decide) _ _ fun a ha => ?_
    cases attempts with
    | nil => simp at ha
    | cons l _ => exact h l (by simp) a (by simpa using ha)
  have hlater {x : Bool × Block} {c : Nat} (hx : x.1 = false) : (trainStep attempts x c).1 = false := by rw [trainStep, hx, Bool.false_and]
  rw [Block.trainAll_eq]
  exact hlater (hlater (hlater hfirst))

/-- The end of the stage MEM, with the QDR memory ready, before its DRAM's result. -/
def Block.memEnd (b : Block) (after : Nat) : Block :=
  (b.stageEnd after (if b.fuses.h128 then 120000000 else 40000000)).set F.QDR_STATUS_READY 3

theorem dramTrainingComplete_eq {b : Block} (attempts : List (List (List (Nat × Nat)))) (after : Nat) (hs : b.stage = 1) :
    dramTrainingComplete attempts after b =
      if ((b.memEnd after).trainAll attempts).1 then ((b.memEnd after).trainAll attempts).2.slotStage
      else { ((b.memEnd after).trainAll attempts).2.raise E.DRM_TRAIN_FAIL with upd.noDram := true }.bootHold := by
  have hmem : b.stage = stageMem := hs
  rw [dramTrainingComplete, if_neg (not_not.mpr hmem)]
  rfl

/-! ### Stage SLOT (R110, R456) -/

theorem Block.sameOutside_trialFail (b : Block) (s : Nat) : SameOutside [0x07, 0x30] b (b.trialFail s) := by
  rw [Block.trialFail, Block.raise_eq, sameOutside_raiseAt _ (by decide) (by decide) (by decide)]
  exact (b.sameOutside_writeRec _).mono (by decide)

theorem Block.sameMem_trialFail (b : Block) (s : Nat) : SameMem b (b.trialFail s) :=
  (b.sameMem_writeRec _).trans (Block.sameMem_raise _ _)

theorem Block.trialCount_spec (b : Block) : SameOutside [0x07, 0x30] b b.trialCount ∧ SameMem b b.trialCount
    ∧ b.trialCount.clk = b.clk := by
  unfold Block.trialCount
  dsimp only
  split
  · simp
  · split
    · exact ⟨b.sameOutside_trialFail _, b.sameMem_trialFail _, by simp [Block.trialFail, Block.writeRec, (Block.touches_updShow _).clk]⟩
    · exact ⟨(b.sameOutside_writeRec _).mono (by decide), b.sameMem_writeRec _, by simp [Block.writeRec, (Block.touches_updShow _).clk]⟩

/-- With BOOT_SEL 0 all three slots are to be tried, with 1 the golden one. -/
theorem Block.bootOrder_length {b : Block} (h : b.get F.CFG_BOOT_STATUS_BOOT_SEL < 2) :
    b.bootOrder.length = if b.get F.CFG_BOOT_STATUS_BOOT_SEL = 0 then 3 else 1 := by
  rw [Block.bootOrder]
  split_ifs <;> first | rfl | omega

/-- The stage SLOT before its slots are chosen. -/
def Block.slotBegin (b : Block) : Block := (b.goStage stageSlot).updShow.trialCount

theorem Block.slotBegin_spec (b : Block) : b.slotBegin.stage = 2 ∧ SameOutside [0x02, 0x07, 0x30] b b.slotBegin ∧ SameMem b b.slotBegin
    ∧ b.slotBegin.clk = b.clk ∧ b.slotBegin.get F.CFG_BOOT_STATUS_BOOT_SEL = b.get F.CFG_BOOT_STATUS_BOOT_SEL := by
  have hshow := (b.goStage stageSlot).touches_updShow
  obtain ⟨hout, hmem, hclk⟩ := (b.goStage stageSlot).updShow.trialCount_spec
  have hget {f : Fld} (hf : keyAddr f.addr / 0x10000 = 0x02) : b.slotBegin.get f = (b.goStage stageSlot).get f := by
    rw [Block.slotBegin, hout.get (by rw [hf]; decide), hshow.get (by rw [hf]; decide)]
  refine ⟨?_, ?_, ?_, ?_, ?_⟩
  · rw [Block.stage, hget rfl]
    exact b.stage_goStage (st := 2) (by decide)
  · have h := (Block.sameOutside_goStage (l := [0x02, 0x07, 0x30]) b b stageSlot (by decide)).mpr (.refl _ b)
    exact (h.trans (hshow.sameOutside.mono (by decide))).trans (hout.mono (by decide))
  · exact (hshow.sameMem.trans hmem)
  · rw [Block.slotBegin, hclk, hshow.clk]
    rfl
  · rw [hget rfl, Block.get_goStage _ _ rfl]

theorem Block.slotStage_eq {b : Block} (h : b.get F.CFG_BOOT_STATUS_BOOT_SEL < 2) :
    b.slotStage = { b.slotBegin with cfg.slotsLeft := b.slotBegin.bootOrder } := by
  obtain ⟨-, -, -, -, hsel⟩ := b.slotBegin_spec
  rw [← hsel] at h
  rw [Block.slotStage, ← Block.slotBegin]
  generalize b.slotBegin = c at *
  have hne : c.bootOrder.isEmpty = false := by
    rw [← Bool.not_eq_true, List.isEmpty_iff_length_eq_zero, Block.bootOrder_length h]
    split <;> simp
  have hbeq : (c.get F.CFG_BOOT_STATUS_BOOT_SEL == 3) = false := by simpa using (by omega : c.get F.CFG_BOOT_STATUS_BOOT_SEL ≠ 3)
  simp -implicitDefEqProofs [hbeq, hne]

theorem Block.memEnd_spec (b : Block) (after : Nat) : SameOutside [0x29] b (b.memEnd after) ∧ SameMem b (b.memEnd after)
    ∧ (b.memEnd after).clk = max b.clk (b.cfg.stageFrom + min after (if b.fuses.h128 then 120000000 else 40000000))
    ∧ (b.memEnd after).get F.QDR_STATUS_READY = 3 ∧ ∀ lanes, (b.memEnd after).attemptOk lanes = b.attemptOk lanes := by
  have hout : SameOutside [0x29] b (b.memEnd after) := by
    rw [Block.memEnd, sameOutside_set _ (by decide)]
    simp [Block.stageEnd]
  refine ⟨hout, sameMem_of_eq rfl rfl, ?_, ?_, fun lanes => ?_⟩
  · rw [Block.memEnd, Block.set_clk, Block.stageEnd, Block.untilClk_clk]
  · rw [Block.memEnd, Block.get_set_self _ _ rfl]
    rfl
  · rw [Block.attemptOk, hout.get (f := F.DRM_TRAIN_CFG_MIN_STEPS) (by decide), Block.attemptOk]

/-- What the choice of the slots leaves, once settled. -/
theorem Block.settle_slots (d : Block) (l : List Nat) : ({ d with cfg.slotsLeft := l }).settle.regs = d.regs
    ∧ ({ d with cfg.slotsLeft := l }).settle.clk = d.clk ∧ ({ d with cfg.slotsLeft := l }).settle.cfg.slotsLeft = l
    ∧ ∀ b, SameMem b ({ d with cfg.slotsLeft := l }).settle ↔ SameMem b d := ⟨rfl, rfl, rfl, fun _ => .rfl⟩

theorem dramTrainingComplete_trained (b : Block) (attempts : List (List (List (Nat × Nat)))) (after : Nat) (hs : b.stage = 1)
    (hlen : attempts.length = 4) (hall : ∀ l ∈ attempts, l ≠ [] ∧ b.attemptOk (l.headD []) = true)
    (hsel : b.get F.CFG_BOOT_STATUS_BOOT_SEL < 2) :
    let t := (dramTrainingComplete attempts after b).settle
    t.stage = 2 ∧ t.get F.DRM_STATUS_TRAINED = 15
      ∧ t.clk = max b.clk (b.cfg.stageFrom + min after (if b.fuses.h128 then 120000000 else 40000000))
      ∧ t.cfg.slotsLeft.length = (if b.get F.CFG_BOOT_STATUS_BOOT_SEL = 0 then 3 else 1)
      ∧ t.get F.QDR_STATUS_READY = 3 ∧ SameOutside [0x02, 0x07, 0x28, 0x29, 0x30] b t ∧ SameMem b t := by
  obtain ⟨hendOut, hendMem, hendClk, hready, hok⟩ := b.memEnd_spec after
  obtain ⟨htrue, hfull⟩ := Block.trainAll_ok (b := b.memEnd after) hlen (by simpa only [hok] using hall)
  have htrains := (b.memEnd after).trains_trainAll attempts
  rw [dramTrainingComplete_eq attempts after hs, if_pos htrue]
  generalize ((b.memEnd after).trainAll attempts).2 = c at *
  have hclk : c.clk = (b.memEnd after).clk := by rw [htrains.1]
  have hcsel : c.get F.CFG_BOOT_STATUS_BOOT_SEL = b.get F.CFG_BOOT_STATUS_BOOT_SEL := by
    rw [htrains.2.1.get (by decide), hendOut.get (by decide)]
  obtain ⟨hstage, hout, hmem, hbclk, hbsel⟩ := c.slotBegin_spec
  rw [Block.slotStage_eq (by rw [hcsel]; exact hsel)]
  have hlen := Block.bootOrder_length (b := c.slotBegin) (by rw [hbsel, hcsel]; exact hsel)
  rw [hbsel, hcsel] at hlen
  obtain ⟨hregs, hsclk, hslots, hsmem⟩ := c.slotBegin.settle_slots c.slotBegin.bootOrder
  refine ⟨(Block.get_congr hregs _).trans hstage, (Block.get_congr hregs _).trans ((hout.get (by decide)).trans hfull),
    hsclk.trans (hbclk.trans (hclk.trans hendClk)), hslots ▸ hlen,
    (Block.get_congr hregs _).trans ((hout.get (by decide)).trans ((htrains.2.1.get (by decide)).trans hready)),
    (sameOutside_congr hregs).mpr ?_, (hsmem b).mpr ((hendMem.trans htrains.sameMem).trans hmem)⟩
  exact ((hendOut.mono (by decide)).trans (htrains.2.1.mono (by decide))).trans (hout.mono (by decide))

theorem dramTrainingComplete_failed (b : Block) (attempts : List (List (List (Nat × Nat)))) (after : Nat) (hs : b.stage = 1)
    (hall : ∀ l ∈ attempts, ∀ a ∈ l.take 3, b.attemptOk a = false) :
    let t := (dramTrainingComplete attempts after b).settle
    t.stage = 0xE ∧ t.bit F.DRM_ERR_TRAIN_FAIL = true
      ∧ t.upd.noDram = true ∧ SameOutside [0x02, 0x28, 0x29, 0x30] b t ∧ SameMem b t := by
  obtain ⟨hendOut, hendMem, -, -, hok⟩ := b.memEnd_spec after
  have hfalse := Block.trainAll_fails (b := b.memEnd after) (by simpa only [hok] using hall)
  have htrains := (b.memEnd after).trains_trainAll attempts
  rw [dramTrainingComplete_eq attempts after hs, if_neg (by rw [hfalse]; decide)]
  generalize ((b.memEnd after).trainAll attempts).2 = c at *
  have herr := c.bit_raiseAt_self (e := E.DRM_TRAIN_FAIL) noDetail rfl rfl rfl rfl (by decide)
  have hraise := (sameOutside_raiseAt (l := [0x28, 0x30]) (b := c) (t := c) (e := E.DRM_TRAIN_FAIL) noDetail (by decide) (by decide) (by decide)).mpr
    (.refl _ c)
  have hmem := c.sameMem_raise E.DRM_TRAIN_FAIL
  rw [← Block.raise_eq] at herr hraise
  generalize c.raise E.DRM_TRAIN_FAIL = d at *
  refine ⟨Block.stage_bootHold _, ?_, rfl, ?_, ((hendMem.trans htrains.sameMem).trans hmem)⟩
  · rw [Block.settle_bit, Block.bit, Block.get_bootHold _ rfl rfl]
    exact herr
  · rw [sameOutside_settle, Block.sameOutside_bootHold _ _ (by decide)]
    exact ((hendOut.mono (by decide)).trans (htrains.2.1.mono (by decide))).trans (hraise.mono (by decide))

/-- Settles O23: what each outcome of the self-test and of training leaves. -/
theorem selfTestAndTraining : Obligations.SelfTestAndTraining := by
  unfold Obligations.SelfTestAndTraining
  refine ⟨fun b hard soft beyond after hr hs => ?_, fun b mem addr bit words hard soft beyond after hr hs _ hw => ?_,
    fun b fault hard soft beyond after hr hs => ?_, fun b attempts after hr hs hlen hall hsel => ?_, fun b attempts after hr hs _ hall => ?_⟩
  · exact gives_of_done hr (fun _ => rfl) (postComplete_good b hard soft beyond after hs)
  · exact gives_of_done hr (fun _ => rfl) (postComplete_finding b mem addr bit words hard soft beyond after hs hw)
  · exact gives_of_done hr (fun _ => rfl) (postComplete_knownAnswer b fault hard soft beyond after hs)
  · exact gives_of_done hr (fun _ => rfl) (dramTrainingComplete_trained b attempts after hs hlen hall hsel)
  · exact gives_of_done hr (fun _ => rfl) (dramTrainingComplete_failed b attempts after hs hall)

end Sys2Proof.Machine
end

section
/-!
PROOFS of chapter 04: the checks of the slots.
-/

namespace Sys2Proof.Machine

/-- A slot's byte lies in its register apart from the other fields of CFG. -/
theorem slotResult_spec (s : Nat) : (slotResult s).ok = true ∧ (slotResult s).addr = R.CFG_BOOT_SLOT_RESULT ∧ (slotResult s).width = 8 := by
  unfold slotResult
  split_ifs <;> decide

theorem slotResult_apart (s : Nat) {g : Fld} (h : R.CFG_BOOT_SLOT_RESULT ≠ g.addr) : (slotResult s).apart g = true := by
  rw [Fld.apart_iff, (slotResult_spec s).2.1]
  exact .inr (.inr h)

theorem Block.writeRec_cfg_clk (b : Block) (f : BootRec → BootRec) : (b.writeRec f).cfg = b.cfg ∧ (b.writeRec f).clk = b.clk := by
  rw [Block.writeRec, (Block.touches_updShow _).cfg, (Block.touches_updShow _).clk]
  exact ⟨rfl, rfl⟩

theorem Block.settingsLoad_spec (b : Block) (s : Nat) : SameOutside [0x07] b (b.settingsLoad s) ∧ SameMem b (b.settingsLoad s)
    ∧ (b.settingsLoad s).cfg = b.cfg ∧ (b.settingsLoad s).clk = b.clk := by
  unfold Block.settingsLoad
  dsimp only
  split
  · simp
  · refine ⟨?_, ?_, ?_, ?_⟩
    · exact (sameOutside_through (Block.sameOutside_writeRec _ _)).mpr (by simp)
    · exact (sameMem_through (Block.sameMem_writeRec _ _)).mpr (sameMem_of_eq rfl rfl)
    · exact (Block.writeRec_cfg_clk _ _).1
    · exact (Block.writeRec_cfg_clk _ _).2

/-- What the begin of a stage leaves, once settled. -/
theorem Block.settle_goStage (d : Block) (st : Nat) : (d.goStage st).settle.clk = d.clk
    ∧ (d.goStage st).settle.cfg.slotsLeft = d.cfg.slotsLeft := ⟨rfl, rfl⟩

/-! ### A slot that passes -/

theorem slotCheckComplete_passes_eq {b : Block} {s after : Nat} {rest : List Nat} (hs : b.stage = 2) (hl : b.cfg.slotsLeft = s :: rest)
    (hc : checkFull b.fuses b.slotImage = none) :
    slotCheckComplete after b = (((b.stageEnd after (slotBound b.slotImage)).set (slotResult s) 0).settingsLoad s).goStage stageLoad := by
  have hslot : b.stage = stageSlot := hs
  rw [slotCheckComplete, if_neg (not_not.mpr hslot)]
  simp -implicitDefEqProofs only [hl, hc]

theorem slotCheckComplete_passes (b : Block) (s after : Nat) (rest : List Nat) (hs : b.stage = 2) (hl : b.cfg.slotsLeft = s :: rest)
    (hc : checkFull b.fuses b.slotImage = none) :
    let t := (slotCheckComplete after b).settle
    t.stage = 3 ∧ t.get (slotResult s) = 0 ∧ t.cfg.slotsLeft = s :: rest
      ∧ t.clk = max b.clk (b.cfg.stageFrom + min after (slotBound b.slotImage)) ∧ SameOutside [0x02, 0x07] b t ∧ SameMem b t := by
  obtain ⟨hok, haddr, -⟩ := slotResult_spec s
  have hwin : keyAddr (slotResult s).addr / 0x10000 = 0x02 := by rw [haddr]; rfl
  rw [slotCheckComplete_passes_eq hs hl hc]
  obtain ⟨hout, hmem, hcfg, hclk⟩ := ((b.stageEnd after (slotBound b.slotImage)).set (slotResult s) 0).settingsLoad_spec s
  obtain ⟨hgclk, hgslots⟩ := (((b.stageEnd after (slotBound b.slotImage)).set (slotResult s) 0).settingsLoad s).settle_goStage stageLoad
  simp -implicitDefEqProofs only [Block.settle_stage, Block.settle_get, sameOutside_settle, sameMem_settle, hgclk, hgslots, hcfg, hclk]
  refine ⟨Block.stage_goStage _ (by decide), ?_, hl, ?_, ?_, ?_⟩
  · rw [Block.get_goStage _ _ (slotResult_apart s (by decide)), hout.get (by rw [hwin]; decide), Block.get_set_self _ _ hok]
    rfl
  · rw [Block.set_clk, Block.stageEnd, Block.untilClk_clk]
  · rw [Block.sameOutside_goStage _ _ _ (by decide), sameOutside_through (hout.mono (by decide)), sameOutside_set _ (by rw [hwin]; decide)]
    simp [Block.stageEnd]
  · rw [Block.sameMem_goStage, sameMem_through hmem]
    exact sameMem_of_eq rfl rfl

/-! ### A slot that fails -/

/-- A failed slot with its code, before what follows from it. -/
def Block.slotFailed (b : Block) (s : Nat) (e : Err) : Block :=
  let c := (b.registersReset.raise e).set (slotResult s) (e.code % 256)
  if s < 2 ∧ (c.bootRec.entry s).state = 2 then c.trialFail s else c

theorem Block.slotFail_eq {b : Block} {s : Nat} {rest : List Nat} (e : Err) (hl : b.cfg.slotsLeft = s :: rest) :
    b.slotFail e.code (some e) = if rest.isEmpty then ((b.slotFailed s e).raise E.CFG_BOOT_NONE).bootHold
      else { b.slotFailed s e with cfg.slotsLeft := rest }.goStage stageSlot := by
  rw [Block.slotFail, hl]
  rfl

theorem Block.get_slotFailed (b : Block) (s : Nat) (e : Err) : (b.slotFailed s e).get (slotResult s) = e.code % 256 := by
  obtain ⟨hok, haddr, hwidth⟩ := slotResult_spec s
  have hwin : keyAddr (slotResult s).addr / 0x10000 = 0x02 := by rw [haddr]; rfl
  have hset : ((b.registersReset.raise e).set (slotResult s) (e.code % 256)).get (slotResult s) = e.code % 256 := by
    rw [Block.get_set_self _ _ hok, hwidth]
    omega
  unfold Block.slotFailed
  dsimp only
  split
  · rw [(Block.sameOutside_trialFail _ s).get (by rw [hwin]; decide), hset]
  · exact hset

theorem slotCheckComplete_fails_eq {b : Block} {s after : Nat} {rest : List Nat} {e : Err} (hs : b.stage = 2)
    (hl : b.cfg.slotsLeft = s :: rest) (hc : checkFull b.fuses b.slotImage = some e) :
    slotCheckComplete after b = (b.stageEnd after (slotBound b.slotImage)).slotFail e.code (some e) := by
  have hslot : b.stage = stageSlot := hs
  rw [slotCheckComplete, if_neg (not_not.mpr hslot)]
  simp -implicitDefEqProofs only [hl, hc]

theorem slotCheckComplete_fails (b : Block) (s after : Nat) (rest : List Nat) (e : Err) (hs : b.stage = 2) (hl : b.cfg.slotsLeft = s :: rest)
    (hc : checkFull b.fuses b.slotImage = some e) :
    let t := (slotCheckComplete after b).settle
    t.get (slotResult s) = e.code % 256 ∧ t.stage = (if rest.isEmpty then 0xE else 2) ∧ t.cfg.slotsLeft = rest
      ∧ (rest.isEmpty = true → t.bit F.CFG_ERR_BOOT_NONE = true) := by
  obtain ⟨hok, haddr, -⟩ := slotResult_spec s
  rw [slotCheckComplete_fails_eq hs hl hc, Block.slotFail_eq e (b := b.stageEnd after (slotBound b.slotImage)) hl]
  have hresult := (b.stageEnd after (slotBound b.slotImage)).get_slotFailed s e
  cases rest with
  | nil =>
    rw [if_pos List.isEmpty_nil, if_pos List.isEmpty_nil]
    have herr := ((b.stageEnd after (slotBound b.slotImage)).slotFailed s e).bit_raiseAt_self (e := E.CFG_BOOT_NONE) noDetail rfl rfl rfl rfl
      (by decide)
    simp -implicitDefEqProofs only [Block.settle_stage, Block.settle_get, Block.settle_bit, Block.settle_cfg]
    refine ⟨?_, Block.stage_bootHold _, rfl, fun _ => ?_⟩
    · rw [Block.get_bootHold _ (slotResult_apart s (by decide)) (slotResult_apart s (by decide)), Block.raise_eq,
        Block.get_raiseAt_apart _ _ rfl rfl (slotResult_apart s (by decide)) (slotResult_apart s (by decide)) (by rw [haddr]; decide), hresult]
    · rw [Block.bit, Block.get_bootHold _ rfl rfl]
      exact herr
  | cons s' rest' =>
    rw [if_neg (by rw [List.isEmpty_cons]; decide), if_neg (by rw [List.isEmpty_cons]; decide)]
    simp -implicitDefEqProofs only [Block.settle_stage, Block.settle_get, Block.settle_bit, Block.settle_cfg]
    refine ⟨?_, Block.stage_goStage _ (by decide), rfl, by simp⟩
    rw [Block.get_goStage _ _ (slotResult_apart s (by decide)), Block.get_mk, regsGet_regs, hresult]

/-- Settles O24: an image that passes and one that fails. -/
theorem slotChecks : Obligations.SlotChecks := by
  unfold Obligations.SlotChecks
  exact ⟨fun b s after rest hr hs hl _ hc => gives_of_done hr (fun _ => rfl) (slotCheckComplete_passes b s after rest hs hl hc),
    fun b s after rest e hr hs hl _ hc => gives_of_done hr (fun _ => rfl) (slotCheckComplete_fails b s after rest e hs hl hc)⟩

end Sys2Proof.Machine
end

section
/-!
PROOFS of chapter 04: the end of LOAD and the boot commit.
-/

namespace Sys2Proof.Machine

/-! ### Where the registers with an active copy lie -/

/-- The last offset that a row holds. -/
def Row.last (r : Row) : Nat := r.off + (r.s1 * (r.c1 - 1) + r.s2 * (r.c2 - 1))

theorem Row.le_last_of_holds {r : Row} {o : Nat} (h : r.holds o = true) : o ≤ r.last := by
  simp only [Row.holds, Bool.and_eq_true, decide_eq_true_eq, beq_iff_eq] at h
  obtain ⟨⟨⟨hoff, h1⟩, h0⟩, h2⟩ := h
  have hrow := Nat.div_add_mod (o - r.off) r.s1
  have hcol := Nat.div_add_mod ((o - r.off) % r.s1) r.s2
  have hle1 := Nat.mul_le_mul_left r.s1 (Nat.le_sub_one_of_lt h1)
  have hle2 := Nat.mul_le_mul_left r.s2 (Nat.le_sub_one_of_lt h2)
  rw [Row.last]
  omega

theorem windowRows_rws (w : Nat) : ∀ r ∈ windowRows w, r.kind = .rws → r.last < 0x8000 ∧ w < 0x31 ∧ w ∉ [0x00, 0x01, 0x02, 0x07] := by
  unfold windowRows
  split <;> first | exact List.forall_mem_nil _ | decide +kernel

/-- A register with an active copy lies in the lower half of a window that is not SYS's, HIF's, CFG's or UPD's. -/
theorem isRws_spec {k : Nat} (h : isRws k = true) : k % 0x10000 < 0x8000 ∧ k / 0x10000 < 0x31 ∧ k / 0x10000 ∉ [0x00, 0x01, 0x02, 0x07] := by
  unfold isRws at h
  split at h
  · next r hr =>
    rw [rowAt] at hr
    have hmem := List.mem_of_find?_eq_some hr
    have hlast := Row.le_last_of_holds (List.find?_some (p := fun x : Row => x.holds (k % 0x10000)) hr)
    obtain ⟨hlow, hend, hw⟩ := windowRows_rws _ r hmem (by simpa using h)
    exact ⟨by omega, hend, hw⟩
  · cases h

/-- A register with an active copy, and the copy, are not in the windows without. -/
theorem notMem_of_isRws {k : Nat} (h : isRws k = true) {l : List Nat} (hl : l ⊆ [0x00, 0x01, 0x02, 0x07]) : keyAddr k / 0x10000 ∉ l := by
  obtain ⟨hlow, hend, hwin⟩ := isRws_spec h
  have hkey : keyAddr k = k := by
    simp only [keyAddr]
    split <;> omega
  rw [hkey]
  exact fun hm => hwin (hl hm)

theorem notMem_active_of_isRws {k : Nat} (h : isRws k = true) {l : List Nat} (hl : l ⊆ [0x00, 0x01, 0x02, 0x07]) :
    keyAddr (k + activeOffset) / 0x10000 ∉ l := by
  obtain ⟨hlow, hend, hwin⟩ := isRws_spec h
  have hkey : keyAddr (k + activeOffset) = k := by
    have hoff : activeOffset = 0x8000 := rfl
    simp only [keyAddr]
    split <;> omega
  rw [hkey]
  exact fun hm => hwin (hl hm)

/-! ### Every shadow installed -/

/-- Is `k` the key of an active copy? -/
def isActiveCopy (k : Nat) : Bool := decide (0x8000 ≤ k % 0x10000) && isRws (k - 0x8000)

theorem Block.word_dropCopies (b : Block) (k : Nat) :
    ({ b with regs := b.regs.filter (fun c => !isActiveCopy c.1) } : Block).word k = if isActiveCopy k then keyReset k else b.word k := by
  rw [Block.word, cellsGet_filter (fun k => !isActiveCopy k)]
  cases isActiveCopy k <;> simp [Block.word]

theorem Block.word_installAll_other (b : Block) {k : Nat} (h : isActiveCopy k = false) : b.installAll.word k = b.word k := by
  have hne : ∀ c ∈ b.regs.filter (fun c => decide (c.1 % 0x10000 < 0x8000) && isRws c.1), k ≠ c.1 + 0x8000 := by
    rintro c hc rfl
    have hc' := (List.mem_filter.1 hc).2
    simp only [Bool.and_eq_true, decide_eq_true_eq] at hc'
    have hhigh : 0x8000 ≤ (c.1 + 0x8000) % 0x10000 := by omega
    simp [isActiveCopy, hhigh, hc'.2] at h
  exact (Block.word_each_setWord_other _ hne).trans ((b.word_dropCopies k).trans (by rw [h]; rfl))

theorem Block.word_installAll_active {b : Block} {k : Nat} (hb : cellsWf keyReset b.regs = true) (h : isRws k = true) :
    b.installAll.word (k + activeOffset) = b.word k := by
  obtain ⟨hlow, -⟩ := isRws_spec h
  have hsorted := (((cellsWf_iff keyReset b.regs).1 hb).1).filter (fun c => decide (c.1 % 0x10000 < 0x8000) && isRws c.1)
  have hhigh : 0x8000 ≤ (k + activeOffset) % 0x10000 := by
    rw [activeOffset]
    omega
  have hcopy : isActiveCopy (k + activeOffset) = true := by
    rw [isActiveCopy, show k + activeOffset - 0x8000 = k from Nat.add_sub_cancel .., h, Bool.and_true]
    exact decide_eq_true hhigh
  have hdrop := b.word_dropCopies (k + activeOffset)
  rw [hcopy, if_pos rfl, keyReset_add_offset hlow] at hdrop
  refine (Block.word_each_setWord k _ hsorted).trans ?_
  rw [cellsGet_filter (fun k => decide (k % 0x10000 < 0x8000) && isRws k), Block.word]
  simp only [hlow, h, decide_true, Bool.and_self, if_true]
  exact congrArg (cellsGet b.regs k) hdrop

theorem Block.installAll_eq (b : Block) : b.installAll = { b with regs := b.installAll.regs } := by
  have h : ({ b.installAll with regs := b.regs } : Block) = b :=
    Block.each_keeps (fun x : Block => ({ x with regs := b.regs } : Block)) (fun (c : Nat × Word) x => x.setWord (c.1 + 0x8000) c.2)
      (fun _ _ => rfl) _ _
  calc b.installAll = { ({ b.installAll with regs := b.regs } : Block) with regs := b.installAll.regs } := rfl
    _ = _ := by rw [h]

@[simp] theorem Block.installAll_dram (b : Block) : b.installAll.dram = b.dram := by rw [Block.installAll_eq]
@[simp] theorem Block.installAll_qdr (b : Block) : b.installAll.qdr = b.qdr := by rw [Block.installAll_eq]
@[simp] theorem Block.installAll_cfg (b : Block) : b.installAll.cfg = b.cfg := by rw [Block.installAll_eq]

/-! ### The boot commit (R115) -/

/-- The image's slot and build as the registers show them. -/
def Block.bootShown (b : Block) (i : Image) : Block :=
  (b.set F.CFG_BOOT_STATUS_SLOT (b.cfg.slotsLeft.headD 0 + 1)).setPair F.CFG_BUILD_ID_LO F.CFG_BUILD_ID_HI i.buildId

/-- The boot commit up to the install of every group. -/
def Block.bootInstalled (b : Block) (i : Image) : Block :=
  ({ b.bootShown i with cfg := { (b.bootShown i).cfg with running := some i, slotsLeft := [] } } : Block).installAll

/-- The boot commit up to the stage ROLE. -/
def Block.bootStaged (b : Block) (i : Image) : Block := ((b.bootInstalled i).goStage stageRole).updShow

/-- A block with a topology of its own, or as it is. -/
def Block.withTopo (b : Block) : Option Topology → Block
  | none => b
  | some t => { b with cfg.topo := some t }

theorem Block.withTopo_spec (b : Block) (o : Option Topology) : (b.withTopo o).regs = b.regs ∧ (b.withTopo o).dram = b.dram
    ∧ (b.withTopo o).qdr = b.qdr ∧ (b.withTopo o).cfg.running = b.cfg.running ∧ (b.withTopo o).cfg.slotsLeft = b.cfg.slotsLeft := by
  cases o <;> exact ⟨rfl, rfl, rfl, rfl, rfl⟩

/-- What the boot commit leaves beyond that: the topology and the node. -/
theorem Block.bootImage_eq (b : Block) (i : Image) : ∃ (topo : Option Topology) (node : Nat),
    b.bootImage i = ((b.bootStaged i).withTopo topo).set F.HIF_NODE_ID_NODE node := by
  cases h : imageTopology i with
  | none =>
    refine ⟨none, 0, ?_⟩
    simp -implicitDefEqProofs only [Block.bootImage, h, Block.withTopo, Block.bootStaged, Block.bootInstalled, Block.bootShown]
  | some x =>
    refine ⟨some x.1, if x.1.source1 then 0 else x.1.node, ?_⟩
    simp -implicitDefEqProofs only [Block.bootImage, h, Block.withTopo, Block.bootStaged, Block.bootInstalled, Block.bootShown]

theorem Block.bootShown_wf {b : Block} (i : Image) (h : cellsWf keyReset b.regs = true) : cellsWf keyReset (b.bootShown i).regs = true :=
  cellsSet_wf _ _ (cellsSet_wf _ _ (cellsSet_wf _ _ h))

theorem Block.sameOutside_bootShown (b : Block) (i : Image) : SameOutside [0x02] b (b.bootShown i) := by
  simp (disch := decide) [Block.bootShown]

theorem Block.slot_bootShown (b : Block) (i : Image) (h : b.cfg.slotsLeft.headD 0 < 3) :
    (b.bootShown i).get F.CFG_BOOT_STATUS_SLOT = b.cfg.slotsLeft.headD 0 + 1 := by
  have hfits : b.cfg.slotsLeft.headD 0 + 1 < 2 ^ F.CFG_BOOT_STATUS_SLOT.width := (by omega : _ < 4).trans_le (by decide)
  rw [Block.bootShown, Block.setPair_eq, Block.get_set_apart _ _ rfl rfl, Block.get_set_apart _ _ rfl rfl, Block.get_set_self _ _ rfl,
    Nat.mod_eq_of_lt hfits]

theorem Block.buildId_bootShown (b : Block) (i : Image) (h : i.buildId < 2 ^ 64) :
    (b.bootShown i).get F.CFG_BUILD_ID_LO + 2 ^ 32 * (b.bootShown i).get F.CFG_BUILD_ID_HI = i.buildId := by
  have hlo : F.CFG_BUILD_ID_LO.width = 32 := rfl
  have hhi : F.CFG_BUILD_ID_HI.width = 32 := rfl
  rw [Block.bootShown, Block.setPair_eq, Block.get_set_self _ _ rfl, Block.get_set_apart _ _ rfl rfl, Block.get_set_self _ _ rfl, hlo, hhi]
  omega

theorem Block.word_bootInstalled_other (b : Block) (i : Image) {k : Nat} (h : isActiveCopy k = false) :
    (b.bootInstalled i).word k = (b.bootShown i).word k := Block.word_installAll_other _ h

theorem Block.word_bootInstalled_active {b : Block} (i : Image) {k : Nat} (hb : cellsWf keyReset b.regs = true) (h : isRws k = true) :
    (b.bootInstalled i).word (k + activeOffset) = (b.bootShown i).word k := Block.word_installAll_active (b.bootShown_wf i hb) h

/-- After the install the boot commit writes CFG's, HIF's and UPD's registers alone. -/
theorem Block.sameOutside_bootImage (b : Block) (i : Image) : SameOutside [0x01, 0x02, 0x07] (b.bootInstalled i) (b.bootImage i) := by
  obtain ⟨topo, node, he⟩ := b.bootImage_eq i
  have hshow := ((b.bootInstalled i).goStage stageRole).touches_updShow
  rw [he, sameOutside_set _ (by decide), sameOutside_congr (Block.withTopo_spec _ topo).1, Block.bootStaged,
    sameOutside_through (hshow.mono (by decide)).sameOutside, Block.sameOutside_goStage _ _ _ (by decide)]
  exact .refl _ _

theorem Block.get_bootImage (b : Block) (i : Image) {f : Fld} (h : keyAddr f.addr / 0x10000 = 0x02)
    (hs : f.apart F.CFG_BOOT_STATUS_STAGE = true) (hc : isActiveCopy f.addr = false) : (b.bootImage i).get f = (b.bootShown i).get f := by
  obtain ⟨topo, node, he⟩ := b.bootImage_eq i
  have hshow := ((b.bootInstalled i).goStage stageRole).touches_updShow
  rw [he, Block.get_set_other _ _ (by rintro hf; rw [hf] at h; exact absurd h (by decide)), Block.get_congr (Block.withTopo_spec _ topo).1, Block.bootStaged,
    hshow.get (by rw [h]; decide), Block.get_goStage _ _ hs, Block.get, b.word_bootInstalled_other i hc, Block.get]

theorem Block.stage_bootImage (b : Block) (i : Image) : (b.bootImage i).stage = 4 := by
  obtain ⟨topo, node, he⟩ := b.bootImage_eq i
  have hshow := ((b.bootInstalled i).goStage stageRole).touches_updShow
  rw [he, Block.stage, Block.get_set_other _ _ (by decide), Block.get_congr (Block.withTopo_spec _ topo).1, Block.bootStaged, hshow.get (by decide)]
  exact Block.stage_goStage (b.bootInstalled i) (by decide)

theorem Block.goStage_cfg (b : Block) (st : Nat) : (b.goStage st).cfg.running = b.cfg.running
    ∧ (b.goStage st).cfg.slotsLeft = b.cfg.slotsLeft := ⟨rfl, rfl⟩

theorem Block.bootInstalled_cfg (b : Block) (i : Image) : (b.bootInstalled i).cfg.running = some i ∧ (b.bootInstalled i).cfg.slotsLeft = [] := by
  rw [Block.bootInstalled, Block.installAll_cfg]
  exact ⟨rfl, rfl⟩

theorem Block.bootImage_cfg (b : Block) (i : Image) : (b.bootImage i).cfg.running = some i ∧ (b.bootImage i).cfg.slotsLeft = [] := by
  obtain ⟨topo, node, he⟩ := b.bootImage_eq i
  obtain ⟨-, -, -, hrun, hslots⟩ := (b.bootStaged i).withTopo_spec topo
  have hshow := ((b.bootInstalled i).goStage stageRole).touches_updShow
  rw [he, Block.set_cfg, hrun, hslots, Block.bootStaged, hshow.cfg, (Block.goStage_cfg _ _).1, (Block.goStage_cfg _ _).2]
  exact b.bootInstalled_cfg i

theorem Block.sameMem_bootInstalled (b : Block) (i : Image) : SameMem b (b.bootInstalled i) :=
  sameMem_of_eq (Block.installAll_dram _) (Block.installAll_qdr _)

theorem Block.sameMem_bootImage (b : Block) (i : Image) : SameMem b (b.bootImage i) := by
  obtain ⟨topo, node, he⟩ := b.bootImage_eq i
  obtain ⟨-, hdram, hqdr, -, -⟩ := (b.bootStaged i).withTopo_spec topo
  have hshow := ((b.bootInstalled i).goStage stageRole).touches_updShow
  have hset : SameMem b (((b.bootStaged i).withTopo topo).set F.HIF_NODE_ID_NODE node) ↔ SameMem b ((b.bootStaged i).withTopo topo) := .rfl
  rw [he, hset, sameMem_congr hdram hqdr, Block.bootStaged, sameMem_through hshow.sameMem, Block.sameMem_goStage]
  exact b.sameMem_bootInstalled i

/-! ### The end of LOAD (R115) -/

theorem loadComplete_commits {b c : Block} {i : Image} {after : Nat} (hs : b.stage = 3) (hi : b.slotImage = some i)
    (ht : (b.loadRegisters i after).loadTables i (fun _ => 0) = (none, c))
    (hc : (c.loadEngines i).bootChecks ((imageRole i).getD roleTile) = none) :
    loadComplete after b = (((c.loadEngines i).bootImage i).bootRole i).frameZero := by
  have hload : b.stage = stageLoad := hs
  rw [loadComplete, if_neg (not_not.mpr hload)]
  simp -implicitDefEqProofs only [hi, ht, hc]

/-- Writing the code of engines adds their banks to the codes and changes nothing else. -/
theorem Block.writeEngines_spec (l : List (Nat × List Byte)) : ∀ b : Block,
    (b.each l (fun x b => b.writeEngine 0 x)).regs = b.regs ∧ (b.each l (fun x b => b.writeEngine 0 x)).dram = b.dram
      ∧ (b.each l (fun x b => b.writeEngine 0 x)).qdr = b.qdr
      ∧ (∀ n, (∃ y ∈ b.cfg.codes, y.engine = n ∧ y.bank = 0) → ∃ y ∈ (b.each l (fun x b => b.writeEngine 0 x)).cfg.codes, y.engine = n ∧ y.bank = 0)
      ∧ ∀ x ∈ l, ∃ y ∈ (b.each l (fun x b => b.writeEngine 0 x)).cfg.codes, y.engine = x.1 ∧ y.bank = 0 := by
  induction l with
  | nil => exact fun b => ⟨rfl, rfl, rfl, fun _ h => h, by simp⟩
  | cons x r ih =>
    intro b
    obtain ⟨hregs, hdram, hqdr, hkeep, hnew⟩ := ih (b.writeEngine 0 x)
    have hx : ∃ y ∈ (b.writeEngine 0 x).cfg.codes, y.engine = x.1 ∧ y.bank = 0 := ⟨⟨x.1, 0, x.2⟩, by simp [Block.writeEngine], rfl, rfl⟩
    refine ⟨hregs, hdram, hqdr, fun n hn => hkeep n ?_, fun y hy => ?_⟩
    · obtain ⟨y, hy, rfl, hbank⟩ := hn
      by_cases he : y.engine = x.1
      · rw [he]
        exact hx
      · exact ⟨y, by simp [Block.writeEngine, hy, he], rfl, hbank⟩
    · rcases List.mem_cons.1 hy with rfl | hr
      · exact hkeep _ hx
      · exact hnew y hr

/-- Settles O25: the install of every shadow within the boot commit, and what the commit writes beside it. -/
theorem loadAndBootCommit : Obligations.LoadAndBootCommit := by
  unfold Obligations.LoadAndBootCommit
  refine ⟨fun b c i after hr hs hi ht hc => ?_, fun c i => ?_, fun b i hslot hid => ?_, fun b i k hb hk => ?_⟩
  · exact gives_of_done (t := loadComplete after b) hr (fun _ => rfl) (by rw [loadComplete_commits hs hi ht hc])
  · obtain ⟨hregs, hdram, hqdr, -, hnew⟩ := Block.writeEngines_spec (imageCode i) c
    exact ⟨rfl, hnew, (sameWords_congr (u := c) hregs).mpr (.refl _ c), sameMem_of_eq hdram hqdr⟩
  · refine ⟨b.stage_bootImage i, ?_, ?_, (b.bootImage_cfg i).1, (b.bootImage_cfg i).2, b.sameMem_bootImage i⟩
    · rw [b.get_bootImage i rfl rfl (by decide +kernel), b.slot_bootShown i hslot]
    · rw [Block.pair, b.get_bootImage i rfl rfl (by decide +kernel), b.get_bootImage i rfl rfl (by decide +kernel)]
      exact b.buildId_bootShown i hid
  · obtain ⟨hlow, -, -⟩ := isRws_spec hk
    have hshown : (b.bootShown i).word k = b.word k := b.sameOutside_bootShown i k (notMem_of_isRws hk (by decide))
    refine ⟨?_, ?_⟩
    · rw [b.sameOutside_bootImage i _ (notMem_active_of_isRws hk (by decide)), b.word_bootInstalled_active i hb hk, hshown]
    · rw [b.sameOutside_bootImage i _ (notMem_of_isRws hk (by decide)), b.word_bootInstalled_other i (by simp [isActiveCopy, hlow]), hshown]

end Sys2Proof.Machine
end

section
/-!
PROOFS of chapter 17: self-test on demand.
-/

namespace Sys2Proof.Machine

/-! ### A test starts (R477, R478) -/

/-- What the begin of a test leaves: only BST's registers and the time it began. -/
theorem Block.bstStart_spec (b : Block) {n : Nat} (hn : n < 8) :
    let t := (b.bstStart n).settle
    t.bit F.BST_STATUS_BUSY = true ∧ t.get F.BST_STATUS_TEST = n ∧ t.get F.BST_RESULT_RESULT = 0 ∧ t.bstFrom = b.clk
      ∧ SameOutside [0x08] b t ∧ SameMem b t := by
  have hfits : n % 2 ^ F.BST_STATUS_TEST.width = n := Nat.mod_eq_of_lt hn
  simp -implicitDefEqProofs (disch := decide) [Block.bstStart, SameMem, Block.dramByte, Block.qdrByte, hfits]

/-- A command that is a test that may run starts it. -/
theorem gives_bstStart {c : Instr} {b : Block} {v n : Nat} {clean : Bool} (hr : Runs b) (hg : b.gated R.BST_CMD = false)
    (he : ∀ q, exec c ⟨b, q⟩ = State.done ⟨b, q⟩ (b.writing R.BST_CMD (bstCmd v clean))) (hn : n < 8) (hc : bstCmd v clean b = b.bstStart n) :
    Gives c b (fun t => t.bit F.BST_STATUS_BUSY = true ∧ t.get F.BST_STATUS_TEST = n
        ∧ t.get F.BST_RESULT_RESULT = 0 ∧ t.bstFrom = b.clk ∧ SameOutside [0x08] b t ∧ SameMem b t) :=
  gives_of_writing hr hg he (by rw [hc]; exact b.bstStart_spec hn)

theorem bstCmd_sram {b : Block} {v : Nat} (clean : Bool) (ht : F.BST_CMD_TEST.of v = 1) (hb : b.bit F.BST_STATUS_BUSY = false) (hr : b.role = 0) :
    bstCmd v clean b = b.bstStart testSram := by
  simp [bstCmd, ht, hb, hr, testSram]

theorem bstCmd_qdr {b : Block} {v : Nat} (clean : Bool) (ht : F.BST_CMD_TEST.of v = 3) (hb : b.bit F.BST_STATUS_BUSY = false)
    (hd : b.drives = false) : bstCmd v clean b = b.bstStart testQdr := by
  simp [bstCmd, ht, hb, hd, testSram, testLogic, testQdr]

theorem bstCmd_dram {b : Block} {v : Nat} (clean : Bool) (ht : F.BST_CMD_TEST.of v = 4) (hb : b.bit F.BST_STATUS_BUSY = false)
    (hp : b.bstPlaced = true) : bstCmd v clean b = b.bstStart testDram := by
  simp [bstCmd, ht, hb, hp, testSram, testLogic, testQdr, testDram]

theorem bstCmd_logic {b c : Block} {v : Nat} {clean : Bool} (ht : F.BST_CMD_TEST.of v = 2) (hb : b.bit F.BST_STATUS_BUSY = false)
    (hc : b.clearSecrets clean = (true, c)) : bstCmd v clean b = c.bstStart testLogic := by
  simp [bstCmd, ht, hb, hc, testSram, testLogic]

theorem bstCmd_busy {b : Block} {v : Nat} (clean : Bool) (ht : F.BST_CMD_TEST.of v = 4) (hb : b.bit F.BST_STATUS_BUSY = true) :
    bstCmd v clean b = b.raiseAt E.BST_BUSY noDetail := by
  simp [bstCmd, ht, hb]

/-! ### A test ends (R477, R478) -/

/-- A test's end before its result: the time it takes, BUSY and DONE. -/
def Block.bstEnd (b : Block) (t after : Nat) : Block :=
  (((b.untilClk (b.bstFrom + min after (b.bstBound t))).set F.BST_STATUS_BUSY 0).set F.BST_STATUS_TEST 0).set F.BST_IRQ_STATUS_DONE 1

theorem Block.sameOutside_bstEnd (b : Block) (t after : Nat) : SameOutside [0x08] b (b.bstEnd t after) := by
  simp (disch := decide) [Block.bstEnd]

theorem Block.bstEnd_spec (b : Block) (t after : Nat) : (b.bstEnd t after).bit F.BST_STATUS_BUSY = false
    ∧ (b.bstEnd t after).bit F.BST_IRQ_STATUS_DONE = true ∧ (b.bstEnd t after).clk = max b.clk (b.bstFrom + min after (b.bstBound t))
    ∧ (b.bstEnd t after).dram = b.dram ∧ (b.bstEnd t after).qdr = b.qdr
    ∧ (b.bstEnd t after).bstSpan = b.bstSpan := by
  simp -implicitDefEqProofs (disch := decide) [Block.bstEnd, Block.bstSpan, Block.pair]

/-- A DRAM test without a finding clears its range. -/
def Block.clearSpan (b : Block) (r : Span) : Block :=
  { b with dram := b.dram.filter (fun c => !(decide (r.base ≤ c.1) && decide (c.1 < r.base + r.len))) }

theorem Block.settle_clearSpan (b : Block) (r : Span) : (b.clearSpan r).settle.regs = b.regs ∧ (b.clearSpan r).settle.clk = b.clk
    ∧ (b.clearSpan r).settle.dram = (b.clearSpan r).dram := ⟨rfl, rfl, rfl⟩

theorem Block.dramByte_clearSpan (b : Block) {r : Span} {a : Nat} (h : a < r.base ∨ r.base + r.len ≤ a) :
    (b.clearSpan r).dramByte a = b.dramByte a := by
  have hout : (!(decide (r.base ≤ a) && decide (a < r.base + r.len))) = true := by
    rcases h with h | h <;> simp <;> omega
  rw [Block.dramByte, Block.clearSpan, cellsGet_filter (fun a => !(decide (r.base ≤ a) && decide (a < r.base + r.len))), if_pos hout,
    Block.dramByte]

theorem bstTestDone_dram {b : Block} {soft beyond after : Nat} (hb : b.bit F.BST_STATUS_BUSY = true) (ht : b.get F.BST_STATUS_TEST = 4) :
    bstTestDone none soft beyond after b
      = (((b.bstEnd 4 after).set F.BST_RESULT_TEST 4).set F.BST_RESULT_RESULT 1).clearSpan
          (((b.bstEnd 4 after).set F.BST_RESULT_TEST 4).set F.BST_RESULT_RESULT 1).bstSpan := by
  rw [bstTestDone, hb, if_neg (by decide)]
  dsimp only
  rw [ht, if_neg (by decide), if_neg (by decide), if_neg (by decide)]
  rfl

theorem bstTestDone_sram {b : Block} {mem addr bit words soft beyond after : Nat} (hb : b.bit F.BST_STATUS_BUSY = true)
    (ht : b.get F.BST_STATUS_TEST = 1) :
    bstTestDone (some (mem, addr, bit, words)) soft beyond after b
      = (((b.bstEnd 1 after).bstFound 1 mem addr bit words).raiseAt E.BST_FAIL noDetail).bstRepairs soft (max 1 beyond) := by
  simp -implicitDefEqProofs [bstTestDone, hb, ht, testSram, instancesBeyond, Block.bstEnd]

theorem bstTestDone_passed (b : Block) (soft beyond after : Nat) (hb : b.bit F.BST_STATUS_BUSY = true) (ht : b.get F.BST_STATUS_TEST = 4) :
    let t := (bstTestDone none soft beyond after b).settle
    t.bit F.BST_STATUS_BUSY = false ∧ t.get F.BST_RESULT_TEST = 4
      ∧ t.get F.BST_RESULT_RESULT = 1 ∧ t.bit F.BST_IRQ_STATUS_DONE = true
      ∧ t.clk = max b.clk (b.bstFrom + min after (b.bstBound 4)) ∧ SameOutside [0x08] b t
      ∧ ∀ a, (a < b.bstSpan.base ∨ b.bstSpan.base + b.bstSpan.len ≤ a) → t.dramByte a = b.dramByte a := by
  obtain ⟨hbusy, hdone, hclk, hdram, -, hspan⟩ := b.bstEnd_spec 4 after
  have hout := b.sameOutside_bstEnd 4 after
  rw [bstTestDone_dram hb ht]
  have hrange : (((b.bstEnd 4 after).set F.BST_RESULT_TEST 4).set F.BST_RESULT_RESULT 1).bstSpan = b.bstSpan := by
    rw [← hspan]
    simp -implicitDefEqProofs (disch := decide) [Block.bstSpan, Block.pair]
  rw [hrange]
  obtain ⟨hregs, hsclk, hsdram⟩ := (((b.bstEnd 4 after).set F.BST_RESULT_TEST 4).set F.BST_RESULT_RESULT 1).settle_clearSpan b.bstSpan
  have hbyte {a : Nat} (h : a < b.bstSpan.base ∨ b.bstSpan.base + b.bstSpan.len ≤ a) :=
    (((b.bstEnd 4 after).set F.BST_RESULT_TEST 4).set F.BST_RESULT_RESULT 1).dramByte_clearSpan h
  have hbit (f : Fld) := Block.get_congr hregs f
  simp -implicitDefEqProofs (disch := decide) only [Block.bit, hbit, sameOutside_congr hregs, hsclk, Block.set_clk, hclk, Block.get_set_self,
    Block.get_set_apart, sameOutside_set]
  refine ⟨hbusy, rfl, rfl, hdone, trivial, hout, fun a ha => ?_⟩
  rw [Block.dramByte, hsdram, ← Block.dramByte, hbyte ha, Block.dramByte, Block.set_dram, Block.set_dram, hdram, Block.dramByte]

theorem bstTestDone_found (b : Block) (mem addr bit words soft beyond after : Nat) (hb : b.bit F.BST_STATUS_BUSY = true)
    (ht : b.get F.BST_STATUS_TEST = 1) (hw : words < 2 ^ 16) :
    let t := (bstTestDone (some (mem, addr, bit, words)) soft beyond after b).settle
    t.bit F.BST_STATUS_BUSY = false ∧ t.get F.BST_RESULT_RESULT = 2 ∧ t.bit F.BST_ERR_FAIL = true ∧ t.get F.BST_FAIL_BIT_COUNT = words
      ∧ SameOutside [0x08, 0x30] b t ∧ SameMem b t := by
  obtain ⟨hbusy, -, -, hdram, hqdr, -⟩ := b.bstEnd_spec 1 after
  have hout := b.sameOutside_bstEnd 1 after
  have hresult := (b.bstEnd 1 after).get_bstFound_result 1 mem addr bit words
  have hcount := (b.bstEnd 1 after).get_bstFound_count 1 mem addr bit hw
  have hfound := (b.bstEnd 1 after).touches_bstFound 1 mem addr bit words
  have hkeep : ((b.bstEnd 1 after).bstFound 1 mem addr bit words).bit F.BST_STATUS_BUSY = false := by
    rw [← hbusy]
    simp -implicitDefEqProofs (disch := decide) [Block.bstFound]
  have hfail := ((b.bstEnd 1 after).bstFound 1 mem addr bit words).bit_raiseAt_self (e := E.BST_FAIL) noDetail rfl rfl rfl rfl (by decide)
  rw [bstTestDone_sram hb ht]
  have herr : E.BST_FAIL.fld = F.BST_ERR_FAIL := rfl
  rw [herr] at hfail
  simp -implicitDefEqProofs (disch := decide) only [Block.bstRepairs, Block.countSat_eq, Block.settle_bit, Block.settle_get, sameOutside_settle,
    sameMem_settle, Block.bit_set_apart, Block.get_set_apart, Block.get_raiseAt_apart, Block.bit_raiseAt_apart, sameOutside_set,
    sameOutside_raiseAt, sameMem_set, sameMem_raiseAt, hkeep, hfail, hresult, hcount, true_and]
  exact ⟨(sameOutside_through (hfound.mono (by decide)).sameOutside).mpr (hout.mono (by decide)),
    (sameMem_of_eq hdram hqdr).trans hfound.sameMem⟩

/-! ### The claim -/

theorem bstStart_logic (c : Block) : (c.bstStart testLogic).settle.bit F.BST_STATUS_BUSY = true
    ∧ (c.bstStart testLogic).settle.get F.BST_STATUS_TEST = 2 := by
  obtain ⟨hbusy, htest, -⟩ := c.bstStart_spec (n := testLogic) (by decide)
  exact ⟨hbusy, htest⟩

theorem settle_raise_BST_BUSY (b : Block) :
    let t := (b.raiseAt E.BST_BUSY noDetail).settle
    t.bit F.BST_ERR_BUSY = true ∧ t.get F.BST_STATUS_TEST = b.get F.BST_STATUS_TEST ∧ SameOutside [0x08, 0x30] b t ∧ SameMem b t := by
  have herr := b.bit_raiseAt_self (e := E.BST_BUSY) noDetail rfl rfl rfl rfl (by decide)
  have hfld : E.BST_BUSY.fld = F.BST_ERR_BUSY := rfl
  rw [hfld] at herr
  simp -implicitDefEqProofs (disch := decide) [herr]

/-- Settles O27: which tests start, what a refused one leaves, and how a test ends. -/
theorem selfTestOnDemand : Obligations.SelfTestOnDemand := by
  unfold Obligations.SelfTestOnDemand
  refine ⟨fun b p v hr hg hb => ⟨fun ht hrole => ?_, fun ht hd => ?_, fun ht hp => ?_⟩, fun b c p v hr hg hb ht hc => ?_,
    fun b p v hr hg hb ht => ?_, fun b soft beyond after hr hb ht => ?_, fun b mem addr bit words soft beyond after hr hb ht hw => ?_⟩
  · exact gives_bstStart hr hg (fun _ => rfl) (by decide) (bstCmd_sram true ht hb hrole)
  · exact gives_bstStart hr hg (fun _ => rfl) (by decide) (bstCmd_qdr true ht hb hd)
  · exact gives_bstStart hr hg (fun _ => rfl) (by decide) (bstCmd_dram true ht hb hp)
  · refine gives_of_writing hr hg (fun _ => rfl) ?_
    rw [bstCmd_logic ht hb hc]
    exact ⟨rfl, bstStart_logic c⟩
  · refine gives_of_writing hr hg (fun _ => rfl) ?_
    rw [bstCmd_busy true ht hb]
    exact settle_raise_BST_BUSY b
  · exact gives_of_done hr (fun _ => rfl) (bstTestDone_passed b soft beyond after hb ht)
  · exact gives_of_done hr (fun _ => rfl) (bstTestDone_found b mem addr bit words soft beyond after hb ht hw)

end Sys2Proof.Machine
end

section
/-!
PROOFS of chapters 00 and 02: the warm reset and the watchdog.
-/

namespace Sys2Proof.Machine

/-! ### What a warm reset makes of the register file (R17, R18) -/

/-- A field's row keeps none of its bits through a warm reset. -/
def Fld.dropped (f : Fld) : Bool := (rowAt (keyAddr f.addr)).all fun r => f.of r.keep == 0

/-- Bits outside the mask of the kept ones are the reset value's. -/
theorem Fld.of_kept {f : Fld} {m : Nat} (old new : Word) (hok : f.ok = true) (h : f.of m = 0) :
    f.of ((old &&& BitVec.ofNat 32 m) ||| (new &&& ~~~(BitVec.ofNat 32 m))).toNat = f.of new.toNat := by
  refine Nat.eq_of_testBit_eq fun i => ?_
  rw [Fld.testBit_of, Fld.testBit_of]
  by_cases hi : i < f.width
  · have hm : m.testBit (f.lo + i) = false := by
      have hbit := congrArg (Nat.testBit · i) h
      simpa [Fld.testBit_of, hi] using hbit
    have h32 : f.lo + i < 32 := by
      simp only [Fld.ok, Bool.and_eq_true, decide_eq_true_eq] at hok
      rw [Fld.width] at hi
      omega
    simp only [BitVec.testBit_toNat, BitVec.getLsbD_or, BitVec.getLsbD_and, BitVec.getLsbD_not, BitVec.getLsbD_ofNat, hm, h32]
    simp
  · simp [hi]

theorem Block.get_setWord_self (b : Block) (f : Fld) (v : Word) : (b.setWord f.addr v).get f = f.of v.toNat := by
  rw [Block.get, Block.word_setWord]

/-- A field whose bits are not kept stays at its reset value. -/
theorem Block.get_keepBits {n old : Block} {f : Fld} (hok : f.ok = true) (hf : f.dropped = true) (hn : n.get f = f.of (keyReset f.addr).toNat) :
    (n.keepBits old).get f = f.of (keyReset f.addr).toNat := by
  unfold Block.keepBits Block.each
  generalize old.regs = l
  induction l generalizing n with
  | nil => exact hn
  | cons c l ih =>
    refine ih ?_
    dsimp only
    split
    · exact hn
    · next r hr =>
      split
      · exact hn
      · by_cases hk : f.addr = c.1
        · rw [← hk] at hr ⊢
          rw [Block.get_setWord_self]
          exact Fld.of_kept _ _ hok (by simpa [Fld.dropped, hr] using hf)
        · rw [Block.get, Block.word_setWord_other _ _ hk, ← Block.get, hn]

theorem Block.keepBits_eq (n old : Block) : n.keepBits old = { n with regs := (n.keepBits old).regs } := by
  have h : ({ n.keepBits old with regs := n.regs } : Block) = n := by
    refine Block.each_keeps (fun x : Block => ({ x with regs := n.regs } : Block)) _ (fun c x => ?_) _ _
    dsimp only
    split
    · rfl
    · split <;> rfl
  calc n.keepBits old = { ({ n.keepBits old with regs := n.regs } : Block) with regs := (n.keepBits old).regs } := rfl
    _ = _ := by rw [h]

/-! ### What the later steps of a warm reset leave -/

/-- What a warm reset has settled with its first step stays. -/
structure Stays (m t : Block) : Prop where
  fuses : t.fuses = m.fuses
  dram : t.dram = m.dram
  cfg : t.cfg = m.cfg
  resetWanted : t.resetWanted = m.resetWanted
  log : t.flt.log = m.flt.log

/-- And SYS's and CFG's registers too. -/
def StaysWith (m t : Block) : Prop := Stays m t ∧ ∀ f : Fld, keyAddr f.addr / 0x10000 ∈ [0x00, 0x02] → t.get f = m.get f

theorem Stays.trans {m t u : Block} (h : Stays m t) (k : Stays t u) : Stays m u :=
  ⟨k.fuses.trans h.fuses, k.dram.trans h.dram, k.cfg.trans h.cfg, k.resetWanted.trans h.resetWanted, k.log.trans h.log⟩

theorem StaysWith.refl (m : Block) : StaysWith m m := ⟨⟨rfl, rfl, rfl, rfl, rfl⟩, fun _ _ => rfl⟩

theorem StaysWith.trans {m t u : Block} (h : StaysWith m t) (k : StaysWith t u) : StaysWith m u :=
  ⟨h.1.trans k.1, fun f hf => (k.2 f hf).trans (h.2 f hf)⟩

theorem stays_set (m : Block) (f : Fld) (v : Nat) : Stays m (m.set f v) := ⟨rfl, rfl, rfl, rfl, rfl⟩

theorem staysWith_setWord (m : Block) {k : Nat} (v : Word) (h : keyAddr k / 0x10000 ∉ [0x00, 0x02]) : StaysWith m (m.setWord k v) :=
  ⟨⟨rfl, rfl, rfl, rfl, rfl⟩, fun f hf => by
    rw [Block.get, Block.word_setWord_other _ _ (by rintro e; rw [e] at hf; exact h hf), Block.get]⟩

theorem staysWith_set (m : Block) {f : Fld} (v : Nat) (h : keyAddr f.addr / 0x10000 ∉ [0x00, 0x02]) : StaysWith m (m.set f v) :=
  staysWith_setWord m _ h

theorem staysWith_each {α : Type} {f : α → Block → Block} (h : ∀ x b, StaysWith b (f x b)) (l : List α) (m : Block) :
    StaysWith m (m.each l f) := by
  unfold Block.each
  induction l generalizing m with
  | nil => exact .refl m
  | cons x l ih => exact (h x m).trans (ih (f x m))

theorem staysWith_keepWords (m old : Block) {l : List Nat} (h : ∀ a ∈ l, keyAddr a / 0x10000 ∉ [0x00, 0x02]) :
    StaysWith m (m.keepWords old l) := by
  unfold Block.keepWords Block.each
  induction l generalizing m with
  | nil => exact .refl m
  | cons a l ih => exact (staysWith_setWord m _ (h a (by simp))).trans (ih _ fun x hx => h x (by simp [hx]))

theorem staysWith_when {m : Block} {f : Block → Block} (c : Bool) (h : StaysWith m (f m)) : StaysWith m (m.when c f) := by
  cases c
  · exact .refl m
  · exact h

theorem Block.raiseAt_log (b : Block) (e : Err) (d : Nat) : (b.raiseAt e d).flt.log = b.flt.log := by
  simp only [Block.raiseAt, Block.submit, Block.acceptEntry]
  split_ifs <;> rfl

theorem staysWith_raiseAt (m : Block) {e : Err} (d : Nat) (hf : keyAddr e.fld.addr / 0x10000 ∉ [0x00, 0x02])
    (hi : keyAddr e.irq.addr / 0x10000 ∉ [0x00, 0x02]) : StaysWith m (m.raiseAt e d) := by
  refine ⟨⟨m.raiseAt_fuses e d, m.raiseAt_dram e d, m.raiseAt_cfg e d, m.raiseAt_resetWanted e d, m.raiseAt_log e d⟩, fun f hwin => ?_⟩
  rw [Block.get, Block.word_raiseAt_other _ _ (by rintro h; rw [h] at hwin; exact hf hwin) (by rintro h; rw [h] at hwin; exact hi hwin)
    (div_ne_of_keyAddr_div_ne fun h => absurd hwin (by rw [h]; decide)), Block.get]

theorem Block.txnNote_eq (m : Block) (txn st : Nat) : m.txnNote txn st = { m with lnk := (m.txnNote txn st).lnk } := by
  unfold Block.txnNote
  dsimp only
  split <;> rfl

theorem staysWith_txnMissed (m : Block) (txn : Nat) : StaysWith m (m.txnMissed txn) := by
  have hnote : StaysWith m (m.txnNote txn 4) := by
    rw [Block.txnNote_eq]
    exact ⟨⟨rfl, rfl, rfl, rfl, rfl⟩, fun _ _ => rfl⟩
  rw [Block.txnMissed, Block.countSat_eq]
  exact (hnote.trans (staysWith_set _ _ (by decide))).trans (staysWith_raiseAt _ _ (by decide) (by decide))

theorem staysWith_installKeys (m : Block) (l : List KeyRec) : StaysWith m (m.installKeys l) := by
  have hkeys (keys store : List (Option SecKey)) : StaysWith m { m with upd := { m.upd with keys := keys, store := store } } :=
    ⟨⟨rfl, rfl, rfl, rfl, rfl⟩, fun _ _ => rfl⟩
  rw [Block.installKeys, Block.holdKeys]
  exact ((((hkeys _ _).trans (staysWith_set _ _ (by decide))).trans (staysWith_set _ _ (by decide))).trans
    (staysWith_set _ _ (by decide))).trans (staysWith_set _ _ (by decide))

/-! ### The warm reset -/

/-- A warm reset up to BOOT_SEL: the kept bits, the feeds' registers and the straps. -/
def Block.warmStraps (n b : Block) : Block := ((n.keepBits b).keepWords b feedRegs).set F.CFG_BOOT_STATUS_BOOT_SEL (b.pins.straps / 4)

/-- A warm reset up to its cause: what an update, a lock and a shutdown keep. -/
def Block.warmKept (n b : Block) : Block :=
  let n := n.when b.updKept (fun n => n.keepWords b keptUpdRegs)
  let n := n.when (b.updState == updLocked) (·.set F.UPD_STATUS_STATE updLocked)
  n.when b.shutdown (fun n => (n.keepWords b [R.THM_COOL]).set F.THM_STATUS_STATE 2)

/-- A warm reset's steps from its cause. -/
def Block.warmCause (n b : Block) (cause : Nat) : Block :=
  ((n.set F.SYS_RESET_CAUSE_CAUSE cause).installKeys []).each b.lostTxns (fun t n => n.txnMissed t)

theorem Block.warmReset_eq (b : Block) (cause : Nat) : ∃ n : Block, b.warmReset cause = ((n.warmStraps b).warmKept b).warmCause b cause
    ∧ n.regs = [] ∧ n.fuses = b.fuses ∧ n.dram = b.dram.filter (fun c => decide (ringTable.len ≤ c.1)) ∧ n.cfg.stages = []
    ∧ n.cfg.part.image = none ∧ n.resetWanted = none ∧ n.flt.log = b.flt.log := ⟨_, rfl, rfl, rfl, rfl, rfl, rfl, rfl, rfl⟩

theorem Block.stays_warmStraps (n b : Block) : Stays n (n.warmStraps b) := by
  have hbits : Stays n (n.keepBits b) := by
    rw [Block.keepBits_eq]
    exact ⟨rfl, rfl, rfl, rfl, rfl⟩
  exact (hbits.trans (staysWith_keepWords _ b (by decide)).1).trans (stays_set _ _ _)

theorem Block.get_warmStraps (n b : Block) {f : Fld} (h : keyAddr f.addr / 0x10000 ∈ [0x00, 0x02])
    (hs : f.apart F.CFG_BOOT_STATUS_BOOT_SEL = true) : (n.warmStraps b).get f = (n.keepBits b).get f := by
  rw [Block.warmStraps, Block.get_set_apart _ _ rfl hs]
  exact (staysWith_keepWords _ b (by decide)).2 f h

theorem Block.staysWith_warmKept (n b : Block) : StaysWith n (n.warmKept b) := by
  have hupd := staysWith_when (f := fun n => n.keepWords b keptUpdRegs) b.updKept (staysWith_keepWords n b (by decide))
  have hlock (m : Block) := staysWith_when (f := (·.set F.UPD_STATUS_STATE updLocked)) (b.updState == updLocked) (staysWith_set m updLocked (by decide))
  have hcool (m : Block) := staysWith_when (f := fun n => (n.keepWords b [R.THM_COOL]).set F.THM_STATUS_STATE 2) b.shutdown
    ((staysWith_keepWords m b (by decide)).trans (staysWith_set _ 2 (by decide)))
  exact (hupd.trans (hlock _)).trans (hcool _)

theorem Block.warmCause_spec (n b : Block) {cause : Nat} (hc : cause < 4) : Stays n (n.warmCause b cause)
    ∧ (n.warmCause b cause).get F.SYS_RESET_CAUSE_CAUSE = cause
    ∧ ∀ f : Fld, keyAddr f.addr / 0x10000 ∈ [0x00, 0x02] → f.apart F.SYS_RESET_CAUSE_CAUSE = true → (n.warmCause b cause).get f = n.get f := by
  have hrest := (staysWith_installKeys (n.set F.SYS_RESET_CAUSE_CAUSE cause) []).trans
    (staysWith_each (fun t n => staysWith_txnMissed n t) b.lostTxns _)
  refine ⟨(stays_set _ _ _).trans hrest.1, ?_, fun f hwin ha => ?_⟩
  · rw [Block.warmCause, hrest.2 _ (by decide), Block.get_set_self _ _ rfl]
    exact Nat.mod_eq_of_lt hc
  · rw [Block.warmCause, hrest.2 f hwin, Block.get_set_apart _ _ rfl ha]

theorem Block.get_of_regs_nil {n : Block} (h : n.regs = []) (f : Fld) : n.get f = f.of (keyReset f.addr).toNat := by
  rw [Block.get, Block.word, h]
  rfl

/-- A warm reset discards stages, partial and every register bit that is not kept, and the ring table; the fuses, the fault log
and the rest of DRAM stay. -/
theorem Block.warmReset_spec (b : Block) {cause : Nat} (hc : cause < 4) :
    (b.warmReset cause).get F.SYS_RESET_CAUSE_CAUSE = cause ∧ (b.warmReset cause).cfg.stages = [] ∧ (b.warmReset cause).cfg.part.image = none
      ∧ (b.warmReset cause).resetWanted = none ∧ (b.warmReset cause).flt.log = b.flt.log ∧ (b.warmReset cause).fuses = b.fuses
      ∧ (b.warmReset cause).dram = b.dram.filter (fun c => decide (ringTable.len ≤ c.1))
      ∧ ∀ f : Fld, f.ok = true → f.dropped = true → keyAddr f.addr / 0x10000 ∈ [0x00, 0x02] → f.apart F.SYS_RESET_CAUSE_CAUSE = true →
        f.apart F.CFG_BOOT_STATUS_BOOT_SEL = true → (b.warmReset cause).get f = f.of (keyReset f.addr).toNat := by
  obtain ⟨n, he, hregs, hfuses, hdram, hstages, hpart, hwanted, hlog⟩ := b.warmReset_eq cause
  have hstraps := n.stays_warmStraps b
  have hkept := (n.warmStraps b).staysWith_warmKept b
  obtain ⟨hcstays, hcause, hcget⟩ := ((n.warmStraps b).warmKept b).warmCause_spec b hc
  have hall := (hstraps.trans hkept.1).trans hcstays
  rw [he]
  refine ⟨hcause, ?_, ?_, ?_, ?_, ?_, ?_, fun f hok hd hwin ha hb => ?_⟩
  · rw [hall.cfg, hstages]
  · rw [hall.cfg, hpart]
  · rw [hall.resetWanted, hwanted]
  · rw [hall.log, hlog]
  · rw [hall.fuses, hfuses]
  · rw [hall.dram, hdram]
  · rw [hcget f hwin ha, hkept.2 f hwin, n.get_warmStraps b hwin hb]
    exact Block.get_keepBits hok hd (Block.get_of_regs_nil hregs f)

theorem Block.get_warmReset (b : Block) {cause : Nat} (hc : cause < 4) (f : Fld) (hok : f.ok = true) (hd : f.dropped = true)
    (hwin : keyAddr f.addr / 0x10000 ∈ [0x00, 0x02]) (ha : f.apart F.SYS_RESET_CAUSE_CAUSE = true)
    (hb : f.apart F.CFG_BOOT_STATUS_BOOT_SEL = true) : (b.warmReset cause).get f = f.of (keyReset f.addr).toNat := by
  obtain ⟨-, -, -, -, -, -, -, hget⟩ := b.warmReset_spec hc
  exact hget f hok hd hwin ha hb

theorem Block.stage_warmReset (b : Block) {cause : Nat} (hc : cause < 4) : (b.warmReset cause).stage = 0 :=
  b.get_warmReset hc F.CFG_BOOT_STATUS_STAGE rfl (by decide +kernel) (by decide) rfl rfl

theorem Block.role_warmReset (b : Block) {cause : Nat} (hc : cause < 4) : (b.warmReset cause).role = 0 :=
  b.get_warmReset hc F.SYS_ROLE_ROLE rfl (by decide +kernel) (by decide) rfl rfl

theorem Block.wdtEnable_warmReset (b : Block) {cause : Nat} (hc : cause < 4) : (b.warmReset cause).bit F.SYS_WDT_CTRL_EN = false := by
  have h := b.get_warmReset hc F.SYS_WDT_CTRL_EN rfl (by decide +kernel) (by decide) rfl rfl
  rw [Block.bit, h]
  decide +kernel

theorem dramByte_filter {b t : Block} (h : t.dram = b.dram.filter (fun c => decide (ringTable.len ≤ c.1))) (a : Nat) :
    t.dramByte a = if a < 2 ^ 24 then 0 else b.dramByte a := by
  rw [Block.dramByte, h, cellsGet_filter (fun a => decide (ringTable.len ≤ a)), Block.dramByte]
  have hlen : ringTable.len = 2 ^ 24 := rfl
  rw [hlen]
  by_cases ha : a < 2 ^ 24
  · rw [if_pos ha, if_neg (by simpa using ha)]
  · rw [if_neg ha, if_pos (by simpa using ha)]

/-! ### The claims -/

/-- The request of a warm reset. -/
theorem resetCmd_warm {b : Block} {v : Nat} (ha : b.asleep = false) (hk : F.SYS_RESET_CMD_KEY.of v = 0x5752) (hw : F.SYS_RESET_CMD_WARM.of v = 1) :
    resetCmd v b = b.wantReset 2 := by
  rw [resetCmd, if_pos ⟨hk, hw⟩, ha]
  rfl

theorem warmReset_wanted {b : Block} {after cause : Nat} (h : b.resetWanted = some cause) :
    warmReset after b = (b.elapse (min after 2000)).warmReset cause := by
  rw [warmReset, h]

@[simp] theorem Block.settle_role (b : Block) : b.settle.role = b.role := rfl

theorem Block.settle_wantReset (b : Block) (cause : Nat) : (b.wantReset cause).settle.resetWanted = some (b.resetWanted.getD cause)
    ∧ SameWords [] b (b.wantReset cause).settle ∧ SameMem b (b.wantReset cause).settle := ⟨rfl, .refl [] b, .refl b⟩

/-- Settles O9: the request is noted, and the reset keeps what `Block.warmReset_spec` says. -/
theorem warmReset_holds : Obligations.WarmReset := by
  unfold Obligations.WarmReset
  refine ⟨fun b p v hr hg ha hk hw => gives_of_writing hr hg (fun _ => rfl) ?_, fun b after cause hr hwant hc =>
    gives_of_done (t := warmReset after b) hr (fun _ => rfl) ?_⟩
  · rw [resetCmd_warm ha hk hw]
    exact b.settle_wantReset 2
  · rw [warmReset_wanted hwant]
    obtain ⟨hcause, hstages, hpart, hwanted, hlog, hfuses, hdram, -⟩ := (b.elapse (min after 2000)).warmReset_spec hc
    have hstage := (b.elapse (min after 2000)).stage_warmReset hc
    have hrole := (b.elapse (min after 2000)).role_warmReset hc
    have hbyte := dramByte_filter hdram
    simp -implicitDefEqProofs only [Block.settle_stage, Block.settle_role, Block.settle_get, Block.settle_cfg, Block.settle_resetWanted,
      Block.settle_flt, Block.settle_fuses, Block.dramByte, Block.settle_dram]
    refine ⟨hstage, hrole, hcause, hstages, hpart, hwanted, hlog, hfuses, fun a ha => ?_, fun a ha => ?_⟩
    · exact (hbyte a).trans (if_pos ha)
    · exact (hbyte a).trans (if_neg (by omega))

/-- The watchdog's count starts from TIMEOUT_MS, at least 10 ms. -/
theorem Block.settle_wdtRestart (b : Block) : b.wdtRestart.settle.regs = b.regs ∧ b.wdtRestart.settle.wdtStart = b.clk
    ∧ b.wdtRestart.settle.wdtMs = max 10 (b.get F.SYS_WDT_CTRL_TIMEOUT_MS) ∧ b.wdtRestart.settle.wdtWarned = false
    ∧ b.wdtRestart.settle.dram = b.dram ∧ b.wdtRestart.settle.qdr = b.qdr := ⟨rfl, rfl, rfl, rfl, rfl, rfl⟩

/-- SYS_WDT_CTRL with its new values. -/
def Block.wdtSet (b : Block) (v : Nat) : Block :=
  (b.set F.SYS_WDT_CTRL_EN (F.SYS_WDT_CTRL_EN.of v)).set F.SYS_WDT_CTRL_TIMEOUT_MS (F.SYS_WDT_CTRL_TIMEOUT_MS.of v)

theorem Fld.of_lt (f : Fld) (v : Nat) : f.of v < 2 ^ f.width := Nat.mod_lt _ (Nat.two_pow_pos _)

theorem Block.wdtSet_spec (b : Block) (v : Nat) (h : F.SYS_WDT_CTRL_EN.of v = 1) : (b.wdtSet v).bit F.SYS_WDT_CTRL_EN = true
    ∧ (b.wdtSet v).get F.SYS_WDT_CTRL_TIMEOUT_MS = F.SYS_WDT_CTRL_TIMEOUT_MS.of v ∧ SameWords [R.SYS_WDT_CTRL] b (b.wdtSet v)
    ∧ (b.wdtSet v).clk = b.clk ∧ (b.wdtSet v).dram = b.dram ∧ (b.wdtSet v).qdr = b.qdr := by
  have hfits := Nat.mod_eq_of_lt (F.SYS_WDT_CTRL_TIMEOUT_MS.of_lt v)
  simp -implicitDefEqProofs (disch := decide) [Block.wdtSet, h, hfits]

theorem wdtCtrl_enable {b : Block} {v : Nat} (hb : b.bit F.SYS_WDT_CTRL_EN = false) (h : F.SYS_WDT_CTRL_EN.of v = 1) :
    wdtCtrl v b = (b.wdtSet v).wdtRestart := by
  have hen := (b.wdtSet_spec v h).1
  rw [wdtCtrl, hb, ← Block.wdtSet]
  simp only [hen, Bool.not_false, Bool.and_self, Block.when_true]

theorem wdtKick_key {b : Block} {v : Nat} (h : F.SYS_WDT_KICK_KEY.of v = 0xA5) : wdtKick v b = b.wdtRestart := by
  rw [wdtKick, if_pos h]

/-- The warning at time `n`. -/
def Block.warnAt (b : Block) (n : Nat) : Block := ({ b.untilClk n with wdtWarned := true } : Block).set F.SYS_IRQ_STATUS_WDT_WARN 1

theorem Block.settle_warnAt (b : Block) (n : Nat) :
    let t := (b.warnAt n).settle
    t.get F.SYS_IRQ_STATUS_WDT_WARN = 1 ∧ t.clk = max b.clk n ∧ SameWords [R.SYS_IRQ_STATUS] b t ∧ SameMem b t := by
  simp -implicitDefEqProofs (disch := decide) [Block.warnAt, SameMem, Block.dramByte, Block.qdrByte]

theorem wdtWarn_due {b : Block} (hc : b.wdtCounts = true) (hw : b.wdtWarned = false) : wdtWarn b = b.warnAt (b.wdtStart + b.wdtMs * 500000) := by
  rw [wdtWarn, hc, hw]
  rfl

theorem Block.settle_warmReset_expiry (m : Block) :
    let t := (m.warmReset 3).settle
    t.get F.SYS_RESET_CAUSE_CAUSE = 3 ∧ t.stage = 0 ∧ t.role = 0 ∧ t.bit F.SYS_WDT_CTRL_EN = false ∧ t.flt.log = m.flt.log := by
  obtain ⟨hcause, -, -, -, hlog, -⟩ := m.warmReset_spec (cause := 3) (by decide)
  have hstage := m.stage_warmReset (cause := 3) (by decide)
  have hrole := m.role_warmReset (cause := 3) (by decide)
  have hen := m.wdtEnable_warmReset (cause := 3) (by decide)
  simp -implicitDefEqProofs only [Block.settle_stage, Block.settle_role, Block.settle_get, Block.settle_bit, Block.settle_flt]
  exact ⟨hcause, hstage, hrole, hen, hlog⟩

/-- Settles O10: the count's start, its half and its end. -/
theorem watchdog : Obligations.Watchdog := by
  unfold Obligations.Watchdog
  refine ⟨fun b p v hr hg hb hen => ?_, fun b p v hr hg hk => ?_, fun b hr hc hw => ?_, fun b hr hc => ?_⟩
  · refine gives_of_writing hr hg (fun _ => rfl) ?_
    rw [wdtCtrl_enable hb hen]
    obtain ⟨hon, hms, hsame, hclk, hmem⟩ := b.wdtSet_spec v.toNat hen
    obtain ⟨hregs, hstart, hcount, -, hdram, hqdr⟩ := (b.wdtSet v.toNat).settle_wdtRestart
    rw [hclk] at hstart
    rw [hmem.1] at hdram
    rw [hmem.2] at hqdr
    refine ⟨?_, hstart, hcount.trans (by rw [hms]), (Block.get_congr hregs _).trans hms, (sameWords_congr hregs).mpr hsame, sameMem_of_eq hdram hqdr⟩
    rw [Block.bit, Block.get_congr hregs]
    exact hon
  · refine gives_of_writing hr hg (fun _ => rfl) ?_
    rw [wdtKick_key hk]
    obtain ⟨hregs, hstart, hcount, hwarned, hdram, hqdr⟩ := b.settle_wdtRestart
    exact ⟨hstart, hcount, hwarned, (sameWords_congr hregs).mpr (.refl [] b), sameMem_of_eq hdram hqdr⟩
  · refine gives_of_done (t := wdtWarn b) hr (fun _ => rfl) ?_
    rw [wdtWarn_due hc hw]
    exact b.settle_warnAt (b.wdtStart + b.wdtMs * 500000)
  · refine gives_of_done (t := wdtExpiry b) hr (fun _ => rfl) ?_
    rw [wdtExpiry, if_pos hc]
    have h := (b.untilClk (b.wdtStart + b.wdtMs * 1000000)).settle_warmReset_expiry
    rw [Block.untilClk_flt] at h
    exact h

end Sys2Proof.Machine
end

section
/-!
PROOFS of chapter 15: calibration cycles and the calibration store.
-/

namespace Sys2Proof.Machine

/-! ### Cycles (R417) -/

theorem settle_calStart {b : Block} (hm : b.calMayRun = true) (hc : b.bit F.CAL_STATUS_CYCLE = false) :
    let t := b.calStart.settle
    t.bit F.CAL_STATUS_CYCLE = true ∧ t.cal.due = List.range 198 ∧ t.cal.lastStart = some b.clk ∧ t.clk = b.clk
      ∧ SameWords [R.CAL_STATUS] b t ∧ SameMem b t := by
  simp -implicitDefEqProofs (disch := decide) [Block.calStart, hm, hc, SameMem, Block.dramByte, Block.qdrByte]

theorem Block.calStart_refused {b : Block} (hm : b.calMayRun = false) : b.calStart = b := by
  rw [Block.calStart, hm]
  rfl

theorem calCmd_cycle {b : Block} {v : Nat} (hc : F.CAL_CMD_CYCLE.of v = 1) (hs : F.CAL_CMD_SAVE.of v = 0) (ha : F.CAL_CMD_ABORT.of v = 0) :
    calCmd v b = b.calStart := by
  simp [calCmd, hc, hs, ha]

theorem calCmd_save {b : Block} {v : Nat} (hc : F.CAL_CMD_CYCLE.of v = 0) (hs : F.CAL_CMD_SAVE.of v = 1) (ha : F.CAL_CMD_ABORT.of v = 0) :
    calCmd v b = b.calSave := by
  simp [calCmd, hc, hs, ha]

theorem calCmd_abort {b : Block} {v : Nat} (hc : F.CAL_CMD_CYCLE.of v = 0) (hs : F.CAL_CMD_SAVE.of v = 0) (ha : F.CAL_CMD_ABORT.of v = 1)
    (hb : b.bit F.CAL_STATUS_CYCLE = true) : calCmd v b = b.calAbandon.calEnd := by
  simp [calCmd, hc, hs, ha, hb]

theorem calInterval_due {b : Block} {start : Nat} (hs : b.cal.lastStart = some start) (hi : b.get F.CAL_CTRL_INTERVAL_S ≠ 0) :
    calInterval b = (b.untilClk (start + b.get F.CAL_CTRL_INTERVAL_S * 1000000000)).calStart := by
  simp only [calInterval, hs, hi, if_false]

/-- A cycle that the interval starts. -/
theorem settle_untilClk_calStart {b : Block} (n : Nat) (hm : b.calMayRun = true) (hc : b.bit F.CAL_STATUS_CYCLE = false) :
    let t := (b.untilClk n).calStart.settle
    t.bit F.CAL_STATUS_CYCLE = true ∧ t.cal.due = List.range 198 ∧ t.cal.lastStart = some t.clk ∧ t.clk = max b.clk n
      ∧ SameWords [R.CAL_STATUS] b t ∧ SameMem b t := by
  have hm' : (b.untilClk n).calMayRun = true := hm
  have hc' : (b.untilClk n).bit F.CAL_STATUS_CYCLE = false := hc
  obtain ⟨hcycle, hdue, hlast, hclk, hsame, hmem⟩ := settle_calStart hm' hc'
  exact ⟨hcycle, hdue, hlast.trans (by rw [hclk]), hclk.trans (b.untilClk_clk n), hsame, hmem⟩

/-- An abandoned step leaves CAL's registers and its step changed. -/
theorem Block.calAbandon_spec (b : Block) : SameOutside [0x05] b b.calAbandon ∧ SameMem b b.calAbandon := by
  unfold Block.calAbandon
  split
  · simp
  · simp -implicitDefEqProofs (disch := decide) [SameMem, Block.dramByte, Block.qdrByte]

theorem Block.settle_calEnd (c : Block) :
    let t := c.calEnd.settle
    t.bit F.CAL_STATUS_CYCLE = false ∧ t.get F.CAL_STATUS_TARGET = 0xFF ∧ t.cal.due = []
      ∧ t.cal.step = none ∧ t.bit F.CAL_IRQ_STATUS_CYCLE_DONE = true ∧ SameOutside [0x05] c t ∧ SameMem c t := by
  simp -implicitDefEqProofs (disch := decide) [Block.calEnd, SameMem, Block.dramByte, Block.qdrByte]
  rfl

/-- Settles O38: what a start and an abort leave. -/
theorem calibrationCycles : Obligations.CalibrationCycles := by
  unfold Obligations.CalibrationCycles
  refine ⟨fun b p v hr hg hc hs ha hm hb => gives_of_writing hr hg (fun _ => rfl) ?_,
    fun b p v hr hg hc hs ha hm => gives_of_writing hr hg (fun _ => rfl) ?_,
    fun b start hr hs hi hm hb => gives_of_done (t := calInterval b) hr (fun _ => rfl) ?_,
    fun b p v hr hg hc hs ha hb => gives_of_writing hr hg (fun _ => rfl) ?_⟩
  · rw [calCmd_cycle hc hs ha]
    obtain ⟨hcycle, hdue, hlast, -, hsame, hmem⟩ := settle_calStart hm hb
    exact ⟨hcycle, hdue, hlast, hsame, hmem⟩
  · rw [calCmd_cycle hc hs ha, Block.calStart_refused hm]
    exact ⟨b.settle_cal, .refl [] b, .refl b⟩
  · rw [calInterval_due hs hi]
    exact settle_untilClk_calStart _ hm hb
  · rw [calCmd_abort hc hs ha hb]
    obtain ⟨hcycle, htarget, hdue, hstep, hirq, hout, hmem⟩ := b.calAbandon.settle_calEnd
    obtain ⟨hout', hmem'⟩ := b.calAbandon_spec
    exact ⟨hcycle, htarget, hdue, hstep, hirq, hout'.trans hout, hmem'.trans hmem⟩

/-! ### The store (R421, R423) -/

theorem settle_calSave {b : Block} (h : b.cal.saving = none) :
    let t := b.calSave.settle
    t.cal.saving = some (1 - b.get F.CAL_STORE_STATUS_IN_USE, b.calImage (b.cal.seq + 1))
      ∧ t.cal.saveFrom = b.clk ∧ t.cal.copies = b.cal.copies.set (1 - b.get F.CAL_STORE_STATUS_IN_USE)
          { b.calCopy (1 - b.get F.CAL_STORE_STATUS_IN_USE) with ok := false }
      ∧ SameWords [R.CAL_STORE_STATUS] b t ∧ SameMem b t := by
  have hword (k : Nat) : (if k = 0 then F.CAL_STORE_STATUS_COPY0_VALID else F.CAL_STORE_STATUS_COPY1_VALID).addr = R.CAL_STORE_STATUS := by
    split <;> rfl
  simp -implicitDefEqProofs (disch := simp [hword]) [Block.calSave, h, Block.setCopyValid, SameMem, Block.dramByte, Block.qdrByte]

/-- What the end of a save leaves before its outcome. -/
def Block.calSaved (b : Block) (ok : Bool) (k : Nat) (c : CalCopy) (n : Nat) : Block :=
  let b := b.untilClk n
  ({ b with cal := { b.cal with
      saving := none, copies := b.cal.copies.set k { c with ok := ok }, lastSave := some b.clk } } : Block).setCopyValid k ok

theorem Block.calSaved_spec (b : Block) (ok : Bool) (k : Nat) (c : CalCopy) (n : Nat) :
    (b.calSaved ok k c n).cal.saving = none ∧ (b.calSaved ok k c n).cal.copies = b.cal.copies.set k { c with ok := ok }
      ∧ (b.calSaved ok k c n).clk = max b.clk n ∧ SameOutside [0x05] b (b.calSaved ok k c n) ∧ SameMem b (b.calSaved ok k c n)
      ∧ (b.calSaved ok k c n).get F.CAL_STORE_STATUS_IN_USE = b.get F.CAL_STORE_STATUS_IN_USE := by
  unfold Block.calSaved Block.setCopyValid
  split <;> simp -implicitDefEqProofs (disch := decide) [SameMem, Block.dramByte, Block.qdrByte]

theorem calSaveDone_passed {b : Block} {k : Nat} {c : CalCopy} (after : Nat) (h : b.cal.saving = some (k, c)) :
    calSaveDone true after b = ((((({ b.calSaved true k c (b.cal.saveFrom + min after 400000000) with
      cal := { (b.calSaved true k c (b.cal.saveFrom + min after 400000000)).cal with seq := c.seq } } : Block).set
      F.CAL_STORE_STATUS_IN_USE k).set F.CAL_STORE_SEQ_SEQ c.seq).countSat (F.CAL_CNT_Ei 3) 1).irq F.CAL_IRQ_STATUS_SAVED) := by
  rw [calSaveDone, h]
  rfl

theorem calSaveDone_failed {b : Block} {k : Nat} {c : CalCopy} (after : Nat) (h : b.cal.saving = some (k, c)) :
    calSaveDone false after b = (b.calSaved false k c (b.cal.saveFrom + min after 400000000)).raiseAt E.CAL_SAVE_FAIL noDetail := by
  rw [calSaveDone, h]
  rfl

/-- A copy in use with its sequence number. -/
theorem Block.settle_calUse (b : Block) {k seq : Nat} (hk : k < 2) (hs : seq < 2 ^ 32) :
    let t := ((((({ b with cal := { b.cal with seq := seq } } : Block).set
      F.CAL_STORE_STATUS_IN_USE k).set F.CAL_STORE_SEQ_SEQ seq).countSat (F.CAL_CNT_Ei 3) 1).irq F.CAL_IRQ_STATUS_SAVED).settle
    t.cal.copies = b.cal.copies ∧ t.cal.saving = b.cal.saving ∧ t.get F.CAL_STORE_STATUS_IN_USE = k ∧ t.get F.CAL_STORE_SEQ_SEQ = seq
      ∧ t.bit F.CAL_IRQ_STATUS_SAVED = true ∧ t.clk = b.clk ∧ SameOutside [0x05] b t ∧ SameMem b t := by
  have hfk : k % 2 ^ F.CAL_STORE_STATUS_IN_USE.width = k := Nat.mod_eq_of_lt hk
  have hfs : seq % 2 ^ F.CAL_STORE_SEQ_SEQ.width = seq := Nat.mod_eq_of_lt hs
  simp -implicitDefEqProofs (disch := decide) [hfk, hfs, SameMem, Block.dramByte, Block.qdrByte]

theorem Block.settle_calFail (b : Block) :
    let t := (b.raiseAt E.CAL_SAVE_FAIL noDetail).settle
    t.cal = b.cal ∧ t.get F.CAL_STORE_STATUS_IN_USE = b.get F.CAL_STORE_STATUS_IN_USE ∧ t.bit F.CAL_ERR_SAVE_FAIL = true
      ∧ SameOutside [0x05, 0x30] b t ∧ SameMem b t := by
  have herr := b.bit_raiseAt_self (e := E.CAL_SAVE_FAIL) noDetail rfl rfl rfl rfl (by decide)
  have hfld : E.CAL_SAVE_FAIL.fld = F.CAL_ERR_SAVE_FAIL := rfl
  rw [hfld] at herr
  simp -implicitDefEqProofs (disch := decide) [herr]

/-- Settles O40: what a save's begin and its two outcomes leave. -/
theorem calibrationStore : Obligations.CalibrationStore := by
  unfold Obligations.CalibrationStore
  refine ⟨fun b p v hr hg hc hs ha hn => gives_of_writing hr hg (fun _ => rfl) ?_,
    fun b k after c hr hs hk _ hseq => gives_of_done (t := calSaveDone true after b) hr (fun _ => rfl) ?_,
    fun b k after c hr hs hk => gives_of_done (t := calSaveDone false after b) hr (fun _ => rfl) ?_⟩
  · rw [calCmd_save hc hs ha]
    exact settle_calSave hn
  · rw [calSaveDone_passed after hs]
    obtain ⟨hsaving, hcopies, hclk, hout, hmem, -⟩ := b.calSaved_spec true k c (b.cal.saveFrom + min after 400000000)
    obtain ⟨hcopies', hsaving', huse, hnumber, hirq, hclk', hout', hmem'⟩ :=
      (b.calSaved true k c (b.cal.saveFrom + min after 400000000)).settle_calUse hk hseq
    exact ⟨hcopies'.trans hcopies, hsaving'.trans hsaving, huse, hnumber, hirq, hclk'.trans hclk, hout.trans hout', hmem.trans hmem'⟩
  · rw [calSaveDone_failed after hs]
    obtain ⟨hsaving, hcopies, -, hout, hmem, hinUse⟩ := b.calSaved_spec false k c (b.cal.saveFrom + min after 400000000)
    obtain ⟨hcal, huse, herr, hout', hmem'⟩ := (b.calSaved false k c (b.cal.saveFrom + min after 400000000)).settle_calFail
    exact ⟨by rw [hcal, hcopies], by rw [hcal, hsaving], huse.trans hinUse, herr, (hout.mono (by decide)).trans hout', hmem.trans hmem'⟩

end Sys2Proof.Machine
end

section
/-!
PROOFS of chapter 16: power requests.
-/

namespace Sys2Proof.Machine

/-- PM_REQ stays within reach in every power state. -/
theorem Block.gated_PM_REQ (b : Block) : b.gated R.PM_REQ = false := by
  have hblk : R.PM_REQ / 0x10000 = 0x06 := rfl
  simp [Block.gated, Block.powered, hblk]

/-- A request that is neither in force nor in transition of a module with a role that is awake waits for its frame, if it is for a lit
state or names one. -/
theorem pmReq_pends {b : Block} {st : Nat} {w : Bool} (hl : b.pmState = pmActive ∨ b.pmState = pmDim) (hst : b.pmState ≠ st) (hr : b.role ≠ 0)
    (hw : st = pmActive ∨ st = pmDim ∨ w = true ∨ b.refuser false = none) : pmReq st w b = b.pend st w := by
  have hstate : b.pmState ≠ pmEntering ∧ b.pmState ≠ pmWaking ∧ b.asleep = false := by
    rw [Block.asleep]
    rcases hl with h | h <;> rw [h] <;> decide
  obtain ⟨he, hk, ha⟩ := hstate
  simp only [pmReq, hst, he, hk, ha, hr, or_self, if_false, Bool.false_eq_true]
  split
  · rfl
  · next hlit =>
    rcases hw with h | h | h | h
    · simp [h] at hlit
    · simp [h] at hlit
    · simp [h] at hlit
    · rw [h]

theorem settle_pend (b : Block) {st : Nat} (w : Bool) (hst : st < 8) :
    let t := (b.pend st w).settle
    t.get F.PM_STATUS_PENDING = st ∧ t.pmState = b.pmState
      ∧ t.pm.reqWfn = (if w then some (b.pair F.PM_REQ_WFN_LO_WFN F.PM_REQ_WFN_HI_WFN) else none) ∧ SameWords [R.PM_STATUS] b t ∧ SameMem b t := by
  have hfits : st % 2 ^ F.PM_STATUS_PENDING.width = st := Nat.mod_eq_of_lt hst
  simp -implicitDefEqProofs (disch := decide) [Block.pend, Block.pmState, hfits, SameMem, Block.dramByte, Block.qdrByte]

/-- Without a role a request for DIM acts at once. -/
theorem pmReq_dim_now {b : Block} (w : Bool) (hs : b.pmState = pmActive) (hr : b.role = 0) : pmReq pmDim w b = b.setPmState pmDim := by
  have ha : b.asleep = false := by
    rw [Block.asleep, hs]
    rfl
  simp [pmReq, hs, ha, hr, pmActive, pmDim, pmEntering, pmWaking]

/-- The watchdog's pause changes none of the registers and no memory. -/
theorem Block.wdtPause_spec (b : Block) (st : Nat) : (b.wdtPause st).regs = b.regs ∧ (b.wdtPause st).dram = b.dram ∧ (b.wdtPause st).qdr = b.qdr := by
  unfold Block.wdtPause
  split
  · split <;> exact ⟨rfl, rfl, rfl⟩
  · exact ⟨rfl, rfl, rfl⟩

theorem Block.setPmState_eq {b : Block} {st : Nat} (h : b.pmState ≠ st) :
    b.setPmState st = ((b.set F.PM_STATUS_STATE st).set F.PM_IRQ_STATUS_STATE_CHANGE 1).wdtPause st := by
  rw [Block.setPmState, if_neg h, Block.irq_eq]

theorem settle_setPmState {b : Block} {st : Nat} (h : b.pmState ≠ st) (hst : st < 8) :
    let t := (b.setPmState st).settle
    t.pmState = st ∧ t.bit F.PM_IRQ_STATUS_STATE_CHANGE = true ∧ SameOutside [0x06] b t ∧ SameMem b t := by
  rw [Block.setPmState_eq h]
  obtain ⟨hregs, hdram, hqdr⟩ := ((b.set F.PM_STATUS_STATE st).set F.PM_IRQ_STATUS_STATE_CHANGE 1).wdtPause_spec st
  have hfits : st % 2 ^ F.PM_STATUS_STATE.width = st := Nat.mod_eq_of_lt hst
  simp -implicitDefEqProofs (disch := decide) only [Block.pmState, Block.bit, Block.settle_get, sameOutside_settle, sameMem_settle,
    Block.get_congr hregs, sameOutside_congr hregs, sameMem_congr hdram hqdr, Block.get_set_self, Block.get_set_apart, sameOutside_set,
    sameMem_set, hfits, SameOutside.refl, SameMem.refl]
  exact ⟨trivial, by decide, trivial, trivial⟩

/-- A refused request of a lit module with a role. -/
theorem pmReq_refused {b : Block} {st blk reason : Nat} (hl : b.pmState = pmActive ∨ b.pmState = pmDim) (hst : st = pmOff) (hr : b.role ≠ 0)
    (hf : b.refuser false = some (blk, reason)) : pmReq st false b = b.refuse st blk reason false := by
  have hstate : b.pmState ≠ pmOff ∧ b.pmState ≠ pmEntering ∧ b.pmState ≠ pmWaking ∧ b.asleep = false := by
    rw [Block.asleep]
    rcases hl with h | h <;> rw [h] <;> decide
  obtain ⟨ho, he, hk, ha⟩ := hstate
  have hlit : (pmOff == pmActive || pmOff == pmDim || false) = false := rfl
  subst hst
  simp only [pmReq, ho, he, hk, ha, hr, hf, hlit, or_self, if_false, Bool.false_eq_true]

/-- The registers of a refusal. -/
def Block.refusal (b : Block) (st blk reason : Nat) : Block :=
  ((((b.set F.PM_REFUSE_COUNT_COUNT (b.get F.PM_REFUSE_COUNT_COUNT + 1)).set F.PM_LAST_REFUSER_STATE st).set F.PM_LAST_REFUSER_ABORT 0).set
    F.PM_LAST_REFUSER_REASON reason).set F.PM_LAST_REFUSER_BLOCK blk

theorem Block.refuse_eq (b : Block) (st blk reason : Nat) : b.refuse st blk reason false =
    { ((b.refusal st blk reason).raiseAt E.PM_REFUSED noDetail).set F.PM_STATUS_PENDING 7 with
      pm := { b.pm with reqWfn := none, bound := none, entering := none, wakes := 0, after := none } } := by
  unfold Block.refuse
  simp -implicitDefEqProofs only [Block.refusal, Bool.false_and, Block.when_false, Bool.false_eq_true, if_false, false_and, Block.raise_eq,
    Block.count_eq, Block.setBit_eq]
  split <;> simp -implicitDefEqProofs only [Block.set_pm, Block.raiseAt_pm]

theorem Block.refusal_spec (b : Block) {blk reason : Nat} (hb : blk < 256) (hr : reason < 256) :
    (b.refusal pmOff blk reason).get F.PM_LAST_REFUSER_BLOCK = blk ∧ (b.refusal pmOff blk reason).get F.PM_LAST_REFUSER_REASON = reason
      ∧ (b.refusal pmOff blk reason).get F.PM_LAST_REFUSER_STATE = pmOff ∧ (b.refusal pmOff blk reason).bit F.PM_LAST_REFUSER_ABORT = false
      ∧ (b.refusal pmOff blk reason).get F.PM_STATUS_STATE = b.get F.PM_STATUS_STATE
      ∧ SameOutside [0x06, 0x30] b (b.refusal pmOff blk reason) ∧ SameMem b (b.refusal pmOff blk reason) := by
  have hfb : blk % 2 ^ F.PM_LAST_REFUSER_BLOCK.width = blk := Nat.mod_eq_of_lt hb
  have hfr : reason % 2 ^ F.PM_LAST_REFUSER_REASON.width = reason := Nat.mod_eq_of_lt hr
  have hfo : pmOff % 2 ^ F.PM_LAST_REFUSER_STATE.width = pmOff := by decide
  simp -implicitDefEqProofs (disch := decide) [Block.refusal, hfb, hfr, hfo]

/-- A refusal's error and PENDING, once settled. -/
theorem Block.settle_refused (c : Block) (p : Pm) :
    let t := ({ (c.raiseAt E.PM_REFUSED noDetail).set F.PM_STATUS_PENDING 7 with pm := p } : Block).settle
    t.regs = ((c.raiseAt E.PM_REFUSED noDetail).set F.PM_STATUS_PENDING 7).regs
      ∧ t.dram = (c.raiseAt E.PM_REFUSED noDetail).dram ∧ t.qdr = (c.raiseAt E.PM_REFUSED noDetail).qdr := ⟨rfl, rfl, rfl⟩

theorem settle_refuse (b : Block) {blk reason : Nat} (hb : blk < 256) (hr : reason < 256) :
    let t := (b.refuse pmOff blk reason false).settle
    t.pmState = b.pmState ∧ t.bit F.PM_ERR_REFUSED = true ∧ t.get F.PM_LAST_REFUSER_BLOCK = blk
      ∧ t.get F.PM_LAST_REFUSER_REASON = reason ∧ t.get F.PM_LAST_REFUSER_STATE = pmOff ∧ t.bit F.PM_LAST_REFUSER_ABORT = false
      ∧ t.get F.PM_STATUS_PENDING = 7 ∧ SameOutside [0x06, 0x30] b t ∧ SameMem b t := by
  obtain ⟨hblk, hreason, hstate, habort, hnow, hout, hmem⟩ := b.refusal_spec hb hr
  rw [Block.refuse_eq]
  obtain ⟨hregs, hdram, hqdr⟩ := (b.refusal pmOff blk reason).settle_refused
    { b.pm with reqWfn := none, bound := none, entering := none, wakes := 0, after := none }
  have herr := (b.refusal pmOff blk reason).bit_raiseAt_self (e := E.PM_REFUSED) noDetail rfl rfl rfl rfl (by decide)
  have hfld : E.PM_REFUSED.fld = F.PM_ERR_REFUSED := rfl
  rw [hfld, Block.bit] at herr
  rw [Block.bit] at habort
  simp -implicitDefEqProofs (disch := decide) only [Block.pmState, Block.bit, Block.get_congr hregs, sameOutside_congr hregs, sameMem_congr hdram hqdr,
    Block.get_set_apart, Block.get_set_self, Block.get_raiseAt_apart, sameOutside_set, sameOutside_raiseAt, sameMem_raiseAt, hblk, hreason, hstate,
    habort, hnow, herr, hout, hmem, and_true, true_and]
  decide

/-- Settles O42: what waits, what acts at once and what is refused. -/
theorem powerRequests : Obligations.PowerRequests := by
  unfold Obligations.PowerRequests
  refine ⟨fun b p w hr hrole hs => gives_of_writing hr b.gated_PM_REQ (fun _ => rfl) ?_,
    fun b p w hr hrole hs => gives_of_writing hr b.gated_PM_REQ (fun _ => rfl) ?_,
    fun b p w hr hrole hs => gives_of_writing hr b.gated_PM_REQ (fun _ => rfl) ?_,
    fun b p w hr hrole hl hw => ⟨gives_of_writing hr b.gated_PM_REQ (fun _ => rfl) ?_, gives_of_writing hr b.gated_PM_REQ (fun _ => rfl) ?_,
      gives_of_writing hr b.gated_PM_REQ (fun _ => rfl) ?_⟩,
    fun b p blk reason hr hrole hl hf hb hn => gives_of_writing hr b.gated_PM_REQ (fun _ => rfl) ?_⟩
  · rw [pmReq_pends (.inr hs) (by rw [hs]; decide) hrole (.inl rfl)]
    exact settle_pend b w (by decide)
  · rw [pmReq_pends (.inl hs) (by rw [hs]; decide) hrole (.inr (.inl rfl))]
    exact settle_pend b w (by decide)
  · rw [pmReq_dim_now w hs hrole]
    exact settle_setPmState (by rw [hs]; decide) (by decide)
  · rw [pmReq_pends hl (by rcases hl with h | h <;> rw [h] <;> decide) hrole (.inr (.inr hw))]
    obtain ⟨hpend, hstate, -, hsame, hmem⟩ := settle_pend b (st := pmBracken) w (by decide)
    exact ⟨hpend, hstate, hsame, hmem⟩
  · rw [pmReq_pends hl (by rcases hl with h | h <;> rw [h] <;> decide) hrole (.inr (.inr hw))]
    obtain ⟨hpend, hstate, -, hsame, hmem⟩ := settle_pend b (st := pmRetain) w (by decide)
    exact ⟨hpend, hstate, hsame, hmem⟩
  · rw [pmReq_pends hl (by rcases hl with h | h <;> rw [h] <;> decide) hrole (.inr (.inr hw))]
    obtain ⟨hpend, hstate, -, hsame, hmem⟩ := settle_pend b (st := pmOff) w (by decide)
    exact ⟨hpend, hstate, hsame, hmem⟩
  · rw [pmReq_refused hl rfl hrole hf]
    exact settle_refuse b hb hn

end Sys2Proof.Machine
end

section
/-!
PROOFS of refutations about the feeds, the commits and the memory errors: for each claim a state and a command that the model takes to a state the claim excludes.
-/

namespace Sys2Proof.Machine

/-! ### Feed transfers, O36 -/

/-- Feed B converts since 5 ns, the primary feed A is READY since 0 ns, and REVERT_S is 0. -/
def revertDue : Block :=
  { (((Block.reset.set (F.PWR_FEEDx_STATUS_STATE 0) feedReady).set (F.PWR_FEEDx_STATUS_STATE 1) feedConv).set
      F.PWR_FEED_CTRL_REVERT.act 1).set F.PWR_FEED_CTRL_REVERT_S.act 0 with
    pwr := { Block.reset.pwr with mode := 1, primary := 0, readySince := [some 0, none], convSince := [none, some 5] } }

/-- Refutes O36: REVERT_S counts from the later of the primary's READY and the other feed's start, not from the READY alone. -/
theorem not_feedTransfers : ¬ Obligations.FeedTransfers := by
  unfold Obligations.FeedTransfers
  rintro ⟨-, -, -, hrevert⟩
  have hP := (hrevert revertDue 0 (by decide) rfl rfl (by decide +kernel) rfl (by decide +kernel) (by decide +kernel)
    (by decide +kernel)).of_power (u := revertTimer revertDue) rfl
  obtain ⟨-, -, -, hclk, -⟩ := hP
  exact absurd hclk (by decide +kernel)

/-! ### Feed meters, O37 -/

/-- No logic power, feed A converting. -/
def convertsInTheDark : Block := { Block.reset.set F.PWR_STATUS_CONVERTING 1 with logic := .off }

/-- Refutes O37: without logic power the energy of the rails, PWR_ENERGY2, is not counted. -/
theorem not_feedMetersAndEnergyPlan : ¬ Obligations.FeedMetersAndEnergyPlan := by
  unfold Obligations.FeedMetersAndEnergyPlan
  rintro ⟨hcycle, -⟩
  have hP := (hcycle convertsInTheDark [0, 0, 1] (0, 0, 0, 0) (0, 0, 0, 0) rfl (by decide) (by decide) (by decide +kernel)).of_power
    (u := feedControlCycle [0, 0, 1] [(0, 0, 0, 0), (0, 0, 0, 0)] true convertsInTheDark) rfl
  obtain ⟨-, henergy, -⟩ := hP
  exact absurd (henergy 2 (by decide)) (by decide +kernel)

/-! ### Commits, O47 -/

/-- Two stages of a group number whose status word would lie in the window of PWR, one of them under transaction 7. -/
def strayStages : Block :=
  { Block.reset.set F.SYS_ROLE_ROLE 1 with
    cfg := { Block.reset.cfg with stages := [⟨0x4000, [], none, some 7⟩, ⟨0x4000, [], none, none⟩] } }.set (F.CFG_COMMIT_TXN_TXN.on .i3c) 7

/-- Refutes O47: ABORT counts the stages left of every group it found, also of one whose number no group has. -/
theorem not_commits : ¬ Obligations.Commits := by
  unfold Obligations.Commits
  rintro ⟨-, -, -, -, habort, -⟩
  have hP := (habort strayStages .i3c 0x400 (by decide) (by decide +kernel) (by decide) (by decide +kernel)).of_done
    (u := commitCmd .i3c 0x400 strayStages) (by decide) rfl
  obtain ⟨-, -, hsame, -⟩ := hP
  exact absurd (hsame (R.CFG_GRPg_STATUS 0x4000) (by decide)) (by decide +kernel)

/-! ### Memory errors, O32 -/

/-- DRAM is trained, and no ring is there. -/
def trainedDram : Block := Block.reset.set F.DRM_STATUS_TRAINED 1

/-- Refutes O32: the last descriptor of the ring table is node 0x3FFFF's, and an error in it clears that ring. -/
theorem not_memoryErrors : ¬ Obligations.MemoryErrors := by
  unfold Obligations.MemoryErrors
  rintro ⟨-, huncorrected, -⟩
  have hP := (huncorrected trainedDram (64 * 0x3FFFF) (by decide) (by decide) (by decide) (by decide +kernel) rfl).of_done
    (u := dramReadError (64 * 0x3FFFF) false false trainedDram) (by decide) rfl
  obtain ⟨-, -, -, hmem⟩ := hP
  exact absurd (hmem (64 * 0x3FFFF + 4)).1 (by decide +kernel)

end Sys2Proof.Machine
end

section
/-!
PROOFS of the I3C target: single-word transfers, address assignment and common command codes.
-/

namespace Sys2Proof.Machine

/-! ### What a register read leaves to the target -/

@[simp] theorem Block.gatedAccess_i3c (b : Block) : b.gatedAccess.i3c = b.i3c := by
  simp only [Block.gatedAccess, Block.when, Block.pmWake, Block.raise_eq, apply_ite Block.i3c, Block.set_i3c, Block.raiseAt_i3c, ite_self]

@[simp] theorem Block.irqShown_i3c (b : Block) : b.irqShown.2.i3c = b.i3c := by
  unfold Block.irqShown
  dsimp only
  split <;> rfl

@[simp] theorem Block.rxData_i3c (b : Block) (p : Path) : (rxData p b).2.i3c = b.i3c := by
  unfold rxData
  dsimp only
  split
  · rfl
  · split <;> rfl

/-- A register read leaves the I3C target's read address as it was. -/
@[simp] theorem Block.readReg_i3c (b : Block) (p : Path) (a size : Nat) : (b.readReg p a size).2.i3c = b.i3c := by
  unfold Block.readReg
  cases accessRow a size with
  | none => simp
  | some r =>
    simp only [Block.fresh, Block.latch, Block.unlatch, apply_ite Prod.snd, apply_ite Block.i3c, Block.gatedAccess_i3c, Block.rxData_i3c,
      Block.irqShown_i3c, Block.set_i3c]
    cases accessRow (a + 4) 4 <;> cases (if isHigh a = true then b.latchOf p a else none) <;>
      simp only [apply_ite Prod.snd, apply_ite Block.i3c, Block.irqShown_i3c, Block.setWord_i3c, ite_self]

/-! ### Private transfers, O16 -/

/-- A write transfer of one word is the register write of that word. -/
theorem i3cWrite_word (b : Block) (x : Ext) (a0 a1 a2 a3 d0 d1 d2 d3 : Byte) :
    i3cWrite 0x01 b.i3cAddr [0x01, a0, a1, a2, a3, d0, d1, d2, d3] false x b
      = b.writeReg .i3c (leNat [a0, a1, a2, a3]) 4 (BitVec.ofNat 32 (leNat [d0, d1, d2, d3])) x := by
  simp [i3cWrite, i3cCommands, Block.i3cData, wholeWords, Block.writeWords]

/-- A write transfer of one word at a fixed address is the register write of that word. -/
theorem i3cWrite_word_fixed (b : Block) (x : Ext) (a0 a1 a2 a3 d0 d1 d2 d3 : Byte) :
    i3cWrite 0x03 b.i3cAddr [0x03, a0, a1, a2, a3, d0, d1, d2, d3] false x b
      = b.writeReg .i3c (leNat [a0, a1, a2, a3]) 4 (BitVec.ofNat 32 (leNat [d0, d1, d2, d3])) x := by
  simp [i3cWrite, i3cCommands, Block.i3cData, wholeWords, Block.writeWords]

/-- SET_READ with an address of four bytes. -/
theorem i3cWrite_setRead (b : Block) (x : Ext) (a0 a1 a2 a3 : Byte) :
    i3cWrite 0x02 b.i3cAddr [0x02, a0, a1, a2, a3] false x b
      = { b with i3c.readAddr := leNat [a0, a1, a2, a3], i3c.readFixed := false } := by
  simp [i3cWrite, i3cCommands, Block.i3cSetRead]

/-- SET_READ_FIXED with an address of four bytes. -/
theorem i3cWrite_setReadFixed (b : Block) (x : Ext) (a0 a1 a2 a3 : Byte) :
    i3cWrite 0x04 b.i3cAddr [0x04, a0, a1, a2, a3] false x b
      = { b with i3c.readAddr := leNat [a0, a1, a2, a3], i3c.readFixed := true } := by
  simp [i3cWrite, i3cCommands, Block.i3cSetRead]

/-- A read transfer of one ready word. -/
theorem settle_i3cRead {b : Block} (hda : b.bit F.HIF_I3C_STATUS_DA_VALID = true) (hmrl : 4 ≤ b.i3c.mrl) :
    let t := (i3cRead b.i3cAddr [true] false b).settle
    t.out.head? = some (.i3cWords [(b.readReg .i3c b.i3c.readAddr 4).1])
      ∧ t.i3c.readAddr = (if b.i3c.readFixed then b.i3c.readAddr else (b.i3c.readAddr + 4) % 2 ^ 32) := by
  have htake : [true].take (b.i3c.mrl / 4) = [true] := by
    rw [List.take_of_length_le]
    simp only [List.length_cons, List.length_nil]
    omega
  cases hf : b.i3c.readFixed <;> simp [i3cRead, hda, htake, Block.readWords, Block.emit, Block.settle, hf]

/-- Settles O16: each transfer is the register access it stands for (R75 to R78). -/
theorem i3cPrivateTransfers : Obligations.I3cPrivateTransfers := by
  unfold Obligations.I3cPrivateTransfers
  refine ⟨fun b x a0 a1 a2 a3 d0 d1 d2 d3 _ q => ⟨?_, ?_⟩, fun b x a0 a1 a2 a3 d0 d1 d2 d3 hr => ⟨?_, ?_⟩,
    fun b x a0 a1 a2 a3 hr => ⟨?_, ?_⟩, fun b hr hda hmrl => ?_⟩
  · exact congrArg (State.done ⟨b, q⟩) (i3cWrite_word b x a0 a1 a2 a3 d0 d1 d2 d3)
  · exact congrArg (State.done ⟨b, q⟩) (i3cWrite_word_fixed b x a0 a1 a2 a3 d0 d1 d2 d3)
  · exact gives_of_done hr (fun q => congrArg (State.done ⟨b, q⟩) (i3cWrite_word b x a0 a1 a2 a3 d0 d1 d2 d3)) rfl
  · exact gives_of_done hr (fun q => congrArg (State.done ⟨b, q⟩) (i3cWrite_word_fixed b x a0 a1 a2 a3 d0 d1 d2 d3)) rfl
  · exact gives_of_done hr (fun q => congrArg (State.done ⟨b, q⟩) (i3cWrite_setRead b x a0 a1 a2 a3))
      ⟨rfl, rfl, fun _ _ => rfl, fun _ => ⟨rfl, rfl⟩⟩
  · exact gives_of_done hr (fun q => congrArg (State.done ⟨b, q⟩) (i3cWrite_setReadFixed b x a0 a1 a2 a3))
      ⟨rfl, rfl, fun _ _ => rfl, fun _ => ⟨rfl, rfl⟩⟩
  · exact gives_of_done hr (fun _ => rfl) (settle_i3cRead hda hmrl)

/-! ### Addresses and codes, O17 -/

theorem settle_assign (b : Block) {da : Nat} (h : da < 128) :
    let t := (b.assign da).settle
    t.i3cAddr = da ∧ t.bit F.HIF_I3C_STATUS_DA_VALID = true ∧ SameWords [R.HIF_I3C_STATUS] b t ∧ SameMem b t := by
  have hfits : da % 2 ^ F.HIF_I3C_STATUS_DA.width = da := Nat.mod_eq_of_lt h
  simp -implicitDefEqProofs (disch := decide) [Block.assign, Block.i3cAddr, hfits, SameMem, Block.dramByte, Block.qdrByte]

theorem settle_rstdaa (b : Block) :
    let t := (rstdaa b).settle
    t.bit F.HIF_I3C_STATUS_DA_VALID = false ∧ t.i3cAddr = 0x4C + b.pins.straps % 4 ∧ SameWords [R.HIF_I3C_STATUS] b t ∧ SameMem b t := by
  simp -implicitDefEqProofs (disch := decide) [rstdaa, Block.i3cAddr, SameMem, Block.dramByte, Block.qdrByte,
    Block.settle_pins]

/-- One bit of HIF_I3C_STATUS changes. -/
theorem settle_set_i3cStatus (b : Block) (f : Fld) (v : Bool) (hf : f.ok = true) (hw : f.hi = f.lo) (ha : f.addr = R.HIF_I3C_STATUS) :
    let t := (b.setBit f v).settle
    t.bit f = v ∧ SameWords [R.HIF_I3C_STATUS] b t ∧ SameMem b t := by
  have hbit : (b.setBit f v).bit f = v := by cases v <;> simp [hf, hw]
  exact ⟨by rw [Block.settle_bit, hbit], by simp [ha], fun _ => ⟨rfl, rfl⟩⟩

/-- A direct code that reads sends its bytes. -/
theorem settle_cccGet {b : Block} {a : Nat} (l : List Byte) (h : b.ccc a = true) :
    let t := (b.cccGet a l).settle
    t.out = .i3cBytes l :: b.out ∧ SameWords [] b t ∧ SameMem b t := by
  rw [Block.cccGet, h]
  exact ⟨rfl, fun _ _ => rfl, fun _ => ⟨rfl, rfl⟩⟩

/-- A code whose answer is free sends two bytes. -/
theorem settle_cccFree {b : Block} {a : Nat} (h : b.ccc a = true) :
    let t := (b.cccFree a).settle
    (∃ x y : Byte, t.out = .i3cBytes [x, y] :: b.out) ∧ SameWords [] b t ∧ SameMem b t := by
  have hc : ({ b with freeCount := b.freeCount + 1 } : Block).ccc a = true := h
  obtain ⟨hout, hwords, hmem⟩ := settle_cccGet (leBytes 2 (Config.freeValue b.freeCount)) hc
  exact ⟨⟨_, _, hout⟩, hwords, hmem⟩

/-- Settles O17: each code changes its field of HIF_I3C_STATUS, its limit, or only the trace (R71 to R73, R100). -/
theorem i3cAddressAndCodes : Obligations.I3cAddressAndCodes := by
  unfold Obligations.I3cAddressAndCodes
  refine ⟨fun b da hr hd h => ⟨?_, ?_⟩, fun b da hr hd h => ?_, fun b hr => gives_of_done hr (fun _ => rfl) (settle_rstdaa b),
    fun b target events hr hc he => ⟨?_, ?_⟩, fun b target v hr hc h8 h16 => ⟨?_, ?_⟩, fun b a hr hc => ?_, fun b hr => ?_⟩
  · refine gives_of_done (t := b.assign da) hr (fun q => congrArg (State.done ⟨b, q⟩) ?_) (settle_assign b h)
    simp [entdaa, hd]
  · refine gives_of_done (t := b.assign da) hr (fun q => congrArg (State.done ⟨b, q⟩) ?_) (settle_assign b h)
    simp [setdasa, Block.i3cAddr, hd]
  · obtain ⟨haddr, -, hwords, hmem⟩ := settle_assign b h
    refine gives_of_done (t := b.assign da) hr (fun q => congrArg (State.done ⟨b, q⟩) ?_) ⟨haddr, hwords, hmem⟩
    simp [setnewda, Block.ccc, hd]
  · refine gives_of_done (t := b.setBit F.HIF_I3C_STATUS_IBI_ENABLED true) hr (fun q => congrArg (State.done ⟨b, q⟩) ?_)
      (settle_set_i3cStatus b _ true rfl rfl rfl)
    rw [ibiEvents, if_pos ⟨hc, he⟩]
  · refine gives_of_done (t := b.setBit F.HIF_I3C_STATUS_IBI_ENABLED false) hr (fun q => congrArg (State.done ⟨b, q⟩) ?_)
      (settle_set_i3cStatus b _ false rfl rfl rfl)
    rw [ibiEvents, if_pos ⟨hc, he⟩]
  · refine gives_of_done (t := { b with i3c.mwl := v }) hr (fun q => congrArg (State.done ⟨b, q⟩) ?_)
      ⟨rfl, fun _ _ => rfl, fun _ => ⟨rfl, rfl⟩⟩
    rw [setmwl, Nat.mod_eq_of_lt h16, if_pos ⟨hc, h8⟩]
  · refine gives_of_done (t := { b with i3c.mrl := v }) hr (fun q => congrArg (State.done ⟨b, q⟩) ?_)
      ⟨rfl, fun _ _ => rfl, fun _ => ⟨rfl, rfl⟩⟩
    rw [setmrl, Nat.mod_eq_of_lt h16, if_pos hc]
  · have hget : ∀ l : List Byte, _ := fun l => settle_cccGet l hc
    have hnack : (if (some a).isSome ∧ b.cccAny (some a) then b.emit .i3cNack else b) = b.emit .i3cNack := if_pos ⟨rfl, hc⟩
    refine ⟨gives_of_done hr (fun _ => rfl) (hget _), gives_of_done hr (fun _ => rfl) (hget _), gives_of_done (t := b.cccGet a (leBytes 6 b.pid).reverse) hr (fun _ => rfl) ?_,
      gives_of_done hr (fun _ => rfl) (hget _), gives_of_done hr (fun _ => rfl) (hget _),
      gives_of_done hr (fun _ => rfl) (settle_cccFree hc), gives_of_done hr (fun _ => rfl) (settle_cccFree hc),
      gives_of_done hr (fun q => congrArg (State.done ⟨b, q⟩) hnack) ⟨rfl, fun _ _ => rfl, fun _ => ⟨rfl, rfl⟩⟩⟩
    have hpid : b.pid = 0x365C96240000 + b.pins.straps % 4 * 2 ^ 12 + b.fuses.serial % 2 ^ 12 := by simp [Block.pid]
    rw [← hpid]
    exact hget _
  · exact ⟨gives_of_done (t := b.setBit F.HIF_I3C_STATUS_HDR true) hr (fun _ => rfl) (settle_set_i3cStatus b _ true rfl rfl rfl),
      gives_of_done (t := b.setBit F.HIF_I3C_STATUS_HDR false) hr (fun _ => rfl) (settle_set_i3cStatus b _ false rfl rfl rfl),
      gives_of_done (t := b) hr (fun _ => rfl) ⟨rfl, fun _ _ => rfl, fun _ => ⟨rfl, rfl⟩⟩⟩

end Sys2Proof.Machine
end

section
/-!
PROOFS of chapter 17: what becomes of an update image.
-/

namespace Sys2Proof.Machine

/-! ### The boot record (R455) -/

@[simp] theorem Block.settle_updState (b : Block) : b.settle.updState = b.updState := rfl
@[simp] theorem Block.settle_bootRec (b : Block) : b.settle.bootRec = b.bootRec := rfl

/-- The record in force is read from the two copies alone. -/
theorem Block.bootRec_congr {t u : Block} (h : t.upd.recs = u.upd.recs) : t.bootRec = u.bootRec := by
  rw [Block.bootRec, Block.recIndex, h, Block.bootRec, Block.recIndex]

theorem Block.trialSlot_congr {t u : Block} (h : t.upd.recs = u.upd.recs) (hr : t.get F.CFG_BOOT_STATUS_SLOT = u.get F.CFG_BOOT_STATUS_SLOT) :
    t.trialSlot = u.trialSlot := by
  simp only [Block.trialSlot, Block.runSlot, hr, Block.bootRec_congr h]

/-- The record shown in UPD's registers leaves every word below UPD_BOOT. -/
theorem Block.word_updShow (b : Block) {k : Nat} (h : k < R.UPD_BOOT) : b.updShow.word k = b.word k := by
  have hne : ∀ a : Nat, R.UPD_BOOT ≤ a → k ≠ a := fun a ha => Nat.ne_of_lt (Nat.lt_of_lt_of_le h ha)
  simp (disch := exact hne _ (by decide)) [Block.updShow, Block.each]

theorem Block.updState_updShow (b : Block) : b.updShow.updState = b.updState := by
  rw [Block.updState, Block.get, b.word_updShow (by decide), ← Block.get, Block.updState]

/-- The two copies once a change is written. -/
def Block.newRecs (b : Block) (f : BootRec → BootRec) : List BootRec :=
  b.upd.recs.set (match b.recIndex with | some i => 1 - i | none => 0) { f b.bootRec with ok := true, seq := b.bootRec.seq + 1 }

theorem Block.writeRec_eq (b : Block) (f : BootRec → BootRec) : b.writeRec f = { b with upd.recs := b.newRecs f }.updShow := rfl

theorem Block.touches_writeRec (b : Block) (f : BootRec → BootRec) : Touches [0x07] { b with upd.recs := b.newRecs f } (b.writeRec f) :=
  Block.touches_updShow _

theorem Block.updState_writeRec (b : Block) (f : BootRec → BootRec) : (b.writeRec f).updState = b.updState := by
  rw [Block.writeRec_eq, Block.updState_updShow]
  rfl

/-- Of two copies the one written last is in force. -/
theorem Block.bootRec_writeRec {b : Block} (f : BootRec → BootRec) (h : b.upd.recs.length = 2) :
    (b.writeRec f).bootRec = { f b.bootRec with ok := true, seq := b.bootRec.seq + 1 } := by
  obtain ⟨x, y, hxy⟩ := List.length_eq_two.mp h
  have hrecs : (b.writeRec f).upd.recs = b.newRecs f := by rw [(b.touches_writeRec f).upd]
  simp only [Block.bootRec, Block.recIndex, hrecs, Block.newRecs, hxy]
  cases hx : x.ok <;> cases hy : y.ok
  · simp [hy]
  · simp [hy]
  · simp [hx]
  · by_cases hle : y.seq ≤ x.seq <;> simp [hx, hy, hle]

theorem BootRec.entry_onEntry_self (r : BootRec) {s : Nat} (f : SlotEntry → SlotEntry) (h : s < r.slots.length) :
    (r.onEntry s f).entry s = f (r.entry s) := by
  simp [BootRec.entry, BootRec.onEntry, h]

theorem BootRec.entry_onEntry_ne (r : BootRec) {s i : Nat} (f : SlotEntry → SlotEntry) (h : s ≠ i) : (r.onEntry s f).entry i = r.entry i := by
  simp [BootRec.entry, BootRec.onEntry, h]

/-- A trial slot is A or B, and its entry is there. -/
theorem Block.trialSlot_some {b : Block} {s : Nat} (h : b.trialSlot = some s) : s < 2 ∧ s < b.bootRec.slots.length := by
  unfold Block.trialSlot at h
  split at h
  · next s' _ =>
    split at h
    · next hs =>
      obtain rfl := Option.some.inj h
      refine ⟨hs.1, Nat.lt_of_not_le fun hlen => ?_⟩
      have hstate := hs.2
      rw [BootRec.entry, List.getD_eq_default _ _ hlen] at hstate
      exact absurd hstate (by decide)
    · cases h
  · cases h

/-- The state of UPD after a step, settled, and what the step leaves: the claims of R464 to R468 read off it. -/
def UpdDone (l : List Nat) (b t : Block) (st : Nat) (u : Upd) (r : BootRec) (clk : Nat) : Prop :=
  t.updState = st ∧ t.upd = { u with recs := t.upd.recs } ∧ t.bootRec = r ∧ t.clk = clk ∧ SameOutside l b t ∧ SameMem b t

/-- A record is written and STATE changes. -/
theorem settle_writeRec_updGo (b : Block) (f : BootRec → BootRec) {st : Nat} (hst : st < 2 ^ F.UPD_STATUS_STATE.width)
    (hlen : b.upd.recs.length = 2) :
    UpdDone [0x07] b ((b.writeRec f).updGo st).settle st b.upd { f b.bootRec with ok := true, seq := b.bootRec.seq + 1 } b.clk := by
  have hgo := (b.writeRec f).touches_updGo st
  have hrec := b.touches_writeRec f
  refine ⟨?_, ?_, ?_, ?_, ?_, ?_⟩
  · rw [Block.settle_updState, Block.updState_updGo _ hst]
  · rw [Block.settle_upd, hgo.upd, hrec.upd]
  · rw [Block.settle_bootRec, Block.bootRec_congr (congrArg Upd.recs hgo.upd), Block.bootRec_writeRec f hlen]
  · rw [Block.settle_clk, hgo.clk, hrec.clk]
  · rw [sameOutside_settle, sameOutside_through hgo.sameOutside]
    exact b.sameOutside_writeRec f
  · rw [sameMem_settle, sameMem_through hgo.sameMem]
    exact b.sameMem_writeRec f

/-! ### Verification (R464) -/

/-- A verified bit-stream empties its slot's entry and is written. -/
theorem Block.updVerified_stream {b : Block} {h : UpdHeader} {body : Option Image} (shared : Option (List Byte)) (hh : b.upd.head = some h)
    (hk : h.kind = 1 ∨ h.kind = 2) (hhash : sha384 (b.updBody h) = h.bodyHash) (hok : b.updBodyOk h body = true) :
    b.updVerified false body shared = (({ b with upd := { b.upd with
      body := body, newKeys := [], since := b.clk, slots := b.upd.slots.set b.upd.target none } } : Block).writeRec
        (fun r => r.onEntry b.upd.target (fun _ => ⟨0, 0, 0, 0, 0⟩))).updGo updWriting := by
  have hstream : (h.kind == 1 || h.kind == 2) = true := by simpa using hk
  have hkeys : h.kind ≠ 5 := by omega
  simp -implicitDefEqProofs [Block.updVerified, hh, hhash, hok, hstream, hkeys]

/-- A body whose hash is not the header's ends in REFUSED. -/
theorem Block.updVerified_hash {b : Block} {h : UpdHeader} (body : Option Image) (shared : Option (List Byte)) (hh : b.upd.head = some h)
    (hhash : sha384 (b.updBody h) ≠ h.bodyHash) : b.updVerified false body shared = b.updFail E.UPD_HASH := by
  simp -implicitDefEqProofs [Block.updVerified, hh, hhash]

/-- The block when the verification of a body of `len` bytes ends. -/
def Block.bodyRead (b : Block) (after len : Nat) : Block :=
  (b.untilClk (b.upd.since + min after (ceilDiv len 2))).dramUse 5 (b.stagingWindow.base + 512) len

theorem updVerifyDone_eq {b : Block} {h : UpdHeader} (p s pointOk : Bool) (shared : List Byte) (after : Nat) (hst : b.updState = updVerifying)
    (hc : b.upd.cancel = false) (hh : b.upd.head = some h) : updVerifyDone p s pointOk shared after b
      = (b.bodyRead after h.bodyLen).updVerified p ((b.bodyRead after h.bodyLen).stagedBody s) (if pointOk then some shared else none) := by
  rw [updVerifyDone, if_neg (not_not.mpr hst)]
  simp -implicitDefEqProofs only [hc, hh, Option.map_some, Option.getD_some, Bool.false_eq_true, if_false, Block.bodyRead]

theorem Block.bodyRead_spec (b : Block) (after len : Nat) :
    let c := b.bodyRead after len
    c.regs = b.regs ∧ c.dram = b.dram ∧ c.qdr = b.qdr ∧ c.upd = b.upd ∧ c.fuses = b.fuses
      ∧ c.clk = max b.clk (b.upd.since + min after (ceilDiv len 2)) := by
  simp -implicitDefEqProofs [Block.bodyRead]

/-- Reading the body leaves the body in staging, and what it says, as they were. -/
theorem Block.bodyRead_body (b : Block) (after len : Nat) (h : UpdHeader) (s : Bool) (i : Option Image) :
    (b.bodyRead after len).updBody h = b.updBody h ∧ (b.bodyRead after len).stagedBody s = b.stagedBody s
      ∧ (b.bodyRead after len).updBodyOk h i = b.updBodyOk h i := by
  obtain ⟨hregs, hdram, -, hupd, hfuses, -⟩ := b.bodyRead_spec after len
  have hbytes : ∀ a n, (b.bodyRead after len).dramBytes a n = b.dramBytes a n := fun a n => by
    simp only [Block.dramBytes, Block.dramByte, hdram]
  have hwin : (b.bodyRead after len).stagingWindow = b.stagingWindow := by
    simp only [Block.stagingWindow, Block.pair, Block.get_congr hregs]
  simp only [Block.updBody, Block.stagedBody, Block.imageAt, Block.updBodyOk, hbytes, hwin, hupd, hfuses, and_self]

/-- A refusal, settled. -/
theorem settle_updFail_HASH (b : Block) :
    let t := (b.updFail E.UPD_HASH).settle
    t.updState = updRefused ∧ t.bit E.UPD_HASH.fld = true ∧ t.get F.UPD_STATUS_CODE = 0x0706 ∧ t.upd = b.upd
      ∧ SameOutside [0x07, 0x30] b t ∧ SameMem b t := by
  have hgo := (b.updTell E.UPD_HASH).touches_updGo updRefused
  have htell := b.touches_updTell (e := E.UPD_HASH) (by decide) (by decide)
  have hboth : Touches [0x07, 0x30] b ((b.updTell E.UPD_HASH).updGo updRefused) := htell.trans (hgo.mono (by decide))
  refine ⟨?_, ?_, ?_, ?_, ?_, ?_⟩
  · rw [Block.settle_updState, Block.updFail, Block.updState_updGo _ (by decide)]
  · rw [Block.settle_bit, Block.updFail, Block.bit, Block.get_updGo _ _ (by decide) (by decide) (by decide), ← Block.bit]
    simp (disch := decide) [Block.updTell]
  · rw [Block.settle_get, Block.updFail, Block.get_updGo _ _ (by decide) (by decide) (by decide), Block.updTell,
      Block.get_set_self _ _ (by decide)]
    rfl
  · rw [Block.settle_upd, Block.updFail, hboth.upd]
  · rw [sameOutside_settle, Block.updFail]
    exact hboth.sameOutside
  · rw [sameMem_settle, Block.updFail]
    exact hboth.sameMem

theorem settle_updVerifyDone_stream {b : Block} {h : UpdHeader} (s pointOk : Bool) (shared : List Byte) (after : Nat)
    (hst : b.updState = updVerifying) (hc : b.upd.cancel = false) (hh : b.upd.head = some h) (hk : h.kind = 1 ∨ h.kind = 2)
    (hhash : sha384 (b.updBody h) = h.bodyHash) (hok : b.updBodyOk h (b.stagedBody s) = true) (hlen : b.upd.recs.length = 2) :
    let t := (updVerifyDone false s pointOk shared after b).settle
    t.updState = updWriting ∧ t.upd.body = b.stagedBody s
      ∧ t.upd.slots = b.upd.slots.set b.upd.target none
      ∧ t.bootRec = { b.bootRec.onEntry b.upd.target (fun _ => ⟨0, 0, 0, 0, 0⟩) with ok := true, seq := b.bootRec.seq + 1 }
      ∧ t.clk = max b.clk (b.upd.since + min after (ceilDiv h.bodyLen 2)) ∧ SameOutside [0x07] b t ∧ SameMem b t := by
  obtain ⟨hregs, hdram, hqdr, hupd, hfuses, hclk⟩ := b.bodyRead_spec after h.bodyLen
  obtain ⟨hbody, hstaged, hbodyOk⟩ := b.bodyRead_body after h.bodyLen h s (b.stagedBody s)
  rw [updVerifyDone_eq _ _ _ _ _ hst hc hh, hstaged, Block.updVerified_stream _ (by rw [hupd, hh]) hk (by rw [hbody, hhash]) (by rw [hbodyOk, hok])]
  generalize b.bodyRead after h.bodyLen = c at *
  obtain ⟨hstate, hu, hrec, hclk', hout, hmem⟩ := settle_writeRec_updGo ({ c with upd := { c.upd with
      body := b.stagedBody s, newKeys := [], since := c.clk, slots := c.upd.slots.set c.upd.target none } } : Block)
        (fun r => r.onEntry c.upd.target (fun _ => ⟨0, 0, 0, 0, 0⟩)) (st := updWriting) (by decide) (by rw [← hlen, ← hupd])
  refine ⟨hstate, ?_, ?_, ?_, ?_, ?_, ?_⟩
  · rw [hu]
  · rw [hu, ← hupd]
  · rw [hrec, ← Block.bootRec_congr (congrArg Upd.recs hupd), ← hupd]
    rfl
  · rw [hclk', ← hclk]
  · exact (SameOutside.trans (c := c) ((sameOutside_congr hregs).mpr (.refl _ _)) ((sameOutside_congr rfl).mp hout))
  · exact (sameMem_of_eq hdram hqdr).trans ((sameMem_congr rfl rfl).mp hmem)

theorem settle_updVerifyDone_hash {b : Block} {h : UpdHeader} (s pointOk : Bool) (shared : List Byte) (after : Nat)
    (hst : b.updState = updVerifying) (hc : b.upd.cancel = false) (hh : b.upd.head = some h) (hhash : sha384 (b.updBody h) ≠ h.bodyHash) :
    let t := (updVerifyDone false s pointOk shared after b).settle
    t.updState = updRefused ∧ t.bit E.UPD_HASH.fld = true ∧ t.get F.UPD_STATUS_CODE = 0x0706 ∧ t.upd.slots = b.upd.slots
      ∧ SameOutside [0x07, 0x30] b t ∧ SameMem b t := by
  obtain ⟨hregs, hdram, hqdr, hupd, hfuses, hclk⟩ := b.bodyRead_spec after h.bodyLen
  obtain ⟨hbody, -, -⟩ := b.bodyRead_body after h.bodyLen h s none
  rw [updVerifyDone_eq _ _ _ _ _ hst hc hh, Block.updVerified_hash _ _ (by rw [hupd, hh]) (by rw [hbody]; exact hhash)]
  generalize b.bodyRead after h.bodyLen = c at *
  obtain ⟨hstate, hbit, hcode, hu, hout, hmem⟩ := settle_updFail_HASH c
  exact ⟨hstate, hbit, hcode, by rw [hu, hupd], SameOutside.trans (c := c) ((sameOutside_congr hregs).mpr (.refl _ _)) hout,
    (sameMem_of_eq hdram hqdr).trans hmem⟩

/-! ### Writing (R464) -/

/-- The record says what a written slot holds. -/
def slotWritten (t : Nat) (h : UpdHeader) (r : BootRec) : BootRec := r.onEntry t (fun _ => ⟨h.imageId, h.sv, 1, h.keySlot, h.fmt⟩)

/-- The block when the writing of a body of `len` bytes ends. -/
def Block.slotWrite (b : Block) (after len : Nat) : Block :=
  b.untilClk (b.upd.since + min after (500000000 + 120000000 * ceilDiv len (2 ^ 20)))

theorem Block.slotWrite_spec (b : Block) (after len : Nat) :
    let c := b.slotWrite after len
    c.regs = b.regs ∧ c.dram = b.dram ∧ c.qdr = b.qdr ∧ c.upd = b.upd
      ∧ c.clk = max b.clk (b.upd.since + min after (500000000 + 120000000 * ceilDiv len (2 ^ 20))) := by
  simp -implicitDefEqProofs [Block.slotWrite]

/-- A slot that reads back holds the image, and the image is READY. -/
theorem Block.updWritten_stream {c : Block} {h : UpdHeader} (hc : c.upd.cancel = false) (hh : c.upd.head = some h) (hk : h.kind = 1) :
    c.updWritten true = ((({ c with upd.slots := c.upd.slots.set c.upd.target c.upd.body } : Block).writeRec
      (slotWritten c.upd.target h)).updGo updReady) := by
  simp -implicitDefEqProofs [Block.updWritten, hc, hh, hk]
  rfl

theorem updWriteDone_eq {b : Block} {h : UpdHeader} (ok : Bool) (after : Nat) (hst : b.updState = updWriting)
    (hc : b.upd.cancel = false) (hh : b.upd.head = some h) : updWriteDone ok after b = (b.slotWrite after h.bodyLen).updWritten ok := by
  rw [updWriteDone, if_neg (not_not.mpr hst)]
  simp -implicitDefEqProofs only [hc, hh, Option.map_some, Option.getD_some, Block.updCancelled, Bool.false_eq_true, if_false, Block.slotWrite]

/-- An image that becomes READY sets the interrupt. -/
theorem Block.bit_updGo_READY (b : Block) : (b.updGo updReady).bit F.UPD_IRQ_STATUS_READY = true := by
  unfold Block.updGo
  split <;> simp (disch := decide) [updReady]

theorem settle_updWriteDone {b : Block} {h : UpdHeader} (after : Nat) (hst : b.updState = updWriting) (hc : b.upd.cancel = false)
    (hh : b.upd.head = some h) (hk : h.kind = 1) (hlen : b.upd.recs.length = 2) :
    let t := (updWriteDone true after b).settle
    t.updState = updReady ∧ t.upd.slots = b.upd.slots.set b.upd.target b.upd.body
      ∧ t.bootRec = { b.bootRec.onEntry b.upd.target (fun _ => ⟨h.imageId, h.sv, 1, h.keySlot, h.fmt⟩) with
          ok := true, seq := b.bootRec.seq + 1 }
      ∧ t.bit F.UPD_IRQ_STATUS_READY = true
      ∧ t.clk = max b.clk (b.upd.since + min after (500000000 + 120000000 * ceilDiv h.bodyLen (2 ^ 20)))
      ∧ SameOutside [0x07] b t ∧ SameMem b t := by
  obtain ⟨hregs, hdram, hqdr, hupd, hclk⟩ := b.slotWrite_spec after h.bodyLen
  rw [updWriteDone_eq _ _ hst hc hh, Block.updWritten_stream (by rw [hupd, hc]) (by rw [hupd, hh]) hk]
  generalize b.slotWrite after h.bodyLen = c at *
  obtain ⟨hstate, hu, hrec, hclk', hout, hmem⟩ := settle_writeRec_updGo
    ({ c with upd.slots := c.upd.slots.set c.upd.target c.upd.body } : Block) (slotWritten c.upd.target h) (st := updReady)
    (by decide) (by rw [← hlen, ← hupd])
  refine ⟨hstate, ?_, ?_, ?_, ?_, ?_, ?_⟩
  · rw [hu, ← hupd]
  · rw [hrec, ← Block.bootRec_congr (congrArg Upd.recs hupd), ← hupd]
    rfl
  · rw [Block.settle_bit, Block.bit_updGo_READY]
  · rw [hclk', ← hclk]
  · exact SameOutside.trans (c := c) ((sameOutside_congr hregs).mpr (.refl _ _)) ((sameOutside_congr rfl).mp hout)
  · exact (sameMem_of_eq hdram hqdr).trans ((sameMem_congr rfl rfl).mp hmem)

/-! ### Commands (R465 to R467) -/

theorem settle_updPrepare {b : Block} {txn : Nat} (hst : b.updState = updReady) (htxn : txn < 2 ^ F.UPD_TXN_TXN.width) :
    let t := (b.updPrepare txn).settle
    t.bit F.UPD_TXN_VALID = true ∧ t.get F.UPD_TXN_TXN = txn ∧ t.updState = updReady ∧ SameWords [R.UPD_TXN] b t ∧ SameMem b t := by
  have hfits : txn % 2 ^ F.UPD_TXN_TXN.width = txn := Nat.mod_eq_of_lt htxn
  rw [Block.updPrepare, if_neg (not_not.mpr hst), Block.txnNote_eq]
  generalize (((b.set F.UPD_TXN_VALID 1).set F.UPD_TXN_TXN txn).txnNote txn 1).lnk = l
  rw [Block.updState] at hst
  simp -implicitDefEqProofs (disch := decide) [hfits, Block.updState, hst, SameMem, Block.dramByte, Block.qdrByte]

theorem settle_arm (b : Block) (n : Nat) :
    let t := ({ b with upd.armed := some n }.updGo updArmed).settle
    t.updState = updArmed ∧ t.upd.armed = some n ∧ SameOutside [0x07] b t ∧ SameMem b t := by
  have hgo := ({ b with upd.armed := some n } : Block).touches_updGo updArmed
  refine ⟨?_, ?_, ?_, ?_⟩
  · rw [Block.settle_updState, Block.updState_updGo _ (by decide)]
  · rw [Block.settle_upd, hgo.upd]
  · rw [sameOutside_settle, sameOutside_through hgo.sameOutside]
    exact (sameOutside_congr rfl).mpr (.refl _ _)
  · rw [sameMem_settle, sameMem_through hgo.sameMem]
    exact sameMem_of_eq rfl rfl

/-- An activation for a frame whose launch has passed is missed. -/
theorem settle_updTell_MISSED {b : Block} (hst : b.updState = updReady) :
    let t := (b.updTell E.UPD_MISSED).settle
    t.updState = updReady ∧ t.bit E.UPD_MISSED.fld = true ∧ t.get F.UPD_STATUS_CODE = 0x070D ∧ t.upd = b.upd ∧ SameOutside [0x07] b t
      ∧ SameMem b t := by
  rw [Block.updState] at hst
  have hout : SameOutside [0x07] b (b.raiseAt E.UPD_MISSED noDetail) :=
    (sameOutside_raiseAt_unlogged _ (by decide) (by decide) (by decide)).mpr (.refl _ _)
  simp -implicitDefEqProofs (disch := decide) [Block.updTell, Block.updState, hst, hout, SameMem, Block.dramByte, Block.qdrByte]
  decide

theorem Block.updArm_early {b : Block} {n : Nat} (hst : b.updState = updReady) (hr : b.role ≠ 0) (hn : b.nextLaunch ≤ n) :
    (b.updArm n).2 = { b with upd.armed := some n }.updGo updArmed := by
  rw [Block.updArm, if_neg (not_not.mpr hst), if_neg hr, if_neg (by omega)]

theorem Block.updArm_late {b : Block} {n : Nat} (hst : b.updState = updReady) (hr : b.role ≠ 0) (hn : n < b.nextLaunch) :
    (b.updArm n).2 = b.updTell E.UPD_MISSED := by
  rw [Block.updArm, if_neg (not_not.mpr hst), if_neg hr, if_pos hn]

/-- The record says that slot `t` runs as a trial next. -/
def trialNext (t : Nat) (r : BootRec) : BootRec :=
  { r.onEntry t (fun e => { e with state := 2 }) with preferred := t + 1, trials := 3 }

/-- A bit-stream that carries no tag acts: its slot runs as a trial after the reset. -/
theorem Block.updAct_stream {c : Block} {h : UpdHeader} (hh : c.upd.head = some h) (hk : h.kind = 1) (htag : c.bit F.UPD_TXN_VALID = false) :
    c.updAct = ((({ c with upd.armed := none } : Block).writeRec (trialNext c.upd.target)).updDrop).wantReset 2 := by
  simp -implicitDefEqProofs only [Block.updAct, hh, htag, hk, if_true, Bool.false_eq_true, if_false]
  rfl

theorem Block.updArm_now {b : Block} (n : Nat) (hst : b.updState = updReady) (hr : b.role = 0) :
    (b.updArm n).2 = (b.updGo updArmed).updAct := by
  rw [Block.updArm, if_neg (not_not.mpr hst), if_pos hr]

/-- The image is forgotten; what the slots and the record say stays. -/
theorem Block.updForget_spec (b : Block) : SameOutside [0x07] b b.updForget ∧ SameMem b b.updForget ∧ b.updForget.upd.recs = b.upd.recs
    ∧ b.updForget.resetWanted = b.resetWanted := by
  simp (disch := decide) [Block.updForget, SameMem, Block.dramByte, Block.qdrByte]

/-- The image is discarded. -/
theorem settle_updDrop_wantReset (b : Block) (c : Nat) :
    let t := (b.updDrop.wantReset c).settle
    t.updState = updIdle ∧ t.resetWanted = some (b.resetWanted.getD c) ∧ t.bootRec = b.bootRec ∧ SameOutside [0x07] b t ∧ SameMem b t := by
  have hgo := b.updForget.touches_updGo updIdle
  obtain ⟨hout, hmem, hrecs, hreset⟩ := b.updForget_spec
  refine ⟨?_, ?_, ?_, ?_, ?_⟩
  · exact Block.updState_updGo _ (by decide)
  · rw [Block.settle_resetWanted, Block.wantReset, Block.updDrop, hgo.resetWanted, hreset]
  · rw [Block.settle_bootRec]
    exact Block.bootRec_congr (by rw [Block.wantReset, Block.updDrop, hgo.upd, hrecs])
  · rw [sameOutside_settle]
    exact (sameOutside_congr rfl).mpr (hout.trans hgo.sameOutside)
  · rw [sameMem_settle]
    exact (sameMem_congr rfl rfl).mpr (hmem.trans hgo.sameMem)

theorem settle_updAct_stream {c : Block} {h : UpdHeader} (hh : c.upd.head = some h) (hk : h.kind = 1)
    (htag : c.bit F.UPD_TXN_VALID = false) (hlen : c.upd.recs.length = 2) :
    let t := c.updAct.settle
    t.updState = updIdle ∧ t.resetWanted = some (c.resetWanted.getD 2) ∧ t.bootRec.preferred = c.upd.target + 1 ∧ t.bootRec.trials = 3
      ∧ SameOutside [0x07] c t ∧ SameMem c t := by
  rw [Block.updAct_stream hh hk htag]
  have hboot := Block.bootRec_writeRec (b := { c with upd.armed := none }) (trialNext c.upd.target) hlen
  have hreset := (({ c with upd.armed := none } : Block).touches_writeRec (trialNext c.upd.target)).resetWanted
  have hrec := ({ c with upd.armed := none } : Block).sameOutside_writeRec (trialNext c.upd.target)
  have hrecMem := ({ c with upd.armed := none } : Block).sameMem_writeRec (trialNext c.upd.target)
  generalize ({ c with upd.armed := none } : Block).writeRec (trialNext c.upd.target) = d at *
  obtain ⟨hstate, hwant, hbr, hout, hmem⟩ := settle_updDrop_wantReset d 2
  refine ⟨hstate, by rw [hwant, hreset], ?_, ?_, hrec.trans hout, hrecMem.trans hmem⟩
  · rw [hbr, hboot]
    rfl
  · rw [hbr, hboot]
    rfl

theorem settle_updArm_now {b : Block} {h : UpdHeader} (n : Nat) (hst : b.updState = updReady) (hr : b.role = 0) (hh : b.upd.head = some h)
    (hk : h.kind = 1) (hlen : b.upd.recs.length = 2) (htag : b.bit F.UPD_TXN_VALID = false) :
    let t := (b.updArm n).2.settle
    t.updState = updIdle ∧ t.resetWanted = some (b.resetWanted.getD 2) ∧ t.bootRec.preferred = b.upd.target + 1 ∧ t.bootRec.trials = 3
      ∧ SameOutside [0x07] b t ∧ SameMem b t := by
  have hgo := b.touches_updGo updArmed
  have htag' : (b.updGo updArmed).bit F.UPD_TXN_VALID = false := by
    rw [Block.bit, Block.get_updGo _ _ (by decide) (by decide) (by decide), ← Block.bit, htag]
  rw [Block.updArm_now n hst hr]
  obtain ⟨hstate, hwant, hpref, htrials, hout, hmem⟩ :=
    settle_updAct_stream (c := b.updGo updArmed) (by rw [hgo.upd, hh]) hk htag' (by rw [hgo.upd, hlen])
  exact ⟨hstate, by rw [hwant, hgo.resetWanted], by rw [hpref, hgo.upd], htrials, hgo.sameOutside.trans hout, hgo.sameMem.trans hmem⟩

/-! ### Trial and confirm (R468) -/

theorem Block.holdKeys_spec (b : Block) (keys : List (Option SecKey)) :
    let t := b.holdKeys keys
    t.updState = b.updState ∧ t.upd.recs = b.upd.recs ∧ t.clk = b.clk ∧ SameOutside [0x07] b t ∧ SameMem b t := by
  simp (disch := decide) [Block.holdKeys, Block.updState, SameMem, Block.dramByte, Block.qdrByte]

theorem Block.burn_spec (b : Block) (x : Burn) :
    let t := b.burn x
    t.regs = b.regs ∧ t.upd.recs = b.upd.recs ∧ t.clk = b.clk ∧ t.dram = b.dram ∧ t.qdr = b.qdr := by
  unfold Block.burn
  cases b.upd.burns.isEmpty <;> exact ⟨rfl, rfl, rfl, rfl, rfl⟩

theorem Block.when_burn_spec (b : Block) (c : Bool) (x : Burn) :
    let t := b.when c (·.burn x)
    t.regs = b.regs ∧ t.upd.recs = b.upd.recs ∧ t.clk = b.clk ∧ t.dram = b.dram ∧ t.qdr = b.qdr := by
  cases c
  · exact ⟨rfl, rfl, rfl, rfl, rfl⟩
  · exact b.burn_spec x

/-- The record says that slot `s` is confirmed, and no other. -/
def confirmed (s : Nat) (r : BootRec) : BootRec :=
  let r := (r.onEntry s (fun e => { e with state := 3 })).onEntry (1 - s) (fun e => if e.state = 3 then { e with state := 1 } else e)
  { r with setKeep := 0xFF }

theorem entry_confirmed (r : BootRec) {s : Nat} (h2 : s < 2) (hlen : s < r.slots.length) :
    ((confirmed s r).entry s).state = 3 ∧ ((confirmed s r).entry (1 - s)).state ≠ 3 := by
  have hne : 1 - s ≠ s := by omega
  constructor
  · exact (congrArg SlotEntry.state (BootRec.entry_onEntry_ne _ _ hne)).trans
      (congrArg SlotEntry.state (r.entry_onEntry_self _ hlen))
  · by_cases ho : 1 - s < (r.onEntry s (fun e => { e with state := 3 })).slots.length
    · have hself : (confirmed s r).entry (1 - s) = _ := BootRec.entry_onEntry_self _ (fun e => if e.state = 3 then { e with state := 1 } else e) ho
      rw [hself]
      split
      · exact (by decide : (1 : Nat) ≠ 3)
      · assumption
    · have hnone : (confirmed s r).entry (1 - s) = ⟨0, 0, 0, 0, 0⟩ := by
        rw [BootRec.entry, List.getD_eq_default]
        simpa [confirmed, BootRec.onEntry] using ho
      rw [hnone]
      decide

/-- The old keys are dropped and the trial slot confirmed. -/
def Block.confirm (b : Block) (s : Nat) : Block := (b.holdKeys ((b.upd.store.set 1 none).set 3 none)).writeRec (confirmed s)

theorem Block.updConfirm_eq {b : Block} {s : Nat} (h : b.trialSlot = some s) : ∃ (c : Bool) (x : Burn),
    b.updConfirm = (b.confirm s).when c (·.burn x) := by
  obtain ⟨-, hrecs, -, hout, -⟩ := b.holdKeys_spec ((b.upd.store.set 1 none).set 3 none)
  have htrial : (b.holdKeys ((b.upd.store.set 1 none).set 3 none)).trialSlot = some s := by
    rw [Block.trialSlot_congr hrecs (hout.get (by decide)), h]
  have hgoal : b.updConfirm = (b.confirm s).when (decide ((b.confirm s).fuses.antiRollback < (b.confirm s).counterGoal ((b.confirm s).bootRec.entry s).sv))
      (·.burn ⟨2, (b.confirm s).counterGoal ((b.confirm s).bootRec.entry s).sv, []⟩) := by
    rw [Block.updConfirm]
    dsimp only
    rw [htrial]
    rfl
  exact ⟨_, _, hgoal⟩

theorem settle_updConfirm {b : Block} {s : Nat} (h : b.trialSlot = some s) (hlen : b.upd.recs.length = 2) :
    let t := b.updConfirm.settle
    (t.bootRec.entry s).state = 3 ∧ t.bootRec.setKeep = 0xFF ∧ (t.bootRec.entry (1 - s)).state ≠ 3 ∧ t.updState = b.updState
      ∧ t.clk = b.clk ∧ SameOutside [0x07] b t ∧ SameMem b t := by
  obtain ⟨h2, hin⟩ := Block.trialSlot_some h
  obtain ⟨c, x, he⟩ := Block.updConfirm_eq h
  obtain ⟨hregs, hrecs, hclk, hdram, hqdr⟩ := (b.confirm s).when_burn_spec c x
  obtain ⟨hkState, hkRecs, hkClk, hkOut, hkMem⟩ := b.holdKeys_spec ((b.upd.store.set 1 none).set 3 none)
  obtain ⟨hself, hother⟩ := entry_confirmed b.bootRec h2 hin
  have hboot : ((b.confirm s).when c (·.burn x)).bootRec = { confirmed s b.bootRec with ok := true, seq := b.bootRec.seq + 1 } := by
    rw [Block.bootRec_congr hrecs, Block.confirm, Block.bootRec_writeRec _ (by rw [hkRecs, hlen]), Block.bootRec_congr hkRecs]
  rw [he]
  refine ⟨?_, ?_, ?_, ?_, ?_, ?_, ?_⟩
  · rw [Block.settle_bootRec, hboot]
    exact hself
  · rw [Block.settle_bootRec, hboot]
    rfl
  · rw [Block.settle_bootRec, hboot]
    exact hother
  · rw [Block.settle_updState, Block.updState, Block.get_congr hregs, ← Block.updState, Block.confirm, Block.updState_writeRec, hkState]
  · rw [Block.settle_clk, hclk, Block.confirm, (Block.writeRec_cfg_clk _ _).2, hkClk]
  · rw [sameOutside_settle, sameOutside_congr hregs, Block.confirm]
    exact hkOut.trans (Block.sameOutside_writeRec _ _)
  · rw [sameMem_settle, sameMem_congr hdram hqdr, Block.confirm]
    exact hkMem.trans (Block.sameMem_writeRec _ _)

theorem entry_fail (r : BootRec) {s : Nat} (hlen : s < r.slots.length) :
    ((r.fail s).entry s).state = 4 ∧ (r.fail s).preferred = 2 - s := by
  have hself : ((r.onEntry s (fun e => { e with state := 4 })).entry s).state = 4 :=
    congrArg SlotEntry.state (r.entry_onEntry_self _ hlen)
  unfold BootRec.fail
  dsimp only
  split <;> exact ⟨hself, rfl⟩

/-- The trial slot is written as FAILED. -/
def Block.reverted (b : Block) (s : Nat) : Block := b.writeRec (fun r => r.fail s)

theorem Block.reverted_spec {b : Block} {s : Nat} (h : b.trialSlot = some s) (hlen : b.upd.recs.length = 2) :
    let t := b.reverted s
    (t.bootRec.entry s).state = 4 ∧ t.bootRec.preferred = 2 - s ∧ t.role = b.role ∧ t.nextLaunch = b.nextLaunch
      ∧ t.resetWanted = b.resetWanted ∧ SameOutside [0x07] b t ∧ SameMem b t := by
  obtain ⟨-, hin⟩ := Block.trialSlot_some h
  obtain ⟨hself, hpref⟩ := entry_fail b.bootRec hin
  have hrec := b.touches_writeRec (fun r => r.fail s)
  have hout := b.sameOutside_writeRec (fun r => r.fail s)
  have hfrm : (b.reverted s).frm = b.frm := by rw [Block.reverted, hrec.frm]
  have hget {f : Fld} (hf : keyAddr f.addr / 0x10000 ∉ [0x07]) : (b.reverted s).get f = b.get f := hout.get hf
  refine ⟨?_, ?_, ?_, ?_, ?_, hout, b.sameMem_writeRec _⟩
  · rw [Block.reverted, Block.bootRec_writeRec _ hlen]
    exact hself
  · rw [Block.reverted, Block.bootRec_writeRec _ hlen]
    exact hpref
  · rw [Block.role, hget (by decide), Block.role]
  · simp only [Block.nextLaunch, Block.wfn, Block.pair, hfrm, hget (f := F.FRM_WFN_LO) (by decide), hget (f := F.FRM_WFN_HI) (by decide)]
  · rw [Block.reverted, hrec.resetWanted]

theorem Block.updRevert_eq {b : Block} {s : Nat} (h : b.trialSlot = some s) :
    b.updRevert = if (b.reverted s).role = 0 then (b.reverted s).wantReset 2
      else { b.reverted s with upd.revert := some (b.reverted s).nextLaunch } := by
  rw [Block.updRevert, h]
  rfl

/-- What a trial's failure asks for, settled. -/
theorem settle_revert (c : Block) :
    let t := (if c.role = 0 then c.wantReset 2 else { c with upd.revert := some c.nextLaunch }).settle
    t.bootRec = c.bootRec ∧ (c.role = 0 → t.resetWanted = some (c.resetWanted.getD 2))
      ∧ (c.role ≠ 0 → t.upd.revert = some c.nextLaunch) ∧ SameOutside [0x07] c t ∧ SameMem c t := by
  by_cases hr : c.role = 0
  · simp only [hr, if_true]
    exact ⟨Block.bootRec_congr rfl, fun _ => rfl, fun h => absurd rfl h, fun _ _ => rfl, fun _ => ⟨rfl, rfl⟩⟩
  · simp only [hr, if_false]
    exact ⟨Block.bootRec_congr rfl, fun h => absurd h id, fun _ => rfl, fun _ _ => rfl, fun _ => ⟨rfl, rfl⟩⟩

theorem settle_updRevert {b : Block} {s : Nat} (h : b.trialSlot = some s) (hlen : b.upd.recs.length = 2) :
    let t := b.updRevert.settle
    (t.bootRec.entry s).state = 4 ∧ t.bootRec.preferred = 2 - s
      ∧ (b.role = 0 → t.resetWanted = some (b.resetWanted.getD 2)) ∧ (b.role ≠ 0 → t.upd.revert = some b.nextLaunch)
      ∧ SameOutside [0x07] b t ∧ SameMem b t := by
  rw [Block.updRevert_eq h]
  obtain ⟨hself, hpref, hrole, hlaunch, hreset, hout, hmem⟩ := Block.reverted_spec h hlen
  generalize b.reverted s = c at *
  obtain ⟨hboot, hnow, hlater, hout', hmem'⟩ := settle_revert c
  exact ⟨by rw [hboot, hself], by rw [hboot, hpref], fun h0 => by rw [hnow (by rw [hrole, h0]), hreset],
    fun h0 => by rw [hlater (by rw [hrole]; exact h0), hlaunch], hout.trans hout', hmem.trans hmem'⟩

@[simp] theorem Block.untilClk_trialSlot (b : Block) (n : Nat) : (b.untilClk n).trialSlot = b.trialSlot := rfl

theorem autoConfirm_eq {b : Block} {s t0 : Nat} (h : b.trialSlot = some s) (hfrom : b.upd.runFrom = some t0)
    (hauto : b.bit F.UPD_CTRL_AUTO_CONFIRM = true) (hstage : b.stage = stageRun) :
    autoConfirm b = (b.untilClk (t0 + max 1 (b.get F.UPD_CTRL_CONFIRM_S) * 1000000000)).updConfirm := by
  rw [autoConfirm, hfrom]
  dsimp only
  rw [if_pos (by rw [hauto, hstage, h]; rfl)]

/-- CONFIRM at a later time. -/
theorem settle_untilClk_updConfirm {b : Block} {s : Nat} (n : Nat) (h : b.trialSlot = some s) (hlen : b.upd.recs.length = 2) :
    let t := (b.untilClk n).updConfirm.settle
    (t.bootRec.entry s).state = 3 ∧ t.clk = max b.clk n ∧ SameOutside [0x07] b t ∧ SameMem b t := by
  have hout : SameOutside [0x07] b (b.untilClk n) := (sameOutside_untilClk _ _ _ _).mpr (.refl _ b)
  have hmem : SameMem b (b.untilClk n) := (sameMem_untilClk _ _ _).mpr (.refl b)
  have hclk : (b.untilClk n).clk = max b.clk n := b.untilClk_clk n
  have htrial : (b.untilClk n).trialSlot = some s := (b.untilClk_trialSlot n).trans h
  have hrecs : (b.untilClk n).upd.recs.length = 2 := by rw [Block.untilClk_upd, hlen]
  generalize b.untilClk n = c at *
  obtain ⟨hself, -, -, -, hclk', hout', hmem'⟩ := settle_updConfirm htrial hrecs
  exact ⟨hself, by rw [hclk', hclk], hout.trans hout', hmem.trans hmem'⟩

/-! ### Burns (R454) -/

/-- The counter after one more step of its burn. -/
def Block.counterStep (b : Block) (rest : List Burn) (from' n : Nat) : Block :=
  { b with upd := { b.upd with burns := rest, burnFrom := from' }, fuses := { b.fuses with antiRollback := n } }

theorem Block.get_updShow_counter (b : Block) : b.updShow.get F.UPD_BOOT_COUNTER = b.fuses.antiRollback % 2 ^ F.UPD_BOOT_COUNTER.width := by
  simp (disch := decide) [Block.updShow, Block.each]

theorem settle_setBurns (d : Block) (burns : List Burn) :
    let t := ({ d with upd.burns := burns } : Block).settle
    t.fuses = d.fuses ∧ (∀ f, t.get f = d.get f) ∧ t.upd.burns = burns ∧ t.clk = d.clk ∧ SameOutside [0x07] d t ∧ SameMem d t :=
  ⟨rfl, fun _ => rfl, rfl, rfl, fun _ _ => rfl, fun _ => ⟨rfl, rfl⟩⟩

/-- The burn at the front goes on until the counter is at its goal. -/
def Block.burnOn (d : Block) (goal : Nat) (burns : List Burn) : Block :=
  if d.fuses.antiRollback < goal then { d with upd.burns := burns } else d

theorem settle_burnOn (d : Block) (goal : Nat) (burns : List Burn) :
    let t := (d.burnOn goal burns).settle
    t.fuses = d.fuses ∧ (∀ f, t.get f = d.get f) ∧ t.upd.burns = (if d.fuses.antiRollback < goal then burns else d.upd.burns)
      ∧ t.clk = d.clk ∧ SameOutside [0x07] d t ∧ SameMem d t := by
  unfold Block.burnOn
  by_cases hg : d.fuses.antiRollback < goal
  · simp only [hg, if_true]
    exact settle_setBurns d burns
  · simp only [hg, if_false]
    exact ⟨rfl, fun _ => rfl, rfl, rfl, fun _ _ => rfl, fun _ => ⟨rfl, rfl⟩⟩

/-- The counter is one more, as UPD_BOOT shows. -/
def Block.counterShown (c : Block) (rest : List Burn) : Block := (c.counterStep rest c.clk (c.fuses.antiRollback + 1)).updShow

theorem Block.counterShown_spec (c : Block) (rest : List Burn) :
    let d := c.counterShown rest
    d.fuses = { c.fuses with antiRollback := c.fuses.antiRollback + 1 }
      ∧ d.get F.UPD_BOOT_COUNTER = (c.fuses.antiRollback + 1) % 2 ^ F.UPD_BOOT_COUNTER.width ∧ d.upd.burns = rest ∧ d.clk = c.clk
      ∧ SameOutside [0x07] c d ∧ SameMem c d := by
  have hshow := (c.counterStep rest c.clk (c.fuses.antiRollback + 1)).touches_updShow
  have hburns : (c.counterShown rest).upd.burns = rest := by
    rw [Block.counterShown, hshow.upd]
    rfl
  exact ⟨hshow.fuses, Block.get_updShow_counter _, hburns, hshow.clk,
    SameOutside.trans (c := c.counterStep rest c.clk (c.fuses.antiRollback + 1)) (fun _ _ => rfl) hshow.sameOutside,
    SameMem.trans (c := c.counterStep rest c.clk (c.fuses.antiRollback + 1)) (fun _ => ⟨rfl, rfl⟩) hshow.sameMem⟩

theorem settle_counterShown (c : Block) (goal : Nat) (hash : List Byte) (rest : List Burn) :
    let t := ((c.counterShown rest).burnOn goal (⟨2, goal, hash⟩ :: rest)).settle
    t.fuses = { c.fuses with antiRollback := c.fuses.antiRollback + 1 }
      ∧ t.get F.UPD_BOOT_COUNTER = (c.fuses.antiRollback + 1) % 2 ^ F.UPD_BOOT_COUNTER.width
      ∧ t.upd.burns = (if c.fuses.antiRollback + 1 < goal then ⟨2, goal, hash⟩ :: rest else rest)
      ∧ t.clk = c.clk ∧ SameOutside [0x07] c t ∧ SameMem c t := by
  obtain ⟨hfuse, hget, hburns, hclk, hout, hmem⟩ := c.counterShown_spec rest
  generalize c.counterShown rest = d at *
  obtain ⟨kfuses, kget, kburns, kclk, kout, kmem⟩ := settle_burnOn d goal (⟨2, goal, hash⟩ :: rest)
  exact ⟨by rw [kfuses, hfuse], by rw [kget, hget], by rw [kburns, hfuse, hburns], by rw [kclk, hclk], hout.trans kout, hmem.trans kmem⟩

theorem fuseBurnDone_counter {b : Block} {goal : Nat} (after : Nat) {hash : List Byte} {rest : List Burn}
    (h : b.upd.burns = ⟨2, goal, hash⟩ :: rest) : fuseBurnDone true after b
      = ((b.untilClk (b.upd.burnFrom + min after 20000000)).counterShown rest).burnOn goal (⟨2, goal, hash⟩ :: rest) := by
  unfold fuseBurnDone
  simp -implicitDefEqProofs only [h, if_true, Bool.not_true, Bool.false_eq_true, if_false]
  generalize b.untilClk (b.upd.burnFrom + min after 20000000) = c
  rfl

theorem settle_fuseBurnDone {b : Block} {goal : Nat} (after : Nat) {hash : List Byte} {rest : List Burn}
    (h : b.upd.burns = ⟨2, goal, hash⟩ :: rest) :
    let t := (fuseBurnDone true after b).settle
    t.fuses = { b.fuses with antiRollback := b.fuses.antiRollback + 1 }
      ∧ t.get F.UPD_BOOT_COUNTER = (b.fuses.antiRollback + 1) % 2 ^ F.UPD_BOOT_COUNTER.width
      ∧ t.upd.burns = (if b.fuses.antiRollback + 1 < goal then ⟨2, goal, hash⟩ :: rest else rest)
      ∧ t.clk = max b.clk (b.upd.burnFrom + min after 20000000) ∧ SameOutside [0x07] b t ∧ SameMem b t := by
  have hout : SameOutside [0x07] b (b.untilClk (b.upd.burnFrom + min after 20000000)) := (sameOutside_untilClk _ _ _ _).mpr (.refl _ b)
  have hmem : SameMem b (b.untilClk (b.upd.burnFrom + min after 20000000)) := (sameMem_untilClk _ _ _).mpr (.refl b)
  have hfuses := b.untilClk_fuses (b.upd.burnFrom + min after 20000000)
  rw [fuseBurnDone_counter after h, ← hfuses, ← b.untilClk_clk]
  generalize b.untilClk (b.upd.burnFrom + min after 20000000) = c at *
  obtain ⟨kfuses, kget, kburns, kclk, kout, kmem⟩ := settle_counterShown c goal hash rest
  exact ⟨kfuses, kget, kburns, kclk, hout.trans kout, hmem.trans kmem⟩

/-- Settles O45, clause by clause from what each step does to STATE, the image, the record and the fuses. -/
theorem updateLife : Obligations.UpdateLife := by
  unfold Obligations.UpdateLife
  refine ⟨fun b h s po sh after hr hst hc hh hk hhash hok hlen => ?_, fun b h s po sh after hr hst hc hh hhash => ?_,
    fun b h after hr hst hc hh hk hlen => ?_, fun b p v hr hg hop hst => ?_, fun b p v hr hg hst hrole => ⟨fun hop => ?_, fun hop hn => ?_,
      fun hop hn => ?_⟩, fun b p v h hr hg hst hrole hop hh hk hlen htag => ?_, fun b p v s hr hg htrial hlen => ⟨fun hop => ?_, fun hop => ?_⟩,
    fun b s t0 hr htrial hlen hfrom hauto hstage => ?_, fun b goal after hash rest hr hb => ?_⟩
  · exact gives_of_done hr (fun _ => rfl) (settle_updVerifyDone_stream s po sh after hst hc hh hk hhash hok hlen)
  · exact gives_of_done hr (fun _ => rfl) (settle_updVerifyDone_hash s po sh after hst hc hh hhash)
  · exact gives_of_done hr (fun _ => rfl) (settle_updWriteDone after hst hc hh hk hlen)
  · refine gives_of_writing hr hg (fun _ => rfl) ?_
    simp only [updCmd, hop]
    exact settle_updPrepare hst (Fld.of_lt _ _)
  · refine gives_of_writing hr hg (fun _ => rfl) ?_
    simp only [updCmd, hop]
    rw [Block.updArm_early hst hrole (Nat.le_refl _)]
    exact settle_arm b _
  · refine gives_of_writing hr hg (fun _ => rfl) ?_
    simp only [updCmd, hop]
    rw [Block.updArm_early hst hrole hn]
    exact settle_arm b _
  · refine gives_of_writing hr hg (fun _ => rfl) ?_
    simp only [updCmd, hop]
    rw [Block.updArm_late hst hrole hn]
    exact settle_updTell_MISSED hst
  · refine gives_of_writing hr hg (fun _ => rfl) ?_
    simp only [updCmd, hop]
    exact settle_updArm_now _ hst hrole hh hk hlen htag
  · refine gives_of_writing hr hg (fun _ => rfl) ?_
    simp only [updCmd, hop]
    obtain ⟨hself, hkeep, hother, hstate, -, hout, hmem⟩ := settle_updConfirm htrial hlen
    exact ⟨hself, hkeep, hother, hstate, hout, hmem⟩
  · refine gives_of_writing hr hg (fun _ => rfl) ?_
    simp only [updCmd, hop]
    exact settle_updRevert htrial hlen
  · refine gives_of_done (t := autoConfirm b) hr (fun _ => rfl) ?_
    rw [autoConfirm_eq htrial hfrom hauto hstage]
    exact settle_untilClk_updConfirm _ htrial hlen
  · exact gives_of_done hr (fun _ => rfl) (settle_fuseBurnDone after hb)

end Sys2Proof.Machine
end

section
/-!
PROOFS of chapter 10: the registers of a string and the steps of its state.
-/

namespace Sys2Proof.Machine

/-! ### Where a string's registers stand -/

section
variable (s : Nat)
@[simp] theorem strState_addr : (F.STR_STRn_STATUS_STATE s).addr = 0x243000 + 0x10 * s := rfl
@[simp] theorem strRetOk_addr : (F.STR_STRn_STATUS_RET_OK s).addr = 0x243000 + 0x10 * s := rfl
@[simp] theorem strEnumCount_addr : (F.STR_STRn_STATUS_ENUM_COUNT s).addr = 0x243000 + 0x10 * s := rfl
@[simp] theorem strRetries_addr : (F.STR_STRn_STATUS_RETRIES_USED s).addr = 0x243000 + 0x10 * s := rfl
@[simp] theorem strMeasMv_addr : (F.STR_STRn_RAIL_STATUS_MEAS_MV s).addr = 0x243004 + 0x10 * s := rfl
@[simp] theorem strSetMv_addr : (F.STR_STRn_RAIL_STATUS_SET_MV s).addr = 0x243004 + 0x10 * s := rfl
@[simp] theorem strLoop_addr : (F.STR_STRn_HEADROOM_LOOP s).addr = 0x243008 + 0x10 * s := rfl
@[simp] theorem strDriver_addr : (F.STR_STRn_HEADROOM_DRIVER s).addr = 0x243008 + 0x10 * s := rfl
@[simp] theorem strH_addr : (F.STR_STRn_HEADROOM_H s).addr = 0x243008 + 0x10 * s := rfl
@[simp] theorem strFailed_addr : (F.STR_STRn_LAMPS_FAILED s).addr = 0x24300C + 0x10 * s := rfl
@[simp] theorem strUnmeasured_addr : (F.STR_STRn_LAMPS_UNMEASURED s).addr = 0x24300C + 0x10 * s := rfl
@[simp] theorem strCount_addr (i : Nat) : (F.STR_CNT_Ei i).addr = 0x240040 + 0x4 * i := rfl
@[simp] theorem strTrafficLo_addr (i : Nat) : (F.STR_CNT_Ti_LO i).addr = 0x240080 + 0x8 * i := rfl
@[simp] theorem strTrafficHi_addr (i : Nat) : (F.STR_CNT_Ti_HI i).addr = 0x240084 + 0x8 * i := rfl
@[simp] theorem strChange_addr : F.STR_IRQ_STATUS_STATE_CHANGE.addr = 0x247FF0 := rfl
@[simp] theorem strLampIrq_addr : F.STR_IRQ_STATUS_LAMP_FAILED.addr = 0x247FF0 := rfl
@[simp] theorem strIrqErr_addr : F.STR_IRQ_STATUS_ERR.addr = 0x247FF0 := rfl
@[simp] theorem strFailedTotal_addr : F.STR_FAILED_TOTAL_COUNT.addr = 0x24000C := rfl
end

/-- A register of a string lies in STR's window. -/
@[simp] theorem strWindow {k : Nat} (h : k < 0x8000) : keyAddr (0x240000 + k) / 0x10000 = 0x24 := by
  rw [keyAddr]
  split_ifs <;> omega

theorem Fld.apart_of_addr {f g : Fld} (h : g.addr ≠ f.addr) : g.apart f = true := (Fld.apart_iff g f).mpr (.inr (.inr h))

/-! ### STATE and rail -/

/-- STATE of a string changes. -/
theorem Block.setStr_spec (b : Block) {s st : Nat} (hs : s < 96) (hst : st < 8) :
    let t := b.setStr s st
    t = { b with regs := t.regs } ∧ t.strState s = st ∧ SameOutside [0x24] b t
      ∧ (∀ g : Fld, g.apart (F.STR_STRn_STATUS_STATE s) = true → g.addr ≠ R.STR_IRQ_STATUS → t.get g = b.get g)
      ∧ (b.strState s ≠ st → t.bit F.STR_IRQ_STATUS_STATE_CHANGE = true) := by
  have hfits : st % 2 ^ (F.STR_STRn_STATUS_STATE s).width = st := Nat.mod_eq_of_lt hst
  have hwin : keyAddr (0x243000 + 0x10 * s) / 0x10000 = 0x24 := by
    rw [show 0x243000 + 0x10 * s = 0x240000 + (0x3000 + 0x10 * s) by omega]
    exact strWindow (by omega)
  unfold Block.setStr
  split
  · next h => exact ⟨rfl, h, .refl _ b, fun _ _ _ => rfl, fun hne => absurd h hne⟩
  · refine ⟨rfl, ?_, ?_, fun g hg hi => ?_, fun _ => ?_⟩
    · simp (disch := first | decide | exact of_decide_eq_true rfl | (simp [Fld.apart_iff] <;> omega) | fail) [Block.strState, hfits]
    · simp (disch := first | decide | (simp [hwin] <;> done) | fail)
    · simp only [Block.irq_eq]
      rw [Block.get_set_apart _ _ rfl (Fld.apart_of_addr hi), Block.get_set_apart _ _ rfl hg]
    · simp (disch := decide)

theorem Block.strand_onStr (b : Block) {s : Nat} (f : Strand → Strand) (h : s < b.str.strings.length) :
    (b.onStr s f).strand s = f (b.strand s) := by
  simp [Block.strand, Block.onStr, h]

@[simp] theorem Block.length_onStr (b : Block) (s : Nat) (f : Strand → Strand) : (b.onStr s f).str.strings.length = b.str.strings.length := by
  simp [Block.onStr]

/-- The rail setpoint of a string changes. -/
theorem Block.setRail_spec (b : Block) {s mv : Nat} (hs : s < 96) (hmv : mv < 2 ^ 13) :
    let t := b.setRail s mv
    t = { b with regs := t.regs, str := t.str } ∧ t.get (F.STR_STRn_RAIL_STATUS_SET_MV s) = mv ∧ SameOutside [0x24] b t
      ∧ (∀ g : Fld, g.apart (F.STR_STRn_RAIL_STATUS_SET_MV s) = true → t.get g = b.get g)
      ∧ t.str.strings.length = b.str.strings.length := by
  have hfits : mv % 2 ^ (F.STR_STRn_RAIL_STATUS_SET_MV s).width = mv := Nat.mod_eq_of_lt hmv
  have hwin : keyAddr (0x243004 + 0x10 * s) / 0x10000 = 0x24 := by
    rw [show 0x243004 + 0x10 * s = 0x240000 + (0x3004 + 0x10 * s) by omega]
    exact strWindow (by omega)
  unfold Block.setRail
  dsimp only
  split
  · next h => exact ⟨rfl, h, .refl _ b, fun _ _ => rfl, rfl⟩
  · refine ⟨rfl, ?_, ?_, fun g hg => ?_, ?_⟩
    · exact (Block.get_set_self b mv rfl).trans hfits
    · exact (sameOutside_congr (u := b.set (F.STR_STRn_RAIL_STATUS_SET_MV s) mv) rfl).mpr ((sameOutside_set _ (by simp [hwin])).mpr (.refl _ b))
    · exact Block.get_set_apart b mv rfl hg
    · simp

/-- Changes of STR's own record alone. -/
def StrOnly (b t : Block) : Prop := t = { b with str := t.str } ∧ t.str.strings.length = b.str.strings.length ∧ t.str.loading = b.str.loading

theorem StrOnly.trans {b c t : Block} (h : StrOnly b c) (k : StrOnly c t) : StrOnly b t :=
  ⟨by rw [k.1, h.1], k.2.1.trans h.2.1, k.2.2.trans h.2.2⟩

theorem strOnly_onStr (b : Block) (s : Nat) (f : Strand → Strand) : StrOnly b (b.onStr s f) := ⟨rfl, b.length_onStr s f, rfl⟩

theorem StrOnly.get {b t : Block} (h : StrOnly b t) (g : Fld) : t.get g = b.get g := Block.get_congr (by rw [h.1]) g

theorem StrOnly.strState {b t : Block} (h : StrOnly b t) (s : Nat) : t.strState s = b.strState s := h.get _

theorem StrOnly.sameOutside {l : List Nat} {b t : Block} (h : StrOnly b t) : SameOutside l b t :=
  (sameOutside_congr (by rw [h.1])).mpr (.refl _ b)

/-- A step of a string's state: registers of STR and the string's record. -/
def StrStep (b t : Block) : Prop :=
  t = { b with regs := t.regs, str := t.str } ∧ SameOutside [0x24] b t ∧ t.str.strings.length = b.str.strings.length

theorem StrStep.trans {b c t : Block} (h : StrStep b c) (k : StrStep c t) : StrStep b t :=
  ⟨by rw [k.1, h.1], h.2.1.trans k.2.1, k.2.2.trans h.2.2⟩

theorem StrOnly.step {b t : Block} (h : StrOnly b t) : StrStep b t := ⟨by rw [h.1], h.sameOutside, h.2.1⟩

theorem StrStep.clk {b t : Block} (h : StrStep b t) : t.clk = b.clk := by rw [h.1]
theorem StrStep.stc {b t : Block} (h : StrStep b t) : t.stc = b.stc := by rw [h.1]
theorem StrStep.sameMem {b t : Block} (h : StrStep b t) : SameMem b t := sameMem_of_eq (by rw [h.1]) (by rw [h.1])

/-- A field with none of the registers that a change of a string's state writes. -/
def Beside (s : Nat) (g : Fld) : Prop := g.addr ≠ R.STR_STRn_STATUS s ∧ g.addr ≠ R.STR_IRQ_STATUS ∧ g.addr ≠ R.STR_STRn_RAIL_STATUS s

theorem Block.strDown_spec (b : Block) {s st : Nat} (hs : s < 96) (hst : st < 8) :
    let t := b.strDown s st
    StrStep b t ∧ t.strState s = st ∧ t.get (F.STR_STRn_RAIL_STATUS_SET_MV s) = 0 ∧ ∀ g, Beside s g → t.get g = b.get g := by
  obtain ⟨heq1, hst1, hout1, hget1, -⟩ := b.setStr_spec hs hst
  obtain ⟨heq2, hmv2, hout2, hget2, hlen2⟩ := (b.setStr s st).setRail_spec (mv := 0) hs (by decide)
  have hwin : keyAddr (0x243000 + 0x10 * s) / 0x10000 = 0x24 := by
    rw [show 0x243000 + 0x10 * s = 0x240000 + (0x3000 + 0x10 * s) by omega]
    exact strWindow (by omega)
  have hstr1 : (b.setStr s st).str = b.str := by rw [heq1]
  have htail : StrOnly (((b.setStr s st).setRail s 0).set (F.STR_STRn_STATUS_RET_OK s) 0) (b.strDown s st) :=
    (strOnly_onStr _ _ _).trans (strOnly_onStr _ _ _)
  have hset : StrStep ((b.setStr s st).setRail s 0) (((b.setStr s st).setRail s 0).set (F.STR_STRn_STATUS_RET_OK s) 0) :=
    ⟨rfl, (sameOutside_set _ (by simp [hwin])).mpr (.refl _ _), rfl⟩
  have hrail : StrStep (b.setStr s st) ((b.setStr s st).setRail s 0) := ⟨heq2, hout2, hlen2⟩
  have hstate : StrStep b (b.setStr s st) := ⟨by rw [heq1], hout1, by rw [hstr1]⟩
  refine ⟨((hstate.trans hrail).trans hset).trans htail.step, ?_, ?_, fun g hg => ?_⟩
  · rw [htail.strState, Block.strState, Block.get_set_apart _ _ rfl rfl,
      hget2 _ (Fld.apart_of_addr (by simp)), ← Block.strState, hst1]
  · rw [htail.get, Block.get_set_apart _ _ rfl (Fld.apart_of_addr (by simp)), hmv2]
  · obtain ⟨hstatus, hirq, hrailStatus⟩ := hg
    rw [htail.get, Block.get_set_apart _ _ rfl (Fld.apart_of_addr hstatus), hget2 _ (Fld.apart_of_addr hrailStatus),
      hget1 _ (Fld.apart_of_addr hstatus) hirq]

/-- What a string is left with in FAULT. -/
theorem settle_strFaulted (b : Block) {s : Nat} (hs : s < 96) (hlen : b.str.strings.length = 96) :
    let t := (b.strFaulted s).settle
    t.strState s = strFault ∧ t.get (F.STR_STRn_RAIL_STATUS_SET_MV s) = 0
      ∧ (t.strand s).due = some (b.clk + 1000000 * b.act F.STR_FAULT_CFG_RETRY_MS) ∧ t.clk = b.clk
      ∧ (∀ g, Beside s g → t.get g = b.get g) ∧ SameOutside [0x24] b t ∧ SameMem b t := by
  obtain ⟨hstep, hstate, hmv, hget⟩ := b.strDown_spec (st := strFault) hs (by decide)
  unfold Block.strFaulted
  generalize b.clk + 1000000 * b.act F.STR_FAULT_CFG_RETRY_MS = due
  generalize b.strDown s strFault = d at *
  have hclk := hstep.clk
  have hmem := hstep.sameMem
  obtain ⟨-, hout, hlend⟩ := hstep
  refine ⟨hstate, hmv, ?_, hclk, hget, hout, hmem⟩
  exact congrArg Strand.due (d.strand_onStr (fun q => { q with due := some due }) (by omega))

theorem beside_of_lt {s : Nat} {g : Fld} (h : g.addr < 0x243000) : Beside s g := by
  refine ⟨?_, ?_, ?_⟩ <;> simp only [R.STR_STRn_STATUS, R.STR_IRQ_STATUS, R.STR_STRn_RAIL_STATUS] <;> omega

theorem stringOvercurrent_eq {b : Block} {s : Nat} (h : b.strState s = strRamp ∨ b.strState s = strRun) :
    stringOvercurrent s b = ((b.countSat (F.STR_CNT_Ei 8) 1).raiseAt E.STR_OVERCURRENT s).strFaulted s := by
  have hn : ¬(b.strState s ≠ strRamp ∧ b.strState s ≠ strRun) := by
    rintro ⟨h1, h2⟩
    exact h.elim h1 h2
  rw [stringOvercurrent]
  exact if_neg hn

/-- The count and the error of an overcurrent. -/
theorem overcurrent_told (b : Block) (s : Nat) :
    let c := (b.countSat (F.STR_CNT_Ei 8) 1).raiseAt E.STR_OVERCURRENT s
    c.get (F.STR_CNT_Ei 8) = min (b.get (F.STR_CNT_Ei 8) + 1) (2 ^ 32 - 1) ∧ c.bit F.STR_ERR_OVERCURRENT = true
      ∧ c.act F.STR_FAULT_CFG_RETRY_MS = b.act F.STR_FAULT_CFG_RETRY_MS ∧ c.clk = b.clk ∧ c.str = b.str ∧ SameOutside [0x24, 0x30] b c ∧ SameMem b c := by
  have hfits : min (b.get (F.STR_CNT_Ei 8) + 1) (2 ^ 32 - 1) % 2 ^ (F.STR_CNT_Ei 8).width = min (b.get (F.STR_CNT_Ei 8) + 1) (2 ^ 32 - 1) :=
    Nat.mod_eq_of_lt (lt_of_le_of_lt (Nat.min_le_right _ _) (by decide))
  have hself : ∀ x : Block, (x.raiseAt E.STR_OVERCURRENT s).bit E.STR_OVERCURRENT.fld = true := fun x =>
    x.bit_raiseAt_self s (by decide) rfl (by decide) (by decide) (by decide)
  have herr : E.STR_OVERCURRENT.fld = F.STR_ERR_OVERCURRENT := rfl
  rw [herr] at hself
  refine ⟨?_, hself _, ?_, ?_, ?_, ?_, ?_⟩
  · rw [Block.get_raiseAt_apart _ _ (by decide) (by decide) (by decide) (by decide) (by decide), Block.countSat_eq,
      Block.get_set_self _ _ (by decide)]
    exact hfits
  · simp (disch := decide) [Block.act]
  · simp
  · simp
  · simp (disch := decide)
  · simp

theorem settle_stringOvercurrent {b : Block} {s : Nat} (hs : s < 96) (hlen : b.str.strings.length = 96)
    (h : b.strState s = strRamp ∨ b.strState s = strRun) :
    let t := (stringOvercurrent s b).settle
    t.strState s = strFault ∧ t.bit F.STR_ERR_OVERCURRENT = true
      ∧ t.get (F.STR_CNT_Ei 8) = min (b.get (F.STR_CNT_Ei 8) + 1) (2 ^ 32 - 1) ∧ t.get (F.STR_STRn_RAIL_STATUS_SET_MV s) = 0
      ∧ (t.strand s).due = some (b.clk + 1000000 * b.act F.STR_FAULT_CFG_RETRY_MS) ∧ SameOutside [0x24, 0x30] b t ∧ SameMem b t := by
  obtain ⟨hcount, herr, hact, hclk, hstr, hout, hmem⟩ := overcurrent_told b s
  rw [stringOvercurrent_eq h]
  generalize (b.countSat (F.STR_CNT_Ei 8) 1).raiseAt E.STR_OVERCURRENT s = c at *
  obtain ⟨kstate, kmv, kdue, -, kget, kout, kmem⟩ := settle_strFaulted c hs (by rw [hstr, hlen])
  refine ⟨kstate, ?_, ?_, kmv, ?_, hout.trans (kout.mono (by decide)), hmem.trans kmem⟩
  · rw [Block.bit, kget _ (beside_of_lt (by decide)), ← Block.bit, herr]
  · rw [kget _ (beside_of_lt (by decide)), hcount]
  · rw [kdue, hclk, hact]

theorem stringRailFault_eq {b : Block} {s mv : Nat} (h : b.strState s = strRamp ∨ b.strState s = strRun)
    (hv : 100 * mv < 95 * b.get (F.STR_STRn_RAIL_STATUS_SET_MV s) ∨ 105 * b.get (F.STR_STRn_RAIL_STATUS_SET_MV s) < 100 * mv) :
    stringRailFault s mv b = (((b.untilClk ((b.strand s).slewEnd + 100000)).set (F.STR_STRn_RAIL_STATUS_MEAS_MV s) mv).raiseAt
      E.STR_RAIL_FAULT s).strFaulted s := by
  have hn : ¬(b.strState s ≠ strRamp ∧ b.strState s ≠ strRun
      ∨ 95 * b.get (F.STR_STRn_RAIL_STATUS_SET_MV s) ≤ 100 * mv ∧ 100 * mv ≤ 105 * b.get (F.STR_STRn_RAIL_STATUS_SET_MV s)) := by
    rintro (⟨h1, h2⟩ | ⟨h1, h2⟩)
    · exact h.elim h1 h2
    · omega
  rw [stringRailFault]
  exact if_neg hn

/-- The measured voltage and the error of a rail fault. -/
theorem railFault_told (b : Block) {s : Nat} (n mv : Nat) (hs : s < 96) :
    let c := ((b.untilClk n).set (F.STR_STRn_RAIL_STATUS_MEAS_MV s) mv).raiseAt E.STR_RAIL_FAULT s
    c.get (F.STR_CNT_Ei 8) = b.get (F.STR_CNT_Ei 8) ∧ c.bit F.STR_ERR_RAIL_FAULT = true
      ∧ c.act F.STR_FAULT_CFG_RETRY_MS = b.act F.STR_FAULT_CFG_RETRY_MS ∧ c.clk = max b.clk n ∧ c.str = b.str ∧ SameOutside [0x24, 0x30] b c
      ∧ SameMem b c := by
  have hwin : keyAddr (0x243004 + 0x10 * s) / 0x10000 = 0x24 := by
    rw [show 0x243004 + 0x10 * s = 0x240000 + (0x3004 + 0x10 * s) by omega]
    exact strWindow (by omega)
  have hself : ∀ x : Block, (x.raiseAt E.STR_RAIL_FAULT s).bit E.STR_RAIL_FAULT.fld = true := fun x =>
    x.bit_raiseAt_self s (by decide) rfl (by decide) (by decide) (by decide)
  have herr : E.STR_RAIL_FAULT.fld = F.STR_ERR_RAIL_FAULT := rfl
  rw [herr] at hself
  refine ⟨?_, hself _, ?_, ?_, ?_, ?_, ?_⟩
  · rw [Block.get_raiseAt_apart _ _ (by decide) (by decide) (by decide) (by decide) (by decide),
      Block.get_set_apart _ _ rfl (Fld.apart_of_addr (by simp; omega)), Block.untilClk_get]
  · rw [Block.act, Block.get_raiseAt_apart _ _ (by decide) (by decide) (by decide) (by decide) (by decide),
      Block.get_set_apart _ _ rfl (Fld.apart_of_addr (by simp [Fld.act, F.STR_FAULT_CFG_RETRY_MS, R.STR_FAULT_CFG]; omega)),
      Block.untilClk_get, ← Block.act]
  · simp -implicitDefEqProofs
  · simp -implicitDefEqProofs
  · simp -implicitDefEqProofs (disch := first | decide | (simp [hwin] <;> done) | fail)
  · simp -implicitDefEqProofs

theorem settle_stringRailFault {b : Block} {s mv : Nat} (hs : s < 96) (hlen : b.str.strings.length = 96)
    (h : b.strState s = strRamp ∨ b.strState s = strRun)
    (hv : 100 * mv < 95 * b.get (F.STR_STRn_RAIL_STATUS_SET_MV s) ∨ 105 * b.get (F.STR_STRn_RAIL_STATUS_SET_MV s) < 100 * mv) :
    let t := (stringRailFault s mv b).settle
    t.strState s = strFault ∧ t.bit F.STR_ERR_RAIL_FAULT = true
      ∧ t.get (F.STR_CNT_Ei 8) = b.get (F.STR_CNT_Ei 8) ∧ t.get (F.STR_STRn_RAIL_STATUS_SET_MV s) = 0
      ∧ t.clk = max b.clk ((b.strand s).slewEnd + 100000) ∧ (t.strand s).due = some (t.clk + 1000000 * b.act F.STR_FAULT_CFG_RETRY_MS)
      ∧ SameOutside [0x24, 0x30] b t ∧ SameMem b t := by
  obtain ⟨hcount, herr, hact, hclk, hstr, hout, hmem⟩ := railFault_told b ((b.strand s).slewEnd + 100000) mv hs
  rw [stringRailFault_eq h hv]
  generalize (b.strand s).slewEnd + 100000 = n at *
  generalize ((b.untilClk n).set (F.STR_STRn_RAIL_STATUS_MEAS_MV s) mv).raiseAt E.STR_RAIL_FAULT s = c at *
  obtain ⟨kstate, kmv, kdue, kclk, kget, kout, kmem⟩ := settle_strFaulted c hs (by rw [hstr, hlen])
  refine ⟨kstate, ?_, ?_, kmv, by rw [kclk, hclk], ?_, hout.trans (kout.mono (by decide)), hmem.trans kmem⟩
  · rw [Block.bit, kget _ (beside_of_lt (by decide)), ← Block.bit, herr]
  · rw [kget _ (beside_of_lt (by decide)), hcount]
  · rw [kdue, kclk, hact]

/-! ### Retries -/

theorem Block.strRampUp_spec (b : Block) {s : Nat} (hs : s < 96) :
    let t := b.strRampUp s
    StrStep b t ∧ t.strState s = strRamp ∧ t.get (F.STR_STRn_RAIL_STATUS_SET_MV s) = b.fixedMv s
      ∧ (∀ g, g.addr ≠ R.STR_IRQ_STATUS → g.addr ≠ R.STR_STRn_RAIL_STATUS s → g.apart (F.STR_STRn_STATUS_STATE s) = true → t.get g = b.get g) := by
  obtain ⟨heq1, hst1, hout1, hget1, -⟩ := b.setStr_spec (st := strRamp) hs (by decide)
  have hmv : b.fixedMv s < 2 ^ 13 := Fld.of_lt _ _
  obtain ⟨heq2, hmv2, hout2, hget2, hlen2⟩ := (b.setStr s strRamp).setRail_spec hs hmv
  have htail : StrOnly ((b.setStr s strRamp).setRail s (b.fixedMv s)) (b.strRampUp s) := strOnly_onStr _ _ _
  have hstr1 : (b.setStr s strRamp).str = b.str := by rw [heq1]
  have hrail : StrStep (b.setStr s strRamp) ((b.setStr s strRamp).setRail s (b.fixedMv s)) := ⟨heq2, hout2, hlen2⟩
  have hstate : StrStep b (b.setStr s strRamp) := ⟨by rw [heq1], hout1, by rw [hstr1]⟩
  refine ⟨(hstate.trans hrail).trans htail.step, ?_, ?_, fun g hirq hrailStatus hg => ?_⟩
  · rw [htail.strState, Block.strState, hget2 _ (Fld.apart_of_addr (by simp)), ← Block.strState, hst1]
  · rw [htail.get, hmv2]
  · rw [htail.get, hget2 _ (Fld.apart_of_addr hrailStatus), hget1 _ hg hirq]

/-- The window of the registers of a string's state. -/
theorem strStatus_window {s : Nat} (hs : s < 96) : keyAddr (0x243000 + 0x10 * s) / 0x10000 = 0x24 := by
  rw [show 0x243000 + 0x10 * s = 0x240000 + (0x3000 + 0x10 * s) by omega]
  exact strWindow (by omega)

theorem settle_retry (c : Block) {s used : Nat} (hs : s < 96) (hused : used < 15) :
    let t := ((c.strRampUp s).set (F.STR_STRn_STATUS_RETRIES_USED s) (used + 1)).settle
    t.strState s = strRamp ∧ t.clk = c.clk ∧ t.get (F.STR_STRn_STATUS_RETRIES_USED s) = used + 1
      ∧ t.get (F.STR_STRn_RAIL_STATUS_SET_MV s) = c.fixedMv s ∧ SameOutside [0x24] c t ∧ SameMem c t := by
  obtain ⟨hstep, hstate, hmv, -⟩ := c.strRampUp_spec hs
  have hfits : (used + 1) % 2 ^ (F.STR_STRn_STATUS_RETRIES_USED s).width = used + 1 :=
    Nat.mod_eq_of_lt (by show used + 1 < 16; omega)
  generalize c.strRampUp s = d at *
  refine ⟨?_, hstep.clk, ?_, ?_, ?_, hstep.sameMem⟩
  · exact (Block.get_set_apart d _ rfl rfl).trans hstate
  · exact (Block.get_set_self d _ rfl).trans hfits
  · exact (Block.get_set_apart d _ rfl (Fld.apart_of_addr (by simp))).trans hmv
  · exact (sameOutside_set _ (by simp [strStatus_window hs])).mpr hstep.2.1

theorem settle_lockout (c : Block) {s : Nat} (hs : s < 96) (hlen : c.str.strings.length = 96) :
    let t := (((c.onStr s (fun q => { q with due := none })).setStr s strLockout).raiseAt E.STR_LOCKOUT s).settle
    t.strState s = strLockout ∧ t.clk = c.clk ∧ (t.strand s).due = none ∧ t.bit F.STR_ERR_LOCKOUT = true ∧ SameOutside [0x24, 0x30] c t
      ∧ SameMem c t := by
  have hidle : StrOnly c (c.onStr s (fun q => { q with due := none })) := strOnly_onStr _ _ _
  have hdue : ((c.onStr s (fun q => { q with due := none })).strand s).due = none :=
    congrArg Strand.due (c.strand_onStr (fun q => { q with due := none }) (by omega))
  generalize c.onStr s (fun q => { q with due := none }) = d at *
  obtain ⟨heq, hstate, hout, -, -⟩ := d.setStr_spec (st := strLockout) hs (by decide)
  have hstep : StrStep d (d.setStr s strLockout) := ⟨by rw [heq], hout, by rw [heq]⟩
  have hstr : (d.setStr s strLockout).str = d.str := by rw [heq]
  generalize d.setStr s strLockout = u at *
  have hself : (u.raiseAt E.STR_LOCKOUT s).bit F.STR_ERR_LOCKOUT = true :=
    u.bit_raiseAt_self s (by decide) rfl (by decide) (by decide) (by decide)
  have hall := hidle.step.trans hstep
  have hrise : (u.raiseAt E.STR_LOCKOUT s).strState s = strLockout := by
    rw [← hstate]
    refine Block.get_raiseAt_apart _ _ (by decide) (by decide) (Fld.apart_of_addr ?_) (Fld.apart_of_addr ?_) ?_
    · simp [E.STR_LOCKOUT, F.STR_ERR_LOCKOUT, R.STR_ERR]
      omega
    · simp [E.STR_LOCKOUT]
      omega
    · simp
      omega
  refine ⟨?_, ?_, ?_, ?_, ?_, ?_⟩
  · rw [← hrise]
    exact Block.settle_get _ _
  · rw [Block.settle_clk, Block.raiseAt_clk, hall.clk]
  · rw [← hdue, Block.strand, Block.strand, Block.settle_str, Block.raiseAt_str, hstr]
  · rw [Block.settle_bit, hself]
  · rw [sameOutside_settle, sameOutside_raiseAt _ (by decide) (by decide) (by decide)]
    exact hall.2.1.mono (by decide)
  · rw [sameMem_settle, sameMem_raiseAt]
    exact hall.sameMem

/-- The retry timer of a string in FAULT. -/
theorem stringRetryTimer_eq {b : Block} {s due : Nat} (hst : b.strState s = strFault) (hdue : (b.strand s).due = some due) :
    stringRetryTimer s b = if b.get (F.STR_STRn_STATUS_RETRIES_USED s) < b.act F.STR_FAULT_CFG_RETRIES
      then ((b.untilClk due).strRampUp s).set (F.STR_STRn_STATUS_RETRIES_USED s) (b.get (F.STR_STRn_STATUS_RETRIES_USED s) + 1)
      else (((b.untilClk due).onStr s (fun q => { q with due := none })).setStr s strLockout).raiseAt E.STR_LOCKOUT s := by
  simp -implicitDefEqProofs only [stringRetryTimer, hdue, hst, beq_self_eq_true, Option.filter, if_true, Block.untilClk_get, Block.untilClk_act]

theorem untilClk_spec (b : Block) (n : Nat) :
    let c := b.untilClk n
    c.regs = b.regs ∧ c.str = b.str ∧ c.clk = max b.clk n ∧ SameOutside [0x24] b c ∧ SameMem b c := by
  simp -implicitDefEqProofs

theorem settle_stringRetryTimer_again {b : Block} {s due : Nat} (hs : s < 96) (hst : b.strState s = strFault)
    (hdue : (b.strand s).due = some due) (hused : b.get (F.STR_STRn_STATUS_RETRIES_USED s) < b.act F.STR_FAULT_CFG_RETRIES)
    (hmax : b.act F.STR_FAULT_CFG_RETRIES ≤ 15) :
    let t := (stringRetryTimer s b).settle
    t.strState s = strRamp ∧ t.clk = max b.clk due
      ∧ t.get (F.STR_STRn_STATUS_RETRIES_USED s) = b.get (F.STR_STRn_STATUS_RETRIES_USED s) + 1
      ∧ t.get (F.STR_STRn_RAIL_STATUS_SET_MV s) = b.fixedMv s ∧ SameOutside [0x24] b t ∧ SameMem b t := by
  obtain ⟨hregs, hstr, hclk, hout, hmem⟩ := untilClk_spec b due
  rw [stringRetryTimer_eq hst hdue, if_pos hused]
  generalize b.get (F.STR_STRn_STATUS_RETRIES_USED s) = used at *
  have hfixed : (b.untilClk due).fixedMv s = b.fixedMv s := Block.get_congr hregs _
  generalize b.untilClk due = c at *
  obtain ⟨kstate, kclk, kused, kmv, kout, kmem⟩ := settle_retry c hs (used := used) (by omega)
  exact ⟨kstate, by rw [kclk, hclk], kused, by rw [kmv, hfixed], hout.trans kout, hmem.trans kmem⟩

theorem settle_stringRetryTimer_lockout {b : Block} {s due : Nat} (hs : s < 96) (hlen : b.str.strings.length = 96)
    (hst : b.strState s = strFault) (hdue : (b.strand s).due = some due)
    (hused : b.act F.STR_FAULT_CFG_RETRIES ≤ b.get (F.STR_STRn_STATUS_RETRIES_USED s)) :
    let t := (stringRetryTimer s b).settle
    t.strState s = strLockout ∧ t.clk = max b.clk due ∧ (t.strand s).due = none
      ∧ t.bit F.STR_ERR_LOCKOUT = true ∧ SameOutside [0x24, 0x30] b t ∧ SameMem b t := by
  obtain ⟨hregs, hstr, hclk, hout, hmem⟩ := untilClk_spec b due
  rw [stringRetryTimer_eq hst hdue, if_neg (by omega)]
  generalize b.untilClk due = c at *
  obtain ⟨kstate, kclk, kdue, kerr, kout, kmem⟩ := settle_lockout c hs (by rw [hstr, hlen])
  exact ⟨kstate, by rw [kclk, hclk], kdue, kerr, (hout.mono (by decide)).trans kout, hmem.trans kmem⟩

/-- 60 s in RUN. -/
theorem settle_retryCountReset {b : Block} {s : Nat} (hst : b.strState s = strRun) :
    let t := (retryCountReset s b).settle
    t.get (F.STR_STRn_STATUS_RETRIES_USED s) = 0 ∧ t.strState s = strRun
      ∧ t.clk = max b.clk ((b.strand s).runSince + 60000000000) ∧ SameWords [R.STR_STRn_STATUS s] b t ∧ SameMem b t := by
  rw [retryCountReset, if_neg (not_not.mpr hst)]
  generalize (b.strand s).runSince + 60000000000 = n
  refine ⟨?_, ?_, ?_, ?_, ?_⟩
  · rw [Block.settle_get, Block.get_set_self _ _ rfl, Nat.zero_mod]
  · rw [← hst, Block.strState, Block.settle_get, Block.get_set_apart _ _ rfl rfl, Block.untilClk_get, ← Block.strState]
  · rw [Block.settle_clk, Block.set_clk, Block.untilClk_clk]
  · rw [sameWords_settle, sameWords_set _ (by simp [R.STR_STRn_STATUS])]
    simp -implicitDefEqProofs
  · simp -implicitDefEqProofs

/-- A command is held for its string. -/
theorem settle_strCmd {b : Block} {v op s l : Nat} (hop : F.STR_CMD_OP.of v = op) (hs : s = F.STR_CMD_STRING.of v) (hl : l = F.STR_CMD_LAMP.of v)
    (hd : b.drives = true) (hlen : b.str.strings.length = 96) (hop1 : 1 ≤ op) (hop3 : op ≤ 3) (hs96 : s < 96) (hl3072 : l < 3072) :
    let t := (strCmd v b).settle
    (t.strand s).cmd = some (op, l) ∧ SameWords [] b t ∧ SameMem b t := by
  have he : strCmd v b = b.onStr s (fun q => { q with cmd := some (op, l) }) := by
    rw [strCmd]
    rw [← hs, ← hl, hop, if_neg (by simp [hd]; omega)]
  rw [he]
  exact ⟨congrArg Strand.cmd (b.strand_onStr (fun q => { q with cmd := some (op, l) }) (by omega)), fun _ _ => rfl, fun _ => ⟨rfl, rfl⟩⟩

/-! ### Into RUN (R323) -/

/-- While no LOAD is under way a string enters RUN without one. -/
theorem Block.strEnterRun_spec (b : Block) {s : Nat} (from' : Nat) (hs : s < 96) (hlen : b.str.strings.length = 96)
    (hload : b.str.loading = none) :
    let t := b.strEnterRun s from'
    StrStep b t ∧ t.strState s = strRun ∧ t.bit (F.STR_STRn_STATUS_RET_OK s) = b.retEn s ∧ (t.strand s).runSince = b.clk
      ∧ (t.strand s).fresh = true
      ∧ (∀ g, g.apart (F.STR_STRn_STATUS_STATE s) = true → g.apart (F.STR_STRn_STATUS_RET_OK s) = true → g.addr ≠ R.STR_IRQ_STATUS → t.get g = b.get g)
      ∧ (b.strState s ≠ strRun → t.bit F.STR_IRQ_STATUS_STATE_CHANGE = true) := by
  obtain ⟨heq, hst, hout, hget, hirq⟩ := b.setStr_spec (st := strRun) hs (by decide)
  have hstate : StrStep b (b.setStr s strRun) := ⟨by rw [heq], hout, by rw [heq]⟩
  have hstr : (b.setStr s strRun).str = b.str := by rw [heq]
  have he : b.strEnterRun s from' = ((b.setStr s strRun).setBit (F.STR_STRn_STATUS_RET_OK s) (b.retEn s)).onStr s
      (fun q => { q with runSince := b.clk, fresh := true, bad := 0, good := 0, lost := false }) := by
    rw [Block.strEnterRun]
    rw [show (((b.setStr s strRun).setBit (F.STR_STRn_STATUS_RET_OK s) (b.retEn s)).clk) = b.clk from hstate.clk]
    have hnone (f : Strand → Strand) : (((b.setStr s strRun).setBit (F.STR_STRn_STATUS_RET_OK s) (b.retEn s)).onStr s f).str.loading = none := by
      rw [← hload, ← hstr]
      rfl
    rw [hnone]
  rw [he]
  generalize b.setStr s strRun = d at *
  generalize b.retEn s = r at *
  generalize b.clk = clk at *
  have htail : StrOnly (d.setBit (F.STR_STRn_STATUS_RET_OK s) r) ((d.setBit (F.STR_STRn_STATUS_RET_OK s) r).onStr s
    (fun q => { q with runSince := clk, fresh := true, bad := 0, good := 0, lost := false })) := strOnly_onStr _ _ _
  have hset : StrStep d (d.setBit (F.STR_STRn_STATUS_RET_OK s) r) :=
    ⟨rfl, (sameOutside_set _ (by simp [strStatus_window hs])).mpr (.refl _ _), rfl⟩
  have hstrand := (d.setBit (F.STR_STRn_STATUS_RET_OK s) r).strand_onStr (s := s)
    (fun q => { q with runSince := clk, fresh := true, bad := 0, good := 0, lost := false }) (by
      rw [hset.2.2, hstr, hlen]
      exact hs)
  refine ⟨(hstate.trans hset).trans htail.step, ?_, ?_, ?_, ?_, fun g hg hr hi => ?_, fun hne => ?_⟩
  · rw [htail.strState, Block.strState, Block.setBit_eq, Block.get_set_apart _ _ rfl rfl, ← Block.strState, hst]
  · rw [Block.bit, htail.get, Block.setBit_eq, Block.get_set_self _ _ rfl]
    cases r <;> rfl
  · rw [hstrand]
  · rw [hstrand]
  · rw [htail.get, Block.setBit_eq, Block.get_set_apart _ _ rfl hr, hget g hg hi]
  · rw [Block.bit, htail.get, Block.setBit_eq, Block.get_set_apart _ _ rfl (Fld.apart_of_addr (by simp; omega)), ← Block.bit, hirq hne]

theorem settle_enumTimeout {b : Block} {s : Nat} (hs : s < 96) (hlen : b.str.strings.length = 96) (hload : b.str.loading = none)
    (hst : b.strState s = strEnum) :
    let t := (enumTimeout s b).settle
    t.strState s = strRun ∧ t.clk = max b.clk (b.strand s).until'
      ∧ t.get (F.STR_STRn_STATUS_ENUM_COUNT s) = b.get (F.STR_STRn_STATUS_ENUM_COUNT s) ∧ SameOutside [0x24] b t ∧ SameMem b t := by
  have he : enumTimeout s b = (b.untilClk (b.strand s).until').strEnterRun s (b.untilClk (b.strand s).until').stc := by
    rw [enumTimeout, if_neg (not_not.mpr hst)]
  rw [he]
  obtain ⟨hregs, hstr, hclk, hout, hmem⟩ := untilClk_spec b (b.strand s).until'
  have hget := Block.get_congr hregs (F.STR_STRn_STATUS_ENUM_COUNT s)
  generalize b.untilClk (b.strand s).until' = c at *
  obtain ⟨hstep, hstate, -, -, -, kget, -⟩ := c.strEnterRun_spec c.stc hs (by rw [hstr, hlen]) (by rw [hstr, hload])
  generalize c.strEnterRun s c.stc = t at *
  refine ⟨hstate, ?_, ?_, hout.trans hstep.2.1, hmem.trans hstep.sameMem⟩
  · rw [Block.settle_clk, hstep.clk, hclk]
  · rw [Block.settle_get, kget _ rfl rfl (by simp [R.STR_IRQ_STATUS]; omega), hget]

/-- The count of an ENUM that returns, and the error of a wrong one. -/
theorem enumReturn_told (b : Block) {s count : Nat} (hs : s < 96) (hcount : count < 2 ^ 7) :
    let c := b.set (F.STR_STRn_STATUS_ENUM_COUNT s) count
    let d := if count = c.drivers s then c else c.raiseAt E.STR_ENUM_MISMATCH s
    d.strState s = b.strState s ∧ d.retEn s = b.retEn s ∧ d.get (F.STR_STRn_STATUS_ENUM_COUNT s) = count
      ∧ d.bit F.STR_ERR_ENUM_MISMATCH = (b.bit F.STR_ERR_ENUM_MISMATCH || count != b.drivers s) ∧ d.str = b.str ∧ d.clk = b.clk
      ∧ SameOutside [0x24, 0x30] b d ∧ SameMem b d := by
  have hfits : count % 2 ^ (F.STR_STRn_STATUS_ENUM_COUNT s).width = count := Nat.mod_eq_of_lt hcount
  have hact {f : Fld} (hf : f.addr = R.STR_STRn_CFG s) : (b.set (F.STR_STRn_STATUS_ENUM_COUNT s) count).act f = b.act f := by
    rw [Block.act, Block.get_set_apart _ _ rfl (Fld.apart_of_addr (by simp [Fld.act, hf, R.STR_STRn_CFG]; omega)), ← Block.act]
  have hdrv : (b.set (F.STR_STRn_STATUS_ENUM_COUNT s) count).drivers s = b.drivers s := hact rfl
  have hwin : keyAddr (F.STR_STRn_STATUS_ENUM_COUNT s).addr / 0x10000 ∈ [0x24, 0x30] := by simp [strStatus_window hs]
  have hirq : 0x247FF0 ≠ 0x243000 + 0x10 * s := by omega
  have hraised (c : Block) {g : Fld} (hg : g.addr < 0x243000 + 0x10 * 96 ∧ 0x243000 ≤ g.addr ∨ 0x249000 ≤ g.addr ∧ g.addr < 0x24B000) :
      (c.raiseAt E.STR_ENUM_MISMATCH s).get g = c.get g := by
    refine Block.get_raiseAt_apart _ _ (by decide) (by decide) (Fld.apart_of_addr ?_) (Fld.apart_of_addr ?_) ?_
    · simp [E.STR_ENUM_MISMATCH, F.STR_ERR_ENUM_MISMATCH, R.STR_ERR]
      omega
    · simp [E.STR_ENUM_MISMATCH]
      omega
    · omega
  dsimp only
  rw [hdrv]
  by_cases hc : count = b.drivers s
  · simp only [hc, if_true, bne_self_eq_false, Bool.or_false]
    rw [← hc]
    refine ⟨?_, ?_, ?_, ?_, rfl, rfl, (sameOutside_set _ hwin).mpr (.refl _ b), fun _ => ⟨rfl, rfl⟩⟩
    · exact Block.get_set_apart b _ rfl rfl
    · exact congrArg (· != 0) (hact (f := F.STR_STRn_CFG_RET_EN s) rfl)
    · exact (Block.get_set_self b _ rfl).trans hfits
    · exact b.bit_set_apart _ rfl (Fld.apart_of_addr (by simp [F.STR_ERR_ENUM_MISMATCH, R.STR_ERR]; omega))
  · have hne : (count != b.drivers s) = true := by simpa using hc
    simp only [hc, if_false, hne, Bool.or_true]
    refine ⟨?_, ?_, ?_, ?_, ?_, ?_, ?_, ?_⟩
    · exact (hraised _ (by simp; omega)).trans (Block.get_set_apart b _ rfl rfl)
    · refine congrArg (· != 0) (Eq.trans (hraised _ ?_) (hact (f := F.STR_STRn_CFG_RET_EN s) rfl))
      simp [Fld.act, F.STR_STRn_CFG_RET_EN, R.STR_STRn_CFG]
      omega
    · exact (hraised _ (by simp; omega)).trans ((Block.get_set_self b _ rfl).trans hfits)
    · exact Block.bit_raiseAt_self _ s (by decide) rfl (by decide) (by decide) (by decide)
    · simp
    · simp
    · rw [sameOutside_raiseAt _ (by decide) (by decide) (by decide), sameOutside_set _ hwin]
      exact .refl _ b
    · rw [sameMem_raiseAt]
      exact fun _ => ⟨rfl, rfl⟩

theorem enumReturn_eq {b : Block} {s : Nat} (count : Nat) (hret : b.retEn s = true) (hst : b.strState s = strEnum ∨ b.strState s = strRun) :
    enumReturn s count b =
      let c := b.set (F.STR_STRn_STATUS_ENUM_COUNT s) count
      let d := if count = c.drivers s then c else c.raiseAt E.STR_ENUM_MISMATCH s
      if d.strState s = strEnum then d.strEnterRun s d.stc else d := by
  have hn : (!b.retEn s || b.strState s != strEnum && b.strState s != strRun) = false := by
    rcases hst with h | h <;> simp [hret, h]
  rw [enumReturn, hn]
  rfl

/-- A returned ENUM whose count is told: a string in ENUM enters RUN. -/
theorem settle_enumTold (d : Block) {s : Nat} (hs : s < 96) (hlen : d.str.strings.length = 96) (hload : d.str.loading = none)
    (hst : d.strState s = strEnum ∨ d.strState s = strRun) :
    let t := (if d.strState s = strEnum then d.strEnterRun s d.stc else d).settle
    t.strState s = strRun ∧ t.get (F.STR_STRn_STATUS_ENUM_COUNT s) = d.get (F.STR_STRn_STATUS_ENUM_COUNT s)
      ∧ t.bit F.STR_ERR_ENUM_MISMATCH = d.bit F.STR_ERR_ENUM_MISMATCH
      ∧ (d.strState s = strEnum → t.bit (F.STR_STRn_STATUS_RET_OK s) = d.retEn s ∧ (t.strand s).runSince = d.clk ∧ (t.strand s).fresh = true)
      ∧ SameOutside [0x24] d t ∧ SameMem d t := by
  by_cases hen : d.strState s = strEnum
  · simp only [hen, if_true]
    obtain ⟨hstep, hstate, hret, hsince, hfresh, hget, -⟩ := d.strEnterRun_spec d.stc hs hlen hload
    generalize d.strEnterRun s d.stc = t at *
    refine ⟨hstate, ?_, ?_, fun _ => ⟨hret, hsince, hfresh⟩, hstep.2.1, hstep.sameMem⟩
    · exact hget _ rfl rfl (by simp [R.STR_IRQ_STATUS]; omega)
    · refine congrArg (· != 0) (hget F.STR_ERR_ENUM_MISMATCH (Fld.apart_of_addr ?_) (Fld.apart_of_addr ?_) (by decide)) <;>
        simp [F.STR_ERR_ENUM_MISMATCH, R.STR_ERR] <;> omega
  · simp only [hen, if_false]
    exact ⟨hst.resolve_left hen, rfl, rfl, fun h => absurd h id, fun _ _ => rfl, fun _ => ⟨rfl, rfl⟩⟩

theorem settle_enumReturn {b : Block} {s count : Nat} (hs : s < 96) (hlen : b.str.strings.length = 96) (hload : b.str.loading = none)
    (hret : b.retEn s = true) (hcount : count < 2 ^ 7) (hst : b.strState s = strEnum ∨ b.strState s = strRun) :
    let t := (enumReturn s count b).settle
    t.strState s = strRun ∧ t.get (F.STR_STRn_STATUS_ENUM_COUNT s) = count
      ∧ t.bit F.STR_ERR_ENUM_MISMATCH = (b.bit F.STR_ERR_ENUM_MISMATCH || count != b.drivers s)
      ∧ (b.strState s = strEnum → t.bit (F.STR_STRn_STATUS_RET_OK s) = true ∧ (t.strand s).runSince = b.clk ∧ (t.strand s).fresh = true)
      ∧ SameOutside [0x24, 0x30] b t ∧ SameMem b t := by
  obtain ⟨hstate, hretd, hcnt, herr, hstr, hclk, hout, hmem⟩ := enumReturn_told b hs hcount
  rw [enumReturn_eq count hret hst]
  dsimp only at *
  generalize (if count = (b.set (F.STR_STRn_STATUS_ENUM_COUNT s) count).drivers s then b.set (F.STR_STRn_STATUS_ENUM_COUNT s) count
    else (b.set (F.STR_STRn_STATUS_ENUM_COUNT s) count).raiseAt E.STR_ENUM_MISMATCH s) = d at *
  obtain ⟨kstate, kcnt, kerr, kenum, kout, kmem⟩ := settle_enumTold d hs (by rw [hstr, hlen]) (by rw [hstr, hload]) (by rw [hstate]; exact hst)
  refine ⟨kstate, by rw [kcnt, hcnt], by rw [kerr, herr], fun h => ?_, hout.trans (kout.mono (by decide)), hmem.trans kmem⟩
  obtain ⟨kret, ksince, kfresh⟩ := kenum (by rw [hstate, h])
  exact ⟨by rw [kret, hretd, hret], by rw [ksince, hclk], kfresh⟩

/-- The rail has settled: the wire is reset and ENUM is on it. -/
def Block.rampEnd (b : Block) (s mv : Nat) : Block :=
  let b := b.onStr s (fun q => { q with due := none })
  let b := (b.set (F.STR_STRn_RAIL_STATUS_MEAS_MV s) mv).setStr s strEnum
  (b.emit (.clw s .reset)).clw s 25 .enum

theorem railRampDone_eq {b : Block} {s mv : Nat} (hst : b.strState s = strRamp) (hlo : 49 * b.fixedMv s ≤ 50 * mv)
    (hhi : 50 * mv ≤ 51 * b.fixedMv s) :
    railRampDone s mv b = let d := (b.untilClk ((b.strand s).due.getD 0)).rampEnd s mv
      if d.retEn s then d.onStr s (fun q => { q with until' := d.clk + 100000 }) else d.strEnterRun s (d.stc + 1000 + 20 * (8 + 25 + 8)) := by
  have hn : ¬(b.strState s ≠ strRamp ∨ 50 * mv < 49 * b.fixedMv s ∨ 51 * b.fixedMv s < 50 * mv) := by
    rintro (h | h | h)
    · exact h hst
    · omega
    · omega
  rw [railRampDone]
  exact if_neg hn

/-- A packet on a wire is counted and leaves. -/
theorem Block.clw_spec (b : Block) (s cells : Nat) (p : ClwPacket) :
    let t := b.clw s cells p
    t = { b with regs := t.regs, out := .clw s p :: b.out } ∧ SameOutside [0x24] b t
      ∧ (∀ g : Fld, g.addr ≠ R.STR_CNT_Ti_LO 1 → g.addr ≠ R.STR_CNT_Ti_HI 1 → t.get g = b.get g)
      ∧ t.pair (F.STR_CNT_Ti_LO 1) (F.STR_CNT_Ti_HI 1) = (b.pair (F.STR_CNT_Ti_LO 1) (F.STR_CNT_Ti_HI 1) + cells) % 2 ^ 64 := by
  refine ⟨rfl, ?_, fun g hlo hhi => ?_, ?_⟩
  · simp (disch := decide) [Block.clw, Block.countPair]
  · simp only [Block.clw, Block.countPair, Block.setPair_eq, Block.emit_get]
    rw [Block.get_set_apart _ _ rfl (Fld.apart_of_addr hhi), Block.get_set_apart _ _ rfl (Fld.apart_of_addr hlo)]
  · have hwlo : (F.STR_CNT_Ti_LO 1).width = 32 := rfl
    have hwhi : (F.STR_CNT_Ti_HI 1).width = 32 := rfl
    simp (disch := decide) only [Block.clw, Block.countPair, Block.setPair_eq, Block.pair, Block.emit_get, Block.get_set_self,
      Block.get_set_apart, hwlo, hwhi]
    omega

theorem Block.rampEnd_spec (c : Block) {s mv : Nat} (hs : s < 96) (hlen : c.str.strings.length = 96) (hmv : mv < 2 ^ 13)
    (hst : c.strState s = strRamp) :
    let d := c.rampEnd s mv
    d.out = .clw s .enum :: .clw s .reset :: c.out ∧ d.get (F.STR_STRn_RAIL_STATUS_MEAS_MV s) = mv ∧ d.strState s = strEnum
      ∧ d.retEn s = c.retEn s ∧ d.clk = c.clk ∧ d.str.strings.length = 96 ∧ d.str.loading = c.str.loading
      ∧ d.bit F.STR_IRQ_STATUS_STATE_CHANGE = true ∧ SameOutside [0x24] c d ∧ SameMem c d := by
  have hfits : mv % 2 ^ (F.STR_STRn_RAIL_STATUS_MEAS_MV s).width = mv := Nat.mod_eq_of_lt hmv
  have hmeas : keyAddr (0x243004 + 0x10 * s) / 0x10000 = 0x24 := by
    rw [show 0x243004 + 0x10 * s = 0x240000 + (0x3004 + 0x10 * s) by omega]
    exact strWindow (by omega)
  have hidle : StrOnly c (c.onStr s (fun q => { q with due := none })) := strOnly_onStr _ _ _
  have hidleClk : (c.onStr s (fun q => { q with due := none })).clk = c.clk ∧ (c.onStr s (fun q => { q with due := none })).out = c.out := ⟨rfl, rfl⟩
  unfold Block.rampEnd
  generalize c.onStr s (fun q => { q with due := none }) = d at *
  obtain ⟨hdclk, hdout⟩ := hidleClk
  have hset : StrStep d (d.set (F.STR_STRn_RAIL_STATUS_MEAS_MV s) mv) := ⟨rfl, (sameOutside_set _ (by simp [hmeas])).mpr (.refl _ _), rfl⟩
  have hsetLoad : (d.set (F.STR_STRn_RAIL_STATUS_MEAS_MV s) mv).str = d.str ∧ (d.set (F.STR_STRn_RAIL_STATUS_MEAS_MV s) mv).out = d.out := ⟨rfl, rfl⟩
  have hsetMv : (d.set (F.STR_STRn_RAIL_STATUS_MEAS_MV s) mv).get (F.STR_STRn_RAIL_STATUS_MEAS_MV s) = mv :=
    (Block.get_set_self d mv rfl).trans hfits
  have hsetGet {g : Fld} (h : g.addr ≠ R.STR_STRn_RAIL_STATUS s) : (d.set (F.STR_STRn_RAIL_STATUS_MEAS_MV s) mv).get g = d.get g :=
    Block.get_set_apart d mv rfl (Fld.apart_of_addr h)
  dsimp only
  generalize d.set (F.STR_STRn_RAIL_STATUS_MEAS_MV s) mv = e at *
  obtain ⟨heq, hstate, hout, hget, hirq⟩ := e.setStr_spec (st := strEnum) hs (by decide)
  have hstep : StrStep e (e.setStr s strEnum) := ⟨by rw [heq], hout, by rw [heq]⟩
  have hestr : (e.setStr s strEnum).str = e.str := by rw [heq]
  have heout : (e.setStr s strEnum).out = e.out := by rw [heq]
  have hramp : e.strState s ≠ strEnum := by
    rw [Block.strState, hsetGet (by simp [R.STR_STRn_RAIL_STATUS]), hidle.get, ← Block.strState, hst]
    decide
  have hall := (hidle.step.trans hset).trans hstep
  have hirq := hirq hramp
  have hcfg : (e.setStr s strEnum).get (F.STR_STRn_CFG_RET_EN s).act = c.get (F.STR_STRn_CFG_RET_EN s).act := by
    rw [hget _ (Fld.apart_of_addr (by simp [Fld.act, F.STR_STRn_CFG_RET_EN, R.STR_STRn_CFG]; omega))
      (by simp [Fld.act, F.STR_STRn_CFG_RET_EN, R.STR_STRn_CFG, R.STR_IRQ_STATUS]; omega),
      hsetGet (by simp [Fld.act, F.STR_STRn_CFG_RET_EN, R.STR_STRn_CFG, R.STR_STRn_RAIL_STATUS]; omega), hidle.get]
  have hmeasGet : (e.setStr s strEnum).get (F.STR_STRn_RAIL_STATUS_MEAS_MV s) = mv := by
    rw [hget _ (Fld.apart_of_addr (by simp)) (by simp [R.STR_IRQ_STATUS]; omega), hsetMv]
  generalize e.setStr s strEnum = u at *
  obtain ⟨weq, wout, wget, -⟩ := (u.emit (.clw s .reset)).clw_spec s 25 .enum
  have hclk := hall.clk
  have hmem := hall.sameMem
  refine ⟨?_, ?_, ?_, ?_, ?_, ?_, ?_, ?_, ?_, ?_⟩
  · rw [weq]
    exact congrArg (fun o => Out.clw s .enum :: Out.clw s .reset :: o) (heout.trans (hsetLoad.2.trans hdout))
  · rw [wget _ (by simp [R.STR_CNT_Ti_LO]; omega) (by simp [R.STR_CNT_Ti_HI]; omega), Block.emit_get, hmeasGet]
  · rw [Block.strState, wget _ (by simp [R.STR_CNT_Ti_LO]; omega) (by simp [R.STR_CNT_Ti_HI]; omega), Block.emit_get, ← Block.strState, hstate]
  · rw [Block.retEn, Block.actBit, Block.act, wget _ (by simp [Fld.act, F.STR_STRn_CFG_RET_EN, R.STR_STRn_CFG, R.STR_CNT_Ti_LO]; omega)
      (by simp [Fld.act, F.STR_STRn_CFG_RET_EN, R.STR_STRn_CFG, R.STR_CNT_Ti_HI]; omega), Block.emit_get, hcfg]
    rfl
  · rw [weq]
    exact hclk
  · rw [weq]
    exact hall.2.2.trans hlen
  · rw [weq]
    exact congrArg Str.loading (hestr.trans hsetLoad.1) |>.trans hidle.2.2
  · rw [Block.bit, wget _ (by decide) (by decide), Block.emit_get, ← Block.bit, hirq]
  · exact hall.2.1.trans (((sameOutside_emit _ _ _ _).mpr (.refl _ _)).trans wout)
  · refine hmem.trans (sameMem_of_eq ?_ ?_) <;> rw [weq] <;> rfl

/-- With its ENUM on the wire a string waits for the return, or enters RUN where none is in use. -/
theorem settle_ramped (d : Block) {s from' : Nat} (hs : s < 96) (hlen : d.str.strings.length = 96) (hload : d.str.loading = none)
    (hst : d.strState s = strEnum) (hirq : d.bit F.STR_IRQ_STATUS_STATE_CHANGE = true) :
    let t := (if d.retEn s then d.onStr s (fun q => { q with until' := d.clk + 100000 }) else d.strEnterRun s from').settle
    t.out = d.out ∧ t.get (F.STR_STRn_RAIL_STATUS_MEAS_MV s) = d.get (F.STR_STRn_RAIL_STATUS_MEAS_MV s)
      ∧ t.strState s = (if d.retEn s then strEnum else strRun) ∧ t.clk = d.clk
      ∧ (d.retEn s = true → (t.strand s).until' = t.clk + 100000) ∧ t.bit F.STR_IRQ_STATUS_STATE_CHANGE = true
      ∧ SameOutside [0x24] d t ∧ SameMem d t := by
  cases hret : d.retEn s
  · simp only [Bool.false_eq_true, if_false]
    obtain ⟨hstep, hstate, -, -, -, hget, hchange⟩ := d.strEnterRun_spec from' hs hlen hload
    have hout : (d.strEnterRun s from').out = d.out := by rw [hstep.1]
    have hchange := hchange (by rw [hst]; decide)
    generalize d.strEnterRun s from' = t at *
    refine ⟨hout, ?_, hstate, hstep.clk, fun h => absurd h id, hchange, hstep.2.1, hstep.sameMem⟩
    exact hget _ (Fld.apart_of_addr (by simp)) (Fld.apart_of_addr (by simp)) (by simp [R.STR_IRQ_STATUS]; omega)
  · simp only [if_true]
    have honly : StrOnly d (d.onStr s (fun q => { q with until' := d.clk + 100000 })) := strOnly_onStr _ _ _
    have huntil : ((d.onStr s (fun q => { q with until' := d.clk + 100000 })).strand s).until' = d.clk + 100000 :=
      congrArg Strand.until' (d.strand_onStr (fun q => { q with until' := d.clk + 100000 }) (by omega))
    have hkept : (d.onStr s (fun q => { q with until' := d.clk + 100000 })).out = d.out
      ∧ (d.onStr s (fun q => { q with until' := d.clk + 100000 })).clk = d.clk := ⟨rfl, rfl⟩
    generalize d.onStr s (fun q => { q with until' := d.clk + 100000 }) = t at *
    obtain ⟨hout, hclk⟩ := hkept
    refine ⟨hout, honly.get _, (honly.strState s).trans hst, hclk, fun _ => ?_, ?_, honly.sameOutside, honly.step.sameMem⟩
    · rw [Block.settle_clk, hclk]
      exact huntil
    · rw [Block.settle_bit, Block.bit, honly.get, ← Block.bit, hirq]

theorem settle_railRampDone {b : Block} {s mv : Nat} (hs : s < 96) (hlen : b.str.strings.length = 96) (hload : b.str.loading = none)
    (hst : b.strState s = strRamp) (hlo : 49 * b.fixedMv s ≤ 50 * mv) (hhi : 50 * mv ≤ 51 * b.fixedMv s) (hmv : mv < 2 ^ 13) :
    let t := (railRampDone s mv b).settle
    t.out = .clw s .enum :: .clw s .reset :: b.out
      ∧ t.get (F.STR_STRn_RAIL_STATUS_MEAS_MV s) = mv ∧ t.strState s = (if b.retEn s then strEnum else strRun)
      ∧ t.clk = max b.clk ((b.strand s).due.getD 0) ∧ (b.retEn s = true → (t.strand s).until' = t.clk + 100000)
      ∧ t.bit F.STR_IRQ_STATUS_STATE_CHANGE = true ∧ SameOutside [0x24] b t ∧ SameMem b t := by
  rw [railRampDone_eq hst hlo hhi]
  generalize (b.strand s).due.getD 0 = n
  obtain ⟨hregs, hstr, hclk, hout, hmem⟩ := untilClk_spec b n
  have hcOut : (b.untilClk n).out = b.out := b.untilClk_out n
  have hcState : (b.untilClk n).strState s = strRamp := (Block.get_congr hregs _).trans hst
  have hcRet : (b.untilClk n).retEn s = b.retEn s := congrArg (· != 0) (Block.get_congr hregs _)
  generalize b.untilClk n = c at *
  obtain ⟨dout, dmv, dstate, dret, dclk, dlen, dload, dirq, doutside, dmem⟩ := c.rampEnd_spec hs (by rw [hstr, hlen]) hmv hcState
  dsimp only
  generalize c.rampEnd s mv = d at *
  obtain ⟨kout, kmv, kstate, kclk, kuntil, kirq, koutside, kmem⟩ :=
    settle_ramped d (from' := d.stc + 1000 + 20 * (8 + 25 + 8)) hs dlen (by rw [dload, hstr, hload]) dstate dirq
  refine ⟨by rw [kout, dout, hcOut], by rw [kmv, dmv], by rw [kstate, dret, hcRet], by rw [kclk, dclk, hclk], fun h => ?_, kirq,
    (hout.trans doutside).trans koutside, (hmem.trans dmem).trans kmem⟩
  exact kuntil (by rw [dret, hcRet, h])

/-- Settles O59, clause by clause from what each step does to STATE, the rail, the record and the wire of its string. -/
theorem stringStates : Obligations.StringStates := by
  unfold Obligations.StringStates
  refine ⟨fun b s mv hr hs hlen hload hst hlo hhi hmv => ?_, fun b s count hr hs hlen hload hret hcount hst => ?_,
    fun b s hr hs hlen hload hst => ?_, fun b s mv hr hs hlen hst => ⟨?_, fun hv => ?_⟩,
    fun b s due hr hs hlen hst hdue => ⟨fun hused hmax => ?_, fun hused => ?_⟩, fun b s hr hs hst => ?_,
    fun b p v s l hr hg hd hlen hs hl hs96 hl3072 => ⟨fun hop => ?_, fun hop => ?_, fun hop => ?_⟩⟩
  · exact gives_of_done hr (fun _ => rfl) (settle_railRampDone hs hlen hload hst hlo hhi hmv)
  · exact gives_of_done hr (fun _ => rfl) (settle_enumReturn hs hlen hload hret hcount hst)
  · exact gives_of_done hr (fun _ => rfl) (settle_enumTimeout hs hlen hload hst)
  · exact gives_of_done hr (fun _ => rfl) (settle_stringOvercurrent hs hlen hst)
  · exact gives_of_done hr (fun _ => rfl) (settle_stringRailFault hs hlen hst hv)
  · exact gives_of_done hr (fun _ => rfl) (settle_stringRetryTimer_again hs hst hdue hused hmax)
  · exact gives_of_done hr (fun _ => rfl) (settle_stringRetryTimer_lockout hs hlen hst hdue hused)
  · exact gives_of_done hr (fun _ => rfl) (settle_retryCountReset hst)
  · exact gives_of_writing hr hg (fun _ => rfl) (settle_strCmd hop hs hl hd hlen (by decide) (by decide) hs96 hl3072)
  · exact gives_of_writing hr hg (fun _ => rfl) (settle_strCmd hop hs hl hd hlen (by decide) (by decide) hs96 hl3072)
  · exact gives_of_writing hr hg (fun _ => rfl) (settle_strCmd hop hs hl hd hlen (by decide) (by decide) hs96 hl3072)

end Sys2Proof.Machine
end

section
/-!
PROOFS of chapter 10: the packets on the wire of a string.
-/

namespace Sys2Proof.Machine

/-! ### What a projection of the wire reads -/

/-- The registers, STR's record and the fixed frame are all a projection of the wire reads. -/
theorem Block.wire_congr {t u : Block} (hregs : t.regs = u.regs) (hstr : t.str = u.str) (hfrm : t.frm = u.frm) (s : Nat) :
    t.strand s = u.strand s ∧ t.drivers s = u.drivers s ∧ t.retEn s = u.retEn s ∧ (∀ own, t.launchAt s own = u.launchAt s own)
      ∧ t.collectLimit = u.collectLimit ∧ (∀ at', t.collectFits s at' = u.collectFits s at') := by
  have hstrand : t.strand s = u.strand s := by rw [Block.strand, hstr, Block.strand]
  have hact : ∀ f : Fld, t.act f = u.act f := fun f => Block.get_congr hregs f.act
  have hbit : ∀ f : Fld, t.actBit f = u.actBit f := fun f => congrArg (· != 0) (hact f)
  have hdrv : t.drivers s = u.drivers s := hact _
  have hret : t.retEn s = u.retEn s := hbit _
  have hlimit : t.collectLimit = u.collectLimit := by simp only [Block.collectLimit, hfrm, hact]
  refine ⟨hstrand, hdrv, hret, fun own => ?_, hlimit, fun at' => ?_⟩
  · simp only [Block.launchAt, Block.tOut, hret, hstrand, hdrv, hact]
  · rw [Block.collectFits, Block.collectFits, Block.loopHns, Block.loopHns, decide_eq_decide, hstrand, hdrv, hact, hlimit]

/-- A change of a string's record that keeps its LOOP. -/
theorem Block.launchAt_onStr (b : Block) {s : Nat} {f : Strand → Strand} (own : Int) (hs : s < b.str.strings.length)
    (hf : (f (b.strand s)).loop = (b.strand s).loop) : (b.onStr s f).launchAt s own = b.launchAt s own := by
  have hstrand := b.strand_onStr f hs
  have hact : ∀ g : Fld, (b.onStr s f).act g = b.act g := fun _ => rfl
  have hdrv : (b.onStr s f).drivers s = b.drivers s := rfl
  have hret : (b.onStr s f).retEn s = b.retEn s := rfl
  simp only [Block.launchAt, Block.tOut, hret, hstrand, hf, hdrv, hact]

/-! ### ENUM and COLLECT -/

/-- The wire of a string rests. -/
def resting (q : Strand) : Strand := { q with cycle := .rest }

theorem Block.launchRoom_resting {b : Block} {s : Nat} {p : Plan} (from' : Nat) (hs : s < b.str.strings.length) (hp : b.frm.next = some p) :
    (b.onStr s resting).launchRoom s from' = some ((b.launchAt s p.own - from') / 20 - 8) := by
  have hnext : (b.onStr s resting).frm.next = some p := hp
  rw [Block.launchRoom, hnext, Option.map_some, b.launchAt_onStr (f := resting) p.own hs rfl]

/-- ENUM leaves when it can end 8 cells before the launch. -/
theorem Block.sendEnum_leaves {b : Block} {s from' : Nat} {p : Plan} (hs : s < b.str.strings.length) (hp : b.frm.next = some p)
    (h : from' + 660 ≤ b.launchAt s p.own) : b.sendEnum s from' = (b.onStr s resting).clw s 25 .enum := by
  have hroom := b.launchRoom_resting from' hs hp
  have h25 : 25 ≤ ((b.onStr s resting).launchRoom s from').getD 25 := by
    rw [hroom, Option.getD_some]
    omega
  exact if_pos h25

theorem Block.sendEnum_stays {b : Block} {s from' : Nat} {p : Plan} (hs : s < b.str.strings.length) (hp : b.frm.next = some p)
    (h : b.launchAt s p.own < from' + 660) : b.sendEnum s from' = b.onStr s resting := by
  have hroom := b.launchRoom_resting from' hs hp
  have h25 : ¬25 ≤ ((b.onStr s resting).launchRoom s from').getD 25 := by
    rw [hroom, Option.getD_some]
    omega
  exact if_neg h25

/-- A packet that leaves after a change of its string's record, settled. -/
theorem settle_onStr_clw (b : Block) {s : Nat} (cells : Nat) (f : Strand → Strand) (x : ClwPacket) (hs : s < b.str.strings.length) :
    let t := ((b.onStr s f).clw s cells x).settle
    t.out = .clw s x :: b.out ∧ t.strand s = f (b.strand s)
      ∧ t.pair (F.STR_CNT_Ti_LO 1) (F.STR_CNT_Ti_HI 1) = (b.pair (F.STR_CNT_Ti_LO 1) (F.STR_CNT_Ti_HI 1) + cells) % 2 ^ 64
      ∧ (∀ g : Fld, g.addr ≠ R.STR_CNT_Ti_LO 1 → g.addr ≠ R.STR_CNT_Ti_HI 1 → t.get g = b.get g)
      ∧ t.str.strings.length = b.str.strings.length ∧ SameOutside [0x24] b t ∧ SameMem b t := by
  have honly : StrOnly b (b.onStr s f) := strOnly_onStr _ _ _
  have hstrand := b.strand_onStr f hs
  have hkept : (b.onStr s f).out = b.out := rfl
  generalize b.onStr s f = d at *
  obtain ⟨heq, hout, hget, hpair⟩ := d.clw_spec s cells x
  have hpairb : d.pair (F.STR_CNT_Ti_LO 1) (F.STR_CNT_Ti_HI 1) = b.pair (F.STR_CNT_Ti_LO 1) (F.STR_CNT_Ti_HI 1) := by
    simp only [Block.pair, honly.get]
  have hstr : (d.clw s cells x).str = d.str := by rw [heq]
  have hmem : SameMem d (d.clw s cells x) := sameMem_of_eq (by rw [heq]) (by rw [heq])
  have hx : (d.clw s cells x).out = .clw s x :: d.out := by rw [heq]
  generalize d.clw s cells x = t at *
  refine ⟨?_, ?_, ?_, fun g hlo hhi => ?_, ?_, honly.sameOutside.trans hout, honly.step.sameMem.trans hmem⟩
  · rw [Block.settle_out, hx, hkept]
  · rw [Block.strand, Block.settle_str, hstr, ← Block.strand, hstrand]
  · rw [← hpairb]
    exact hpair
  · rw [Block.settle_get, hget g hlo hhi, honly.get]
  · rw [Block.settle_str, hstr, honly.2.1]

/-- A change of a string's record alone, settled. -/
theorem settle_onStr (b : Block) {s : Nat} (f : Strand → Strand) (hs : s < b.str.strings.length) :
    let t := (b.onStr s f).settle
    t.out = b.out ∧ t.strand s = f (b.strand s) ∧ SameWords [] b t ∧ SameMem b t :=
  ⟨rfl, b.strand_onStr f hs, fun _ _ => rfl, fun _ => ⟨rfl, rfl⟩⟩

/-- The record of a string whose COLLECT leaves at `at'`. -/
def collecting (at' drivers : Nat) (q : Strand) : Strand :=
  { q with cycle := .collect, until' := at' + 20 * (33 + 192 * drivers), collectAt := some at', diagAt := some (q.diagAt.getD at') }

theorem Block.sendCollect_eq (b : Block) (s at' : Nat) : b.sendCollect s at'
    = (b.onStr s (collecting at' (b.drivers s))).clw s 33 (.collect (b.str.loading.getD 0 % 256)) := rfl

/-- What passing time until an STC leaves. -/
theorem untilStc_spec (b : Block) (n : Nat) :
    let c := b.untilStc n
    c.regs = b.regs ∧ c.str = b.str ∧ c.frm = b.frm ∧ c.out = b.out ∧ c.qdr = b.qdr ∧ SameWords [] b c ∧ SameOutside [0x24] b c ∧ SameMem b c := by
  simp -implicitDefEqProofs

/-! ### After LOAD -/

/-- What follows a LOAD that has ended. -/
def Block.afterLoad (b : Block) (s : Nat) : Block :=
  let t0 := (b.strand s).until' + 160
  let n := b.str.loading.getD 0
  if !b.retEn s || !b.actBit F.STR_COMMON_CTRL_DIAG_EN || b.pmState == pmDim then b.sendEnum s t0
  else
    let (sel, next) := b.selectProbes s
    let ctlEnd := t0 + 20 * (33 + 72 * b.drivers s)
    let probeAt := max (ctlEnd + 160) (nsOf b.frm.cur.guard)
    let colAt := if sel.isEmpty then ctlEnd + 160 else probeAt + 4420 + 1600 * perDriver sel + 160
    if b.collectFits s colAt then
      let b := b.onStr s (fun q => { q with
        cycle := .control, until' := ctlEnd, probes := sel, examined := next, leakNext := some (n % 48) })
      b.clw s (33 + 72 * b.drivers s) (.control (n % 256) (b.drivers s) 1 (n % 48) sel)
    else
      let b := (b.countSat (F.STR_CNT_Ei 2) 1).raiseAt E.STR_DIAG_SKIPPED s
      if b.collectFits s t0 then b.sendCollect s t0 else b.sendEnum s t0

theorem clwLoadDone_eq {b : Block} {s : Nat} (h : (b.strand s).cycle = .load) : clwLoadDone s b = (b.untilStc (b.strand s).until').afterLoad s := by
  rw [clwLoadDone, if_neg (not_not.mpr h)]
  rfl

theorem Block.afterLoad_bare {c : Block} {s : Nat}
    (h : c.retEn s = false ∨ c.actBit F.STR_COMMON_CTRL_DIAG_EN = false ∨ c.pmState = pmDim) :
    c.afterLoad s = c.sendEnum s ((c.strand s).until' + 160) := by
  have hcond : (!c.retEn s || !c.actBit F.STR_COMMON_CTRL_DIAG_EN || c.pmState == pmDim) = true := by
    rcases h with h | h | h <;> simp [h]
  rw [Block.afterLoad, if_pos hcond]

/-- Without diagnostics ENUM leaves if it can end in time. -/
theorem settle_clwLoadDone_enum {b : Block} {s : Nat} {p : Plan} (hs : s < 96) (hlen : b.str.strings.length = 96)
    (hc : (b.strand s).cycle = .load) (hp : b.frm.next = some p)
    (hbare : b.retEn s = false ∨ b.actBit F.STR_COMMON_CTRL_DIAG_EN = false ∨ b.pmState = pmDim)
    (h : (b.strand s).until' + 820 ≤ b.launchAt s p.own) :
    let t := (clwLoadDone s b).settle
    t.out = .clw s .enum :: b.out ∧ (t.strand s).cycle = .rest ∧ t.pair (F.STR_CNT_Ti_LO 1) (F.STR_CNT_Ti_HI 1)
        = (b.pair (F.STR_CNT_Ti_LO 1) (F.STR_CNT_Ti_HI 1) + 25) % 2 ^ 64 ∧ SameOutside [0x24] b t ∧ SameMem b t := by
  rw [clwLoadDone_eq hc]
  obtain ⟨hregs, hstr, hfrm, hout, -, -, houtside, hmem⟩ := untilStc_spec b (b.strand s).until'
  generalize b.untilStc (b.strand s).until' = c at *
  obtain ⟨hstrand, -, hret, hlaunch, -, -⟩ := Block.wire_congr hregs hstr hfrm s
  have hbarec : c.retEn s = false ∨ c.actBit F.STR_COMMON_CTRL_DIAG_EN = false ∨ c.pmState = pmDim := by
    rw [hret, show c.actBit F.STR_COMMON_CTRL_DIAG_EN = b.actBit F.STR_COMMON_CTRL_DIAG_EN from congrArg (· != 0) (Block.get_congr hregs _),
      show c.pmState = b.pmState from Block.get_congr hregs _]
    exact hbare
  have hlenc : s < c.str.strings.length := by rw [hstr, hlen]; exact hs
  rw [Block.afterLoad_bare hbarec, Block.sendEnum_leaves (p := p) hlenc (by rw [hfrm, hp]) (by rw [hstrand, hlaunch]; omega)]
  obtain ⟨kout, kstrand, kpair, -, -, koutside, kmem⟩ := settle_onStr_clw c 25 resting .enum hlenc
  refine ⟨by rw [kout, hout], by rw [kstrand]; rfl, ?_, houtside.trans koutside, hmem.trans kmem⟩
  rw [kpair, Block.pair, Block.get_congr hregs, Block.get_congr hregs, ← Block.pair]

/-- Without diagnostics and without room for ENUM the wire rests. -/
theorem settle_clwLoadDone_rest {b : Block} {s : Nat} {p : Plan} (hs : s < 96) (hlen : b.str.strings.length = 96)
    (hc : (b.strand s).cycle = .load) (hp : b.frm.next = some p)
    (hbare : b.retEn s = false ∨ b.actBit F.STR_COMMON_CTRL_DIAG_EN = false ∨ b.pmState = pmDim)
    (h : b.launchAt s p.own < (b.strand s).until' + 820) :
    let t := (clwLoadDone s b).settle
    t.out = b.out ∧ (t.strand s).cycle = .rest ∧ SameWords [] b t ∧ SameMem b t := by
  rw [clwLoadDone_eq hc]
  obtain ⟨hregs, hstr, hfrm, hout, -, hwords, -, hmem⟩ := untilStc_spec b (b.strand s).until'
  generalize b.untilStc (b.strand s).until' = c at *
  obtain ⟨hstrand, -, hret, hlaunch, -, -⟩ := Block.wire_congr hregs hstr hfrm s
  have hbarec : c.retEn s = false ∨ c.actBit F.STR_COMMON_CTRL_DIAG_EN = false ∨ c.pmState = pmDim := by
    rw [hret, show c.actBit F.STR_COMMON_CTRL_DIAG_EN = b.actBit F.STR_COMMON_CTRL_DIAG_EN from congrArg (· != 0) (Block.get_congr hregs _),
      show c.pmState = b.pmState from Block.get_congr hregs _]
    exact hbare
  have hlenc : s < c.str.strings.length := by rw [hstr, hlen]; exact hs
  rw [Block.afterLoad_bare hbarec, Block.sendEnum_stays (p := p) hlenc (by rw [hfrm, hp]) (by rw [hstrand, hlaunch]; omega)]
  obtain ⟨kout, kstrand, kwords, kmem⟩ := settle_onStr c resting hlenc
  exact ⟨by rw [kout, hout], by rw [kstrand]; rfl, fun k hk => (kwords k hk).trans (hwords k hk), hmem.trans kmem⟩

/-- Without PROBE_EN no lamp is selected. -/
theorem Block.selectProbes_off {c : Block} (s : Nat) (h : c.actBit F.STR_COMMON_CTRL_PROBE_EN = false) :
    c.selectProbes s = ([], (c.strand s).rotor) := by
  rw [Block.selectProbes, h]
  rfl

/-- The record of a string on whose wire CONTROL leaves. -/
def controlling (ctlEnd next n : Nat) (q : Strand) : Strand :=
  { q with cycle := .control, until' := ctlEnd, probes := [], examined := next, leakNext := some (n % 48) }

theorem Block.afterLoad_diag {c : Block} {s : Nat} (hret : c.retEn s = true) (hdiag : c.actBit F.STR_COMMON_CTRL_DIAG_EN = true)
    (hdim : c.pmState ≠ pmDim) (hprobe : c.actBit F.STR_COMMON_CTRL_PROBE_EN = false) :
    c.afterLoad s =
      let t0 := (c.strand s).until' + 160
      let ctlEnd := t0 + 20 * (33 + 72 * c.drivers s)
      if c.collectFits s (ctlEnd + 160) then
        (c.onStr s (controlling ctlEnd (c.strand s).rotor (c.str.loading.getD 0))).clw s (33 + 72 * c.drivers s)
          (.control (c.str.loading.getD 0 % 256) (c.drivers s) 1 (c.str.loading.getD 0 % 48) [])
      else
        let d := (c.countSat (F.STR_CNT_Ei 2) 1).raiseAt E.STR_DIAG_SKIPPED s
        if d.collectFits s t0 then d.sendCollect s t0 else d.sendEnum s t0 := by
  have hcond : (!c.retEn s || !c.actBit F.STR_COMMON_CTRL_DIAG_EN || c.pmState == pmDim) = false := by simp [hret, hdiag, hdim]
  rw [Block.afterLoad, hcond, Block.selectProbes_off s hprobe]
  rfl

/-- With diagnostics whose COLLECT can return in time CONTROL follows LOAD. -/
theorem settle_clwLoadDone_control {b : Block} {s ctlEnd : Nat} (hs : s < 96) (hlen : b.str.strings.length = 96)
    (hc : (b.strand s).cycle = .load) (hret : b.retEn s = true) (hdiag : b.actBit F.STR_COMMON_CTRL_DIAG_EN = true)
    (hdim : b.pmState ≠ pmDim) (hprobe : b.actBit F.STR_COMMON_CTRL_PROBE_EN = false)
    (hend : ctlEnd = (b.strand s).until' + 160 + 20 * (33 + 72 * b.drivers s)) (hfits : b.collectFits s (ctlEnd + 160) = true) :
    let t := (clwLoadDone s b).settle
    t.out = .clw s (.control (b.str.loading.getD 0 % 256) (b.drivers s) 1 (b.str.loading.getD 0 % 48) []) :: b.out
      ∧ (t.strand s).cycle = .control ∧ (t.strand s).until' = ctlEnd ∧ (t.strand s).leakNext = some (b.str.loading.getD 0 % 48)
      ∧ SameOutside [0x24] b t ∧ SameMem b t := by
  rw [clwLoadDone_eq hc]
  obtain ⟨hregs, hstr, hfrm, hout, -, -, houtside, hmem⟩ := untilStc_spec b (b.strand s).until'
  generalize b.untilStc (b.strand s).until' = c at *
  obtain ⟨hstrand, hdrv, hretc, -, -, hfitsc⟩ := Block.wire_congr hregs hstr hfrm s
  have hbit : ∀ f : Fld, c.actBit f = b.actBit f := fun f => congrArg (· != 0) (Block.get_congr hregs f.act)
  have hpm : c.pmState = b.pmState := Block.get_congr hregs _
  have hlenc : s < c.str.strings.length := by rw [hstr, hlen]; exact hs
  rw [Block.afterLoad_diag (by rw [hretc, hret]) (by rw [hbit, hdiag]) (by rw [hpm]; exact hdim) (by rw [hbit, hprobe])]
  simp only [hstrand, hdrv, hfitsc, ← hend, hfits, if_true, hstr]
  obtain ⟨kout, kstrand, -, -, -, koutside, kmem⟩ := settle_onStr_clw c (33 + 72 * b.drivers s)
    (controlling ctlEnd (b.strand s).rotor (b.str.loading.getD 0))
    (.control (b.str.loading.getD 0 % 256) (b.drivers s) 1 (b.str.loading.getD 0 % 48) []) hlenc
  exact ⟨by rw [kout, hout], by rw [kstrand]; rfl, by rw [kstrand]; rfl, by rw [kstrand]; rfl, houtside.trans koutside, hmem.trans kmem⟩

theorem Block.sendEnum_cases (d : Block) (s from' : Nat) :
    d.sendEnum s from' = (d.onStr s resting).clw s 25 .enum ∨ d.sendEnum s from' = d.onStr s resting := by
  by_cases h : 25 ≤ ((d.onStr s resting).launchRoom s from').getD 25
  · exact .inl (if_pos h)
  · exact .inr (if_neg h)

/-- COLLECT alone, or ENUM: no CONTROL runs, and of the registers only the traffic counter changes. -/
theorem settle_collect_or_enum (d : Block) {s : Nat} (fits : Bool) (t0 : Nat) (hs : s < d.str.strings.length) :
    let t := (if fits then d.sendCollect s t0 else d.sendEnum s t0).settle
    (∀ g : Fld, g.addr ≠ R.STR_CNT_Ti_LO 1 → g.addr ≠ R.STR_CNT_Ti_HI 1 → t.get g = d.get g) ∧ (t.strand s).cycle ≠ .control ∧ SameMem d t := by
  cases fits
  · simp only [Bool.false_eq_true, if_false]
    rcases d.sendEnum_cases s t0 with he | he
    · rw [he]
      obtain ⟨-, kstrand, -, kget, -, -, kmem⟩ := settle_onStr_clw d 25 resting .enum hs
      exact ⟨kget, by rw [kstrand]; exact Cycle.noConfusion, kmem⟩
    · rw [he]
      obtain ⟨-, kstrand, kwords, kmem⟩ := settle_onStr d resting hs
      exact ⟨fun g _ _ => congrArg (fun w : Word => g.of w.toNat) (kwords g.addr (by simp)), by rw [kstrand]; exact Cycle.noConfusion, kmem⟩
  · simp only [if_true]
    rw [Block.sendCollect_eq]
    obtain ⟨-, kstrand, -, kget, -, -, kmem⟩ := settle_onStr_clw d 33 (collecting t0 (d.drivers s)) (.collect (d.str.loading.getD 0 % 256)) hs
    exact ⟨kget, by rw [kstrand]; exact Cycle.noConfusion, kmem⟩

/-- A diagnostic cycle that is skipped is counted and told. -/
theorem diagSkipped_told (c : Block) (s : Nat) :
    let d := (c.countSat (F.STR_CNT_Ei 2) 1).raiseAt E.STR_DIAG_SKIPPED s
    d.get (F.STR_CNT_Ei 2) = min (c.get (F.STR_CNT_Ei 2) + 1) (2 ^ 32 - 1) ∧ d.bit F.STR_ERR_DIAG_SKIPPED = true ∧ d.str = c.str ∧ SameMem c d := by
  have hfits : min (c.get (F.STR_CNT_Ei 2) + 1) (2 ^ 32 - 1) % 2 ^ (F.STR_CNT_Ei 2).width = min (c.get (F.STR_CNT_Ei 2) + 1) (2 ^ 32 - 1) :=
    Nat.mod_eq_of_lt (lt_of_le_of_lt (Nat.min_le_right _ _) (by decide))
  refine ⟨?_, Block.bit_raiseAt_self _ s (by decide) rfl (by decide) (by decide) (by decide), by simp, by simp⟩
  rw [Block.get_raiseAt_apart _ _ (by decide) (by decide) (by decide) (by decide) (by decide), Block.countSat_eq,
    Block.get_set_self _ _ (by decide)]
  exact hfits

/-- With diagnostics whose COLLECT cannot return in time the cycle is skipped. -/
theorem settle_clwLoadDone_skip {b : Block} {s ctlEnd : Nat} (hs : s < 96) (hlen : b.str.strings.length = 96)
    (hc : (b.strand s).cycle = .load) (hret : b.retEn s = true) (hdiag : b.actBit F.STR_COMMON_CTRL_DIAG_EN = true)
    (hdim : b.pmState ≠ pmDim) (hprobe : b.actBit F.STR_COMMON_CTRL_PROBE_EN = false)
    (hend : ctlEnd = (b.strand s).until' + 160 + 20 * (33 + 72 * b.drivers s)) (hfits : b.collectFits s (ctlEnd + 160) = false) :
    let t := (clwLoadDone s b).settle
    t.bit F.STR_ERR_DIAG_SKIPPED = true
      ∧ t.get (F.STR_CNT_Ei 2) = min (b.get (F.STR_CNT_Ei 2) + 1) (2 ^ 32 - 1) ∧ (t.strand s).cycle ≠ .control ∧ SameMem b t := by
  rw [clwLoadDone_eq hc]
  obtain ⟨hregs, hstr, hfrm, hout, -, -, -, hmem⟩ := untilStc_spec b (b.strand s).until'
  generalize b.untilStc (b.strand s).until' = c at *
  obtain ⟨hstrand, hdrv, hretc, -, -, hfitsc⟩ := Block.wire_congr hregs hstr hfrm s
  have hbit : ∀ f : Fld, c.actBit f = b.actBit f := fun f => congrArg (· != 0) (Block.get_congr hregs f.act)
  have hpm : c.pmState = b.pmState := Block.get_congr hregs _
  rw [Block.afterLoad_diag (by rw [hretc, hret]) (by rw [hbit, hdiag]) (by rw [hpm]; exact hdim) (by rw [hbit, hprobe])]
  simp only [hstrand, hdrv, hfitsc, ← hend, hfits, Bool.false_eq_true, if_false]
  obtain ⟨hcount, herr, hdstr, hdmem⟩ := diagSkipped_told c s
  generalize (c.countSat (F.STR_CNT_Ei 2) 1).raiseAt E.STR_DIAG_SKIPPED s = d at *
  obtain ⟨kget, kcycle, kmem⟩ := settle_collect_or_enum d (s := s) (d.collectFits s ((b.strand s).until' + 160)) ((b.strand s).until' + 160)
    (by rw [hdstr, hstr, hlen]; exact hs)
  refine ⟨?_, ?_, kcycle, (hmem.trans hdmem).trans kmem⟩
  · rw [Block.bit, kget _ (by decide) (by decide), ← Block.bit, herr]
  · rw [kget _ (by decide) (by decide), hcount, Block.get_congr hregs]

/-! ### After CONTROL, PROBE and COLLECT -/

/-- r_s moves on. -/
def rotated (q : Strand) : Strand := { q with rotor := q.examined }

theorem clwControlDone_bare {b : Block} {s : Nat} (hc : (b.strand s).cycle = .control) (hp : (b.strand s).probes = []) :
    clwControlDone s b = ((b.untilStc (b.strand s).until').onStr s rotated).sendCollect s ((b.strand s).until' + 160) := by
  rw [clwControlDone, if_neg (not_not.mpr hc)]
  simp only [hp, List.isEmpty_nil, if_true]
  rfl

theorem Block.onStr_onStr (b : Block) (s : Nat) (f g : Strand → Strand) : (b.onStr s f).onStr s g = b.onStr s (fun q => g (f q)) := by
  simp only [Block.onStr, List.modify_modify_eq]
  rfl

/-- COLLECT leaves after a change of its string's record, settled. -/
theorem settle_onStr_sendCollect (b : Block) {s : Nat} (at' : Nat) (f : Strand → Strand) (hs : s < b.str.strings.length) :
    let t := ((b.onStr s f).sendCollect s at').settle
    t.out = .clw s (.collect (b.str.loading.getD 0 % 256)) :: b.out ∧ t.strand s = collecting at' (b.drivers s) (f (b.strand s))
      ∧ SameOutside [0x24] b t ∧ SameMem b t := by
  have he : (b.onStr s f).sendCollect s at' = (b.onStr s (fun q => collecting at' (b.drivers s) (f q))).clw s 33
      (.collect (b.str.loading.getD 0 % 256)) := by
    rw [Block.sendCollect_eq, Block.onStr_onStr]
    rfl
  rw [he]
  obtain ⟨kout, kstrand, -, -, -, koutside, kmem⟩ := settle_onStr_clw b 33 (fun q => collecting at' (b.drivers s) (f q))
    (.collect (b.str.loading.getD 0 % 256)) hs
  exact ⟨kout, kstrand, koutside, kmem⟩

theorem settle_clwControlDone_bare {b : Block} {s : Nat} (hs : s < 96) (hlen : b.str.strings.length = 96)
    (hc : (b.strand s).cycle = .control) (hp : (b.strand s).probes = []) :
    let t := (clwControlDone s b).settle
    t.out = .clw s (.collect (b.str.loading.getD 0 % 256)) :: b.out
      ∧ (t.strand s).cycle = .collect ∧ (t.strand s).collectAt = some ((b.strand s).until' + 160)
      ∧ (t.strand s).until' = (b.strand s).until' + 160 + 20 * (33 + 192 * b.drivers s) ∧ (t.strand s).rotor = (b.strand s).examined
      ∧ SameOutside [0x24] b t ∧ SameMem b t := by
  rw [clwControlDone_bare hc hp]
  obtain ⟨hregs, hstr, hfrm, hout, -, -, houtside, hmem⟩ := untilStc_spec b (b.strand s).until'
  generalize b.untilStc (b.strand s).until' = c at *
  obtain ⟨hstrand, hdrv, -, -, -, -⟩ := Block.wire_congr hregs hstr hfrm s
  obtain ⟨kout, kstrand, koutside, kmem⟩ := settle_onStr_sendCollect c ((b.strand s).until' + 160) rotated (s := s) (by rw [hstr, hlen]; exact hs)
  rw [hstrand, hdrv] at kstrand
  refine ⟨by rw [kout, hout, hstr], ?_, ?_, ?_, ?_, houtside.trans koutside, hmem.trans kmem⟩ <;> rw [kstrand] <;> rfl

theorem settle_clwProbeDone {b : Block} {s : Nat} (hs : s < 96) (hlen : b.str.strings.length = 96) (hc : (b.strand s).cycle = .probe) :
    let t := (clwProbeDone s b).settle
    t.out = .clw s (.collect (b.str.loading.getD 0 % 256)) :: b.out ∧ (t.strand s).cycle = .collect
      ∧ (t.strand s).collectAt = some ((b.strand s).until' + 160) ∧ SameOutside [0x24] b t ∧ SameMem b t := by
  have he : clwProbeDone s b = (b.untilStc (b.strand s).until').sendCollect s ((b.strand s).until' + 160) := by
    rw [clwProbeDone]
    exact if_neg (not_not.mpr hc)
  rw [he]
  obtain ⟨hregs, hstr, hfrm, hout, -, -, houtside, hmem⟩ := untilStc_spec b (b.strand s).until'
  generalize b.untilStc (b.strand s).until' = c at *
  rw [Block.sendCollect_eq]
  obtain ⟨kout, kstrand, -, -, -, koutside, kmem⟩ := settle_onStr_clw c 33 (collecting ((b.strand s).until' + 160) (c.drivers s))
    (.collect (c.str.loading.getD 0 % 256)) (s := s) (by rw [hstr, hlen]; exact hs)
  exact ⟨by rw [kout, hout, hstr], by rw [kstrand]; rfl, by rw [kstrand]; rfl, houtside.trans koutside, hmem.trans kmem⟩

theorem settle_collectReserveEnd {b : Block} {s : Nat} {p : Plan} (hs : s < 96) (hlen : b.str.strings.length = 96)
    (hc : (b.strand s).cycle = .collect) (hp : b.frm.next = some p) (h : (b.strand s).until' + 820 ≤ b.launchAt s p.own) :
    let t := (collectReserveEnd s b).settle
    t.out = .clw s .enum :: b.out ∧ (t.strand s).cycle = .rest
      ∧ (t.strand s).collectAt = (b.strand s).collectAt ∧ SameOutside [0x24] b t ∧ SameMem b t := by
  have he : collectReserveEnd s b = (b.untilStc (b.strand s).until').sendEnum s ((b.strand s).until' + 160) := by
    rw [collectReserveEnd]
    exact if_neg (not_not.mpr hc)
  rw [he]
  obtain ⟨hregs, hstr, hfrm, hout, -, -, houtside, hmem⟩ := untilStc_spec b (b.strand s).until'
  generalize b.untilStc (b.strand s).until' = c at *
  obtain ⟨hstrand, -, -, hlaunch, -, -⟩ := Block.wire_congr hregs hstr hfrm s
  have hlenc : s < c.str.strings.length := by rw [hstr, hlen]; exact hs
  rw [Block.sendEnum_leaves (p := p) hlenc (by rw [hfrm, hp]) (by rw [hlaunch]; omega)]
  obtain ⟨kout, kstrand, -, -, -, koutside, kmem⟩ := settle_onStr_clw c 25 resting .enum hlenc
  exact ⟨by rw [kout, hout], by rw [kstrand]; rfl, by rw [kstrand, hstrand]; rfl, houtside.trans koutside, hmem.trans kmem⟩

/-! ### Lamp state words (R326) -/

theorem length_leBytes : ∀ k n : Nat, (leBytes k n).length = k
  | 0, _ => rfl
  | k + 1, n => by rw [leBytes, List.length_cons, length_leBytes]

theorem leNat_leBytes : ∀ k n : Nat, leNat (leBytes k n) = n % 256 ^ k
  | 0, n => by rw [leBytes, leNat, pow_zero, Nat.mod_one]
  | k + 1, n => by
    rw [leBytes, leNat, leNat_leBytes k, BitVec.toNat_ofNat, pow_succ' 256 k]
    exact (Nat.mod_mul (a := 256)).symm

/-- Bytes that are written read back. -/
theorem Block.qdrBytes_writeQdr (b : Block) (a : Nat) (bs : List Byte) : (b.writeQdr a bs).qdrBytes a bs.length = bs := by
  refine List.ext_getElem (by simp [Block.qdrBytes]) fun i h1 h2 => ?_
  simp [Block.qdrBytes, Block.qdrByte_writeQdr, h2]

/-- Bytes beside those that are written read as before. -/
theorem Block.qdrBytes_writeQdr_apart (b : Block) {a c n : Nat} {bs : List Byte} (h : c + n ≤ a ∨ a + bs.length ≤ c) :
    (b.writeQdr a bs).qdrBytes c n = b.qdrBytes c n := by
  refine List.map_congr_left fun i hi => ?_
  have hin := List.mem_range.mp hi
  rw [Block.qdrByte_writeQdr, if_neg (by omega)]

/-- The fields of a lamp are within their widths. -/
structure Lamp.Fits (l : Lamp) : Prop where
  zero : l.zero < 4096
  low : l.low < 128
  shorts : l.shorts < 4
  opens : l.opens < 4
  cause : l.cause < 4

theorem fits_lampOfWord (w : Nat) : (lampOfWord w).Fits :=
  ⟨Nat.mod_lt _ (by decide), Nat.mod_lt _ (by decide), Nat.mod_lt _ (by decide), Nat.mod_lt _ (by decide), Nat.mod_lt _ (by decide)⟩

theorem Block.fits_lamp (b : Block) (g : Nat) : (b.lamp g).Fits := fits_lampOfWord _

theorem flagBits_two (x y : Bool) : flagBits [x, y] = x.toNat + 2 * y.toNat := by
  cases x <;> cases y <;> rfl

theorem flagBits_three (x y z : Bool) : flagBits [x, y, z] = x.toNat + 2 * y.toNat + 4 * z.toNat := by
  cases x <;> cases y <;> cases z <;> rfl

theorem toNat_beq_one (x : Bool) : (x.toNat == 1) = x := by cases x <;> rfl

/-- A state word holds its fields. -/
theorem Lamp.Fits.lampOfWord_word {l : Lamp} (h : l.Fits) : l.word < 2 ^ 32 ∧ lampOfWord l.word = l := by
  obtain ⟨failed, unmeasured, leaky, cause, opens, shorts, leakSeen, probed, low, dark⟩ := l
  obtain ⟨hz, hl, hs, ho, hc⟩ := h
  have h1 := Bool.toNat_lt failed
  have h2 := Bool.toNat_lt unmeasured
  have h3 := Bool.toNat_lt leaky
  have h4 := Bool.toNat_lt leakSeen
  have h5 := Bool.toNat_lt probed
  have hbit : ∀ (n k : Nat) (x : Bool), n / 2 ^ k % 2 = x.toNat → bitOf n k = x := fun n k x hx => by
    rw [bitOf, hx, toNat_beq_one]
  rw [Lamp.word, flagBits_two, flagBits_three]
  dsimp only at *
  refine ⟨by omega, ?_⟩
  simp only [lampOfWord, Lamp.mk.injEq]
  refine ⟨hbit _ _ _ ?_, hbit _ _ _ ?_, hbit _ _ _ ?_, ?_, ?_, ?_, hbit _ _ _ ?_, hbit _ _ _ ?_, ?_, ?_⟩ <;> omega

theorem Block.lamp_setLamp_self (b : Block) (g : Nat) {l : Lamp} (h : l.Fits) : (b.setLamp g l).lamp g = l := by
  obtain ⟨hlt, hword⟩ := h.lampOfWord_word
  have hsame := b.qdrBytes_writeQdr (lampBase + 4 * g) (leBytes 4 l.word)
  rw [length_leBytes] at hsame
  rw [Block.lamp, Block.qdrNat, Block.setLamp, hsame, leNat_leBytes, Nat.mod_eq_of_lt (show l.word < 256 ^ 4 from hlt), hword]

theorem Block.lamp_setLamp_ne (b : Block) {g k : Nat} (l : Lamp) (h : k ≠ g) : (b.setLamp g l).lamp k = b.lamp k := by
  rw [Block.lamp, Block.qdrNat, Block.setLamp, Block.qdrBytes_writeQdr_apart, ← Block.qdrNat, ← Block.lamp]
  rw [length_leBytes]
  omega

theorem Block.lamp_congr {t u : Block} (h : t.qdr = u.qdr) (g : Nat) : t.lamp g = u.lamp g := by
  simp only [Block.lamp, Block.qdrNat, Block.qdrBytes, Block.qdrByte, h]

/-- A write to QDR changes QDR alone. -/
theorem Block.writeQdr_only : ∀ (bs : List Byte) (b : Block) (a : Nat),
    b.writeQdr a bs = { b with qdr := (b.writeQdr a bs).qdr, qdrBad := (b.writeQdr a bs).qdrBad }
  | [], _, _ => rfl
  | v :: r, b, a => by
    rw [Block.writeQdr, Block.writeQdr_only r]
    rfl

/-- A lamp's state word is in QDR alone. -/
theorem Block.setLamp_eq (b : Block) (g : Nat) (l : Lamp) :
    b.setLamp g l = { b with qdr := (b.setLamp g l).qdr, qdrBad := (b.setLamp g l).qdrBad } := Block.writeQdr_only _ _ _

/-! ### PROBE -/

/-- A lamp that is probed. -/
def Lamp.probe (l : Lamp) : Lamp := { l with probed := true, zero := 0 }

theorem Lamp.Fits.probe {l : Lamp} (h : l.Fits) : l.probe.Fits := ⟨(by decide : 0 < 4096), h.low, h.shorts, h.opens, h.cause⟩

/-- The lamps of a list are probed in turn. -/
def Block.probeAll (b : Block) (s : Nat) (l : List Nat) : Block := b.each l (fun i b => b.setLamp (3072 * s + i) (b.lamp (3072 * s + i)).probe)

theorem Block.probeAll_cons (b : Block) (s i : Nat) (l : List Nat) :
    b.probeAll s (i :: l) = (b.setLamp (3072 * s + i) (b.lamp (3072 * s + i)).probe).probeAll s l := by
  simp only [Block.probeAll, Block.each, List.foldl_cons]

theorem Block.probeAll_eq : ∀ (l : List Nat) (b : Block) (s : Nat),
    b.probeAll s l = { b with qdr := (b.probeAll s l).qdr, qdrBad := (b.probeAll s l).qdrBad }
  | [], _, _ => rfl
  | i :: l, b, s => by
    rw [Block.probeAll_cons, Block.probeAll_eq l, Block.setLamp_eq]

/-- A probed lamp stays probed while others are. -/
theorem Block.lamp_probeAll_kept : ∀ (l : List Nat) (b : Block) (s i : Nat), (b.lamp (3072 * s + i)).probed = true ∧ (b.lamp (3072 * s + i)).zero = 0 →
    ((b.probeAll s l).lamp (3072 * s + i)).probed = true ∧ ((b.probeAll s l).lamp (3072 * s + i)).zero = 0
  | [], _, _, _, h => h
  | j :: l, b, s, i, h => by
    rw [Block.probeAll_cons]
    refine Block.lamp_probeAll_kept l _ s i ?_
    by_cases hij : i = j
    · rw [hij, Block.lamp_setLamp_self _ _ (b.fits_lamp _).probe]
      exact ⟨rfl, rfl⟩
    · rwa [Block.lamp_setLamp_ne _ _ (by omega)]

theorem Block.lamp_probeAll : ∀ (l : List Nat) (b : Block) (s i : Nat), i ∈ l →
    ((b.probeAll s l).lamp (3072 * s + i)).probed = true ∧ ((b.probeAll s l).lamp (3072 * s + i)).zero = 0
  | [], _, _, _, h => absurd h List.not_mem_nil
  | j :: l, b, s, i, h => by
    rw [Block.probeAll_cons]
    by_cases hij : i = j
    · refine Block.lamp_probeAll_kept l _ s i ?_
      rw [hij, Block.lamp_setLamp_self _ _ (b.fits_lamp _).probe]
      exact ⟨rfl, rfl⟩
    · exact Block.lamp_probeAll l _ s i ((List.mem_cons.mp h).resolve_left hij)

/-- The record of a string on whose wire PROBE has left at `at'`. -/
def probing (at' : Nat) (q : Strand) : Strand :=
  { q with diagAt := some at', cycle := .probe, until' := at' + 4420 + 1600 * perDriver q.probes, probed := q.probes, rotor := q.examined }

/-- PROBE leaves at `at'` for the lamps of a list. -/
def Block.sendProbe (c : Block) (s at' : Nat) (l : List Nat) : Block :=
  (((c.clw s 25 (.probe (c.str.loading.getD 0 % 256))).probeAll s l).countSat (F.STR_CNT_Ei 4) l.length).onStr s (probing at')

theorem clwControlDone_probe {b : Block} {s : Nat} (hc : (b.strand s).cycle = .control) (hp : (b.strand s).probes ≠ []) :
    clwControlDone s b = ((b.untilStc (b.strand s).until').untilStc (max ((b.strand s).until' + 160) (nsOf b.frm.cur.guard))).sendProbe s
      (max ((b.strand s).until' + 160) (nsOf b.frm.cur.guard)) (b.strand s).probes := by
  have hemp : (b.strand s).probes.isEmpty = false := by simpa using hp
  rw [clwControlDone, if_neg (not_not.mpr hc)]
  dsimp only
  rw [hemp]
  rfl

theorem settle_sendProbe (c : Block) {s : Nat} (at' : Nat) (l : List Nat) (hs : s < c.str.strings.length) :
    let t := (c.sendProbe s at' l).settle
    t.out = .clw s (.probe (c.str.loading.getD 0 % 256)) :: c.out ∧ t.strand s = probing at' (c.strand s)
      ∧ (∀ i ∈ l, (t.lamp (3072 * s + i)).probed = true ∧ (t.lamp (3072 * s + i)).zero = 0)
      ∧ t.get (F.STR_CNT_Ei 4) = min (c.get (F.STR_CNT_Ei 4) + l.length) (2 ^ 32 - 1) ∧ SameOutside [0x24] c t := by
  obtain ⟨weq, wout, wget, -⟩ := c.clw_spec s 25 (.probe (c.str.loading.getD 0 % 256))
  have hwstr : (c.clw s 25 (.probe (c.str.loading.getD 0 % 256))).str = c.str := by rw [weq]
  have hwx : (c.clw s 25 (.probe (c.str.loading.getD 0 % 256))).out = .clw s (.probe (c.str.loading.getD 0 % 256)) :: c.out := by rw [weq]
  have hwcnt := wget (F.STR_CNT_Ei 4) (by decide) (by decide)
  unfold Block.sendProbe
  generalize c.clw s 25 (.probe (c.str.loading.getD 0 % 256)) = d at *
  have hlamps := Block.lamp_probeAll l d s
  have hall := d.probeAll_eq l s
  generalize d.probeAll s l = e at *
  have hestr : e.str = d.str := by rw [hall]
  have heout : e.out = d.out := by rw [hall]
  have heget : ∀ g, e.get g = d.get g := fun g => Block.get_congr (by rw [hall]) g
  have hewords : SameOutside [0x24] d e := (sameOutside_congr (by rw [hall])).mpr (.refl _ d)
  have hfits : min (e.get (F.STR_CNT_Ei 4) + l.length) (2 ^ 32 - 1) % 2 ^ (F.STR_CNT_Ei 4).width = min (e.get (F.STR_CNT_Ei 4) + l.length) (2 ^ 32 - 1) :=
    Nat.mod_eq_of_lt (lt_of_le_of_lt (Nat.min_le_right _ _) (by decide))
  have hcount : (e.countSat (F.STR_CNT_Ei 4) l.length).get (F.STR_CNT_Ei 4) = min (e.get (F.STR_CNT_Ei 4) + l.length) (2 ^ 32 - 1) :=
    (Block.get_set_self e _ (by decide)).trans hfits
  have hcountOut : SameOutside [0x24] e (e.countSat (F.STR_CNT_Ei 4) l.length) := (sameOutside_set _ (by decide)).mpr (.refl _ e)
  have hcountKept : (e.countSat (F.STR_CNT_Ei 4) l.length).str = e.str ∧ (e.countSat (F.STR_CNT_Ei 4) l.length).out = e.out
    ∧ (e.countSat (F.STR_CNT_Ei 4) l.length).qdr = e.qdr := ⟨rfl, rfl, rfl⟩
  generalize e.countSat (F.STR_CNT_Ei 4) l.length = u at *
  obtain ⟨hustr, huout, huqdr⟩ := hcountKept
  have hlen : s < u.str.strings.length := by rw [hustr, hestr, hwstr]; exact hs
  have hstrand : (u.onStr s (probing at')).strand s = probing at' (c.strand s) := by
    rw [u.strand_onStr _ hlen, Block.strand, hustr, hestr, hwstr, ← Block.strand]
  have htail : StrOnly u (u.onStr s (probing at')) := strOnly_onStr _ _ _
  have htailKept : (u.onStr s (probing at')).out = u.out ∧ (u.onStr s (probing at')).qdr = u.qdr := ⟨rfl, rfl⟩
  generalize u.onStr s (probing at') = t at *
  refine ⟨?_, hstrand, fun i hi => ?_, ?_, ?_⟩
  · rw [Block.settle_out, htailKept.1, huout, heout, hwx]
  · rw [Block.lamp_congr (t := t.settle) (u := e) (by rw [Block.settle_qdr, htailKept.2, huqdr])]
    exact hlamps i hi
  · rw [Block.settle_get, htail.get, hcount, heget, hwcnt]
  · rw [sameOutside_settle]
    exact ((wout.trans hewords).trans hcountOut).trans htail.sameOutside

theorem settle_clwControlDone_probe {b : Block} {s : Nat} (hs : s < 96) (hlen : b.str.strings.length = 96)
    (hc : (b.strand s).cycle = .control) (hp : (b.strand s).probes ≠ []) :
    let t := (clwControlDone s b).settle
    t.out = .clw s (.probe (b.str.loading.getD 0 % 256)) :: b.out
      ∧ (t.strand s).cycle = .probe ∧ (t.strand s).probed = (b.strand s).probes ∧ (t.strand s).rotor = (b.strand s).examined
      ∧ (t.strand s).until' = max ((b.strand s).until' + 160) (nsOf b.frm.cur.guard) + 4420 + 1600 * perDriver (b.strand s).probes
      ∧ (∀ i ∈ (b.strand s).probes, i < 3072 → (t.lamp (3072 * s + i)).probed = true ∧ (t.lamp (3072 * s + i)).zero = 0)
      ∧ t.get (F.STR_CNT_Ei 4) = min (b.get (F.STR_CNT_Ei 4) + (b.strand s).probes.length) (2 ^ 32 - 1)
      ∧ SameOutside [0x24] b t := by
  rw [clwControlDone_probe hc hp]
  generalize max ((b.strand s).until' + 160) (nsOf b.frm.cur.guard) = at'
  obtain ⟨hregs1, hstr1, -, hout1, -, -, houtside1, -⟩ := untilStc_spec b (b.strand s).until'
  generalize b.untilStc (b.strand s).until' = c at *
  obtain ⟨hregs2, hstr2, -, hout2, -, -, houtside2, -⟩ := untilStc_spec c at'
  generalize c.untilStc at' = d at *
  have hstr : d.str = b.str := hstr2.trans hstr1
  obtain ⟨kout, kstrand, klamps, kcount, koutside⟩ := settle_sendProbe d at' (b.strand s).probes (s := s) (by rw [hstr, hlen]; exact hs)
  have hstrand : d.strand s = b.strand s := by rw [Block.strand, hstr, ← Block.strand]
  rw [hstrand] at kstrand
  refine ⟨by rw [kout, hout2, hout1, hstr], by rw [kstrand]; rfl, by rw [kstrand]; rfl, by rw [kstrand]; rfl, by rw [kstrand]; rfl,
    fun i hi _ => klamps i hi, ?_, (houtside1.trans houtside2).trans koutside⟩
  rw [kcount, Block.get_congr (hregs2.trans hregs1)]

end Sys2Proof.Machine
end

section
/-!
PROOFS of chapter 10: the reports of a COLLECT.
-/

namespace Sys2Proof.Machine

/-! ### What reports change -/

/-- The registers that a report writes: the errors, the interrupt, and the counters 1, 5, 6 and 7. -/
def reportWords : List Nat := [0x240004, 0x247FF0, 0x240044, 0x240054, 0x240058, 0x24005C]

/-- Reports change lamps and the registers that tell of them. -/
structure Reports (b t : Block) : Prop where
  eq : t = { b with regs := t.regs, flt := t.flt, qdr := t.qdr, qdrBad := t.qdrBad }
  outside : SameOutside [0x24, 0x30] b t
  get : ∀ g : Fld, g.addr ∉ reportWords → g.addr / 0x10000 ≠ 0x30 → t.get g = b.get g

theorem Reports.refl (b : Block) : Reports b b := ⟨rfl, .refl _ b, fun _ _ _ => rfl⟩

theorem Reports.trans {b c t : Block} (h : Reports b c) (k : Reports c t) : Reports b t :=
  ⟨by rw [k.eq, h.eq], h.outside.trans k.outside, fun g hg hf => (k.get g hg hf).trans (h.get g hg hf)⟩

theorem Reports.str {b t : Block} (h : Reports b t) : t.str = b.str := by rw [h.eq]

theorem reports_set (b : Block) {f : Fld} (v : Nat) (hf : f.addr ∈ reportWords) : Reports b (b.set f v) := by
  have hwin : keyAddr f.addr / 0x10000 = 0x24 := by
    simp only [reportWords, List.mem_cons, List.not_mem_nil, or_false] at hf
    rcases hf with h | h | h | h | h | h <;> rw [h] <;> decide
  refine ⟨rfl, (sameOutside_set _ (by rw [hwin]; decide)).mpr (.refl _ b), fun g hg _ => ?_⟩
  have hne : g.addr ≠ f.addr := fun h => hg (h ▸ hf)
  exact b.get_set_other v hne

theorem reports_raiseAt (b : Block) {e : Err} (d : Nat) (hf : e.fld.addr = 0x240004) (hi : e.irq.addr = 0x247FF0) : Reports b (b.raiseAt e d) := by
  refine ⟨?_, ?_, fun g hg hflt => ?_⟩
  · conv_lhs => rw [Block.raiseAt_eq]
    simp only [Block.raiseAt_qdr, Block.raiseAt_qdrBad]
  · rw [sameOutside_raiseAt _ (by rw [hf]; decide) (by rw [hi]; decide) (by decide)]
    exact .refl _ b
  · rw [Block.get, Block.word_raiseAt_other _ _ (fun h => hg (by rw [h, hf]; decide)) (fun h => hg (by rw [h, hi]; decide)) hflt, ← Block.get]

theorem reports_setLamp (b : Block) (g : Nat) (l : Lamp) : Reports b (b.setLamp g l) := by
  have h := b.setLamp_eq g l
  refine ⟨by rw [h], (sameOutside_congr (by rw [h])).mpr (.refl _ b), fun f _ _ => Block.get_congr (by rw [h]) f⟩

theorem reports_each {α : Type} (f : α → Block → Block) (h : ∀ x b, Reports b (f x b)) : ∀ (l : List α) (b : Block), Reports b (b.each l f)
  | [], b => .refl b
  | x :: l, b => (h x b).trans (reports_each f h l (f x b))

/-- What is told of a report changes no lamp. -/
structure Tells (b t : Block) : Prop where
  reports : Reports b t
  qdr : t.qdr = b.qdr

theorem Tells.trans {b c t : Block} (h : Tells b c) (k : Tells c t) : Tells b t := ⟨h.reports.trans k.reports, k.qdr.trans h.qdr⟩

theorem tells_set (b : Block) {f : Fld} (v : Nat) (hf : f.addr ∈ reportWords) : Tells b (b.set f v) := ⟨reports_set b v hf, rfl⟩

theorem tells_raiseAt (b : Block) {e : Err} (d : Nat) (hf : e.fld.addr = 0x240004) (hi : e.irq.addr = 0x247FF0) : Tells b (b.raiseAt e d) :=
  ⟨reports_raiseAt b d hf hi, by simp⟩

theorem Tells.refl (b : Block) : Tells b b := ⟨.refl b, rfl⟩

theorem Tells.ite {b t u : Block} (c : Bool) (h : c = true → Tells b t) (k : c = false → Tells b u) : Tells b (if c then t else u) := by
  cases c
  · exact k rfl
  · exact h rfl

/-! ### One lamp -/

theorem Lamp.Fits.fail {l : Lamp} (h : l.Fits) {c : Nat} (hc : c < 4) : (l.fail c).Fits := by
  unfold Lamp.fail
  split
  · exact h
  · exact ⟨h.zero, h.low, h.shorts, h.opens, hc⟩

theorem Lamp.Fits.openResult {l : Lamp} (h : l.Fits) (v : Bool) : (l.openResult v).Fits := by
  have hopens : ({ l with opens := min 2 (l.opens + 1) } : Lamp).Fits :=
    ⟨h.zero, h.low, h.shorts, (Nat.lt_of_le_of_lt (Nat.min_le_left _ _) (by decide) : min 2 (l.opens + 1) < 4), h.cause⟩
  cases v
  · exact ⟨h.zero, h.low, h.shorts, (by decide : 0 < 4), h.cause⟩
  · simp only [Lamp.openResult, if_true]
    split
    · exact hopens.fail (by decide)
    · exact hopens

theorem Lamp.Fits.shortResult {l : Lamp} (h : l.Fits) (v : Bool) : (l.shortResult v).Fits := by
  have hshorts : ({ l with shorts := min 2 (l.shorts + 1) } : Lamp).Fits :=
    ⟨h.zero, h.low, (Nat.lt_of_le_of_lt (Nat.min_le_left _ _) (by decide) : min 2 (l.shorts + 1) < 4), h.opens, h.cause⟩
  cases v
  · exact ⟨h.zero, h.low, (by decide : 0 < 4), h.opens, h.cause⟩
  · simp only [Lamp.shortResult, if_true]
    split
    · exact hshorts.fail (by decide)
    · exact hshorts

theorem Lamp.Fits.report {l : Lamp} (h : l.Fits) (probed meas isOpen isShort : Bool) : (l.report probed meas isOpen isShort).Fits := by
  have hlow : ({ l with low := min 64 (l.low + 1) } : Lamp).Fits :=
    ⟨h.zero, (Nat.lt_of_le_of_lt (Nat.min_le_left _ _) (by decide) : min 64 (l.low + 1) < 128), h.shorts, h.opens, h.cause⟩
  have hzero : ({ l with low := 0, unmeasured := false } : Lamp).Fits := ⟨h.zero, (by decide : 0 < 128), h.shorts, h.opens, h.cause⟩
  cases probed
  · cases meas
    · simp only [Lamp.report, Bool.false_eq_true, if_false]
      split
      · exact ⟨hlow.zero, hlow.low, hlow.shorts, hlow.opens, hlow.cause⟩
      · exact hlow
    · exact (hzero.openResult isOpen).shortResult isShort
  · exact h.openResult isOpen

/-- The lamp after a report, with the leakage scan's result where its channel was scanned. -/
def Block.reported (b : Block) (s i : Nat) (r : Report) (leak : Option Nat) : Lamp :=
  let l := (b.lamp (3072 * s + i)).report ((b.strand s).probed.contains i) (bitOf r.meas (i % 48)) (bitOf r.opens (i % 48)) (bitOf r.shorts (i % 48))
  if leak = some (i % 48) then l.leakResult (bitOf r.flags 3) (b.actBit F.STR_COMMON_CTRL_LEAK_FAIL) else l

theorem Block.reported_none (b : Block) (s i : Nat) (r : Report) : b.reported s i r none
    = (b.lamp (3072 * s + i)).report ((b.strand s).probed.contains i) (bitOf r.meas (i % 48)) (bitOf r.opens (i % 48)) (bitOf r.shorts (i % 48)) := rfl

/-- The lamp is written, and what is new of it told. -/
theorem Block.tells_updateLamp (b : Block) (s i : Nat) (r : Report) (leak : Option Nat) :
    Tells (b.setLamp (3072 * s + i) (b.reported s i r leak)) (b.updateLamp s i r leak) := by
  have htail (c : Block) (m : Bool) : Tells c ((((c.when m (·.countSat (F.STR_CNT_Ei 5) 1)).countSat (F.STR_CNT_Ei 7) 1).irq
      F.STR_IRQ_STATUS_LAMP_FAILED).raiseAt E.STR_LAMP_FAILED (s + 2 ^ 16 * i)) := by
    have hwhen : Tells c (c.when m (·.countSat (F.STR_CNT_Ei 5) 1)) := by
      cases m
      · exact .refl c
      · exact tells_set c _ (by decide)
    exact ((hwhen.trans (tells_set _ _ (by decide))).trans (tells_set _ _ (by decide))).trans (tells_raiseAt _ _ rfl rfl)
  exact Tells.ite _ (fun _ => htail _ _) fun _ => .refl _

theorem Block.lamp_updateLamp_ne (b : Block) {s i g : Nat} (r : Report) (leak : Option Nat) (h : g ≠ 3072 * s + i) :
    (b.updateLamp s i r leak).lamp g = b.lamp g := by
  rw [Block.lamp_congr (b.tells_updateLamp s i r leak).qdr, Block.lamp_setLamp_ne _ _ h]

theorem Block.lamp_updateLamp (b : Block) (s i : Nat) (r : Report) :
    (b.updateLamp s i r none).lamp (3072 * s + i) = b.reported s i r none := by
  rw [Block.lamp_congr (b.tells_updateLamp s i r none).qdr]
  exact Block.lamp_setLamp_self _ _ ((b.fits_lamp _).report _ _ _ _)

theorem Block.reports_updateLamp (b : Block) (s i : Nat) (r : Report) (leak : Option Nat) : Reports b (b.updateLamp s i r leak) :=
  (reports_setLamp b _ _).trans (b.tells_updateLamp s i r leak).reports

/-! ### One report -/

/-- The flags of a report are told. -/
def Block.tellFlags (b : Block) (s : Nat) (r : Report) : Block :=
  let b := b.each [7, 6] (fun k b => if bitOf r.flags k then
    (b.countSat (F.STR_CNT_Ei 1) 1).raiseAt E.STR_DRIVER_CRC s else b)
  let b := if bitOf r.flags 5 then (b.countSat (F.STR_CNT_Ei 6) 1).raiseAt E.STR_START_MISS s else b
  if bitOf r.flags 4 then b.raiseAt E.STR_DRIVER_HOT s else b

theorem Block.tells_tellFlags (b : Block) (s : Nat) (r : Report) : Tells b (b.tellFlags s r) := by
  have hcrc (k : Nat) (c : Block) : Tells c (if bitOf r.flags k then (c.countSat (F.STR_CNT_Ei 1) 1).raiseAt E.STR_DRIVER_CRC s else c) :=
    .ite _ (fun _ => (tells_set c _ (by decide)).trans (tells_raiseAt _ _ rfl rfl)) fun _ => .refl c
  have hmiss (c : Block) : Tells c (if bitOf r.flags 5 then (c.countSat (F.STR_CNT_Ei 6) 1).raiseAt E.STR_START_MISS s else c) :=
    .ite _ (fun _ => (tells_set c _ (by decide)).trans (tells_raiseAt _ _ rfl rfl)) fun _ => .refl c
  have hhot (c : Block) : Tells c (if bitOf r.flags 4 then c.raiseAt E.STR_DRIVER_HOT s else c) :=
    .ite _ (fun _ => tells_raiseAt _ _ rfl rfl) fun _ => .refl c
  exact (((hcrc 7 b).trans (hcrc 6 _)).trans (hmiss _)).trans (hhot _)

/-- The lamps of a report's driver on some channels are updated. -/
def Block.takeLamps (b : Block) (s pos : Nat) (r : Report) (leak : Option Nat) (chs : List Nat) : Block :=
  b.each chs (fun ch b => b.updateLamp s (48 * pos + ch) r leak)

theorem Block.takeReport_eq (b : Block) (s : Nat) (r : Report) (leak : Option Nat) :
    b.takeReport s r leak = (b.tellFlags s r).takeLamps s r.pos r leak ((List.range 48).filter ((b.tellFlags s r).fitted s)) := rfl

theorem Block.reports_takeLamps (b : Block) (s pos : Nat) (r : Report) (leak : Option Nat) (chs : List Nat) :
    Reports b (b.takeLamps s pos r leak chs) := reports_each _ (fun _ c => c.reports_updateLamp _ _ _ _) chs b

theorem Block.reports_takeReport (b : Block) (s : Nat) (r : Report) (leak : Option Nat) : Reports b (b.takeReport s r leak) :=
  (b.tells_tellFlags s r).reports.trans (Block.reports_takeLamps _ _ _ _ _ _)

theorem Block.takeLamps_cons (b : Block) (s pos ch : Nat) (r : Report) (leak : Option Nat) (chs : List Nat) :
    b.takeLamps s pos r leak (ch :: chs) = (b.updateLamp s (48 * pos + ch) r leak).takeLamps s pos r leak chs := rfl

/-- A lamp that is not among those of the list stays. -/
theorem Block.lamp_takeLamps_ne (s pos g : Nat) (r : Report) (leak : Option Nat) : ∀ (chs : List Nat) (b : Block),
    (∀ ch ∈ chs, g ≠ 3072 * s + (48 * pos + ch)) → (b.takeLamps s pos r leak chs).lamp g = b.lamp g
  | [], _, _ => rfl
  | c :: chs, b, h => by
    rw [Block.takeLamps_cons, Block.lamp_takeLamps_ne s pos g r leak chs _ fun ch hch => h ch (List.mem_cons_of_mem _ hch),
      Block.lamp_updateLamp_ne _ _ _ (h c List.mem_cons_self)]

/-- What a report makes of a lamp depends on the lamp and on the string's record. -/
theorem Block.reported_congr {b t : Block} {s i : Nat} (r : Report) (hl : t.lamp (3072 * s + i) = b.lamp (3072 * s + i)) (hs : t.str = b.str) :
    t.reported s i r none = b.reported s i r none := by
  simp only [Block.reported_none, hl, Block.strand, hs]

theorem Block.lamp_takeLamps (s pos ch : Nat) (r : Report) : ∀ (chs : List Nat) (b : Block), chs.Nodup → ch ∈ chs →
    (b.takeLamps s pos r none chs).lamp (3072 * s + (48 * pos + ch)) = b.reported s (48 * pos + ch) r none
  | [], _, _, h => absurd h List.not_mem_nil
  | c :: chs, b, hn, h => by
    obtain ⟨hc, hn'⟩ := List.nodup_cons.mp hn
    rw [Block.takeLamps_cons]
    by_cases hch : ch = c
    · rw [Block.lamp_takeLamps_ne, hch, Block.lamp_updateLamp]
      intro k hk
      have hne : k ≠ c := fun e => hc (e ▸ hk)
      omega
    · rw [Block.lamp_takeLamps s pos ch r chs _ hn' ((List.mem_cons.mp h).resolve_left hch)]
      exact Block.reported_congr r (Block.lamp_updateLamp_ne _ _ _ (by omega)) (b.reports_updateLamp _ _ _ _).str

/-- Fitted channels are told by the active registers alone. -/
theorem Reports.fitted {b t : Block} (h : Reports b t) {s : Nat} (hs : s < 96) (ch : Nat) : t.fitted s ch = b.fitted s ch := by
  have haddr (f : Fld) (hf : 0x249000 ≤ f.act.addr) (hf' : f.act.addr < 0x250000) : t.get f.act = b.get f.act :=
    h.get _ (by simp only [reportWords, List.mem_cons, List.not_mem_nil, or_false]; omega) (by omega)
  have hlo := haddr (F.STR_STRn_CHMASK_LO_MASK s) (by simp [Fld.act, F.STR_STRn_CHMASK_LO_MASK, R.STR_STRn_CHMASK_LO]; omega)
    (by simp [Fld.act, F.STR_STRn_CHMASK_LO_MASK, R.STR_STRn_CHMASK_LO]; omega)
  have hhi := haddr (F.STR_STRn_CHMASK_HI_MASK s) (by simp [Fld.act, F.STR_STRn_CHMASK_HI_MASK, R.STR_STRn_CHMASK_HI]; omega)
    (by simp [Fld.act, F.STR_STRn_CHMASK_HI_MASK, R.STR_STRn_CHMASK_HI]; omega)
  simp only [Block.fitted, Block.actPair, Block.act, hlo, hhi]

/-- A report updates each fitted lamp of its driver. -/
theorem Block.lamp_takeReport (b : Block) {s ch : Nat} (r : Report) (hs : s < 96) (hch : ch < 48) (hf : b.fitted s ch = true) :
    (b.takeReport s r none).lamp (3072 * s + (48 * r.pos + ch)) = b.reported s (48 * r.pos + ch) r none := by
  have htell := b.tells_tellFlags s r
  rw [Block.takeReport_eq, Block.lamp_takeLamps]
  · exact Block.reported_congr r (Block.lamp_congr htell.qdr _) htell.reports.str
  · exact List.nodup_range.filter _
  · rw [List.mem_filter, htell.reports.fitted hs]
    exact ⟨List.mem_range.mpr hch, hf⟩

theorem Block.lamp_takeReport_ne (b : Block) {s pos ch : Nat} (r : Report) (leak : Option Nat) (hch : ch < 48) (h : pos ≠ r.pos) :
    (b.takeReport s r leak).lamp (3072 * s + (48 * pos + ch)) = b.lamp (3072 * s + (48 * pos + ch)) := by
  rw [Block.takeReport_eq, Block.lamp_takeLamps_ne, Block.lamp_congr (b.tells_tellFlags s r).qdr]
  intro k hk
  have hk48 := List.mem_range.mp (List.mem_filter.mp hk).1
  omega

/-! ### All reports of a COLLECT -/

/-- The reports of a list are taken in turn. -/
def Block.takeAll (b : Block) (s : Nat) (rs : List Report) (leak : Option Nat) : Block := b.each rs (fun r b => b.takeReport s r leak)

theorem Block.reports_takeAll (b : Block) (s : Nat) (rs : List Report) (leak : Option Nat) : Reports b (b.takeAll s rs leak) :=
  reports_each _ (fun _ c => c.reports_takeReport _ _ _) rs b

theorem Block.takeAll_cons (b : Block) (s : Nat) (r : Report) (rs : List Report) (leak : Option Nat) :
    b.takeAll s (r :: rs) leak = (b.takeReport s r leak).takeAll s rs leak := rfl

/-- Reports of other drivers leave a driver's lamps. -/
theorem Block.lamp_takeAll_ne (s pos ch : Nat) (leak : Option Nat) (hch : ch < 48) : ∀ (rs : List Report) (b : Block),
    (∀ r ∈ rs, pos ≠ r.pos) → (b.takeAll s rs leak).lamp (3072 * s + (48 * pos + ch)) = b.lamp (3072 * s + (48 * pos + ch))
  | [], _, _ => rfl
  | r :: rs, b, h => by
    rw [Block.takeAll_cons, Block.lamp_takeAll_ne s pos ch leak hch rs _ fun q hq => h q (List.mem_cons_of_mem _ hq),
      Block.lamp_takeReport_ne _ _ _ hch (h r List.mem_cons_self)]

/-- Each fitted lamp is updated by the report of its driver. -/
theorem Block.lamp_takeAll {s ch : Nat} {r : Report} (hs : s < 96) (hch : ch < 48) : ∀ (rs : List Report) (b : Block),
    (rs.map Report.pos).Nodup → r ∈ rs → b.fitted s ch = true →
    (b.takeAll s rs none).lamp (3072 * s + (48 * r.pos + ch)) = b.reported s (48 * r.pos + ch) r none
  | [], _, _, h, _ => absurd h List.not_mem_nil
  | q :: rs, b, hn, h, hf => by
    obtain ⟨hq, hn'⟩ := List.nodup_cons.mp hn
    have hrep := b.reports_takeReport s q none
    rw [Block.takeAll_cons]
    by_cases hrq : r.pos = q.pos
    · have hr : r = q := (List.mem_cons.mp h).resolve_right fun hin => hq (hrq ▸ List.mem_map_of_mem hin)
      rw [Block.lamp_takeAll_ne s r.pos ch none hch rs, hr, Block.lamp_takeReport b q hs hch hf]
      intro k hk he
      exact hq (hrq ▸ he ▸ List.mem_map_of_mem hk)
    · have hin : r ∈ rs := (List.mem_cons.mp h).resolve_left fun e => hrq (e ▸ rfl)
      rw [Block.lamp_takeAll hs hch rs _ hn' hin (by rw [hrep.fitted hs, hf])]
      exact Block.reported_congr r (Block.lamp_takeReport_ne _ _ _ hch hrq) hrep.str

/-! ### The rail (R321) -/

/-- The setpoint that a report's HEADROOM asks for. -/
def Block.railAsked (b : Block) (s : Nat) (r : Report) : Nat :=
  let d : Int := 20 * (b.act F.STR_HEADROOM_TARGET : Int) - 20 * r.headroom
  let d := max (-(10 * (b.act F.STR_HEADROOM_STEP_DOWN : Int))) (min d (10 * (b.act F.STR_HEADROOM_STEP_UP : Int)))
  let v := (b.get (F.STR_STRn_RAIL_STATUS_SET_MV s) : Int) + d
  let v := (v + 5) / 10 * 10
  (max (b.act (F.STR_STRn_RAIL_LIM_MIN_MV s) : Int) (min v (b.act (F.STR_STRn_RAIL_LIM_MAX_MV s)))).toNat

/-- The smallest HEADROOM and its driver are shown. -/
def Block.showHeadroom (b : Block) (s : Nat) (r : Report) : Block :=
  (b.set (F.STR_STRn_HEADROOM_H s) r.headroom).set (F.STR_STRn_HEADROOM_DRIVER s) r.pos

theorem Block.trackRail_eq {b : Block} {s : Nat} (r : Report) (h : (b.strand s).lost = false) :
    b.trackRail s r = (b.showHeadroom s r).setRail s (b.railAsked s r) := by
  have hl : ¬(b.strand s).lost = true := by
    rw [h]
    exact Bool.false_ne_true
  exact if_neg hl

theorem railAsked_lt (b : Block) (s : Nat) (r : Report) : b.railAsked s r < 2 ^ 13 := by
  have hmin : b.act (F.STR_STRn_RAIL_LIM_MIN_MV s) < 2 ^ 13 := Fld.of_lt _ _
  have hmax : b.act (F.STR_STRn_RAIL_LIM_MAX_MV s) < 2 ^ 13 := Fld.of_lt _ _
  simp only [Block.railAsked]
  omega

/-- What the move of a rail leaves of its string's record. -/
theorem Block.strand_setRail (b : Block) (s mv k : Nat) :
    ((b.setRail s mv).strand k).loop = (b.strand k).loop ∧ ((b.setRail s mv).strand k).collectAt = (b.strand k).collectAt := by
  unfold Block.setRail
  dsimp only
  split
  · exact ⟨rfl, rfl⟩
  · simp only [Block.strand, Block.onStr, List.getD_eq_getElem?_getD, List.getElem?_modify]
    split
    · cases hk : b.str.strings[k]? <;> simp [hk]
    · exact ⟨by simp, by simp⟩

/-- The rail follows the smallest HEADROOM. -/
theorem Block.trackRail_spec {b : Block} {s : Nat} (r : Report) (hs : s < 96) (h : (b.strand s).lost = false) :
    let t := b.trackRail s r
    t.get (F.STR_STRn_RAIL_STATUS_SET_MV s) = b.railAsked s r ∧ SameOutside [0x24] b t
      ∧ (t.strand s).loop = (b.strand s).loop ∧ (t.strand s).collectAt = (b.strand s).collectAt
      ∧ (∀ g : Fld, g.addr ≠ R.STR_STRn_RAIL_STATUS s → g.apart (F.STR_STRn_HEADROOM_H s) = true → g.apart (F.STR_STRn_HEADROOM_DRIVER s) = true
        → t.get g = b.get g) ∧ t.qdr = b.qdr := by
  have hwin : keyAddr (0x243008 + 0x10 * s) / 0x10000 = 0x24 := by
    rw [show 0x243008 + 0x10 * s = 0x240000 + (0x3008 + 0x10 * s) by omega]
    exact strWindow (by omega)
  rw [Block.trackRail_eq r h]
  have hshow : SameOutside [0x24] b (b.showHeadroom s r) :=
    (sameOutside_set _ (by simp [hwin])).mpr ((sameOutside_set _ (by simp [hwin])).mpr (.refl _ b))
  have hget (g : Fld) (hH : g.apart (F.STR_STRn_HEADROOM_H s) = true) (hD : g.apart (F.STR_STRn_HEADROOM_DRIVER s) = true) :
      (b.showHeadroom s r).get g = b.get g := by
    rw [Block.showHeadroom, Block.get_set_apart _ _ rfl hD, Block.get_set_apart _ _ rfl hH]
  have hstrand : (b.showHeadroom s r).strand s = b.strand s := rfl
  have hqdr : (b.showHeadroom s r).qdr = b.qdr := rfl
  generalize b.showHeadroom s r = c at *
  obtain ⟨heq, hmv, hout, hrail, -⟩ := c.setRail_spec hs (railAsked_lt b s r)
  obtain ⟨hloop, hat⟩ := c.strand_setRail s (b.railAsked s r) s
  refine ⟨hmv, hshow.trans hout, by rw [hloop, hstrand], by rw [hat, hstrand], fun g hg hH hD => ?_, by rw [heq]; exact hqdr⟩
  rw [hrail g (Fld.apart_of_addr hg), hget g hH hD]

/-- The setpoint asked for depends on active registers and on the setpoint in force. -/
theorem railAsked_congr {b t : Block} {s : Nat} (r : Report) (hs : s < 96)
    (h : ∀ f : Fld, 0x248000 ≤ f.act.addr → f.act.addr < 0x250000 → t.act f = b.act f)
    (hmv : t.get (F.STR_STRn_RAIL_STATUS_SET_MV s) = b.get (F.STR_STRn_RAIL_STATUS_SET_MV s)) : t.railAsked s r = b.railAsked s r := by
  have hlim (f : Fld) (hf : f.addr = R.STR_STRn_RAIL_LIM s) : t.act f = b.act f :=
    h f (by simp [Fld.act, hf, R.STR_STRn_RAIL_LIM]; omega) (by simp [Fld.act, hf, R.STR_STRn_RAIL_LIM]; omega)
  have htarget := h F.STR_HEADROOM_TARGET (by decide) (by decide)
  have hdown := h F.STR_HEADROOM_STEP_DOWN (by decide) (by decide)
  have hup := h F.STR_HEADROOM_STEP_UP (by decide) (by decide)
  have hmin := hlim (F.STR_STRn_RAIL_LIM_MIN_MV s) rfl
  have hmax := hlim (F.STR_STRn_RAIL_LIM_MAX_MV s) rfl
  simp only [Block.railAsked, htarget, hdown, hup, hmin, hmax, hmv]

/-! ### COLLECT_RETURN -/

/-- The record of a string whose COLLECT has returned. -/
def returned (loop : Nat) (q : Strand) : Strand := { q with collectAt := none, loop := some loop }

/-- A COLLECT has returned, and its LOOP is shown. -/
def Block.heard (b : Block) (s loop : Nat) : Block := (b.onStr s (returned loop)).set (F.STR_STRn_HEADROOM_LOOP s) (min loop 0xFFFF)

/-- A report of a COLLECT that is taken: its CRC is right, and it is its driver's. -/
def soundReport (drivers : Nat) (x : Report × Nat) : Bool := x.1.crcOk && x.1.pos == x.2 && decide (x.2 < drivers)

/-- The reports that are taken: sound, and in time. -/
def goodReports (drivers at' loop limit : Nat) (rs : List Report) : List Report :=
  ((rs.zipIdx.filter (soundReport drivers)).filter (fun x => decide (at' + (loop + 1) / 2 + 20 * (33 + 192 * (x.2 + 1)) ≤ limit))).map (·.1)

/-- What is told of the reports that are not sound. -/
def Block.tellBad (b : Block) (s count : Nat) (rs : List Report) : Block :=
  let bad := (rs.zipIdx.length - (rs.zipIdx.filter (soundReport (b.drivers s))).length) + (b.drivers s - min count rs.length)
  if bad = 0 ∧ count = b.drivers s then b else (b.countSat (F.STR_CNT_Ei 3) (max 1 bad)).raiseAt E.STR_COLLECT_ERR s

/-- The reports are taken, the lamps counted, and the rail follows. -/
def Block.takeGood (b : Block) (s : Nat) (good : List Report) (leak : Option Nat) : Block :=
  let b := ((b.collected s (!good.isEmpty)).takeAll s good leak).lampCounts s
  match minHeadroom good with
  | some r => b.trackRail s r
  | none => b

theorem collectReturn_eq {b : Block} {s at' : Nat} (loop count : Nat) (rs : List Report) (h : (b.strand s).collectAt = some at') :
    collectReturn s loop count rs b =
      let c := (b.untilStc (at' + (loop + 1) / 2 + 20 * (33 + 192 * (rs.length - 1 + 1)))).heard s loop
      let d := c.tellBad s count rs
      d.takeGood s (goodReports (c.drivers s) at' loop b.collectLimit rs) (b.strand s).leakNow := by
  rw [collectReturn, h]
  rfl

theorem Block.heard_spec (b : Block) {s loop : Nat} (hs : s < 96) (hlen : b.str.strings.length = 96) :
    let t := b.heard s loop
    t.strand s = returned loop (b.strand s) ∧ t.get (F.STR_STRn_HEADROOM_LOOP s) = min loop 0xFFFF ∧ SameOutside [0x24] b t ∧ t.qdr = b.qdr
      ∧ t.str.strings.length = 96 ∧ (∀ g : Fld, g.addr ≠ R.STR_STRn_HEADROOM s → t.get g = b.get g) ∧ SameMem b t := by
  have hwin : keyAddr (0x243008 + 0x10 * s) / 0x10000 = 0x24 := by
    rw [show 0x243008 + 0x10 * s = 0x240000 + (0x3008 + 0x10 * s) by omega]
    exact strWindow (by omega)
  have hfits : min loop 0xFFFF % 2 ^ (F.STR_STRn_HEADROOM_LOOP s).width = min loop 0xFFFF :=
    Nat.mod_eq_of_lt (Nat.lt_of_le_of_lt (Nat.min_le_right _ _) (show 0xFFFF < 2 ^ 16 by decide))
  have honly : StrOnly b (b.onStr s (returned loop)) := strOnly_onStr _ _ _
  have hstrand := b.strand_onStr (returned loop) (show s < b.str.strings.length by omega)
  have hqdr : (b.onStr s (returned loop)).qdr = b.qdr := rfl
  unfold Block.heard
  generalize b.onStr s (returned loop) = d at *
  refine ⟨hstrand, ?_, ?_, hqdr, honly.2.1.trans hlen, fun g hg => ?_, honly.step.sameMem⟩
  · exact (d.get_set_self _ rfl).trans hfits
  · exact honly.sameOutside.trans ((sameOutside_set _ (by simp [hwin])).mpr (.refl _ d))
  · exact (d.get_set_apart _ rfl (Fld.apart_of_addr hg)).trans (honly.get g)

/-- The counts of the lamps are shown. -/
theorem Block.lampCounts_spec (b : Block) {s : Nat} (hs : s < 96) :
    let t := b.lampCounts s
    t = { b with regs := t.regs } ∧ SameOutside [0x24] b t
      ∧ ∀ g : Fld, g.addr ≠ R.STR_STRn_LAMPS s → g.addr ≠ R.STR_FAILED_TOTAL → t.get g = b.get g := by
  have hwin : keyAddr (0x24300C + 0x10 * s) / 0x10000 = 0x24 := by
    rw [show 0x24300C + 0x10 * s = 0x240000 + (0x300C + 0x10 * s) by omega]
    exact strWindow (by omega)
  refine ⟨rfl, ?_, fun g hl hf => ?_⟩
  · exact (sameOutside_set _ (by decide)).mpr ((sameOutside_set _ (by simp [hwin])).mpr ((sameOutside_set _ (by simp [hwin])).mpr (.refl _ b)))
  · unfold Block.lampCounts
    dsimp only
    rw [Block.get_set_apart _ _ rfl (Fld.apart_of_addr hf), Block.get_set_apart _ _ rfl (Fld.apart_of_addr hl),
      Block.get_set_apart _ _ rfl (Fld.apart_of_addr hl)]

/-- The record of a string with a good report whose return was not lost. -/
def foundGood (q : Strand) : Strand := { q with bad := 0, good := if q.lost then q.good + 1 else 0, lost := q.lost }

theorem Block.collected_good {b : Block} {s : Nat} (h : (b.strand s).lost = false) : b.collected s true = b.onStr s foundGood := by
  rw [Block.collected]
  simp only [h, Bool.false_and, if_true, Bool.false_eq_true, if_false, Bool.not_false, Bool.and_true]
  rfl

/-- All reports of a sound COLLECT are sound. -/
theorem sound_all {rs : List Report} {n : Nat} (hlen : rs.length = n) (h : rs.zipIdx.all (fun x => x.1.crcOk && x.1.pos == x.2) = true) :
    rs.zipIdx.filter (soundReport n) = rs.zipIdx := by
  refine List.filter_eq_self.mpr fun x hx => ?_
  have hidx : x.2 < n := by
    have := List.snd_lt_of_mem_zipIdx hx
    omega
  have hboth := List.all_eq_true.mp h x hx
  rw [soundReport, hboth, decide_eq_true hidx]
  rfl

theorem goodReports_all {rs : List Report} {n at' loop limit : Nat} (hlen : rs.length = n)
    (h : rs.zipIdx.all (fun x => x.1.crcOk && x.1.pos == x.2) = true) (hlim : at' + (loop + 1) / 2 + 20 * (33 + 192 * n) ≤ limit) :
    goodReports n at' loop limit rs = rs := by
  rw [goodReports, sound_all hlen h, List.filter_eq_self.mpr, List.zipIdx_map_fst]
  intro x hx
  have hidx := List.snd_lt_of_mem_zipIdx hx
  rw [decide_eq_true_iff]
  omega

theorem Block.tellBad_none {b : Block} {s : Nat} {rs : List Report} (hlen : rs.length = b.drivers s)
    (h : rs.zipIdx.all (fun x => x.1.crcOk && x.1.pos == x.2) = true) : b.tellBad s rs.length rs = b := by
  rw [Block.tellBad, sound_all hlen h]
  refine if_pos ⟨?_, hlen⟩
  rw [Nat.min_self, hlen]
  omega

/-- The positions of the reports of a sound COLLECT are their places. -/
theorem pos_of_sound {rs : List Report} (h : rs.zipIdx.all (fun x => x.1.crcOk && x.1.pos == x.2) = true) :
    (∀ (j : Nat) (r : Report), rs[j]? = some r → r.pos = j) ∧ (rs.map Report.pos).Nodup := by
  have hpos (j : Nat) (r : Report) (hj : rs[j]? = some r) : r.pos = j := by
    have hmem : (r, j) ∈ rs.zipIdx := List.mem_zipIdx_iff_getElem?.mpr hj
    have hboth := List.all_eq_true.mp h _ hmem
    simp only [Bool.and_eq_true, beq_iff_eq] at hboth
    exact hboth.2
  refine ⟨hpos, ?_⟩
  have hmap : rs.map Report.pos = List.range rs.length := by
    refine List.ext_getElem (by simp) fun j h1 h2 => ?_
    have hj : j < rs.length := by simpa using h1
    rw [List.getElem_map, List.getElem_range]
    exact hpos j _ (List.getElem?_eq_getElem hj)
  rw [hmap]
  exact List.nodup_range

/-- The block once the reports are taken and the lamps counted. -/
def Block.counted (b : Block) (s : Nat) (rs : List Report) (leak : Option Nat) : Block := ((b.collected s true).takeAll s rs leak).lampCounts s

theorem Block.takeGood_eq (b : Block) (s : Nat) {rs : List Report} (leak : Option Nat) (h : rs ≠ []) :
    b.takeGood s rs leak = match minHeadroom rs with
      | some r => (b.counted s rs leak).trackRail s r
      | none => b.counted s rs leak := by
  have hemp : rs.isEmpty = false := by simpa using h
  rw [Block.takeGood, hemp]
  rfl

theorem Block.counted_spec {b : Block} {s : Nat} (rs : List Report) (leak : Option Nat) (hs : s < 96) (hlen : b.str.strings.length = 96)
    (hlost : (b.strand s).lost = false) :
    let t := b.counted s rs leak
    t.strand s = foundGood (b.strand s) ∧ SameOutside [0x24, 0x30] b t
      ∧ (∀ g : Fld, g.addr ∉ reportWords → g.addr / 0x10000 ≠ 0x30 → g.addr ≠ R.STR_STRn_LAMPS s → g.addr ≠ R.STR_FAILED_TOTAL → t.get g = b.get g)
      ∧ ∀ g, t.lamp g = ((b.onStr s foundGood).takeAll s rs leak).lamp g := by
  have honly : StrOnly b (b.onStr s foundGood) := strOnly_onStr _ _ _
  have hstrand := b.strand_onStr foundGood (show s < b.str.strings.length by omega)
  rw [Block.counted, Block.collected_good hlost]
  generalize b.onStr s foundGood = c at *
  have hrep := c.reports_takeAll s rs leak
  generalize c.takeAll s rs leak = d at *
  obtain ⟨heq, hout, hget⟩ := d.lampCounts_spec hs
  refine ⟨?_, ?_, fun g hw hf hl ht => ?_, fun g => Block.lamp_congr (by rw [heq]) g⟩
  · rw [Block.strand, heq]
    exact (congrArg (fun x : Str => x.strings.getD s Strand.reset) hrep.str).trans hstrand
  · exact (honly.sameOutside.trans hrep.outside).trans (hout.mono (by decide))
  · rw [hget g hl ht, hrep.get g hw hf, honly.get]

/-- A field of STR's registers below a string's, or of one that only the rail writes. -/
theorem notMem_reportWords {a : Nat} (h : 0x243000 ≤ a ∧ a < 0x247000 ∨ 0x248000 ≤ a ∧ a < 0x250000) : a ∉ reportWords ∧ a / 0x10000 ≠ 0x30 := by
  constructor
  · simp only [reportWords, List.mem_cons, List.not_mem_nil, or_false]
    omega
  · omega

/-- The good reports of a COLLECT are taken, settled. -/
theorem settle_takeGood {b : Block} {s : Nat} {rs : List Report} (leak : Option Nat) (hs : s < 96) (hlen : b.str.strings.length = 96)
    (hlost : (b.strand s).lost = false) (hne : rs ≠ []) :
    let t := (b.takeGood s rs leak).settle
    (t.strand s).loop = (b.strand s).loop ∧ (t.strand s).collectAt = (b.strand s).collectAt
      ∧ t.get (F.STR_STRn_HEADROOM_LOOP s) = b.get (F.STR_STRn_HEADROOM_LOOP s) ∧ t.get (F.STR_CNT_Ei 3) = b.get (F.STR_CNT_Ei 3)
      ∧ t.get (F.STR_STRn_RAIL_STATUS_SET_MV s)
        = (match minHeadroom rs with | some r => b.railAsked s r | none => b.get (F.STR_STRn_RAIL_STATUS_SET_MV s))
      ∧ SameOutside [0x24, 0x30] b t ∧ ∀ g, t.lamp g = ((b.onStr s foundGood).takeAll s rs leak).lamp g := by
  obtain ⟨hstrand, hout, hget, hlamp⟩ := Block.counted_spec rs leak hs hlen hlost
  have hlostc : ((b.counted s rs leak).strand s).lost = false := by
    rw [hstrand]
    exact hlost
  have hloop : ((b.counted s rs leak).strand s).loop = (b.strand s).loop := by rw [hstrand]; rfl
  have hat : ((b.counted s rs leak).strand s).collectAt = (b.strand s).collectAt := by rw [hstrand]; rfl
  have hLoop : (b.counted s rs leak).get (F.STR_STRn_HEADROOM_LOOP s) = b.get (F.STR_STRn_HEADROOM_LOOP s) := by
    obtain ⟨hw, hf⟩ := notMem_reportWords (a := (F.STR_STRn_HEADROOM_LOOP s).addr) (by simp; omega)
    exact hget _ hw hf (by simp [R.STR_STRn_LAMPS]) (by simp [R.STR_FAILED_TOTAL]; omega)
  have hMv : (b.counted s rs leak).get (F.STR_STRn_RAIL_STATUS_SET_MV s) = b.get (F.STR_STRn_RAIL_STATUS_SET_MV s) := by
    obtain ⟨hw, hf⟩ := notMem_reportWords (a := (F.STR_STRn_RAIL_STATUS_SET_MV s).addr) (by simp; omega)
    exact hget _ hw hf (by simp [R.STR_STRn_LAMPS]) (by simp [R.STR_FAILED_TOTAL]; omega)
  have hCnt : (b.counted s rs leak).get (F.STR_CNT_Ei 3) = b.get (F.STR_CNT_Ei 3) :=
    hget _ (by decide) (by decide) (by simp [R.STR_STRn_LAMPS]; omega) (by decide)
  have hact (f : Fld) (h1 : 0x248000 ≤ f.act.addr) (h2 : f.act.addr < 0x250000) : (b.counted s rs leak).act f = b.act f := by
    obtain ⟨hw, hf⟩ := notMem_reportWords (.inr ⟨h1, h2⟩)
    exact hget _ hw hf (by simp only [R.STR_STRn_LAMPS]; omega) (by simp only [R.STR_FAILED_TOTAL]; omega)
  rw [Block.takeGood_eq b s leak hne]
  generalize b.counted s rs leak = c at *
  cases hmin : minHeadroom rs with
  | none =>
    exact ⟨hloop, hat, hLoop, hCnt, hMv, hout, hlamp⟩
  | some r =>
    have hasked := railAsked_congr r hs hact hMv
    obtain ⟨kmv, kout, kloop, kat, kget, kqdr⟩ := Block.trackRail_spec r hs hlostc
    dsimp only at *
    generalize c.trackRail s r = t at *
    refine ⟨kloop.trans hloop, kat.trans hat, ?_, ?_, kmv.trans hasked, hout.trans (kout.mono (by decide)), fun g => ?_⟩
    · exact (kget _ (by simp [R.STR_STRn_RAIL_STATUS]) rfl rfl).trans hLoop
    · exact (kget _ (by simp [R.STR_STRn_RAIL_STATUS]; omega) (Fld.apart_of_addr (by simp; omega)) (Fld.apart_of_addr (by simp; omega))).trans hCnt
    · exact (Block.lamp_congr kqdr g).trans (hlamp g)

/-- A COLLECT whose reports are all sound and in time. -/
structure SoundCollect (b : Block) (s loop at' : Nat) (rs : List Report) : Prop where
  string : s < 96
  strings : b.str.strings.length = 96
  sent : (b.strand s).collectAt = some at'
  nonempty : rs ≠ []
  all : rs.length = b.drivers s
  lost : (b.strand s).lost = false
  inTime : at' + (loop + 1) / 2 + 20 * (33 + 192 * b.drivers s) ≤ b.collectLimit
  sound : rs.zipIdx.all (fun x => x.1.crcOk && x.1.pos == x.2) = true

/-- The block when the last report has come. -/
def Block.arrived (b : Block) (s loop at' n : Nat) : Block := (b.untilStc (at' + (loop + 1) / 2 + 20 * (33 + 192 * (n - 1 + 1)))).heard s loop

theorem Block.arrived_spec {b : Block} {s : Nat} (loop at' n : Nat) (hs : s < 96) (hlen : b.str.strings.length = 96) :
    let t := b.arrived s loop at' n
    t.strand s = returned loop (b.strand s) ∧ t.get (F.STR_STRn_HEADROOM_LOOP s) = min loop 0xFFFF ∧ SameOutside [0x24] b t ∧ t.qdr = b.qdr
      ∧ t.str.strings.length = 96 ∧ (∀ g : Fld, g.addr ≠ R.STR_STRn_HEADROOM s → t.get g = b.get g) ∧ SameMem b t ∧ t.drivers s = b.drivers s := by
  obtain ⟨hregs, hstr, -, -, hqdr, -, hout, hmem⟩ := untilStc_spec b (at' + (loop + 1) / 2 + 20 * (33 + 192 * (n - 1 + 1)))
  unfold Block.arrived
  generalize b.untilStc (at' + (loop + 1) / 2 + 20 * (33 + 192 * (n - 1 + 1))) = c at *
  obtain ⟨kstrand, kloop, kout, kqdr, klen, kget, kmem⟩ := c.heard_spec (loop := loop) hs (by rw [hstr, hlen])
  have hstrand : c.strand s = b.strand s := by rw [Block.strand, hstr, ← Block.strand]
  have hget (g : Fld) (hg : g.addr ≠ R.STR_STRn_HEADROOM s) : (c.heard s loop).get g = b.get g := (kget g hg).trans (Block.get_congr hregs g)
  refine ⟨by rw [kstrand, hstrand], kloop, hout.trans kout, kqdr.trans hqdr, klen, hget, hmem.trans kmem, ?_⟩
  exact hget _ (by simp [Fld.act, F.STR_STRn_CFG_DRIVERS, R.STR_STRn_CFG, R.STR_STRn_HEADROOM]; omega)

theorem SoundCollect.collectReturn_eq {b : Block} {s loop at' : Nat} {rs : List Report} (h : SoundCollect b s loop at' rs) :
    collectReturn s loop rs.length rs b = (b.arrived s loop at' rs.length).takeGood s rs (b.strand s).leakNow := by
  obtain ⟨-, -, -, -, -, -, -, hdrv⟩ := Block.arrived_spec (b := b) loop at' rs.length h.string h.strings
  have hall : rs.length = (b.arrived s loop at' rs.length).drivers s := by rw [hdrv, h.all]
  rw [Machine.collectReturn_eq loop rs.length rs h.sent]
  dsimp only
  rw [← Block.arrived, Block.tellBad_none hall h.sound, goodReports_all hall h.sound]
  rw [hdrv]
  exact h.inTime

theorem SoundCollect.settle {b : Block} {s loop at' : Nat} {rs : List Report} (h : SoundCollect b s loop at' rs) :
    let t := (collectReturn s loop rs.length rs b).settle
    ((t.strand s).loop = some loop ∧ (t.strand s).collectAt = none
      ∧ t.get (F.STR_STRn_HEADROOM_LOOP s) = min loop 0xFFFF ∧ t.get (F.STR_CNT_Ei 3) = b.get (F.STR_CNT_Ei 3)
      ∧ t.get (F.STR_STRn_RAIL_STATUS_SET_MV s)
        = (match minHeadroom rs with | some r => b.railAsked s r | none => b.get (F.STR_STRn_RAIL_STATUS_SET_MV s))
      ∧ SameOutside [0x24, 0x30] b t)
    ∧ ∀ g, t.lamp g = (((b.arrived s loop at' rs.length).onStr s foundGood).takeAll s rs (b.strand s).leakNow).lamp g := by
  have hs := h.string
  obtain ⟨hstrand, hloop, hout, -, hlen, hget, -, -⟩ := Block.arrived_spec (b := b) loop at' rs.length h.string h.strings
  rw [h.collectReturn_eq]
  generalize b.arrived s loop at' rs.length = c at *
  have hact (f : Fld) (h1 : 0x248000 ≤ f.act.addr) (h2 : f.act.addr < 0x250000) : c.act f = b.act f :=
    hget _ (by simp only [R.STR_STRn_HEADROOM]; omega)
  have hMv := hget (F.STR_STRn_RAIL_STATUS_SET_MV s) (by simp [R.STR_STRn_HEADROOM])
  have hlost : (c.strand s).lost = false := by
    rw [hstrand]
    exact h.lost
  obtain ⟨kloop, kat, kLoop, kCnt, kMv, kout, klamp⟩ := settle_takeGood (b.strand s).leakNow hs hlen hlost h.nonempty
  refine ⟨⟨?_, ?_, kLoop.trans hloop, ?_, ?_, (hout.mono (by decide)).trans kout⟩, klamp⟩
  · rw [kloop, hstrand]
    rfl
  · rw [kat, hstrand]
    rfl
  · rw [kCnt, hget _ (by simp [R.STR_STRn_HEADROOM]; omega)]
  · rw [kMv]
    cases minHeadroom rs with
    | none => exact hMv
    | some r => exact railAsked_congr r hs hact hMv

/-- Each fitted lamp takes the report of its driver. -/
theorem SoundCollect.lamp {b : Block} {s loop at' j ch : Nat} {rs : List Report} {r : Report} (h : SoundCollect b s loop at' rs)
    (hj : rs[j]? = some r) (hch : ch < 48) (hf : b.fitted s ch = true) (hleak : (b.strand s).leakNow = none) :
    (collectReturn s loop rs.length rs b).settle.lamp (3072 * s + 48 * j + ch)
      = (b.lamp (3072 * s + 48 * j + ch)).report ((b.strand s).probed.contains (48 * j + ch)) (bitOf r.meas ch) (bitOf r.opens ch)
          (bitOf r.shorts ch) := by
  have hs := h.string
  obtain ⟨hpos, hnodup⟩ := pos_of_sound h.sound
  obtain rfl := hpos j r hj
  have hfin := h.settle.2 (3072 * s + 48 * r.pos + ch)
  obtain ⟨hstrand, -, -, hqdr, hlen, hget, -, -⟩ := Block.arrived_spec (b := b) loop at' rs.length h.string h.strings
  rw [hfin, hleak]
  generalize b.arrived s loop at' rs.length = c at *
  have hfit : (c.onStr s foundGood).fitted s ch = b.fitted s ch := by
    have hlo := hget (F.STR_STRn_CHMASK_LO_MASK s).act (by simp [Fld.act, F.STR_STRn_CHMASK_LO_MASK, R.STR_STRn_CHMASK_LO, R.STR_STRn_HEADROOM]; omega)
    have hhi := hget (F.STR_STRn_CHMASK_HI_MASK s).act (by simp [Fld.act, F.STR_STRn_CHMASK_HI_MASK, R.STR_STRn_CHMASK_HI, R.STR_STRn_HEADROOM]; omega)
    have hc : (c.onStr s foundGood).fitted s ch = c.fitted s ch := rfl
    rw [hc]
    simp only [Block.fitted, Block.actPair, Block.act, hlo, hhi]
  have hprobed : ((c.onStr s foundGood).strand s).probed = (b.strand s).probed := by
    rw [c.strand_onStr foundGood (by omega), hstrand]
    rfl
  have hlamp : (c.onStr s foundGood).lamp (3072 * s + (48 * r.pos + ch)) = b.lamp (3072 * s + (48 * r.pos + ch)) :=
    Block.lamp_congr (show (c.onStr s foundGood).qdr = b.qdr from hqdr) _
  have hmod : (48 * r.pos + ch) % 48 = ch := by omega
  rw [Nat.add_assoc, Block.lamp_takeAll hs hch rs _ hnodup (List.mem_of_getElem? hj) (by rw [hfit, hf]), Block.reported_none, hlamp, hprobed, hmod]

/-! ### A report that fails its CRC -/

/-- The record of a string whose COLLECT brought no good report. -/
def foundNone (q : Strand) : Strand := { q with bad := q.bad + 1, good := 0 }

theorem Block.collected_bad {b : Block} {s : Nat} (h : (b.strand s).bad = 0) : b.collected s false = b.onStr s foundNone := by
  rw [Block.collected]
  simp only [h, Bool.false_eq_true, if_false]
  rfl

/-- The one report of a string with one driver fails its CRC. -/
theorem soundReport_bad {r : Report} (h : r.crcOk = false) (n : Nat) : [r].zipIdx.filter (soundReport n) = [] := by
  simp [soundReport, h]

theorem Block.tellBad_one {b : Block} {s : Nat} {r : Report} (hd : b.drivers s = 1) (h : r.crcOk = false) :
    b.tellBad s 1 [r] = (b.countSat (F.STR_CNT_Ei 3) 1).raiseAt E.STR_COLLECT_ERR s := by
  rw [Block.tellBad, soundReport_bad h, hd]
  rfl

/-- A bad report is counted and told. -/
theorem collectErr_told (c : Block) (s : Nat) :
    let d := (c.countSat (F.STR_CNT_Ei 3) 1).raiseAt E.STR_COLLECT_ERR s
    d.get (F.STR_CNT_Ei 3) = min (c.get (F.STR_CNT_Ei 3) + 1) (2 ^ 32 - 1) ∧ d.bit F.STR_ERR_COLLECT_ERR = true ∧ d.str = c.str
      ∧ (∀ g : Fld, 0x243000 ≤ g.addr → g.addr < 0x247000 → d.get g = c.get g) ∧ SameOutside [0x24, 0x30] c d ∧ SameMem c d := by
  have hfits : min (c.get (F.STR_CNT_Ei 3) + 1) (2 ^ 32 - 1) % 2 ^ (F.STR_CNT_Ei 3).width = min (c.get (F.STR_CNT_Ei 3) + 1) (2 ^ 32 - 1) :=
    Nat.mod_eq_of_lt (lt_of_le_of_lt (Nat.min_le_right _ _) (by decide))
  refine ⟨?_, Block.bit_raiseAt_self _ s (by decide) rfl (by decide) (by decide) (by decide), by simp, fun g h1 h2 => ?_, ?_, by simp⟩
  · rw [Block.get_raiseAt_apart _ _ (by decide) (by decide) (by decide) (by decide) (by decide), Block.countSat_eq,
      Block.get_set_self _ _ (by decide)]
    exact hfits
  · rw [Block.get, Block.word_raiseAt_other _ _ (show g.addr ≠ 0x240004 by omega) (show g.addr ≠ 0x247FF0 by omega) (by omega), ← Block.get,
      Block.countSat_eq, Block.get_set_apart _ _ (by decide) (Fld.apart_of_addr (by simp; omega))]
  · simp (disch := decide)

theorem settle_collectReturn_bad {b : Block} {s loop at' : Nat} {r : Report} (hs : s < 96) (hlen : b.str.strings.length = 96)
    (hat : (b.strand s).collectAt = some at') (hd : b.drivers s = 1) (hcrc : r.crcOk = false) (hbad : (b.strand s).bad = 0) :
    let t := (collectReturn s loop 1 [r] b).settle
    t.get (F.STR_CNT_Ei 3) = min (b.get (F.STR_CNT_Ei 3) + 1) (2 ^ 32 - 1)
      ∧ t.bit F.STR_ERR_COLLECT_ERR = true ∧ t.get (F.STR_STRn_RAIL_STATUS_SET_MV s) = b.get (F.STR_STRn_RAIL_STATUS_SET_MV s)
      ∧ (t.strand s).bad = 1 ∧ (t.strand s).loop = some loop ∧ SameOutside [0x24, 0x30] b t ∧ SameMem b t := by
  obtain ⟨hstrand, -, hout, -, hlenc, hget, hmem, hdrv⟩ := Block.arrived_spec (b := b) loop at' 1 hs hlen
  have he : collectReturn s loop 1 [r] b = (((b.arrived s loop at' 1).tellBad s 1 [r]).collected s false).lampCounts s := by
    rw [collectReturn_eq loop 1 [r] hat]
    dsimp only
    rw [goodReports, soundReport_bad hcrc]
    rfl
  rw [he]
  generalize b.arrived s loop at' 1 = c at *
  obtain ⟨kcnt, kerr, kstr, kget, kout, kmem⟩ := collectErr_told c s
  rw [Block.tellBad_one (by rw [hdrv, hd]) hcrc]
  generalize (c.countSat (F.STR_CNT_Ei 3) 1).raiseAt E.STR_COLLECT_ERR s = d at *
  have hdstrand : d.strand s = returned loop (b.strand s) := by rw [Block.strand, kstr, ← Block.strand, hstrand]
  rw [Block.collected_bad (by rw [hdstrand]; exact hbad)]
  have honly : StrOnly d (d.onStr s foundNone) := strOnly_onStr _ _ _
  have hestrand := d.strand_onStr foundNone (s := s) (by rw [kstr]; omega)
  generalize d.onStr s foundNone = e at *
  obtain ⟨leq, lout, lget⟩ := e.lampCounts_spec hs
  have hstr : (e.lampCounts s).str = e.str := by rw [leq]
  have hmeme : SameMem e (e.lampCounts s) := sameMem_of_eq (by rw [leq]) (by rw [leq])
  have hfin : (e.lampCounts s).strand s = foundNone (returned loop (b.strand s)) := by
    rw [Block.strand, hstr, ← Block.strand, hestrand, hdstrand]
  generalize e.lampCounts s = t at *
  refine ⟨?_, ?_, ?_, ?_, ?_, ?_, ?_⟩
  · rw [Block.settle_get, lget _ (by simp [R.STR_STRn_LAMPS]; omega) (by decide), honly.get, kcnt, hget _ (by simp [R.STR_STRn_HEADROOM]; omega)]
  · rw [Block.settle_bit, Block.bit, lget _ (by simp [F.STR_ERR_COLLECT_ERR, R.STR_ERR, R.STR_STRn_LAMPS]; omega) (by decide), honly.get,
      ← Block.bit, kerr]
  · rw [Block.settle_get, lget _ (by simp [R.STR_STRn_LAMPS]) (by simp [R.STR_FAILED_TOTAL]; omega), honly.get,
      kget _ (by simp; omega) (by simp; omega), hget _ (by simp [R.STR_STRn_HEADROOM])]
  · rw [Block.strand, Block.settle_str, ← Block.strand, hfin]
    exact congrArg (· + 1) hbad
  · rw [Block.strand, Block.settle_str, ← Block.strand, hfin]
    rfl
  · rw [sameOutside_settle]
    exact (((hout.mono (by decide)).trans kout).trans honly.sameOutside).trans (lout.mono (by decide))
  · rw [sameMem_settle]
    exact ((hmem.trans kmem).trans honly.step.sameMem).trans hmeme

/-- Settles O58, packet by packet of the wire, and report by report of a COLLECT. -/
theorem stringWires : Obligations.StringWires := by
  unfold Obligations.StringWires
  refine ⟨fun b s p hr hs hlen hc hp hbare => ⟨fun h => ?_, fun h => ?_⟩,
    fun b s ctlEnd hr hs hlen hc hret hdiag hdim hprobe hend => ⟨fun hfits => ?_, fun hfits => ?_⟩,
    fun b s hr hs hlen hc => ⟨fun hp => ?_, fun hp => ?_⟩, fun b s hr hs hlen hc => ?_, fun b s p hr hs hlen hc hp h => ?_,
    fun b s loop at' rs hr hs hlen hat hne hall hlost hlim hsound => ?_, fun b s loop at' r hr hs hlen hat hd hcrc hbad => ?_⟩
  · exact gives_of_done hr (fun _ => rfl) (settle_clwLoadDone_enum hs hlen hc hp hbare h)
  · exact gives_of_done hr (fun _ => rfl) (settle_clwLoadDone_rest hs hlen hc hp hbare h)
  · exact gives_of_done hr (fun _ => rfl) (settle_clwLoadDone_control hs hlen hc hret hdiag hdim hprobe hend hfits)
  · exact gives_of_done hr (fun _ => rfl) (settle_clwLoadDone_skip hs hlen hc hret hdiag hdim hprobe hend hfits)
  · exact gives_of_done hr (fun _ => rfl) (settle_clwControlDone_bare hs hlen hc hp)
  · exact gives_of_done hr (fun _ => rfl) (settle_clwControlDone_probe hs hlen hc hp)
  · exact gives_of_done hr (fun _ => rfl) (settle_clwProbeDone hs hlen hc)
  · exact gives_of_done hr (fun _ => rfl) (settle_collectReserveEnd hs hlen hc hp h)
  · have hcol : SoundCollect b s loop at' rs := ⟨hs, hlen, hat, hne, hall, hlost, hlim, hsound⟩
    have htrack : (match minHeadroom rs with
        | some r => (b.trackRail s r).get (F.STR_STRn_RAIL_STATUS_SET_MV s) | none => b.get (F.STR_STRn_RAIL_STATUS_SET_MV s))
        = (match minHeadroom rs with | some r => b.railAsked s r | none => b.get (F.STR_STRn_RAIL_STATUS_SET_MV s)) := by
      cases minHeadroom rs with
      | none => rfl
      | some r => exact (Block.trackRail_spec r hs hlost).1
    refine ⟨gives_of_done (t := collectReturn s loop rs.length rs b) hr (fun _ => rfl) ?_,
      fun j ch r hj hch hf hleak _ => gives_of_done (t := collectReturn s loop rs.length rs b) hr (fun _ => rfl) (hcol.lamp hj hch hf hleak)⟩
    obtain ⟨kloop, kat, kLoop, kCnt, kMv, kout⟩ := hcol.settle.1
    exact ⟨kloop, kat, kLoop, kCnt, kMv.trans htrack.symm, kout⟩
  · exact gives_of_done hr (fun _ => rfl) (settle_collectReturn_bad hs hlen hat hd hcrc hbad)

end Sys2Proof.Machine
end

section
/-!
PROOFS of chapter 11: the states of the serial lanes.
-/

namespace Sys2Proof.Machine

/-! ### One bit of a number -/

theorem div_two_pow_of_lt (n : Nat) {k j : Nat} (h : k < j) : n / 2 ^ j = n / 2 ^ k / 2 / 2 ^ (j - k - 1) := by
  have he : 2 ^ j = 2 ^ k * (2 * 2 ^ (j - k - 1)) := by
    rw [← Nat.pow_succ', ← Nat.pow_add]
    congr 1
    omega
  rw [Nat.div_div_eq_div_mul, Nat.div_div_eq_div_mul, ← he]

/-- A bit that was clear is set by adding its weight. -/
theorem bitOf_add_two_pow {n k : Nat} (h : bitOf n k = false) (j : Nat) : bitOf (n + 2 ^ k) j = (j == k || bitOf n j) := by
  have hclear : n / 2 ^ k % 2 = 0 := by simpa [bitOf] using h
  have hself : (n + 2 ^ k) / 2 ^ k = n / 2 ^ k + 1 := Nat.add_div_right _ (by positivity)
  rcases Nat.lt_trichotomy j k with hlt | rfl | hgt
  · obtain ⟨d, rfl⟩ := Nat.exists_eq_add_of_lt hlt
    have hdiv : (n + 2 ^ (j + d + 1)) / 2 ^ j = n / 2 ^ j + 2 * 2 ^ d := by
      rw [show 2 ^ (j + d + 1) = 2 ^ j * (2 * 2 ^ d) by ring, Nat.add_mul_div_left _ _ (by positivity)]
    have hne : (j == j + d + 1) = false := by simp; omega
    rw [bitOf, hdiv, Nat.add_mul_mod_self_left, hne, Bool.false_or, bitOf]
  · have hodd : (n / 2 ^ j + 1) % 2 = 1 := by omega
    simp [bitOf, hself, hodd]
  · have hhalf : (n / 2 ^ k + 1) / 2 = n / 2 ^ k / 2 := by omega
    have hne : (j == k) = false := by simp; omega
    rw [bitOf, div_two_pow_of_lt _ hgt, hself, hhalf, ← div_two_pow_of_lt _ hgt, hne, Bool.false_or, bitOf]

/-- `setBitOf` sets one bit. -/
theorem bitOf_setBitOf (n k : Nat) (v : Bool) (j : Nat) : bitOf (setBitOf n k v) j = if j = k then v else bitOf n j := by
  by_cases hv : bitOf n k = v
  · rw [setBitOf, if_pos (by simpa using hv)]
    split
    · next h => rw [h, hv]
    · rfl
  · rw [setBitOf, if_neg (by simpa using hv)]
    cases v with
    | true =>
      rw [if_pos rfl, bitOf_add_two_pow (by simpa using hv)]
      by_cases hj : j = k <;> simp [hj]
    | false =>
      have hset : n / 2 ^ k % 2 = 1 := by simpa [bitOf] using hv
      have hle : 2 ^ k ≤ n := by
        by_contra hlt
        rw [Nat.div_eq_of_lt (by omega)] at hset
        omega
      obtain ⟨m, rfl⟩ := Nat.exists_eq_add_of_le' hle
      rw [Nat.add_div_right _ (by positivity)] at hset
      have hm : bitOf m k = false := by simp only [bitOf, beq_eq_false_iff_ne]; omega
      have hdiff : m + 2 ^ k - 2 ^ k = m := Nat.add_sub_cancel ..
      rw [if_neg (by decide), hdiff, bitOf_add_two_pow hm]
      by_cases hj : j = k <;> simp [hj, hm]

/-- The low bits of a number are those of its remainder. -/
theorem bitOf_mod_two_pow (n : Nat) {w j : Nat} (h : j < w) : bitOf (n % 2 ^ w) j = bitOf n j := by
  have he (x : Nat) : bitOf x j = x.testBit j := by
    rw [Nat.testBit_eq_decide_div_mod_eq, bitOf]
    rfl
  rw [he, he, Nat.testBit_mod_two_pow]
  simp [h]

/-! ### Where a lane's registers stand -/

section
variable (k i : Nat)
@[simp] theorem laneState_addr : (F.SRDk_STATUS_STATE k).addr = 0x1E0104 + 0x40 * k := rfl
@[simp] theorem laneTx_addr : (F.SRDk_STATUS_TX_PRESET k).addr = 0x1E0104 + 0x40 * k := rfl
@[simp] theorem laneRx_addr : (F.SRDk_STATUS_RX_PRESET k).addr = 0x1E0104 + 0x40 * k := rfl
@[simp] theorem laneCtle_addr : (F.SRDk_STATUS_CTLE k).addr = 0x1E0104 + 0x40 * k := rfl
@[simp] theorem laneCdrLock_addr : (F.SRDk_STATUS_CDR_LOCK k).addr = 0x1E0104 + 0x40 * k := rfl
@[simp] theorem laneBlockLock_addr : (F.SRDk_STATUS_BLOCK_LOCK k).addr = 0x1E0104 + 0x40 * k := rfl
@[simp] theorem lanePolInv_addr : (F.SRDk_STATUS_POL_INV k).addr = 0x1E0104 + 0x40 * k := rfl
@[simp] theorem laneChkLock_addr : (F.SRDk_STATUS_CHK_LOCK k).addr = 0x1E0104 + 0x40 * k := rfl
@[simp] theorem laneTrainWidth_addr : (F.SRDk_EYE_TRAIN_WIDTH k).addr = 0x1E0108 + 0x40 * k := rfl
@[simp] theorem laneWidth_addr : (F.SRDk_EYE_WIDTH k).addr = 0x1E0108 + 0x40 * k := rfl
@[simp] theorem laneGen_addr : (F.SRDk_PAT_CTRL_GEN_EN k).addr = 0x1E010C + 0x40 * k := rfl
@[simp] theorem laneTrafficLo_addr : (F.SRDk_CNT_Ti_LO k i).addr = 0x1E0118 + 0x40 * k + 0x8 * i := rfl
@[simp] theorem laneTrafficHi_addr : (F.SRDk_CNT_Ti_HI k i).addr = 0x1E011C + 0x40 * k + 0x8 * i := rfl
@[simp] theorem laneCount_addr : (F.SRDk_CNT_Ei k i).addr = 0x1E0128 + 0x40 * k + 0x4 * i := rfl
@[simp] theorem laneUp_addr : F.SRD_STATUS_LANE_UP.addr = 0x1E0000 := rfl
@[simp] theorem lanePll_addr : F.SRD_STATUS_PLL_LOCK.addr = 0x1E0000 := rfl
@[simp] theorem laneIrq_addr : R.SRD_IRQ_STATUS = 0x1E7FF0 := rfl
@[simp] theorem laneChange_addr : F.SRD_IRQ_STATUS_LANE_CHANGE.addr = 0x1E7FF0 := rfl
@[simp] theorem lanePatErr_addr : F.SRD_IRQ_STATUS_PAT_ERR.addr = 0x1E7FF0 := rfl
end

/-- A register of the lanes lies in SRD's window. -/
theorem srdWindow {k : Nat} (h : k < 0x8000) : keyAddr (0x1E0000 + k) / 0x10000 = 0x1E := by
  rw [keyAddr]
  split_ifs <;> omega

theorem laneStatus_window {k : Nat} (hk : k < 16) : keyAddr (0x1E0104 + 0x40 * k) / 0x10000 = 0x1E := by
  rw [show 0x1E0104 + 0x40 * k = 0x1E0000 + (0x104 + 0x40 * k) by omega]
  exact srdWindow (by omega)

theorem laneEye_window {k : Nat} (hk : k < 16) : keyAddr (0x1E0108 + 0x40 * k) / 0x10000 = 0x1E := by
  rw [show 0x1E0108 + 0x40 * k = 0x1E0000 + (0x108 + 0x40 * k) by omega]
  exact srdWindow (by omega)

theorem lanePattern_window {k : Nat} (hk : k < 16) : keyAddr (0x1E010C + 0x40 * k) / 0x10000 = 0x1E := by
  rw [show 0x1E010C + 0x40 * k = 0x1E0000 + (0x10C + 0x40 * k) by omega]
  exact srdWindow (by omega)

theorem laneCount_window {k i : Nat} (hk : k < 16) (hi : i < 5) : keyAddr (0x1E0128 + 0x40 * k + 0x4 * i) / 0x10000 = 0x1E := by
  rw [show 0x1E0128 + 0x40 * k + 0x4 * i = 0x1E0000 + (0x128 + 0x40 * k + 0x4 * i) by omega]
  exact srdWindow (by omega)

theorem portLanes_eq {p k : Nat} (h : k ∈ portLanes p) : k / 4 = p := by
  simp only [portLanes, List.mem_cons, List.not_mem_nil, or_false] at h
  omega

theorem mem_portLanes (k : Nat) : k ∈ portLanes (k / 4) := by
  simp only [portLanes, List.mem_cons, List.not_mem_nil, or_false]
  omega

/-! ### A step of one lane -/

/-- Registers of SRD and the lanes' own records change, and not the ports' attempts. -/
def LaneStep (b t : Block) : Prop := t = { b with regs := t.regs, srd := t.srd } ∧ SameOutside [0x1E] b t ∧ t.srd.ports = b.srd.ports

theorem LaneStep.refl (b : Block) : LaneStep b b := ⟨rfl, .refl _ b, rfl⟩

theorem LaneStep.trans {b c t : Block} (h : LaneStep b c) (k : LaneStep c t) : LaneStep b t :=
  ⟨by rw [k.1, h.1], h.2.1.trans k.2.1, k.2.2.trans h.2.2⟩

theorem LaneStep.clk {b t : Block} (h : LaneStep b t) : t.clk = b.clk := by rw [h.1]
theorem LaneStep.sameMem {b t : Block} (h : LaneStep b t) : SameMem b t := sameMem_of_eq (by rw [h.1]) (by rw [h.1])

theorem laneStep_set (b : Block) {f : Fld} (v : Nat) (h : keyAddr f.addr / 0x10000 = 0x1E) : LaneStep b (b.set f v) :=
  ⟨rfl, (sameOutside_set v (by simp [h])).mpr (.refl _ b), rfl⟩

theorem laneStep_lanes (b : Block) (l : List Lane) : LaneStep b { b with srd.lanes := l } := ⟨rfl, fun _ _ => rfl, rfl⟩

/-- The fields that a change of a lane's STATE leaves. -/
def BesideState (k : Nat) (g : Fld) : Prop :=
  g.apart (F.SRDk_STATUS_STATE k) = true ∧ g.apart F.SRD_STATUS_LANE_UP = true ∧ g.addr ≠ R.SRD_IRQ_STATUS

/-- A lane takes a state. -/
theorem Block.setLane_spec (b : Block) {k st : Nat} (hk : k < 16) (hst : st < 16) :
    let t := b.setLane st k
    LaneStep b t ∧ t.laneState k = st ∧ (∀ g, BesideState k g → t.get g = b.get g)
      ∧ ∀ j < 16, bitOf (t.get F.SRD_STATUS_LANE_UP) j = if j = k then st == laneUp else bitOf (b.get F.SRD_STATUS_LANE_UP) j := by
  have hfits : st % 2 ^ (F.SRDk_STATUS_STATE k).width = st := Nat.mod_eq_of_lt hst
  have hwin : keyAddr (F.SRDk_STATUS_STATE k).addr / 0x10000 = 0x1E := laneStatus_window hk
  have hstep : LaneStep b (b.set (F.SRDk_STATUS_STATE k) st) := laneStep_set b st hwin
  have hstate : (b.set (F.SRDk_STATUS_STATE k) st).get (F.SRDk_STATUS_STATE k) = st := (Block.get_set_self b st rfl).trans hfits
  have hup : (b.set (F.SRDk_STATUS_STATE k) st).get F.SRD_STATUS_LANE_UP = b.get F.SRD_STATUS_LANE_UP :=
    Block.get_set_apart b st rfl (Fld.apart_of_addr (by simp; omega))
  have hkeep : ∀ g, BesideState k g → (b.set (F.SRDk_STATUS_STATE k) st).get g = b.get g := fun g hg =>
    Block.get_set_apart b st rfl hg.1
  unfold Block.setLane
  dsimp only
  generalize b.set (F.SRDk_STATUS_STATE k) st = c at *
  split
  · next h =>
    refine ⟨hstep, hstate, hkeep, fun j _ => ?_⟩
    rw [hup]
    split
    · next hj => rw [hj]; simpa using h
    · rfl
  · rw [Block.irq_eq]
    have hup2 : LaneStep c (c.set F.SRD_STATUS_LANE_UP (setBitOf (b.get F.SRD_STATUS_LANE_UP) k (st == laneUp))) :=
      laneStep_set c _ (by decide)
    refine ⟨(hstep.trans hup2).trans (laneStep_set _ _ (by decide)), ?_, fun g hg => ?_, fun j hj => ?_⟩
    · rw [Block.laneState, Block.get_set_apart _ _ rfl (Fld.apart_of_addr (by simp; omega)),
        Block.get_set_apart _ _ rfl (Fld.apart_of_addr (by simp; omega)), hstate]
    · obtain ⟨hgs, hgu, hgi⟩ := hg
      rw [Block.get_set_apart _ _ rfl (Fld.apart_of_addr hgi), Block.get_set_apart _ _ rfl hgu, hkeep g ⟨hgs, hgu, hgi⟩]
    · rw [Block.get_set_apart _ _ rfl rfl, Block.get_set_self _ _ rfl]
      exact (bitOf_mod_two_pow _ hj).trans (bitOf_setBitOf _ _ _ _)

/-- The fields that the stop of a lane's checker leaves. -/
def BesideChecker (k : Nat) (g : Fld) : Prop :=
  g.apart (F.SRDk_STATUS_CHK_LOCK k) = true ∧ g.addr ≠ R.SRD_IRQ_STATUS
    ∧ ∀ i < 2, g.addr ≠ R.SRDk_CNT_Ti_LO k i ∧ g.addr ≠ R.SRDk_CNT_Ti_HI k i

theorem Block.countPair_spec (b : Block) {lo hi : Fld} (n : Nat) (hlo : lo.ok = true) (hhi : hi.ok = true) (hwl : lo.width = 32)
    (hwh : hi.width = 32) (ha : lo.addr ≠ hi.addr) :
    let t := b.countPair lo hi n
    t = { b with regs := t.regs } ∧ t.pair lo hi = (b.pair lo hi + n) % 2 ^ 64
      ∧ (∀ g : Fld, g.addr ≠ lo.addr → g.addr ≠ hi.addr → t.get g = b.get g)
      ∧ ∀ l, keyAddr lo.addr / 0x10000 ∈ l → keyAddr hi.addr / 0x10000 ∈ l → SameOutside l b t := by
  rw [Block.countPair, Block.setPair_eq]
  refine ⟨rfl, ?_, fun g hgl hgh => ?_, fun l hl hh => ?_⟩
  · rw [Block.pair, Block.get_set_apart _ _ hhi (Fld.apart_of_addr ha), Block.get_set_self _ _ hlo, Block.get_set_self _ _ hhi, hwl, hwh]
    generalize b.pair lo hi + n = x
    omega
  · rw [Block.get_set_apart _ _ hhi (Fld.apart_of_addr hgh), Block.get_set_apart _ _ hlo (Fld.apart_of_addr hgl)]
  · rw [sameOutside_set _ hh, sameOutside_set _ hl]
    exact .refl l b

theorem laneTraffic_window {k i : Nat} (hk : k < 16) (hi : i < 2) :
    keyAddr (F.SRDk_CNT_Ti_LO k i).addr / 0x10000 = 0x1E ∧ keyAddr (F.SRDk_CNT_Ti_HI k i).addr / 0x10000 = 0x1E := by
  constructor
  · rw [laneTrafficLo_addr, show 0x1E0118 + 0x40 * k + 0x8 * i = 0x1E0000 + (0x118 + 0x40 * k + 0x8 * i) by omega]
    exact srdWindow (by omega)
  · rw [laneTrafficHi_addr, show 0x1E011C + 0x40 * k + 0x8 * i = 0x1E0000 + (0x11C + 0x40 * k + 0x8 * i) by omega]
    exact srdWindow (by omega)

/-- What is added to a traffic counter of a lane. -/
theorem Block.countLane_spec (b : Block) {k i : Nat} (n : Nat) (hk : k < 16) (hi : i < 2) :
    let t := b.countPair (F.SRDk_CNT_Ti_LO k i) (F.SRDk_CNT_Ti_HI k i) n
    LaneStep b t ∧ t.pair (F.SRDk_CNT_Ti_LO k i) (F.SRDk_CNT_Ti_HI k i)
        = (b.pair (F.SRDk_CNT_Ti_LO k i) (F.SRDk_CNT_Ti_HI k i) + n) % 2 ^ 64
      ∧ ∀ g : Fld, g.addr ≠ R.SRDk_CNT_Ti_LO k i → g.addr ≠ R.SRDk_CNT_Ti_HI k i → t.get g = b.get g := by
  obtain ⟨hlo, hhi⟩ := laneTraffic_window hk hi
  obtain ⟨he, hp, hg, ho⟩ := b.countPair_spec (lo := F.SRDk_CNT_Ti_LO k i) (hi := F.SRDk_CNT_Ti_HI k i) n rfl rfl rfl rfl
    (by rw [laneTrafficLo_addr, laneTrafficHi_addr]; omega)
  exact ⟨⟨by rw [he], ho _ (by rw [hlo]; decide) (by rw [hhi]; decide), by rw [he]⟩, hp, hg⟩

/-- A pair reads the same where its two fields do. -/
theorem Block.pair_of_get {b t : Block} {lo hi : Fld} (hl : t.get lo = b.get lo) (hh : t.get hi = b.get hi) : t.pair lo hi = b.pair lo hi := by
  rw [Block.pair, hl, hh, Block.pair]

/-- What the checker of a lane has counted is told. -/
def Block.checkerCounted (b : Block) (k errors : Nat) : Block :=
  (b.countPair (F.SRDk_CNT_Ti_LO k 0) (F.SRDk_CNT_Ti_HI k 0) (b.patPending k)).countPair (F.SRDk_CNT_Ti_LO k 1) (F.SRDk_CNT_Ti_HI k 1) errors

theorem Block.checkerCounted_spec (b : Block) {k : Nat} (errors : Nat) (hk : k < 16) :
    let t := b.checkerCounted k errors
    LaneStep b t ∧ (∀ g, BesideChecker k g → t.get g = b.get g)
      ∧ t.pair (F.SRDk_CNT_Ti_LO k 1) (F.SRDk_CNT_Ti_HI k 1)
        = (b.pair (F.SRDk_CNT_Ti_LO k 1) (F.SRDk_CNT_Ti_HI k 1) + errors) % 2 ^ 64 := by
  unfold Block.checkerCounted
  generalize b.patPending k = n
  obtain ⟨s0, -, g0⟩ := b.countLane_spec (i := 0) n hk (by decide)
  generalize b.countPair (F.SRDk_CNT_Ti_LO k 0) (F.SRDk_CNT_Ti_HI k 0) n = c at *
  obtain ⟨s1, p1, g1⟩ := c.countLane_spec (i := 1) errors hk (by decide)
  refine ⟨s0.trans s1, fun g ⟨_, _, hg⟩ => ?_, ?_⟩
  · rw [g1 g (hg 1 (by decide)).1 (hg 1 (by decide)).2, g0 g (hg 0 (by decide)).1 (hg 0 (by decide)).2]
  · rw [p1, Block.pair_of_get (g0 _ ?_ ?_) (g0 _ ?_ ?_)] <;>
      simp only [laneTrafficLo_addr, laneTrafficHi_addr, R.SRDk_CNT_Ti_LO, R.SRDk_CNT_Ti_HI] <;> omega

/-- The checker's lock falls, with the interrupt of wrong bits. -/
def Block.checkerUnlocked (b : Block) (k errors : Nat) : Block := (b.set (F.SRDk_STATUS_CHK_LOCK k) 0).irqIf (errors != 0) F.SRD_IRQ_STATUS_PAT_ERR

theorem Block.checkerUnlocked_spec (b : Block) {k : Nat} (errors : Nat) (hk : k < 16) :
    let t := b.checkerUnlocked k errors
    LaneStep b t ∧ t.bit (F.SRDk_STATUS_CHK_LOCK k) = false ∧ (errors ≠ 0 → t.bit F.SRD_IRQ_STATUS_PAT_ERR = true)
      ∧ ∀ g : Fld, g.apart (F.SRDk_STATUS_CHK_LOCK k) = true → g.addr ≠ R.SRD_IRQ_STATUS → t.get g = b.get g := by
  have hs := laneStep_set b (f := F.SRDk_STATUS_CHK_LOCK k) 0 (laneStatus_window hk)
  have hlock : (b.set (F.SRDk_STATUS_CHK_LOCK k) 0).bit (F.SRDk_STATUS_CHK_LOCK k) = false := Block.bit_set_zero_self b rfl
  have hkeep (g : Fld) (hg : g.apart (F.SRDk_STATUS_CHK_LOCK k) = true) : (b.set (F.SRDk_STATUS_CHK_LOCK k) 0).get g = b.get g :=
    Block.get_set_apart b 0 rfl hg
  unfold Block.checkerUnlocked
  generalize b.set (F.SRDk_STATUS_CHK_LOCK k) 0 = e at *
  by_cases herr : errors = 0
  · rw [show (errors != 0) = false by simp [herr], Block.irqIf_false]
    exact ⟨hs, hlock, fun h => absurd herr h, fun g hg _ => hkeep g hg⟩
  · rw [show (errors != 0) = true by simp [herr], Block.irqIf_true]
    refine ⟨hs.trans (laneStep_set e 1 (by decide)), ?_, fun _ => Block.bit_set_one_self e rfl rfl, fun g hg hi => ?_⟩
    · rw [Block.bit_set_apart e 1 rfl (Fld.apart_of_addr (by rw [laneChkLock_addr, lanePatErr_addr]; omega)), hlock]
    · rw [Block.get_set_apart e 1 rfl (Fld.apart_of_addr hi), hkeep g hg]

theorem Block.checkerStop_eq (b : Block) (k errors : Nat) : b.checkerStop k errors
    = { (b.checkerCounted k errors).checkerUnlocked k errors with
        srd.lanes := ((b.checkerCounted k errors).checkerUnlocked k errors).srd.lanes.modify k (fun l => { l with checkFrom := none }) } := by
  rw [Block.checkerStop, Block.checkerUnlocked, Block.checkerCounted]

/-- A locked checker stops. -/
theorem Block.checkerStop_spec (b : Block) {k : Nat} (errors : Nat) (hk : k < 16) :
    let t := b.checkerStop k errors
    LaneStep b t ∧ t.bit (F.SRDk_STATUS_CHK_LOCK k) = false ∧ (∀ g, BesideChecker k g → t.get g = b.get g)
      ∧ t.pair (F.SRDk_CNT_Ti_LO k 1) (F.SRDk_CNT_Ti_HI k 1)
        = (b.pair (F.SRDk_CNT_Ti_LO k 1) (F.SRDk_CNT_Ti_HI k 1) + errors) % 2 ^ 64
      ∧ (errors ≠ 0 → t.bit F.SRD_IRQ_STATUS_PAT_ERR = true) := by
  obtain ⟨s0, g0, p0⟩ := b.checkerCounted_spec errors hk
  rw [Block.checkerStop_eq]
  generalize b.checkerCounted k errors = c at *
  obtain ⟨s1, h1, e1, g1⟩ := c.checkerUnlocked_spec errors hk
  generalize c.checkerUnlocked k errors = d at *
  have hpair : d.pair (F.SRDk_CNT_Ti_LO k 1) (F.SRDk_CNT_Ti_HI k 1) = c.pair (F.SRDk_CNT_Ti_LO k 1) (F.SRDk_CNT_Ti_HI k 1) := by
    refine Block.pair_of_get (g1 _ (Fld.apart_of_addr ?_) ?_) (g1 _ (Fld.apart_of_addr ?_) ?_) <;>
      simp only [laneTrafficLo_addr, laneTrafficHi_addr, laneChkLock_addr, R.SRD_IRQ_STATUS] <;> omega
  exact ⟨(s0.trans s1).trans (laneStep_lanes d _), h1, fun g hg => (g1 g hg.1 hg.2.1).trans (g0 g hg), hpair.trans p0, e1⟩

theorem Block.checkerOff_spec (b : Block) {k : Nat} (hk : k < 16) :
    let t := b.checkerOff k
    LaneStep b t ∧ ∀ g, BesideChecker k g → t.get g = b.get g := by
  unfold Block.checkerOff
  split
  · obtain ⟨hs, -, hg, -, -⟩ := b.checkerStop_spec (b.patErrPending k) hk
    exact ⟨hs, hg⟩
  · exact ⟨.refl b, fun _ _ => rfl⟩

/-- The fields that a lane's way into a state leaves. -/
def BesideLane (k : Nat) (g : Fld) : Prop :=
  g.addr ≠ R.SRDk_STATUS k ∧ g.apart F.SRD_STATUS_LANE_UP = true ∧ g.addr ≠ R.SRD_IRQ_STATUS
    ∧ ∀ i < 2, g.addr ≠ R.SRDk_CNT_Ti_LO k i ∧ g.addr ≠ R.SRDk_CNT_Ti_HI k i

theorem BesideLane.state {k : Nat} {g : Fld} (h : BesideLane k g) : BesideState k g := ⟨Fld.apart_of_addr h.1, h.2.1, h.2.2.1⟩
theorem BesideLane.checker {k : Nat} {g : Fld} (h : BesideLane k g) : BesideChecker k g := ⟨Fld.apart_of_addr h.1, h.2.2.1, h.2.2.2⟩

theorem besideLane_state {j k : Nat} (hj : j < 16) (h : j ≠ k) : BesideLane k (F.SRDk_STATUS_STATE j) := by
  refine ⟨?_, Fld.apart_of_addr ?_, ?_, fun i hi => ⟨?_, ?_⟩⟩ <;>
    simp only [laneState_addr, laneUp_addr, R.SRDk_STATUS, R.SRD_IRQ_STATUS, R.SRDk_CNT_Ti_LO, R.SRDk_CNT_Ti_HI] <;> omega

/-- A lane's way into the state `st`. -/
def LaneOp (k st : Nat) (b t : Block) : Prop := LaneStep b t ∧ t.laneState k = st ∧ ∀ g, BesideLane k g → t.get g = b.get g

/-- A field of the lane's status beside its STATE is written. -/
theorem LaneOp.set {k st : Nat} {b t : Block} (h : LaneOp k st b t) (hk : k < 16) {f : Fld} (v : Nat) (hok : f.ok = true)
    (ha : f.addr = R.SRDk_STATUS k) (hs : (F.SRDk_STATUS_STATE k).apart f = true) : LaneOp k st b (t.set f v) := by
  refine ⟨h.1.trans (laneStep_set t v ?_), ?_, fun g hg => ?_⟩
  · rw [ha]
    exact laneStatus_window hk
  · rw [← h.2.1]
    exact Block.get_set_apart t v hok hs
  · rw [Block.get_set_apart t v hok (Fld.apart_of_addr (by rw [ha]; exact hg.1)), h.2.2 g hg]

theorem LaneOp.lanes {k st : Nat} {b t : Block} (h : LaneOp k st b t) (l : List Lane) : LaneOp k st b { t with srd.lanes := l } :=
  ⟨h.1.trans (laneStep_lanes t l), h.2.1, h.2.2⟩

theorem Block.laneOp_setLane (b : Block) {k st : Nat} (hk : k < 16) (hst : st < 16) : LaneOp k st b ((b.checkerOff k).setLane st k) := by
  obtain ⟨hs, hg⟩ := b.checkerOff_spec hk
  obtain ⟨ks, kst, kg, -⟩ := (b.checkerOff k).setLane_spec hk hst
  exact ⟨hs.trans ks, kst, fun g h => by rw [kg g h.state, hg g h.checker]⟩

theorem Block.laneOp_laneToCdr (b : Block) {k : Nat} (hk : k < 16) : LaneOp k laneCdr b (b.laneToCdr k) := by
  have h := b.laneOp_setLane (st := laneCdr) hk (by decide)
  unfold Block.laneToCdr
  dsimp only
  generalize (b.checkerOff k).setLane laneCdr k = c at *
  have htx := h.set hk (f := F.SRDk_STATUS_TX_PRESET k)
    (if (b.bit (F.SRDk_CFG_TX_FIX k) || decide (k < 8)) = true then c.get (F.SRDk_CFG_TX_PRESET k) else 4) rfl rfl rfl
  generalize c.set (F.SRDk_STATUS_TX_PRESET k) _ = d at *
  have hctle : LaneOp k laneCdr b (if b.bit (F.SRDk_CFG_ADAPT k) = true then d
      else d.set (F.SRDk_STATUS_CTLE k) (d.get (F.SRDk_CFG_CTLE k))) := by
    split
    · exact htx
    · exact htx.set hk _ rfl rfl rfl
  exact ((hctle.set hk _ rfl rfl rfl).set hk _ rfl rfl rfl).lanes _

/-- One lane's part of `portTo`. -/
def laneHeld (st k : Nat) (b : Block) : Block :=
  (((b.checkerOff k).setLane st k).set (F.SRDk_STATUS_CDR_LOCK k) 0).set (F.SRDk_STATUS_BLOCK_LOCK k) 0

theorem laneOp_laneHeld (b : Block) {k st : Nat} (hk : k < 16) (hst : st < 16) : LaneOp k st b (laneHeld st k b) :=
  ((b.laneOp_setLane hk hst).set hk _ rfl rfl rfl).set hk _ rfl rfl rfl

theorem Block.each_portLanes (b : Block) (f : Nat → Block → Block) (p : Nat) :
    b.each (portLanes p) f = f (4 * p + 3) (f (4 * p + 2) (f (4 * p + 1) (f (4 * p) b))) := by
  simp only [Block.each, portLanes, List.foldl_cons, List.foldl_nil]

/-- What each lane's step keeps, the four steps of a port keep. -/
theorem Block.each_lanes_rel {R : Block → Block → Prop} (b : Block) {f : Nat → Block → Block} {p : Nat} (hp : p < 4)
    (ht : ∀ x y z, R x y → R y z → R x z) (hf : ∀ k < 16, k / 4 = p → ∀ c, R c (f k c)) : R b (b.each (portLanes p) f) := by
  rw [Block.each_portLanes]
  have h (i : Nat) (hi : i < 4) (c : Block) : R c (f (4 * p + i) c) := hf _ (by omega) (by omega) c
  exact ht _ _ _ (ht _ _ _ (ht _ _ _ (h 0 (by decide) _) (h 1 (by decide) _)) (h 2 (by decide) _)) (h 3 (by decide) _)

/-- What each lane's step makes true of its lane, and keeps of the others, holds after the four steps of a port. -/
theorem Block.each_lanes_own {own : Nat → Block → Prop} (b : Block) {f : Nat → Block → Block} {p : Nat} (hp : p < 4)
    (hown : ∀ k < 16, ∀ c, own k (f k c)) (hkeep : ∀ j < 16, ∀ k < 16, j ≠ k → ∀ c, own j c → own j (f k c)) :
    ∀ k ∈ portLanes p, own k (b.each (portLanes p) f) := by
  rw [Block.each_portLanes]
  have h (i : Nat) (hi : i < 4) (c : Block) : own (4 * p + i) (f (4 * p + i) c) := hown _ (by omega) c
  have hk (i j : Nat) (hi : i < 4) (hj : j < 4) (hij : i ≠ j) (c : Block) : own (4 * p + i) c → own (4 * p + i) (f (4 * p + j) c) :=
    hkeep _ (by omega) _ (by omega) (by omega) c
  have h0 := hk 0 3 (by decide) (by decide) (by decide) _ (hk 0 2 (by decide) (by decide) (by decide) _
    (hk 0 1 (by decide) (by decide) (by decide) _ (h 0 (by decide) b)))
  have h1 := hk 1 3 (by decide) (by decide) (by decide) _ (hk 1 2 (by decide) (by decide) (by decide) _ (h 1 (by decide) (f (4 * p) b)))
  have h2 := hk 2 3 (by decide) (by decide) (by decide) _ (h 2 (by decide) (f (4 * p + 1) (f (4 * p) b)))
  have h3 := h 3 (by decide) (f (4 * p + 2) (f (4 * p + 1) (f (4 * p) b)))
  simp only [portLanes, List.forall_mem_cons, List.not_mem_nil, false_implies, implies_true, and_true]
  exact ⟨h0, h1, h2, h3⟩

/-- Fields that none of a port's lanes writes stay. -/
def KeepsBeside (beside : Nat → Fld → Prop) (p : Nat) (b t : Block) : Prop := ∀ g, (∀ k ∈ portLanes p, beside k g) → t.get g = b.get g

theorem Block.each_lanes_keeps {beside : Nat → Fld → Prop} (b : Block) {f : Nat → Block → Block} {p : Nat} (hp : p < 4)
    (hf : ∀ k < 16, ∀ c g, beside k g → (f k c).get g = c.get g) : KeepsBeside beside p b (b.each (portLanes p) f) :=
  b.each_lanes_rel hp (fun _ _ _ h k g hg => (k g hg).trans (h g hg)) fun k hk hkp c g hg => hf k hk c g (hg k (hkp ▸ mem_portLanes k))

/-- The four lanes of a port go into a state, one by one. -/
theorem Block.each_laneOp (b : Block) {f : Nat → Block → Block} {st p : Nat} (hf : ∀ k < 16, ∀ c, LaneOp k st c (f k c)) (hp : p < 4) :
    let t := b.each (portLanes p) f
    LaneStep b t ∧ PortIn t p st ∧ KeepsBeside BesideLane p b t := by
  refine ⟨b.each_lanes_rel hp (fun _ _ _ => LaneStep.trans) fun k hk _ c => (hf k hk c).1,
    b.each_lanes_own (own := fun k c => c.laneState k = st) hp (fun k hk c => (hf k hk c).2.1) fun j hj k hk hjk c hc => ?_,
    b.each_lanes_keeps hp fun k hk c => (hf k hk c).2.2⟩
  rw [← hc]
  exact (hf k hk c).2.2 _ (besideLane_state hj hjk)

/-- A new attempt of a port: its lanes' registers and records, and the ports' attempts. -/
def PortStep (p : Nat) (b t : Block) : Prop :=
  t = { b with regs := t.regs, srd := t.srd } ∧ SameOutside [0x1E] b t ∧ t.srd.ports = b.srd.ports.set p ⟨b.clk, none⟩

theorem PortStep.clk {p : Nat} {b t : Block} (h : PortStep p b t) : t.clk = b.clk := by rw [h.1]
theorem PortStep.sameMem {p : Nat} {b t : Block} (h : PortStep p b t) : SameMem b t := sameMem_of_eq (by rw [h.1]) (by rw [h.1])

/-- After a new attempt began the port is not holding. -/
theorem PortStep.holding {p : Nat} {b t : Block} (h : PortStep p b t) (hp : p < b.srd.ports.length) : t.holding p = false := by
  simp [Block.holding, h.2.2, hp]

theorem Block.portOp_spec (b : Block) {f : Nat → Block → Block} {st p : Nat} (hf : ∀ k < 16, ∀ c, LaneOp k st c (f k c)) (hp : p < 4) :
    let t := Block.each { b with srd.ports := b.srd.ports.set p ⟨b.clk, none⟩ } (portLanes p) f
    PortStep p b t ∧ PortIn t p st ∧ KeepsBeside BesideLane p b t := by
  obtain ⟨hs, hin, hg⟩ := Block.each_laneOp { b with srd.ports := b.srd.ports.set p ⟨b.clk, none⟩ } hf hp
  exact ⟨⟨by rw [hs.1], hs.2.1, hs.2.2⟩, hin, hg⟩

theorem Block.portToCdr_spec (b : Block) {p : Nat} (hp : p < 4) :
    let t := b.portToCdr p
    PortStep p b t ∧ PortIn t p laneCdr ∧ KeepsBeside BesideLane p b t :=
  b.portOp_spec (f := Block.laneToCdr) (fun _ hk c => c.laneOp_laneToCdr hk) hp

theorem Block.portTo_spec (b : Block) {p st : Nat} (hp : p < 4) (hst : st < 16) :
    let t := b.portTo st p
    PortStep p b t ∧ PortIn t p st ∧ KeepsBeside BesideLane p b t :=
  b.portOp_spec (f := laneHeld st) (fun _ hk c => laneOp_laneHeld c hk hst) hp

end Sys2Proof.Machine
end

section
/-!
PROOFS of chapter 11: lane training, its failures, the loss of lanes and the test patterns.
-/

namespace Sys2Proof.Machine

/-! ### What the commands share -/

/-- Registers of SRD's window change, and no memory. -/
def SrdOnly (b t : Block) : Prop := SameOutside [0x1E] b t ∧ SameMem b t

theorem SrdOnly.trans {b c t : Block} (h : SrdOnly b c) (k : SrdOnly c t) : SrdOnly b t := ⟨h.1.trans k.1, h.2.trans k.2⟩
theorem LaneStep.srdOnly {b t : Block} (h : LaneStep b t) : SrdOnly b t := ⟨h.2.1, h.sameMem⟩
theorem PortStep.srdOnly {p : Nat} {b t : Block} (h : PortStep p b t) : SrdOnly b t := ⟨h.2.1, h.sameMem⟩

theorem srdOnly_settle {b t : Block} (h : SrdOnly b t) : SameOutside [0x1E] b t.settle ∧ SameMem b t.settle := by
  rwa [sameOutside_settle, sameMem_settle]

theorem portIn_settle {p st : Nat} {t : Block} (h : PortIn t p st) : PortIn t.settle p st := fun k hk => by
  rw [Block.laneState, Block.settle_get, ← Block.laneState, h k hk]

/-- A field of SRD's common registers below the lanes' is beside each lane. -/
theorem besideLane_common {g : Fld} {k : Nat} (h : g.addr < 0x1E0100) (hu : g.apart F.SRD_STATUS_LANE_UP = true) : BesideLane k g := by
  refine ⟨?_, hu, ?_, fun i _ => ⟨?_, ?_⟩⟩ <;> simp only [R.SRDk_STATUS, R.SRD_IRQ_STATUS, R.SRDk_CNT_Ti_LO, R.SRDk_CNT_Ti_HI] <;> omega

/-- The event counters of a lane are beside each lane's way into a state. -/
theorem besideLane_count {j k i : Nat} (hk : k < 16) (hi : i < 5) : BesideLane j (F.SRDk_CNT_Ei k i) := by
  refine ⟨?_, Fld.apart_of_addr ?_, ?_, fun m hm => ⟨?_, ?_⟩⟩ <;>
    simp only [laneCount_addr, laneUp_addr, R.SRDk_STATUS, R.SRD_IRQ_STATUS, R.SRDk_CNT_Ti_LO, R.SRDk_CNT_Ti_HI] <;> omega

theorem laneStep_count (b : Block) {k i : Nat} (v : Nat) (hk : k < 16) (hi : i < 5) : LaneStep b (b.set (F.SRDk_CNT_Ei k i) v) :=
  laneStep_set b v (laneCount_window hk hi)

/-- An event of a lane counted. -/
theorem Block.countEvent_spec (b : Block) {k i : Nat} (hk : k < 16) (hi : i < 5) :
    let t := b.countSat (F.SRDk_CNT_Ei k i) 1
    LaneStep b t ∧ t.get (F.SRDk_CNT_Ei k i) = min (b.get (F.SRDk_CNT_Ei k i) + 1) (2 ^ 32 - 1)
      ∧ ∀ g : Fld, g.addr ≠ (F.SRDk_CNT_Ei k i).addr → t.get g = b.get g := by
  rw [Block.countSat_eq]
  refine ⟨laneStep_count b _ hk hi, ?_, fun g hg => Block.get_set_apart b _ rfl (Fld.apart_of_addr hg)⟩
  rw [Block.get_set_self b _ rfl]
  exact Nat.mod_eq_of_lt (lt_of_le_of_lt (Nat.min_le_right _ _) (by show 2 ^ 32 - 1 < 2 ^ 32; decide))

theorem laneState_of_common {b t : Block} {j : Nat} (h : ∀ g : Fld, 0x1E0100 ≤ g.addr → g.addr < 0x1E0500 → t.get g = b.get g) (hj : j < 16) :
    t.laneState j = b.laneState j := h _ (by rw [laneState_addr]; omega) (by rw [laneState_addr]; omega)

/-- An error of SRD raised. -/
theorem Block.raiseSrd_spec (b : Block) {e : Err} (d : Nat) (hf : e.fld.addr = R.SRD_ERR) (hok : e.fld.ok = true) (hw : e.fld.hi = e.fld.lo)
    (hi : e.irq = F.SRD_IRQ_STATUS_ERR) :
    let t := b.raiseAt e d
    t.bit e.fld = true ∧ t.srd = b.srd ∧ t.clk = b.clk ∧ SameOutside [0x1E, 0x30] b t ∧ SameMem b t
      ∧ ∀ g : Fld, g.addr / 0x10000 = 0x1E → g.addr ≠ R.SRD_ERR → g.addr ≠ R.SRD_IRQ_STATUS → t.get g = b.get g := by
  have hiok : e.irq.ok = true := by rw [hi]; rfl
  have hwf : keyAddr e.fld.addr / 0x10000 = 0x1E := by rw [hf]; decide
  have hwi : keyAddr e.irq.addr / 0x10000 = 0x1E := by rw [hi]; decide
  have hap : e.fld.apart e.irq = true := Fld.apart_of_addr (by rw [hf, hi]; decide)
  refine ⟨b.bit_raiseAt_self d hok hw hiok hap (by rw [hf]; decide), b.raiseAt_srd e d, b.raiseAt_clk e d, ?_,
    (sameMem_raiseAt b b e d).mpr (.refl b), fun g hg hge hgi => ?_⟩
  · rw [sameOutside_raiseAt d (by rw [hwf]; decide) (by rw [hwi]; decide) (by decide)]
    exact .refl _ b
  · exact b.get_raiseAt_apart d hok hiok (Fld.apart_of_addr (by rw [hf]; exact hge)) (Fld.apart_of_addr (by rw [hi]; exact hgi)) (by omega)

theorem laneState_raiseSrd {b t : Block} (h : ∀ g : Fld, g.addr / 0x10000 = 0x1E → g.addr ≠ R.SRD_ERR → g.addr ≠ R.SRD_IRQ_STATUS → t.get g = b.get g)
    {k : Nat} (hk : k < 16) : t.laneState k = b.laneState k := by
  refine h _ ?_ ?_ ?_ <;> simp only [laneState_addr, R.SRD_ERR, R.SRD_IRQ_STATUS] <;> omega

theorem count_raiseSrd {b t : Block} (h : ∀ g : Fld, g.addr / 0x10000 = 0x1E → g.addr ≠ R.SRD_ERR → g.addr ≠ R.SRD_IRQ_STATUS → t.get g = b.get g)
    {k i : Nat} (hk : k < 16) (hi : i < 5) : t.get (F.SRDk_CNT_Ei k i) = b.get (F.SRDk_CNT_Ei k i) := by
  refine h _ ?_ ?_ ?_ <;> simp only [laneCount_addr, R.SRD_ERR, R.SRD_IRQ_STATUS] <;> omega

/-! ### The PLL (R337) -/

theorem Block.pllGo_eq {b : Block} {p : Nat} (hl : bitOf (b.get F.SRD_STATUS_PLL_LOCK) p = true) (hm : b.clocks.refMet = true)
    (ht : b.toning p = false) (hin : PortIn b p lanePll) : b.pllGo p = b.portToCdr p := by
  have hfirst : b.laneState (4 * p) = lanePll := hin _ (by simp [portLanes])
  have hany : (portLanes p).any (fun k => b.laneState k == lanePll || (b.laneState k == laneOff && b.portEn p)) = true := by
    simp [portLanes, hfirst]
  rw [Block.pllGo, hl, hm, ht, hany]
  rfl

/-- The lock of a port's PLL shown. -/
theorem Block.pllLock_spec (b : Block) {p : Nat} (v : Bool) (hp : p < 4) :
    let t := b.set F.SRD_STATUS_PLL_LOCK (setBitOf (b.get F.SRD_STATUS_PLL_LOCK) p v)
    bitOf (t.get F.SRD_STATUS_PLL_LOCK) p = v ∧ LaneStep b t ∧ ∀ k, t.laneState k = b.laneState k := by
  refine ⟨?_, laneStep_set b _ (by decide), fun k => Block.get_set_apart b _ rfl (Fld.apart_of_addr ?_)⟩
  · rw [Block.get_set_self b _ rfl]
    exact (bitOf_mod_two_pow _ (w := 4) hp).trans (by rw [bitOf_setBitOf, if_pos rfl])
  · rw [laneState_addr, lanePll_addr]
    omega

theorem lanePllLock_spec {b : Block} {p : Nat} (hp : p < 4) (hin : PortIn b p lanePll) (hsrc : b.bit F.PTP_REFCLK_STATUS_SOURCE = false)
    (ht : b.toning p = false) :
    let t := lanePllLock p b
    bitOf (t.get F.SRD_STATUS_PLL_LOCK) p = true ∧ PortIn t p laneCdr ∧ SrdOnly b t := by
  obtain ⟨hbit, hstep, hlanes⟩ := Block.pllLock_spec { b with clocks.refMet := b.clocks.refMet || !b.bit F.PTP_REFCLK_STATUS_SOURCE } true hp
  rw [lanePllLock, if_pos hp]
  have hstate : ∀ k, (({ b with clocks.refMet := b.clocks.refMet || !b.bit F.PTP_REFCLK_STATUS_SOURCE } : Block).set F.SRD_STATUS_PLL_LOCK
      (setBitOf (b.get F.SRD_STATUS_PLL_LOCK) p true)).laneState k = b.laneState k := hlanes
  have hmet : (({ b with clocks.refMet := b.clocks.refMet || !b.bit F.PTP_REFCLK_STATUS_SOURCE } : Block).set F.SRD_STATUS_PLL_LOCK
      (setBitOf (b.get F.SRD_STATUS_PLL_LOCK) p true)).clocks.refMet = true := by
    show (b.clocks.refMet || !b.bit F.PTP_REFCLK_STATUS_SOURCE) = true
    rw [hsrc]
    simp
  have htone : (({ b with clocks.refMet := b.clocks.refMet || !b.bit F.PTP_REFCLK_STATUS_SOURCE } : Block).set F.SRD_STATUS_PLL_LOCK
      (setBitOf (b.get F.SRD_STATUS_PLL_LOCK) p true)).toning p = false := ht
  have honly : SrdOnly b (({ b with clocks.refMet := b.clocks.refMet || !b.bit F.PTP_REFCLK_STATUS_SOURCE } : Block).set F.SRD_STATUS_PLL_LOCK
      (setBitOf (b.get F.SRD_STATUS_PLL_LOCK) p true)) := ⟨hstep.2.1, hstep.sameMem⟩
  have hlock : bitOf ((({ b with clocks.refMet := b.clocks.refMet || !b.bit F.PTP_REFCLK_STATUS_SOURCE } : Block).set F.SRD_STATUS_PLL_LOCK
      (setBitOf (b.get F.SRD_STATUS_PLL_LOCK) p true)).get F.SRD_STATUS_PLL_LOCK) p = true := hbit
  generalize (({ b with clocks.refMet := b.clocks.refMet || !b.bit F.PTP_REFCLK_STATUS_SOURCE } : Block).set F.SRD_STATUS_PLL_LOCK
      (setBitOf (b.get F.SRD_STATUS_PLL_LOCK) p true)) = c at *
  rw [Block.pllGo_eq hlock hmet htone fun k hk => (hstate k).trans (hin k hk)]
  obtain ⟨ks, kin, kg⟩ := c.portToCdr_spec hp
  refine ⟨?_, kin, honly.trans ks.srdOnly⟩
  rw [kg _ fun k _ => besideLane_common (by decide) (by decide), hlock]

/-- The fields that the count of an event on a port's lanes leaves. -/
def BesideCount (i k : Nat) (g : Fld) : Prop := g.addr ≠ (F.SRDk_CNT_Ei k i).addr

theorem besideCount_of_common {i k : Nat} {g : Fld} (h : g.addr < 0x1E0100) : BesideCount i k g := by
  rw [BesideCount, laneCount_addr]
  omega

theorem besideCount_state {i k j : Nat} (hi : i < 5) : BesideCount i k (F.SRDk_STATUS_STATE j) := by
  rw [BesideCount, laneCount_addr, laneState_addr]
  omega

/-- An event counted on the lanes of a port that `c` selects. -/
theorem Block.countEach_spec (b : Block) {i p : Nat} (sel : Nat → Block → Bool) (hi : i < 5) (hp : p < 4) :
    let t := b.each (portLanes p) (fun k b => b.when (sel k b) (·.countSat (F.SRDk_CNT_Ei k i) 1))
    LaneStep b t ∧ KeepsBeside (BesideCount i) p b t := by
  refine ⟨b.each_lanes_rel hp (fun _ _ _ => LaneStep.trans) fun k hk _ c => ?_, b.each_lanes_keeps hp fun k hk c g hg => ?_⟩
  · cases sel k c
    · exact .refl c
    · exact (c.countEvent_spec hk hi).1
  · cases sel k c
    · rfl
    · exact (c.countEvent_spec hk hi).2.2 g hg

theorem lanePllUnlock_spec {b : Block} {p : Nat} (hp : p < 4) (hin : PortIn b p laneUp) :
    let t := lanePllUnlock p false b
    bitOf (t.get F.SRD_STATUS_PLL_LOCK) p = false ∧ PortIn t p lanePll ∧ t.bit F.SRD_ERR_PLL_UNLOCK = true
      ∧ SameOutside [0x1E, 0x30] b t ∧ SameMem b t := by
  obtain ⟨hbit, hstep, hlanes⟩ := b.pllLock_spec false hp
  rw [lanePllUnlock, if_neg (by omega)]
  dsimp only
  generalize b.set F.SRD_STATUS_PLL_LOCK (setBitOf (b.get F.SRD_STATUS_PLL_LOCK) p false) = c at *
  simp only [Bool.false_eq_true, if_false]
  obtain ⟨rerr, -, -, rout, rmem, rget⟩ := c.raiseSrd_spec (e := E.SRD_PLL_UNLOCK) (4 * p) rfl rfl rfl rfl
  generalize c.raiseAt E.SRD_PLL_UNLOCK (4 * p) = d at *
  obtain ⟨es, eg⟩ := d.countEach_spec (i := 2) (fun k x => x.laneState k == laneUp) (by decide) hp
  generalize d.each (portLanes p) _ = u at *
  have hup (k : Nat) (hk : k ∈ portLanes p) : u.laneState k = laneUp := by
    have hk4 := portLanes_eq hk
    rw [Block.laneState, eg _ fun j _ => besideCount_state (by decide), ← Block.laneState, laneState_raiseSrd rget (by omega), hlanes, hin k hk]
  have hnone : (portLanes p).any (fun k => u.laneState k == laneOff || (false && u.laneState k == laneTest)) = false := by
    rw [List.any_eq_false]
    intro k hk
    rw [hup k hk]
    decide
  rw [hnone, if_neg (by decide)]
  obtain ⟨ks, kin, kg⟩ := u.portTo_spec (st := lanePll) hp (by decide)
  refine ⟨?_, kin, ?_, ?_, ?_⟩
  · rw [kg _ fun k _ => besideLane_common (by decide) (by decide), eg _ fun k _ => besideCount_of_common (by decide),
      rget _ (by decide) (by decide) (by decide), hbit]
  · rw [Block.bit, kg _ fun k _ => besideLane_common (by decide) (by decide), eg _ fun k _ => besideCount_of_common (by decide), ← Block.bit]
    exact rerr
  · exact ((hstep.2.1.mono (by decide)).trans rout).trans ((es.2.1.trans ks.2.1).mono (by decide))
  · exact (hstep.sameMem.trans rmem).trans (es.sameMem.trans ks.sameMem)

/-! ### From CDR to UP (R341, R344) -/

/-- The receiver of a lane adapts: its peaking takes a free value, or stays. -/
theorem Block.adaptLane_spec (b : Block) {k : Nat} (hk : k < 16) :
    let t := b.adaptLane k
    SrdOnly b t ∧ ∀ g : Fld, g.apart (F.SRDk_STATUS_CTLE k) = true → t.get g = b.get g := by
  unfold Block.adaptLane
  split
  · obtain ⟨-, hout, -⟩ := laneStep_set { b with freeCount := b.freeCount + 1 } (f := F.SRDk_STATUS_CTLE k) (Config.freeValue b.freeCount)
      (laneStatus_window hk)
    exact ⟨⟨hout, sameMem_of_eq rfl rfl⟩, fun g hg => Block.get_set_apart _ _ rfl hg⟩
  · exact ⟨⟨.refl _ b, .refl b⟩, fun _ _ => rfl⟩

/-- A field of a lane's status is set, its receiver adapts, and it takes a state. -/
theorem Block.laneOn_spec (b : Block) {f : Fld} {k st : Nat} (v : Nat) (hk : k < 16) (hst : st < 16) (hok : f.ok = true)
    (ha : f.addr = R.SRDk_STATUS k) (hc : f.apart (F.SRDk_STATUS_CTLE k) = true) (hs : f.apart (F.SRDk_STATUS_STATE k) = true) :
    let t := ((b.set f v).adaptLane k).setLane st k
    t.laneState k = st ∧ t.get f = v % 2 ^ f.width ∧ SrdOnly b t := by
  have h0 : SrdOnly b (b.set f v) := (laneStep_set b v (by rw [ha]; exact laneStatus_window hk)).srdOnly
  have hv : (b.set f v).get f = v % 2 ^ f.width := Block.get_set_self b v hok
  generalize b.set f v = c at *
  obtain ⟨h1, g1⟩ := c.adaptLane_spec hk
  generalize c.adaptLane k = d at *
  obtain ⟨ks, kst, kg, -⟩ := d.setLane_spec hk hst
  refine ⟨kst, ?_, (h0.trans h1).trans ks.srdOnly⟩
  rw [kg f ⟨hs, Fld.apart_of_addr ?_, ?_⟩, g1 f hc, hv]
  · rw [ha, R.SRDk_STATUS, laneUp_addr]
    omega
  · rw [ha, R.SRDk_STATUS, R.SRD_IRQ_STATUS]
    omega

theorem laneCdrLock_spec {b : Block} {k : Nat} (hk : k < 16) (hst : b.laneState k = laneCdr) (hh : b.holding (k / 4) = false) :
    let t := laneCdrLock k b
    t.laneState k = (if 8 ≤ k then laneAlign else if b.untrained (k / 4) then laneUp else laneEq)
      ∧ t.bit (F.SRDk_STATUS_CDR_LOCK k) = true ∧ SrdOnly b t := by
  have hfit : (if 8 ≤ k then laneAlign else if b.untrained (k / 4) then laneUp else laneEq) < 16 := by split_ifs <;> decide
  rw [laneCdrLock, if_pos ⟨hst, hk, by rw [hh]; rfl⟩]
  obtain ⟨kst, kv, konly⟩ := b.laneOn_spec (f := F.SRDk_STATUS_CDR_LOCK k) 1 hk hfit rfl rfl rfl rfl
  refine ⟨kst, ?_, konly⟩
  rw [Block.bit, kv]
  rfl

/-- The lanes of a port take a state. -/
theorem Block.eachSetLane_spec (b : Block) {st p : Nat} (hst : st < 16) (hp : p < 4) :
    let t := b.each (portLanes p) (Block.setLane st)
    LaneStep b t ∧ PortIn t p st ∧ KeepsBeside BesideState p b t
      ∧ ∀ k ∈ portLanes p, bitOf (t.get F.SRD_STATUS_LANE_UP) k = (st == laneUp) := by
  refine ⟨b.each_lanes_rel hp (fun _ _ _ => LaneStep.trans) fun k hk _ c => (c.setLane_spec hk hst).1,
    b.each_lanes_own (own := fun k c => c.laneState k = st) hp (fun k hk c => (c.setLane_spec hk hst).2.1) fun j hj k hk hjk c hc => ?_,
    b.each_lanes_keeps hp fun k hk c => (c.setLane_spec hk hst).2.2.1,
    b.each_lanes_own (own := fun k c => bitOf (c.get F.SRD_STATUS_LANE_UP) k = (st == laneUp)) hp (fun k hk c => ?_) fun j hj k hk hjk c hc => ?_⟩
  · exact ((c.setLane_spec hk hst).2.2.1 _ (besideLane_state hj hjk).state).trans hc
  · rw [(c.setLane_spec hk hst).2.2.2 k hk, if_pos rfl]
  · rw [(c.setLane_spec hk hst).2.2.2 j hj, if_neg hjk, hc]

/-- The fields that a write of BLOCK_LOCK leaves. -/
def BesideBlockLock (k : Nat) (g : Fld) : Prop := g.apart (F.SRDk_STATUS_BLOCK_LOCK k) = true

/-- The lanes of a port show block lock. -/
theorem Block.eachBlockLock_spec (b : Block) {p : Nat} (hp : p < 4) :
    let t := b.each (portLanes p) (fun k b => b.set (F.SRDk_STATUS_BLOCK_LOCK k) 1)
    LaneStep b t ∧ (∀ k ∈ portLanes p, t.bit (F.SRDk_STATUS_BLOCK_LOCK k) = true) ∧ KeepsBeside BesideBlockLock p b t := by
  refine ⟨b.each_lanes_rel hp (fun _ _ _ => LaneStep.trans) fun k hk _ c => laneStep_set c 1 (laneStatus_window hk),
    b.each_lanes_own (own := fun k c => c.bit (F.SRDk_STATUS_BLOCK_LOCK k) = true) hp (fun k _ c => c.bit_set_one_self rfl rfl)
      fun j hj k hk hjk c hc => ?_,
    b.each_lanes_keeps hp fun k hk c g hg => c.get_set_apart 1 rfl hg⟩
  rw [Block.bit_set_apart c 1 rfl (Fld.apart_of_addr ?_), hc]
  rw [laneBlockLock_addr, laneBlockLock_addr]
  omega

theorem besideBlockLock_state (j k : Nat) : BesideBlockLock k (F.SRDk_STATUS_STATE j) := by
  by_cases h : j = k
  · rw [h]
    exact rfl
  · refine Fld.apart_of_addr ?_
    rw [laneState_addr, laneBlockLock_addr]
    omega

theorem besideState_blockLock (j k : Nat) : BesideState k (F.SRDk_STATUS_BLOCK_LOCK j) := by
  refine ⟨?_, Fld.apart_of_addr ?_, ?_⟩
  · by_cases h : j = k
    · rw [h]
      exact rfl
    · refine Fld.apart_of_addr ?_
      rw [laneState_addr, laneBlockLock_addr]
      omega
  · rw [laneBlockLock_addr, laneUp_addr]
    omega
  · rw [laneBlockLock_addr, R.SRD_IRQ_STATUS]
    omega

theorem portLanes_all {b : Block} {p st : Nat} (h : PortIn b p st) : (portLanes p).all (fun k => b.laneState k == st) = true := by
  rw [List.all_eq_true]
  intro k hk
  rw [h k hk, beq_self_eq_true]

/-- Four lanes with block lock. -/
def Block.aligned (b : Block) (p : Nat) : Block := b.each (portLanes p) (fun k b => b.set (F.SRDk_STATUS_BLOCK_LOCK k) 1)

theorem laneAlignDone_eq {b : Block} {p : Nat} (skew : Nat) (h2 : 2 ≤ p) (hp : p < 4) (hin : PortIn b p laneAlign) (hh : b.holding p = false) :
    laneAlignDone p skew b = if 4 < skew then (b.aligned p).trainFail p else (b.aligned p).each (portLanes p) (Block.setLane laneEq) := by
  rw [laneAlignDone, if_pos ⟨h2, hp, portLanes_all hin, by rw [hh]; rfl⟩]
  rfl

theorem Block.aligned_spec (b : Block) {p st : Nat} (hp : p < 4) (hin : PortIn b p st) :
    LaneStep b (b.aligned p) ∧ PortIn (b.aligned p) p st ∧ ∀ k ∈ portLanes p, (b.aligned p).bit (F.SRDk_STATUS_BLOCK_LOCK k) = true := by
  obtain ⟨hs, hl, hg⟩ := b.eachBlockLock_spec hp
  exact ⟨hs, fun k hk => (hg _ fun j _ => besideBlockLock_state k j).trans (hin k hk), hl⟩

theorem laneAlignDone_spec {b : Block} {p skew : Nat} (h2 : 2 ≤ p) (hp : p < 4) (hin : PortIn b p laneAlign) (hh : b.holding p = false)
    (hskew : skew ≤ 4) :
    let t := laneAlignDone p skew b
    PortIn t p laneEq ∧ (∀ k ∈ portLanes p, t.bit (F.SRDk_STATUS_BLOCK_LOCK k) = true) ∧ SrdOnly b t := by
  obtain ⟨hs, -, hl⟩ := b.aligned_spec hp hin
  rw [laneAlignDone_eq skew h2 hp hin hh, if_neg (by omega)]
  generalize b.aligned p = c at *
  obtain ⟨ks, kin, kg, -⟩ := c.eachSetLane_spec (st := laneEq) (by decide) hp
  refine ⟨kin, fun k hk => ?_, hs.srdOnly.trans ks.srdOnly⟩
  rw [Block.bit, kg _ fun j _ => besideState_blockLock k j, ← Block.bit, hl k hk]

/-- The end of a sweep (R344). -/
theorem laneEqDone_sweep {b : Block} {k : Nat} {w : Nat × Nat} {r : List (Nat × Nat)} (h8 : 8 ≤ k) (hk : k < 16)
    (hst : b.laneState k = laneEq) (hh : b.holding (k / 4) = false) (hbest : bestPreset r w < 8) :
    let t := laneEqDone k (w :: r) b
    t.laneState k = laneCheck ∧ t.get (F.SRDk_STATUS_RX_PRESET k) = bestPreset r w ∧ SrdOnly b t := by
  have hc : ¬(b.laneState k ≠ laneEq ∨ 16 ≤ k ∨ b.holding (k / 4) = true) := by
    rw [hh]
    simp [hst]
    omega
  rw [laneEqDone, if_neg hc, if_neg (by omega)]
  obtain ⟨kst, kv, konly⟩ := b.laneOn_spec (f := F.SRDk_STATUS_RX_PRESET k) (st := laneCheck) (bestPreset r w) hk (by decide) rfl rfl rfl rfl
  exact ⟨kst, kv.trans (Nat.mod_eq_of_lt hbest), konly⟩

/-- The end of an Ethernet lane's own training (R347). -/
theorem laneEqDone_clause {b : Block} {k : Nat} (ws : List (Nat × Nat)) (hk : k < 8) (hst : b.laneState k = laneEq)
    (hh : b.holding (k / 4) = false) :
    let t := laneEqDone k ws b
    t.laneState k = laneUp ∧ bitOf (t.get F.SRD_STATUS_LANE_UP) k = true ∧ SrdOnly b t := by
  have hc : ¬(b.laneState k ≠ laneEq ∨ 16 ≤ k ∨ b.holding (k / 4) = true) := by
    rw [hh]
    simp [hst]
    omega
  unfold laneEqDone
  rw [if_neg hc, if_pos hk]
  obtain ⟨ks, kst, -, kup⟩ := b.setLane_spec (k := k) (st := laneUp) (by omega) (by decide)
  exact ⟨kst, by rw [kup k (by omega), if_pos rfl]; rfl, ks.srdOnly⟩

theorem eyeWidth_lt {n : Nat} (h : n ≤ 64) : eyeWidth n < 2 ^ 10 := by
  simp only [eyeWidth, roundDiv]
  omega

/-- The eye that the check of a lane measured is shown. -/
def Block.eyeShown (b : Block) (k n : Nat) : Block := (b.set (F.SRDk_EYE_TRAIN_WIDTH k) (eyeWidth n)).set (F.SRDk_EYE_WIDTH k) (eyeWidth n)

theorem Block.eyeShown_spec (b : Block) {k n : Nat} (hk : k < 16) (hn : n ≤ 64) :
    LaneStep b (b.eyeShown k n) ∧ (b.eyeShown k n).get (F.SRDk_EYE_TRAIN_WIDTH k) = eyeWidth n
      ∧ ∀ g : Fld, g.addr ≠ R.SRDk_EYE k → (b.eyeShown k n).get g = b.get g := by
  unfold Block.eyeShown
  generalize hw : eyeWidth n = w
  have hlt : w < 2 ^ 10 := hw ▸ eyeWidth_lt hn
  refine ⟨(laneStep_set b w (laneEye_window hk)).trans (laneStep_set _ w (laneEye_window hk)), ?_, fun g hg => ?_⟩
  · rw [Block.get_set_apart _ _ rfl rfl, Block.get_set_self _ _ rfl]
    exact Nat.mod_eq_of_lt hlt
  · rw [Block.get_set_apart _ _ rfl (Fld.apart_of_addr hg), Block.get_set_apart _ _ rfl (Fld.apart_of_addr hg)]

theorem laneCheckDone_eq {b : Block} {k n : Nat} (h8 : 8 ≤ k) (hk : k < 16) (hn : n ≤ 64) (hst : b.laneState k = laneCheck)
    (hh : b.holding (k / 4) = false) :
    laneCheckDone k n b = if b.get F.SRD_EYE_CFG_EYE_MIN ≤ eyeWidth n then
        { (b.eyeShown k n).setLane laneReady k with
          srd.lanes := (b.eyeShown k n).srd.lanes.modify k (fun l => { l with passed := true }) }
      else (b.eyeShown k n).trainFail (k / 4) := by
  have hc : ¬(b.laneState k ≠ laneCheck ∨ k < 8 ∨ 16 ≤ k ∨ b.holding (k / 4) = true) := by
    rw [hh]
    simp [hst]
    omega
  have hmin : (b.eyeShown k n).get F.SRD_EYE_CFG_EYE_MIN = b.get F.SRD_EYE_CFG_EYE_MIN := by
    refine (b.eyeShown_spec hk hn).2.2 _ ?_
    simp only [F.SRD_EYE_CFG_EYE_MIN, R.SRD_EYE_CFG, R.SRDk_EYE]
    omega
  rw [← hmin, laneCheckDone, if_neg hc]
  rfl

theorem laneCheckDone_passed {b : Block} {k n : Nat} (h8 : 8 ≤ k) (hk : k < 16) (hn : n ≤ 64) (hst : b.laneState k = laneCheck)
    (hh : b.holding (k / 4) = false) (hmin : b.get F.SRD_EYE_CFG_EYE_MIN ≤ eyeWidth n) :
    let t := laneCheckDone k n b
    t.laneState k = laneReady ∧ t.get (F.SRDk_EYE_TRAIN_WIDTH k) = eyeWidth n ∧ SrdOnly b t := by
  obtain ⟨hs, hw, -⟩ := b.eyeShown_spec hk hn
  rw [laneCheckDone_eq h8 hk hn hst hh, if_pos hmin]
  generalize b.eyeShown k n = c at *
  obtain ⟨ks, kst, kg, -⟩ := c.setLane_spec (st := laneReady) hk (by decide)
  refine ⟨kst, (kg _ ⟨Fld.apart_of_addr ?_, Fld.apart_of_addr ?_, ?_⟩).trans hw, (hs.srdOnly.trans ks.srdOnly).trans (laneStep_lanes _ _).srdOnly⟩ <;>
    simp only [laneTrainWidth_addr, laneState_addr, laneUp_addr, R.SRD_IRQ_STATUS] <;> omega

theorem laneCountdownDone_spec {b : Block} {p : Nat} (h2 : 2 ≤ p) (hp : p < 4) (hin : PortIn b p laneReady) (hs : b.partnerShown p = true)
    (hh : b.holding p = false) :
    let t := laneCountdownDone p b
    PortIn t p laneUp ∧ (∀ k ∈ portLanes p, bitOf (t.get F.SRD_STATUS_LANE_UP) k = true) ∧ SrdOnly b t := by
  rw [laneCountdownDone, if_pos ⟨h2, hp, portLanes_all hin, hs, by rw [hh]; rfl⟩]
  obtain ⟨ks, kin, -, kup⟩ := b.eachSetLane_spec (st := laneUp) (by decide) hp
  exact ⟨kin, kup, ks.srdOnly⟩

/-! ### Training blocks (R340, R344) -/

theorem trainingBlock_open {b : Block} {k : Nat} (h8 : 8 ≤ k) (hk : k < 16) (h1 : laneCdr ≤ b.laneState k) (h2 : b.laneState k < laneUp) :
    ¬(k < 8 ∨ 16 ≤ k ∨ b.laneState k < laneCdr ∨ laneUp ≤ b.laneState k) := by omega

theorem trainingBlock_inverted {b : Block} {k : Nat} {x : TrainBlock} (h8 : 8 ≤ k) (hk : k < 16) (h1 : laneCdr ≤ b.laneState k)
    (h2 : b.laneState k < laneUp) (hx : x.inverted = true) :
    let t := trainingBlock k x b
    t.bit (F.SRDk_STATUS_POL_INV k) = !b.bit (F.SRDk_STATUS_POL_INV k) ∧ t.bit (F.SRDk_STATUS_BLOCK_LOCK k) = false
      ∧ SameWords [R.SRDk_STATUS k] b t ∧ SameMem b t := by
  rw [trainingBlock, if_neg (trainingBlock_open h8 hk h1 h2), hx, if_pos rfl, Block.setBit_eq]
  generalize b.bit (F.SRDk_STATUS_POL_INV k) = v
  have hpol : (b.set (F.SRDk_STATUS_POL_INV k) (if (!v) = true then 1 else 0)).bit (F.SRDk_STATUS_POL_INV k) = !v := by
    cases v
    · exact Block.bit_set_one_self b rfl rfl
    · exact Block.bit_set_zero_self b rfl
  refine ⟨?_, Block.bit_set_zero_self _ rfl, ?_, ?_⟩
  · rw [Block.bit_set_apart _ _ rfl rfl, hpol]
  · exact (sameWords_set (f := F.SRDk_STATUS_BLOCK_LOCK k) 0 (List.mem_singleton.mpr rfl)).mpr
      ((sameWords_set (f := F.SRDk_STATUS_POL_INV k) _ (List.mem_singleton.mpr rfl)).mpr (.refl _ b))
  · rw [sameMem_set, sameMem_set]
    exact .refl b

theorem trainingBlock_request {b : Block} {k q : Nat} {x : TrainBlock} {l : Lane} (h8 : 8 ≤ k) (hk : k < 16) (h1 : laneCdr ≤ b.laneState k)
    (h2 : b.laneState k < laneUp) (hal : b.laneState k ≠ laneAlign) (hx : x.inverted = false) (hcrc : x.crcOk = true)
    (hreq : x.txReq = some q) (hq : q < 8) (hl : b.srd.lanes[k]? = some l) (hfix : l.fixed = false) :
    let t := trainingBlock k x b
    t.get (F.SRDk_STATUS_TX_PRESET k) = q
      ∧ t.srd.lanes[k]? = some { l with ack := x.txAck, seq := x.seq, partnerReady := l.partnerReady || x.phase == 4 }
      ∧ SameWords [R.SRDk_STATUS k] b t ∧ SameMem b t := by
  have hany : (b.srd.lanes[k]?).any (fun l : Lane => l.fixed) = false := by rw [hl, Option.any_some, hfix]
  have hst : (b.set (F.SRDk_STATUS_TX_PRESET k) q).laneState k = b.laneState k := Block.get_set_apart b q rfl rfl
  have hpreset : (b.set (F.SRDk_STATUS_TX_PRESET k) q).get (F.SRDk_STATUS_TX_PRESET k) = q :=
    (Block.get_set_self b q rfl).trans (Nat.mod_eq_of_lt hq)
  have hwords : SameWords [R.SRDk_STATUS k] b (b.set (F.SRDk_STATUS_TX_PRESET k) q)  :=
    (sameWords_set (f := F.SRDk_STATUS_TX_PRESET k) q (List.mem_singleton.mpr rfl)).mpr (.refl _ b)
  have hsrd : (b.set (F.SRDk_STATUS_TX_PRESET k) q).srd = b.srd := rfl
  have hmem : SameMem b (b.set (F.SRDk_STATUS_TX_PRESET k) q) := (sameMem_set _ _ _ _).mpr (.refl b)
  rw [trainingBlock, if_neg (trainingBlock_open h8 hk h1 h2), hx, if_neg (by decide), hcrc, if_neg (by decide), hreq]
  dsimp only
  simp -implicitDefEqProofs only [hany, Bool.false_eq_true, if_false]
  generalize b.set (F.SRDk_STATUS_TX_PRESET k) q = c at *
  rw [if_neg fun h => hal (hst ▸ h.1)]
  refine ⟨hpreset, ?_, hwords, hmem⟩
  show (c.srd.lanes.modify k _)[k]? = _
  rw [hsrd, List.getElem?_modify_eq, hl]
  rfl

/-! ### O28 -/

/-- Settles O28, each command by the lemma of its step; all write SRD's window alone but the lost lock, which is logged too. -/
theorem laneTraining : Obligations.LaneTraining := by
  unfold Obligations.LaneTraining
  refine ⟨fun b p hr hp hin hsrc ht => ?_, fun b p hr hp hin => ?_, fun b k hr hk hst hh => ?_, fun b p skew hr h2 hp hin hh hskew => ?_,
    fun b k w r hr h8 hk hst hh hbest => ?_, fun b k ws hr hk hst hh => ?_, fun b k n hr h8 hk hn hst hh hmin => ?_,
    fun b p hr h2 hp hin hs hh => ?_, fun b k x hr h8 hk h1 h2 hx => ?_, fun b k q x l hr h8 hk h1 h2 hal hx hcrc hreq hq hl hfix => ?_⟩
  · obtain ⟨hbit, hlanes, honly⟩ := lanePllLock_spec hp hin hsrc ht
    refine gives_of_done (t := lanePllLock p b) hr (fun _ => rfl) ⟨?_, portIn_settle hlanes, srdOnly_settle honly⟩
    rw [Block.settle_get, hbit]
  · obtain ⟨hbit, hlanes, herr, hout, hmem⟩ := lanePllUnlock_spec hp hin
    refine gives_of_done (t := lanePllUnlock p false b) hr (fun _ => rfl) ⟨?_, portIn_settle hlanes, ?_, ?_, ?_⟩
    · rw [Block.settle_get, hbit]
    · rw [Block.settle_bit, herr]
    · rwa [sameOutside_settle]
    · rwa [sameMem_settle]
  · obtain ⟨hlane, hbit, honly⟩ := laneCdrLock_spec hk hst hh
    refine gives_of_done (t := laneCdrLock k b) hr (fun _ => rfl) ⟨?_, ?_, srdOnly_settle honly⟩
    · rw [Block.laneState, Block.settle_get, ← Block.laneState, hlane]
    · rw [Block.settle_bit, hbit]
  · obtain ⟨hlanes, hbits, honly⟩ := laneAlignDone_spec h2 hp hin hh hskew
    refine gives_of_done (t := laneAlignDone p skew b) hr (fun _ => rfl) ⟨portIn_settle hlanes, fun k hk => ?_, srdOnly_settle honly⟩
    rw [Block.settle_bit, hbits k hk]
  · obtain ⟨hlane, hpreset, honly⟩ := laneEqDone_sweep h8 hk hst hh hbest
    refine gives_of_done (t := laneEqDone k (w :: r) b) hr (fun _ => rfl) ⟨?_, ?_, srdOnly_settle honly⟩
    · rw [Block.laneState, Block.settle_get, ← Block.laneState, hlane]
    · rw [Block.settle_get, hpreset]
  · obtain ⟨hlane, hup, honly⟩ := laneEqDone_clause ws hk hst hh
    refine gives_of_done (t := laneEqDone k ws b) hr (fun _ => rfl) ⟨?_, ?_, srdOnly_settle honly⟩
    · rw [Block.laneState, Block.settle_get, ← Block.laneState, hlane]
    · rw [Block.settle_get, hup]
  · obtain ⟨hlane, hwidth, honly⟩ := laneCheckDone_passed h8 hk hn hst hh hmin
    refine gives_of_done (t := laneCheckDone k n b) hr (fun _ => rfl) ⟨?_, ?_, srdOnly_settle honly⟩
    · rw [Block.laneState, Block.settle_get, ← Block.laneState, hlane]
    · rw [Block.settle_get, hwidth]
  · obtain ⟨hlanes, hups, honly⟩ := laneCountdownDone_spec h2 hp hin hs hh
    refine gives_of_done (t := laneCountdownDone p b) hr (fun _ => rfl) ⟨portIn_settle hlanes, fun k hk => ?_, srdOnly_settle honly⟩
    rw [Block.settle_get, hups k hk]
  · obtain ⟨hpol, hlock, hwords, hmem⟩ := trainingBlock_inverted h8 hk h1 h2 hx
    refine gives_of_done (t := trainingBlock k x b) hr (fun _ => rfl) ⟨?_, ?_, ?_, ?_⟩
    · rw [Block.settle_bit, hpol]
    · rw [Block.settle_bit, hlock]
    · rwa [sameWords_settle]
    · rwa [sameMem_settle]
  · obtain ⟨hpreset, hlane, hwords, hmem⟩ := trainingBlock_request h8 hk h1 h2 hal hx hcrc hreq hq hl hfix
    refine gives_of_done (t := trainingBlock k x b) hr (fun _ => rfl) ⟨?_, ?_, ?_, ?_⟩
    · rw [Block.settle_get, hpreset]
    · rw [Block.settle_srd, hlane]
    · rwa [sameWords_settle]
    · rwa [sameMem_settle]

/-! ### Attempts that fail (R342) -/

/-- The failed attempt is counted on each lane of its port. -/
def Block.failCounted (b : Block) (p : Nat) : Block := b.each (portLanes p) (fun k b => b.countSat (F.SRDk_CNT_Ei k 4) 1)

theorem Block.failCounted_spec (b : Block) {p : Nat} (hp : p < 4) :
    LaneStep b (b.failCounted p) ∧ KeepsBeside (BesideCount 4) p b (b.failCounted p) :=
  ⟨b.each_lanes_rel hp (fun _ _ _ => LaneStep.trans) fun _ hk _ c => (c.countEvent_spec hk (by decide)).1,
    b.each_lanes_keeps hp fun _ hk c => (c.countEvent_spec hk (by decide)).2.2⟩

/-- A port holds from the clock on. -/
def Block.held (b : Block) (p : Nat) : Block := { b with srd.ports := b.srd.ports.modify p (fun q => { q with failed := some b.clk }) }

theorem Block.trainFail_eq (b : Block) (p : Nat) : b.trainFail p = ((b.failCounted p).held p).raiseAt E.SRD_TRAIN_FAIL (4 * p) := by
  rw [Block.trainFail, Block.held, Block.failCounted]

theorem Block.holding_held {b : Block} {p : Nat} (h : p < b.srd.ports.length) : (b.held p).holding p = true := by
  simp [Block.holding, Block.held, h]

theorem Block.regs_held (b : Block) (p : Nat) : (b.held p).regs = b.regs := rfl
theorem Block.clk_held (b : Block) (p : Nat) : (b.held p).clk = b.clk := rfl
theorem Block.dram_held (b : Block) (p : Nat) : (b.held p).dram = b.dram := rfl
theorem Block.qdr_held (b : Block) (p : Nat) : (b.held p).qdr = b.qdr := rfl

theorem Block.trainFail_spec (b : Block) {p : Nat} (hp : p < 4) (hlen : b.srd.ports.length = 4) :
    let t := b.trainFail p
    t.holding p = true ∧ t.bit F.SRD_ERR_TRAIN_FAIL = true ∧ (∀ k < 16, t.laneState k = b.laneState k) ∧ t.clk = b.clk
      ∧ SameOutside [0x1E, 0x30] b t ∧ SameMem b t := by
  obtain ⟨es, eg⟩ := b.failCounted_spec hp
  rw [Block.trainFail_eq]
  generalize b.failCounted p = c at *
  have hheld : (c.held p).holding p = true := Block.holding_held (by rw [es.2.2, hlen]; exact hp)
  have hlanes (k : Nat) : (c.held p).laneState k = b.laneState k :=
    (Block.get_congr (c.regs_held p) _).trans (eg _ fun j _ => besideCount_state (by decide))
  have hclk : (c.held p).clk = b.clk := (c.clk_held p).trans es.clk
  have hout : SameOutside [0x1E] b (c.held p) := (sameOutside_congr (c.regs_held p)).mpr es.2.1
  have hmem : SameMem b (c.held p) := (sameMem_congr (c.dram_held p) (c.qdr_held p)).mpr es.sameMem
  generalize c.held p = d at *
  obtain ⟨rerr, rsrd, rclk, rout, rmem, rget⟩ := d.raiseSrd_spec (e := E.SRD_TRAIN_FAIL) (4 * p) rfl rfl rfl rfl
  generalize d.raiseAt E.SRD_TRAIN_FAIL (4 * p) = u at *
  refine ⟨?_, rerr, fun k hk => ?_, rclk.trans hclk, (hout.mono (by decide)).trans rout, hmem.trans rmem⟩
  · rw [Block.holding, rsrd, ← Block.holding, hheld]
  · rw [laneState_raiseSrd rget hk, hlanes k]

theorem laneAlignDone_failed {b : Block} {p skew : Nat} (hlen : b.srd.ports.length = 4) (h2 : 2 ≤ p) (hp : p < 4) (hin : PortIn b p laneAlign)
    (hh : b.holding p = false) (hskew : 4 < skew) :
    let t := laneAlignDone p skew b
    t.holding p = true ∧ t.bit F.SRD_ERR_TRAIN_FAIL = true ∧ PortIn t p laneAlign ∧ SameOutside [0x1E, 0x30] b t ∧ SameMem b t := by
  obtain ⟨hs, hc, -⟩ := b.aligned_spec hp hin
  rw [laneAlignDone_eq skew h2 hp hin hh, if_pos hskew]
  generalize b.aligned p = c at *
  obtain ⟨khold, kerr, klanes, -, kout, kmem⟩ := c.trainFail_spec hp (by rw [hs.2.2, hlen])
  refine ⟨khold, kerr, fun k hk => ?_, (hs.2.1.mono (by decide)).trans kout, hs.sameMem.trans kmem⟩
  have hk4 := portLanes_eq hk
  rw [klanes k (by omega), hc k hk]

theorem laneCheckDone_failed {b : Block} {k n : Nat} (hlen : b.srd.ports.length = 4) (h8 : 8 ≤ k) (hk : k < 16) (hn : n ≤ 64)
    (hst : b.laneState k = laneCheck) (hh : b.holding (k / 4) = false) (hmin : eyeWidth n < b.get F.SRD_EYE_CFG_EYE_MIN) :
    let t := laneCheckDone k n b
    t.holding (k / 4) = true ∧ t.bit F.SRD_ERR_TRAIN_FAIL = true ∧ SameOutside [0x1E, 0x30] b t ∧ SameMem b t := by
  obtain ⟨hs, -, -⟩ := b.eyeShown_spec hk hn
  rw [laneCheckDone_eq h8 hk hn hst hh, if_neg (by omega)]
  generalize b.eyeShown k n = c at *
  obtain ⟨khold, kerr, -, -, kout, kmem⟩ := c.trainFail_spec (p := k / 4) (by omega) (by rw [hs.2.2, hlen])
  exact ⟨khold, kerr, (hs.2.1.mono (by decide)).trans kout, hs.sameMem.trans kmem⟩

theorem trainTimeout_spec {b : Block} {p : Nat} (hlen : b.srd.ports.length = 4) (h2 : 2 ≤ p) (hp : p < 4) (ht : b.training p = true) :
    let t := trainTimeout p b
    t.holding p = true ∧ t.bit F.SRD_ERR_TRAIN_FAIL = true
      ∧ t.clk = max b.clk (((b.srd.ports[p]?).map (·.started)).getD 0 + max 40 (b.get F.SRD_TRAIN_CFG_TIMEOUT_MS) * 1000000)
      ∧ SameOutside [0x1E, 0x30] b t ∧ SameMem b t := by
  rw [trainTimeout, if_pos ⟨h2, hp, ht⟩]
  dsimp only
  generalize ((b.srd.ports[p]?).map (·.started)).getD 0 + max 40 (b.get F.SRD_TRAIN_CFG_TIMEOUT_MS) * 1000000 = n
  have hsrd : (b.untilClk n).srd = b.srd := b.untilClk_srd n
  have hclk : (b.untilClk n).clk = max b.clk n := b.untilClk_clk n
  have hout : SameOutside [0x1E, 0x30] b (b.untilClk n) := (sameOutside_untilClk _ _ _ _).mpr (.refl _ b)
  have hmem : SameMem b (b.untilClk n) := (sameMem_untilClk _ _ _).mpr (.refl b)
  generalize b.untilClk n = c at *
  obtain ⟨khold, kerr, -, kclk, kout, kmem⟩ := c.trainFail_spec hp (by rw [hsrd, hlen])
  exact ⟨khold, kerr, kclk.trans hclk, hout.trans kout, hmem.trans kmem⟩

theorem trainRetry_spec {b : Block} {p at' : Nat} (hlen : b.srd.ports.length = 4) (hp : p < 4)
    (hf : (b.srd.ports[p]?).bind (·.failed) = some at') :
    let t := trainRetry p b
    PortIn t p laneCdr ∧ t.holding p = false ∧ t.clk = max b.clk (at' + 1000000) ∧ SrdOnly b t := by
  rw [trainRetry, hf]
  dsimp only
  generalize at' + 1000000 = n
  have hsrd : (b.untilClk n).srd = b.srd := b.untilClk_srd n
  have hclk : (b.untilClk n).clk = max b.clk n := b.untilClk_clk n
  have honly : SrdOnly b (b.untilClk n) := ⟨(sameOutside_untilClk _ _ _ _).mpr (.refl _ b), (sameMem_untilClk _ _ _).mpr (.refl b)⟩
  generalize b.untilClk n = c at *
  obtain ⟨ks, kin, -⟩ := c.portToCdr_spec hp
  exact ⟨kin, ks.holding (by rw [hsrd, hlen]; exact hp), ks.clk.trans hclk, honly.trans ks.srdOnly⟩

theorem holding_settle (t : Block) (p : Nat) : t.settle.holding p = t.holding p := by
  rw [Block.holding, Block.settle_srd, ← Block.holding]

/-- Settles O29, by what a failed attempt leaves and what a new one begins with. -/
theorem trainingFailure : Obligations.TrainingFailure := by
  unfold Obligations.TrainingFailure
  refine ⟨fun b p skew hr hlen h2 hp hin hh hskew => ?_, fun b k n hr hlen h8 hk hn hst hh hmin => ?_, fun b p hr hlen h2 hp ht => ?_,
    fun b p at' hr hlen hp hf => ?_⟩
  · obtain ⟨hhold, herr, hlanes, hout, hmem⟩ := laneAlignDone_failed hlen h2 hp hin hh hskew
    refine gives_of_done (t := laneAlignDone p skew b) hr (fun _ => rfl) ⟨?_, ?_, portIn_settle hlanes, ?_, ?_⟩
    · rw [holding_settle, hhold]
    · rw [Block.settle_bit, herr]
    · rwa [sameOutside_settle]
    · rwa [sameMem_settle]
  · obtain ⟨hhold, herr, hout, hmem⟩ := laneCheckDone_failed hlen h8 hk hn hst hh hmin
    refine gives_of_done (t := laneCheckDone k n b) hr (fun _ => rfl) ⟨?_, ?_, ?_, ?_⟩
    · rw [holding_settle, hhold]
    · rw [Block.settle_bit, herr]
    · rwa [sameOutside_settle]
    · rwa [sameMem_settle]
  · obtain ⟨hhold, herr, hclk, hout, hmem⟩ := trainTimeout_spec hlen h2 hp ht
    refine gives_of_done (t := trainTimeout p b) hr (fun _ => rfl) ⟨?_, ?_, ?_, ?_, ?_⟩
    · rw [holding_settle, hhold]
    · rw [Block.settle_bit, herr]
    · rw [Block.settle_clk, hclk]
    · rwa [sameOutside_settle]
    · rwa [sameMem_settle]
  · obtain ⟨hlanes, hhold, hclk, honly⟩ := trainRetry_spec hlen hp hf
    refine gives_of_done (t := trainRetry p b) hr (fun _ => rfl) ⟨portIn_settle hlanes, ?_, ?_, srdOnly_settle honly⟩
    · rw [holding_settle, hhold]
    · rw [Block.settle_clk, hclk]

end Sys2Proof.Machine
end

section
/-!
PROOFS of chapter 11: the loss of lanes and the test patterns.
-/

namespace Sys2Proof.Machine

/-! ### Retraining (R345) -/

theorem Block.retrain_up {b : Block} {k i : Nat} (h : b.laneState k = laneUp) :
    b.retrain k (some i) = (b.countSat (F.SRDk_CNT_Ei k i) 1).portToCdr (k / 4) := by
  rw [Block.retrain, h]
  rfl

theorem Block.retrain_spec {b : Block} {k i : Nat} (hk : k < 16) (hi : i < 5) (h : b.laneState k = laneUp) :
    let t := b.retrain k (some i)
    PortIn t (k / 4) laneCdr ∧ t.get (F.SRDk_CNT_Ei k i) = min (b.get (F.SRDk_CNT_Ei k i) + 1) (2 ^ 32 - 1) ∧ t.clk = b.clk ∧ SrdOnly b t
      ∧ t.get F.SRD_ERR_CDR_LOSS = b.get F.SRD_ERR_CDR_LOSS ∧ t.get F.SRD_ERR_BLOCK_LOSS = b.get F.SRD_ERR_BLOCK_LOSS
      ∧ t.get F.SRD_ERR_EYE_LOW = b.get F.SRD_ERR_EYE_LOW := by
  obtain ⟨cs, cv, cg⟩ := b.countEvent_spec hk hi
  rw [Block.retrain_up h]
  generalize b.countSat (F.SRDk_CNT_Ei k i) 1 = c at *
  obtain ⟨ks, kin, kg⟩ := c.portToCdr_spec (p := k / 4) (by omega)
  have hcommon (g : Fld) (hg : g.addr < 0x1E0100) (hu : g.apart F.SRD_STATUS_LANE_UP = true) : (c.portToCdr (k / 4)).get g = b.get g := by
    rw [kg g fun j _ => besideLane_common hg hu, cg g (by rw [laneCount_addr]; omega)]
  exact ⟨kin, (kg _ fun j _ => besideLane_count hk hi).trans cv, ks.clk.trans cs.clk, cs.srdOnly.trans ks.srdOnly,
    hcommon _ (by decide) (by decide), hcommon _ (by decide) (by decide), hcommon _ (by decide) (by decide)⟩

theorem cdrLoss_spec {b : Block} {k : Nat} (hk : k < 16) (h : b.laneState k = laneUp) :
    let t := cdrLoss k b
    PortIn t (k / 4) laneCdr ∧ t.bit F.SRD_ERR_CDR_LOSS = true
      ∧ t.get (F.SRDk_CNT_Ei k 0) = min (b.get (F.SRDk_CNT_Ei k 0) + 1) (2 ^ 32 - 1) ∧ SameOutside [0x1E, 0x30] b t ∧ SameMem b t := by
  have hopen : ¬(b.laneState k < laneCdr ∨ laneTest ≤ b.laneState k ∨ 16 ≤ k) := by
    rw [h, laneUp, laneCdr, laneTest]
    omega
  obtain ⟨rerr, -, -, rout, rmem, rget⟩ := b.raiseSrd_spec (e := E.SRD_CDR_LOSS) k rfl rfl rfl rfl
  rw [cdrLoss, if_neg hopen, if_pos h]
  generalize b.raiseAt E.SRD_CDR_LOSS k = c at *
  obtain ⟨kin, kv, -, konly, kerr, -, -⟩ := Block.retrain_spec (i := 0) hk (by decide) ((laneState_raiseSrd rget hk).trans h)
  refine ⟨kin, ?_, ?_, rout.trans (konly.1.mono (by decide)), rmem.trans konly.2⟩
  · rw [Block.bit, kerr, ← Block.bit]
    exact rerr
  · rw [kv, count_raiseSrd rget hk (by decide)]

theorem blockLoss_spec {b : Block} {k : Nat} (h8 : 8 ≤ k) (hk : k < 16) (h : b.laneState k = laneUp) :
    let t := blockLoss k b
    PortIn t (k / 4) laneCdr ∧ t.bit F.SRD_ERR_BLOCK_LOSS = true
      ∧ t.get (F.SRDk_CNT_Ei k 1) = min (b.get (F.SRDk_CNT_Ei k 1) + 1) (2 ^ 32 - 1) ∧ SameOutside [0x1E, 0x30] b t ∧ SameMem b t := by
  obtain ⟨rerr, -, -, rout, rmem, rget⟩ := b.raiseSrd_spec (e := E.SRD_BLOCK_LOSS) k rfl rfl rfl rfl
  rw [blockLoss, if_pos ⟨h, h8, hk⟩]
  generalize b.raiseAt E.SRD_BLOCK_LOSS k = c at *
  obtain ⟨kin, kv, -, konly, -, kerr, -⟩ := Block.retrain_spec (i := 1) hk (by decide) ((laneState_raiseSrd rget hk).trans h)
  refine ⟨kin, ?_, ?_, rout.trans (konly.1.mono (by decide)), rmem.trans konly.2⟩
  · rw [Block.bit, kerr, ← Block.bit]
    exact rerr
  · rw [kv, count_raiseSrd rget hk (by decide)]

theorem eyeLow_spec {b : Block} {k at' : Nat} (h8 : 8 ≤ k) (hk : k < 16) (h : b.laneState k = laneUp)
    (hlow : (b.srd.lanes[k]?).bind (·.lowSince) = some at') :
    let t := eyeLow k b
    PortIn t (k / 4) laneCdr ∧ t.bit F.SRD_ERR_EYE_LOW = true
      ∧ t.get (F.SRDk_CNT_Ei k 3) = min (b.get (F.SRDk_CNT_Ei k 3) + 1) (2 ^ 32 - 1)
      ∧ t.clk = max b.clk (at' + max 1 (b.get F.SRD_EYE_CFG_DOWN_MS) * 1000000) ∧ SameOutside [0x1E, 0x30] b t ∧ SameMem b t := by
  rw [eyeLow, hlow]
  dsimp only
  rw [if_pos ⟨h, h8⟩]
  generalize at' + max 1 (b.get F.SRD_EYE_CFG_DOWN_MS) * 1000000 = n
  have hget (g : Fld) : (b.untilClk n).get g = b.get g := b.untilClk_get n g
  have hclk : (b.untilClk n).clk = max b.clk n := b.untilClk_clk n
  have hout : SameOutside [0x1E, 0x30] b (b.untilClk n) := (sameOutside_untilClk _ _ _ _).mpr (.refl _ b)
  have hmem : SameMem b (b.untilClk n) := (sameMem_untilClk _ _ _).mpr (.refl b)
  generalize b.untilClk n = d at *
  obtain ⟨rerr, -, rclk, rout, rmem, rget⟩ := d.raiseSrd_spec (e := E.SRD_EYE_LOW) k rfl rfl rfl rfl
  generalize d.raiseAt E.SRD_EYE_LOW k = c at *
  obtain ⟨kin, kv, kclk, konly, -, -, kerr⟩ := Block.retrain_spec (i := 3) hk (by decide)
    ((laneState_raiseSrd rget hk).trans ((hget _).trans h))
  refine ⟨kin, ?_, ?_, kclk.trans (rclk.trans hclk), (hout.trans rout).trans (konly.1.mono (by decide)), (hmem.trans rmem).trans konly.2⟩
  · rw [Block.bit, kerr, ← Block.bit]
    exact rerr
  · rw [kv, count_raiseSrd rget hk (by decide), hget]

/-- Of the ports only that of the lane named has a lane named. -/
theorem find_lane : ∀ k < 16, ∀ p < 4, (portLanes p).find? (bitOf (2 ^ k)) = if p = k / 4 then some k else none := by
  decide +kernel

/-- What is done for one of four ports is done once. -/
theorem each_port_one (b : Block) (f : Block → Block) {q : Nat} (h : q < 4) :
    b.each (List.range 4) (fun p b => if p = q then f b else b) = f b := by
  have hr : List.range 4 = [0, 1, 2, 3] := rfl
  simp only [Block.each, hr, List.foldl_cons, List.foldl_nil]
  interval_cases q <;> simp

theorem Block.each_congr {α : Type} {f g : α → Block → Block} {l : List α} (h : ∀ x ∈ l, f x = g x) (b : Block) : b.each l f = b.each l g := by
  rw [Block.each, Block.each]
  exact List.foldl_ext _ _ b fun c x hx => congrFun (h x hx) c

theorem srdRetrain_eq (b : Block) {k : Nat} (hk : k < 16) : srdRetrain (2 ^ k) b = b.retrain k (some 2) := by
  rw [← each_port_one b (fun b => b.retrain k (some 2)) (q := k / 4) (by omega), srdRetrain]
  refine Block.each_congr (fun p hp => funext fun c => ?_) b
  rw [find_lane k hk p (List.mem_range.mp hp)]
  by_cases h : p = k / 4
  · rw [if_pos h, if_pos h]
  · rw [if_neg h, if_neg h]

/-- A sweep of the eye (R346). -/
theorem eyeMeasureDone_spec {b : Block} {k n : Nat} (hk : k < 16) (hn : n ≤ 64) :
    let t := eyeMeasureDone k n b
    t.get (F.SRDk_EYE_WIDTH k) = (1000 * n + 32) / 64 ∧ SameWords [(F.SRDk_EYE_WIDTH k).addr] b t ∧ SameMem b t := by
  have hw : eyeWidth n = (1000 * n + 32) / 64 := by
    simp only [eyeWidth, roundDiv]
    omega
  have hlt := eyeWidth_lt hn
  have hwidth : (b.set (F.SRDk_EYE_WIDTH k) (eyeWidth n)).get (F.SRDk_EYE_WIDTH k) = (1000 * n + 32) / 64 := by
    rw [Block.get_set_self b _ rfl, ← hw]
    exact Nat.mod_eq_of_lt hlt
  have hwords : SameWords [(F.SRDk_EYE_WIDTH k).addr] b (b.set (F.SRDk_EYE_WIDTH k) (eyeWidth n)) :=
    (sameWords_set _ (List.mem_singleton.mpr rfl)).mpr (.refl _ b)
  have hmem : SameMem b (b.set (F.SRDk_EYE_WIDTH k) (eyeWidth n)) := (sameMem_set _ _ _ _).mpr (.refl b)
  rw [eyeMeasureDone, if_neg (by omega)]
  generalize eyeWidth n = w at *
  generalize b.set (F.SRDk_EYE_WIDTH k) w = c at *
  exact ⟨hwidth, hwords, hmem⟩

/-! ### Test patterns (R348, R349) -/

theorem besideChecker_state {j k : Nat} : BesideChecker k (F.SRDk_STATUS_STATE j) := by
  refine ⟨?_, ?_, fun i hi => ⟨?_, ?_⟩⟩
  · by_cases h : j = k
    · rw [h]
      exact rfl
    · refine Fld.apart_of_addr ?_
      rw [laneState_addr, laneChkLock_addr]
      omega
  all_goals
    simp only [laneState_addr, R.SRD_IRQ_STATUS, R.SRDk_CNT_Ti_LO, R.SRDk_CNT_Ti_HI]
    omega

theorem besideLane_gen (j k : Nat) (hk : k < 16) : BesideLane j (F.SRDk_PAT_CTRL_GEN_EN k) := by
  refine ⟨?_, Fld.apart_of_addr ?_, ?_, fun i hi => ⟨?_, ?_⟩⟩ <;>
    simp only [laneGen_addr, laneUp_addr, R.SRDk_STATUS, R.SRD_IRQ_STATUS, R.SRDk_CNT_Ti_LO, R.SRDk_CNT_Ti_HI] <;> omega

/-- The word that a write of PAT_CTRL leaves. -/
def patWord (v : Nat) : Word := BitVec.ofNat 32 (Nat.land v 0x1F77)

theorem patWord_gen {v k : Nat} (h : (F.SRDk_PAT_CTRL_GEN_EN k).of v = 1) : (F.SRDk_PAT_CTRL_GEN_EN k).of (patWord v).toNat = 1 := by
  have hle : Nat.land v 0x1F77 ≤ 0x1F77 := Nat.and_le_right
  have hlow : Nat.land v 0x1F77 % 2 = v % 2 := by
    have h2 := Nat.and_mod_two_pow (a := v) (b := 0x1F77) (n := 1)
    rw [show Nat.land v 0x1F77 = v &&& 0x1F77 from rfl]
    simpa using h2
  have hof (x : Nat) : (F.SRDk_PAT_CTRL_GEN_EN k).of x = x % 2 := by
    simp [Fld.of, Fld.width, F.SRDk_PAT_CTRL_GEN_EN]
  rw [hof] at h ⊢
  rw [patWord, BitVec.toNat_ofNat, Nat.mod_eq_of_lt (b := 2 ^ 32) (lt_of_le_of_lt hle (by decide)), hlow, h]

/-- The test bits of a lane as written, its checker stopped where they change. -/
def Block.patWritten (b : Block) (k v : Nat) : Block :=
  (if b.word (R.SRDk_PAT_CTRL k) = patWord v then b else b.checkerOff k).setWord (R.SRDk_PAT_CTRL k) (patWord v)

theorem Block.patWritten_spec (b : Block) {k v : Nat} (hk : k < 16) :
    let t := b.patWritten k v
    t.get (F.SRDk_PAT_CTRL_GEN_EN k) = (F.SRDk_PAT_CTRL_GEN_EN k).of (patWord v).toNat ∧ (∀ j, t.laneState j = b.laneState j) ∧ SrdOnly b t := by
  have hstop : SrdOnly b (if b.word (R.SRDk_PAT_CTRL k) = patWord v then b else b.checkerOff k)
      ∧ ∀ j, (if b.word (R.SRDk_PAT_CTRL k) = patWord v then b else b.checkerOff k).laneState j = b.laneState j := by
    split
    · exact ⟨(LaneStep.refl b).srdOnly, fun _ => rfl⟩
    · obtain ⟨hs, hg⟩ := b.checkerOff_spec hk
      exact ⟨hs.srdOnly, fun j => hg _ besideChecker_state⟩
  unfold Block.patWritten
  generalize (if b.word (R.SRDk_PAT_CTRL k) = patWord v then b else b.checkerOff k) = c at *
  obtain ⟨hs, hst⟩ := hstop
  refine ⟨?_, fun j => ?_, hs.trans ⟨?_, (sameMem_setWord _ _ _ _).mpr (.refl c)⟩⟩
  · rw [Block.get, show (F.SRDk_PAT_CTRL_GEN_EN k).addr = R.SRDk_PAT_CTRL k from rfl, Block.word_setWord]
  · rw [Block.laneState, Block.get, Block.word_setWord_other, ← Block.get, ← Block.laneState, hst j]
    rw [laneState_addr, R.SRDk_PAT_CTRL]
    omega
  · rw [sameOutside_setWord]
    · exact .refl _ c
    · rw [R.SRDk_PAT_CTRL, lanePattern_window hk]
      decide

theorem patCtrl_enters {b : Block} {k v : Nat} (hk : k < 16) (hgen : (F.SRDk_PAT_CTRL_GEN_EN k).of v = 1)
    (hinj : (F.SRDk_PAT_CTRL_INJECT k).of v = 0) (hin : PortIn b (k / 4) laneUp) :
    let t := patCtrl k v b
    PortIn t (k / 4) laneTest ∧ t.bit (F.SRDk_PAT_CTRL_GEN_EN k) = true ∧ SrdOnly b t := by
  obtain ⟨hbit, hst, honly⟩ := b.patWritten_spec (v := v) hk
  rw [patWord_gen hgen] at hbit
  have he : patCtrl k v b = if (b.patWritten k v).testing (k / 4) then
        if (portLanes (k / 4)).all (fun j => (b.patWritten k v).laneState j == laneTest) then b.patWritten k v
        else (b.patWritten k v).portTo laneTest (k / 4)
      else if (portLanes (k / 4)).any (fun j => (b.patWritten k v).laneState j == laneTest) then
        if (b.patWritten k v).portEn (k / 4) then (b.patWritten k v).portToCdr (k / 4) else (b.patWritten k v).portDisable (k / 4)
      else b.patWritten k v := by
    rw [patCtrl, if_neg (by omega)]
    simp only [hinj]
    rfl
  rw [he]
  generalize b.patWritten k v = c at *
  have htest : c.testing (k / 4) = true := by
    rw [Block.testing, List.any_eq_true]
    exact ⟨k, mem_portLanes k, by rw [Block.bit, hbit]; rfl⟩
  have hnot : (portLanes (k / 4)).all (fun j => c.laneState j == laneTest) = false := by
    rw [List.all_eq_false]
    exact ⟨k, mem_portLanes k, by rw [hst, hin k (mem_portLanes k)]; decide⟩
  rw [htest, if_pos rfl, hnot, if_neg (by decide)]
  obtain ⟨ks, kin, kg⟩ := c.portTo_spec (p := k / 4) (st := laneTest) (by omega) (by decide)
  refine ⟨kin, ?_, honly.trans ks.srdOnly⟩
  rw [Block.bit, kg _ fun j _ => besideLane_gen j k hk, hbit]
  rfl

theorem inject_sent {b : Block} {k : Nat} (hk : k < 16) (hl : b.bit (F.SRDk_PAT_CTRL_LOOP k) = false) : inject k b = b.emit (.inverted k) := by
  have hle : (b.emit (.inverted k)).bit (F.SRDk_PAT_CTRL_LOOP k) = false := hl
  rw [inject, if_neg (by omega)]
  dsimp only
  rw [hle]
  rfl

theorem inject_counted {b : Block} {k : Nat} (hk : k < 16) (hl : b.bit (F.SRDk_PAT_CTRL_LOOP k) = true)
    (hc : b.bit (F.SRDk_STATUS_CHK_LOCK k) = true) :
    let t := inject k b
    t.bit F.SRD_IRQ_STATUS_PAT_ERR = true
      ∧ t.pair (F.SRDk_CNT_Ti_LO k 1) (F.SRDk_CNT_Ti_HI k 1) = (b.pair (F.SRDk_CNT_Ti_LO k 1) (F.SRDk_CNT_Ti_HI k 1) + 1) % 2 ^ 64
      ∧ SrdOnly b t := by
  have hpair : (b.emit (.inverted k)).pair (F.SRDk_CNT_Ti_LO k 1) (F.SRDk_CNT_Ti_HI k 1) = b.pair (F.SRDk_CNT_Ti_LO k 1) (F.SRDk_CNT_Ti_HI k 1) := rfl
  have honly : SrdOnly b (b.emit (.inverted k)) := ⟨(sameOutside_emit _ _ _ _).mpr (.refl _ b), (sameMem_emit _ _ _).mpr (.refl b)⟩
  have he : inject k b = ((b.emit (.inverted k)).countPair (F.SRDk_CNT_Ti_LO k 1) (F.SRDk_CNT_Ti_HI k 1) 1).set F.SRD_IRQ_STATUS_PAT_ERR 1 := by
    have hle : (b.emit (.inverted k)).bit (F.SRDk_PAT_CTRL_LOOP k) = true := hl
    have hce : (b.emit (.inverted k)).bit (F.SRDk_STATUS_CHK_LOCK k) = true := hc
    rw [inject, if_neg (by omega)]
    dsimp only
    rw [hle, hce]
    rfl
  rw [he]
  generalize b.emit (.inverted k) = d at *
  obtain ⟨ks, kp, -⟩ := d.countLane_spec (i := 1) 1 hk (by decide)
  generalize d.countPair (F.SRDk_CNT_Ti_LO k 1) (F.SRDk_CNT_Ti_HI k 1) 1 = e at *
  refine ⟨Block.bit_set_one_self e rfl rfl, ?_, (honly.trans ks.srdOnly).trans (laneStep_set e 1 (by decide)).srdOnly⟩
  rw [← hpair, ← kp]
  refine Block.pair_of_get (Block.get_set_apart e 1 rfl (Fld.apart_of_addr ?_)) (Block.get_set_apart e 1 rfl (Fld.apart_of_addr ?_)) <;>
    simp only [laneTrafficLo_addr, laneTrafficHi_addr, lanePatErr_addr] <;> omega

/-- The lanes' own records are replaced. -/
def Block.withLanes (b : Block) (l : List Lane) : Block := { b with srd.lanes := l }

theorem Block.regs_withLanes (b : Block) (l : List Lane) : (b.withLanes l).regs = b.regs := rfl

theorem Block.sameMem_withLanes (b : Block) (l : List Lane) : SameMem b (b.withLanes l) := fun _ => ⟨rfl, rfl⟩

theorem checkerLock_eq {b : Block} {k : Nat} (hk : k < 16) (hst : b.laneState k = laneTest) (hen : b.bit (F.SRDk_PAT_CTRL_CHK_EN k) = true)
    (hpat : b.get (F.SRDk_PAT_CTRL_PATTERN k) ≤ 5) (hno : b.bit (F.SRDk_STATUS_CHK_LOCK k) = false) :
    checkerLock k b = (b.set (F.SRDk_STATUS_CHK_LOCK k) 1).withLanes (b.srd.lanes.modify k (fun l => { l with checkFrom := some b.clk })) := by
  rw [checkerLock, if_pos ⟨hst, hen, hpat, hk, by rw [hno]; rfl⟩, Block.withLanes]

theorem checkerLock_spec {b : Block} {k : Nat} (hk : k < 16) (hst : b.laneState k = laneTest) (hen : b.bit (F.SRDk_PAT_CTRL_CHK_EN k) = true)
    (hpat : b.get (F.SRDk_PAT_CTRL_PATTERN k) ≤ 5) (hno : b.bit (F.SRDk_STATUS_CHK_LOCK k) = false) :
    let t := checkerLock k b
    t.bit (F.SRDk_STATUS_CHK_LOCK k) = true ∧ t.laneState k = laneTest ∧ SameWords [R.SRDk_STATUS k] b t ∧ SameMem b t := by
  rw [checkerLock_eq hk hst hen hpat hno]
  refine ⟨?_, ?_, ?_, ?_⟩
  · rw [Block.bit, Block.get_congr (Block.regs_withLanes _ _), ← Block.bit, Block.bit_set_one_self b rfl rfl]
  · rw [Block.laneState, Block.get_congr (Block.regs_withLanes _ _), Block.get_set_apart b 1 rfl rfl, ← Block.laneState, hst]
  · exact (sameWords_congr (Block.regs_withLanes _ _)).mpr
      ((sameWords_set (f := F.SRDk_STATUS_CHK_LOCK k) 1 (List.mem_singleton.mpr rfl)).mpr (.refl _ b))
  · exact ((sameMem_set b b _ _).mpr (.refl b)).trans (Block.sameMem_withLanes _ _)

/-! ### O30 -/

/-- Settles O30, each command by the lemma of its step; the lanes leave UP by the one lemma of a retrain. -/
theorem laneLossAndTests : Obligations.LaneLossAndTests := by
  unfold Obligations.LaneLossAndTests
  refine ⟨fun b k hr hk h => ?_, fun b k hr h8 hk h => ?_, fun b k n hr hk hn => ?_, fun b k at' hr h8 hk h hlow => ?_,
    fun b p k v hr hg hk hv h => ?_, fun b p k v hr hk hg hgen hinj hin => ?_, fun b p k hr hk hg hl => ?_, fun b p k hr hk hg hl hc => ?_,
    fun b k hr hk hst hen hpat hno => ?_, fun b k errors hr hk hc he => ?_⟩
  · obtain ⟨hin, herr, hcount, hout, hmem⟩ := cdrLoss_spec hk h
    refine gives_of_done (t := cdrLoss k b) hr (fun _ => rfl) ⟨portIn_settle hin, ?_, ?_, ?_, ?_⟩
    · rw [Block.settle_bit, herr]
    · rw [Block.settle_get, hcount]
    · rwa [sameOutside_settle]
    · rwa [sameMem_settle]
  · obtain ⟨hin, herr, hcount, hout, hmem⟩ := blockLoss_spec h8 hk h
    refine gives_of_done (t := blockLoss k b) hr (fun _ => rfl) ⟨portIn_settle hin, ?_, ?_, ?_, ?_⟩
    · rw [Block.settle_bit, herr]
    · rw [Block.settle_get, hcount]
    · rwa [sameOutside_settle]
    · rwa [sameMem_settle]
  · obtain ⟨hwidth, hwords, hmem⟩ := eyeMeasureDone_spec hk hn (b := b)
    refine gives_of_done (t := eyeMeasureDone k n b) hr (fun _ => rfl) ⟨?_, ?_, ?_⟩
    · rw [Block.settle_get, hwidth]
    · rwa [sameWords_settle]
    · rwa [sameMem_settle]
  · obtain ⟨hin, herr, hcount, hclk, hout, hmem⟩ := eyeLow_spec h8 hk h hlow
    refine gives_of_done (t := eyeLow k b) hr (fun _ => rfl) ⟨portIn_settle hin, ?_, ?_, ?_, ?_, ?_⟩
    · rw [Block.settle_bit, herr]
    · rw [Block.settle_get, hcount]
    · rw [Block.settle_clk, hclk]
    · rwa [sameOutside_settle]
    · rwa [sameMem_settle]
  · refine gives_of_writing (f := srdRetrain v.toNat) hr hg (fun _ => rfl) ?_
    rw [hv, srdRetrain_eq b hk]
    obtain ⟨hin, hcount, -, honly, -⟩ := Block.retrain_spec (i := 2) hk (by decide) h
    refine ⟨portIn_settle hin, ?_, srdOnly_settle honly⟩
    rw [Block.settle_get, hcount]
  · refine gives_of_writing (f := patCtrl k v.toNat) hr hg (fun _ => rfl) ?_
    obtain ⟨hlanes, hbit, honly⟩ := patCtrl_enters hk hgen hinj hin
    refine ⟨portIn_settle hlanes, ?_, srdOnly_settle honly⟩
    rw [Block.settle_bit, hbit]
  · refine gives_of_writing (f := inject k) hr hg (fun _ => rfl) ?_
    rw [inject_sent hk hl]
    refine ⟨?_, ?_, ?_⟩
    · rw [Block.settle_out]
      rfl
    · rw [sameWords_settle, sameWords_emit]
      exact .refl _ b
    · rw [sameMem_settle, sameMem_emit]
      exact .refl b
  · refine gives_of_writing (f := inject k) hr hg (fun _ => rfl) ?_
    obtain ⟨hbit, hpair, honly⟩ := inject_counted hk hl hc
    refine ⟨?_, ?_, srdOnly_settle honly⟩
    · rw [Block.settle_bit, hbit]
    · exact (Block.pair_of_get (Block.settle_get _ _) (Block.settle_get _ _)).trans hpair
  · obtain ⟨hbit, hlane, hwords, hmem⟩ := checkerLock_spec hk hst hen hpat hno
    refine gives_of_done (t := checkerLock k b) hr (fun _ => rfl) ⟨?_, ?_, ?_, ?_⟩
    · rw [Block.settle_bit, hbit]
    · rw [Block.laneState, Block.settle_get, ← Block.laneState, hlane]
    · rwa [sameWords_settle]
    · rwa [sameMem_settle]
  · obtain ⟨hs, hlock, -, hpair, hirq⟩ := b.checkerStop_spec errors hk
    have hstop : checkerLockLoss k errors b = b.checkerStop k errors := if_pos ⟨hc, hk⟩
    refine gives_of_done (t := checkerLockLoss k errors b) hr (fun _ => rfl) ?_
    rw [hstop]
    refine ⟨?_, ?_, ?_, srdOnly_settle hs.srdOnly⟩
    · rw [Block.settle_bit, hlock]
    · rw [Block.settle_bit, hirq (by omega)]
    · exact (Block.pair_of_get (Block.settle_get _ _) (Block.settle_get _ _)).trans hpair

end Sys2Proof.Machine
end

section
/-!
PROOFS of chapter 9: the load engine, and fronds that a Lysrov port brings.
-/

namespace Sys2Proof.Machine

/-! ### The load engine (R300) -/

/-- VALID and BUSY of a bank of a table. -/
def validFld (table k : Nat) : Fld := if table = 0x2000 then F.SCN_MAP_BANKb_STATUS_VALID k else F.COR_COEF_BANKb_STATUS_VALID k
def busyFld (table k : Nat) : Fld := if table = 0x2000 then F.SCN_MAP_BANKb_STATUS_BUSY k else F.COR_COEF_BANKb_STATUS_BUSY k

/-- A bit of SCN or COR that no part of COR's status or of its source shares. -/
def bankBit (f : Fld) : Bool :=
  f.ok && f.hi == f.lo && (keyAddr f.addr / 0x10000 == 0x20 || keyAddr f.addr / 0x10000 == 0x21) && F.COR_STATUS_LOADING.apart f
    && F.COR_LOAD_STATUS_STATE.apart f && F.COR_LOAD_STATUS_BANK.apart f && F.COR_LOAD_STATUS_CODE.apart f
    && f.apart F.COR_STATUS_LOADING && f.apart F.COR_LOAD_STATUS_STATE && f.apart F.COR_LOAD_STATUS_BANK

theorem bankBits : ∀ k < 2, (bankBit (F.SCN_MAP_BANKb_STATUS_VALID k) && bankBit (F.COR_COEF_BANKb_STATUS_VALID k)
    && bankBit (F.SCN_MAP_BANKb_STATUS_BUSY k) && bankBit (F.COR_COEF_BANKb_STATUS_BUSY k)) = true := by decide

theorem bankBit_valid (table : Nat) {k : Nat} (h : k < 2) : bankBit (validFld table k) = true := by
  have h4 := bankBits k h
  simp only [Bool.and_eq_true] at h4
  obtain ⟨⟨⟨hmap, hcoef⟩, -⟩, -⟩ := h4
  rw [validFld]
  split
  · exact hmap
  · exact hcoef

theorem bankBit_busy (table : Nat) {k : Nat} (h : k < 2) : bankBit (busyFld table k) = true := by
  have h4 := bankBits k h
  simp only [Bool.and_eq_true] at h4
  obtain ⟨⟨-, hmap⟩, hcoef⟩ := h4
  rw [busyFld]
  split
  · exact hmap
  · exact hcoef

theorem valid_apart_busy : ∀ k < 2, ((F.SCN_MAP_BANKb_STATUS_VALID k).apart (F.SCN_MAP_BANKb_STATUS_BUSY k)
    && (F.SCN_MAP_BANKb_STATUS_VALID k).apart (F.COR_COEF_BANKb_STATUS_BUSY k)
    && (F.COR_COEF_BANKb_STATUS_VALID k).apart (F.SCN_MAP_BANKb_STATUS_BUSY k)
    && (F.COR_COEF_BANKb_STATUS_VALID k).apart (F.COR_COEF_BANKb_STATUS_BUSY k)) = true := by decide

/-- What is shown while a table loads lies beside the bits of both tables' banks. -/
theorem valids_apart_busyFld (table : Nat) {k : Nat} (h : k < 2) :
    (F.SCN_MAP_BANKb_STATUS_VALID k).apart (busyFld table k) = true ∧ (F.COR_COEF_BANKb_STATUS_VALID k).apart (busyFld table k) = true := by
  have h4 := valid_apart_busy k h
  simp only [Bool.and_eq_true] at h4
  obtain ⟨⟨⟨hmm, hmc⟩, hcm⟩, hcc⟩ := h4
  rw [busyFld]
  split
  · exact ⟨hmm, hcm⟩
  · exact ⟨hmc, hcc⟩

theorem busy_apart_valid : ∀ k < 2, ((F.SCN_MAP_BANKb_STATUS_BUSY k).apart (F.SCN_MAP_BANKb_STATUS_VALID k)
    && (F.COR_COEF_BANKb_STATUS_BUSY k).apart (F.COR_COEF_BANKb_STATUS_VALID k)) = true := by decide

theorem busyFld_apart (table : Nat) {k : Nat} (h : k < 2) : (busyFld table k).apart (validFld table k) = true := by
  have h2 := busy_apart_valid k h
  simp only [Bool.and_eq_true] at h2
  rw [busyFld, validFld]
  split
  · exact h2.1
  · exact h2.2

/-- The load engine's own record: the table under way. -/
def Block.loads (b : Block) (l : Option Nat) : Block := { b with scn.load := l }

theorem Block.regs_loads (b : Block) (l : Option Nat) : (b.loads l).regs = b.regs := rfl
@[simp] theorem Block.get_loads (b : Block) (l : Option Nat) (f : Fld) : (b.loads l).get f = b.get f := Block.get_congr (b.regs_loads l) f
@[simp] theorem Block.bit_loads (b : Block) (l : Option Nat) (f : Fld) : (b.loads l).bit f = b.bit f := by rw [Block.bit, Block.get_loads, Block.bit]
@[simp] theorem Block.scn_loads (b : Block) (l : Option Nat) : (b.loads l).scn.load = l := rfl
@[simp] theorem sameOutside_loads (m : List Nat) (b t : Block) (l : Option Nat) : SameOutside m b (t.loads l) ↔ SameOutside m b t :=
  sameOutside_congr (t.regs_loads l)
@[simp] theorem sameMem_loads (b t : Block) (l : Option Nat) : SameMem b (t.loads l) ↔ SameMem b t := sameMem_congr rfl rfl

/-- The registers of a load that begins in a bank whose bits are `busy` and `valid`. -/
def Block.loadBegun (b : Block) (busy valid : Fld) (table bank : Nat) : Block :=
  (((((b.set busy 1).set valid 0).loads (some table)).set F.COR_STATUS_LOADING 1).set F.COR_LOAD_STATUS_STATE 1).set F.COR_LOAD_STATUS_BANK bank

theorem Block.loadBegun_spec (b : Block) {busy valid : Fld} {table bank : Nat} (hb : bankBit busy = true) (hv : bankBit valid = true)
    (ha : busy.apart valid = true) (hk : bank < 2) :
    let t := b.loadBegun busy valid table bank
    t.scn.load = some table ∧ t.get F.COR_LOAD_STATUS_STATE = 1 ∧ t.get F.COR_LOAD_STATUS_BANK = bank ∧ t.get F.COR_STATUS_LOADING = 1
      ∧ t.bit valid = false ∧ t.bit busy = true ∧ SameOutside [0x20, 0x21] b t ∧ SameMem b t := by
  simp only [bankBit, Bool.and_eq_true, Bool.or_eq_true, beq_iff_eq] at hb hv
  obtain ⟨⟨⟨⟨⟨⟨⟨⟨⟨bok, bone⟩, bwin⟩, -⟩, -⟩, -⟩, -⟩, bl⟩, bs⟩, bk⟩ := hb
  obtain ⟨⟨⟨⟨⟨⟨⟨⟨⟨vok, -⟩, vwin⟩, -⟩, -⟩, -⟩, -⟩, vl⟩, vs⟩, vk⟩ := hv
  have hbm : keyAddr busy.addr / 0x10000 ∈ [0x20, 0x21] := by simpa using bwin
  have hvm : keyAddr valid.addr / 0x10000 ∈ [0x20, 0x21] := by simpa using vwin
  have hfit : bank % 2 ^ F.COR_LOAD_STATUS_BANK.width = bank := Nat.mod_eq_of_lt hk
  unfold Block.loadBegun
  refine ⟨rfl, ?_, ?_, ?_, ?_, ?_, ?_, ?_⟩
  · rw [Block.get_set_apart _ _ rfl rfl, Block.get_set_self _ _ rfl]
    rfl
  · rw [Block.get_set_self _ _ rfl, hfit]
  · rw [Block.get_set_apart _ _ rfl rfl, Block.get_set_apart _ _ rfl rfl, Block.get_set_self _ _ rfl]
    rfl
  · rw [Block.bit_set_apart _ _ rfl vk, Block.bit_set_apart _ _ rfl vs, Block.bit_set_apart _ _ rfl vl, Block.bit_loads,
      Block.bit_set_zero_self _ vok]
  · rw [Block.bit_set_apart _ _ rfl bk, Block.bit_set_apart _ _ rfl bs, Block.bit_set_apart _ _ rfl bl, Block.bit_loads,
      Block.bit_set_apart _ _ vok ha, Block.bit_set_one_self _ bok bone]
  · rw [sameOutside_set _ (by decide), sameOutside_set _ (by decide), sameOutside_set _ (by decide), sameOutside_loads,
      sameOutside_set _ hvm, sameOutside_set _ hbm]
    exact .refl _ b
  · rw [sameMem_set, sameMem_set, sameMem_set, sameMem_loads, sameMem_set, sameMem_set]
    exact .refl b

theorem corLoadCmd_start {b : Block} {v table : Nat} (hon : b.scnOn = true) (hs : F.COR_LOAD_CMD_START.of v = 1)
    (ha : F.COR_LOAD_CMD_ABORT.of v = 0) (ht : table = F.COR_LOAD_CMD_TABLE.of v) (h2 : table = 0x2000 ∨ table = 0x2100) :
    corLoadCmd v b = corLoadStart table b := by
  rw [corLoadCmd, ← ht, ha, hon, hs]
  rw [if_neg (by decide), if_neg (by decide), if_pos ⟨rfl, h2⟩]

theorem corLoadStart_begins {b : Block} {table bank : Nat} (hbank : bank = (if (b.selectedBanks table).contains 0 then 1 else 0))
    (hfree : (b.selectedBanks table).contains bank = false) (hl : b.scn.load = none) (hpr : b.get F.CFG_PR_STATUS_STATE = 0)
    (hbase : b.loadSpan.base % 64 = 0) (hin : b.inDram b.loadSpan = true) :
    corLoadStart table b = b.loadBegun (busyFld table bank) (validFld table bank) table bank := by
  have hopen : ¬((b.selectedBanks table).contains bank = true ∨ b.scn.load.isSome = true ∨ b.get F.CFG_PR_STATUS_STATE = 1
      ∨ b.get F.CFG_PR_STATUS_STATE = 2 ∨ b.get F.CFG_PR_STATUS_STATE = 3 ∨ b.loadSpan.base % 64 ≠ 0 ∨ (!b.inDram b.loadSpan) = true) := by
    rw [hfree, hl, hpr, hin]
    simp [hbase]
  rw [corLoadStart, ← hbank]
  dsimp only
  rw [if_neg hopen]
  rfl

theorem corLoadStart_refused {b : Block} (table : Nat)
    (h : b.loadSpan.base % 64 ≠ 0 ∨ b.inDram b.loadSpan = false ∨ b.scn.load.isSome = true ∨ b.get F.CFG_PR_STATUS_STATE = 1) :
    corLoadStart table b = b.loadRefused := by
  rw [corLoadStart]
  refine if_pos ?_
  rcases h with h | h | h | h <;> simp [h]

theorem Block.loadRefused_spec (b : Block) :
    let t := b.loadRefused
    t.scn = b.scn ∧ t.get F.COR_LOAD_STATUS_CODE = 0x2102 ∧ t.bit F.COR_ERR_LOAD_BUSY = true
      ∧ t.get (F.COR_CNT_Ei 3) = min (b.get (F.COR_CNT_Ei 3) + 1) (2 ^ 32 - 1)
      ∧ t.get F.COR_LOAD_STATUS_STATE = b.get F.COR_LOAD_STATUS_STATE ∧ SameOutside [0x21, 0x30] b t ∧ SameMem b t := by
  unfold Block.loadRefused
  rw [Block.raise_eq, Block.countSat_eq]
  have hcount : (b.set F.COR_LOAD_STATUS_CODE 0x2102).get (F.COR_CNT_Ei 3) = b.get (F.COR_CNT_Ei 3) := Block.get_set_apart b _ rfl rfl
  rw [hcount]
  have hcap : min (b.get (F.COR_CNT_Ei 3) + 1) (2 ^ (F.COR_CNT_Ei 3).width - 1) % 2 ^ (F.COR_CNT_Ei 3).width
      = min (b.get (F.COR_CNT_Ei 3) + 1) (2 ^ 32 - 1) :=
    Nat.mod_eq_of_lt (lt_of_le_of_lt (Nat.min_le_right _ _) (by decide))
  generalize min (b.get (F.COR_CNT_Ei 3) + 1) (2 ^ (F.COR_CNT_Ei 3).width - 1) = n at *
  refine ⟨?_, ?_, ?_, ?_, ?_, ?_, ?_⟩
  · rw [Block.raiseAt_scn, Block.set_scn, Block.set_scn]
  · rw [Block.get_raiseAt_apart _ _ rfl rfl rfl rfl (by decide), Block.get_set_apart _ _ rfl rfl, Block.get_set_self _ _ rfl]
    rfl
  · exact Block.bit_raiseAt_self (e := E.COR_LOAD_BUSY) _ _ rfl rfl rfl rfl (by decide)
  · rw [Block.get_raiseAt_apart _ _ rfl rfl rfl rfl (by decide), Block.get_set_self _ _ rfl, hcap]
  · rw [Block.get_raiseAt_apart _ _ rfl rfl rfl rfl (by decide), Block.get_set_apart _ _ rfl rfl, Block.get_set_apart _ _ rfl rfl]
  · rw [sameOutside_raiseAt _ (by decide) (by decide) (by decide), sameOutside_set _ (by decide), sameOutside_set _ (by decide)]
    exact .refl _ b
  · rw [sameMem_raiseAt, sameMem_set, sameMem_set]
    exact .refl b

/-- The end of a load whose bank's bit is `busy`. -/
def Block.loadEnded (b : Block) (busy : Fld) (st : Nat) : Block :=
  (((b.loads none).set busy 0).set F.COR_STATUS_LOADING 0).set F.COR_LOAD_STATUS_STATE st

theorem Block.loadEnd_eq (b : Block) (table st : Nat) : b.loadEnd table st = b.loadEnded (busyFld table (b.get F.COR_LOAD_STATUS_BANK)) st := rfl

theorem Block.loadEnded_spec (b : Block) {busy : Fld} {st : Nat} (hb : bankBit busy = true) (hst : st < 4) :
    let t := b.loadEnded busy st
    t = { b with regs := t.regs, scn.load := none } ∧ t.get F.COR_LOAD_STATUS_STATE = st ∧ t.get F.COR_STATUS_LOADING = 0
      ∧ (∀ g : Fld, g.apart busy = true → g.apart F.COR_STATUS_LOADING = true → g.apart F.COR_LOAD_STATUS_STATE = true → t.get g = b.get g)
      ∧ SameOutside [0x20, 0x21] b t := by
  simp only [bankBit, Bool.and_eq_true, Bool.or_eq_true, beq_iff_eq] at hb
  obtain ⟨⟨⟨⟨⟨⟨⟨⟨⟨bok, -⟩, bwin⟩, -⟩, -⟩, -⟩, -⟩, -⟩, -⟩, -⟩ := hb
  have hbm : keyAddr busy.addr / 0x10000 ∈ [0x20, 0x21] := by simpa using bwin
  have hfit : st % 2 ^ F.COR_LOAD_STATUS_STATE.width = st := Nat.mod_eq_of_lt hst
  unfold Block.loadEnded
  refine ⟨rfl, ?_, ?_, fun g h1 h2 h3 => ?_, ?_⟩
  · rw [Block.get_set_self _ _ rfl, hfit]
  · rw [Block.get_set_apart _ _ rfl rfl, Block.get_set_self _ _ rfl, Nat.zero_mod]
  · rw [Block.get_set_apart _ _ rfl h3, Block.get_set_apart _ _ rfl h2, Block.get_set_apart _ _ bok h1, Block.get_loads]
  · rw [sameOutside_set _ (by decide), sameOutside_set _ (by decide), sameOutside_set _ hbm, sameOutside_loads]
    exact .refl _ b

theorem bank_lt (b : Block) : b.get F.COR_LOAD_STATUS_BANK < 2 := Fld.of_lt _ _

theorem corLoadCmd_abort {b : Block} {v table : Nat} (hon : b.scnOn = true) (ha : F.COR_LOAD_CMD_ABORT.of v = 1) (hl : b.scn.load = some table) :
    corLoadCmd v b = b.loadEnd table 0 := by
  rw [corLoadCmd, hon, ha]
  rw [if_neg (by decide), if_pos rfl, corLoadAbort, hl]

/-- What a load reads into its bank. -/
def Block.mapCopied (b : Block) (k : Nat) : Block := b.writeQdr (mapBase k) (b.dramBytes b.loadSpan.base (min b.loadSpan.len 0x200000))

/-- The bank's check shown, and the end of the copy. -/
def Block.mapChecked (b : Block) (k : Nat) (ok : Bool) : Block :=
  ((((b.set (F.SCN_MAP_BANKb_STATUS_W k) (b.qdrNat (mapBase k) 2)).set (F.SCN_MAP_BANKb_STATUS_H k) (b.qdrNat (mapBase k + 2) 2)).set
    (F.SCN_MAP_BANKb_STATUS_VALID k) (if ok then 1 else 0)).set F.COR_IRQ_STATUS_LOAD_DONE 1)

theorem Block.qdrBytes_congr {b t : Block} (h : t.qdr = b.qdr) (a n : Nat) : t.qdrBytes a n = b.qdrBytes a n := by
  simp only [Block.qdrBytes, Block.qdrByte, h]

theorem Block.qdrNat_congr {b t : Block} (h : t.qdr = b.qdr) (a n : Nat) : t.qdrNat a n = b.qdrNat a n := by
  rw [Block.qdrNat, Block.qdrBytes_congr h, Block.qdrNat]

theorem Block.mapOk_congr {b t : Block} (h : t.qdr = b.qdr) (k : Nat) : t.mapOk k = b.mapOk k := by
  have hn := Block.qdrNat_congr h
  have hh (a c n : Nat) : t.headerOk a c n = b.headerOk a c n := by
    rw [Block.headerOk, hn, hn, hn, hn, hn, Block.qdrBytes_congr h, Block.headerOk]
  rw [Block.mapOk, Block.mapOk]
  dsimp only
  rw [hn (mapBase k) 2, hn (mapBase k + 2) 2, hh]
  simp only [hn]

theorem Block.writeQdr_congr : ∀ (bs : List Byte) {b t : Block} (_ : t.qdr = b.qdr) (a : Nat), (t.writeQdr a bs).qdr = (b.writeQdr a bs).qdr
  | [], _, _, h, _ => h
  | v :: r, b, t, h, a => by
    rw [Block.writeQdr, Block.writeQdr]
    refine Block.writeQdr_congr r ?_ _
    simp only [Block.setQdr, h]

theorem corLoadDone_eq {b : Block} (poisoned : Bool) (hl : b.scn.load = some 0x2000) :
    let k := b.get F.COR_LOAD_STATUS_BANK
    let c := (b.dramUse 4 b.loadSpan.base b.loadSpan.len).writeQdr (mapBase k) (b.dramBytes b.loadSpan.base (min b.loadSpan.len 0x200000))
    corLoadDone poisoned b = if c.mapOk k && !poisoned then (c.mapChecked k (c.mapOk k)).loadEnd 0x2000 2
      else ((((c.mapChecked k (c.mapOk k)).loadEnd 0x2000 3).set (F.SCN_MAP_BANKb_STATUS_VALID k) 0).set F.COR_LOAD_STATUS_CODE
        (if poisoned then 0x2803 else 0x2010)).raiseAt E.COR_LOAD_FAIL noDetail := by
  rw [corLoadDone, hl]
  rfl

/-- Registers alone change. -/
def RegsOnly (b t : Block) : Prop := t = { b with regs := t.regs }

theorem regsOnly_set (b : Block) (f : Fld) (v : Nat) : RegsOnly b (b.set f v) := rfl

section
variable {b c t : Block}
theorem RegsOnly.trans (h : RegsOnly b c) (k : RegsOnly c t) : RegsOnly b t := by
  rw [RegsOnly] at *
  rw [k, h]
theorem RegsOnly.dram (h : RegsOnly b t) : t.dram = b.dram := by rw [h]
theorem RegsOnly.qdr (h : RegsOnly b t) : t.qdr = b.qdr := by rw [h]
theorem RegsOnly.scn (h : RegsOnly b t) : t.scn = b.scn := by rw [h]
theorem RegsOnly.clk (h : RegsOnly b t) : t.clk = b.clk := by rw [h]
theorem RegsOnly.sameMem (h : RegsOnly b t) : SameMem b t := sameMem_of_eq h.dram h.qdr
end

theorem Block.mapChecked_spec (c : Block) {k : Nat} (ok : Bool) (hk : k < 2) :
    let t := c.mapChecked k ok
    RegsOnly c t ∧ t.bit (F.SCN_MAP_BANKb_STATUS_VALID k) = ok
      ∧ t.get (F.SCN_MAP_BANKb_STATUS_W k) = c.qdrNat (mapBase k) 2 % 2 ^ (F.SCN_MAP_BANKb_STATUS_W k).width
      ∧ t.bit F.COR_IRQ_STATUS_LOAD_DONE = true ∧ t.get F.COR_LOAD_STATUS_BANK = c.get F.COR_LOAD_STATUS_BANK := by
  have hirq : (F.SCN_MAP_BANKb_STATUS_VALID k).addr ≠ F.COR_IRQ_STATUS_LOAD_DONE.addr ∧ (F.SCN_MAP_BANKb_STATUS_W k).addr ≠ F.COR_IRQ_STATUS_LOAD_DONE.addr
      ∧ F.COR_LOAD_STATUS_BANK.addr ≠ (F.SCN_MAP_BANKb_STATUS_VALID k).addr := by
    simp only [F.SCN_MAP_BANKb_STATUS_VALID, F.SCN_MAP_BANKb_STATUS_W, F.COR_IRQ_STATUS_LOAD_DONE, F.COR_LOAD_STATUS_BANK,
      R.SCN_MAP_BANKb_STATUS, R.COR_IRQ_STATUS, R.COR_LOAD_STATUS]
    omega
  obtain ⟨hv, hw, hb⟩ := hirq
  unfold Block.mapChecked
  generalize c.qdrNat (mapBase k) 2 = w
  generalize c.qdrNat (mapBase k + 2) 2 = h
  refine ⟨(((regsOnly_set c _ w).trans (regsOnly_set _ _ h)).trans (regsOnly_set _ _ _)).trans (regsOnly_set _ _ 1), ?_, ?_,
    Block.bit_set_one_self _ rfl rfl, ?_⟩
  · rw [Block.bit_set_apart _ _ rfl (Fld.apart_of_addr hv)]
    cases ok
    · exact Block.bit_set_zero_self _ rfl
    · exact Block.bit_set_one_self _ rfl rfl
  · rw [Block.get_set_apart _ _ rfl (Fld.apart_of_addr hw), Block.get_set_apart _ _ rfl rfl, Block.get_set_apart _ _ rfl rfl,
      Block.get_set_self _ _ rfl]
  · rw [Block.get_set_apart _ _ rfl rfl, Block.get_set_apart _ _ rfl (Fld.apart_of_addr hb),
      Block.get_set_apart _ _ rfl (Fld.apart_of_addr (f := F.SCN_MAP_BANKb_STATUS_H k) hb),
      Block.get_set_apart _ _ rfl (Fld.apart_of_addr (f := F.SCN_MAP_BANKb_STATUS_W k) hb)]

theorem mapFlds_apart : ∀ k < 2, ((F.SCN_MAP_BANKb_STATUS_W k).apart (F.SCN_MAP_BANKb_STATUS_BUSY k)
    && (F.SCN_MAP_BANKb_STATUS_W k).apart F.COR_STATUS_LOADING && (F.SCN_MAP_BANKb_STATUS_W k).apart F.COR_LOAD_STATUS_STATE
    && (F.SCN_MAP_BANKb_STATUS_VALID k).apart F.COR_STATUS_LOADING && (F.SCN_MAP_BANKb_STATUS_VALID k).apart F.COR_LOAD_STATUS_STATE
    && F.COR_IRQ_STATUS_LOAD_DONE.apart (F.SCN_MAP_BANKb_STATUS_BUSY k) && F.COR_LOAD_STATUS_STATE.apart (F.SCN_MAP_BANKb_STATUS_VALID k)
    && F.COR_IRQ_STATUS_LOAD_DONE.apart (F.SCN_MAP_BANKb_STATUS_VALID k) && (F.SCN_MAP_BANKb_STATUS_VALID k).apart F.COR_LOAD_STATUS_CODE
    && (F.SCN_MAP_BANKb_STATUS_VALID k).apart F.COR_ERR_LOAD_FAIL && (F.SCN_MAP_BANKb_STATUS_VALID k).apart F.COR_IRQ_STATUS_ERR
    && (F.SCN_MAP_BANKb_STATUS_VALID k).addr / 0x10000 != 0x30) = true := by decide

/-- A map that was read and whose check passed. -/
theorem Block.mapLoaded_spec (c : Block) {k : Nat} (ok : Bool) (hk : k = c.get F.COR_LOAD_STATUS_BANK) :
    let t := (c.mapChecked k ok).loadEnd 0x2000 2
    t.scn.load = none ∧ t.get F.COR_LOAD_STATUS_STATE = 2 ∧ t.bit (F.SCN_MAP_BANKb_STATUS_VALID k) = ok
      ∧ t.get (F.SCN_MAP_BANKb_STATUS_W k) = c.qdrNat (mapBase k) 2 % 2 ^ (F.SCN_MAP_BANKb_STATUS_W k).width
      ∧ t.bit F.COR_IRQ_STATUS_LOAD_DONE = true ∧ t.qdr = c.qdr ∧ t.dram = c.dram := by
  have hk2 : k < 2 := hk ▸ bank_lt c
  obtain ⟨he, hvalid, hw, hirq, hbank⟩ := c.mapChecked_spec ok hk2
  have hap := mapFlds_apart k hk2
  simp only [Bool.and_eq_true] at hap
  obtain ⟨⟨⟨⟨⟨⟨⟨⟨⟨⟨⟨wb, wl⟩, ws⟩, vl⟩, vs⟩, ib⟩, -⟩, -⟩, -⟩, -⟩, -⟩, -⟩ := hap
  rw [Block.loadEnd_eq, hbank, ← hk]
  have hqdr : (c.mapChecked k ok).qdr = c.qdr ∧ (c.mapChecked k ok).dram = c.dram := ⟨he.qdr, he.dram⟩
  generalize c.mapChecked k ok = d at *
  obtain ⟨ke, kst, -, kget, -⟩ := d.loadEnded_spec (busy := busyFld 0x2000 k) (st := 2) (bankBit_busy _ hk2) (by decide)
  have hvb : (F.SCN_MAP_BANKb_STATUS_VALID k).apart (busyFld 0x2000 k) = true := (valids_apart_busyFld _ hk2).1
  have hwb : (F.SCN_MAP_BANKb_STATUS_W k).apart (busyFld 0x2000 k) = true := by rw [busyFld, if_pos rfl]; exact wb
  have hib : F.COR_IRQ_STATUS_LOAD_DONE.apart (busyFld 0x2000 k) = true := by rw [busyFld, if_pos rfl]; exact ib
  refine ⟨by rw [ke], kst, ?_, ?_, ?_, by rw [ke]; exact hqdr.1, by rw [ke]; exact hqdr.2⟩
  · rw [Block.bit, kget _ hvb vl vs, ← Block.bit, hvalid]
  · rw [kget _ hwb wl ws, hw]
  · rw [Block.bit, kget _ hib (by decide) (by decide), ← Block.bit, hirq]

/-- A map whose check failed, or that was read poisoned. -/
theorem Block.mapFailed_spec (c : Block) {k code : Nat} (ok : Bool) (hk : k = c.get F.COR_LOAD_STATUS_BANK) (hcode : code < 2 ^ 16) :
    let t := ((((c.mapChecked k ok).loadEnd 0x2000 3).set (F.SCN_MAP_BANKb_STATUS_VALID k) 0).set F.COR_LOAD_STATUS_CODE code).raiseAt
      E.COR_LOAD_FAIL noDetail
    t.scn.load = none ∧ t.get F.COR_LOAD_STATUS_STATE = 3 ∧ t.bit (F.SCN_MAP_BANKb_STATUS_VALID k) = false
      ∧ t.get F.COR_LOAD_STATUS_CODE = code ∧ t.bit F.COR_ERR_LOAD_FAIL = true ∧ t.bit F.COR_IRQ_STATUS_LOAD_DONE = true
      ∧ t.qdr = c.qdr ∧ t.dram = c.dram := by
  have hk2 : k < 2 := hk ▸ bank_lt c
  obtain ⟨he, -, -, hirq, hbank⟩ := c.mapChecked_spec ok hk2
  have hap := mapFlds_apart k hk2
  simp only [Bool.and_eq_true] at hap
  obtain ⟨⟨⟨⟨⟨⟨⟨⟨⟨⟨⟨-, -⟩, -⟩, -⟩, -⟩, ib⟩, sv⟩, iv⟩, vc⟩, ve⟩, vi⟩, v30⟩ := hap
  rw [Block.loadEnd_eq, hbank, ← hk]
  have hqdr : (c.mapChecked k ok).qdr = c.qdr ∧ (c.mapChecked k ok).dram = c.dram := ⟨he.qdr, he.dram⟩
  generalize c.mapChecked k ok = d at *
  obtain ⟨ke, kst, -, kget, -⟩ := d.loadEnded_spec (busy := busyFld 0x2000 k) (st := 3) (bankBit_busy _ hk2) (by decide)
  have hib : F.COR_IRQ_STATUS_LOAD_DONE.apart (busyFld 0x2000 k) = true := by rw [busyFld, if_pos rfl]; exact ib
  have kirq : (d.loadEnded (busyFld 0x2000 k) 3).bit F.COR_IRQ_STATUS_LOAD_DONE = true := by
    rw [Block.bit, kget _ hib (by decide) (by decide), ← Block.bit, hirq]
  have kscn : (d.loadEnded (busyFld 0x2000 k) 3).scn.load = none := by rw [ke]
  have kqdr : (d.loadEnded (busyFld 0x2000 k) 3).qdr = c.qdr := by rw [ke]; exact hqdr.1
  have kdram : (d.loadEnded (busyFld 0x2000 k) 3).dram = c.dram := by rw [ke]; exact hqdr.2
  generalize d.loadEnded (busyFld 0x2000 k) 3 = e at *
  refine ⟨?_, ?_, ?_, ?_, ?_, ?_, ?_, ?_⟩
  · rw [Block.raiseAt_scn, Block.set_scn, Block.set_scn, kscn]
  · rw [Block.get_raiseAt_apart _ _ rfl rfl rfl rfl (by decide), Block.get_set_apart _ _ rfl rfl, Block.get_set_apart _ _ rfl sv, kst]
  · rw [Block.bit_raiseAt_apart _ _ rfl rfl ve vi (by simpa using v30), Block.bit_set_apart _ _ rfl vc, Block.bit_set_zero_self _ rfl]
  · rw [Block.get_raiseAt_apart _ _ rfl rfl rfl rfl (by decide), Block.get_set_self _ _ rfl]
    exact Nat.mod_eq_of_lt hcode
  · exact Block.bit_raiseAt_self (e := E.COR_LOAD_FAIL) _ _ rfl rfl rfl rfl (by decide)
  · rw [Block.bit_raiseAt_apart _ _ rfl rfl rfl rfl (by decide), Block.bit_set_apart _ _ rfl rfl, Block.bit_set_apart _ _ rfl iv, kirq]
  · rw [Block.raiseAt_qdr, Block.set_qdr, Block.set_qdr, kqdr]
  · rw [Block.raiseAt_dram, Block.set_dram, Block.set_dram, kdram]

/-- The copy as the engine makes it, and as it would be made without DRAM's bookkeeping. -/
theorem corLoad_copied (b : Block) (k : Nat) :
    let c := (b.dramUse 4 b.loadSpan.base b.loadSpan.len).writeQdr (mapBase k) (b.dramBytes b.loadSpan.base (min b.loadSpan.len 0x200000))
    c.qdr = (b.mapCopied k).qdr ∧ c.dram = b.dram ∧ c.get F.COR_LOAD_STATUS_BANK = b.get F.COR_LOAD_STATUS_BANK
      ∧ c.mapOk k = (b.mapCopied k).mapOk k ∧ c.qdrNat (mapBase k) 2 = (b.mapCopied k).qdrNat (mapBase k) 2 := by
  have hq : ((b.dramUse 4 b.loadSpan.base b.loadSpan.len).writeQdr (mapBase k)
      (b.dramBytes b.loadSpan.base (min b.loadSpan.len 0x200000))).qdr = (b.mapCopied k).qdr :=
    Block.writeQdr_congr _ (b.dramUse_qdr _ _ _) _
  refine ⟨hq, ?_, ?_, Block.mapOk_congr hq k, Block.qdrNat_congr hq _ _⟩
  · rw [Block.writeQdr_only, b.dramUse_dram]
  · rw [Block.writeQdr_only]
    exact b.dramUse_get _ _ _ _

/-! ### Fronds that arrive (R283 to R285, R248) -/

/-- What a Lysrov port counts of a frond for the module: registers of its windows beside those of the chain. -/
def ChainKept (b t : Block) : Prop :=
  t = { b with regs := t.regs, flt := t.flt } ∧ SameOutside [0x1C, 0x1D] b t
    ∧ ∀ g : Fld, 0x1C1000 ≤ g.addr → g.addr < 0x1C2000 → t.get g = b.get g

theorem ChainKept.refl (b : Block) : ChainKept b b := ⟨rfl, .refl _ b, fun _ _ _ => rfl⟩

theorem ChainKept.trans {b c t : Block} (h : ChainKept b c) (k : ChainKept c t) : ChainKept b t :=
  ⟨by rw [k.1, h.1], h.2.1.trans k.2.1, fun g h1 h2 => (k.2.2 g h1 h2).trans (h.2.2 g h1 h2)⟩

theorem chainKept_set (b : Block) {f : Fld} (v : Nat) (hok : f.ok = true) (hw : keyAddr f.addr / 0x10000 ∈ [0x1C, 0x1D])
    (ha : f.addr < 0x1C1000 ∨ 0x1C2000 ≤ f.addr) : ChainKept b (b.set f v) :=
  ⟨rfl, (sameOutside_set v hw).mpr (.refl _ b), fun g h1 h2 => Block.get_set_apart b v hok (Fld.apart_of_addr (by omega))⟩

/-- The traffic and error registers of the two ports lie in their windows, and not among those of the chain. -/
theorem linkTraffic : ∀ p < 2, ∀ i < 4, keyAddr (F.LNKn_CNT_Ti_LO p i).addr / 0x10000 ∈ [0x1C, 0x1D]
    ∧ ((F.LNKn_CNT_Ti_LO p i).addr < 0x1C1000 ∨ 0x1C2000 ≤ (F.LNKn_CNT_Ti_LO p i).addr)
    ∧ keyAddr (F.LNKn_CNT_Ti_HI p i).addr / 0x10000 ∈ [0x1C, 0x1D]
    ∧ ((F.LNKn_CNT_Ti_HI p i).addr < 0x1C1000 ∨ 0x1C2000 ≤ (F.LNKn_CNT_Ti_HI p i).addr) := by decide

theorem linkErrors : ∀ p < 2, keyAddr (F.LNKn_CNT_Ei p 0).addr / 0x10000 ∈ [0x1C, 0x1D]
    ∧ ((F.LNKn_CNT_Ei p 0).addr < 0x1C1000 ∨ 0x1C2000 ≤ (F.LNKn_CNT_Ei p 0).addr)
    ∧ keyAddr (F.LNKn_ERR_CELL_ERR p).addr / 0x10000 ∈ [0x1C, 0x1D]
    ∧ ((F.LNKn_ERR_CELL_ERR p).addr < 0x1C1000 ∨ 0x1C2000 ≤ (F.LNKn_ERR_CELL_ERR p).addr)
    ∧ keyAddr (F.LNKn_IRQ_STATUS_ERR p).addr / 0x10000 ∈ [0x1C, 0x1D]
    ∧ ((F.LNKn_IRQ_STATUS_ERR p).addr < 0x1C1000 ∨ 0x1C2000 ≤ (F.LNKn_IRQ_STATUS_ERR p).addr) := by decide

theorem chainKept_countPair (b : Block) {p i : Nat} (n : Nat) (hp : p < 2) (hi : i < 4) :
    ChainKept b (b.countPair (F.LNKn_CNT_Ti_LO p i) (F.LNKn_CNT_Ti_HI p i) n) := by
  obtain ⟨hl, hla, hh, hha⟩ := linkTraffic p hp i hi
  rw [Block.countPair, Block.setPair_eq]
  exact (chainKept_set b _ rfl hl hla).trans (chainKept_set _ _ rfl hh hha)

theorem chainKept_cellErrors (b : Block) {p : Nat} (n : Nat) (hp : p < 2) : ChainKept b (b.cellErrors p n)
    ∧ (n ≠ 0 → (b.cellErrors p n).bit (F.LNKn_ERR_CELL_ERR p) = true) := by
  obtain ⟨hc, hca, he, hea, hi, hia⟩ := linkErrors p hp
  rw [Block.cellErrors]
  split
  · next h => exact ⟨.refl b, fun hn => absurd h hn⟩
  · have hcount := chainKept_set b (min (b.get (F.LNKn_CNT_Ei p 0) + n) (2 ^ (F.LNKn_CNT_Ei p 0).width - 1)) rfl hc hca
    rw [Block.countSat_eq, Block.raise_eq]
    generalize b.set (F.LNKn_CNT_Ei p 0) _ = c at *
    have hne : (F.LNKn_ERR_CELL_ERR p).addr ≠ (F.LNKn_IRQ_STATUS_ERR p).addr := by
      simp only [F.LNKn_ERR_CELL_ERR, F.LNKn_IRQ_STATUS_ERR, R.LNKn_ERR, R.LNKn_IRQ_STATUS]
      omega
    refine ⟨hcount.trans ⟨c.raiseAt_eq _ _, ?_, fun g h1 h2 => ?_⟩, fun _ => c.bit_raiseAt_unlogged (e := E.LNKn_CELL_ERR p) _ rfl rfl rfl hne⟩
    · exact (sameOutside_raiseAt_unlogged (e := E.LNKn_CELL_ERR p) _ rfl he hi).mpr (.refl _ c)
    · rw [Block.get, Block.get, Block.word_raiseAt_unlogged c (e := E.LNKn_CELL_ERR p) _ rfl]
      · show g.addr ≠ (F.LNKn_ERR_CELL_ERR p).addr
        omega
      · show g.addr ≠ (F.LNKn_IRQ_STATUS_ERR p).addr
        omega

/-- A frond for the module, with its start word, is counted by its port. -/
theorem vArrive_own {b : Block} {p : Nat} {f : Frond} {bad : List Nat} (hp : p < 2) (hc : b.carries p = true)
    (hv : b.bit F.LNK_CHAIN_STATUS_SLOT_VALID = true) (hs : f.slot = b.slotNumber) (h0 : bad.contains 0 = false) :
    ChainKept b (vArrive p (.frond f) bad b)
      ∧ (bad.length ≠ 0 → (vArrive p (.frond f) bad b).bit (F.LNKn_ERR_CELL_ERR p) = true) := by
  have hcells : ChainKept b (b.countCells p 1 (frondCells f.w)) := chainKept_countPair b _ hp (by decide)
  obtain ⟨herr, hbit⟩ := chainKept_cellErrors (b.countCells p 1 (frondCells f.w)) bad.length hp
  have hopen : ¬(2 ≤ p ∨ (!b.carries p) = true) := by
    rw [hc]
    simp
    omega
  rw [vArrive, if_neg hopen]
  dsimp only
  generalize b.countCells p 1 (frondCells f.w) = c at *
  have hcd := hcells.trans herr
  generalize c.cellErrors p bad.length = d at *
  have hdv : d.bit F.LNK_CHAIN_STATUS_SLOT_VALID = true := by
    rw [Block.bit, hcd.2.2 _ (by decide) (by decide), ← Block.bit, hv]
  have hds : (f.slot == d.slotNumber) = true := by
    rw [Block.slotNumber, hcd.2.2 _ (by decide) (by decide), ← Block.slotNumber, hs, beq_self_eq_true]
  rw [h0, if_neg (by decide), hdv, hds, if_pos (by decide)]
  refine ⟨hcd.trans (chainKept_countPair d 1 hp (by decide)), fun hn => ?_⟩
  rw [Block.bit, (d.countPair_spec (lo := F.LNKn_CNT_Ti_LO p 3) (hi := F.LNKn_CNT_Ti_HI p 3) 1 rfl rfl rfl rfl ?_).2.2.1, ← Block.bit, hbit hn]
  all_goals
    simp only [F.LNKn_ERR_CELL_ERR, F.LNKn_CNT_Ti_LO, F.LNKn_CNT_Ti_HI, R.LNKn_ERR, R.LNKn_CNT_Ti_LO, R.LNKn_CNT_Ti_HI]
    omega

/-! ### What SCN sees after the port has counted -/

section
variable {b t : Block}

theorem ChainKept.scnOn (h : ChainKept b t) : t.scnOn = b.scnOn := by
  have hpm : t.pm = b.pm := by rw [h.1]
  rw [Block.scnOn, Block.drives, Block.role, Block.pipes, Block.shutdown, hpm, h.2.1.get (by decide), h.2.1.get (by decide)]
  rfl

theorem ChainKept.scn (h : ChainKept b t) : t.scn = b.scn := by rw [h.1]
theorem ChainKept.sameMem (h : ChainKept b t) : SameMem b t := sameMem_of_eq (by rw [h.1]) (by rw [h.1])
theorem ChainKept.slotNumber (h : ChainKept b t) : t.slotNumber = b.slotNumber := h.2.2 _ (by decide) (by decide)
theorem ChainKept.epoch (h : ChainKept b t) : t.epoch = b.epoch := h.2.2 _ (by decide) (by decide)
theorem ChainKept.slotW (h : ChainKept b t) : t.slotW = b.slotW := h.2.1.get (by decide)
theorem ChainKept.slotH (h : ChainKept b t) : t.slotH = b.slotH := h.2.1.get (by decide)

theorem ChainKept.slotValid (h : ChainKept b t) : t.bit F.LNK_CHAIN_STATUS_SLOT_VALID = b.bit F.LNK_CHAIN_STATUS_SLOT_VALID := by
  rw [Block.bit, h.2.2 _ (by decide) (by decide), Block.bit]

theorem ChainKept.chainId (h : ChainKept b t) : t.chainId = b.chainId := by
  have hcfg : t.cfg = b.cfg := by rw [h.1]
  rw [Block.chainId, hcfg, Block.chainId]

theorem ChainKept.openFrame (h : ChainKept b t) : t.openFrame = b.openFrame := by
  have hfrm : t.frm = b.frm := by rw [h.1]
  rw [Block.openFrame, Block.openFrame, hfrm, h.scn]

theorem ChainKept.maskedOut (h : ChainKept b t) (m : Nat) : t.maskedOut m = b.maskedOut m := by
  have hlnk : t.lnk = b.lnk := by rw [h.1]
  rw [Block.maskedOut, Block.maskedOut, hlnk, h.slotNumber]

theorem ChainKept.bandAt (h : ChainKept b t) (m k : Nat) : t.bandAt m k = b.bandAt m k := by
  rw [Block.bandAt, Block.bandAt, h.slotW]

end

/-- A frond for the module is SCN's. -/
theorem frondArrive_eq {b : Block} {p : Nat} {f : Frond} {bad : List Nat} (hp : p < 2) (hc : b.carries p = true)
    (hv : b.bit F.LNK_CHAIN_STATUS_SLOT_VALID = true) (hs : f.slot = b.slotNumber) (h0 : bad.contains 0 = false) :
    frondArrive p (.frond f) bad b
      = (vArrive p (.frond f) bad b).scnFrond { f.zeroed bad with crcOk := f.crcOk && bad.isEmpty } := by
  have hslot := (vArrive_own hp hc hv hs h0).1.slotNumber
  rw [frondArrive, hc, hv]
  dsimp only
  rw [hslot, hs, h0]
  simp [hp]

/-- A frond whose cells are whole is SCN's as it came. -/
theorem frondArrive_whole {b : Block} {p : Nat} {f : Frond} (hp : p < 2) (hc : b.carries p = true)
    (hv : b.bit F.LNK_CHAIN_STATUS_SLOT_VALID = true) (hs : f.slot = b.slotNumber) :
    frondArrive p (.frond f) [] b = (vArrive p (.frond f) [] b).scnFrond f := by
  rw [frondArrive_eq hp hc hv hs rfl]
  congr 1
  simp [Frond.zeroed]

/-- A frond for the slot of a module that drives, when the frame has its slot. -/
theorem scnFrond_eq {c : Block} {f : Frond} (hon : c.scnOn = true) (hv : c.bit F.LNK_CHAIN_STATUS_SLOT_VALID = true)
    (hs : f.slot = c.slotNumber) (hm : c.maskedOut f.wfn = false) :
    c.scnFrond f = if !f.crcOk then (c.countSat (F.SCN_CNT_Ei 0) 1).raise E.SCN_CRC
      else if f.chainId ≠ c.chainId ∨ f.w ≠ c.slotW ∨ c.slotH / 16 ≤ f.band ∨ !f.zeros then (c.countSat (F.SCN_CNT_Ei 1) 1).raise E.SCN_GEOM
      else if f.epoch < c.epoch then c.stale (c.nodeOfSlot f.sender)
      else if c.epoch < f.epoch then (c.countSat (F.LNK_CNT_Ei 2) 1).raise E.LNK_EPOCH_AHEAD
      else if f.wfn < c.openFrame ∨ f.wfn = c.openFrame ∧ c.scn.early.contains f.band then (c.countSat (F.SCN_CNT_Ei 2) 1).raise E.SCN_LATE
      else if c.openFrame + 1 < f.wfn then (c.countSat (F.SCN_CNT_Ei 3) 1).raise E.SCN_EARLY
      else c.acceptFrond f := by
  rw [Block.scnFrond, hon, hv, hm, hs]
  simp only [Bool.not_true, Bool.or_self, bne_self_eq_false, Bool.false_eq_true, if_false]

theorem scnFrond_masked {c : Block} {f : Frond} (hm : c.maskedOut f.wfn = true) : c.scnFrond f = c := by
  rw [Block.scnFrond, hm]
  simp

/-- A refused frond is counted and its error raised. -/
theorem Block.frondError_spec (c : Block) {i : Nat} {e : Err} (hi : i < 4) (hf : e.fld.addr = R.SCN_ERR) (hok : e.fld.ok = true)
    (hone : e.fld.hi = e.fld.lo) (hirq : e.irq = F.SCN_IRQ_STATUS_ERR) :
    let t := (c.countSat (F.SCN_CNT_Ei i) 1).raise e
    t.get (F.SCN_CNT_Ei i) = min (c.get (F.SCN_CNT_Ei i) + 1) (2 ^ 32 - 1) ∧ t.bit e.fld = true ∧ t.scn = c.scn
      ∧ SameOutside [0x20, 0x30] c t ∧ SameMem c t := by
  have hiok : e.irq.ok = true := by rw [hirq]; rfl
  have hwin : keyAddr (F.SCN_CNT_Ei i).addr / 0x10000 = 0x20 := by
    revert i
    decide
  have hwf : keyAddr e.fld.addr / 0x10000 = 0x20 := by rw [hf]; decide
  have hwi : keyAddr e.irq.addr / 0x10000 = 0x20 := by rw [hirq]; decide
  have hap : e.fld.apart e.irq = true := Fld.apart_of_addr (by rw [hf, hirq]; decide)
  have hcf : (F.SCN_CNT_Ei i).apart e.fld = true := Fld.apart_of_addr (by rw [hf]; simp only [F.SCN_CNT_Ei, R.SCN_CNT_Ei, R.SCN_ERR]; omega)
  have hci : (F.SCN_CNT_Ei i).apart e.irq = true :=
    Fld.apart_of_addr (by rw [hirq]; simp only [F.SCN_CNT_Ei, R.SCN_CNT_Ei, F.SCN_IRQ_STATUS_ERR, R.SCN_IRQ_STATUS]; omega)
  rw [Block.raise_eq, Block.countSat_eq]
  refine ⟨?_, Block.bit_raiseAt_self _ _ hok hone hiok hap (by rw [hf]; decide), ?_, ?_, ?_⟩
  · rw [Block.get_raiseAt_apart _ _ hok hiok hcf hci (by simp only [F.SCN_CNT_Ei, R.SCN_CNT_Ei]; omega), Block.get_set_self _ _ rfl]
    exact Nat.mod_eq_of_lt (lt_of_le_of_lt (Nat.min_le_right _ _) (by show 2 ^ 32 - 1 < 2 ^ 32; decide))
  · rw [Block.raiseAt_scn, Block.set_scn]
  · rw [sameOutside_raiseAt _ (by rw [hwf]; decide) (by rw [hwi]; decide) (by decide), sameOutside_set _ (by rw [hwin]; decide)]
    exact .refl _ c
  · rw [sameMem_raiseAt, sameMem_set]
    exact .refl c

/-! ### A frond that passes (R285) -/

/-- The bytes of a frond's pixels. -/
def rowBytes (f : Frond) : List Byte := (f.pixels.map (fun p => leBytes 6 p.toNat)).flatten

theorem length_rowBytes (f : Frond) : (rowBytes f).length = 6 * f.pixels.length := by
  rw [rowBytes, List.length_flatten, List.map_map]
  have h : (List.length ∘ fun p : BitVec 48 => leBytes 6 p.toNat) = fun _ => 6 := funext fun p => length_leBytes _ _
  rw [h]
  simp [Nat.mul_comm]

/-- SCN's record with a frond's band in. -/
def Block.bandIn (b : Block) (f : Frond) (o : Nat) : Block :=
  { b with scn := { b.scn with
      back := b.scn.back.filter (fun x : BackBand => !(x.wfn == f.wfn && x.band == f.band)) ++ [BackBand.mk f.wfn f.band f.epoch]
      spoiled := if f.wfn = o then b.scn.spoiled.filter (· != f.band) else b.scn.spoiled } }

/-- The counters of an accepted frond, and its scale. -/
def Block.frondTold (b : Block) (again : Bool) (scale : Nat) : Block :=
  ((if again then b.countSat (F.SCN_CNT_Ei 5) 1 else b).countPair (F.SCN_CNT_Ti_LO 0) (F.SCN_CNT_Ti_HI 0) 1).set F.SCN_LAST_SCALE_SCALE scale

theorem Block.frondTold_spec (b : Block) (again : Bool) (scale : Nat) :
    let t := b.frondTold again scale
    RegsOnly b t ∧ t.get F.SCN_LAST_SCALE_SCALE = scale % 2 ^ 16 ∧ SameOutside [0x20] b t := by
  have h : ∀ c : Block, SameOutside [0x20] c ((c.countPair (F.SCN_CNT_Ti_LO 0) (F.SCN_CNT_Ti_HI 0) 1).set F.SCN_LAST_SCALE_SCALE scale) := fun c => by
    rw [Block.countPair, Block.setPair_eq, sameOutside_set _ (by decide), sameOutside_set _ (by decide), sameOutside_set _ (by decide)]
    exact .refl _ c
  refine ⟨?_, Block.get_set_self _ _ rfl, ?_⟩
  · have hpair : ∀ c : Block, RegsOnly c (c.countPair (F.SCN_CNT_Ti_LO 0) (F.SCN_CNT_Ti_HI 0) 1) := fun c => by
      rw [Block.countPair, Block.setPair_eq]
      exact (regsOnly_set c _ _).trans (regsOnly_set _ _ _)
    cases again
    · exact (hpair b).trans (regsOnly_set _ _ _)
    · exact ((regsOnly_set b (F.SCN_CNT_Ei 5) _).trans (hpair _)).trans (regsOnly_set _ _ _)
  · cases again
    · exact h b
    · exact ((sameOutside_set (f := F.SCN_CNT_Ei 5) _ (by decide)).mpr (.refl _ b)).trans (h _)

theorem acceptFrond_eq {b : Block} {f : Frond} (hcap : b.scn.cap = none) (hw : f.wfn = b.openFrame ∨ b.scn.early.contains f.band = true) :
    b.acceptFrond f = (((b.writeQdr (b.bandAt f.wfn f.band).1 (rowBytes f)).bandIn f b.openFrame).frondTold
      (b.scn.back.any (fun x => x.wfn == f.wfn && x.band == f.band && x.epoch == f.epoch)) f.scale) := by
  have hfirst : (if f.wfn = b.openFrame + 1 then b.closeEarly b.openFrame f.band else b) = b := by
    rcases hw with h | h
    · rw [if_neg (by omega)]
    · rw [Block.closeEarly, if_pos h, ite_self]
  have hq : (b.writeQdr (b.bandAt f.wfn f.band).1 (rowBytes f)).scn = b.scn := by rw [Block.writeQdr_only]
  have hnone : ((((b.writeQdr (b.bandAt f.wfn f.band).1 (rowBytes f)).bandIn f b.openFrame).frondTold
      (b.scn.back.any (fun x => x.wfn == f.wfn && x.band == f.band && x.epoch == f.epoch)) f.scale)).scn.cap = none := by
    rw [(Block.frondTold_spec _ _ _).1.scn]
    show (b.writeQdr (b.bandAt f.wfn f.band).1 (rowBytes f)).scn.cap = none
    rw [hq, hcap]
  have hcorrect : ∀ c : Block, c.scn.cap = none → ∀ m k, c.correct m k = c := fun c hc m k => by
    rw [Block.correct, Block.capFor, hc]
    rfl
  rw [Block.acceptFrond]
  dsimp only
  rw [hfirst]
  exact hcorrect _ hnone _ _

theorem acceptFrond_spec {b : Block} {f : Frond} (hcap : b.scn.cap = none) (hw : f.wfn = b.openFrame ∨ b.scn.early.contains f.band = true) :
    let t := b.acceptFrond f
    t.received f.wfn f.band = true ∧ t.qdrBytes (b.bandAt f.wfn f.band).1 (6 * f.pixels.length) = rowBytes f
      ∧ (∀ a, a < (b.bandAt f.wfn f.band).1 ∨ (b.bandAt f.wfn f.band).1 + 6 * f.pixels.length ≤ a → t.qdrByte a = b.qdrByte a)
      ∧ t.get F.SCN_LAST_SCALE_SCALE = f.scale % 2 ^ 16 ∧ t.dram = b.dram ∧ SameOutside [0x20] b t := by
  have honly := Block.writeQdr_only (rowBytes f) b (b.bandAt f.wfn f.band).1
  have hbytes := b.qdrBytes_writeQdr (b.bandAt f.wfn f.band).1 (rowBytes f)
  have hothers := fun a => b.qdrByte_writeQdr (rowBytes f) (b.bandAt f.wfn f.band).1 a
  rw [length_rowBytes f] at hbytes
  rw [acceptFrond_eq hcap hw]
  generalize (b.bandAt f.wfn f.band).1 = a0 at *
  generalize b.scn.back.any (fun x => x.wfn == f.wfn && x.band == f.band && x.epoch == f.epoch) = again
  have hregs : (b.writeQdr a0 (rowBytes f)).regs = b.regs := by rw [honly]
  have hdram : (b.writeQdr a0 (rowBytes f)).dram = b.dram := by rw [honly]
  generalize b.writeQdr a0 (rowBytes f) = c at *
  have hback : (c.bandIn f b.openFrame).received f.wfn f.band = true := by
    simp [Block.received, Block.bandIn]
  have hqdr : (c.bandIn f b.openFrame).qdr = c.qdr := rfl
  have hregs2 : (c.bandIn f b.openFrame).regs = b.regs := hregs
  have hdram2 : (c.bandIn f b.openFrame).dram = b.dram := hdram
  generalize c.bandIn f b.openFrame = d at *
  obtain ⟨ke, kscale, kout⟩ := d.frondTold_spec again f.scale
  have kscn : (d.frondTold again f.scale).scn = d.scn := ke.scn
  have kqdr : (d.frondTold again f.scale).qdr = c.qdr := ke.qdr.trans hqdr
  refine ⟨?_, ?_, fun a ha => ?_, kscale, ke.dram.trans hdram2, ?_⟩
  · rw [Block.received, kscn, ← Block.received, hback]
  · rw [Block.qdrBytes_congr kqdr, hbytes]
  · rw [Block.qdrByte, kqdr, ← Block.qdrByte, hothers, if_neg]
    rw [length_rowBytes f]
    omega
  · exact ((sameOutside_congr hregs2).mpr (.refl _ b)).trans kout

/-! ### O60 -/

/-- The command of a load that begins. -/
theorem tables_start {b : Block} {v : Nat} {table bank : Nat} (hon : b.scnOn = true) (hs : F.COR_LOAD_CMD_START.of v = 1)
    (ha : F.COR_LOAD_CMD_ABORT.of v = 0) (ht : table = F.COR_LOAD_CMD_TABLE.of v) (h2 : table = 0x2000 ∨ table = 0x2100)
    (hbank : bank = (if (b.selectedBanks table).contains 0 then 1 else 0)) (hfree : (b.selectedBanks table).contains bank = false)
    (hl : b.scn.load = none) (hpr : b.get F.CFG_PR_STATUS_STATE = 0) (hbase : b.loadSpan.base % 64 = 0) (hin : b.inDram b.loadSpan = true) :
    let t := (corLoadCmd v b).settle
    t.scn.load = some table ∧ t.get F.COR_LOAD_STATUS_STATE = 1 ∧ t.get F.COR_LOAD_STATUS_BANK = bank ∧ t.get F.COR_STATUS_LOADING = 1
      ∧ t.bit (if table = 0x2000 then F.SCN_MAP_BANKb_STATUS_VALID bank else F.COR_COEF_BANKb_STATUS_VALID bank) = false
      ∧ t.bit (if table = 0x2000 then F.SCN_MAP_BANKb_STATUS_BUSY bank else F.COR_COEF_BANKb_STATUS_BUSY bank) = true
      ∧ SameOutside [0x20, 0x21] b t ∧ SameMem b t := by
  have hk : bank < 2 := by
    rw [hbank]
    split <;> decide
  rw [corLoadCmd_start hon hs ha ht h2, corLoadStart_begins hbank hfree hl hpr hbase hin]
  obtain ⟨kl, kst, kbank, kload, kv, kb, kout, kmem⟩ := b.loadBegun_spec (table := table) (bankBit_busy table hk) (bankBit_valid table hk) (busyFld_apart table hk) hk
  generalize b.loadBegun (busyFld table bank) (validFld table bank) table bank = c at *
  refine ⟨?_, ?_, ?_, ?_, ?_, ?_, ?_, ?_⟩
  · rw [Block.settle_scn, kl]
  · rw [Block.settle_get, kst]
  · rw [Block.settle_get, kbank]
  · rw [Block.settle_get, kload]
  · rw [← validFld, Block.settle_bit, kv]
  · rw [← busyFld, Block.settle_bit, kb]
  · rwa [sameOutside_settle]
  · rwa [sameMem_settle]

/-- ABORT of a load. -/
theorem tables_abort {b : Block} {v table : Nat} (hon : b.scnOn = true) (ha : F.COR_LOAD_CMD_ABORT.of v = 1) (hl : b.scn.load = some table) :
    let t := (corLoadCmd v b).settle
    t.scn.load = none ∧ t.get F.COR_LOAD_STATUS_STATE = 0 ∧ t.get F.COR_STATUS_LOADING = 0
      ∧ t.get (F.SCN_MAP_BANKb_STATUS_VALID (b.get F.COR_LOAD_STATUS_BANK)) = b.get (F.SCN_MAP_BANKb_STATUS_VALID (b.get F.COR_LOAD_STATUS_BANK))
      ∧ t.get (F.COR_COEF_BANKb_STATUS_VALID (b.get F.COR_LOAD_STATUS_BANK)) = b.get (F.COR_COEF_BANKb_STATUS_VALID (b.get F.COR_LOAD_STATUS_BANK))
      ∧ SameOutside [0x20, 0x21] b t ∧ SameMem b t := by
  have hk := bank_lt b
  rw [corLoadCmd_abort hon ha hl, Block.loadEnd_eq]
  generalize b.get F.COR_LOAD_STATUS_BANK = k at *
  obtain ⟨hmap, hcoef⟩ := valids_apart_busyFld table hk
  obtain ⟨ke, kst, kload, kget, kout⟩ := b.loadEnded_spec (busy := busyFld table k) (st := 0) (bankBit_busy _ hk) (by decide)
  have hap := mapFlds_apart k hk
  simp only [Bool.and_eq_true] at hap
  obtain ⟨⟨⟨⟨⟨⟨⟨⟨⟨⟨⟨-, -⟩, -⟩, vl⟩, vs⟩, -⟩, -⟩, -⟩, -⟩, -⟩, -⟩, -⟩ := hap
  have hcl : (F.COR_COEF_BANKb_STATUS_VALID k).apart F.COR_STATUS_LOADING = true ∧ (F.COR_COEF_BANKb_STATUS_VALID k).apart F.COR_LOAD_STATUS_STATE = true := by
    refine ⟨Fld.apart_of_addr ?_, Fld.apart_of_addr ?_⟩ <;>
      simp only [F.COR_COEF_BANKb_STATUS_VALID, F.COR_STATUS_LOADING, F.COR_LOAD_STATUS_STATE, R.COR_COEF_BANKb_STATUS, R.COR_STATUS,
        R.COR_LOAD_STATUS] <;> omega
  have kmem : SameMem b (b.loadEnded (busyFld table k) 0) := sameMem_of_eq (by rw [ke]) (by rw [ke])
  have kscn : (b.loadEnded (busyFld table k) 0).scn.load = none := by rw [ke]
  generalize b.loadEnded (busyFld table k) 0 = c at *
  refine ⟨?_, ?_, ?_, ?_, ?_, ?_, ?_⟩
  · rw [Block.settle_scn, kscn]
  · rw [Block.settle_get, kst]
  · rw [Block.settle_get, kload]
  · rw [Block.settle_get, kget _ hmap vl vs]
  · rw [Block.settle_get, kget _ hcoef hcl.1 hcl.2]
  · rwa [sameOutside_settle]
  · rwa [sameMem_settle]

/-- A good copy of a map. -/
theorem tables_loaded {b c : Block} {k : Nat} (hl : b.scn.load = some 0x2000) (hk : k = b.get F.COR_LOAD_STATUS_BANK)
    (hc : c = b.mapCopied k) (hok : c.mapOk k = true) :
    let t := (corLoadDone false b).settle
    t.scn.load = none ∧ t.get F.COR_LOAD_STATUS_STATE = 2 ∧ t.bit (F.SCN_MAP_BANKb_STATUS_VALID k) = true
      ∧ t.get (F.SCN_MAP_BANKb_STATUS_W k) = c.qdrNat (mapBase k) 2 % 2 ^ (F.SCN_MAP_BANKb_STATUS_W k).width
      ∧ t.bit F.COR_IRQ_STATUS_LOAD_DONE = true ∧ t.qdr = c.qdr ∧ t.dram = b.dram := by
  obtain ⟨hq, hd, hbank, hmap, hnat⟩ := corLoad_copied b k
  rw [corLoadDone_eq false hl, ← hk]
  rw [← hc] at hq hmap hnat
  generalize (b.dramUse 4 b.loadSpan.base b.loadSpan.len).writeQdr (mapBase k) (b.dramBytes b.loadSpan.base (min b.loadSpan.len 0x200000)) = d at *
  rw [hmap, hok, if_pos (by decide)]
  obtain ⟨kl, kst, kv, kw, ki, kq, kd⟩ := d.mapLoaded_spec (k := k) true (by rw [hbank, hk])
  generalize (d.mapChecked k true).loadEnd 0x2000 2 = e at *
  refine ⟨?_, ?_, ?_, ?_, ?_, ?_, ?_⟩
  · rw [Block.settle_scn, kl]
  · rw [Block.settle_get, kst]
  · rw [Block.settle_bit, kv]
  · rw [Block.settle_get, kw, hnat]
  · rw [Block.settle_bit, ki]
  · rw [Block.settle_qdr, kq, hq]
  · rw [Block.settle_dram, kd, hd]

/-- A bad copy of a map. -/
theorem tables_failed {b c : Block} {k : Nat} {poisoned : Bool} (hl : b.scn.load = some 0x2000) (hk : k = b.get F.COR_LOAD_STATUS_BANK)
    (hc : c = b.mapCopied k) (hbad : (c.mapOk k && !poisoned) = false) :
    let t := (corLoadDone poisoned b).settle
    t.scn.load = none ∧ t.get F.COR_LOAD_STATUS_STATE = 3 ∧ t.bit (F.SCN_MAP_BANKb_STATUS_VALID k) = false
      ∧ t.get F.COR_LOAD_STATUS_CODE = (if poisoned then 0x2803 else 0x2010) ∧ t.bit F.COR_ERR_LOAD_FAIL = true
      ∧ t.bit F.COR_IRQ_STATUS_LOAD_DONE = true ∧ t.qdr = c.qdr ∧ t.dram = b.dram := by
  obtain ⟨hq, hd, hbank, hmap, -⟩ := corLoad_copied b k
  rw [corLoadDone_eq poisoned hl, ← hk]
  rw [← hc] at hq hmap
  have hcode : (if poisoned = true then 0x2803 else 0x2010) < 2 ^ 16 := by split <;> decide
  generalize (if poisoned = true then 0x2803 else 0x2010) = code at *
  generalize (b.dramUse 4 b.loadSpan.base b.loadSpan.len).writeQdr (mapBase k) (b.dramBytes b.loadSpan.base (min b.loadSpan.len 0x200000)) = d at *
  rw [hmap, hbad, if_neg (by decide)]
  obtain ⟨kl, kst, kv, kc, kf, ki, kq, kd⟩ := d.mapFailed_spec (k := k) (c.mapOk k) (by rw [hbank, hk]) hcode
  generalize Block.raiseAt _ E.COR_LOAD_FAIL noDetail = e at *
  refine ⟨?_, ?_, ?_, ?_, ?_, ?_, ?_, ?_⟩
  · rw [Block.settle_scn, kl]
  · rw [Block.settle_get, kst]
  · rw [Block.settle_bit, kv]
  · rw [Block.settle_get, kc]
  · rw [Block.settle_bit, kf]
  · rw [Block.settle_bit, ki]
  · rw [Block.settle_qdr, kq, hq]
  · rw [Block.settle_dram, kd, hd]

section
variable {b : Block} {p : Nat} {f : Frond} (hp : p < 2) (hc : b.carries p = true) (hv : b.bit F.LNK_CHAIN_STATUS_SLOT_VALID = true)
  (hs : f.slot = b.slotNumber) (hon : b.scnOn = true)
include hp hc hv hs

/-- A frond of a frame whose header leaves the slot out. -/
theorem frond_ignored (hm : b.maskedOut f.wfn = true) :
    let t := (frondArrive p (.frond f) [] b).settle
    t.scn = b.scn ∧ SameOutside [0x1C, 0x1D] b t ∧ SameMem b t := by
  have hk := (vArrive_own hp hc hv hs (bad := []) rfl).1
  rw [frondArrive_whole hp hc hv hs, scnFrond_masked (by rw [hk.maskedOut, hm])]
  generalize vArrive p (.frond f) [] b = c at *
  refine ⟨?_, ?_, ?_⟩
  · rw [Block.settle_scn, hk.scn]
  · rw [sameOutside_settle]
    exact hk.2.1
  · rw [sameMem_settle]
    exact hk.sameMem

include hon

/-- What SCN does with a frond it does not ignore, from what it finds after its port has counted. -/
theorem frond_checked (hm : b.maskedOut f.wfn = false) : ∃ c : Block, ChainKept b c ∧ frondArrive p (.frond f) [] b
    = if !f.crcOk then (c.countSat (F.SCN_CNT_Ei 0) 1).raise E.SCN_CRC
      else if f.chainId ≠ b.chainId ∨ f.w ≠ b.slotW ∨ b.slotH / 16 ≤ f.band ∨ !f.zeros then (c.countSat (F.SCN_CNT_Ei 1) 1).raise E.SCN_GEOM
      else if f.epoch < b.epoch then c.stale (c.nodeOfSlot f.sender)
      else if b.epoch < f.epoch then (c.countSat (F.LNK_CNT_Ei 2) 1).raise E.LNK_EPOCH_AHEAD
      else if f.wfn < b.openFrame ∨ f.wfn = b.openFrame ∧ b.scn.early.contains f.band then (c.countSat (F.SCN_CNT_Ei 2) 1).raise E.SCN_LATE
      else if b.openFrame + 1 < f.wfn then (c.countSat (F.SCN_CNT_Ei 3) 1).raise E.SCN_EARLY
      else c.acceptFrond f := by
  have hk := (vArrive_own hp hc hv hs (bad := []) rfl).1
  refine ⟨vArrive p (.frond f) [] b, hk, ?_⟩
  rw [frondArrive_whole hp hc hv hs, scnFrond_eq (by rw [hk.scnOn, hon]) (by rw [hk.slotValid, hv]) (by rw [hk.slotNumber, hs])
    (by rw [hk.maskedOut, hm]), hk.chainId, hk.slotW, hk.slotH, hk.epoch, hk.openFrame, hk.scn]

end

/-- A refused frond, counted and told by SCN after its port has counted it. -/
theorem frond_refused {b c : Block} {i : Nat} {e : Err} (hk : ChainKept b c) (hi : i < 4) (hf : e.fld.addr = R.SCN_ERR) (hok : e.fld.ok = true)
    (hone : e.fld.hi = e.fld.lo) (hirq : e.irq = F.SCN_IRQ_STATUS_ERR) :
    let t := ((c.countSat (F.SCN_CNT_Ei i) 1).raise e).settle
    t.get (F.SCN_CNT_Ei i) = min (b.get (F.SCN_CNT_Ei i) + 1) (2 ^ 32 - 1) ∧ t.bit e.fld = true ∧ t.scn = b.scn
      ∧ SameOutside [0x1C, 0x1D, 0x20, 0x30] b t ∧ SameMem b t := by
  have hwin : ∀ i < 4, keyAddr (F.SCN_CNT_Ei i).addr / 0x10000 ∉ [0x1C, 0x1D] := by decide
  obtain ⟨kv, kb, ks, kout, kmem⟩ := c.frondError_spec hi hf hok hone hirq
  generalize (c.countSat (F.SCN_CNT_Ei i) 1).raise e = d at *
  refine ⟨?_, ?_, ?_, ?_, ?_⟩
  · rw [Block.settle_get, kv, hk.2.1.get (hwin i hi)]
  · rw [Block.settle_bit, kb]
  · rw [Block.settle_scn, ks, hk.scn]
  · rw [sameOutside_settle]
    exact (hk.2.1.mono (by decide)).trans (kout.mono (by decide))
  · rw [sameMem_settle]
    exact hk.sameMem.trans kmem

/-- A frond with a cell lost fails its CRC. -/
theorem frond_cellLost {b : Block} {p k : Nat} {f : Frond} (hp : p < 2) (hc : b.carries p = true)
    (hv : b.bit F.LNK_CHAIN_STATUS_SLOT_VALID = true) (hs : f.slot = b.slotNumber) (hon : b.scnOn = true) (hm : b.maskedOut f.wfn = false)
    (hk : 0 < k) :
    let t := (frondArrive p (.frond f) [k] b).settle
    t.get (F.SCN_CNT_Ei 0) = min (b.get (F.SCN_CNT_Ei 0) + 1) (2 ^ 32 - 1) ∧ t.bit F.SCN_ERR_CRC = true
      ∧ t.bit (F.LNKn_ERR_CELL_ERR p) = true ∧ t.scn = b.scn ∧ SameMem b t := by
  have h0 : [k].contains 0 = false := by
    simp
    omega
  obtain ⟨hkept, hcell⟩ := vArrive_own hp hc hv hs h0
  have hz : (f.zeroed [k]).slot = f.slot ∧ (f.zeroed [k]).wfn = f.wfn := ⟨rfl, rfl⟩
  rw [frondArrive_eq hp hc hv hs h0, scnFrond_eq (by rw [hkept.scnOn, hon]) (by rw [hkept.slotValid, hv]) (by rw [hkept.slotNumber]; exact hs)
    (by rw [hkept.maskedOut]; exact hm)]
  have hcell := hcell (by simp)
  generalize vArrive p (.frond f) [k] b = c at *
  have hcrc : (!(f.crcOk && [k].isEmpty)) = true := by simp
  dsimp only
  rw [hcrc, if_pos rfl]
  obtain ⟨kv, kb, ks, -, kmem⟩ := frond_refused hkept (i := 0) (e := E.SCN_CRC) (by decide) rfl rfl rfl rfl
  refine ⟨kv, kb, ?_, ks, kmem⟩
  obtain ⟨-, -, -, kout, -⟩ := c.frondError_spec (i := 0) (e := E.SCN_CRC) (by decide) rfl rfl rfl rfl
  have hwin : ∀ p < 2, keyAddr (F.LNKn_ERR_CELL_ERR p).addr / 0x10000 ∉ [0x20, 0x30] := by decide
  generalize (c.countSat (F.SCN_CNT_Ei 0) 1).raise E.SCN_CRC = d at *
  rw [Block.settle_bit, Block.bit, kout.get (hwin p hp), ← Block.bit, hcell]

/-- Settles O60, each command by the lemma of its outcome; SCN's checks are read off one equation. -/
theorem tablesAndFronds : Obligations.TablesAndFronds := by
  unfold Obligations.TablesAndFronds
  refine ⟨fun b p v table bank hr hg hon hs ha ht h2 hbank => ⟨fun hfree hl hpr hbase hin => ?_, fun h => ?_⟩,
    fun b p v table hr hg hon ha hl => ?_, fun b c k hr hl hk hc => ⟨fun hok => ?_, fun hbad => ?_, ?_⟩,
    fun b p f hr hp hc hv hs hon hm => ?_, fun b p f hr hp hc hv hs hon hm =>
      ⟨fun hcrc hid hw hband hz hep hwfn hcap hlen hearly => ?_, fun hcrc => ?_, fun k hk => ?_, fun hcrc hgeom => ?_,
        fun hcrc hid hw hband hz hep hlate => ?_⟩⟩
  · exact gives_of_writing (f := corLoadCmd v.toNat) hr hg (fun _ => rfl) (tables_start hon hs ha ht h2 hbank hfree hl hpr hbase hin)
  · refine gives_of_writing (f := corLoadCmd v.toNat) hr hg (fun _ => rfl) ?_
    rw [corLoadCmd_start hon hs ha ht h2, corLoadStart_refused table h]
    obtain ⟨kscn, kcode, kerr, kcount, kst, kout, kmem⟩ := b.loadRefused_spec
    generalize b.loadRefused = c at *
    refine ⟨?_, ?_, ?_, ?_, ?_, ?_, ?_⟩
    · rw [Block.settle_scn, kscn]
    · rw [Block.settle_get, kcode]
    · rw [Block.settle_bit, kerr]
    · rw [Block.settle_get, kcount]
    · rw [Block.settle_get, kst]
    · rwa [sameOutside_settle]
    · rwa [sameMem_settle]
  · exact gives_of_writing (f := corLoadCmd v.toNat) hr hg (fun _ => rfl) (tables_abort hon ha hl)
  · exact gives_of_done (t := corLoadDone false b) hr (fun _ => rfl) (tables_loaded hl hk hc hok)
  · obtain ⟨kl, kst, kv, kc, kf, -, kq, kd⟩ := tables_failed (poisoned := false) hl hk hc (by rw [hbad]; rfl)
    exact gives_of_done (t := corLoadDone false b) hr (fun _ => rfl) ⟨kl, kst, kv, kc, kf, kq, kd⟩
  · obtain ⟨kl, kst, kv, kc, kf, ki, -, kd⟩ := tables_failed (poisoned := true) hl hk hc (by simp)
    exact gives_of_done (t := corLoadDone true b) hr (fun _ => rfl) ⟨kl, kst, kv, kc, kf, ki, kd⟩
  · exact gives_of_done (t := frondArrive p (.frond f) [] b) hr (fun _ => rfl) (frond_ignored hp hc hv hs hm)
  · obtain ⟨c, hk, he⟩ := frond_checked hp hc hv hs hon hm
    refine gives_of_done (t := frondArrive p (.frond f) [] b) hr (fun _ => rfl) ?_
    have hgeom : ¬(f.chainId ≠ b.chainId ∨ f.w ≠ b.slotW ∨ b.slotH / 16 ≤ f.band ∨ (!f.zeros) = true) := by
      rw [hid, hw, hz]
      simp
      omega
    have hin : ¬(f.wfn < b.openFrame ∨ f.wfn = b.openFrame ∧ b.scn.early.contains f.band = true) := by
      rintro (h | ⟨h1, h2⟩)
      · omega
      · rcases hwfn with h | ⟨-, h⟩
        · omega
        · rw [h] at h2
          exact absurd h2 (by decide)
    rw [he, hcrc, if_neg (by decide), if_neg hgeom, if_neg (by omega), if_neg (by omega), if_neg hin, if_neg (by omega)]
    obtain ⟨ka, kbytes, kothers, kscale, kdram, kout⟩ := acceptFrond_spec (b := c) (f := f) (by rw [hk.scn, hcap])
      (by rw [hk.openFrame, hk.scn]; exact hearly)
    rw [hk.bandAt] at kbytes kothers
    generalize c.acceptFrond f = d at *
    have hqdr : c.qdr = b.qdr := by rw [hk.1]
    have hdram : c.dram = b.dram := by rw [hk.1]
    refine ⟨?_, ?_, fun a ha => ?_, ?_, ?_, ?_⟩
    · rw [Block.received, Block.settle_scn, ← Block.received, ka]
    · rw [Block.qdrBytes_congr (Block.settle_qdr d), kbytes]
      rfl
    · rw [Block.qdrByte, Block.settle_qdr, ← Block.qdrByte, kothers a ha, Block.qdrByte, hqdr, ← Block.qdrByte]
    · rw [Block.settle_get, kscale]
    · rw [Block.settle_dram, kdram, hdram]
    · rw [sameOutside_settle]
      exact (hk.2.1.mono (by decide)).trans (kout.mono (by decide))
  · obtain ⟨c, hk, he⟩ := frond_checked hp hc hv hs hon hm
    refine gives_of_done (t := frondArrive p (.frond f) [] b) hr (fun _ => rfl) ?_
    rw [he, hcrc, if_pos (by decide)]
    exact frond_refused hk (i := 0) (e := E.SCN_CRC) (by decide) rfl rfl rfl rfl
  · exact gives_of_done (t := frondArrive p (.frond f) [k] b) hr (fun _ => rfl) (frond_cellLost hp hc hv hs hon hm hk)
  · obtain ⟨c, hk, he⟩ := frond_checked hp hc hv hs hon hm
    refine gives_of_done (t := frondArrive p (.frond f) [] b) hr (fun _ => rfl) ?_
    rw [he, hcrc, if_neg (by decide), if_pos (.inr (hgeom.imp id .inl))]
    obtain ⟨kv, kb, ks, -, kmem⟩ := frond_refused hk (i := 1) (e := E.SCN_GEOM) (by decide) rfl rfl rfl rfl
    exact ⟨kv, kb, ks, kmem⟩
  · obtain ⟨c, hk, he⟩ := frond_checked hp hc hv hs hon hm
    refine gives_of_done (t := frondArrive p (.frond f) [] b) hr (fun _ => rfl) ?_
    have hgeom : ¬(f.chainId ≠ b.chainId ∨ f.w ≠ b.slotW ∨ b.slotH / 16 ≤ f.band ∨ (!f.zeros) = true) := by
      rw [hid, hw, hz]
      simp
      omega
    rw [he, hcrc, if_neg (by decide), if_neg hgeom, if_neg (by omega), if_neg (by omega), if_pos (.inl hlate)]
    obtain ⟨kv, kb, ks, -, kmem⟩ := frond_refused hk (i := 2) (e := E.SCN_LATE) (by decide) rfl rfl rfl rfl
    exact ⟨kv, kb, ks, kmem⟩

end Sys2Proof.Machine
end

section
/-!
PROOFS of chapter 5: the Ethernet ports, their registers and their own records.
-/

namespace Sys2Proof.Machine

/-! ### A field written with what it holds -/

theorem Fld.into_of (f : Fld) (w : Nat) {v : Nat} (h : v % 2 ^ f.width = f.of w) : f.into w v = w := by
  have hle : f.of w * 2 ^ f.lo ≤ w :=
    (Nat.mul_le_mul_right _ (Nat.mod_le _ _)).trans (Nat.div_mul_le_self w (2 ^ f.lo))
  rw [Fld.into, h]
  omega

/-- A field written with what it holds leaves every word. -/
theorem Block.word_set_same (b : Block) {f : Fld} {v : Nat} (hok : f.ok = true) (h : v % 2 ^ f.width = b.get f) (k : Nat) :
    (b.set f v).word k = b.word k := by
  by_cases hk : k = f.addr
  · rw [hk]
    refine BitVec.eq_of_toNat_eq ?_
    rw [b.word_set v hok, Fld.into_of f _ h]
  · exact b.word_set_other v hk

theorem sameWords_set_same {l : List Nat} {b t : Block} {f : Fld} {v : Nat} (hok : f.ok = true) (h : v % 2 ^ f.width = t.get f) :
    SameWords l b (t.set f v) ↔ SameWords l b t :=
  forall₂_congr fun k _ => by rw [Block.word_set_same t hok h]

theorem Block.get_set_same (b : Block) {f : Fld} {v : Nat} (hok : f.ok = true) (h : v % 2 ^ f.width = b.get f) (g : Fld) :
    (b.set f v).get g = b.get g := by
  rw [Block.get, Block.word_set_same b hok h, Block.get]

/-! ### Where a port's registers stand -/

section
variable (n i : Nat)
@[simp] theorem ethEn_addr : (F.ETHn_CTRL_EN n).addr = 0x100000 + 0x10000 * n := rfl
@[simp] theorem ethLink_addr : (F.ETHn_STATUS_LINK n).addr = 0x100004 + 0x10000 * n := rfl
@[simp] theorem ethLpiTx_addr : (F.ETHn_STATUS_LPI_TX n).addr = 0x100004 + 0x10000 * n := rfl
@[simp] theorem ethAgreed_addr : (F.ETHn_STATUS_EEE_AGREED n).addr = 0x100004 + 0x10000 * n := rfl
@[simp] theorem ethMode_addr : (F.ETHn_CTRL_MODE n).addr = 0x100000 + 0x10000 * n := rfl
@[simp] theorem ethRespond_addr : (F.ETHn_FC_CTRL_RESPOND n).addr = 0x100020 + 0x10000 * n := rfl
@[simp] theorem ethPauseEn_addr : (F.ETHn_FC_CTRL_PAUSE_EN n).addr = 0x100020 + 0x10000 * n := rfl
@[simp] theorem ethPfcEn_addr : (F.ETHn_FC_CTRL_PFC_EN n).addr = 0x100020 + 0x10000 * n := rfl
@[simp] theorem ethWake_addr : (F.ETHn_EEE_STATUS_TW_TX_NS n).addr = 0x100034 + 0x10000 * n := rfl
@[simp] theorem ethTrafficLo_addr : (F.ETHn_CNT_Ti_LO n i).addr = 0x100800 + 0x10000 * n + 0x8 * i := rfl
@[simp] theorem ethTrafficHi_addr : (F.ETHn_CNT_Ti_HI n i).addr = 0x100804 + 0x10000 * n + 0x8 * i := rfl
@[simp] theorem ethCount_addr : (F.ETHn_CNT_Ei n i).addr = 0x100900 + 0x10000 * n + 0x4 * i := rfl
@[simp] theorem ethIrqErr_addr : (F.ETHn_IRQ_STATUS_ERR n).addr = 0x107FF0 + 0x10000 * n := rfl
@[simp] theorem ethChange_addr : (F.ETHn_IRQ_STATUS_LINK_CHANGE n).addr = 0x107FF0 + 0x10000 * n := rfl
@[simp] theorem ethLinkDown_addr : (F.ETHn_ERR_LINK_DOWN n).addr = 0x100008 + 0x10000 * n := rfl
@[simp] theorem ethOverrun_addr : (F.ETHn_ERR_RX_OVERRUN n).addr = 0x100008 + 0x10000 * n := rfl
@[simp] theorem ethTxDrop_addr : (F.ETHn_ERR_TX_DROP n).addr = 0x100008 + 0x10000 * n := rfl
end

/-- A register of port `n` lies in its window. -/
theorem ethWindow {n k : Nat} (hn : n < 2) (h : k < 0x8000) : keyAddr (0x100000 + k + 0x10000 * n) / 0x10000 = 0x10 + n := by
  rw [keyAddr]
  split_ifs <;> omega

theorem ethCtrl_window {n : Nat} (hn : n < 2) : keyAddr (0x100000 + 0x10000 * n) / 0x10000 = 0x10 + n := ethWindow (k := 0) hn (by decide)

theorem ethStatus_window {n : Nat} (hn : n < 2) : keyAddr (0x100004 + 0x10000 * n) / 0x10000 = 0x10 + n := by
  rw [show 0x100004 + 0x10000 * n = 0x100000 + 4 + 0x10000 * n by omega]
  exact ethWindow hn (by decide)

theorem ethErr_window {n : Nat} (hn : n < 2) : keyAddr (0x100008 + 0x10000 * n) / 0x10000 = 0x10 + n := by
  rw [show 0x100008 + 0x10000 * n = 0x100000 + 8 + 0x10000 * n by omega]
  exact ethWindow hn (by decide)

theorem ethIrq_window {n : Nat} (hn : n < 2) : keyAddr (0x107FF0 + 0x10000 * n) / 0x10000 = 0x10 + n := by
  rw [show 0x107FF0 + 0x10000 * n = 0x100000 + 0x7FF0 + 0x10000 * n by omega]
  exact ethWindow hn (by decide)

theorem ethEee_window {n : Nat} (hn : n < 2) : keyAddr (0x100034 + 0x10000 * n) / 0x10000 = 0x10 + n := by
  rw [show 0x100034 + 0x10000 * n = 0x100000 + 0x34 + 0x10000 * n by omega]
  exact ethWindow hn (by decide)

theorem ethCount_window {n i : Nat} (hn : n < 2) (hi : i < 16) : keyAddr (0x100900 + 0x10000 * n + 0x4 * i) / 0x10000 = 0x10 + n := by
  rw [show 0x100900 + 0x10000 * n + 0x4 * i = 0x100000 + (0x900 + 0x4 * i) + 0x10000 * n by omega]
  exact ethWindow hn (by omega)

theorem ethTraffic_window {n i : Nat} (hn : n < 2) (hi : i < 8) : keyAddr (0x100800 + 0x10000 * n + 0x8 * i) / 0x10000 = 0x10 + n
    ∧ keyAddr (0x100804 + 0x10000 * n + 0x8 * i) / 0x10000 = 0x10 + n := by
  constructor
  · rw [show 0x100800 + 0x10000 * n + 0x8 * i = 0x100000 + (0x800 + 0x8 * i) + 0x10000 * n by omega]
    exact ethWindow hn (by omega)
  · rw [show 0x100804 + 0x10000 * n + 0x8 * i = 0x100000 + (0x804 + 0x8 * i) + 0x10000 * n by omega]
    exact ethWindow hn (by omega)

/-! ### A port's own record -/

theorem Block.ethPort_onEth (b : Block) {n : Nat} (f : EthPort → EthPort) (h : n < b.eth.length) : (b.onEth n f).ethPort n = f (b.ethPort n) := by
  simp [Block.ethPort, Block.onEth, h]

@[simp] theorem Block.length_onEth (b : Block) (n : Nat) (f : EthPort → EthPort) : (b.onEth n f).eth.length = b.eth.length := by
  simp [Block.onEth]

/-- What a change keeps of each port's record it keeps of all. -/
theorem Block.ethPort_onEth_keeps {β : Type} (g : EthPort → β) (b : Block) (n m : Nat) {f : EthPort → EthPort} (h : ∀ q, g (f q) = g q) :
    g ((b.onEth n f).ethPort m) = g (b.ethPort m) := by
  rw [Block.ethPort, Block.ethPort, Block.onEth, List.getD_eq_getElem?_getD, List.getD_eq_getElem?_getD, List.getElem?_modify]
  cases hm : b.eth[m]? with
  | none => rfl
  | some q =>
    by_cases hnm : n = m
    · simp [hnm, h]
    · simp [hnm]

theorem Block.regs_onEth (b : Block) (n : Nat) (f : EthPort → EthPort) : (b.onEth n f).regs = b.regs := rfl
@[simp] theorem Block.get_onEth (b : Block) (n : Nat) (f : EthPort → EthPort) (g : Fld) : (b.onEth n f).get g = b.get g :=
  Block.get_congr (b.regs_onEth n f) g
@[simp] theorem Block.bit_onEth (b : Block) (n : Nat) (f : EthPort → EthPort) (g : Fld) : (b.onEth n f).bit g = b.bit g := by
  rw [Block.bit, Block.get_onEth, Block.bit]

/-! ### Steps of one port -/

/-- Registers of the port's window and the ports' records change. -/
def EthStep (n : Nat) (b t : Block) : Prop :=
  t = { b with regs := t.regs, flt := t.flt, eth := t.eth } ∧ SameOutside [0x10 + n] b t ∧ t.eth.length = b.eth.length

section
variable {n : Nat} {b c t : Block}
theorem EthStep.refl (n : Nat) (b : Block) : EthStep n b b := ⟨rfl, .refl _ b, rfl⟩
theorem EthStep.trans (h : EthStep n b c) (k : EthStep n c t) : EthStep n b t :=
  ⟨by rw [k.1, h.1], h.2.1.trans k.2.1, k.2.2.trans h.2.2⟩
theorem EthStep.clk (h : EthStep n b t) : t.clk = b.clk := by rw [h.1]
theorem EthStep.out (h : EthStep n b t) : t.out = b.out := by rw [h.1]
theorem EthStep.ing (h : EthStep n b t) : t.ing = b.ing := by rw [h.1]
theorem EthStep.sameMem (h : EthStep n b t) : SameMem b t := sameMem_of_eq (by rw [h.1]) (by rw [h.1])
end

theorem ethStep_set (b : Block) {n : Nat} {f : Fld} (v : Nat) (h : keyAddr f.addr / 0x10000 = 0x10 + n) : EthStep n b (b.set f v) :=
  ⟨rfl, (sameOutside_set v (by simp [h])).mpr (.refl _ b), rfl⟩

theorem ethStep_onEth (b : Block) (n m : Nat) (f : EthPort → EthPort) : EthStep n b (b.onEth m f) :=
  ⟨rfl, (sameOutside_congr (b.regs_onEth m f)).mpr (.refl _ b), b.length_onEth m f⟩

theorem ethStep_countPair (b : Block) {n i : Nat} (v : Nat) (hn : n < 2) (hi : i < 8) :
    EthStep n b (b.countPair (F.ETHn_CNT_Ti_LO n i) (F.ETHn_CNT_Ti_HI n i) v) := by
  rw [Block.countPair, Block.setPair_eq]
  exact (ethStep_set b _ (ethTraffic_window hn hi).1).trans (ethStep_set _ _ (ethTraffic_window hn hi).2)

/-- A traffic counter of a port counts. -/
theorem Block.countEth_spec (b : Block) {n i : Nat} (v : Nat) (hn : n < 2) (hi : i < 8) :
    let t := b.countPair (F.ETHn_CNT_Ti_LO n i) (F.ETHn_CNT_Ti_HI n i) v
    RegsOnly b t ∧ EthStep n b t
      ∧ t.pair (F.ETHn_CNT_Ti_LO n i) (F.ETHn_CNT_Ti_HI n i) = (b.pair (F.ETHn_CNT_Ti_LO n i) (F.ETHn_CNT_Ti_HI n i) + v) % 2 ^ 64
      ∧ ∀ g : Fld, g.addr ≠ R.ETHn_CNT_Ti_LO n i → g.addr ≠ R.ETHn_CNT_Ti_HI n i → t.get g = b.get g := by
  obtain ⟨he, hp, hg, -⟩ := b.countPair_spec (lo := F.ETHn_CNT_Ti_LO n i) (hi := F.ETHn_CNT_Ti_HI n i) v rfl rfl rfl rfl
    (by rw [ethTrafficLo_addr, ethTrafficHi_addr]; omega)
  exact ⟨he, ethStep_countPair b v hn hi, hp, hg⟩

/-- An event counter of a port counts. -/
theorem Block.countEthEvent_spec (b : Block) {n i : Nat} (k : Nat) (hn : n < 2) (hi : i < 16) :
    let t := b.countSat (F.ETHn_CNT_Ei n i) k
    RegsOnly b t ∧ EthStep n b t ∧ t.get (F.ETHn_CNT_Ei n i) = min (b.get (F.ETHn_CNT_Ei n i) + k) (2 ^ 32 - 1)
      ∧ SameWords [R.ETHn_CNT_Ei n i] b t ∧ ∀ g : Fld, g.addr ≠ R.ETHn_CNT_Ei n i → t.get g = b.get g := by
  rw [Block.countSat_eq]
  refine ⟨regsOnly_set b _ _, ethStep_set b _ (ethCount_window hn hi), ?_,
    (sameWords_set (f := F.ETHn_CNT_Ei n i) _ (List.mem_singleton.mpr rfl)).mpr (.refl _ b),
    fun g hg => Block.get_set_apart b _ rfl (Fld.apart_of_addr hg)⟩
  rw [Block.get_set_self b _ rfl]
  exact Nat.mod_eq_of_lt (lt_of_le_of_lt (Nat.min_le_right _ _) (by show 2 ^ 32 - 1 < 2 ^ 32; decide))

/-- An error of a port that is not logged. -/
theorem Block.raiseEth_spec (b : Block) {n : Nat} {e : Err} (d : Nat) (hn : n < 2) (hf : e.fld.addr = R.ETHn_ERR n) (hok : e.fld.ok = true)
    (hone : e.fld.hi = e.fld.lo) (hi : e.irq = F.ETHn_IRQ_STATUS_ERR n) (hl : e.logged = false) :
    let t := b.raiseAt e d
    EthStep n b t ∧ t.eth = b.eth ∧ t.bit e.fld = true
      ∧ ∀ g : Fld, g.addr ≠ R.ETHn_ERR n → g.apart (F.ETHn_IRQ_STATUS_ERR n) = true → t.get g = b.get g := by
  have hne : e.fld.addr ≠ e.irq.addr := by
    rw [hf, hi, ethIrqErr_addr, R.ETHn_ERR]
    omega
  refine ⟨⟨?_, ?_, by rw [b.raiseAt_eth]⟩, b.raiseAt_eth e d, b.bit_raiseAt_unlogged d hl hok hone hne, fun g hg hgi => ?_⟩
  · conv => lhs; rw [b.raiseAt_eq]
    rw [b.raiseAt_eth]
  · rw [sameOutside_raiseAt_unlogged d hl]
    · exact .refl _ b
    · rw [hf, R.ETHn_ERR, ethErr_window hn]
      exact List.mem_singleton.mpr rfl
    · rw [hi, ethIrqErr_addr, ethIrq_window hn]
      exact List.mem_singleton.mpr rfl
  · by_cases hb : b.bit e.fld = true
    · simp only [Block.raiseAt, hb, if_true]
    · rw [← hi] at hgi
      simp only [Block.raiseAt, hb, hl]
      have hap : g.apart e.fld = true := Fld.apart_of_addr (by rw [hf]; exact hg)
      have hiok : e.irq.ok = true := by rw [hi]; rfl
      simp [Block.get_set_apart _ _ hiok hgi, Block.get_set_apart _ _ hok hap]

/-! ### Sending (R139, R140) -/

/-- What sending on a port can change: what is queued or waits, and the drop counter with its error. -/
def EthSends (n : Nat) (b t : Block) : Prop :=
  EthStep n b t
    ∧ (∀ g : Fld, g.addr ≠ R.ETHn_CNT_Ei n 9 → g.addr ≠ R.ETHn_ERR n → g.apart (F.ETHn_IRQ_STATUS_ERR n) = true → t.get g = b.get g)
    ∧ ∀ m, (t.ethPort m).lldpDue = (b.ethPort m).lldpDue

theorem EthSends.refl (n : Nat) (b : Block) : EthSends n b b := ⟨.refl n b, fun _ _ _ _ => rfl, fun _ => rfl⟩

theorem EthSends.trans {n : Nat} {b c t : Block} (h : EthSends n b c) (k : EthSends n c t) : EthSends n b t :=
  ⟨h.1.trans k.1, fun g h1 h2 h3 => (k.2.1 g h1 h2 h3).trans (h.2.1 g h1 h2 h3), fun m => (k.2.2 m).trans (h.2.2 m)⟩

theorem ethSends_onEth (b : Block) (n : Nat) {f : EthPort → EthPort} (h : ∀ q, (f q).lldpDue = q.lldpDue) : EthSends n b (b.onEth n f) :=
  ⟨ethStep_onEth b n n f, fun g _ _ _ => b.get_onEth n f g, fun m => b.ethPort_onEth_keeps EthPort.lldpDue n m h⟩

theorem ethSends_count (b : Block) {n : Nat} (k : Nat) (hn : n < 2) : EthSends n b (b.countSat (F.ETHn_CNT_Ei n 9) k) := by
  obtain ⟨hr, hs, -, -, hg⟩ := b.countEthEvent_spec (i := 9) k hn (by decide)
  have heth : (b.countSat (F.ETHn_CNT_Ei n 9) k).eth = b.eth := by rw [hr]
  exact ⟨hs, fun g h1 _ _ => hg g h1, fun m => by rw [Block.ethPort, heth, Block.ethPort]⟩

/-- A dropped frame is counted and flagged. -/
theorem Block.txDrop_spec (b : Block) {n : Nat} (hn : n < 2) :
    let t := b.txDrop n
    EthSends n b t ∧ t.eth = b.eth ∧ t.get (F.ETHn_CNT_Ei n 9) = min (b.get (F.ETHn_CNT_Ei n 9) + 1) (2 ^ 32 - 1) := by
  obtain ⟨hr, hs, hv, -, hg⟩ := b.countEthEvent_spec (i := 9) 1 hn (by decide)
  unfold Block.txDrop
  rw [Block.raise_eq]
  generalize b.countSat (F.ETHn_CNT_Ei n 9) 1 = c at *
  have heth : c.eth = b.eth := by rw [hr]
  obtain ⟨ks, keth, -, kg⟩ := c.raiseEth_spec (e := E.ETHn_TX_DROP n) noDetail hn rfl rfl rfl rfl rfl
  generalize c.raiseAt (E.ETHn_TX_DROP n) noDetail = d at *
  refine ⟨⟨hs.trans ks, fun g h1 h2 h3 => (kg g h2 h3).trans (hg g h1), fun m => ?_⟩, keth.trans heth, ?_⟩
  · rw [Block.ethPort, keth, heth, Block.ethPort]
  · refine (kg _ ?_ (Fld.apart_of_addr ?_)).trans hv <;> simp only [ethCount_addr, ethIrqErr_addr, R.ETHn_ERR] <;> omega

theorem ethSends_ethQueue (b : Block) {n : Nat} (x : TxFrame) (hn : n < 2) : EthSends n b (b.ethQueue n x) := by
  rw [Block.ethQueue]
  split
  · exact ethSends_count b 1 hn
  · split
    · exact (b.txDrop_spec hn).1
    · exact ethSends_onEth b n fun _ => rfl

theorem ethSends_ethSendIp (b : Block) {n : Nat} (sub cls : Nat) (v6 : Bool) (dst len : Nat) (item : Out) (hn : n < 2) :
    EthSends n b (b.ethSendIp n sub cls v6 dst len item) := by
  rw [Block.ethSendIp]
  dsimp only
  split
  · exact (b.txDrop_spec hn).1
  · split
    · exact ethSends_ethQueue b _ hn
    · split
      · split
        · exact ethSends_ethQueue b _ hn
        · exact ethSends_onEth b n fun _ => rfl
      · refine (ethSends_onEth b n ?_).trans (ethSends_ethQueue _ _ hn)
        exact fun _ => rfl

theorem ethSends_sendReport (b : Block) (m : Member) (join : Bool) (hn : m.path < 2) : EthSends m.path b (b.sendReport m join) := by
  rw [Block.sendReport]
  exact ethSends_ethSendIp b _ _ _ _ _ _ hn

end Sys2Proof.Machine
end

section
/-!
PROOFS of chapter 5: links, frames, pauses, next hops and EEE of the Ethernet ports.
-/

namespace Sys2Proof.Machine

/-! ### Links -/

theorem Block.setLink_spec (b : Block) {n v : Nat} (hn : n < 2) (hv : v < 16) :
    let t := b.setLink n v
    RegsOnly b t ∧ EthStep n b t ∧ t.get (F.ETHn_STATUS_LINK n) = v
      ∧ (∀ g : Fld, g.apart (F.ETHn_STATUS_LINK n) = true → g.apart (F.ETHn_IRQ_STATUS_LINK_CHANGE n) = true → t.get g = b.get g)
      ∧ (b.get (F.ETHn_STATUS_LINK n) ≠ v → t.bit (F.ETHn_IRQ_STATUS_LINK_CHANGE n) = true) := by
  unfold Block.setLink
  split
  · next h => exact ⟨rfl, .refl n b, h, fun _ _ _ => rfl, fun hne => absurd h hne⟩
  · rw [Block.irq_eq]
    refine ⟨(regsOnly_set b _ v).trans (regsOnly_set _ _ 1), (ethStep_set b v (ethStatus_window hn)).trans (ethStep_set _ 1 (ethIrq_window hn)), ?_,
      fun g hg hi => ?_, fun _ => Block.bit_set_one_self _ rfl rfl⟩
    · rw [Block.get_set_apart _ _ rfl (Fld.apart_of_addr (by rw [ethLink_addr, ethChange_addr]; omega)), Block.get_set_self _ _ rfl]
      exact Nat.mod_eq_of_lt hv
    · rw [Block.get_set_apart _ _ rfl hi, Block.get_set_apart _ _ rfl hg]

/-- The fields that the end of EEE on a port leaves. -/
def EeeBeside (n : Nat) (g : Fld) : Prop :=
  g.addr ≠ R.ETHn_CNT_Ti_LO n 7 ∧ g.addr ≠ R.ETHn_CNT_Ti_HI n 7 ∧ g.apart (F.ETHn_STATUS_LPI_TX n) = true
    ∧ g.apart (F.ETHn_STATUS_ALIGNED n) = true ∧ g.apart (F.ETHn_STATUS_EEE_AGREED n) = true ∧ g.apart (F.ETHn_STATUS_LPI_RX n) = true

/-- A field of none of STATUS and the traffic counters is beside. -/
theorem eeeBeside_of_addr {n : Nat} {g : Fld} (h : g.addr ≠ R.ETHn_STATUS n) (hl : g.addr ≠ R.ETHn_CNT_Ti_LO n 7)
    (hh : g.addr ≠ R.ETHn_CNT_Ti_HI n 7) : EeeBeside n g :=
  ⟨hl, hh, Fld.apart_of_addr h, Fld.apart_of_addr h, Fld.apart_of_addr h, Fld.apart_of_addr h⟩

/-- A field of STATUS above LPI_TX or below ALIGNED is beside. -/
theorem eeeBeside_status {n : Nat} {g : Fld} (ha : g.addr = R.ETHn_STATUS n) (h : 7 < g.lo ∨ g.hi < 4) : EeeBeside n g := by
  have hap (f : Fld) (hl : 4 ≤ f.lo) (hh : f.hi ≤ 7) : g.apart f = true := (Fld.apart_iff g f).mpr (by omega)
  refine ⟨?_, ?_, hap _ ?_ ?_, hap _ ?_ ?_, hap _ ?_ ?_, hap _ ?_ ?_⟩
  · rw [ha, R.ETHn_STATUS, R.ETHn_CNT_Ti_LO]
    omega
  · rw [ha, R.ETHn_STATUS, R.ETHn_CNT_Ti_HI]
    omega
  all_goals exact of_decide_eq_true rfl

theorem Block.lpiEnd_spec (b : Block) {n : Nat} (hn : n < 2) :
    let t := b.lpiEnd n
    EthStep n b t
      ∧ (∀ g : Fld, g.addr ≠ R.ETHn_CNT_Ti_LO n 7 → g.addr ≠ R.ETHn_CNT_Ti_HI n 7 → g.apart (F.ETHn_STATUS_LPI_TX n) = true → t.get g = b.get g)
      ∧ ((b.ethPort n).lpiFrom ≠ none → n < b.eth.length → t.bit (F.ETHn_STATUS_LPI_TX n) = false ∧ (t.ethPort n).lpiFrom = none) := by
  rw [Block.lpiEnd]
  cases h : (b.ethPort n).lpiFrom with
  | none => exact ⟨.refl n b, fun _ _ _ _ => rfl, fun hne => absurd rfl hne⟩
  | some at' =>
    dsimp only
    generalize b.lpiPending n = ns
    obtain ⟨hr, hs, -, hg⟩ := b.countEth_spec (i := 7) (ns / 1000) hn (by decide)
    have hlen : (b.countPair (F.ETHn_CNT_Ti_LO n 7) (F.ETHn_CNT_Ti_HI n 7) (ns / 1000)).eth = b.eth := by rw [hr]
    generalize b.countPair (F.ETHn_CNT_Ti_LO n 7) (F.ETHn_CNT_Ti_HI n 7) (ns / 1000) = c at *
    refine ⟨(hs.trans (ethStep_onEth c n n _)).trans (ethStep_set _ 0 (ethStatus_window hn)), fun g h1 h2 h3 => ?_, fun _ hl => ⟨?_, ?_⟩⟩
    · rw [Block.get_set_apart _ _ rfl h3, Block.get_onEth, hg g h1 h2]
    · exact Block.bit_set_zero_self _ rfl
    · exact congrArg EthPort.lpiFrom (c.ethPort_onEth (fun q => { q with lpiFrom := none, lastBusy := c.clk, lpiRem := ns % 1000 }) (by rw [hlen]; exact hl))

/-- EEE is no longer in use on a port. -/
def Block.eeeOff (b : Block) (n : Nat) : Block := (((b.lpiEnd n).set (F.ETHn_STATUS_ALIGNED n) 0).set (F.ETHn_STATUS_EEE_AGREED n) 0).set (F.ETHn_STATUS_LPI_RX n) 0

theorem Block.eeeOff_spec (b : Block) {n : Nat} (hn : n < 2) :
    let t := b.eeeOff n
    EthStep n b t ∧ t.bit (F.ETHn_STATUS_EEE_AGREED n) = false ∧ ∀ g, EeeBeside n g → t.get g = b.get g := by
  obtain ⟨hs, hg, -⟩ := b.lpiEnd_spec hn
  unfold Block.eeeOff
  generalize b.lpiEnd n = c at *
  refine ⟨((hs.trans (ethStep_set c 0 (ethStatus_window hn))).trans (ethStep_set _ 0 (ethStatus_window hn))).trans
    (ethStep_set _ 0 (ethStatus_window hn)), ?_, fun g ⟨hl, hh, htx, hal, hag, hrx⟩ => ?_⟩
  · rw [Block.bit_set_apart _ _ rfl rfl, Block.bit_set_zero_self _ rfl]
  · rw [Block.get_set_apart _ _ rfl hrx, Block.get_set_apart _ _ rfl hag, Block.get_set_apart _ _ rfl hal, hg g hl hh htx]

theorem Block.ethQuiet_eq {b : Block} {n : Nat} (h : b.get (F.ETHn_STATUS_LINK n) = 0) : b.ethQuiet n = b.eeeOff n := by
  rw [Block.ethQuiet, if_pos h, Block.eeeOff]

/-! ### EN (R134, R135) -/

/-- The lanes' registers and records change. -/
def SrdPart (b t : Block) : Prop := t = { b with regs := t.regs, srd := t.srd } ∧ SameOutside [0x1E] b t

theorem SrdPart.trans {b c t : Block} (h : SrdPart b c) (k : SrdPart c t) : SrdPart b t := ⟨by rw [k.1, h.1], h.2.trans k.2⟩
theorem SrdPart.eth {b t : Block} (h : SrdPart b t) : t.eth = b.eth := by rw [h.1]
theorem SrdPart.sameMem {b t : Block} (h : SrdPart b t) : SameMem b t := sameMem_of_eq (by rw [h.1]) (by rw [h.1])
theorem PortStep.part {p : Nat} {b t : Block} (h : PortStep p b t) : SrdPart b t := ⟨h.1, h.2.1⟩

theorem Block.srdPart_pllGo (b : Block) {p : Nat} (hp : p < 4) : SrdPart b (b.pllGo p) := by
  rw [Block.pllGo]
  split
  · exact (b.portToCdr_spec hp).1.part
  · exact ⟨rfl, .refl _ b⟩

theorem Block.srdPart_portEnable (b : Block) {p : Nat} (hp : p < 4) : SrdPart b (b.portEnable p) :=
  (b.portTo_spec (st := lanePll) hp (by decide)).1.part.trans (Block.srdPart_pllGo _ hp)

theorem Block.srdPart_portDisable (b : Block) {p : Nat} (hp : p < 4) : SrdPart b (b.portDisable p) :=
  (b.portTo_spec (st := laneOff) hp (by decide)).1.part

/-- A port's register is outside the lanes' window. -/
theorem SrdPart.getEth {b t : Block} (h : SrdPart b t) {n : Nat} {g : Fld} (hg : keyAddr g.addr / 0x10000 = 0x10 + n) (hn : n < 2) :
    t.get g = b.get g := h.2.get (by rw [hg]; simp; omega)

/-- ETHn_CTRL as a write that starts the port leaves it. -/
def Block.ctrlTaken (b : Block) (n w : Nat) : Block :=
  (((b.set (F.ETHn_CTRL_AN_EN n) ((F.ETHn_CTRL_AN_EN n).of w)).set (F.ETHn_CTRL_FEC_EN n) ((F.ETHn_CTRL_FEC_EN n).of w)).set
    (F.ETHn_CTRL_MODE n) ((F.ETHn_CTRL_MODE n).of w)).set (F.ETHn_CTRL_EN n) 1

theorem ethCtrl_starts {b : Block} {n : Nat} {v : Word} (hn : n < 2) (hen : (F.ETHn_CTRL_EN n).of v.toNat = 1)
    (hwas : b.bit (F.ETHn_CTRL_EN n) = false) (hmode : (F.ETHn_CTRL_MODE n).of v.toNat ≤ 5) :
    ethCtrl n v b = (b.ctrlTaken n v.toNat).ethStart n := by
  rw [ethCtrl, if_neg (by omega)]
  dsimp only
  rw [hwas, hen, if_neg (by decide), if_pos hmode, show ((1 : Nat) != 0) = true from rfl, Block.setBit_eq, if_pos rfl, if_neg (by decide),
    if_pos rfl, Block.ctrlTaken]

theorem Block.ctrlTaken_spec (b : Block) (n w : Nat) :
    let t := b.ctrlTaken n w
    RegsOnly b t ∧ t.bit (F.ETHn_CTRL_EN n) = true ∧ t.get (F.ETHn_CTRL_MODE n) = (F.ETHn_CTRL_MODE n).of w
      ∧ t.get (F.ETHn_CTRL_FEC_EN n) = (F.ETHn_CTRL_FEC_EN n).of w := by
  have hfit (f : Fld) : f.of w % 2 ^ f.width = f.of w := Nat.mod_mod _ _
  unfold Block.ctrlTaken
  refine ⟨((((regsOnly_set b _ _).trans (regsOnly_set _ _ _)).trans (regsOnly_set _ _ _)).trans (regsOnly_set _ _ 1)),
    Block.bit_set_one_self _ rfl rfl, ?_, ?_⟩
  · rw [Block.get_set_apart _ _ rfl rfl, Block.get_set_self _ _ rfl, hfit]
  · rw [Block.get_set_apart _ _ rfl rfl, Block.get_set_apart _ _ rfl rfl, Block.get_set_self _ _ rfl, hfit]

theorem ethCtrl_starts_spec {b : Block} {n : Nat} {v : Word} (hn : n < 2) (hlen : b.eth.length = 2) (hen : (F.ETHn_CTRL_EN n).of v.toNat = 1)
    (hwas : b.bit (F.ETHn_CTRL_EN n) = false) (hmode : (F.ETHn_CTRL_MODE n).of v.toNat ≤ 5) :
    let t := ethCtrl n v b
    t.bit (F.ETHn_CTRL_EN n) = true ∧ t.get (F.ETHn_CTRL_MODE n) = (F.ETHn_CTRL_MODE n).of v.toNat
      ∧ t.get (F.ETHn_CTRL_FEC_EN n) = (F.ETHn_CTRL_FEC_EN n).of v.toNat
      ∧ (t.ethPort n).queue = [] ∧ (t.ethPort n).lldpDue = b.clk + 30000000000 ∧ SameMem b t := by
  obtain ⟨hr, hbit, hm, hf⟩ := b.ctrlTaken_spec n v.toNat
  rw [ethCtrl_starts hn hen hwas hmode, Block.ethStart]
  generalize b.ctrlTaken n v.toNat = c at *
  have heth : c.eth = b.eth := by rw [hr]
  generalize hd : c.onEth n (fun q => { EthPort.reset with lastBusy := c.clk, lldpDue := c.clk + 30000000000, lpiRem := q.lpiRem }) = d
  have hport : d.ethPort n = { EthPort.reset with lastBusy := c.clk, lldpDue := c.clk + 30000000000, lpiRem := (c.ethPort n).lpiRem } := by
    rw [← hd]
    exact c.ethPort_onEth (fun q => { EthPort.reset with lastBusy := c.clk, lldpDue := c.clk + 30000000000, lpiRem := q.lpiRem })
      (by rw [heth]; omega)
  have hget (g : Fld) : d.get g = c.get g := by rw [← hd, Block.get_onEth]
  have hmem : SameMem c d := by
    rw [← hd]
    exact (ethStep_onEth c n n _).sameMem
  have hsrd := d.srdPart_portEnable (p := n) (by omega)
  generalize d.portEnable n = u at *
  refine ⟨?_, ?_, ?_, ?_, ?_, (hr.sameMem.trans hmem).trans hsrd.sameMem⟩
  · rw [Block.bit, hsrd.getEth (ethCtrl_window hn) hn, hget, ← Block.bit, hbit]
  · rw [hsrd.getEth (ethCtrl_window hn) hn, hget, hm]
  · rw [hsrd.getEth (ethCtrl_window hn) hn, hget, hf]
  · rw [Block.ethPort, hsrd.eth, ← Block.ethPort, hport]
    rfl
  · rw [Block.ethPort, hsrd.eth, ← Block.ethPort, hport, hr.clk]

/-- While EN is 1 a write that keeps it leaves the port. -/
theorem ethCtrl_kept {b : Block} {n : Nat} {v : Word} (hn : n < 2) (hen : (F.ETHn_CTRL_EN n).of v.toNat = 1)
    (hwas : b.bit (F.ETHn_CTRL_EN n) = true) : ethCtrl n v b = b.set (F.ETHn_CTRL_EN n) 1 := by
  rw [ethCtrl, if_neg (by omega)]
  dsimp only
  rw [hwas, hen, show ((1 : Nat) != 0) = true from rfl, Block.setBit_eq, if_pos rfl, if_pos rfl, if_pos (by decide)]

/-- A one-bit field that is set holds 1. -/
theorem Block.get_of_bit {b : Block} {f : Fld} (hw : f.width = 1) (h : b.bit f = true) : b.get f = 1 := by
  have hlt : b.get f < 2 ^ f.width := Fld.of_lt _ _
  have hne : b.get f ≠ 0 := by simpa [Block.bit] using h
  rw [hw] at hlt
  omega

theorem ethCtrl_stops {b : Block} {n : Nat} {v : Word} (hn : n < 2) (hen : (F.ETHn_CTRL_EN n).of v.toNat = 0)
    (hwas : b.bit (F.ETHn_CTRL_EN n) = true) : ethCtrl n v b = (b.set (F.ETHn_CTRL_EN n) 0).ethStop n := by
  rw [ethCtrl, if_neg (by omega)]
  dsimp only
  rw [hwas, hen, show ((0 : Nat) != 0) = false from rfl, Block.setBit_eq, if_pos rfl, if_neg (by decide), if_neg (by decide), if_neg (by decide)]

theorem ethCtrl_stops_spec {b : Block} {n : Nat} {v : Word} (hn : n < 2) (hlen : b.eth.length = 2) (hen : (F.ETHn_CTRL_EN n).of v.toNat = 0)
    (hwas : b.bit (F.ETHn_CTRL_EN n) = true) (hhops : (b.ethPort n).hops = []) :
    let t := ethCtrl n v b
    t.bit (F.ETHn_CTRL_EN n) = false ∧ t.get (F.ETHn_STATUS_LINK n) = 0 ∧ (t.ethPort n).queue = [] ∧ SameMem b t
      ∧ t.get (F.ETHn_CNT_Ei n 9) = min (b.get (F.ETHn_CNT_Ei n 9) + (b.ethPort n).queue.length) (2 ^ 32 - 1) := by
  have hen0 : (b.set (F.ETHn_CTRL_EN n) 0).bit (F.ETHn_CTRL_EN n) = false := Block.bit_set_zero_self b rfl
  have hport : (b.set (F.ETHn_CTRL_EN n) 0).ethPort n = b.ethPort n := rfl
  have hcount : (b.set (F.ETHn_CTRL_EN n) 0).get (F.ETHn_CNT_Ei n 9) = b.get (F.ETHn_CNT_Ei n 9) :=
    Block.get_set_apart b 0 rfl (Fld.apart_of_addr (by rw [ethEn_addr, ethCount_addr]; omega))
  have hr := regsOnly_set b (F.ETHn_CTRL_EN n) 0
  rw [ethCtrl_stops hn hen hwas, Block.ethStop]
  generalize b.set (F.ETHn_CTRL_EN n) 0 = c at *
  have hceth : c.eth.length = 2 := by rw [hr, ← hlen]
  rw [hport, hhops]
  dsimp only
  rw [List.map_nil, List.sum_nil, Nat.add_zero]
  obtain ⟨er, es, ev, -, eg⟩ := c.countEthEvent_spec (i := 9) (b.ethPort n).queue.length hn (by decide)
  generalize c.countSat (F.ETHn_CNT_Ei n 9) (b.ethPort n).queue.length = d at *
  obtain ⟨lr, ls, lv, lg, -⟩ := d.setLink_spec (v := 0) hn (by decide)
  generalize d.setLink n 0 = u at *
  obtain ⟨qs, -, qg⟩ := u.eeeOff_spec hn
  rw [Block.ethQuiet_eq lv]
  generalize u.eeeOff n = w at *
  have hs : EthStep n c w := (es.trans ls).trans qs
  have hwp : (w.onEth n (fun q => { EthPort.reset with lpiRem := q.lpiRem })).ethPort n = { EthPort.reset with lpiRem := (w.ethPort n).lpiRem } :=
    w.ethPort_onEth (fun q => { EthPort.reset with lpiRem := q.lpiRem }) (by rw [hs.2.2, hceth]; omega)
  have hg (g : Fld) : (w.onEth n (fun q => { EthPort.reset with lpiRem := q.lpiRem })).get g = w.get g := Block.get_onEth _ _ _ _
  have hm : SameMem w (w.onEth n (fun q => { EthPort.reset with lpiRem := q.lpiRem })) := (ethStep_onEth w n n _).sameMem
  generalize w.onEth n (fun q => { EthPort.reset with lpiRem := q.lpiRem }) = x at *
  have hsrd := x.srdPart_portDisable (p := n) (by omega)
  generalize x.portDisable n = y at *
  refine ⟨?_, ?_, ?_, ((hr.sameMem.trans hs.sameMem).trans hm).trans hsrd.sameMem, ?_⟩
  · rw [Block.bit, hsrd.getEth (ethCtrl_window hn) hn, hg, qg _ (eeeBeside_of_addr ?_ ?_ ?_), lg _ (Fld.apart_of_addr ?_) (Fld.apart_of_addr ?_),
      eg _ ?_, ← Block.bit, hen0]
    all_goals
      simp only [ethEn_addr, ethLink_addr, ethChange_addr, R.ETHn_STATUS, R.ETHn_CNT_Ti_LO, R.ETHn_CNT_Ti_HI, R.ETHn_CNT_Ei]
      omega
  · rw [hsrd.getEth (ethStatus_window hn) hn, hg, qg _ (eeeBeside_status rfl (.inr (of_decide_eq_true rfl))), lv]
  · rw [Block.ethPort, hsrd.eth, ← Block.ethPort, hwp]
    rfl
  · rw [hsrd.getEth (ethCount_window hn (by decide)) hn, hg, qg _ (eeeBeside_of_addr ?_ ?_ ?_), lg _ (Fld.apart_of_addr ?_) (Fld.apart_of_addr ?_),
      ev, hcount]
    all_goals
      simp only [ethCount_addr, ethLink_addr, ethChange_addr, R.ETHn_STATUS, R.ETHn_CNT_Ti_LO, R.ETHn_CNT_Ti_HI]
      omega

/-! ### A link comes up or goes down (R146) -/

/-- What each step of a list keeps, the list keeps. -/
theorem Block.each_rel {α : Type} {R : Block → Block → Prop} (hrefl : ∀ c, R c c) (htrans : ∀ x y z, R x y → R y z → R x z)
    {f : α → Block → Block} : ∀ (l : List α) (b : Block), (∀ a ∈ l, ∀ c, R c (f a c)) → R b (b.each l f)
  | [], b, _ => hrefl b
  | a :: l, b, h => by
    have hcons : b.each (a :: l) f = (f a b).each l f := by simp only [Block.each, List.foldl_cons]
    rw [hcons]
    exact htrans _ _ _ (h a List.mem_cons_self b) (Block.each_rel hrefl htrans l _ fun x hx => h x (List.mem_cons_of_mem a hx))

/-- Memory and the registers beside a port's drop counter and its error stay. -/
def SendsBeside (n : Nat) (b t : Block) : Prop := SameMem b t
  ∧ ∀ g : Fld, g.addr ≠ R.ETHn_CNT_Ei n 9 → g.addr ≠ R.ETHn_ERR n → g.apart (F.ETHn_IRQ_STATUS_ERR n) = true → t.get g = b.get g

theorem EthSends.beside {n : Nat} {b t : Block} (h : EthSends n b t) : SendsBeside n b t := ⟨h.1.sameMem, h.2.1⟩

theorem SendsBeside.refl (n : Nat) (b : Block) : SendsBeside n b b := ⟨.refl b, fun _ _ _ _ => rfl⟩

theorem SendsBeside.trans {n : Nat} {b c t : Block} (h : SendsBeside n b c) (k : SendsBeside n c t) : SendsBeside n b t :=
  ⟨h.1.trans k.1, fun g h1 h2 h3 => (k.2 g h1 h2 h3).trans (h.2 g h1 h2 h3)⟩

/-- ING's list of reports that are due is replaced. -/
def Block.withReports (b : Block) (l : List Pending) : Block := { b with ing.reports := l }

theorem Block.regs_withReports (b : Block) (l : List Pending) : (b.withReports l).regs = b.regs := rfl

theorem sendsBeside_withReports (n : Nat) (b : Block) (l : List Pending) : SendsBeside n b (b.withReports l) :=
  ⟨(sameMem_congr (t := b.withReports l) (u := b) rfl rfl).mpr (.refl b), fun g _ _ _ => Block.get_congr (b.regs_withReports l) g⟩

theorem sendsBeside_startReports (b : Block) {n : Nat} (m : Member) (join : Bool) (hn : n < 2) (hm : m.path = n) :
    SendsBeside n b (b.startReports m join) := by
  have hsend : SendsBeside n b (b.sendReport m join) := hm ▸ (ethSends_sendReport b m join (by rw [hm]; exact hn)).beside
  rw [Block.startReports]
  split
  · exact sendsBeside_withReports n b _
  · exact hsend.trans (sendsBeside_withReports n _ _)

theorem sendsBeside_linkReports (b : Block) {n : Nat} (hn : n < 2) : SendsBeside n b (b.linkReports n) := by
  refine Block.each_rel (R := SendsBeside n) (SendsBeside.refl n) (fun _ _ _ => SendsBeside.trans) _ b fun m hm c => ?_
  exact sendsBeside_startReports c m true hn (by simpa using (List.mem_filter.mp hm).2)

/-- EEE follows what both partners advertise. -/
theorem Block.eeeSync_spec (b : Block) {n : Nat} (hn : n < 2) (hup : b.get (F.ETHn_STATUS_LINK n) ≠ 0) :
    let t := b.eeeSync n
    EthStep n b t ∧ t.bit (F.ETHn_STATUS_EEE_AGREED n) = ((b.ethPort n).partnerEee && b.eeeAdvertised n)
      ∧ ∀ g : Fld, EeeBeside n g → g.addr ≠ R.ETHn_EEE_STATUS n → t.get g = b.get g := by
  rw [Block.eeeSync]
  by_cases hadv : (b.ethPort n).partnerEee = true ∧ b.eeeAdvertised n = true
  · obtain ⟨h1, h2⟩ := hadv
    rw [if_pos ⟨hup, h1, h2⟩, h1, h2]
    split
    · next h => exact ⟨.refl n b, h, fun _ _ _ => rfl⟩
    · rw [Block.setWakeTime]
      refine ⟨(ethStep_set b 1 (ethStatus_window hn)).trans (ethStep_set _ _ (ethEee_window hn)), ?_, fun g hg he => ?_⟩
      · rw [Block.bit_set_apart _ _ rfl (Fld.apart_of_addr (by rw [ethAgreed_addr, ethWake_addr]; omega)), Block.bit_set_one_self _ rfl rfl]
        rfl
      · obtain ⟨-, -, -, -, hag, -⟩ := hg
        rw [Block.get_set_apart _ _ rfl (Fld.apart_of_addr he), Block.get_set_apart _ _ rfl hag]
  · have hfalse : ((b.ethPort n).partnerEee && b.eeeAdvertised n) = false := by
      rw [← Bool.not_eq_true, Bool.and_eq_true]
      exact hadv
    rw [if_neg fun h => hadv h.2, hfalse]
    obtain ⟨hs, hg, -⟩ := b.lpiEnd_spec hn
    generalize b.lpiEnd n = c at *
    refine ⟨(hs.trans (ethStep_set c 0 (ethStatus_window hn))).trans (ethStep_set _ 0 (ethStatus_window hn)), ?_, fun g hgb _ => ?_⟩
    · rw [Block.bit_set_apart _ _ rfl rfl, Block.bit_set_zero_self _ rfl]
    · obtain ⟨hl, hh, htx, -, hag, hrx⟩ := hgb
      rw [Block.get_set_apart _ _ rfl hrx, Block.get_set_apart _ _ rfl hag, hg g hl hh htx]

/-- The registers of a sublink that has come up, and the partner's word on EEE. -/
def Block.linkShown (b : Block) (n : Nat) (eee : Bool) : Block :=
  ((((b.setLink n 1).set (F.ETHn_STATUS_LOCAL_FAULT n) 0).set (F.ETHn_STATUS_REMOTE_FAULT n) 0).set (F.ETHn_STATUS_ALIGNED n) 1).onEth n
    (fun q => { q with partnerEee := eee })

theorem Block.linkShown_spec (b : Block) {n : Nat} (eee : Bool) (hn : n < 2) (hlen : b.eth.length = 2) (h0 : b.get (F.ETHn_STATUS_LINK n) = 0) :
    let t := b.linkShown n eee
    EthStep n b t ∧ t.get (F.ETHn_STATUS_LINK n) = 1 ∧ t.bit (F.ETHn_STATUS_LOCAL_FAULT n) = false
      ∧ t.bit (F.ETHn_IRQ_STATUS_LINK_CHANGE n) = true ∧ (t.ethPort n).partnerEee = eee ∧ t.eeeAdvertised n = b.eeeAdvertised n := by
  obtain ⟨lr, ls, lv, lg, li⟩ := b.setLink_spec (v := 1) hn (by decide)
  have li := li (by rw [h0]; decide)
  have heth : (b.setLink n 1).eth.length = 2 := by rw [ls.2.2, hlen]
  unfold Block.linkShown
  generalize b.setLink n 1 = c at *
  refine ⟨(((ls.trans (ethStep_set c 0 (ethStatus_window hn))).trans (ethStep_set _ 0 (ethStatus_window hn))).trans
    (ethStep_set _ 1 (ethStatus_window hn))).trans (ethStep_onEth _ n n _), ?_, ?_, ?_, ?_, ?_⟩
  · rw [Block.get_onEth, Block.get_set_apart _ _ rfl rfl, Block.get_set_apart _ _ rfl rfl, Block.get_set_apart _ _ rfl rfl, lv]
  · rw [Block.bit_onEth, Block.bit_set_apart _ _ rfl rfl, Block.bit_set_apart _ _ rfl rfl, Block.bit_set_zero_self _ rfl]
  · have hne : (F.ETHn_IRQ_STATUS_LINK_CHANGE n).addr ≠ R.ETHn_STATUS n := by
      rw [ethChange_addr, R.ETHn_STATUS]
      omega
    rw [Block.bit_onEth, Block.bit_set_apart _ _ rfl (Fld.apart_of_addr hne), Block.bit_set_apart _ _ rfl (Fld.apart_of_addr hne),
      Block.bit_set_apart _ _ rfl (Fld.apart_of_addr hne), li]
  · exact congrArg EthPort.partnerEee (Block.ethPort_onEth _ (fun q => { q with partnerEee := eee }) (by rw [Block.set_eth, Block.set_eth, Block.set_eth, heth]; exact hn))
  · have hg (g : Fld) (hs : g.addr ≠ R.ETHn_STATUS n) (hi : g.addr ≠ R.ETHn_IRQ_STATUS n) :
        (((((c.set (F.ETHn_STATUS_LOCAL_FAULT n) 0).set (F.ETHn_STATUS_REMOTE_FAULT n) 0).set (F.ETHn_STATUS_ALIGNED n) 1)).onEth n
          (fun q => { q with partnerEee := eee })).get g = b.get g := by
      rw [Block.get_onEth, Block.get_set_apart _ _ rfl (Fld.apart_of_addr hs), Block.get_set_apart _ _ rfl (Fld.apart_of_addr hs),
        Block.get_set_apart _ _ rfl (Fld.apart_of_addr hs), lg g (Fld.apart_of_addr hs) (Fld.apart_of_addr hi)]
    rw [Block.eeeAdvertised, Block.bit, Block.bit, hg _ ?_ ?_, hg _ ?_ ?_, hg _ ?_ ?_, Block.eeeAdvertised, Block.bit, Block.bit]
    all_goals
      simp only [F.ETHn_CTRL_MODE, F.ETHn_EEE_EN, F.ETHn_CTRL_AN_EN, R.ETHn_CTRL, R.ETHn_EEE, R.ETHn_STATUS, R.ETHn_IRQ_STATUS]
      omega

theorem ethLinkUp_eq {b : Block} {n : Nat} (eee : Bool) (hn : n < 2) (h100 : b.eth100 n = true) (hen : b.bit (F.ETHn_CTRL_EN n) = true)
    (ht : b.trained n = true) (h0 : b.get (F.ETHn_STATUS_LINK n) = 0) :
    ethLinkUp n 0 eee b = ((b.linkShown n eee).eeeSync n).linkReports n := by
  have hok : b.subOk n 0 = true := by simp [Block.subOk, hn]
  have hdown : b.subUp n 0 = false := by
    rw [Block.subUp, h0]
    rfl
  rw [ethLinkUp]
  dsimp only
  rw [h100, if_pos rfl, ht, hok, hen, hdown, h0, if_neg (by decide), Block.linkShown]
  rfl

theorem ethLinkUp_spec {b : Block} {n : Nat} (eee : Bool) (hn : n < 2) (hlen : b.eth.length = 2) (h100 : b.eth100 n = true)
    (hen : b.bit (F.ETHn_CTRL_EN n) = true) (ht : b.trained n = true) (h0 : b.get (F.ETHn_STATUS_LINK n) = 0) :
    let t := ethLinkUp n 0 eee b
    t.get (F.ETHn_STATUS_LINK n) = 1 ∧ t.bit (F.ETHn_STATUS_LOCAL_FAULT n) = false
      ∧ t.bit (F.ETHn_STATUS_EEE_AGREED n) = (eee && b.eeeAdvertised n) ∧ t.bit (F.ETHn_IRQ_STATUS_LINK_CHANGE n) = true ∧ SameMem b t := by
  obtain ⟨ls, lv, lf, li, lp, la⟩ := b.linkShown_spec eee hn hlen h0
  rw [ethLinkUp_eq eee hn h100 hen ht h0]
  generalize b.linkShown n eee = c at *
  obtain ⟨es, ev, eg⟩ := c.eeeSync_spec hn (by rw [lv]; decide)
  rw [lp, la] at ev
  generalize c.eeeSync n = d at *
  obtain ⟨rm, rg⟩ := sendsBeside_linkReports d hn
  generalize d.linkReports n = t at *
  have hstatus (g : Fld) (ha : g.addr = R.ETHn_STATUS n) : t.get g = d.get g := by
    refine rg g ?_ ?_ (Fld.apart_of_addr ?_) <;> rw [ha] <;> simp only [R.ETHn_STATUS, R.ETHn_CNT_Ei, R.ETHn_ERR, ethIrqErr_addr] <;> omega
  have hne (g : Fld) (ha : g.addr = R.ETHn_STATUS n) : g.addr ≠ R.ETHn_EEE_STATUS n := by
    rw [ha, R.ETHn_STATUS, R.ETHn_EEE_STATUS]
    omega
  refine ⟨?_, ?_, ?_, ?_, (ls.sameMem.trans es.sameMem).trans rm⟩
  · rw [hstatus _ rfl, eg _ (eeeBeside_status rfl (.inr (of_decide_eq_true rfl))) (hne _ rfl), lv]
  · rw [Block.bit, hstatus _ rfl, eg _ (eeeBeside_status rfl (.inl (of_decide_eq_true rfl))) (hne _ rfl), ← Block.bit, lf]
  · rw [Block.bit, hstatus _ rfl, ← Block.bit, ev]
  · rw [Block.bit, rg _ ?_ ?_ rfl, eg _ (eeeBeside_of_addr ?_ ?_ ?_) ?_, ← Block.bit, li]
    all_goals
      simp only [ethChange_addr, R.ETHn_CNT_Ei, R.ETHn_ERR, R.ETHn_STATUS, R.ETHn_CNT_Ti_LO, R.ETHn_CNT_Ti_HI, R.ETHn_EEE_STATUS]
      omega

/-- The registers of a sublink that has gone down. -/
def Block.linkLost (b : Block) (n : Nat) (lf rf : Bool) : Block :=
  ((((b.setLink n 0).setBit (F.ETHn_STATUS_LOCAL_FAULT n) lf).setBit (F.ETHn_STATUS_REMOTE_FAULT n) rf).countSat (F.ETHn_CNT_Ei n 10) 1).raise
    (E.ETHn_LINK_DOWN n)

theorem ethLinkDown_eq {b : Block} {n : Nat} (lf rf : Bool) (hn : n < 2) (hen : b.bit (F.ETHn_CTRL_EN n) = true)
    (h1 : b.get (F.ETHn_STATUS_LINK n) = 1) : ethLinkDown n 0 lf rf b = (b.linkLost n lf rf).ethQuiet n := by
  have hok : b.subOk n 0 = true := by simp [Block.subOk, hn]
  have hup : b.subUp n 0 = true := by
    rw [Block.subUp, h1]
    rfl
  rw [ethLinkDown]
  dsimp only
  rw [hok, hen, hup, h1, if_neg (by decide), Block.linkLost]
  rfl

theorem Block.linkLost_spec (b : Block) {n : Nat} (lf rf : Bool) (hn : n < 2) :
    let t := b.linkLost n lf rf
    t.get (F.ETHn_STATUS_LINK n) = 0 ∧ t.bit (F.ETHn_STATUS_LOCAL_FAULT n) = lf ∧ t.bit (F.ETHn_STATUS_REMOTE_FAULT n) = rf
      ∧ t.bit (F.ETHn_ERR_LINK_DOWN n) = true ∧ t.get (F.ETHn_CNT_Ei n 10) = min (b.get (F.ETHn_CNT_Ei n 10) + 1) (2 ^ 32 - 1)
      ∧ SameOutside [0x10 + n, 0x30] b t ∧ SameMem b t := by
  obtain ⟨lr, ls, lv, lg, -⟩ := b.setLink_spec (v := 0) hn (by decide)
  unfold Block.linkLost
  generalize b.setLink n 0 = c at *
  have hlf : ((c.setBit (F.ETHn_STATUS_LOCAL_FAULT n) lf).setBit (F.ETHn_STATUS_REMOTE_FAULT n) rf).bit (F.ETHn_STATUS_LOCAL_FAULT n) = lf := by
    rw [Block.setBit_eq, Block.setBit_eq, Block.bit_set_apart _ _ rfl rfl]
    cases lf
    · exact Block.bit_set_zero_self _ rfl
    · exact Block.bit_set_one_self _ rfl rfl
  have hrf : ((c.setBit (F.ETHn_STATUS_LOCAL_FAULT n) lf).setBit (F.ETHn_STATUS_REMOTE_FAULT n) rf).bit (F.ETHn_STATUS_REMOTE_FAULT n) = rf := by
    rw [Block.setBit_eq, Block.setBit_eq]
    cases rf
    · exact Block.bit_set_zero_self _ rfl
    · exact Block.bit_set_one_self _ rfl rfl
  have hst : EthStep n c ((c.setBit (F.ETHn_STATUS_LOCAL_FAULT n) lf).setBit (F.ETHn_STATUS_REMOTE_FAULT n) rf) := by
    rw [Block.setBit_eq, Block.setBit_eq]
    exact (ethStep_set c _ (ethStatus_window hn)).trans (ethStep_set _ _ (ethStatus_window hn))
  have hlink : ((c.setBit (F.ETHn_STATUS_LOCAL_FAULT n) lf).setBit (F.ETHn_STATUS_REMOTE_FAULT n) rf).get (F.ETHn_STATUS_LINK n) = 0 := by
    rw [Block.setBit_eq, Block.setBit_eq, Block.get_set_apart _ _ rfl rfl, Block.get_set_apart _ _ rfl rfl, lv]
  have hcnt : ((c.setBit (F.ETHn_STATUS_LOCAL_FAULT n) lf).setBit (F.ETHn_STATUS_REMOTE_FAULT n) rf).get (F.ETHn_CNT_Ei n 10)
      = b.get (F.ETHn_CNT_Ei n 10) := by
    rw [Block.setBit_eq, Block.setBit_eq, Block.get_set_apart _ _ rfl (Fld.apart_of_addr ?_), Block.get_set_apart _ _ rfl (Fld.apart_of_addr ?_),
      lg _ (Fld.apart_of_addr ?_) (Fld.apart_of_addr ?_)]
    all_goals
      simp only [ethCount_addr, ethLink_addr, ethChange_addr, F.ETHn_STATUS_REMOTE_FAULT, F.ETHn_STATUS_LOCAL_FAULT, R.ETHn_STATUS]
      omega
  generalize (c.setBit (F.ETHn_STATUS_LOCAL_FAULT n) lf).setBit (F.ETHn_STATUS_REMOTE_FAULT n) rf = d at *
  obtain ⟨er, es, ev, -, eg⟩ := d.countEthEvent_spec (i := 10) 1 hn (by decide)
  rw [hcnt] at ev
  generalize d.countSat (F.ETHn_CNT_Ei n 10) 1 = u at *
  rw [Block.raise_eq]
  have hf : (E.ETHn_LINK_DOWN n).fld.ok = true ∧ (E.ETHn_LINK_DOWN n).irq.ok = true := ⟨rfl, rfl⟩
  have hap : (E.ETHn_LINK_DOWN n).fld.apart (E.ETHn_LINK_DOWN n).irq = true := Fld.apart_of_addr (by
    show (F.ETHn_ERR_LINK_DOWN n).addr ≠ (F.ETHn_IRQ_STATUS_ERR n).addr
    rw [ethLinkDown_addr, ethIrqErr_addr]
    omega)
  have hkeep (g : Fld) (h1 : g.addr ≠ R.ETHn_ERR n) (h2 : g.addr ≠ R.ETHn_IRQ_STATUS n) (h3 : g.addr / 0x10000 ≠ 0x30) :
      (u.raiseAt (E.ETHn_LINK_DOWN n) noDetail).get g = u.get g :=
    u.get_raiseAt_apart _ hf.1 hf.2 (Fld.apart_of_addr h1) (Fld.apart_of_addr h2) h3
  have hstatus (g : Fld) (ha : g.addr = R.ETHn_STATUS n) : (u.raiseAt (E.ETHn_LINK_DOWN n) noDetail).get g = d.get g := by
    rw [hkeep g ?_ ?_ ?_, eg g ?_] <;> rw [ha] <;> simp only [R.ETHn_STATUS, R.ETHn_ERR, R.ETHn_IRQ_STATUS, R.ETHn_CNT_Ei] <;> omega
  refine ⟨?_, ?_, ?_, ?_, ?_, ?_, ?_⟩
  · rw [hstatus _ rfl, hlink]
  · rw [Block.bit, hstatus _ rfl, ← Block.bit, hlf]
  · rw [Block.bit, hstatus _ rfl, ← Block.bit, hrf]
  · refine Block.bit_raiseAt_self (e := E.ETHn_LINK_DOWN n) u _ rfl rfl rfl hap ?_
    show (F.ETHn_ERR_LINK_DOWN n).addr / 0x10000 ≠ 0x30
    rw [ethLinkDown_addr]
    omega
  · rw [hkeep _ ?_ ?_ ?_, ev] <;> simp only [ethCount_addr, R.ETHn_ERR, R.ETHn_IRQ_STATUS] <;> omega
  · rw [sameOutside_raiseAt _ ?_ ?_ (by simp)]
    · exact (((ls.trans hst).trans es).2.1).mono (by simp)
    · show keyAddr (F.ETHn_ERR_LINK_DOWN n).addr / 0x10000 ∈ _
      rw [ethLinkDown_addr, ethErr_window hn]
      simp
    · show keyAddr (F.ETHn_IRQ_STATUS_ERR n).addr / 0x10000 ∈ _
      rw [ethIrqErr_addr, ethIrq_window hn]
      simp
  · rw [sameMem_raiseAt]
    exact ((ls.trans hst).trans es).sameMem

theorem ethLinkDown_spec {b : Block} {n : Nat} (lf rf : Bool) (hn : n < 2) (hen : b.bit (F.ETHn_CTRL_EN n) = true)
    (h1 : b.get (F.ETHn_STATUS_LINK n) = 1) :
    let t := ethLinkDown n 0 lf rf b
    t.get (F.ETHn_STATUS_LINK n) = 0 ∧ t.bit (F.ETHn_STATUS_LOCAL_FAULT n) = lf ∧ t.bit (F.ETHn_STATUS_REMOTE_FAULT n) = rf
      ∧ t.bit (F.ETHn_ERR_LINK_DOWN n) = true ∧ t.bit (F.ETHn_STATUS_EEE_AGREED n) = false
      ∧ t.get (F.ETHn_CNT_Ei n 10) = min (b.get (F.ETHn_CNT_Ei n 10) + 1) (2 ^ 32 - 1) ∧ SameOutside [0x10 + n, 0x30] b t ∧ SameMem b t := by
  obtain ⟨hl, hlf, hrf, herr, hcnt, hout, hmem⟩ := b.linkLost_spec lf rf hn
  rw [ethLinkDown_eq lf rf hn hen h1]
  generalize b.linkLost n lf rf = c at *
  rw [Block.ethQuiet_eq hl]
  obtain ⟨qs, qa, qg⟩ := c.eeeOff_spec hn
  generalize c.eeeOff n = d at *
  refine ⟨?_, ?_, ?_, ?_, qa, ?_, hout.trans (qs.2.1.mono (by simp)), hmem.trans qs.sameMem⟩
  · rw [qg _ (eeeBeside_status rfl (.inr (of_decide_eq_true rfl))), hl]
  · rw [Block.bit, qg _ (eeeBeside_status rfl (.inl (of_decide_eq_true rfl))), ← Block.bit, hlf]
  · rw [Block.bit, qg _ (eeeBeside_status rfl (.inl (of_decide_eq_true rfl))), ← Block.bit, hrf]
  · rw [Block.bit, qg _ (eeeBeside_of_addr ?_ ?_ ?_), ← Block.bit, herr]
    all_goals
      simp only [ethLinkDown_addr, R.ETHn_STATUS, R.ETHn_CNT_Ti_LO, R.ETHn_CNT_Ti_HI]
      omega
  · rw [qg _ (eeeBeside_of_addr ?_ ?_ ?_), hcnt]
    all_goals
      simp only [ethCount_addr, R.ETHn_STATUS, R.ETHn_CNT_Ti_LO, R.ETHn_CNT_Ti_HI]
      omega

end Sys2Proof.Machine
end

section
/-!
PROOFS of chapter 5: frames received and sent, pauses, next hops and EEE of the Ethernet ports.
-/

namespace Sys2Proof.Machine

/-! ### Received frames (R137, R138) -/

/-- Codewords that needed nothing leave every word. -/
theorem Block.fecCount_zero (b : Block) (n : Nat) : RegsOnly b (b.fecCount n 0 0) ∧ SameWords [] b (b.fecCount n 0 0) := by
  have hsame (c : Block) (f : Fld) (hok : f.ok = true) (hw : f.width = 32) (l : SameWords [] b c) : SameWords [] b (c.countSat f 0) := by
    have hlt : c.get f < 2 ^ f.width := Fld.of_lt _ _
    rw [Block.countSat_eq, sameWords_set_same hok]
    · exact l
    · rw [hw] at hlt ⊢
      omega
  rw [Block.fecCount]
  split
  · refine ⟨?_, ?_⟩
    · exact (regsOnly_set b (F.ETHn_CNT_Ei n 7) _).trans (regsOnly_set _ (F.ETHn_CNT_Ei n 8) _)
    · exact hsame _ _ rfl rfl (hsame b _ rfl rfl (.refl _ b))
  · exact ⟨rfl, .refl _ b⟩

/-- Where no word changes no field does. -/
theorem SameWords.get_nil {b t : Block} (h : SameWords [] b t) (f : Fld) : t.get f = b.get f := by
  rw [Block.get, h _ List.not_mem_nil, Block.get]

/-- A port that runs takes a frame on its sublink 0. -/
theorem ethFrameReceive_eq {b : Block} {n held : Nat} {bs : List Byte} {fcs : Bool} (hn : n < 2) (hen : b.bit (F.ETHn_CTRL_EN n) = true)
    (hg : b.pm.gate = false) (hup : b.subUp n 0 = true) :
    ethFrameReceive n 0 bs fcs held 0 0 b =
      if 524288 < held + bs.length then ((b.fecCount n 0 0).countSat (F.ETHn_CNT_Ei n 4) 1).raise (E.ETHn_RX_OVERRUN n)
      else match (b.fecCount n 0 0).rxFault n bs fcs with
        | some i => (b.fecCount n 0 0).countSat (F.ETHn_CNT_Ei n i) 1
        | none =>
          let (c, d) := ((b.fecCount n 0 0).rxCount n bs).classify n 0 (parseFrame bs)
          let d := d.when (c == .ing || c == .groups) (fun b => b.countPair (F.ETHn_CNT_Ti_LO n 3) (F.ETHn_CNT_Ti_HI n 3) 1)
          let d := d.when (c == .none) (fun b => b.countPair (F.ETHn_CNT_Ti_LO n 4) (F.ETHn_CNT_Ti_HI n 4) 1)
          d.emit (.handed n c) := by
  have hok : b.subOk n 0 = true := by simp [Block.subOk, hn]
  rw [ethFrameReceive]
  dsimp only
  rw [hok, hen, hup, hg, Bool.false_and, if_neg (by decide)]
  rfl

theorem rxFault_lt {b : Block} {n i : Nat} {bs : List Byte} {fcs : Bool} (h : b.rxFault n bs fcs = some i) : i < 16 := by
  rw [Block.rxFault] at h
  split_ifs at h <;> cases h <;> decide

theorem Block.rxFault_congr {b c : Block} {n : Nat} (bs : List Byte) (fcs : Bool)
    (h : c.get (F.ETHn_MAX_FRAME_BYTES n) = b.get (F.ETHn_MAX_FRAME_BYTES n)) : c.rxFault n bs fcs = b.rxFault n bs fcs := by
  rw [Block.rxFault, h, Block.rxFault]

/-- A frame that fails a check is counted there. -/
theorem ethFrameReceive_fault {b : Block} {n held i : Nat} {bs : List Byte} {fcs : Bool} (hn : n < 2) (hen : b.bit (F.ETHn_CTRL_EN n) = true)
    (hg : b.pm.gate = false) (hup : b.subUp n 0 = true) (hroom : held + bs.length ≤ 524288) (hf : b.rxFault n bs fcs = some i) :
    let t := ethFrameReceive n 0 bs fcs held 0 0 b
    t.out = b.out ∧ SameMem b t ∧ t.get (F.ETHn_CNT_Ei n i) = min (b.get (F.ETHn_CNT_Ei n i) + 1) (2 ^ 32 - 1)
      ∧ SameWords [R.ETHn_CNT_Ei n i] b t := by
  obtain ⟨fr, fw⟩ := b.fecCount_zero n
  rw [ethFrameReceive_eq hn hen hg hup, if_neg (by omega)]
  generalize b.fecCount n 0 0 = c at *
  have hget (g : Fld) : c.get g = b.get g := SameWords.get_nil fw g
  rw [Block.rxFault_congr bs fcs (hget _), hf]
  obtain ⟨er, -, ev, ew, -⟩ := c.countEthEvent_spec (i := i) 1 hn (rxFault_lt hf)
  rw [hget] at ev
  dsimp only
  generalize c.countSat (F.ETHn_CNT_Ei n i) 1 = t at *
  exact ⟨by rw [er, fr], fr.sameMem.trans er.sameMem, ev, fun k hk => (ew k hk).trans (fw k List.not_mem_nil)⟩

/-- A frame that finds the receive buffer full is an overrun. -/
theorem ethFrameReceive_overrun {b : Block} {n held : Nat} {bs : List Byte} {fcs : Bool} (hn : n < 2) (hen : b.bit (F.ETHn_CTRL_EN n) = true)
    (hg : b.pm.gate = false) (hup : b.subUp n 0 = true) (hfull : 524288 < held + bs.length) :
    let t := ethFrameReceive n 0 bs fcs held 0 0 b
    t.out = b.out ∧ t.get (F.ETHn_CNT_Ei n 4) = min (b.get (F.ETHn_CNT_Ei n 4) + 1) (2 ^ 32 - 1) ∧ t.bit (F.ETHn_ERR_RX_OVERRUN n) = true
      ∧ SameOutside [0x10 + n] b t ∧ SameMem b t := by
  obtain ⟨fr, fw⟩ := b.fecCount_zero n
  rw [ethFrameReceive_eq hn hen hg hup, if_pos hfull]
  generalize b.fecCount n 0 0 = c at *
  have hget (g : Fld) : c.get g = b.get g := SameWords.get_nil fw g
  have hout : SameOutside [0x10 + n] b c := fun k _ => fw k List.not_mem_nil
  obtain ⟨er, es, ev, -, -⟩ := c.countEthEvent_spec (i := 4) 1 hn (by decide)
  rw [hget] at ev
  generalize c.countSat (F.ETHn_CNT_Ei n 4) 1 = d at *
  rw [Block.raise_eq]
  obtain ⟨rs, -, rb, rg⟩ := d.raiseEth_spec (e := E.ETHn_RX_OVERRUN n) noDetail hn rfl rfl rfl rfl rfl
  generalize d.raiseAt (E.ETHn_RX_OVERRUN n) noDetail = t at *
  refine ⟨by rw [rs.out, er, fr], ?_, rb, (hout.trans es.2.1).trans rs.2.1, (fr.sameMem.trans er.sameMem).trans rs.sameMem⟩
  rw [rg _ ?_ (Fld.apart_of_addr ?_), ev]
  all_goals
    simp only [ethCount_addr, ethIrqErr_addr, R.ETHn_ERR]
    omega

theorem Block.rxCount_spec (b : Block) {n : Nat} (bs : List Byte) (hn : n < 2) :
    let t := b.rxCount n bs
    RegsOnly b t ∧ EthStep n b t
      ∧ t.pair (F.ETHn_CNT_Ti_LO n 1) (F.ETHn_CNT_Ti_HI n 1) = (b.pair (F.ETHn_CNT_Ti_LO n 1) (F.ETHn_CNT_Ti_HI n 1) + 1) % 2 ^ 64 := by
  rw [Block.rxCount]
  dsimp only
  obtain ⟨r0, s0, -, g0⟩ := b.countEth_spec (i := 0) bs.length hn (by decide)
  generalize b.countPair (F.ETHn_CNT_Ti_LO n 0) (F.ETHn_CNT_Ti_HI n 0) bs.length = c at *
  obtain ⟨r1, s1, v1, -⟩ := c.countEth_spec (i := 1) 1 hn (by decide)
  generalize c.countPair (F.ETHn_CNT_Ti_LO n 1) (F.ETHn_CNT_Ti_HI n 1) 1 = d at *
  have hfirst : c.pair (F.ETHn_CNT_Ti_LO n 1) (F.ETHn_CNT_Ti_HI n 1) = b.pair (F.ETHn_CNT_Ti_LO n 1) (F.ETHn_CNT_Ti_HI n 1) := by
    rw [Block.pair, g0 _ ?_ ?_, g0 _ ?_ ?_, Block.pair]
    all_goals
      simp only [ethTrafficLo_addr, ethTrafficHi_addr, R.ETHn_CNT_Ti_LO, R.ETHn_CNT_Ti_HI]
      omega
  rw [hfirst] at v1
  rw [Block.when]
  split
  · obtain ⟨r2, s2, -, g2⟩ := d.countEth_spec (i := 2) 1 hn (by decide)
    generalize d.countPair (F.ETHn_CNT_Ti_LO n 2) (F.ETHn_CNT_Ti_HI n 2) 1 = t at *
    refine ⟨(r0.trans r1).trans r2, (s0.trans s1).trans s2, ?_⟩
    rw [Block.pair, g2 _ ?_ ?_, g2 _ ?_ ?_, ← Block.pair, v1]
    all_goals
      simp only [ethTrafficLo_addr, ethTrafficHi_addr, R.ETHn_CNT_Ti_LO, R.ETHn_CNT_Ti_HI]
      omega
  · exact ⟨r0.trans r1, s0.trans s1, v1⟩

/-- A PTP frame goes to PTP. -/
theorem ethFrameReceive_ptp {b : Block} {n held : Nat} {bs : List Byte} {fcs : Bool} (hn : n < 2) (hen : b.bit (F.ETHn_CTRL_EN n) = true)
    (hg : b.pm.gate = false) (hup : b.subUp n 0 = true) (hroom : held + bs.length ≤ 524288) (hf : b.rxFault n bs fcs = none)
    (hptp : (parseFrame bs).etherType = 0x88F7) :
    let t := ethFrameReceive n 0 bs fcs held 0 0 b
    t.out = .handed n .ptp :: b.out ∧ t.eth = b.eth
      ∧ t.pair (F.ETHn_CNT_Ti_LO n 1) (F.ETHn_CNT_Ti_HI n 1) = (b.pair (F.ETHn_CNT_Ti_LO n 1) (F.ETHn_CNT_Ti_HI n 1) + 1) % 2 ^ 64
      ∧ SameOutside [0x10 + n] b t ∧ SameMem b t := by
  obtain ⟨fr, fw⟩ := b.fecCount_zero n
  rw [ethFrameReceive_eq hn hen hg hup, if_neg (by omega)]
  generalize b.fecCount n 0 0 = c at *
  have hget (g : Fld) : c.get g = b.get g := SameWords.get_nil fw g
  have hout : SameOutside [0x10 + n] b c := fun k _ => fw k List.not_mem_nil
  rw [Block.rxFault_congr bs fcs (hget _), hf]
  obtain ⟨rr, rs, rv⟩ := c.rxCount_spec bs hn
  rw [Block.pair, Block.pair, hget, hget, ← Block.pair, ← Block.pair] at rv
  dsimp only
  generalize c.rxCount n bs = d at *
  have hclass : d.classify n 0 (parseFrame bs) = (.ptp, d) := by
    rw [Block.classify]
    dsimp only
    rw [hptp, if_neg (by decide), if_pos rfl, if_pos rfl]
  rw [hclass]
  have hdo : d.out = b.out := by rw [rr, fr]
  have hde : d.eth = b.eth := by rw [rr, fr]
  dsimp only
  rw [Block.when, if_neg (by decide), Block.when, if_neg (by decide)]
  refine ⟨?_, ?_, ?_, ?_, ?_⟩
  · rw [Block.emit, hdo]
  · rw [Block.emit_eth, hde]
  · rw [Block.pair, Block.emit_get, Block.emit_get, ← Block.pair, rv]
  · rw [sameOutside_emit]
    exact hout.trans rs.2.1
  · rw [sameMem_congr (Block.emit_dram _ _) (Block.emit_qdr _ _)]
    exact fr.sameMem.trans rr.sameMem

end Sys2Proof.Machine
end

section
/-!
PROOFS of chapter 5: pauses, transmission, next hops and EEE of the Ethernet ports, and what the ports' statements say.
-/

namespace Sys2Proof.Machine

/-! ### Pauses (R141, R142) -/

/-- Only the ports' own records change. -/
def EthOnly (b t : Block) : Prop := t = { b with eth := t.eth } ∧ t.eth.length = b.eth.length

theorem EthOnly.refl (b : Block) : EthOnly b b := ⟨rfl, rfl⟩
theorem EthOnly.trans {b c t : Block} (h : EthOnly b c) (k : EthOnly c t) : EthOnly b t := ⟨by rw [k.1, h.1], k.2.trans h.2⟩
theorem EthOnly.regs {b t : Block} (h : EthOnly b t) : t.regs = b.regs := by rw [h.1]
theorem EthOnly.clk {b t : Block} (h : EthOnly b t) : t.clk = b.clk := by rw [h.1]
theorem EthOnly.sameMem {b t : Block} (h : EthOnly b t) : SameMem b t := sameMem_of_eq (by rw [h.1]) (by rw [h.1])
theorem EthOnly.get {b t : Block} (h : EthOnly b t) (f : Fld) : t.get f = b.get f := Block.get_congr h.regs f

theorem ethOnly_onEth (b : Block) (n : Nat) (f : EthPort → EthPort) : EthOnly b (b.onEth n f) := ⟨rfl, b.length_onEth n f⟩

theorem ethOnly_loadPause (b : Block) (n sub cls quanta : Nat) : EthOnly b (b.loadPause n sub cls quanta) := ethOnly_onEth b n _

theorem EthOnly.eth100 {b t : Block} (h : EthOnly b t) (n : Nat) : t.eth100 n = b.eth100 n := by
  rw [Block.eth100, h.get, Block.eth100]

/-- The pauses of a port once a timer is loaded with quanta. -/
theorem Block.pauses_loadPause {b : Block} {n sub cls quanta : Nat} (hn : n < b.eth.length) (h100 : b.eth100 n = true) (hq : 0 < quanta) :
    ((b.loadPause n sub cls quanta).ethPort n).pauses = (b.ethPort n).pauses.filter (fun p => !(p.sub == 0 && p.cls == cls))
      ++ [Pause.mk 0 cls (b.clk + ceilDiv (quanta * 512) 100)] := by
  rw [Block.loadPause]
  dsimp only
  rw [h100, if_pos rfl, if_pos rfl]
  simp only [show quanta ≠ 0 by omega, if_false]
  exact congrArg EthPort.pauses (b.ethPort_onEth (fun q => { q with pauses := q.pauses.filter (fun p => !(p.sub == 0 && p.cls == cls))
    ++ [Pause.mk 0 cls (b.clk + ceilDiv (quanta * 512) 100)] }) hn)

/-- A loaded timer stops its class, and leaves the other classes stopped. -/
theorem Block.mayStart_loadPause {b : Block} {n cls c quanta : Nat} (hn : n < b.eth.length) (h100 : b.eth100 n = true) (hq : 0 < quanta)
    (h : cls = c ∨ b.mayStart n 0 c = false) : (b.loadPause n 0 cls quanta).mayStart n 0 c = false := by
  have hns : 0 < ceilDiv (quanta * 512) 100 := by
    rw [ceilDiv]
    omega
  have hclk : (b.loadPause n 0 cls quanta).clk = b.clk := (ethOnly_loadPause b n 0 cls quanta).clk
  rw [Block.mayStart, Block.pauses_loadPause hn h100 hq, hclk, Bool.not_eq_false', List.any_append, Bool.or_eq_true]
  by_cases hc : cls = c
  · right
    simp [hc, hns]
  · left
    have hb := h.resolve_left hc
    rw [Block.mayStart, Bool.not_eq_false', List.any_eq_true] at hb
    obtain ⟨p, hp, hs⟩ := hb
    rw [List.any_eq_true]
    refine ⟨p, List.mem_filter.mpr ⟨hp, ?_⟩, hs⟩
    simp only [Bool.and_eq_true, beq_iff_eq] at hs
    simp [hs.1.2, Ne.symm hc]

theorem ethOnly_loadPauses (n quanta : Nat) (l : List Nat) (b : Block) : EthOnly b (b.each l (fun c b => b.loadPause n 0 c quanta)) :=
  Block.each_rel (R := EthOnly) EthOnly.refl (fun _ _ _ => EthOnly.trans) l b fun c _ d => ethOnly_loadPause d n 0 c quanta

/-- Every class whose timer is loaded is stopped. -/
theorem Block.mayStart_loadPauses {n c quanta : Nat} (hq : 0 < quanta) : ∀ (l : List Nat) (b : Block), n < b.eth.length → b.eth100 n = true →
    c ∈ l ∨ b.mayStart n 0 c = false → (b.each l (fun c b => b.loadPause n 0 c quanta)).mayStart n 0 c = false
  | [], b, _, _, h => h.resolve_left List.not_mem_nil
  | x :: l, b, hn, h100, h => by
    have ho := ethOnly_loadPause b n 0 x quanta
    have hcons : b.each (x :: l) (fun c b => b.loadPause n 0 c quanta) = (b.loadPause n 0 x quanta).each l (fun c b => b.loadPause n 0 c quanta) := by
      simp only [Block.each, List.foldl_cons]
    rw [hcons]
    refine Block.mayStart_loadPauses hq l _ (by rw [ho.2]; exact hn) (by rw [ho.eth100, h100]) ?_
    rcases h with h | h
    · rcases List.mem_cons.mp h with h | h
      · exact .inr (Block.mayStart_loadPause hn h100 hq (.inl h.symm))
      · exact .inl h
    · exact .inr (Block.mayStart_loadPause hn h100 hq (.inr h))

/-- Both pause frames: the frame is counted, and the timers of the classes in `l` are loaded. -/
theorem pauseLoaded_spec {b : Block} {n c quanta : Nat} {l : List Nat} (hn : n < 2) (hlen : b.eth.length = 2) (h100 : b.eth100 n = true)
    (hq : 0 < quanta) (hc : c ∈ l) :
    let t := (b.countSat (F.ETHn_CNT_Ei n 5) 1).each l (fun c b => b.loadPause n 0 c quanta)
    t.mayStart n 0 c = false ∧ t.get (F.ETHn_CNT_Ei n 5) = min (b.get (F.ETHn_CNT_Ei n 5) + 1) (2 ^ 32 - 1)
      ∧ SameWords [R.ETHn_CNT_Ei n 5] b t ∧ SameMem b t := by
  obtain ⟨er, es, ev, ew, eg⟩ := b.countEthEvent_spec (i := 5) 1 hn (by decide)
  generalize b.countSat (F.ETHn_CNT_Ei n 5) 1 = d at *
  have hmode : d.eth100 n = true := by
    rw [Block.eth100, eg _ (by rw [ethMode_addr, R.ETHn_CNT_Ei]; omega), ← Block.eth100, h100]
  have hstop := Block.mayStart_loadPauses (n := n) (c := c) hq l d (by rw [es.2.2, hlen]; exact hn) hmode (.inl hc)
  have ho := ethOnly_loadPauses n quanta l d
  generalize d.each l (fun c b => b.loadPause n 0 c quanta) = t at *
  exact ⟨hstop, by rw [ho.get, ev], (sameWords_congr ho.regs).mpr ew, er.sameMem.trans ho.sameMem⟩

theorem Block.get_fcCtrl_counted (b : Block) {n : Nat} {g : Fld} (hn : n < 2) (hg : g.addr = R.ETHn_FC_CTRL n) :
    (b.countSat (F.ETHn_CNT_Ei n 5) 1).get g = b.get g := by
  obtain ⟨-, -, -, -, eg⟩ := b.countEthEvent_spec (i := 5) 1 hn (by decide)
  refine eg g ?_
  rw [hg, R.ETHn_FC_CTRL, R.ETHn_CNT_Ei]
  omega

theorem pauseFrame_eq {b : Block} {n c quanta : Nat} (hn : n < 2) (hup : b.subUp n 0 = true) (hc : c < 8)
    (hresp : bitOf (b.get (F.ETHn_FC_CTRL_RESPOND n)) c = true) (hen : b.bit (F.ETHn_FC_CTRL_PAUSE_EN n) = true) :
    pauseFrame n 0 quanta b = (b.countSat (F.ETHn_CNT_Ei n 5) 1).each
      ((List.range 8).filter (fun c => bitOf (b.get (F.ETHn_FC_CTRL_RESPOND n)) c)) (fun c b => b.loadPause n 0 c quanta) := by
  have hok : b.subOk n 0 = true := by simp [Block.subOk, hn]
  have hne : ((List.range 8).filter (fun c => bitOf (b.get (F.ETHn_FC_CTRL_RESPOND n)) c)).isEmpty = false := by
    rw [List.isEmpty_eq_false_iff_exists_mem]
    exact ⟨c, List.mem_filter.mpr ⟨List.mem_range.mpr hc, hresp⟩⟩
  rw [pauseFrame, hok, hup, if_neg (by decide)]
  dsimp only
  rw [Block.bit, Block.get_fcCtrl_counted b hn rfl, Block.get_fcCtrl_counted b hn rfl, ← Block.bit, hen, hne, if_neg (by decide)]

theorem pfc_named {c : Nat} (hc : c < 8) : (List.range 8).filter (fun i => bitOf (2 ^ c) i) = [c] := by
  revert c
  decide

theorem pfcFrame_eq {b : Block} {n c quanta : Nat} (hn : n < 2) (hup : b.subUp n 0 = true) (hc : c < 8)
    (hresp : bitOf (b.get (F.ETHn_FC_CTRL_RESPOND n)) c = true) (hen : b.bit (F.ETHn_FC_CTRL_PFC_EN n) = true) :
    pfcFrame n 0 (2 ^ c) (List.replicate 8 quanta) b = (b.countSat (F.ETHn_CNT_Ei n 5) 1).each [c] (fun c b => b.loadPause n 0 c quanta) := by
  have hok : b.subOk n 0 = true := by simp [Block.subOk, hn]
  have hquanta : (List.replicate 8 quanta).getD c 0 = quanta := by
    rw [List.getD_eq_getElem?_getD, List.getElem?_replicate, if_pos hc]
    rfl
  rw [pfcFrame, hok, hup, if_neg (by decide)]
  dsimp only
  rw [pfc_named hc, Block.bit, Block.get_fcCtrl_counted b hn rfl, ← Block.bit, hen, List.isEmpty_cons, if_neg (by decide)]
  simp only [Block.each, List.foldl_cons, List.foldl_nil]
  rw [Block.get_fcCtrl_counted b hn rfl, hresp, if_pos rfl, hquanta]

/-- A timer that ends lets its class start. -/
theorem pauseTimerExpiry_spec {b : Block} {n sub c : Nat} {x : Pause} (hn : n < 2) (hlen : b.eth.length = 2)
    (hx : (b.ethPort n).pauses.find? (fun q => q.sub == sub && q.cls == c) = some x) :
    let t := pauseTimerExpiry n sub c b
    t.mayStart n sub c = true ∧ t.clk = max b.clk x.stop ∧ SameWords [] b t ∧ SameMem b t := by
  rw [pauseTimerExpiry, hx]
  dsimp only
  have hclk := b.untilClk_clk x.stop
  have hw : SameWords [] b (b.untilClk x.stop) := (sameWords_untilClk [] b b x.stop).mpr (.refl _ b)
  have hm : SameMem b (b.untilClk x.stop) := sameMem_of_eq rfl rfl
  have heth : (b.untilClk x.stop).eth = b.eth := rfl
  generalize b.untilClk x.stop = d at *
  have ho := ethOnly_onEth d n (fun q => { q with pauses := q.pauses.filter (fun y => !(y.sub == sub && y.cls == c)) })
  have hp := d.ethPort_onEth (fun q => { q with pauses := q.pauses.filter (fun y => !(y.sub == sub && y.cls == c)) }) (n := n)
    (by rw [heth, hlen]; exact hn)
  refine ⟨?_, by rw [ho.clk, hclk], (sameWords_congr ho.regs).mpr hw, hm.trans ho.sameMem⟩
  rw [Block.mayStart, hp, Bool.not_eq_true', List.any_eq_false]
  intro y hy hs
  have hf := (List.mem_filter.mp hy).2
  simp only [Bool.and_eq_true, beq_iff_eq] at hs
  simp [hs.1.1, hs.1.2] at hf

/-! ### Transmission (R140, R142) -/

theorem ethFrameTransmit_spec {b : Block} {n : Nat} {f : TxFrame} (hn : n < 2) (hlen : b.eth.length = 2) (hup : b.subUp n 0 = true)
    (hg : b.pm.gate = false) (hlpi : (b.ethPort n).lpiFrom = none) (hf : b.nextFrameOut n 0 = some f) :
    let t := ethFrameTransmit n 0 b
    t.out = f.item :: b.out ∧ (t.ethPort n).queue = dropFirst f (b.ethPort n).queue
      ∧ t.pair (F.ETHn_CNT_Ti_LO n 6) (F.ETHn_CNT_Ti_HI n 6) = (b.pair (F.ETHn_CNT_Ti_LO n 6) (F.ETHn_CNT_Ti_HI n 6) + 1) % 2 ^ 64
      ∧ SameOutside [0x10 + n] b t ∧ SameMem b t := by
  have hok : b.subOk n 0 = true := by simp [Block.subOk, hn]
  rw [ethFrameTransmit, hok, hup, hg, hlpi, if_neg (by decide), hf]
  dsimp only
  have ho := ethOnly_onEth b n (fun q => { q with queue := dropFirst f q.queue, lastBusy := b.clk })
  have hp := congrArg EthPort.queue (b.ethPort_onEth (fun q => { q with queue := dropFirst f q.queue, lastBusy := b.clk }) (n := n) (by omega))
  dsimp only at hp
  have ho' : (b.onEth n (fun q => { q with queue := dropFirst f q.queue, lastBusy := b.clk })).out = b.out := rfl
  generalize b.onEth n (fun q => { q with queue := dropFirst f q.queue, lastBusy := b.clk }) = c at *
  obtain ⟨r0, s0, -, g0⟩ := c.countEth_spec (i := 5) f.len hn (by decide)
  generalize c.countPair (F.ETHn_CNT_Ti_LO n 5) (F.ETHn_CNT_Ti_HI n 5) f.len = d at *
  obtain ⟨r1, s1, v1, -⟩ := d.countEth_spec (i := 6) 1 hn (by decide)
  generalize d.countPair (F.ETHn_CNT_Ti_LO n 6) (F.ETHn_CNT_Ti_HI n 6) 1 = u at *
  have hpair : d.pair (F.ETHn_CNT_Ti_LO n 6) (F.ETHn_CNT_Ti_HI n 6) = b.pair (F.ETHn_CNT_Ti_LO n 6) (F.ETHn_CNT_Ti_HI n 6) := by
    rw [Block.pair, g0 _ ?_ ?_, g0 _ ?_ ?_, ho.get, ho.get, Block.pair]
    all_goals
      simp only [ethTrafficLo_addr, ethTrafficHi_addr, R.ETHn_CNT_Ti_LO, R.ETHn_CNT_Ti_HI]
      omega
  have hue : u.eth = c.eth := by rw [r1, r0]
  refine ⟨?_, ?_, ?_, ?_, ?_⟩
  · rw [Block.emit, r1, r0, ho']
  · rw [Block.ethPort, Block.emit_eth, hue, ← Block.ethPort, hp]
  · rw [Block.pair, Block.emit_get, Block.emit_get, ← Block.pair, v1, hpair]
  · rw [sameOutside_emit]
    exact (((sameOutside_congr ho.regs).mpr (.refl _ b)).trans s0.2.1).trans s1.2.1
  · rw [sameMem_congr (Block.emit_dram _ _) (Block.emit_qdr _ _)]
    exact (ho.sameMem.trans r0.sameMem).trans r1.sameMem

/-! ### Next hops (R139) -/

/-- Every frame that waited is dropped. -/
theorem Block.txDrops_spec {n : Nat} (hn : n < 2) : ∀ (l : List TxFrame) (b : Block),
    let t := b.each l (fun _ b => b.txDrop n)
    EthStep n b t ∧ t.eth = b.eth ∧ t.get (F.ETHn_CNT_Ei n 9) = min (b.get (F.ETHn_CNT_Ei n 9) + l.length) (2 ^ 32 - 1)
  | [], b => by
    have hlt : b.get (F.ETHn_CNT_Ei n 9) < 2 ^ 32 := Fld.of_lt (F.ETHn_CNT_Ei n 9) _
    exact ⟨.refl n b, rfl, by simp only [Block.each, List.foldl_nil, List.length_nil]; omega⟩
  | x :: l, b => by
    have hcons : b.each (x :: l) (fun _ b => b.txDrop n) = (b.txDrop n).each l (fun _ b => b.txDrop n) := by
      simp only [Block.each, List.foldl_cons]
    obtain ⟨ds, de, dv⟩ := b.txDrop_spec hn
    obtain ⟨ks, ke, kv⟩ := Block.txDrops_spec hn l (b.txDrop n)
    rw [hcons]
    generalize b.txDrop n = c at *
    refine ⟨ds.1.trans ks, ke.trans de, ?_⟩
    rw [kv, dv, List.length_cons]
    omega

/-- A port whose only next hop is due forgets it. -/
theorem Block.hopGone_spec {b : Block} {n : Nat} {h : Hop} (hn : n < 2) (hlen : b.eth.length = 2) (hh : (b.ethPort n).hops = [h]) :
    let t := (b.untilClk h.due).onEth n (fun q => { q with hops := q.hops.filter (fun g => !(g.v6 == h.v6 && g.ip == h.ip)) })
    (t.ethPort n).hops = [] ∧ t.clk = max b.clk h.due ∧ SameWords [] b t ∧ SameMem b t ∧ t.eth.length = b.eth.length := by
  dsimp only
  have hclk := b.untilClk_clk h.due
  have hw : SameWords [] b (b.untilClk h.due) := (sameWords_untilClk [] b b h.due).mpr (.refl _ b)
  have hm : SameMem b (b.untilClk h.due) := sameMem_of_eq rfl rfl
  have heth : (b.untilClk h.due).eth = b.eth := rfl
  have hhd : ((b.untilClk h.due).ethPort n).hops = [h] := hh
  generalize b.untilClk h.due = d at *
  have ho := ethOnly_onEth d n (fun q => { q with hops := q.hops.filter (fun g => !(g.v6 == h.v6 && g.ip == h.ip)) })
  have hp := congrArg EthPort.hops (d.ethPort_onEth (fun q => { q with hops := q.hops.filter (fun g => !(g.v6 == h.v6 && g.ip == h.ip)) }) (n := n)
    (by rw [heth, hlen]; exact hn))
  dsimp only at hp
  refine ⟨?_, by rw [ho.clk, hclk], (sameWords_congr ho.regs).mpr hw, hm.trans ho.sameMem, by rw [ho.2, heth]⟩
  rw [hp, hhd]
  simp

theorem Block.firstHop_only {b : Block} {n : Nat} {h : Hop} {r : Bool} (hh : (b.ethPort n).hops = [h]) (hr : h.resolved = r) :
    b.firstHop n r = some h := by
  rw [Block.firstHop, hh, List.filter_cons, hr]
  simp

theorem nextHopTimeout_spec {b : Block} {n : Nat} {h : Hop} (hn : n < 2) (hlen : b.eth.length = 2) (hh : (b.ethPort n).hops = [h])
    (hr : h.resolved = false) :
    let t := nextHopTimeout n b
    (t.ethPort n).hops = [] ∧ t.clk = max b.clk h.due
      ∧ t.get (F.ETHn_CNT_Ei n 9) = min (b.get (F.ETHn_CNT_Ei n 9) + h.waiting.length) (2 ^ 32 - 1) ∧ SameOutside [0x10 + n] b t ∧ SameMem b t := by
  rw [nextHopTimeout, Block.firstHop_only hh hr]
  dsimp only
  obtain ⟨gh, gc, gw, gm, -⟩ := Block.hopGone_spec hn hlen hh
  generalize (b.untilClk h.due).onEth n (fun q => { q with hops := q.hops.filter (fun g => !(g.v6 == h.v6 && g.ip == h.ip)) }) = c at *
  obtain ⟨ks, ke, kv⟩ := Block.txDrops_spec hn h.waiting c
  generalize c.each h.waiting (fun _ b => b.txDrop n) = t at *
  refine ⟨?_, by rw [ks.clk, gc], by rw [kv, gw.get_nil], ?_, gm.trans ks.sameMem⟩
  · rw [Block.ethPort, ke, ← Block.ethPort, gh]
  · have hout : SameOutside [0x10 + n] b c := fun k _ => gw k List.not_mem_nil
    exact hout.trans ks.2.1

theorem nextHopExpiry_spec {b : Block} {n : Nat} {h : Hop} (hn : n < 2) (hlen : b.eth.length = 2) (hh : (b.ethPort n).hops = [h])
    (hr : h.resolved = true) :
    let t := nextHopExpiry n b
    (t.ethPort n).hops = [] ∧ t.clk = max b.clk h.due ∧ SameWords [] b t ∧ SameMem b t := by
  rw [nextHopExpiry, Block.firstHop_only hh hr]
  obtain ⟨gh, gc, gw, gm, -⟩ := Block.hopGone_spec hn hlen hh
  exact ⟨gh, gc, gw, gm⟩

/-! ### Energy-Efficient Ethernet (R143) -/

theorem lpiEntry_spec {b : Block} {n : Nat} (hn : n < 2) (hlen : b.eth.length = 2) (ha : b.bit (F.ETHn_STATUS_EEE_AGREED n) = true)
    (hg : b.pm.gate = false) (hl : (b.ethPort n).lpiFrom = none) (hq : (b.ethPort n).queue = []) (hmon : b.monitorOn n = false) :
    let t := lpiEntry n b
    t.bit (F.ETHn_STATUS_LPI_TX n) = true ∧ (t.ethPort n).lpiFrom = some t.clk
      ∧ t.clk = max b.clk ((b.ethPort n).lastBusy + b.get (F.ETHn_EEE_IDLE_US n) * 1000) ∧ SameOutside [0x10 + n] b t ∧ SameMem b t := by
  rw [lpiEntry]
  dsimp only
  rw [ha, hl, hq, hmon, hg, if_neg (by decide)]
  have hclk := b.untilClk_clk ((b.ethPort n).lastBusy + b.get (F.ETHn_EEE_IDLE_US n) * 1000)
  have hw : SameOutside [0x10 + n] b (b.untilClk ((b.ethPort n).lastBusy + b.get (F.ETHn_EEE_IDLE_US n) * 1000)) :=
    (sameOutside_untilClk _ b b _).mpr (.refl _ b)
  have hm : SameMem b (b.untilClk ((b.ethPort n).lastBusy + b.get (F.ETHn_EEE_IDLE_US n) * 1000)) := sameMem_of_eq rfl rfl
  have heth : (b.untilClk ((b.ethPort n).lastBusy + b.get (F.ETHn_EEE_IDLE_US n) * 1000)).eth = b.eth := rfl
  generalize b.untilClk ((b.ethPort n).lastBusy + b.get (F.ETHn_EEE_IDLE_US n) * 1000) = c at *
  have ho := ethOnly_onEth c n (fun q => { q with lpiFrom := some c.clk })
  have hp := congrArg EthPort.lpiFrom (c.ethPort_onEth (fun q => { q with lpiFrom := some c.clk }) (n := n) (by rw [heth, hlen]; exact hn))
  dsimp only at hp
  generalize c.onEth n (fun q => { q with lpiFrom := some c.clk }) = d at *
  have hs := ethStep_set d (f := F.ETHn_STATUS_LPI_TX n) 1 (ethStatus_window hn)
  have hbit : (d.set (F.ETHn_STATUS_LPI_TX n) 1).bit (F.ETHn_STATUS_LPI_TX n) = true := Block.bit_set_one_self _ rfl rfl
  have hde := d.set_eth (F.ETHn_STATUS_LPI_TX n) 1
  generalize d.set (F.ETHn_STATUS_LPI_TX n) 1 = e at *
  obtain ⟨er, es, -, -, eg⟩ := e.countEthEvent_spec (i := 12) 1 hn (by decide)
  generalize e.countSat (F.ETHn_CNT_Ei n 12) 1 = t at *
  have hclkt : t.clk = c.clk := by rw [er.clk, hs.clk, ho.clk]
  have hte : t.eth = d.eth := by rw [er, hde]
  refine ⟨?_, ?_, by rw [hclkt, hclk], ?_, ((hm.trans ho.sameMem).trans hs.sameMem).trans es.sameMem⟩
  · rw [Block.bit, eg _ (by rw [ethLpiTx_addr, R.ETHn_CNT_Ei]; omega), ← Block.bit, hbit]
  · rw [Block.ethPort, hte, ← Block.ethPort, hp, hclkt]
  · exact ((hw.trans ((sameOutside_congr ho.regs).mpr (.refl _ c))).trans hs.2.1).trans es.2.1

theorem lpiWake_spec {b : Block} {n : Nat} (hn : n < 2) (hlen : b.eth.length = 2) (hl : (b.ethPort n).lpiFrom ≠ none)
    (hq : (b.ethPort n).queue ≠ []) :
    let t := lpiWake n b
    t.bit (F.ETHn_STATUS_LPI_TX n) = false ∧ (t.ethPort n).lpiFrom = none ∧ t.clk = b.clk + b.get (F.ETHn_EEE_STATUS_TW_TX_NS n)
      ∧ SameOutside [0x10 + n] b t ∧ SameMem b t := by
  have hl' : (b.ethPort n).lpiFrom.isNone = false := by
    rw [← Bool.not_eq_true, Option.isNone_iff_eq_none]
    exact hl
  have hq' : (b.ethPort n).queue.isEmpty = false := by
    rw [← Bool.not_eq_true, List.isEmpty_iff]
    exact hq
  obtain ⟨hs, -, he⟩ := b.lpiEnd_spec hn
  obtain ⟨hbit, hport⟩ := he hl (by omega)
  rw [lpiWake]
  dsimp only
  rw [hl', hq', if_neg (by decide)]
  generalize b.lpiEnd n = c at *
  refine ⟨by rw [Block.untilClk_bit, hbit], hport, ?_, ?_, ?_⟩
  · rw [Block.untilClk_clk, hs.clk]
    omega
  · rw [sameOutside_untilClk]
    exact hs.2.1
  · rw [sameMem_congr (Block.untilClk_dram _ _) (Block.untilClk_qdr _ _)]
    exact hs.sameMem

theorem lldpSend_spec {b : Block} {n : Nat} (hn : n < 2) (hlen : b.eth.length = 2) (ha : b.bit (F.ETHn_STATUS_EEE_AGREED n) = true)
    (hl : (b.ethPort n).lldpAnswer = false) :
    let t := lldpSend n b
    t.clk = max b.clk (b.ethPort n).lldpDue ∧ (t.ethPort n).lldpDue = t.clk + 30000000000 ∧ SameMem b t := by
  rw [lldpSend]
  dsimp only
  rw [ha, hl, if_neg (by decide), if_neg (by decide)]
  have hclk := b.untilClk_clk (b.ethPort n).lldpDue
  have hm : SameMem b (b.untilClk (b.ethPort n).lldpDue) := sameMem_of_eq rfl rfl
  have heth : (b.untilClk (b.ethPort n).lldpDue).eth = b.eth := rfl
  have hans : ((b.untilClk (b.ethPort n).lldpDue).ethPort n).lldpAnswer = false := hl
  generalize b.untilClk (b.ethPort n).lldpDue = c at *
  have ho := ethOnly_onEth c n (fun q => { q with lldpAnswer := false, lldpDue := if q.lldpAnswer then q.lldpDue else c.clk + 30000000000 })
  have hp := congrArg EthPort.lldpDue (c.ethPort_onEth
    (fun q => { q with lldpAnswer := false, lldpDue := if q.lldpAnswer then q.lldpDue else c.clk + 30000000000 }) (n := n)
    (by rw [heth, hlen]; exact hn))
  dsimp only at hp
  rw [hans, if_neg (by decide)] at hp
  generalize c.onEth n (fun q => { q with lldpAnswer := false, lldpDue := if q.lldpAnswer then q.lldpDue else c.clk + 30000000000 }) = d at *
  have hq := ethSends_ethQueue d (d.txFrame n 0 (d.get (F.ETHn_TX_PCP_MSG n)) 0 46 (.lldp n (d.get (F.ETHn_EEE_STATUS_TW_TX_NS n)))) hn
  generalize d.ethQueue n (d.txFrame n 0 (d.get (F.ETHn_TX_PCP_MSG n)) 0 46 (.lldp n (d.get (F.ETHn_EEE_STATUS_TW_TX_NS n)))) = t at *
  obtain ⟨qs, -, qd⟩ := hq
  refine ⟨by rw [qs.clk, ho.clk, hclk], ?_, (hm.trans ho.sameMem).trans qs.sameMem⟩
  rw [qd, hp, qs.clk, ho.clk]

theorem lldpReceive_spec {b : Block} {n tw : Nat} (hn : n < 2) (hlen : b.eth.length = 2) (ha : b.bit (F.ETHn_STATUS_EEE_AGREED n) = true) :
    let t := lldpReceive n tw b
    t.bit (F.ETHn_EEE_STATUS_LLDP_SEEN n) = true ∧ (t.ethPort n).partnerTw = tw % 65536 ∧ SameWords [R.ETHn_EEE_STATUS n] b t ∧ SameMem b t := by
  rw [lldpReceive, ha, if_neg (by simp; omega)]
  dsimp only
  generalize ((b.ethPort n).partnerTw != tw % 65536) = changed
  have hbit : (b.set (F.ETHn_EEE_STATUS_LLDP_SEEN n) 1).bit (F.ETHn_EEE_STATUS_LLDP_SEEN n) = true := Block.bit_set_one_self _ rfl rfl
  have hw : SameWords [R.ETHn_EEE_STATUS n] b (b.set (F.ETHn_EEE_STATUS_LLDP_SEEN n) 1) :=
    (sameWords_set (f := F.ETHn_EEE_STATUS_LLDP_SEEN n) 1 (List.mem_singleton.mpr rfl)).mpr (.refl _ b)
  have hm : SameMem b (b.set (F.ETHn_EEE_STATUS_LLDP_SEEN n) 1) := (regsOnly_set b _ 1).sameMem
  have heth := b.set_eth (F.ETHn_EEE_STATUS_LLDP_SEEN n) 1
  generalize b.set (F.ETHn_EEE_STATUS_LLDP_SEEN n) 1 = c at *
  have ho := ethOnly_onEth c n (fun q => { q with partnerTw := tw % 65536, lldpAnswer := q.lldpAnswer || changed })
  have hp := congrArg EthPort.partnerTw (c.ethPort_onEth (fun q => { q with partnerTw := tw % 65536, lldpAnswer := q.lldpAnswer || changed })
    (n := n) (by rw [heth, hlen]; exact hn))
  dsimp only at hp
  generalize c.onEth n (fun q => { q with partnerTw := tw % 65536, lldpAnswer := q.lldpAnswer || changed }) = d at *
  rw [Block.setWakeTime]
  refine ⟨?_, ?_, ?_, ?_⟩
  · rw [Block.bit_set_apart _ _ rfl rfl, Block.bit, ho.get, ← Block.bit, hbit]
  · rw [Block.ethPort, Block.set_eth, ← Block.ethPort, hp]
  · exact (sameWords_set (f := F.ETHn_EEE_STATUS_TW_TX_NS n) _ (List.mem_singleton.mpr rfl)).mpr ((sameWords_congr ho.regs).mpr hw)
  · exact (hm.trans ho.sameMem).trans (regsOnly_set d _ _).sameMem

theorem partnerLpi_spec {b : Block} {n : Nat} (enter : Bool) (hn : n < 2) (ha : b.bit (F.ETHn_STATUS_EEE_AGREED n) = true) :
    let t := partnerLpi n enter b
    t.bit (F.ETHn_STATUS_LPI_RX n) = enter ∧ SameWords [R.ETHn_STATUS n] b t ∧ SameMem b t := by
  rw [partnerLpi, if_pos ⟨hn, ha⟩, Block.setBit_eq]
  refine ⟨?_, (sameWords_set (f := F.ETHn_STATUS_LPI_RX n) _ (List.mem_singleton.mpr rfl)).mpr (.refl _ b), (regsOnly_set b _ _).sameMem⟩
  cases enter
  · exact Block.bit_set_zero_self _ rfl
  · exact Block.bit_set_one_self _ rfl rfl

/-- Settles O55, command by command. -/
theorem ethernetPorts : Obligations.EthernetPorts := by
  unfold Obligations.EthernetPorts
  refine ⟨fun b p n v hr hn hlen hgate hen => ⟨fun hwas hmode => ?_, fun hwas => ?_⟩, fun b p n v hr hn hlen hgate hen hwas hhops => ?_,
    fun b n eee hr hn hlen h100 hen ht h0 => ?_, fun b n lf rf hr hn hen h1 => ?_,
    fun b n held bs fcs hr hn hen hg hup => ⟨fun i hroom hf => ?_, fun hfull => ?_, fun hroom hf hptp => ?_⟩,
    fun b n c quanta hr hn hlen h100 hup hc hq hresp => ⟨fun hen => ?_, fun hen => ?_⟩, fun b n sub c x hr hn hlen hx => ?_,
    fun b n f hr hn hlen hup hg hlpi hf => ?_, fun b n h hr hn hlen hh => ⟨fun hres => ?_, fun hres => ?_⟩,
    fun b n hr hn hlen ha hg => ⟨fun hl hq hmon => ?_, fun hl hq => ?_, fun hl => ?_⟩,
    fun b n tw enter hr hn hlen ha => ⟨?_, ?_⟩⟩
  · obtain ⟨k1, k2, k3, k4, k5, k6⟩ := ethCtrl_starts_spec hn hlen hen hwas hmode
    exact gives_of_writing (f := ethCtrl n v) hr hgate (fun _ => rfl) ⟨k1, k2, k3, k4, k5, k6⟩
  · refine gives_of_writing (f := ethCtrl n v) hr hgate (fun _ => rfl) ?_
    rw [ethCtrl_kept hn hen hwas]
    refine ⟨by rw [Block.settle_eth, Block.set_eth], ?_, (regsOnly_set b (F.ETHn_CTRL_EN n) 1).sameMem⟩
    rw [sameWords_settle, sameWords_set_same rfl (by rw [Block.get_of_bit rfl hwas]; rfl)]
    exact .refl _ b
  · obtain ⟨k1, k2, k3, k4, k5⟩ := ethCtrl_stops_spec hn hlen hen hwas hhops
    exact gives_of_writing (f := ethCtrl n v) hr hgate (fun _ => rfl) ⟨k1, k2, k3, k4, k5⟩
  · obtain ⟨k1, k2, k3, k4, k5⟩ := ethLinkUp_spec eee hn hlen h100 hen ht h0
    exact gives_of_done (t := ethLinkUp n 0 eee b) hr (fun _ => rfl) ⟨k1, k2, k3, k4, k5⟩
  · obtain ⟨k1, k2, k3, k4, k5, k6, k7, k8⟩ := ethLinkDown_spec lf rf hn hen h1
    exact gives_of_done (t := ethLinkDown n 0 lf rf b) hr (fun _ => rfl) ⟨k1, k2, k3, k4, k5, k6, k7, k8⟩
  · obtain ⟨k1, k2, k3, k4⟩ := ethFrameReceive_fault hn hen hg hup hroom hf
    exact gives_of_done (t := ethFrameReceive n 0 bs fcs held 0 0 b) hr (fun _ => rfl) ⟨k1, k2, k3, k4⟩
  · obtain ⟨k1, k2, k3, k4, k5⟩ := ethFrameReceive_overrun (fcs := fcs) hn hen hg hup hfull
    exact gives_of_done (t := ethFrameReceive n 0 bs fcs held 0 0 b) hr (fun _ => rfl) ⟨k1, k2, k3, k4, k5⟩
  · obtain ⟨k1, k2, k3, k4, k5⟩ := ethFrameReceive_ptp hn hen hg hup hroom hf hptp
    exact gives_of_done (t := ethFrameReceive n 0 bs fcs held 0 0 b) hr (fun _ => rfl) ⟨k1, k2, k3, k4, k5⟩
  · obtain ⟨k1, k2, k3, k4⟩ := pauseLoaded_spec (l := (List.range 8).filter (fun c => bitOf (b.get (F.ETHn_FC_CTRL_RESPOND n)) c))
      hn hlen h100 hq (List.mem_filter.mpr ⟨List.mem_range.mpr hc, hresp⟩)
    rw [← pauseFrame_eq hn hup hc hresp hen] at k1 k2 k3 k4
    exact gives_of_done (t := pauseFrame n 0 quanta b) hr (fun _ => rfl) ⟨k1, k2, k3, k4⟩
  · obtain ⟨k1, k2, k3, k4⟩ := pauseLoaded_spec (l := [c]) hn hlen h100 hq (List.mem_singleton.mpr rfl)
    rw [← pfcFrame_eq hn hup hc hresp hen] at k1 k2 k3 k4
    exact gives_of_done (t := pfcFrame n 0 (2 ^ c) (List.replicate 8 quanta) b) hr (fun _ => rfl) ⟨k1, k2, k3, k4⟩
  · obtain ⟨k1, k2, k3, k4⟩ := pauseTimerExpiry_spec hn hlen hx
    exact gives_of_done (t := pauseTimerExpiry n sub c b) hr (fun _ => rfl) ⟨k1, k2, k3, k4⟩
  · obtain ⟨k1, k2, k3, k4, k5⟩ := ethFrameTransmit_spec hn hlen hup hg hlpi hf
    exact gives_of_done (t := ethFrameTransmit n 0 b) hr (fun _ => rfl) ⟨k1, k2, k3, k4, k5⟩
  · obtain ⟨k1, k2, k3, k4, k5⟩ := nextHopTimeout_spec hn hlen hh hres
    exact gives_of_done (t := nextHopTimeout n b) hr (fun _ => rfl) ⟨k1, k2, k3, k4, k5⟩
  · obtain ⟨k1, k2, k3, k4⟩ := nextHopExpiry_spec hn hlen hh hres
    exact gives_of_done (t := nextHopExpiry n b) hr (fun _ => rfl) ⟨k1, k2, k3, k4⟩
  · obtain ⟨k1, k2, k3, k4, k5⟩ := lpiEntry_spec hn hlen ha hg hl hq hmon
    exact gives_of_done (t := lpiEntry n b) hr (fun _ => rfl) ⟨k1, k2, k3, k4, k5⟩
  · obtain ⟨k1, k2, k3, k4, k5⟩ := lpiWake_spec hn hlen hl hq
    exact gives_of_done (t := lpiWake n b) hr (fun _ => rfl) ⟨k1, k2, k3, k4, k5⟩
  · obtain ⟨k1, k2, k3⟩ := lldpSend_spec hn hlen ha hl
    exact gives_of_done (t := lldpSend n b) hr (fun _ => rfl) ⟨k1, k2, k3⟩
  · obtain ⟨k1, k2, k3, k4⟩ := lldpReceive_spec (tw := tw) hn hlen ha
    exact gives_of_done (t := lldpReceive n tw b) hr (fun _ => rfl) ⟨k1, k2, k3, k4⟩
  · obtain ⟨k1, k2, k3⟩ := partnerLpi_spec enter hn ha
    exact gives_of_done (t := partnerLpi n enter b) hr (fun _ => rfl) ⟨k1, k2, k3⟩

end Sys2Proof.Machine
end

section
/-!
PROOFS of chapter 5: the streams that ING receives, their merge, and the monitoring sender.
-/

namespace Sys2Proof.Machine

/-! ### Where ING's registers stand -/

section
variable (s i : Nat)
@[simp] theorem ingStatusA_addr : (F.ING_STRs_STATUS_PATH_A_UP s).addr = 0x121080 + 0x100 * s := rfl
@[simp] theorem ingStatusB_addr : (F.ING_STRs_STATUS_PATH_B_UP s).addr = 0x121080 + 0x100 * s := rfl
@[simp] theorem ingReceiving_addr : (F.ING_STRs_STATUS_RECEIVING s).addr = 0x121080 + 0x100 * s := rfl
@[simp] theorem ingErrPt_addr : (F.ING_STRs_ERR_PT s).addr = 0x121084 + 0x100 * s := rfl
@[simp] theorem ingErrDown_addr : (F.ING_STRs_ERR_PATH_DOWN s).addr = 0x121084 + 0x100 * s := rfl
@[simp] theorem ingErrBoth_addr : (F.ING_STRs_ERR_BOTH_DOWN s).addr = 0x121084 + 0x100 * s := rfl
@[simp] theorem ingTrafficLo_addr : (F.ING_STRs_CNT_Ti_LO s i).addr = 0x1210A0 + 0x100 * s + 0x8 * i := rfl
@[simp] theorem ingTrafficHi_addr : (F.ING_STRs_CNT_Ti_HI s i).addr = 0x1210A4 + 0x100 * s + 0x8 * i := rfl
@[simp] theorem ingCount_addr : (F.ING_STRs_CNT_Ei s i).addr = 0x1210C0 + 0x100 * s + 0x4 * i := rfl
@[simp] theorem ingPt_addr : (F.ING_STRs_CTRL_PT s).addr = 0x121000 + 0x100 * s := rfl
@[simp] theorem ingChange_addr : F.ING_IRQ_STATUS_PATH_CHANGE.addr = 0x127FF0 := rfl
@[simp] theorem ingIrqErr_addr : F.ING_IRQ_STATUS_ERR.addr = 0x127FF0 := rfl
end

/-- A register of a stream lies in ING's window. -/
theorem ingWindow {s k : Nat} (hs : s < 16) (hk : k < 0x100) : keyAddr (0x121000 + k + 0x100 * s) / 0x10000 = 0x12 := by
  rw [keyAddr]
  split_ifs <;> omega

theorem ingStatus_window {s : Nat} (hs : s < 16) : keyAddr (0x121080 + 0x100 * s) / 0x10000 = 0x12 := ingWindow (k := 0x80) hs (by decide)

theorem ingErr_window {s : Nat} (hs : s < 16) : keyAddr (0x121084 + 0x100 * s) / 0x10000 = 0x12 := ingWindow (k := 0x84) hs (by decide)

theorem ingCount_window {s i : Nat} (hs : s < 16) (hi : i < 8) : keyAddr (0x1210C0 + 0x100 * s + 0x4 * i) / 0x10000 = 0x12 := by
  rw [show 0x1210C0 + 0x100 * s + 0x4 * i = 0x121000 + (0xC0 + 0x4 * i) + 0x100 * s by omega]
  exact ingWindow hs (by omega)

theorem ingTraffic_window {s i : Nat} (hs : s < 16) (hi : i < 4) : keyAddr (0x1210A0 + 0x100 * s + 0x8 * i) / 0x10000 = 0x12
    ∧ keyAddr (0x1210A4 + 0x100 * s + 0x8 * i) / 0x10000 = 0x12 := by
  constructor
  · rw [show 0x1210A0 + 0x100 * s + 0x8 * i = 0x121000 + (0xA0 + 0x8 * i) + 0x100 * s by omega]
    exact ingWindow hs (by omega)
  · rw [show 0x1210A4 + 0x100 * s + 0x8 * i = 0x121000 + (0xA4 + 0x8 * i) + 0x100 * s by omega]
    exact ingWindow hs (by omega)

theorem ingIrq_window : keyAddr 0x127FF0 / 0x10000 = 0x12 := by decide

/-! ### Steps of ING -/

/-- Registers of ING's window and ING's own records change. -/
def IngStep (b t : Block) : Prop := t = { b with regs := t.regs, ing := t.ing } ∧ SameOutside [0x12] b t

section
variable {b c t : Block}
theorem IngStep.refl (b : Block) : IngStep b b := ⟨rfl, .refl _ b⟩
theorem IngStep.trans (h : IngStep b c) (k : IngStep c t) : IngStep b t := ⟨by rw [k.1, h.1], h.2.trans k.2⟩
theorem IngStep.clk (h : IngStep b t) : t.clk = b.clk := by rw [h.1]
theorem IngStep.sameMem (h : IngStep b t) : SameMem b t := sameMem_of_eq (by rw [h.1]) (by rw [h.1])
end

theorem ingStep_set (b : Block) {f : Fld} (v : Nat) (h : keyAddr f.addr / 0x10000 = 0x12) : IngStep b (b.set f v) :=
  ⟨rfl, (sameOutside_set v (by simp [h])).mpr (.refl _ b)⟩

theorem Block.regs_onIng (b : Block) (s : Nat) (f : IngStream → IngStream) : (b.onIng s f).regs = b.regs := rfl
theorem Block.clk_onIng (b : Block) (s : Nat) (f : IngStream → IngStream) : (b.onIng s f).clk = b.clk := rfl

theorem Block.get_onIng (b : Block) (s : Nat) (f : IngStream → IngStream) (g : Fld) : (b.onIng s f).get g = b.get g :=
  Block.get_congr (b.regs_onIng s f) g

theorem ingStep_onIng (b : Block) (s : Nat) (f : IngStream → IngStream) : IngStep b (b.onIng s f) :=
  ⟨rfl, (sameOutside_congr (b.regs_onIng s f)).mpr (.refl _ b)⟩

theorem Block.length_onIng (b : Block) (s : Nat) (f : IngStream → IngStream) : (b.onIng s f).ing.streams.length = b.ing.streams.length := by
  simp [Block.onIng]

theorem Block.stream_onIng {b : Block} {s : Nat} (f : IngStream → IngStream) (h : s < b.ing.streams.length) :
    (b.onIng s f).stream s = f (b.stream s) := by
  simp [Block.stream, Block.onIng, h]

theorem Block.stream_congr {b t : Block} (h : t.ing = b.ing) (s : Nat) : t.stream s = b.stream s := by
  rw [Block.stream, h, Block.stream]

/-- A traffic counter of a stream counts. -/
theorem Block.countIng_spec (b : Block) {s i : Nat} (v : Nat) (hs : s < 16) (hi : i < 4) :
    let t := b.countPair (F.ING_STRs_CNT_Ti_LO s i) (F.ING_STRs_CNT_Ti_HI s i) v
    RegsOnly b t ∧ IngStep b t
      ∧ t.pair (F.ING_STRs_CNT_Ti_LO s i) (F.ING_STRs_CNT_Ti_HI s i)
        = (b.pair (F.ING_STRs_CNT_Ti_LO s i) (F.ING_STRs_CNT_Ti_HI s i) + v) % 2 ^ 64
      ∧ ∀ g : Fld, g.addr ≠ R.ING_STRs_CNT_Ti_LO s i → g.addr ≠ R.ING_STRs_CNT_Ti_HI s i → t.get g = b.get g := by
  obtain ⟨he, hp, hg, -⟩ := b.countPair_spec (lo := F.ING_STRs_CNT_Ti_LO s i) (hi := F.ING_STRs_CNT_Ti_HI s i) v rfl rfl rfl rfl
    (by rw [ingTrafficLo_addr, ingTrafficHi_addr]; omega)
  refine ⟨he, ?_, hp, hg⟩
  rw [Block.countPair, Block.setPair_eq]
  exact (ingStep_set b _ (ingTraffic_window hs hi).1).trans (ingStep_set _ _ (ingTraffic_window hs hi).2)

/-- An event counter of a stream counts. -/
theorem Block.countIngEvent_spec (b : Block) {s i : Nat} (k : Nat) (hs : s < 16) (hi : i < 8) :
    let t := b.countSat (F.ING_STRs_CNT_Ei s i) k
    RegsOnly b t ∧ IngStep b t ∧ t.get (F.ING_STRs_CNT_Ei s i) = min (b.get (F.ING_STRs_CNT_Ei s i) + k) (2 ^ 32 - 1)
      ∧ SameWords [R.ING_STRs_CNT_Ei s i] b t ∧ ∀ g : Fld, g.addr ≠ R.ING_STRs_CNT_Ei s i → t.get g = b.get g := by
  rw [Block.countSat_eq]
  refine ⟨regsOnly_set b _ _, ingStep_set b _ (ingCount_window hs hi), ?_,
    (sameWords_set (f := F.ING_STRs_CNT_Ei s i) _ (List.mem_singleton.mpr rfl)).mpr (.refl _ b),
    fun g hg => Block.get_set_apart b _ rfl (Fld.apart_of_addr hg)⟩
  rw [Block.get_set_self b _ rfl]
  exact Nat.mod_eq_of_lt (lt_of_le_of_lt (Nat.min_le_right _ _) (by show 2 ^ 32 - 1 < 2 ^ 32; decide))

/-! ### The paths of a stream (R152) -/

theorem Block.bit_setBit_self (b : Block) {f : Fld} (v : Bool) (hok : f.ok = true) (hone : f.hi = f.lo) : (b.setBit f v).bit f = v := by
  rw [Block.setBit_eq]
  cases v
  · exact Block.bit_set_zero_self b hok
  · exact Block.bit_set_one_self b hok hone

theorem Block.bit_setBit_apart (b : Block) {f g : Fld} (v : Bool) (hok : f.ok = true) (h : g.apart f = true) : (b.setBit f v).bit g = b.bit g := by
  rw [Block.setBit_eq]
  exact Block.bit_set_apart b _ hok h

/-- The UP bits of a stream: what they are and what else changes. -/
theorem Block.setUp_spec (b : Block) {s : Nat} (x y : Bool) (hs : s < 16) :
    let t := b.setUp s x y
    RegsOnly b t ∧ IngStep b t ∧ t.bit (F.ING_STRs_STATUS_PATH_A_UP s) = x ∧ t.bit (F.ING_STRs_STATUS_PATH_B_UP s) = y
      ∧ t.bit (F.ING_STRs_STATUS_RECEIVING s) = (x || y)
      ∧ ((b.bit (F.ING_STRs_STATUS_PATH_A_UP s), b.bit (F.ING_STRs_STATUS_PATH_B_UP s)) ≠ (x, y) → t.bit F.ING_IRQ_STATUS_PATH_CHANGE = true)
      ∧ ∀ g : Fld, g.addr ≠ R.ING_STRs_STATUS s → g.addr ≠ R.ING_IRQ_STATUS → t.get g = b.get g := by
  rw [Block.setUp]
  dsimp only
  generalize hwas : ((b.bit (F.ING_STRs_STATUS_PATH_A_UP s), b.bit (F.ING_STRs_STATUS_PATH_B_UP s)) != (x, y)) = was
  have hA : (((b.setBit (F.ING_STRs_STATUS_PATH_A_UP s) x).setBit (F.ING_STRs_STATUS_PATH_B_UP s) y).setBit
      (F.ING_STRs_STATUS_RECEIVING s) (x || y)).bit (F.ING_STRs_STATUS_PATH_A_UP s) = x := by
    rw [Block.bit_setBit_apart _ _ rfl rfl, Block.bit_setBit_apart _ _ rfl rfl, Block.bit_setBit_self _ _ rfl rfl]
  have hB : (((b.setBit (F.ING_STRs_STATUS_PATH_A_UP s) x).setBit (F.ING_STRs_STATUS_PATH_B_UP s) y).setBit
      (F.ING_STRs_STATUS_RECEIVING s) (x || y)).bit (F.ING_STRs_STATUS_PATH_B_UP s) = y := by
    rw [Block.bit_setBit_apart _ _ rfl rfl, Block.bit_setBit_self _ _ rfl rfl]
  have hR : (((b.setBit (F.ING_STRs_STATUS_PATH_A_UP s) x).setBit (F.ING_STRs_STATUS_PATH_B_UP s) y).setBit
      (F.ING_STRs_STATUS_RECEIVING s) (x || y)).bit (F.ING_STRs_STATUS_RECEIVING s) = (x || y) := Block.bit_setBit_self _ _ rfl rfl
  have hreg : RegsOnly b (((b.setBit (F.ING_STRs_STATUS_PATH_A_UP s) x).setBit (F.ING_STRs_STATUS_PATH_B_UP s) y).setBit
      (F.ING_STRs_STATUS_RECEIVING s) (x || y)) := ((regsOnly_set b _ _).trans (regsOnly_set _ _ _)).trans (regsOnly_set _ _ _)
  have hstep : IngStep b (((b.setBit (F.ING_STRs_STATUS_PATH_A_UP s) x).setBit (F.ING_STRs_STATUS_PATH_B_UP s) y).setBit
      (F.ING_STRs_STATUS_RECEIVING s) (x || y)) :=
    ((ingStep_set b _ (ingStatus_window hs)).trans (ingStep_set _ _ (ingStatus_window hs))).trans (ingStep_set _ _ (ingStatus_window hs))
  have hg (g : Fld) (h : g.addr ≠ R.ING_STRs_STATUS s) : (((b.setBit (F.ING_STRs_STATUS_PATH_A_UP s) x).setBit (F.ING_STRs_STATUS_PATH_B_UP s) y).setBit
      (F.ING_STRs_STATUS_RECEIVING s) (x || y)).get g = b.get g := by
    rw [Block.setBit_eq, Block.setBit_eq, Block.setBit_eq, Block.get_set_apart _ _ rfl (Fld.apart_of_addr h),
      Block.get_set_apart _ _ rfl (Fld.apart_of_addr h), Block.get_set_apart _ _ rfl (Fld.apart_of_addr h)]
  generalize ((b.setBit (F.ING_STRs_STATUS_PATH_A_UP s) x).setBit (F.ING_STRs_STATUS_PATH_B_UP s) y).setBit
      (F.ING_STRs_STATUS_RECEIVING s) (x || y) = c at *
  rw [Block.irqIf]
  split
  · have hne (f : Fld) (hf : f.addr = R.ING_STRs_STATUS s) : f.apart F.ING_IRQ_STATUS_PATH_CHANGE = true :=
      Fld.apart_of_addr (by rw [hf, ingChange_addr, R.ING_STRs_STATUS]; omega)
    refine ⟨hreg.trans (regsOnly_set c _ 1), hstep.trans (ingStep_set c 1 ingIrq_window), ?_, ?_, ?_,
      fun _ => Block.bit_set_one_self c rfl rfl, fun g h1 h2 => ?_⟩
    · rw [Block.bit_set_apart _ _ rfl (hne _ rfl), hA]
    · rw [Block.bit_set_apart _ _ rfl (hne _ rfl), hB]
    · rw [Block.bit_set_apart _ _ rfl (hne _ rfl), hR]
    · rw [Block.get_set_apart _ _ rfl (Fld.apart_of_addr h2), hg g h1]
  · next hf =>
    refine ⟨hreg, hstep, hA, hB, hR, fun h => absurd ?_ hf, fun g h1 _ => hg g h1⟩
    rw [← hwas]
    exact bne_iff_ne.mpr h

/-- An error of a stream: it is set, and ING's window and the fault log take it. -/
theorem Block.raiseIng_spec (b : Block) {s : Nat} {e : Err} (d : Nat) (hs : s < 16) (hf : e.fld.addr = R.ING_STRs_ERR s) (hok : e.fld.ok = true)
    (hone : e.fld.hi = e.fld.lo) (hi : e.irq = F.ING_IRQ_STATUS_ERR) :
    let t := b.raiseAt e d
    t.ing = b.ing ∧ t.clk = b.clk ∧ t.bit e.fld = true ∧ SameOutside [0x12, 0x30] b t ∧ SameMem b t
      ∧ ∀ g : Fld, g.addr ≠ R.ING_STRs_ERR s → g.apart F.ING_IRQ_STATUS_ERR = true → g.addr / 0x10000 ≠ 0x30 → t.get g = b.get g := by
  have hap : e.fld.apart e.irq = true := Fld.apart_of_addr (by rw [hf, hi, ingIrqErr_addr, R.ING_STRs_ERR]; omega)
  refine ⟨b.raiseAt_ing e d, b.raiseAt_clk e d, Block.bit_raiseAt_self b _ hok hone (by rw [hi]; rfl) hap ?_, ?_, (sameMem_raiseAt b b e d).mpr (.refl b),
    fun g h1 h2 h3 => b.get_raiseAt_apart _ hok (by rw [hi]; rfl) (Fld.apart_of_addr (by rw [hf]; exact h1)) (by rw [hi]; exact h2) h3⟩
  · rw [hf, R.ING_STRs_ERR]
    omega
  · rw [sameOutside_raiseAt _ ?_ ?_ (by simp)]
    · exact .refl _ b
    · rw [hf, R.ING_STRs_ERR, ingErr_window hs]
      simp
    · rw [hi, ingIrqErr_addr, ingIrq_window]
      simp

end Sys2Proof.Machine
end

section
/-!
PROOFS of chapter 5: packets, gaps and source frames of a stream, its paths, and the monitoring sender.
-/

namespace Sys2Proof.Machine

/-- The fields that a packet heard on a path leaves. -/
def HeardBeside (s e : Nat) (g : Fld) : Prop :=
  g.addr ≠ R.ING_STRs_STATUS s ∧ g.addr ≠ R.ING_IRQ_STATUS ∧ g.addr ≠ R.ING_STRs_CNT_Ti_LO s (1 + e) ∧ g.addr ≠ R.ING_STRs_CNT_Ti_HI s (1 + e)

/-- A path that delivers a packet: the stream keeps all but when it was heard. -/
theorem Block.pathHeard_spec {b : Block} {s e : Nat} (hs : s < 16) (he : e < 2) (hlen : b.ing.streams.length = 16) :
    let t := b.pathHeard s e
    IngStep b t ∧ t.ing.streams.length = 16 ∧ t.stream s = { b.stream s with heard := (b.stream s).heard.set e (some b.clk) }
      ∧ ∀ g, HeardBeside s e g → t.get g = b.get g := by
  rw [Block.pathHeard]
  dsimp only
  have hi := ingStep_onIng b s (fun q => { q with heard := q.heard.set e (some b.clk) })
  have hl := b.length_onIng s (fun q => { q with heard := q.heard.set e (some b.clk) })
  have hst := Block.stream_onIng (b := b) (s := s) (fun q => { q with heard := q.heard.set e (some b.clk) }) (by omega)
  have hg := b.get_onIng s (fun q => { q with heard := q.heard.set e (some b.clk) })
  generalize b.onIng s (fun q => { q with heard := q.heard.set e (some b.clk) }) = c at *
  obtain ⟨cr, cs, -, cg⟩ := c.countIng_spec (i := 1 + e) 1 hs (by omega)
  generalize c.countPair (F.ING_STRs_CNT_Ti_LO s (1 + e)) (F.ING_STRs_CNT_Ti_HI s (1 + e)) 1 = d at *
  obtain ⟨ur, us, -, -, -, -, ug⟩ := d.setUp_spec (e == 0 || d.bit (F.ING_STRs_STATUS_PATH_A_UP s)) (e == 1 || d.bit (F.ING_STRs_STATUS_PATH_B_UP s)) hs
  generalize d.setUp s (e == 0 || d.bit (F.ING_STRs_STATUS_PATH_A_UP s)) (e == 1 || d.bit (F.ING_STRs_STATUS_PATH_B_UP s)) = t at *
  have hing : t.ing = c.ing := by rw [ur, cr]
  refine ⟨(hi.trans cs).trans us, by rw [hing, hl, hlen], by rw [Block.stream_congr hing, hst], fun g ⟨h1, h2, h3, h4⟩ => ?_⟩
  rw [ug g h1 h2, cg g h3 h4, hg]

theorem Block.framePt_congr {b t : Block} {s : Nat} (ts : Nat) (hf : (t.stream s).fills = (b.stream s).fills)
    (hp : t.get (F.ING_STRs_CTRL_PT s).act = b.get (F.ING_STRs_CTRL_PT s).act) : t.framePt s ts = b.framePt s ts := by
  rw [Block.framePt, Block.framePt, hf, Block.act, Block.act, hp]

/-- The payload type in force is beside what a path changes. -/
theorem heardBeside_pt {s e : Nat} (hs : s < 16) (he : e < 2) : HeardBeside s e (F.ING_STRs_CTRL_PT s).act := by
  have ha : (F.ING_STRs_CTRL_PT s).act.addr = 0x129000 + 0x100 * s := by
    show 0x121000 + 0x100 * s + 0x8000 = _
    omega
  rw [HeardBeside, ha, R.ING_STRs_STATUS, R.ING_IRQ_STATUS, R.ING_STRs_CNT_Ti_LO, R.ING_STRs_CNT_Ti_HI]
  omega

/-! ### Packets (R149, R151) -/

/-- A datagram matches a stream below 16 on a path below 2. -/
theorem ingMatch_lt {b : Block} {d : Datagram} {s : Nat} (h : b.ingMatch d = some s) : s < 16 ∧ d.eth < 2 := by
  rw [Block.ingMatch] at h
  split at h
  · next hc =>
    rw [Bool.and_eq_true, decide_eq_true_eq] at hc
    exact ⟨List.mem_range.mp (List.mem_of_find?_eq_some h), hc.2⟩
  · exact absurd h (by simp)

theorem streamPacket_merged {b : Block} {k : VideoPacket} {s : Nat} (hlen : b.ing.streams.length = 16) (hm : b.ingMatch k.addr = some s)
    (hpt : k.pt = b.framePt s k.ts) (hf : k.field = false) (hroom : k.room = true) :
    streamPacket k b = (b.pathHeard s k.addr.eth).merge s k := by
  obtain ⟨hs, he⟩ := ingMatch_lt hm
  obtain ⟨-, -, hst, hg⟩ := Block.pathHeard_spec hs he hlen
  rw [streamPacket, hm]
  dsimp only
  rw [Block.framePt_congr k.ts (by rw [hst]) (hg _ (heardBeside_pt hs he)), hf, hroom, if_neg (not_not.mpr hpt), if_neg (by decide), if_neg (by decide)]

/-- The number that is expected: the packet is placed. -/
theorem Block.merge_next {b : Block} {s : Nat} {k : VideoPacket} (h : (b.stream s).next = some k.seq) :
    b.merge s k = (b.onIng s (fun q => q.upTo k.seq)).placePacket s k := by
  have hd : (k.seq + 2 ^ 32 - k.seq) % 2 ^ 32 = 0 := by
    rw [Nat.add_sub_cancel_left, Nat.mod_self]
  rw [Block.merge]
  simp only [h, hd]
  simp

/-- A number of the last run, which nothing misses, is redundant. -/
theorem Block.merge_known {b : Block} {s : Nat} {k : VideoPacket} (h : (b.stream s).next = some (k.seq + 1)) (hgap : (b.stream s).gaps = [])
    (hlost : (b.stream s).lostSeqs = []) (hknown : (b.stream s).knows k.seq = true) :
    b.merge s k = b.countPair (F.ING_STRs_CNT_Ti_LO s 3) (F.ING_STRs_CNT_Ti_HI s 3) 1 := by
  have hd : (k.seq + 2 ^ 32 - (k.seq + 1)) % 2 ^ 32 = 2 ^ 32 - 1 := by omega
  rw [Block.merge]
  simp only [h, hd, hgap, hlost, hknown]
  simp

/-- A packet of no pixels for a frame without a buffer. -/
theorem Block.placePacket_bare {b : Block} {s : Nat} {k : VideoPacket} {f : Filling} (hs : s < b.ing.streams.length)
    (hf : (b.stream s).fills.find? (·.ts == k.ts) = some f) (hbuf : f.buf = none) (hseg : k.segs = []) :
    ∃ r : IngStream → List (Nat × Nat), b.placePacket s k = b.onIng s (fun q => { q with recent := r q }) := by
  have hany : (b.stream s).fills.any (·.ts == k.ts) = true :=
    List.any_eq_true.mpr ⟨f, List.mem_of_find?_eq_some hf, List.find?_some (p := fun g : Filling => g.ts == k.ts) hf⟩
  refine ⟨fun q => q.recent.filter (fun r : Nat × Nat => decide (b.clk < r.1 + 1000000)) ++ [(b.clk, (k.segs.map (·.pixels.length)).sum)], ?_⟩
  rw [Block.placePacket]
  dsimp only
  rw [hany, Bool.not_true, Bool.and_false, if_neg (by decide), if_pos rfl]
  rw [congrArg IngStream.fills (Block.stream_onIng (b := b) (fun q => { q with
    recent := q.recent.filter (fun r : Nat × Nat => decide (b.clk < r.1 + 1000000)) ++ [(b.clk, (k.segs.map (·.pixels.length)).sum)] }) hs)]
  dsimp only
  rw [hf]
  dsimp only
  rw [hbuf, Option.bind_none]
  dsimp only
  rw [hseg]
  simp only [Block.each, List.foldl_nil]

/-- The next packet of a frame without a buffer. -/
theorem streamPacket_bare {b : Block} {k : VideoPacket} {s : Nat} {f : Filling} (hlen : b.ing.streams.length = 16) (hm : b.ingMatch k.addr = some s)
    (hfind : (b.stream s).fills.find? (·.ts == k.ts) = some f) (hbuf : f.buf = none) (hpt : f.pt = k.pt) (hf : k.field = false)
    (hroom : k.room = true) (hnext : (b.stream s).next = some k.seq) (hseg : k.segs = []) :
    let t := streamPacket k b
    (t.stream s).next = some ((k.seq + 1) % 2 ^ 32) ∧ (t.stream s).fills = (b.stream s).fills ∧ (t.stream s).gaps = (b.stream s).gaps
      ∧ SameOutside [0x12] b t ∧ SameMem b t := by
  obtain ⟨hs, he⟩ := ingMatch_lt hm
  have hp : k.pt = b.framePt s k.ts := by
    rw [Block.framePt, hfind, ← hpt]
  rw [streamPacket_merged hlen hm hp hf hroom]
  obtain ⟨hi, hl, hst, -⟩ := Block.pathHeard_spec hs he hlen
  generalize b.pathHeard s k.addr.eth = c at *
  rw [Block.merge_next (by rw [hst, hnext])]
  have hi2 := ingStep_onIng c s (fun q => q.upTo k.seq)
  have hl2 := c.length_onIng s (fun q => q.upTo k.seq)
  have hst2 := Block.stream_onIng (b := c) (s := s) (fun q => q.upTo k.seq) (by omega)
  generalize c.onIng s (fun q => q.upTo k.seq) = d at *
  have hfills : (d.stream s).fills = (b.stream s).fills := by rw [hst2, hst, IngStream.upTo]
  obtain ⟨r, hr⟩ := Block.placePacket_bare (b := d) (s := s) (k := k) (by omega) (by rw [hfills, hfind]) hbuf hseg
  rw [hr]
  have hi3 := ingStep_onIng d s (fun q => { q with recent := r q })
  have hst3 := Block.stream_onIng (b := d) (s := s) (fun q => { q with recent := r q }) (by omega)
  generalize d.onIng s (fun q => { q with recent := r q }) = t at *
  have hall : IngStep b t := (hi.trans hi2).trans hi3
  refine ⟨by rw [hst3, hst2, IngStream.upTo], by rw [hst3, ← hfills], by rw [hst3, hst2, hst, IngStream.upTo], hall.2, hall.sameMem⟩

/-- A number that both paths brought. -/
theorem streamPacket_redundant {b : Block} {k : VideoPacket} {s : Nat} (hlen : b.ing.streams.length = 16) (hm : b.ingMatch k.addr = some s)
    (hpt : k.pt = b.framePt s k.ts) (hf : k.field = false) (hroom : k.room = true) (hnext : (b.stream s).next = some (k.seq + 1))
    (hgap : (b.stream s).gaps = []) (hlost : (b.stream s).lostSeqs = []) (hknown : (b.stream s).knows k.seq = true) :
    let t := streamPacket k b
    (t.stream s).fills = (b.stream s).fills ∧ (t.stream s).next = (b.stream s).next
      ∧ t.pair (F.ING_STRs_CNT_Ti_LO s 3) (F.ING_STRs_CNT_Ti_HI s 3)
        = (b.pair (F.ING_STRs_CNT_Ti_LO s 3) (F.ING_STRs_CNT_Ti_HI s 3) + 1) % 2 ^ 64 ∧ SameOutside [0x12] b t ∧ SameMem b t := by
  obtain ⟨hs, he⟩ := ingMatch_lt hm
  rw [streamPacket_merged hlen hm hpt hf hroom]
  obtain ⟨hi, hl, hst, hg⟩ := Block.pathHeard_spec hs he hlen
  generalize b.pathHeard s k.addr.eth = c at *
  rw [Block.merge_known (by rw [hst, hnext]) (by rw [hst, hgap]) (by rw [hst, hlost]) (by rw [hst]; exact hknown)]
  obtain ⟨cr, cs, cv, -⟩ := c.countIng_spec (i := 3) 1 hs (by decide)
  generalize c.countPair (F.ING_STRs_CNT_Ti_LO s 3) (F.ING_STRs_CNT_Ti_HI s 3) 1 = t at *
  have hst' : t.stream s = c.stream s := Block.stream_congr (by rw [cr]) s
  refine ⟨by rw [hst', hst], by rw [hst', hst], ?_, (hi.trans cs).2, (hi.trans cs).sameMem⟩
  rw [cv, Block.pair, hg _ ?_, hg _ ?_, Block.pair]
  all_goals
    simp only [HeardBeside, ingTrafficLo_addr, ingTrafficHi_addr, R.ING_STRs_STATUS, R.ING_IRQ_STATUS, R.ING_STRs_CNT_Ti_LO, R.ING_STRs_CNT_Ti_HI]
    omega

/-- A packet of another payload type. -/
theorem streamPacket_otherType {b : Block} {k : VideoPacket} {s : Nat} (hlen : b.ing.streams.length = 16) (hm : b.ingMatch k.addr = some s)
    (hpt : k.pt ≠ b.framePt s k.ts) :
    let t := streamPacket k b
    t.get (F.ING_STRs_CNT_Ei s 4) = min (b.get (F.ING_STRs_CNT_Ei s 4) + 1) (2 ^ 32 - 1) ∧ t.bit (F.ING_STRs_ERR_PT s) = true
      ∧ (t.stream s).fills = (b.stream s).fills ∧ SameOutside [0x12, 0x30] b t ∧ SameMem b t := by
  obtain ⟨hs, he⟩ := ingMatch_lt hm
  obtain ⟨hi, hl, hst, hg⟩ := Block.pathHeard_spec hs he hlen
  rw [streamPacket, hm]
  dsimp only
  rw [Block.framePt_congr k.ts (by rw [hst]) (hg _ (heardBeside_pt hs he)), if_pos hpt]
  generalize b.pathHeard s k.addr.eth = c at *
  obtain ⟨er, es, ev, -, -⟩ := c.countIngEvent_spec (i := 4) 1 hs (by decide)
  generalize c.countSat (F.ING_STRs_CNT_Ei s 4) 1 = d at *
  obtain ⟨ri, -, rb, ro, rm, rg⟩ := d.raiseIng_spec (e := E.ING_STR_PT s) s hs rfl rfl rfl rfl
  generalize d.raiseAt (E.ING_STR_PT s) s = t at *
  have hst' : t.stream s = c.stream s := Block.stream_congr (by rw [ri, er]) s
  refine ⟨?_, rb, by rw [hst', hst], ((hi.trans es).2.mono (by simp)).trans ro, (hi.trans es).sameMem.trans rm⟩
  rw [rg _ ?_ (Fld.apart_of_addr ?_) ?_, ev, hg _ ?_]
  all_goals
    simp only [HeardBeside, ingCount_addr, ingIrqErr_addr, R.ING_STRs_ERR, R.ING_STRs_STATUS, R.ING_IRQ_STATUS, R.ING_STRs_CNT_Ti_LO, R.ING_STRs_CNT_Ti_HI]
    omega

/-! ### Gaps and source frames (R151, R154) -/

theorem Block.concludeFull_none {b : Block} {s : Nat} (ts : Nat) (h : (b.stream s).fills = []) : b.concludeFull s ts = b := by
  rw [Block.concludeFull, h]
  rfl

theorem skewWindowExpiry_spec {b : Block} {s : Nat} {g : Gap} {rest : List Gap} (hs : s < 16) (hlen : b.ing.streams.length = 16) (hon : b.ingOn = true)
    (hg : (b.stream s).gaps = g :: rest) (hf : (b.stream s).fills = []) :
    let t := skewWindowExpiry s b
    (t.stream s).gaps = rest ∧ (t.stream s).lostSeqs = (b.stream s).lostSeqs ++ g.seqs
      ∧ t.get (F.ING_STRs_CNT_Ei s 0) = min (b.get (F.ING_STRs_CNT_Ei s 0) + g.seqs.length) (2 ^ 32 - 1)
      ∧ t.clk = max b.clk g.due ∧ SameWords [R.ING_STRs_CNT_Ei s 0] b t ∧ SameMem b t := by
  rw [skewWindowExpiry, hg]
  dsimp only
  rw [hon, if_neg (by decide)]
  have hclk := b.untilClk_clk g.due
  have hm : SameMem b (b.untilClk g.due) := sameMem_of_eq (Block.untilClk_dram _ _) (Block.untilClk_qdr _ _)
  have hw : SameWords [] b (b.untilClk g.due) := (sameWords_untilClk [] b b g.due).mpr (.refl _ b)
  have hing : (b.untilClk g.due).ing = b.ing := Block.untilClk_ing _ _
  generalize b.untilClk g.due = c at *
  have hstc : c.stream s = b.stream s := Block.stream_congr hing s
  have hi := ingStep_onIng c s (fun q => { q with
    gaps := rest, lostSeqs := q.lostSeqs ++ g.seqs
    fills := q.fills.map (fun f => if f.ts == g.before then { f with lost := f.lost + g.seqs.length } else f) })
  have hregs := c.regs_onIng s (fun q => { q with
    gaps := rest, lostSeqs := q.lostSeqs ++ g.seqs
    fills := q.fills.map (fun f => if f.ts == g.before then { f with lost := f.lost + g.seqs.length } else f) })
  have hst := Block.stream_onIng (b := c) (s := s) (fun q => { q with
    gaps := rest, lostSeqs := q.lostSeqs ++ g.seqs
    fills := q.fills.map (fun f => if f.ts == g.before then { f with lost := f.lost + g.seqs.length } else f) }) (by rw [hing]; omega)
  generalize c.onIng s (fun q => { q with
    gaps := rest, lostSeqs := q.lostSeqs ++ g.seqs
    fills := q.fills.map (fun f => if f.ts == g.before then { f with lost := f.lost + g.seqs.length } else f) }) = d at *
  obtain ⟨er, es, ev, ew, -⟩ := d.countIngEvent_spec (i := 0) g.seqs.length hs (by decide)
  generalize d.countSat (F.ING_STRs_CNT_Ei s 0) g.seqs.length = t at *
  have hst' : t.stream s = d.stream s := Block.stream_congr (by rw [er]) s
  have hfills : (t.stream s).fills = [] := by
    rw [hst', hst]
    dsimp only
    rw [hstc, hf, List.map_nil]
  rw [hfills]
  dsimp only [List.find?_nil]
  rw [hfills]
  dsimp only [List.find?_nil]
  rw [Block.concludeFull_none _ hfills, Block.concludeFull_none _ hfills]
  refine ⟨by rw [hst', hst], by rw [hst', hst, hstc], ?_, by rw [es.clk, hi.clk, hclk], ?_, (hm.trans hi.sameMem).trans es.sameMem⟩
  · rw [ev, Block.get_congr hregs, hw.get_nil]
  · have hcd : SameWords [R.ING_STRs_CNT_Ei s 0] b d := (sameWords_congr hregs).mpr fun k _ => hw k List.not_mem_nil
    exact fun k hk => (ew k hk).trans (hcd k hk)

theorem sourceFrameConclude_eq {b : Block} {s due : Nat} {f : Filling} {rest : List Filling} (hon : b.ingOn = true)
    (hf : (b.stream s).fills = f :: rest) (hd : f.due = some due) : sourceFrameConclude s b = (b.untilClk due).concludeFill s f := by
  rw [sourceFrameConclude, hf]
  dsimp only
  rw [hd]
  dsimp only
  rw [hon, if_pos rfl]

/-- A dropped frame that is concluded leaves the stream's list. -/
theorem Block.concludeFill_dropped {b : Block} {s : Nat} {f : Filling} {rest : List Filling} (hf : (b.stream s).fills = f :: rest)
    (hbuf : f.buf = none) :
    b.concludeFill s f = b.onIng s (fun q => { q with fills := q.fills.filter (fun g => g.ts != f.ts), past := (f.ts :: q.past).take 16 }) := by
  have hconceal : b.conceal s f none = b := by
    rw [Block.conceal, hbuf, Option.bind_none]
  rw [Block.concludeFill]
  dsimp only
  rw [hconceal, hf, List.find?_cons_of_pos (by simp)]
  simp only [Option.getD_some]
  rw [hbuf]

theorem sourceFrameConclude_dropped {b : Block} {s due : Nat} {f : Filling} {rest : List Filling} (hs : s < 16) (hlen : b.ing.streams.length = 16)
    (hon : b.ingOn = true) (hf : (b.stream s).fills = f :: rest) (hd : f.due = some due) (hbuf : f.buf = none) (hrest : ∀ g ∈ rest, g.ts ≠ f.ts) :
    let t := sourceFrameConclude s b
    (t.stream s).fills = rest ∧ (t.stream s).past = (f.ts :: (b.stream s).past).take 16 ∧ t.clk = max b.clk due ∧ SameWords [] b t ∧ SameMem b t := by
  rw [sourceFrameConclude_eq hon hf hd]
  have hclk := b.untilClk_clk due
  have hm : SameMem b (b.untilClk due) := sameMem_of_eq (Block.untilClk_dram _ _) (Block.untilClk_qdr _ _)
  have hw : SameWords [] b (b.untilClk due) := (sameWords_untilClk [] b b due).mpr (.refl _ b)
  have hing : (b.untilClk due).ing = b.ing := Block.untilClk_ing _ _
  generalize b.untilClk due = c at *
  have hstc : c.stream s = b.stream s := Block.stream_congr hing s
  rw [Block.concludeFill_dropped (by rw [hstc, hf]) hbuf]
  have hi := ingStep_onIng c s (fun q => { q with fills := q.fills.filter (fun g => g.ts != f.ts), past := (f.ts :: q.past).take 16 })
  have hregs := c.regs_onIng s (fun q => { q with fills := q.fills.filter (fun g => g.ts != f.ts), past := (f.ts :: q.past).take 16 })
  have hst := Block.stream_onIng (b := c) (s := s)
    (fun q => { q with fills := q.fills.filter (fun g => g.ts != f.ts), past := (f.ts :: q.past).take 16 }) (by rw [hing]; omega)
  generalize c.onIng s (fun q => { q with fills := q.fills.filter (fun g => g.ts != f.ts), past := (f.ts :: q.past).take 16 }) = t at *
  refine ⟨?_, by rw [hst, hstc], by rw [hi.clk, hclk], (sameWords_congr hregs).mpr hw, hm.trans hi.sameMem⟩
  rw [hst, hstc, hf, List.filter_cons_of_neg (by simp)]
  exact List.filter_eq_self.mpr fun g hg => bne_iff_ne.mpr (hrest g hg)

/-! ### A path falls silent (R152) -/

/-- Which paths stay up once path `e` has fallen silent. -/
def Block.pathStays (b : Block) (s e : Nat) (upA upB : Bool) : Bool :=
  match ((b.stream s).heard[1 - e]?).join with
  | some u => (if e = 0 then upB else upA) && decide (b.clk < u + pathSilence)
  | none => false

theorem streamPathTimeout_eq {b : Block} {s e t0 : Nat} (hs : s < 16) (he : e < 2) (hon : b.ingOn = true)
    (h0 : ((b.stream s).heard[e]?).join = some t0)
    (hup : (if e = 0 then b.bit (F.ING_STRs_STATUS_PATH_A_UP s) else b.bit (F.ING_STRs_STATUS_PATH_B_UP s)) = true) :
    streamPathTimeout s e b =
      if (b.untilClk (t0 + pathSilence)).pathStays s e (b.bit (F.ING_STRs_STATUS_PATH_A_UP s)) (b.bit (F.ING_STRs_STATUS_PATH_B_UP s)) then
        ((b.untilClk (t0 + pathSilence)).setUp s (e != 0) (e != 1)).raiseAt (E.ING_STR_PATH_DOWN s) s
      else ((b.untilClk (t0 + pathSilence)).setUp s false false).raiseAt (E.ING_STR_BOTH_DOWN s) s := by
  rw [streamPathTimeout, h0]
  dsimp only
  have hok : ¬(16 ≤ s ∨ 2 ≤ e ∨ (!if e = 0 then b.bit (F.ING_STRs_STATUS_PATH_A_UP s) else b.bit (F.ING_STRs_STATUS_PATH_B_UP s)) = true
      ∨ (!b.ingOn) = true) := by
    rw [hup, hon]
    simp
    omega
  rw [if_neg hok]
  rfl

/-- Both ways a path goes down: the UP bits, the error and the frame. -/
theorem Block.pathDown_spec (b : Block) {s : Nat} {x y : Bool} {e : Err} (hs : s < 16) (hf : e.fld.addr = R.ING_STRs_ERR s) (hok : e.fld.ok = true)
    (hone : e.fld.hi = e.fld.lo) (hi : e.irq = F.ING_IRQ_STATUS_ERR) :
    let t := (b.setUp s x y).raiseAt e s
    t.bit (F.ING_STRs_STATUS_PATH_A_UP s) = x ∧ t.bit (F.ING_STRs_STATUS_PATH_B_UP s) = y ∧ t.bit (F.ING_STRs_STATUS_RECEIVING s) = (x || y)
      ∧ t.bit e.fld = true
      ∧ ((b.bit (F.ING_STRs_STATUS_PATH_A_UP s), b.bit (F.ING_STRs_STATUS_PATH_B_UP s)) ≠ (x, y) → t.bit F.ING_IRQ_STATUS_PATH_CHANGE = true)
      ∧ t.clk = b.clk ∧ SameOutside [0x12, 0x30] b t ∧ SameMem b t := by
  obtain ⟨ur, us, ua, ub, uc, ui, -⟩ := b.setUp_spec x y hs
  generalize b.setUp s x y = c at *
  obtain ⟨-, rc, rb, ro, rm, rg⟩ := c.raiseIng_spec s hs hf hok hone hi
  generalize c.raiseAt e s = t at *
  have hstatus (g : Fld) (ha : g.addr = R.ING_STRs_STATUS s) : t.bit g = c.bit g := by
    rw [Block.bit, rg g ?_ (Fld.apart_of_addr ?_) ?_, ← Block.bit] <;> rw [ha] <;> simp only [R.ING_STRs_STATUS, R.ING_STRs_ERR, ingIrqErr_addr] <;> omega
  refine ⟨by rw [hstatus _ rfl, ua], by rw [hstatus _ rfl, ub], by rw [hstatus _ rfl, uc], rb, fun h => ?_, by rw [rc, us.clk],
    (us.2.mono (by simp)).trans ro, us.sameMem.trans rm⟩
  rw [Block.bit, rg _ ?_ rfl ?_, ← Block.bit, ui h]
  all_goals
    simp only [ingChange_addr, R.ING_STRs_ERR]
    omega

theorem streamPathTimeout_both {b : Block} {s e t0 : Nat} (hs : s < 16) (he : e < 2) (hon : b.ingOn = true)
    (h0 : ((b.stream s).heard[e]?).join = some t0)
    (hup : (if e = 0 then b.bit (F.ING_STRs_STATUS_PATH_A_UP s) else b.bit (F.ING_STRs_STATUS_PATH_B_UP s)) = true)
    (h1 : ((b.stream s).heard[1 - e]?).join = none) :
    let t := streamPathTimeout s e b
    t.bit (F.ING_STRs_STATUS_PATH_A_UP s) = false ∧ t.bit (F.ING_STRs_STATUS_PATH_B_UP s) = false
      ∧ t.bit (F.ING_STRs_STATUS_RECEIVING s) = false ∧ t.bit (F.ING_STRs_ERR_BOTH_DOWN s) = true
      ∧ t.bit F.ING_IRQ_STATUS_PATH_CHANGE = true ∧ t.clk = max b.clk (t0 + pathSilence) ∧ SameOutside [0x12, 0x30] b t ∧ SameMem b t := by
  rw [streamPathTimeout_eq hs he hon h0 hup]
  generalize t0 + pathSilence = due at *
  have hclk := b.untilClk_clk due
  have hm : SameMem b (b.untilClk due) := sameMem_of_eq (Block.untilClk_dram _ _) (Block.untilClk_qdr _ _)
  have ho : SameOutside [0x12, 0x30] b (b.untilClk due) := (sameOutside_untilClk _ b b _).mpr (.refl _ b)
  have hing : (b.untilClk due).ing = b.ing := Block.untilClk_ing _ _
  have hbit := b.untilClk_bit due
  generalize b.untilClk due = c at *
  have hstays : c.pathStays s e (b.bit (F.ING_STRs_STATUS_PATH_A_UP s)) (b.bit (F.ING_STRs_STATUS_PATH_B_UP s)) = false := by
    rw [Block.pathStays, Block.stream_congr hing, h1]
  rw [hstays, if_neg (by decide)]
  obtain ⟨ka, kb, kc, ke, ki, kclk, ko, km⟩ := c.pathDown_spec (x := false) (y := false) (e := E.ING_STR_BOTH_DOWN s) hs rfl rfl rfl rfl
  generalize (c.setUp s false false).raiseAt (E.ING_STR_BOTH_DOWN s) s = t at *
  refine ⟨ka, kb, kc, ke, ki ?_, by rw [kclk, hclk], ho.trans ko, hm.trans km⟩
  intro h
  rw [hbit, hbit, Prod.mk.injEq] at h
  rw [h.1, h.2] at hup
  simp at hup

theorem streamPathTimeout_one {b : Block} {s e t0 u : Nat} (hs : s < 16) (he : e < 2) (hon : b.ingOn = true)
    (h0 : ((b.stream s).heard[e]?).join = some t0)
    (hup : (if e = 0 then b.bit (F.ING_STRs_STATUS_PATH_A_UP s) else b.bit (F.ING_STRs_STATUS_PATH_B_UP s)) = true)
    (h1 : ((b.stream s).heard[1 - e]?).join = some u) (hlate : max b.clk (t0 + pathSilence) < u + pathSilence)
    (hother : (if e = 0 then b.bit (F.ING_STRs_STATUS_PATH_B_UP s) else b.bit (F.ING_STRs_STATUS_PATH_A_UP s)) = true) :
    let t := streamPathTimeout s e b
    t.bit (F.ING_STRs_STATUS_PATH_A_UP s) = (e != 0) ∧ t.bit (F.ING_STRs_STATUS_PATH_B_UP s) = (e != 1)
      ∧ t.bit (F.ING_STRs_STATUS_RECEIVING s) = true ∧ t.bit (F.ING_STRs_ERR_PATH_DOWN s) = true ∧ SameOutside [0x12, 0x30] b t ∧ SameMem b t := by
  rw [streamPathTimeout_eq hs he hon h0 hup]
  generalize t0 + pathSilence = due at *
  have hclk := b.untilClk_clk due
  have hm : SameMem b (b.untilClk due) := sameMem_of_eq (Block.untilClk_dram _ _) (Block.untilClk_qdr _ _)
  have ho : SameOutside [0x12, 0x30] b (b.untilClk due) := (sameOutside_untilClk _ b b _).mpr (.refl _ b)
  have hing : (b.untilClk due).ing = b.ing := Block.untilClk_ing _ _
  generalize b.untilClk due = c at *
  have hstays : c.pathStays s e (b.bit (F.ING_STRs_STATUS_PATH_A_UP s)) (b.bit (F.ING_STRs_STATUS_PATH_B_UP s)) = true := by
    rw [Block.pathStays, Block.stream_congr hing, h1]
    dsimp only
    rw [hother, hclk, decide_eq_true hlate]
    rfl
  rw [hstays, if_pos rfl]
  obtain ⟨ka, kb, kc, ke, -, -, ko, km⟩ := c.pathDown_spec (x := e != 0) (y := e != 1) (e := E.ING_STR_PATH_DOWN s) hs rfl rfl rfl rfl
  generalize (c.setUp s (e != 0) (e != 1)).raiseAt (E.ING_STR_PATH_DOWN s) s = t at *
  refine ⟨ka, kb, ?_, ke, ho.trans ko, hm.trans km⟩
  rw [kc]
  rcases (by omega : e = 0 ∨ e = 1) with h | h <;> rw [h] <;> rfl

end Sys2Proof.Machine
end

section
/-!
PROOFS of chapter 5: the monitoring sender, and what the streams' statements say.
-/

namespace Sys2Proof.Machine

/-! ### The monitoring sender (R162) -/

/-- ING_MON_CTRL as a write to a stopped sender leaves it. -/
theorem monitorEnable_starts (b : Block) (v : Word) (h : b.bit F.ING_MON_CTRL_EN = false) :
    let t := monitorEnable v b
    t.get F.ING_MON_CTRL_EN = F.ING_MON_CTRL_EN.of v.toNat ∧ t.get F.ING_MON_CTRL_PT = F.ING_MON_CTRL_PT.of v.toNat
      ∧ t.get F.ING_MON_CTRL_PATH_A = F.ING_MON_CTRL_PATH_A.of v.toNat ∧ t.get F.ING_MON_CTRL_PATH_B = F.ING_MON_CTRL_PATH_B.of v.toNat
      ∧ SameWords [R.ING_MON_CTRL] b t ∧ SameMem b t := by
  have hfit (f : Fld) : f.of v.toNat % 2 ^ f.width = f.of v.toNat := Nat.mod_mod _ _
  have hself (c : Block) (f : Fld) (hok : f.ok = true) : (c.set f (f.of v.toNat)).get f = f.of v.toNat := by
    rw [Block.get_set_self c _ hok, hfit]
  have hkeep (c : Block) (f g : Fld) (w : Nat) (hok : f.ok = true) (hap : g.apart f = true) : (c.set f w).get g = c.get g :=
    Block.get_set_apart c w hok hap
  have hwords (c : Block) (f : Fld) (w : Nat) (hf : f.addr = R.ING_MON_CTRL) (hc : SameWords [R.ING_MON_CTRL] b c) :
      SameWords [R.ING_MON_CTRL] b (c.set f w) := (sameWords_set w (by rw [hf]; simp)).mpr hc
  rw [monitorEnable, h, if_neg (by decide)]
  dsimp only
  refine ⟨?_, ?_, ?_, ?_, ?_, ?_⟩
  · rw [hself _ _ rfl]
  · rw [hkeep _ _ _ _ rfl rfl, hkeep _ _ _ _ rfl rfl, hkeep _ _ _ _ rfl rfl, hkeep _ _ _ _ rfl rfl, hself _ _ rfl]
  · rw [hkeep _ _ _ _ rfl rfl, hself _ _ rfl]
  · rw [hkeep _ _ _ _ rfl rfl, hkeep _ _ _ _ rfl rfl, hself _ _ rfl]
  · exact hwords _ _ _ rfl (hwords _ _ _ rfl (hwords _ _ _ rfl (hwords _ _ _ rfl (hwords _ _ _ rfl (hwords _ _ _ rfl (.refl _ b))))))
  · exact (((((regsOnly_set b _ _).trans (regsOnly_set _ _ _)).trans (regsOnly_set _ _ _)).trans (regsOnly_set _ _ _)).trans
      (regsOnly_set _ _ _)).trans (regsOnly_set _ _ _) |>.sameMem

/-- A descriptor is a write to DRAM. -/
theorem Block.writeDesc_keeps (b : Block) (client : Nat) (x : Surf) : (b.writeDesc client x).regs = b.regs ∧ (b.writeDesc client x).ing = b.ing := by
  rw [Block.writeDesc, Block.dramWrite, Block.writeDram_regs, Block.writeDram_ing]
  exact ⟨b.dramUse_regs client x.desc x.descriptor.length, b.dramUse_ing client x.desc x.descriptor.length⟩

/-- Only descriptors of the surfaces are written. -/
theorem Block.onSurfs_keeps (b : Block) (client : Nat) (l : List Surf) (id : Nat) (f : Surf → Surf) :
    (b.onSurfs client l id f).1.regs = b.regs ∧ (b.onSurfs client l id f).1.ing = b.ing := by
  rw [Block.onSurfs]
  dsimp only
  refine Block.each_rel (R := fun c t => t.regs = c.regs ∧ t.ing = c.ing) (fun _ => ⟨rfl, rfl⟩)
    (fun _ _ _ h k => ⟨k.1.trans h.1, k.2.trans h.2⟩) _ b fun x _ c => c.writeDesc_keeps client x

theorem Block.holdWb_keeps (b : Block) (id : Nat) (add : Bool) : (b.holdWb id add).regs = b.regs ∧ (b.holdWb id add).ing = b.ing := by
  obtain ⟨h1, h2⟩ := b.onSurfs_keeps 2 b.cmp.bufs id (·.hold add)
  rw [Block.holdWb]
  exact ⟨h1, h2⟩

theorem Block.monitorStop_spec (b : Block) : b.monitorStop.regs = b.regs ∧ b.monitorStop.ing.mon.surf = none := by
  rw [Block.monitorStop]
  cases b.ing.mon.surf with
  | none => exact ⟨rfl, rfl⟩
  | some x => exact ⟨(b.holdWb_keeps x.id false).1, rfl⟩

theorem monitorEnable_stops (b : Block) (v : Word) (h : b.bit F.ING_MON_CTRL_EN = true) (h0 : F.ING_MON_CTRL_EN.of v.toNat = 0) :
    let t := monitorEnable v b
    t.bit F.ING_MON_CTRL_EN = false ∧ t.ing.mon.surf = none ∧ t.get F.ING_MON_CTRL_PT = b.get F.ING_MON_CTRL_PT
      ∧ SameWords [R.ING_MON_CTRL] b t := by
  rw [monitorEnable, h, if_pos rfl, if_pos h0]
  have hbit : (b.set F.ING_MON_CTRL_EN 0).bit F.ING_MON_CTRL_EN = false := Block.bit_set_zero_self b rfl
  have hpt : (b.set F.ING_MON_CTRL_EN 0).get F.ING_MON_CTRL_PT = b.get F.ING_MON_CTRL_PT := Block.get_set_apart b 0 rfl rfl
  have hw : SameWords [R.ING_MON_CTRL] b (b.set F.ING_MON_CTRL_EN 0) :=
    (sameWords_set (f := F.ING_MON_CTRL_EN) 0 (List.mem_singleton.mpr rfl)).mpr (.refl _ b)
  generalize b.set F.ING_MON_CTRL_EN 0 = c at *
  obtain ⟨sr, ss⟩ := c.monitorStop_spec
  generalize c.monitorStop = t at *
  exact ⟨by rw [Block.bit, Block.get_congr sr, ← Block.bit, hbit], ss, by rw [Block.get_congr sr, hpt], (sameWords_congr sr).mpr hw⟩

/-- What sending a packet leaves: ING's records, memory, and, of a packet that is not sent, the ports' records. -/
def MonBeside (poisoned : Bool) (b t : Block) : Prop := t.ing = b.ing ∧ SameMem b t ∧ (poisoned = true → t.eth = b.eth)

theorem MonBeside.trans {poisoned : Bool} {b c t : Block} (h : MonBeside poisoned b c) (k : MonBeside poisoned c t) : MonBeside poisoned b t :=
  ⟨k.1.trans h.1, h.2.1.trans k.2.1, fun hp => (k.2.2 hp).trans (h.2.2 hp)⟩

theorem monBeside_send (b : Block) {n : Nat} (hn : n < 2) (on poisoned : Bool) (sub cls : Nat) (v6 : Bool) (dst len : Nat) (item : Out) :
    MonBeside poisoned b (if on && !poisoned then b.ethSendIp n sub cls v6 dst len item else b) := by
  split
  · next h =>
    have hs := (ethSends_ethSendIp b sub cls v6 dst len item hn).1
    refine ⟨hs.ing, hs.sameMem, fun hp => ?_⟩
    rw [hp] at h
    simp at h
  · exact ⟨rfl, .refl b, fun _ => rfl⟩

/-- The sender moves on by a packet. -/
def Block.monitorMoved (b : Block) (lo hi : Nat) (x : Surf) (pos : Nat) : Block :=
  { b.surfUse 1 x lo hi with ing.mon := { (b.surfUse 1 x lo hi).ing.mon with seq := (b.ing.mon.seq + 1) % 2 ^ 32, pos := pos } }

theorem Block.monitorMoved_spec (b : Block) (lo hi : Nat) (x : Surf) (pos : Nat) :
    let t := b.monitorMoved lo hi x pos
    t.ing.mon.seq = (b.ing.mon.seq + 1) % 2 ^ 32 ∧ t.ing.mon.surf = b.ing.mon.surf ∧ t.ing.mon.pos = pos ∧ t.eth = b.eth ∧ SameMem b t := by
  have hi' : (b.surfUse 1 x lo hi).ing = b.ing := b.dramUse_ing 1 _ _
  have he : (b.surfUse 1 x lo hi).eth = b.eth := b.dramUse_eth 1 _ _
  have hd : (b.surfUse 1 x lo hi).dram = b.dram := b.dramUse_dram 1 _ _
  have hq : (b.surfUse 1 x lo hi).qdr = b.qdr := b.dramUse_qdr 1 _ _
  unfold Block.monitorMoved
  generalize b.surfUse 1 x lo hi = c at *
  exact ⟨rfl, by rw [hi'], rfl, he, sameMem_of_eq hd hq⟩

theorem monitorPacketSend_beside {b : Block} {poisoned : Bool} {x : Surf} (hen : b.bit F.ING_MON_CTRL_EN = true) (hon : b.ingOn = true)
    (hx : b.ing.mon.surf = some x) (hlast : b.ing.mon.pos + min (monitorPixels x.fmt) (x.w * x.h - b.ing.mon.pos) < x.w * x.h) :
    ∃ lo hi, MonBeside poisoned (b.monitorMoved lo hi x (b.ing.mon.pos + min (monitorPixels x.fmt) (x.w * x.h - b.ing.mon.pos)))
      (monitorPacketSend poisoned b) := by
  have htake : b.monitorTake = b := by
    rw [Block.monitorTake, hx]
    rfl
  rw [monitorPacketSend, hen, hon, if_neg (by decide), htake]
  dsimp only
  rw [hx]
  dsimp only
  rw [decide_eq_false (by omega), if_neg (by decide)]
  exact ⟨_, _, (monBeside_send _ (by decide) _ _ _ _ _ _ _ _).trans (monBeside_send _ (by decide) _ _ _ _ _ _ _ _)⟩

theorem monitorPacketSend_spec {b : Block} {poisoned : Bool} {x : Surf} (hen : b.bit F.ING_MON_CTRL_EN = true) (hon : b.ingOn = true)
    (hx : b.ing.mon.surf = some x) (hlast : b.ing.mon.pos + min (monitorPixels x.fmt) (x.w * x.h - b.ing.mon.pos) < x.w * x.h) :
    let t := monitorPacketSend poisoned b
    t.ing.mon.seq = (b.ing.mon.seq + 1) % 2 ^ 32 ∧ t.ing.mon.surf = some x
      ∧ t.ing.mon.pos = b.ing.mon.pos + min (monitorPixels x.fmt) (x.w * x.h - b.ing.mon.pos)
      ∧ (poisoned = true → t.eth = b.eth) ∧ SameMem b t := by
  obtain ⟨lo, hi, hs⟩ := monitorPacketSend_beside (poisoned := poisoned) hen hon hx hlast
  generalize b.ing.mon.pos + min (monitorPixels x.fmt) (x.w * x.h - b.ing.mon.pos) = pos at *
  obtain ⟨m1, m2, m3, m4, m5⟩ := b.monitorMoved_spec lo hi x pos
  generalize b.monitorMoved lo hi x pos = c at *
  generalize monitorPacketSend poisoned b = t at *
  obtain ⟨si, sm, se⟩ := hs
  exact ⟨by rw [si, m1], by rw [si, m2, hx], by rw [si, m3], fun hp => (se hp).trans m4, m5.trans sm⟩

/-- Settles O56, command by command. -/
theorem streamsIn : Obligations.StreamsIn := by
  unfold Obligations.StreamsIn
  refine ⟨fun b k s hr hlen hm => ⟨fun hpt hf hroom hnext => ?_, fun f hfind hbuf hpt hf hroom hnext hseg => ?_,
      fun hpt hf hroom hnext _ hgap hlost hknown => ?_, fun hpt => ?_⟩,
    fun b s g rest hr hs hlen hon hg hf => ?_,
    fun b s due f rest hr hs hlen hon hf hd => ⟨?_, fun hbuf hrest => ?_⟩,
    fun b s e t0 hr hs he hon h0 hup => ⟨fun h1 => ?_, fun u h1 hlate hother => ?_⟩,
    fun b p v hr hg => ⟨fun h => ?_, fun h h0 => ?_⟩,
    fun b poisoned x hr hen hon hx hlast => ?_⟩
  · refine gives_of_done (t := streamPacket k b) hr (fun _ => rfl) ?_
    obtain ⟨hs, he⟩ := ingMatch_lt hm
    obtain ⟨-, -, hst, -⟩ := Block.pathHeard_spec hs he hlen
    rw [streamPacket_merged hlen hm hpt hf hroom, Block.merge_next (by rw [hst, hnext])]
  · obtain ⟨k1, k2, k3, k4, k5⟩ := streamPacket_bare hlen hm hfind hbuf hpt hf hroom hnext hseg
    exact gives_of_done (t := streamPacket k b) hr (fun _ => rfl) ⟨k1, k2, k3, k4, k5⟩
  · obtain ⟨k1, k2, k3, k4, k5⟩ := streamPacket_redundant hlen hm hpt hf hroom hnext hgap hlost hknown
    exact gives_of_done (t := streamPacket k b) hr (fun _ => rfl) ⟨k1, k2, k3, k4, k5⟩
  · obtain ⟨k1, k2, k3, k4, k5⟩ := streamPacket_otherType hlen hm hpt
    exact gives_of_done (t := streamPacket k b) hr (fun _ => rfl) ⟨k1, k2, k3, k4, k5⟩
  · obtain ⟨k1, k2, k3, k4, k5, k6⟩ := skewWindowExpiry_spec hs hlen hon hg hf
    exact gives_of_done (t := skewWindowExpiry s b) hr (fun _ => rfl) ⟨k1, k2, k3, k4, k5, k6⟩
  · refine gives_of_done (t := sourceFrameConclude s b) hr (fun _ => rfl) ?_
    rw [sourceFrameConclude_eq hon hf hd]
  · obtain ⟨k1, k2, k3, k4, k5⟩ := sourceFrameConclude_dropped hs hlen hon hf hd hbuf hrest
    exact gives_of_done (t := sourceFrameConclude s b) hr (fun _ => rfl) ⟨k1, k2, k3, k4, k5⟩
  · obtain ⟨k1, k2, k3, k4, k5, k6, k7, k8⟩ := streamPathTimeout_both hs he hon h0 hup h1
    exact gives_of_done (t := streamPathTimeout s e b) hr (fun _ => rfl) ⟨k1, k2, k3, k4, k5, k6, k7, k8⟩
  · obtain ⟨k1, k2, k3, k4, k5, k6⟩ := streamPathTimeout_one hs he hon h0 hup h1 hlate hother
    exact gives_of_done (t := streamPathTimeout s e b) hr (fun _ => rfl) ⟨k1, k2, k3, k4, k5, k6⟩
  · obtain ⟨k1, k2, k3, -, k5, k6⟩ := monitorEnable_starts b v h
    exact gives_of_writing (f := monitorEnable v) hr hg (fun _ => rfl) ⟨k1, k2, k3, k5, k6⟩
  · obtain ⟨k1, k2, k3, k4⟩ := monitorEnable_stops b v h h0
    exact gives_of_writing (f := monitorEnable v) hr hg (fun _ => rfl) ⟨k1, k2, k3, k4⟩
  · obtain ⟨k1, k2, k3, k4, k5⟩ := monitorPacketSend_spec (poisoned := poisoned) hen hon hx hlast
    exact gives_of_done (t := monitorPacketSend poisoned b) hr (fun _ => rfl) ⟨k1, k2, k3, k4, k5⟩

end Sys2Proof.Machine
end

section
/-!
PROOFS of chapter 6: the servo, the selection of a source and what they leave.
-/

namespace Sys2Proof.Machine

/-! ### Signed fields -/

theorem satSigned_range (i : Int) : -2 ^ 31 ≤ satSigned 32 i ∧ satSigned 32 i < 2 ^ 31 := by
  rw [satSigned]
  split_ifs <;> constructor <;> omega

theorem signed_unsigned {i : Int} (h : -2 ^ 31 ≤ i) (h' : i < 2 ^ 31) : signed 32 (unsigned 32 i) = i := by
  rw [signed, unsigned]
  split_ifs <;> omega

/-- A signed field of 32 bits reads back what was written, saturated. -/
theorem Block.getInt_setInt (b : Block) {f : Fld} (i : Int) (hok : f.ok = true) (hw : f.width = 32) : (b.setInt f i).getInt f = satSigned 32 i := by
  obtain ⟨h, h'⟩ := satSigned_range i
  have hlt : unsigned 32 (satSigned 32 i) < 2 ^ 32 := by
    rw [unsigned]
    omega
  rw [Block.getInt, Block.setInt, Block.get_set_self _ _ hok, hw, Nat.mod_eq_of_lt hlt, signed_unsigned h h']

/-! ### Steps of the servo -/

/-- The fields of PTP that the servo leaves. -/
def PtpBeside (g : Fld) : Prop :=
  g.addr / 0x10000 = 0x13 ∧ g.addr ≠ R.PTP_RATE ∧ g.apart F.PTP_STATUS_STATE = true ∧ g.apart F.PTP_STATUS_TIME_VALID = true
    ∧ g.apart F.PTP_STATUS_SLEWING = true ∧ g.apart F.PTP_IRQ_STATUS_STATE = true ∧ g.apart F.PTP_IRQ_STATUS_ERR = true
    ∧ g.apart F.PTP_ERR_SLEW_LARGE = true

/-- A register of PTP that is none of those the servo writes is beside. -/
theorem ptpBeside_of_addr {g : Fld} (hw : g.addr / 0x10000 = 0x13) (hs : g.addr ≠ R.PTP_STATUS) (hr : g.addr ≠ R.PTP_RATE)
    (hi : g.addr ≠ R.PTP_IRQ_STATUS) (he : g.addr ≠ R.PTP_ERR) : PtpBeside g :=
  ⟨hw, hr, Fld.apart_of_addr hs, Fld.apart_of_addr hs, Fld.apart_of_addr hs, Fld.apart_of_addr hi, Fld.apart_of_addr hi, Fld.apart_of_addr he⟩

/-- What a step of the servo keeps. -/
def ServoStep (b t : Block) : Prop := t.clk = b.clk ∧ SameMem b t ∧ ∀ g, PtpBeside g → t.get g = b.get g

theorem ServoStep.refl (b : Block) : ServoStep b b := ⟨rfl, .refl b, fun _ _ => rfl⟩

theorem ServoStep.trans {b c t : Block} (h : ServoStep b c) (k : ServoStep c t) : ServoStep b t :=
  ⟨k.1.trans h.1, h.2.1.trans k.2.1, fun g hg => (k.2.2 g hg).trans (h.2.2 g hg)⟩

theorem servoStep_set (b : Block) {f : Fld} (v : Nat) (hok : f.ok = true) (h : ∀ g, PtpBeside g → g.apart f = true) : ServoStep b (b.set f v) :=
  ⟨Block.set_clk b f v, (regsOnly_set b f v).sameMem, fun g hg => Block.get_set_apart b v hok (h g hg)⟩

/-- A register outside PTP's window. -/
theorem servoStep_outside (b : Block) {f : Fld} (v : Nat) (hok : f.ok = true) (h : f.addr / 0x10000 ≠ 0x13) : ServoStep b (b.set f v) :=
  servoStep_set b v hok fun g hg => Fld.apart_of_addr fun he => h (by rw [← he]; exact hg.1)

/-- Only records beside the registers change. -/
theorem servoStep_records {b t : Block} (hr : t.regs = b.regs) (hc : t.clk = b.clk) (hd : t.dram = b.dram) (hq : t.qdr = b.qdr) : ServoStep b t :=
  ⟨hc, sameMem_of_eq hd hq, fun g _ => Block.get_congr hr g⟩

theorem servoStep_setServo (b : Block) (st : Nat) : ServoStep b (b.setServo st) := by
  rw [Block.setServo]
  split
  · exact .refl b
  · rw [Block.irq_eq]
    exact (servoStep_set b st rfl fun g hg => hg.2.2.1).trans (servoStep_set _ 1 rfl fun g ⟨_, _, _, _, _, hi, _⟩ => hi)

theorem servoStep_withPtp (b : Block) (p : Ptp) : ServoStep b { b with ptp := p } := servoStep_records rfl rfl rfl rfl

theorem servoStep_raise (b : Block) : ServoStep b (b.raise E.PTP_SLEW_LARGE) := by
  rw [Block.raise_eq]
  refine ⟨b.raiseAt_clk _ _, (sameMem_raiseAt b b _ _).mpr (.refl b), fun g ⟨hw, _, _, _, _, _, hi, he⟩ => ?_⟩
  exact b.get_raiseAt_apart _ rfl rfl he hi (by rw [hw]; decide)

theorem servoStep_reacquire (b : Block) (o : Int) : ServoStep b (b.reacquire o) := by
  rw [Block.reacquire]
  dsimp only
  have h := (servoStep_setServo b servoAcquire).trans
    (servoStep_withPtp _ { (b.setServo servoAcquire).ptp with inLock := 0, outLock := 0, recent := [] })
  rw [Block.raiseIf]
  split
  · exact h.trans (servoStep_raise _)
  · exact h

theorem servoStep_setPair (b : Block) {lo hi : Fld} (v : Nat) (hlo : lo.ok = true) (hhi : hi.ok = true) (h : lo.addr / 0x10000 ≠ 0x13)
    (h' : hi.addr / 0x10000 ≠ 0x13) : ServoStep b (b.setPair lo hi v) := by
  rw [Block.setPair_eq]
  exact (servoStep_outside b _ hlo h).trans (servoStep_outside _ _ hhi h')

theorem servoStep_gridStep (b : Block) (o : Int) : ServoStep b (b.gridStep o) := by
  rw [Block.gridStep]
  dsimp only
  rw [Block.showNext]
  refine ((servoStep_records ?_ ?_ ?_ ?_).trans (servoStep_setPair _ _ ?_ ?_ ?_ ?_)).trans (servoStep_setPair _ _ ?_ ?_ ?_ ?_)
  all_goals first | rfl | decide

theorem servoStep_stepStc (b : Block) (o : Int) : ServoStep b (b.stepStc o) := by
  rw [Block.stepStc]
  dsimp only
  refine (servoStep_records ?_ ?_ ?_ ?_).trans (servoStep_gridStep _ o) <;> rfl

theorem servoStep_stageTime (b : Block) : ServoStep b b.stageTime := by
  rw [Block.stageTime, Block.when]
  split
  · exact servoStep_outside b 6 rfl (by decide)
  · exact .refl b

theorem servoStep_setFrm (b : Block) (st : Nat) : ServoStep b (b.setFrm st) := by
  rw [Block.setFrm]
  split
  · exact .refl b
  · rw [Block.irq_eq]
    exact (servoStep_outside b st rfl (by decide)).trans (servoStep_outside _ 1 rfl (by decide))

theorem servoStep_frmKnow (b : Block) : ServoStep b b.frmKnow := by
  rw [Block.frmKnow]
  split
  · split
    · exact (servoStep_records (t := { b with frm.events := [b.freeEvent] }) rfl rfl rfl rfl).trans (servoStep_setFrm _ _)
    · split
      · exact .refl b
      · exact servoStep_setFrm b _
  · exact .refl b

theorem servoStep_steer (b : Block) (o : Int) : ServoStep b (b.steer o) := by
  rw [Block.steer, Block.fresh]
  dsimp only
  rw [Block.setBit_eq]
  refine ((servoStep_records ?_ ?_ ?_ ?_).trans (servoStep_set (f := F.PTP_RATE_RATE) _ _ rfl fun g hg => Fld.apart_of_addr hg.2.1)).trans
    (servoStep_set _ _ rfl fun g ⟨_, _, _, _, hs, _⟩ => hs) <;> rfl

/-- The servo begins to acquire a source. -/
def Block.servoBegun (b : Block) (o : Int) : Block :=
  if b.get F.PTP_STATUS_STATE = servoFree then { b.setServo servoAcquire with ptp := { b.ptp with inLock := 0, recent := [] } }
  else if b.get F.PTP_STATUS_STATE = servoHoldover then b.reacquire o else b

theorem servoStep_servoBegun (b : Block) (o : Int) : ServoStep b (b.servoBegun o) := by
  rw [Block.servoBegun]
  split
  · exact (servoStep_setServo b servoAcquire).trans (servoStep_withPtp _ _)
  · split
    · exact servoStep_reacquire b o
    · exact .refl b

/-- The servo takes an offset as its state says. -/
def Block.servoTook (b : Block) (o : Int) : Block :=
  if b.get F.PTP_STATUS_STATE = servoAcquire then
    if !b.ptp.stepped then
      if agree ((o :: b.ptp.recent).take 4) then b.stepStc o else { b with ptp.recent := (o :: b.ptp.recent).take 4 }
    else
      let k := if o.natAbs ≤ ofNs (b.get F.PTP_LOCK_LOCK_NS) then b.ptp.inLock + 1 else 0
      let b := { b with ptp.inLock := k }
      if b.get F.PTP_LOCK_LOCK_COUNT ≤ k then
        let b := { (b.setServo servoLocked).set F.PTP_STATUS_TIME_VALID 1 with ptp.outLock := 0 }
        (b.stageTime).frmKnow
      else b
  else
    let k := if ofNs (b.get F.PTP_LOCK_UNLOCK_100NS * 100) < o.natAbs then b.ptp.outLock + 1 else 0
    if 4 ≤ k then b.reacquire o else { b with ptp.outLock := k }

theorem servoStep_servoTook (b : Block) (o : Int) : ServoStep b (b.servoTook o) := by
  rw [Block.servoTook]
  split
  · split
    · split
      · exact servoStep_stepStc b o
      · exact servoStep_withPtp b _
    · generalize (if o.natAbs ≤ ofNs (b.get F.PTP_LOCK_LOCK_NS) then b.ptp.inLock + 1 else 0) = k
      dsimp only
      have h := servoStep_withPtp b { b.ptp with inLock := k }
      generalize ({ b with ptp := { b.ptp with inLock := k } } : Block) = c at *
      split
      · exact (((h.trans (servoStep_setServo c servoLocked)).trans (servoStep_set _ 1 rfl fun g hg => hg.2.2.2.1)).trans
          (servoStep_withPtp _ _)).trans ((servoStep_stageTime _).trans (servoStep_frmKnow _))
      · exact h
  · generalize (if ofNs (b.get F.PTP_LOCK_UNLOCK_100NS * 100) < o.natAbs then b.ptp.outLock + 1 else 0) = k
    dsimp only
    split
    · exact servoStep_reacquire b o
    · exact servoStep_withPtp b _

theorem Block.servo_eq (b : Block) (o : Int) :
    b.servo o = ((b.servoBegun o).servoTook o).when ((b.servoBegun o).servoTook o).ptp.stepped (·.steer o) := by
  rw [Block.servo, Block.servoTook, Block.servoBegun]

/-- What the servo keeps when it takes an offset. -/
theorem servoStep_servo (b : Block) (o : Int) : ServoStep b (b.servo o) := by
  rw [Block.servo_eq]
  have h := (servoStep_servoBegun b o).trans (servoStep_servoTook _ o)
  rw [Block.when]
  split
  · exact h.trans (servoStep_steer _ o)
  · exact h

end Sys2Proof.Machine
end

section
/-!
PROOFS of chapter 6: what a measurement leaves, and the messages of the masters.
-/

namespace Sys2Proof.Machine

/-! ### Selection (R172) -/

/-- The fields of PTP that neither the servo nor the selection writes. -/
def DomBeside (g : Fld) : Prop :=
  g.addr / 0x10000 = 0x13 ∧ g.addr ≠ R.PTP_STATUS ∧ g.addr ≠ R.PTP_RATE ∧ g.addr ≠ R.PTP_IRQ_STATUS ∧ g.addr ≠ R.PTP_ERR
    ∧ g.addr ≠ R.PTP_DOM_DIFF

/-- What a selection keeps. -/
def SelStep (b t : Block) : Prop := t.clk = b.clk ∧ SameMem b t ∧ ∀ g, DomBeside g → t.get g = b.get g

theorem SelStep.refl (b : Block) : SelStep b b := ⟨rfl, .refl b, fun _ _ => rfl⟩

theorem SelStep.trans {b c t : Block} (h : SelStep b c) (k : SelStep c t) : SelStep b t :=
  ⟨k.1.trans h.1, h.2.1.trans k.2.1, fun g hg => (k.2.2 g hg).trans (h.2.2 g hg)⟩

theorem ServoStep.sel {b t : Block} (h : ServoStep b t) : SelStep b t :=
  ⟨h.1, h.2.1, fun g ⟨hw, hs, hr, hi, he, _⟩ => h.2.2 g (ptpBeside_of_addr hw hs hr hi he)⟩

theorem selStep_set (b : Block) {f : Fld} (v : Nat) (hok : f.ok = true) (h : ∀ g, DomBeside g → g.addr ≠ f.addr) : SelStep b (b.set f v) :=
  ⟨Block.set_clk b f v, (regsOnly_set b f v).sameMem, fun g hg => Block.get_set_apart b v hok (Fld.apart_of_addr (h g hg))⟩

theorem selStep_raise (b : Block) {e : Err} (hok : e.fld.ok = true) (hf : e.fld.addr = R.PTP_ERR) (hi : e.irq = F.PTP_IRQ_STATUS_ERR) :
    SelStep b (b.raise e) := by
  rw [Block.raise_eq]
  refine ⟨b.raiseAt_clk _ _, (sameMem_raiseAt b b _ _).mpr (.refl b), fun g ⟨hw, _, _, h4, h5, _⟩ => ?_⟩
  exact b.get_raiseAt_apart _ hok (by rw [hi]; rfl) (Fld.apart_of_addr (by rw [hf]; exact h5)) (by rw [hi]; exact Fld.apart_of_addr h4)
    (by rw [hw]; decide)

theorem selStep_records {b t : Block} (hr : t.regs = b.regs) (hc : t.clk = b.clk) (hd : t.dram = b.dram) (hq : t.qdr = b.qdr) : SelStep b t :=
  (servoStep_records hr hc hd hq).sel

/-- A source is selected: SOURCE and its interrupt, and on a move its error. -/
theorem Block.selectSource_spec {b : Block} {d : Nat} (h : b.get F.PTP_STATUS_SOURCE ≠ d) (hd : d < 4) :
    let t := b.selectSource d
    SelStep b t ∧ t.get F.PTP_STATUS_SOURCE = d ∧ t.bit F.PTP_IRQ_STATUS_SWITCH = true ∧ t.get F.PTP_STATUS_STATE = b.get F.PTP_STATUS_STATE
      ∧ t.ptp = b.ptp ∧ SameOutside [0x13] b t
      ∧ (b.get F.PTP_STATUS_SOURCE ≠ sourceNone → d ≠ sourceNone → t.bit F.PTP_ERR_SWITCH = true) := by
  rw [Block.selectSource]
  dsimp only
  rw [if_neg h, Block.irq_eq]
  have h1 : SelStep b ((b.set F.PTP_STATUS_SOURCE d).set F.PTP_IRQ_STATUS_SWITCH 1) :=
    (selStep_set b d rfl fun g hg => hg.2.1).trans (selStep_set _ 1 rfl fun g ⟨_, _, _, h4, _⟩ => h4)
  have h2 : ((b.set F.PTP_STATUS_SOURCE d).set F.PTP_IRQ_STATUS_SWITCH 1).get F.PTP_STATUS_SOURCE = d := by
    rw [Block.get_set_apart _ _ rfl rfl, Block.get_set_self _ _ rfl]
    exact Nat.mod_eq_of_lt hd
  have h3 : ((b.set F.PTP_STATUS_SOURCE d).set F.PTP_IRQ_STATUS_SWITCH 1).bit F.PTP_IRQ_STATUS_SWITCH = true := Block.bit_set_one_self _ rfl rfl
  have h4 : ((b.set F.PTP_STATUS_SOURCE d).set F.PTP_IRQ_STATUS_SWITCH 1).get F.PTP_STATUS_STATE = b.get F.PTP_STATUS_STATE := by
    rw [Block.get_set_apart _ _ rfl rfl, Block.get_set_apart _ _ rfl rfl]
  have h5 : ((b.set F.PTP_STATUS_SOURCE d).set F.PTP_IRQ_STATUS_SWITCH 1).ptp = b.ptp := by
    rw [Block.set_ptp, Block.set_ptp]
  have h6 : SameOutside [0x13] b ((b.set F.PTP_STATUS_SOURCE d).set F.PTP_IRQ_STATUS_SWITCH 1) :=
    (sameOutside_set (f := F.PTP_IRQ_STATUS_SWITCH) 1 (by decide)).mpr ((sameOutside_set (f := F.PTP_STATUS_SOURCE) d (by decide)).mpr (.refl _ b))
  generalize (b.set F.PTP_STATUS_SOURCE d).set F.PTP_IRQ_STATUS_SWITCH 1 = c at *
  rw [Block.raiseIf]
  split
  · rw [Block.raise_eq]
    have hget (g : Fld) (hg : g.apart F.PTP_ERR_SWITCH = true) (hi : g.apart F.PTP_IRQ_STATUS_ERR = true) (hw : g.addr / 0x10000 ≠ 0x30) :
        (c.raiseAt E.PTP_SWITCH noDetail).get g = c.get g := c.get_raiseAt_apart noDetail rfl rfl hg hi hw
    refine ⟨h1.trans (by rw [← Block.raise_eq]; exact selStep_raise c rfl rfl rfl), by rw [hget _ rfl rfl (by decide), h2],
      by rw [Block.bit, hget _ rfl rfl (by decide), ← Block.bit, h3], by rw [hget _ rfl rfl (by decide), h4], by rw [Block.raiseAt_ptp, h5], ?_,
      fun _ _ => c.bit_raiseAt_unlogged noDetail rfl rfl rfl (by decide)⟩
    rw [sameOutside_raiseAt_unlogged noDetail rfl (by decide) (by decide)]
    exact h6
  · next hn =>
    refine ⟨h1, h2, h3, h4, h5, h6, fun hold hnew => absurd ?_ hn⟩
    rw [Bool.and_eq_true, bne_iff_ne, bne_iff_ne]
    exact ⟨hold, hnew⟩

theorem selStep_selectSource (b : Block) (d : Nat) : SelStep b (b.selectSource d) := by
  rw [Block.selectSource]
  dsimp only
  split
  · exact .refl b
  · rw [Block.irq_eq, Block.raiseIf]
    have h : SelStep b ((b.set F.PTP_STATUS_SOURCE d).set F.PTP_IRQ_STATUS_SWITCH 1) :=
      (selStep_set b d rfl fun g hg => hg.2.1).trans (selStep_set _ 1 rfl fun g ⟨_, _, _, h4, _⟩ => h4)
    split
    · exact h.trans (selStep_raise _ rfl rfl rfl)
    · exact h

theorem selStep_selectAfter (b : Block) (d : Nat) (together : Bool) : SelStep b (b.selectAfter d together) := by
  rw [Block.selectAfter]
  split
  · exact (selStep_set b 0 rfl fun g hg => hg.2.1).trans (servoStep_withPtp _ _).sel
  · dsimp only
    exact (servoStep_withPtp b _).sel.trans (selStep_selectSource _ _)

/-! ### A measurement of domain A (R170) -/

/-- The registers of domain A once it is measured. -/
def Block.domShown (b : Block) (m : Master) (o : Int) : Block :=
  ((((((b.set (F.PTP_DOMd_STATUS_STATE 0) 2).setInt (F.PTP_DOMd_OFFSET 0) (o / 40)).set (F.PTP_DOMd_GM_LO 0) m.gm).set
    (F.PTP_DOMd_GM_HI 0) (m.gm / 2 ^ 32)).set (F.PTP_DOMd_STATUS_GM_CLASS 0) m.gmClass).set (F.PTP_DOMd_STATUS_PORT 0) m.port).set
    (F.PTP_DOMd_PATH_DELAY 0) (m.delay.getD 0 / 40).toNat

theorem Block.domShown_spec (b : Block) (m : Master) (o : Int) :
    let t := b.domShown m o
    RegsOnly b t ∧ t.get (F.PTP_DOMd_STATUS_STATE 0) = 2 ∧ t.getInt (F.PTP_DOMd_OFFSET 0) = satSigned 32 (o / 40)
      ∧ ∀ g : Fld, (g.addr < R.PTP_DOMd_STATUS 0 ∨ R.PTP_DOMd_PATH_DELAY 0 < g.addr) → t.get g = b.get g := by
  unfold Block.domShown
  refine ⟨?_, ?_, ?_, fun g hg => ?_⟩
  · rw [Block.setInt]
    exact (((((regsOnly_set b _ _).trans (regsOnly_set _ _ _)).trans (regsOnly_set _ _ _)).trans (regsOnly_set _ _ _)).trans
      (regsOnly_set _ _ _)).trans ((regsOnly_set _ _ _).trans (regsOnly_set _ _ _))
  · rw [Block.get_set_apart _ _ rfl rfl, Block.get_set_apart _ _ rfl rfl, Block.get_set_apart _ _ rfl rfl, Block.get_set_apart _ _ rfl rfl,
      Block.get_set_apart _ _ rfl rfl, Block.setInt, Block.get_set_apart _ _ rfl rfl, Block.get_set_self _ _ rfl]
    rfl
  · rw [Block.getInt, Block.get_set_apart _ _ rfl rfl, Block.get_set_apart _ _ rfl rfl, Block.get_set_apart _ _ rfl rfl,
      Block.get_set_apart _ _ rfl rfl, Block.get_set_apart _ _ rfl rfl, ← Block.getInt, Block.getInt_setInt _ _ rfl rfl]
  · have hne (f : Fld) (hf : R.PTP_DOMd_STATUS 0 ≤ f.addr ∧ f.addr ≤ R.PTP_DOMd_PATH_DELAY 0) : g.apart f = true :=
      Fld.apart_of_addr (by omega)
    rw [Block.get_set_apart _ _ rfl (hne _ (by decide)), Block.get_set_apart _ _ rfl (hne _ (by decide)), Block.get_set_apart _ _ rfl (hne _ (by decide)),
      Block.get_set_apart _ _ rfl (hne _ (by decide)), Block.get_set_apart _ _ rfl (hne _ (by decide)), Block.setInt,
      Block.get_set_apart _ _ rfl (hne _ (by decide)), Block.get_set_apart _ _ rfl (hne _ (by decide))]

/-- How far the two domains are apart. -/
def Block.diffShown (b : Block) : Block :=
  match b.offsetOf 0, b.offsetOf 1 with
  | some x, some y =>
    let b := b.setInt F.PTP_DOM_DIFF ((x - y) / 40)
    { b with ptp.diffSince := if ofNs 1000 < (x - y).natAbs then some (b.ptp.diffSince.getD b.clk) else none }
  | _, _ => { b with ptp.diffSince := none }

theorem selStep_diffShown (b : Block) : SelStep b b.diffShown := by
  rw [Block.diffShown]
  split
  · rw [Block.setInt]
    exact (selStep_set b _ rfl fun g ⟨_, _, _, _, _, h⟩ => h).trans (servoStep_withPtp _ _).sel
  · exact (servoStep_withPtp b _).sel

theorem selStep_cleanA (b : Block) : SelStep b b.cleanA := by
  rw [Block.cleanA]
  exact (servoStep_withPtp b _).sel

/-- The source's new offset. -/
def Block.withOffset (b : Block) (d : Nat) (o : Option Int) : Block := { b with ptp.offsets := b.ptp.offsets.set d o }

theorem Block.measured_eq (b : Block) (m : Master) (o : Int) :
    b.measured 0 m o =
      if ((((b.withOffset 0 (some o)).domShown m o).cleanA.diffShown).selectAfter 0 (b.firstTogether 0)).get F.PTP_STATUS_SOURCE = 0 then
        ((((b.withOffset 0 (some o)).domShown m o).cleanA.diffShown).selectAfter 0 (b.firstTogether 0)).servo o
      else (((b.withOffset 0 (some o)).domShown m o).cleanA.diffShown).selectAfter 0 (b.firstTogether 0) := by
  rw [Block.measured, Block.diffShown, Block.domShown, Block.withOffset]
  dsimp only
  simp only [show (0 : Nat) < 2 by decide, if_true] <;> rfl

/-- A complete measurement of domain A: the domain follows it, and its registers above stay. -/
theorem Block.measured_spec (b : Block) (m : Master) (o : Int) :
    let t := b.measured 0 m o
    t.get (F.PTP_DOMd_STATUS_STATE 0) = 2 ∧ t.getInt (F.PTP_DOMd_OFFSET 0) = satSigned 32 (o / 40) ∧ SameMem b t
      ∧ ∀ g, DomBeside g → R.PTP_DOMd_PATH_DELAY 0 < g.addr → t.get g = b.get g := by
  rw [Block.measured_eq]
  have hw : SelStep b (b.withOffset 0 (some o)) := selStep_records rfl rfl rfl rfl
  generalize b.withOffset 0 (some o) = c at *
  obtain ⟨dr, ds, dO, dg⟩ := c.domShown_spec m o
  generalize c.domShown m o = d at *
  generalize b.firstTogether 0 = together
  have hsel : SelStep d ((d.cleanA.diffShown).selectAfter 0 together) :=
    ((selStep_cleanA d).trans (selStep_diffShown _)).trans (selStep_selectAfter _ 0 together)
  generalize (d.cleanA.diffShown).selectAfter 0 together = e at *
  have hall : SelStep d (if e.get F.PTP_STATUS_SOURCE = 0 then e.servo o else e) := by
    split
    · exact hsel.trans (servoStep_servo e o).sel
    · exact hsel
  generalize (if e.get F.PTP_STATUS_SOURCE = 0 then e.servo o else e) = t at *
  obtain ⟨-, hm, hg⟩ := hall
  refine ⟨by rw [hg _ (by unfold DomBeside; decide), ds], by rw [Block.getInt, hg _ (by unfold DomBeside; decide), ← Block.getInt, dO], (hw.2.1.trans dr.sameMem).trans hm,
    fun g hb ha => ?_⟩
  rw [hg g hb, dg g (.inr ha), hw.2.2 g hb]

end Sys2Proof.Machine
end

section
/-!
PROOFS of chapter 6: messages of the masters, loss of a source, chain time, and what the time statements say.
-/

namespace Sys2Proof.Machine

/-! ### Messages (R167 to R172) -/

theorem Block.masters_setMasters {b : Block} {d : Nat} (l : List Master) (h : d < b.ptp.masters.length) : (b.setMasters d l).masters d = l := by
  simp [Block.masters, Block.setMasters, h]

theorem Block.regs_setMasters (b : Block) (d : Nat) (l : List Master) : (b.setMasters d l).regs = b.regs := rfl

theorem servoStep_setMasters (b : Block) (d : Nat) (l : List Master) : ServoStep b (b.setMasters d l) := servoStep_withPtp b _

/-- Does domain `d` hear messages of this number, port and transport? -/
def Block.hears (b : Block) (d : Nat) (g : PtpMsg) : Bool :=
  b.actBit (F.PTP_DOMd_CFG_EN d) && b.act (F.PTP_DOMd_CFG_DOMAIN d) == g.domain
    && b.act (F.PTP_DOMd_CFG_TRANSPORT d) == g.transport && bitOf (b.act (F.PTP_DOMd_CFG_PORTS d)) g.port

theorem Block.hears_congr {b t : Block} (h : t.regs = b.regs) (d : Nat) (g : PtpMsg) : t.hears d g = b.hears d g := by
  rw [Block.hears, Block.actBit, Block.act, Block.act, Block.act, Block.act, Block.get_congr h, Block.get_congr h, Block.get_congr h, Block.get_congr h]
  rfl

/-- Only domain A hears a message while domain B is disabled. -/
theorem ptpMessage_eq {b : Block} {g : PtpMsg} (hp : g.port < 2) (hg : b.gated R.PTP_CTRL = false)
    (hen : b.actBit (F.PTP_DOMd_CFG_EN 0) = true) (hd : b.act (F.PTP_DOMd_CFG_DOMAIN 0) = g.domain)
    (ht : b.act (F.PTP_DOMd_CFG_TRANSPORT 0) = g.transport) (hport : bitOf (b.act (F.PTP_DOMd_CFG_PORTS 0)) g.port = true)
    (hother : ((b.untilStc (g.rx / 40)).ptpTake 0 g).actBit (F.PTP_DOMd_CFG_EN 1) = false) :
    ptpMessage g b = (b.untilStc (g.rx / 40)).ptpTake 0 g := by
  have hgc : (b.untilStc (g.rx / 40)).gated R.PTP_CTRL = false := hg
  have hhears : (b.untilStc (g.rx / 40)).hears 0 g = true := by
    rw [Block.hears_congr (b.untilStc_regs (g.rx / 40)), Block.hears, hen, hd, ht, hport, beq_self_eq_true, beq_self_eq_true]
    rfl
  rw [ptpMessage, if_neg (by rw [hgc]; simp; omega)]
  generalize b.untilStc (g.rx / 40) = c at *
  simp only [Block.each, List.foldl_cons, List.foldl_nil]
  rw [Block.hears] at hhears
  rw [if_pos hhears, hother, Bool.false_and, Bool.false_and, Bool.false_and, if_neg (by decide)]

/-- An Announce makes its sender known. -/
theorem Block.ptpTake_announce {b : Block} {g : PtpMsg} {rank : List Nat} {gm cl iv : Nat} (hk : g.kind = .announce rank gm cl iv)
    (h0 : b.masters 0 = []) :
    ∃ m : Master, m.port = g.port ∧ m.id = g.src ∧ m.rank = rank ∧ m.gm = gm ∧ m.gmClass = cl ∧ m.annDue = b.clk + 3 * iv
      ∧ b.ptpTake 0 g = (b.setMasters 0 [m]).when (b.get (F.PTP_DOMd_STATUS_STATE 0) == 0) (·.set (F.PTP_DOMd_STATUS_STATE 0) 1) := by
  refine ⟨{ Master.new g.port g.src b.clk with
    syncDue := b.clk + 3 * iv, rank := rank, gm := gm, gmClass := cl, annDue := b.clk + 3 * iv }, rfl, rfl, rfl, rfl, rfl, rfl, ?_⟩
  rw [Block.ptpTake]
  dsimp only
  rw [h0, hk]
  simp only [List.find?_nil, if_true, Master.take, List.filter_nil, List.nil_append, Bool.false_eq_true, if_false]
  rfl

/-- The only master of a domain is the one it follows. -/
theorem Block.tryMeasure_only {b : Block} {d : Nat} {m : Master} {t1 dl : Int} (hm : b.masters d = [m]) (ht : m.t1 = some t1)
    (hdl : m.delay = some dl) : b.tryMeasure d m = b.measured d m (t1 + dl + 40 * b.asym m.port - m.t2) := by
  have hbest : b.bestMaster d = some m := by
    rw [Block.bestMaster, hm]
    rfl
  rw [Block.tryMeasure, ht, hdl]
  dsimp only
  rw [if_pos (by rw [hbest]; rfl)]

/-- A one-step Sync of the only master, whose delay is known, completes a measurement. -/
theorem Block.ptpTake_sync {b : Block} {g : PtpMsg} {m : Master} {seq iv : Nat} {t1 dl : Int} (hlen : b.ptp.masters.length = 3)
    (hk : g.kind = .sync seq false t1 iv) (h0 : b.masters 0 = [m]) (hp : m.port = g.port) (hid : m.id = g.src) (hdl : m.delay = some dl)
    (hst : b.get (F.PTP_DOMd_STATUS_STATE 0) ≠ 0) :
    ∃ (l : List Master) (m' : Master),
      b.ptpTake 0 g = (b.setMasters 0 l).measured 0 m' (t1 + dl + 40 * b.asym g.port - ethStamp g.rx) := by
  refine ⟨[{ m with syncSeq := seq, t2 := ethStamp g.rx, t1 := some t1, syncDue := b.clk + 3 * iv }],
    { m with syncSeq := seq, t2 := ethStamp g.rx, t1 := some t1, syncDue := b.clk + 3 * iv }, ?_⟩
  have hmatch : (m.port == g.port && m.id == g.src) = true := by
    rw [hp, hid, beq_self_eq_true, beq_self_eq_true]
    rfl
  have hstate : (b.get (F.PTP_DOMd_STATUS_STATE 0) == 0) = false := beq_false_of_ne hst
  have hfind : [m].find? (fun m => m.port == g.port && m.id == g.src) = some m := by
    rw [List.find?_cons, hmatch]
  have hfilter : [m].filter (fun q => !(q.port == g.port && q.id == g.src)) = [] := by
    rw [List.filter_cons, hmatch]
    rfl
  rw [Block.ptpTake]
  dsimp only
  rw [h0, hfind]
  simp only [Master.take, hk, Bool.not_false, if_true, Bool.false_eq_true, if_false]
  rw [hfilter, List.nil_append]
  have hmas := Block.masters_setMasters (b := b) (d := 0)
    [{ m with syncSeq := seq, t2 := ethStamp g.rx, t1 := some t1, syncDue := b.clk + 3 * iv }] (by omega)
  have hget := Block.get_congr (b.regs_setMasters 0 [{ m with syncSeq := seq, t2 := ethStamp g.rx, t1 := some t1, syncDue := b.clk + 3 * iv }])
  generalize b.setMasters 0 [{ m with syncSeq := seq, t2 := ethStamp g.rx, t1 := some t1, syncDue := b.clk + 3 * iv }] = c at *
  rw [hget, hstate, Block.when, if_neg (by decide), Block.tryMeasure_only hmas rfl hdl, Block.asym, Block.getInt, Block.getInt, hget, hget, hp]
  rfl

theorem ptpMessage_announce {b : Block} {g : PtpMsg} {rank : List Nat} {gm cl iv : Nat} (hp : g.port < 2) (hg : b.gated R.PTP_CTRL = false)
    (hlen : b.ptp.masters.length = 3) (hen : b.actBit (F.PTP_DOMd_CFG_EN 0) = true) (hoff : b.actBit (F.PTP_DOMd_CFG_EN 1) = false)
    (hd : b.act (F.PTP_DOMd_CFG_DOMAIN 0) = g.domain) (ht : b.act (F.PTP_DOMd_CFG_TRANSPORT 0) = g.transport)
    (hport : bitOf (b.act (F.PTP_DOMd_CFG_PORTS 0)) g.port = true) (hk : g.kind = .announce rank gm cl iv) (h0 : b.masters 0 = []) :
    let t := ptpMessage g b
    (∃ m : Master, t.masters 0 = [m] ∧ m.port = g.port ∧ m.id = g.src ∧ m.rank = rank ∧ m.gm = gm ∧ m.gmClass = cl ∧ m.annDue = t.clk + 3 * iv)
      ∧ (b.get (F.PTP_DOMd_STATUS_STATE 0) = 0 → t.get (F.PTP_DOMd_STATUS_STATE 0) = 1) ∧ SameWords [R.PTP_DOMd_STATUS 0] b t ∧ SameMem b t := by
  have heq := ptpMessage_eq hp hg hen hd ht hport
  have hregs := b.untilStc_regs (g.rx / 40)
  have hmem : SameMem b (b.untilStc (g.rx / 40)) := sameMem_of_eq (Block.untilStc_dram _ _) (Block.untilStc_qdr _ _)
  have hptp : (b.untilStc (g.rx / 40)).ptp = b.ptp := Block.untilStc_ptp _ _
  generalize b.untilStc (g.rx / 40) = c at *
  obtain ⟨m, k1, k2, k3, k4, k5, k6, htake⟩ := Block.ptpTake_announce (b := c) hk (by rw [Block.masters, hptp, ← Block.masters, h0])
  have hmas := Block.masters_setMasters (b := c) (d := 0) [m] (by rw [hptp, hlen]; decide)
  have hr2 := c.regs_setMasters 0 [m]
  have hs := servoStep_setMasters c 0 [m]
  rw [htake] at heq
  generalize c.setMasters 0 [m] = e at *
  have hwe : SameWords [R.PTP_DOMd_STATUS 0] b e := (sameWords_congr (hr2.trans hregs)).mpr (.refl _ b)
  have hge (f : Fld) : e.get f = b.get f := Block.get_congr (hr2.trans hregs) f
  rw [Block.get_congr hregs, Block.when] at heq
  have hset : SameWords [R.PTP_DOMd_STATUS 0] b (e.set (F.PTP_DOMd_STATUS_STATE 0) 1) :=
    (sameWords_set (f := F.PTP_DOMd_STATUS_STATE 0) 1 (List.mem_singleton.mpr rfl)).mpr hwe
  by_cases hstate : b.get (F.PTP_DOMd_STATUS_STATE 0) = 0
  · rw [if_pos (by rw [hstate]; rfl)] at heq
    have hen1 : (e.set (F.PTP_DOMd_STATUS_STATE 0) 1).actBit (F.PTP_DOMd_CFG_EN 1) = false := by
      rw [Block.actBit, Block.act, Block.get_set_apart _ _ rfl rfl, hge, ← Block.act, ← Block.actBit, hoff]
    rw [heq hen1]
    refine ⟨⟨m, by rw [Block.masters, Block.set_ptp, ← Block.masters, hmas], k1, k2, k3, k4, k5, by rw [k6, Block.set_clk, hs.1]⟩,
      fun _ => Block.get_set_self _ _ rfl, hset, ?_⟩
    exact (hmem.trans hs.2.1).trans (regsOnly_set e _ 1).sameMem
  · rw [if_neg (by rw [beq_iff_eq]; exact hstate)] at heq
    have hen1 : e.actBit (F.PTP_DOMd_CFG_EN 1) = false := by
      rw [Block.actBit, Block.act, hge, ← Block.act, ← Block.actBit, hoff]
    rw [heq hen1]
    exact ⟨⟨m, hmas, k1, k2, k3, k4, k5, by rw [k6, hs.1]⟩, fun h => absurd h hstate, hwe, hmem.trans hs.2.1⟩

theorem ptpMessage_sync {b : Block} {g : PtpMsg} {m : Master} {seq iv : Nat} {t1 dl : Int} (hp : g.port < 2) (hg : b.gated R.PTP_CTRL = false)
    (hlen : b.ptp.masters.length = 3) (hen : b.actBit (F.PTP_DOMd_CFG_EN 0) = true) (hoff : b.actBit (F.PTP_DOMd_CFG_EN 1) = false)
    (hd : b.act (F.PTP_DOMd_CFG_DOMAIN 0) = g.domain) (ht : b.act (F.PTP_DOMd_CFG_TRANSPORT 0) = g.transport)
    (hport : bitOf (b.act (F.PTP_DOMd_CFG_PORTS 0)) g.port = true) (hk : g.kind = .sync seq false t1 iv) (h0 : b.masters 0 = [m])
    (hmp : m.port = g.port) (hmid : m.id = g.src) (hdl : m.delay = some dl) (hst : b.get (F.PTP_DOMd_STATUS_STATE 0) ≠ 0) :
    let t := ptpMessage g b
    t.get (F.PTP_DOMd_STATUS_STATE 0) = 2
      ∧ t.getInt (F.PTP_DOMd_OFFSET 0) = satSigned 32 ((t1 + dl + 40 * b.asym g.port - ethStamp g.rx) / 40) ∧ SameMem b t := by
  have heq := ptpMessage_eq hp hg hen hd ht hport
  have hregs := b.untilStc_regs (g.rx / 40)
  have hmem : SameMem b (b.untilStc (g.rx / 40)) := sameMem_of_eq (Block.untilStc_dram _ _) (Block.untilStc_qdr _ _)
  have hptp : (b.untilStc (g.rx / 40)).ptp = b.ptp := Block.untilStc_ptp _ _
  generalize b.untilStc (g.rx / 40) = c at *
  obtain ⟨l, m', htake⟩ := Block.ptpTake_sync (b := c) (by rw [hptp, hlen]) hk (by rw [Block.masters, hptp, ← Block.masters, h0]) hmp hmid hdl
    (by rw [Block.get_congr hregs]; exact hst)
  have hasym : c.asym g.port = b.asym g.port := by
    rw [Block.asym, Block.getInt, Block.getInt, Block.get_congr hregs, Block.get_congr hregs]
    rfl
  rw [htake, hasym] at heq
  have hr2 := c.regs_setMasters 0 l
  have hs := servoStep_setMasters c 0 l
  generalize c.setMasters 0 l = e at *
  obtain ⟨ms, mo, mm, mg⟩ := e.measured_spec m' (t1 + dl + 40 * b.asym g.port - ethStamp g.rx)
  generalize e.measured 0 m' (t1 + dl + 40 * b.asym g.port - ethStamp g.rx) = t at *
  have hen1 : t.actBit (F.PTP_DOMd_CFG_EN 1) = false := by
    rw [Block.actBit, Block.act, mg _ (by unfold DomBeside; decide) (by decide), Block.get_congr hr2, Block.get_congr hregs, ← Block.act,
      ← Block.actBit, hoff]
  rw [heq hen1]
  exact ⟨ms, mo, (hmem.trans hs.2.1).trans mm⟩

end Sys2Proof.Machine
end

section
/-!
PROOFS of chapter 6: loss of a source, a return to domain A, domains that differ.
-/

namespace Sys2Proof.Machine

/-! ### A domain is lost (R170) -/

/-- The masters and the offset of source `d` are gone. -/
def Block.forgets (b : Block) (d : Nat) : Block :=
  { b.setMasters d [] with ptp.offsets := b.ptp.offsets.set d none, ptp.diffSince := none }

theorem Block.forgets_spec (b : Block) (d : Nat) :
    let t := b.forgets d
    t.ptp.masters = b.ptp.masters.set d [] ∧ t.ptp.offsets = b.ptp.offsets.set d none ∧ t.ptp.stepped = b.ptp.stepped ∧ t.ptp.freq = b.ptp.freq
      ∧ t.regs = b.regs ∧ t.clk = b.clk ∧ SameMem b t :=
  ⟨rfl, rfl, rfl, rfl, rfl, rfl, (servoStep_withPtp b _).2.1⟩

theorem Block.cleanA_spec (b : Block) :
    let t := b.cleanA
    t.ptp.masters = b.ptp.masters ∧ t.ptp.offsets = b.ptp.offsets ∧ t.ptp.stepped = b.ptp.stepped ∧ t.ptp.freq = b.ptp.freq ∧ t.regs = b.regs := by
  rw [Block.cleanA]
  exact ⟨rfl, rfl, rfl, rfl, rfl⟩

/-- A domain whose source is lost: its masters, its state and its error. -/
def Block.domainGone (b : Block) (d : Nat) (e : Err) : Block := (((b.forgets d).set (F.PTP_DOMd_STATUS_STATE d) 3).cleanA).raise e

theorem domState_window {d : Nat} (hd : d < 2) : keyAddr (F.PTP_DOMd_STATUS_STATE d).addr / 0x10000 = 0x13 := by
  revert d
  decide

theorem Block.domainGone_spec (b : Block) {d : Nat} {e : Err} (hd : d < 2) (hf : e.fld.addr = R.PTP_ERR) (hok : e.fld.ok = true)
    (hone : e.fld.hi = e.fld.lo) (hi : e.irq = F.PTP_IRQ_STATUS_ERR) :
    let t := b.domainGone d e
    t.ptp.masters = b.ptp.masters.set d [] ∧ t.ptp.offsets = b.ptp.offsets.set d none ∧ t.ptp.stepped = b.ptp.stepped ∧ t.ptp.freq = b.ptp.freq
      ∧ t.get (F.PTP_DOMd_STATUS_STATE d) = 3 ∧ t.bit e.fld = true ∧ t.clk = b.clk
      ∧ t.get F.PTP_STATUS_SOURCE = b.get F.PTP_STATUS_SOURCE ∧ t.get F.PTP_STATUS_STATE = b.get F.PTP_STATUS_STATE
      ∧ t.bit F.PTP_CTRL_AUTO = b.bit F.PTP_CTRL_AUTO ∧ SameOutside [0x13, 0x30] b t ∧ SameMem b t := by
  obtain ⟨fm, fo, fs, ff, fr, fc, fmem⟩ := b.forgets_spec d
  unfold Block.domainGone
  generalize b.forgets d = c at *
  have hst : (c.set (F.PTP_DOMd_STATUS_STATE d) 3).get (F.PTP_DOMd_STATUS_STATE d) = 3 := by
    rw [Block.get_set_self _ _ rfl]
    rfl
  have hset (g : Fld) (hg : g.addr ≠ R.PTP_DOMd_STATUS d) : (c.set (F.PTP_DOMd_STATUS_STATE d) 3).get g = b.get g := by
    rw [Block.get_set_apart _ _ rfl (Fld.apart_of_addr hg), Block.get_congr fr]
  have hout : SameOutside [0x13, 0x30] b (c.set (F.PTP_DOMd_STATUS_STATE d) 3) :=
    (sameOutside_set (f := F.PTP_DOMd_STATUS_STATE d) 3 (by rw [domState_window hd]; decide)).mpr ((sameOutside_congr fr).mpr (.refl _ b))
  have hmem : SameMem b (c.set (F.PTP_DOMd_STATUS_STATE d) 3) := fmem.trans (regsOnly_set c _ 3).sameMem
  have hptp := Block.set_ptp c (F.PTP_DOMd_STATUS_STATE d) 3
  have hclk := Block.set_clk c (F.PTP_DOMd_STATUS_STATE d) 3
  generalize c.set (F.PTP_DOMd_STATUS_STATE d) 3 = u at *
  obtain ⟨am, ao, as, af, ar⟩ := u.cleanA_spec
  have hclean := selStep_cleanA u
  generalize u.cleanA = w at *
  rw [Block.raise_eq]
  have hap : e.fld.apart e.irq = true := Fld.apart_of_addr (by rw [hf, hi]; decide)
  have hget (g : Fld) (h1 : g.addr ≠ R.PTP_ERR) (h2 : g.addr ≠ R.PTP_IRQ_STATUS) (h3 : g.addr / 0x10000 ≠ 0x30) :
      (w.raiseAt e noDetail).get g = u.get g := by
    rw [w.get_raiseAt_apart noDetail hok (by rw [hi]; rfl) (Fld.apart_of_addr (by rw [hf]; exact h1)) (by rw [hi]; exact Fld.apart_of_addr h2) h3,
      Block.get_congr ar]
  have hadd : (F.PTP_DOMd_STATUS_STATE d).addr = 0x130024 + 0x20 * d := rfl
  refine ⟨by rw [Block.raiseAt_ptp, am, hptp, fm], by rw [Block.raiseAt_ptp, ao, hptp, fo], by rw [Block.raiseAt_ptp, as, hptp, fs],
    by rw [Block.raiseAt_ptp, af, hptp, ff], ?_, ?_, by rw [Block.raiseAt_clk, hclean.1, hclk, fc], ?_, ?_, ?_, ?_, ?_⟩
  · rw [hget _ (by rw [hadd, R.PTP_ERR]; omega) (by rw [hadd, R.PTP_IRQ_STATUS]; omega) (by rw [hadd]; omega), hst]
  · exact Block.bit_raiseAt_self w noDetail hok hone (by rw [hi]; rfl) hap (by rw [hf]; decide)
  · rw [hget _ (by decide) (by decide) (by decide), hset _ (by simp only [F.PTP_STATUS_SOURCE, R.PTP_STATUS, R.PTP_DOMd_STATUS]; omega)]
  · rw [hget _ (by decide) (by decide) (by decide), hset _ (by simp only [F.PTP_STATUS_STATE, R.PTP_STATUS, R.PTP_DOMd_STATUS]; omega)]
  · rw [Block.bit, hget _ (by decide) (by decide) (by decide), hset _ (by simp only [F.PTP_CTRL_AUTO, R.PTP_CTRL, R.PTP_DOMd_STATUS]; omega), ← Block.bit]
  · rw [sameOutside_raiseAt _ (by rw [hf]; decide) (by rw [hi]; decide) (by simp), sameOutside_congr ar]
    exact hout
  · rw [sameMem_raiseAt]
    exact hmem.trans hclean.2.1

/-- The error of a domain that is lost. -/
def lostErr (d : Nat) : Err := if d = 0 then E.PTP_DOM_A_LOST else E.PTP_DOM_B_LOST

theorem lostErr_spec {d : Nat} (hd : d < 2) : (lostErr d).fld = (if d = 0 then F.PTP_ERR_DOM_A_LOST else F.PTP_ERR_DOM_B_LOST)
    ∧ (lostErr d).fld.addr = R.PTP_ERR ∧ (lostErr d).fld.ok = true ∧ (lostErr d).fld.hi = (lostErr d).fld.lo
    ∧ (lostErr d).irq = F.PTP_IRQ_STATUS_ERR := by
  rcases (by omega : d = 0 ∨ d = 1) with h | h <;> rw [h] <;> exact ⟨rfl, rfl, rfl, rfl, rfl⟩

/-- The module's source where it was the domain that is lost. -/
def Block.sourceMoves (b : Block) (d : Nat) : Block :=
  match (if b.bit F.PTP_CTRL_AUTO && b.tracking (1 - d) then some (1 - d) else none) with
  | some e => (b.selectSource e).servo ((b.offsetOf e).getD 0)
  | none => (b.when (b.bit F.PTP_CTRL_AUTO) (·.selectSource sourceNone)).allLost

theorem Block.sourceLost_eq (b : Block) {d : Nat} (hd : d < 2) :
    b.sourceLost d = if (b.domainGone d (lostErr d)).get F.PTP_STATUS_SOURCE ≠ d then b.domainGone d (lostErr d)
      else (b.domainGone d (lostErr d)).sourceMoves d := by
  have hchain : ¬d = sourceChain := by
    rw [sourceChain]
    omega
  have herr : (if d = 0 then E.PTP_DOM_A_LOST else if d = 1 then E.PTP_DOM_B_LOST else E.PTP_CHAIN_LOST) = lostErr d := by
    rcases (by omega : d = 0 ∨ d = 1) with h | h <;> rw [h] <;> rfl
  rw [Block.sourceLost, Block.domainGone, Block.forgets, Block.sourceMoves]
  simp only [hd, herr, hchain, if_true, if_false] <;> rfl

/-- The only master of a domain is silent for too long. -/
theorem ptpSourceLoss_eq {b : Block} {d : Nat} {m : Master} (hs : b.pm.stcStopped = false) (hd : d < 2) (hm : b.masters d = [m]) :
    ptpSourceLoss d b = (b.untilClk (min m.annDue m.syncDue)).sourceLost d := by
  have hbest : b.bestMaster d = some m := by
    rw [Block.bestMaster, hm]
    rfl
  have hmas : (b.untilClk (min m.annDue m.syncDue)).masters d = [m] := by
    rw [Block.masters, Block.untilClk_ptp, ← Block.masters, hm]
  have hclk := b.untilClk_clk (min m.annDue m.syncDue)
  rw [ptpSourceLoss, hbest]
  dsimp only
  rw [if_neg (by rw [hs]; simp; omega)]
  generalize b.untilClk (min m.annDue m.syncDue) = c at *
  have hleft : [m].filter (fun q => decide (c.clk < q.annDue) && decide (c.clk < q.syncDue)) = [] := by
    rw [List.filter_cons_of_neg (by simp; omega), List.filter_nil]
  rw [hmas, hleft, List.isEmpty_nil, if_pos rfl]

theorem Block.masters_of_set {b t : Block} {d : Nat} (hd : d < b.ptp.masters.length) (h : t.ptp.masters = b.ptp.masters.set d []) :
    t.masters d = [] := by
  rw [Block.masters, h]
  simp [hd]

theorem Block.tracking_of_set {b t : Block} {d : Nat} (h : t.ptp.offsets = b.ptp.offsets.set d none) : t.tracking d = false := by
  rw [Block.tracking, Block.offsetOf, h, List.getElem?_set_self']
  cases b.ptp.offsets[d]? <;> rfl

theorem Block.tracking_of_set_other {b t : Block} {d i : Nat} (h : t.ptp.offsets = b.ptp.offsets.set d none) (hi : d ≠ i) :
    t.tracking i = b.tracking i := by
  rw [Block.tracking, Block.offsetOf, h, List.getElem?_set_ne hi, Block.tracking, Block.offsetOf]

theorem ptpSourceLoss_beside {b : Block} {d : Nat} {m : Master} (hs : b.pm.stcStopped = false) (hd : d < 2) (hlen : b.ptp.masters.length = 3)
    (hm : b.masters d = [m]) (hsrc : b.get F.PTP_STATUS_SOURCE ≠ d) :
    let t := ptpSourceLoss d b
    t.masters d = [] ∧ t.tracking d = false ∧ t.get (F.PTP_DOMd_STATUS_STATE d) = 3
      ∧ t.bit (if d = 0 then F.PTP_ERR_DOM_A_LOST else F.PTP_ERR_DOM_B_LOST) = true ∧ t.clk = max b.clk (min m.annDue m.syncDue)
      ∧ t.get F.PTP_STATUS_SOURCE = b.get F.PTP_STATUS_SOURCE ∧ SameOutside [0x13, 0x30] b t ∧ SameMem b t := by
  rw [ptpSourceLoss_eq hs hd hm, Block.sourceLost_eq _ hd]
  have hclk := b.untilClk_clk (min m.annDue m.syncDue)
  have hmem : SameMem b (b.untilClk (min m.annDue m.syncDue)) := sameMem_of_eq (Block.untilClk_dram _ _) (Block.untilClk_qdr _ _)
  have hregs := Block.untilClk_regs b (min m.annDue m.syncDue)
  have hptp := Block.untilClk_ptp b (min m.annDue m.syncDue)
  generalize b.untilClk (min m.annDue m.syncDue) = c at *
  obtain ⟨ef, ea, eo, e1, ei⟩ := lostErr_spec hd
  obtain ⟨gm, go, -, -, gs, gb, gc, gsrc, -, -, gout, gmem⟩ := c.domainGone_spec hd ea eo e1 ei
  rw [ef] at gb
  generalize c.domainGone d (lostErr d) = t at *
  rw [gsrc, Block.get_congr hregs, if_pos hsrc]
  exact ⟨Block.masters_of_set (by rw [hptp, hlen]; omega) gm, Block.tracking_of_set go, gs, gb, by rw [gc, hclk], by rw [gsrc, Block.get_congr hregs],
    ((sameOutside_congr hregs).mpr (.refl _ b)).trans gout, hmem.trans gmem⟩

/-- The servo holds over. -/
theorem Block.holdsOver_spec (b : Block) (hst : b.get F.PTP_STATUS_STATE = servoLocked) :
    let t := ((b.setServo servoHoldover).coast).raise E.PTP_HOLDOVER
    t.get F.PTP_STATUS_SOURCE = b.get F.PTP_STATUS_SOURCE ∧ t.get F.PTP_STATUS_STATE = servoHoldover ∧ t.bit F.PTP_ERR_HOLDOVER = true
      ∧ t.get F.PTP_RATE_RATE = unsigned 32 b.ptp.freq ∧ SameOutside [0x13, 0x30] b t ∧ SameMem b t := by
  have hne : ¬b.get F.PTP_STATUS_STATE = servoHoldover := by
    rw [hst]
    decide
  have hlt : unsigned 32 b.ptp.freq < 2 ^ 32 := by
    rw [unsigned]
    omega
  rw [Block.setServo, if_neg hne, Block.irq_eq, Block.coast, Block.set_ptp, Block.set_ptp]
  generalize unsigned 32 b.ptp.freq = r at *
  have hsrc : ((((b.set F.PTP_STATUS_STATE servoHoldover).set F.PTP_IRQ_STATUS_STATE 1).set F.PTP_RATE_RATE r).set F.PTP_STATUS_SLEWING 0).get
      F.PTP_STATUS_SOURCE = b.get F.PTP_STATUS_SOURCE := by
    rw [Block.get_set_apart _ _ rfl rfl, Block.get_set_apart _ _ rfl rfl, Block.get_set_apart _ _ rfl rfl, Block.get_set_apart _ _ rfl rfl]
  have hstate : ((((b.set F.PTP_STATUS_STATE servoHoldover).set F.PTP_IRQ_STATUS_STATE 1).set F.PTP_RATE_RATE r).set F.PTP_STATUS_SLEWING 0).get
      F.PTP_STATUS_STATE = servoHoldover := by
    rw [Block.get_set_apart _ _ rfl rfl, Block.get_set_apart _ _ rfl rfl, Block.get_set_apart _ _ rfl rfl, Block.get_set_self _ _ rfl]
    rfl
  have hrate : ((((b.set F.PTP_STATUS_STATE servoHoldover).set F.PTP_IRQ_STATUS_STATE 1).set F.PTP_RATE_RATE r).set F.PTP_STATUS_SLEWING 0).get
      F.PTP_RATE_RATE = r := by
    rw [Block.get_set_apart _ _ rfl rfl, Block.get_set_self _ _ rfl]
    exact Nat.mod_eq_of_lt hlt
  have hout : SameOutside [0x13, 0x30] b ((((b.set F.PTP_STATUS_STATE servoHoldover).set F.PTP_IRQ_STATUS_STATE 1).set F.PTP_RATE_RATE r).set
      F.PTP_STATUS_SLEWING 0) :=
    (sameOutside_set (f := F.PTP_STATUS_SLEWING) 0 (by decide)).mpr ((sameOutside_set (f := F.PTP_RATE_RATE) r (by decide)).mpr
      ((sameOutside_set (f := F.PTP_IRQ_STATUS_STATE) 1 (by decide)).mpr
        ((sameOutside_set (f := F.PTP_STATUS_STATE) servoHoldover (by decide)).mpr (.refl _ b))))
  have hmem : SameMem b ((((b.set F.PTP_STATUS_STATE servoHoldover).set F.PTP_IRQ_STATUS_STATE 1).set F.PTP_RATE_RATE r).set
      F.PTP_STATUS_SLEWING 0) :=
    (((regsOnly_set b _ _).trans (regsOnly_set _ _ _)).trans ((regsOnly_set _ _ _).trans (regsOnly_set _ _ _))).sameMem
  generalize (((b.set F.PTP_STATUS_STATE servoHoldover).set F.PTP_IRQ_STATUS_STATE 1).set F.PTP_RATE_RATE r).set F.PTP_STATUS_SLEWING 0 = c at *
  rw [Block.raise_eq]
  have hget (g : Fld) (h1 : g.addr ≠ R.PTP_ERR) (h2 : g.addr ≠ R.PTP_IRQ_STATUS) (h3 : g.addr / 0x10000 ≠ 0x30) :
      (c.raiseAt E.PTP_HOLDOVER noDetail).get g = c.get g :=
    c.get_raiseAt_apart noDetail rfl rfl (Fld.apart_of_addr h1) (Fld.apart_of_addr h2) h3
  refine ⟨by rw [hget _ (by decide) (by decide) (by decide), hsrc], by rw [hget _ (by decide) (by decide) (by decide), hstate],
    Block.bit_raiseAt_self c noDetail rfl rfl rfl rfl (by decide), by rw [hget _ (by decide) (by decide) (by decide), hrate], ?_, ?_⟩
  · rw [sameOutside_raiseAt _ (by decide) (by decide) (by simp)]
    exact hout
  · rw [sameMem_raiseAt]
    exact hmem

theorem ptpSourceLoss_holdover {b : Block} {d : Nat} {m : Master} (hs : b.pm.stcStopped = false) (hd : d < 2) (hm : b.masters d = [m])
    (hsrc : b.get F.PTP_STATUS_SOURCE = d) (hauto : b.bit F.PTP_CTRL_AUTO = true) (hother : b.tracking (1 - d) = false)
    (hstep : b.ptp.stepped = true) (hst : b.get F.PTP_STATUS_STATE = servoLocked) :
    let t := ptpSourceLoss d b
    t.get F.PTP_STATUS_SOURCE = sourceNone ∧ t.get F.PTP_STATUS_STATE = servoHoldover ∧ t.bit F.PTP_ERR_HOLDOVER = true
      ∧ t.get F.PTP_RATE_RATE = unsigned 32 b.ptp.freq ∧ SameOutside [0x13, 0x30] b t ∧ SameMem b t := by
  rw [ptpSourceLoss_eq hs hd hm, Block.sourceLost_eq _ hd]
  have hmem : SameMem b (b.untilClk (min m.annDue m.syncDue)) := sameMem_of_eq (Block.untilClk_dram _ _) (Block.untilClk_qdr _ _)
  have hregs := Block.untilClk_regs b (min m.annDue m.syncDue)
  have hptp := Block.untilClk_ptp b (min m.annDue m.syncDue)
  generalize b.untilClk (min m.annDue m.syncDue) = c at *
  obtain ⟨-, ea, eo, e1, ei⟩ := lostErr_spec hd
  obtain ⟨-, go, gstep, gfreq, -, -, -, gsrc, gst, gauto, gout, gmem⟩ := c.domainGone_spec hd ea eo e1 ei
  generalize c.domainGone d (lostErr d) = u at *
  have htrack : u.tracking (1 - d) = false := by
    rw [Block.tracking_of_set_other go (by omega), Block.tracking, Block.offsetOf, hptp, ← Block.offsetOf, ← Block.tracking, hother]
  rw [Block.get_congr hregs] at gsrc gst
  rw [Block.bit, Block.bit, Block.get_congr hregs, ← Block.bit, ← Block.bit, hauto] at gauto
  rw [gsrc, if_neg (not_not.mpr hsrc), Block.sourceMoves, gauto, htrack, Bool.and_false, if_neg (by decide), Block.when,
    if_pos rfl]
  dsimp only
  obtain ⟨ks, ksrc, -, kst, kptp, kout, -⟩ := Block.selectSource_spec (b := u) (d := sourceNone) (by rw [gsrc, hsrc, sourceNone]; omega) (by decide)
  generalize u.selectSource sourceNone = w at *
  rw [hst] at gst
  rw [gst] at kst
  rw [Block.allLost]
  dsimp only
  rw [if_pos (.inr kst), kptp, gstep, hptp, hstep, if_pos rfl]
  obtain ⟨h1, h2, h3, h4, h5, h6⟩ := w.holdsOver_spec kst
  rw [kptp, gfreq, hptp] at h4
  generalize ((w.setServo servoHoldover).coast).raise E.PTP_HOLDOVER = t at *
  exact ⟨by rw [h1, ksrc], h2, h3, h4, (((sameOutside_congr hregs).mpr (.refl _ b)).trans gout).trans ((kout.mono (by decide)).trans h5),
    ((hmem.trans gmem).trans ks.2.1).trans h6⟩

/-! ### Back to domain A, and domains that differ (R172) -/

theorem domainRevert_spec {b : Block} {t0 : Nat} (hs : b.pm.stcStopped = false) (hc : b.ptp.cleanSince = some t0) (ha : b.bit F.PTP_CTRL_AUTO = true)
    (hv : b.bit F.PTP_CTRL_REVERT = true) (hsrc : b.get F.PTP_STATUS_SOURCE = 1) :
    let t := domainRevert b
    t.get F.PTP_STATUS_SOURCE = 0 ∧ t.bit F.PTP_ERR_SWITCH = true ∧ t.bit F.PTP_IRQ_STATUS_SWITCH = true
      ∧ t.clk = max b.clk (t0 + b.get F.PTP_CTRL_REVERT_S * 1000000000) := by
  rw [domainRevert, hc]
  dsimp only
  rw [if_pos ⟨ha, hv, hsrc, by rw [hs]; rfl⟩]
  generalize t0 + b.get F.PTP_CTRL_REVERT_S * 1000000000 = due
  have hclk := b.untilClk_clk due
  have hregs := Block.untilClk_regs b due
  generalize b.untilClk due = c at *
  obtain ⟨ks, ksrc, kirq, -, -, -, kerr⟩ := Block.selectSource_spec (b := c) (d := 0) (by rw [Block.get_congr hregs, hsrc]; decide) (by decide)
  have kerr := kerr (by rw [Block.get_congr hregs, hsrc]; decide) (by decide)
  generalize c.selectSource 0 = u at *
  obtain ⟨sclk, -, sg⟩ := servoStep_servo u ((c.offsetOf 0).getD 0)
  generalize u.servo ((c.offsetOf 0).getD 0) = t at *
  refine ⟨?_, ?_, ?_, by rw [sclk, ks.1, hclk]⟩
  · rw [sg _ (by unfold PtpBeside; decide), ksrc]
  · rw [Block.bit, sg _ (by unfold PtpBeside; decide), ← Block.bit, kerr]
  · rw [Block.bit, sg _ (by unfold PtpBeside; decide), ← Block.bit, kirq]

theorem domainDisagree_spec {b : Block} {t0 : Nat} (hs : b.pm.stcStopped = false) (hd : b.ptp.diffSince = some t0) :
    let t := domainDisagree b
    t.bit F.PTP_ERR_DISAGREE = true ∧ t.clk = max b.clk (t0 + 10000000000) ∧ SameOutside [0x13, 0x30] b t ∧ SameMem b t := by
  rw [domainDisagree, hd]
  dsimp only
  rw [hs, if_neg (by decide)]
  generalize t0 + 10000000000 = due
  have hclk := b.untilClk_clk due
  have hregs := Block.untilClk_regs b due
  have hmem : SameMem b (b.untilClk due) := sameMem_of_eq (Block.untilClk_dram _ _) (Block.untilClk_qdr _ _)
  generalize b.untilClk due = c at *
  rw [Block.raise_eq]
  refine ⟨Block.bit_raiseAt_self c noDetail rfl rfl rfl rfl (by decide), by rw [Block.raiseAt_clk, hclk], ?_, ?_⟩
  · rw [sameOutside_raiseAt _ (by decide) (by decide) (by simp), sameOutside_congr hregs]
    exact .refl _ b
  · rw [sameMem_raiseAt]
    exact hmem

end Sys2Proof.Machine
end

section
/-!
PROOFS of chapter 6: Delay_Req, chain time, and what the time statements say.
-/

namespace Sys2Proof.Machine

/-! ### Delay_Req (R167) -/

/-- Sending on a port of any number leaves PTP and memory. -/
def TimeBeside (b t : Block) : Prop := t.ptp = b.ptp ∧ SameMem b t

theorem TimeBeside.trans {b c t : Block} (h : TimeBeside b c) (k : TimeBeside c t) : TimeBeside b t := ⟨k.1.trans h.1, h.2.trans k.2⟩

theorem timeBeside_countSat (b : Block) (f : Fld) (n : Nat) : TimeBeside b (b.countSat f n) := by
  rw [Block.countSat_eq]
  exact ⟨Block.set_ptp _ _ _, (regsOnly_set b _ _).sameMem⟩

theorem timeBeside_txDrop (b : Block) (n : Nat) : TimeBeside b (b.txDrop n) := by
  rw [Block.txDrop, Block.raise_eq]
  exact (timeBeside_countSat b _ 1).trans ⟨Block.raiseAt_ptp _ _ _, (sameMem_raiseAt _ _ _ _).mpr (.refl _)⟩

theorem timeBeside_ethQueue (b : Block) (n : Nat) (x : TxFrame) : TimeBeside b (b.ethQueue n x) := by
  rw [Block.ethQueue]
  split
  · exact timeBeside_countSat b _ 1
  · split
    · exact timeBeside_txDrop b n
    · exact ⟨rfl, (ethStep_onEth b n n _).sameMem⟩

theorem ptpDelayReqSend_spec {b : Block} {d : Nat} {m : Master} (u : Bool) (hs : b.pm.stcStopped = false) (hd : d < 2)
    (hlen : b.ptp.masters.length = 3) (hm : b.masters d = [m]) :
    let t := ptpDelayReqSend d u b
    t.masters d = [{ m with reqSeq := (m.reqSeq + 1) % 65536, t3 := ethStamp b.ticks }] ∧ SameMem b t := by
  have hbest : b.bestMaster d = some m := by
    rw [Block.bestMaster, hm]
    rfl
  have hself : (m.port == m.port && m.id == m.id) = true := by
    rw [beq_self_eq_true, beq_self_eq_true]
    rfl
  rw [ptpDelayReqSend, hbest]
  dsimp only
  rw [if_neg (by rw [hs]; simp; omega), hm, List.map_cons, List.map_nil, hself, if_pos rfl]
  generalize ({ m with reqSeq := (m.reqSeq + 1) % 65536, t3 := ethStamp b.ticks } : Master) = m'
  have hmas := Block.masters_setMasters (b := b) (d := d) [m'] (by omega)
  have hmem := (servoStep_setMasters b d [m']).2.1
  generalize b.setMasters d [m'] = c at *
  have hfin {t : Block} (h : TimeBeside c t) : t.masters d = [m'] ∧ SameMem b t :=
    ⟨by rw [Block.masters, h.1, ← Block.masters, hmas], hmem.trans h.2⟩
  split
  · exact hfin (timeBeside_txDrop c _)
  · exact hfin (timeBeside_ethQueue c _ _)

/-! ### Chain time (R169) -/

section
variable (p i : Nat)
@[simp] theorem lnkTrafficLo_addr : (F.LNKn_CNT_Ti_LO p i).addr = R.LNKn_CNT_Ti_LO p i := rfl
@[simp] theorem lnkTrafficHi_addr : (F.LNKn_CNT_Ti_HI p i).addr = R.LNKn_CNT_Ti_HI p i := rfl
end

/-- Cells of a port are counted. -/
theorem Block.countCells_spec (b : Block) (p way n : Nat) :
    let t := b.countCells p way n
    RegsOnly b t ∧ SameWords [R.LNKn_CNT_Ti_LO p way, R.LNKn_CNT_Ti_HI p way] b t
      ∧ ∀ g : Fld, g.addr ≠ R.LNKn_CNT_Ti_LO p way → g.addr ≠ R.LNKn_CNT_Ti_HI p way → t.get g = b.get g := by
  obtain ⟨he, -, hg, -⟩ := b.countPair_spec (lo := F.LNKn_CNT_Ti_LO p way) (hi := F.LNKn_CNT_Ti_HI p way) n rfl rfl rfl rfl
    (by rw [lnkTrafficLo_addr, lnkTrafficHi_addr, R.LNKn_CNT_Ti_LO, R.LNKn_CNT_Ti_HI]; omega)
  refine ⟨he, ?_, hg⟩
  rw [Block.countCells, Block.countPair, Block.setPair_eq]
  exact (sameWords_set (f := F.LNKn_CNT_Ti_HI p way) _ (by simp)).mpr ((sameWords_set (f := F.LNKn_CNT_Ti_LO p way) _ (by simp)).mpr (.refl _ b))

theorem linkTimeSend_open {b : Block} {p : Nat} (hp : p < 2) (hc : b.carries p = true) : ¬(2 ≤ p ∨ (!b.carries p) = true) := by
  rw [hc]
  simp
  omega

theorem Block.slave_countCells (b : Block) {p way n : Nat} (hw : way < 4) :
    (b.countCells p way n).bit (F.LNKn_STATUS_SLAVE p) = b.bit (F.LNKn_STATUS_SLAVE p) := by
  obtain ⟨-, -, hg⟩ := b.countCells_spec p way n
  rw [Block.bit, hg, Block.bit] <;> simp only [F.LNKn_STATUS_SLAVE, R.LNKn_STATUS, R.LNKn_CNT_Ti_LO, R.LNKn_CNT_Ti_HI] <;> omega

/-- PTP's own record of the last request on a port. -/
def Block.asked (b : Block) (p seq : Nat) (t3 : Int) : Block :=
  { b with ptp := { b.ptp with linkSeq := seq, linkT3 := b.ptp.linkT3.set p t3 } }

theorem Block.asked_spec (b : Block) (p seq : Nat) (t3 : Int) :
    let t := b.asked p seq t3
    t.out = b.out ∧ t.ptp.linkSeq = seq ∧ t.ptp.linkT3 = b.ptp.linkT3.set p t3 ∧ t.regs = b.regs ∧ SameMem b t :=
  ⟨rfl, rfl, rfl, rfl, (servoStep_withPtp b _).2.1⟩

theorem linkTimeSend_slave {b : Block} {p : Nat} (hp : p < 2) (hc : b.carries p = true) (hs : b.bit (F.LNKn_STATUS_SLAVE p) = true) :
    let t := linkTimeSend p b
    t.out = .linkTime p (.request ((b.ptp.linkSeq + 1) % 65536)) :: b.out ∧ t.ptp.linkSeq = (b.ptp.linkSeq + 1) % 65536
      ∧ t.ptp.linkT3 = b.ptp.linkT3.set p (lnkStamp b.ticks) ∧ SameWords [R.LNKn_CNT_Ti_LO p 0, R.LNKn_CNT_Ti_HI p 0] b t ∧ SameMem b t := by
  obtain ⟨cr, cw, -⟩ := b.countCells_spec p 0 1
  have hslave := b.slave_countCells (p := p) (way := 0) (n := 1) (by decide)
  have heq : linkTimeSend p b = ((b.countCells p 0 1).asked p (((b.countCells p 0 1).ptp.linkSeq + 1) % 65536) (lnkStamp (b.countCells p 0 1).ticks)).emit
      (.linkTime p (.request (((b.countCells p 0 1).ptp.linkSeq + 1) % 65536))) := by
    rw [linkTimeSend, if_neg (linkTimeSend_open hp hc)]
    dsimp only
    rw [hslave, hs, if_pos rfl]
    rfl
  have hticks : (b.countCells p 0 1).ticks = b.ticks := by
    rw [cr]
    rfl
  have hptp : (b.countCells p 0 1).ptp = b.ptp := by rw [cr]
  have hout : (b.countCells p 0 1).out = b.out := by rw [cr]
  rw [hticks, hptp] at heq
  rw [heq]
  generalize b.countCells p 0 1 = c at *
  obtain ⟨ao, as, at3, ar, am⟩ := c.asked_spec p ((b.ptp.linkSeq + 1) % 65536) (lnkStamp b.ticks)
  generalize c.asked p ((b.ptp.linkSeq + 1) % 65536) (lnkStamp b.ticks) = t at *
  refine ⟨by rw [Block.emit, ao, hout], by rw [Block.emit_ptp, as], by rw [Block.emit_ptp, at3, hptp], ?_, ?_⟩
  · rw [sameWords_emit, sameWords_congr ar]
    exact cw
  · rw [sameMem_congr (Block.emit_dram _ _) (Block.emit_qdr _ _)]
    exact cr.sameMem.trans am

theorem linkTimeSend_master {b : Block} {p : Nat} (hp : p < 2) (hc : b.carries p = true) (hs : b.bit (F.LNKn_STATUS_SLAVE p) = false) :
    let t := linkTimeSend p b
    t.out = .linkTime p (.sync (lnkStamp b.ticks)) :: b.out ∧ t.ptp = b.ptp
      ∧ SameWords [R.LNKn_CNT_Ti_LO p 0, R.LNKn_CNT_Ti_HI p 0] b t ∧ SameMem b t := by
  obtain ⟨cr, cw, -⟩ := b.countCells_spec p 0 1
  have hslave := b.slave_countCells (p := p) (way := 0) (n := 1) (by decide)
  have heq : linkTimeSend p b = (b.countCells p 0 1).emit (.linkTime p (.sync (lnkStamp (b.countCells p 0 1).ticks))) := by
    rw [linkTimeSend, if_neg (linkTimeSend_open hp hc)]
    dsimp only
    rw [hslave, hs, if_neg (by decide)]
  have hticks : (b.countCells p 0 1).ticks = b.ticks := by
    rw [cr]
    rfl
  have hout : (b.countCells p 0 1).out = b.out := by rw [cr]
  have hptp : (b.countCells p 0 1).ptp = b.ptp := by rw [cr]
  rw [hticks] at heq
  rw [heq]
  generalize b.countCells p 0 1 = c at *
  refine ⟨by rw [Block.emit, hout], by rw [Block.emit_ptp, hptp], ?_, ?_⟩
  · rw [sameWords_emit]
    exact cw
  · rw [sameMem_congr (Block.emit_dram _ _) (Block.emit_qdr _ _)]
    exact cr.sameMem

theorem lnkStamp_whole_le (rx : Nat) : lnkStamp (rx / 40 * 40) ≤ lnkStamp rx := by
  rw [lnkStamp, lnkStamp]
  omega

theorem linkTimeMessage_request {b : Block} {p rx seq : Nat} (hp : p < 2) (hc : b.carries p = true) (hlt : b.stc < rx / 40) (hrx : rx / 40 < 2 ^ 64)
    (hs : b.pm.stcStopped = false) :
    let t := linkTimeMessage p rx (.request seq) b
    t.out = .linkTime p (.answer seq (lnkStamp rx) (lnkStamp rx)) :: b.out ∧ t.stc = rx / 40
      ∧ SameWords [R.LNKn_CNT_Ti_LO p 0, R.LNKn_CNT_Ti_HI p 0, R.LNKn_CNT_Ti_LO p 1, R.LNKn_CNT_Ti_HI p 1] b t ∧ SameMem b t := by
  have hregs := b.untilStc_regs (rx / 40)
  have hmem : SameMem b (b.untilStc (rx / 40)) := sameMem_of_eq (Block.untilStc_dram _ _) (Block.untilStc_qdr _ _)
  have hout : (b.untilStc (rx / 40)).out = b.out := Block.untilStc_out _ _
  have hcar : (b.untilStc (rx / 40)).carries p = true := hc
  have hstc : (b.untilStc (rx / 40)).stc = rx / 40 := by
    rw [Block.untilStc]
    dsimp only
    rw [hs, if_neg (by simp; omega), Nat.mod_eq_of_lt hrx]
  have hfrac : (b.untilStc (rx / 40)).stcFrac = 0 := by
    rw [Block.untilStc]
    dsimp only
    rw [hs, if_neg (by simp; omega)]
  rw [linkTimeMessage]
  dsimp only
  rw [if_neg (linkTimeSend_open hp hcar)]
  generalize b.untilStc (rx / 40) = c at *
  obtain ⟨cr, cw, -⟩ := c.countCells_spec p 1 1
  have hout1 : (c.countCells p 1 1).out = b.out := by rw [cr, hout]
  have hstc1 : (c.countCells p 1 1).stc = rx / 40 := by rw [cr, hstc]
  have hfrac1 : (c.countCells p 1 1).stcFrac = 0 := by rw [cr, hfrac]
  generalize c.countCells p 1 1 = d at *
  obtain ⟨dr, dw, -⟩ := d.countCells_spec p 0 1
  have hout2 : (d.countCells p 0 1).out = b.out := by rw [dr, hout1]
  have hstc2 : (d.countCells p 0 1).stc = rx / 40 := by rw [dr, hstc1]
  generalize d.countCells p 0 1 = e at *
  have hticks : d.ticks = rx / 40 * 40 := by
    rw [Block.ticks, Block.stcParts, hstc1, hfrac1, stcUnit]
    omega
  rw [hticks, max_eq_left (Int.ofNat_le.mpr (lnkStamp_whole_le rx))]
  refine ⟨by rw [Block.emit, hout2], by rw [Block.emit_stc, hstc2], ?_, ?_⟩
  · rw [sameWords_emit]
    intro k hk
    simp only [List.mem_cons, List.not_mem_nil, or_false, not_or] at hk
    obtain ⟨h1, h2, h3, h4⟩ := hk
    rw [dw k (by simp [h1, h2]), cw k (by simp [h3, h4]), Block.word, hregs, ← Block.word]
  · rw [sameMem_congr (Block.emit_dram _ _) (Block.emit_qdr _ _)]
    exact (hmem.trans cr.sameMem).trans dr.sameMem

/-- The delay of a link, in PTP's own record. -/
def Block.measuresLink (b : Block) (p : Nat) (d : Int) : Block := { b with ptp.linkDelay := b.ptp.linkDelay.set p (some d) }

theorem Block.measuresLink_spec (b : Block) (p : Nat) (d : Int) :
    let t := b.measuresLink p d
    t.ptp.linkDelay = b.ptp.linkDelay.set p (some d) ∧ t.regs = b.regs ∧ SameMem b t := ⟨rfl, rfl, (servoStep_withPtp b _).2.1⟩

theorem linkTimeMessage_answer {b : Block} {p rx : Nat} {t2 t3 : Int} (hp : p < 2) (hc : b.carries p = true) (hlen : b.ptp.linkDelay.length = 2) :
    let t := linkTimeMessage p rx (.answer b.ptp.linkSeq t2 t3) b
    t.ptp.linkDelay[p]? = some (some (((t2 - b.ptp.linkT3.getD p 0) + (lnkStamp rx - t3)) / 2)) ∧ SameOutside [0x13, 0x1C, 0x1D] b t ∧ SameMem b t := by
  have hregs := b.untilStc_regs (rx / 40)
  have hmem : SameMem b (b.untilStc (rx / 40)) := sameMem_of_eq (Block.untilStc_dram _ _) (Block.untilStc_qdr _ _)
  have hptp : (b.untilStc (rx / 40)).ptp = b.ptp := Block.untilStc_ptp _ _
  have hcar : (b.untilStc (rx / 40)).carries p = true := hc
  rw [linkTimeMessage]
  dsimp only
  rw [if_neg (linkTimeSend_open hp hcar)]
  generalize b.untilStc (rx / 40) = c at *
  obtain ⟨cr, -, -⟩ := c.countCells_spec p 1 1
  have hkept : ChainKept c (c.countCells p 1 1) := chainKept_countPair c 1 hp (by decide)
  have hptp1 : (c.countCells p 1 1).ptp = b.ptp := by rw [cr, hptp]
  generalize c.countCells p 1 1 = d at *
  rw [hptp1, if_neg (not_not.mpr rfl)]
  have heq : ({ d with ptp := { b.ptp with linkDelay := b.ptp.linkDelay.set p (some ((t2 - b.ptp.linkT3.getD p 0 + (lnkStamp rx - t3)) / 2)) } } : Block)
      = d.measuresLink p ((t2 - b.ptp.linkT3.getD p 0 + (lnkStamp rx - t3)) / 2) := by
    rw [Block.measuresLink, hptp1]
  rw [heq]
  generalize (t2 - b.ptp.linkT3.getD p 0 + (lnkStamp rx - t3)) / 2 = delay
  obtain ⟨ml, mr, mm⟩ := d.measuresLink_spec p delay
  generalize d.measuresLink p delay = e at *
  refine ⟨?_, ?_, ((hmem.trans cr.sameMem).trans mm).trans (regsOnly_set e _ _).sameMem⟩
  · rw [Block.set_ptp, ml, hptp1, List.getElem?_set_self (by omega)]
  · have hwin : keyAddr (if p = 0 then F.PTP_LNK_DELAY0 else F.PTP_LNK_DELAY1).addr / 0x10000 ∈ [0x13, 0x1C, 0x1D] := by
      split <;> decide
    rw [sameOutside_set _ hwin, sameOutside_congr mr]
    exact ((sameOutside_congr hregs).mpr (.refl _ b)).trans (hkept.2.1.mono (by decide))

/-- Settles O52, command by command. -/
theorem timeSources : Obligations.TimeSources := by
  unfold Obligations.TimeSources
  refine ⟨fun b g rank gm cl iv hr hp hg hlen hen hoff hd ht hport hk h0 => ?_,
    fun b g m seq iv t1 dl hr hp hg hlen hen hoff hd ht hport hk h0 hmp hmid hdl hst => ?_,
    fun b d m hr hs hd hlen hm hsrc => ?_, fun b d m hr hs hd _ hm hsrc hauto hother hstep hst => ?_,
    fun b d m u hr hs hd hlen hm => ?_, fun b t0 hr hs hc ha hv hsrc => ?_, fun b t0 hr hs hd => ?_,
    fun b p hr hp hc => ⟨fun hs => ?_, fun hs => ?_⟩, fun b p rx seq hr hp hc hlt hrx hs => ?_, fun b p rx t2 t3 hr hp hc hlen => ?_⟩
  · obtain ⟨k1, k2, k3, k4⟩ := ptpMessage_announce hp hg hlen hen hoff hd ht hport hk h0
    exact gives_of_done (t := ptpMessage g b) hr (fun _ => rfl) ⟨k1, k2, k3, k4⟩
  · obtain ⟨k1, k2, k3⟩ := ptpMessage_sync hp hg hlen hen hoff hd ht hport hk h0 hmp hmid hdl hst
    exact gives_of_done (t := ptpMessage g b) hr (fun _ => rfl) ⟨k1, k2, k3⟩
  · obtain ⟨k1, k2, k3, k4, k5, k6, k7, k8⟩ := ptpSourceLoss_beside hs hd hlen hm hsrc
    exact gives_of_done (t := ptpSourceLoss d b) hr (fun _ => rfl) ⟨k1, k2, k3, k4, k5, k6, k7, k8⟩
  · obtain ⟨k1, k2, k3, k4, k5, k6⟩ := ptpSourceLoss_holdover hs hd hm hsrc hauto hother hstep hst
    exact gives_of_done (t := ptpSourceLoss d b) hr (fun _ => rfl) ⟨k1, k2, k3, k4, k5, k6⟩
  · obtain ⟨k1, k2⟩ := ptpDelayReqSend_spec u hs hd hlen hm
    exact gives_of_done (t := ptpDelayReqSend d u b) hr (fun _ => rfl) ⟨k1, k2⟩
  · obtain ⟨k1, k2, k3, k4⟩ := domainRevert_spec hs hc ha hv hsrc
    exact gives_of_done (t := domainRevert b) hr (fun _ => rfl) ⟨k1, k2, k3, k4⟩
  · obtain ⟨k1, k2, k3, k4⟩ := domainDisagree_spec hs hd
    exact gives_of_done (t := domainDisagree b) hr (fun _ => rfl) ⟨k1, k2, k3, k4⟩
  · obtain ⟨k1, k2, k3, k4, k5⟩ := linkTimeSend_slave hp hc hs
    exact gives_of_done (t := linkTimeSend p b) hr (fun _ => rfl) ⟨k1, k2, k3, k4, k5⟩
  · obtain ⟨k1, k2, k3, k4⟩ := linkTimeSend_master hp hc hs
    exact gives_of_done (t := linkTimeSend p b) hr (fun _ => rfl) ⟨k1, k2, k3, k4⟩
  · obtain ⟨k1, k2, k3, k4⟩ := linkTimeMessage_request (seq := seq) hp hc hlt hrx hs
    exact gives_of_done (t := linkTimeMessage p rx (.request seq) b) hr (fun _ => rfl) ⟨k1, k2, k3, k4⟩
  · obtain ⟨k1, k2, k3⟩ := linkTimeMessage_answer (rx := rx) (t2 := t2) (t3 := t3) hp hc hlen
    exact gives_of_done (t := linkTimeMessage p rx (.answer b.ptp.linkSeq t2 t3) b) hr (fun _ => rfl) ⟨k1, k2, k3⟩

end Sys2Proof.Machine
end

section
/-!
PROOFS of chapter 3: the steps a sending is made of, and what sending a message leaves as it is.
-/

namespace Sys2Proof.Machine

/-! ### The steps of a sending -/

/-- The words of HIF that rings, drops and their errors are told in. -/
def ringWords : List Nat :=
  [R.HIF_ERR, R.HIF_IRQ_STATUS, R.HIF_RING_STATUS, R.HIF_RING_POOL_USED, R.HIF_DROP_DEST, R.HIF_DROP_FULL, R.HIF_DROP_POOL]

/-- The fields a sending gives values: those of the rings, the cells sent and the frames dropped. -/
def Counted (f : Fld) : Prop :=
  f.addr ∈ ringWords ∨ ∃ p : Nat, f = F.LNKn_CNT_Ti_LO p 0 ∨ f = F.LNKn_CNT_Ti_HI p 0 ∨ f = F.ETHn_CNT_Ei p 9

/-- The bits of the Ethernet ports that a sending sets. -/
def Marked (f : Fld) : Prop := ∃ n : Nat, f = F.ETHn_ERR_TX_DROP n ∨ f = F.ETHn_IRQ_STATUS_ERR n

/-- What a sending can change beside the registers and the fault log: rings and what is known of peers, what waits at the Ethernet
ports, DRAM, what has left. -/
def Moved (b t : Block) : Prop :=
  t = { b with dram := t.dram, drm := t.drm, hif := t.hif, eth := t.eth, freeCount := t.freeCount, out := t.out }
    ∧ t.hif = { b.hif with rings := t.hif.rings, lostPages := t.hif.lostPages, seq := t.hif.seq, requests := t.hif.requests
                           endpoints := t.hif.endpoints, sessions := t.hif.sessions, hellos := t.hif.hellos
                           ringCheckLast := t.hif.ringCheckLast }

/-- A relation that every step of a sending keeps, so that every sending does. -/
structure Sending (R : Block → Block → Prop) : Prop where
  refl (b : Block) : R b b
  trans {b c t : Block} : R b c → R c t → R b t
  set (b : Block) {f : Fld} (v : Nat) : f.ok = true → Counted f → R b (b.set f v)
  mark (b : Block) {f : Fld} : Marked f → R b (b.set f 1)
  submit (b : Block) (code d : Nat) : R b (b.submit code d)
  moved {b t : Block} : Moved b t → R b t

namespace Sending

variable {R : Block → Block → Prop} (hR : Sending R)
include hR

theorem ringWord (b : Block) {f : Fld} (v : Nat) (hok : f.ok = true) (hf : f.addr ∈ ringWords) : R b (b.set f v) :=
  hR.set b v hok (.inl hf)

theorem raised (b : Block) {e : Err} (d : Nat) (hf : ∀ c : Block, R c (c.set e.fld 1)) (hi : ∀ c : Block, R c (c.set e.irq 1)) :
    R b (b.raiseAt e d) := by
  rw [Block.raiseAt]
  split
  · exact hR.refl b
  · have hset := hR.trans (hf b) (hi _)
    dsimp only
    split
    · exact hR.trans hset (hR.submit _ _ _)
    · exact hset

theorem raiseRing (b : Block) {e : Err} (hok : e.fld.ok = true) (hf : e.fld.addr ∈ ringWords) (hi : e.irq = F.HIF_IRQ_STATUS_ERR) :
    R b (b.raise e) :=
  hR.raised b _ (fun c => hR.ringWord c 1 hok hf) fun c => by
    rw [hi]
    exact hR.ringWord c 1 rfl (by decide)

theorem dramUse (b : Block) (k a n : Nat) : R b (b.dramUse k a n) := by
  rw [Block.dramUse_eq]
  exact hR.moved ⟨rfl, rfl⟩

theorem dramWrite (b : Block) (k a : Nat) (bs : List Byte) : R b (b.dramWrite k a bs) := by
  rw [Block.dramWrite, Block.writeDram_eq]
  exact hR.trans (hR.dramUse b k a bs.length) (hR.moved ⟨rfl, rfl⟩)

theorem each {α : Type} {f : α → Block → Block} (l : List α) (b : Block) (h : ∀ a c, R c (f a c)) : R b (b.each l f) :=
  Block.each_rel (R := R) hR.refl (fun _ _ _ => hR.trans) l b fun a _ c => h a c

theorem when {f : Block → Block} (b : Block) (k : Bool) (h : ∀ c, R c (f c)) : R b (b.when k f) := by
  cases k
  · exact hR.refl b
  · exact h b

end Sending

/-! ### Rings -/

/-- The rings of a block with ring `r` put back. -/
def Block.withRing (b : Block) (r : Ring) : Block :=
  { b with hif.rings := b.hif.rings.filter (fun q => decide (q.node < r.node)) ++ [r] ++ b.hif.rings.filter (fun q => decide (r.node < q.node)) }

theorem Block.setRing_eq (b : Block) (r : Ring) :
    b.setRing r = (b.withRing r).dramWrite 0 (64 * r.node) (r.descriptor b.ringPool.base b.clk) := rfl

namespace Sending

variable {R : Block → Block → Prop} (hR : Sending R)
include hR

theorem withRing (b : Block) (r : Ring) : R b (b.withRing r) := hR.moved ⟨rfl, rfl⟩

theorem setRing (b : Block) (r : Ring) : R b (b.setRing r) := by
  rw [Block.setRing_eq]
  exact hR.trans (hR.withRing b r) (hR.dramWrite _ _ _ _)

theorem ringStatus (b : Block) : R b b.ringStatus :=
  hR.trans (hR.ringWord b (f := F.HIF_RING_STATUS_POPULATED) _ rfl (by decide))
    (hR.ringWord _ (f := F.HIF_RING_POOL_USED_PAGES) _ rfl (by decide))

theorem ringCheckFailed (b : Block) (n : Nat) : R b (b.ringCheckFailed n) := by
  rw [Block.ringCheckFailed]
  have hpages (l : List Nat) : R b { b with hif.lostPages := l } := hR.moved ⟨rfl, rfl⟩
  have hchecked (c : Block) (x : Option Nat) : R c { c with hif.ringCheckLast := x } := hR.moved ⟨rfl, rfl⟩
  have hmain := hR.trans (hR.trans (hpages (b.hif.lostPages ++ (b.ring n).inPages ++ (b.ring n).outPages)) (hR.setRing _ (Ring.empty n)))
    (hR.ringStatus _)
  dsimp only
  generalize Block.ringStatus _ = c at *
  split
  all_goals
    split
    · exact hR.trans (hR.trans hmain (hchecked _ _)) (hR.submit _ _ _)
    · exact hmain

theorem readRing (b : Block) (n : Nat) : R b (b.readRing n) := by
  rw [Block.readRing]
  split
  · exact hR.dramUse b _ _ _
  · exact hR.trans (hR.dramUse b _ _ _) (hR.ringCheckFailed _ n)

theorem populate {b c : Block} {n : Nat} (h : b.populate n = some c) : R b c := by
  rw [Block.populate] at h
  dsimp only at h
  split at h
  · exact Option.some.inj h ▸ hR.refl b
  · split at h
    · cases h
    · split at h
      · cases h
      · exact Option.some.inj h ▸ hR.trans (hR.setRing b _) (hR.ringStatus _)

theorem poolFull (b : Block) : R b b.poolFull :=
  hR.trans (hR.ringWord b (f := F.HIF_DROP_POOL) _ rfl (by decide)) (hR.raiseRing _ rfl (by decide) rfl)

theorem ringFull (b : Block) : R b ((b.count F.HIF_DROP_FULL 1).raise E.HIF_RING_FULL) :=
  hR.trans (hR.ringWord b (f := F.HIF_DROP_FULL) _ rfl (by decide)) (hR.raiseRing _ rfl (by decide) rfl)

theorem queueIn (b : Block) (n : Nat) (m : Msg) : R b (b.queueIn n m) := by
  rw [Block.queueIn]
  split
  · exact hR.refl b
  · refine hR.trans (hR.readRing b n) ?_
    dsimp only
    generalize b.readRing n = c
    split
    · exact hR.poolFull c
    · next d hd =>
      refine hR.trans (hR.populate hd) ?_
      split
      · exact hR.trans (hR.trans (hR.dramWrite d _ _ _) (hR.setRing _ _)) (hR.ringWord _ (f := F.HIF_IRQ_STATUS_RX_AVAIL) 1 rfl (by decide))
      · exact hR.trans (hR.setRing d _) (hR.ringFull _)

/-! ### Departures -/

theorem onEth (b : Block) (n : Nat) (f : EthPort → EthPort) : R b (b.onEth n f) := hR.moved ⟨rfl, rfl⟩

theorem countDrop (b : Block) (n : Nat) : R b (b.countSat (F.ETHn_CNT_Ei n 9) 1) := by
  rw [Block.countSat_eq]
  exact hR.set b _ rfl (.inr ⟨n, .inr (.inr rfl)⟩)

theorem txDrop (b : Block) (n : Nat) : R b (b.txDrop n) := by
  rw [Block.txDrop, Block.raise_eq]
  exact hR.trans (hR.countDrop b n) (hR.raised _ _ (fun c => hR.mark c ⟨n, .inl rfl⟩) fun c => hR.mark c ⟨n, .inr rfl⟩)

theorem ethQueue (b : Block) (n : Nat) (x : TxFrame) : R b (b.ethQueue n x) := by
  rw [Block.ethQueue]
  split
  · exact hR.countDrop b n
  · split
    · exact hR.txDrop b n
    · exact hR.onEth b n _

theorem ethSendIp (b : Block) (n sub cls : Nat) (v6 : Bool) (dst len : Nat) (item : Out) :
    R b (b.ethSendIp n sub cls v6 dst len item) := by
  rw [Block.ethSendIp]
  dsimp only
  split
  · exact hR.txDrop b n
  · split
    · exact hR.ethQueue b n _
    · split
      · split
        · exact hR.ethQueue b n _
        · exact hR.onEth b n _
      · exact hR.trans (hR.onEth b n _) (hR.ethQueue _ n _)

theorem countCells (b : Block) (p n : Nat) : R b (b.countCells p 0 n) := by
  rw [Block.countCells, Block.countPair, Block.setPair_eq]
  exact hR.trans (hR.set b _ rfl (.inr ⟨p, .inl rfl⟩)) (hR.set _ _ rfl (.inr ⟨p, .inr (.inl rfl)⟩))

theorem emit (b : Block) (o : Out) : R b (b.emit o) := hR.moved ⟨rfl, rfl⟩

theorem depart (b : Block) (v : Via) (m : Msg) : R b (b.depart v m) := by
  cases v with
  | udp n a =>
    have hused : R b (b.endpointUsed a m.dest) := hR.moved ⟨rfl, rfl⟩
    exact hR.trans hused (hR.ethSendIp _ n _ _ _ _ _ _)
  | lnk p => exact hR.trans (hR.countCells b p _) (hR.emit _ _)
  | loopback => exact hR.emit b _

theorem departAll (b : Block) (l : List (Via × Msg)) : R b (b.departAll l) :=
  hR.each l b fun x c => hR.depart c x.1 x.2

/-! ### Sessions and numbers -/

theorem sendHello (b : Block) (n : Nat) : R b (b.sendHello n) := by
  have hhello (k : Nat) (l : List Hello) : R b { b with freeCount := k, hif.hellos := l } := hR.moved ⟨rfl, rfl⟩
  rw [Block.sendHello]
  split
  · exact hR.refl b
  · refine hR.trans (hhello (b.freeCount + 1) (b.hif.hellos ++ [⟨n, Config.freeNumber b.freeCount % 2 ^ 128, 0, b.clk + 10000000⟩])) ?_
    simp only [Block.fresh]
    split
    · exact hR.refl _
    · exact hR.depart _ _ _

theorem slotSent (b : Block) (n session : Nat) (m : Msg) : R b (b.slotSent n session m) :=
  hR.trans (hR.dramWrite b _ _ _) (hR.setRing _ _)

theorem remember (b : Block) (dest seq session : Nat) : R b (b.remember dest seq session) := hR.moved ⟨rfl, rfl⟩

/-- A message takes its number: where numbers begin anew, the sessions end with it. -/
theorem nextSeq (b : Block) (hend : b.hif.seq + 1 < 2 ^ 32 ∨ ∀ (c : Block) (p : Nat), R c (c.endSession p)) : R b b.nextSeq.2 := by
  rw [Block.nextSeq]
  split
  · exact hR.moved ⟨rfl, rfl⟩
  · next hlast =>
    have hend := hend.resolve_left hlast
    have hs (c : Block) (l : List UdpSession) (k : Nat) : R c { c with hif.sessions := l, hif.seq := k } := hR.moved ⟨rfl, rfl⟩
    exact hR.trans (hR.trans (hR.trans (hend b 0) (hend _ 1)) (hs _ _ _)) (hR.each _ _ fun n c => hR.sendHello c n)

/-- The requests of ring `n` that wait for a session, once they leave under it. -/
theorem flushNode (b : Block) (v : Via) (n : Nat) : R b (b.flushNode v n) := by
  have hq (c : Block) (l : List Request) : R c { c with hif.requests := l } := hR.moved ⟨rfl, rfl⟩
  rw [Block.flushNode]
  dsimp only
  split
  · exact hR.refl b
  · exact hR.trans (hR.trans (hR.setRing b _) (hq _ _)) (hR.departAll _ _)

theorem flushWaiting (b : Block) (test : Nat → Via → Bool) : R b (b.flushWaiting test) := by
  refine hR.each _ b fun n c => ?_
  split
  · exact hR.when c _ fun d => hR.flushNode d _ n
  · exact hR.refl c

end Sending

/-! ### Sending -/

/-- A message is held in the outbound half of ring `n`. -/
def Block.heldOut (b : Block) (n : Nat) (m : Msg) : Block :=
  (b.dramWrite 0 (b.ringPool.base + 4096 * (b.ring n).outPages.headD 0 + 256 * ((b.ring n).outHead % (b.ring n).slots)) m.slotBytes).setRing
    { b.ring n with outQ := (b.ring n).outQ ++ [m], outHead := ((b.ring n).outHead + 1) % 2 ^ 32, lastOut := m.seq
                    moved := (b.dramWrite 0 (b.ringPool.base + 4096 * (b.ring n).outPages.headD 0
                      + 256 * ((b.ring n).outHead % (b.ring n).slots)) m.slotBytes).clk }

/-- A session with the node of a way is asked for. -/
def Block.helloTo (b : Block) (n : Nat) : Via → Block
  | .udp _ a => b.sendHello (b.udpPeer a n)
  | _ => b

/-- A message on its way through a ring that is populated. -/
def Block.dispatchFrom (b : Block) (n : Nat) (v : Via) (m : Msg) : Nat × Block :=
  if b.sessionOpen v n then (0, (b.slotSent n (b.sessionId v n) m).depart v m)
  else if (b.ring n).outQ.length < (b.ring n).slots then (0, (b.heldOut n m).helloTo n v)
  else (1, (b.count F.HIF_DROP_FULL 1).raise E.HIF_RING_FULL)

theorem Block.dispatchTo_eq (b : Block) (n : Nat) (v : Via) (m : Msg) : b.dispatchTo n v m =
    match (b.readRing n).populate n with
    | none => (5, (b.readRing n).poolFull)
    | some d => d.dispatchFrom n v m := by
  cases v <;> rfl

theorem Block.sendOut_eq (b : Block) (v : Via) (m : Msg) : b.sendOut v m =
    ((b.dispatch v m).1, (b.dispatch v m).2.when ((b.dispatch v m).1 == 0 && isRequest m.type) (fun b =>
      b.remember m.dest m.seq (if b.sessionOpen v m.dest then b.sessionId v m.dest else 0))) := rfl

namespace Sending

variable {R : Block → Block → Prop} (hR : Sending R)
include hR

theorem helloTo (b : Block) (n : Nat) (v : Via) : R b (b.helloTo n v) := by
  cases v with
  | udp _ a => exact hR.sendHello b _
  | lnk _ => exact hR.refl b
  | loopback => exact hR.refl b

theorem dispatchFrom (b : Block) (n : Nat) (v : Via) (m : Msg) : R b (b.dispatchFrom n v m).2 := by
  rw [Block.dispatchFrom]
  split
  · exact hR.trans (hR.slotSent b _ _ m) (hR.depart _ v m)
  · split
    · exact hR.trans (hR.trans (hR.dramWrite b 0 _ _) (hR.setRing _ _)) (hR.helloTo _ n v)
    · exact hR.ringFull b

theorem dispatchTo (b : Block) (n : Nat) (v : Via) (m : Msg) : R b (b.dispatchTo n v m).2 := by
  rw [Block.dispatchTo_eq]
  refine hR.trans (hR.readRing b n) ?_
  generalize b.readRing n = c
  split
  · exact hR.poolFull c
  · next d hd => exact hR.trans (hR.populate hd) (hR.dispatchFrom d n v m)

theorem sendWays (b : Block) (ways : List Via) (m : Msg) : R b (b.sendWays ways m).2 := by
  rw [Block.sendWays]
  refine hR.trans (hR.readRing b m.dest) ?_
  generalize b.readRing m.dest = c
  split
  · exact hR.poolFull c
  · next d hd => exact hR.trans (hR.trans (hR.populate hd) (hR.slotSent d _ _ m)) (hR.departAll _ _)

theorem sendOut (b : Block) (v : Via) (m : Msg) : R b (b.sendOut v m).2 := by
  rw [Block.sendOut_eq]
  exact hR.trans (hR.dispatchTo b m.dest v m) (hR.when _ _ fun c => hR.remember c _ _ _)

section
variable {b : Block} (hend : b.hif.seq + 1 < 2 ^ 32 ∨ ∀ (c : Block) (p : Nat), R c (c.endSession p))
include hend

theorem compose (type dest : Nat) (body : Body) : R b (b.compose type dest body).2 := hR.nextSeq b hend

theorem send (type dest : Nat) (body : Body) : R b (b.send type dest body).2 := by
  have hc := hR.compose hend type dest body
  rw [Block.send]
  generalize b.compose type dest body = x at *
  obtain ⟨m, c⟩ := x
  dsimp only at hc ⊢
  split
  · exact hR.refl b
  · split
    · have hw := hR.sendWays c (c.broadcastPorts none) m
      generalize c.sendWays (c.broadcastPorts none) m = y at *
      refine hR.trans (hR.trans (hR.trans hc hw) (hR.when _ _ fun c => hR.remember c _ _ _)) (hR.each _ _ fun e c => ?_)
      split
      · exact hR.dispatchTo c _ _ _
      · exact hR.refl c
    · split
      · exact hR.ringWord b (f := F.HIF_DROP_DEST) _ rfl (by decide)
      · refine hR.trans hc ?_
        exact hR.queueIn c 0 m
      · exact hR.trans hc (hR.sendOut c _ _)

theorem sendChain (ports : List Nat) (type dest : Nat) (body : Body) : R b (b.sendChain ports type dest body) := by
  have hc := hR.compose hend type dest body
  rw [Block.sendChain]
  generalize b.compose type dest body = x at *
  obtain ⟨m, c⟩ := x
  dsimp only at hc ⊢
  split
  · exact hR.refl b
  · have hw := hR.sendWays c ((ports.filter (fun p => c.bit (F.LNKn_STATUS_SESSION_UP p))).map Via.lnk) m
    generalize c.sendWays ((ports.filter (fun p => c.bit (F.LNKn_STATUS_SESSION_UP p))).map Via.lnk) m = y at *
    exact hR.trans (hR.trans hc hw) (hR.when _ _ fun c => hR.remember c _ _ _)

theorem sendOtherUdp (type : Nat) (body : Body) : R b (b.sendOtherUdp type body) := by
  rw [Block.sendOtherUdp]
  split
  · have hc := hR.compose hend type b.otherHead body
    generalize b.compose type b.otherHead body = x at *
    obtain ⟨m, c⟩ := x
    dsimp only at hc ⊢
    split
    · exact hR.trans hc (hR.sendOut c _ m)
    · exact hR.refl b
  · exact hR.refl b

end

end Sending

/-! ### The fields beside a sending -/

/-- A field that no message writes as it leaves: neither one of the rings, of the fault log, nor of the ports' cells and drops. -/
def LeaveBeside (g : Fld) : Prop :=
  g.addr / 0x10000 ≠ 0x30 ∧ g.addr ∉ ringWords
    ∧ ∀ p : Nat, g.addr ≠ R.LNKn_CNT_Ti_LO p 0 ∧ g.addr ≠ R.LNKn_CNT_Ti_HI p 0 ∧ g.addr ≠ R.ETHn_CNT_Ei p 9
      ∧ g.apart (F.ETHn_ERR_TX_DROP p) = true ∧ g.apart (F.ETHn_IRQ_STATUS_ERR p) = true

/-- A field that no sending writes: neither such a one nor one of the ports' sessions, which end where numbers begin anew. -/
def SendBeside (g : Fld) : Prop :=
  LeaveBeside g ∧ ∀ p : Nat, g.apart (F.LNKn_STATUS_SESSION_UP p) = true ∧ g.addr ≠ R.LNKn_SESSION p

/-- The offsets in a window that sending writes in the windows of the ports. -/
def sentOffsets : List Nat := [0x04, 0x08, 0x10, 0x20, 0x24, 0x924, 0x7FF0]

/-- A field of the link layer at offset `o`: beside the cells sent, and beside the bits of an Ethernet port of the same window. -/
theorem leaveBeside_lnk {g : Fld} {p o : Nat} (hp : p < 2) (ha : g.addr = 0x1C0000 + 0x10000 * p + o)
    (ho : o < 0x10000 ∧ o ≠ 0x20 ∧ o ≠ 0x24 ∧ o ≠ 0x924) (herr : o = 0x08 → g.hi < 3 ∨ 3 < g.lo) (hirq : o = 0x7FF0 → g.hi < 1 ∨ 1 < g.lo) :
    LeaveBeside g := by
  refine ⟨by omega, ?_, fun q => ?_⟩
  · simp only [ringWords, List.mem_cons, List.not_mem_nil, or_false, not_or, R.HIF_ERR, R.HIF_IRQ_STATUS, R.HIF_RING_STATUS,
      R.HIF_RING_POOL_USED, R.HIF_DROP_DEST, R.HIF_DROP_FULL, R.HIF_DROP_POOL]
    omega
  · simp only [R.LNKn_CNT_Ti_LO, R.LNKn_CNT_Ti_HI, R.ETHn_CNT_Ei, Fld.apart_iff, F.ETHn_ERR_TX_DROP, F.ETHn_IRQ_STATUS_ERR, R.ETHn_ERR,
      R.ETHn_IRQ_STATUS]
    omega

/-- A field below the ports, or at another offset than those written there. -/
theorem sendBeside_of_addr {g : Fld} (h30 : g.addr / 0x10000 ≠ 0x30) (hr : g.addr ∉ ringWords)
    (ho : g.addr < 0x100000 ∨ g.addr % 0x10000 ∉ sentOffsets) : SendBeside g := by
  have key (p : Nat) : g.addr ≠ R.LNKn_STATUS p ∧ g.addr ≠ R.LNKn_SESSION p ∧ g.addr ≠ R.LNKn_CNT_Ti_LO p 0
      ∧ g.addr ≠ R.LNKn_CNT_Ti_HI p 0 ∧ g.addr ≠ R.ETHn_CNT_Ei p 9 ∧ g.addr ≠ R.ETHn_ERR p ∧ g.addr ≠ R.ETHn_IRQ_STATUS p := by
    simp only [sentOffsets, List.mem_cons, List.not_mem_nil, or_false, not_or] at ho
    simp only [R.LNKn_STATUS, R.LNKn_SESSION, R.LNKn_CNT_Ti_LO, R.LNKn_CNT_Ti_HI, R.ETHn_CNT_Ei, R.ETHn_ERR, R.ETHn_IRQ_STATUS]
    omega
  refine ⟨⟨h30, hr, fun p => ?_⟩, fun p => ?_⟩
  · obtain ⟨-, -, h3, h4, h5, h6, h7⟩ := key p
    exact ⟨h3, h4, h5, Fld.apart_of_addr h6, Fld.apart_of_addr h7⟩
  · obtain ⟨h1, h2, -⟩ := key p
    exact ⟨Fld.apart_of_addr h1, h2⟩

/-- A field of the link layer beside the sessions too. -/
theorem sendBeside_lnk {g : Fld} {p o : Nat} (hg : LeaveBeside g) (ha : g.addr = 0x1C0000 + 0x10000 * p + o) (ho : o < 0x10000)
    (hup : o = 0x04 → g.hi < 1 ∨ 1 < g.lo) (hid : o ≠ 0x10) : SendBeside g := by
  refine ⟨hg, fun q => ?_⟩
  simp only [Fld.apart_iff, F.LNKn_STATUS_SESSION_UP, R.LNKn_STATUS, R.LNKn_SESSION]
  omega

/-- A field of a port's link status beside SESSION_UP. -/
theorem sendBeside_lnkStatus {g : Fld} {p : Nat} (hp : p < 2) (ha : g.addr = R.LNKn_STATUS p)
    (hap : g.apart (F.LNKn_STATUS_SESSION_UP p) = true) : SendBeside g := by
  have ho : g.addr = 0x1C0000 + 0x10000 * p + 4 := by rw [ha, R.LNKn_STATUS]; omega
  refine ⟨leaveBeside_lnk hp ho (by decide) nofun nofun, fun q => ⟨?_, ?_⟩⟩
  · by_cases hq : q = p
    · rw [hq]; exact hap
    · refine Fld.apart_of_addr ?_
      simp only [ho, F.LNKn_STATUS_SESSION_UP, R.LNKn_STATUS]
      omega
  · rw [ho, R.LNKn_SESSION]
    omega

theorem LeaveBeside.counted {g f : Fld} (hg : LeaveBeside g) (hf : Counted f) : g.apart f = true := by
  obtain ⟨-, hr, hp⟩ := hg
  rcases hf with hf | ⟨p, rfl | rfl | rfl⟩
  · exact Fld.apart_of_addr fun e => hr (e ▸ hf)
  · exact Fld.apart_of_addr (hp p).1
  · exact Fld.apart_of_addr (hp p).2.1
  · exact Fld.apart_of_addr (hp p).2.2.1

theorem LeaveBeside.marked {g f : Fld} (hg : LeaveBeside g) (hf : Marked f) : g.apart f = true := by
  obtain ⟨-, -, hp⟩ := hg
  rcases hf with ⟨p, rfl | rfl⟩
  · exact (hp p).2.2.2.1
  · exact (hp p).2.2.2.2

theorem Marked.ok {f : Fld} (h : Marked f) : f.ok = true := by
  rcases h with ⟨p, rfl | rfl⟩ <;> rfl

/-! ### What a message that leaves keeps -/

/-- What the leaving of a message can change, while the sessions stand. -/
def Leaves (b t : Block) : Prop :=
  t = { b with regs := t.regs, dram := t.dram, drm := t.drm, hif := t.hif, eth := t.eth, flt := t.flt, freeCount := t.freeCount, out := t.out }
    ∧ t.hif = { b.hif with rings := t.hif.rings, lostPages := t.hif.lostPages, seq := t.hif.seq, requests := t.hif.requests
                           endpoints := t.hif.endpoints, sessions := t.hif.sessions, hellos := t.hif.hellos
                           ringCheckLast := t.hif.ringCheckLast }
    ∧ ∀ g, LeaveBeside g → t.get g = b.get g

theorem leaves_set (b : Block) {f : Fld} (v : Nat) (hok : f.ok = true) (hf : ∀ g, LeaveBeside g → g.apart f = true) : Leaves b (b.set f v) :=
  ⟨regsOnly_set b f v, by rw [Block.set_hif], fun g hg => Block.get_set_apart b v hok (hf g hg)⟩

theorem leaves_submit (b : Block) (code d : Nat) : Leaves b (b.submit code d) := by
  have he : b.submit code d = { b with regs := (b.submit code d).regs, flt := (b.submit code d).flt } := by
    simp only [Block.submit, Block.acceptEntry]
    split_ifs <;> rfl
  refine ⟨by rw [he], by rw [he], fun g hg => ?_⟩
  rw [Block.get, Block.word_submit_other _ _ _ hg.1, Block.get]

theorem leaving : Sending Leaves where
  refl _ := ⟨rfl, rfl, fun _ _ => rfl⟩
  trans h k := ⟨by rw [k.1, h.1], by rw [k.2.1, h.2.1], fun g hg => (k.2.2 g hg).trans (h.2.2 g hg)⟩
  set b _ v hok hf := leaves_set b v hok fun _ hg => hg.counted hf
  mark b _ hf := leaves_set b 1 hf.ok fun _ hg => hg.marked hf
  submit := leaves_submit
  moved {b t} h := ⟨by rw [h.1], h.2, fun g _ => Block.get_congr (by rw [h.1]) g⟩

section
variable {b t : Block}

theorem Leaves.get (h : Leaves b t) {g : Fld} (hg : LeaveBeside g) : t.get g = b.get g := h.2.2 g hg
theorem Leaves.bit (h : Leaves b t) {g : Fld} (hg : LeaveBeside g) : t.bit g = b.bit g := by rw [Block.bit, h.get hg, Block.bit]
theorem Leaves.lnkPort (h : Leaves b t) (p : Nat) : t.lnkPort p = b.lnkPort p := by rw [h.1]; rfl
theorem Leaves.clk (h : Leaves b t) : t.clk = b.clk := by rw [h.1]

end

/-! ### What every sending keeps -/

/-- What sending a message can change: rings and what is known of peers, what waits at the ports, DRAM, the fault log, what has left,
and the sessions at the Lysrov ports. -/
def Sends (b t : Block) : Prop :=
  t = { b with regs := t.regs, dram := t.dram, drm := t.drm, hif := t.hif, lnk := t.lnk, eth := t.eth, flt := t.flt
               freeCount := t.freeCount, out := t.out }
    ∧ t.hif = { b.hif with rings := t.hif.rings, lostPages := t.hif.lostPages, seq := t.hif.seq, requests := t.hif.requests
                           endpoints := t.hif.endpoints, sessions := t.hif.sessions, hellos := t.hif.hellos
                           ringCheckLast := t.hif.ringCheckLast }
    ∧ t.lnk = { b.lnk with ports := t.lnk.ports }
    ∧ ∀ g, SendBeside g → t.get g = b.get g

theorem Sends.refl (b : Block) : Sends b b := ⟨rfl, rfl, rfl, fun _ _ => rfl⟩

section
variable {b c t : Block}

theorem Sends.trans (h : Sends b c) (k : Sends c t) : Sends b t :=
  ⟨by rw [k.1, h.1], by rw [k.2.1, h.2.1], by rw [k.2.2.1, h.2.2.1], fun g hg => (k.2.2.2 g hg).trans (h.2.2.2 g hg)⟩

theorem Sends.get (h : Sends b t) {g : Fld} (hg : SendBeside g) : t.get g = b.get g := h.2.2.2 g hg
theorem Sends.bit (h : Sends b t) {g : Fld} (hg : SendBeside g) : t.bit g = b.bit g := by rw [Block.bit, h.get hg, Block.bit]
theorem Sends.clk (h : Sends b t) : t.clk = b.clk := by rw [h.1]
theorem Sends.stc (h : Sends b t) : t.stc = b.stc := by rw [h.1]
theorem Sends.cfg (h : Sends b t) : t.cfg = b.cfg := by rw [h.1]
theorem Sends.cmp (h : Sends b t) : t.cmp = b.cmp := by rw [h.1]
theorem Sends.upd (h : Sends b t) : t.upd = b.upd := by rw [h.1]
theorem Sends.channels (h : Sends b t) : t.hif.channels = b.hif.channels := by rw [h.2.1]
theorem Sends.boxes (h : Sends b t) : t.hif.boxes = b.hif.boxes := by rw [h.2.1]
theorem Sends.held (h : Sends b t) : t.hif.held = b.hif.held := by rw [h.2.1]

theorem Leaves.sends (h : Leaves b t) : Sends b t := ⟨by rw [h.1], h.2.1, by rw [h.1], fun g hg => h.get hg.1⟩

theorem sends_of_regs (h : RegsOnly b t) (hg : ∀ g, SendBeside g → t.get g = b.get g) : Sends b t :=
  ⟨by rw [h], by rw [h], by rw [h], hg⟩

end

theorem sends_set (b : Block) {f : Fld} (v : Nat) (hok : f.ok = true) (hf : ∀ g, SendBeside g → g.apart f = true) : Sends b (b.set f v) :=
  sends_of_regs (regsOnly_set b f v) fun g hg => Block.get_set_apart b v hok (hf g hg)

theorem sending : Sending Sends where
  refl := .refl
  trans := .trans
  set b _ v hok hf := (leaving.set b v hok hf).sends
  mark b _ hf := (leaving.mark b hf).sends
  submit b code d := (leaving.submit b code d).sends
  moved h := (leaving.moved h).sends

theorem sends_endSession (b : Block) (p : Nat) : Sends b (b.endSession p) := by
  have hport (c : Block) (f : LnkPort → LnkPort) : Sends c (c.onLnk p f) := ⟨rfl, rfl, rfl, fun _ _ => rfl⟩
  refine ((sends_set b 0 rfl fun g hg => ?_).trans (sends_set _ 0 rfl fun g hg => ?_)).trans (hport _ _)
  · exact (hg.2 p).1
  · exact Fld.apart_of_addr (hg.2 p).2

theorem sends_depart (b : Block) (v : Via) (m : Msg) : Sends b (b.depart v m) := sending.depart b v m

theorem sends_compose (b : Block) (type dest : Nat) (body : Body) : Sends b (b.compose type dest body).2 :=
  sending.compose (.inr sends_endSession) type dest body

theorem sends_sendOut (b : Block) (v : Via) (m : Msg) : Sends b (b.sendOut v m).2 := sending.sendOut b v m

theorem sends_send (b : Block) (type dest : Nat) (body : Body) : Sends b (b.send type dest body).2 :=
  sending.send (.inr sends_endSession) type dest body

theorem sends_sendMsg (b : Block) (type dest : Nat) (body : Body) : Sends b (b.sendMsg type dest body) := sends_send b type dest body

theorem sends_sendChain (b : Block) (ports : List Nat) (type dest : Nat) (body : Body) : Sends b (b.sendChain ports type dest body) :=
  sending.sendChain (.inr sends_endSession) ports type dest body

theorem sends_sendOtherUdp (b : Block) (type : Nat) (body : Body) : Sends b (b.sendOtherUdp type body) :=
  sending.sendOtherUdp (.inr sends_endSession) type body

end Sys2Proof.Machine
end

section
/-!
PROOFS of chapter 3: the bulk channels.
-/

namespace Sys2Proof.Machine

/-! ### A channel's registers and record -/

section
variable (n : Nat)
@[simp] theorem dmaState_addr : (F.HIF_DMAn_STATUS_STATE n).addr = R.HIF_DMAn_STATUS n := rfl
@[simp] theorem dmaErr_addr : (F.HIF_DMAn_STATUS_ERR n).addr = R.HIF_DMAn_STATUS n := rfl
end

/-- A channel's own registers lie beside what a sending writes. -/
theorem sendBeside_dma {n : Nat} {g : Fld} (hn : n < 8) (h : 0x10100 + 0x20 * n ≤ g.addr ∧ g.addr < 0x10120 + 0x20 * n) : SendBeside g := by
  refine sendBeside_of_addr (by omega) ?_ (.inl (by omega))
  simp only [ringWords, List.mem_cons, List.not_mem_nil, or_false, not_or, R.HIF_ERR, R.HIF_IRQ_STATUS, R.HIF_RING_STATUS,
    R.HIF_RING_POOL_USED, R.HIF_DROP_DEST, R.HIF_DROP_FULL, R.HIF_DROP_POOL]
  omega

theorem sendBeside_dmaStatus {n : Nat} {g : Fld} (hn : n < 8) (h : g.addr = R.HIF_DMAn_STATUS n) : SendBeside g :=
  sendBeside_dma hn (by rw [h, R.HIF_DMAn_STATUS]; omega)

theorem Block.channel_congr {b t : Block} (h : t.hif.channels = b.hif.channels) (n : Nat) : t.channel n = b.channel n := by
  rw [Block.channel, h, Block.channel]

theorem Block.channel_setChannel {b : Block} {n : Nat} (c : Channel) (h : n < b.hif.channels.length) : (b.setChannel n c).channel n = c := by
  rw [Block.channel, Block.setChannel, List.getD_eq_getElem _ _ (by rw [List.length_set]; exact h), List.getElem_set_self]

theorem Block.setChannel_length (b : Block) (n : Nat) (c : Channel) : (b.setChannel n c).hif.channels.length = b.hif.channels.length :=
  List.length_set

theorem Block.channel_set (b : Block) (f : Fld) (v n : Nat) : (b.set f v).channel n = b.channel n :=
  Block.channel_congr (congrArg Hif.channels (Block.set_hif b f v)) n

theorem Block.channel_settle (b : Block) (n : Nat) : b.settle.channel n = b.channel n := rfl

theorem Block.get_setChannel (b : Block) (n : Nat) (c : Channel) (g : Fld) : (b.setChannel n c).get g = b.get g := rfl

theorem dmaErr_apart_state (n : Nat) : (F.HIF_DMAn_STATUS_ERR n).apart (F.HIF_DMAn_STATUS_STATE n) = true := (Fld.apart_iff _ _).mpr (.inr (.inl (of_decide_eq_true rfl)))
theorem dmaState_apart_err (n : Nat) : (F.HIF_DMAn_STATUS_STATE n).apart (F.HIF_DMAn_STATUS_ERR n) = true := (Fld.apart_iff _ _).mpr (.inl (of_decide_eq_true rfl))

/-! ### Chunks asked for -/

/-- What asking for a chunk of channel `n` leaves: the channel's registers, its chunks beside those that are open, and the clock. -/
def DmaKept (n : Nat) (b t : Block) : Prop :=
  t.get (F.HIF_DMAn_STATUS_STATE n) = b.get (F.HIF_DMAn_STATUS_STATE n) ∧ t.get (F.HIF_DMAn_STATUS_ERR n) = b.get (F.HIF_DMAn_STATUS_ERR n)
    ∧ t.hif.channels.length = b.hif.channels.length ∧ t.clk = b.clk

theorem DmaKept.refl (n : Nat) (b : Block) : DmaKept n b b := ⟨rfl, rfl, rfl, rfl⟩

theorem DmaKept.trans {n : Nat} {b c t : Block} (h : DmaKept n b c) (k : DmaKept n c t) : DmaKept n b t :=
  ⟨k.1.trans h.1, k.2.1.trans h.2.1, k.2.2.1.trans h.2.2.1, k.2.2.2.trans h.2.2.2⟩

theorem dmaKept_setChannel (b : Block) (n : Nat) (c : Channel) : DmaKept n b (b.setChannel n c) := ⟨rfl, rfl, b.setChannel_length n c, rfl⟩

theorem Sends.dmaKept {b t : Block} {n : Nat} (h : Sends b t) (hn : n < 8) : DmaKept n b t :=
  ⟨h.get (sendBeside_dmaStatus hn rfl), h.get (sendBeside_dmaStatus hn rfl), by rw [h.channels], h.clk⟩

theorem Block.dmaAsk_spec (b : Block) {n : Nat} (i tries : Nat) (hn : n < 8) (hlen : b.hif.channels.length = 8) :
    let t := b.dmaAsk n i tries
    DmaKept n b t ∧ ∃ seq, t.channel n = { b.channel n with
      open' := (b.channel n).open'.filter (·.index != i) ++ [(⟨i, seq, tries, b.clk + 10000000⟩ : Chunk)] } := by
  have hs := sends_send b 0x03 (b.get (F.HIF_DMAn_SRC_NODE_NODE n))
    (.fetch (b.get (F.HIF_DMAn_SRC_LO n) + 2 ^ 32 * b.get (F.HIF_DMAn_SRC_HI n) + 4096 * i) (b.chunkLen n i) i)
  rw [Block.dmaAsk]
  dsimp only
  generalize Block.send _ _ _ _ = x at *
  obtain ⟨r, c⟩ := x
  dsimp only at hs ⊢
  have hl : n < c.hif.channels.length := by rw [hs.channels, hlen]; exact hn
  refine ⟨(hs.dmaKept hn).trans (dmaKept_setChannel c n _), if r = 0 then c.hif.seq else 0, ?_⟩
  rw [Block.channel_setChannel _ hl, Block.channel_congr hs.channels, hs.clk]

/-- The chunks that are open are the ones asked for so far. -/
def Channel.fills (c : Channel) : Prop := c.next ≤ c.total ∧ c.open'.length = c.next ∧ ∀ x ∈ c.open', x.index < c.next

theorem Block.dmaFill_spec {n : Nat} (hn : n < 8) : ∀ (k : Nat) (b : Block), b.hif.channels.length = 8 → (b.channel n).fills →
    (b.channel n).next + k ≤ 8 → DmaKept n b (b.dmaFill n k)
      ∧ ((b.dmaFill n k).channel n).next = min ((b.channel n).next + k) (b.channel n).total
  | 0, b, _, hf, _ => ⟨.refl n b, (Nat.min_eq_left hf.1).symm⟩
  | k + 1, b, hlen, ⟨hle, hcount, hidx⟩, hk => by
    rw [Block.dmaFill]
    split
    · next hmore =>
      have hl : n < b.hif.channels.length := by rw [hlen]; exact hn
      have hset := Block.channel_setChannel (b := b) { b.channel n with next := (b.channel n).next + 1 } hl
      obtain ⟨hkept, seq, hask⟩ := (b.setChannel n { b.channel n with next := (b.channel n).next + 1 }).dmaAsk_spec (b.channel n).next 0 hn
        (by rw [Block.setChannel_length, hlen])
      have hk0 := (dmaKept_setChannel b n { b.channel n with next := (b.channel n).next + 1 }).trans hkept
      rw [hset] at hask
      generalize (b.setChannel n { b.channel n with next := (b.channel n).next + 1 }).dmaAsk n (b.channel n).next 0 = c at *
      have hkeep : (b.channel n).open'.filter (·.index != (b.channel n).next) = (b.channel n).open' :=
        List.filter_eq_self.mpr fun x hx => by
          have := hidx x hx
          simp only [bne_iff_ne]
          omega
      dsimp only at hask
      rw [hkeep] at hask
      have hfill : (c.channel n).fills := by
        rw [hask]
        refine ⟨hmore.1, by simp [hcount], fun x hx => ?_⟩
        rcases List.mem_append.mp hx with h | h
        · exact Nat.lt_succ_of_lt (hidx x h)
        · rw [List.mem_singleton.mp h]
          exact Nat.lt_succ_self _
      have hnext : (c.channel n).next = (b.channel n).next + 1 := by rw [hask]
      have htotal : (c.channel n).total = (b.channel n).total := by rw [hask]
      obtain ⟨ck, cn⟩ := Block.dmaFill_spec hn k c (hk0.2.2.1.trans hlen) hfill (by omega)
      exact ⟨hk0.trans ck, by rw [cn, hnext, htotal]; omega⟩
    · next hfull =>
      refine ⟨.refl n b, ?_⟩
      omega

/-! ### START and ABORT -/

/-- Channel `n` is made ready for its chunks. -/
def Block.dmaBegun (b : Block) (n total : Nat) : Block :=
  ((b.set (F.HIF_DMAn_STATUS_ERR n) 0).setChannel n ⟨0, total, []⟩).set (F.HIF_DMAn_STATUS_STATE n) 1

theorem Block.dmaBegun_spec (b : Block) {n : Nat} (total : Nat) (hn : n < b.hif.channels.length) :
    let t := b.dmaBegun n total
    t.get (F.HIF_DMAn_STATUS_STATE n) = 1 ∧ t.get (F.HIF_DMAn_STATUS_ERR n) = 0 ∧ t.channel n = ⟨0, total, []⟩
      ∧ t.hif.channels.length = b.hif.channels.length := by
  have hn' : n < (b.set (F.HIF_DMAn_STATUS_ERR n) 0).hif.channels.length := by rw [Block.set_hif]; exact hn
  refine ⟨?_, ?_, ?_, ?_⟩
  · rw [Block.dmaBegun, Block.get_set_self _ _ rfl]
    rfl
  rotate_left
  · rw [Block.dmaBegun, Block.channel_set, Block.channel_setChannel _ hn']
  · rw [Block.dmaBegun, Block.set_hif, Block.setChannel_length, Block.set_hif]
  rw [Block.dmaBegun, Block.get_set_apart _ _ rfl (dmaErr_apart_state n), Block.get_setChannel, Block.get_set_self _ _ rfl]
  rfl

theorem Block.dmaSpan_congr {b t : Block} {n : Nat}
    (h : ∀ g : Fld, 0x10100 + 0x20 * n ≤ g.addr ∧ g.addr < 0x1011C + 0x20 * n → t.get g = b.get g) : t.dmaSpan n = b.dmaSpan n := by
  have key (a k : Nat) (hk : k < 0x1C) : 0x10100 + 0x20 * n ≤ 0x10100 + k + 0x20 * n ∧ 0x10100 + k + 0x20 * n < 0x1011C + 0x20 * n := by omega
  rw [Block.dmaSpan, h _ (key 0 0x0C (by decide)), h _ (key 0 0x10 (by decide)), h _ (key 0 0x14 (by decide)), Block.dmaSpan]

theorem dmaCmd_start {b : Block} {n v : Nat} (hn : n < 8) (hs : (F.HIF_DMAn_CMD_START n).of v = 1) (ha : (F.HIF_DMAn_CMD_ABORT n).of v = 0)
    (hb : b.dmaBusy n = false) (hin : b.inDram (b.dmaSpan n) = true) (hc : (b.dmaSpan n).clearOf [ringTable, b.ringPool] = true)
    (hlen : 0 < (b.dmaSpan n).len) : dmaCmd n v b = (b.dmaBegun n (ceilDiv (b.dmaSpan n).len 4096)).dmaFill n 8 := by
  rw [dmaCmd, if_neg (by omega), ha]
  have hpool : (b.set (F.HIF_DMAn_STATUS_ERR n) 0).ringPool = b.ringPool := by
    have key (g : Fld) (h : g.addr < 0x10100) : (b.set (F.HIF_DMAn_STATUS_ERR n) 0).get g = b.get g :=
      Block.get_set_apart _ _ rfl (Fld.apart_of_addr (by rw [dmaErr_addr, R.HIF_DMAn_STATUS]; omega))
    rw [Block.ringPool, Block.pair, key _ (by decide), key _ (by decide), key _ (by decide), Block.ringPool, Block.pair]
  have hdram : (b.set (F.HIF_DMAn_STATUS_ERR n) 0).inDram (b.dmaSpan n) = true := by
    rw [Block.inDram, Block.set_fuses]
    exact hin
  have hidle : ¬((F.HIF_DMAn_CMD_START n).of v = 0 ∨ b.dmaBusy n = true) := by
    rw [hs, hb]
    simp
  simp only [Nat.zero_ne_one, if_false, hpool, hdram, hc]
  rw [if_neg hidle, if_neg (by simp), if_neg (by omega), Block.dmaBegun]

theorem Block.dmaEnd_spec (b : Block) {n st : Nat} (hn : n < b.hif.channels.length) (hst : st < 4) :
    let t := b.dmaEnd n st
    t.get (F.HIF_DMAn_STATUS_STATE n) = st ∧ t.channel n = ⟨0, 0, []⟩ ∧ t.hif.channels.length = b.hif.channels.length
      ∧ SameWords [R.HIF_DMAn_STATUS n] b t ∧ SameMem b t ∧ t.clk = b.clk := by
  refine ⟨?_, by rw [Block.dmaEnd, Block.channel_set, Block.channel_setChannel _ hn],
    by rw [Block.dmaEnd, Block.set_hif, Block.setChannel_length], ?_, ?_, by rw [Block.dmaEnd, Block.set_clk]; rfl⟩
  rotate_right
  · rw [Block.dmaEnd]
    exact (regsOnly_set _ _ _).sameMem
  · rw [Block.dmaEnd, Block.get_set_self _ _ rfl]
    exact Nat.mod_eq_of_lt hst
  · exact (sameWords_set (f := F.HIF_DMAn_STATUS_STATE n) _ (by simp)).mpr (.refl _ b)

theorem dmaCmd_abort {b : Block} {n v : Nat} (hn : n < 8) (hs : (F.HIF_DMAn_CMD_START n).of v = 0) (ha : (F.HIF_DMAn_CMD_ABORT n).of v = 1) :
    dmaCmd n v b = (b.dmaEnd n 0).set (F.HIF_DMAn_STATUS_ERR n) 0 := by
  rw [dmaCmd, if_neg (by omega), ha]
  dsimp only
  rw [if_pos rfl, if_pos (.inl hs)]

theorem dmaAbort_spec {b : Block} {n v : Nat} (hn : n < 8) (hlen : b.hif.channels.length = 8) (hs : (F.HIF_DMAn_CMD_START n).of v = 0)
    (ha : (F.HIF_DMAn_CMD_ABORT n).of v = 1) :
    let t := dmaCmd n v b
    t.get (F.HIF_DMAn_STATUS_STATE n) = 0 ∧ t.get (F.HIF_DMAn_STATUS_ERR n) = 0 ∧ (t.channel n).open' = []
      ∧ SameWords [R.HIF_DMAn_STATUS n] b t ∧ SameMem b t := by
  obtain ⟨hst, hch, -, hw, hm, -⟩ := b.dmaEnd_spec (n := n) (st := 0) (by rw [hlen]; exact hn) (by decide)
  rw [dmaCmd_abort hn hs ha]
  generalize b.dmaEnd n 0 = c at *
  refine ⟨by rw [Block.get_set_apart _ _ rfl (dmaState_apart_err n), hst], ?_, by rw [Block.channel_set, hch],
    (sameWords_set _ (by simp)).mpr hw, hm.trans (regsOnly_set c _ 0).sameMem⟩
  rw [Block.get_set_self _ _ rfl]
  rfl

/-! ### Chunks that come, and chunks that do not -/

theorem Block.dramBytes_dramWrite (b : Block) (k a : Nat) (bs : List Byte) : (b.dramWrite k a bs).dramBytes a bs.length = bs := by
  refine List.ext_getElem (by simp [Block.dramBytes]) fun i h1 h2 => ?_
  simp only [Block.dramBytes, List.getElem_map, List.getElem_range, Block.dramByte_dramWrite]
  rw [if_pos ⟨by omega, by omega⟩, Nat.add_sub_cancel_left, List.getD_eq_getElem _ _ h2]

/-- Channel `n` with its last chunk written is done. -/
theorem Block.dmaDone_spec (b : Block) {n : Nat} (hn : n < b.hif.channels.length) :
    let t := b.dmaDone n
    t.get (F.HIF_DMAn_STATUS_STATE n) = 2 ∧ t.bit F.HIF_IRQ_STATUS_DMA_DONE = true ∧ t.dram = b.dram := by
  obtain ⟨hst, -, -, -, -, -⟩ := b.dmaEnd_spec (n := n) (st := 2) hn (by decide)
  rw [Block.dmaDone, Block.irq_eq]
  refine ⟨?_, Block.bit_set_one_self _ rfl rfl, rfl⟩
  rw [Block.get_set_apart _ _ rfl (Fld.apart_of_addr ?_), hst]
  simp only [F.HIF_DMAn_STATUS_STATE, F.HIF_IRQ_STATUS_DMA_DONE, R.HIF_DMAn_STATUS, R.HIF_IRQ_STATUS]
  omega

theorem data_last {b b1 : Block} {rx : Rx} {n a i len : Nat} {c : Chunk} {bs : List Byte} (hrec : b.receive rx = .accepted b1)
    (hn : n < 8) (hlen : b1.hif.channels.length = 8) (hresp : rx.msg.response = true) (herr : rx.msg.error = false)
    (hbody : rx.msg.body = .data a len i bs) (hm : b1.dmaMatch rx.msg.src rx.msg.seq = some (n, c)) (hch : b1.channel n = ⟨i + 1, i + 1, [c]⟩)
    (hi : c.index = i) (hbs : bs.length = b1.chunkLen n i) (hl : len = bs.length) (hp : b.passesBulk rx = none) :
    data rx b = ((b1.dramWrite 0 ((b1.dmaSpan n).base + 4096 * i) bs).setChannel n ⟨i + 1, i + 1, []⟩).dmaDone n := by
  have hhif : (b1.dramWrite 0 ((b1.dmaSpan n).base + 4096 * i) bs).hif = b1.hif := by
    rw [Block.dramWrite, Block.writeDram_hif, Block.dramUse_hif]
  have hfil : [c].filter (fun x => x.index != i) = [] := by simp [hi]
  have hgood : ¬(i ≠ c.index ∨ bs.length ≠ b1.chunkLen n i ∨ len ≠ bs.length) := by
    rw [hi, ← hbs, hl]
    simp
  rw [data, hp]
  dsimp only
  rw [Block.taking, hrec]
  dsimp only
  rw [hresp, if_pos rfl, hm]
  dsimp only
  rw [herr, if_neg (by decide), hbody]
  dsimp only
  rw [if_neg hgood, Block.channel_congr (congrArg Hif.channels hhif), hch]
  dsimp only
  rw [hfil]
  have hset := Block.channel_setChannel (b := b1.dramWrite 0 ((b1.dmaSpan n).base + 4096 * i) bs) (n := n) ⟨i + 1, i + 1, []⟩
    (by rw [hhif, hlen]; exact hn)
  generalize (b1.dramWrite 0 ((b1.dmaSpan n).base + 4096 * i) bs).setChannel n ⟨i + 1, i + 1, []⟩ = d at *
  have hfill : d.dmaFill n 1 = d := by
    rw [Block.dmaFill, hset, if_neg (by simp)]
  rw [hfill, hset]
  rfl

theorem Block.dmaError_spec (b : Block) {n code : Nat} (hn : n < 8) (hlen : b.hif.channels.length = 8) (hcode : code < 256) :
    let t := b.dmaError n code
    t.get (F.HIF_DMAn_STATUS_STATE n) = 3 ∧ t.get (F.HIF_DMAn_STATUS_ERR n) = code ∧ t.bit F.HIF_IRQ_STATUS_DMA_ERR = true
      ∧ t.clk = b.clk ∧ SameMem b t := by
  obtain ⟨hst, -, -, -, hm, hclk⟩ := b.dmaEnd_spec (n := n) (st := 3) (by rw [hlen]; exact hn) (by decide)
  rw [Block.dmaError, Block.irq_eq, Block.raise_eq]
  generalize b.dmaEnd n 3 = c at *
  have hkeep (g : Fld) (h : g.addr = R.HIF_DMAn_STATUS n) :
      (((c.set (F.HIF_DMAn_STATUS_ERR n) code).raiseAt (E.HIF_DMA (0x0100 + code)) noDetail).set F.HIF_IRQ_STATUS_DMA_ERR 1).get g
        = (c.set (F.HIF_DMAn_STATUS_ERR n) code).get g := by
    have hne : g.addr ≠ 0x10008 ∧ g.addr ≠ 0x17FF0 ∧ g.addr / 0x10000 ≠ 0x30 := by
      rw [h, R.HIF_DMAn_STATUS]
      omega
    obtain ⟨he, hi, h30⟩ := hne
    rw [Block.get_set_apart _ _ rfl (Fld.apart_of_addr hi),
      Block.get_raiseAt_apart _ _ rfl rfl (Fld.apart_of_addr he) (Fld.apart_of_addr hi) h30]
  refine ⟨?_, ?_, Block.bit_set_one_self _ rfl rfl, ?_, ?_⟩
  · rw [hkeep _ rfl, Block.get_set_apart _ _ rfl (dmaState_apart_err n), hst]
  · rw [hkeep _ rfl, Block.get_set_self _ _ rfl]
    exact Nat.mod_eq_of_lt hcode
  · rw [Block.set_clk, Block.raiseAt_clk, Block.set_clk, hclk]
  · exact hm.trans (sameMem_of_eq (by rw [Block.set_dram, Block.raiseAt_dram, Block.set_dram])
      (by rw [Block.set_qdr, Block.raiseAt_qdr, Block.set_qdr]))

/-- Settles O20. -/
theorem bulkChannels : Obligations.BulkChannels := by
  unfold Obligations.BulkChannels
  refine ⟨fun b p n v hr hn hlen hg hs ha hb hin hc hl => ?_, fun b p n v hr hn hlen hg hs ha => ?_,
    fun b b1 rx n a i len c bs hr hrec hn hlen hresp herr hbody hm hch hi hbs hlen' hp => ?_,
    fun b n i k hr hn hlen hk => ⟨fun h3 => ?_, fun h3 => ?_⟩⟩
  · obtain ⟨h1, h0, hch, hlen'⟩ := b.dmaBegun_spec (ceilDiv (b.dmaSpan n).len 4096) (by rw [hlen]; exact hn)
    have hcmd := dmaCmd_start hn hs ha hb hin hc hl
    generalize b.dmaBegun n (ceilDiv (b.dmaSpan n).len 4096) = d at *
    obtain ⟨hk, hnext⟩ := Block.dmaFill_spec hn 8 d (hlen'.trans hlen)
      (by rw [hch]; exact ⟨Nat.zero_le _, rfl, fun x hx => absurd hx (List.not_mem_nil)⟩) (by rw [hch])
    rw [hch] at hnext
    refine gives_of_writing (f := dmaCmd n v.toNat) hr hg (fun _ => rfl) ?_
    rw [hcmd]
    exact ⟨hk.1.trans h1, hk.2.1.trans h0, by rw [Block.channel_settle, hnext, Nat.zero_add]⟩
  · exact gives_of_writing (f := dmaCmd n v.toNat) hr hg (fun _ => rfl) (dmaAbort_spec hn hlen hs ha)
  · have hd := data_last hrec hn hlen hresp herr hbody hm hch hi hbs hlen' hp
    have hbytes := b1.dramBytes_dramWrite 0 ((b1.dmaSpan n).base + 4096 * i) bs
    have hother := b1.dramByte_dramWrite 0 bs ((b1.dmaSpan n).base + 4096 * i)
    have hhif : (b1.dramWrite 0 ((b1.dmaSpan n).base + 4096 * i) bs).hif = b1.hif := by
      rw [Block.dramWrite, Block.writeDram_hif, Block.dramUse_hif]
    generalize b1.dramWrite 0 ((b1.dmaSpan n).base + 4096 * i) bs = w at *
    obtain ⟨h2, hirq, hdram⟩ := (w.setChannel n ⟨i + 1, i + 1, []⟩).dmaDone_spec (n := n)
      (by rw [Block.setChannel_length, hhif, hlen]; exact hn)
    rw [← hd] at h2 hirq hdram
    refine gives_of_done (t := data rx b) hr (fun _ => rfl) ⟨h2, hirq, ?_, fun x hx => ?_⟩
    · refine Eq.trans ?_ hbytes
      rw [Block.dramBytes, Block.dramBytes]
      refine List.map_congr_left fun j _ => ?_
      rw [Block.dramByte, Block.settle_dram, hdram]
      rfl
    · refine Eq.trans ?_ ((hother x).trans (if_neg (by omega)))
      rw [Block.dramByte, Block.settle_dram, hdram]
      rfl
  · obtain ⟨hs, he, hirq, hclk, hm⟩ := (b.untilClk k.due).dmaError_spec (n := n) (code := 0x30) hn hlen (by decide)
    have heq : dmaChunkTimeout n i b = (b.untilClk k.due).dmaError n 0x30 := by
      rw [dmaChunkTimeout, hk]
      exact if_pos h3
    rw [← heq] at hs he hirq hclk hm
    exact gives_of_done (t := dmaChunkTimeout n i b) hr (fun _ => rfl) ⟨hs, he, hirq, hclk.trans (b.untilClk_clk k.due), hm⟩
  · obtain ⟨hkept, seq, hch⟩ := (b.untilClk k.due).dmaAsk_spec (n := n) i (k.tries + 1) hn hlen
    have heq : dmaChunkTimeout n i b = (b.untilClk k.due).dmaAsk n i (k.tries + 1) := by
      rw [dmaChunkTimeout, hk]
      exact if_neg (by omega)
    rw [← heq] at hkept hch
    have hclk : (dmaChunkTimeout n i b).clk = (b.untilClk k.due).clk := hkept.2.2.2
    refine gives_of_done (t := dmaChunkTimeout n i b) hr (fun _ => rfl) ⟨⟨⟨i, seq, k.tries + 1, (b.untilClk k.due).clk + 10000000⟩, ?_, rfl, rfl, ?_⟩, ?_⟩
    · rw [Block.channel_settle, hch]
      exact List.mem_append_right _ (List.mem_singleton.mpr rfl)
    · rw [Block.settle_clk, hclk]
    · rw [Block.settle_clk, hclk, Block.untilClk_clk]

end Sys2Proof.Machine
end

section
/-!
PROOFS of chapter 3: messages that are queued in a ring or forwarded.
-/

namespace Sys2Proof.Machine

/-! ### A ring and its queue -/

theorem Block.ring_node (b : Block) (n : Nat) : (b.ring n).node = n := by
  rw [Block.ring]
  cases h : b.hif.rings.find? (·.node == n) with
  | none => rfl
  | some r => exact beq_iff_eq.mp (List.find?_some (p := fun q : Ring => q.node == n) h)

theorem Block.ring_congr {b t : Block} (h : t.hif.rings = b.hif.rings) (n : Nat) : t.ring n = b.ring n := by rw [Block.ring, h, Block.ring]

theorem Block.ring_withRing (b : Block) (r : Ring) : (b.withRing r).ring r.node = r := by
  have hlow : (b.hif.rings.filter (fun q => decide (q.node < r.node))).find? (·.node == r.node) = none :=
    List.find?_eq_none.mpr fun q hq => by
      have := of_decide_eq_true (List.mem_filter.mp hq).2
      simp only [beq_iff_eq]
      omega
  rw [Block.ring, Block.withRing]
  dsimp only
  rw [List.append_assoc, List.find?_append, hlow, Option.none_or, List.singleton_append, List.find?_cons_of_pos (by simp), Option.getD_some]

theorem Block.ring_setRing (b : Block) (r : Ring) : (b.setRing r).ring r.node = r := by
  rw [Block.setRing_eq, Block.ring_congr (congrArg Hif.rings (Block.dramWrite_hif _ _ _ _)), Block.ring_withRing]

theorem Block.requests_setRing (b : Block) (r : Ring) : (b.setRing r).hif.requests = b.hif.requests := by
  rw [Block.setRing_eq, Block.dramWrite_hif]
  rfl

/-- A populated ring with a slot free takes the message. -/
def Block.taken (b : Block) (n : Nat) (m : Msg) : Block :=
  let c := b.dramWrite 0 (b.ringPool.base + 4096 * (b.ring n).inPages.headD 0 + 256 * ((b.ring n).inHead % (b.ring n).slots)) m.slotBytes
  (c.setRing { b.ring n with inQ := (b.ring n).inQ ++ [m], inHead := ((b.ring n).inHead + 1) % 2 ^ 32, moved := c.clk }).irq
    F.HIF_IRQ_STATUS_RX_AVAIL

theorem Block.queueIn_taken {b c : Block} {n : Nat} (m : Msg) (hn : nodeReserved n = false) (ha : n ≠ nodeAll)
    (hp : (b.readRing n).populate n = some c) (hq : (c.ring n).inQ.length < (c.ring n).slots) : b.queueIn n m = c.taken n m := by
  have hgo : ¬((nodeReserved n || n == nodeAll) = true) := by
    rw [hn, beq_eq_false_iff_ne.mpr ha]
    decide
  rw [Block.queueIn, if_neg hgo]
  dsimp only
  rw [hp]
  dsimp only
  rw [if_pos hq]
  rfl

theorem Block.taken_spec (b : Block) (n : Nat) (m : Msg) :
    let t := b.taken n m
    (t.ring n).inQ = (b.ring n).inQ ++ [m] ∧ t.bit F.HIF_IRQ_STATUS_RX_AVAIL = true ∧ t.hif.requests = b.hif.requests := by
  unfold Block.taken
  have hreq := Block.dramWrite_hif b 0 (b.ringPool.base + 4096 * (b.ring n).inPages.headD 0 + 256 * ((b.ring n).inHead % (b.ring n).slots)) m.slotBytes
  generalize b.dramWrite 0 (b.ringPool.base + 4096 * (b.ring n).inPages.headD 0 + 256 * ((b.ring n).inHead % (b.ring n).slots)) m.slotBytes = c at *
  dsimp only
  generalize hr : ({ b.ring n with inQ := (b.ring n).inQ ++ [m], inHead := ((b.ring n).inHead + 1) % 2 ^ 32, moved := c.clk } : Ring) = r
  have hnode : r.node = n := by rw [← hr, Block.ring_node]
  have hring := c.ring_setRing r
  have hkeep := c.requests_setRing r
  rw [Block.irq_eq]
  generalize c.setRing r = d at *
  refine ⟨?_, Block.bit_set_one_self _ rfl rfl, by rw [Block.set_hif, hkeep, hreq]⟩
  rw [Block.ring_congr (congrArg Hif.rings (Block.set_hif _ _ _)), show d.ring n = r from hnode ▸ hring, ← hr]

/-! ### Requests beside the rings -/

/-- The requests of a block put in place. -/
def Block.withRequests (l : List Request) (b : Block) : Block := { b with hif.requests := l }

theorem Block.each_commutes {α : Type} {f : α → Block → Block} {g : Block → Block} (h : ∀ a c, f a (g c) = g (f a c)) :
    ∀ (l : List α) (b : Block), (g b).each l f = g (b.each l f)
  | [], _ => rfl
  | a :: l, b => by
    have hcons (c : Block) : c.each (a :: l) f = (f a c).each l f := by simp only [Block.each, List.foldl_cons]
    rw [hcons, hcons, h, Block.each_commutes h l]

section
variable (l : List Request)

theorem Block.dramUse_withRequests (k a n : Nat) (b : Block) : (b.withRequests l).dramUse k a n = (b.dramUse k a n).withRequests l := by
  have hone (i : Nat) (c : Block) : (c.withRequests l).dramRequest k (a / 256 + i) = (c.dramRequest k (a / 256 + i)).withRequests l := by
    rw [Block.dramRequest, Block.dramRequest, apply_ite (Block.withRequests l)]
    rfl
  rw [Block.dramUse, Block.dramUse, apply_ite (Block.withRequests l), ← Block.each_commutes (g := Block.withRequests l) hone]
  rfl

theorem Block.writeDram_withRequests (b : Block) (a : Nat) (bs : List Byte) :
    (b.withRequests l).writeDram a bs = (b.writeDram a bs).withRequests l := by
  induction bs generalizing b a with
  | nil => rfl
  | cons v r ih => exact ih (b.setDram a v) (a + 1)

theorem Block.dramWrite_withRequests (b : Block) (k a : Nat) (bs : List Byte) :
    (b.withRequests l).dramWrite k a bs = (b.dramWrite k a bs).withRequests l := by
  rw [Block.dramWrite, Block.dramUse_withRequests, Block.writeDram_withRequests, Block.dramWrite]

theorem Block.setRing_withRequests (b : Block) (r : Ring) : (b.withRequests l).setRing r = (b.setRing r).withRequests l := by
  rw [Block.setRing_eq, Block.setRing_eq]
  exact (b.withRing r).dramWrite_withRequests l 0 (64 * r.node) (r.descriptor b.ringPool.base b.clk)

/-- The newest entry shows in FLT_STATUS where no later code waits. -/
def Block.entryShown (b : Block) (k : Nat) (e : FltEntry) : Block := if k = 0 then b.set F.FLT_STATUS_LAST_CODE e.code else b

theorem Block.entryShown_withRequests (b : Block) (k : Nat) (e : FltEntry) :
    (b.withRequests l).entryShown k e = (b.entryShown k e).withRequests l := by
  rw [Block.entryShown, Block.entryShown, apply_ite (Block.withRequests l)]
  rfl

/-- An entry in its place in the queue. -/
def Block.entryQueued (b : Block) (e : FltEntry) : Block :=
  let k := laterCodes e b.flt.queue
  { b with flt.queue := b.flt.queue.take (b.flt.queue.length - k) ++ e :: b.flt.queue.drop (b.flt.queue.length - k) }

/-- An entry that finds the queue full is lost. -/
def Block.entryLost (b : Block) : Block := { b with flt.lost := b.flt.lost + 1 }.countSat (F.FLT_CNT_Ei 0) 1

/-- The counts of an accepted entry. -/
def Block.entryCounted (b : Block) : Block :=
  (b.countSat F.FLT_SINCE_RESET_COUNT 1).set F.FLT_STATUS_PENDING (b.countSat F.FLT_SINCE_RESET_COUNT 1).flt.queue.length

theorem Block.acceptEntry_eq (b : Block) (e : FltEntry) : b.acceptEntry e =
    if b.flt.queue.length < 64 then ((b.entryQueued e).entryShown (laterCodes e b.flt.queue) e).entryCounted
    else if b.entryLost.bit F.FLT_ERR_OVERFLOW then b.entryLost else (b.entryLost.set F.FLT_ERR_OVERFLOW 1).set F.FLT_IRQ_STATUS_ERR 1 := rfl

theorem Block.acceptEntry_withRequests (b : Block) (e : FltEntry) :
    (b.withRequests l).acceptEntry e = (b.acceptEntry e).withRequests l := by
  have hq : (b.withRequests l).entryQueued e = (b.entryQueued e).withRequests l := rfl
  have hc (c : Block) : (c.withRequests l).entryCounted = c.entryCounted.withRequests l := rfl
  rw [Block.acceptEntry_eq, Block.acceptEntry_eq, hq, Block.entryShown_withRequests, hc, apply_ite (Block.withRequests l),
    apply_ite (Block.withRequests l)]
  rfl

theorem Block.submit_withRequests (b : Block) (code d : Nat) : (b.withRequests l).submit code d = (b.submit code d).withRequests l := by
  have he : (b.withRequests l).fltEntry code d = b.fltEntry code d := rfl
  rw [Block.submit, Block.submit, he, Block.acceptEntry_withRequests, apply_ite (Block.withRequests l)]
  rfl

/-- The pages of ring `n` are lost to the pool. -/
def Block.pagesLost (b : Block) (n : Nat) : Block :=
  { b with hif.lostPages := b.hif.lostPages ++ (b.ring n).inPages ++ (b.ring n).outPages }

/-- Ring `n` cleared, its pages lost. -/
def Block.ringCleared (b : Block) (n : Nat) : Block := ((b.pagesLost n).setRing (Ring.empty n)).ringStatus

/-- May a failed check be recorded again? -/
def Block.checkDue (b : Block) : Bool :=
  match b.hif.ringCheckLast with
  | none => true
  | some t => t + 1000000000 ≤ b.clk

/-- A failed check is recorded. -/
def Block.checkTold (b : Block) : Block := { b with hif.ringCheckLast := some b.clk }.submit 0x0123 noDetail

theorem Block.ringCheckFailed_eq (b : Block) (n : Nat) :
    b.ringCheckFailed n = if (b.ringCleared n).checkDue then (b.ringCleared n).checkTold else b.ringCleared n := by
  rw [Block.ringCheckFailed, ← Block.pagesLost, ← Block.ringCleared]
  generalize b.ringCleared n = c
  rw [Block.checkDue]
  cases c.hif.ringCheckLast <;> rfl

theorem Block.ringCleared_withRequests (b : Block) (n : Nat) : (b.withRequests l).ringCleared n = (b.ringCleared n).withRequests l := by
  have hpages : (b.withRequests l).pagesLost n = (b.pagesLost n).withRequests l := rfl
  have hstatus (c : Block) : (c.withRequests l).ringStatus = c.ringStatus.withRequests l := rfl
  rw [Block.ringCleared, hpages, Block.setRing_withRequests, hstatus, Block.ringCleared]

theorem Block.ringCheckFailed_withRequests (b : Block) (n : Nat) :
    (b.withRequests l).ringCheckFailed n = (b.ringCheckFailed n).withRequests l := by
  rw [Block.ringCheckFailed_eq, Block.ringCheckFailed_eq, Block.ringCleared_withRequests]
  generalize b.ringCleared n = c
  have htold : (c.withRequests l).checkTold = c.checkTold.withRequests l :=
    Block.submit_withRequests l { c with hif.ringCheckLast := some c.clk } 0x0123 noDetail
  rw [htold, apply_ite (Block.withRequests l)]
  rfl

theorem Block.readRing_withRequests (b : Block) (n : Nat) : (b.withRequests l).readRing n = (b.readRing n).withRequests l := by
  rw [Block.readRing, Block.readRing, Block.dramUse_withRequests, Block.ringCheckFailed_withRequests, apply_ite (Block.withRequests l)]
  rfl

theorem Block.populate_withRequests {b c : Block} {n : Nat} (h : b.populate n = some c) :
    (b.withRequests l).populate n = some (c.withRequests l) := by
  have hstatus (c : Block) : (c.withRequests l).ringStatus = c.ringStatus.withRequests l := rfl
  rw [Block.populate] at h ⊢
  dsimp only at h ⊢
  rw [show (b.withRequests l).ring n = b.ring n from rfl, show (b.withRequests l).usedPages = b.usedPages from rfl,
    show (b.withRequests l).clk = b.clk from rfl]
  rw [show (b.withRequests l).get F.HIF_RING_CTRL_DEPTH = b.get F.HIF_RING_CTRL_DEPTH from rfl]
  have hrun (u : List Nat) (p : Nat) : (b.withRequests l).freeRun u p = b.freeRun u p := rfl
  split at h
  · next hpop => rw [if_pos hpop, Option.some.inj h]
  · next hpop =>
    rw [if_neg hpop, hrun]
    split at h
    · cases h
    · next i hi =>
      rw [hrun]
      split at h
      · cases h
      · next o ho =>
        rw [Block.setRing_withRequests, hstatus, Option.some.inj h]

end

/-! ### What arrives for a ring -/

theorem toRing_taken {b b1 b2 : Block} {rx : Rx} (hrec : b.receive rx = .accepted b1) (hn : nodeReserved rx.msg.src = false)
    (ha : rx.msg.src ≠ nodeAll) (hp : (b1.readRing rx.msg.src).populate rx.msg.src = some b2)
    (hq : (b2.ring rx.msg.src).inQ.length < (b2.ring rx.msg.src).slots) : toRing rx b = b2.taken rx.msg.src rx.msg := by
  rw [toRing, Block.taking, hrec]
  exact Block.queueIn_taken rx.msg hn ha hp hq

/-- The requests that a response answers note its source. -/
def Block.answered (b : Block) (rx : Rx) : List Request :=
  b.hif.requests.map (fun q => if b.answers rx q then { q with from' := q.from' ++ [rx.msg.src] } else q)

theorem Block.answered_from {b : Block} {rx : Rx} {q : Request} (hq : q ∈ b.answered rx) (ha : b.answers rx q = true) :
    rx.msg.src ∈ q.from' := by
  obtain ⟨p, -, hp⟩ := List.mem_map.mp hq
  by_cases h : b.answers rx p = true
  · rw [if_pos h] at hp
    rw [← hp]
    exact List.mem_append_right _ (List.mem_singleton.mpr rfl)
  · rw [if_neg h] at hp
    exact absurd (hp ▸ ha) h

theorem messageResponse_taken {b b1 b2 : Block} {rx : Rx} {r : Request} (hrec : b.receive rx = .accepted b1)
    (hn : nodeReserved rx.msg.src = false) (ha : rx.msg.src ≠ nodeAll) (hp : (b1.readRing rx.msg.src).populate rx.msg.src = some b2)
    (hq : (b2.ring rx.msg.src).inQ.length < (b2.ring rx.msg.src).slots) (hresp : rx.msg.response = true) (ht : rx.msg.type ≠ 0x04)
    (hf : b1.hif.requests.find? (b1.answers rx) = some r) (hnew : rx.msg.src ∉ r.from') :
    messageResponse rx b = (b2.withRequests (b1.answered rx)).taken rx.msg.src rx.msg := by
  have hpop := Block.populate_withRequests (b1.answered rx) hp
  rw [← Block.readRing_withRequests] at hpop
  have hgo : ¬((!rx.msg.response || rx.msg.type == 0x04) = true) := by
    rw [hresp, beq_eq_false_iff_ne.mpr ht]
    decide
  rw [messageResponse, if_neg hgo, Block.taking, hrec]
  dsimp only
  rw [hf]
  dsimp only
  rw [if_neg (by rw [List.contains_iff_mem]; exact hnew)]
  exact Block.queueIn_taken (b := b1.withRequests (b1.answered rx)) rx.msg hn ha hpop hq

/-! ### What is for another node -/

theorem Block.learnIncarn_eq (b : Block) (m : Msg) : ∃ k, b.learnIncarn m = { b with lnk.incarn := k } := by
  rw [Block.learnIncarn]
  split
  · split
    · exact ⟨_, rfl⟩
    · exact ⟨b.lnk.incarn, rfl⟩
  · exact ⟨b.lnk.incarn, rfl⟩

/-- Port `p` notes what passes. -/
def Block.passes (b : Block) (p : Nat) (m : Msg) : Block :=
  b.onLnk p (fun q => { q with passed := if m.response then q.passed else (m.src, m.seq) :: q.passed.filter (·.1 != m.src) })

theorem Block.relayTo_open {b : Block} {p : Nat} (v : Via) (m : Msg) (hs : b.seqRepeats p m = false)
    (hup : b.bit (F.LNKn_STATUS_SESSION_UP p) = true) (hc : b.carries p = true) :
    b.relayTo v p m = ((b.passes p m).depart (.lnk p) m).countRelay v p true := by
  rw [Block.relayTo, hs]
  dsimp only
  rw [if_neg (by decide : ¬(false = true)), hup, hc]
  rfl

/-- The count of a relayed frame leaves what is below the ports, memory and what has left. -/
theorem Block.countRelay_relayed (b : Block) (v : Via) (o : Nat) :
    let t := b.countRelay v o true
    RegsOnly b t ∧ ∀ g : Fld, g.addr < 0x100000 → t.get g = b.get g := by
  cases v with
  | lnk p =>
    obtain ⟨he, -, hg, -⟩ := b.countPair_spec (lo := F.LNKn_CNT_Ti_LO p 4) (hi := F.LNKn_CNT_Ti_HI p 4) 1 rfl rfl rfl rfl
      (by rw [lnkTrafficLo_addr, lnkTrafficHi_addr, R.LNKn_CNT_Ti_LO, R.LNKn_CNT_Ti_HI]; omega)
    refine ⟨he, fun g h => hg g ?_ ?_⟩
    · rw [lnkTrafficLo_addr, R.LNKn_CNT_Ti_LO]
      omega
    · rw [lnkTrafficHi_addr, R.LNKn_CNT_Ti_HI]
      omega
  | udp n a => exact ⟨rfl, fun _ _ => rfl⟩
  | loopback => exact ⟨rfl, fun _ _ => rfl⟩

/-- A message leaves by a Lysrov port. -/
theorem Block.depart_lnk (b : Block) (p : Nat) (m : Msg) :
    let t := b.depart (.lnk p) m
    (∃ w, t.out = .msg (.lnk p) m w :: b.out) ∧ SameMem b t ∧ ∀ g : Fld, g.addr < 0x100000 → t.get g = b.get g := by
  obtain ⟨hr, -, hg⟩ := b.countCells_spec p 0 (msgCells m)
  have hout : (b.countCells p 0 (msgCells m)).out = b.out := by rw [hr]
  rw [Block.depart]
  dsimp only
  generalize b.countCells p 0 (msgCells m) = c at *
  refine ⟨⟨b.wire (.lnk p) m, by rw [Block.emit, hout]⟩, hr.sameMem.trans (sameMem_of_eq (Block.emit_dram _ _) (Block.emit_qdr _ _)),
    fun g h => hg g ?_ ?_⟩
  · rw [R.LNKn_CNT_Ti_LO]
    omega
  · rw [R.LNKn_CNT_Ti_HI]
    omega

theorem Block.relayTo_spec {b : Block} {p : Nat} (v : Via) (m : Msg) (hs : b.seqRepeats p m = false)
    (hup : b.bit (F.LNKn_STATUS_SESSION_UP p) = true) (hc : b.carries p = true) :
    let t := b.relayTo v p m
    t.get F.HIF_DROP_DEST = b.get F.HIF_DROP_DEST ∧ SameMem b t ∧ ∃ w, t.out = .msg (.lnk p) m w :: b.out := by
  have hpm : SameMem b (b.passes p m) := .refl b
  have hpo : (b.passes p m).out = b.out := rfl
  have hpg : (b.passes p m).get F.HIF_DROP_DEST = b.get F.HIF_DROP_DEST := rfl
  rw [Block.relayTo_open v m hs hup hc]
  generalize b.passes p m = c at *
  obtain ⟨⟨w, dw⟩, dm, dg⟩ := c.depart_lnk p m
  generalize c.depart (.lnk p) m = d at *
  obtain ⟨er, eg⟩ := d.countRelay_relayed v p
  have heo : (d.countRelay v p true).out = d.out := by rw [er]
  exact ⟨(eg _ (by decide)).trans ((dg _ (by decide)).trans hpg), (hpm.trans dm).trans er.sameMem, w, by rw [heo, dw, hpo]⟩

theorem messageForward_spec {b b1 : Block} {rx : Rx} {p : Nat} (hc : b.consumes rx.msg = false) (hp : b.passesBulk rx = none)
    (hl : b.letIn rx = .accepted b1) (hr : b1.route rx.msg.dest false = .out (.lnk p)) (hup : b1.bit (F.LNKn_STATUS_SESSION_UP p) = true)
    (hca : b1.carries p = true) (hs : b1.seqRepeats p rx.msg = false) :
    let t := messageForward rx b
    t.get F.HIF_DROP_DEST = b1.get F.HIF_DROP_DEST ∧ SameMem b1 t ∧ ∃ w, t.out = .msg (.lnk p) rx.msg w :: b1.out := by
  obtain ⟨k, hk⟩ := b1.learnIncarn_eq rx.msg
  have heq : messageForward rx b = (b1.learnIncarn rx.msg).relayTo rx.via p rx.msg := by
    rw [messageForward, if_neg (by rw [hc]; decide), hp]
    dsimp only
    rw [hl]
    dsimp only
    rw [hr]
    rfl
  rw [heq, hk]
  exact Block.relayTo_spec (b := { b1 with lnk.incarn := k }) rx.via rx.msg hs hup hca

/-- Settles O18. -/
theorem messagesAreQueuedOrForwarded : Obligations.MessagesAreQueuedOrForwarded := by
  unfold Obligations.MessagesAreQueuedOrForwarded
  refine ⟨fun b b1 b2 rx hr hrec hn ha hp hq => ?_, fun b b1 b2 rx r hr hrec hn ha hp hq hresp ht hf hnew => ?_,
    fun b b1 rx p hr hc hpb hl hro hup hca hs => gives_of_done (t := messageForward rx b) hr (fun _ => rfl)
      (messageForward_spec hc hpb hl hro hup hca hs)⟩
  · obtain ⟨ht, hirq, -⟩ := b2.taken_spec rx.msg.src rx.msg
    rw [← toRing_taken hrec hn ha hp hq] at ht hirq
    exact ⟨gives_of_done (t := toRing rx b) hr (fun _ => rfl) ⟨ht, hirq⟩, gives_of_done (t := toRing rx b) hr (fun _ => rfl) ⟨ht, hirq⟩⟩
  · obtain ⟨hin, hirq, hreq⟩ := (b2.withRequests (b1.answered rx)).taken_spec rx.msg.src rx.msg
    rw [← messageResponse_taken hrec hn ha hp hq hresp ht hf hnew] at hin hirq hreq
    refine gives_of_done (t := messageResponse rx b) hr (fun _ => rfl) ⟨hin, hirq, fun q hmem hans => ?_⟩
    have hq' : q ∈ (messageResponse rx b).hif.requests := hmem
    rw [hreq] at hq'
    exact Block.answered_from hq' hans

end Sys2Proof.Machine
end

section
/-!
PROOFS of chapter 3: the mailbox.
-/

namespace Sys2Proof.Machine

/-! ### Descriptors are sound (R89, R92) -/

theorem crcBit_lt {c : Nat} (h : c < 2 ^ 32) : crcBit c < 2 ^ 32 := by
  rw [crcBit]
  split
  · exact Nat.xor_lt_two_pow (by omega) (by decide)
  · omega

theorem crcRun_lt : ∀ (bs : List Byte) {c : Nat}, c < 2 ^ 32 → crcRun bs c < 2 ^ 32
  | [], _, h => h
  | v :: bs, c, h => by
    have hx : Nat.xor c v.toNat < 2 ^ 32 := Nat.xor_lt_two_pow h (v.isLt.trans (by decide))
    exact crcRun_lt bs (crcBit_lt (crcBit_lt (crcBit_lt (crcBit_lt (crcBit_lt (crcBit_lt (crcBit_lt (crcBit_lt hx))))))))

theorem crc32c_lt (bs : List Byte) : crc32c bs < 2 ^ 32 := Nat.xor_lt_two_pow (crcRun_lt bs (by decide)) (by decide)

/-- 60 bytes with their CRC behind them are a sound descriptor. -/
theorem ringSound_crc {bs : List Byte} (h : bs.length = 60) : ringSound (bs ++ leBytes 4 (crc32c bs)) = true := by
  have hd : (bs ++ leBytes 4 (crc32c bs)).drop 60 = leBytes 4 (crc32c bs) := by rw [← h, List.drop_left]
  have ht : (bs ++ leBytes 4 (crc32c bs)).take 60 = bs := by rw [← h, List.take_left]
  have hn : crc32c bs % 256 ^ 4 = crc32c bs := Nat.mod_eq_of_lt (crc32c_lt bs)
  rw [ringSound, hd, ht, leNat_leBytes, hn, beq_self_eq_true, Bool.or_true]

theorem Ring.descriptor_sound (r : Ring) (pool clk : Nat) :
    (r.descriptor pool clk).length = 64 ∧ ringSound (r.descriptor pool clk) = true := by
  refine ⟨?_, ringSound_crc ?_⟩ <;> simp [Ring.descriptor, length_leBytes]

/-! ### Other rings -/

theorem Block.ring_withRing_other (b : Block) {r : Ring} {n : Nat} (h : n ≠ r.node) : (b.withRing r).ring n = b.ring n := by
  have hone : [r].find? (·.node == n) = none := List.find?_eq_none.mpr fun q hq => by
    rw [List.mem_singleton.mp hq, beq_iff_eq]
    exact fun e => h e.symm
  have hin (p : Ring → Bool) (hp : ∀ q : Ring, q.node = n → p q = true) :
      (b.hif.rings.filter p).find? (·.node == n) = b.hif.rings.find? (·.node == n) := by
    rw [List.find?_filter]
    refine congrArg (fun f => b.hif.rings.find? f) (funext fun q => ?_)
    by_cases hq : q.node = n
    · simp [hq, hp q hq]
    · simp [hq]
  have hout (p : Ring → Bool) (hp : ∀ q : Ring, q.node = n → p q = false) : (b.hif.rings.filter p).find? (·.node == n) = none :=
    List.find?_eq_none.mpr fun q hq e => by
      have := (List.mem_filter.mp hq).2
      rw [hp q (beq_iff_eq.mp e)] at this
      exact absurd this (by decide)
  rw [Block.ring, Block.withRing, Block.ring]
  dsimp only
  rw [List.find?_append, List.find?_append, hone, Option.or_none]
  rcases Nat.lt_or_gt_of_ne h with hl | hg
  · rw [hin _ fun q hq => decide_eq_true (by omega), hout _ fun q hq => decide_eq_false (by omega), Option.or_none]
  · rw [hout _ fun q hq => decide_eq_false (by omega), hin _ fun q hq => decide_eq_true (by omega), Option.none_or]

/-- Ring `n` as HIF holds it and the bytes of its descriptor. -/
def RingKept (n : Nat) (b t : Block) : Prop := t.ring n = b.ring n ∧ t.ringBytes n = b.ringBytes n

theorem RingKept.trans {n : Nat} {b c t : Block} (h : RingKept n b c) (k : RingKept n c t) : RingKept n b t := ⟨k.1.trans h.1, k.2.trans h.2⟩

theorem ringKept_of_eq {n : Nat} {b t : Block} (hr : t.hif.rings = b.hif.rings) (hd : t.dram = b.dram) : RingKept n b t := by
  refine ⟨Block.ring_congr hr n, ?_⟩
  rw [Block.ringBytes, Block.ringBytes, Block.dramBytes, Block.dramBytes]
  exact List.map_congr_left fun i _ => by rw [Block.dramByte, hd, Block.dramByte]

theorem ringKept_dramUse (n : Nat) (b : Block) (k a l : Nat) : RingKept n b (b.dramUse k a l) :=
  ringKept_of_eq (by rw [Block.dramUse_hif]) (Block.dramUse_dram _ _ _ _)

theorem ringKept_set (n : Nat) (b : Block) (f : Fld) (v : Nat) : RingKept n b (b.set f v) :=
  ringKept_of_eq (by rw [Block.set_hif]) (Block.set_dram b f v)

theorem ringKept_setBox (n : Nat) (b : Block) (p : Path) (m : Mailbox) : RingKept n b (b.setBox p m) := ⟨rfl, rfl⟩

theorem ringKept_ringStatus (n : Nat) (b : Block) : RingKept n b b.ringStatus := (ringKept_set n b _ _).trans (ringKept_set n _ _ _)

theorem ringKept_setRing {n : Nat} (b : Block) {r : Ring} (h : n ≠ r.node) : RingKept n b (b.setRing r) := by
  rw [Block.setRing_eq]
  refine ⟨?_, ?_⟩
  · rw [Block.ring_congr (congrArg Hif.rings (Block.dramWrite_hif _ _ _ _)), Block.ring_withRing_other b h]
  · have hl := (r.descriptor_sound b.ringPool.base b.clk).1
    generalize r.descriptor b.ringPool.base b.clk = bs at *
    rw [Block.ringBytes, Block.ringBytes, Block.dramBytes, Block.dramBytes]
    refine List.map_congr_left fun i hi => ?_
    have := List.mem_range.mp hi
    rw [Block.dramByte_dramWrite, if_neg (by omega)]
    rfl

theorem ringKept_submit (n : Nat) (b : Block) (code d : Nat) : RingKept n b (b.submit code d) := by
  have he : b.submit code d = { b with regs := (b.submit code d).regs, flt := (b.submit code d).flt } := by
    simp only [Block.submit, Block.acceptEntry]
    split_ifs <;> rfl
  exact ringKept_of_eq (by rw [he]) (by rw [he])

theorem ringKept_checkTold (n : Nat) (b : Block) : RingKept n b b.checkTold := by
  have hlast : RingKept n b { b with hif.ringCheckLast := some b.clk } := ⟨rfl, rfl⟩
  exact hlast.trans (ringKept_submit n _ _ _)

theorem ringKept_pagesLost (n k : Nat) (b : Block) : RingKept n b (b.pagesLost k) := ⟨rfl, rfl⟩

theorem ringKept_ringCleared {n k : Nat} (b : Block) (h : n ≠ k) : RingKept n b (b.ringCleared k) := by
  have hlost := ringKept_pagesLost n k b
  rw [Block.ringCleared]
  generalize b.pagesLost k = c at *
  have hset := ringKept_setRing c (r := Ring.empty k) h
  generalize c.setRing (Ring.empty k) = d at *
  exact (hlost.trans hset).trans (ringKept_ringStatus n d)

theorem ringKept_readRing {n k : Nat} (b : Block) (h : n ≠ k) : RingKept n b (b.readRing k) := by
  rw [Block.readRing]
  refine (ringKept_dramUse n b 0 (64 * k) 64).trans ?_
  generalize b.dramUse 0 (64 * k) 64 = c
  split
  · exact ⟨rfl, rfl⟩
  · have hset := ringKept_ringCleared c h
    rw [Block.ringCheckFailed_eq]
    generalize c.ringCleared k = d at *
    split
    · exact hset.trans (ringKept_checkTold n d)
    · exact hset

/-- A sound descriptor is read without an effect on its ring. -/
theorem Block.readRing_sound {b : Block} {n : Nat} (h : ringSound (b.ringBytes n) = true) : b.readRing n = b.dramUse 0 (64 * n) 64 := by
  rw [Block.readRing, (ringKept_dramUse n b 0 (64 * n) 64).2, if_pos h]

theorem ringKept_readRing_sound {n : Nat} {b : Block} (h : ringSound (b.ringBytes n) = true) (k : Nat) : RingKept n b (b.readRing k) := by
  by_cases hk : n = k
  · rw [← hk, Block.readRing_sound h]
    exact ringKept_dramUse n b _ _ _
  · exact ringKept_readRing b hk

theorem ringKept_readRings {n : Nat} {b : Block} (h : ringSound (b.ringBytes n) = true) (sel : Nat) : RingKept n b (b.readRings sel) := by
  rw [Block.readRings]
  split
  · have key := Block.each_rel (R := fun c t => ringSound (c.ringBytes n) = true → RingKept n c t) (f := fun k c => c.readRing k)
      (fun c _ => ⟨rfl, rfl⟩) (fun x y z hx hy hs => (hx hs).trans (hy (by rw [(hx hs).2]; exact hs)))
      (b.hif.rings.map (·.node)) b (fun k _ c hs => ringKept_readRing_sound hs k)
    exact key h
  · exact ringKept_readRing_sound h sel

/-- Presenting leaves a ring whose descriptor is sound. -/
theorem ringKept_present {n : Nat} {b : Block} (h : ringSound (b.ringBytes n) = true) (p : Path) : RingKept n b (b.present p) := by
  rw [Block.present]
  refine (ringKept_readRings h (b.get (F.HIF_RX_SEL_NODE.on p))).trans ?_
  generalize b.readRings (b.get (F.HIF_RX_SEL_NODE.on p)) = c
  dsimp only
  split
  · exact (((ringKept_setBox n c p _).trans (ringKept_set n _ _ _)).trans (ringKept_set n _ _ _)).trans (ringKept_set n _ _ _)
  · split
    · exact ⟨rfl, rfl⟩
    · exact ((((ringKept_setBox n c p _).trans (ringKept_set n _ _ _)).trans (ringKept_set n _ _ _)).trans (ringKept_set n _ _ _)).trans
        (ringKept_set n _ _ _)

theorem rxPop_spec {b : Block} {p : Path} {n v : Nat} {m : Msg} {l : List Msg} (hv : v % 2 = 1) (hp : (b.box p).presented = some (n, m))
    (hq : (b.ring n).inQ = m :: l) (hs : ringSound (b.ringBytes n) = true) :
    let t := rxPop p v b
    (t.ring n).inQ = l ∧ (t.ring n).inTail = ((b.ring n).inTail + 1) % 2 ^ 32 := by
  rw [rxPop, if_pos hv, hp]
  dsimp only
  rw [Block.readRing_sound hs]
  have hkept := ringKept_dramUse n b 0 (64 * n) 64
  generalize b.dramUse 0 (64 * n) 64 = c at *
  rw [hkept.1, hq, List.head?_cons, beq_self_eq_true, if_pos rfl, List.tail_cons]
  generalize hr : ({ b.ring n with inQ := l, inTail := ((b.ring n).inTail + 1) % 2 ^ 32, moved := c.clk } : Ring) = r
  have hnode : r.node = n := by rw [← hr, Block.ring_node]
  have hring : (c.setRing r).ring n = r := hnode ▸ c.ring_setRing r
  have hsound : ringSound ((c.setRing r).ringBytes n) = true := by
    obtain ⟨hl, hd⟩ := r.descriptor_sound c.ringPool.base c.clk
    have hb := (c.withRing r).dramBytes_dramWrite 0 (64 * r.node) (r.descriptor c.ringPool.base c.clk)
    rw [hl, hnode] at hb
    rw [Block.setRing_eq, hnode, Block.ringBytes, hb]
    exact hd
  generalize c.setRing r = d at *
  have hpres := ringKept_present hsound p
  rw [hpres.1, hring, ← hr]
  exact ⟨rfl, rfl⟩

/-! ### A path's mailbox -/

theorem pathIndex_lt (p : Path) : p.index < 4 := by cases p <;> decide

theorem Block.box_setBox {b : Block} (p : Path) (m : Mailbox) (h : b.hif.boxes.length = 4) : (b.setBox p m).box p = m := by
  have hl : p.index < (b.hif.boxes.set p.index m).length := by rw [List.length_set, h]; exact pathIndex_lt p
  rw [Block.box, Block.setBox, List.getD_eq_getElem _ _ hl, List.getElem_set_self]

theorem Block.box_congr {b t : Block} (h : t.hif.boxes = b.hif.boxes) (p : Path) : t.box p = b.box p := by rw [Block.box, h, Block.box]

theorem Block.box_set (b : Block) (f : Fld) (v : Nat) (p : Path) : (b.set f v).box p = b.box p :=
  Block.box_congr (congrArg Hif.boxes (Block.set_hif b f v)) p

/-- The registers that show the presented message `x` of ring `n`. -/
def Block.shows (b : Block) (p : Path) (n : Nat) (x : Msg) : Block :=
  ((((b.setBox p { b.box p with presented := some (n, x), ptr := 0, lastNode := n }).set (F.HIF_RX_INFO_VALID.on p) 1).set
    (F.HIF_RX_INFO_TYPE.on p) x.type).set (F.HIF_RX_INFO_LENGTH.on p) x.slotBytes.length).set (F.HIF_RX_SRC_NODE.on p) x.src

theorem Block.shows_spec (b : Block) (p : Path) (n : Nat) (x : Msg) (h : b.hif.boxes.length = 4) :
    let t := b.shows p n x
    (t.box p).presented = some (n, x) ∧ (t.box p).ptr = 0 ∧ t.bit (F.HIF_RX_INFO_VALID.on p) = true
      ∧ t.get (F.HIF_RX_INFO_TYPE.on p) = x.type % 256 ∧ SameMem b t := by
  have hsrc (f : Fld) (hf : f.addr = R.HIF_RX_INFO) : (f.on p).apart (F.HIF_RX_SRC_NODE.on p) = true := by
    refine Fld.apart_of_addr ?_
    simp only [Fld.on, hf, pathKey, F.HIF_RX_SRC_NODE, R.HIF_RX_SRC, R.HIF_RX_INFO]
    omega
  have hbox : (b.shows p n x).box p = { b.box p with presented := some (n, x), ptr := 0, lastNode := n } := by
    rw [Block.shows, Block.box_set, Block.box_set, Block.box_set, Block.box_set, Block.box_setBox p _ h]
  refine ⟨by rw [hbox], by rw [hbox], ?_, ?_, ?_⟩
  · rw [Block.shows, Block.bit_set_apart _ _ rfl (hsrc _ rfl), Block.bit_set_apart _ _ rfl (by cases p <;> rfl),
      Block.bit_set_apart _ _ rfl (by cases p <;> rfl)]
    exact Block.bit_set_one_self _ rfl rfl
  · rw [Block.shows, Block.get_set_apart _ _ rfl (hsrc _ rfl), Block.get_set_apart _ _ rfl (by cases p <;> rfl), Block.get_set_self _ _ rfl]
    rfl
  · exact sameMem_of_eq (by rw [Block.shows, Block.set_dram, Block.set_dram, Block.set_dram, Block.set_dram]; rfl)
      (by rw [Block.shows, Block.set_qdr, Block.set_qdr, Block.set_qdr, Block.set_qdr]; rfl)

/-- The selected ring's oldest message is presented. -/
theorem Block.present_sound {b : Block} {p : Path} {n : Nat} {x : Msg} {l : List Msg} (hn : b.get (F.HIF_RX_SEL_NODE.on p) = n)
    (ha : n ≠ nodeAll) (hq : (b.ring n).inQ = x :: l) (hs : ringSound (b.ringBytes n) = true) :
    b.present p = (b.dramUse 0 (64 * n) 64).shows p n x := by
  have hkept := ringKept_dramUse n b 0 (64 * n) 64
  have hget : (b.dramUse 0 (64 * n) 64).get (F.HIF_RX_SEL_NODE.on p) = n := by rw [Block.get_congr (Block.dramUse_regs _ _ _ _), hn]
  have hread : b.readRings (b.get (F.HIF_RX_SEL_NODE.on p)) = b.dramUse 0 (64 * n) 64 := by
    rw [hn, Block.readRings, if_neg ha, Block.readRing_sound hs]
  rw [Block.present, hread]
  generalize b.dramUse 0 (64 * n) 64 = c at *
  have hqc : (c.ring n).inQ = x :: l := by rw [hkept.1, hq]
  have hpick : c.pickRing (c.get (F.HIF_RX_SEL_NODE.on p)) (c.box p).lastNode = some (c.ring n) := by
    rw [hget, Block.pickRing, if_neg ha]
    dsimp only
    rw [hqc]
    rfl
  dsimp only
  rw [hpick]
  dsimp only
  rw [hqc, c.ring_node n]
  rfl

theorem rxSel_spec {b : Block} {p : Path} {v : Nat} {x : Msg} {l : List Msg} (hlen : b.hif.boxes.length = 4)
    (ha : F.HIF_RX_SEL_NODE.of v ≠ nodeAll) (hq : (b.ring (F.HIF_RX_SEL_NODE.of v)).inQ = x :: l)
    (hs : ringSound (b.ringBytes (F.HIF_RX_SEL_NODE.of v)) = true) :
    let t := rxSel p v b
    (t.box p).presented = some (F.HIF_RX_SEL_NODE.of v, x) ∧ (t.box p).ptr = 0 ∧ t.bit (F.HIF_RX_INFO_VALID.on p) = true
      ∧ t.get (F.HIF_RX_INFO_TYPE.on p) = x.type % 256 ∧ SameMem b t := by
  have hsel : (b.set (F.HIF_RX_SEL_NODE.on p) v).get (F.HIF_RX_SEL_NODE.on p) = F.HIF_RX_SEL_NODE.of v := by
    rw [Block.get_set_self _ _ rfl]
    show v % 2 ^ 18 = v / 2 ^ 0 % 2 ^ 18
    rw [pow_zero, Nat.div_one]
  have hkept : RingKept (F.HIF_RX_SEL_NODE.of v) b (b.set (F.HIF_RX_SEL_NODE.on p) v) :=
    ringKept_of_eq (by rw [Block.set_hif]) (Block.set_dram _ _ _)
  have hboxes : (b.set (F.HIF_RX_SEL_NODE.on p) v).hif.boxes = b.hif.boxes := by rw [Block.set_hif]
  have hm : SameMem b (b.set (F.HIF_RX_SEL_NODE.on p) v) := (regsOnly_set b _ v).sameMem
  rw [rxSel]
  generalize F.HIF_RX_SEL_NODE.of v = n at *
  generalize b.set (F.HIF_RX_SEL_NODE.on p) v = c at *
  rw [Block.present_sound hsel ha (hkept.1.symm ▸ hq) (hkept.2.symm ▸ hs)]
  have hu : SameMem c (c.dramUse 0 (64 * n) 64) := sameMem_of_eq (Block.dramUse_dram _ _ _ _) (Block.dramUse_qdr _ _ _ _)
  have hub : (c.dramUse 0 (64 * n) 64).hif = c.hif := Block.dramUse_hif _ _ _ _
  generalize c.dramUse 0 (64 * n) 64 = d at *
  obtain ⟨h1, h2, h3, h4, h5⟩ := d.shows_spec p n x (by rw [hub, hboxes, hlen])
  exact ⟨h1, h2, h3, h4, (hm.trans hu).trans h5⟩

/-! ### Data words -/

theorem rxDataRow : (accessRow R.HIF_RX_DATA 4).isSome = true ∧ baseOf R.HIF_RX_DATA = R.HIF_RX_DATA := by decide +kernel

theorem rxData_word {b : Block} {p : Path} {n : Nat} {x : Msg} (hp : (b.box p).presented = some (n, x))
    (hl : 4 * (b.box p).ptr < x.slotBytes.length) :
    rxData p b = (BitVec.ofNat 32 (leNat ((x.slotBytes.drop (4 * (b.box p).ptr)).take 4)), b.setBox p { b.box p with ptr := (b.box p).ptr + 1 }) := by
  rw [rxData]
  dsimp only
  rw [hp]
  dsimp only
  rw [if_pos hl]

theorem regRead_rxData {b : Block} {p : Path} (hg : b.gated R.HIF_RX_DATA = false) :
    regRead p R.HIF_RX_DATA 4 b = (rxData p b).2.emit (.read p R.HIF_RX_DATA (rxData p b).1) := by
  obtain ⟨hrow, hbase⟩ := rxDataRow
  obtain ⟨r, hr⟩ := Option.isSome_iff_exists.mp hrow
  rw [regRead, Block.readReg, hr]
  dsimp only
  rw [hbase, hg, if_neg (by decide), if_pos rfl]

theorem regRead_rxData_spec {b : Block} {p : Path} {n : Nat} {x : Msg} (hg : b.gated R.HIF_RX_DATA = false) (hlen : b.hif.boxes.length = 4)
    (hp : (b.box p).presented = some (n, x)) (hl : 4 * (b.box p).ptr < x.slotBytes.length) :
    let t := regRead p R.HIF_RX_DATA 4 b
    (t.box p).ptr = (b.box p).ptr + 1
      ∧ t.out = .read p R.HIF_RX_DATA (BitVec.ofNat 32 (leNat ((x.slotBytes.drop (4 * (b.box p).ptr)).take 4))) :: b.out
      ∧ SameWords [] b t ∧ SameMem b t := by
  rw [regRead_rxData hg, rxData_word hp hl]
  generalize BitVec.ofNat 32 (leNat ((x.slotBytes.drop (4 * (b.box p).ptr)).take 4)) = w
  have hbox := Block.box_setBox (b := b) p { b.box p with ptr := (b.box p).ptr + 1 } hlen
  have hw : SameWords [] b (b.setBox p { b.box p with ptr := (b.box p).ptr + 1 }) := .refl _ b
  have hm : SameMem b (b.setBox p { b.box p with ptr := (b.box p).ptr + 1 }) := .refl b
  have ho : (b.setBox p { b.box p with ptr := (b.box p).ptr + 1 }).out = b.out := rfl
  dsimp only
  generalize hc : b.setBox p { b.box p with ptr := (b.box p).ptr + 1 } = c at *
  have he : (c.emit (.read p R.HIF_RX_DATA w)).box p = c.box p := rfl
  refine ⟨by rw [he, hbox], by rw [Block.emit, ho], (sameWords_emit _ _ _ _).mpr hw, ?_⟩
  exact (sameMem_congr (Block.emit_dram _ _) (Block.emit_qdr _ _)).mpr hm

theorem txData_spec {b : Block} {p : Path} {v : Word} (hlen : b.hif.boxes.length = 4) (hs : (b.box p).stage.length < 56) :
    let t := txData p v b
    (t.box p).stage = (b.box p).stage ++ [v] ∧ t.get (F.HIF_TX_STATUS_WORDS.on p) = (b.box p).stage.length + 1
      ∧ SameWords [pathKey p R.HIF_TX_STATUS] b t ∧ SameMem b t := by
  have hbox := Block.box_setBox (b := b) p { b.box p with stage := (b.box p).stage ++ [v] } hlen
  have hw : SameWords [pathKey p R.HIF_TX_STATUS] b (b.setBox p { b.box p with stage := (b.box p).stage ++ [v] }) := .refl _ b
  have hm : SameMem b (b.setBox p { b.box p with stage := (b.box p).stage ++ [v] }) := .refl b
  rw [txData]
  dsimp only
  rw [if_pos hs]
  generalize b.setBox p { b.box p with stage := (b.box p).stage ++ [v] } = c at *
  refine ⟨by rw [Block.box_set, hbox], ?_, (sameWords_set (f := F.HIF_TX_STATUS_WORDS.on p) _ (List.mem_singleton.mpr rfl)).mpr hw,
    hm.trans (regsOnly_set c _ _).sameMem⟩
  rw [Block.get_set_self _ _ rfl]
  exact Nat.mod_eq_of_lt (show (b.box p).stage.length + 1 < 2 ^ 6 by omega)

end Sys2Proof.Machine
end

section
/-!
PROOFS of chapter 3: a message of the host's for the module itself, and what the mailbox statements say.
-/

namespace Sys2Proof.Machine

/-! ### A message for the module itself (R86, R94) -/

/-- The module's last number is `k`. -/
def Block.numbered (b : Block) (k : Nat) : Block := { b with hif.seq := k }

theorem Block.nextSeq_numbered {b : Block} (h : b.hif.seq + 1 < 2 ^ 32) : b.nextSeq = (b.hif.seq + 1, b.numbered (b.hif.seq + 1)) := by
  rw [Block.nextSeq, if_pos h, Block.numbered]

/-- The module's next message. -/
def Block.nextMsg (b : Block) (type dest : Nat) (body : Body) : Msg :=
  ⟨type, false, false, true, sealedLength body, dest, b.node, b.hif.seq + 1, body⟩

theorem Block.compose_numbered {b : Block} (type dest : Nat) (body : Body) (h : b.hif.seq + 1 < 2 ^ 32) :
    b.compose type dest body = (b.nextMsg type dest body, b.numbered (b.hif.seq + 1)) := by
  rw [Block.compose, Block.nextSeq_numbered h]
  rfl

theorem Block.route_self (b : Block) (o : Bool) : b.route 0 o = .here := by rw [Block.route, if_pos (.inl rfl)]

theorem Block.speaks_of_identity {b : Block} (type : Nat) (h : b.lnk.identityLost = false) : b.speaks type = true := by
  rw [Block.speaks, h]
  rfl

theorem Block.populate_populated {b : Block} {n : Nat} (h : (b.ring n).populated = true) : b.populate n = some b := by
  rw [Block.populate]
  dsimp only
  rw [if_pos h]

/-- A ring that is the same once populated is populated. -/
theorem Block.populated_of_populate {b c : Block} {n : Nat} (h : b.populate n = some c) (hr : b.ring n = c.ring n) :
    (b.ring n).populated = true := by
  rw [Block.populate] at h
  dsimp only at h
  split at h
  · next hp => exact hp
  · split at h
    · cases h
    · next i _ =>
      split at h
      · cases h
      · next o _ =>
        have hc := Option.some.inj h
        have hnode := b.ring_node n
        generalize hg : ({ b.ring n with populated := true, depth := b.get F.HIF_RING_CTRL_DEPTH, inPages := i, outPages := o, moved := b.clk } : Ring) = r at hc
        have hrn : r.node = n := by rw [← hg, hnode]
        have hring : (b.setRing r).ring n = r := hrn ▸ b.ring_setRing r
        have hkept := (ringKept_ringStatus n (b.setRing r)).1
        rw [hr, ← hc, hkept, hring, ← hg]

theorem Block.send_self {b : Block} (type : Nat) (body : Body) (hid : b.lnk.identityLost = false) (hseq : b.hif.seq + 1 < 2 ^ 32)
    (hp : (b.ring 0).populated = true) (hq : (b.ring 0).inQ.length < (b.ring 0).slots) (hs : ringSound (b.ringBytes 0) = true) :
    b.send type 0 body = (0, ((b.numbered (b.hif.seq + 1)).dramUse 0 0 64).taken 0 (b.nextMsg type 0 body)) := by
  have hkn : RingKept 0 b (b.numbered (b.hif.seq + 1)) := ⟨rfl, rfl⟩
  rw [Block.send, Block.speaks_of_identity type hid, if_neg (by decide), if_neg (by decide), Block.route_self, Block.compose_numbered type 0 body hseq]
  dsimp only
  generalize b.nextMsg type 0 body = m
  generalize b.numbered (b.hif.seq + 1) = c at *
  have hku := ringKept_dramUse 0 c 0 0 64
  have hpop : (c.populate 0).isNone = false := by
    rw [Block.populate_populated (by rw [hkn.1]; exact hp)]
    rfl
  have hread : c.readRing 0 = c.dramUse 0 0 64 := Block.readRing_sound (n := 0) (by rw [hkn.2]; exact hs)
  have hfull : ¬(((c.ring 0).populated && decide ((c.ring 0).slots ≤ (c.ring 0).inQ.length)) = true) := by
    rw [hkn.1, decide_eq_false (by omega), Bool.and_false]
    decide
  rw [hpop, if_neg (by decide), if_neg hfull]
  refine congrArg (Prod.mk 0) (Block.queueIn_taken m rfl (by decide) ?_ ?_)
  · rw [hread]
    exact Block.populate_populated (by rw [hku.1, hkn.1]; exact hp)
  · rw [hku.1, hkn.1]
    exact hq

/-- The mailbox as a command empties it. -/
def Block.stageEmptied (b : Block) (p : Path) : Block :=
  (b.setBox p { b.box p with stage := [], oversize := false }).set (F.HIF_TX_STATUS_WORDS.on p) 0

/-- What the staged words say. -/
def Mailbox.bytes (m : Mailbox) : List Byte := (m.stage.map (fun w => leBytes 4 w.toNat)).flatten

theorem txCmd_sends {b : Block} {p : Path} {v : Nat} (ho : (b.box p).oversize = false) (ht : 0x40 ≤ F.HIF_TX_CMD_TYPE.of v) :
    txCmd p v b = ((b.stageEmptied p).send (F.HIF_TX_CMD_TYPE.of v) (F.HIF_TX_CMD_DEST.of v) (.raw (b.box p).bytes)).2.set
      (F.HIF_TX_STATUS_RESULT.on p)
      ((b.stageEmptied p).send (F.HIF_TX_CMD_TYPE.of v) (F.HIF_TX_CMD_DEST.of v) (.raw (b.box p).bytes)).1 := by
  rw [txCmd]
  dsimp only
  rw [ho, if_neg (by decide), if_neg (by omega)]
  rfl

theorem sendBeside_txStatus {p : Path} {g : Fld} (h : g.addr = pathKey p R.HIF_TX_STATUS) : SendBeside g := by
  refine sendBeside_of_addr ?_ ?_ (.inr ?_)
  · rw [h, pathKey, R.HIF_TX_STATUS]
    omega
  · simp only [ringWords, List.mem_cons, List.not_mem_nil, or_false, not_or, h, pathKey, R.HIF_TX_STATUS, R.HIF_ERR, R.HIF_IRQ_STATUS,
      R.HIF_RING_STATUS, R.HIF_RING_POOL_USED, R.HIF_DROP_DEST, R.HIF_DROP_FULL, R.HIF_DROP_POOL]
    omega
  · simp only [sentOffsets, List.mem_cons, List.not_mem_nil, or_false, not_or, h, pathKey, R.HIF_TX_STATUS]
    omega

theorem txCmd_self {b b1 : Block} {p : Path} {v : Nat} (hlen : b.hif.boxes.length = 4) (ho : (b.box p).oversize = false)
    (ht : 0x40 ≤ F.HIF_TX_CMD_TYPE.of v) (hd : F.HIF_TX_CMD_DEST.of v = 0) (hseq : b.hif.seq + 1 < 2 ^ 32) (hp : b.populate 0 = some b1)
    (hr : b.ring 0 = b1.ring 0) (hq : (b.ring 0).inQ.length < (b.ring 0).slots) (hs : ringSound (b.ringBytes 0) = true)
    (hid : b.lnk.identityLost = false) :
    let t := txCmd p v b
    (t.box p).stage = [] ∧ t.get (F.HIF_TX_STATUS_WORDS.on p) = 0 ∧ t.get (F.HIF_TX_STATUS_RESULT.on p) = 0
      ∧ ∃ m : Msg, (t.ring 0).inQ = (b.ring 0).inQ ++ [m] ∧ m.type = F.HIF_TX_CMD_TYPE.of v ∧ m.seq = b.hif.seq + 1
        ∧ m.body = .raw (b.box p).bytes := by
  have hpop := Block.populated_of_populate hp hr
  have hbox : ((b.stageEmptied p).box p).stage = [] := by
    rw [Block.stageEmptied, Block.box_set, Block.box_setBox p _ hlen]
  have hwords : (b.stageEmptied p).get (F.HIF_TX_STATUS_WORDS.on p) = 0 := by
    rw [Block.stageEmptied, Block.get_set_self _ _ rfl]
    rfl
  have hkept : RingKept 0 b (b.stageEmptied p) := (ringKept_setBox 0 b p _).trans (ringKept_set 0 _ _ _)
  have hseq' : (b.stageEmptied p).hif.seq = b.hif.seq := by
    rw [Block.stageEmptied, Block.set_hif]
    rfl
  have hid' : (b.stageEmptied p).lnk.identityLost = false := by
    rw [Block.stageEmptied, Block.set_lnk]
    exact hid
  rw [txCmd_sends ho ht, hd]
  generalize (b.box p).bytes = bs
  generalize F.HIF_TX_CMD_TYPE.of v = type at *
  generalize b.stageEmptied p = c at *
  have hsend := Block.send_self type (.raw bs) hid' (by rw [hseq']; exact hseq) (by rw [hkept.1]; exact hpop) (by rw [hkept.1]; exact hq)
    (by rw [hkept.2]; exact hs)
  have hrel := sends_send c type 0 (.raw bs)
  have hkn : RingKept 0 c (c.numbered (c.hif.seq + 1)) := ⟨rfl, rfl⟩
  have htyp : (c.nextMsg type 0 (.raw bs)).type = type := rfl
  have hsq : (c.nextMsg type 0 (.raw bs)).seq = c.hif.seq + 1 := rfl
  have hbd : (c.nextMsg type 0 (.raw bs)).body = .raw bs := rfl
  rw [hsend] at hrel ⊢
  generalize c.nextMsg type 0 (.raw bs) = m at *
  have hku := ringKept_dramUse 0 (c.numbered (c.hif.seq + 1)) 0 0 64
  generalize (c.numbered (c.hif.seq + 1)).dramUse 0 0 64 = d at *
  obtain ⟨hin, -, -⟩ := d.taken_spec 0 m
  generalize d.taken 0 m = e at *
  dsimp only at hrel ⊢
  refine ⟨?_, ?_, ?_, m, ?_, htyp, by rw [hsq, hseq'], hbd⟩
  · rw [Block.box_set, Block.box_congr hrel.boxes, hbox]
  · rw [Block.get_set_apart _ _ rfl (by cases p <;> rfl), hrel.get (sendBeside_txStatus rfl), hwords]
  · rw [Block.get_set_self _ _ rfl]
    rfl
  · rw [(ringKept_set 0 e _ _).1, hin, hku.1, hkn.1, hkept.1]

/-- Settles O21. -/
theorem mailbox : Obligations.Mailbox := by
  unfold Obligations.Mailbox
  exact ⟨fun b p v m l hr hg hlen ha hq hs => gives_of_writing (f := rxSel p v.toNat) hr hg (fun _ => rfl) (rxSel_spec hlen ha hq hs),
    fun b p n m hr hg hlen hp hl => gives_of_done (t := regRead p R.HIF_RX_DATA 4 b) hr (fun _ => rfl) (regRead_rxData_spec hg hlen hp hl),
    fun b p n v m l hr hg hv hp hq hs => gives_of_writing (f := rxPop p v.toNat) hr hg (fun _ => rfl) (rxPop_spec hv hp hq hs),
    fun b p v hr hg hlen hs => gives_of_writing (f := txData p v) hr hg (fun _ => rfl) (txData_spec hlen hs),
    fun b b1 p v hr hg hlen ho ht hd hseq hp hring hq hs hid => gives_of_writing (f := txCmd p v.toNat) hr hg (fun _ => rfl)
      (txCmd_self hlen ho ht hd hseq hp hring hq hs hid)⟩

end Sys2Proof.Machine
end

section
/-!
PROOFS of chapter 04: partial reconfiguration and the transactions of a tile.
-/

namespace Sys2Proof.Machine

/-! ### Errors of CFG -/

/-- An error of CFG with its own bit. -/
def CfgErr (e : Err) : Prop :=
  e.fld.addr = R.CFG_ERR ∧ e.fld.ok = true ∧ e.fld.hi = e.fld.lo ∧ e.irq = F.CFG_IRQ_STATUS_ERR ∧ e.code < 2 ^ 16

/-- An error of CFG changes its bit, the interrupt and the fault log. -/
theorem Block.raiseCfg_spec (b : Block) {e : Err} (h : CfgErr e) :
    let t := b.raise e
    t.cfg = b.cfg ∧ t.bit e.fld = true
      ∧ (∀ g : Fld, g.addr ≠ R.CFG_ERR → g.addr ≠ R.CFG_IRQ_STATUS → g.addr / 0x10000 ≠ 0x30 → t.get g = b.get g)
      ∧ SameOutside [0x02, 0x30] b t ∧ SameMem b t ∧ (e.logged = false → SameOutside [0x02] b t) := by
  obtain ⟨ha, hok, hone, hi, -⟩ := h
  have hiok : e.irq.ok = true := by rw [hi]; rfl
  have hw : keyAddr e.fld.addr / 0x10000 = 0x02 := by rw [ha]; decide
  have hwi : keyAddr e.irq.addr / 0x10000 = 0x02 := by rw [hi]; decide
  rw [Block.raise_eq]
  refine ⟨b.raiseAt_cfg e _, ?_, fun g h1 h2 h3 => ?_, ?_, (sameMem_raiseAt _ _ _ _).mpr (.refl b), fun hl => ?_⟩
  · exact b.bit_raiseAt_self _ hok hone hiok (Fld.apart_of_addr (by rw [ha, hi]; decide)) (by rw [ha]; decide)
  · exact b.get_raiseAt_apart _ hok hiok (Fld.apart_of_addr (by rw [ha]; exact h1)) (Fld.apart_of_addr (by rw [hi]; exact h2)) h3
  · exact (sameOutside_raiseAt _ (by rw [hw]; decide) (by rw [hwi]; decide) (by decide)).mpr (.refl _ b)
  · exact (sameOutside_raiseAt_unlogged _ hl (by rw [hw]; decide) (by rw [hwi]; decide)).mpr (.refl _ b)

theorem cfgErr_busy : CfgErr E.CFG_BUSY := ⟨rfl, rfl, rfl, rfl, by decide⟩
theorem cfgErr_missed : CfgErr E.CFG_MISSED := ⟨rfl, rfl, rfl, rfl, by decide⟩
theorem cfgErr_late : CfgErr E.CFG_LATE_COMMIT := ⟨rfl, rfl, rfl, rfl, by decide⟩

/-- What fails in a partial is an error of CFG. -/
theorem cfgErr_checkPartialHead {f : Fuses} {base : Nat} {i : Image} {e : Err} (h : checkPartialHead f base i = some e) : CfgErr e := by
  rw [checkPartialHead] at h
  split_ifs at h <;> rw [← Option.some.inj h] <;> exact ⟨rfl, rfl, rfl, rfl, by decide⟩

theorem cfgErr_checkPartial {f : Fuses} {base : Nat} {p : Bool} {i : Image} {e : Err} (h : checkPartial f base p i = some e) : CfgErr e := by
  rw [checkPartial] at h
  split at h
  · next hh => exact cfgErr_checkPartialHead (hh.trans h)
  · split_ifs at h <;> rw [← Option.some.inj h] <;> exact ⟨rfl, rfl, rfl, rfl, by decide⟩

/-! ### CFG_PR_STATUS -/

theorem Block.prState_prFail (b : Block) {code : Nat} {e : Err} (h : CfgErr e) (hcode : code < 2 ^ 16) :
    let t := b.prFail code (some e)
    t.prState = prError ∧ t.get F.CFG_PR_STATUS_CODE = code ∧ t.bit e.fld = true ∧ t.bit F.CFG_IRQ_STATUS_PR_ERROR = true
      ∧ t.cfg = b.cfg ∧ SameOutside [0x02, 0x30] b t ∧ SameMem b t ∧ (e.logged = false → SameOutside [0x02] b t) := by
  obtain ⟨rc, rb, rg, ro, rm, ru⟩ := b.raiseCfg_spec h
  rw [Block.prFail]
  dsimp only
  generalize b.raise e = c at *
  have hne : e.fld.addr ≠ R.CFG_PR_STATUS ∧ e.fld.addr ≠ R.CFG_IRQ_STATUS := by
    rw [h.1]
    decide
  rw [Block.irq_eq]
  refine ⟨?_, ?_, ?_, Block.bit_set_one_self _ rfl rfl, by rw [Block.set_cfg, Block.set_cfg, Block.set_cfg, rc], ?_, ?_, fun hl => ?_⟩
  · rw [Block.prState, Block.get_set_apart _ _ rfl rfl, Block.get_set_apart _ _ rfl rfl, Block.get_set_self _ _ rfl]
    rfl
  · rw [Block.get_set_apart _ _ rfl rfl, Block.get_set_self _ _ rfl]
    exact Nat.mod_eq_of_lt hcode
  · rw [Block.bit_set_apart _ _ rfl (Fld.apart_of_addr hne.2), Block.bit_set_apart _ _ rfl (Fld.apart_of_addr hne.1),
      Block.bit_set_apart _ _ rfl (Fld.apart_of_addr hne.1), rb]
  · rw [sameOutside_set _ (by decide), sameOutside_set _ (by decide), sameOutside_set _ (by decide)]
    exact ro
  · exact rm.trans (((regsOnly_set c _ _).trans (regsOnly_set _ _ _)).trans (regsOnly_set _ _ _)).sameMem
  · rw [sameOutside_set _ (by decide), sameOutside_set _ (by decide), sameOutside_set _ (by decide)]
    exact ru hl

/-- A partial is in a state. -/
theorem Block.prGo_spec (b : Block) {st : Nat} (h : st < 8) :
    let t := b.set F.CFG_PR_STATUS_STATE st
    t.prState = st ∧ t.cfg = b.cfg ∧ (∀ u, SameWords [R.CFG_PR_STATUS] u b → SameWords [R.CFG_PR_STATUS] u t)
      ∧ (∀ u, SameOutside [0x02] u b → SameOutside [0x02] u t) ∧ SameMem b t := by
  refine ⟨?_, Block.set_cfg _ _ _, fun u hu => (sameWords_set _ (by decide)).mpr hu, fun u hu => (sameOutside_set _ (by decide)).mpr hu,
    (regsOnly_set b _ st).sameMem⟩
  rw [Block.prState, Block.get_set_self _ _ rfl]
  exact Nat.mod_eq_of_lt h

/-- The partial's record put in place. -/
def Block.withPart (b : Block) (p : Partial) : Block := { b with cfg.part := p }

theorem Block.withPart_spec (b : Block) (p : Partial) :
    (b.withPart p).cfg = { b.cfg with part := p } ∧ SameWords [R.CFG_PR_STATUS] b (b.withPart p) ∧ SameOutside [0x02] b (b.withPart p)
      ∧ SameMem b (b.withPart p) := ⟨rfl, .refl _ b, .refl _ b, .refl b⟩

/-- The partial's record and its state. -/
theorem Block.partGo_spec (b : Block) (p : Partial) {st : Nat} (h : st < 8) :
    let t := (b.withPart p).set F.CFG_PR_STATUS_STATE st
    t.prState = st ∧ t.cfg.part = p ∧ SameWords [R.CFG_PR_STATUS] b t ∧ SameOutside [0x02] b t ∧ SameMem b t := by
  obtain ⟨hc, hw, ho, hm⟩ := b.withPart_spec p
  generalize b.withPart p = c at *
  obtain ⟨k1, k2, k3, k4, k5⟩ := c.prGo_spec h
  exact ⟨k1, by rw [k2, hc], k3 b hw, k4 b ho, hm.trans k5⟩

/-! ### CHECK (R127, R128) -/

theorem prCmd_check {b : Block} {v : Nat} {sigOk : Bool} (h : F.CFG_PR_CMD_OP.of v = 0) : prCmd v sigOk b = b.prCheck sigOk := by
  simp only [prCmd, h]

theorem Block.prCheck_begins {b : Block} {sigOk : Bool} (hs : b.prState = prIdle) (hl : b.scn.load = none)
    (hg : (touchedBy (b.partialAt sigOk)).all (fun g => b.stagesOf g == 0) = true) :
    b.prCheck sigOk = (b.withPart ⟨some (b.partialAt sigOk), none, b.clk⟩).set F.CFG_PR_STATUS_STATE prChecking := by
  have hno : ¬((touchedBy (b.partialAt sigOk)).any (fun g => b.stagesOf g != 0) = true) := by
    rw [List.any_eq_true]
    rintro ⟨g, hm, hne⟩
    have := List.all_eq_true.mp hg g hm
    simp_all
  rw [Block.prCheck]
  dsimp only
  rw [if_neg (not_not.mpr hs), if_neg hno, hl]
  rfl

theorem Block.prCheck_staged {b : Block} {sigOk : Bool} (hs : b.prState = prIdle)
    (hg : (touchedBy (b.partialAt sigOk)).any (fun g => b.stagesOf g != 0) = true) :
    let t := b.prCheck sigOk
    t.prState = prIdle ∧ t.get F.CFG_PR_STATUS_CODE = 0x0221 ∧ t.bit F.CFG_ERR_BUSY = true ∧ t.cfg = b.cfg
      ∧ SameOutside [0x02] b t ∧ SameMem b t := by
  obtain ⟨rc, rb, rg, -, rm, ru⟩ := b.raiseCfg_spec cfgErr_busy
  rw [Block.prCheck]
  dsimp only
  rw [if_neg (not_not.mpr hs), if_pos hg]
  generalize b.raise E.CFG_BUSY = c at *
  refine ⟨?_, ?_, ?_, by rw [Block.set_cfg, rc], (sameOutside_set _ (by decide)).mpr (ru rfl), rm.trans (regsOnly_set c _ _).sameMem⟩
  · rw [Block.prState, Block.get_set_apart _ _ rfl rfl, rg _ (by decide) (by decide) (by decide)]
    exact hs
  · rw [Block.get_set_self _ _ rfl]
    rfl
  · rw [Block.bit_set_apart _ _ rfl rfl]
    exact rb

theorem Block.prCheck_loading {b : Block} {sigOk : Bool} (hs : b.prState = prIdle) (hl : b.scn.load.isSome = true)
    (hg : (touchedBy (b.partialAt sigOk)).all (fun g => b.stagesOf g == 0) = true) :
    b.prCheck sigOk = b.prFail 0x0221 (some E.CFG_BUSY) := by
  have hno : ¬((touchedBy (b.partialAt sigOk)).any (fun g => b.stagesOf g != 0) = true) := by
    rw [List.any_eq_true]
    rintro ⟨g, hm, hne⟩
    have := List.all_eq_true.mp hg g hm
    simp_all
  rw [Block.prCheck]
  dsimp only
  rw [if_neg (not_not.mpr hs), if_neg hno, if_pos hl]

theorem Block.prCheck_busy {b : Block} {sigOk : Bool} (hs : b.prState = prIdle) (hl : b.scn.load.isSome = true)
    (hg : (touchedBy (b.partialAt sigOk)).all (fun g => b.stagesOf g == 0) = true) :
    let t := b.prCheck sigOk
    t.prState = prError ∧ t.get F.CFG_PR_STATUS_CODE = 0x0221 ∧ t.bit F.CFG_ERR_BUSY = true ∧ t.bit F.CFG_IRQ_STATUS_PR_ERROR = true
      ∧ t.cfg = b.cfg ∧ SameOutside [0x02] b t ∧ SameMem b t := by
  obtain ⟨k1, k2, k3, k4, k5, -, k7, k8⟩ := b.prState_prFail (code := 0x0221) cfgErr_busy (by decide)
  rw [Block.prCheck_loading hs hl hg]
  exact ⟨k1, k2, k3, k4, k5, k8 rfl, k7⟩

/-! ### The end of the checks -/

/-- The block when the checks of its partial end. -/
def Block.partialRead (b : Block) (i : Image) (after : Nat) : Block :=
  (b.dramUse 5 (b.pair F.CFG_PR_SRC_LO F.CFG_PR_SRC_HI_SRC) i.totalLen).untilClk
    (b.cfg.part.since + min after (2000000 + 5300000 * ceilDiv i.totalLen (2 ^ 20)))

theorem Block.partialRead_spec (b : Block) (i : Image) (after : Nat) :
    let t := b.partialRead i after
    t.regs = b.regs ∧ t.cfg = b.cfg ∧ t.fuses = b.fuses ∧ SameMem b t := by
  unfold Block.partialRead
  generalize b.cfg.part.since + min after (2000000 + 5300000 * ceilDiv i.totalLen (2 ^ 20)) = due
  refine ⟨?_, ?_, ?_, sameMem_of_eq ?_ ?_⟩
  · rw [Block.untilClk_regs, Block.dramUse_regs]
  · rw [Block.untilClk_cfg, Block.dramUse_cfg]
  · rw [Block.untilClk_fuses, Block.dramUse_fuses]
  · rw [Block.untilClk_dram, Block.dramUse_dram]
  · rw [Block.untilClk_qdr, Block.dramUse_qdr]

/-- The build ID of the bit-stream that runs. -/
def Block.buildId (b : Block) : Nat := b.pair F.CFG_BUILD_ID_LO F.CFG_BUILD_ID_HI

/-- The checks of a partial from the read on. -/
def Block.partialJudged (b : Block) (i : Image) (poisoned : Bool) (build : Nat) : Block :=
  match checkPartialHead b.fuses build i with
  | some e => b.prFail e.code (some e)
  | none =>
    match checkPartial (b.copyPartial i).fuses build poisoned i with
    | some e => (b.copyPartial i).prFail e.code (some e)
    | none =>
      match (b.copyPartial i).checkTables i (b.copyPartial i).idleBank with
      | (some code, d) => d.prFail code none
      | (none, d) =>
        match d.partialChecks i with
        | some code => d.prFail code (cfgErr code)
        | none => (d.set F.CFG_PR_STATUS_STATE prReady).irq F.CFG_IRQ_STATUS_PR_READY

theorem prCheckDone_judged {b : Block} {i : Image} (poisoned : Bool) (after : Nat) (hs : b.prState = prChecking)
    (hi : b.cfg.part.image = some i) : prCheckDone poisoned after b = (b.partialRead i after).partialJudged i poisoned b.buildId := by
  have hread : prCheckDone poisoned after b = (b.partialRead i after).partialJudged i poisoned (b.partialRead i after).buildId := by
    rw [prCheckDone, if_neg (not_not.mpr hs), hi]
    dsimp only
    rw [Block.dramUse_cfg, ← Block.partialRead, Block.partialJudged]
    generalize b.partialRead i after = c
    rw [Block.buildId]
    generalize c.pair F.CFG_BUILD_ID_LO F.CFG_BUILD_ID_HI = build
    cases checkPartialHead c.fuses build i with
    | some e => rfl
    | none =>
      dsimp only
      generalize c.copyPartial i = d
      cases checkPartial d.fuses build poisoned i with
      | some e => rfl
      | none =>
        dsimp only
        generalize d.checkTables i d.idleBank = x
        obtain ⟨bad, e⟩ := x
        cases bad with
        | some code => rfl
        | none =>
          dsimp only <;> cases e.partialChecks i <;> rfl
  have hregs := (b.partialRead_spec i after).1
  rw [hread, Block.buildId, Block.pair, Block.get_congr hregs, Block.get_congr hregs, ← Block.pair, ← Block.buildId]

theorem Block.bankInvalid_keeps (b : Block) (table k : Nat) :
    (b.bankInvalid table k).cfg = b.cfg ∧ (b.bankInvalid table k).fuses = b.fuses := by
  rw [Block.bankInvalid]
  exact ⟨Block.set_cfg _ _ _, Block.set_fuses _ _ _⟩

theorem Block.writeQdr_keeps (b : Block) (a : Nat) (bs : List Byte) : (b.writeQdr a bs).cfg = b.cfg ∧ (b.writeQdr a bs).fuses = b.fuses := by
  rw [Block.writeQdr_only]
  exact ⟨rfl, rfl⟩

theorem Block.dramWrite_keeps (b : Block) (k a : Nat) (bs : List Byte) :
    (b.dramWrite k a bs).cfg = b.cfg ∧ (b.dramWrite k a bs).fuses = b.fuses :=
  ⟨by rw [Block.dramWrite, Block.writeDram_cfg, Block.dramUse_cfg], by rw [Block.dramWrite, Block.writeDram_fuses, Block.dramUse_fuses]⟩

theorem Block.writeTable_keeps (b : Block) (bank : Nat) (t : Nat × Nat × List Byte) :
    (b.writeTable bank t).cfg = b.cfg ∧ (b.writeTable bank t).fuses = b.fuses := by
  obtain ⟨id, o, bs⟩ := t
  obtain ⟨ic, jf⟩ := b.bankInvalid_keeps id bank
  rw [Block.writeTable]
  generalize b.bankInvalid id bank = c at *
  split_ifs
  · obtain ⟨qc, qf⟩ := c.writeQdr_keeps (mapBase bank + o) bs
    exact ⟨qc.trans ic, qf.trans jf⟩
  · obtain ⟨qc, qf⟩ := c.writeQdr_keeps (coefBase bank + o) bs
    exact ⟨qc.trans ic, qf.trans jf⟩
  · exact b.dramWrite_keeps 5 _ bs

theorem Block.copyPartial_keeps (b : Block) (i : Image) :
    (b.copyPartial i).cfg.stages = b.cfg.stages ∧ (b.copyPartial i).fuses = b.fuses := by
  have key (s : Section) (c : Block) : ((match s.content with
      | .table _ o bs => c.writeTable (c.idleBank s.inst) (s.inst, o, bs)
      | .engine e code => c.writeEngine (c.idleCode e) (e, code)
      | _ => c).cfg.stages, (match s.content with
      | .table _ o bs => c.writeTable (c.idleBank s.inst) (s.inst, o, bs)
      | .engine e code => c.writeEngine (c.idleCode e) (e, code)
      | _ => c).fuses) = (c.cfg.stages, c.fuses) := by
    cases s.content with
    | table id o bs =>
      obtain ⟨hc, hf⟩ := c.writeTable_keeps (c.idleBank s.inst) (s.inst, o, bs)
      exact Prod.ext (congrArg Cfg.stages hc) hf
    | _ => rfl
  have h := Block.each_keeps (fun c : Block => (c.cfg.stages, c.fuses)) _ key (copiedSections i) b
  exact ⟨congrArg Prod.fst h, congrArg Prod.snd h⟩

theorem checkPartial_head {f : Fuses} {base : Nat} {p : Bool} {i : Image} {e : Err} (h : checkPartialHead f base i = some e) :
    checkPartial f base p i = some e := by
  rw [checkPartial, h]

theorem prCheckDone_ready {b c d : Block} {i : Image} {after : Nat} (hs : b.prState = prChecking) (hi : b.cfg.part.image = some i)
    (hc : c = (b.partialRead i after).copyPartial i) (hp : checkPartial b.fuses b.buildId false i = none)
    (ht : c.checkTables i c.idleBank = (none, d)) (hd : d.partialChecks i = none) :
    prCheckDone false after b = (d.set F.CFG_PR_STATUS_STATE prReady).irq F.CFG_IRQ_STATUS_PR_READY := by
  obtain ⟨-, -, hf, -⟩ := b.partialRead_spec i after
  rw [prCheckDone_judged false after hs hi]
  generalize b.partialRead i after = r at *
  obtain ⟨-, hcf⟩ := r.copyPartial_keeps i
  have hhead : checkPartialHead r.fuses b.buildId i = none := by
    rw [hf]
    cases hh : checkPartialHead b.fuses b.buildId i with
    | none => rfl
    | some e => rw [checkPartial_head hh] at hp; cases hp
  rw [Block.partialJudged, hhead]
  dsimp only
  rw [← hc] at hcf ⊢
  rw [hcf, hf, hp]
  dsimp only
  rw [ht]
  dsimp only
  rw [hd]

theorem Block.prReady_spec (d : Block) :
    let t := (d.set F.CFG_PR_STATUS_STATE prReady).irq F.CFG_IRQ_STATUS_PR_READY
    t.prState = prReady ∧ t.bit F.CFG_IRQ_STATUS_PR_READY = true := by
  rw [Block.irq_eq]
  refine ⟨?_, Block.bit_set_one_self _ rfl rfl⟩
  rw [Block.prState, Block.get_set_apart _ _ rfl rfl, Block.get_set_self _ _ rfl]
  rfl

theorem prCheckDone_fails {b : Block} {i : Image} {e : Err} {poisoned : Bool} (after : Nat) (hs : b.prState = prChecking)
    (hi : b.cfg.part.image = some i) (hp : checkPartial b.fuses b.buildId poisoned i = some e) :
    let t := prCheckDone poisoned after b
    t.prState = prError ∧ t.get F.CFG_PR_STATUS_CODE = e.code ∧ t.bit e.fld = true ∧ t.bit F.CFG_IRQ_STATUS_PR_ERROR = true
      ∧ t.cfg.stages = b.cfg.stages
      ∧ ((checkPartialHead b.fuses b.buildId i).isSome = true → t.cfg = b.cfg ∧ SameOutside [0x02, 0x30] b t ∧ SameMem b t) := by
  have he := cfgErr_checkPartial hp
  obtain ⟨hrr, hrc, hrf, hrm⟩ := b.partialRead_spec i after
  rw [prCheckDone_judged poisoned after hs hi]
  generalize b.partialRead i after = r at *
  rw [Block.partialJudged, hrf]
  cases hh : checkPartialHead b.fuses b.buildId i with
  | some e' =>
    have hsame : e' = e := Option.some.inj ((checkPartial_head hh).symm.trans hp)
    obtain ⟨k1, k2, k3, k4, k5, k6, k7, -⟩ := r.prState_prFail he he.2.2.2.2
    rw [hsame]
    refine ⟨k1, k2, k3, k4, by rw [k5, hrc], fun _ => ⟨by rw [k5, hrc], fun k hk => ?_, hrm.trans k7⟩⟩
    rw [k6 k hk, Block.word, hrr, Block.word]
  | none =>
    dsimp only
    obtain ⟨hcs, hcf⟩ := r.copyPartial_keeps i
    rw [hcf, hrf, hp]
    dsimp only
    generalize r.copyPartial i = c at *
    obtain ⟨k1, k2, k3, k4, k5, -, -, -⟩ := c.prState_prFail he he.2.2.2.2
    exact ⟨k1, k2, k3, k4, by rw [k5, hcs, hrc], fun h => absurd h (by decide)⟩

/-! ### APPLY and CANCEL (R129) -/

theorem Block.prArm_eq (b : Block) (n : Nat) :
    b.prArm n = (b.withPart { b.cfg.part with target := some n }).set F.CFG_PR_STATUS_STATE prArmed := rfl

/-- A late apply is told. -/
def Block.lateTold (b : Block) : Block := (b.raise E.CFG_LATE_COMMIT).count F.CFG_LATE_COUNT 1

theorem Block.lateTold_spec (b : Block) : b.lateTold.cfg = b.cfg ∧ SameOutside [0x02] b b.lateTold ∧ SameMem b b.lateTold := by
  obtain ⟨rc, -, -, -, rm, ru⟩ := b.raiseCfg_spec cfgErr_late
  unfold Block.lateTold
  generalize b.raise E.CFG_LATE_COMMIT = c at *
  exact ⟨(Block.set_cfg c _ _).trans rc, (sameOutside_set (f := F.CFG_LATE_COUNT) _ (by decide)).mpr (ru rfl), rm.trans (regsOnly_set c _ _).sameMem⟩

theorem Block.prApplyNext_spec {b : Block} (hs : b.prState = prReady) :
    let t := b.prApplyNext
    t.prState = prArmed ∧ t.cfg.part = { b.cfg.part with target := some b.nextTarget.1 } ∧ SameOutside [0x02] b t ∧ SameMem b t := by
  rw [Block.prApplyNext, if_neg (not_not.mpr hs)]
  generalize b.nextTarget = x
  obtain ⟨n, late⟩ := x
  have hmain (c : Block) (hc : c.cfg = b.cfg) (ho : SameOutside [0x02] b c) (hm : SameMem b c) :
      (c.prArm n).prState = prArmed ∧ (c.prArm n).cfg.part = { b.cfg.part with target := some n } ∧ SameOutside [0x02] b (c.prArm n)
        ∧ SameMem b (c.prArm n) := by
    obtain ⟨k1, k2, -, k4, k5⟩ := c.partGo_spec { c.cfg.part with target := some n } (st := prArmed) (by decide)
    rw [← Block.prArm_eq] at k1 k2 k4 k5
    exact ⟨k1, by rw [k2, hc], ho.trans k4, hm.trans k5⟩
  obtain ⟨lc, lo, lm⟩ := b.lateTold_spec
  cases late with
  | false => exact hmain b rfl (.refl _ b) (.refl b)
  | true => exact hmain b.lateTold lc lo lm

theorem Block.prApplyAt_armed {b : Block} {n : Nat} (hs : b.prState = prReady) (hc : b.closePassed n = false) (hn : n ≤ b.wfn + 2 ^ 24) :
    b.prApplyAt n = (0, b.prArm n) := by
  have hno : ¬(b.prState = prArmed ∧ b.cfg.part.target = some n) := by
    rw [hs]
    exact fun h => absurd h.1 (by decide)
  rw [Block.prApplyAt, if_neg hno, if_neg (not_not.mpr hs), hc, if_neg (by decide), if_neg (by omega)]

theorem Block.prApplyAt_missed {b : Block} {n : Nat} (hs : b.prState = prReady) (hc : b.closePassed n = true) :
    b.prApplyAt n = (0x0222, (b.raise E.CFG_MISSED).set F.CFG_PR_STATUS_CODE 0x0222) := by
  have hno : ¬(b.prState = prArmed ∧ b.cfg.part.target = some n) := by
    rw [hs]
    exact fun h => absurd h.1 (by decide)
  rw [Block.prApplyAt, if_neg hno, if_neg (not_not.mpr hs), hc, if_pos rfl]

theorem Block.prMissed_spec {b : Block} (hs : b.prState = prReady) :
    let t := (b.raise E.CFG_MISSED).set F.CFG_PR_STATUS_CODE 0x0222
    t.prState = prReady ∧ t.get F.CFG_PR_STATUS_CODE = 0x0222 ∧ t.bit F.CFG_ERR_MISSED = true ∧ t.cfg = b.cfg
      ∧ SameOutside [0x02] b t ∧ SameMem b t := by
  obtain ⟨rc, rb, rg, -, rm, ru⟩ := b.raiseCfg_spec cfgErr_missed
  generalize b.raise E.CFG_MISSED = c at *
  refine ⟨?_, ?_, ?_, by rw [Block.set_cfg, rc], (sameOutside_set _ (by decide)).mpr (ru rfl), rm.trans (regsOnly_set c _ _).sameMem⟩
  · rw [Block.prState, Block.get_set_apart _ _ rfl rfl, rg _ (by decide) (by decide) (by decide)]
    exact hs
  · rw [Block.get_set_self _ _ rfl]
    rfl
  · rw [Block.bit_set_apart _ _ rfl rfl]
    exact rb

theorem Block.prApplyAt_late {b : Block} {n : Nat} (hs : b.prState = prReady) (hc : b.closePassed n = true) :
    let t := (b.prApplyAt n).2
    t.prState = prReady ∧ t.get F.CFG_PR_STATUS_CODE = 0x0222 ∧ t.bit F.CFG_ERR_MISSED = true ∧ t.cfg = b.cfg
      ∧ SameOutside [0x02] b t ∧ SameMem b t := by
  rw [Block.prApplyAt_missed hs hc]
  exact Block.prMissed_spec hs

theorem Block.prCancel_eq {b : Block} (h : b.prState = prReady ∨ b.prState = prError) :
    b.prCancel = (b.withPart ⟨none, none, 0⟩).set F.CFG_PR_STATUS_STATE prIdle := by
  rw [Block.prCancel]
  dsimp only
  rw [if_pos (h.elim .inl fun e => .inr (.inl e))]
  rfl

end Sys2Proof.Machine
end

section
/-!
PROOFS of chapters 04 and 08: the transactions of a tile, and what the statement on partials and transactions says.
-/

namespace Sys2Proof.Machine

/-! ### Answers -/

theorem Sends.identityLost {b t : Block} (h : Sends b t) : t.lnk.identityLost = b.lnk.identityLost := by rw [h.2.2.1]

/-- The held copy of an answer. -/
def Block.keepsAnswer (b : Block) (src : Nat) (m : Msg) : Block :=
  { b with hif.held := ((src, m) :: b.hif.held.filter (·.1 != src)).take 64 }

theorem Block.respond_held {b : Block} (rx : Rx) (error : Bool) (body : Body) (h : b.lnk.identityLost = false) :
    let t := b.respond rx error body
    t.hif.held.head? = some (rx.msg.src, (⟨rx.msg.type, true, error, true, sealedLength body, rx.msg.src, b.node, rx.msg.seq, body⟩ : Msg))
      ∧ t.cfg = b.cfg := by
  rw [Block.respond, Block.speaks_of_identity rx.msg.type h]
  generalize (⟨rx.msg.type, true, error, true, sealedLength body, rx.msg.src, b.node, rx.msg.seq, body⟩ : Msg) = m
  have hs := sends_depart (b.keepsAnswer rx.msg.src m) rx.via m
  have hheld : (b.keepsAnswer rx.msg.src m).hif.held.head? = some (rx.msg.src, m) := rfl
  have hcfg : (b.keepsAnswer rx.msg.src m).cfg = b.cfg := rfl
  dsimp only
  rw [if_neg (by decide), ← Block.keepsAnswer]
  exact ⟨by rw [hs.held, hheld], by rw [hs.cfg, hcfg]⟩

theorem sends_passTxn (b : Block) (rx : Rx) (body : Body) : Sends b (b.passTxn rx body) := by
  rw [Block.passTxn]
  dsimp only
  split
  · refine (sends_sendChain b b.chainPorts rx.msg.type nodeAll body).trans ?_
    split
    · exact sends_sendOtherUdp _ _ _
    · exact sends_sendMsg _ _ _ _
  · exact .refl b

theorem sends_passStandby (b : Block) (rx : Rx) (new : Bool) : Sends b (b.passStandby rx new) := by
  rw [Block.passStandby]
  split
  · exact sends_sendChain b _ _ _ _
  · exact .refl b

theorem Block.txnNote_mine (b : Block) (txn st : Nat) : ∃ l, b.txnNote txn st = { b with lnk.mine := l } := by
  rw [Block.txnNote]
  dsimp only
  split
  · exact ⟨_, rfl⟩
  · exact ⟨_, rfl⟩

theorem Block.txnNote_keeps (b : Block) (txn st : Nat) :
    (b.txnNote txn st).cfg = b.cfg ∧ (b.txnNote txn st).lnk.identityLost = b.lnk.identityLost := by
  obtain ⟨l, h⟩ := b.txnNote_mine txn st
  rw [h]
  exact ⟨rfl, rfl⟩

/-! ### TXN_ARM at a tile (R274) -/

/-- The stages of a block put in place. -/
def Block.withStages (b : Block) (l : List Stage) : Block := { b with cfg.stages := l }

section
variable {c : Block} {txn target : Nat}

/-- The stages of a transaction that are prepared take its target. -/
def armed (l : List Stage) (txn target : Nat) : List Stage :=
  l.map (fun s => if s.txn = some txn ∧ s.target = none then { s with target := some target } else s)

theorem Block.armStages_prepared (h : c.cfg.stages.any (fun s => s.txn == some txn && s.target.isNone) = true) (hr : c.role ≠ 0)
    (hc : c.closePassed target = false) (hn : target ≤ c.wfn + 2 ^ 24) :
    c.armStages txn target = ⟨comArmed, 0, target, (c.withStages (armed c.cfg.stages txn target)).txnNote txn 2⟩ := by
  have hmap : c.cfg.stages.map (fun s : Stage => if (s.txn == some txn && s.target.isNone) = true then { s with target := some target } else s)
      = armed c.cfg.stages txn target := List.map_congr_left fun s _ => by simp [Option.isNone_iff_eq_none]
  rw [Block.armStages]
  dsimp only
  rw [h, if_neg (by decide), if_neg hr, hc, if_neg (by decide), if_neg (by omega), hmap]
  rfl

/-- A prepared stage has not got the target. -/
theorem notAll_of_prepared (h : c.cfg.stages.any (fun s => s.txn == some txn && s.target.isNone) = true) :
    (c.cfg.stages.filter (fun s => s.txn == some txn)).all (fun s => s.target == some target) = false := by
  obtain ⟨s, hs, hp⟩ := List.any_eq_true.mp h
  rw [Bool.and_eq_true] at hp
  refine List.all_eq_false.mpr ⟨s, List.mem_filter.mpr ⟨hs, hp.1⟩, ?_⟩
  rw [Option.isNone_iff_eq_none.mp hp.2]
  simp

theorem Block.armTxn_prepared (h : c.cfg.stages.any (fun s => s.txn == some txn && s.target.isNone) = true) (hr : c.role ≠ 0)
    (hu : c.updTagged txn = false) (hc : c.closePassed target = false) (hn : target ≤ c.wfn + 2 ^ 24) :
    c.armTxn txn target false = (0, (c.withStages (armed c.cfg.stages txn target)).txnNote txn 2) := by
  have hprep : (c.cfg.stages.filter (fun s => s.txn == some txn)).any (·.target.isNone) = true := by
    rw [List.any_filter]
    exact h
  rw [Block.armTxn]
  dsimp only
  rw [notAll_of_prepared h, hu, hprep, Block.armStages_prepared h hr hc hn]
  generalize (c.withStages (armed c.cfg.stages txn target)).txnNote txn 2 = d
  cases (c.cfg.stages.filter (fun s => s.txn == some txn)).isEmpty
  · rfl
  · rfl

theorem Block.armedAt_prepared (h : c.cfg.stages.any (fun s => s.txn == some txn && s.target.isNone) = true) (hd : c.duty = dutyTile) :
    c.armedAt txn target = false := by
  rw [Block.armedAt, notAll_of_prepared h, hd, Bool.and_false, Bool.or_false, show (dutyTile == dutyActive) = false from rfl, Bool.and_false]

end

theorem txnArm_spec {b c : Block} {rx : Rx} {txn target st : Nat} {cu : Bool} (hrec : b.receive rx = .accepted c)
    (hb : rx.msg.body = .txn txn false cu st target) (hresp : rx.msg.response = false) (hd : c.duty = dutyTile) (hr : c.role ≠ 0)
    (h : c.cfg.stages.any (fun s => s.txn == some txn && s.target.isNone) = true) (hu : c.updTagged txn = false)
    (hc : c.closePassed target = false) (hn : target ≤ c.wfn + 2 ^ 24) (hid : c.lnk.identityLost = false) :
    let t := txnArm rx b
    t.cfg.stages = armed c.cfg.stages txn target
      ∧ ∃ m : Msg, t.hif.held.head? = some (rx.msg.src, m) ∧ m.response = true ∧ m.error = false ∧ m.body = .txn txn false cu 0 target := by
  have hduty : (c.duty == dutyActive) = false := by
    rw [hd]
    rfl
  have hne : ¬(c.duty = dutyActive ∧ decide (4 ≤ (c.lnk.table.filter (fun e => e.state == 1 && e.target == target % 2 ^ 32 && e.txn != txn)).length)
      = true) := by
    rw [hd]
    exact fun e => absurd e.1 (by decide)
  have hfin (d : Block) (hs : d.cfg.stages = armed c.cfg.stages txn target) (hi : d.lnk.identityLost = false) :
      (d.respond rx false (.txn txn false cu 0 target)).cfg.stages = armed c.cfg.stages txn target
        ∧ ∃ m : Msg, (d.respond rx false (.txn txn false cu 0 target)).hif.held.head? = some (rx.msg.src, m) ∧ m.response = true
          ∧ m.error = false ∧ m.body = .txn txn false cu 0 target := by
    obtain ⟨hh, hcf⟩ := d.respond_held rx false (.txn txn false cu 0 target) hi
    exact ⟨by rw [hcf, hs], _, hh, rfl, rfl, rfl⟩
  rw [txnArm, hb]
  dsimp only
  rw [Block.taking, hrec]
  dsimp only
  rw [hresp, if_neg (by decide), Block.armedAt_prepared h hd, hduty, Bool.and_false, Bool.and_false, if_neg (by decide), if_neg hne, Bool.false_and,
    Block.when_false, Block.armTxn_prepared h hr hu hc hn]
  obtain ⟨nc, ni⟩ := (c.withStages (armed c.cfg.stages txn target)).txnNote_keeps txn 2
  generalize (c.withStages (armed c.cfg.stages txn target)).txnNote txn 2 = d at *
  have hds : d.cfg.stages = armed c.cfg.stages txn target := by
    rw [nc]
    rfl
  have hdi : d.lnk.identityLost = false := ni.trans hid
  dsimp only
  cases cu with
  | true => exact hfin d hds hdi
  | false =>
    have hp := (sends_passTxn d rx (.txn txn false false 0 target)).trans (sends_passStandby _ rx (!false))
    exact hfin _ (by rw [← hds]; exact congrArg Cfg.stages hp.cfg) (hp.identityLost.trans hdi)

/-! ### TXN_ABORT at a tile (R275) -/

/-- The stages that an abort leaves. -/
def Block.unaborted (b : Block) (txn : Nat) : List Stage :=
  b.cfg.stages.filter (fun s => !(s.txn == some txn && (s.target.all (fun n => !b.closePassed n))))

theorem Block.stageCounts_keep (l : List Nat) (b : Block) :
    (b.each l (fun g b => b.stageCount g)).cfg = b.cfg ∧ (b.each l (fun g b => b.stageCount g)).lnk = b.lnk :=
  ⟨Block.each_keeps Block.cfg _ (fun _ c => Block.set_cfg c _ _) l b, Block.each_keeps Block.lnk _ (fun _ c => Block.set_lnk c _ _) l b⟩

theorem Block.abortStages_spec (b : Block) {txn : Nat} (hr : b.role ≠ 0) :
    let a := b.abortStages txn
    a.code = 0 ∧ a.blk.cfg.stages = b.unaborted txn ∧ a.blk.lnk.identityLost = b.lnk.identityLost := by
  have hfil : ∀ f : Stage → Bool, (∀ s, f s = !(s.txn == some txn && (s.target.all (fun n => !b.closePassed n)))) →
      b.cfg.stages.filter f = b.unaborted txn := fun f hf => List.filter_congr fun s _ => hf s
  rw [Block.abortStages, if_neg hr]
  dsimp only
  rw [hfil _ fun s => by cases s.target <;> rfl]
  generalize (List.filter _ b.cfg.stages).map (·.group) = groups
  obtain ⟨ec, el⟩ := Block.stageCounts_keep groups (b.withStages (b.unaborted txn))
  rw [← Block.withStages]
  generalize (b.withStages (b.unaborted txn)).each groups (fun g b => b.stageCount g) = d at *
  obtain ⟨nc, ni⟩ := d.txnNote_keeps txn 5
  refine ⟨rfl, ?_, ?_⟩
  · cases groups.isEmpty
    · exact (congrArg Cfg.stages nc).trans (congrArg Cfg.stages ec)
    · exact congrArg Cfg.stages ec
  · cases groups.isEmpty
    · exact ni.trans (congrArg Lnk.identityLost el)
    · exact congrArg Lnk.identityLost el

theorem Block.updGo_keeps (b : Block) (st : Nat) : (b.updGo st).cfg = b.cfg ∧ (b.updGo st).lnk = b.lnk := by
  have hif (c : Block) (k : Bool) (f : Fld) : (c.irqIf k f).cfg = c.cfg ∧ (c.irqIf k f).lnk = c.lnk := by
    cases k
    · exact ⟨rfl, rfl⟩
    · exact ⟨Block.set_cfg c f 1, Block.set_lnk c f 1⟩
  rw [Block.updGo]
  split
  · exact hif b _ _
  · obtain ⟨h1, h2⟩ := hif ((b.set F.UPD_STATUS_STATE st).irq F.UPD_IRQ_STATUS_STATE_CHANGE) (st == updReady) F.UPD_IRQ_STATUS_READY
    exact ⟨h1.trans ((Block.set_cfg _ _ _).trans (Block.set_cfg _ _ _)), h2.trans ((Block.set_lnk _ _ _).trans (Block.set_lnk _ _ _))⟩

/-- A tagged image is no longer armed, nor tagged. -/
def Block.imageUntagged (b : Block) (txn : Nat) : Block :=
  let b := { b with upd.armed := none }
  let b := if b.updState = updArmed then b.updGo updReady else b
  ((b.set F.UPD_TXN_VALID 0).set F.UPD_TXN_TXN 0).txnNote txn 5

theorem Block.imageUntagged_keeps (b : Block) (txn : Nat) :
    (b.imageUntagged txn).cfg = b.cfg ∧ (b.imageUntagged txn).lnk.identityLost = b.lnk.identityLost := by
  have hfin (c : Block) (hc : c.cfg = b.cfg) (hl : c.lnk = b.lnk) :
      (((c.set F.UPD_TXN_VALID 0).set F.UPD_TXN_TXN 0).txnNote txn 5).cfg = b.cfg
        ∧ (((c.set F.UPD_TXN_VALID 0).set F.UPD_TXN_TXN 0).txnNote txn 5).lnk.identityLost = b.lnk.identityLost := by
    obtain ⟨nc, ni⟩ := ((c.set F.UPD_TXN_VALID 0).set F.UPD_TXN_TXN 0).txnNote_keeps txn 5
    exact ⟨by rw [nc, Block.set_cfg, Block.set_cfg, hc], by rw [ni, Block.set_lnk, Block.set_lnk, hl]⟩
  rw [Block.imageUntagged]
  split
  · obtain ⟨uc, ul⟩ := Block.updGo_keeps { b with upd.armed := none } updReady
    exact hfin _ uc ul
  · exact hfin { b with upd.armed := none } rfl rfl

theorem Block.abortTxn_spec (b : Block) {txn : Nat} (hr : b.role ≠ 0) :
    (b.abortTxn txn).1 = 0 ∧ (b.abortTxn txn).2.cfg.stages = b.unaborted txn
      ∧ (b.abortTxn txn).2.lnk.identityLost = b.lnk.identityLost := by
  obtain ⟨hcode, hst, hid⟩ := b.abortStages_spec (txn := txn) hr
  rw [Block.abortTxn]
  generalize b.abortStages txn = a at *
  refine ⟨by rw [hcode], ?_⟩
  obtain ⟨uc, ui⟩ := a.blk.imageUntagged_keeps txn
  have hun : (a.blk.imageUntagged txn).cfg.stages = b.unaborted txn ∧ (a.blk.imageUntagged txn).lnk.identityLost = b.lnk.identityLost :=
    ⟨by rw [uc, hst], by rw [ui, hid]⟩
  split
  · split
    all_goals
      dsimp only
      split
      · exact ⟨hst, hid⟩
      · exact hun
  · exact ⟨hst, hid⟩

theorem txnAbort_spec {b c : Block} {rx : Rx} {txn target st : Nat} {pr cu : Bool} (hrec : b.receive rx = .accepted c)
    (hb : rx.msg.body = .txn txn pr cu st target) (hresp : rx.msg.response = false) (hd : c.duty = dutyTile) (hr : c.role ≠ 0)
    (hid : c.lnk.identityLost = false) :
    let t := txnAbort rx b
    t.cfg.stages = c.unaborted txn
      ∧ ∃ m : Msg, t.hif.held.head? = some (rx.msg.src, m) ∧ m.response = true ∧ m.error = false ∧ m.body = .txn txn pr cu 0 target := by
  have hduty : (c.duty == dutyActive || c.duty == dutyStandby) = false := by
    rw [hd]
    rfl
  obtain ⟨hcode, hst, hi⟩ := c.abortTxn_spec (txn := txn) hr
  rw [txnAbort, hb]
  dsimp only
  rw [Block.taking, hrec]
  dsimp only
  rw [hresp, if_neg (by decide), hduty, Block.when_false]
  generalize c.abortTxn txn = x at *
  obtain ⟨k, d⟩ := x
  dsimp only at hcode hst hi ⊢
  rw [hcode]
  generalize (c.cfg.stages.any (·.txn == some txn) || c.lnk.table.any (·.txn == txn) || c.updTagged txn) = known
  have hp := (sends_passTxn d rx (.txn txn pr cu 0 target)).trans (sends_passStandby _ rx known)
  generalize (d.passTxn rx (.txn txn pr cu 0 target)).passStandby rx known = e at *
  obtain ⟨hh, hcf⟩ := e.respond_held rx false (.txn txn pr cu 0 target) (hp.identityLost.trans (hi.trans hid))
  exact ⟨by rw [show ((0 : Nat) != 0) = false from rfl, hcf, hp.cfg, hst], _, hh, rfl, rfl, rfl⟩

/-- Settles O48. -/
theorem partialsAndTransactions : Obligations.PartialsAndTransactions := by
  unfold Obligations.PartialsAndTransactions
  refine ⟨fun b p v sigOk hr hg ho hs => ⟨fun hl ht => ?_, fun ht => ?_, fun hl ht => ?_⟩,
    fun b c d i after hr hs hi hc hp ht hd => ?_,
    fun b i e poisoned after hr hs hi hp => gives_of_done (t := prCheckDone poisoned after b) hr (fun _ => rfl) (prCheckDone_fails after hs hi hp),
    fun b p v hr hg ho hs => ?_, fun b p v n hr hg ho hs hn => ⟨fun hc hle => ?_, fun hc => ?_⟩, fun b p v hr hg ho hs => ?_,
    fun b c rx txn target st cu hr hrec hb hresp hd hrole h hu hc hn hid =>
      gives_of_done (t := txnArm rx b) hr (fun _ => rfl) (txnArm_spec hrec hb hresp hd hrole h hu hc hn hid),
    fun b c rx txn target st pr cu hr hrec hb hresp hd hrole _ hid =>
      gives_of_done (t := txnAbort rx b) hr (fun _ => rfl) (txnAbort_spec hrec hb hresp hd hrole hid)⟩
  · refine gives_of_writing (f := prCmd v.toNat sigOk) hr hg (fun _ => rfl) ?_
    rw [prCmd_check ho, Block.prCheck_begins hs hl ht]
    obtain ⟨k1, k2, k3, -, k5⟩ := b.partGo_spec ⟨some (b.partialAt sigOk), none, b.clk⟩ (st := prChecking) (by decide)
    generalize (b.withPart ⟨some (b.partialAt sigOk), none, b.clk⟩).set F.CFG_PR_STATUS_STATE prChecking = t at *
    exact ⟨k1, k2, k3, k5⟩
  · refine gives_of_writing (f := prCmd v.toNat sigOk) hr hg (fun _ => rfl) ?_
    have hm := Block.prCheck_staged hs ht
    rw [prCmd_check ho]
    generalize b.prCheck sigOk = t at *
    exact hm
  · refine gives_of_writing (f := prCmd v.toNat sigOk) hr hg (fun _ => rfl) ?_
    have hm := Block.prCheck_busy hs hl ht
    rw [prCmd_check ho]
    generalize b.prCheck sigOk = t at *
    exact hm
  · have hready := d.prReady_spec
    rw [← prCheckDone_ready hs hi hc hp ht hd] at hready ⊢
    exact gives_of_done (t := prCheckDone false after b) hr (fun _ => rfl) ⟨rfl, hready⟩
  · refine gives_of_writing (f := prCmd v.toNat false) hr hg (fun _ => rfl) ?_
    have heq : prCmd v.toNat false b = b.prApplyNext := by simp only [prCmd, ho]
    have hm := Block.prApplyNext_spec hs
    rw [heq]
    generalize b.prApplyNext = t at *
    exact hm
  · refine gives_of_writing (f := prCmd v.toNat false) hr hg (fun _ => rfl) ?_
    have heq : prCmd v.toNat false b = b.prArm n := by simp only [prCmd, ho, ← hn, Block.prApplyAt_armed hs hc hle]
    rw [heq, Block.prArm_eq]
    obtain ⟨k1, k2, k3, -, k5⟩ := b.partGo_spec { b.cfg.part with target := some n } (st := prArmed) (by decide)
    generalize (b.withPart { b.cfg.part with target := some n }).set F.CFG_PR_STATUS_STATE prArmed = t at *
    exact ⟨k1, k2, k3, k5⟩
  · refine gives_of_writing (f := prCmd v.toNat false) hr hg (fun _ => rfl) ?_
    have heq : prCmd v.toNat false b = (b.prApplyAt n).2 := by simp only [prCmd, ho, ← hn]
    have hm := Block.prApplyAt_late hs hc
    rw [heq]
    generalize (b.prApplyAt n).2 = t at *
    exact hm
  · refine gives_of_writing (f := prCmd v.toNat false) hr hg (fun _ => rfl) ?_
    have heq : prCmd v.toNat false b = b.prCancel := by simp only [prCmd, ho]
    rw [heq, Block.prCancel_eq hs]
    have hgo := b.partGo_spec ⟨none, none, 0⟩ (st := prIdle) (by decide)
    generalize (b.withPart ⟨none, none, 0⟩).set F.CFG_PR_STATUS_STATE prIdle = t at *
    exact ⟨hgo.1, congrArg Partial.image hgo.2.1, hgo.2.2.1, hgo.2.2.2.2⟩

end Sys2Proof.Machine
end

section
/-!
PROOFS of chapter 8: what a break of the chain leaves of the ports' links.
-/

namespace Sys2Proof.Machine

/-! ### The ports of the link layer -/

theorem Block.lnkPort_onLnk (b : Block) {p : Nat} (f : LnkPort → LnkPort) (h : p < b.lnk.ports.length) :
    (b.onLnk p f).lnkPort p = f (b.lnkPort p) := by
  rw [Block.lnkPort, Block.onLnk, List.getD_eq_getElem?_getD, List.getElem?_modify, Block.lnkPort, List.getD_eq_getElem?_getD,
    List.getElem?_eq_getElem h]
  simp only [if_true]
  rfl

/-- A change of port `q` keeps what holds of port `p`, where the change itself keeps it. -/
theorem Block.lnkPort_onLnk_keeps {P : LnkPort → Prop} {b : Block} {p : Nat} (q : Nat) {f : LnkPort → LnkPort} (h : P (b.lnkPort p))
    (hf : ∀ x, P x → P (f x)) : P ((b.onLnk q f).lnkPort p) := by
  rw [Block.lnkPort, Block.onLnk, List.getD_eq_getElem?_getD, List.getElem?_modify]
  rw [Block.lnkPort, List.getD_eq_getElem?_getD] at h
  cases hx : b.lnk.ports[p]? with
  | none =>
    rw [hx] at h
    exact h
  | some x =>
    rw [hx] at h
    dsimp only [Option.map_some, Option.getD_some] at h ⊢
    split
    · exact hf x h
    · exact h

/-! ### What a head learns of a break -/

/-- A break is counted and told. -/
def Block.breakSeen (b : Block) : Block := { b with lnk.breaks := b.lnk.breaks + 1 }.raise E.LNK_BREAK

/-- Link `k` is broken, or whole again. -/
def Block.breakAt (b : Block) (k : Nat) (up : Bool) : Block :=
  { b with lnk.broken := if up then b.lnk.broken.filter (· != k) else b.lnk.broken.filter (· != k) ++ [k] }

theorem Block.learnBreak_none (b : Block) (up : Bool) : b.learnBreak none up = b.breakSeen := rfl

theorem Block.learnBreak_some (b : Block) (k : Nat) (up : Bool) :
    let c := b.breakSeen.breakAt k up
    b.learnBreak (some k) up =
      if !up && c.duty == dutyActive && c.bit F.LNK_CHAIN_CTRL_SPLIT_EN && c.splitOf c.lnk.broken != c.splitSlot then
        ((c.setSplit (c.splitOf c.lnk.broken)).sendHeadState c.slotNumber).sendAlive
      else c := rfl

/-! ### What a break keeps -/

/-- The fields a head tells a break in. -/
def breakFields : List Fld :=
  [F.LNK_ERR_BREAK, F.LNKn_IRQ_STATUS_CHAIN_ERR 0, F.LNK_CHAIN_STATUS_SPLIT, F.LNK_CHAIN_STATUS_SPLIT_SLOT, F.LNKn_IRQ_STATUS_SPLIT_CHANGE 0]

/-- A relation that every step of a break keeps: those of a sending, the end of a session, and what a head learns. -/
structure Breaking (R : Block → Block → Prop) : Prop extends Sending R where
  ends (b : Block) (p : Nat) : R b (b.endSession p)
  tells (b : Block) {f : Fld} (v : Nat) : f ∈ breakFields → R b (b.set f v)
  learns (b : Block) (k : Nat) (l : List Nat) : R b { b with lnk := { b.lnk with breaks := k, broken := l } }

namespace Breaking

variable {R : Block → Block → Prop} (hR : Breaking R)
include hR

theorem sendChain (b : Block) (ports : List Nat) (type dest : Nat) (body : Body) : R b (b.sendChain ports type dest body) :=
  hR.toSending.sendChain (.inr hR.ends) ports type dest body

theorem sendOtherUdp (b : Block) (type : Nat) (body : Body) : R b (b.sendOtherUdp type body) :=
  hR.toSending.sendOtherUdp (.inr hR.ends) type body

theorem sendAlive (b : Block) : R b b.sendAlive := hR.trans (hR.sendChain b _ _ _ _) (hR.sendOtherUdp _ _ _)

theorem sendHeadState (b : Block) (s : Nat) : R b (b.sendHeadState s) := by
  rw [Block.sendHeadState]
  split
  · exact hR.refl b
  · exact hR.trans (hR.sendChain b _ _ _ _) (hR.sendOtherUdp _ _ _)

theorem setSplit (b : Block) (s : Option Nat) : R b (b.setSplit s) := by
  rw [Block.setSplit]
  split
  · exact hR.refl b
  · rw [Block.setBit_eq]
    exact hR.trans (hR.trans (hR.tells b _ (by decide)) (hR.tells _ _ (by decide))) (hR.tells _ 1 (by decide))

theorem breakSeen (b : Block) : R b b.breakSeen := by
  rw [Block.breakSeen, Block.raise_eq]
  exact hR.trans (hR.learns b (b.lnk.breaks + 1) b.lnk.broken)
    (hR.raised _ noDetail (e := E.LNK_BREAK) (fun c => hR.tells c 1 (by decide)) fun c => hR.tells c 1 (by decide))

theorem learnBreak (b : Block) (link : Option Nat) (up : Bool) : R b (b.learnBreak link up) := by
  cases link with
  | none =>
    rw [Block.learnBreak_none]
    exact hR.breakSeen b
  | some k =>
    have hlearnt : R b (b.breakSeen.breakAt k up) := hR.trans (hR.breakSeen b) (hR.learns _ _ _)
    rw [Block.learnBreak_some]
    split
    · exact hR.trans (hR.trans (hR.trans hlearnt (hR.setSplit _ _)) (hR.sendHeadState _ _)) (hR.sendAlive _)
    · exact hlearnt

theorem linkBroken (b : Block) (p : Nat) (up : Bool) : R b (b.linkBroken p up) := by
  rw [Block.linkBroken]
  split
  · exact hR.refl b
  · have hsent := hR.when b (!b.upPorts.isEmpty) (f := fun b => b.sendChain b.upPorts 0x17 nodeAll (.brk b.node b.shownSlot p up b.wfn))
      fun c => hR.sendChain c _ _ _ _
    dsimp only
    generalize b.when (!b.upPorts.isEmpty) _ = c at *
    split
    · exact hR.trans hsent (hR.learnBreak c _ up)
    · exact hsent

end Breaking

/-! ### What rests at a port -/

/-- What stays as it is at port `p` once its session has ended: no sending and no break opens one. -/
def Rest (p : Nat) (b t : Block) : Prop :=
  (t.lnkPort p).wrong = (b.lnkPort p).wrong ∧ ((b.lnkPort p).partner = none → (t.lnkPort p).partner = none)
    ∧ (b.bit (F.LNKn_STATUS_SESSION_UP p) = false → t.bit (F.LNKn_STATUS_SESSION_UP p) = false)
    ∧ (b.get (F.LNKn_SESSION_ID p) = 0 → t.get (F.LNKn_SESSION_ID p) = 0)
    ∧ (b.bit (F.LNKn_ERR_CABLE p) = true → t.bit (F.LNKn_ERR_CABLE p) = true)

/-- What a break of the chain can change, beside the sessions that end. -/
def Breaks (b t : Block) : Prop :=
  t.clk = b.clk ∧ (∀ g, SendBeside g → (∀ f ∈ breakFields, g.apart f = true) → t.get g = b.get g) ∧ ∀ p < 2, Rest p b t

section
variable {p : Nat} (hp : p < 2)
include hp

theorem leaveBeside_sessionUp : LeaveBeside (F.LNKn_STATUS_SESSION_UP p) :=
  leaveBeside_lnk (o := 0x04) hp (by simp only [F.LNKn_STATUS_SESSION_UP, R.LNKn_STATUS]; omega) (by decide) nofun nofun

theorem leaveBeside_sessionId : LeaveBeside (F.LNKn_SESSION_ID p) :=
  leaveBeside_lnk (o := 0x10) hp (by simp only [F.LNKn_SESSION_ID, R.LNKn_SESSION]; omega) (by decide) nofun nofun

omit hp in
/-- The bits a sending sets are beside CABLE, or CABLE itself under another name. -/
theorem cable_marked {f : Fld} (hf : Marked f) : (F.LNKn_ERR_CABLE p).apart f = true ∨ f = F.LNKn_ERR_CABLE p := by
  obtain ⟨n, rfl | rfl⟩ := hf
  · by_cases h : n = 12 + p
    · refine .inr ?_
      rw [F.ETHn_ERR_TX_DROP, F.LNKn_ERR_CABLE, R.ETHn_ERR, R.LNKn_ERR, h]
      congr 1
      omega
    · refine .inl (Fld.apart_of_addr ?_)
      simp only [F.ETHn_ERR_TX_DROP, F.LNKn_ERR_CABLE, R.ETHn_ERR, R.LNKn_ERR]
      omega
  · refine .inl (Fld.apart_of_addr ?_)
    simp only [F.ETHn_IRQ_STATUS_ERR, F.LNKn_ERR_CABLE, R.ETHn_IRQ_STATUS, R.LNKn_ERR]
    omega

theorem cable_counted {f : Fld} (hf : Counted f) : (F.LNKn_ERR_CABLE p).apart f = true := by
  refine Fld.apart_of_addr fun e => ?_
  rcases hf with hf | ⟨q, rfl | rfl | rfl⟩
  · rw [← e] at hf
    simp only [ringWords, List.mem_cons, List.not_mem_nil, or_false, F.LNKn_ERR_CABLE, R.LNKn_ERR, R.HIF_ERR, R.HIF_IRQ_STATUS,
      R.HIF_RING_STATUS, R.HIF_RING_POOL_USED, R.HIF_DROP_DEST, R.HIF_DROP_FULL, R.HIF_DROP_POOL] at hf
    omega
  all_goals
    simp only [F.LNKn_ERR_CABLE, R.LNKn_ERR, F.LNKn_CNT_Ti_LO, F.LNKn_CNT_Ti_HI, F.ETHn_CNT_Ei, R.LNKn_CNT_Ti_LO, R.LNKn_CNT_Ti_HI,
      R.ETHn_CNT_Ei] at e
    omega

omit hp in
/-- A step that keeps the ports, and whose writes are beside the session, rests where CABLE stays. -/
theorem rest_of_get {b t : Block} (hl : t.lnk.ports = b.lnk.ports) (hup : t.get (F.LNKn_STATUS_SESSION_UP p) = b.get (F.LNKn_STATUS_SESSION_UP p))
    (hid : t.get (F.LNKn_SESSION_ID p) = b.get (F.LNKn_SESSION_ID p))
    (hc : b.bit (F.LNKn_ERR_CABLE p) = true → t.bit (F.LNKn_ERR_CABLE p) = true) : Rest p b t := by
  have hport : t.lnkPort p = b.lnkPort p := by rw [Block.lnkPort, hl, Block.lnkPort]
  exact ⟨by rw [hport], by rw [hport]; exact id, by rw [Block.bit, Block.bit, hup]; exact id, by rw [hid]; exact id, hc⟩

theorem rest_leaves {b t : Block} (h : Leaves b t) (hc : b.bit (F.LNKn_ERR_CABLE p) = true → t.bit (F.LNKn_ERR_CABLE p) = true) : Rest p b t :=
  rest_of_get (by rw [h.1]) (h.get (leaveBeside_sessionUp hp)) (h.get (leaveBeside_sessionId hp)) hc

omit hp in
theorem rest_set (b : Block) {f : Fld} (v : Nat) (hok : f.ok = true) (hup : (F.LNKn_STATUS_SESSION_UP p).apart f = true)
    (hid : (F.LNKn_SESSION_ID p).apart f = true) (hc : (F.LNKn_ERR_CABLE p).apart f = true) : Rest p b (b.set f v) :=
  rest_of_get (by rw [Block.set_lnk]) (Block.get_set_apart b v hok hup) (Block.get_set_apart b v hok hid)
    (by rw [Block.bit_set_apart b v hok hc]; exact id)

end

theorem Rest.trans {p : Nat} {b c t : Block} (h : Rest p b c) (k : Rest p c t) : Rest p b t :=
  ⟨k.1.trans h.1, k.2.1 ∘ h.2.1, k.2.2.1 ∘ h.2.2.1, k.2.2.2.1 ∘ h.2.2.2.1, k.2.2.2.2 ∘ h.2.2.2.2⟩


/-- A port whose session has ended, the last of them `e`. -/
def LnkPort.closed (q : LnkPort) (e : Nat) : LnkPort :=
  { q with ownNonce := none, partner := none, sent := false, secret := [], underPrev := false, passed := [], ended := e }

theorem Block.endSession_lnkPort (b : Block) (q : Nat) : ∃ e : LnkPort → Nat, (b.endSession q).lnk.ports = b.lnk.ports.modify q fun x => x.closed (e x) :=
  ⟨_, rfl⟩

theorem Block.endSession_regs (b : Block) (q : Nat) (g : Fld) :
    (b.endSession q).get g = ((b.set (F.LNKn_STATUS_SESSION_UP q) 0).set (F.LNKn_SESSION_ID q) 0).get g := rfl

theorem Block.endSession_get (b : Block) {q : Nat} {g : Fld} (h1 : g.apart (F.LNKn_STATUS_SESSION_UP q) = true) (h2 : g.addr ≠ R.LNKn_SESSION q) :
    (b.endSession q).get g = b.get g := by
  rw [Block.endSession_regs, Block.get_set_apart _ _ rfl (Fld.apart_of_addr h2), Block.get_set_apart _ _ rfl h1]

theorem Block.endSession_ends (b : Block) (q : Nat) :
    (b.endSession q).bit (F.LNKn_STATUS_SESSION_UP q) = false ∧ (b.endSession q).get (F.LNKn_SESSION_ID q) = 0 := by
  refine ⟨?_, ?_⟩
  · rw [Block.bit, b.endSession_regs, ← Block.bit, Block.bit_set_apart _ _ rfl (Fld.apart_of_addr (by
      simp only [F.LNKn_STATUS_SESSION_UP, F.LNKn_SESSION_ID, R.LNKn_STATUS, R.LNKn_SESSION]; omega)), Block.bit_set_zero_self _ rfl]
  · rw [b.endSession_regs, Block.get_set_self _ _ rfl]
    rfl

theorem Block.endSession_sameOutside (b : Block) {q : Nat} (hq : q < 2) :
    SameOutside [0x1C, 0x1D] b (b.endSession q) ∧ SameMem b (b.endSession q) := by
  have hregs : (b.endSession q).regs = ((b.set (F.LNKn_STATUS_SESSION_UP q) 0).set (F.LNKn_SESSION_ID q) 0).regs := rfl
  refine ⟨(sameOutside_congr hregs).mpr ?_, sameMem_of_eq rfl rfl⟩
  rcases (by omega : q = 0 ∨ q = 1) with rfl | rfl
  all_goals
    rw [sameOutside_set _ (by decide), sameOutside_set _ (by decide)]
    exact .refl _ b

theorem rest_endSession (b : Block) (p q : Nat) : Rest p b (b.endSession q) := by
  obtain ⟨e, he⟩ := b.endSession_lnkPort q
  have hport {P : LnkPort → Prop} (h : P (b.lnkPort p)) (hf : ∀ x k, P x → P (x.closed k)) : P ((b.endSession q).lnkPort p) := by
    rw [Block.lnkPort, he]
    exact Block.lnkPort_onLnk_keeps q h fun x => hf x _
  have hget := b.endSession_regs q
  refine ⟨hport (P := fun x => x.wrong = (b.lnkPort p).wrong) rfl fun _ _ => id, fun h => hport (P := fun x => x.partner = none) h fun _ _ _ => rfl,
    ?_, ?_, ?_⟩
  · intro h
    rw [Block.bit, hget, Block.get_set_apart _ _ rfl (Fld.apart_of_addr (by
      simp only [F.LNKn_STATUS_SESSION_UP, F.LNKn_SESSION_ID, R.LNKn_STATUS, R.LNKn_SESSION]; omega)), ← Block.bit]
    by_cases hq : q = p
    · rw [hq, Block.bit_set_zero_self _ rfl]
    · rw [Block.bit_set_apart _ _ rfl (Fld.apart_of_addr (by simp only [F.LNKn_STATUS_SESSION_UP, R.LNKn_STATUS]; omega)), h]
  · intro h
    rw [hget]
    by_cases hq : q = p
    · rw [hq, Block.get_set_self _ _ rfl]
      rfl
    · rw [Block.get_set_apart _ _ rfl (Fld.apart_of_addr (by simp only [F.LNKn_SESSION_ID, R.LNKn_SESSION]; omega)),
        Block.get_set_apart _ _ rfl (Fld.apart_of_addr (by
          simp only [F.LNKn_STATUS_SESSION_UP, F.LNKn_SESSION_ID, R.LNKn_STATUS, R.LNKn_SESSION]; omega)), h]
  · intro h
    rw [Block.bit, hget, ← Block.bit, Block.bit_set_apart _ _ rfl (Fld.apart_of_addr (by
        simp only [F.LNKn_ERR_CABLE, F.LNKn_SESSION_ID, R.LNKn_ERR, R.LNKn_SESSION]; omega)),
      Block.bit_set_apart _ _ rfl (Fld.apart_of_addr (by
        simp only [F.LNKn_STATUS_SESSION_UP, F.LNKn_ERR_CABLE, R.LNKn_STATUS, R.LNKn_ERR]; omega)), h]

/-! ### A break keeps what rests -/

theorem Moved.bit {b t : Block} (h : Moved b t) (g : Fld) : t.bit g = b.bit g := by
  have hregs : t.regs = b.regs := by rw [h.1]
  rw [Block.bit, Block.get_congr hregs, Block.bit]

theorem breaks_of_leaves {b t : Block} (h : Leaves b t)
    (hc : ∀ p < 2, b.bit (F.LNKn_ERR_CABLE p) = true → t.bit (F.LNKn_ERR_CABLE p) = true) : Breaks b t :=
  ⟨h.clk, fun _ hg _ => h.get hg.1, fun p hp => rest_leaves hp h (hc p hp)⟩

theorem breakField_ok {f : Fld} (hf : f ∈ breakFields) : f.ok = true := by
  revert f
  decide

/-- The words a break is told in are none of those a port's session is told in. -/
theorem breakField_addr {f : Fld} (hf : f ∈ breakFields) : f.addr = R.LNK_ERR ∨ f.addr = R.LNK_CHAIN_STATUS ∨ f.addr = R.LNKn_IRQ_STATUS 0 := by
  revert f
  decide

theorem breaks_tells (b : Block) {f : Fld} (v : Nat) (hf : f ∈ breakFields) : Breaks b (b.set f v) := by
  have ha := breakField_addr hf
  refine ⟨by rw [Block.set_clk], fun g _ hg => Block.get_set_apart b v (breakField_ok hf) (hg f hf), fun p hp => ?_⟩
  refine rest_set b v (breakField_ok hf) ?_ ?_ ?_
  all_goals
    refine Fld.apart_of_addr ?_
    simp only [R.LNK_ERR, R.LNK_CHAIN_STATUS, R.LNKn_IRQ_STATUS] at ha
    simp only [F.LNKn_STATUS_SESSION_UP, R.LNKn_STATUS, F.LNKn_SESSION_ID, R.LNKn_SESSION, F.LNKn_ERR_CABLE, R.LNKn_ERR]
    omega

theorem breaking : Breaking Breaks where
  refl _ := ⟨rfl, fun _ _ _ => rfl, fun _ _ => ⟨rfl, id, id, id, id⟩⟩
  trans h k := ⟨k.1.trans h.1, fun g hg hb => (k.2.1 g hg hb).trans (h.2.1 g hg hb), fun p hp => (h.2.2 p hp).trans (k.2.2 p hp)⟩
  set b f v hok hf := breaks_of_leaves (leaving.set b v hok hf) fun p hp h => by
    rw [Block.bit_set_apart b v hok (cable_counted hp hf), h]
  mark b f hf := breaks_of_leaves (leaving.mark b hf) fun p _ h => by
    rcases cable_marked (p := p) hf with ha | he
    · rw [Block.bit_set_apart b 1 hf.ok ha, h]
    · rw [he, Block.bit_set_one_self _ rfl rfl]
  submit b code d := breaks_of_leaves (leaving.submit b code d) fun p hp h => by
    rw [Block.bit, Block.get, Block.word_submit_other _ _ _ (by simp only [F.LNKn_ERR_CABLE, R.LNKn_ERR]; omega), ← Block.get, ← Block.bit, h]
  moved h := breaks_of_leaves (leaving.moved h) fun p _ hc => by rw [h.bit, hc]
  ends b q := by
    have h := sends_endSession b q
    exact ⟨h.clk, fun _ hg _ => h.get hg, fun _ hp => rest_endSession b _ q⟩
  tells b f v hf := breaks_tells b v hf
  learns b k l := ⟨rfl, fun _ _ _ => rfl, fun _ _ => ⟨rfl, id, id, id, id⟩⟩

end Sys2Proof.Machine
end

section
/-!
PROOFS of chapter 8: LINK_ID sent, and LINK_ID taken (R235, R236, R240 to R242).
-/

namespace Sys2Proof.Machine

/-! ### LINK_ID leaves -/

theorem Block.get_onLnk (b : Block) (p : Nat) (f : LnkPort → LnkPort) (g : Fld) : (b.onLnk p f).get g = b.get g := rfl
theorem Block.bit_onLnk (b : Block) (p : Nat) (f : LnkPort → LnkPort) (g : Fld) : (b.onLnk p f).bit g = b.bit g := rfl

/-- LINK_ID as port `p` sends it under nonce `n`. -/
def Block.linkIdOf (b : Block) (p n : Nat) : LinkId :=
  { node := b.node, serial := b.fuses.serial, chainId := b.chainId, slot := b.shownSlot
    port := p, duty := b.dutyCode, epoch := b.get F.LNK_EPOCH_EPOCH, nonce := n
    incarn := b.lnk.incarn, tag := if (b.lnkPort p).partner.isSome then some true else none }

theorem linkIdSend_eq {b : Block} {p n : Nat} (hp : p < 2) (ht : b.trained (2 + p) = true) (hn : (b.lnkPort p).ownNonce = some n) :
    linkIdSend p b = ((b.onLnk p (fun q => { q with sent := true })).countCells p 0 1).emit (.linkId p (b.linkIdOf p n)) := by
  rw [linkIdSend, if_neg (by rw [ht]; simp; omega), Block.linkIdOf]
  simp only [hn, Option.isSome_some, if_true, Option.getD_some]

theorem linkIdSend_spec {b : Block} {p n : Nat} (hp : p < 2) (hlen : b.lnk.ports.length = 2) (ht : b.trained (2 + p) = true)
    (hn : (b.lnkPort p).ownNonce = some n) :
    let t := linkIdSend p b
    t.out = .linkId p (b.linkIdOf p n) :: b.out ∧ (t.lnkPort p).sent = true
      ∧ SameWords [R.LNKn_CNT_Ti_LO p 0, R.LNKn_CNT_Ti_HI p 0] b t ∧ SameMem b t := by
  have hsent := congrArg LnkPort.sent (b.lnkPort_onLnk (fun q => { q with sent := true }) (p := p) (by omega))
  obtain ⟨hr, hw, -⟩ := (b.onLnk p (fun q => { q with sent := true })).countCells_spec p 0 1
  have hout : ((b.onLnk p (fun q => { q with sent := true })).countCells p 0 1).out = b.out := by rw [hr]; rfl
  have hmem := hr.sameMem
  have hport : ((b.onLnk p (fun q => { q with sent := true })).countCells p 0 1).lnk = (b.onLnk p (fun q => { q with sent := true })).lnk := by
    rw [hr]
  rw [linkIdSend_eq hp ht hn]
  generalize Block.countCells _ p 0 1 = c at *
  refine ⟨by rw [Block.emit, hout], ?_, ?_, ?_⟩
  · rw [Block.lnkPort, Block.emit_lnk, hport, ← Block.lnkPort, hsent]
  · rw [sameWords_emit]
    exact hw
  · rw [sameMem_congr (Block.emit_dram _ _) (Block.emit_qdr _ _)]
    exact hmem

/-! ### LINK_ID is heard -/

/-- A LINK_ID shows on port `p`: who the partner is, whether the cable is wrong, and that the port is up. -/
def Block.linkHeard (b : Block) (p : Nat) (x : LinkId) (bad : Bool) : Block :=
  ((((b.countCells p 1 1).onLnk p (fun q => { q with lastId := some b.clk, wrong := bad })).set (F.LNKn_PARTNER_NODE_NODE p) x.node).set
    (F.LNKn_STATUS_PARTNER_SLOT p) x.slot).set (F.LNKn_STATUS_UP p) 1

section
variable (b : Block) {p : Nat} (x : LinkId) (bad : Bool)

theorem Block.linkHeard_fields :
    b.linkHeard p x bad = { b with regs := (b.linkHeard p x bad).regs, lnk := { b.lnk with
      ports := b.lnk.ports.modify p (fun q => { q with lastId := some b.clk, wrong := bad }) } } := rfl

theorem Block.linkHeard_lnkPort (hp : p < 2) (hlen : b.lnk.ports.length = 2) :
    (b.linkHeard p x bad).lnkPort p = { b.lnkPort p with lastId := some b.clk, wrong := bad } :=
  b.lnkPort_onLnk (fun q => { q with lastId := some b.clk, wrong := bad }) (by omega)

theorem Block.linkHeard_get {g : Fld} (h1 : g.addr ≠ R.LNKn_CNT_Ti_LO p 1) (h2 : g.addr ≠ R.LNKn_CNT_Ti_HI p 1)
    (h3 : g.addr ≠ R.LNKn_PARTNER_NODE p) (h4 : g.addr ≠ R.LNKn_STATUS p) : (b.linkHeard p x bad).get g = b.get g := by
  obtain ⟨-, -, hg⟩ := b.countCells_spec p 1 1
  rw [Block.linkHeard, Block.get_set_apart _ _ rfl (Fld.apart_of_addr h4), Block.get_set_apart _ _ rfl (Fld.apart_of_addr h4),
    Block.get_set_apart _ _ rfl (Fld.apart_of_addr h3), Block.get_onLnk, hg g h1 h2]

theorem Block.linkHeard_status (hp : p < 2) :
    let t := b.linkHeard p x bad
    t.bit (F.LNKn_STATUS_UP p) = true ∧ t.get (F.LNKn_PARTNER_NODE_NODE p) = x.node % 2 ^ 18
      ∧ t.get (F.LNKn_STATUS_PARTNER_SLOT p) = x.slot % 256 ∧ t.bit (F.LNKn_STATUS_SESSION_UP p) = b.bit (F.LNKn_STATUS_SESSION_UP p) := by
  obtain ⟨-, -, hg⟩ := b.countCells_spec p 1 1
  rw [Block.linkHeard]
  rcases (by omega : p = 0 ∨ p = 1) with rfl | rfl
  all_goals
    refine ⟨Block.bit_set_one_self _ rfl rfl, ?_, ?_, ?_⟩
    · rw [Block.get_set_apart _ _ rfl (by decide), Block.get_set_apart _ _ rfl (by decide), Block.get_set_self _ _ rfl]
      rfl
    · rw [Block.get_set_apart _ _ rfl (by decide), Block.get_set_self _ _ rfl]
      rfl
    · rw [Block.bit_set_apart _ _ rfl (by decide), Block.bit_set_apart _ _ rfl (by decide), Block.bit_set_apart _ _ rfl (by decide),
        Block.bit_onLnk, Block.bit, hg _ (by decide) (by decide), Block.bit]

theorem Block.linkHeard_sameOutside (hp : p < 2) : SameOutside [0x1C, 0x1D] b (b.linkHeard p x bad) ∧ SameMem b (b.linkHeard p x bad) := by
  refine ⟨?_, sameMem_of_eq rfl rfl⟩
  have hcells : SameOutside [0x1C, 0x1D] b (b.countCells p 1 1) := by
    rw [Block.countCells]
    refine (b.countPair_spec 1 rfl rfl rfl rfl ?_).2.2.2 _ ?_ ?_
    all_goals
      rcases (by omega : p = 0 ∨ p = 1) with rfl | rfl <;> decide
  rw [Block.linkHeard]
  rcases (by omega : p = 0 ∨ p = 1) with rfl | rfl
  all_goals
    rw [sameOutside_set _ (by decide), sameOutside_set _ (by decide), sameOutside_set _ (by decide)]
    exact hcells

end

theorem Block.isHead_of_role {b t : Block} (h : t.get F.SYS_ROLE_ROLE = b.get F.SYS_ROLE_ROLE) : t.isHead = b.isHead ∧ t.role = b.role := by
  have hrole : t.role = b.role := by rw [Block.role, h, Block.role]
  exact ⟨by rw [Block.isHead, hrole, Block.isHead], hrole⟩

theorem Block.linkHeard_role (b : Block) {p : Nat} (x : LinkId) (bad : Bool) (hp : p < 2) :
    (b.linkHeard p x bad).isHead = b.isHead ∧ (b.linkHeard p x bad).role = b.role := by
  refine Block.isHead_of_role (b.linkHeard_get x bad ?_ ?_ ?_ ?_)
  all_goals
    simp only [F.SYS_ROLE_ROLE, R.SYS_ROLE, R.LNKn_CNT_Ti_LO, R.LNKn_CNT_Ti_HI, R.LNKn_PARTNER_NODE, R.LNKn_STATUS]
    omega

/-! ### What a LINK_ID does, case by case -/

/-- The port tells that it came up, and the chain that a link changed. -/
def Block.linkTold (b c : Block) (p : Nat) (bad : Bool) : Block :=
  let c := c.irqIf (!b.bit (F.LNKn_STATUS_UP p)) (F.LNKn_IRQ_STATUS_LINK_CHANGE p)
  if b.bit (F.LNKn_STATUS_UP p) && b.usable p == !bad then c else c.linkBroken p (!bad)

/-- A rightly cabled partner's LINK_ID, whose slot is known, or not. -/
def Block.linkPartner (b : Block) (p : Nat) (x : LinkId) : Block :=
  let b := b.when (b.role == roleTile && x.slot != 0xFF) (·.takeSlot p x.slot)
  if (b.lnkPort p).partner = some (x.nonce, x.serial) ∨ !(b.lnkPort p).sent then b else b.openLink p x.nonce x.serial false

/-- A LINK_ID's tag is judged. -/
def Block.linkTag (b : Block) (p : Nat) : Option Bool → Block
  | none => b
  | some true => if (b.lnkPort p).partner.isSome then (b.set (F.LNKn_STATUS_SESSION_UP p) 1).flushPort p else b
  | some false => b.linkTagFailed p

/-- Is the partner that LINK_ID `x` shows at port `p` a wrong one (R236)? -/
def Block.miscabled (b : Block) (p : Nat) (x : LinkId) : Bool := x.port == p || (b.cfg.topo.isSome && x.chainId != b.chainId)

theorem linkId_eq {b : Block} {p : Nat} (x : LinkId) (hp : p < 2) (ht : b.trained (2 + p) = true) :
    linkId p x b = b.linkTold (if b.miscabled p x then ((b.linkHeard p x (b.miscabled p x)).raise (E.LNKn_CABLE p)).endSession p
      else ((b.linkHeard p x (b.miscabled p x)).linkPartner p x).linkTag p x.tag) p (b.miscabled p x) := by
  rw [linkId, if_neg (by rw [ht]; simp; omega)]
  rfl

end Sys2Proof.Machine
end

section
/-!
PROOFS of chapter 8: a port that comes up, its session, and a wrong cable (R236, R240, R242).
-/

namespace Sys2Proof.Machine

/-! ### The chain hears of a port of a tile -/

theorem leaveBeside_role : LeaveBeside F.SYS_ROLE_ROLE := (sendBeside_of_addr (by decide) (by decide) (.inl (by decide))).1

theorem leaves_linkBroken {b : Block} (p : Nat) (up : Bool) (hh : b.isHead = false) (hseq : b.hif.seq + 1 < 2 ^ 32) :
    Leaves b (b.linkBroken p up) := by
  have hsent : Leaves b (b.when (!b.upPorts.isEmpty) fun b => b.sendChain b.upPorts 0x17 nodeAll (.brk b.node b.shownSlot p up b.wfn)) := by
    cases !b.upPorts.isEmpty
    · exact leaving.refl b
    · exact leaving.sendChain (.inl hseq) _ _ _ _
  rw [Block.linkBroken, hh]
  simp only [Bool.false_and, Bool.false_eq_true, if_false]
  generalize b.when (!b.upPorts.isEmpty) _ = c at *
  rw [if_neg (by rw [(Block.isHead_of_role (hsent.get leaveBeside_role)).1, hh]; decide)]
  exact hsent

section
variable {p : Nat} (hp : p < 2)
include hp

theorem leaveBeside_up : LeaveBeside (F.LNKn_STATUS_UP p) :=
  leaveBeside_lnk (o := 0x04) hp (by simp only [F.LNKn_STATUS_UP, R.LNKn_STATUS]; omega) (by decide) nofun nofun

theorem leaveBeside_partnerSlot : LeaveBeside (F.LNKn_STATUS_PARTNER_SLOT p) :=
  leaveBeside_lnk (o := 0x04) hp (by simp only [F.LNKn_STATUS_PARTNER_SLOT, R.LNKn_STATUS]; omega) (by decide) nofun nofun

theorem leaveBeside_partnerNode : LeaveBeside (F.LNKn_PARTNER_NODE_NODE p) :=
  leaveBeside_lnk (o := 0x0C) hp (by simp only [F.LNKn_PARTNER_NODE_NODE, R.LNKn_PARTNER_NODE]; omega) (by decide) nofun nofun

theorem leaveBeside_linkChange : LeaveBeside (F.LNKn_IRQ_STATUS_LINK_CHANGE p) :=
  leaveBeside_lnk (o := 0x7FF0) hp (by simp only [F.LNKn_IRQ_STATUS_LINK_CHANGE, R.LNKn_IRQ_STATUS]; omega) (by decide) nofun
    fun _ => .inl Nat.zero_lt_one

end

/-! ### A session opens -/

/-- The secret and the ID of the session at port `p` from the chain key and the module's nonce `own` (R242). -/
def Block.linkSession (b : Block) (p : Nat) (key : SecKey) (own nonce serial : Nat) : List Byte × Nat :=
  if p = 0 then linkSecret key.bytes nonce own b.chainId serial b.fuses.serial
  else linkSecret key.bytes own nonce b.chainId b.fuses.serial serial

/-- A session with its secret and ID stands at port `p`, until its tag has come. -/
def Block.linkOpened (b : Block) (p nonce serial : Nat) (y : List Byte × Nat) : Block :=
  ((b.onLnk p (fun q => { q with partner := some (nonce, serial), secret := y.1, underPrev := false, ended := 0 })).set
    (F.LNKn_SESSION_ID p) y.2).set (F.LNKn_STATUS_SESSION_UP p) 0

theorem openLink_eq {b : Block} {p own : Nat} {key : SecKey} (nonce serial : Nat) (hk : b.chainKey false = some key)
    (he : (b.lnkPort p).ended = 0) (hid : b.get (F.LNKn_SESSION_ID p) = 0) (ho : (b.lnkPort p).ownNonce = some own) :
    b.openLink p nonce serial false = b.linkOpened p nonce serial (b.linkSession p key own nonce serial) := by
  have hsame (c : Block) (id : Nat) : c.sessionChanged 0 id = c := by
    rw [Block.sessionChanged]
    simp only [bne_self_eq_false, Bool.false_and, List.filter_false]
    rfl
  rw [Block.openLink, hk]
  dsimp only
  rw [hid, he, ho, if_pos rfl, hsame]
  rfl

section
variable (b : Block) {p : Nat} (nonce serial : Nat) (y : List Byte × Nat)

theorem Block.linkOpened_lnkPort (hp : p < b.lnk.ports.length) : (b.linkOpened p nonce serial y).lnkPort p
    = { b.lnkPort p with partner := some (nonce, serial), secret := y.1, underPrev := false, ended := 0 } := by
  rw [Block.linkOpened, Block.lnkPort, Block.set_lnk, Block.set_lnk]
  exact b.lnkPort_onLnk (fun q => { q with partner := some (nonce, serial), secret := y.1, underPrev := false, ended := 0 }) hp

theorem Block.linkOpened_session :
    (b.linkOpened p nonce serial y).bit (F.LNKn_STATUS_SESSION_UP p) = false
      ∧ (b.linkOpened p nonce serial y).get (F.LNKn_SESSION_ID p) = y.2 % 2 ^ 32 := by
  refine ⟨Block.bit_set_zero_self _ rfl, ?_⟩
  rw [Block.linkOpened, Block.get_set_apart _ _ rfl (Fld.apart_of_addr (by
    simp only [F.LNKn_STATUS_SESSION_UP, F.LNKn_SESSION_ID, R.LNKn_STATUS, R.LNKn_SESSION]; omega)), Block.get_set_self _ _ rfl]
  rfl

theorem Block.linkOpened_get {g : Fld} (h1 : g.addr ≠ R.LNKn_SESSION p) (h2 : g.apart (F.LNKn_STATUS_SESSION_UP p) = true) :
    (b.linkOpened p nonce serial y).get g = b.get g := by
  rw [Block.linkOpened, Block.get_set_apart _ _ rfl h2, Block.get_set_apart _ _ rfl (Fld.apart_of_addr h1), Block.get_onLnk]

end

/-! ### A new port -/

theorem Block.miscabled_eq_false {b : Block} {p : Nat} {x : LinkId} (hx : x.port ≠ p)
    (hc : b.cfg.topo.isSome = true → x.chainId = b.chainId) : b.miscabled p x = false := by
  rw [Block.miscabled, beq_eq_false_iff_ne.mpr hx, Bool.false_or]
  cases h : b.cfg.topo.isSome
  · rfl
  · rw [hc h, bne_self_eq_false]
    rfl

theorem Block.linkPartner_noSlot {b : Block} {p : Nat} {x : LinkId} (hx : x.slot = 0xFF) : b.linkPartner p x =
    if (b.lnkPort p).partner = some (x.nonce, x.serial) ∨ !(b.lnkPort p).sent then b else b.openLink p x.nonce x.serial false := by
  have hw : b.when (b.role == roleTile && x.slot != 0xFF) (·.takeSlot p x.slot) = b := by
    rw [hx, bne_self_eq_false, Bool.and_false]
    rfl
  rw [Block.linkPartner, hw]

section
variable {b : Block} {p own : Nat} {x : LinkId} {key : SecKey}

theorem Block.linkHeard_chainKey (hp : p < 2) : (b.linkHeard p x false).chainKey false = b.chainKey false := by
  have hu : (b.linkHeard p x false).upd = b.upd := by rw [Block.linkHeard_fields]
  have hb : (b.linkHeard p x false).get F.SEC_STATUS_CHAIN_KEY = b.get F.SEC_STATUS_CHAIN_KEY := by
    refine b.linkHeard_get x false ?_ ?_ ?_ ?_
    all_goals
      simp only [F.SEC_STATUS_CHAIN_KEY, R.SEC_STATUS, R.LNKn_CNT_Ti_LO, R.LNKn_CNT_Ti_HI, R.LNKn_PARTNER_NODE, R.LNKn_STATUS]
      omega
  rw [Block.chainKey, hu, Block.bit, hb, Block.chainKey, Block.bit]

/-- The partner of a port without one, rightly cabled: the session opens. -/
theorem linkHeard_partner (hp : p < 2) (hlen : b.lnk.ports.length = 2) (hs : (b.lnkPort p).sent = true)
    (ho : (b.lnkPort p).ownNonce = some own) (hpt : (b.lnkPort p).partner ≠ some (x.nonce, x.serial)) (he : (b.lnkPort p).ended = 0)
    (hid : b.get (F.LNKn_SESSION_ID p) = 0) (hk : b.chainKey false = some key) (hx : x.slot = 0xFF) :
    (b.linkHeard p x false).linkPartner p x
      = (b.linkHeard p x false).linkOpened p x.nonce x.serial (b.linkSession p key own x.nonce x.serial) := by
  have hport := b.linkHeard_lnkPort x false hp hlen
  have hid' : (b.linkHeard p x false).get (F.LNKn_SESSION_ID p) = 0 := by
    rw [b.linkHeard_get, hid]
    all_goals
      simp only [F.LNKn_SESSION_ID, R.LNKn_SESSION, R.LNKn_CNT_Ti_LO, R.LNKn_CNT_Ti_HI, R.LNKn_PARTNER_NODE, R.LNKn_STATUS]
      omega
  have hsession : (b.linkHeard p x false).linkSession p key own x.nonce x.serial = b.linkSession p key own x.nonce x.serial := by
    rw [Block.linkHeard_fields]
    rfl
  rw [Block.linkPartner_noSlot hx, hport, if_neg (by rw [hs]; simpa using hpt),
    openLink_eq x.nonce x.serial (key := key) (own := own) (by rw [Block.linkHeard_chainKey hp, hk]) (by rw [hport]; exact he) hid'
      (by rw [hport]; exact ho), hsession]

theorem linkId_new (hp : p < 2) (hlen : b.lnk.ports.length = 2) (ht : b.trained (2 + p) = true) (hr : b.role = roleTile)
    (hup : b.bit (F.LNKn_STATUS_UP p) = false) (hs : (b.lnkPort p).sent = true) (ho : (b.lnkPort p).ownNonce = some own)
    (hpt : (b.lnkPort p).partner ≠ some (x.nonce, x.serial)) (he : (b.lnkPort p).ended = 0) (hid : b.get (F.LNKn_SESSION_ID p) = 0)
    (hk : b.chainKey false = some key) (hseq : b.hif.seq + 1 < 2 ^ 32) (hxp : x.port ≠ p) (hxs : x.slot = 0xFF) (hxt : x.tag = none)
    (hc : b.cfg.topo.isSome = true → x.chainId = b.chainId) (hxn : x.node < 2 ^ 18) :
    let t := linkId p x b
    let y := b.linkSession p key own x.nonce x.serial
    t.bit (F.LNKn_STATUS_UP p) = true ∧ t.get (F.LNKn_PARTNER_NODE_NODE p) = x.node ∧ t.get (F.LNKn_STATUS_PARTNER_SLOT p) = 0xFF
      ∧ (t.lnkPort p).partner = some (x.nonce, x.serial) ∧ (t.lnkPort p).lastId = some b.clk
      ∧ t.bit (F.LNKn_STATUS_SESSION_UP p) = false ∧ t.bit (F.LNKn_IRQ_STATUS_LINK_CHANGE p) = true
      ∧ (t.lnkPort p).secret = y.1 ∧ t.get (F.LNKn_SESSION_ID p) = y.2 % 2 ^ 32 := by
  intro t y
  have hopen := linkHeard_partner (own := own) (key := key) hp hlen hs ho hpt he hid hk hxs
  obtain ⟨hhup, hnode, hslot, -⟩ := b.linkHeard_status x false hp
  have hport := b.linkHeard_lnkPort x false hp hlen
  have hhead := (b.linkHeard_role x false hp).1
  have hhlen : p < (b.linkHeard p x false).lnk.ports.length := by
    rw [Block.linkHeard_fields]
    simp only [List.length_modify]
    omega
  have hhif : (b.linkHeard p x false).hif = b.hif := by rw [Block.linkHeard_fields]
  have ht : t = b.linkTold ((b.linkHeard p x false).linkOpened p x.nonce x.serial y) p false := by
    rw [show t = linkId p x b from rfl, linkId_eq x hp ht, Block.miscabled_eq_false hxp hc, hopen, hxt]
    rfl
  generalize b.linkHeard p x false = h at *
  have hoport := h.linkOpened_lnkPort x.nonce x.serial y hhlen
  obtain ⟨hoses, hoid⟩ := h.linkOpened_session (p := p) x.nonce x.serial y
  have hoget {g : Fld} := h.linkOpened_get (p := p) (g := g) x.nonce x.serial y
  have hohif : (h.linkOpened p x.nonce x.serial y).hif = b.hif := by rw [Block.linkOpened, Block.set_hif, Block.set_hif, ← hhif]; rfl
  generalize h.linkOpened p x.nonce x.serial y = o at *
  have hshut : ¬(b.bit (F.LNKn_STATUS_UP p) && b.usable p == !false) = true := by simp [hup]
  have hirq : o.irqIf (!b.bit (F.LNKn_STATUS_UP p)) (F.LNKn_IRQ_STATUS_LINK_CHANGE p) = o.set (F.LNKn_IRQ_STATUS_LINK_CHANGE p) 1 := by
    rw [hup]
    rfl
  have hrole : (o.set (F.LNKn_IRQ_STATUS_LINK_CHANGE p) 1).get F.SYS_ROLE_ROLE = h.get F.SYS_ROLE_ROLE := by
    rw [Block.get_set_apart _ _ rfl (Fld.apart_of_addr ?_), hoget ?_ (Fld.apart_of_addr ?_)]
    all_goals
      simp only [F.SYS_ROLE_ROLE, F.LNKn_IRQ_STATUS_LINK_CHANGE, F.LNKn_STATUS_SESSION_UP, R.SYS_ROLE, R.LNKn_IRQ_STATUS, R.LNKn_SESSION,
        R.LNKn_STATUS]
      omega
  have hleave : Leaves (o.set (F.LNKn_IRQ_STATUS_LINK_CHANGE p) 1) t := by
    rw [ht, Block.linkTold, hirq, if_neg hshut]
    refine leaves_linkBroken p true ?_ (by rw [Block.set_hif, hohif]; exact hseq)
    rw [(Block.isHead_of_role hrole).1, hhead, Block.isHead, hr]
    decide
  have hget {g : Fld} (hg : LeaveBeside g) (ha : g.addr ≠ R.LNKn_IRQ_STATUS p) : t.get g = o.get g := by
    rw [hleave.get hg, Block.get_set_apart _ _ rfl (Fld.apart_of_addr ha)]
  have htport : t.lnkPort p = o.lnkPort p := by rw [hleave.lnkPort, Block.lnkPort, Block.set_lnk, Block.lnkPort]
  have hhs {g : Fld} (ha : g.addr = R.LNKn_STATUS p ∨ g.addr = R.LNKn_PARTNER_NODE p) (hap : g.apart (F.LNKn_STATUS_SESSION_UP p) = true)
      (hg : LeaveBeside g) : t.get g = h.get g := by
    rw [hget hg, hoget _ hap]
    all_goals
      rcases ha with ha | ha <;> rw [ha] <;> simp only [R.LNKn_STATUS, R.LNKn_IRQ_STATUS, R.LNKn_SESSION, R.LNKn_PARTNER_NODE] <;> omega
  refine ⟨?_, ?_, ?_, by rw [htport, hoport], by rw [htport, hoport, hport], ?_, ?_, by rw [htport, hoport], ?_⟩
  · rw [Block.bit, hhs (.inl rfl) ?_ (leaveBeside_up hp), ← Block.bit, hhup]
    rcases (by omega : p = 0 ∨ p = 1) with rfl | rfl <;> rfl
  · rw [hhs (.inr rfl) (Fld.apart_of_addr ?_) (leaveBeside_partnerNode hp), hnode, Nat.mod_eq_of_lt hxn]
    simp only [F.LNKn_PARTNER_NODE_NODE, F.LNKn_STATUS_SESSION_UP, R.LNKn_STATUS, R.LNKn_PARTNER_NODE]
    omega
  · rw [hhs (.inl rfl) ?_ (leaveBeside_partnerSlot hp), hslot, hxs]
    rcases (by omega : p = 0 ∨ p = 1) with rfl | rfl <;> rfl
  · rw [Block.bit, hget (leaveBeside_sessionUp hp) ?_, ← Block.bit, hoses]
    simp only [F.LNKn_STATUS_SESSION_UP, R.LNKn_STATUS, R.LNKn_IRQ_STATUS]
    omega
  · rw [hleave.bit (leaveBeside_linkChange hp), Block.bit_set_one_self _ rfl rfl]
  · rw [hget (leaveBeside_sessionId hp) ?_, hoid]
    simp only [F.LNKn_SESSION_ID, R.LNKn_SESSION, R.LNKn_IRQ_STATUS]
    omega

/-! ### A tag that holds -/

theorem linkId_tagged (hp : p < 2) (hlen : b.lnk.ports.length = 2) (ht : b.trained (2 + p) = true) (hup : b.bit (F.LNKn_STATUS_UP p) = true)
    (hw : (b.lnkPort p).wrong = false) (hpt : (b.lnkPort p).partner = some (x.nonce, x.serial)) (hxp : x.port ≠ p) (hxs : x.slot = 0xFF)
    (hxt : x.tag = some true) (hc : b.cfg.topo.isSome = true → x.chainId = b.chainId) :
    (linkId p x b).bit (F.LNKn_STATUS_SESSION_UP p) = true ∧ (linkId p x b).bit (F.LNKn_STATUS_UP p) = true := by
  have hbad := Block.miscabled_eq_false hxp hc
  obtain ⟨hhup, -, -, -⟩ := b.linkHeard_status x false hp
  have hport := b.linkHeard_lnkPort x false hp hlen
  have husable : b.usable p = true := by rw [Block.usable, hup, hw]; rfl
  have htold (c : Block) : b.linkTold c p false = c := by
    rw [Block.linkTold, hup, husable]
    rfl
  have heq : linkId p x b = ((b.linkHeard p x false).set (F.LNKn_STATUS_SESSION_UP p) 1).flushPort p := by
    rw [linkId_eq x hp ht, hbad, htold, if_neg (by decide), Block.linkPartner_noSlot hxs, hport, if_pos (.inl hpt), hxt, Block.linkTag, hport,
      if_pos (by rw [hpt]; rfl)]
  rw [heq]
  generalize b.linkHeard p x false = h at *
  have hleave : Leaves (h.set (F.LNKn_STATUS_SESSION_UP p) 1) ((h.set (F.LNKn_STATUS_SESSION_UP p) 1).flushPort p) := leaving.flushWaiting _ _
  rw [hleave.bit (leaveBeside_sessionUp hp), hleave.bit (leaveBeside_up hp)]
  refine ⟨Block.bit_set_one_self _ rfl rfl, ?_⟩
  rw [Block.bit_set_apart _ _ rfl ?_, hhup]
  rcases (by omega : p = 0 ∨ p = 1) with rfl | rfl <;> rfl

/-! ### A wrong cable -/

/-- A port whose partner is a wrong one: CABLE is told, and its session ends. -/
theorem Block.cabled_spec (c : Block) (hp : p < 2) :
    let t := (c.raise (E.LNKn_CABLE p)).endSession p
    t.bit (F.LNKn_ERR_CABLE p) = true ∧ t.bit (F.LNKn_STATUS_SESSION_UP p) = false ∧ t.get (F.LNKn_SESSION_ID p) = 0
      ∧ (t.lnkPort p).wrong = (c.lnkPort p).wrong ∧ SameOutside [0x1C, 0x1D, 0x30] c t ∧ SameMem c t := by
  have hraised : (c.raise (E.LNKn_CABLE p)).bit (F.LNKn_ERR_CABLE p) = true := by
    rw [Block.raise_eq]
    rcases (by omega : p = 0 ∨ p = 1) with rfl | rfl
    · exact c.bit_raiseAt_self (e := E.LNKn_CABLE 0) _ rfl rfl rfl rfl (by decide)
    · exact c.bit_raiseAt_self (e := E.LNKn_CABLE 1) _ rfl rfl rfl rfl (by decide)
  have hlnk : (c.raise (E.LNKn_CABLE p)).lnk = c.lnk := by rw [Block.raise_eq, Block.raiseAt_lnk]
  have hout : SameOutside [0x1C, 0x1D, 0x30] c (c.raise (E.LNKn_CABLE p)) ∧ SameMem c (c.raise (E.LNKn_CABLE p)) := by
    rw [Block.raise_eq]
    refine ⟨?_, (sameMem_raiseAt _ _ _ _).mpr (.refl _)⟩
    rcases (by omega : p = 0 ∨ p = 1) with rfl | rfl
    all_goals exact (sameOutside_raiseAt _ (by decide) (by decide) (by decide)).mpr (.refl _ c)
  generalize c.raise (E.LNKn_CABLE p) = d at *
  obtain ⟨hwrong, -, -, -, hcable⟩ := rest_endSession d p p
  refine ⟨hcable hraised, ?_, ?_, by rw [hwrong, Block.lnkPort, hlnk, Block.lnkPort], ?_, ?_⟩
  · exact (d.endSession_ends p).1
  · exact (d.endSession_ends p).2
  · exact hout.1.trans ((d.endSession_sameOutside hp).1.mono (by decide))
  · exact hout.2.trans (d.endSession_sameOutside hp).2

theorem linkId_wrong (hp : p < 2) (hlen : b.lnk.ports.length = 2) (ht : b.trained (2 + p) = true) (hup : b.bit (F.LNKn_STATUS_UP p) = true)
    (hbad : b.miscabled p x = true) :
    let t := linkId p x b
    t.bit (F.LNKn_ERR_CABLE p) = true ∧ t.bit (F.LNKn_STATUS_SESSION_UP p) = false ∧ t.get (F.LNKn_SESSION_ID p) = 0
      ∧ (t.lnkPort p).wrong = true ∧ t.carries p = false
      ∧ ((b.lnkPort p).wrong = true → SameOutside [0x1C, 0x1D, 0x30] b t ∧ SameMem b t) := by
  have hport := congrArg LnkPort.wrong (b.linkHeard_lnkPort x true hp hlen)
  obtain ⟨hout, hmem⟩ := b.linkHeard_sameOutside x true hp
  have heq : linkId p x b = b.linkTold (((b.linkHeard p x true).raise (E.LNKn_CABLE p)).endSession p) p true := by
    rw [linkId_eq x hp ht, hbad, if_pos rfl]
  obtain ⟨hcable, hses, hid, hwrong, hcout, hcmem⟩ := (b.linkHeard p x true).cabled_spec hp
  have htold (c : Block) : b.linkTold c p true = if (b.lnkPort p).wrong then c else c.linkBroken p false := by
    rw [Block.linkTold, Block.usable, hup]
    cases (b.lnkPort p).wrong <;> rfl
  rw [heq, htold]
  rw [hport] at hwrong
  have hout' := (hout.mono (by decide)).trans hcout
  have hmem' := hmem.trans hcmem
  generalize Block.endSession _ p = c at *
  obtain ⟨-, -, hrest⟩ : Breaks c (if (b.lnkPort p).wrong then c else c.linkBroken p false) := by
    split
    · exact breaking.refl c
    · exact breaking.linkBroken c p false
  obtain ⟨rwrong, -, rses, rid, rcable⟩ := hrest p hp
  have hw := rwrong.trans hwrong
  refine ⟨rcable hcable, rses hses, rid hid, hw, ?_, fun hb => ?_⟩
  · rw [Block.carries, hw]
    simp
  · rw [if_pos hb]
    exact ⟨hout', hmem'⟩

end

end Sys2Proof.Machine
end

section
/-!
PROOFS of chapter 8: the module's slot, and a port that goes down (R235, R240).
-/

namespace Sys2Proof.Machine

/-! ### The slot (R235) -/

theorem Block.lnkPort_onLnk_other (b : Block) {p q : Nat} (f : LnkPort → LnkPort) (h : q ≠ p) : (b.onLnk q f).lnkPort p = b.lnkPort p := by
  rw [Block.lnkPort, Block.onLnk, List.getD_eq_getElem?_getD, List.getElem?_modify, Block.lnkPort, List.getD_eq_getElem?_getD]
  simp only [if_neg h]
  cases b.lnk.ports[p]? <;> rfl

/-- A neighbour at port 0 has shown slot `k`. -/
def Block.offeredWest (b : Block) (k : Nat) : Block := b.onLnk 0 (fun q => { q with offered := some ((k : Int) + 1) })

/-- The module takes slot `s` and node `n`, and has its identity again. -/
def Block.slotTaken (b : Block) (s n : Nat) : Block :=
  { ((b.set F.LNK_CHAIN_STATUS_SLOT s).set F.LNK_CHAIN_STATUS_SLOT_VALID 1).set F.HIF_NODE_ID_NODE n with lnk.identityLost := false }

section
variable {b : Block} (k : Nat) {t : Topology}

theorem Block.offers_offeredWest (hlen : b.lnk.ports.length = 2) :
    [0, 1].filterMap (fun p => ((b.offeredWest k).lnkPort p).offered) = ((k : Int) + 1) :: (b.lnkPort 1).offered.toList := by
  have h0 : ((b.offeredWest k).lnkPort 0).offered = some ((k : Int) + 1) :=
    congrArg LnkPort.offered (b.lnkPort_onLnk (fun q => { q with offered := some ((k : Int) + 1) }) (by omega))
  have h1 : (b.offeredWest k).lnkPort 1 = b.lnkPort 1 := b.lnkPort_onLnk_other _ (by decide)
  simp only [List.filterMap_cons, h0, h1, List.filterMap_nil]
  cases (b.lnkPort 1).offered <;> rfl

/-- What the slots offered at the two ports lead to, the first being `s`. -/
theorem takeSlot_offers (hlen : b.lnk.ports.length = 2) (ht : b.cfg.topo = some t) :
    b.takeSlot 0 k =
      if !(b.lnkPort 1).offered.toList.all (· == (k : Int) + 1) then (b.offeredWest k).refuseSlot
      else if b.bit F.LNK_CHAIN_STATUS_SLOT_VALID then b.offeredWest k
      else if (k : Int) + 1 < 0 ∨ !slotBorne t ((k : Int) + 1).toNat then (b.offeredWest k).refuseSlot
      else (b.offeredWest k).slotTaken ((k : Int) + 1).toNat (if t.source1 then t.chainBase + ((k : Int) + 1).toNat else t.node) := by
  have hoffers := b.offers_offeredWest k hlen
  rw [Block.takeSlot]
  split
  · next h => exact absurd (ht.symm.trans h) nofun
  · next t' h =>
    obtain rfl : t' = t := Option.some.inj (h.symm.trans ht)
    split
    · next hnone => exact absurd (hoffers.symm.trans hnone) nofun
    · next s r hsome =>
      obtain ⟨rfl, rfl⟩ := List.cons.inj (hoffers.symm.trans hsome)
      rfl

theorem takeSlot_first (hlen : b.lnk.ports.length = 2) (ht : b.cfg.topo = some t) (ho : (b.lnkPort 1).offered = none)
    (hv : b.bit F.LNK_CHAIN_STATUS_SLOT_VALID = false) (hb : slotBorne t (k + 1) = true) (hs : t.source1 = false) :
    b.takeSlot 0 k = (b.offeredWest k).slotTaken (k + 1) t.node := by
  have hnat : ((k : Int) + 1).toNat = k + 1 := by omega
  rw [takeSlot_offers k hlen ht, ho, hv, hnat, hb, hs, if_neg (by simp), if_neg (by decide), if_neg (by simp; omega), if_neg (by decide)]

theorem takeSlot_mismatch {o : Int} (hlen : b.lnk.ports.length = 2) (ht : b.cfg.topo = some t) (ho : (b.lnkPort 1).offered = some o)
    (hne : o ≠ k + 1) : b.takeSlot 0 k = (b.offeredWest k).refuseSlot := by
  rw [takeSlot_offers k hlen ht, ho, if_pos (by simpa using hne)]

end

theorem Block.slotTaken_spec (b : Block) {s n : Nat} (hs : s < 64) (hn : n < 2 ^ 18) :
    let t := b.slotTaken s n
    t.slotNumber = s ∧ t.bit F.LNK_CHAIN_STATUS_SLOT_VALID = true ∧ t.node = n ∧ t.lnk.identityLost = false
      ∧ SameWords [R.LNK_CHAIN_STATUS, R.HIF_NODE_ID] b t := by
  have hget (g : Fld) : (b.slotTaken s n).get g
      = (((b.set F.LNK_CHAIN_STATUS_SLOT s).set F.LNK_CHAIN_STATUS_SLOT_VALID 1).set F.HIF_NODE_ID_NODE n).get g := rfl
  have hregs : (b.slotTaken s n).regs
      = (((b.set F.LNK_CHAIN_STATUS_SLOT s).set F.LNK_CHAIN_STATUS_SLOT_VALID 1).set F.HIF_NODE_ID_NODE n).regs := rfl
  refine ⟨?_, ?_, ?_, rfl, (sameWords_congr hregs).mpr ?_⟩
  · rw [Block.slotNumber, hget, Block.get_set_apart _ _ rfl (by decide), Block.get_set_apart _ _ rfl (by decide), Block.get_set_self _ _ rfl]
    exact Nat.mod_eq_of_lt hs
  · rw [Block.bit, hget, ← Block.bit, Block.bit_set_apart _ _ rfl (by decide), Block.bit_set_one_self _ rfl rfl]
  · rw [Block.node, hget, Block.get_set_self _ _ rfl]
    exact Nat.mod_eq_of_lt hn
  · rw [sameWords_set _ (by decide), sameWords_set _ (by decide), sameWords_set _ (by decide)]
    exact .refl _ b

theorem Block.refuseSlot_spec (b : Block) :
    b.refuseSlot.bit F.LNK_CHAIN_STATUS_SLOT_VALID = false ∧ b.refuseSlot.bit F.LNK_ERR_SLOT_MISMATCH = true := by
  rw [Block.refuseSlot, Block.raise_eq]
  refine ⟨?_, Block.bit_raiseAt_self (e := E.LNK_SLOT_MISMATCH) _ _ rfl rfl rfl rfl (by decide)⟩
  rw [Block.bit_raiseAt_apart _ _ rfl rfl rfl rfl (by decide), Block.bit_set_zero_self _ rfl]

/-! ### A port goes down (R240) -/

/-- What a port that goes down shows, before the chain hears of it. -/
def Block.linkFallen (b : Block) (p : Nat) : Block :=
  (((((b.set (F.LNKn_STATUS_UP p) 0).endSession p).onLnk p (fun q => { q with lastId := none, offered := none })).set
    (F.LNKn_STATUS_PARTNER_SLOT p) 0xFF).countSat (F.LNKn_CNT_Ei p 2) 1).raise (E.LNKn_LINK_DOWN p)

theorem linkDown_eq {b : Block} {p : Nat} (h : b.bit (F.LNKn_STATUS_UP p) = true) :
    b.linkDown p = ((b.linkFallen p).irq (F.LNKn_IRQ_STATUS_LINK_CHANGE p)).linkBroken p false := by
  rw [Block.linkDown, h, if_neg (by decide)]
  rfl

/-- A field beside those a break is told in: of none of their words. -/
theorem breakBeside_of_addr {g : Fld} (h1 : g.addr ≠ R.LNK_ERR) (h2 : g.addr ≠ R.LNK_CHAIN_STATUS) (h3 : g.addr ≠ R.LNKn_IRQ_STATUS 0) :
    ∀ f ∈ breakFields, g.apart f = true := fun f hf => Fld.apart_of_addr (by
  rcases breakField_addr hf with h | h | h <;> rw [h]
  · exact h1
  · exact h2
  · exact h3)

/-- A field of the link layer below the interrupts, beside the sessions, that no break changes. -/
theorem Breaks.get_lnk {b t : Block} (h : Breaks b t) {g : Fld} {p o : Nat} (hp : p < 2) (ha : g.addr = 0x1C0000 + 0x10000 * p + o)
    (ho : o < 0x900 ∧ o ≠ 0x10 ∧ o ≠ 0x20 ∧ o ≠ 0x24) (hup : o = 0x04 → g.hi < 1 ∨ 1 < g.lo) (herr : o = 0x08 → g.hi < 3 ∨ 3 < g.lo) :
    t.get g = b.get g := by
  obtain ⟨-, hget, -⟩ := h
  refine hget g (sendBeside_lnk (leaveBeside_lnk hp ha (by omega) herr (by omega)) ha (by omega) hup (by omega)) (breakBeside_of_addr ?_ ?_ ?_)
  all_goals
    simp only [R.LNK_ERR, R.LNK_CHAIN_STATUS, R.LNKn_IRQ_STATUS]
    omega

section
variable {b : Block} {p : Nat}

/-- A field of a port that goes down, beside the session, its partner's slot, its count and its error, reads as UP has left it. -/
theorem Block.linkFallen_get {g : Fld} (h1 : g.apart (F.LNKn_STATUS_SESSION_UP p) = true) (h2 : g.addr ≠ R.LNKn_SESSION p)
    (h3 : g.apart (F.LNKn_STATUS_PARTNER_SLOT p) = true) (h4 : g.addr ≠ R.LNKn_CNT_Ei p 2) (h5 : g.apart (F.LNKn_ERR_LINK_DOWN p) = true)
    (h6 : g.apart (F.LNKn_IRQ_STATUS_ERR p) = true) (h30 : g.addr / 0x10000 ≠ 0x30) :
    (b.linkFallen p).get g = (b.set (F.LNKn_STATUS_UP p) 0).get g := by
  rw [Block.linkFallen, Block.raise_eq, Block.get_raiseAt_apart _ _ rfl rfl h5 h6 h30, Block.countSat_eq,
    Block.get_set_apart _ _ rfl (Fld.apart_of_addr h4), Block.get_set_apart _ _ rfl h3, Block.get_onLnk, Block.endSession_get _ h1 h2]

theorem Block.linkFallen_partner (hlen : p < b.lnk.ports.length) : ((b.linkFallen p).lnkPort p).partner = none := by
  have hset : ((b.set (F.LNKn_STATUS_UP p) 0).lnk) = b.lnk := b.set_lnk _ _
  obtain ⟨e, he⟩ := (b.set (F.LNKn_STATUS_UP p) 0).endSession_lnkPort p
  have hend : (((b.set (F.LNKn_STATUS_UP p) 0).endSession p).lnkPort p) = (b.lnkPort p).closed (e (b.lnkPort p)) := by
    rw [Block.lnkPort, he, hset]
    exact b.lnkPort_onLnk (fun x => x.closed (e x)) hlen
  have hfallen : (b.linkFallen p).lnkPort p
      = (((b.set (F.LNKn_STATUS_UP p) 0).endSession p).onLnk p (fun q => { q with lastId := none, offered := none })).lnkPort p := by
    rw [Block.linkFallen, Block.raise_eq, Block.countSat_eq, Block.lnkPort, Block.raiseAt_lnk, Block.set_lnk, Block.set_lnk, Block.lnkPort]
  rw [hfallen, Block.lnkPort_onLnk _ _ (by rw [he, hset, List.length_modify]; exact hlen), hend]
  rfl

theorem Block.linkFallen_spec (hp : p < 2) :
    let t := b.linkFallen p
    t.bit (F.LNKn_STATUS_UP p) = false ∧ t.bit (F.LNKn_STATUS_SESSION_UP p) = false ∧ t.get (F.LNKn_STATUS_PARTNER_SLOT p) = 0xFF
      ∧ t.bit (F.LNKn_ERR_LINK_DOWN p) = true
      ∧ t.get (F.LNKn_CNT_Ei p 2) = min (b.get (F.LNKn_CNT_Ei p 2) + 1) (2 ^ 32 - 1) ∧ t.get (F.LNKn_CTRL_EN p) = b.get (F.LNKn_CTRL_EN p)
      ∧ t.clk = b.clk := by
  have hclk : (b.linkFallen p).clk = b.clk := by
    rw [Block.linkFallen, Block.raise_eq, Block.raiseAt_clk, Block.countSat_eq, Block.set_clk, Block.set_clk]
    rfl
  rcases (by omega : p = 0 ∨ p = 1) with rfl | rfl
  all_goals
    refine ⟨?_, ?_, ?_, ?_, ?_, ?_, hclk⟩
    · rw [Block.bit, Block.linkFallen_get (by decide) (by decide) (by decide) (by decide) (by decide) (by decide) (by decide), ← Block.bit,
        Block.bit_set_zero_self _ rfl]
    · rw [Block.linkFallen, Block.raise_eq, Block.bit_raiseAt_apart _ _ rfl rfl (by decide) (by decide) (by decide), Block.countSat_eq,
        Block.bit_set_apart _ _ rfl (by decide), Block.bit_set_apart _ _ rfl (by decide), Block.bit_onLnk, (Block.endSession_ends _ _).1]
    · rw [Block.linkFallen, Block.raise_eq, Block.get_raiseAt_apart _ _ rfl rfl (by decide) (by decide) (by decide), Block.countSat_eq,
        Block.get_set_apart _ _ rfl (by decide), Block.get_set_self _ _ rfl]
      rfl
    · exact Block.bit_raiseAt_self (e := E.LNKn_LINK_DOWN _) _ _ rfl rfl rfl rfl (by decide)
    · rw [Block.linkFallen, Block.raise_eq, Block.get_raiseAt_apart _ _ rfl rfl (by decide) (by decide) (by decide), Block.countSat_eq,
        Block.get_set_self _ _ rfl, Block.get_set_apart _ _ rfl (by decide), Block.get_onLnk, Block.endSession_get _ (by decide) (by decide),
        Block.get_set_apart _ _ rfl (by decide)]
      exact Nat.mod_eq_of_lt (lt_of_le_of_lt (Nat.min_le_right _ _) (by show 2 ^ 32 - 1 < 2 ^ 32; decide))
    · rw [Block.linkFallen_get (by decide) (by decide) (by decide) (by decide) (by decide) (by decide) (by decide),
        Block.get_set_apart _ _ rfl (by decide)]

/-- A port that goes down: what stands when the chain has heard of it. -/
theorem linkDown_spec (hp : p < 2) (hup : b.bit (F.LNKn_STATUS_UP p) = true) :
    let t := b.linkDown p
    t.bit (F.LNKn_STATUS_UP p) = false ∧ t.bit (F.LNKn_STATUS_SESSION_UP p) = false ∧ t.get (F.LNKn_STATUS_PARTNER_SLOT p) = 0xFF
      ∧ t.bit (F.LNKn_ERR_LINK_DOWN p) = true ∧ (p < b.lnk.ports.length → (t.lnkPort p).partner = none)
      ∧ t.get (F.LNKn_CNT_Ei p 2) = min (b.get (F.LNKn_CNT_Ei p 2) + 1) (2 ^ 32 - 1) ∧ t.get (F.LNKn_CTRL_EN p) = b.get (F.LNKn_CTRL_EN p)
      ∧ t.clk = b.clk := by
  obtain ⟨hcup, hses, hslot, herr, hcnt, hen, hclk⟩ := b.linkFallen_spec hp
  have hpart := b.linkFallen_partner (p := p)
  intro t
  have ht : t = ((b.linkFallen p).irq (F.LNKn_IRQ_STATUS_LINK_CHANGE p)).linkBroken p false := linkDown_eq hup
  generalize b.linkFallen p = c at *
  have hbreak : Breaks (c.irq (F.LNKn_IRQ_STATUS_LINK_CHANGE p)) t := by
    rw [ht]
    exact breaking.linkBroken _ p false
  have hirq {g : Fld} (h : g.addr ≠ R.LNKn_IRQ_STATUS p) : (c.irq (F.LNKn_IRQ_STATUS_LINK_CHANGE p)).get g = c.get g :=
    Block.get_set_apart c 1 rfl (Fld.apart_of_addr h)
  have hget {g : Fld} (o : Nat) (ha : g.addr = 0x1C0000 + 0x10000 * p + o) (ho : o < 0x900 ∧ o ≠ 0x10 ∧ o ≠ 0x20 ∧ o ≠ 0x24)
      (hses : o = 0x04 → g.hi < 1 ∨ 1 < g.lo) (herr : o = 0x08 → g.hi < 3 ∨ 3 < g.lo) : t.get g = c.get g := by
    rw [hbreak.get_lnk hp ha ho hses herr, hirq (by rw [ha, R.LNKn_IRQ_STATUS]; omega)]
  obtain ⟨-, rpart, rses, -, -⟩ := hbreak.2.2 p hp
  refine ⟨?_, rses ?_, ?_, ?_, fun hlen => rpart ?_, ?_, ?_, by rw [hbreak.1, ← hclk]; exact Block.set_clk _ _ _⟩
  · rw [Block.bit, hget 0x04 (by simp only [F.LNKn_STATUS_UP, R.LNKn_STATUS]; omega) (by decide) (fun _ => .inl Nat.zero_lt_one) nofun, ← Block.bit,
      hcup]
  · rw [Block.bit, hirq (by simp only [F.LNKn_STATUS_SESSION_UP, R.LNKn_STATUS, R.LNKn_IRQ_STATUS]; omega), ← Block.bit, hses]
  · rw [hget 0x04 (by simp only [F.LNKn_STATUS_PARTNER_SLOT, R.LNKn_STATUS]; omega) (by decide) (fun _ => .inr (by
      show 1 < 8; decide)) nofun, hslot]
  · rw [Block.bit, hget 0x08 (by simp only [F.LNKn_ERR_LINK_DOWN, R.LNKn_ERR]; omega) (by decide) nofun (fun _ => .inl (by
      show 0 < 3; decide)), ← Block.bit, herr]
  · rw [Block.lnkPort, show (c.irq (F.LNKn_IRQ_STATUS_LINK_CHANGE p)).lnk = c.lnk from Block.set_lnk _ _ _, ← Block.lnkPort, hpart hlen]
  · rw [hget 0x68 (by simp only [F.LNKn_CNT_Ei, R.LNKn_CNT_Ei]; omega) (by decide) nofun nofun, hcnt]
  · rw [hget 0x00 (by simp only [F.LNKn_CTRL_EN, R.LNKn_CTRL]; omega) (by decide) nofun nofun, hen]

end

/-! ### LNKn_CTRL is written (R278, R341) -/

theorem linkPortEnable_tile {b : Block} {p v : Nat} (hp : p < 2) (hh : b.isHead = false) :
    linkPortEnable p v b =
      let c := b.set (F.LNKn_CTRL_EN p) v
      if b.bit (F.LNKn_CTRL_EN p) == c.bit (F.LNKn_CTRL_EN p) then c
      else if c.bit (F.LNKn_CTRL_EN p) then c.portEnable (2 + p) else (c.portDisable (2 + p)).linkDown p := by
  have hrole : (b.set (F.LNKn_CTRL_EN p) v).isHead = false := by
    rw [(Block.isHead_of_role (Block.get_set_apart b v rfl (Fld.apart_of_addr ?_))).1, hh]
    simp only [F.SYS_ROLE_ROLE, F.LNKn_CTRL_EN, R.SYS_ROLE, R.LNKn_CTRL]
    omega
  rw [linkPortEnable, if_neg (by omega)]
  dsimp only
  rw [hrole, Bool.false_and, Bool.false_or]

/-- A port's EN is beside the lanes. -/
theorem besideLane_linkEn {p : Nat} (hp : p < 2) (k : Nat) : BesideLane k (F.LNKn_CTRL_EN p) := by
  refine besideLane_common ?_ (Fld.apart_of_addr ?_)
  all_goals
    simp only [F.LNKn_CTRL_EN, R.LNKn_CTRL, F.SRD_STATUS_LANE_UP, R.SRD_STATUS]
    omega

section
variable {b : Block} {p : Nat} (hp : p < 2) (hh : b.isHead = false)
include hp hh

theorem linkPortEnable_stays {v : Nat} (he : b.bit (F.LNKn_CTRL_EN p) = false) (hv : (F.LNKn_CTRL_EN p).of v = 0) :
    let t := linkPortEnable p v b
    t.bit (F.LNKn_CTRL_EN p) = false ∧ SameWords [] b t ∧ SameMem b t := by
  have hv2 : v % 2 = 0 := by simpa [Fld.of, F.LNKn_CTRL_EN, Fld.width] using hv
  have hget : b.get (F.LNKn_CTRL_EN p) = 0 := by simpa [Block.bit] using he
  have hsame : v % 2 ^ (F.LNKn_CTRL_EN p).width = b.get (F.LNKn_CTRL_EN p) := by
    rw [hget]
    exact hv2
  have hen : (b.set (F.LNKn_CTRL_EN p) v).bit (F.LNKn_CTRL_EN p) = false := by
    rw [Block.bit, Block.get_set_same b rfl hsame, ← Block.bit, he]
  have heq : linkPortEnable p v b = b.set (F.LNKn_CTRL_EN p) v := by
    rw [linkPortEnable_tile hp hh]
    dsimp only
    rw [he, hen, if_pos (by decide)]
  rw [heq]
  exact ⟨hen, (sameWords_set_same rfl hsame).mpr (.refl _ b), (regsOnly_set b _ _).sameMem⟩

theorem linkPortEnable_trains (he : b.bit (F.LNKn_CTRL_EN p) = false) (hl : bitOf (b.get F.SRD_STATUS_PLL_LOCK) (2 + p) = false) :
    let t := linkPortEnable p 1 b
    t.bit (F.LNKn_CTRL_EN p) = true ∧ PortIn t (2 + p) lanePll ∧ SameOutside [0x1C, 0x1D, 0x1E] b t ∧ SameMem b t := by
  have hen : (b.set (F.LNKn_CTRL_EN p) 1).bit (F.LNKn_CTRL_EN p) = true := Block.bit_set_one_self b rfl rfl
  have hlock : (b.set (F.LNKn_CTRL_EN p) 1).get F.SRD_STATUS_PLL_LOCK = b.get F.SRD_STATUS_PLL_LOCK := by
    refine Block.get_set_apart b 1 rfl (Fld.apart_of_addr ?_)
    simp only [F.SRD_STATUS_PLL_LOCK, F.LNKn_CTRL_EN, R.SRD_STATUS, R.LNKn_CTRL]
    omega
  have hset : SameOutside [0x1C, 0x1D, 0x1E] b (b.set (F.LNKn_CTRL_EN p) 1) := by
    rcases (by omega : p = 0 ∨ p = 1) with rfl | rfl
    all_goals exact (sameOutside_set _ (by decide)).mpr (.refl _ b)
  have heq : linkPortEnable p 1 b = (b.set (F.LNKn_CTRL_EN p) 1).portEnable (2 + p) := by
    rw [linkPortEnable_tile hp hh]
    dsimp only
    rw [he, hen, if_neg (by decide), if_pos rfl]
  have hmem := (regsOnly_set b (F.LNKn_CTRL_EN p) 1).sameMem
  generalize b.set (F.LNKn_CTRL_EN p) 1 = c at *
  obtain ⟨hs, hin, hg⟩ := c.portTo_spec (p := 2 + p) (st := lanePll) (by omega) (by decide)
  have hgo : c.portEnable (2 + p) = c.portTo lanePll (2 + p) := by
    rw [Block.portEnable, Block.pllGo, hg _ fun _ _ => besideLane_common (by decide) rfl, hlock, hl]
    rfl
  rw [heq, hgo]
  generalize c.portTo lanePll (2 + p) = t at *
  refine ⟨?_, hin, hset.trans (hs.2.1.mono (by decide)), hmem.trans hs.sameMem⟩
  rw [Block.bit, hg _ fun k _ => besideLane_linkEn hp k, ← Block.bit, hen]

theorem linkPortEnable_stops (he : b.bit (F.LNKn_CTRL_EN p) = true) :
    let t := linkPortEnable p 0 b
    t.bit (F.LNKn_CTRL_EN p) = false ∧ t.bit (F.LNKn_STATUS_UP p) = false := by
  have hen : (b.set (F.LNKn_CTRL_EN p) 0).bit (F.LNKn_CTRL_EN p) = false := Block.bit_set_zero_self b rfl
  have heq : linkPortEnable p 0 b = ((b.set (F.LNKn_CTRL_EN p) 0).portDisable (2 + p)).linkDown p := by
    rw [linkPortEnable_tile hp hh]
    dsimp only
    rw [he, hen, if_neg (by decide), if_neg (by decide)]
  rw [heq]
  generalize b.set (F.LNKn_CTRL_EN p) 0 = c at *
  obtain ⟨-, -, hg⟩ := c.portTo_spec (p := 2 + p) (st := laneOff) (by omega) (by decide)
  have hoff : (c.portDisable (2 + p)).bit (F.LNKn_CTRL_EN p) = false := by
    rw [Block.portDisable, Block.bit, hg _ fun k _ => besideLane_linkEn hp k, ← Block.bit, hen]
  generalize c.portDisable (2 + p) = d at *
  cases hup : d.bit (F.LNKn_STATUS_UP p) with
  | false =>
    rw [Block.linkDown, hup, if_pos (by decide)]
    exact ⟨hoff, hup⟩
  | true =>
    obtain ⟨hdown, -, -, -, -, -, hctrl, -⟩ := linkDown_spec hp hup
    exact ⟨by rw [Block.bit, hctrl, ← Block.bit, hoff], hdown⟩

end

end Sys2Proof.Machine
end

section
/-!
PROOFS of chapter 8: what arrives on channel V and goes on (R237, R238, R248), and what the link layer's statement says.
-/

namespace Sys2Proof.Machine

/-! ### A frame of channel V is heard -/

/-- The cells of a frame of channel V are counted, and those that were wrong. -/
def Block.vHeard (b : Block) (p cells wrong : Nat) : Block := (b.countCells p 1 cells).cellErrors p wrong

/-- What counting at port `p` can change: registers of the two ports, beside the chain's own. -/
def PortTold (p : Nat) (b t : Block) : Prop :=
  RegsOnly b t ∧ SameOutside [0x1C, 0x1D] b t
    ∧ ∀ g : Fld, g.addr / 0x10000 ≠ 0x1C + p ∨ g.addr % 0x10000 ∈ [0x00, 0x04, 0x1004] → t.get g = b.get g

theorem PortTold.trans {p : Nat} {b c t : Block} (h : PortTold p b c) (k : PortTold p c t) : PortTold p b t :=
  ⟨h.1.trans k.1, h.2.1.trans k.2.1, fun g hg => (k.2.2 g hg).trans (h.2.2 g hg)⟩

section
variable (b : Block) {p : Nat} (hp : p < 2)
include hp

theorem portTold_set {f : Fld} {o : Nat} (v : Nat) (hok : f.ok = true) (ha : f.addr = 0x1C0000 + 0x10000 * p + o)
    (ho : 0x04 < o ∧ o < 0x8000 ∧ o ≠ 0x1004) : PortTold p b (b.set f v) := by
  have hkey : keyAddr f.addr / 0x10000 ∈ [0x1C, 0x1D] := by
    have hlow : f.addr % 2 ^ 32 = f.addr := Nat.mod_eq_of_lt (by omega)
    rw [keyAddr, hlow]
    rw [if_neg (by omega)]
    simp only [List.mem_cons, List.not_mem_nil, or_false]
    omega
  refine ⟨regsOnly_set b f v, (sameOutside_set v hkey).mpr (.refl _ b), fun g hg => Block.get_set_apart b v hok (Fld.apart_of_addr ?_)⟩
  simp only [List.mem_cons, List.not_mem_nil, or_false] at hg
  omega

theorem portTold_countPair {lo hi : Fld} {o : Nat} (n : Nat) (hlo : lo.ok = true) (hhi : hi.ok = true)
    (hal : lo.addr = 0x1C0000 + 0x10000 * p + o) (hah : hi.addr = 0x1C0000 + 0x10000 * p + (o + 4)) (ho : 0x04 < o ∧ o < 0x900) :
    PortTold p b (b.countPair lo hi n) := by
  rw [Block.countPair, Block.setPair_eq]
  exact (portTold_set b hp _ hlo hal (by omega)).trans (portTold_set _ hp _ hhi hah (by omega))

theorem portTold_countSat {i : Nat} (n : Nat) (hi : i < 8) : PortTold p b (b.countSat (F.LNKn_CNT_Ei p i) n) := by
  rw [Block.countSat_eq]
  exact portTold_set b hp (o := 0x60 + 4 * i) _ rfl (by simp only [F.LNKn_CNT_Ei, R.LNKn_CNT_Ei]; omega) (by omega)

theorem portTold_countCells {way : Nat} (n : Nat) (hw : way < 4) : PortTold p b (b.countCells p way n) :=
  portTold_countPair b hp (o := 0x20 + 8 * way) n rfl rfl (by simp only [F.LNKn_CNT_Ti_LO, R.LNKn_CNT_Ti_LO]; omega)
    (by simp only [F.LNKn_CNT_Ti_HI, R.LNKn_CNT_Ti_HI]; omega) (by omega)

theorem portTold_cellErr : PortTold p b (b.raise (E.LNKn_CELL_ERR p)) := by
  rw [Block.raise_eq, Block.raiseAt]
  split
  · exact ⟨rfl, .refl _ b, fun _ _ => rfl⟩
  · exact (portTold_set b hp (o := 0x08) 1 rfl (by simp only [E.LNKn_CELL_ERR, F.LNKn_ERR_CELL_ERR, R.LNKn_ERR]; omega) (by decide)).trans
      (portTold_set _ hp (o := 0x7FF0) 1 rfl (by simp only [E.LNKn_CELL_ERR, F.LNKn_IRQ_STATUS_ERR, R.LNKn_IRQ_STATUS]; omega) (by decide))

theorem portTold_vHeard (cells wrong : Nat) : PortTold p b (b.vHeard p cells wrong) := by
  have hc := portTold_countCells b hp (way := 1) cells (by decide)
  rw [Block.vHeard, Block.cellErrors]
  split
  · exact hc
  · exact (hc.trans (portTold_countSat _ hp (i := 0) wrong (by decide))).trans (portTold_cellErr _ hp)

end

section
variable {b t : Block} {p : Nat} (hp : p < 2) (h : PortTold p b t)
include h

theorem PortTold.slot : t.slotNumber = b.slotNumber ∧ t.bit F.LNK_CHAIN_STATUS_SLOT_VALID = b.bit F.LNK_CHAIN_STATUS_SLOT_VALID := by
  have hg {g : Fld} (ha : g.addr = R.LNK_CHAIN_STATUS) : t.get g = b.get g := h.2.2 g (.inr (by rw [ha]; decide))
  exact ⟨by rw [Block.slotNumber, hg rfl, Block.slotNumber], by rw [Block.bit, hg rfl, Block.bit]⟩

include hp in
theorem PortTold.onward : t.onward p = b.onward p := by
  have hh : t.isHead = b.isHead := by
    refine (Block.isHead_of_role (h.2.2 _ (.inl ?_))).1
    simp only [F.SYS_ROLE_ROLE, R.SYS_ROLE]
    omega
  have hport (q : Nat) : t.lnkPort q = b.lnkPort q := by rw [Block.lnkPort, h.1, Block.lnkPort]
  have hup : t.bit (F.LNKn_STATUS_UP (1 - p)) = b.bit (F.LNKn_STATUS_UP (1 - p)) := by
    rw [Block.bit, h.2.2 _ (.inl ?_), Block.bit]
    simp only [F.LNKn_STATUS_UP, R.LNKn_STATUS]
    omega
  have hen : t.bit (F.LNKn_CTRL_EN (1 - p)) = b.bit (F.LNKn_CTRL_EN (1 - p)) := by
    rw [Block.bit, h.2.2 _ (.inl ?_), Block.bit]
    simp only [F.LNKn_CTRL_EN, R.LNKn_CTRL]
    omega
  have hcar : t.carries (1 - p) = b.carries (1 - p) := by rw [Block.carries, hup, hport, hh, Block.carries, h.1]
  rw [Block.onward, Block.onward, hh, hcar, hen]

end

/-! ### A frond for another slot -/

/-- A frond is counted as passed on, and leaves port `o` with its CRC as it was found. -/
def Block.frondPassed (b : Block) (p o : Nat) (f : Frond) : Block :=
  (b.countPair (F.LNKn_CNT_Ti_LO p 2) (F.LNKn_CNT_Ti_HI p 2) 1).sendFrond o f

/-- A frond whose CRC failed is counted. -/
def Block.crcJudged (b : Block) (p : Nat) (ok : Bool) : Block := if ok then b else b.countSat (F.LNKn_CNT_Ei p 1) 1

section
variable {b : Block} {p : Nat} {f : Frond} {bad : List Nat}

theorem Block.passFrond_some {o : Nat} (h : (b.crcJudged p (f.crcOk && bad.isEmpty)).onward p = some o) : b.passFrond p f bad
    = (b.crcJudged p (f.crcOk && bad.isEmpty)).frondPassed p o { f.zeroed bad with crcOk := f.crcOk && bad.isEmpty } := by
  rw [Block.passFrond]
  dsimp only
  split
  · next ho =>
    obtain rfl := Option.some.inj (h.symm.trans ho)
    rfl
  · next ho => exact absurd (h.symm.trans ho) nofun

theorem Block.passFrond_none (h : (b.crcJudged p (f.crcOk && bad.isEmpty)).onward p = none) : b.passFrond p f bad
    = (b.crcJudged p (f.crcOk && bad.isEmpty)).countSat (F.LNKn_CNT_Ei p 4) 1 := by
  rw [Block.passFrond]
  dsimp only
  split
  · next ho => exact absurd (h.symm.trans ho) nofun
  · rfl

theorem Block.onward_port {o : Nat} (h : b.onward p = some o) : o = 1 - p := by
  rw [Block.onward] at h
  split at h
  · exact (Option.some.inj h).symm
  · cases h

end

section
variable (b : Block) {p : Nat} (f : Frond) (hp : p < 2)
include hp

/-- The frond leaves; the rest is counted at the two ports. -/
theorem Block.frondPassed_spec : ∃ c : Block, ∃ d : Block, PortTold p b c ∧ PortTold (1 - p) c d ∧ b.frondPassed p (1 - p) f = d.emit (.frond (1 - p) f) :=
  ⟨_, _, portTold_countPair b hp (o := 0x30) 1 rfl rfl (by simp only [F.LNKn_CNT_Ti_LO, R.LNKn_CNT_Ti_LO]; omega)
    (by simp only [F.LNKn_CNT_Ti_HI, R.LNKn_CNT_Ti_HI]; omega) (by decide), portTold_countCells _ (by omega) (frondCells f.w) (by decide), rfl⟩

theorem Block.passFrond_slotNumber (bad : List Nat) : (b.passFrond p f bad).slotNumber = b.slotNumber := by
  have hok : (b.crcJudged p (f.crcOk && bad.isEmpty)).slotNumber = b.slotNumber := by
    rw [Block.crcJudged]
    split
    · rfl
    · exact (portTold_countSat b hp 1 (by decide)).slot.1
  cases hon : (b.crcJudged p (f.crcOk && bad.isEmpty)).onward p with
  | none =>
    rw [Block.passFrond_none hon, ← hok]
    exact (portTold_countSat _ hp 1 (by decide)).slot.1
  | some o =>
    rw [Block.passFrond_some hon, ← hok, Block.onward_port hon]
    generalize b.crcJudged p (f.crcOk && bad.isEmpty) = c
    obtain ⟨d, e, hd, he, heq⟩ := c.frondPassed_spec { f.zeroed bad with crcOk := f.crcOk && bad.isEmpty } hp
    rw [heq, ← hd.slot.1, ← he.slot.1]
    rfl

variable {b f} in
theorem frondArrive_passes {bad : List Nat} (hc : b.carries p = true)
    (hslot : b.bit F.LNK_CHAIN_STATUS_SLOT_VALID = true → f.slot ≠ b.slotNumber) (hbad : bad.contains 0 = false) :
    frondArrive p (.frond f) bad b = (b.vHeard p (frondCells f.w) bad.length).passFrond p f bad := by
  obtain ⟨hnum, hval⟩ := (portTold_vHeard b hp (frondCells f.w) bad.length).slot
  have hother : (b.bit F.LNK_CHAIN_STATUS_SLOT_VALID && f.slot == b.slotNumber) = false := by
    cases hv : b.bit F.LNK_CHAIN_STATUS_SLOT_VALID
    · rfl
    · rw [Bool.true_and, beq_eq_false_iff_ne]
      exact hslot hv
  have hv : vArrive p (.frond f) bad b = (b.vHeard p (frondCells f.w) bad.length).passFrond p f bad := by
    rw [vArrive, if_neg (by rw [hc]; simp; omega)]
    change (if bad.contains 0 then b.vHeard p (frondCells f.w) bad.length else _) = _
    rw [hbad, if_neg (by decide)]
    change (if (b.vHeard p (frondCells f.w) bad.length).bit F.LNK_CHAIN_STATUS_SLOT_VALID
      && f.slot == (b.vHeard p (frondCells f.w) bad.length).slotNumber then _ else _) = _
    rw [hval, hnum, hother, if_neg (by decide)]
    rfl
  have hnot : (decide (p < 2) && b.carries p && b.bit F.LNK_CHAIN_STATUS_SLOT_VALID
      && f.slot == ((b.vHeard p (frondCells f.w) bad.length).passFrond p f bad).slotNumber && !bad.contains 0) = false := by
    rw [Block.passFrond_slotNumber _ f hp, hnum, Bool.and_assoc _ (b.bit _), hother]
    simp
  rw [frondArrive, hv]
  dsimp only
  rw [hnot]
  rfl

/-- A register of the port a frond arrived at stays as it goes on, beside the count of what passes. -/
theorem Block.frondPassed_get {g : Fld} {o : Nat} (ha : g.addr = 0x1C0000 + 0x10000 * p + o) (ho : o < 0x10000 ∧ o ≠ 0x30 ∧ o ≠ 0x34) :
    (b.frondPassed p (1 - p) f).get g = b.get g := by
  have hcells := portTold_countCells (b.countPair (F.LNKn_CNT_Ti_LO p 2) (F.LNKn_CNT_Ti_HI p 2) 1) (p := 1 - p) (by omega) (frondCells f.w)
    (way := 0) (by decide)
  have hlo : g.addr ≠ (F.LNKn_CNT_Ti_LO p 2).addr := by rw [lnkTrafficLo_addr, R.LNKn_CNT_Ti_LO]; omega
  have hhi : g.addr ≠ (F.LNKn_CNT_Ti_HI p 2).addr := by rw [lnkTrafficHi_addr, R.LNKn_CNT_Ti_HI]; omega
  have hget : (b.frondPassed p (1 - p) f).get g
      = ((b.countPair (F.LNKn_CNT_Ti_LO p 2) (F.LNKn_CNT_Ti_HI p 2) 1).countCells (1 - p) 0 (frondCells f.w)).get g := rfl
  rw [hget, hcells.2.2 g (.inl (by omega)), Block.countPair, Block.setPair_eq, Block.get_set_apart _ _ rfl (Fld.apart_of_addr hhi),
    Block.get_set_apart _ _ rfl (Fld.apart_of_addr hlo)]

theorem Block.frondPassed_keeps :
    let t := b.frondPassed p (1 - p) f
    t.out = .frond (1 - p) f :: b.out ∧ t.scn = b.scn ∧ SameOutside [0x1C, 0x1D] b t ∧ SameMem b t := by
  obtain ⟨c, d, ⟨hcr, hco, -⟩, ⟨hdr, hdo, -⟩, heq⟩ := b.frondPassed_spec f hp
  have hr := hcr.trans hdr
  have hout : d.out = b.out := by rw [hr]
  rw [heq]
  refine ⟨by rw [Block.emit, hout], by rw [Block.emit_scn, hr.scn], (sameOutside_emit _ _ d _).mpr (hco.trans hdo), ?_⟩
  rw [sameMem_congr (Block.emit_dram _ _) (Block.emit_qdr _ _)]
  exact hr.sameMem

end

section
variable {b : Block} {p : Nat} {f : Frond} (hp : p < 2)

theorem Block.onward_some (hh : b.isHead = false) (hc : b.carries (1 - p) = true) (he : b.bit (F.LNKn_CTRL_EN (1 - p)) = true) :
    b.onward p = some (1 - p) := by
  rw [Block.onward, hh, hc, he]
  rfl

theorem Block.onward_none (hc : b.carries (1 - p) = false) : b.onward p = none := by
  rw [Block.onward, hc, Bool.and_false, Bool.false_and]
  rfl

include hp

/-- A frond that is whole goes on as it came. -/
theorem frondRelay_whole (hc : b.carries p = true) (hslot : b.bit F.LNK_CHAIN_STATUS_SLOT_VALID = true → f.slot ≠ b.slotNumber)
    (hon : b.onward p = some (1 - p)) (hf : f.crcOk = true) :
    let t := frondArrive p (.frond f) [] b
    t.out = .frond (1 - p) f :: b.out ∧ t.scn = b.scn ∧ SameOutside [0x1C, 0x1D] b t ∧ SameMem b t := by
  have hheard := portTold_vHeard b hp (frondCells f.w) 0
  have hwhole : ({ f.zeroed [] with crcOk := true } : Frond) = f := by
    obtain ⟨⟩ := f
    simp only at hf
    rw [hf]
    rfl
  rw [frondArrive_passes hp hc hslot rfl, List.length_nil]
  generalize b.vHeard p (frondCells f.w) 0 = c at *
  have heq : c.passFrond p f [] = c.frondPassed p (1 - p) f := by
    have hjudged : c.crcJudged p (f.crcOk && List.isEmpty ([] : List Nat)) = c := by rw [hf]; rfl
    rw [Block.passFrond_some (o := 1 - p) (by rw [hjudged, hheard.onward hp, hon]), hjudged, hf]
    exact congrArg (c.frondPassed p (1 - p)) hwhole
  rw [heq]
  obtain ⟨ho, hs, hout, hmem⟩ := c.frondPassed_keeps f hp
  have hcout : c.out = b.out := by rw [hheard.1]
  exact ⟨by rw [ho, hcout], by rw [hs, hheard.1.scn], hheard.2.1.trans hout, hheard.1.sameMem.trans hmem⟩

/-- A frond with no way on is dropped and counted. -/
theorem frondRelay_dropped (hc : b.carries p = true) (hslot : b.bit F.LNK_CHAIN_STATUS_SLOT_VALID = true → f.slot ≠ b.slotNumber)
    (hon : b.onward p = none) (hf : f.crcOk = true) :
    let t := frondArrive p (.frond f) [] b
    t.out = b.out ∧ t.get (F.LNKn_CNT_Ei p 4) = min (b.get (F.LNKn_CNT_Ei p 4) + 1) (2 ^ 32 - 1) ∧ SameMem b t := by
  have hheard := portTold_vHeard b hp (frondCells f.w) 0
  have hcnt : (b.vHeard p (frondCells f.w) 0).get (F.LNKn_CNT_Ei p 4) = b.get (F.LNKn_CNT_Ei p 4) := by
    obtain ⟨-, -, hg⟩ := b.countCells_spec p 1 (frondCells f.w)
    refine hg _ ?_ ?_
    all_goals
      simp only [F.LNKn_CNT_Ei, R.LNKn_CNT_Ei, R.LNKn_CNT_Ti_LO, R.LNKn_CNT_Ti_HI]
      omega
  rw [frondArrive_passes hp hc hslot rfl, List.length_nil]
  generalize b.vHeard p (frondCells f.w) 0 = c at *
  have heq : c.passFrond p f [] = c.countSat (F.LNKn_CNT_Ei p 4) 1 := by
    have hjudged : c.crcJudged p (f.crcOk && List.isEmpty ([] : List Nat)) = c := by rw [hf]; rfl
    rw [Block.passFrond_none (by rw [hjudged, hheard.onward hp, hon]), hjudged]
  have hcout : c.out = b.out := by rw [hheard.1]
  rw [heq, Block.countSat_eq]
  refine ⟨by rw [Block.set_out, hcout], ?_, hheard.1.sameMem.trans (regsOnly_set c _ _).sameMem⟩
  rw [Block.get_set_self _ _ rfl, hcnt]
  exact Nat.mod_eq_of_lt (lt_of_le_of_lt (Nat.min_le_right _ _) (by show 2 ^ 32 - 1 < 2 ^ 32; decide))

/-- Wrong cells are counted and told. -/
theorem Block.vHeard_wrong {n cells : Nat} (hn : 0 < n) :
    let t := b.vHeard p cells n
    t.bit (F.LNKn_ERR_CELL_ERR p) = true ∧ t.get (F.LNKn_CNT_Ei p 0) = min (b.get (F.LNKn_CNT_Ei p 0) + n) (2 ^ 32 - 1)
      ∧ t.get (F.LNKn_CNT_Ei p 1) = b.get (F.LNKn_CNT_Ei p 1) := by
  obtain ⟨-, -, hg⟩ := b.countCells_spec p 1 cells
  have hcells (i : Nat) : (b.countCells p 1 cells).get (F.LNKn_CNT_Ei p i) = b.get (F.LNKn_CNT_Ei p i) := by
    refine hg _ ?_ ?_
    all_goals
      simp only [F.LNKn_CNT_Ei, R.LNKn_CNT_Ei, R.LNKn_CNT_Ti_LO, R.LNKn_CNT_Ti_HI]
      omega
  rw [Block.vHeard, Block.cellErrors, if_neg (by omega), Block.raise_eq, Block.countSat_eq]
  have hi (i : Nat) (c : Block) (hi : i < 2) : (c.raiseAt (E.LNKn_CELL_ERR p) noDetail).get (F.LNKn_CNT_Ei p i) = c.get (F.LNKn_CNT_Ei p i) := by
    refine Block.get_raiseAt_apart c _ rfl rfl (Fld.apart_of_addr ?_) (Fld.apart_of_addr ?_) ?_
    all_goals
      simp only [F.LNKn_CNT_Ei, R.LNKn_CNT_Ei, E.LNKn_CELL_ERR, F.LNKn_ERR_CELL_ERR, R.LNKn_ERR, F.LNKn_IRQ_STATUS_ERR, R.LNKn_IRQ_STATUS]
      omega
  refine ⟨?_, ?_, ?_⟩
  · rcases (by omega : p = 0 ∨ p = 1) with rfl | rfl
    all_goals exact Block.bit_raiseAt_self (e := E.LNKn_CELL_ERR _) _ _ rfl rfl rfl rfl (by decide)
  · rw [hi 0 _ (by decide), Block.get_set_self _ _ rfl, hcells]
    exact Nat.mod_eq_of_lt (lt_of_le_of_lt (Nat.min_le_right _ _) (by show 2 ^ 32 - 1 < 2 ^ 32; decide))
  · rw [hi 1 _ (by decide), Block.get_set_apart _ _ rfl (Fld.apart_of_addr (by simp only [F.LNKn_CNT_Ei, R.LNKn_CNT_Ei]; omega)), hcells]

/-- A frond with a wrong cell goes on with its CRC failed. -/
theorem frondRelay_failed {k : Nat} (hk : 0 < k) (hc : b.carries p = true)
    (hslot : b.bit F.LNK_CHAIN_STATUS_SLOT_VALID = true → f.slot ≠ b.slotNumber) (hon : b.onward p = some (1 - p)) :
    let t := frondArrive p (.frond f) [k] b
    t.out = .frond (1 - p) { f.zeroed [k] with crcOk := false } :: b.out ∧ t.bit (F.LNKn_ERR_CELL_ERR p) = true
      ∧ t.get (F.LNKn_CNT_Ei p 0) = min (b.get (F.LNKn_CNT_Ei p 0) + 1) (2 ^ 32 - 1)
      ∧ t.get (F.LNKn_CNT_Ei p 1) = min (b.get (F.LNKn_CNT_Ei p 1) + 1) (2 ^ 32 - 1) ∧ t.scn = b.scn := by
  have hheard := portTold_vHeard b hp (frondCells f.w) 1
  obtain ⟨herr, h0, h1⟩ := b.vHeard_wrong hp (cells := frondCells f.w) (n := 1) (by decide)
  rw [frondArrive_passes hp hc hslot (by simp; omega), List.length_singleton]
  generalize b.vHeard p (frondCells f.w) 1 = c at *
  have hcount := portTold_countSat c hp (i := 1) 1 (by decide)
  have heq : c.passFrond p f [k] = (c.countSat (F.LNKn_CNT_Ei p 1) 1).frondPassed p (1 - p) { f.zeroed [k] with crcOk := false } := by
    have hfailed : (f.crcOk && List.isEmpty [k]) = false := by rw [List.isEmpty_cons, Bool.and_false]
    have hjudged : c.crcJudged p (f.crcOk && List.isEmpty [k]) = c.countSat (F.LNKn_CNT_Ei p 1) 1 := by rw [hfailed]; rfl
    rw [Block.passFrond_some (o := 1 - p) (by rw [hjudged, hcount.onward hp, hheard.onward hp, hon]), hjudged, hfailed]
  obtain ⟨ho, hs, -, -⟩ := (c.countSat (F.LNKn_CNT_Ei p 1) 1).frondPassed_keeps { f.zeroed [k] with crcOk := false } hp
  have hget {g : Fld} (o : Nat) (ha : g.addr = 0x1C0000 + 0x10000 * p + o) (ho : o < 0x10000 ∧ o ≠ 0x30 ∧ o ≠ 0x34) :
      (c.passFrond p f [k]).get g = (c.countSat (F.LNKn_CNT_Ei p 1) 1).get g := by
    rw [heq]
    exact Block.frondPassed_get _ _ hp ha ho
  have hcout : (c.countSat (F.LNKn_CNT_Ei p 1) 1).out = b.out := by rw [hcount.1, hheard.1]
  refine ⟨by rw [heq, ho, hcout], ?_, ?_, ?_, by rw [heq, hs, hcount.1.scn, hheard.1.scn]⟩
  · rw [Block.bit, hget 0x08 (by simp only [F.LNKn_ERR_CELL_ERR, R.LNKn_ERR]; omega) (by decide), Block.countSat_eq,
      Block.get_set_apart _ _ rfl (Fld.apart_of_addr (by simp only [F.LNKn_ERR_CELL_ERR, R.LNKn_ERR, F.LNKn_CNT_Ei, R.LNKn_CNT_Ei]; omega)),
      ← Block.bit, herr]
  · rw [hget 0x60 (by simp only [F.LNKn_CNT_Ei, R.LNKn_CNT_Ei]; omega) (by decide), Block.countSat_eq,
      Block.get_set_apart _ _ rfl (Fld.apart_of_addr (by simp only [F.LNKn_CNT_Ei, R.LNKn_CNT_Ei]; omega)), h0]
  · rw [hget 0x64 (by simp only [F.LNKn_CNT_Ei, R.LNKn_CNT_Ei]; omega) (by decide), Block.countSat_eq, Block.get_set_self _ _ rfl, h1]
    exact Nat.mod_eq_of_lt (lt_of_le_of_lt (Nat.min_le_right _ _) (by show 2 ^ 32 - 1 < 2 ^ 32; decide))

/-- Cells without a start word are counted as wrong. -/
theorem frondArrive_stray {n : Nat} {bad : List Nat} (hc : b.carries p = true) (hn : 0 < n) :
    let t := frondArrive p (.stray n) bad b
    t.bit (F.LNKn_ERR_CELL_ERR p) = true ∧ t.get (F.LNKn_CNT_Ei p 0) = min (b.get (F.LNKn_CNT_Ei p 0) + n) (2 ^ 32 - 1)
      ∧ t.out = b.out ∧ SameMem b t := by
  have heq : frondArrive p (.stray n) bad b = b.vHeard p n n := by
    change vArrive p (.stray n) bad b = _
    rw [vArrive, if_neg (by rw [hc]; simp; omega)]
    rfl
  obtain ⟨herr, h0, -⟩ := b.vHeard_wrong hp (cells := n) hn
  have hheard := portTold_vHeard b hp n n
  rw [heq]
  exact ⟨herr, h0, by rw [hheard.1], hheard.1.sameMem⟩

end

end Sys2Proof.Machine
end

section
/-!
PROOFS of chapter 8: what the link layer's statement says.
-/

namespace Sys2Proof.Machine

theorem Block.settle_lnkPort (b : Block) (p : Nat) : b.settle.lnkPort p = b.lnkPort p := by
  rw [Block.lnkPort, Block.settle_lnk, Block.lnkPort]

theorem Block.settle_carries (b : Block) (p : Nat) : b.settle.carries p = b.carries p := by
  rw [Block.carries, Block.settle_bit, Block.settle_lnkPort, (Block.isHead_of_role (Block.settle_get _ _)).1, Block.carries]
  rfl

theorem linkIdTimeout_spec {b : Block} {p t0 : Nat} (hp : p < 2) (hlen : b.lnk.ports.length = 2) (hup : b.bit (F.LNKn_STATUS_UP p) = true)
    (hl : (b.lnkPort p).lastId = some t0) :
    let t := linkIdTimeout p b
    t.bit (F.LNKn_STATUS_UP p) = false ∧ t.bit (F.LNKn_STATUS_SESSION_UP p) = false ∧ t.get (F.LNKn_STATUS_PARTNER_SLOT p) = 0xFF
      ∧ t.bit (F.LNKn_ERR_LINK_DOWN p) = true ∧ (t.lnkPort p).partner = none
      ∧ t.get (F.LNKn_CNT_Ei p 2) = min (b.get (F.LNKn_CNT_Ei p 2) + 1) (2 ^ 32 - 1) ∧ t.clk = max b.clk (t0 + 500000) := by
  have heq : linkIdTimeout p b = (b.untilClk (t0 + 500000)).linkDown p := by
    rw [linkIdTimeout, hl]
    exact if_pos ⟨hp, hup⟩
  have hwait : (b.untilClk (t0 + 500000)).bit (F.LNKn_STATUS_UP p) = true := by rw [Block.untilClk_bit, hup]
  have hports : (b.untilClk (t0 + 500000)).lnk.ports.length = 2 := by rw [Block.untilClk_lnk, hlen]
  have hcnt := b.untilClk_get (t0 + 500000) (F.LNKn_CNT_Ei p 2)
  have hclk := b.untilClk_clk (t0 + 500000)
  rw [heq]
  generalize b.untilClk (t0 + 500000) = c at *
  obtain ⟨h1, h2, h3, h4, h5, h6, -, h8⟩ := linkDown_spec hp hwait
  exact ⟨h1, h2, h3, h4, h5 (by omega), by rw [h6, hcnt], by rw [h8, hclk]⟩

theorem linkPortDown_eq {b : Block} {p : Nat} (hp : p < 2) (ht : b.trained (2 + p) = false) : linkPortDown p b = b.linkDown p := by
  rw [linkPortDown, if_pos ⟨hp, by rw [ht]; rfl⟩]

/-- Settles O53, clause by clause: the port's own steps are followed through, and what the chain hears of them keeps what rests. -/
theorem chainLinks : Obligations.ChainLinks := by
  refine ⟨?_, ?_, ?_, ?_, ?_, ?_, ?_, ?_, ?_, ?_, ?_⟩
  · intro b p n hr hp hlen ht hn
    refine gives_of_done (t := linkIdSend p b) hr (fun _ => rfl) ?_
    obtain ⟨ho, hs, hw, hm⟩ := linkIdSend_spec hp hlen ht hn
    generalize linkIdSend p b = t at *
    refine ⟨⟨b.linkIdOf p n, by rw [Block.settle_out, ho], rfl, rfl, rfl, rfl, rfl, rfl, rfl, ?_, rfl⟩, by rw [Block.settle_lnkPort, hs],
      (sameWords_settle _ _ _).mpr hw, (sameMem_settle _ _).mpr hm⟩
    rw [Block.linkIdOf]
    cases (b.lnkPort p).partner <;> simp
  · intro b p own x key hr hp hlen ht hrole hup hs ho hpt he hid hk hseq hxp hxs hxt hc hxn
    refine gives_of_done (t := linkId p x b) hr (fun _ => rfl) ?_
    obtain ⟨h1, h2, h3, h4, h5, h6, h7, h8, h9⟩ := linkId_new hp hlen ht hrole hup hs ho hpt he hid hk hseq hxp hxs hxt hc hxn
    generalize linkId p x b = t at *
    simp only [Block.settle_bit, Block.settle_get, Block.settle_lnkPort]
    exact ⟨h1, h2, h3, h4, h5, h6, h7, b.linkSession p key own x.nonce x.serial, rfl, h8, h9⟩
  · intro b p x hr hp hlen ht _ hup hw hpt hxp hxs hxt hc
    refine gives_of_done (t := linkId p x b) hr (fun _ => rfl) ?_
    obtain ⟨h1, h2⟩ := linkId_tagged hp hlen ht hup hw hpt hxp hxs hxt hc
    generalize linkId p x b = t at *
    simp only [Block.settle_bit]
    exact ⟨h1, h2⟩
  · intro b p x hr hp hlen ht hup hx
    refine gives_of_done (t := linkId p x b) hr (fun _ => rfl) ?_
    have hbad : b.miscabled p x = true := by
      rw [Block.miscabled]
      rcases hx with hx | ⟨hx, hc⟩
      · rw [beq_iff_eq.mpr hx, Bool.true_or]
      · rw [hx, bne_iff_ne.mpr hc, Bool.and_self, Bool.or_true]
    obtain ⟨h1, h2, h3, h4, h5, h6⟩ := linkId_wrong hp hlen ht hup hbad
    generalize linkId p x b = t at *
    simp only [Block.settle_bit, Block.settle_get, Block.settle_lnkPort, Block.settle_carries, sameOutside_settle, sameMem_settle]
    exact ⟨h1, h2, h3, h4, h5, h6⟩
  · intro b k s t hlen ht ho hv hs hst hs64 hsrc hnode hn
    subst hs
    have hb : slotBorne t (k + 1) = true := by
      rw [slotBorne, hsrc, hnode]
      simp [hst]
    rw [takeSlot_first k hlen ht ho hv hb hsrc]
    obtain ⟨h1, h2, h3, h4, h5⟩ := (b.offeredWest k).slotTaken_spec hs64 hn
    exact ⟨h1, h2, h3, h4, h5⟩
  · intro b k o t hlen ht ho hne
    rw [takeSlot_mismatch k hlen ht ho hne]
    exact (b.offeredWest k).refuseSlot_spec
  · intro b p t0 hr hp hlen hup hl
    refine gives_of_done (t := linkIdTimeout p b) hr (fun _ => rfl) ?_
    have h := linkIdTimeout_spec hp hlen hup hl
    generalize linkIdTimeout p b = t at *
    simp only [Block.settle_bit, Block.settle_get, Block.settle_lnkPort, Block.settle_clk]
    exact h
  · intro b p hr hp hlen hup ht
    refine gives_of_done (t := linkPortDown p b) hr (fun _ => rfl) ?_
    obtain ⟨h1, h2, -, h4, h5, -, -, h8⟩ := linkDown_spec hp hup
    rw [linkPortDown_eq hp ht]
    generalize b.linkDown p = t at *
    simp only [Block.settle_bit, Block.settle_lnkPort, Block.settle_clk]
    exact ⟨h1, h2, h4, h5 (by omega), h8⟩
  · intro b path p v hr hp hg hh
    refine ⟨fun he hv => ?_, fun he hv hl => ?_, fun he hv => ?_⟩
    · refine gives_of_writing (f := linkPortEnable p v.toNat) hr hg (fun _ => rfl) ?_
      obtain ⟨h1, h2, h3⟩ := linkPortEnable_stays hp hh he hv
      generalize linkPortEnable p v.toNat b = t at *
      simp only [Block.settle_bit, sameWords_settle, sameMem_settle]
      exact ⟨h1, h2, h3⟩
    · subst hv
      refine gives_of_writing (f := linkPortEnable p 1) hr hg (fun _ => rfl) ?_
      obtain ⟨h1, h2, h3, h4⟩ := linkPortEnable_trains hp hh he hl
      generalize linkPortEnable p 1 b = t at *
      simp only [Block.settle_bit, sameOutside_settle, sameMem_settle]
      exact ⟨h1, portIn_settle h2, h3, h4⟩
    · subst hv
      refine gives_of_writing (f := linkPortEnable p 0) hr hg (fun _ => rfl) ?_
      obtain ⟨h1, h2⟩ := linkPortEnable_stops hp hh he
      generalize linkPortEnable p 0 b = t at *
      simp only [Block.settle_bit]
      exact ⟨h1, h2⟩
  · intro b p f hr hp hc hh hslot
    refine ⟨fun ho he hf => ?_, fun k hk ho he => ?_, fun ho hf => ?_⟩
    · refine gives_of_done (t := frondArrive p (.frond f) [] b) hr (fun _ => rfl) ?_
      have h := frondRelay_whole hp hc hslot (Block.onward_some hh ho he) hf
      generalize frondArrive p (.frond f) [] b = t at *
      simp only [Block.settle_out, Block.settle_scn, sameOutside_settle, sameMem_settle]
      exact h
    · refine gives_of_done (t := frondArrive p (.frond f) [k] b) hr (fun _ => rfl) ?_
      have h := frondRelay_failed hp hk hc hslot (Block.onward_some hh ho he)
      generalize frondArrive p (.frond f) [k] b = t at *
      simp only [Block.settle_out, Block.settle_scn, Block.settle_bit, Block.settle_get]
      exact h
    · refine gives_of_done (t := frondArrive p (.frond f) [] b) hr (fun _ => rfl) ?_
      have h := frondRelay_dropped hp hc hslot (Block.onward_none ho) hf
      generalize frondArrive p (.frond f) [] b = t at *
      simp only [Block.settle_out, Block.settle_get, sameMem_settle]
      exact h
  · intro b p n bad hr hp hc hn
    refine gives_of_done (t := frondArrive p (.stray n) bad b) hr (fun _ => rfl) ?_
    have h := frondArrive_stray (bad := bad) hp hc hn
    generalize frondArrive p (.stray n) bad b = t at *
    simp only [Block.settle_out, Block.settle_bit, Block.settle_get, sameMem_settle]
    exact h

end Sys2Proof.Machine
end

section
/-!
PROOFS of chapter 8: a head becomes ACTIVE, and takes over (R257, R262, R263, R270).
-/

namespace Sys2Proof.Machine

/-! ### Duty, split, FIRST_WFN -/

/-- A field that a change of duty or of split leaves. -/
def DutyBeside (g : Fld) : Prop := g.addr ≠ R.LNK_CHAIN_STATUS ∧ g.addr ≠ R.LNKn_IRQ_STATUS 0

theorem Block.setDuty_spec (b : Block) {d : Nat} (hd : d < 4) :
    let t := b.setDuty d
    RegsOnly b t ∧ t.duty = d ∧ t.bit F.LNK_CHAIN_STATUS_SPLIT = b.bit F.LNK_CHAIN_STATUS_SPLIT
      ∧ t.get F.LNK_CHAIN_STATUS_SPLIT_SLOT = b.get F.LNK_CHAIN_STATUS_SPLIT_SLOT
      ∧ t.bit F.LNK_CHAIN_STATUS_SYNCED = b.bit F.LNK_CHAIN_STATUS_SYNCED
      ∧ ∀ g, DutyBeside g → t.get g = b.get g := by
  rw [Block.setDuty]
  split
  · next h => exact ⟨rfl, h, rfl, rfl, rfl, fun _ _ => rfl⟩
  · have hget {g : Fld} (ha : g.addr ≠ R.LNKn_IRQ_STATUS 0) (hap : g.apart F.LNK_CHAIN_STATUS_DUTY = true) :
        ((b.set F.LNK_CHAIN_STATUS_DUTY d).irq (F.LNKn_IRQ_STATUS_DUTY_CHANGE 0)).get g = b.get g := by
      rw [Block.irq_eq, Block.get_set_apart _ _ rfl (Fld.apart_of_addr ha), Block.get_set_apart _ _ rfl hap]
    refine ⟨rfl, ?_, ?_, hget (by decide) rfl, ?_, fun g hg => hget hg.2 (Fld.apart_of_addr hg.1)⟩
    · rw [Block.duty, Block.irq_eq, Block.get_set_apart _ _ rfl (by decide), Block.get_set_self _ _ rfl]
      exact Nat.mod_eq_of_lt hd
    · rw [Block.bit, hget (by decide) rfl, Block.bit]
    · rw [Block.bit, hget (by decide) rfl, Block.bit]

theorem Block.setSplit_spec (b : Block) {s : Option Nat} (hs : s.getD 0xFF < 256) :
    let t := b.setSplit s
    RegsOnly b t ∧ t.bit F.LNK_CHAIN_STATUS_SPLIT = s.isSome ∧ t.get F.LNK_CHAIN_STATUS_SPLIT_SLOT = s.getD 0xFF ∧ t.duty = b.duty
      ∧ t.bit F.LNK_CHAIN_STATUS_SYNCED = b.bit F.LNK_CHAIN_STATUS_SYNCED ∧ ∀ g, DutyBeside g → t.get g = b.get g := by
  rw [Block.setSplit]
  split
  · next h => exact ⟨rfl, h.1, h.2, rfl, rfl, fun _ _ => rfl⟩
  · rw [Block.setBit_eq, Block.irq_eq]
    generalize hv : (if s.isSome = true then 1 else 0) = v
    have hget {g : Fld} (ha : g.addr ≠ R.LNKn_IRQ_STATUS 0) (h1 : g.apart F.LNK_CHAIN_STATUS_SPLIT = true)
        (h2 : g.apart F.LNK_CHAIN_STATUS_SPLIT_SLOT = true) :
        (((b.set F.LNK_CHAIN_STATUS_SPLIT v).set F.LNK_CHAIN_STATUS_SPLIT_SLOT (s.getD 0xFF)).set (F.LNKn_IRQ_STATUS_SPLIT_CHANGE 0) 1).get g
          = b.get g := by
      rw [Block.get_set_apart _ _ rfl (Fld.apart_of_addr ha), Block.get_set_apart _ _ rfl h2, Block.get_set_apart _ _ rfl h1]
    refine ⟨rfl, ?_, ?_, hget (by decide) rfl rfl, ?_, fun g hg => hget hg.2 (Fld.apart_of_addr hg.1) (Fld.apart_of_addr hg.1)⟩
    · rw [Block.bit_set_apart _ _ rfl (by decide), Block.bit_set_apart _ _ rfl (by decide), ← hv]
      cases s.isSome
      · exact Block.bit_set_zero_self _ rfl
      · exact Block.bit_set_one_self _ rfl rfl
    · rw [Block.get_set_apart _ _ rfl (by decide), Block.get_set_self _ _ rfl]
      exact Nat.mod_eq_of_lt hs
    · rw [Block.bit, hget (by decide) rfl rfl, Block.bit]

theorem Block.takeFirst_spec (b : Block) (w : Nat) :
    let t := b.takeFirst w
    t = { b with regs := t.regs, scn := t.scn, lnk := { b.lnk with firstDue := false } } ∧ t.firstWfn = w % 2 ^ 64
      ∧ ∀ g : Fld, g.addr ≠ R.LNK_FIRST_WFN_LO → g.addr ≠ R.LNK_FIRST_WFN_HI → t.get g = b.get g := by
  have hpair : ∀ c : Block, c.regs = (b.setPair F.LNK_FIRST_WFN_LO F.LNK_FIRST_WFN_HI w).regs → c.firstWfn = w % 2 ^ 64
      ∧ ∀ g : Fld, g.addr ≠ R.LNK_FIRST_WFN_LO → g.addr ≠ R.LNK_FIRST_WFN_HI → c.get g = b.get g := fun c hc => by
    have hget (g : Fld) := Block.get_congr hc g
    rw [Block.setPair_eq] at hget
    refine ⟨?_, fun g h1 h2 => ?_⟩
    · rw [Block.firstWfn, Block.pair, hget, hget, Block.get_set_apart _ _ rfl (by decide), Block.get_set_self _ _ rfl, Block.get_set_self _ _ rfl]
      show w % 2 ^ 32 + 2 ^ 32 * (w / 2 ^ 32 % 2 ^ 32) = w % 2 ^ 64
      omega
    · rw [hget, Block.get_set_apart _ _ rfl (Fld.apart_of_addr h2), Block.get_set_apart _ _ rfl (Fld.apart_of_addr h1)]
  rw [Block.takeFirst]
  cases ({ b with lnk.firstDue := false }.setPair F.LNK_FIRST_WFN_LO F.LNK_FIRST_WFN_HI w).drives
  · exact ⟨rfl, hpair _ rfl⟩
  · exact ⟨rfl, hpair _ rfl⟩

/-! ### ACTIVE (R257, R266) -/

/-- The record of a head that has become ACTIVE under epoch `e`. -/
def Block.activeUnder (b : Block) (e : Nat) : Block :=
  { b with lnk := { b.lnk with
    delegateEnds := false
    storedEpoch := e, takeover := true, listenFrom := none, activeNode := b.node, handover := none
    aliveDue := b.clk + b.get F.LNK_ALIVE_ALIVE_10US * 10000 } }

/-- A head that has become ACTIVE, before it tells the chain. -/
def Block.activated (b : Block) (first : Nat) : Block :=
  let e := (max b.lnk.storedEpoch b.epoch + 1) % 2 ^ 32
  (((((b.set F.LNK_EPOCH_EPOCH e).takeFirst first).activeUnder e).set (F.LNKn_STATUS_TOWARD_ACTIVE 0) 0 |>.set
    (F.LNKn_STATUS_TOWARD_ACTIVE 1) 0).setDuty dutyActive).setSplit none

theorem sends_sendAlive (b : Block) : Sends b b.sendAlive := (sends_sendChain b _ _ _ _).trans (sends_sendOtherUdp _ _ _)

theorem sends_sendHeadState (b : Block) (s : Nat) : Sends b (b.sendHeadState s) := by
  rw [Block.sendHeadState]
  split
  · exact .refl b
  · exact (sends_sendChain b _ _ _ _).trans (sends_sendOtherUdp _ _ _)

theorem sends_resend (b : Block) (keep : Nat → Bool) : Sends b (b.resend keep) :=
  sending.each _ b fun _ c => sending.each _ c fun p d => sending.trans (sending.countCells d p _) (sending.emit _ _)

theorem sends_becomeActive (b : Block) (first : Nat) : Sends (b.activated first) (b.becomeActive first) := by
  have heq : b.becomeActive first = ((b.activated first).sendAlive).when (b.bit F.LNK_CHAIN_STATUS_SPLIT) (fun b => b.sendHeadState b.slotNumber) := rfl
  rw [heq]
  exact (sends_sendAlive _).trans (sending.when _ _ fun c => sends_sendHeadState c _)

/-- The registers of a head that becomes ACTIVE: its epoch, FIRST_WFN, and no active head beyond a port. -/
theorem Block.activeUnder_spec (b : Block) (first : Nat) {e : Nat} (he : e < 2 ^ 32) :
    let t := (((b.set F.LNK_EPOCH_EPOCH e).takeFirst first).activeUnder e).set (F.LNKn_STATUS_TOWARD_ACTIVE 0) 0 |>.set
      (F.LNKn_STATUS_TOWARD_ACTIVE 1) 0
    t.epoch = e ∧ t.lnk.storedEpoch = e ∧ t.firstWfn = first % 2 ^ 64 ∧ t.lnk.activeNode = b.node ∧ t.lnk.listenFrom = none
      ∧ t.lnk.handover = none ∧ t.clk = b.clk ∧ t.get F.LNK_ERR_TAKEOVER = b.get F.LNK_ERR_TAKEOVER := by
  have hepoch : (b.set F.LNK_EPOCH_EPOCH e).get F.LNK_EPOCH_EPOCH = e := by
    rw [Block.get_set_self _ _ rfl]
    exact Nat.mod_eq_of_lt he
  have hnode : (b.set F.LNK_EPOCH_EPOCH e).get F.HIF_NODE_ID_NODE = b.get F.HIF_NODE_ID_NODE := Block.get_set_apart _ _ rfl (by decide)
  have herr : (b.set F.LNK_EPOCH_EPOCH e).get F.LNK_ERR_TAKEOVER = b.get F.LNK_ERR_TAKEOVER := Block.get_set_apart _ _ rfl (by decide)
  obtain ⟨hc, hfirst, hget⟩ := (b.set F.LNK_EPOCH_EPOCH e).takeFirst_spec first
  have hclk : ((b.set F.LNK_EPOCH_EPOCH e).takeFirst first).clk = b.clk := by rw [hc]; exact b.set_clk F.LNK_EPOCH_EPOCH e
  generalize (b.set F.LNK_EPOCH_EPOCH e).takeFirst first = c at *
  have hu {g : Fld} (h0 : g.addr ≠ R.LNKn_STATUS 0) (h1 : g.addr ≠ R.LNKn_STATUS 1) :
      (((c.activeUnder e).set (F.LNKn_STATUS_TOWARD_ACTIVE 0) 0).set (F.LNKn_STATUS_TOWARD_ACTIVE 1) 0).get g = c.get g := by
    rw [Block.get_set_apart _ _ rfl (Fld.apart_of_addr h1), Block.get_set_apart _ _ rfl (Fld.apart_of_addr h0)]
    rfl
  have hl : (((c.activeUnder e).set (F.LNKn_STATUS_TOWARD_ACTIVE 0) 0).set (F.LNKn_STATUS_TOWARD_ACTIVE 1) 0).lnk = (c.activeUnder e).lnk := by
    rw [Block.set_lnk, Block.set_lnk]
  refine ⟨?_, by rw [hl]; rfl, ?_, ?_, by rw [hl]; rfl, by rw [hl]; rfl, ?_, ?_⟩
  · rw [Block.epoch, hu (by decide) (by decide), hget _ (by decide) (by decide), hepoch]
  · rw [Block.firstWfn, Block.pair, hu (by decide) (by decide), hu (by decide) (by decide), ← Block.pair, ← Block.firstWfn, hfirst]
  · rw [hl, Block.node, ← hnode, ← hget _ (by decide) (by decide)]
    rfl
  · rw [Block.set_clk, Block.set_clk]
    exact hclk
  · rw [hu (by decide) (by decide), hget _ (by decide) (by decide), herr]

theorem Block.activated_spec (b : Block) (first : Nat) :
    let t := b.activated first
    let e := (max b.lnk.storedEpoch b.epoch + 1) % 2 ^ 32
    t.duty = dutyActive ∧ t.epoch = e ∧ t.lnk.storedEpoch = e ∧ t.firstWfn = first % 2 ^ 64 ∧ t.lnk.activeNode = b.node
      ∧ t.lnk.listenFrom = none ∧ t.lnk.handover = none ∧ t.bit F.LNK_CHAIN_STATUS_SPLIT = false ∧ t.clk = b.clk
      ∧ t.get F.LNK_ERR_TAKEOVER = b.get F.LNK_ERR_TAKEOVER := by
  intro t e
  have ht : t = (((((b.set F.LNK_EPOCH_EPOCH e).takeFirst first).activeUnder e).set (F.LNKn_STATUS_TOWARD_ACTIVE 0) 0 |>.set
    (F.LNKn_STATUS_TOWARD_ACTIVE 1) 0).setDuty dutyActive).setSplit none := rfl
  obtain ⟨h1, h2, h3, h4, h5, h6, h7, h8⟩ := b.activeUnder_spec first (e := e) (Nat.mod_lt _ (by decide))
  generalize Block.set _ (F.LNKn_STATUS_TOWARD_ACTIVE 1) 0 = c at *
  obtain ⟨dr, dd, -, -, -, dg⟩ := c.setDuty_spec (d := dutyActive) (by decide)
  generalize c.setDuty dutyActive = d at *
  obtain ⟨sr, ss, -, sd, -, sg⟩ := d.setSplit_spec (s := none) (by decide)
  rw [← ht] at sr ss sd sg
  have hget {g : Fld} (hg : DutyBeside g) : t.get g = c.get g := (sg g hg).trans (dg g hg)
  have hlnk : t.lnk = c.lnk := by rw [sr, dr]
  refine ⟨sd.trans dd, ?_, by rw [hlnk, h2], ?_, by rw [hlnk, h4], by rw [hlnk, h5], by rw [hlnk, h6], ss, by rw [sr, dr]; exact h7, ?_⟩
  · rw [Block.epoch, hget ⟨by decide, by decide⟩, ← Block.epoch, h1]
  · rw [Block.firstWfn, Block.pair, hget ⟨by decide, by decide⟩, hget ⟨by decide, by decide⟩, ← Block.pair, ← Block.firstWfn, h3]
  · rw [hget ⟨by decide, by decide⟩, h8]

end Sys2Proof.Machine
end

section
/-!
PROOFS of chapter 8: what a head does by itself (R257, R258, R263).
-/

namespace Sys2Proof.Machine

/-! ### ACTIVE, once told -/

/-- A field of the chain's own registers is beside every sending. -/
theorem sendBeside_chain {g : Fld} (h : 0x1C1000 ≤ g.addr ∧ g.addr < 0x1C7000) : SendBeside g := by
  refine sendBeside_of_addr (by omega) ?_ (.inr ?_)
  · simp only [ringWords, List.mem_cons, List.not_mem_nil, or_false, not_or, R.HIF_ERR, R.HIF_IRQ_STATUS, R.HIF_RING_STATUS,
      R.HIF_RING_POOL_USED, R.HIF_DROP_DEST, R.HIF_DROP_FULL, R.HIF_DROP_POOL]
    omega
  · simp only [sentOffsets, List.mem_cons, List.not_mem_nil, or_false, not_or]
    omega

section
variable {b t : Block} (h : Sends b t)
include h

theorem Sends.duty : t.duty = b.duty := h.get (sendBeside_chain (by decide))
theorem Sends.epoch : t.epoch = b.epoch := h.get (sendBeside_chain (by decide))
theorem Sends.firstWfn : t.firstWfn = b.firstWfn := by
  rw [Block.firstWfn, Block.pair, h.get (sendBeside_chain (by decide)), h.get (sendBeside_chain (by decide)), ← Block.pair, ← Block.firstWfn]

end

/-- A head that becomes ACTIVE, when it has told the chain. -/
theorem becomeActive_spec (b : Block) (first : Nat) :
    let t := b.becomeActive first
    let e := (max b.lnk.storedEpoch b.epoch + 1) % 2 ^ 32
    t.duty = dutyActive ∧ t.epoch = e ∧ t.lnk.storedEpoch = e ∧ t.firstWfn = first % 2 ^ 64 ∧ t.lnk.activeNode = b.node
      ∧ t.lnk.listenFrom = none ∧ t.lnk.handover = none ∧ t.bit F.LNK_CHAIN_STATUS_SPLIT = false ∧ t.clk = b.clk
      ∧ t.get F.LNK_ERR_TAKEOVER = b.get F.LNK_ERR_TAKEOVER := by
  obtain ⟨h1, h2, h3, h4, h5, h6, h7, h8, h9, h10⟩ := b.activated_spec first
  have hs := sends_becomeActive b first
  obtain ⟨-, -, hl, -⟩ := id hs
  generalize b.activated first = c at *
  generalize b.becomeActive first = t at *
  exact ⟨hs.duty.trans h1, hs.epoch.trans h2, by rw [hl, ← h3], hs.firstWfn.trans h4, by rw [hl, ← h5], by rw [hl, ← h6], by rw [hl, ← h7],
    (hs.bit (sendBeside_chain (by decide))).trans h8, hs.clk.trans h9, (hs.get (sendBeside_chain (by decide))).trans h10⟩

/-- The composition a standby takes over at: the one in progress, or the next. -/
def Block.takeOverAt (b : Block) : Nat := match b.cmp.comp with | some m => m | none => b.nextComposition

/-- A takeover is counted and told. -/
def Block.takeOverTold (b : Block) : Block := (b.countSat (F.LNK_CNT_Ei 6) 1).raise E.LNK_TAKEOVER

theorem Block.takeOver_eq (b : Block) : b.takeOver = (b.takeOverTold.becomeActive b.takeOverAt).resend (fun _ => true) := rfl

theorem Block.takeOverTold_spec (b : Block) :
    b.takeOverTold.bit F.LNK_ERR_TAKEOVER = true ∧ b.takeOverTold.lnk = b.lnk ∧ b.takeOverTold.clk = b.clk
      ∧ b.takeOverTold.epoch = b.epoch ∧ b.takeOverTold.node = b.node := by
  have hget {g : Fld} (h1 : g.addr ≠ R.LNK_CNT_Ei 6) (h2 : g.addr ≠ R.LNK_ERR) (h3 : g.addr ≠ R.LNKn_IRQ_STATUS 0) (h30 : g.addr / 0x10000 ≠ 0x30) :
      b.takeOverTold.get g = b.get g := by
    rw [Block.takeOverTold, Block.raise_eq, Block.get_raiseAt_apart _ _ rfl rfl (Fld.apart_of_addr h2) (Fld.apart_of_addr h3) h30, Block.countSat_eq,
      Block.get_set_apart _ _ rfl (Fld.apart_of_addr h1)]
  refine ⟨Block.bit_raiseAt_self (e := E.LNK_TAKEOVER) _ _ rfl rfl rfl rfl (by decide), ?_, ?_, hget (by decide) (by decide) (by decide) (by decide),
    hget (by decide) (by decide) (by decide) (by decide)⟩
  · rw [Block.takeOverTold, Block.raise_eq, Block.raiseAt_lnk, Block.countSat_eq, Block.set_lnk]
  · rw [Block.takeOverTold, Block.raise_eq, Block.raiseAt_clk, Block.countSat_eq, Block.set_clk]

theorem takeOver_spec (b : Block) :
    let t := b.takeOver
    t.duty = dutyActive ∧ t.epoch = (max b.lnk.storedEpoch b.epoch + 1) % 2 ^ 32 ∧ t.bit F.LNK_ERR_TAKEOVER = true ∧ t.lnk.activeNode = b.node
      ∧ t.lnk.handover = none ∧ t.firstWfn = b.takeOverAt % 2 ^ 64 ∧ t.clk = b.clk := by
  obtain ⟨htold, hlnk, hclk, hep, hnode⟩ := b.takeOverTold_spec
  rw [Block.takeOver_eq]
  generalize b.takeOverTold = c at *
  obtain ⟨h1, h2, -, h4, h5, -, h7, -, h9, h10⟩ := becomeActive_spec c b.takeOverAt
  generalize c.becomeActive b.takeOverAt = d at *
  have hs := sends_resend d (fun _ => true)
  obtain ⟨-, -, hl, -⟩ := id hs
  generalize d.resend (fun _ => true) = t at *
  refine ⟨hs.duty.trans h1, by rw [hs.epoch, h2, hlnk, hep], ?_, by rw [hl, ← hnode, ← h5], by rw [hl, ← h7], hs.firstWfn.trans h4,
    by rw [hs.clk, h9, hclk]⟩
  rw [hs.bit (sendBeside_chain (by decide)), Block.bit, h10, ← Block.bit, htold]

/-! ### A standby that hears nobody, or loses the active head -/

theorem Block.nextComposition_untilClk (b : Block) (n : Nat) : (b.untilClk n).nextComposition = b.nextComposition := by
  have hwfn : (b.untilClk n).wfn = b.wfn := by
    rw [Block.wfn, Block.pair, Block.untilClk_get, Block.untilClk_get, ← Block.pair, ← Block.wfn]
  rw [Block.nextComposition, Block.untilClk_cmp, hwfn, Block.nextComposition]

theorem headListenTimeout_spec {b : Block} {t0 : Nat} (hh : b.isHead = true) (hd : b.duty = dutyStandby) (hp : b.pipes = true)
    (hl : b.lnk.listenFrom = some t0) (hn : b.nextComposition < 2 ^ 64) :
    let t := headListenTimeout b
    t.duty = dutyActive ∧ t.epoch = (max b.lnk.storedEpoch b.epoch + 1) % 2 ^ 32 ∧ t.lnk.storedEpoch = t.epoch
      ∧ t.firstWfn = b.nextComposition ∧ t.lnk.activeNode = b.node ∧ t.lnk.listenFrom = none ∧ t.bit F.LNK_CHAIN_STATUS_SPLIT = false
      ∧ t.clk = max b.clk (t0 + (if (b.cfg.topo.map (·.duty)) = some 2 then 2 else 1) * b.get F.LNK_ALIVE_LISTEN_MS * 1000000) := by
  have heq : headListenTimeout b = (b.untilClk (t0 + (if (b.cfg.topo.map (·.duty)) = some 2 then 2 else 1) * b.get F.LNK_ALIVE_LISTEN_MS
      * 1000000)).becomeActive (b.untilClk (t0 + (if (b.cfg.topo.map (·.duty)) = some 2 then 2 else 1) * b.get F.LNK_ALIVE_LISTEN_MS
      * 1000000)).nextComposition := by
    rw [headListenTimeout, hl]
    exact if_pos ⟨hh, hd, hp⟩
  rw [heq, Block.nextComposition_untilClk]
  generalize t0 + (if (b.cfg.topo.map (·.duty)) = some 2 then 2 else 1) * b.get F.LNK_ALIVE_LISTEN_MS * 1000000 = n
  have hep : (b.untilClk n).epoch = b.epoch := Block.untilClk_get b n _
  have hnode : (b.untilClk n).node = b.node := Block.untilClk_get b n _
  have hlnk := b.untilClk_lnk n
  have hclk := b.untilClk_clk n
  generalize b.untilClk n = c at *
  obtain ⟨h1, h2, h3, h4, h5, h6, -, h8, h9, -⟩ := becomeActive_spec c b.nextComposition
  exact ⟨h1, by rw [h2, hlnk, hep], by rw [h3, h2], by rw [h4, Nat.mod_eq_of_lt hn], by rw [h5, hnode], h6, h8, by rw [h9, hclk]⟩

theorem headLoss_spec {b : Block} (hh : b.isHead = true) (hd : b.duty = dutyStandby ∨ b.duty = dutyDelegate) (hp : b.pipes = true)
    (hl : b.lnk.listenFrom = none) (he : b.bit F.LNK_CHAIN_CTRL_TAKEOVER_EN = true) (hs : b.bit F.LNK_CHAIN_STATUS_SYNCED = true) :
    let t := headLoss b
    t.duty = dutyActive ∧ t.epoch = (max b.lnk.storedEpoch b.epoch + 1) % 2 ^ 32 ∧ t.bit F.LNK_ERR_TAKEOVER = true ∧ t.lnk.activeNode = b.node
      ∧ t.firstWfn = b.takeOverAt % 2 ^ 64 ∧ t.clk = max b.clk (b.lnk.lastHead + b.lossNs) := by
  have heq : headLoss b = (b.untilClk (b.lnk.lastHead + b.lossNs)).takeOver := by
    rw [headLoss, hs, hl]
    exact if_pos ⟨hh, hd, rfl, he, rfl, hp⟩
  have hat : (b.untilClk (b.lnk.lastHead + b.lossNs)).takeOverAt = b.takeOverAt := by
    rw [Block.takeOverAt, Block.nextComposition_untilClk, Block.untilClk_cmp, Block.takeOverAt]
  have hep : (b.untilClk (b.lnk.lastHead + b.lossNs)).epoch = b.epoch := Block.untilClk_get b _ _
  have hnode : (b.untilClk (b.lnk.lastHead + b.lossNs)).node = b.node := Block.untilClk_get b _ _
  have hlnk := b.untilClk_lnk (b.lnk.lastHead + b.lossNs)
  have hclk := b.untilClk_clk (b.lnk.lastHead + b.lossNs)
  rw [heq]
  generalize b.untilClk (b.lnk.lastHead + b.lossNs) = c at *
  obtain ⟨h1, h2, h3, h4, -, h6, h7⟩ := takeOver_spec c
  exact ⟨h1, by rw [h2, hlnk, hep], h3, by rw [h4, hnode], by rw [h6, hat], by rw [h7, hclk]⟩

/-! ### HEAD_ALIVE leaves -/

/-- The next HEAD_ALIVE is due an interval from now. -/
def Block.aliveNext (b : Block) : Block := { b with lnk.aliveDue := b.clk + b.get F.LNK_ALIVE_ALIVE_10US * 10000 }

theorem headAliveSend_spec {b : Block} (hh : b.isHead = true) (hd : b.duty = dutyActive ∨ b.duty = dutyDelegate) :
    let t := headAliveSend b
    t.clk = max b.clk b.lnk.aliveDue ∧ t.lnk.aliveDue = t.clk + b.get F.LNK_ALIVE_ALIVE_10US * 10000 ∧ t.duty = b.duty ∧ t.epoch = b.epoch := by
  have heq : headAliveSend b = (b.untilClk b.lnk.aliveDue).aliveNext.sendAlive := by
    rw [headAliveSend, if_pos ⟨hh, hd⟩]
    rfl
  have hget := b.untilClk_get b.lnk.aliveDue
  have hclk := b.untilClk_clk b.lnk.aliveDue
  rw [heq]
  generalize b.untilClk b.lnk.aliveDue = c at *
  have hnext : c.aliveNext.lnk.aliveDue = c.clk + b.get F.LNK_ALIVE_ALIVE_10US * 10000 := by rw [← hget]; rfl
  have hs := sends_sendAlive c.aliveNext
  obtain ⟨-, -, hl, -⟩ := id hs
  generalize c.aliveNext.sendAlive = t at *
  have hcn : c.aliveNext.clk = c.clk := rfl
  exact ⟨by rw [hs.clk, hcn, hclk], by rw [hl, hs.clk, hcn, ← hnext], hs.duty.trans (hget _), hs.epoch.trans (hget _)⟩

end Sys2Proof.Machine
end

section
/-!
PROOFS of chapter 8: HEAD_ALIVE at a tile (R169, R258 to R262).
-/

namespace Sys2Proof.Machine

/-! ### The epoch in force (R259, R260) -/

/-- What a rise of the epoch can change: the epoch, FIRST_WFN, and the bands that R262 drops. -/
def Raised (b t : Block) : Prop :=
  (∃ d e, t = { b with regs := t.regs, scn := t.scn, lnk := { b.lnk with firstDue := d, storedEpoch := e } })
    ∧ ∀ g : Fld, g.addr ∉ [R.LNK_EPOCH, R.LNK_FIRST_WFN_LO, R.LNK_FIRST_WFN_HI] → t.get g = b.get g

theorem Raised.refl (b : Block) : Raised b b := ⟨⟨_, _, rfl⟩, fun _ _ => rfl⟩

theorem Raised.trans {b c t : Block} (h : Raised b c) (k : Raised c t) : Raised b t := by
  obtain ⟨⟨d, e, hc⟩, hg⟩ := h
  obtain ⟨⟨d', e', ht⟩, kg⟩ := k
  exact ⟨⟨d', e', by rw [ht, hc]⟩, fun g hn => (kg g hn).trans (hg g hn)⟩

theorem raised_takeFirst (b : Block) (w : Nat) : Raised b (b.takeFirst w) ∧ (b.takeFirst w).epoch = b.epoch := by
  obtain ⟨ht, -, hg⟩ := b.takeFirst_spec w
  refine ⟨⟨⟨false, b.lnk.storedEpoch, by rw [ht]⟩, fun g hn => ?_⟩, hg _ (by decide) (by decide)⟩
  simp only [List.mem_cons, List.not_mem_nil, or_false, not_or] at hn
  exact hg g hn.2.1 hn.2.2

/-- A head's record of the epoch, and whether FIRST_WFN is still to come. -/
def Block.epochKept (b : Block) (due : Bool) (e : Nat) : Block := { b with lnk := { b.lnk with firstDue := due, storedEpoch := e } }

/-- The epoch as it is stored: its register, and a head's record. -/
def Block.epochSet (b : Block) (e : Nat) : Block :=
  let c := { b.set F.LNK_EPOCH_EPOCH e with lnk.firstDue := true }
  if c.isHead then { c with lnk.storedEpoch := max c.lnk.storedEpoch e } else c

theorem Block.raiseEpoch_eq (b : Block) (e : Nat) (first : Option Nat) : b.raiseEpoch e first =
    if b.epoch < e then (match first with | some w => (b.epochSet e).takeFirst w | none => b.epochSet e)
    else match first with
      | some w => b.when (e == b.epoch && b.lnk.firstDue) (·.takeFirst w)
      | none => b := rfl

theorem Block.epochSet_spec (b : Block) {e : Nat} (he : e < 2 ^ 32) :
    Raised b (b.epochSet e) ∧ (b.epochSet e).epoch = e
      ∧ (b.isHead = true → (b.epochSet e).lnk.storedEpoch = max b.lnk.storedEpoch e) := by
  have hep : (b.set F.LNK_EPOCH_EPOCH e).epoch = e := by
    rw [Block.epoch, Block.get_set_self _ _ rfl]
    exact Nat.mod_eq_of_lt he
  have hget (g : Fld) (hn : g.addr ∉ [R.LNK_EPOCH, R.LNK_FIRST_WFN_LO, R.LNK_FIRST_WFN_HI]) : (b.set F.LNK_EPOCH_EPOCH e).get g = b.get g := by
    simp only [List.mem_cons, List.not_mem_nil, or_false, not_or] at hn
    exact Block.get_set_apart b e rfl (Fld.apart_of_addr hn.1)
  have hhead : (b.set F.LNK_EPOCH_EPOCH e).isHead = b.isHead := (Block.isHead_of_role (hget _ (by decide))).1
  have hset : b.epochSet e = if b.isHead then (b.set F.LNK_EPOCH_EPOCH e).epochKept true (max b.lnk.storedEpoch e)
      else (b.set F.LNK_EPOCH_EPOCH e).epochKept true b.lnk.storedEpoch := by
    rw [← hhead]
    rfl
  have hraised (k : Nat) : Raised b ((b.set F.LNK_EPOCH_EPOCH e).epochKept true k) := ⟨⟨true, k, rfl⟩, hget⟩
  rw [hset]
  split
  · exact ⟨hraised _, hep, fun _ => rfl⟩
  · next hh => exact ⟨hraised _, hep, fun h => absurd h hh⟩

/-- A message of an epoch that is not older brings the module to it. -/
theorem Block.raiseEpoch_spec (b : Block) {e : Nat} (first : Option Nat) (he : e < 2 ^ 32) (hle : b.epoch ≤ e) :
    Raised b (b.raiseEpoch e first) ∧ (b.raiseEpoch e first).epoch = e := by
  rw [Block.raiseEpoch_eq]
  split
  · obtain ⟨hr, hep, -⟩ := b.epochSet_spec he
    generalize b.epochSet e = c at *
    cases first with
    | none => exact ⟨hr, hep⟩
    | some w =>
      obtain ⟨hf, hfe⟩ := raised_takeFirst c w
      exact ⟨hr.trans hf, hfe.trans hep⟩
  · next hn =>
    have heq : b.epoch = e := by omega
    cases first with
    | none => exact ⟨.refl b, heq⟩
    | some w =>
      dsimp only
      cases e == b.epoch && b.lnk.firstDue
      · exact ⟨.refl b, heq⟩
      · obtain ⟨hf, hfe⟩ := raised_takeFirst b w
        exact ⟨hf, hfe.trans heq⟩

section
variable {b : Block} {src e : Nat} {first : Option Nat} {claims : Bool} (hf : b.fromHead src = true) (hs : src ≠ b.node)
include hf hs

/-- A module that is no head, and a standby, have nothing to drop. -/
theorem heed_keeps (hd : b.isHead = false ∨ b.duty = dutyStandby) : b.heed src e first claims = b.raiseEpoch e first := by
  have hopen : ¬((!b.fromHead src || src == b.node) = true) := by
    rw [hf, beq_eq_false_iff_ne.mpr hs]
    decide
  have hdrop (y h : Bool) : (b.isHead && (b.duty == dutyActive && y || b.duty == dutyDelegate && h)) = false := by
    rcases hd with hd | hd
    · rw [hd, Bool.false_and]
    · rw [hd, show (dutyStandby == dutyActive) = false from rfl, show (dutyStandby == dutyDelegate) = false from rfl, Bool.false_and,
        Bool.false_and, Bool.or_false, Bool.and_false]
  rw [Block.heed, if_neg hopen]
  dsimp only
  rw [hdrop, if_neg (by decide)]

theorem heed_same (hd : b.isHead = false ∨ b.duty = dutyStandby) : b.heed src b.epoch none claims = b := by
  rw [heed_keeps hf hs hd, Block.raiseEpoch_eq, if_neg (by omega)]

end

/-! ### The active head lies beyond a port -/

/-- Port `p` lies toward the active head, the other one does not. -/
def Block.towards (b : Block) (p : Nat) : Block := (b.set (F.LNKn_STATUS_TOWARD_ACTIVE p) 1).set (F.LNKn_STATUS_TOWARD_ACTIVE (1 - p)) 0

/-- Port `p` is the time slave of a tile, the other one is not. -/
def Block.slaved (b : Block) (p : Nat) : Block := (b.set (F.LNKn_STATUS_SLAVE p) 1).set (F.LNKn_STATUS_SLAVE (1 - p)) 0

/-- Chain time has a new master, which the module tells where it followed the old one. -/
def Block.chainMaster (b : Block) (moved : Bool) (p : Nat) : Block :=
  if moved then ((b.setMasters sourceChain [{ Master.new p 0 b.clk with annDue := b.clk + 23437500, syncDue := b.clk + 23437500 }]).raise
    E.PTP_SWITCH).irq F.PTP_IRQ_STATUS_SWITCH
  else b.setMasters sourceChain []

theorem activeBeyond_eq (b : Block) (p : Nat) : b.activeBeyond (.lnk p) false =
    if (b.towards p).role ≠ roleTile ∨ (b.towards p).bit (F.LNKn_STATUS_SLAVE p) then b.towards p
    else ((b.towards p).slaved p).chainMaster
      (!((b.towards p).masters sourceChain).isEmpty && (b.towards p).get F.PTP_STATUS_SOURCE == sourceChain) p := rfl

theorem Block.chainMaster_get (b : Block) (moved : Bool) (p : Nat) {g : Fld} (h : g.addr ∉ [R.PTP_ERR, R.PTP_IRQ_STATUS])
    (h30 : g.addr / 0x10000 ≠ 0x30) : (b.chainMaster moved p).get g = b.get g ∧ (b.chainMaster moved p).lnk = b.lnk := by
  simp only [List.mem_cons, List.not_mem_nil, or_false, not_or] at h
  cases moved
  · exact ⟨rfl, rfl⟩
  · refine ⟨?_, ?_⟩
    · rw [Block.chainMaster, if_pos rfl, Block.irq_eq, Block.get_set_apart _ _ rfl (Fld.apart_of_addr h.2), Block.raise_eq,
        Block.get_raiseAt_apart _ _ rfl rfl (Fld.apart_of_addr h.1) (Fld.apart_of_addr h.2) h30]
      rfl
    · rw [Block.chainMaster, if_pos rfl, Block.irq_eq, Block.set_lnk, Block.raise_eq, Block.raiseAt_lnk]
      rfl

section
variable (b : Block) {p : Nat} (hp : p < 2)
include hp

theorem Block.towards_spec :
    let t := b.towards p
    t.bit (F.LNKn_STATUS_TOWARD_ACTIVE p) = true ∧ t.bit (F.LNKn_STATUS_TOWARD_ACTIVE (1 - p)) = false ∧ t.lnk = b.lnk
      ∧ ∀ g : Fld, g.addr ∉ [R.LNKn_STATUS 0, R.LNKn_STATUS 1] → t.get g = b.get g := by
  rw [Block.towards]
  refine ⟨?_, Block.bit_set_zero_self _ rfl, by rw [Block.set_lnk, Block.set_lnk], fun g hn => ?_⟩
  · rw [Block.bit_set_apart _ _ rfl (Fld.apart_of_addr (by simp only [F.LNKn_STATUS_TOWARD_ACTIVE, R.LNKn_STATUS]; omega)),
      Block.bit_set_one_self _ rfl rfl]
  · simp only [List.mem_cons, List.not_mem_nil, or_false, not_or, R.LNKn_STATUS] at hn
    rw [Block.get_set_apart _ _ rfl (Fld.apart_of_addr (by simp only [F.LNKn_STATUS_TOWARD_ACTIVE, R.LNKn_STATUS]; omega)),
      Block.get_set_apart _ _ rfl (Fld.apart_of_addr (by simp only [F.LNKn_STATUS_TOWARD_ACTIVE, R.LNKn_STATUS]; omega))]

theorem Block.slaved_spec :
    let t := b.slaved p
    t.bit (F.LNKn_STATUS_SLAVE p) = true ∧ t.bit (F.LNKn_STATUS_TOWARD_ACTIVE p) = b.bit (F.LNKn_STATUS_TOWARD_ACTIVE p)
      ∧ t.bit (F.LNKn_STATUS_TOWARD_ACTIVE (1 - p)) = b.bit (F.LNKn_STATUS_TOWARD_ACTIVE (1 - p)) ∧ t.lnk = b.lnk
      ∧ ∀ g : Fld, g.addr ∉ [R.LNKn_STATUS 0, R.LNKn_STATUS 1] → t.get g = b.get g := by
  rw [Block.slaved]
  refine ⟨?_, ?_, ?_, by rw [Block.set_lnk, Block.set_lnk], fun g hn => ?_⟩
  · rw [Block.bit_set_apart _ _ rfl (Fld.apart_of_addr (by simp only [F.LNKn_STATUS_SLAVE, R.LNKn_STATUS]; omega)), Block.bit_set_one_self _ rfl rfl]
  · rcases (by omega : p = 0 ∨ p = 1) with rfl | rfl
    all_goals rw [Block.bit_set_apart _ _ rfl (by decide), Block.bit_set_apart _ _ rfl (by decide)]
  · rcases (by omega : p = 0 ∨ p = 1) with rfl | rfl
    all_goals rw [Block.bit_set_apart _ _ rfl (by decide), Block.bit_set_apart _ _ rfl (by decide)]
  · simp only [List.mem_cons, List.not_mem_nil, or_false, not_or, R.LNKn_STATUS] at hn
    rw [Block.get_set_apart _ _ rfl (Fld.apart_of_addr (by simp only [F.LNKn_STATUS_SLAVE, R.LNKn_STATUS]; omega)),
      Block.get_set_apart _ _ rfl (Fld.apart_of_addr (by simp only [F.LNKn_STATUS_SLAVE, R.LNKn_STATUS]; omega))]

theorem activeBeyond_spec (hr : b.role = roleTile) :
    let t := b.activeBeyond (.lnk p) false
    t.bit (F.LNKn_STATUS_TOWARD_ACTIVE p) = true ∧ t.bit (F.LNKn_STATUS_TOWARD_ACTIVE (1 - p)) = false
      ∧ t.bit (F.LNKn_STATUS_SLAVE p) = true ∧ t.epoch = b.epoch ∧ t.lnk = b.lnk ∧ t.isHead = b.isHead := by
  obtain ⟨h1, h2, hl, hg⟩ := b.towards_spec hp
  have hrole := (Block.isHead_of_role (hg F.SYS_ROLE_ROLE (by decide))).2
  have hhead := (Block.isHead_of_role (hg F.SYS_ROLE_ROLE (by decide))).1
  have hep : (b.towards p).epoch = b.epoch := hg _ (by decide)
  rw [activeBeyond_eq, hrole, hr]
  generalize b.towards p = c at *
  split
  · next hs => exact ⟨h1, h2, hs.resolve_left (fun h => h rfl), hep, hl, hhead⟩
  · generalize (!(c.masters sourceChain).isEmpty && c.get F.PTP_STATUS_SOURCE == sourceChain) = moved
    obtain ⟨s1, s2, s3, sl, sg⟩ := c.slaved_spec hp
    have hm {g : Fld} := (c.slaved p).chainMaster_get moved p (g := g)
    generalize c.slaved p = d at *
    have hst {g : Fld} (ha : g.addr = R.LNKn_STATUS p ∨ g.addr = R.LNKn_STATUS (1 - p)) : (d.chainMaster moved p).bit g = d.bit g := by
      simp only [R.LNKn_STATUS] at ha
      rw [Block.bit, (hm ?_ (by omega)).1, Block.bit]
      simp only [List.mem_cons, List.not_mem_nil, or_false, not_or, R.PTP_ERR, R.PTP_IRQ_STATUS]
      omega
    have hlow {g : Fld} (ha : g.addr ∉ [R.PTP_ERR, R.PTP_IRQ_STATUS, R.LNKn_STATUS 0, R.LNKn_STATUS 1]) (h30 : g.addr / 0x10000 ≠ 0x30) :
        (d.chainMaster moved p).get g = c.get g := by
      simp only [List.mem_cons, List.not_mem_nil, or_false, not_or] at ha
      rw [(hm (by simp [ha]) h30).1, sg g (by simp [ha])]
    have hlnk := (hm (g := F.LNK_EPOCH_EPOCH) (by decide) (by decide)).2
    refine ⟨by rw [hst (.inl rfl), s2, h1], by rw [hst (.inr rfl), s3, h2], by rw [hst (.inl rfl), s1], ?_, by rw [hlnk, sl, hl], ?_⟩
    · exact (hlow (by decide) (by decide)).trans hep
    · exact (Block.isHead_of_role (hlow (by decide) (by decide))).1.trans hhead

end

/-! ### HEAD_ALIVE -/

theorem Block.setSplit_keeps (b : Block) (s : Option Nat) :
    RegsOnly b (b.setSplit s) ∧ ∀ g, DutyBeside g → (b.setSplit s).get g = b.get g := by
  rw [Block.setSplit]
  split
  · exact ⟨rfl, fun _ _ => rfl⟩
  · rw [Block.setBit_eq, Block.irq_eq]
    refine ⟨rfl, fun g hg => ?_⟩
    rw [Block.get_set_apart _ _ rfl (Fld.apart_of_addr hg.2), Block.get_set_apart _ _ rfl (Fld.apart_of_addr hg.1),
      Block.get_set_apart _ _ rfl (Fld.apart_of_addr hg.1)]

/-- The active head is the node `src`. -/
def Block.activeNodeIs (b : Block) (src : Nat) : Block := { b with lnk.activeNode := src }

/-- What a HEAD_ALIVE does once its sender is known as a head. -/
def Block.aliveHeard (b : Block) (src : Nat) (via : Via) (a : HeadAlive) : Block :=
  let b := b.heed src a.epoch (some a.firstWfn) (!a.delegate)
  let b := if a.delegate then b else b.activeNodeIs src
  let b := if b.role == roleTile || b.role == 0 then b.setSplit (if a.split then some a.splitSlot else none) else b
  let b := if a.delegate then
      b.when (b.beyondSplit b.slotNumber && (b.masters sourceChain).isEmpty) (·.activeBeyond via true)
    else b.activeBeyond via false
  if b.isHead && src != b.node then
    let b := { b with lnk.listenFrom := none }
    if a.delegate then b else { b with lnk.lastHead := b.clk }
  else b

section
variable {b c : Block} {rx : Rx} {a : HeadAlive} {p : Nat}

theorem headAlive_eq (hrec : b.receive rx = .accepted c) (hb : rx.msg.body = .headAlive a) :
    headAlive rx b = if !c.fromHead rx.msg.src || decide (a.epoch < c.epoch) then c else c.aliveHeard rx.msg.src rx.via a := by
  rw [headAlive, Block.taking, hrec]
  dsimp only
  rw [hb]
  rfl

theorem aliveHeard_tile {c : Block} {src : Nat} (hrole : c.role = roleTile) (hf : c.fromHead src = true) (hs : src ≠ c.node) (hp : p < 2)
    (hd : a.delegate = false) (hle : c.epoch ≤ a.epoch) (he : a.epoch < 2 ^ 32) :
    let t := c.aliveHeard src (.lnk p) a
    t.epoch = a.epoch ∧ t.lnk.activeNode = src ∧ t.bit (F.LNKn_STATUS_TOWARD_ACTIVE p) = true
      ∧ t.bit (F.LNKn_STATUS_TOWARD_ACTIVE (1 - p)) = false ∧ t.bit (F.LNKn_STATUS_SLAVE p) = true := by
  have hhead : c.isHead = false := by rw [Block.isHead, hrole]; rfl
  obtain ⟨⟨-, rg⟩, re⟩ := c.raiseEpoch_spec (some a.firstWfn) he hle
  have rrole := Block.isHead_of_role (rg F.SYS_ROLE_ROLE (by decide))
  have hheed := heed_keeps (first := some a.firstWfn) (e := a.epoch) (claims := !a.delegate) hf hs (.inl hhead)
  generalize c.raiseEpoch a.epoch (some a.firstWfn) = r at *
  have hnode : (r.activeNodeIs src).lnk.activeNode = src := rfl
  have hnrole : (r.activeNodeIs src).role = roleTile := rrole.2.trans hrole
  have hnhead : (r.activeNodeIs src).isHead = false := rrole.1.trans hhead
  have hnep : (r.activeNodeIs src).epoch = a.epoch := re
  generalize hn : r.activeNodeIs src = n at *
  obtain ⟨sr, sg⟩ := n.setSplit_keeps (if a.split then some a.splitSlot else none)
  have hsrole := Block.isHead_of_role (sg F.SYS_ROLE_ROLE ⟨by decide, by decide⟩)
  have hsep : (n.setSplit (if a.split then some a.splitSlot else none)).epoch = n.epoch := sg _ ⟨by decide, by decide⟩
  have hslnk : (n.setSplit (if a.split then some a.splitSlot else none)).lnk = n.lnk := by rw [sr]
  obtain ⟨b1, b2, b3, b4, b5, b6⟩ := activeBeyond_spec (n.setSplit (if a.split then some a.splitSlot else none)) hp (hsrole.2.trans hnrole)
  have heq : c.aliveHeard src (.lnk p) a = (n.setSplit (if a.split then some a.splitSlot else none)).activeBeyond (.lnk p) false := by
    have hbeyond : ((n.setSplit (if a.split then some a.splitSlot else none)).activeBeyond (.lnk p) false).isHead = false := by
      rw [b6, hsrole.1, hnhead]
    rw [Block.aliveHeard, hheed, hd]
    simp only [Bool.false_eq_true, if_false, hn, hnrole, beq_self_eq_true, Bool.true_or, if_true, hbeyond, Bool.false_and]
  rw [heq]
  exact ⟨by rw [b4, hsep, hnep], by rw [b5, hslnk, hnode], b1, b2, b3⟩

end

end Sys2Proof.Machine
end

section
/-!
PROOFS of chapter 8: HEAD_STATE, DEMOTE and BREAK at a head (R264, R266, R267, R269, R270).
-/

namespace Sys2Proof.Machine

/-! ### HEAD_STATE is taken -/

/-- The record of a head that has taken a HEAD_STATE of head `src`. -/
def Block.stateKept (b : Block) (src : Nat) (h : HeadState) : Block :=
  { b with lnk := { b.lnk with
    activeNode := src, lastHead := b.clk, listenFrom := none, table := h.txns
    ids := b.lnk.ids.modify h.idSlot (fun r => { r with serial := h.idSerial, incarn := h.idIncarn }) } }

/-- A HEAD_STATE is taken, up to its digest. -/
def Block.stateTaken (b : Block) (h : HeadState) (m : Msg) : Block :=
  ((b.stateKept m.src h).set (F.LNK_SLOTs_INFO_INCARN h.idSlot) h.idIncarn).learnIncarn m

theorem Block.learnIncarn_incarn (b : Block) (m : Msg) : ∃ n, b.learnIncarn m = { b with lnk.incarn := n } := by
  rw [Block.learnIncarn]
  split
  · split
    · exact ⟨_, rfl⟩
    · exact ⟨b.lnk.incarn, rfl⟩
  · exact ⟨b.lnk.incarn, rfl⟩

section
variable {b c : Block} {rx : Rx} {h : HeadState}

theorem headState_eq (hrec : b.receive rx = .accepted c) (hb : rx.msg.body = .headState h) (hh : c.isHead = true) (hd : c.duty = dutyStandby)
    (hf : c.fromHead rx.msg.src = true) (hs : rx.msg.src ≠ c.node) (he : h.epoch = c.epoch) :
    headState rx b = ((c.stateTaken h rx.msg).takeDigest h.wfn h.digest).heedSplit (if h.split then some h.splitSlot else none) := by
  have hopen : ¬((!c.isHead || rx.msg.src == c.node || !c.fromHead rx.msg.src || decide (h.epoch < c.epoch)) = true) := by
    rw [hh, beq_eq_false_iff_ne.mpr hs, hf, he, decide_eq_false (by omega)]
    decide
  have hheed := heed_same (claims := true) hf hs (.inr hd)
  rw [headState, Block.taking, hrec]
  dsimp only
  rw [hb]
  dsimp only
  rw [if_neg hopen, he, hheed, if_neg (by rw [hd]; decide)]
  rfl

theorem Block.stateTaken_spec (c : Block) (h : HeadState) (m : Msg) (hi : h.idSlot < 64) :
    let t := c.stateTaken h m
    (t.lnk.table = h.txns ∧ t.lnk.lastHead = c.clk ∧ t.lnk.digestAt = c.lnk.digestAt ∧ t.lnk.sameDigests = c.lnk.sameDigests)
      ∧ t.duty = c.duty := by
  intro t
  obtain ⟨n, hn⟩ := ((c.stateKept m.src h).set (F.LNK_SLOTs_INFO_INCARN h.idSlot) h.idIncarn).learnIncarn_incarn m
  have ht : t = _ := hn
  have hlnk := (c.stateKept m.src h).set_lnk (F.LNK_SLOTs_INFO_INCARN h.idSlot) h.idIncarn
  have hduty : ((c.stateKept m.src h).set (F.LNK_SLOTs_INFO_INCARN h.idSlot) h.idIncarn).duty = c.duty := by
    rw [Block.duty, Block.get_set_apart _ _ rfl (Fld.apart_of_addr ?_)]
    · rfl
    · simp only [F.LNK_CHAIN_STATUS_DUTY, R.LNK_CHAIN_STATUS, F.LNK_SLOTs_INFO_INCARN, R.LNK_SLOTs_INFO]
      omega
  generalize (c.stateKept m.src h).set (F.LNK_SLOTs_INFO_INCARN h.idSlot) h.idIncarn = d at *
  rw [ht]
  exact ⟨⟨by rw [hlnk]; rfl, by rw [hlnk]; rfl, by rw [hlnk]; rfl, by rw [hlnk]; rfl⟩, hduty⟩

end

/-! ### The digest (R266) -/

section
variable (b : Block) (k : Nat)

/-- The count of equal digests. -/
def Block.digestsSame : Block := { b with lnk.sameDigests := k }

theorem Block.judgeDigest_same (d : Nat) : b.judgeDigest d d =
    (b.digestsSame (b.lnk.sameDigests + 1)).when (decide (2 ≤ b.lnk.sameDigests + 1)) (·.set F.LNK_CHAIN_STATUS_SYNCED 1) := by
  rw [Block.judgeDigest, if_pos rfl]
  rfl

theorem Block.judgeDigest_differs {d own : Nat} (h : d ≠ own) :
    b.judgeDigest d own = ((b.digestsSame 0).set F.LNK_CHAIN_STATUS_SYNCED 0).raise E.LNK_STATE_DIVERGED := by
  rw [Block.judgeDigest, if_neg h]
  rfl

theorem Block.judgeDigest_differs_spec {d own : Nat} (h : d ≠ own) :
    let t := b.judgeDigest d own
    t.bit F.LNK_CHAIN_STATUS_SYNCED = false ∧ t.bit F.LNK_ERR_STATE_DIVERGED = true ∧ t.lnk = { b.lnk with sameDigests := 0 } ∧ t.duty = b.duty := by
  rw [Block.judgeDigest_differs b h, Block.raise_eq]
  refine ⟨?_, Block.bit_raiseAt_self (e := E.LNK_STATE_DIVERGED) _ _ rfl rfl rfl rfl (by decide), ?_, ?_⟩
  · rw [Block.bit_raiseAt_apart _ _ rfl rfl rfl rfl (by decide), Block.bit_set_zero_self _ rfl]
  · rw [Block.raiseAt_lnk, Block.set_lnk]
    rfl
  · rw [Block.duty, Block.get_raiseAt_apart _ _ rfl rfl rfl rfl (by decide), Block.get_set_apart _ _ rfl rfl]
    rfl

theorem Block.judgeDigest_same_spec (d : Nat) :
    let t := b.judgeDigest d d
    (1 ≤ b.lnk.sameDigests → t.bit F.LNK_CHAIN_STATUS_SYNCED = true) ∧ t.lnk = { b.lnk with sameDigests := b.lnk.sameDigests + 1 }
      ∧ t.duty = b.duty := by
  rw [Block.judgeDigest_same]
  cases hk : decide (2 ≤ b.lnk.sameDigests + 1)
  · refine ⟨fun h => absurd hk (by rw [decide_eq_true (by omega)]; decide), rfl, rfl⟩
  · refine ⟨fun _ => Block.bit_set_one_self _ rfl rfl, ?_, ?_⟩
    · rw [Block.when_true, Block.set_lnk]
      rfl
    · rw [Block.when_true, Block.duty, Block.get_set_apart _ _ rfl rfl]
      rfl

/-- A digest leaves the duty and the table. -/
theorem Block.takeDigest_keeps (n d : Nat) : (b.takeDigest n d).duty = b.duty ∧ (b.takeDigest n d).lnk.table = b.lnk.table := by
  rw [Block.takeDigest]
  split
  · by_cases he : d = b.lnk.digestAt.2
    · rw [he]
      obtain ⟨-, hl, hd⟩ := b.judgeDigest_same_spec b.lnk.digestAt.2
      exact ⟨hd, by rw [hl]⟩
    · obtain ⟨-, -, hl, hd⟩ := b.judgeDigest_differs_spec he
      exact ⟨hd, by rw [hl]⟩
  · split
    · exact ⟨rfl, rfl⟩
    · exact ⟨rfl, rfl⟩

/-! ### The split (R270) -/

theorem heedSplit_none (hd : b.duty = dutyStandby) : b.heedSplit none = b.setSplit none := by
  have hn : b.duty ≠ dutyDelegate := by rw [hd]; decide
  rw [Block.heedSplit]
  dsimp only
  rw [if_neg (fun h => hn h.1), if_neg hn]

/-- No delegate's end is due. -/
def Block.delegateStands : Block := { b with lnk.delegateEnds := false }

theorem heedSplit_some (hd : (b.setSplit (some k)).duty = dutyStandby) : b.heedSplit (some k) =
    ((((b.setSplit (some k)).delegateStands.setDuty dutyDelegate).delegateStands).resend
      (((b.setSplit (some k)).delegateStands.setDuty dutyDelegate).delegateStands).beyondSplit).sendAlive := by
  have hd' : (b.setSplit (some k)).delegateStands.duty = dutyStandby := hd
  rw [Block.heedSplit]
  change (if (b.setSplit (some k)).delegateStands.duty = dutyStandby then _ else _) = _
  rw [if_pos hd']
  rfl

theorem heedSplit_some_spec (hd : b.duty = dutyStandby) (hk : k < 64) :
    let t := b.heedSplit (some k)
    t.duty = dutyDelegate ∧ t.bit F.LNK_CHAIN_STATUS_SPLIT = true ∧ t.get F.LNK_CHAIN_STATUS_SPLIT_SLOT = k ∧ t.lnk.table = b.lnk.table := by
  obtain ⟨sr, ss, sk, sd, -, -⟩ := b.setSplit_spec (s := some k) (by rw [Option.getD_some]; omega)
  rw [heedSplit_some b k (sd.trans hd)]
  have hlnk : (b.setSplit (some k)).delegateStands.lnk.table = b.lnk.table := by
    rw [Block.delegateStands, sr]
  have hbit : (b.setSplit (some k)).delegateStands.bit F.LNK_CHAIN_STATUS_SPLIT = true := ss
  have hslot : (b.setSplit (some k)).delegateStands.get F.LNK_CHAIN_STATUS_SPLIT_SLOT = k := sk
  generalize (b.setSplit (some k)).delegateStands = c at *
  obtain ⟨dr, dd, ds, dk, -, -⟩ := c.setDuty_spec (d := dutyDelegate) (by decide)
  have hdl : (c.setDuty dutyDelegate).delegateStands.lnk.table = c.lnk.table := by
    rw [Block.delegateStands, dr]
  have hdd : (c.setDuty dutyDelegate).delegateStands.duty = dutyDelegate := dd
  have hds : (c.setDuty dutyDelegate).delegateStands.bit F.LNK_CHAIN_STATUS_SPLIT = true := ds.trans hbit
  have hdk : (c.setDuty dutyDelegate).delegateStands.get F.LNK_CHAIN_STATUS_SPLIT_SLOT = k := dk.trans hslot
  generalize (c.setDuty dutyDelegate).delegateStands = d at *
  have hs := (sends_resend d d.beyondSplit).trans (sends_sendAlive _)
  obtain ⟨-, -, hl, -⟩ := id hs
  generalize (d.resend d.beyondSplit).sendAlive = t at *
  exact ⟨hs.duty.trans hdd, (hs.bit (sendBeside_chain (by decide))).trans hds, (hs.get (sendBeside_chain (by decide))).trans hdk,
    by rw [hl]; exact hdl.trans hlnk⟩

end

/-! ### HEAD_STATE, case by case -/

section
variable {c : Block} {h : HeadState} (m : Msg) (hi : h.idSlot < 64) (hd : c.duty = dutyStandby)
include hi hd

theorem stateTaken_equal (hw : h.wfn = c.lnk.digestAt.1) (he : h.digest = c.lnk.digestAt.2) (hn : 1 ≤ c.lnk.sameDigests) :
    let t := ((c.stateTaken h m).takeDigest h.wfn h.digest).heedSplit none
    t.bit F.LNK_CHAIN_STATUS_SYNCED = true ∧ t.lnk.table = h.txns ∧ t.lnk.lastHead = c.clk := by
  obtain ⟨⟨ht, hl, hat, hsame⟩, hduty⟩ := c.stateTaken_spec h m hi
  generalize c.stateTaken h m = d at *
  have hjudge : d.takeDigest h.wfn h.digest = d.judgeDigest d.lnk.digestAt.2 d.lnk.digestAt.2 := by
    rw [Block.takeDigest, if_pos (by rw [hat]; exact hw), hat, he]
  obtain ⟨js, jl, jd⟩ := d.judgeDigest_same_spec d.lnk.digestAt.2
  rw [hjudge, heedSplit_none _ (jd.trans (hduty.trans hd))]
  generalize d.judgeDigest d.lnk.digestAt.2 d.lnk.digestAt.2 = e at *
  obtain ⟨sr, -, -, -, sy, -⟩ := e.setSplit_spec (s := none) (by decide)
  have hlnk : (e.setSplit none).lnk = e.lnk := by rw [sr]
  refine ⟨sy.trans (js (by omega)), ?_, ?_⟩
  · rw [hlnk, jl]
    exact ht
  · rw [hlnk, jl]
    exact hl

theorem stateTaken_diverged (hw : h.wfn = c.lnk.digestAt.1) (he : h.digest ≠ c.lnk.digestAt.2) :
    let t := ((c.stateTaken h m).takeDigest h.wfn h.digest).heedSplit none
    t.bit F.LNK_CHAIN_STATUS_SYNCED = false ∧ t.bit F.LNK_ERR_STATE_DIVERGED = true ∧ t.lnk.sameDigests = 0 ∧ t.lnk.table = h.txns := by
  obtain ⟨⟨ht, -, hat, -⟩, hduty⟩ := c.stateTaken_spec h m hi
  generalize c.stateTaken h m = d at *
  have hjudge : d.takeDigest h.wfn h.digest = d.judgeDigest h.digest d.lnk.digestAt.2 := by
    rw [Block.takeDigest, if_pos (by rw [hat]; exact hw)]
  obtain ⟨js, je, jl, jd⟩ := d.judgeDigest_differs_spec (d := h.digest) (own := d.lnk.digestAt.2) (by rw [hat]; exact he)
  rw [hjudge, heedSplit_none _ (jd.trans (hduty.trans hd))]
  generalize d.judgeDigest h.digest d.lnk.digestAt.2 = e at *
  obtain ⟨sr, -, -, -, sy, sg⟩ := e.setSplit_spec (s := none) (by decide)
  have hlnk : (e.setSplit none).lnk = e.lnk := by rw [sr]
  refine ⟨sy.trans js, ?_, by rw [hlnk, jl], ?_⟩
  · rw [Block.bit, sg _ ⟨by decide, by decide⟩, ← Block.bit, je]
  · rw [hlnk, jl]
    exact ht

theorem stateTaken_ahead (hw : c.lnk.digestAt.1 < h.wfn) :
    let t := ((c.stateTaken h m).takeDigest h.wfn h.digest).heedSplit none
    t.lnk.digestDue = some (h.wfn, h.digest) ∧ t.lnk.sameDigests = c.lnk.sameDigests := by
  obtain ⟨⟨-, -, hat, hsame⟩, hduty⟩ := c.stateTaken_spec h m hi
  obtain ⟨hkd, -⟩ := (c.stateTaken h m).takeDigest_keeps h.wfn h.digest
  rw [heedSplit_none _ (hkd.trans (hduty.trans hd))]
  generalize c.stateTaken h m = d at *
  have hlater : (d.takeDigest h.wfn h.digest).lnk = { d.lnk with digestDue := some (h.wfn, h.digest) } := by
    rw [Block.takeDigest, hat, if_neg (by omega), if_pos hw]
  generalize d.takeDigest h.wfn h.digest = e at *
  obtain ⟨sr, -⟩ := e.setSplit_keeps none
  have hlnk : (e.setSplit none).lnk = e.lnk := by rw [sr]
  exact ⟨by rw [hlnk, hlater], by rw [hlnk, hlater]; exact hsame⟩

theorem stateTaken_split (hs : h.splitSlot < 64) :
    let t := ((c.stateTaken h m).takeDigest h.wfn h.digest).heedSplit (some h.splitSlot)
    t.duty = dutyDelegate ∧ t.bit F.LNK_CHAIN_STATUS_SPLIT = true ∧ t.get F.LNK_CHAIN_STATUS_SPLIT_SLOT = h.splitSlot ∧ t.lnk.table = h.txns := by
  obtain ⟨⟨ht, -⟩, hduty⟩ := c.stateTaken_spec h m hi
  obtain ⟨hkd, hkt⟩ := (c.stateTaken h m).takeDigest_keeps h.wfn h.digest
  obtain ⟨h1, h2, h3, h4⟩ := heedSplit_some_spec _ h.splitSlot (hkd.trans (hduty.trans hd)) hs
  exact ⟨h1, h2, h3, h4.trans (hkt.trans ht)⟩

end

end Sys2Proof.Machine
end

section
/-!
PROOFS of chapter 8: DEMOTE, BREAK, HANDOVER and Spores at a head (R256, R264, R268, R269).
-/

namespace Sys2Proof.Machine

/-! ### DEMOTE (R264) -/

/-- The record of a head that drops to STANDBY. -/
def Block.standbyKept (b : Block) : Block :=
  { b with lnk := { b.lnk with takeover := false, delegateEnds := false, sameDigests := 0, lastHead := b.clk } }

theorem Block.dropToStandby_eq (b : Block) :
    b.dropToStandby = ((((b.setDuty dutyStandby).set F.LNK_CHAIN_STATUS_SYNCED 0).standbyKept).setSplit none).raise E.LNK_DEMOTED := rfl

theorem Block.dropToStandby_spec (b : Block) :
    let t := b.dropToStandby
    t.duty = dutyStandby ∧ t.epoch = b.epoch ∧ t.bit F.LNK_ERR_DEMOTED = true ∧ t.bit F.LNK_CHAIN_STATUS_SYNCED = false
      ∧ t.lnk.storedEpoch = b.lnk.storedEpoch ∧ t.lnk.incarn = b.lnk.incarn := by
  obtain ⟨dr, dd, -, -, -, dg⟩ := b.setDuty_spec (d := dutyStandby) (by decide)
  have hdl : (b.setDuty dutyStandby).lnk = b.lnk := by rw [dr]
  have hep : (b.setDuty dutyStandby).epoch = b.epoch := dg _ ⟨by decide, by decide⟩
  rw [Block.dropToStandby_eq]
  generalize b.setDuty dutyStandby = c at *
  have hk1 : (c.set F.LNK_CHAIN_STATUS_SYNCED 0).standbyKept.duty = dutyStandby := (Block.get_set_apart c 0 rfl rfl).trans dd
  have hk2 : (c.set F.LNK_CHAIN_STATUS_SYNCED 0).standbyKept.epoch = b.epoch := (Block.get_set_apart c 0 rfl (by decide)).trans hep
  have hk3 : (c.set F.LNK_CHAIN_STATUS_SYNCED 0).standbyKept.bit F.LNK_CHAIN_STATUS_SYNCED = false := Block.bit_set_zero_self c rfl
  have hk4 : (c.set F.LNK_CHAIN_STATUS_SYNCED 0).standbyKept.lnk.storedEpoch = b.lnk.storedEpoch := by
    rw [Block.standbyKept, Block.set_lnk, hdl]
  have hk5 : (c.set F.LNK_CHAIN_STATUS_SYNCED 0).standbyKept.lnk.incarn = b.lnk.incarn := by
    rw [Block.standbyKept, Block.set_lnk, hdl]
  generalize (c.set F.LNK_CHAIN_STATUS_SYNCED 0).standbyKept = d at *
  obtain ⟨sr, -, -, sd, sy, sg⟩ := d.setSplit_spec (s := none) (by decide)
  have hse : (d.setSplit none).epoch = d.epoch := sg _ ⟨by decide, by decide⟩
  have hsl : (d.setSplit none).lnk = d.lnk := by rw [sr]
  rw [Block.raise_eq]
  refine ⟨?_, ?_, Block.bit_raiseAt_self (e := E.LNK_DEMOTED) _ _ rfl rfl rfl rfl (by decide), ?_, ?_, ?_⟩
  · rw [Block.duty, Block.get_raiseAt_apart _ _ rfl rfl rfl rfl (by decide)]
    exact sd.trans hk1
  · rw [Block.epoch, Block.get_raiseAt_apart _ _ rfl rfl rfl rfl (by decide)]
    exact hse.trans hk2
  · rw [Block.bit_raiseAt_apart _ _ rfl rfl rfl rfl (by decide), sy, hk3]
  · rw [Block.raiseAt_lnk, hsl, hk4]
  · rw [Block.raiseAt_lnk, hsl, hk5]

theorem demote_spec {b c : Block} {rx : Rx} {e node inc : Nat} (hrec : b.receive rx = .accepted c) (hb : rx.msg.body = .demote e node inc)
    (hh : c.isHead = true) (hlt : c.epoch < e) (he : e < 2 ^ 32) (hi : inc ≤ c.lnk.incarn) :
    let t := demote rx b
    t.duty = dutyStandby ∧ t.epoch = e ∧ t.bit F.LNK_ERR_DEMOTED = true ∧ t.bit F.LNK_CHAIN_STATUS_SYNCED = false
      ∧ t.lnk.storedEpoch = max c.lnk.storedEpoch e := by
  obtain ⟨⟨⟨d, e', hr⟩, -⟩, hep, hst⟩ := c.epochSet_spec he
  have hraise : c.raiseEpoch e none = c.epochSet e := by rw [Block.raiseEpoch_eq, if_pos hlt]
  have hstored := hst hh
  have hinc : (c.epochSet e).lnk.incarn = c.lnk.incarn := by rw [hr]
  obtain ⟨h1, h2, h3, h4, h5, h6⟩ := (c.epochSet e).dropToStandby_spec
  have hdrop : c.when (c.isHead && decide (c.epoch < e)) (fun b => (b.raiseEpoch e none).dropToStandby) = (c.epochSet e).dropToStandby := by
    rw [hh, decide_eq_true hlt, Bool.true_and, Block.when_true, hraise]
  have heq : demote rx b = (c.epochSet e).dropToStandby := by
    rw [demote, Block.taking, hrec]
    dsimp only
    rw [hb]
    dsimp only
    rw [hdrop, h6, hinc, decide_eq_false (by omega), Block.when_false]
  rw [heq]
  exact ⟨h1, h2.trans hep, h3, h4, h5.trans hstored⟩

/-! ### BREAK (R269) -/

theorem breakMsg_spec {b c : Block} {rx : Rx} {node slot port w k : Nat} (hrec : b.receive rx = .accepted c)
    (hb : rx.msg.body = .brk node slot port false w) (hh : c.isHead = true) (hd : c.duty ≠ dutyActive) (hk : linkAt slot port = some k) :
    let t := breakMsg rx b
    t.bit F.LNK_ERR_BREAK = true ∧ k ∈ t.lnk.broken ∧ t.lnk.breaks = c.lnk.breaks + 1 ∧ t.duty = c.duty
      ∧ SameOutside [0x1C, 0x30] c t ∧ SameMem c t := by
  have hlearn : breakMsg rx b = c.learnBreak (some k) false := by
    rw [breakMsg, Block.taking, hrec]
    dsimp only
    rw [hb]
    exact (if_pos hh).trans (by rw [hk])
  have hlnk : c.breakSeen.lnk = { c.lnk with breaks := c.lnk.breaks + 1 } := by
    rw [Block.breakSeen, Block.raise_eq, Block.raiseAt_lnk]
  have hduty : c.breakSeen.duty = c.duty := by
    rw [Block.breakSeen, Block.raise_eq, Block.duty, Block.get_raiseAt_apart _ _ rfl rfl rfl rfl (by decide)]
    rfl
  have herr : c.breakSeen.bit F.LNK_ERR_BREAK = true :=
    Block.bit_raiseAt_self (e := E.LNK_BREAK) _ _ rfl rfl rfl rfl (by decide)
  have hout : SameOutside [0x1C, 0x30] c c.breakSeen := by
    rw [Block.breakSeen, Block.raise_eq, sameOutside_raiseAt _ (by decide) (by decide) (by decide)]
    exact (sameOutside_congr rfl).mpr (.refl _ c)
  have hmem : SameMem c c.breakSeen := by
    rw [Block.breakSeen, Block.raise_eq, sameMem_raiseAt]
    exact sameMem_of_eq rfl rfl
  have hquiet : c.learnBreak (some k) false = c.breakSeen.breakAt k false := by
    have hdn : ((c.breakSeen.breakAt k false).duty == dutyActive) = false := beq_eq_false_iff_ne.mpr fun h => hd (hduty.symm.trans h)
    rw [Block.learnBreak_some, hdn, Bool.and_false, Bool.false_and, Bool.false_and, if_neg (by decide)]
  rw [hlearn, hquiet]
  generalize c.breakSeen = d at *
  refine ⟨herr, ?_, by rw [Block.breakAt, hlnk], hduty, (sameOutside_congr (u := d) rfl).mpr hout, hmem.trans (sameMem_of_eq rfl rfl)⟩
  show k ∈ d.lnk.broken.filter (· != k) ++ [k]
  exact List.mem_append_right _ (List.mem_singleton.mpr rfl)

/-! ### HANDOVER is asked for (R268) -/

theorem lnkCmdHandover_refused {b : Block} {v : Nat} (hv : F.LNK_CMD_HANDOVER.of v = 1) (hd : b.duty = dutyActive) :
    let t := lnkCmdHandover v false b
    t.bit F.LNK_ERR_STATE_DIVERGED = true ∧ t.duty = dutyActive ∧ SameOutside [0x1C, 0x30] b t ∧ SameMem b t := by
  have heq : lnkCmdHandover v false b = b.raise E.LNK_STATE_DIVERGED := by
    rw [lnkCmdHandover, if_neg (by rw [hv, hd]; decide)]
    rfl
  rw [heq, Block.raise_eq]
  refine ⟨Block.bit_raiseAt_self (e := E.LNK_STATE_DIVERGED) _ _ rfl rfl rfl rfl (by decide), ?_,
    (sameOutside_raiseAt _ (by decide) (by decide) (by decide)).mpr (.refl _ b), (sameMem_raiseAt _ _ _ _).mpr (.refl b)⟩
  rw [Block.duty, Block.get_raiseAt_apart _ _ rfl rfl rfl rfl (by decide)]
  exact hd

/-- A ring's descriptor is written back: nothing leaves, no number is taken. -/
theorem Block.setRing_out (b : Block) (r : Ring) : (b.setRing r).out = b.out ∧ (b.setRing r).hif.seq = b.hif.seq := by
  rw [Block.setRing_eq, Block.dramWrite, Block.writeDram_eq, Block.dramUse_eq]
  exact ⟨rfl, rfl⟩

theorem Block.slotSent_out (b : Block) (n session : Nat) (m : Msg) :
    (b.slotSent n session m).out = b.out ∧ (b.slotSent n session m).hif.seq = b.hif.seq := by
  have hw (a : Nat) (bs : List Byte) : (b.dramWrite 0 a bs).out = b.out ∧ (b.dramWrite 0 a bs).hif.seq = b.hif.seq := by
    rw [Block.dramWrite, Block.writeDram_eq, Block.dramUse_eq]
    exact ⟨rfl, rfl⟩
  rw [Block.slotSent, (Block.setRing_out _ _).1, (Block.setRing_out _ _).2]
  exact hw _ _

theorem Block.depart_lnk_seq (b : Block) (q : Nat) (m : Msg) : (b.depart (.lnk q) m).hif.seq = b.hif.seq := by
  obtain ⟨hr, -, -⟩ := b.countCells_spec q 0 (msgCells m)
  rw [Block.depart, Block.emit_hif, hr]

/-- A message leaves by a Lysrov port whose session is up, through a sound ring. -/
theorem Block.sendOut_lnk {b : Block} {q : Nat} {m : Msg} (hup : b.bit (F.LNKn_STATUS_SESSION_UP q) = true)
    (hp : (b.ring m.dest).populated = true) (hs : ringSound (b.ringBytes m.dest) = true) (hq : isRequest m.type = false) :
    let t := (b.sendOut (.lnk q) m).2
    (∃ w, t.out = .msg (.lnk q) m w :: b.out) ∧ t.hif.seq = b.hif.seq := by
  have hkept := ringKept_dramUse m.dest b 0 (64 * m.dest) 64
  have hopen : (b.dramUse 0 (64 * m.dest) 64).sessionOpen (.lnk q) m.dest = true := by
    rw [Block.sessionOpen, Block.dramUse_eq]
    exact hup
  have huse : (b.dramUse 0 (64 * m.dest) 64).out = b.out ∧ (b.dramUse 0 (64 * m.dest) 64).hif.seq = b.hif.seq := by
    rw [Block.dramUse_eq]
    exact ⟨rfl, rfl⟩
  have hdisp : b.dispatch (.lnk q) m = (0, ((b.dramUse 0 (64 * m.dest) 64).slotSent m.dest
      ((b.dramUse 0 (64 * m.dest) 64).sessionId (.lnk q) m.dest) m).depart (.lnk q) m) := by
    rw [Block.dispatch, Block.dispatchTo_eq, Block.readRing_sound hs, Block.populate_populated (by rw [hkept.1]; exact hp)]
    dsimp only
    rw [Block.dispatchFrom, if_pos hopen]
  rw [Block.sendOut_eq, hdisp]
  dsimp only
  rw [hq, Bool.and_false, Block.when_false]
  generalize b.dramUse 0 (64 * m.dest) 64 = c at *
  obtain ⟨so, ss⟩ := c.slotSent_out m.dest (c.sessionId (.lnk q) m.dest) m
  generalize c.slotSent m.dest (c.sessionId (.lnk q) m.dest) m = d at *
  obtain ⟨⟨w, hw⟩, -, -⟩ := d.depart_lnk q m
  exact ⟨⟨w, by rw [hw, so, huse.1]⟩, by rw [Block.depart_lnk_seq, ss, huse.2]⟩

theorem lnkCmdHandover_sends {b : Block} {v q : Nat} (hv : F.LNK_CMD_HANDOVER.of v = 1) (hd : b.duty = dutyActive)
    (hroute : b.route b.otherHead true = .out (.lnk q)) (hup : b.bit (F.LNKn_STATUS_SESSION_UP q) = true) (hall : b.otherHead ≠ nodeAll)
    (hp : (b.ring b.otherHead).populated = true) (hs : ringSound (b.ringBytes b.otherHead) = true) (hid : b.lnk.identityLost = false)
    (hseq : b.hif.seq + 1 < 2 ^ 32) :
    let t := lnkCmdHandover v true b
    t.duty = dutyActive ∧ t.hif.seq = b.hif.seq + 1
      ∧ ∃ (m : Msg) (w : List Byte), t.out = .msg (.lnk q) m w :: b.out ∧ m.type = 0x1A ∧ m.dest = b.otherHead ∧ m.src = b.node
        ∧ m.body = .handover b.epoch (match b.cmp.comp with | some m => m | none => b.wfn + 1) := by
  have heq : lnkCmdHandover v true b
      = b.sendMsg 0x1A b.otherHead (.handover b.epoch (match b.cmp.comp with | some m => m | none => b.wfn + 1)) := by
    rw [lnkCmdHandover, if_neg (by rw [hv, hd]; decide)]
    rfl
  rw [heq]
  generalize Body.handover b.epoch _ = body
  have hsends := sends_sendMsg b 0x1A b.otherHead body
  have hout : b.sendMsg 0x1A b.otherHead body
      = ((b.numbered (b.hif.seq + 1)).sendOut (.lnk q) (b.nextMsg 0x1A b.otherHead body)).2 := by
    rw [Block.sendMsg, Block.send, Block.speaks_of_identity _ hid, if_neg (by decide), if_neg hall, hroute, Block.compose_numbered _ _ _ hseq]
  rw [hout] at hsends ⊢
  obtain ⟨⟨w, hw⟩, hsq⟩ := Block.sendOut_lnk (b := b.numbered (b.hif.seq + 1)) (q := q) (m := b.nextMsg 0x1A b.otherHead body) hup hp hs rfl
  exact ⟨hsends.duty.trans hd, hsq, b.nextMsg 0x1A b.otherHead body, w, hw, rfl, rfl, rfl, rfl⟩

/-! ### HANDOVER arrives (R268) -/

/-- The frame of a handover is known. -/
def Block.handoverAt (b : Block) (w : Nat) : Block := { b with lnk.handover := some w }

section
variable {b c : Block} {rx : Rx} {w m : Nat}

theorem handover_eq (hrec : b.receive rx = .accepted c) (hb : rx.msg.body = .handover c.epoch w) (hh : c.isHead = true)
    (hd : c.duty = dutyStandby) (hsy : c.bit F.LNK_CHAIN_STATUS_SYNCED = true) (hf : c.fromHead rx.msg.src = true) (hp : c.pipes = true)
    (hm : c.cmp.comp = some m) : handover rx b = if w < m then (c.handoverAt w).takeOver else c.handoverAt w := by
  have hheed : c.heed rx.msg.src c.epoch none true = c := by
    by_cases hs : rx.msg.src = c.node
    · rw [Block.heed, if_pos (by rw [hs]; simp)]
    · exact heed_same hf hs (.inr hd)
  rw [handover, Block.taking, hrec]
  dsimp only
  rw [hb]
  dsimp only
  rw [hheed, if_pos ⟨hh, hd, hsy, hf, rfl, hp⟩, hm]
  rfl

end

/-! ### A Spore (R256) -/

/-- A Spore goes to its place in DRAM. -/
def Block.sporeWritten (b : Block) (s base : Nat) (sp : Spore) : Block := b.dramWrite 0 (base + 64 * s) (Body.spore sp).bytes

/-- The table of Spores with that of slot `s` put in. -/
def Block.sporeListed (b : Block) (s : Nat) (sp : Spore) : Block :=
  { b with lnk.spores := b.lnk.spores.filter (fun e : SporeEntry => e.slot != s)
      ++ (b.lnk.spores.filter (fun e : SporeEntry => e.slot == s && e.spore.wfn != sp.wfn)).getLast?.toList ++ [SporeEntry.mk s sp] }

theorem storeSpore_eq {b : Block} {base : Nat} (s : Nat) (sp : Spore) (hb : base = b.actPair F.LNK_SPORE_BASE_LO F.LNK_SPORE_BASE_HI_BASE)
    (h0 : base ≠ 0) : b.storeSpore s sp =
      (((b.sporeWritten s base sp).set (F.LNK_SLOTs_INFO_SEEN s) 1).setBit (F.LNK_SLOTs_INFO_HOLDING s) (bitOf sp.flags 2)).sporeListed s sp := by
  rw [Block.storeSpore, ← hb, if_neg h0, ← Block.sporeWritten]
  dsimp only
  generalize Block.setBit _ (F.LNK_SLOTs_INFO_HOLDING s) _ = c
  rfl

theorem Block.sporeListed_keeps (b : Block) (s : Nat) (sp : Spore) :
    (b.sporeListed s sp).dram = b.dram ∧ ∀ g, (b.sporeListed s sp).bit g = b.bit g := ⟨rfl, fun _ => rfl⟩

theorem storeSpore_spec {b : Block} {base s : Nat} (sp : Spore)
    (hb : base = b.actPair F.LNK_SPORE_BASE_LO F.LNK_SPORE_BASE_HI_BASE) (h0 : base ≠ 0) :
    let t := b.storeSpore s sp
    t.bit (F.LNK_SLOTs_INFO_SEEN s) = true ∧ t.bit (F.LNK_SLOTs_INFO_HOLDING s) = bitOf sp.flags 2 ∧ (⟨s, sp⟩ : SporeEntry) ∈ t.lnk.spores
      ∧ t.dramBytes (base + 64 * s) (Body.spore sp).bytes.length = (Body.spore sp).bytes
      ∧ ∀ x, x < base + 64 * s ∨ base + 64 * s + (Body.spore sp).bytes.length ≤ x → t.dramByte x = b.dramByte x := by
  have hbytes : (b.sporeWritten s base sp).dramBytes (base + 64 * s) (Body.spore sp).bytes.length = (Body.spore sp).bytes :=
    b.dramBytes_dramWrite 0 _ _
  have hother (x : Nat) (hx : x < base + 64 * s ∨ base + 64 * s + (Body.spore sp).bytes.length ≤ x) :
      (b.sporeWritten s base sp).dramByte x = b.dramByte x := by
    rw [Block.sporeWritten, Block.dramByte_dramWrite, if_neg (by omega)]
  rw [storeSpore_eq s sp hb h0]
  generalize b.sporeWritten s base sp = c at *
  have hd : ((c.set (F.LNK_SLOTs_INFO_SEEN s) 1).setBit (F.LNK_SLOTs_INFO_HOLDING s) (bitOf sp.flags 2)).dram = c.dram := by
    rw [Block.setBit_eq, Block.set_dram, Block.set_dram]
  have hseen : ((c.set (F.LNK_SLOTs_INFO_SEEN s) 1).setBit (F.LNK_SLOTs_INFO_HOLDING s) (bitOf sp.flags 2)).bit (F.LNK_SLOTs_INFO_SEEN s) = true := by
    have hap : (F.LNK_SLOTs_INFO_SEEN s).apart (F.LNK_SLOTs_INFO_HOLDING s) = true := (Fld.apart_iff _ _).mpr (.inr (.inl (by show 29 < 31; decide)))
    rw [Block.setBit_eq, Block.bit_set_apart _ _ rfl hap, Block.bit_set_one_self _ rfl rfl]
  have hholding : ((c.set (F.LNK_SLOTs_INFO_SEEN s) 1).setBit (F.LNK_SLOTs_INFO_HOLDING s) (bitOf sp.flags 2)).bit (F.LNK_SLOTs_INFO_HOLDING s)
      = bitOf sp.flags 2 := by
    rw [Block.setBit_eq]
    cases bitOf sp.flags 2
    · exact Block.bit_set_zero_self _ rfl
    · exact Block.bit_set_one_self _ rfl rfl
  generalize Block.setBit _ (F.LNK_SLOTs_INFO_HOLDING s) _ = d at *
  obtain ⟨ld, lb⟩ := d.sporeListed_keeps s sp
  have hbyte (x : Nat) : (d.sporeListed s sp).dramByte x = c.dramByte x := by rw [Block.dramByte, ld, hd, Block.dramByte]
  refine ⟨by rw [lb, hseen], by rw [lb, hholding], List.mem_append_right _ (List.mem_singleton.mpr rfl), ?_, fun x hx => by rw [hbyte, hother x hx]⟩
  have hsame (n : Nat) : (d.sporeListed s sp).dramBytes (base + 64 * s) n = c.dramBytes (base + 64 * s) n := by
    simp only [Block.dramBytes, hbyte]
  rw [hsame, hbytes]

theorem storeSpore_duty {b : Block} {base s : Nat} (sp : Spore) (hs : s < 64)
    (hb : base = b.actPair F.LNK_SPORE_BASE_LO F.LNK_SPORE_BASE_HI_BASE) (h0 : base ≠ 0) : (b.storeSpore s sp).duty = b.duty := by
  have hw : (b.sporeWritten s base sp).duty = b.duty := (sending.dramWrite b 0 (base + 64 * s) (Body.spore sp).bytes).duty
  have hap (g : Fld) (hg : g.addr = R.LNK_SLOTs_INFO s) : F.LNK_CHAIN_STATUS_DUTY.apart g = true := Fld.apart_of_addr (by
    simp only [hg, F.LNK_CHAIN_STATUS_DUTY, R.LNK_CHAIN_STATUS, R.LNK_SLOTs_INFO]
    omega)
  have hset (c : Block) : ((c.set (F.LNK_SLOTs_INFO_SEEN s) 1).setBit (F.LNK_SLOTs_INFO_HOLDING s) (bitOf sp.flags 2)).duty = c.duty := by
    rw [Block.duty, Block.setBit_eq, Block.get_set_apart _ _ rfl (hap _ rfl), Block.get_set_apart _ _ rfl (hap _ rfl), Block.duty]
  have hlist (c : Block) : (c.sporeListed s sp).duty = c.duty := rfl
  rw [storeSpore_eq s sp hb h0, hlist, hset, hw]

/-- A standby keeps the Spore of the node of its slot, and no more. -/
theorem spore_eq {b c : Block} {base : Nat} {rx : Rx} {sp : Spore} (hrec : b.receive rx = .accepted c) (hb : rx.msg.body = .spore sp) (hh : c.isHead = true)
    (hd : c.duty = dutyStandby) (hs : sp.slot < (c.cfg.topo.map (·.slots)).getD 0) (he : sp.epoch = c.epoch) (h0 : rx.msg.src ≠ 0)
    (hn : rx.msg.src = (c.cfg.topo.map (fun t => t.slotNode.getD sp.slot 0)).getD 0) (h64 : sp.slot < 64)
    (hbase : base = c.actPair F.LNK_SPORE_BASE_LO F.LNK_SPORE_BASE_HI_BASE) (hb0 : base ≠ 0) : spore rx b = c.storeSpore sp.slot sp := by
  have hheed : c.heed rx.msg.src c.epoch none false = c := by
    by_cases hf : c.fromHead rx.msg.src = true ∧ rx.msg.src ≠ c.node
    · exact heed_same hf.1 hf.2 (.inr hd)
    · rw [Block.heed, if_pos]
      rw [not_and_or] at hf
      rcases hf with hf | hf
      · rw [Bool.eq_false_of_not_eq_true hf]
        rfl
      · rw [not_not.mp hf]
        simp
  obtain ⟨t, ht⟩ : ∃ t, c.cfg.topo = some t := by
    cases hc : c.cfg.topo with
    | none =>
      rw [hc] at hs
      exact absurd hs (Nat.not_lt_zero _)
    | some t => exact ⟨t, rfl⟩
  rw [ht] at hs hn
  have hopen : ¬((!c.isHead || decide (t.slots ≤ sp.slot) || c.epoch != c.epoch || rx.msg.src == 0 || rx.msg.src != t.slotNode.getD sp.slot 0) = true) := by
    rw [hh, decide_eq_false (by simpa using hs), beq_eq_false_iff_ne.mpr h0, hn]
    simp
  have hact : (c.duty == dutyActive) = false := by rw [hd]; rfl
  have hduty := (storeSpore_duty sp h64 hbase hb0).trans hd
  have htopo : (c.cfg.topo.map (fun t => (t.slots, t.slotNode.getD sp.slot 0))).getD (0, 0) = (t.slots, t.slotNode.getD sp.slot 0) := by rw [ht]; rfl
  rw [spore, Block.taking, hrec]
  dsimp only
  rw [hb]
  dsimp only
  rw [he, hheed, htopo]
  dsimp only
  rw [if_neg hopen, hact, Bool.false_and, if_neg (by decide)]
  generalize c.storeSpore sp.slot sp = d at *
  have hdact : (d.duty == dutyActive) = false := by rw [hduty]; rfl
  have hddel : (d.duty == dutyDelegate) = false := by rw [hduty]; rfl
  have hcatch : d.catchUp sp.slot rx.msg.src sp = d := by rw [Block.catchUp, if_pos (by rw [hduty]; decide)]
  rw [hdact, Bool.false_and, if_neg (by decide), hcatch, hddel, Bool.false_and]
  split <;> rfl

theorem spore_spec {b c : Block} {rx : Rx} {sp : Spore} {base : Nat} (hrec : b.receive rx = .accepted c) (hb : rx.msg.body = .spore sp)
    (hh : c.isHead = true) (hd : c.duty = dutyStandby) (hs : sp.slot < (c.cfg.topo.map (·.slots)).getD 0) (he : sp.epoch = c.epoch)
    (h0 : rx.msg.src ≠ 0) (hn : rx.msg.src = (c.cfg.topo.map (fun t => t.slotNode.getD sp.slot 0)).getD 0) (h64 : sp.slot < 64)
    (hbase : base = c.actPair F.LNK_SPORE_BASE_LO F.LNK_SPORE_BASE_HI_BASE) (hb0 : base ≠ 0) :
    let t := spore rx b
    t.bit (F.LNK_SLOTs_INFO_SEEN sp.slot) = true ∧ t.bit (F.LNK_SLOTs_INFO_HOLDING sp.slot) = bitOf sp.flags 2
      ∧ (⟨sp.slot, sp⟩ : SporeEntry) ∈ t.lnk.spores
      ∧ t.dramBytes (base + 64 * sp.slot) (Body.spore sp).bytes.length = (Body.spore sp).bytes
      ∧ ∀ x, x < base + 64 * sp.slot ∨ base + 64 * sp.slot + (Body.spore sp).bytes.length ≤ x → t.dramByte x = c.dramByte x := by
  intro t
  rw [show t = c.storeSpore sp.slot sp from spore_eq hrec hb hh hd hs he h0 hn h64 hbase hb0]
  exact storeSpore_spec sp hbase hb0

end Sys2Proof.Machine
end

section
/-!
PROOFS of chapter 8: what the heads' statement says.
-/

namespace Sys2Proof.Machine

theorem Block.settle_duty (b : Block) : b.settle.duty = b.duty := Block.settle_get _ _
theorem Block.settle_epoch (b : Block) : b.settle.epoch = b.epoch := Block.settle_get _ _
theorem Block.settle_firstWfn (b : Block) : b.settle.firstWfn = b.firstWfn := by
  rw [Block.firstWfn, Block.pair, Block.settle_get, Block.settle_get, ← Block.pair, ← Block.firstWfn]

theorem Block.settle_seq (b : Block) : b.settle.hif.seq = b.hif.seq := rfl
theorem Block.settle_dramBytes (b : Block) (a n : Nat) : b.settle.dramBytes a n = b.dramBytes a n := rfl
theorem Block.settle_dramByte (b : Block) (a : Nat) : b.settle.dramByte a = b.dramByte a := rfl

/-- HEAD_ALIVE of a delegate or of a tile's own node is none of this; of an older epoch it is nothing. -/
theorem headAlive_older {b c : Block} {rx : Rx} {a : HeadAlive} (hrec : b.receive rx = .accepted c) (hb : rx.msg.body = .headAlive a)
    (he : a.epoch < c.epoch) : headAlive rx b = c := by
  rw [headAlive_eq hrec hb, if_pos (by rw [decide_eq_true he, Bool.or_true])]

theorem headAlive_newer {b c : Block} {rx : Rx} {a : HeadAlive} {p : Nat} (hrec : b.receive rx = .accepted c) (hb : rx.msg.body = .headAlive a)
    (hv : rx.via = .lnk p) (hf : c.fromHead rx.msg.src = true) (he : c.epoch ≤ a.epoch) :
    headAlive rx b = c.aliveHeard rx.msg.src (.lnk p) a := by
  rw [headAlive_eq hrec hb, if_neg (by rw [hf, decide_eq_false (by omega)]; decide), hv]

/-- Settles O54, clause by clause: what a head sends leaves its duty, its epoch and its record (`Sends`); the rest is followed through. -/
theorem chainHeads : Obligations.ChainHeads := by
  refine ⟨?_, ?_, ?_, ?_, ?_, ?_, ?_, ?_, ?_, ?_⟩
  · intro b t0 hr hh hd hp hl hn
    refine gives_of_done (t := headListenTimeout b) hr (fun _ => rfl) ?_
    have h := headListenTimeout_spec hh hd hp hl hn
    generalize headListenTimeout b = t at *
    simp only [Block.settle_duty, Block.settle_epoch, Block.settle_firstWfn, Block.settle_lnk, Block.settle_bit, Block.settle_clk]
    exact h
  · intro b hr hh hd hp hl he hs
    refine gives_of_done (t := headLoss b) hr (fun _ => rfl) ?_
    obtain ⟨h1, h2, h3, h4, h5, h6⟩ := headLoss_spec hh hd hp hl he hs
    generalize headLoss b = t at *
    simp only [Block.settle_duty, Block.settle_epoch, Block.settle_firstWfn, Block.settle_lnk, Block.settle_bit, Block.settle_clk]
    exact ⟨h1, h2, h3, h4, h5, h6⟩
  · intro b hr hh hd
    refine gives_of_done (t := headAliveSend b) hr (fun _ => rfl) ?_
    have h := headAliveSend_spec hh hd
    generalize headAliveSend b = t at *
    simp only [Block.settle_duty, Block.settle_epoch, Block.settle_lnk, Block.settle_clk]
    exact h
  · intro b c rx a p hr hrec hb hrole hf hs hv hp hd
    refine ⟨fun hle he => ?_, fun he => ?_⟩
    · refine gives_of_done (t := headAlive rx b) hr (fun _ => rfl) ?_
      have h := aliveHeard_tile hrole hf hs hp hd hle he
      rw [headAlive_newer hrec hb hv hf hle]
      generalize c.aliveHeard rx.msg.src (.lnk p) a = t at *
      simp only [Block.settle_epoch, Block.settle_lnk, Block.settle_bit]
      exact h
    · refine gives_of_done (t := headAlive rx b) hr (fun _ => rfl) ?_
      rw [headAlive_older hrec hb he]
  · intro b c rx h hr hrec hb hh hd hf hs he hi
    have heq := headState_eq hrec hb hh hd hf hs he
    refine ⟨fun hsp hw hdig hn => ?_, fun hsp hw hdig => ?_, fun hsp hw => ?_, fun hsp hslot => ?_⟩
    all_goals
      refine gives_of_done (t := headState rx b) hr (fun _ => rfl) ?_
      rw [hsp] at heq
    · have hk := stateTaken_equal rx.msg hi hd hw hdig hn
      rw [if_neg (by decide)] at heq
      rw [heq]
      generalize Block.heedSplit _ none = t at *
      simp only [Block.settle_lnk, Block.settle_bit]
      exact hk
    · have hk := stateTaken_diverged rx.msg hi hd hw hdig
      rw [if_neg (by decide)] at heq
      rw [heq]
      generalize Block.heedSplit _ none = t at *
      simp only [Block.settle_lnk, Block.settle_bit]
      exact hk
    · have hk := stateTaken_ahead rx.msg hi hd hw
      rw [if_neg (by decide)] at heq
      rw [heq]
      generalize Block.heedSplit _ none = t at *
      simp only [Block.settle_lnk]
      exact hk
    · have hk := stateTaken_split rx.msg hi hd hslot
      rw [if_pos rfl] at heq
      rw [heq]
      generalize Block.heedSplit _ (some h.splitSlot) = t at *
      simp only [Block.settle_duty, Block.settle_lnk, Block.settle_bit, Block.settle_get]
      exact hk
  · intro b c rx e node inc hr hrec hb hh _ hlt he hi
    refine gives_of_done (t := demote rx b) hr (fun _ => rfl) ?_
    have h := demote_spec hrec hb hh hlt he hi
    generalize demote rx b = t at *
    simp only [Block.settle_duty, Block.settle_epoch, Block.settle_lnk, Block.settle_bit]
    exact h
  · intro b c rx node slot port w k hr hrec hb hh hd hk
    refine gives_of_done (t := breakMsg rx b) hr (fun _ => rfl) ?_
    have h := breakMsg_spec hrec hb hh hd hk
    generalize breakMsg rx b = t at *
    simp only [Block.settle_duty, Block.settle_lnk, Block.settle_bit, sameOutside_settle, sameMem_settle]
    exact h
  · intro b p v hr hg hv hd
    refine ⟨?_, fun q hroute hup hall hpop hsound hid hseq => ?_⟩
    · refine gives_of_writing (f := lnkCmdHandover v.toNat false) hr hg (fun _ => rfl) ?_
      have h := lnkCmdHandover_refused hv hd
      generalize lnkCmdHandover v.toNat false b = t at *
      simp only [Block.settle_duty, Block.settle_bit, sameOutside_settle, sameMem_settle]
      exact h
    · refine gives_of_writing (f := lnkCmdHandover v.toNat true) hr hg (fun _ => rfl) ?_
      obtain ⟨h1, h2, h3⟩ := lnkCmdHandover_sends hv hd hroute hup hall hpop hsound hid hseq
      generalize lnkCmdHandover v.toNat true b = t at *
      rw [Block.settle_duty, Block.settle_out, Block.settle_seq]
      exact ⟨h1, h2, h3⟩
  · intro b c rx w m hr hrec hb hh hd hsy hf hp hm
    have heq := handover_eq hrec hb hh hd hsy hf hp hm
    refine ⟨fun hle => ?_, fun hlt => ?_⟩
    all_goals refine gives_of_done (t := handover rx b) hr (fun _ => rfl) ?_
    · rw [heq, if_neg (by omega)]
      have hl : (c.handoverAt w).lnk.handover = some w ∧ (c.handoverAt w).duty = dutyStandby := ⟨rfl, hd⟩
      generalize c.handoverAt w = t at *
      simp only [Block.settle_duty, Block.settle_lnk]
      exact hl
    · rw [heq, if_pos hlt]
      obtain ⟨h1, -, h3, -, h5, -, -⟩ := takeOver_spec (c.handoverAt w)
      generalize (c.handoverAt w).takeOver = t at *
      simp only [Block.settle_duty, Block.settle_lnk, Block.settle_bit]
      exact ⟨h1, h5, h3⟩
  · intro b c rx sp base hr hrec hb hh hd hs h64 he h0 hn hbase hb0
    refine gives_of_done (t := spore rx b) hr (fun _ => rfl) ?_
    have h := spore_spec hrec hb hh hd hs he h0 hn h64 hbase hb0
    generalize spore rx b = t at *
    simp only [Block.settle_lnk, Block.settle_bit, Block.settle_dramBytes, Block.settle_dramByte]
    exact h

end Sys2Proof.Machine
end

section
/-!
PROOFS of chapter 7: the steps a composition is made of, and the source selection, faults and write-back that leave its place.
-/

namespace Sys2Proof.Machine

/-! ### The fields that tell where a composition stands -/

/-- The fields of CMP that tell the band, the state and the bands dropped. -/
def placeFields : List Fld := [F.CMP_STATUS_BAND, F.CMP_STATUS_STATE, F.CMP_CNT_Ei 2]

/-- The bits of CMP that a composition sets and only the host clears. -/
def CmpFlag (f : Fld) : Prop :=
  f ∈ [F.CMP_ERR_OVERRUN, F.CMP_IRQ_STATUS_START, F.CMP_IRQ_STATUS_DONE] ∨ ∃ n < 16, f = F.CMP_LAYERn_STATUS_FAULT n

/-- A field beside the composition's place, its number and its flags. -/
def CmpFree (f : Fld) : Prop :=
  f.addr ∉ [R.CMP_STATUS, R.CMP_COMP_WFN_LO, R.CMP_COMP_WFN_HI, R.CMP_CNT_Ei 2] ∧ (f.addr = R.CMP_ERR → 0 < f.lo)
    ∧ (f.addr = R.CMP_IRQ_STATUS → 1 < f.lo) ∧ (0x182000 ≤ f.addr → f.addr < 0x182100 → f.addr % 16 = 0 → f.hi < 1 ∨ 1 < f.lo)

/-- The registers of another block are beside CMP's. -/
theorem cmpFree_of_window {f : Fld} (h : f.addr / 0x10000 ≠ 0x18) : CmpFree f := by
  refine ⟨?_, fun e => ?_, fun e => ?_, fun _ _ _ => ?_⟩
  · simp only [List.mem_cons, List.not_mem_nil, or_false, not_or, R.CMP_STATUS, R.CMP_COMP_WFN_LO, R.CMP_COMP_WFN_HI, R.CMP_CNT_Ei]
    omega
  · rw [R.CMP_ERR] at e
    omega
  · rw [R.CMP_IRQ_STATUS] at e
    omega
  · omega

theorem placeFields_apart {f : Fld} (h1 : f.addr ≠ R.CMP_STATUS) (h2 : f.addr ≠ R.CMP_CNT_Ei 2) : ∀ g ∈ placeFields, g.apart f = true := by
  simp only [placeFields, List.forall_mem_cons]
  exact ⟨Fld.apart_of_addr (Ne.symm h1), Fld.apart_of_addr (Ne.symm h1), Fld.apart_of_addr (Ne.symm h2), nofun⟩

theorem CmpFree.place {f : Fld} (h : CmpFree f) : ∀ g ∈ placeFields, g.apart f = true := by
  obtain ⟨h, -⟩ := h
  simp only [List.mem_cons, List.not_mem_nil, or_false, not_or] at h
  obtain ⟨hs, -, -, hc⟩ := h
  exact placeFields_apart hs hc

theorem CmpFree.flag {f g : Fld} (h : CmpFree f) (hg : CmpFlag g) : g.apart f = true := by
  obtain ⟨-, herr, hirq, hlayer⟩ := h
  rw [Fld.apart_iff]
  rcases hg with hg | ⟨n, hn, rfl⟩
  · simp only [List.mem_cons, List.not_mem_nil, or_false] at hg
    rcases hg with rfl | rfl | rfl
    · simp only [R.CMP_ERR, F.CMP_ERR_OVERRUN] at *
      omega
    · simp only [R.CMP_IRQ_STATUS, F.CMP_IRQ_STATUS_START] at *
      omega
    · simp only [R.CMP_IRQ_STATUS, F.CMP_IRQ_STATUS_DONE] at *
      omega
  · simp only [F.CMP_LAYERn_STATUS_FAULT, R.CMP_LAYERn_STATUS] at *
    omega

theorem CmpFlag.place {f : Fld} (hf : CmpFlag f) : f.ok = true ∧ f.hi = f.lo ∧ ∀ g ∈ placeFields, g.apart f = true := by
  simp only [CmpFlag, List.mem_cons, List.not_mem_nil, or_false] at hf
  rcases hf with (rfl | rfl | rfl) | ⟨n, hn, rfl⟩
  · exact ⟨rfl, rfl, placeFields_apart (by decide) (by decide)⟩
  · exact ⟨rfl, rfl, placeFields_apart (by decide) (by decide)⟩
  · exact ⟨rfl, rfl, placeFields_apart (by decide) (by decide)⟩
  · refine ⟨rfl, rfl, placeFields_apart ?_ ?_⟩
    · simp only [F.CMP_LAYERn_STATUS_FAULT, R.CMP_LAYERn_STATUS, R.CMP_STATUS]
      omega
    · simp only [F.CMP_LAYERn_STATUS_FAULT, R.CMP_LAYERn_STATUS, R.CMP_CNT_Ei]
      omega

/-- Two flags are one or share no bit. -/
theorem CmpFlag.eq_or_apart {f g : Fld} (hf : CmpFlag f) (hg : CmpFlag g) : g = f ∨ g.apart f = true := by
  obtain ⟨-, hf, -⟩ := hf.place
  obtain ⟨-, hg, -⟩ := hg.place
  obtain ⟨a, i, j⟩ := f
  obtain ⟨a', i', j'⟩ := g
  simp only [Fld.apart_iff, Fld.mk.injEq] at *
  omega

theorem cmpFlag_fault {n : Nat} (h : n < 16) : CmpFlag (F.CMP_LAYERn_STATUS_FAULT n) := .inr ⟨n, h, rfl⟩
theorem cmpFlag_overrun : CmpFlag F.CMP_ERR_OVERRUN := .inl (by decide)
theorem cmpFlag_start : CmpFlag F.CMP_IRQ_STATUS_START := .inl (by decide)
theorem cmpFlag_done : CmpFlag F.CMP_IRQ_STATUS_DONE := .inl (by decide)

/-! ### Two relations that the work of a composition keeps -/

/-- The composition stands where it stood: its number, set, band, state, the bands dropped and STC; no flag is cleared. -/
def CmpStands (b t : Block) : Prop :=
  t.cmp.comp = b.cmp.comp ∧ t.cmp.set = b.cmp.set ∧ t.stc = b.stc ∧ (∀ g ∈ placeFields, t.get g = b.get g)
    ∧ ∀ g, CmpFlag g → b.bit g = true → t.bit g = true

/-- So it does, with the captured set, the link layer and COMP_WFN as they were. -/
def CmpSelects (b t : Block) : Prop :=
  CmpStands b t ∧ t.cmp.next = b.cmp.next ∧ t.lnk = b.lnk ∧ t.get F.CMP_COMP_WFN_LO = b.get F.CMP_COMP_WFN_LO
    ∧ t.get F.CMP_COMP_WFN_HI = b.get F.CMP_COMP_WFN_HI

/-- What the work of a composition changes beside registers: memory, the streams, replay and SCN, and CMP's layers and write-back. -/
def CmpMoved (b t : Block) : Prop :=
  t = { b with dram := t.dram, drm := t.drm, qdr := t.qdr, qdrBad := t.qdrBad, ing := t.ing, rpl := t.rpl, scn := t.scn, cmp := t.cmp }
    ∧ t.cmp = { b.cmp with layers := t.cmp.layers, bufs := t.cmp.bufs, region := t.cmp.region, wb := t.cmp.wb, newest := t.cmp.newest
                           serial := t.cmp.serial }

/-- A relation that every step of the work of a composition keeps. -/
structure Composing (R : Block → Block → Prop) : Prop where
  refl (b : Block) : R b b
  trans {b c t : Block} : R b c → R c t → R b t
  set (b : Block) {f : Fld} (v : Nat) : f.ok = true → CmpFree f → R b (b.set f v)
  flag (b : Block) {f : Fld} : CmpFlag f → R b (b.set f 1)
  submit (b : Block) (code d : Nat) : R b (b.submit code d)
  moved {b t : Block} : CmpMoved b t → R b t

section
variable {b c t : Block}

theorem CmpStands.refl (b : Block) : CmpStands b b := ⟨rfl, rfl, rfl, fun _ _ => rfl, fun _ _ h => h⟩

theorem CmpStands.trans (h : CmpStands b c) (k : CmpStands c t) : CmpStands b t := by
  obtain ⟨h1, h2, h3, h4, h5⟩ := h
  obtain ⟨k1, k2, k3, k4, k5⟩ := k
  exact ⟨k1.trans h1, k2.trans h2, k3.trans h3, fun g hg => (k4 g hg).trans (h4 g hg), fun g hg hb => k5 g hg (h5 g hg hb)⟩

theorem CmpStands.comp (h : CmpStands b t) : t.cmp.comp = b.cmp.comp := h.1
theorem CmpStands.stc (h : CmpStands b t) : t.stc = b.stc := by
  obtain ⟨-, -, h3, -⟩ := h
  exact h3
theorem CmpStands.get (h : CmpStands b t) {g : Fld} (hg : g ∈ placeFields) : t.get g = b.get g := by
  obtain ⟨-, -, -, h4, -⟩ := h
  exact h4 g hg
theorem CmpStands.band (h : CmpStands b t) : t.band = b.band := h.get (by decide)
theorem CmpStands.cmpState (h : CmpStands b t) : t.cmpState = b.cmpState := h.get (by decide)
theorem CmpStands.bit (h : CmpStands b t) {g : Fld} (hg : CmpFlag g) (hb : b.bit g = true) : t.bit g = true := by
  obtain ⟨-, -, -, -, h5⟩ := h
  exact h5 g hg hb

/-- Outside the register file, and beside CMP, nothing of a composition's place can change. -/
theorem cmpStands_of_eq (h1 : t.cmp.comp = b.cmp.comp) (h2 : t.cmp.set = b.cmp.set) (h3 : t.stc = b.stc) (hr : t.regs = b.regs) :
    CmpStands b t :=
  ⟨h1, h2, h3, fun g _ => Block.get_congr hr g, fun g _ hb => by rw [Block.bit, Block.get_congr hr g]; exact hb⟩

theorem CmpMoved.stands (h : CmpMoved b t) : CmpStands b t := by
  obtain ⟨h, hc⟩ := h
  exact cmpStands_of_eq (by rw [hc]) (by rw [hc]) (by rw [h]) (by rw [h])

end

theorem cmpStands_set (b : Block) {f : Fld} (v : Nat) (hok : f.ok = true) (hp : ∀ g ∈ placeFields, g.apart f = true)
    (hf : ∀ g, CmpFlag g → g.apart f = true) : CmpStands b (b.set f v) :=
  ⟨by rw [Block.set_cmp], by rw [Block.set_cmp], b.set_stc f v, fun g hg => Block.get_set_apart b v hok (hp g hg),
    fun g hg hb => (Block.bit_set_apart b v hok (hf g hg)).trans hb⟩

theorem cmpStands_flag (b : Block) {f : Fld} (hf : CmpFlag f) : CmpStands b (b.set f 1) := by
  obtain ⟨hok, hw, hp⟩ := hf.place
  refine ⟨by rw [Block.set_cmp], by rw [Block.set_cmp], b.set_stc f 1, fun g hg => Block.get_set_apart b 1 hok (hp g hg), fun g hg hb => ?_⟩
  rcases hf.eq_or_apart hg with rfl | hap
  · exact Block.bit_set_one_self b hok hw
  · rw [Block.bit_set_apart b 1 hok hap, hb]

theorem submit_only (b : Block) (code d : Nat) : b.submit code d = { b with regs := (b.submit code d).regs, flt := (b.submit code d).flt } := by
  simp only [Block.submit, Block.acceptEntry]
  split_ifs <;> rfl

theorem get_submit_other (b : Block) (code d : Nat) {g : Fld} (h : g.addr / 0x10000 ≠ 0x30) : (b.submit code d).get g = b.get g := by
  rw [Block.get, Block.word_submit_other _ _ _ h, Block.get]

theorem placeFields_window {g : Fld} (h : g ∈ placeFields) : g.addr / 0x10000 ≠ 0x30 := by
  revert g
  decide

theorem CmpFlag.window {g : Fld} (h : CmpFlag g) : g.addr / 0x10000 ≠ 0x30 := by
  simp only [CmpFlag, List.mem_cons, List.not_mem_nil, or_false] at h
  rcases h with (rfl | rfl | rfl) | ⟨n, hn, rfl⟩
  · decide
  · decide
  · decide
  · simp only [F.CMP_LAYERn_STATUS_FAULT, R.CMP_LAYERn_STATUS]
    omega

theorem cmpStands_submit (b : Block) (code d : Nat) : CmpStands b (b.submit code d) := by
  refine ⟨by rw [submit_only], by rw [submit_only], by rw [submit_only], fun g hg => get_submit_other b code d (placeFields_window hg),
    fun g hg hb => ?_⟩
  rw [Block.bit, get_submit_other b code d hg.window]
  exact hb

/-- Every step of a composition's work leaves it where it stands. -/
theorem composingStands : Composing CmpStands where
  refl := .refl
  trans := .trans
  set b _ v hok hf := cmpStands_set b v hok hf.place fun _ hg => hf.flag hg
  flag := cmpStands_flag
  submit := cmpStands_submit
  moved h := h.stands

/-- And those that are no fronds leave its number, and the link layer. -/
theorem composingSelects : Composing CmpSelects where
  refl b := ⟨.refl b, rfl, rfl, rfl, rfl⟩
  trans := fun ⟨h1, h2, h3, h4, h5⟩ ⟨k1, k2, k3, k4, k5⟩ => ⟨h1.trans k1, k2.trans h2, k3.trans h3, k4.trans h4, k5.trans h5⟩
  set b f v hok hf := by
    refine ⟨composingStands.set b v hok hf, by rw [Block.set_cmp], b.set_lnk f v, ?_, ?_⟩
    all_goals
      obtain ⟨hf, -⟩ := hf
      simp only [List.mem_cons, List.not_mem_nil, or_false, not_or] at hf
      obtain ⟨-, hlo, hhi, -⟩ := hf
    · exact Block.get_set_apart b v hok (Fld.apart_of_addr (Ne.symm hlo))
    · exact Block.get_set_apart b v hok (Fld.apart_of_addr (Ne.symm hhi))
  flag b f hf := by
    have hne : f.addr ≠ R.CMP_COMP_WFN_LO ∧ f.addr ≠ R.CMP_COMP_WFN_HI := by
      simp only [CmpFlag, List.mem_cons, List.not_mem_nil, or_false] at hf
      rcases hf with (rfl | rfl | rfl) | ⟨n, hn, rfl⟩
      · decide
      · decide
      · decide
      · simp only [F.CMP_LAYERn_STATUS_FAULT, R.CMP_LAYERn_STATUS, R.CMP_COMP_WFN_LO, R.CMP_COMP_WFN_HI]
        omega
    obtain ⟨hlo, hhi⟩ := hne
    obtain ⟨hok, -⟩ := hf.place
    exact ⟨cmpStands_flag b hf, by rw [Block.set_cmp], b.set_lnk f 1, Block.get_set_apart b 1 hok (Fld.apart_of_addr (Ne.symm hlo)),
      Block.get_set_apart b 1 hok (Fld.apart_of_addr (Ne.symm hhi))⟩
  submit b code d := ⟨cmpStands_submit b code d, by rw [submit_only], by rw [submit_only], get_submit_other b code d (by decide),
    get_submit_other b code d (by decide)⟩
  moved {b t} h := by
    obtain ⟨hb, hc⟩ := id h
    exact ⟨h.stands, by rw [hc], by rw [hb], Block.get_congr (by rw [hb]) _, Block.get_congr (by rw [hb]) _⟩

end Sys2Proof.Machine
end

section
/-!
PROOFS of chapter 7: surfaces, source selection, faults, write-back and recording leave a composition where it stands (R212, R225,
R228, R367).
-/

namespace Sys2Proof.Machine

/-! ### The write-back buffer of a composition -/

/-- The write-back region that the set in force names. -/
def Block.wbRegion (b : Block) : List Nat :=
  [b.cset F.CMP_WB_BASE_LO + 2 ^ 32 * b.cset F.CMP_WB_BASE_HI_BASE, b.cset F.CMP_WB_CTRL_COUNT, b.cset F.CMP_WB_BUF_SIZE]

/-- The write-back region is that of the set in force. -/
def Block.wbPlaced (b : Block) : Block :=
  if b.cmp.region = b.wbRegion then b
  else { b with cmp := { b.cmp with
    region := b.wbRegion, newest := 0, bufs := (wbPlaces b.wbRegion).map (fun p => Surf.free p.1 p.2) } }

/-- Buffer `x` is written from now on, as `y` with serial `id`. -/
def Block.wbChosen (b : Block) (x y : Surf) (id : Nat) : Block :=
  { b.writeDesc 2 y with cmp := { b.cmp with
      serial := id, wb := some id, bufs := b.cmp.bufs.map (fun z => if z.desc == x.desc then y else z) } }

/-- The surface that a composition writes into buffer `x`. -/
def Block.wbSurf (b : Block) (g : Fld → Nat) (w : Rect) (x : Surf) (m : Nat) : Surf :=
  { x with
    id := b.cmp.serial + 1, st := 1, inc := false, a := false, b := false, rows := 0, stc := b.stc
    rtp := (b.compFs m * 9 / (100000 * 65536)).toNat % 2 ^ 32, seq := 0, frame := m, fmt := g F.CMP_WB_CTRL_FORMAT, ocs := false
    w := w.w / decimOf g, h := w.h / decimOf g, x0 := w.x, y0 := w.y, stride := rawStride (w.w / decimOf g) (g F.CMP_WB_CTRL_FORMAT), lost := 0 }

theorem Block.wbBegin_eq (b : Block) (m : Nat) : b.wbBegin m =
    match wbWindow b.cset with
    | none => { b with cmp.wb := none }
    | some w =>
      match oldestFree b.wbPlaced.cmp.bufs b.wbPlaced.cmp.newest [] with
      | none => ({ b.wbPlaced with cmp.wb := none }.countSat (F.CMP_CNT_Ei 3) 1).raise E.CMP_WB_DROP
      | some x => b.wbPlaced.wbChosen x (b.wbPlaced.wbSurf b.cset w x m) (b.wbPlaced.cmp.serial + 1) := by
  rw [Block.wbBegin]
  cases wbWindow b.cset with
  | none => rfl
  | some w => rfl

namespace Composing

variable {Q : Block → Block → Prop} (hQ : Composing Q)
include hQ

/-! ### Shared steps -/

theorem other (b : Block) {f : Fld} (v : Nat) (hok : f.ok = true) (h : f.addr / 0x10000 ≠ 0x18) : Q b (b.set f v) :=
  hQ.set b v hok (cmpFree_of_window h)

theorem raised (b : Block) {e : Err} (d : Nat) (hf : ∀ c : Block, Q c (c.set e.fld 1)) (hi : ∀ c : Block, Q c (c.set e.irq 1)) :
    Q b (b.raiseAt e d) := by
  rw [Block.raiseAt]
  split
  · exact hQ.refl b
  · have hset := hQ.trans (hf b) (hi _)
    dsimp only
    split
    · exact hQ.trans hset (hQ.submit _ _ _)
    · exact hset

/-- An error of another block. -/
theorem raiseOther (b : Block) {e : Err} (hok : e.fld.ok = true) (hiok : e.irq.ok = true) (hf : e.fld.addr / 0x10000 ≠ 0x18)
    (hi : e.irq.addr / 0x10000 ≠ 0x18) : Q b (b.raise e) :=
  hQ.raised b _ (fun c => hQ.other c 1 hok hf) fun c => hQ.other c 1 hiok hi

theorem countOther (b : Block) {f : Fld} (k : Nat) (hok : f.ok = true) (h : f.addr / 0x10000 ≠ 0x18) : Q b (b.countSat f k) := by
  rw [Block.countSat_eq]
  exact hQ.other b _ hok h

/-- A counter of CMP, but that of the bands dropped. -/
theorem countCmp (b : Block) {i : Nat} (k : Nat) (hi : i < 8 ∧ i ≠ 2) : Q b (b.countSat (F.CMP_CNT_Ei i) k) := by
  rw [Block.countSat_eq]
  refine hQ.set b _ rfl ⟨?_, ?_, ?_, ?_⟩
  all_goals
    simp only [F.CMP_CNT_Ei, R.CMP_CNT_Ei, R.CMP_STATUS, R.CMP_COMP_WFN_LO, R.CMP_COMP_WFN_HI, R.CMP_ERR, R.CMP_IRQ_STATUS, List.mem_cons,
      List.not_mem_nil, or_false]
    omega

/-- A field of a layer's status but USED and FAULT, and the frame it shows. -/
theorem setLayer (b : Block) {f : Fld} {n : Nat} (v : Nat) (hok : f.ok = true) (h : f.addr = R.CMP_LAYERn_STATUS n ∧ 1 < f.lo ∨
    f.addr = R.CMP_LAYERn_FRAME n ∧ f.lo = 0) : Q b (b.set f v) := by
  refine hQ.set b v hok ⟨?_, ?_, ?_, ?_⟩
  all_goals
    simp only [R.CMP_LAYERn_STATUS, R.CMP_LAYERn_FRAME, R.CMP_STATUS, R.CMP_COMP_WFN_LO, R.CMP_COMP_WFN_HI, R.CMP_CNT_Ei, R.CMP_ERR,
      R.CMP_IRQ_STATUS, List.mem_cons, List.not_mem_nil, or_false] at *
    omega

theorem dramUse (b : Block) (k a n : Nat) : Q b (b.dramUse k a n) := by
  rw [Block.dramUse_eq]
  exact hQ.moved ⟨rfl, rfl⟩

theorem dramWrite (b : Block) (k a : Nat) (bs : List Byte) : Q b (b.dramWrite k a bs) := by
  rw [Block.dramWrite, Block.writeDram_eq]
  exact hQ.trans (hQ.dramUse b k a bs.length) (hQ.moved ⟨rfl, rfl⟩)

theorem eachOf {α : Type} {f : α → Block → Block} (l : List α) (b : Block) (h : ∀ a ∈ l, ∀ c, Q c (f a c)) : Q b (b.each l f) :=
  Block.each_rel (R := Q) hQ.refl (fun _ _ _ => hQ.trans) l b h

theorem each {α : Type} {f : α → Block → Block} (l : List α) (b : Block) (h : ∀ a c, Q c (f a c)) : Q b (b.each l f) :=
  hQ.eachOf l b fun a _ c => h a c

/-! ### Surfaces and holds -/

theorem writeDesc (b : Block) (client : Nat) (x : Surf) : Q b (b.writeDesc client x) := hQ.dramWrite b _ _ _

theorem surfUse (b : Block) (client : Nat) (x : Surf) (lo hi : Nat) : Q b (b.surfUse client x lo hi) := hQ.dramUse b _ _ _

theorem onSurfs (b : Block) (client : Nat) (l : List Surf) (id : Nat) (f : Surf → Surf) : Q b (b.onSurfs client l id f).1 :=
  hQ.each _ b fun x c => hQ.writeDesc c client x

theorem ingHeld (b : Block) (s : Nat) : Q b (b.ingHeld s) := by
  refine hQ.set b _ rfl ⟨?_, ?_, ?_, ?_⟩
  all_goals
    simp only [F.ING_STRs_STATUS_HELD, R.ING_STRs_STATUS, R.CMP_STATUS, R.CMP_COMP_WFN_LO, R.CMP_COMP_WFN_HI, R.CMP_CNT_Ei, R.CMP_ERR,
      R.CMP_IRQ_STATUS, List.mem_cons, List.not_mem_nil, or_false]
    omega

theorem holdStream (b : Block) (s id : Nat) (add : Bool) : Q b (b.holdStream s id add) := by
  have hing (c : Block) (l : List IngStream) : Q c { c with ing.streams := l } := hQ.moved ⟨rfl, rfl⟩
  exact hQ.trans (hQ.trans (hQ.trans (hQ.onSurfs b 1 _ id _) (hQ.onSurfs _ 1 _ id _)) (hing _ _)) (hQ.ingHeld _ s)

theorem holdWb (b : Block) (id : Nat) (add : Bool) : Q b (b.holdWb id add) := by
  have hbufs (c : Block) (l : List Surf) : Q c { c with cmp.bufs := l } := hQ.moved ⟨rfl, rfl⟩
  exact hQ.trans (hQ.onSurfs b 2 _ id _) (hbufs _ _)

theorem holdSource (b : Block) (stream : Option Nat) (id : Nat) (add : Bool) : Q b (b.holdSource stream id add) := by
  cases stream with
  | some s => exact hQ.holdStream b s id add
  | none => exact hQ.holdWb b id add

/-! ### Layers -/

theorem setUse (b : Block) (u : LayerUse) : Q b (b.setUse u) := hQ.moved ⟨rfl, rfl⟩

theorem releaseLayer (b : Block) (u : LayerUse) : Q b (b.releaseLayer u) := by
  rw [Block.releaseLayer]
  refine hQ.trans ?_ (hQ.setUse _ _)
  split
  · split
    · exact hQ.holdStream b _ _ _
    · exact hQ.refl b
  · exact hQ.refl b

theorem noSource (b : Block) (n : Nat) : Q b (b.noSource n) :=
  hQ.trans (hQ.trans (hQ.setUse b _) (hQ.countCmp _ 1 (by decide))) (hQ.setLayer _ 1 rfl (.inl ⟨rfl, Nat.lt_of_sub_eq_succ rfl⟩))

theorem takeSource (b : Block) (n : Nat) (src : LayerSrc) (x : Surf) (index : Nat) : Q b (b.takeSource n src x index) := by
  have htold (c : Block) : Q c ((c.set (F.CMP_LAYERn_STATUS_BUF n) index).set (F.CMP_LAYERn_FRAME_FRAME_NO n) x.frame) :=
    hQ.trans (hQ.setLayer c index rfl (.inl ⟨rfl, Nat.lt_of_sub_eq_succ rfl⟩)) (hQ.setLayer _ x.frame rfl (.inr ⟨rfl, rfl⟩))
  cases src with
  | stream s id => exact hQ.trans (hQ.trans (hQ.holdStream b s id true) (hQ.setUse _ _)) (htold _)
  | fixed y => exact hQ.trans (hQ.setUse b _) (htold _)

theorem takeNewest (b : Block) (n s : Nat) : Q b (b.takeNewest n s) := by
  rw [Block.takeNewest]
  split
  · exact hQ.noSource b n
  · exact hQ.takeSource b n _ _ _

theorem selectLayer (b : Block) (n : Nat) (latest : Bool) : Q b (b.selectLayer n latest) := by
  rw [Block.selectLayer]
  dsimp only
  split
  · exact hQ.refl b
  split
  · split
    · exact hQ.takeNewest b n _
    split
    · exact hQ.takeSource b n _ _ _
    split
    · have hnewest := hQ.takeNewest b n (layerOf b.cset n).id
      split
      · exact hQ.trans (hQ.trans hnewest (hQ.countCmp _ 1 (by decide))) (hQ.setLayer _ 1 rfl (.inl ⟨rfl, Nat.lt_of_sub_eq_succ rfl⟩))
      · exact hnewest
    · exact hQ.refl b
  split
  · split
    · exact hQ.takeSource b n _ _ _
    · exact hQ.noSource b n
  · split
    · exact hQ.takeSource b n _ _ _
    · exact hQ.noSource b n

theorem selectBand (b : Block) (r : Nat) (latest : Bool) : Q b (b.selectBand r latest) :=
  hQ.each _ b fun n c => hQ.selectLayer c n latest

/-- A fault of a layer is counted and told. -/
theorem faultTold (b : Block) {n : Nat} (corrupt : Bool) (hn : n < 16) : Q b ((b.countSat (F.CMP_CNT_Ei (if corrupt then 1 else 0)) 1).raiseAt
    (if corrupt then E.CMP_CORRUPT n else E.CMP_UNDERRUN n) n) := by
  have hraise (c : Block) (e : Err) (hok : e.fld.ok = true) (hf : e.fld.addr = R.CMP_LAYER_FAULT) (hi : e.irq = F.CMP_IRQ_STATUS_LAYER_FAULT) :
      Q c (c.raiseAt e n) := by
    refine hQ.raised c n (fun d => hQ.set d 1 hok ?_) fun d => ?_
    · refine ⟨by rw [hf]; decide, fun h => ?_, fun h => ?_, fun h => ?_⟩
      · exact absurd (hf.symm.trans h) (by decide)
      · exact absurd (hf.symm.trans h) (by decide)
      · rw [hf] at h
        exact absurd h (by decide)
    · rw [hi]
      exact hQ.set d 1 rfl ⟨by decide, nofun, fun _ => by decide, fun _ h => absurd h (by decide)⟩
  have hbit {k : Nat} (h : k < 32) : Fld.ok ⟨R.CMP_LAYER_FAULT, k, k⟩ = true :=
    Bool.and_eq_true_iff.mpr ⟨decide_eq_true (Nat.le_refl k), decide_eq_true h⟩
  cases corrupt with
  | true => exact hQ.trans (hQ.countCmp b 1 (by decide)) (hraise _ _ (hbit (by omega)) rfl rfl)
  | false => exact hQ.trans (hQ.countCmp b 1 (by decide)) (hraise _ _ (hbit (by omega)) rfl rfl)

theorem layerFault (b : Block) {n : Nat} (corrupt : Bool) (hn : n < 16) : Q b (b.layerFault n corrupt) :=
  hQ.trans (hQ.trans (hQ.trans (hQ.releaseLayer b (b.use n)) (hQ.setUse _ { (b.releaseLayer (b.use n)).use n with out := true }))
    (hQ.flag _ (cmpFlag_fault hn))) (hQ.faultTold _ corrupt hn)

/-! ### Write-back and recording -/

theorem raiseWbDrop (b : Block) : Q b (b.raise E.CMP_WB_DROP) :=
  hQ.raised b _ (fun c => hQ.set c 1 rfl ⟨by decide, fun _ => by decide, nofun, fun h => absurd h (by decide)⟩)
    fun c => hQ.set c 1 rfl ⟨by decide, nofun, fun _ => by decide, fun _ h => absurd h (by decide)⟩

theorem onWb (b : Block) (id : Nat) (f : Surf → Surf) : Q b (b.onWb id f) := by
  have hbufs (c : Block) (l : List Surf) : Q c { c with cmp.bufs := l } := hQ.moved ⟨rfl, rfl⟩
  exact hQ.trans (hQ.onSurfs b 2 _ id _) (hbufs _ _)

theorem wbAbandon (b : Block) : Q b b.wbAbandon := by
  have hwb (c : Block) : Q c { c with cmp.wb := none } := hQ.moved ⟨rfl, rfl⟩
  rw [Block.wbAbandon]
  split
  · exact hQ.refl b
  · exact hQ.trans (hQ.onWb b _ _) (hwb _)

theorem wbPlaced (b : Block) : Q b b.wbPlaced := by
  rw [Block.wbPlaced]
  split
  · exact hQ.refl b
  · exact hQ.moved ⟨rfl, rfl⟩

theorem wbChosen (b : Block) (x y : Surf) (id : Nat) : Q b (b.wbChosen x y id) := by
  have hserial (c : Block) (bufs : List Surf) : Q c { c with cmp := { c.cmp with serial := id, wb := some id, bufs := bufs } } :=
    hQ.moved ⟨rfl, rfl⟩
  have hcmp : (b.writeDesc 2 y).cmp = b.cmp := by rw [Block.writeDesc, Block.dramWrite, Block.writeDram_eq, Block.dramUse_eq]
  rw [Block.wbChosen, ← hcmp]
  exact hQ.trans (hQ.writeDesc b 2 y) (hserial _ _)

theorem wbBegin (b : Block) (m : Nat) : Q b (b.wbBegin m) := by
  have hnone (c : Block) : Q c { c with cmp.wb := none } := hQ.moved ⟨rfl, rfl⟩
  rw [Block.wbBegin_eq]
  split
  · exact hnone b
  · refine hQ.trans (hQ.wbPlaced b) ?_
    generalize b.wbPlaced = c
    split
    · exact hQ.trans (hQ.trans (hnone c) (hQ.countCmp _ 1 (by decide))) (hQ.raiseWbDrop _)
    · exact hQ.wbChosen c _ _ _

theorem rplShow (b : Block) (c : Nat) : Q b (b.rplShow c) := by
  rw [Block.rplShow]
  simp only [Block.setPair_eq, Block.setBit_eq]
  have hvalid := hQ.trans (hQ.other b (f := F.RPL_CHc_VALID_VALID c) (b.rplChan c).entries.length rfl
    (by simp only [F.RPL_CHc_VALID_VALID, R.RPL_CHc_VALID]; omega)) (hQ.other _ (f := F.RPL_CHc_STATUS_COPYING c)
      (if (b.rplChan c).copy.isSome = true then 1 else 0) rfl (by simp only [F.RPL_CHc_STATUS_COPYING, R.RPL_CHc_STATUS]; omega))
  have hold (d : Block) (v w : Nat) : Q d ((d.set (F.RPL_CHc_OLDEST_LO c) v).set (F.RPL_CHc_OLDEST_HI c) w) :=
    hQ.trans (hQ.other d _ rfl (by simp only [F.RPL_CHc_OLDEST_LO, R.RPL_CHc_OLDEST_LO]; omega))
      (hQ.other _ _ rfl (by simp only [F.RPL_CHc_OLDEST_HI, R.RPL_CHc_OLDEST_HI]; omega))
  have hnew (d : Block) (v w : Nat) : Q d ((d.set (F.RPL_CHc_NEWEST_LO c) v).set (F.RPL_CHc_NEWEST_HI c) w) :=
    hQ.trans (hQ.other d _ rfl (by simp only [F.RPL_CHc_NEWEST_LO, R.RPL_CHc_NEWEST_LO]; omega))
      (hQ.other _ _ rfl (by simp only [F.RPL_CHc_NEWEST_HI, R.RPL_CHc_NEWEST_HI]; omega))
  exact hQ.trans (hQ.trans hvalid (hold _ _ _)) (hnew _ _ _)

theorem recordOn (b : Block) (c : Nat) (stream : Option Nat) (x : Surf) (bytes : Nat) (ev : Int) : Q b (b.recordOn c stream x bytes ev) := by
  have hcount : Q b (b.countSat (F.RPL_CHc_CNT_Ei c 0) 1) :=
    hQ.countOther b 1 rfl (by simp only [F.RPL_CHc_CNT_Ei, R.RPL_CHc_CNT_Ei]; omega)
  have hrpl (d : Block) (f : RplChan → RplChan) : Q d (d.onRpl c f) := hQ.moved ⟨rfl, rfl⟩
  rw [Block.recordOn]
  dsimp only
  split
  · exact hQ.trans hcount (hQ.raiseOther _ rfl rfl (by decide) (by decide))
  split
  · exact hQ.trans hcount (hQ.raiseOther _ rfl rfl (by decide) (by decide))
  split
  · exact hQ.trans hcount (hQ.raiseOther _ rfl rfl (by decide) (by decide))
  · exact hQ.trans (hQ.trans (hQ.trans (hrpl b _) (hQ.writeDesc _ 3 _)) (hQ.holdSource _ stream x.id true)) (hQ.rplShow _ c)

theorem recordAll (b : Block) (stream : Option Nat) (x : Surf) (bytes : Nat) (ev : Int) : Q b (b.recordAll stream x bytes ev) := by
  rw [Block.recordAll]
  split
  · exact hQ.refl b
  · refine hQ.each _ b fun c d => ?_
    have hone (k : Bool) : Q d (if k = true then d.recordOn c stream x bytes ev else d) := by
      cases k
      · exact hQ.refl d
      · exact hQ.recordOn d c stream x bytes ev
    exact hone _

theorem wbComplete (b : Block) (m : Nat) : Q b (b.wbComplete m) := by
  have hnewest (c : Block) (k : Nat) : Q c { c with cmp := { c.cmp with wb := none, newest := k } } := hQ.moved ⟨rfl, rfl⟩
  rw [Block.wbComplete]
  split
  · exact hQ.refl b
  · next id _ =>
    have hdone := hQ.trans (hQ.onWb b id fun y => { y with st := 2 }) (hnewest _ id)
    dsimp only
    split
    · exact hdone
    · exact hQ.trans hdone (hQ.recordAll _ none _ _ _)

theorem wbBand (b : Block) (px : Nat → Nat → List Nat) (r : Nat) : Q b (b.wbBand px r) := by
  have hdram (c : Block) (l : List Host.Cell) : Q c { c with dram := l } := hQ.moved ⟨rfl, rfl⟩
  rw [Block.wbBand]
  dsimp only
  split
  · split
    · exact hQ.refl b
    · split
      · exact hQ.refl b
      · refine hQ.trans (hQ.each _ b fun j c => ?_) (hQ.onWb _ _ _)
        rw [Block.dramUse_eq]
        exact hQ.moved ⟨rfl, rfl⟩
  · exact hQ.refl b

theorem rplRelease (b : Block) (m : Nat) : Q b (b.rplRelease m) := hQ.moved ⟨rfl, rfl⟩

end Composing

end Sys2Proof.Machine
end

section
/-!
PROOFS of chapter 7: fronds that are handed over, and a takeover, leave a composition where it stands (R210, R265, R271).
-/

namespace Sys2Proof.Machine

/-! ### Messages -/

theorem Counted.cmpFree {f : Fld} (hf : Counted f) : CmpFree f := by
  rcases hf with hf | ⟨p, rfl | rfl | rfl⟩
  · refine cmpFree_of_window fun h => ?_
    simp only [ringWords, List.mem_cons, List.not_mem_nil, or_false, R.HIF_ERR, R.HIF_IRQ_STATUS, R.HIF_RING_STATUS, R.HIF_RING_POOL_USED,
      R.HIF_DROP_DEST, R.HIF_DROP_FULL, R.HIF_DROP_POOL] at hf
    omega
  · exact cmpFree_of_window (by simp only [F.LNKn_CNT_Ti_LO, R.LNKn_CNT_Ti_LO]; omega)
  · exact cmpFree_of_window (by simp only [F.LNKn_CNT_Ti_HI, R.LNKn_CNT_Ti_HI]; omega)
  · refine ⟨?_, ?_, ?_, ?_⟩
    all_goals
      simp only [F.ETHn_CNT_Ei, R.ETHn_CNT_Ei, R.CMP_STATUS, R.CMP_COMP_WFN_LO, R.CMP_COMP_WFN_HI, R.CMP_CNT_Ei, R.CMP_ERR, R.CMP_IRQ_STATUS,
        List.mem_cons, List.not_mem_nil, or_false]
      omega

/-- The bits of an Ethernet port: that of a ninth port would be CMP's DONE, and is set as well. -/
theorem cmpStands_mark (b : Block) {f : Fld} (hf : Marked f) : CmpStands b (b.set f 1) := by
  obtain ⟨n, rfl | rfl⟩ := hf
  · refine cmpStands_set b 1 rfl (placeFields_apart ?_ ?_) fun g hg => ?_
    · simp only [F.ETHn_ERR_TX_DROP, R.ETHn_ERR, R.CMP_STATUS]
      omega
    · simp only [F.ETHn_ERR_TX_DROP, R.ETHn_ERR, R.CMP_CNT_Ei]
      omega
    · refine Fld.apart_of_addr ?_
      simp only [CmpFlag, List.mem_cons, List.not_mem_nil, or_false] at hg
      rcases hg with (rfl | rfl | rfl) | ⟨k, hk, rfl⟩
      all_goals
        simp only [F.ETHn_ERR_TX_DROP, R.ETHn_ERR, F.CMP_ERR_OVERRUN, R.CMP_ERR, F.CMP_IRQ_STATUS_START, F.CMP_IRQ_STATUS_DONE, R.CMP_IRQ_STATUS,
          F.CMP_LAYERn_STATUS_FAULT, R.CMP_LAYERn_STATUS]
        omega
  · by_cases h8 : n = 8
    · exact h8 ▸ cmpStands_flag b cmpFlag_done
    · refine composingStands.set b 1 rfl ⟨?_, ?_, ?_, ?_⟩
      all_goals
        simp only [F.ETHn_IRQ_STATUS_ERR, R.ETHn_IRQ_STATUS, R.CMP_STATUS, R.CMP_COMP_WFN_LO, R.CMP_COMP_WFN_HI, R.CMP_CNT_Ei, R.CMP_ERR,
          R.CMP_IRQ_STATUS, List.mem_cons, List.not_mem_nil, or_false]
        omega

/-- A message leaves the composition where it stands. -/
theorem sendingStands : Sending CmpStands where
  refl := .refl
  trans := .trans
  set b _ v hok hf := composingStands.set b v hok hf.cmpFree
  mark b _ hf := cmpStands_mark b hf
  submit := cmpStands_submit
  moved h := by
    obtain ⟨h, -⟩ := h
    exact cmpStands_of_eq (by rw [h]) (by rw [h]) (by rw [h]) (by rw [h])

theorem cmpStands_lnk (b : Block) (l : Lnk) : CmpStands b { b with lnk := l } := cmpStands_of_eq rfl rfl rfl rfl

theorem cmpStands_endSession (b : Block) (p : Nat) : CmpStands b (b.endSession p) :=
  ((composingStands.other b 0 rfl (by simp only [F.LNKn_STATUS_SESSION_UP, R.LNKn_STATUS]; omega)).trans
    (composingStands.other _ 0 rfl (by simp only [F.LNKn_SESSION_ID, R.LNKn_SESSION]; omega))).trans (cmpStands_lnk _ _)

theorem cmpStands_sendMsg (b : Block) (type dest : Nat) (body : Body) : CmpStands b (b.sendMsg type dest body) :=
  sendingStands.send (.inr cmpStands_endSession) type dest body

/-! ### Fronds -/

theorem cmpStands_stale (b : Block) (src : Nat) : CmpStands b (b.stale src) := by
  have htold := (composingStands.countOther b (f := F.LNK_CNT_Ei 0) 1 rfl (by decide)).trans
    (composingStands.raiseOther _ (e := E.LNK_STALE) rfl rfl (by decide) (by decide))
  rw [Block.stale]
  dsimp only
  split
  · exact htold
  · exact ((htold.trans (cmpStands_lnk _ _)).trans (composingStands.countOther _ (f := F.LNK_CNT_Ei 1) 1 rfl (by decide))).trans
      (cmpStands_sendMsg _ _ _ _)

theorem cmpStands_qdr (b : Block) (l : List Host.Cell) (k : List Nat) : CmpStands b { b with qdr := l, qdrBad := k } :=
  cmpStands_of_eq rfl rfl rfl rfl

theorem cmpStands_scn (b : Block) (s : Scn) : CmpStands b { b with scn := s } := cmpStands_of_eq rfl rfl rfl rfl

theorem cmpStands_writeQdr (b : Block) (a : Nat) (bs : List Byte) : CmpStands b (b.writeQdr a bs) := by
  rw [Block.writeQdr_only]
  exact cmpStands_qdr b _ _

theorem cmpStands_scnCount (b : Block) (i k : Nat) : CmpStands b (b.countSat (F.SCN_CNT_Ei i) k) :=
  composingStands.countOther b k rfl (by simp only [F.SCN_CNT_Ei, R.SCN_CNT_Ei]; omega)

theorem cmpStands_corCount (b : Block) (i k : Nat) : CmpStands b (b.countSat (F.COR_CNT_Ei i) k) :=
  composingStands.countOther b k rfl (by simp only [F.COR_CNT_Ei, R.COR_CNT_Ei]; omega)

theorem cmpStands_writeCode (b : Block) (c : Capture) (m x y k : Nat) : CmpStands b (b.writeCode c m x y k) := by
  rw [Block.writeCode]
  split
  · exact .refl b
  · split
    · exact cmpStands_writeQdr b _ _
    · dsimp only
      split
      · exact (cmpStands_corCount b 0 1).trans (cmpStands_writeQdr _ _ _)
      · exact cmpStands_writeQdr b _ _

theorem cmpStands_writeRows (b : Block) (c : Capture) (m y0 n : Nat) : CmpStands b (b.writeRows c m y0 n) :=
  composingStands.each _ b fun _ d => composingStands.each _ d fun _ e => cmpStands_writeCode e c m _ _ _

theorem cmpStands_correct (b : Block) (m k : Nat) : CmpStands b (b.correct m k) := by
  have hrows (d : Block) (p : Prop) [Decidable p] (c : Capture) (y n : Nat) : CmpStands d (if p then d.writeRows c m y n else d) := by
    split
    · exact cmpStands_writeRows d c m y n
    · exact .refl d
  rw [Block.correct]
  split
  · exact .refl b
  · next c _ =>
    dsimp only
    split
    · exact cmpStands_scn b _
    · have hspread (d : Block) : CmpStands d (d.countSpread c k) := (cmpStands_corCount d 1 _).trans (cmpStands_corCount _ 2 _)
      exact ((((cmpStands_scn b _).trans (cmpStands_writeRows _ c m (16 * k) 16)).trans (hspread _)).trans (hrows _ _ c _ _)).trans
        (hrows _ _ c _ _)

theorem cmpStands_holdBand (b : Block) (m k : Nat) : CmpStands b (b.holdBand m k) := by
  have htold (c : Block) : CmpStands c (((c.countSat (F.SCN_CNT_Ei 4) 1).raise E.SCN_BAND_HELD).correct m k) :=
    ((cmpStands_scnCount c 4 1).trans (composingStands.raiseOther _ rfl rfl (by decide) (by decide))).trans (cmpStands_correct _ m k)
  rw [Block.holdBand]
  dsimp only
  split
  · exact (cmpStands_writeQdr b _ _).trans (htold _)
  · exact (cmpStands_qdr b _ _).trans (htold _)

theorem cmpStands_spoilBand (b : Block) (m k : Nat) : CmpStands b (b.spoilBand m k) :=
  ((cmpStands_qdr b _ _).trans (cmpStands_scnCount _ 4 1)).trans (cmpStands_correct _ m k)

theorem cmpStands_closeEarly (b : Block) (f k : Nat) : CmpStands b (b.closeEarly f k) := by
  rw [Block.closeEarly]
  split
  · exact .refl b
  · dsimp only
    split
    · exact cmpStands_scn b _
    · split
      · exact (cmpStands_spoilBand b f k).trans (cmpStands_scn _ _)
      · exact (cmpStands_holdBand b f k).trans (cmpStands_scn _ _)

theorem cmpStands_acceptFrond (b : Block) (f : Frond) : CmpStands b (b.acceptFrond f) := by
  have hearly : CmpStands b (if f.wfn = b.openFrame + 1 then b.closeEarly b.openFrame f.band else b) := by
    split
    · exact cmpStands_closeEarly b _ _
    · exact .refl b
  have htold (c : Block) (again : Prop) [Decidable again] : CmpStands c ((((if again then c.countSat (F.SCN_CNT_Ei 5) 1 else c).countPair
      (F.SCN_CNT_Ti_LO 0) (F.SCN_CNT_Ti_HI 0) 1).set F.SCN_LAST_SCALE_SCALE f.scale).correct f.wfn f.band) := by
    refine .trans (.trans (.trans (c := if again then c.countSat (F.SCN_CNT_Ei 5) 1 else c) ?_ ?_) (composingStands.other _ _ rfl (by decide)))
      (cmpStands_correct _ _ _)
    · split
      · exact cmpStands_scnCount c 5 1
      · exact .refl c
    · rw [Block.countPair, Block.setPair_eq]
      exact (composingStands.other _ (f := F.SCN_CNT_Ti_LO 0) _ rfl (by decide)).trans (composingStands.other _ (f := F.SCN_CNT_Ti_HI 0) _ rfl (by decide))
  exact ((hearly.trans (cmpStands_writeQdr _ _ _)).trans (cmpStands_scn _ _)).trans (htold _ _)

theorem cmpStands_scnFrond (b : Block) (f : Frond) : CmpStands b (b.scnFrond f) := by
  have herr (i : Nat) {e : Err} (hok : e.fld.ok = true) (hiok : e.irq.ok = true) (hf : e.fld.addr / 0x10000 ≠ 0x18)
      (hi : e.irq.addr / 0x10000 ≠ 0x18) : CmpStands b ((b.countSat (F.SCN_CNT_Ei i) 1).raise e) :=
    (cmpStands_scnCount b i 1).trans (composingStands.raiseOther _ hok hiok hf hi)
  rw [Block.scnFrond]
  split
  · exact .refl b
  split
  · exact herr 0 rfl rfl (by decide) (by decide)
  split
  · exact herr 1 rfl rfl (by decide) (by decide)
  split
  · exact cmpStands_stale b _
  split
  · exact (composingStands.countOther b (f := F.LNK_CNT_Ei 2) 1 rfl (by decide)).trans (composingStands.raiseOther _ rfl rfl (by decide) (by decide))
  split
  · exact herr 2 rfl rfl (by decide) (by decide)
  split
  · exact herr 3 rfl rfl (by decide) (by decide)
  · exact cmpStands_acceptFrond b f

theorem cmpStands_keepFrond (b : Block) (f : Frond) : CmpStands b (b.keepFrond f) := by
  rw [Block.keepFrond]
  dsimp only
  split
  · exact .refl b
  split
  · exact (composingStands.countOther b (f := F.LNK_CNT_Ei 7) 1 rfl (by decide)).trans (composingStands.raiseOther _ rfl rfl (by decide) (by decide))
  · exact (composingStands.dramWrite b 0 _ _).trans (cmpStands_lnk _ _)

theorem cmpStands_handOver (b : Block) (f : Frond) : CmpStands b (b.handOver f) := by
  rw [Block.handOver]
  refine .trans ?_ (cmpStands_keepFrond _ f)
  split
  · exact cmpStands_scnFrond b f
  split
  · exact composingStands.each _ b fun p c => (sendingStands.countCells c p _).trans (sendingStands.emit _ _)
  · exact .refl b

/-! ### What may follow the end of a composition -/

theorem cmpStands_setDuty (b : Block) (d : Nat) : CmpStands b (b.setDuty d) := by
  rw [Block.setDuty]
  split
  · exact .refl b
  · exact (composingStands.other b (f := F.LNK_CHAIN_STATUS_DUTY) d rfl (by decide)).trans
      (composingStands.other _ (f := F.LNKn_IRQ_STATUS_DUTY_CHANGE 0) 1 rfl (by decide))

theorem cmpStands_setSplit (b : Block) (s : Option Nat) : CmpStands b (b.setSplit s) := by
  rw [Block.setSplit]
  split
  · exact .refl b
  · rw [Block.setBit_eq]
    exact ((composingStands.other b (f := F.LNK_CHAIN_STATUS_SPLIT) _ rfl (by decide)).trans
      (composingStands.other _ (f := F.LNK_CHAIN_STATUS_SPLIT_SLOT) _ rfl (by decide))).trans
      (composingStands.other _ (f := F.LNKn_IRQ_STATUS_SPLIT_CHANGE 0) 1 rfl (by decide))

theorem cmpStands_takeFirst (b : Block) (w : Nat) : CmpStands b (b.takeFirst w) := by
  have hpair : CmpStands b ({ b with lnk.firstDue := false }.setPair F.LNK_FIRST_WFN_LO F.LNK_FIRST_WFN_HI w) := by
    rw [Block.setPair_eq]
    exact ((cmpStands_lnk b _).trans (composingStands.other _ (f := F.LNK_FIRST_WFN_LO) _ rfl (by decide))).trans
      (composingStands.other _ (f := F.LNK_FIRST_WFN_HI) _ rfl (by decide))
  rw [Block.takeFirst]
  dsimp only
  generalize Block.setPair _ F.LNK_FIRST_WFN_LO F.LNK_FIRST_WFN_HI w = c at *
  cases c.drives
  · exact hpair
  · exact hpair.trans (cmpStands_scn c _)

theorem cmpStands_activated (b : Block) (first : Nat) : CmpStands b (b.activated first) := by
  have hunder (c : Block) (e : Nat) : CmpStands c (c.activeUnder e) := cmpStands_lnk c _
  rw [Block.activated]
  exact ((((((composingStands.other b (f := F.LNK_EPOCH_EPOCH) _ rfl (by decide)).trans (cmpStands_takeFirst _ first)).trans (hunder _ _)).trans
    (composingStands.other _ (f := F.LNKn_STATUS_TOWARD_ACTIVE 0) 0 rfl (by decide))).trans
    (composingStands.other _ (f := F.LNKn_STATUS_TOWARD_ACTIVE 1) 0 rfl (by decide))).trans (cmpStands_setDuty _ dutyActive)).trans
    (cmpStands_setSplit _ none)

theorem cmpStands_sendAlive (b : Block) : CmpStands b b.sendAlive :=
  (sendingStands.sendChain (.inr cmpStands_endSession) _ _ _ _).trans (sendingStands.sendOtherUdp (.inr cmpStands_endSession) _ _)

theorem cmpStands_sendHeadState (b : Block) (s : Nat) : CmpStands b (b.sendHeadState s) := by
  rw [Block.sendHeadState]
  split
  · exact .refl b
  · exact (sendingStands.sendChain (.inr cmpStands_endSession) _ _ _ _).trans (sendingStands.sendOtherUdp (.inr cmpStands_endSession) _ _)

theorem cmpStands_becomeActive (b : Block) (first : Nat) : CmpStands b (b.becomeActive first) := by
  have heq : b.becomeActive first = ((b.activated first).sendAlive).when (b.bit F.LNK_CHAIN_STATUS_SPLIT) (fun b => b.sendHeadState b.slotNumber) := rfl
  rw [heq]
  exact ((cmpStands_activated b first).trans (cmpStands_sendAlive _)).trans (sendingStands.when _ _ fun c => cmpStands_sendHeadState c _)

theorem cmpStands_resend (b : Block) (keep : Nat → Bool) : CmpStands b (b.resend keep) :=
  composingStands.each _ b fun _ c => composingStands.each _ c fun p d => (sendingStands.countCells d p _).trans (sendingStands.emit _ _)

theorem cmpStands_takeOver (b : Block) : CmpStands b b.takeOver := by
  rw [Block.takeOver_eq]
  have htold : CmpStands b b.takeOverTold :=
    (composingStands.countOther b (f := F.LNK_CNT_Ei 6) 1 rfl (by decide)).trans (composingStands.raiseOther _ rfl rfl (by decide) (by decide))
  exact (htold.trans (cmpStands_becomeActive _ _)).trans (cmpStands_resend _ _)

theorem cmpStands_handoverDue (b : Block) (m : Nat) : CmpStands b (b.handoverDue m) := by
  rw [Block.handoverDue]
  split
  · split
    · exact cmpStands_takeOver b
    · exact .refl b
  · exact .refl b

end Sys2Proof.Machine
end

section
/-!
PROOFS of chapter 7: a composition begins, its bands run and are emitted, it ends (R206, R208, R210, R225, R227).
-/

namespace Sys2Proof.Machine

/-- A flag that one of the steps sets stands after all of them. -/
theorem flag_each {α : Type} {f : α → Block → Block} {g : Fld} (hg : CmpFlag g) {a : α} {l : List α} (b : Block)
    (hl : ∀ x ∈ l, ∀ c, CmpStands c (f x c)) (ha : a ∈ l) (hset : ∀ c : Block, (f a c).bit g = true) : (b.each l f).bit g = true := by
  induction l generalizing b with
  | nil => exact absurd ha List.not_mem_nil
  | cons x l ih =>
    have hcons : b.each (x :: l) f = (f x b).each l f := by simp only [Block.each, List.foldl_cons]
    have hrest := composingStands.eachOf l (f x b) fun y hy => hl y (List.mem_cons_of_mem x hy)
    rw [hcons]
    rcases List.mem_cons.mp ha with he | ha
    · exact hrest.bit hg (he ▸ hset b)
    · exact ih _ (fun y hy => hl y (List.mem_cons_of_mem x hy)) ha

/-! ### Bands (R208) -/

theorem Block.setBand_spec (b : Block) (r : Nat) :
    let t := (b.set F.CMP_STATUS_BAND r).set F.CMP_STATUS_STATE cmpWait
    t.band = r % 2 ^ 10 ∧ t.cmpState = cmpWait ∧ ∀ g : Fld, g.addr ≠ R.CMP_STATUS → t.get g = b.get g :=
  ⟨by rw [Block.band, Block.get_set_apart _ _ rfl (by decide), Block.get_set_self _ _ rfl]; rfl,
    by rw [Block.cmpState, Block.get_set_self _ _ rfl]; rfl,
    fun g hg => by rw [Block.get_set_apart _ _ rfl (Fld.apart_of_addr hg), Block.get_set_apart _ _ rfl (Fld.apart_of_addr hg)]⟩

theorem CmpFlag.addr_ne {g : Fld} (h : CmpFlag g) : g.addr ≠ R.CMP_STATUS := by
  simp only [CmpFlag, List.mem_cons, List.not_mem_nil, or_false] at h
  rcases h with (rfl | rfl | rfl) | ⟨n, hn, rfl⟩
  · decide
  · decide
  · decide
  · simp only [F.CMP_LAYERn_STATUS_FAULT, R.CMP_LAYERn_STATUS, R.CMP_STATUS]
    omega

/-- The next band is waited for. -/
theorem Block.waitBand_spec (b : Block) (r : Nat) :
    let t := b.waitBand r
    t.band = r % 2 ^ 10 ∧ t.cmpState = cmpWait ∧ t.cmp.comp = b.cmp.comp ∧ t.cmp.set = b.cmp.set ∧ t.cmp.next = b.cmp.next ∧ t.stc = b.stc ∧ t.lnk = b.lnk
      ∧ t.pair F.CMP_COMP_WFN_LO F.CMP_COMP_WFN_HI = b.pair F.CMP_COMP_WFN_LO F.CMP_COMP_WFN_HI
      ∧ ∀ g, CmpFlag g → b.bit g = true → t.bit g = true := by
  obtain ⟨h1, h2, h3⟩ := b.setBand_spec r
  have hcmp : ((b.set F.CMP_STATUS_BAND r).set F.CMP_STATUS_STATE cmpWait).cmp = b.cmp := by rw [Block.set_cmp, Block.set_cmp]
  have hstc : ((b.set F.CMP_STATUS_BAND r).set F.CMP_STATUS_STATE cmpWait).stc = b.stc := by rw [Block.set_stc, Block.set_stc]
  have hlnk : ((b.set F.CMP_STATUS_BAND r).set F.CMP_STATUS_STATE cmpWait).lnk = b.lnk := by rw [Block.set_lnk, Block.set_lnk]
  rw [Block.waitBand]
  generalize (b.set F.CMP_STATUS_BAND r).set F.CMP_STATUS_STATE cmpWait = c at *
  have hsel := composingSelects.selectBand c r false
  generalize c.selectBand r false = t at *
  obtain ⟨hst, hnext, hl, hlo, hhi⟩ := hsel
  obtain ⟨k1, k2, k3, -, k5⟩ := id hst
  refine ⟨hst.band.trans h1, hst.cmpState.trans h2, by rw [k1, hcmp], by rw [k2, hcmp], by rw [hnext, hcmp],
    k3.trans hstc, hl.trans hlnk, ?_, fun g hg hb => k5 g hg ?_⟩
  · rw [Block.pair, hlo, hhi, h3 _ (by decide), h3 _ (by decide), ← Block.pair]
  · rw [Block.bit, h3 g hg.addr_ne]
    exact hb

/-- The band runs. -/
theorem Block.runBand_spec (b : Block) :
    let t := b.runBand
    t.cmpState = cmpRun ∧ t.cmp.comp = b.cmp.comp ∧ t.band = b.band ∧ t.stc = b.stc := by
  have hrows : CmpStands b (b.each (b.bandLayers b.band) (fun n c =>
      match c.layerSurf (c.use n) with
      | some x => if (c.use n).out then c else c.surfUse 2 x (c.rowsOf n b.band x).1 (c.rowsOf n b.band x).2
      | none => c)) := by
    refine composingStands.each _ b fun n c => ?_
    split
    · split
      · exact .refl c
      · exact composingStands.surfUse c 2 _ _ _
    · exact .refl c
  have heq : b.runBand = (b.each (b.bandLayers b.band) (fun n c =>
      match c.layerSurf (c.use n) with
      | some x => if (c.use n).out then c else c.surfUse 2 x (c.rowsOf n b.band x).1 (c.rowsOf n b.band x).2
      | none => c)).set F.CMP_STATUS_STATE cmpRun := rfl
  rw [heq]
  generalize Block.each _ _ _ = c at *
  refine ⟨?_, by rw [Block.set_cmp, hrows.comp], ?_, by rw [Block.set_stc, hrows.stc]⟩
  · rw [Block.cmpState, Block.get_set_self _ _ rfl]
    rfl
  · rw [Block.band, Block.get_set_apart _ _ rfl (by decide), ← Block.band, hrows.band]

theorem bandStart_eq {b : Block} {m : Nat} (hm : b.cmp.comp = some m) (hs : b.cmpState = cmpWait) (hon : b.cmpOn = true) :
    bandStart b = if ((b.selectBand b.band false).bandLayers (b.selectBand b.band false).band).all
      (fun n => (b.selectBand b.band false).rowsReady n (b.selectBand b.band false).band)
      then (b.selectBand b.band false).runBand else b.selectBand b.band false := by
  rw [bandStart, hm, hs, hon]
  rfl

section
variable {b : Block} {m : Nat} (hm : b.cmp.comp = some m) (hs : b.cmpState = cmpWait) (hon : b.cmpOn = true)
include hm hs hon

/-- A band whose rows are there runs. -/
theorem bandStart_ready (h : ((b.selectBand b.band false).bandLayers (b.selectBand b.band false).band).all
    (fun n => (b.selectBand b.band false).rowsReady n (b.selectBand b.band false).band) = true) :
    let t := bandStart b
    t.cmpState = cmpRun ∧ t.cmp.comp = some m ∧ t.band = b.band := by
  have hsel := composingStands.selectBand b b.band false
  rw [bandStart_eq hm hs hon, if_pos h]
  generalize b.selectBand b.band false = c at *
  obtain ⟨k1, k2, k3, -⟩ := c.runBand_spec
  exact ⟨k1, by rw [k2, hsel.comp, hm], by rw [k3, hsel.band]⟩

/-- A band whose rows are not there waits. -/
theorem bandStart_waits (h : ((b.selectBand b.band false).bandLayers (b.selectBand b.band false).band).all
    (fun n => (b.selectBand b.band false).rowsReady n (b.selectBand b.band false).band) = false) :
    let t := bandStart b
    t.cmpState = cmpWait ∧ t.cmp.comp = some m ∧ t.band = b.band := by
  have hsel := composingStands.selectBand b b.band false
  rw [bandStart_eq hm hs hon, if_neg (by rw [h]; decide)]
  exact ⟨hsel.cmpState.trans hs, hsel.comp.trans hm, hsel.band⟩

end

theorem mem_bandLayers {b : Block} {r n : Nat} (h : n ∈ b.bandLayers r) : n < 16 :=
  List.mem_range.mp (List.mem_of_mem_filter h)

theorem bandLatestStart_eq {b : Block} {m : Nat} (hm : b.cmp.comp = some m) (hs : b.cmpState = cmpWait) (hon : b.cmpOn = true) :
    bandLatestStart b = ((((b.untilStc (nsOf (b.latestStart b.cset m b.band))).selectBand b.band true).each
      (((b.untilStc (nsOf (b.latestStart b.cset m b.band))).selectBand b.band true).bandLayers b.band)
      (fun n c => if c.rowsReady n b.band then c else c.layerFault n false)).runBand) := by
  rw [bandLatestStart, hm]
  exact if_neg (by rw [hs, hon]; decide)

/-- At the latest start the layers whose rows are not there have faulted, and the band runs. -/
theorem bandLatestStart_spec {b : Block} {m : Nat} (hm : b.cmp.comp = some m) (hs : b.cmpState = cmpWait) (hon : b.cmpOn = true) :
    let t := bandLatestStart b
    t.cmpState = cmpRun ∧ t.cmp.comp = some m ∧ t.band = b.band ∧ t.stc = b.stcBy (nsOf (b.latestStart b.cset m b.band)) := by
  rw [bandLatestStart_eq hm hs hon]
  generalize hn : nsOf (b.latestStart b.cset m b.band) = n
  have hcomp : (b.untilStc n).cmp.comp = some m := hm
  have hband : (b.untilStc n).band = b.band := b.untilStc_get n _
  have hstc : (b.untilStc n).stc = b.stcBy n := rfl
  generalize b.untilStc n = c at *
  have hsel := composingStands.selectBand c b.band true
  generalize c.selectBand b.band true = d at *
  have hfault : CmpStands d (d.each (d.bandLayers b.band) (fun n c => if c.rowsReady n b.band then c else c.layerFault n false)) := by
    refine composingStands.eachOf _ d fun n hn e => ?_
    split
    · exact .refl e
    · exact composingStands.layerFault e false (mem_bandLayers hn)
  have h := hsel.trans hfault
  generalize Block.each _ _ _ = e at *
  obtain ⟨k1, k2, k3, k4⟩ := e.runBand_spec
  exact ⟨k1, by rw [k2, h.comp, hcomp], by rw [k3, h.band, hband], by rw [k4, h.stc, hstc]⟩

/-! ### The end (R206, R268, R271) -/

/-- The holds, the write-back buffer and the replay entries of a composition are given up, and its slack is told. -/
def Block.compClosed (b : Block) (whole : Bool) (m : Nat) : Block :=
  let c := b.each b.cmp.layers (fun u b => b.releaseLayer u)
  let d := (if whole then c.wbComplete m else c.wbAbandon).rplRelease m
  d.setInt F.CMP_SLACK_NS ((d.bandDeadline b.cset m (bandCount b.cset - 1) - q16 d.stc) / 65536)

/-- No composition is in progress. -/
def Block.compOver (b : Block) : Block := { (b.set F.CMP_STATUS_STATE cmpIdle).irq F.CMP_IRQ_STATUS_DONE with cmp.comp := none }

/-- A delegate whose split has healed ends now. -/
def Block.delegateHealed (b : Block) : Block :=
  if b.lnk.delegateEnds && b.duty == dutyDelegate then { (b.setDuty dutyStandby).setSplit none with lnk.delegateEnds := false } else b

theorem Block.compositionEnd_eq {b : Block} {m : Nat} (hm : b.cmp.comp = some m) (whole : Bool) :
    b.compositionEnd whole = ((b.compClosed whole m).compOver.delegateHealed).handoverDue m := by
  rw [Block.compositionEnd, hm]
  rfl

theorem cmpStands_compClosed (b : Block) (whole : Bool) (m : Nat) : CmpStands b (b.compClosed whole m) := by
  have hrel := composingStands.each b.cmp.layers b fun u c => composingStands.releaseLayer c u
  rw [Block.compClosed]
  refine .trans (.trans hrel ?_) (composingStands.set _ _ rfl ⟨by decide, by decide, by decide, by decide⟩)
  refine .trans ?_ (composingStands.rplRelease _ m)
  split
  · exact composingStands.wbComplete _ m
  · exact composingStands.wbAbandon _

theorem cmpStands_delegateHealed (b : Block) : CmpStands b b.delegateHealed := by
  rw [Block.delegateHealed]
  split
  · exact ((cmpStands_setDuty b _).trans (cmpStands_setSplit _ _)).trans (cmpStands_lnk _ _)
  · exact .refl b

/-- A composition that ends. -/
theorem Block.compositionEnd_spec {b : Block} {m : Nat} (hm : b.cmp.comp = some m) (whole : Bool) :
    let t := b.compositionEnd whole
    t.cmpState = cmpIdle ∧ t.cmp.comp = none ∧ t.bit F.CMP_IRQ_STATUS_DONE = true ∧ t.stc = b.stc
      ∧ t.get (F.CMP_CNT_Ei 2) = b.get (F.CMP_CNT_Ei 2) ∧ ∀ g, CmpFlag g → b.bit g = true → t.bit g = true := by
  have h := cmpStands_compClosed b whole m
  rw [Block.compositionEnd_eq hm]
  generalize b.compClosed whole m = c at *
  have hstc : c.compOver.stc = c.stc := by
    show ((c.set F.CMP_STATUS_STATE cmpIdle).set F.CMP_IRQ_STATUS_DONE 1).stc = _
    rw [Block.set_stc, Block.set_stc]
  have hget (g : Fld) : c.compOver.get g = ((c.set F.CMP_STATUS_STATE cmpIdle).set F.CMP_IRQ_STATUS_DONE 1).get g := rfl
  have hnone : c.compOver.cmp.comp = none := rfl
  have hstate : c.compOver.cmpState = cmpIdle := by
    rw [Block.cmpState, hget, Block.get_set_apart _ _ rfl (by decide), Block.get_set_self _ _ rfl]
    rfl
  have hflags : ∀ g, CmpFlag g → c.bit g = true → c.compOver.bit g = true := fun g hg hb => by
    rw [Block.bit, hget, ← Block.bit]
    refine (cmpStands_flag _ cmpFlag_done).bit hg ?_
    rw [Block.bit_set_apart _ _ rfl (Fld.apart_of_addr hg.addr_ne), hb]
  have hdone : c.compOver.bit F.CMP_IRQ_STATUS_DONE = true := by
    rw [Block.bit, hget, ← Block.bit, Block.bit_set_one_self _ rfl rfl]
  have hcnt : c.compOver.get (F.CMP_CNT_Ei 2) = c.get (F.CMP_CNT_Ei 2) := by
    rw [hget, Block.get_set_apart _ _ rfl (by decide), Block.get_set_apart _ _ rfl (by decide)]
  generalize c.compOver = d at *
  have hend := (cmpStands_delegateHealed d).trans (cmpStands_handoverDue _ m)
  generalize d.delegateHealed.handoverDue m = t at *
  exact ⟨hend.cmpState.trans hstate, hend.comp.trans hnone, hend.bit cmpFlag_done hdone, by rw [hend.stc, hstc, h.stc],
    by rw [hend.get (by decide), hcnt, h.get (by decide)], fun g hg hb => hend.bit hg (hflags g hg (h.bit hg hb))⟩

/-- A band that misses its deadline drops the rest. -/
theorem bandDeadlineMiss_spec {b : Block} {m : Nat} (hm : b.cmp.comp = some m) (hon : b.cmpOn = true) :
    let t := bandDeadlineMiss b
    t.cmpState = cmpIdle ∧ t.cmp.comp = none ∧ t.bit F.CMP_ERR_OVERRUN = true ∧ t.bit F.CMP_IRQ_STATUS_DONE = true
      ∧ t.stc = b.stcBy (nsOf (b.bandDeadline b.cset m b.band))
      ∧ t.get (F.CMP_CNT_Ei 2) = min (b.get (F.CMP_CNT_Ei 2) + (bandCount b.cset - b.band)) (2 ^ 32 - 1) := by
  have heq : bandDeadlineMiss b = ((((b.untilStc (nsOf (b.bandDeadline b.cset m b.band))).countSat (F.CMP_CNT_Ei 2)
      (bandCount b.cset - b.band)).raise E.CMP_OVERRUN).compositionEnd false) := by
    rw [bandDeadlineMiss, hm, hon]
    rfl
  rw [heq, Block.raise_eq, Block.countSat_eq]
  have hget : (b.untilStc (nsOf (b.bandDeadline b.cset m b.band))).get (F.CMP_CNT_Ei 2) = b.get (F.CMP_CNT_Ei 2) := rfl
  have hstc : (b.untilStc (nsOf (b.bandDeadline b.cset m b.band))).stc = b.stcBy (nsOf (b.bandDeadline b.cset m b.band)) := rfl
  have hcomp : (b.untilStc (nsOf (b.bandDeadline b.cset m b.band))).cmp.comp = some m := hm
  rw [hget]
  generalize bandCount b.cset - b.band = k at *
  generalize b.untilStc (nsOf (b.bandDeadline b.cset m b.band)) = c at *
  generalize hv : min (b.get (F.CMP_CNT_Ei 2) + k) (2 ^ (F.CMP_CNT_Ei 2).width - 1) = v
  have herr : ((c.set (F.CMP_CNT_Ei 2) v).raiseAt E.CMP_OVERRUN noDetail).bit F.CMP_ERR_OVERRUN = true :=
    Block.bit_raiseAt_self (e := E.CMP_OVERRUN) _ _ rfl rfl rfl rfl (by decide)
  have hcnt : ((c.set (F.CMP_CNT_Ei 2) v).raiseAt E.CMP_OVERRUN noDetail).get (F.CMP_CNT_Ei 2) = v := by
    rw [Block.get_raiseAt_apart _ _ rfl rfl (by decide) (by decide) (by decide), Block.get_set_self _ _ rfl]
    refine Nat.mod_eq_of_lt ?_
    rw [← hv]
    exact lt_of_le_of_lt (Nat.min_le_right _ _) (by decide)
  have hstc' : ((c.set (F.CMP_CNT_Ei 2) v).raiseAt E.CMP_OVERRUN noDetail).stc = c.stc := by rw [Block.raiseAt_stc, Block.set_stc]
  have hcomp' : ((c.set (F.CMP_CNT_Ei 2) v).raiseAt E.CMP_OVERRUN noDetail).cmp.comp = some m := by rw [Block.raiseAt_cmp, Block.set_cmp, hcomp]
  generalize (c.set (F.CMP_CNT_Ei 2) v).raiseAt E.CMP_OVERRUN noDetail = d at *
  obtain ⟨k1, k2, k3, k4, k5, k6⟩ := Block.compositionEnd_spec hcomp' false
  exact ⟨k1, k2, k6 _ cmpFlag_overrun herr, k3, by rw [k4, hstc', hstc], by rw [k5, hcnt, ← hv]; rfl⟩

end Sys2Proof.Machine
end

section
/-!
PROOFS of chapter 7: a composition that begins, and a band that is emitted (R206, R210, R218).
-/

namespace Sys2Proof.Machine

/-! ### The begin (R206, R218) -/

/-- The on-die tables are there. -/
def Block.compTables (b : Block) (c : CmpSet) : Block :=
  match c.copying with
  | some t => b.fresh.2.untilStc (t + min (Config.freeValue b.freeCount) 20000)
  | none => b

/-- The captured set is that of the composition in progress. -/
def Block.compStarted (b : Block) (c : CmpSet) : Block :=
  { b with
    cmp := { b.cmp with
      next := none, comp := some c.m, set := some c
      layers := ((List.range 16).filter (fun n => (layerOf c.get n).en)).map (fun n => (⟨n, none, false, false⟩ : LayerUse))
      modeEpoch := b.act F.FRM_MODE_EPOCH_EPOCH }
    lnk := { b.lnk with kept := [], keptBytes := 0 } }

/-- The status of every layer begins anew. -/
def Block.layersCleared (b : Block) : Block :=
  b.each (List.range 16) (fun n b => b.setWord (R.CMP_LAYERn_STATUS n) (BitVec.ofNat 32 (b.get (F.CMP_LAYERn_STATUS_LAST_WFN n) * 65536)))

/-- Number and line units of a composition are told. -/
def Block.compTold (b : Block) (c : CmpSet) : Block :=
  ((b.setPair F.CMP_COMP_WFN_LO F.CMP_COMP_WFN_HI c.m).set F.CMP_LINEBUF_USED_UNITS (lineUnits c.get)).irq F.CMP_IRQ_STATUS_START

theorem compositionBegin_eq {b : Block} {c : CmpSet} (hn : b.cmp.next = some c) (hon : b.cmpOn = true) (hc : b.cmp.comp = none) :
    compositionBegin b = (((((b.compTables c).compStarted c).layersCleared.compTold c).wbBegin c.m).waitBand 0) := by
  rw [compositionBegin, hn]
  exact if_neg (by rw [hon, hc]; decide)

theorem Block.compTables_stc (b : Block) (c : CmpSet) :
    (b.compTables c).stc = (match c.copying with | some t0 => b.stcBy (t0 + min (Config.freeValue b.freeCount) 20000) | none => b.stc) := by
  rw [Block.compTables]
  cases c.copying with
  | none => rfl
  | some t0 => rfl

theorem Block.layersCleared_only (b : Block) : RegsOnly b b.layersCleared :=
  Block.each_rel (R := RegsOnly) (fun _ => rfl) (fun _ _ _ => RegsOnly.trans) _ b fun _ _ _ => rfl

theorem Block.compTold_spec (b : Block) {c : CmpSet} (hm : c.m < 2 ^ 64) :
    let t := b.compTold c
    RegsOnly b t ∧ t.pair F.CMP_COMP_WFN_LO F.CMP_COMP_WFN_HI = c.m ∧ t.bit F.CMP_IRQ_STATUS_START = true := by
  rw [Block.compTold, Block.setPair_eq, Block.irq_eq]
  refine ⟨(((regsOnly_set b _ _).trans (regsOnly_set _ _ _)).trans (regsOnly_set _ _ _)).trans (regsOnly_set _ _ _), ?_,
    Block.bit_set_one_self _ rfl rfl⟩
  rw [Block.pair, Block.get_set_apart _ _ rfl (by decide), Block.get_set_apart _ _ rfl (by decide), Block.get_set_apart _ _ rfl (by decide),
    Block.get_set_self _ _ rfl, Block.get_set_apart _ _ rfl (by decide), Block.get_set_apart _ _ rfl (by decide), Block.get_set_self _ _ rfl]
  show c.m % 2 ^ 32 + 2 ^ 32 * (c.m / 2 ^ 32 % 2 ^ 32) = c.m
  omega

/-- The captured composition begins and waits for band 0. -/
theorem compositionBegin_spec {b : Block} {c : CmpSet} (hn : b.cmp.next = some c) (hon : b.cmpOn = true) (hc : b.cmp.comp = none)
    (hm : c.m < 2 ^ 64) :
    let t := compositionBegin b
    t.cmp.comp = some c.m ∧ t.cmp.next = none ∧ t.cmp.set = some c ∧ t.pair F.CMP_COMP_WFN_LO F.CMP_COMP_WFN_HI = c.m ∧ t.cmpState = cmpWait
      ∧ t.band = 0 ∧ t.bit F.CMP_IRQ_STATUS_START = true ∧ t.lnk.kept = [] ∧ t.stc = (b.compTables c).stc := by
  rw [compositionBegin_eq hn hon hc]
  have hcmp : ((b.compTables c).compStarted c).cmp.comp = some c.m ∧ ((b.compTables c).compStarted c).cmp.next = none
      ∧ ((b.compTables c).compStarted c).cmp.set = some c := ⟨rfl, rfl, rfl⟩
  have hkept : ((b.compTables c).compStarted c).lnk.kept = [] := rfl
  have hstc : ((b.compTables c).compStarted c).stc = (b.compTables c).stc := rfl
  generalize (b.compTables c).compStarted c = d at *
  have hclear := d.layersCleared_only
  generalize d.layersCleared = e at *
  obtain ⟨honly, hpair, hstart⟩ := e.compTold_spec hm
  have htold := hclear.trans honly
  generalize e.compTold c = f at *
  have hwb := composingSelects.wbBegin f c.m
  generalize f.wbBegin c.m = g at *
  obtain ⟨hst, wnext, wlnk, wlo, whi⟩ := hwb
  obtain ⟨w1, w2, w3, -, w5⟩ := hst
  obtain ⟨k1, k2, k3, k4, k5, k6, k7, k8, k9⟩ := g.waitBand_spec 0
  obtain ⟨hcomp, hnext, hset⟩ := hcmp
  have hfc : f.cmp = d.cmp := by rw [htold]
  have hfl : f.lnk = d.lnk := by rw [htold]
  have hfs : f.stc = d.stc := by rw [htold]
  exact ⟨by rw [k3, w1, hfc, hcomp], by rw [k5, wnext, hfc, hnext], by rw [k4, w2, hfc, hset],
    by rw [k8, Block.pair, wlo, whi, ← Block.pair, hpair], k2, k1, k9 _ cmpFlag_start (w5 _ cmpFlag_start hstart),
    by rw [k7, wlnk, hfl, hkept], by rw [k6, w3, hfs, hstc]⟩

/-! ### A band that is emitted (R210, R225) -/

/-- The layers whose data is missing have faulted by their time. -/
def Block.bandFaulted (b : Block) (late : List (Nat × Layer × Surf)) (at' : Nat) : Block :=
  (if late.isEmpty then b else b.untilStc at').each late (fun l b => b.layerFault l.1 false)

/-- The layers that read poisoned data fault. -/
def Block.bandPoisoned (b : Block) (g : Fld → Nat) (tables : List Host.Cell) (r : Nat) : Block :=
  b.each ((b.taking' r).filter (fun l => (bandPoints g r).any (fun p => b.corruptAt g tables l.2.1 l.2.2 p.1 p.2)))
    (fun l b => b.layerFault l.1 true)

/-- A layer is used in a band, with its taps clamped at an edge or not. -/
def Block.layerUsed (b : Block) (pts : List (Nat × Nat)) (m : Nat) (l : Nat × Layer × Surf) : Block :=
  let inside (p : Nat × Nat) : Bool := decide (l.2.1.dx ≤ p.1) && decide (p.1 < l.2.1.dx + l.2.1.dw)
    && decide (l.2.1.dy ≤ p.2) && decide (p.2 < l.2.1.dy + l.2.1.dh)
  let edge := pts.any (fun p => inside p && edgeClamp l.2.1 l.2.2 (p.1 - l.2.1.dx) (p.2 - l.2.1.dy))
  let b := if edge && !b.bit (F.CMP_LAYERn_STATUS_EDGE_CLAMP l.1) then
      (b.set (F.CMP_LAYERn_STATUS_EDGE_CLAMP l.1) 1).countSat (F.CMP_CNT_Ei 4) 1 else b
  (b.set (F.CMP_LAYERn_STATUS_USED l.1) 1).set (F.CMP_LAYERn_STATUS_LAST_WFN l.1) m

/-- The fronds of a band are handed over, and its rows written back. -/
def Block.bandHanded (b : Block) (g : Fld → Nat) (px : Nat → Nat → List Nat) (m r : Nat) (behind : Bool) : Block :=
  let b := b.each (((slotsOf g).filter (fun s => s.2.meets r)).map (fun s => b.frondOf px m r s.1 s.2)) (fun f b => b.handOver f)
  if behind && b.cmp.wb.isSome then (b.wbAbandon.countSat (F.CMP_CNT_Ei 3) 1).raise E.CMP_WB_DROP else b.wbBand px r

/-- The pixels of a band leave. -/
def Block.bandOut (b : Block) (g : Fld → Nat) (tables : List Host.Cell) (m r : Nat) (behind : Bool) : Block :=
  let c := b.bandPoisoned g tables r
  let d := c.each (c.taking' r) (fun l b => b.layerUsed (bandPoints g r) m l)
  d.bandHanded g (d.canvasPixel g tables ((c.taking' r).map (·.2))) m r behind

/-- The layers of band `r` whose data is missing. -/
def Block.lateIn (b : Block) (missing : List Nat) (r : Nat) : List (Nat × Layer × Surf) :=
  (b.taking' r).filter (fun l => missing.contains l.1)

/-- The band that has left. -/
def Block.bandLeft (b : Block) (missing : List Nat) (behind : Bool) (m : Nat) : Block :=
  (b.bandFaulted (b.lateIn missing b.band) (nsOf (b.faultTime b.cset m b.band))).bandOut b.cset ((b.cmp.set.map (·.tables)).getD []) m
    b.band behind

theorem bandEmit_eq {b : Block} {m : Nat} (missing : List Nat) (behind : Bool) (hm : b.cmp.comp = some m) (hs : b.cmpState = cmpRun)
    (hon : b.cmpOn = true) (hd : q16 b.stc ≤ b.bandDeadline b.cset m b.band)
    (hl : b.lateIn missing b.band = [] ∨ b.faultTime b.cset m b.band ≤ b.bandDeadline b.cset m b.band) :
    bandEmit missing behind b = if b.band + 1 < bandCount b.cset then (b.bandLeft missing behind m).waitBand (b.band + 1)
      else (b.bandLeft missing behind m).compositionEnd true := by
  have h1 : ¬(b.cmpState ≠ cmpRun ∨ (!b.cmpOn) = true ∨ b.bandDeadline b.cset m b.band < q16 b.stc) := by
    rw [hs, hon]
    simp only [ne_eq, not_true, Bool.not_true, Bool.false_eq_true, false_or, not_lt]
    exact hd
  have h2 : ¬((!(b.lateIn missing b.band).isEmpty) = true ∧ b.bandDeadline b.cset m b.band < b.faultTime b.cset m b.band) := by
    rintro ⟨he, hlt⟩
    rcases hl with hl | hl
    · rw [hl] at he
      exact absurd he (by decide)
    · omega
  rw [bandEmit, hm]
  exact (if_neg h1).trans (if_neg h2)

theorem mem_taking {b : Block} {r : Nat} {l : Nat × Layer × Surf} (h : l ∈ b.taking' r) : l.1 < 16 := by
  rw [Block.taking', List.mem_filterMap] at h
  obtain ⟨n, hn, h⟩ := h
  dsimp only at h
  split at h
  · cases h
  · rw [Option.map_eq_some_iff] at h
    obtain ⟨x, -, rfl⟩ := h
    exact mem_bandLayers hn

theorem cmpStands_used (b : Block) (n : Nat) (hn : n < 16) : CmpStands b (b.set (F.CMP_LAYERn_STATUS_USED n) 1) := by
  refine composingStands.set b 1 rfl ⟨?_, ?_, ?_, ?_⟩
  all_goals
    simp only [F.CMP_LAYERn_STATUS_USED, R.CMP_LAYERn_STATUS, R.CMP_STATUS, R.CMP_COMP_WFN_LO, R.CMP_COMP_WFN_HI, R.CMP_CNT_Ei, R.CMP_ERR,
      R.CMP_IRQ_STATUS, List.mem_cons, List.not_mem_nil, or_false]
    omega

theorem cmpStands_bandPoisoned (b : Block) (g : Fld → Nat) (tables : List Host.Cell) (r : Nat) : CmpStands b (b.bandPoisoned g tables r) :=
  composingStands.eachOf _ b fun _ hx c => composingStands.layerFault c true (mem_taking (List.mem_of_mem_filter hx))

theorem cmpStands_layerUsed (b : Block) (pts : List (Nat × Nat)) (m : Nat) {l : Nat × Layer × Surf} (hl : l.1 < 16) :
    CmpStands b (b.layerUsed pts m l) := by
  have hclamp (k : Bool) : CmpStands b (if k = true then
      (b.set (F.CMP_LAYERn_STATUS_EDGE_CLAMP l.1) 1).countSat (F.CMP_CNT_Ei 4) 1 else b) := by
    cases k
    · exact .refl b
    · exact (composingStands.setLayer b 1 rfl (.inl ⟨rfl, Nat.lt_of_sub_eq_succ rfl⟩)).trans (composingStands.countCmp _ 1 (by decide))
  exact ((hclamp _).trans (cmpStands_used _ l.1 hl)).trans (composingStands.setLayer _ m rfl (.inl ⟨rfl, Nat.lt_of_sub_eq_succ rfl⟩))

theorem cmpStands_bandHanded (b : Block) (g : Fld → Nat) (px : Nat → Nat → List Nat) (m r : Nat) (behind : Bool) :
    CmpStands b (b.bandHanded g px m r behind) := by
  have hfronds (l : List Frond) : CmpStands b (b.each l (fun f b => b.handOver f)) :=
    composingStands.each l b fun f c => cmpStands_handOver c f
  refine (hfronds (((slotsOf g).filter (fun s => s.2.meets r)).map (fun s => b.frondOf px m r s.1 s.2))).trans ?_
  rw [Block.bandHanded]
  split
  · exact ((composingStands.wbAbandon _).trans (composingStands.countCmp _ 1 (by decide))).trans (composingStands.raiseWbDrop _)
  · exact composingStands.wbBand _ px r

theorem cmpStands_bandOut (b : Block) (g : Fld → Nat) (tables : List Host.Cell) (m r : Nat) (behind : Bool) :
    CmpStands b (b.bandOut g tables m r behind) := by
  have hused (c : Block) : CmpStands c (c.each (c.taking' r) (fun l b => b.layerUsed (bandPoints g r) m l)) :=
    composingStands.eachOf _ c fun _ hx d => cmpStands_layerUsed d _ m (mem_taking hx)
  exact ((cmpStands_bandPoisoned b g tables r).trans (hused _)).trans (cmpStands_bandHanded _ g _ m r behind)

/-! ### The band that follows, or the end -/

/-- What waiting for the next band and ending the composition have in common. -/
theorem Block.stepOn_spec {b : Block} {m : Nat} (hm : b.cmp.comp = some m) (r n : Nat) :
    let t := if r + 1 < n then b.waitBand (r + 1) else b.compositionEnd true
    t.stc = b.stc ∧ ∀ g, CmpFlag g → b.bit g = true → t.bit g = true := by
  dsimp only
  split
  · obtain ⟨-, -, -, -, -, h, -, -, k⟩ := b.waitBand_spec (r + 1)
    exact ⟨h, k⟩
  · obtain ⟨-, -, -, h, -, k⟩ := Block.compositionEnd_spec hm true
    exact ⟨h, k⟩

theorem bandEmit_whole {b : Block} {m : Nat} {missing : List Nat} (behind : Bool) (hm : b.cmp.comp = some m) (hs : b.cmpState = cmpRun)
    (hon : b.cmpOn = true) (hd : q16 b.stc ≤ b.bandDeadline b.cset m b.band) (hl : b.lateIn missing b.band = []) :
    let t := bandEmit missing behind b
    (b.band + 1 < bandCount b.cset → bandCount b.cset ≤ 2 ^ 10 → t.band = b.band + 1 ∧ t.cmpState = cmpWait ∧ t.cmp.comp = some m ∧ t.stc = b.stc)
      ∧ (bandCount b.cset ≤ b.band + 1 → t.cmpState = cmpIdle ∧ t.cmp.comp = none ∧ t.bit F.CMP_IRQ_STATUS_DONE = true ∧ t.stc = b.stc) := by
  have hleft : CmpStands b (b.bandLeft missing behind m) := by
    rw [Block.bandLeft, hl]
    exact cmpStands_bandOut b _ _ m _ behind
  have heq := bandEmit_eq missing behind hm hs hon hd (.inl hl)
  generalize b.bandLeft missing behind m = c at *
  have hc : c.cmp.comp = some m := hleft.comp.trans hm
  refine ⟨fun hr hn => ?_, fun hr => ?_⟩
  · obtain ⟨k1, k2, k3, -, -, k6, -⟩ := c.waitBand_spec (b.band + 1)
    rw [heq, if_pos hr]
    exact ⟨k1.trans (Nat.mod_eq_of_lt (by omega)), k2, k3.trans hc, k6.trans hleft.stc⟩
  · obtain ⟨k1, k2, k3, k4, -⟩ := Block.compositionEnd_spec hc true
    rw [heq, if_neg (by omega)]
    exact ⟨k1, k2, k3, k4.trans hleft.stc⟩

/-- A fault sets its layer's bit. -/
theorem Block.layerFault_fault (b : Block) {n : Nat} (hn : n < 16) (corrupt : Bool) :
    (b.layerFault n corrupt).bit (F.CMP_LAYERn_STATUS_FAULT n) = true := by
  rw [Block.layerFault]
  exact (composingStands.faultTold _ corrupt hn).bit (cmpFlag_fault hn) (Block.bit_set_one_self _ rfl rfl)

/-- The layers whose data is missing have faulted, at their time. -/
theorem Block.bandFaulted_spec (b : Block) {late : List (Nat × Layer × Surf)} (at' : Nat) (hl : ∀ x ∈ late, x.1 < 16)
    {l : Nat × Layer × Surf} (hmem : l ∈ late) :
    let t := b.bandFaulted late at'
    CmpStands (b.untilStc at') t ∧ t.bit (F.CMP_LAYERn_STATUS_FAULT l.1) = true := by
  have hfault : ∀ x ∈ late, ∀ c : Block, CmpStands c (c.layerFault x.1 false) := fun x hx c => composingStands.layerFault c false (hl x hx)
  rw [Block.bandFaulted, if_neg (by rw [List.isEmpty_iff]; exact List.ne_nil_of_mem hmem)]
  exact ⟨composingStands.eachOf late _ hfault,
    flag_each (cmpFlag_fault (hl l hmem)) _ hfault hmem fun d => d.layerFault_fault (hl l hmem) false⟩

theorem bandEmit_late {b : Block} {m : Nat} {missing : List Nat} (behind : Bool) {l : Nat × Layer × Surf} (hm : b.cmp.comp = some m)
    (hs : b.cmpState = cmpRun) (hon : b.cmpOn = true) (hd : q16 b.stc ≤ b.bandDeadline b.cset m b.band) (hl : l ∈ b.taking' b.band)
    (hmiss : l.1 ∈ missing) (hf : b.faultTime b.cset m b.band ≤ b.bandDeadline b.cset m b.band) :
    let t := bandEmit missing behind b
    t.bit (F.CMP_LAYERn_STATUS_FAULT l.1) = true ∧ t.stc = b.stcBy (nsOf (b.faultTime b.cset m b.band)) := by
  have hn := mem_taking hl
  have hflag := cmpFlag_fault hn
  have hlate : l ∈ b.lateIn missing b.band := List.mem_filter.mpr ⟨hl, List.contains_iff_mem.mpr hmiss⟩
  have hlt : ∀ x ∈ b.lateIn missing b.band, x.1 < 16 := fun x hx => mem_taking (List.mem_of_mem_filter hx)
  obtain ⟨hall, hset⟩ := b.bandFaulted_spec (nsOf (b.faultTime b.cset m b.band)) hlt hlate
  have hu : (b.untilStc (nsOf (b.faultTime b.cset m b.band))).cmp.comp = some m := hm
  have hstc : (b.untilStc (nsOf (b.faultTime b.cset m b.band))).stc = b.stcBy (nsOf (b.faultTime b.cset m b.band)) := rfl
  rw [bandEmit_eq missing behind hm hs hon hd (.inr hf), Block.bandLeft]
  generalize b.bandFaulted (b.lateIn missing b.band) (nsOf (b.faultTime b.cset m b.band)) = d at *
  generalize b.untilStc (nsOf (b.faultTime b.cset m b.band)) = c at *
  have hout := cmpStands_bandOut d b.cset ((b.cmp.set.map (·.tables)).getD []) m b.band behind
  generalize d.bandOut b.cset ((b.cmp.set.map (·.tables)).getD []) m b.band behind = e at *
  obtain ⟨k1, k2⟩ := Block.stepOn_spec (b := e) (by rw [hout.comp, hall.comp, hu]) b.band (bandCount b.cset)
  exact ⟨k2 _ hflag (hout.bit hflag hset), by rw [k1, hout.stc, hall.stc, hstc]⟩

end Sys2Proof.Machine
end

section
/-!
PROOFS of chapter 12: a replay copy that ends (R367); with it, compositions and replay.
-/

namespace Sys2Proof.Machine

/-! ### The pieces of a copy -/

/-- The bytes that a copy moves. -/
def Block.copyBytes (b : Block) (k : Copy) : Nat := match k.stream with | some _ => k.surf.bytes | none => b.cmp.region.getD 2 0

/-- The entry that a copy leaves at a place. -/
def Copy.entry (k : Copy) (place : Nat × Nat) : Entry :=
  ⟨k.index, { k.surf with desc := place.1, data := place.2, st := 2, holds := 0 }, k.ev⟩

/-- The surface is copied, and its descriptor written. -/
def Block.copied (b : Block) (k : Copy) (place : Nat × Nat) : Block :=
  ((b.dramUse 3 k.surf.data (b.copyBytes k)).dramWrite 3 place.2 (b.dramBytes k.surf.data (b.copyBytes k))).writeDesc 3 (k.entry place).surf

/-- Channel `c` has an entry more, and copies no longer. -/
def Block.entered (b : Block) (c : Nat) (e : Entry) : Block :=
  b.onRpl c (fun q => { q with copy := none, entries := insertEntry e q.entries })

theorem replayCopyDone_eq {b : Block} {c : Nat} {k : Copy} (hk : (b.rplChan c).copy = some k) (hon : b.rplOn = true) :
    replayCopyDone c [] b = (((b.copied k (entryPlace (b.rplChan c).region k.index)).entered c
      (k.entry (entryPlace (b.rplChan c).region k.index))).holdSource k.stream k.surf.id false).rplShow c := by
  have hinc : (k.surf.inc || !([] : List Nat).isEmpty) = k.surf.inc := Bool.or_false _
  rw [replayCopyDone, hk, hon]
  simp only [List.filter_nil, hinc] <;> rfl

/-! ### What each piece leaves -/

theorem Surf.length_descriptor (x : Surf) : x.descriptor.length = 64 := by
  simp [Surf.descriptor, length_leBytes]

theorem Block.copied_rpl (b : Block) (k : Copy) (place : Nat × Nat) : (b.copied k place).rpl = b.rpl := by
  rw [Block.copied, Block.writeDesc, Block.dramWrite, Block.writeDram_eq, Block.dramUse_eq]
  dsimp only
  rw [Block.dramWrite, Block.writeDram_eq, Block.dramUse_eq]
  dsimp only
  rw [Block.dramUse_eq]

theorem Block.copied_cmp (b : Block) (k : Copy) (place : Nat × Nat) : (b.copied k place).cmp = b.cmp := by
  rw [Block.copied, Block.writeDesc, Block.dramWrite, Block.writeDram_eq, Block.dramUse_eq]
  dsimp only
  rw [Block.dramWrite, Block.writeDram_eq, Block.dramUse_eq]
  dsimp only
  rw [Block.dramUse_eq]

theorem Block.length_dramBytes (b : Block) (a n : Nat) : (b.dramBytes a n).length = n := by
  simp [Block.dramBytes]

/-- The data is the source's, where the descriptor lies below it. -/
theorem Block.copied_data (b : Block) (k : Copy) {place : Nat × Nat} (h : place.1 + 64 ≤ place.2) :
    (b.copied k place).dramBytes place.2 (b.copyBytes k) = b.dramBytes k.surf.data (b.copyBytes k) := by
  have hbytes := (b.dramUse 3 k.surf.data (b.copyBytes k)).dramBytes_dramWrite 3 place.2 (b.dramBytes k.surf.data (b.copyBytes k))
  rw [Block.length_dramBytes] at hbytes
  rw [← hbytes, Block.copied]
  generalize Block.dramWrite _ 3 place.2 _ = c
  refine List.map_congr_left fun i _ => ?_
  rw [Block.writeDesc, Block.dramByte_dramWrite, Surf.length_descriptor, if_neg]
  show ¬(place.1 ≤ place.2 + i ∧ place.2 + i < place.1 + 64)
  omega

theorem Block.onSurfs_rpl (b : Block) (client : Nat) (l : List Surf) (id : Nat) (f : Surf → Surf) : (b.onSurfs client l id f).1.rpl = b.rpl :=
  Block.each_rel (R := fun c t => t.rpl = c.rpl) (fun _ => rfl) (fun _ _ _ h k => k.trans h) _ b fun x _ c => by
    rw [Block.writeDesc, Block.dramWrite, Block.writeDram_eq, Block.dramUse_eq]

theorem Block.holdSource_rpl (b : Block) (stream : Option Nat) (id : Nat) (add : Bool) : (b.holdSource stream id add).rpl = b.rpl := by
  cases stream with
  | none => exact b.onSurfs_rpl 2 _ id _
  | some s =>
    show (Block.ingHeld _ s).rpl = _
    rw [Block.ingHeld, Block.set_rpl]
    exact (Block.onSurfs_rpl _ 1 _ id _).trans (b.onSurfs_rpl 1 _ id _)

/-- Where no buffer of write-back is the source, no descriptor of one is written. -/
theorem Block.holdSource_dram {b : Block} {id : Nat} (add : Bool) (h : ∀ x ∈ b.cmp.bufs, x.id ≠ id) :
    (b.holdSource none id add).dram = b.dram := by
  have hnone : ((b.cmp.bufs.map (fun x => if x.id == id && id != 0 then x.hold add else x)).filter (fun x => x.id == id && id != 0)) = [] := by
    rw [List.filter_eq_nil_iff]
    intro y hy
    obtain ⟨x, hx, rfl⟩ := List.mem_map.mp hy
    have hne := h x hx
    simp [hne]
  show (Block.each b _ _).dram = _
  rw [hnone]
  rfl

theorem Block.rplShow_spec (b : Block) (c : Nat) :
    let t := b.rplShow c
    RegsOnly b t ∧ t.bit (F.RPL_CHc_STATUS_COPYING c) = (b.rplChan c).copy.isSome := by
  rw [Block.rplShow]
  simp only [Block.setPair_eq, Block.setBit_eq]
  generalize (b.rplChan c).copy.isSome = k
  have hap (d : Block) {f : Fld} (v : Nat) (hok : f.ok = true) (h : f.addr ≠ R.RPL_CHc_STATUS c) :
      (d.set f v).bit (F.RPL_CHc_STATUS_COPYING c) = d.bit (F.RPL_CHc_STATUS_COPYING c) :=
    Block.bit_set_apart d v hok (Fld.apart_of_addr (Ne.symm h))
  constructor
  · exact (((((regsOnly_set b _ _).trans (regsOnly_set _ _ _)).trans (regsOnly_set _ _ _)).trans (regsOnly_set _ _ _)).trans
      (regsOnly_set _ _ _)).trans (regsOnly_set _ _ _)
  · rw [hap _ _ rfl (by simp only [F.RPL_CHc_NEWEST_HI, R.RPL_CHc_NEWEST_HI, R.RPL_CHc_STATUS]; omega),
      hap _ _ rfl (by simp only [F.RPL_CHc_NEWEST_LO, R.RPL_CHc_NEWEST_LO, R.RPL_CHc_STATUS]; omega),
      hap _ _ rfl (by simp only [F.RPL_CHc_OLDEST_HI, R.RPL_CHc_OLDEST_HI, R.RPL_CHc_STATUS]; omega),
      hap _ _ rfl (by simp only [F.RPL_CHc_OLDEST_LO, R.RPL_CHc_OLDEST_LO, R.RPL_CHc_STATUS]; omega)]
    cases k
    · exact Block.bit_set_zero_self _ rfl
    · exact Block.bit_set_one_self _ rfl rfl

theorem Block.rplChan_entered {b : Block} {c : Nat} (hc : c < b.rpl.length) (e : Entry) :
    ((b.entered c e).rplChan c).copy = none ∧ ((b.entered c e).rplChan c).entries = insertEntry e (b.rplChan c).entries := by
  have h : (b.entered c e).rplChan c = { b.rplChan c with copy := none, entries := insertEntry e (b.rplChan c).entries } := by
    show (b.rpl.modify c _).getD c _ = _
    rw [Block.rplChan, List.getD_eq_getElem _ _ (by rw [List.length_modify]; exact hc), List.getD_eq_getElem _ _ hc, List.getElem_modify_eq]
  rw [h]
  exact ⟨rfl, rfl⟩

theorem Block.entered_keeps (b : Block) (c : Nat) (e : Entry) : (b.entered c e).cmp = b.cmp ∧ (b.entered c e).dram = b.dram := ⟨rfl, rfl⟩

/-! ### A copy that ends -/

theorem replayCopyDone_spec {b : Block} {c : Nat} {k : Copy} (hc : c < b.rpl.length) (hk : (b.rplChan c).copy = some k) (hon : b.rplOn = true) :
    let t := replayCopyDone c [] b
    (t.rplChan c).copy = none ∧ t.bit (F.RPL_CHc_STATUS_COPYING c) = false
      ∧ (t.rplChan c).entries = insertEntry (k.entry (entryPlace (b.rplChan c).region k.index)) (b.rplChan c).entries := by
  rw [replayCopyDone_eq hk hon]
  generalize entryPlace (b.rplChan c).region k.index = place
  have hrpl := b.copied_rpl k place
  have hchan : (b.copied k place).rplChan c = b.rplChan c := by rw [Block.rplChan, hrpl, Block.rplChan]
  rw [← hrpl] at hc
  rw [← hchan]
  generalize b.copied k place = d at *
  obtain ⟨hcopy, hent⟩ := Block.rplChan_entered hc (k.entry place)
  generalize d.entered c (k.entry place) = e at *
  have hheld : (e.holdSource k.stream k.surf.id false).rplChan c = e.rplChan c := by rw [Block.rplChan, Block.holdSource_rpl, Block.rplChan]
  generalize e.holdSource k.stream k.surf.id false = f at *
  obtain ⟨honly, hbit⟩ := f.rplShow_spec c
  have hshown : (f.rplShow c).rplChan c = e.rplChan c := by
    rw [Block.rplChan, honly]
    exact hheld
  exact ⟨by rw [hshown, hcopy], by rw [hbit, hheld, hcopy]; rfl, by rw [hshown, hent]⟩

/-- A descriptor of a region lies below its data. -/
theorem entryPlace_below {region : List Nat} {i : Nat} (h : i < region.getD 1 0) : (entryPlace region i).1 + 64 ≤ (entryPlace region i).2 := by
  have hd : 64 * (i + 1) ≤ rplDesc (region.getD 1 0) := by
    rw [rplDesc, ceilDiv]
    omega
  show region.getD 0 0 + 64 * i + 64 ≤ region.getD 0 0 + rplDesc (region.getD 1 0) + i * region.getD 2 0
  generalize i * region.getD 2 0 = x
  omega

theorem replayCopyDone_data {b : Block} {c : Nat} {k : Copy} (hk : (b.rplChan c).copy = some k) (hon : b.rplOn = true) (hs : k.stream = none)
    (hbufs : ∀ x ∈ b.cmp.bufs, x.id ≠ k.surf.id) (hi : k.index < (b.rplChan c).region.getD 1 0) :
    (replayCopyDone c [] b).dramBytes (entryPlace (b.rplChan c).region k.index).2 (b.cmp.region.getD 2 0)
      = b.dramBytes k.surf.data (b.cmp.region.getD 2 0) := by
  have hbytes : b.copyBytes k = b.cmp.region.getD 2 0 := by rw [Block.copyBytes, hs]
  have hdata := b.copied_data k (entryPlace_below hi)
  rw [hbytes] at hdata
  rw [replayCopyDone_eq hk hon, hs]
  generalize entryPlace (b.rplChan c).region k.index = place at *
  obtain ⟨hcmp, hd⟩ := (b.copied k place).entered_keeps c (k.entry place)
  rw [← b.copied_cmp k place, ← hcmp] at hbufs
  generalize (b.copied k place).entered c (k.entry place) = e at *
  have hheld := Block.holdSource_dram false hbufs
  generalize e.holdSource none k.surf.id false = f at *
  obtain ⟨honly, -⟩ := f.rplShow_spec c
  rw [← hdata]
  refine List.map_congr_left fun i _ => ?_
  rw [Block.dramByte, honly.dram, hheld, hd, ← Block.dramByte]

/-! ### O57 -/

theorem Block.settle_cmpState (b : Block) : b.settle.cmpState = b.cmpState := Block.settle_get _ _
theorem Block.settle_band (b : Block) : b.settle.band = b.band := Block.settle_get _ _
theorem Block.settle_rplChan (b : Block) (c : Nat) : b.settle.rplChan c = b.rplChan c := rfl
theorem Block.settle_pair (b : Block) (lo hi : Fld) : b.settle.pair lo hi = b.pair lo hi := by
  rw [Block.pair, Block.settle_get, Block.settle_get, Block.pair]

/-- Settles O57: the begin, the bands and the end of a composition leave CMP's place and STC as told, whatever fronds, write-back and a
takeover do; a copy that ends is an entry of its channel, with the source's bytes. -/
theorem compositionAndReplay : Obligations.CompositionAndReplay := by
  unfold Obligations.CompositionAndReplay
  refine ⟨fun b c hr hn hon hc hm => gives_of_done (t := compositionBegin b) hr (fun _ => rfl) ?_, fun b c m hr hm hs hon hc => ⟨fun h =>
      gives_of_done (t := bandStart b) hr (fun _ => rfl) ?_, fun h => gives_of_done (t := bandStart b) hr (fun _ => rfl) ?_⟩,
    fun b m hr hm hs hon => gives_of_done (t := bandLatestStart b) hr (fun _ => rfl) ?_,
    fun b m missing behind hr hm hs hon hd hn hl => ⟨fun h => gives_of_done (t := bandEmit missing behind b) hr (fun _ => rfl) ?_,
      fun h => gives_of_done (t := bandEmit missing behind b) hr (fun _ => rfl) ?_⟩,
    fun b m missing behind l hr hm hs hon hd hl hmiss hf => gives_of_done (t := bandEmit missing behind b) hr (fun _ => rfl) ?_,
    fun b m hr hm hon => gives_of_done (t := bandDeadlineMiss b) hr (fun _ => rfl) ?_,
    fun b c k place hr hc hlen hk hon hp => ⟨gives_of_done (t := replayCopyDone c [] b) hr (fun _ => rfl) ?_, fun hs hbufs hi =>
      gives_of_done (t := replayCopyDone c [] b) hr (fun _ => rfl) ?_⟩⟩
  · have h := compositionBegin_spec hn hon hc hm
    rw [Block.compTables_stc] at h
    generalize compositionBegin b = t at *
    simp only [Block.settle_cmp, Block.settle_pair, Block.settle_cmpState, Block.settle_band, Block.settle_bit, Block.settle_lnk, Block.settle_stc]
    exact h
  · have k := bandStart_ready hm hs hon (hc ▸ h)
    generalize bandStart b = t at *
    simp only [Block.settle_cmp, Block.settle_cmpState, Block.settle_band]
    exact k
  · have k := bandStart_waits hm hs hon (hc ▸ h)
    generalize bandStart b = t at *
    simp only [Block.settle_cmp, Block.settle_cmpState, Block.settle_band]
    exact k
  · have h := bandLatestStart_spec hm hs hon
    generalize bandLatestStart b = t at *
    simp only [Block.settle_cmp, Block.settle_cmpState, Block.settle_band, Block.settle_stc]
    exact h
  · obtain ⟨k, -⟩ := bandEmit_whole behind hm hs hon hd hl
    have k := k h hn
    generalize bandEmit missing behind b = t at *
    simp only [Block.settle_cmp, Block.settle_cmpState, Block.settle_band, Block.settle_stc]
    exact k
  · obtain ⟨-, k⟩ := bandEmit_whole behind hm hs hon hd hl
    have k := k h
    generalize bandEmit missing behind b = t at *
    simp only [Block.settle_cmp, Block.settle_cmpState, Block.settle_bit, Block.settle_stc]
    exact k
  · have h := bandEmit_late behind hm hs hon hd hl hmiss hf
    generalize bandEmit missing behind b = t at *
    simp only [Block.settle_bit, Block.settle_stc]
    exact h
  · have h := bandDeadlineMiss_spec hm hon
    generalize bandDeadlineMiss b = t at *
    simp only [Block.settle_cmp, Block.settle_cmpState, Block.settle_bit, Block.settle_stc, Block.settle_get]
    exact h
  · have h := replayCopyDone_spec (by omega) hk hon
    rw [← hp] at h
    generalize replayCopyDone c [] b = t at *
    simp only [Block.settle_rplChan, Block.settle_bit]
    exact h
  · have h := replayCopyDone_data hk hon hs hbufs hi
    rw [← hp] at h
    generalize replayCopyDone c [] b = t at *
    rw [Block.settle_dramBytes]
    exact h

end Sys2Proof.Machine
end
